-- ==== Sys2Proof/Word.lean ====
section
/-! DEFINITION. The word types, sparse tables, and the little-endian byte order of R8 (00_scope.md). -/

namespace Sys2Proof

/-- A byte. -/
abbrev Byte := BitVec 8

/-- A 32-bit register word (R42: every register access is a 32-bit access). -/
abbrev Word := BitVec 32

/-- A sparse table of values by key, held as plain data: keys strictly rising, and no entry equal to what an unlisted key
reads as. -/
abbrev Tbl (α : Type) := List (Nat × α)

/-- The little-endian bytes of a number, `n` of them (R8). -/
def leBytes (n : Nat) (v : Nat) : List Byte :=
  match n with
  | 0 => []
  | n + 1 => BitVec.ofNat 8 v :: leBytes n (v / 256)

/-- The number that little-endian bytes spell (R8). -/
def leNat (bs : List Byte) : Nat :=
  match bs with
  | [] => 0
  | b :: rest => b.toNat + 256 * leNat rest

/-- The number that bytes in wire order spell, first byte most significant. -/
def beNat (bs : List Byte) : Nat := leNat bs.reverse

end Sys2Proof
end

