-- ==== Sys2Proof/Syntax.lean ====
section
/-! DEFINITION. The commands of the AX4096: one constructor for each row of spec/opcode_table.json, in the table's order, with the
operands that the environment or the writing software supplies. -/

namespace Sys2Proof

/-- Who issues an access on the interconnect: the initiator number, the district and the Courtyard id of R12, Table 01-2. -/
structure Who where
  initiator : BitVec 5
  district : BitVec 6
  courtyard : BitVec 4
  deriving DecidableEq, Repr

/-- The class of the PAIR_ROLE pin when it is sampled (R458, Table 21-2). -/
inductive Strap where
  | unitA | unitB | shortGnd | open_ | shortBat | outOfBand
  deriving DecidableEq, Repr

/-- Where the supply stands when the supply-loss sequence has ended (R87): at least 9.0 V again, or still below. -/
inductive SupplyBack where
  | back | away
  deriving DecidableEq, Repr

/-- The sources of a wake that is qualified by level (R72): ignition, or a signal pin SP00 to SP15. -/
inductive WakeSource where
  | ign
  | pin (k : Fin 16)
  deriving DecidableEq, Repr

/-- The kinds of an interconnect access (R356, WG_FAULT.KIND): read, write, fetch, AMO or SC. -/
inductive AccessKind where
  | read (bytes : Nat)
  | write
  | fetch (bytes : Nat)
  | amo
  deriving DecidableEq, Repr

/-- What an access meets in its first word besides the errors that stand (R349): nothing, a single-bit or an uncorrectable error, or a parity
error of the L1 instruction line it fetches from. -/
inductive MemErr where
  | none
  | single
  | double
  | parity
  deriving DecidableEq, Repr

/-- What makes a hart inside a Courtyard take an exception (R365 case 1, R366, R369): a guard denial, an illegal instruction, an
ECALL, a nested GATE.CALL, a CSR access that R366 does not allow, or any other exception. -/
inductive CyEvent where
  | denial
  | illegal
  | ecall
  | nestedCall
  | csr (a : BitVec 12)
  | other
  deriving DecidableEq, Repr


/-- The feed faults of Table 11-3. -/
inductive FeedFault where
  | underVoltage | overVoltage | reversed
  deriving DecidableEq, Repr

/-- What wakes a sleeping CAN transceiver (R286): the wake-up pattern, a wake-up frame (words 0 and 1 of Table 12-2 and its data), or the
frame error counter. -/
inductive CanWakeBy where
  | wup
  | wuf (w0 w1 : Word) (data : List Byte)
  | errors
  deriving DecidableEq, Repr

/-- What a core of a locked pair folds for one retired instruction (R325): PC, WB, SA and SD. -/
structure SigRec where
  pc : BitVec 64
  wb : BitVec 64
  sa : BitVec 64
  sd : BitVec 64
  deriving DecidableEq, Repr

/-- The privilege modes of R347. -/
inductive Mode where
  | m | hs | u | vs | vu
  deriving DecidableEq, Repr

/-- What software left in a hart when it executes a gate instruction (R365): the district running, the mode, the PC of the instruction,
the translation registers, and x1 upwards. -/
structure HartCtx where
  district : BitVec 6
  mode : Mode
  pc : BitVec 64
  satp : BitVec 64
  vsatp : BitVec 64
  hgatp : BitVec 64
  x : List (BitVec 64)
  deriving DecidableEq, Repr

/-- How the generation of a Cornerstone ends, where a start runs one (R392): with a marked area, after its restarts with none, or in a loss of
supply before the marker is burned. -/
inductive CsGen where
  | ok
  | fails
  | lost
  deriving DecidableEq, Repr

/-- The tamper events of the start-up (R408): none, one before the town plan gives the policy, or one after it. -/
inductive BootTamper where
  | none
  | beforePlan (src : Fin 5)
  | afterPlan (src : Fin 5)
  deriving DecidableEq, Repr

/-- The AMO*.W operations of RISC-V (R448). -/
inductive AmoOp where
  | swap | add | xor | and | or | min | max | minu | maxu
  deriving DecidableEq, Repr

/-- What an access over the Pair Link does (R444, R447, R448): a read or write of a 32-bit word, an atomic access, a semaphore request or
release. -/
inductive UxOp where
  | read
  | write (w : Word)
  | amo (op : AmoOp) (w : Word)
  | lr
  | sc (w : Word)
  | sem (k : Fin 32)
  | release (k : Fin 32)
  deriving DecidableEq, Repr

/-- The twin's answer to a non-posted access (Table 20-2, R448): a word (of a write, 0), a failed check, or `held`: the semaphore of an
atomic access is held. -/
inductive NpAnswer where
  | word (w : Word)
  | fail (code : BitVec 16)
  | held
  deriving DecidableEq, Repr

/-- A heartbeat (R437). -/
structure Heartbeat where
  role : Bool
  primary : Bool
  sleep : Bool
  supplyLoss : Bool
  strapFault : Bool
  deriving DecidableEq, Repr

/-- What a poll answer tells of a TAKEOVER channel with MODE 0 (R438): the twin's channel, its commanded state, DUTY and PWM_HZ, and
whether it is in Lay-by. -/
structure TwinChan where
  ch : Fin 48
  on : Bool
  duty : BitVec 10
  hz : BitVec 10
  layby : Bool
  deriving DecidableEq, Repr

/-- A poll answer (R438): FAULT_OUT, the device state, UX_LINE.OUT, the channels; and the sequence number up to which the twin has
acknowledged posted writes, if any. -/
structure PollReply where
  faultOut : Bool
  state : BitVec 2
  supplyLoss : Bool
  lines : BitVec 16
  chans : List TwinChan
  acked : Option (BitVec 16)
  deriving DecidableEq, Repr

/-- A wake source and the voltages of its pin, in mV, that were seen (R74, R305). -/
structure WakeEdge where
  src : WakeSource
  mv : List (BitVec 16)
  deriving DecidableEq, Repr

/-- What the ROM meets on its way to the plan: a tamper event, and the state of the first key generation. -/
structure RomPhase where
  tamper : BootTamper
  gen : CsGen
  deriving DecidableEq, Repr

/-- How many ns ago a frame's first bit came; and, on CPA and CPB, the district that owns its queue set. -/
structure Arrival where
  ago : BitVec 32
  set : Fin 64
  deriving DecidableEq, Repr

/-- Of a received line: whether an ECC error broke the packet, and whether a frame end packet follows. -/
structure LineFate where
  ecc : Bool
  fe : Bool
  deriving DecidableEq, Repr

/-- A channel, its current in mA and the current's rise. -/
structure ShortHit where
  n : Fin 52
  ma : Int
  rise : Nat
  deriving DecidableEq, Repr

/-- The DLC and the data of a Curfew frame. -/
structure CurfewBody where
  dlc : Fin 16
  data : List Byte
  deriving DecidableEq, Repr

/-- The data of a LIN response and its checksum. -/
structure LinAnswer where
  data : BitVec 64
  sum : Byte
  deriving DecidableEq, Repr

/-- The data of a memory access, and the error that the memory meets. -/
structure MemItem where
  data : List Byte
  err : MemErr
  deriving DecidableEq, Repr

/-- The commands of the block. -/
inductive Instr where
  /-- POWER_ON_START (R81): The supply rises through the LAMP threshold, Lamplighter starts from ROM and the PAIR_ROLE strap is sampled. -/
  | powerOnStart (strap : Strap) (svc : Bool)
  /-- BROWN_OUT_RESET (R81): The supply falls through the LAMP threshold, the whole device resets and it is Off. -/
  | brownOutReset
  /-- REDUCED_FUNCTION_ENTER (R71): The higher feed stays below 15.5 V for 50 µs, so MIRROR and the UPA, UPB and PLK PHYs are powered off. -/
  | reducedFunctionEnter
  /-- REDUCED_FUNCTION_EXIT (R71): The higher feed stays above 16.0 V for 50 µs, so MIRROR and the 10 Gbit/s PHYs are restored per plan. -/
  | reducedFunctionExit
  /-- SUPPLY_LOSS_SEQUENCE (R87): The feed stays below 8.5 V for 50 µs: channels switch off, the last-words record and log tail are saved to MRAM, and MAIN, NET, MIRROR and PWR power off. -/
  | supplyLossSequence (feedA feedB : BitVec 16) (supply : SupplyBack)
  /-- SUPPLY_RETURN (R71): The supply rises above 9.0 V through MAIN_UV while the device is not Active, and a boot from step 2 follows. -/
  | supplyReturn
  /-- WAKE_QUALIFIED (R72): IGN or a wake pin stays active for 2 LP cycles (or 2 RC samples before LP_OK); the wake is latched and the device starts or is interrupted. -/
  | wakeQualified (edge : WakeEdge)
  /-- WAKE_TIMER_EXPIRY (R93): The LP wake timer reaches COUNT and sets the TIMER wake cause. -/
  | wakeTimerExpiry
  /-- LP_CRYSTAL_SETTLED (R77): The 32.768 kHz crystal settles and AO_STATE.LP_OK reads 1. -/
  | lpCrystalSettled
  /-- BOOT (R83): Once MAIN is powered and its PLLs lock, the boot ROM verifies the bank, the plan loads and Town Hall and the districts start. -/
  | boot (hwrev : BitVec 16) (rom : RomPhase)
  /-- SLEEP_REQUEST (R74): A write of TARGET Parked or Standby to AO_SLEEP starts a sleep request, which then drains the command rings. -/
  | sleepRequest (who : Who) (w : Word)
  /-- SLEEP_COMMIT (R75): The drain ends: channels without SLEEP_HOLD switch off, held channels pass to KH, and the main domains power off. -/
  | sleepCommit
  /-- SLEEP_DRAIN_TIMEOUT (R74): The drain exceeds DRAIN_MS, so the sleep request ends with BUSY and the device stays Active. -/
  | sleepDrainTimeout
  /-- WATCHDOG_KICK (R82): A write of the key to AO_WDT.KICK, or of PERIOD_MS, restarts the watchdog count. -/
  | watchdogKick (who : Who) (w : Word)
  /-- WATCHDOG_EXPIRY (R82): The Lamplighter watchdog expires and the device restarts with channels held in Lay-by. -/
  | watchdogExpiry
  /-- SOFTWARE_DEVICE_RESET (R81): District 0 writes AO_STATE.DEV_RESET and the device restarts as for the watchdog. -/
  | softwareDeviceReset (who : Who) (w : Word)
  /-- BLOCK_POWER_REQUEST (R85): A write to AO_PWR_REQ gates or ungates a block's clock or power, unless the block is essential, reserved or busy. -/
  | blockPowerRequest (who : Who) (w : Word)
  /-- LOG_APPEND (R88): A write to AO_LOG_STAGE word 15 appends the staged 64-byte entry to the log. -/
  | logAppend (who : Who) (w : Word)
  /-- LOG_COMMIT (R88): A staged log event is committed to the MRAM log ring within 1 ms. -/
  | logCommit
  /-- MRAM_DATA_READ (R93): A read of AO_MRAM_DATA returns the MRAM word at the pointer and advances the pointer by 4. -/
  | mramDataRead (who : Who)
  /-- REGISTER_WRITE (R43): A write to a register without a row of its own is checked in the order of Table 03-2 and takes effect as a whole or is recorded as rejected. -/
  | registerWrite (who : Who) (bytes : Nat) (addr : BitVec 34) (w : Word)
  /-- RC_FIELD_READ (R46): A read of an RC field returns its value and then clears it. -/
  | rcFieldRead (who : Who) (bytes : Nat) (addr : BitVec 34)
  /-- COUNTER_LO_READ (R51): A read of the _LO half of a 64-bit counter latches the whole counter into a shadow kept for the reading initiator. -/
  | counterLoRead (who : Who) (bytes : Nat) (addr : BitVec 34)
  /-- DB_SQ_WRITE (R56): A doorbell write advances the submission TAIL, checked against the free ring space, and may start a page-in. -/
  | dbSqWrite (who : Who) (ep : Fin 4096) (w : Word)
  /-- DB_CQ_WRITE (R56): Software advances the completion HEAD, checked against the records written. -/
  | dbCqWrite (who : Who) (ep : Fin 4096) (w : Word)
  /-- DB_ABORT_WRITE (R67): A write to DB_ABORT fetches the already published descriptors and starts an abort of the tagged command; CODE reads BUSY. -/
  | dbAbortWrite (who : Who) (ep : Fin 4096) (w : Word)
  /-- ABORT_DECISION (R66): An abort is decided against the command's commit point, giving CANCELLED or ALREADY_DONE. -/
  | abortDecision (ep : Fin 4096)
  /-- DESCRIPTOR_FETCH (R57): Holding a credit and a free completion entry, the engine fetches a descriptor, checks it and passes it to its target block. -/
  | descriptorFetch (ep : Fin 4096)
  /-- ORDERED_RELEASE (R64): An ORDERED command is passed to its target once every earlier fetched command of the endpoint has completed. -/
  | orderedRelease (ep : Fin 4096) (tag : BitVec 16)
  /-- TIMED_EXECUTE (R65): A held TIMED command reaches its EXEC_TIME and executes, late within LATE_LIMIT or failing with TIMEOUT. -/
  | timedExecute (ep : Fin 4096) (tag : BitVec 16)
  /-- PAGE_IN (R149): An endpoint context is paged into a slot, evicting the least recently used candidate or waiting for one. -/
  | pageIn
  /-- MB_RING (R147): A write to MB_RING sets the district's bit in MB_PENDING and raises notice bit 0 of group 0. -/
  | mbRing (who : Who) (w : Word)
  /-- MAILBOX_REQUEST (R160): Town Hall takes a mailbox request when a response entry is free, checks it, runs it through SYS_EP_CMD and writes the response. -/
  | mailboxRequest (district : Fin 64)
  /-- CREATE_EP (R161): The engine creates an endpoint after checking number, type, rings, binding, shares and pools. -/
  | createEp
  /-- DESTROY_EP (R162): Fetching for the endpoint stops, waiting descriptors are discarded and every command in flight is aborted. -/
  | destroyEp
  /-- DESTROY_EP_RESPONSE (R162): After the last record of a destroyed endpoint, resources return to their pools and the response with its counts is written. -/
  | destroyEpResponse (ep : Fin 4096)
  /-- RESIZE (R163): An endpoint's credit, cell or weight share is changed in one fabric clock, possibly leaving it overdrawn. -/
  | resize
  /-- RESIZE_COMPLETE (R165): The occupancy of an overdrawn endpoint falls within its new share, so OVERDRAWN clears and its SYS_OD_DONE bit sets. -/
  | resizeComplete (ep : Fin 4096)
  /-- QUERY (R476): The engine reports an endpoint's state or the free pools. -/
  | query
  /-- PIN_RESIDENT (R148): An endpoint is pinned in, or unpinned from, its resident slot. -/
  | pinResident
  /-- DISTRICT_RESTART (R167): Town Hall discards the district's mailbox requests, destroys its endpoints, sends its channels to Lay-by and restarts its virtual machine. -/
  | districtRestart (district : Fin 64)
  /-- EP0_RINGS_WRITE (R475): A write to SYS_EP0_RINGS places and enables the rings of endpoint 0 and resets its doorbell registers. -/
  | ep0RingsWrite (who : Who) (high : Bool) (w : Word)
  /-- NET_TX (R154): A NET TX command reads a frame from DRAM and presents it at EPE in its class. -/
  | netTx (ep : Fin 4096) (tag : BitVec 16)
  /-- RX_POST (R155): A NET endpoint posts a receive buffer for a frame. -/
  | rxPost (ep : Fin 4096) (tag : BitVec 16)
  /-- EPE_DELIVERY (R153): A frame admitted for a NET endpoint is written into a posted receive buffer, which completes and releases its cells. -/
  | epeDelivery (ep : Fin 4096)
  /-- TIMER_ARM (R156): A TIMER endpoint arms a timer for EXPIRY. -/
  | timerArm (ep : Fin 4096) (tag : BitVec 16)
  /-- TIMER_EXPIRY (R156): An armed timer reaches EXPIRY and its command completes with DONE. -/
  | timerExpiry (ep : Fin 4096) (tag : BitVec 16)
  /-- FORWARDING_DECISION (R99): A frame received at a port runs the ingress steps of Table 05-2 and enters its queues or is discarded. -/
  | forwardingDecision (p : Fin 24) (data : List Byte) (ended err : Bool) (arr : Arrival)
  /-- FRAME_END_RECEIVED (R120): The last byte of a frame arrives: its FCS is checked and its charge falls to its actual cell count. -/
  | frameEndReceived (p : Fin 24) (rest : List Byte) (err : Bool)
  /-- ROUNDABOUT_MATCH (R107): In each cell time Roundabout runs request, grant and accept, and moves one cell per matched input. -/
  | roundaboutMatch (ecc : List (Fin 24))
  /-- EGRESS_TX_START (R98): An egress port starts transmitting a frame once 2 cells, or the whole short frame, have crossed. -/
  | egressTxStart (p : Fin 24)
  /-- FDB_AGE_OUT (R102): A learned entry without a hit for AGE_S seconds is removed. -/
  | fdbAgeOut (mac : BitVec 48) (vid : BitVec 12)
  /-- PORT_LINK_DOWN (R126): A port's link goes down: it leaves step 9 and its queued copies are flushed as FLUSHED. -/
  | portLinkDown (p : Fin 24)
  /-- LINK_DOWN_FLUSH_END (R126): The link-down flush of a port ends and a returned link may be reported up. -/
  | linkDownFlushEnd (p : Fin 24)
  /-- PORT_LINK_UP (R463): A port's PHY brings its link up. -/
  | portLinkUp (p : Fin 24)
  /-- HASH_MEMBER_REJOIN (R104): A CX group member whose link has been up for FAILBACK_MS rejoins the candidate set. -/
  | hashMemberRejoin (m : Fin 2)
  /-- FDB_LOOKUP (R116): SW_FDB_CMD LOOKUP reports the entry for the key, or FDB_NOT_FOUND. -/
  | fdbLookup (who : Who)
  /-- FDB_DELETE (R103): SW_FDB_CMD DELETE removes a learned entry; a static entry gives PLAN_LOCKED. -/
  | fdbDelete (who : Who)
  /-- FDB_FLUSH_PORT (R103): SW_FDB_CMD FLUSH_PORT sweeps the buckets and removes the port's learned entries. -/
  | fdbFlushPort (who : Who) (p : Fin 32)
  /-- FDB_FLUSH_ALL (R103): SW_FDB_CMD FLUSH_ALL sweeps the buckets and removes every learned entry. -/
  | fdbFlushAll (who : Who)
  /-- MACSEC_SA_LOAD (R114): A write to SW_MS_SA_LOAD installs an SA from the staging words and a Cellar slot. -/
  | macsecSaLoad (who : Who) (m : Fin 3) (w : Word)
  /-- MACSEC_TX_AN_CHANGE (R115): A change of TX_AN switches the transmit SA from the next frame. -/
  | macsecTxAnChange (who : Who) (m : Fin 3) (w : Word)
  /-- AGE_SWEEP (R125): Every 1 ms the sweeper discards head frames that exceed their age limit. -/
  | ageSweep
  /-- GATE_ENTRY_CHANGE (R128): A port's gate list moves to its next entry at the scheduled vehicle time. -/
  | gateEntryChange (p : Fin 24)
  /-- FRER_RECOVERY_RESET (R135): The recovery reset time of a stream expires and its history is reset. -/
  | frerRecoveryReset (handle : BitVec 16)
  /-- SYNC_RECEIVED (R137): A valid gPTP Sync on the slave port corrects vehicle time and moves the time state. -/
  | syncReceived (p : Fin 24) (gm : BitVec 64)
  /-- SYNC_TIMEOUT (R137): No Sync arrives for 3 Sync intervals and the time state enters HOLDOVER. -/
  | syncTimeout
  /-- AS_SYNC_SEND (R137): A master port sends a two-step Sync at each Sync interval. -/
  | asSyncSend (p : Fin 24)
  /-- PDELAY_MEASURE (R137): A port with PDELAY_EN measures its neighbour delay once per second. -/
  | pdelayMeasure (p : Fin 24) (d : BitVec 32)
  /-- GWY_HOLD_EXPIRY (R140): HOLD_US passes since the first packed message and the gateway sends its NTSCF frame. -/
  | gwyHoldExpiry (stream : BitVec 16)
  /-- GWY_NTSCF_RECEIVE (R141): An NTSCF frame reaching GWY is unpacked into the channels' gateway transmit queues. -/
  | gwyNtscfReceive
  /-- STREAM_SELECT (R142): A write to SQ_STREAM_SEL selects the stream shown, or reports STREAM_NOT_FOUND. -/
  | streamSelect (who : Who) (handle : BitVec 16)
  /-- CAMERA_TRIGGER (R173): At C(j) Shopfront sends the camera its frame trigger over the GPIO tunnel. -/
  | cameraTrigger (c : Fin 4)
  /-- CSI2_FRAME_START (R199): A CSI-2 frame start packet arrives and its frame number F is checked. -/
  | csi2FrameStart (c : Fin 4) (f : BitVec 16) (ecc : Bool)
  /-- CAMERA_LINE_RECEIVED (R178): A camera line is written into its ring slot with its arrival time and checked for frame lock, ECC and CRC. -/
  | cameraLineReceived (c : Fin 4) (px : List Byte) (crc : Bool) (fate : LineFate) (ns : BitVec 32)
  /-- CAMERA_LOCK_TIMEOUT (R202): The frame end is missing at E(j, HEIGHT − 1) + 10 µs, a loss of frame lock. -/
  | cameraLockTimeout (c : Fin 4)
  /-- CAMERA_LINK_DOWN (R202): A camera's A-PHY link goes down while RUN is 1. -/
  | cameraLinkDown (c : Fin 4)
  /-- DISPLAY_FRAME_START (R176): At S(k) a display frame starts with sync, pending requests commit and new states take force. -/
  | displayFrameStart (d : Fin 2)
  /-- SLICE_COMPUTE (R179): At D(s) a 16-line slice starts computing, checked for underrun and composed from views, overlays and markers. -/
  | sliceCompute (d : Fin 2) (late : BitVec 4) (room : BitVec 8)
  /-- CAMERA_RUN_WRITE (R184): A write of RUN to SF_CAM_CTRL starts the camera and checks the maps of its views. -/
  | cameraRunWrite (who : Who) (c : Fin 4) (w : Word)
  /-- CAM_I2C_START (R171): A write to SF_CAM_I2C starts an I2C tunnel transaction. -/
  | camI2cStart (who : Who) (c : Fin 4) (w : Word)
  /-- I2C_COMPLETE (R171): An I2C transaction ends with DONE, I2C_NACK or TIMEOUT. -/
  | i2cComplete (c : Fin 4) (result : Fin 3) (data : Byte)
  /-- PAN (R191): A VIEW PAN command sets a pan target, clipped and age-checked. -/
  | pan (ep : Fin 4096) (tag : BitVec 16)
  /-- MAP_SWAP (R192): A VIEW MAP_SWAP command fetches a map into the view's shadow slot. -/
  | mapSwap (ep : Fin 4096) (tag : BitVec 16)
  /-- MAP_SWAP_FETCHED (R192): A fetched swap map is checked and becomes pending, or its command fails. -/
  | mapSwapFetched (d : Fin 2) (v : Fin 4)
  /-- OVL_SET (R190): A VIEW OVL_SET command makes a new overlay image address pending. -/
  | ovlSet (ep : Fin 4096) (tag : BitVec 16)
  /-- TAP (R193): A VIEW TAP command turns the recording tap on or off from the next tap frame. -/
  | tap (ep : Fin 4096) (tag : BitVec 16)
  /-- OVL_BASE_WRITE (R190): A write to SF_OVL_BASE_LO makes an overlay address pending like an OVL_SET. -/
  | ovlBaseWrite (who : Who) (j : Fin 8) (w : Word)
  /-- TAP_CFG_WRITE (R193): A write to SF_TAP_CFG sets the tap handle and PCP, with ON pending like a TAP. -/
  | tapCfgWrite (who : Who) (k : Fin 8) (w : Word)
  /-- DISPLAY_ECHO_RECEIVED (R209): A display's CRC echo arrives and decides MATCH or MISMATCH for its frame, or is ignored. -/
  | displayEchoReceived (d : Fin 2) (frame crc : BitVec 32) (flags resv : BitVec 16) (ns : BitVec 32)
  /-- ECHO_MISSING (R209): No echo for frame k has arrived by S(k + 2), so its outcome is MISSING. -/
  | echoMissing (d : Fin 2)
  /-- CLEAR_LATCH (R210): A write of CLEAR_LATCH releases a latched BLANK while BAD is 0. -/
  | clearLatch (who : Who) (d : Fin 2)
  /-- POC_ON_WRITE (R205): A write to SF_POC.ON switches camera power and clears a latched short on 0 then 1. -/
  | pocOnWrite (who : Who) (c : Fin 4) (w : Word)
  /-- POC_SHORT (R205): Over-current or under-voltage on camera power switches it off and records POC_SHORT. -/
  | pocShort (c : Fin 4)
  /-- POC_RETRY (R205): 1 s after a short, camera power switches on again, up to 3 times. -/
  | pocRetry (c : Fin 4)
  /-- POC_EXTERNAL (R205): The camera output above 14 V switches the supply off and records POC_EXTERNAL. -/
  | pocExternal (c : Fin 4)
  /-- POC_EXTERNAL_CLEAR (R205): After 1 s below 14 V with ON 1, camera power returns. -/
  | pocExternalClear (c : Fin 4)
  /-- POC_OPEN (R205): Camera current below 30 mA for 100 ms records POC_OPEN. -/
  | pocOpen (c : Fin 4) (ma : BitVec 10)
  /-- MONITOR_HEARTBEAT (R211): A write to SF_HEARTBEAT with the next SEQ is accepted and sets FORCE_MARK and FORCE_BLANK. -/
  | monitorHeartbeat (who : Who) (w : Word)
  /-- MONITOR_ABSENT (R212): 500 ms without an accepted heartbeat makes the monitor absent and both displays marked. -/
  | monitorAbsent
  /-- PWR_ON (R222): A PWR ON command switches a channel or gang on, decided by latch, cooling, shed and Lay-by. -/
  | pwrOn (ep : Fin 4096) (tag : BitVec 16)
  /-- PWR_OFF (R222): A PWR OFF command switches a channel off and clears its latch, retry and SHED bit. -/
  | pwrOff (ep : Fin 4096) (tag : BitVec 16)
  /-- PWR_DRIVE (R227): A PWR DRIVE command sets a bridge to coast, forward, reverse or brake at a duty. -/
  | pwrDrive (ep : Fin 4096) (tag : BitVec 16)
  /-- PWR_READ (R233): A PWR READ command writes a 32-byte status, current, temperature and energy sample to DRAM. -/
  | pwrRead (ep : Fin 4096) (tag : BitVec 16)
  /-- WAIT_EVENT (R232): A PWR WAIT_EVENT command waits for the next event of the channel or gang. -/
  | waitEvent (ep : Fin 4096) (tag : BitVec 16)
  /-- CH_CTRL_WRITE (R223): District 0 commands an unheld channel through PD_CH_CTRL as an untimed command. -/
  | chCtrlWrite (who : Who) (n : Fin 52) (w : Word)
  /-- PWM_PERIOD_COMMIT (R220): A changed DUTY or PWM_HZ commits at the start of the next PWM period. -/
  | pwmPeriodCommit (n : Fin 52)
  /-- INRUSH_WINDOW_END (R225): The inrush window ends and its end condition is checked, tripping with INRUSH_FAIL on failure. -/
  | inrushWindowEnd (n : Fin 52) (mv : BitVec 16)
  /-- BRIDGE_BRAKE_END (R227): The 5 ms brake of a bridge reversal ends and the new mode starts. -/
  | bridgeBrakeEnd (k : Fin 4)
  /-- SHORT_CUT (R228): Current above the cut threshold, or a rise faster than DIDT, switches the channel off within 5 µs as a trip. -/
  | shortCut (hit : ShortHit)
  /-- WIRE_MODEL_STEP (R229): Every 100 µs the wire temperature model steps and trips on passing LIMIT. -/
  | wireModelStep
  /-- RETRIED (R231): A cooled channel, 100 ms after its trip, switches on again with its inrush profile. -/
  | retried (n : Fin 52)
  /-- RETRY_COUNT_RESET (R231): After 60 s on without a trip, the retry count returns to 0. -/
  | retryCountReset (n : Fin 52)
  /-- CURRENT_SAMPLE (R234): Every 10 µs each channel and feed is sampled and the energy counters advance. -/
  | currentSample (currents : List (BitVec 16)) (mvA mvB curA curB : BitVec 16)
  /-- HOUSING_MODEL_STEP (R235): Every 100 µs the dissipation and feed filters step and the shed triggers start or end. -/
  | housingModelStep (pElec ambient : BitVec 16)
  /-- SHED_CHECK (R236): Once per second under an active trigger, the lowest shed level is switched off, or STUCK is set. -/
  | shedCheck
  /-- PWR_POWER_UP (R230): At PWR power-up the wire temperatures are restored or started and the housing filters start. -/
  | pwrPowerUp (ambient pElec : BitVec 16)
  /-- HOLD_TRIP (R238): A held channel above its hold current limit for 10 ms is switched off and latched. -/
  | holdTrip (n : Fin 52)
  /-- OPEN_LOAD_ON_WINDOW (R243): Each 100 ms window of judged on-state samples reports or clears OPEN_LOAD_ON. -/
  | openLoadOnWindow (n : Fin 52)
  /-- OFF_STATE_TEST (R244): Every 100 ms an off channel runs the two-phase test for short to battery and open load. -/
  | offStateTest (n : Fin 52) (p1a p1b p2 : BitVec 16)
  /-- REVERSE_CURRENT (R242): Reverse current for 20 µs switches the channel off at SLEW 0 and latches it. -/
  | reverseCurrent (n : Fin 52)
  /-- OVER_TEMP (R242): A junction above 170 °C switches the channel off and latches it with HOT set. -/
  | overTemp (n : Fin 52)
  /-- JUNCTION_COOLED (R246): The junction falls to 140 °C and HOT clears. -/
  | junctionCooled (n : Fin 52)
  /-- FEED_FAULT (R247): A feed under-voltage, over-voltage or reversal for 50 µs switches its outputs off and suspends it. -/
  | feedFault (feed : Fin 2) (kind : FeedFault)
  /-- FEED_RETURN (R248): A suspended feed holds its return condition for 10 ms and returns. -/
  | feedReturn (feed : Fin 2)
  /-- FEED_RETURN_SWITCH_ON (R248): After a feed return, channels commanded ON switch on one every 100 µs in ascending order. -/
  | feedReturnSwitchOn (feed : Fin 2)
  /-- LAYBY_ENTER_DISTRICT (R254): PD_LAYBY_CTRL OP 1 brings a district's channels into Lay-by with cause 5. -/
  | laybyEnterDistrict (who : Who) (d : Fin 64)
  /-- LAYBY_ENTER_ALL (R254): PD_LAYBY_CTRL OP 2 brings all channels into Lay-by with cause 5. -/
  | laybyEnterAll (who : Who) (d : Fin 64)
  /-- LAYBY_RELEASE_DISTRICT (R256): PD_LAYBY_CTRL OP 3 releases a district's channels, skipping cause 4. -/
  | laybyReleaseDistrict (who : Who) (d : Fin 64)
  /-- LAYBY_RELEASE_ALL (R256): PD_LAYBY_CTRL OP 4 releases all channels, skipping cause 4. -/
  | laybyReleaseAll (who : Who) (d : Fin 64)
  /-- CAN_FRAME_RECEIVED (R265): A frame validated on a channel goes to its matching receive buffer or shadow, and to the gateway routes. -/
  | canFrameReceived (k : Fin 8) (w0 w1 : Word) (data : List Byte) (ago : BitVec 32)
  /-- MB_WINDOW_READ (R266): A read of CAN_MB_WIN locks a receive buffer at word 0 and consumes the frame at its last word. -/
  | mbWindowRead (who : Who) (k : Fin 8) (w : Fin 18)
  /-- LOCK_TIMEOUT (R266): A buffer lock held for 100 µs ends without consuming the frame. -/
  | lockTimeout (k : Fin 8)
  /-- MB_SELECT (R266): A write to CAN_MB_SEL selects a buffer and ends any lock held through the window. -/
  | mbSelect (who : Who) (k : Fin 8) (w : Word)
  /-- CAN_TX_OFFER (R267): At intermission or bus idle, the channel offers its highest-priority PENDING frame that the schedule allows. -/
  | canTxOffer (k : Fin 8)
  /-- CAN_TX_COMMIT (R270): A transmission passes its arbitration field without loss, its commit point, and any held abort is decided. -/
  | canTxCommit (k : Fin 8)
  /-- CAN_ARB_LOST (R268): An attempt loses arbitration, using no retransmission. -/
  | canArbLost (k : Fin 8)
  /-- CAN_TX_END (R268): An attempt ends in success or an error, ending the request or using a retransmission. -/
  | canTxEnd (k : Fin 8) (result : Fin 7) (ns : BitVec 32) (tdc : BitVec 8)
  /-- BUS_OFF_RECOVERY (R269): After 128 occurrences of 11 recessive bits the channel leaves bus-off with zeroed counters. -/
  | busOffRecovery (k : Fin 8)
  /-- CAN_MODE_WRITE (R262): A write to CAN_MODE requests OFF, NORMAL or RESTRICTED. -/
  | canModeWrite (who : Who) (k : Fin 8) (w : Word)
  /-- CAN_MODE_CHANGE (R262): A requested mode takes effect at the next bus idle, with its entry effects. -/
  | canModeChange (k : Fin 8)
  /-- MB_TX_REQUEST (R268): CAN_MB_CTRL.TX makes a transmit buffer PENDING. -/
  | mbTxRequest (who : Who) (k : Fin 8) (b : Fin 128)
  /-- MB_CANCEL (R270): CAN_MB_CTRL.CANCEL aborts a transmit request against its commit point. -/
  | mbCancel (who : Who) (k : Fin 8) (b : Fin 128)
  /-- TT_ENABLE (R271): A write of EN 1 to CAN_TT_CFG checks the schedule and starts it, or records the failing item. -/
  | ttEnable (who : Who) (k : Fin 8) (w : Word)
  /-- TT_WINDOW_START (R272): A schedule window starts and the frames it allows may start. -/
  | ttWindowStart (k : Fin 8) (cycle : Fin 16) (window : Fin 64)
  /-- TT_WINDOW_MISSED (R273): An exclusive window ends without a successful attempt and counts as missed. -/
  | ttWindowMissed (k : Fin 8) (cycle : Fin 16) (window : Fin 64)
  /-- REF_LOST (R275): No reference message arrives within 1.1 × CYCLE_US and SYNC clears. -/
  | refLost (k : Fin 8)
  /-- CAN_SETUP (R279): A CAN SETUP command configures a bound buffer's direction, retry, repeat and filter. -/
  | canSetup (ep : Fin 4096) (tag : BitVec 16)
  /-- CAN_TX (R279): A CAN TX command copies a frame image into a buffer and requests its transmission. -/
  | canTx (ep : Fin 4096) (tag : BitVec 16)
  /-- CAN_RX (R279): A CAN RX command waits for a new frame in a bound buffer. -/
  | canRx (ep : Fin 4096) (tag : BitVec 16)
  /-- CAN_STATE (R279): A CAN STATE command writes the channel's error state and counters to DRAM. -/
  | canState (ep : Fin 4096) (tag : BitVec 16)
  /-- TRANSCEIVER_FAILSAFE (R284): A transceiver without a heartbeat for 2 s falls to SLEEP with a wake armed and sets FS. -/
  | transceiverFailsafe (k : Fin 8)
  /-- TRX_SLEEP_WRITE (R283): A write of NM_TRX_CTRL.SLEEP puts a channel's transceiver to SLEEP or NORMAL. -/
  | trxSleepWrite (who : Who) (k : Fin 8) (w : Word)
  /-- CAN_WAKE (R286): A sleeping transceiver detects WUP, a matching WUF or the error-counter wake and the medium wakes. -/
  | canWake (k : Fin 8) (how : CanWakeBy)
  /-- T1S_WAKE (R287): A T1S detector sees 500 µs of activity and the segment wakes. -/
  | t1sWake (k : Fin 2)
  /-- CURFEW_FRAME_RECEIVED (R290): A Curfew frame is validated and updates PRESENT, READY, the token and the medium state. -/
  | curfewFrameReceived (m : Fin 10) (src : BitVec 48) (body : CurfewBody)
  /-- CURFEW_RING_TIMER (R293): RING_T expires with the token held and the node sends a bell or a RING frame to its successor. -/
  | curfewRingTimer (m : Fin 10)
  /-- CURFEW_SKIP_TIMEOUT (R293): SKIP_T expires without a frame from the addressed node, which is removed and skipped. -/
  | curfewSkipTimeout (m : Fin 10)
  /-- CURFEW_RING_LOST (R293): No RING frame is seen for ERROR_T and the node starts again. -/
  | curfewRingLost (m : Fin 10)
  /-- CURFEW_SEND_FAIL (R291): A Curfew send fails and the medium enters LIMP. -/
  | curfewSendFail (m : Fin 10)
  /-- CURFEW_FRAME_SENT (R291): A Curfew frame is validated on the bus, and a LIMP frame sent returns the medium to RING. -/
  | curfewFrameSent (m : Fin 10)
  /-- CURFEW_LIMP_SEND (R293): Every ERROR_T a medium in LIMP sends a LIMP frame. -/
  | curfewLimpSend (m : Fin 10)
  /-- CURFEW_LIMP_SLEEP (R293): In LIMP, CONSENT held for a whole ERROR_T without WAKE moves the medium to WAIT_SLEEP. -/
  | curfewLimpSleep (m : Fin 10)
  /-- CONSENT_WRITE (R296): A write to NM_RING_CTRL sets CONSENT, and a fall withdraws consent with a WAKE frame. -/
  | consentWrite (who : Who) (r : Fin 10) (w : Word)
  /-- CURFEW_COMMIT (R296): WBS_T expires, the commit point, and the medium enters BUS_SLEEP with its wake armed. -/
  | curfewCommit (m : Fin 10)
  /-- ETH_SLEEP_REQUEST (R299): NM_ETH_CTRL OP 1 starts a TC10 sleep request on a port. -/
  | ethSleepRequest (who : Who) (p : Fin 24)
  /-- ETH_WAKE_REQUEST (R300): NM_ETH_CTRL OP 2 cancels a pending sleep or wakes the port. -/
  | ethWakeRequest (who : Who) (p : Fin 24)
  /-- ETH_LOW_POWER_ENTRY (R299): The port enters the TC10 low-power state and the sleep completes. -/
  | ethLowPowerEntry (p : Fin 24)
  /-- ETH_SLEEP_TIMEOUT (R299): A sleep request not entered within 20 ms ends with SLEEP_REFUSED. -/
  | ethSleepTimeout (p : Fin 24)
  /-- ETH_REMOTE_SLEEP (R298): The link partner requests sleep, which is accepted or refused by ACCEPT_REMOTE. -/
  | ethRemoteSleep (p : Fin 24)
  /-- ETH_WAKE_DETECT (R300): A wake from the partner is detected, forwarded to FWD ports and latched as ETH_WAKE. -/
  | ethWakeDetect (p : Fin 24)
  /-- ETH_WAKE_NO_LINK (R300): The link is not up 500 ms after a wake, giving WAKE_NO_LINK. -/
  | ethWakeNoLink (p : Fin 24)
  /-- SWITCH_INPUT_SAMPLE (R304): Every 100 µs a switch input is classed by band and debounced, and its faults reported. -/
  | switchInputSample (n : Fin 64) (mv : BitVec 16)
  /-- ANALOG_UPDATE (R306): Every 1 ms an analog input takes the mean of 8 conversions and checks its band. -/
  | analogUpdate (n : Fin 64) (conv : List (BitVec 12))
  /-- ANALOG_OPEN_TEST (R306): Once per second an analog input runs its pull-up test for an open wire. -/
  | analogOpenTest (n : Fin 64) (rise : BitVec 16)
  /-- FREQ_EDGE (R307): A falling edge on a FREQ_IN pin updates its frequency and ends any line test. -/
  | freqEdge (n : Fin 64) (interval : BitVec 32)
  /-- FREQ_TIMEOUT (R307): No edge for TIMEOUT ms sets VALUE to 0 and starts the line tests. -/
  | freqTimeout (n : Fin 64)
  /-- FREQ_LINE_TEST (R307): Every 100 ms without edges the pull-up and pull-down test classes the line. -/
  | freqLineTest (n : Fin 64) (up down : BitVec 16)
  /-- PIN_OVERCURRENT (R308): An output above 0.75 A for 10 µs is switched off and latched. -/
  | pinOvercurrent (n : Fin 64)
  /-- PIN_OVERTEMP (R308): An output junction above 170 °C is switched off and latched. -/
  | pinOvertemp (n : Fin 64)
  /-- OUTPUT_LINE_TEST (R309): Every 100 ms an off output runs its pull-up test for open and short to ground. -/
  | outputLineTest (n : Fin 64) (mv : BitVec 16)
  /-- OUTPUT_OPEN_LOAD (R309): An on output below 5 mA for 100 ms reports OPEN. -/
  | outputOpenLoad (n : Fin 64)
  /-- PIN_OUT_WRITE (R308): District 0 writes PIN_OUT, committing an untimed SET of an unheld output. -/
  | pinOutWrite (who : Who) (n : Fin 64) (w : Word)
  /-- PIN_SET (R316): A PIN SET command switches a low-side output or sets its PWM duty. -/
  | pinSet (ep : Fin 4096) (tag : BitVec 16)
  /-- PIN_READ (R316): A PIN READ command writes the pin status and a time stamp to DRAM. -/
  | pinRead (ep : Fin 4096) (tag : BitVec 16)
  /-- WAIT_CHANGE (R316): A PIN WAIT_CHANGE command waits for the next change of value or fault. -/
  | waitChange (ep : Fin 4096) (tag : BitVec 16)
  /-- LIN_START (R314): LIN_SCHED OP 1 starts a table or makes a switch pending, if the table fits. -/
  | linStart (ep : Fin 4096) (tag : BitVec 16)
  /-- LIN_STOP (R316): LIN_SCHED OP 2 stops the schedule at the next slot start. -/
  | linStop (ep : Fin 4096) (tag : BitVec 16)
  /-- LIN_SLEEP (R315): LIN_SCHED OP 3 requests go-to-sleep at the next slot start. -/
  | linSleep (ep : Fin 4096) (tag : BitVec 16)
  /-- LIN_WAKE (R315): LIN_SCHED OP 4 sends a 1 ms wake pulse from SLEEP. -/
  | linWake (ep : Fin 4096) (tag : BitVec 16)
  /-- LIN_PUT (R313): A LIN_PUT command writes the data of a published frame. -/
  | linPut (ep : Fin 4096) (tag : BitVec 16)
  /-- LIN_GET (R316): A LIN_GET command waits for the next reception of a subscribed frame. -/
  | linGet (ep : Fin 4096) (tag : BitVec 16)
  /-- LIN_SLOT_START (R313): A schedule slot starts and the master sends its header, after committing any pending switch, stop or sleep. -/
  | linSlotStart (l : Fin 4)
  /-- LIN_RESPONSE_RECEIVED (R313): A subscribed response with a valid checksum is stored in LIN_DATA. -/
  | linResponseReceived (l : Fin 4) (answer : LinAnswer)
  /-- LIN_FRAME_TIMEOUT (R313): At the end of the maximum frame time a missing or bad response counts as NO_RESPONSE or CHECKSUM. -/
  | linFrameTimeout (l : Fin 4) (bitErr : Bool)
  /-- LIN_WAKE_SEEN (R315): A dominant phase of at least 150 µs in SLEEP counts as WAKE_SEEN. -/
  | linWakeSeen (l : Fin 4)
  /-- LIN_WAKE_RESTART (R315): 100 ms after a wake pulse the table that ran before the sleep restarts from slot 0. -/
  | linWakeRestart (l : Fin 4)
  /-- GATED_STORE (R329): A locked pair's store into a gated range retires into the release gate and closes its window. -/
  | gatedStore (who : Who) (addr : BitVec 34) (data : List Byte) (amo : Bool)
  /-- WINDOW_CLOSE (R327): A signature window closes by count, cycles, a gated store or a split, and the Bollards compare it. -/
  | windowClose (p : Fin 4) (lead chk : List SigRec) (aWrong bWrong : Bool)
  /-- DELAY_PARITY (R323): A parity error in a delay register is a fault of the pair. -/
  | delayParity (p : Fin 4)
  /-- BOLLARD_SELF_TEST (R333): Every 10 ms both Bollards are tested with a matching and a bit-flipped signature. -/
  | bollardSelfTest (aWrong bWrong : Bool)
  /-- SPLIT (R341): CP_PAIR_CTRL OP SPLIT closes the window and starts splitting the pair. -/
  | split (who : Who) (p : Fin 4)
  /-- SPLIT_DONE (R341): The checker is cleared and starts at CP_ENTRY, and the pair is SPLIT. -/
  | splitDone (p : Fin 4)
  /-- LOCK (R342): CP_PAIR_CTRL OP LOCK parks both cores and starts locking the pair. -/
  | lock (who : Who) (p : Fin 4)
  /-- LOCK_DONE (R342): The leader state is copied to the checker, both resume and the pair is LOCKED. -/
  | lockDone (p : Fin 4)
  /-- PAIR_RESTART (R339): CP_PAIR_CTRL OP RESTART resets both cores of a faulted pair. -/
  | pairRestart (who : Who) (p : Fin 4)
  /-- PAIR_RESTART_DONE (R339): The restarted pair starts at CP_ENTRY in its INIT state. -/
  | pairRestartDone (p : Fin 4)
  /-- BIST (R338): CP_PAIR_CTRL OP BIST starts a built-in test of a faulted pair's delay registers. -/
  | bist (who : Who) (p : Fin 4)
  /-- BIST_DONE (R338): The BIST ends with CORE or DELAY, degrading the pair on DELAY. -/
  | bistDone (p : Fin 4) (delay : Bool)
  /-- FAULT_OUT_ASSERT (R337): A write of CP_FAULT_OUT.ASSERT asserts FAULT_OUT. -/
  | faultOutAssert (who : Who)
  /-- FAULT_OUT_RELEASE (R337): A write of CP_FAULT_OUT.RELEASE releases FAULT_OUT while no pair is in FAULT. -/
  | faultOutRelease (who : Who)
  /-- GATE_CALL (R365): GATE.CALL enters a Courtyard gate, saving state and starting the budget, or returns a code in a0. -/
  | gateCall (core : Fin 8) (insn : Word) (ctx : HartCtx)
  /-- GATE_RET (R367): GATE.RET, the commit point of a call, restores the caller's state and returns. -/
  | gateRet (core : Fin 8) (a0 a1 : BitVec 64)
  /-- COURTYARD_BUDGET_EXPIRY (R369): The budget timer reaches BUDGET and the call is ended by force; the Courtyard is FAILED. -/
  | courtyardBudgetExpiry (core : Fin 8)
  /-- COURTYARD_EXCEPTION (R369): An exception inside a Courtyard ends the call with COURTYARD_FAULT; the Courtyard is FAILED. -/
  | courtyardException (core : Fin 8) (why : CyEvent)
  /-- MEMORY_ACCESS (R356): An interconnect access to DRAM, SRAM or flash is checked by the region guards and served or denied. -/
  | memoryAccess (who : Who) (kind : AccessKind) (addr : BitVec 64) (item : MemItem)
  /-- PATROL_SCRUB (R351): The scrubber reads and corrects SRAM and DRAM words in the background. -/
  | patrolScrub (addr : BitVec 34) (err : Fin 3)
  /-- BANK_POWER_WRITE (R354): A write to WG_BANK_PWR powers general SRAM banks off or on, unless a Courtyard covers them. -/
  | bankPowerWrite (who : Who) (w : Word)
  /-- RESERVE (R372): A Courtyard reserves a block so that it cannot be gated. -/
  | reserve (who : Who) (block : BitVec 4)
  /-- RESERVATION_RELEASE (R372): A Courtyard releases its reservation of a block. -/
  | reservationRelease (who : Who) (block : BitVec 4)
  /-- COALESCE_TIMEOUT (R382): TIME_US passes after a source's first event and it becomes PENDING if still asserted. -/
  | coalesceTimeout (n : Fin 512)
  /-- SOURCE_LEVEL_FALL (R383): The level of a pending source falls before the claim and the source returns to IDLE. -/
  | sourceLevelFall (n : Fin 512)
  /-- CLAIM (R385): A read of IC_CLAIM by its target returns and claims the highest offered source. -/
  | claim (who : Who) (t : Fin 9)
  /-- COMPLETE (R386): A write to IC_COMPLETE ends a claim and resamples the source level. -/
  | complete (who : Who) (t : Fin 9) (source : BitVec 9) (spurious : Bool)
  /-- SRC_CFG_WRITE (R383): A write to IC_SRC_CFG changes targets and priority and re-chooses the delivery target. -/
  | srcCfgWrite (who : Who) (n : Fin 512) (w : Word)
  /-- TARGET_CTRL_WRITE (R383): A write to IC_TARGET_CTRL changes AWAKE, MEIP or THRESHOLD, re-choosing offers. -/
  | targetCtrlWrite (who : Who) (t : Fin 9) (w : Word)
  /-- ENC (R401): A KEY ENC command encrypts data under a slot with the counter construction. -/
  | enc (ep : Fin 4096) (tag : BitVec 16)
  /-- DEC (R401): A KEY DEC command decrypts data under a slot. -/
  | dec (ep : Fin 4096) (tag : BitVec 16)
  /-- MAC_GEN (R401): A KEY MAC_GEN command computes a CMAC or HMAC. -/
  | macGen (ep : Fin 4096) (tag : BitVec 16)
  /-- MAC_VERIFY (R401): A KEY MAC_VERIFY command compares a tag, giving DONE or AUTH_FAIL. -/
  | macVerify (ep : Fin 4096) (tag : BitVec 16)
  /-- SIGN (R401): A KEY SIGN command signs a digest with ECDSA P-256. -/
  | sign (ep : Fin 4096) (tag : BitVec 16)
  /-- VERIFY (R401): A KEY VERIFY command verifies an ECDSA signature. -/
  | verify (ep : Fin 4096) (tag : BitVec 16)
  /-- DERIVE (R402): A KEY DERIVE command replaces a target slot with a KDF-derived key. -/
  | derive (ep : Fin 4096) (tag : BitVec 16)
  /-- WRAP (R402): A KEY WRAP command exports a slot as a wrap blob. -/
  | wrap (ep : Fin 4096) (tag : BitVec 16)
  /-- UNWRAP (R402): A KEY UNWRAP command checks a wrap blob and replaces a target slot. -/
  | unwrap (ep : Fin 4096) (tag : BitVec 16)
  /-- ATTEST (R405): A KEY ATTEST command writes an HMAC over the nonce, measurement, count and serial number. -/
  | attest (ep : Fin 4096) (tag : BitVec 16)
  /-- UNLOCK (R411): A KEY UNLOCK command checks a token and, on a match, erases the tamper block and reloads every slot. -/
  | unlock (ep : Fin 4096) (tag : BitVec 16)
  /-- PROVISION (R402): A KEY PROVISION command writes a plain record into a slot while provisioning is open. -/
  | provision (ep : Fin 4096) (tag : BitVec 16)
  /-- KEY_OP_COMPLETE (R404): A Cellar operation finishes and writes its result. -/
  | keyOpComplete (ep : Fin 4096) (tag : BitVec 16)
  /-- SLOT_REPLACE_COMMIT (R400): The programming of the last TAG byte of a shadow record ends and the new key is in force. -/
  | slotReplaceCommit (slot : Fin 128) (bad : Bool)
  /-- WORKING_KEY_CHECK (R399): Every 10 ms each working key's CMAC is recomputed, and a failing slot is wiped and marked bad. -/
  | workingKeyCheck (upset : List (Fin 128))
  /-- TAMPER_EVENT (R407): A tamper source in Active aborts operations before their commit points and, under FULL, wipes the working keys. -/
  | tamperEvent (src : Fin 5)
  /-- SLEEP_TAMPER_LATCH (R409): A tamper in Parked or Standby is latched with its time and wakes the device. -/
  | sleepTamperLatch (src : Fin 5)
  /-- TAMPER_RECORD_WRITE (R410): Cellar writes the pending tamper record to the flash tamper block within 50 ms. -/
  | tamperRecordWrite
  /-- PROV_LOCK (R414): A write of the key to KS_PROV_LOCK burns the OTP provisioning lock. -/
  | provLock (who : Who) (w : Word)
  /-- APPLY (R424): UP_CMD APPLY rebuilds the inactive bank from a delta, section by section. -/
  | apply (who : Who) (clr : Bool)
  /-- APPLY_COMMIT (R425): The bank header is programmed last, the bank is STAGED and the update class is set. -/
  | applyCommit
  /-- UPDATE_ABORT (R425): UP_CMD ABORT cancels an apply or pending activation before its commit point. -/
  | updateAbort (who : Who) (clr : Bool)
  /-- ACTIVATE_NOW (R429): UP_CMD ACTIVATE_NOW arms the trial and restarts the management plane or the device. -/
  | activateNow (who : Who) (clr : Bool) (mismatch : BitVec 4)
  /-- ACTIVATE_AT (R431): UP_CMD ACTIVATE_AT makes an activation pending at vehicle time UP_TIME. -/
  | activateAt (who : Who) (clr : Bool)
  /-- ACTIVATE_AT_COMMIT (R431): Vehicle time reaches UP_TIME and the pending activation restarts the unit. -/
  | activateAtCommit (mismatch : BitVec 4)
  /-- CONFIRM (R428): UP_CMD CONFIRM clears the trial, makes the bank CONFIRMED and raises the floor. -/
  | confirm (who : Who) (clr : Bool)
  /-- HEARTBEAT_SEND (R437): Every 1 ms each unit sends an Underpass heartbeat over PLK. -/
  | heartbeatSend
  /-- HEARTBEAT_RECEIVED (R437): A twin heartbeat is checked for validity and updates CONFLICT and the twin state. -/
  | heartbeatReceived (hb : Heartbeat)
  /-- TWIN_LOST (R441): No valid heartbeat for 3 ms: the twin is lost, bridge accesses end and takeover may be decided. -/
  | twinLost
  /-- SIDEBAND_POLL (R438): Every 50 µs each unit polls its twin's side-band state. -/
  | sidebandPoll
  /-- POLL_ANSWER (R438): A poll answer updates UX_TWIN and may decide a takeover. -/
  | pollAnswer (reply : PollReply)
  /-- APERTURE_ACCESS (R442): An access to an outbound aperture is sent to the twin as a non-posted access or a posted doorbell write. -/
  | apertureAccess (who : Who) (bytes : Nat) (op : UxOp) (addr : BitVec 34)
  /-- NON_POSTED_ANSWER (R444): The twin's answer completes a waiting non-posted access. -/
  | nonPostedAnswer (k : Fin 16) (answer : NpAnswer)
  /-- NON_POSTED_TIMEOUT (R444): No answer 4 µs after issue ends the access with LINK_LOST. -/
  | nonPostedTimeout (k : Fin 16)
  /-- INBOUND_REQUEST (R443): An inbound request from the twin is checked against the permits and issued as initiator 0x0F. -/
  | inboundRequest (district : BitVec 6) (op : UxOp) (addr : BitVec 34) (posted : Option (BitVec 16))
  /-- INBOUND_TIMEOUT (R443): An inbound request not issued within 3 µs is discarded and answered with TIMEOUT. -/
  | inboundTimeout (posted : Option (BitVec 16))
  /-- POSTED_ERROR_RECEIVED (R445): An error message for a failed posted write is recorded in UX_ERR. -/
  | postedErrorReceived (seq code : BitVec 16)
  /-- SEM_REQUEST (R447): A read of UX_SEM requests a local semaphore, giving DONE, BUSY or RETRY. -/
  | semRequest (who : Who) (k : Fin 32) (rival : Option (BitVec 6))
  /-- TWIN_SEM_REQUEST (R447): A read of UX_TSEM requests a semaphore of the twin as a non-posted access. -/
  | twinSemRequest (who : Who) (k : Fin 32)
  /-- SEM_RELEASE (R447): A write of RELEASE by the holder releases a semaphore. -/
  | semRelease (who : Who) (k : Fin 32) (far : Bool)
  /-- LR_HOLD_EXPIRY (R448): A semaphore held by a bridged LR is released 10 µs after the LR. -/
  | lrHoldExpiry (k : Fin 32)
  /-- ATOMIC_RETRY (R448): A bridged atomic access that found its semaphore held is retried every 1 µs. -/
  | atomicRetry (k : Fin 16)
  /-- TAKEOVER_COMMIT (R449): A secondary channel enters TAKEN and applies the primary's last commanded state. -/
  | takeoverCommit (n : Fin 48)
  /-- HANDBACK (R450): A write of UX_TAKEOVER.HANDBACK switches a taken channel off and returns it to STANDBY. -/
  | handback (who : Who) (n : Fin 48)
  /-- H25_PIN_IMBALANCE (R455): An H25 pin below 30 % of the channel current for 1 s is reported OPEN. -/
  | h25PinImbalance (k : Fin 8) (a b : BitVec 16)
  /-- IGN_LINE_DIAG (R457): IGN is classed for short to ground or open wire over 100 ms. -/
  | ignLineDiag (mv : Int)
  /-- PAIR_ROLE_MONITOR (R458): The PAIR_ROLE pin class is monitored in Active and reported. -/
  | pairRoleMonitor (mv : Int)
  /-- FAULT_OUT_LINE_DIAG (R460): The FAULT_OUT switch is diagnosed for open, short to battery and short to ground. -/
  | faultOutLineDiag (ua : BitVec 32) (mv : Int)
  /-- FAULT_OUT_SHORT_RETRY (R460): 1 s after a short to battery the FAULT_OUT switch conducts again. -/
  | faultOutShortRetry
  /-- DISPLAY_LINE_CLASSIFY (R462): Every 100 ms each display coax line is classed by its bias voltage. -/
  | displayLineClassify (d : Fin 2) (mv : Int)
  /-- ETH_WIRE_DIAG (R463): An Ethernet wire below 0.5 V or above 6.0 V for 1 ms is reported. -/
  | ethWireDiag (p : Fin 24) (a b : Int)
  /-- ETH_CABLE_TEST (R463): Every 1 s with the link down the PHY tests the cable for an open. -/
  | ethCableTest (p : Fin 24) (openLine : Bool)
  /-- CAN_WIRE_DIAG (R468): CAN wires are classed for short to ground, short to battery and open from bus samples. -/
  | canWireDiag (k : Fin 8) (high low : Int) (openLoad : Bool)
  /-- CAN_RECEIVE_ERROR (R269): A channel detects a stuff, form, CRC or bit error while receiving another node's frame, sends its error flag and updates REC, its error state and its error counters. -/
  | canReceiveError (k : Fin 8) (kind : Fin 7) (eight : Bool)
  /-- DRBG_HEALTH_CHANGE (R393): The health tests of the entropy source start or stop failing, changing KS_STATUS.DRBG_OK and whether operations that need random data complete with CELLAR_UNAVAILABLE. -/
  | drbgHealthChange (ok : Bool)
  /-- APPLY_FAILURE (R424): An apply in progress meets a broken chain, a bad record, a read-back mismatch or a bad target header and ends with its code, leaving the inactive bank INVALID. -/
  | applyFailure (mismatch : Bool) (sec : BitVec 16) (pos : Word)
  /-- EGRESS_TX_END (R143): An egress port finishes sending a frame, with its FCS or a stomped FCS, counting TX_FRAMES and TX_OCTETS and leaving the port idle. -/
  | egressTxEnd (p : Fin 24)
  /-- MACSEC_SA_LOAD_DONE (R114): An SA load completes within 20 µs, RESULT leaves BUSY, and a receive SA applies to frames parsed from then on. -/
  | macsecSaLoadDone (m : Fin 3)
  /-- CAMERA_LINK_UP (R171): A camera's A-PHY link comes up, SF_CAM_STATUS.LINK reads 1, and I2C transactions and line reception become possible. -/
  | cameraLinkUp (c : Fin 4)
  /-- DISPLAY_LINK_DOWN (R209): A display's A-PHY link goes down, SF_DSP_STATUS.LINK reads 0, and every frame then yields MISSING. -/
  | displayLinkDown (d : Fin 2)
  /-- DISPLAY_LINK_UP (R209): A display's A-PHY link comes up, SF_DSP_STATUS.LINK reads 1, and echoes can arrive again. -/
  | displayLinkUp (d : Fin 2)
  /-- SELECTIVE_WAKE_FRAME (R286): A sleeping transceiver decodes a frame that does not wake it and moves its frame error counter up for an error or down for a valid frame. -/
  | selectiveWakeFrame (k : Fin 8) (err : Bool)
  deriving DecidableEq, Repr

end Sys2Proof
end

