-- ==== Sys2Proof/Decode.lean ====
section
/-! DEFINITION. The command that a word spells by the table's bits. -/

namespace Sys2Proof

/-- No row of the opcode table gives bits: a command comes as a command, with its operands beside it, and no word spells one.
[Assumption 3: DESIGN CHOICE, unsafe.] -/
def decodeTableWord (_nbits _w : Nat) : Option Instr := none

end Sys2Proof
end

