-- ==== Sys2Proof/Config.lean ====
section
/-! DEFINITION. What the spec leaves to cryptography, to physics or open: constants without a body, so that nothing can be proved of
their values. -/

namespace Sys2Proof

/-- The free values, one for each draw of the model's counter `State.fresh`: what the spec leaves open and the machine goes on with.
[Assumption 6: DESIGN CHOICE, safe.] -/
opaque Config.free : Nat → Nat

/-- How far a slew of Table 10-3 lies from its nominal value, within ±20 % (R219), for a channel and a local time. -/
opaque Config.slewTol : Nat → Nat → Nat

/-- The Roundabout weight of a queue set of CPA or CPB (R108), by port and owning district, which nothing in the spec gives.
[Assumption 64: DEDUCED, unsafe.] -/
opaque Config.dmaWeight : Nat → Nat → Nat

/-- AES-GCM encryption (R113; NIST SP 800-38D): key, IV, additional data, plaintext; the ciphertext and its 16-byte tag.
[Assumption 36: DESIGN CHOICE, safe.] -/
opaque Config.gcmSeal : List Byte → List Byte → List Byte → List Byte → List Byte

/-- AES-GCM decryption: key, IV, additional data, ciphertext and tag; the plaintext where the tag holds.
[Assumption 36: DESIGN CHOICE, safe.] -/
opaque Config.gcmOpen : List Byte → List Byte → List Byte → List Byte → Option (List Byte)

/-- SHA-256 (FIPS 180-4). [Assumption 36: DESIGN CHOICE, safe.] -/
opaque Config.sha256 : List Byte → List Byte

/-- How R183 rounds a value that lies halfway between two integers: the spec says to nearest, and no more.
[Assumption 101: DESIGN CHOICE, safe.] -/
opaque Config.halfUp : Bool

/-- Where sample `n` of the recording tap lies in the view, in 16.16 pixels (R193): for chroma or luma, a number of view pixels and a
number of samples across them. The spec gives a bilinear scaling and not its sample positions. [Assumption 113: PRESUMED, safe.] -/
opaque Config.tapPos : Bool → Nat → Nat → Nat → Nat

/-- The colour space code of the Raw Video Format header (R193; IEEE 1722-2016). [Assumption 113: PRESUMED, safe.] -/
opaque Config.rvfSpace : Nat

/-- CODE of a TX on a REPEAT buffer whose first attempt loses arbitration, which R279 leaves open. [Assumption 136: DEDUCED, unsafe.] -/
opaque Config.repeatLost : BitVec 16

/-- The contents of the boot ROM (Table 01-6), which the spec does not give. [Assumption 37: DESIGN CHOICE, safe.] -/
opaque Config.rom : Nat → Byte

/-- AES (FIPS 197): byte `i` of the encryption of a 16-byte block under a key. [Assumption 36: DESIGN CHOICE, safe.] -/
opaque Config.aes : List Byte → List Byte → Nat → Byte

/-- ECDSA over P-256 with SHA-256 (FIPS 186-5): byte `i` of the signature r ‖ s of a digest under a private key with a random number.
[Assumption 36: DESIGN CHOICE, safe.] -/
opaque Config.ecdsaSign : List Byte → List Byte → Nat → Nat → Byte

/-- The verification of r ‖ s over a digest under a public key x ‖ y. [Assumption 36: DESIGN CHOICE, safe.] -/
opaque Config.ecdsaVerify : List Byte → List Byte → List Byte → Bool

/-- Byte `i` of the public point x ‖ y of a private key. [Assumption 36: DESIGN CHOICE, safe.] -/
opaque Config.ecdsaPublic : List Byte → Nat → Byte

/-- The 16 bytes of the serial number in OTP (R394, UP_SERIAL). [Assumption 37: DESIGN CHOICE, safe.] -/
opaque Config.serial : Nat → Byte

/-- The 64 bytes of the factory public key that the boot ROM holds (R26, R417). [Assumption 37: DESIGN CHOICE, safe.] -/
opaque Config.factoryKey : Nat → Byte

/-- Town Hall's entry in the image set with this header (R321); none for the recovery plan without a bank.
[Assumption 98: DEDUCED, unsafe.] -/
opaque Config.townEntry : List Byte → BitVec 64

/-- The SHA-256 of the built-in recovery plan (R38), whose bit-stream the spec does not give whole.
[Assumption 37: DESIGN CHOICE, safe.] -/
opaque Config.recoveryDigest : Nat → Byte


end Sys2Proof
end

