-- ==== Sys2Proof/Machine/Codes.lean ====
section
/-! DEFINITION. The status codes: the common codes of Table 03-3 (R49) and the block codes of R10, each as its chapter lists it. -/

namespace Sys2Proof.Machine

/-- 0x0100: a reserved header byte, 0x2C to 0x3F, is non-zero. -/
def Code.RESERVED_BIT : Nat := 0x0100
/-- 0x0101: a field of the header or of an item outside its stated range. -/
def Code.OUT_OF_RANGE : Nat := 0x0101
/-- 0x0302: the signature does not verify. -/
def Code.AUTH_FAIL : Nat := 0x0302
/-- 0x0303: EPOCH below the floor. -/
def Code.VERSION_DOWN : Nat := 0x0303
/-- 0x0301: slot KEYSLOT fails its integrity tag. -/
def Code.SLOT_BAD : Nat := 0x0301
/-- 0x0304: slot KEYSLOT empty, or without VERIFY and ALG 4. -/
def Code.CELLAR_UNAVAILABLE : Nat := 0x0304
/-- 0x1100: MAGIC or FORMAT wrong. -/
def Code.BAD_MAGIC : Nat := 0x1100
/-- 0x1101: PART is not 0x4096. -/
def Code.WRONG_PART : Nat := 0x1101
/-- 0x1102: hardware revision outside HWREV_MIN to HWREV_MAX. -/
def Code.WRONG_REVISION : Nat := 0x1102
/-- 0x1103: LENGTH outside 64 to 262,144, a stored plan other than LENGTH + 64 bytes, or LENGTH, SECTIONS, BYTES or ITEMS inconsistent with the bit-stream. -/
def Code.BAD_LENGTH : Nat := 0x1103
/-- 0x1104: a section TYPE not in Table 02-2, or section order or repetition breaks R27. -/
def Code.BAD_SECTION_ORDER : Nat := 0x1104
/-- 0x1105: a required section is absent. -/
def Code.MISSING_SECTION : Nat := 0x1105
/-- 0x1106: item type foreign to its section, wrong LEN, non-zero reserved bytes or padding in an item, or a non-zero reserved byte in a section header. -/
def Code.BAD_ITEM : Nat := 0x1106
/-- 0x1107: two items configure the same object. -/
def Code.DUPLICATE_ITEM : Nat := 0x1107
/-- 0x1108: MATRIX is not 0x0000_0001. -/
def Code.MATRIX_REVISION : Nat := 0x1108
/-- 0x0000: the operation completed. -/
def Code.DONE : Nat := 0x0000
/-- 0x0001: the operation is accepted and completes later with its own record. -/
def Code.ACCEPTED : Nat := 0x0001
/-- 0x0102: a value is outside its envelope, or the district is not named in it. -/
def Code.OUT_OF_ENVELOPE : Nat := 0x0102
/-- 0x0103: the target is not in a state that accepts the request. -/
def Code.WRONG_STATE : Nat := 0x0103
/-- 0x0104: the requester lacks the right to the register, endpoint or object. -/
def Code.NOT_OWNER : Nat := 0x0104
/-- 0x0105: the request would change structure or a reserved share. -/
def Code.PLAN_LOCKED : Nat := 0x0105
/-- 0x0106: the target is occupied by an earlier request of the same kind. -/
def Code.BUSY : Nat := 0x0106
/-- 0x0107: a pool, credit or slot is exhausted. -/
def Code.NO_RESOURCE : Nat := 0x0107
/-- 0x0108: an access size or alignment is wrong. -/
def Code.BAD_SIZE : Nat := 0x0108
/-- 0x0109: the target is reserved by a Courtyard. -/
def Code.SECURE_RESERVED : Nat := 0x0109
/-- 0x010A: the address decodes to no register. -/
def Code.RESERVED_ADDRESS : Nat := 0x010A
/-- 0x0200: an abort took effect before the commit point, and the operation had no effect. -/
def Code.CANCELLED : Nat := 0x0200
/-- 0x0201: an abort came after the commit point, or found no command with its tag. -/
def Code.ALREADY_DONE : Nat := 0x0201
/-- 0x0202: a time limit expired, and the operation had no effect. -/
def Code.TIMEOUT : Nat := 0x0202
/-- 0x0203: the request lost a contention and may be reissued. -/
def Code.RETRY : Nat := 0x0203
/-- 0x0204: data carried an uncorrectable error or a poison marker. -/
def Code.POISONED : Nat := 0x0204
/-- 0x0300: a tamper event aborted or refused the operation. -/
def Code.TAMPER : Nat := 0x0300
/-- 0x1200: a wake was qualified before the sleep commit point. -/
def Code.WAKE_PENDING : Nat := 0x1200
/-- 0x1201: Parked or the wake timer was requested while AO_STATE.LP_OK is 0. -/
def Code.LP_NOT_READY : Nat := 0x1201
/-- 0x1202: a gate was requested for blocks 0x00 to 0x07. -/
def Code.ESSENTIAL_BLOCK : Nat := 0x1202
/-- 0x1000: a mailbox SEQ not later than the last taken. -/
def Code.STALE_SEQ : Nat := 0x1000
/-- 0x1001: the endpoint number is in use. -/
def Code.EP_EXISTS : Nat := 0x1001
/-- 0x1002: the endpoint does not exist. -/
def Code.EP_ABSENT : Nat := 0x1002
/-- 0x1003: a received frame was longer than its buffer. -/
def Code.RX_TOO_LONG : Nat := 0x1003
/-- 0x1004: no copy of a TX frame was admitted. -/
def Code.TX_DISCARDED : Nat := 0x1004
/-- 0x1A00: map header, length or CRC wrong. -/
def Code.MAP_FORMAT : Nat := 0x1A00
/-- 0x1A01: map dimensions differ from the view or camera. -/
def Code.MAP_SHAPE : Nat := 0x1A01
/-- 0x1A02: a vertex lies outside the camera image. -/
def Code.MAP_RANGE : Nat := 0x1A02
/-- 0x1A03: a slice's source span exceeds SPAN. -/
def Code.MAP_SPAN : Nat := 0x1A03
/-- 0x1A04: a slice's source lines arrive after its compute start. -/
def Code.MAP_LATE : Nat := 0x1A04
/-- 0x1A05: a display line would have a line age above 3.2 ms. -/
def Code.MAP_OLD : Nat := 0x1A05
/-- 0x1A06: a source line would be overwritten before its slice is computed. -/
def Code.MAP_OVERRUN : Nat := 0x1A06
/-- 0x1A07: camera FPS differs from display HZ. -/
def Code.RATE_MISMATCH : Nat := 0x1A07
/-- 0x1A08: the pan measurement is too old or older than the target in force. -/
def Code.PAN_STALE : Nat := 0x1A08
/-- 0x1A09: a later request of the same kind took the request's place. -/
def Code.SF_SUPERSEDED : Nat := 0x1A09
/-- 0x1A0A: overlay header wrong. -/
def Code.OVL_FORMAT : Nat := 0x1A0A
/-- 0x1A0B: the camera did not acknowledge an I2C transaction. -/
def Code.I2C_NACK : Nat := 0x1A0B
/-- 0x1A0C: the camera link went down while running. -/
def Code.CAM_LINK : Nat := 0x1A0C
/-- 0x1A0D: frame lock was lost. -/
def Code.CAM_LOCK : Nat := 0x1A0D
/-- 0x1A0E: a packet header was uncorrectable or foreign. -/
def Code.CSI2_ECC : Nat := 0x1A0E
/-- 0x1A0F: payload CRC errors occurred in two consecutive frames. -/
def Code.CSI2_BAD_LINES : Nat := 0x1A0F
/-- 0x1A10: the frame number stalled or ran ahead. -/
def Code.FRAME_NUMBER : Nat := 0x1A10
/-- 0x1A11: the camera supply was shorted to ground. -/
def Code.POC_SHORT : Nat := 0x1A11
/-- 0x1A12: the camera supply has an open wire. -/
def Code.POC_OPEN : Nat := 0x1A12
/-- 0x1A13: the camera supply was shorted to battery. -/
def Code.POC_EXTERNAL : Nat := 0x1A13
/-- 0x1B00: a cut under R228. -/
def Code.SHORT_CUT : Nat := 0x1B00
/-- 0x1B01: the wire model passed LIMIT. -/
def Code.WIRE_TRIP : Nat := 0x1B01
/-- 0x1B02: the end condition of the inrush window failed. -/
def Code.INRUSH_FAIL : Nat := 0x1B02
/-- 0x1B03: the channel was shed. -/
def Code.SHED : Nat := 0x1B03
/-- 0x1B04: the channel was switched on by a retry. -/
def Code.RETRIED : Nat := 0x1B04
/-- 0x1B05: the channel is latched. -/
def Code.CH_LATCHED : Nat := 0x1B05
/-- 0x1B06: the channel is cooling before a retry. -/
def Code.CH_COOLING : Nat := 0x1B06
/-- 0x1B07: an ON was refused while its level is shed. -/
def Code.SHED_ACTIVE : Nat := 0x1B07
/-- 0x1B08: a held channel exceeded its hold current limit. -/
def Code.HOLD_TRIP : Nat := 0x1B08
/-- 0x1B09: open load in the on state. -/
def Code.OPEN_LOAD_ON : Nat := 0x1B09
/-- 0x1B0A: open load in the off state. -/
def Code.OPEN_LOAD_OFF : Nat := 0x1B0A
/-- 0x1B0B: short to battery in the off state. -/
def Code.SHORT_TO_BAT : Nat := 0x1B0B
/-- 0x1B0C: reverse current switched the channel off. -/
def Code.REVERSE_CURRENT : Nat := 0x1B0C
/-- 0x1B0D: the output switch overheated, or an ON came while it was hot. -/
def Code.OVER_TEMP : Nat := 0x1B0D
/-- 0x1B0E: the channel's feed is under-voltage. -/
def Code.FEED_UV : Nat := 0x1B0E
/-- 0x1B0F: the channel's feed is over-voltage. -/
def Code.FEED_OV : Nat := 0x1B0F
/-- 0x1B10: the channel's feed is reversed. -/
def Code.FEED_REVERSE : Nat := 0x1B10
/-- 0x1B11: a command from an endpoint older than the Lay-by was refused. -/
def Code.LAYBY_ACTIVE : Nat := 0x1B11
/-- 0x1B12: the channel entered Lay-by. -/
def Code.LAYBY_ENTERED : Nat := 0x1B12
/-- 0x1E00: open wire or open load. -/
def Code.PIN_OPEN : Nat := 0x1E00
/-- 0x1E01: line shorted to ground. -/
def Code.PIN_SHORT_GND : Nat := 0x1E01
/-- 0x1E02: line shorted to battery. -/
def Code.PIN_SHORT_BAT : Nat := 0x1E02
/-- 0x1E03: output cut above 0.75 A. -/
def Code.PIN_OVERCURRENT : Nat := 0x1E03
/-- 0x1E04: output switch overheated. -/
def Code.PIN_OVERTEMP : Nat := 0x1E04
/-- 0x1E05: a table slot is shorter than its frame. -/
def Code.LIN_SLOT_SHORT : Nat := 0x1E05
/-- 0x1E06: a frame's response was missing or incomplete. -/
def Code.LIN_NO_RESPONSE : Nat := 0x1E06
/-- 0x1E07: a frame's checksum was wrong. -/
def Code.LIN_CHECKSUM : Nat := 0x1E07
/-- 0x1E08: a later table switch took the place of a pending one under R314. -/
def Code.LIN_SUPERSEDED : Nat := 0x1E08
/-- 0x1400: the signatures of a window differed. -/
def Code.SIG_MISMATCH : Nat := 0x1400
/-- 0x1401: a delay register failed its parity. -/
def Code.DELAY_PARITY : Nat := 0x1401
/-- 0x1402: the Bollards disagreed, or a self-test failed. -/
def Code.CHECKER_FAULT : Nat := 0x1402
/-- 0x1403: a split pair stored into its district's gated range. -/
def Code.UNGATED_WRITE : Nat := 0x1403
/-- 0x1404: an AMO or SC addressed a gated range. -/
def Code.GATED_AMO : Nat := 0x1404
/-- 0x1405: locked operation is no longer possible. -/
def Code.PAIR_DEGRADED : Nat := 0x1405
/-- 0x1500: no region passed the access. -/
def Code.REGION_DENIED : Nat := 0x1500
/-- 0x1501: the gate entry does not begin with GATE.LAND. -/
def Code.GATE_NO_LAND : Nat := 0x1501
/-- 0x1502: an exception ended a Courtyard call. -/
def Code.COURTYARD_FAULT : Nat := 0x1502
/-- 0x1503: the access reached a powered-off SRAM bank. -/
def Code.BANK_OFF : Nat := 0x1503
/-- 0x1600: the new key does not match its KCV. -/
def Code.KCV_MISMATCH : Nat := 0x1600
/-- 0x1601: the slot's usage or algorithm does not permit the operation. -/
def Code.KEY_USAGE : Nat := 0x1601
/-- 0x1602: PROVISION while provisioning is locked, or from a district other than 0. -/
def Code.PROV_CLOSED : Nat := 0x1602
/-- 0x1700: a bank header, directory or delta header breaks its layout. -/
def Code.IMAGE_FORMAT : Nat := 0x1700
/-- 0x1701: the delta belongs to another source bank. -/
def Code.SOURCE_MISMATCH : Nat := 0x1701
/-- 0x1702: a section hash does not match. -/
def Code.CHAIN_BROKEN : Nat := 0x1702
/-- 0x1703: a record breaks R423. -/
def Code.BAD_RECORD : Nat := 0x1703
/-- 0x1704: a restart came before CONFIRM. -/
def Code.TRIAL_REVERTED : Nat := 0x1704
/-- 0x1705: the plan of the trial bank was rejected. -/
def Code.PLAN_REJECTED : Nat := 0x1705
/-- 0x1706: ACTIVATE AT outside START_UP, TEST or recovery. -/
def Code.NOT_STATIONARY : Nat := 0x1706
/-- 0x1F00: the link was down or the twin not ACTIVE at issue. -/
def Code.LINK_DOWN : Nat := 0x1F00
/-- 0x1F01: no answer came within 4 µs; a write may have taken effect. -/
def Code.LINK_LOST : Nat := 0x1F01
/-- 0x1F02: no inbound permit admitted the access. -/
def Code.NO_PERMIT : Nat := 0x1F02
/-- 0x1F03: both units claim the same role or PRIMARY. -/
def Code.ROLE_CONFLICT : Nat := 0x1F03
/-- 0x1800: a LOOKUP or DELETE finds no entry (R116). -/
def Code.FDB_NOT_FOUND : Nat := 0x1800
/-- 0x1900: SQ_STREAM_SEL names a handle that no STREAM item carries (R142). -/
def Code.STREAM_NOT_FOUND : Nat := 0x1900
/-- 0x1C00: the retry limit is reached (R280). -/
def Code.CAN_FAILED : Nat := 0x1C00
/-- 0x1C01: R270, R280. -/
def Code.CANCELLED_AFTER_ERROR : Nat := 0x1C01
/-- 0x1D00: R299, R301. -/
def Code.SLEEP_REFUSED : Nat := 0x1D00
/-- 0x1D01: R300, R301. -/
def Code.WAKE_NO_LINK : Nat := 0x1D01
/-- Legality rule Ln fails with this code (Table 02-4, R35). -/
def Code.LEGALITY (n : Nat) : Nat := 0x1140 + n

end Sys2Proof.Machine
end

