-- ==== Sys2Proof/Machine/Fields.lean ====
section
/-! DEFINITION. Fields of a register word: their bits, reading and writing them. -/

namespace Sys2Proof.Machine

/-- A field of a register: the register's address and the field's bits `[hi:lo]`, as the register tables give them. -/
structure Fld where
  addr : Nat
  hi : Nat
  lo : Nat
  deriving DecidableEq, Repr

/-- The bits `[hi:lo]` of a number. -/
def getBits (w hi lo : Nat) : Nat := (w >>> lo) % 2 ^ (hi + 1 - lo)

/-- The number with its bits `[hi:lo]` replaced by `v`. -/
def putBits (w hi lo v : Nat) : Nat :=
  (w % 2 ^ lo) + (((v % 2 ^ (hi + 1 - lo)) + ((w >>> (hi + 1)) <<< (hi + 1 - lo))) <<< lo)

/-- A two's-complement number of `n` bits. -/
def signed (n v : Nat) : Int :=
  if v % 2 ^ n < 2 ^ (n - 1) then ((v % 2 ^ n : Nat) : Int) else ((v % 2 ^ n : Nat) : Int) - ((2 ^ n : Nat) : Int)

/-- The `n` bits of an integer in two's complement. -/
def unsignedOf (n : Nat) (i : Int) : Nat := (i % ((2 ^ n : Nat) : Int)).toNat

end Sys2Proof.Machine
end

