-- ==== Sys2Proof/Machine/Regs.lean ====
section
/-! DEFINITION. The names of the registers (`Rg`) and of their fields (`Fd`), each with the address and the bits that the
register tables of the chapters give (R10, R11, R18, R40, R48, R55, R93, R118, R143, R146, R169, R196, R215, R240, R258, R282,
R302, R318, R346, R376, R390, R414, R433, R453, R474). -/

namespace Sys2Proof.Machine


/-! ### 02_town_plan.md -/

/-- `TP_STATUS`, R40. -/
def Rg.TP_STATUS : Nat := 0x20010000
def Fd.TP_STATUS_ENV_ONLY : Fld := ⟨0x20010000, 3, 3⟩
def Fd.TP_STATUS_BANK : Fld := ⟨0x20010000, 2, 2⟩
def Fd.TP_STATUS_STATE : Fld := ⟨0x20010000, 1, 0⟩
/-- `TP_FAIL`, R40. -/
def Rg.TP_FAIL : Nat := 0x20010004
def Fd.TP_FAIL_RULE : Fld := ⟨0x20010004, 21, 16⟩
def Fd.TP_FAIL_CODE : Fld := ⟨0x20010004, 15, 0⟩
/-- `TP_FAIL_LOC`, R40. -/
def Rg.TP_FAIL_LOC : Nat := 0x20010008
def Fd.TP_FAIL_LOC_BANK : Fld := ⟨0x20010008, 24, 24⟩
def Fd.TP_FAIL_LOC_ITEM : Fld := ⟨0x20010008, 23, 8⟩
def Fd.TP_FAIL_LOC_SECTION : Fld := ⟨0x20010008, 7, 0⟩
/-- `TP_VERSION`, R40. -/
def Rg.TP_VERSION : Nat := 0x2001000C
def Fd.TP_VERSION_VERSION : Fld := ⟨0x2001000C, 31, 0⟩
/-- `TP_EPOCH`, R40. -/
def Rg.TP_EPOCH : Nat := 0x20010010
def Fd.TP_EPOCH_FLOOR : Fld := ⟨0x20010010, 25, 16⟩
def Fd.TP_EPOCH_EPOCH : Fld := ⟨0x20010010, 9, 0⟩
/-- `TP_DIGEST`, R40. -/
def Rg.TP_DIGEST (k : Nat) : Nat := 0x20010020 + 0x4 * k
def Fd.TP_DIGEST_DIGEST (k : Nat) : Fld := ⟨0x20010020 + 0x4 * k, 31, 0⟩

/-! ### 03_registers_and_commands.md -/

/-- `LAST_REJECT`, R48. -/
def Rg.LAST_REJECT (n : Nat) : Nat := 0x2000FFF0 + 0x10000 * n
def Fd.LAST_REJECT_VALID (n : Nat) : Fld := ⟨0x2000FFF0 + 0x10000 * n, 31, 31⟩
def Fd.LAST_REJECT_OVERWRITE (n : Nat) : Fld := ⟨0x2000FFF0 + 0x10000 * n, 30, 30⟩
def Fd.LAST_REJECT_DISTRICT (n : Nat) : Fld := ⟨0x2000FFF0 + 0x10000 * n, 29, 24⟩
def Fd.LAST_REJECT_INITIATOR (n : Nat) : Fld := ⟨0x2000FFF0 + 0x10000 * n, 23, 19⟩
def Fd.LAST_REJECT_WRITE (n : Nat) : Fld := ⟨0x2000FFF0 + 0x10000 * n, 18, 18⟩
def Fd.LAST_REJECT_ADDR_HI (n : Nat) : Fld := ⟨0x2000FFF0 + 0x10000 * n, 17, 16⟩
def Fd.LAST_REJECT_CODE (n : Nat) : Fld := ⟨0x2000FFF0 + 0x10000 * n, 15, 0⟩
/-- `LAST_REJECT_ADDR`, R48. -/
def Rg.LAST_REJECT_ADDR (n : Nat) : Nat := 0x2000FFF4 + 0x10000 * n
def Fd.LAST_REJECT_ADDR_ADDR (n : Nat) : Fld := ⟨0x2000FFF4 + 0x10000 * n, 31, 0⟩
/-- `REJECT_CTRL`, R48. -/
def Rg.REJECT_CTRL (n : Nat) : Nat := 0x2000FFF8 + 0x10000 * n
def Fd.REJECT_CTRL_IRQ_EN (n : Nat) : Fld := ⟨0x2000FFF8 + 0x10000 * n, 0, 0⟩
/-- `DB_SQ`, R55. -/
def Rg.DB_SQ (n : Nat) : Nat := 0x21000000 + 0x1000 * n
def Fd.DB_SQ_HEAD (n : Nat) : Fld := ⟨0x21000000 + 0x1000 * n, 31, 16⟩
def Fd.DB_SQ_TAIL (n : Nat) : Fld := ⟨0x21000000 + 0x1000 * n, 15, 0⟩
/-- `DB_CQ`, R55. -/
def Rg.DB_CQ (n : Nat) : Nat := 0x21000004 + 0x1000 * n
def Fd.DB_CQ_TAIL (n : Nat) : Fld := ⟨0x21000004 + 0x1000 * n, 31, 16⟩
def Fd.DB_CQ_HEAD (n : Nat) : Fld := ⟨0x21000004 + 0x1000 * n, 15, 0⟩
/-- `DB_ABORT`, R55. -/
def Rg.DB_ABORT (n : Nat) : Nat := 0x21000008 + 0x1000 * n
def Fd.DB_ABORT_CODE (n : Nat) : Fld := ⟨0x21000008 + 0x1000 * n, 31, 16⟩
def Fd.DB_ABORT_TAG (n : Nat) : Fld := ⟨0x21000008 + 0x1000 * n, 15, 0⟩
/-- `DB_STATUS`, R55. -/
def Rg.DB_STATUS (n : Nat) : Nat := 0x2100000C + 0x1000 * n
def Fd.DB_STATUS_OVERDRAWN (n : Nat) : Fld := ⟨0x2100000C + 0x1000 * n, 19, 19⟩
def Fd.DB_STATUS_RESIDENT (n : Nat) : Fld := ⟨0x2100000C + 0x1000 * n, 18, 18⟩
def Fd.DB_STATUS_STALL_CQ (n : Nat) : Fld := ⟨0x2100000C + 0x1000 * n, 17, 17⟩
def Fd.DB_STATUS_STALL_CREDIT (n : Nat) : Fld := ⟨0x2100000C + 0x1000 * n, 16, 16⟩
def Fd.DB_STATUS_NOTICE (n : Nat) : Fld := ⟨0x2100000C + 0x1000 * n, 15, 15⟩
def Fd.DB_STATUS_INFLIGHT (n : Nat) : Fld := ⟨0x2100000C + 0x1000 * n, 13, 0⟩

/-! ### 04_power_states_and_startup.md -/

/-- `AO_STATE`, R93. -/
def Rg.AO_STATE : Nat := 0x20020000
def Fd.AO_STATE_DEV_RESET : Fld := ⟨0x20020000, 31, 31⟩
def Fd.AO_STATE_FIRST_START : Fld := ⟨0x20020000, 3, 3⟩
def Fd.AO_STATE_LP_OK : Fld := ⟨0x20020000, 2, 2⟩
def Fd.AO_STATE_REDUCED : Fld := ⟨0x20020000, 1, 1⟩
/-- `AO_WAKE_CAUSE`, R93. -/
def Rg.AO_WAKE_CAUSE : Nat := 0x20020004
def Fd.AO_WAKE_CAUSE_POWER_ON : Fld := ⟨0x20020004, 31, 31⟩
def Fd.AO_WAKE_CAUSE_TAMPER : Fld := ⟨0x20020004, 30, 30⟩
def Fd.AO_WAKE_CAUSE_SUPPLY_RETURN : Fld := ⟨0x20020004, 29, 29⟩
def Fd.AO_WAKE_CAUSE_TIMER : Fld := ⟨0x20020004, 28, 28⟩
def Fd.AO_WAKE_CAUSE_IGN : Fld := ⟨0x20020004, 27, 27⟩
def Fd.AO_WAKE_CAUSE_T1S : Fld := ⟨0x20020004, 25, 24⟩
def Fd.AO_WAKE_CAUSE_CAN : Fld := ⟨0x20020004, 23, 16⟩
def Fd.AO_WAKE_CAUSE_SP : Fld := ⟨0x20020004, 15, 0⟩
/-- `AO_RESET_CAUSE`, R93. -/
def Rg.AO_RESET_CAUSE : Nat := 0x20020008
def Fd.AO_RESET_CAUSE_WAKE : Fld := ⟨0x20020008, 7, 7⟩
def Fd.AO_RESET_CAUSE_ACTIVATE : Fld := ⟨0x20020008, 6, 6⟩
def Fd.AO_RESET_CAUSE_SUPPLY_LOSS : Fld := ⟨0x20020008, 5, 5⟩
def Fd.AO_RESET_CAUSE_SWRST : Fld := ⟨0x20020008, 4, 4⟩
def Fd.AO_RESET_CAUSE_LWDT : Fld := ⟨0x20020008, 3, 3⟩
def Fd.AO_RESET_CAUSE_BOR : Fld := ⟨0x20020008, 2, 2⟩
def Fd.AO_RESET_CAUSE_POR : Fld := ⟨0x20020008, 1, 1⟩
/-- `AO_SLEEP`, R93. -/
def Rg.AO_SLEEP : Nat := 0x2002000C
def Fd.AO_SLEEP_RESULT : Fld := ⟨0x2002000C, 31, 16⟩
def Fd.AO_SLEEP_DRAIN_MS : Fld := ⟨0x2002000C, 15, 8⟩
def Fd.AO_SLEEP_TARGET : Fld := ⟨0x2002000C, 1, 0⟩
/-- `AO_WAKE_TIMER`, R93. -/
def Rg.AO_WAKE_TIMER : Nat := 0x20020010
def Fd.AO_WAKE_TIMER_COUNT : Fld := ⟨0x20020010, 31, 0⟩
/-- `AO_WDT`, R93. -/
def Rg.AO_WDT : Nat := 0x20020014
def Fd.AO_WDT_KICK : Fld := ⟨0x20020014, 31, 16⟩
def Fd.AO_WDT_PERIOD_MS : Fld := ⟨0x20020014, 15, 0⟩
/-- `AO_PWR_REQ`, R93. -/
def Rg.AO_PWR_REQ : Nat := 0x20020018
def Fd.AO_PWR_REQ_RESULT : Fld := ⟨0x20020018, 31, 16⟩
def Fd.AO_PWR_REQ_ACTION : Fld := ⟨0x20020018, 9, 8⟩
def Fd.AO_PWR_REQ_BLOCK : Fld := ⟨0x20020018, 7, 0⟩
/-- `AO_MRAM_PTR`, R93. -/
def Rg.AO_MRAM_PTR : Nat := 0x20020020
def Fd.AO_MRAM_PTR_OFFSET : Fld := ⟨0x20020020, 19, 2⟩
/-- `AO_MRAM_DATA`, R93. -/
def Rg.AO_MRAM_DATA : Nat := 0x20020024
def Fd.AO_MRAM_DATA_DATA : Fld := ⟨0x20020024, 31, 0⟩
/-- `AO_LOG_STAGE`, R93. -/
def Rg.AO_LOG_STAGE (k : Nat) : Nat := 0x20020040 + 0x4 * k
def Fd.AO_LOG_STAGE_WORD (k : Nat) : Fld := ⟨0x20020040 + 0x4 * k, 31, 0⟩

/-! ### 05_switch_fabric.md -/

/-- `SW_CTRL`, R118. -/
def Rg.SW_CTRL : Nat := 0x20080000
def Fd.SW_CTRL_AGE_S : Fld := ⟨0x20080000, 31, 12⟩
def Fd.SW_CTRL_ITER : Fld := ⟨0x20080000, 1, 0⟩
/-- `SW_HASH_CFG`, R118. -/
def Rg.SW_HASH_CFG : Nat := 0x20080004
def Fd.SW_HASH_CFG_CAND_UPB : Fld := ⟨0x20080004, 17, 17⟩
def Fd.SW_HASH_CFG_CAND_UPA : Fld := ⟨0x20080004, 16, 16⟩
def Fd.SW_HASH_CFG_FAILBACK_MS : Fld := ⟨0x20080004, 15, 0⟩
/-- `SW_PORT_CFG`, R118. -/
def Rg.SW_PORT_CFG (p : Nat) : Nat := 0x20080100 + 0x4 * p
def Fd.SW_PORT_CFG_MAXLEN (p : Nat) : Fld := ⟨0x20080100 + 0x4 * p, 31, 16⟩
def Fd.SW_PORT_CFG_LEARN (p : Nat) : Fld := ⟨0x20080100 + 0x4 * p, 4, 4⟩
def Fd.SW_PORT_CFG_HASH_GROUP (p : Nat) : Fld := ⟨0x20080100 + 0x4 * p, 3, 3⟩
def Fd.SW_PORT_CFG_MACSEC (p : Nat) : Fld := ⟨0x20080100 + 0x4 * p, 2, 2⟩
def Fd.SW_PORT_CFG_CT_IN (p : Nat) : Fld := ⟨0x20080100 + 0x4 * p, 1, 1⟩
def Fd.SW_PORT_CFG_ENABLE (p : Nat) : Fld := ⟨0x20080100 + 0x4 * p, 0, 0⟩
/-- `SW_PORT_STATUS`, R118. -/
def Rg.SW_PORT_STATUS (p : Nat) : Nat := 0x20080180 + 0x4 * p
def Fd.SW_PORT_STATUS_PVID (p : Nat) : Fld := ⟨0x20080180 + 0x4 * p, 27, 16⟩
def Fd.SW_PORT_STATUS_RATE (p : Nat) : Fld := ⟨0x20080180 + 0x4 * p, 3, 1⟩
def Fd.SW_PORT_STATUS_LINK (p : Nat) : Fld := ⟨0x20080180 + 0x4 * p, 0, 0⟩
/-- `SW_FDB_KEY_LO`, R118. -/
def Rg.SW_FDB_KEY_LO : Nat := 0x20080200
def Fd.SW_FDB_KEY_LO_MAC_LO : Fld := ⟨0x20080200, 31, 0⟩
/-- `SW_FDB_KEY_HI`, R118. -/
def Rg.SW_FDB_KEY_HI : Nat := 0x20080204
def Fd.SW_FDB_KEY_HI_VID : Fld := ⟨0x20080204, 27, 16⟩
def Fd.SW_FDB_KEY_HI_MAC_HI : Fld := ⟨0x20080204, 15, 0⟩
/-- `SW_FDB_CMD`, R118. -/
def Rg.SW_FDB_CMD : Nat := 0x20080208
def Fd.SW_FDB_CMD_RESULT : Fld := ⟨0x20080208, 31, 16⟩
def Fd.SW_FDB_CMD_PORT : Fld := ⟨0x20080208, 12, 8⟩
def Fd.SW_FDB_CMD_OP : Fld := ⟨0x20080208, 2, 0⟩
/-- `SW_FDB_RESULT`, R118. -/
def Rg.SW_FDB_RESULT : Nat := 0x2008020C
def Fd.SW_FDB_RESULT_VALID : Fld := ⟨0x2008020C, 31, 31⟩
def Fd.SW_FDB_RESULT_STATIC : Fld := ⟨0x2008020C, 30, 30⟩
def Fd.SW_FDB_RESULT_AGE : Fld := ⟨0x2008020C, 29, 28⟩
def Fd.SW_FDB_RESULT_PORTS : Fld := ⟨0x2008020C, 23, 0⟩
/-- `SW_FDB_STATS`, R118. -/
def Rg.SW_FDB_STATS : Nat := 0x20080210
def Fd.SW_FDB_STATS_MOVE : Fld := ⟨0x20080210, 31, 16⟩
def Fd.SW_FDB_STATS_LEARN_EVICT : Fld := ⟨0x20080210, 15, 0⟩
/-- `SW_EVENT`, R118. -/
def Rg.SW_EVENT (p : Nat) (c : Nat) : Nat := 0x20080400 + 0x40 * p + 0x4 * c
def Fd.SW_EVENT_COUNT (p : Nat) (c : Nat) : Fld := ⟨0x20080400 + 0x40 * p + 0x4 * c, 31, 0⟩
/-- `SW_EVENT_SAT`, R118. -/
def Rg.SW_EVENT_SAT (p : Nat) : Nat := 0x20080A00 + 0x4 * p
def Fd.SW_EVENT_SAT_IE (p : Nat) : Fld := ⟨0x20080A00 + 0x4 * p, 31, 16⟩
def Fd.SW_EVENT_SAT_SAT (p : Nat) : Fld := ⟨0x20080A00 + 0x4 * p, 15, 0⟩
/-- `SW_MS_CTRL`, R118. -/
def Rg.SW_MS_CTRL (m : Nat) : Nat := 0x20081000 + 0x100 * m
def Fd.SW_MS_CTRL_TX_AN (m : Nat) : Fld := ⟨0x20081000 + 0x100 * m, 2, 1⟩
def Fd.SW_MS_CTRL_EN (m : Nat) : Fld := ⟨0x20081000 + 0x100 * m, 0, 0⟩
/-- `SW_MS_REPLAY`, R118. -/
def Rg.SW_MS_REPLAY (m : Nat) : Nat := 0x20081004 + 0x100 * m
def Fd.SW_MS_REPLAY_WINDOW (m : Nat) : Fld := ⟨0x20081004 + 0x100 * m, 31, 0⟩
/-- `SW_MS_TXPN_LO`, R118. -/
def Rg.SW_MS_TXPN_LO (m : Nat) : Nat := 0x20081008 + 0x100 * m
def Fd.SW_MS_TXPN_LO_PN (m : Nat) : Fld := ⟨0x20081008 + 0x100 * m, 31, 0⟩
/-- `SW_MS_TXPN_HI`, R118. -/
def Rg.SW_MS_TXPN_HI (m : Nat) : Nat := 0x2008100C + 0x100 * m
def Fd.SW_MS_TXPN_HI_PN (m : Nat) : Fld := ⟨0x2008100C + 0x100 * m, 31, 0⟩
/-- `SW_MS_SA_LOAD`, R118. -/
def Rg.SW_MS_SA_LOAD (m : Nat) : Nat := 0x20081010 + 0x100 * m
def Fd.SW_MS_SA_LOAD_RESULT (m : Nat) : Fld := ⟨0x20081010 + 0x100 * m, 31, 16⟩
def Fd.SW_MS_SA_LOAD_DIR (m : Nat) : Fld := ⟨0x20081010 + 0x100 * m, 15, 15⟩
def Fd.SW_MS_SA_LOAD_SC (m : Nat) : Fld := ⟨0x20081010 + 0x100 * m, 14, 13⟩
def Fd.SW_MS_SA_LOAD_AN (m : Nat) : Fld := ⟨0x20081010 + 0x100 * m, 12, 11⟩
def Fd.SW_MS_SA_LOAD_SLOT (m : Nat) : Fld := ⟨0x20081010 + 0x100 * m, 6, 0⟩
/-- `SW_MS_STAGE`, R118. -/
def Rg.SW_MS_STAGE (m : Nat) (k : Nat) : Nat := 0x20081020 + 0x100 * m + 0x4 * k
def Fd.SW_MS_STAGE_WORD (m : Nat) (k : Nat) : Fld := ⟨0x20081020 + 0x100 * m + 0x4 * k, 31, 0⟩

/-! ### 06_switch_queues_and_time.md -/

/-- `SQ_TIME_LO`, R143. -/
def Rg.SQ_TIME_LO : Nat := 0x20090000
def Fd.SQ_TIME_LO_TIME : Fld := ⟨0x20090000, 31, 0⟩
/-- `SQ_TIME_HI`, R143. -/
def Rg.SQ_TIME_HI : Nat := 0x20090004
def Fd.SQ_TIME_HI_TIME : Fld := ⟨0x20090004, 31, 0⟩
/-- `SQ_AS_STATUS`, R143. -/
def Rg.SQ_AS_STATUS : Nat := 0x20090008
def Fd.SQ_AS_STATUS_OFFSET : Fld := ⟨0x20090008, 31, 16⟩
def Fd.SQ_AS_STATUS_SLAVE_VALID : Fld := ⟨0x20090008, 13, 13⟩
def Fd.SQ_AS_STATUS_SLAVE_PORT : Fld := ⟨0x20090008, 12, 8⟩
def Fd.SQ_AS_STATUS_STATE : Fld := ⟨0x20090008, 2, 0⟩
/-- `SQ_AS_PORT_CFG`, R143. -/
def Rg.SQ_AS_PORT_CFG (p : Nat) : Nat := 0x20090040 + 0x4 * p
def Fd.SQ_AS_PORT_CFG_NBR_DELAY (p : Nat) : Fld := ⟨0x20090040 + 0x4 * p, 31, 16⟩
def Fd.SQ_AS_PORT_CFG_PDELAY_EN (p : Nat) : Fld := ⟨0x20090040 + 0x4 * p, 7, 7⟩
def Fd.SQ_AS_PORT_CFG_SYNC_RATE (p : Nat) : Fld := ⟨0x20090040 + 0x4 * p, 6, 4⟩
def Fd.SQ_AS_PORT_CFG_ROLE (p : Nat) : Fld := ⟨0x20090040 + 0x4 * p, 1, 0⟩
/-- `SQ_POOL_STATUS`, R143. -/
def Rg.SQ_POOL_STATUS (k : Nat) : Nat := 0x20090100 + 0x4 * k
def Fd.SQ_POOL_STATUS_HWM (k : Nat) : Fld := ⟨0x20090100 + 0x4 * k, 31, 16⟩
def Fd.SQ_POOL_STATUS_USED (k : Nat) : Fld := ⟨0x20090100 + 0x4 * k, 15, 0⟩
/-- `SQ_Q_OCC`, R143. -/
def Rg.SQ_Q_OCC (p : Nat) (tc : Nat) : Nat := 0x20090200 + 0x20 * p + 0x4 * tc
def Fd.SQ_Q_OCC_HWM (p : Nat) (tc : Nat) : Fld := ⟨0x20090200 + 0x20 * p + 0x4 * tc, 31, 16⟩
def Fd.SQ_Q_OCC_OCC (p : Nat) (tc : Nat) : Fld := ⟨0x20090200 + 0x20 * p + 0x4 * tc, 15, 0⟩
/-- `SQ_Q_EVENT`, R143. -/
def Rg.SQ_Q_EVENT (p : Nat) (tc : Nat) (c : Nat) : Nat := 0x20091000 + 0x80 * p + 0x10 * tc + 0x4 * c
def Fd.SQ_Q_EVENT_COUNT (p : Nat) (tc : Nat) (c : Nat) : Fld := ⟨0x20091000 + 0x80 * p + 0x10 * tc + 0x4 * c, 31, 0⟩
/-- `SQ_Q_SAT`, R143. -/
def Rg.SQ_Q_SAT (p : Nat) : Nat := 0x20091C00 + 0x4 * p
def Fd.SQ_Q_SAT_BITS (p : Nat) : Fld := ⟨0x20091C00 + 0x4 * p, 31, 0⟩
/-- `SQ_Q_IE`, R143. -/
def Rg.SQ_Q_IE (p : Nat) : Nat := 0x20091C80 + 0x4 * p
def Fd.SQ_Q_IE_BITS (p : Nat) : Fld := ⟨0x20091C80 + 0x4 * p, 31, 0⟩
/-- `SQ_TRAFFIC_LO`, R143. -/
def Rg.SQ_TRAFFIC_LO (p : Nat) (k : Nat) : Nat := 0x20092000 + 0x20 * p + 0x8 * k
def Fd.SQ_TRAFFIC_LO_COUNT (p : Nat) (k : Nat) : Fld := ⟨0x20092000 + 0x20 * p + 0x8 * k, 31, 0⟩
/-- `SQ_TRAFFIC_HI`, R143. -/
def Rg.SQ_TRAFFIC_HI (p : Nat) (k : Nat) : Nat := 0x20092004 + 0x20 * p + 0x8 * k
def Fd.SQ_TRAFFIC_HI_COUNT (p : Nat) (k : Nat) : Fld := ⟨0x20092004 + 0x20 * p + 0x8 * k, 31, 0⟩
/-- `SQ_RX_ABORT`, R143. -/
def Rg.SQ_RX_ABORT (p : Nat) : Nat := 0x20092400 + 0x4 * p
def Fd.SQ_RX_ABORT_COUNT (p : Nat) : Fld := ⟨0x20092400 + 0x4 * p, 31, 0⟩
/-- `SQ_PORT_SAT`, R143. -/
def Rg.SQ_PORT_SAT (p : Nat) : Nat := 0x20092480 + 0x4 * p
def Fd.SQ_PORT_SAT_IE (p : Nat) : Fld := ⟨0x20092480 + 0x4 * p, 20, 16⟩
def Fd.SQ_PORT_SAT_SAT (p : Nat) : Fld := ⟨0x20092480 + 0x4 * p, 4, 0⟩
/-- `SQ_GATE_STATUS`, R143. -/
def Rg.SQ_GATE_STATUS (p : Nat) : Nat := 0x20092500 + 0x4 * p
def Fd.SQ_GATE_STATUS_LISTED (p : Nat) : Fld := ⟨0x20092500 + 0x4 * p, 16, 16⟩
def Fd.SQ_GATE_STATUS_ENTRY (p : Nat) : Fld := ⟨0x20092500 + 0x4 * p, 15, 8⟩
def Fd.SQ_GATE_STATUS_GATES (p : Nat) : Fld := ⟨0x20092500 + 0x4 * p, 7, 0⟩
/-- `SQ_STREAM_SEL`, R143. -/
def Rg.SQ_STREAM_SEL : Nat := 0x20093000
def Fd.SQ_STREAM_SEL_RESULT : Fld := ⟨0x20093000, 31, 16⟩
def Fd.SQ_STREAM_SEL_HANDLE : Fld := ⟨0x20093000, 15, 0⟩
/-- `SQ_STREAM_SEQ`, R143. -/
def Rg.SQ_STREAM_SEQ : Nat := 0x20093004
def Fd.SQ_STREAM_SEQ_RX_SEQ : Fld := ⟨0x20093004, 31, 16⟩
def Fd.SQ_STREAM_SEQ_TX_SEQ : Fld := ⟨0x20093004, 15, 0⟩
/-- `SQ_STREAM_CNT`, R143. -/
def Rg.SQ_STREAM_CNT (c : Nat) : Nat := 0x20093010 + 0x4 * c
def Fd.SQ_STREAM_CNT_COUNT (c : Nat) : Fld := ⟨0x20093010 + 0x4 * c, 31, 0⟩
/-- `SQ_STREAM_SAT`, R143. -/
def Rg.SQ_STREAM_SAT : Nat := 0x20093030
def Fd.SQ_STREAM_SAT_IE : Fld := ⟨0x20093030, 15, 8⟩
def Fd.SQ_STREAM_SAT_SAT : Fld := ⟨0x20093030, 7, 0⟩
/-- `SQ_FRER_CFG`, R143. -/
def Rg.SQ_FRER_CFG : Nat := 0x20093040
def Fd.SQ_FRER_CFG_RESET_MS : Fld := ⟨0x20093040, 15, 0⟩
/-- `CAN_GWY_CFG`, R143. -/
def Rg.CAN_GWY_CFG : Nat := 0x200C8000
def Fd.CAN_GWY_CFG_PCP : Fld := ⟨0x200C8000, 26, 24⟩
def Fd.CAN_GWY_CFG_HOLD_US : Fld := ⟨0x200C8000, 19, 8⟩
def Fd.CAN_GWY_CFG_MAX_MSGS : Fld := ⟨0x200C8000, 4, 0⟩
/-- `CAN_GWY_MAC_LO`, R143. -/
def Rg.CAN_GWY_MAC_LO : Nat := 0x200C8004
def Fd.CAN_GWY_MAC_LO_MAC : Fld := ⟨0x200C8004, 31, 0⟩
/-- `CAN_GWY_MAC_HI`, R143. -/
def Rg.CAN_GWY_MAC_HI : Nat := 0x200C8008
def Fd.CAN_GWY_MAC_HI_MAC : Fld := ⟨0x200C8008, 15, 0⟩
/-- `CAN_GWY_EVENT`, R143. -/
def Rg.CAN_GWY_EVENT (c : Nat) : Nat := 0x200C8010 + 0x4 * c
def Fd.CAN_GWY_EVENT_COUNT (c : Nat) : Fld := ⟨0x200C8010 + 0x4 * c, 31, 0⟩
/-- `CAN_GWY_SAT`, R143. -/
def Rg.CAN_GWY_SAT : Nat := 0x200C8018
def Fd.CAN_GWY_SAT_IE : Fld := ⟨0x200C8018, 17, 16⟩
def Fd.CAN_GWY_SAT_SAT : Fld := ⟨0x200C8018, 1, 0⟩

/-! ### 07_endpoints_and_districts.md -/

/-- `DB_INFO`, R146. -/
def Rg.DB_INFO (n : Nat) : Nat := 0x21000010 + 0x1000 * n
def Fd.DB_INFO_DISTRICT (n : Nat) : Fld := ⟨0x21000010 + 0x1000 * n, 31, 26⟩
def Fd.DB_INFO_CQ_LOG2 (n : Nat) : Fld := ⟨0x21000010 + 0x1000 * n, 23, 20⟩
def Fd.DB_INFO_SQ_LOG2 (n : Nat) : Fld := ⟨0x21000010 + 0x1000 * n, 19, 16⟩
def Fd.DB_INFO_PLAN_PIN (n : Nat) : Fld := ⟨0x21000010 + 0x1000 * n, 15, 15⟩
def Fd.DB_INFO_RT_PIN (n : Nat) : Fld := ⟨0x21000010 + 0x1000 * n, 14, 14⟩
def Fd.DB_INFO_RESERVED_SHARE (n : Nat) : Fld := ⟨0x21000010 + 0x1000 * n, 13, 13⟩
def Fd.DB_INFO_EPTYPE (n : Nat) : Fld := ⟨0x21000010 + 0x1000 * n, 10, 8⟩
def Fd.DB_INFO_WEIGHT (n : Nat) : Fld := ⟨0x21000010 + 0x1000 * n, 7, 0⟩
/-- `DB_CREDIT`, R146. -/
def Rg.DB_CREDIT (n : Nat) : Nat := 0x21000014 + 0x1000 * n
def Fd.DB_CREDIT_SHARE (n : Nat) : Fld := ⟨0x21000014 + 0x1000 * n, 13, 0⟩
/-- `DB_CELLS`, R146. -/
def Rg.DB_CELLS (n : Nat) : Nat := 0x21000018 + 0x1000 * n
def Fd.DB_CELLS_OCC (n : Nat) : Fld := ⟨0x21000018 + 0x1000 * n, 31, 16⟩
def Fd.DB_CELLS_SHARE (n : Nat) : Fld := ⟨0x21000018 + 0x1000 * n, 15, 0⟩
/-- `DB_TRIMMED`, R146. -/
def Rg.DB_TRIMMED (n : Nat) : Nat := 0x2100001C + 0x1000 * n
def Fd.DB_TRIMMED_COUNT (n : Nat) : Fld := ⟨0x2100001C + 0x1000 * n, 31, 0⟩
/-- `MB_RING`, R146. -/
def Rg.MB_RING : Nat := 0x21000100
/-- `MB_PENDING_LO`, R146. -/
def Rg.MB_PENDING_LO : Nat := 0x21000104
def Fd.MB_PENDING_LO_DISTRICTS : Fld := ⟨0x21000104, 31, 0⟩
/-- `MB_PENDING_HI`, R146. -/
def Rg.MB_PENDING_HI : Nat := 0x21000108
def Fd.MB_PENDING_HI_DISTRICTS : Fld := ⟨0x21000108, 31, 0⟩
/-- `SYS_EP_CFG`, R169. -/
def Rg.SYS_EP_CFG : Nat := 0x20001000
def Fd.SYS_EP_CFG_PLAN_PINNED : Fld := ⟨0x20001000, 23, 16⟩
def Fd.SYS_EP_CFG_RT_PINNED : Fld := ⟨0x20001000, 15, 8⟩
def Fd.SYS_EP_CFG_RT_PIN_MAX : Fld := ⟨0x20001000, 5, 0⟩
/-- `SYS_CTX_BASE_LO`, R169. -/
def Rg.SYS_CTX_BASE_LO : Nat := 0x20001008
def Fd.SYS_CTX_BASE_LO_BASE : Fld := ⟨0x20001008, 31, 0⟩
/-- `SYS_CTX_BASE_HI`, R169. -/
def Rg.SYS_CTX_BASE_HI : Nat := 0x2000100C
def Fd.SYS_CTX_BASE_HI_BASE : Fld := ⟨0x2000100C, 1, 0⟩
/-- `SYS_MBOX_BASE_LO`, R169. -/
def Rg.SYS_MBOX_BASE_LO : Nat := 0x20001010
def Fd.SYS_MBOX_BASE_LO_BASE : Fld := ⟨0x20001010, 31, 0⟩
/-- `SYS_MBOX_BASE_HI`, R169. -/
def Rg.SYS_MBOX_BASE_HI : Nat := 0x20001014
def Fd.SYS_MBOX_BASE_HI_BASE : Fld := ⟨0x20001014, 1, 0⟩
/-- `SYS_EP0_RINGS_LO`, R169. -/
def Rg.SYS_EP0_RINGS_LO : Nat := 0x20001018
def Fd.SYS_EP0_RINGS_LO_BASE : Fld := ⟨0x20001018, 31, 13⟩
def Fd.SYS_EP0_RINGS_LO_EN : Fld := ⟨0x20001018, 0, 0⟩
/-- `SYS_EP0_RINGS_HI`, R169. -/
def Rg.SYS_EP0_RINGS_HI : Nat := 0x2000101C
def Fd.SYS_EP0_RINGS_HI_BASE_HI : Fld := ⟨0x2000101C, 1, 0⟩
/-- `SYS_EP_STAGE`, R169. -/
def Rg.SYS_EP_STAGE (k : Nat) : Nat := 0x20001040 + 0x4 * k
def Fd.SYS_EP_STAGE_WORD (k : Nat) : Fld := ⟨0x20001040 + 0x4 * k, 31, 0⟩
/-- `SYS_EP_CMD`, R169. -/
def Rg.SYS_EP_CMD : Nat := 0x20001080
def Fd.SYS_EP_CMD_RESULT : Fld := ⟨0x20001080, 31, 16⟩
def Fd.SYS_EP_CMD_DISTRICT : Fld := ⟨0x20001080, 13, 8⟩
def Fd.SYS_EP_CMD_TRIM : Fld := ⟨0x20001080, 3, 3⟩
def Fd.SYS_EP_CMD_OP : Fld := ⟨0x20001080, 2, 0⟩
/-- `SYS_EP_RESULT`, R169. -/
def Rg.SYS_EP_RESULT (k : Nat) : Nat := 0x200010C0 + 0x4 * k
def Fd.SYS_EP_RESULT_WORD (k : Nat) : Fld := ⟨0x200010C0 + 0x4 * k, 31, 0⟩
/-- `SYS_POOL_FREE0`, R169. -/
def Rg.SYS_POOL_FREE0 : Nat := 0x20001100
def Fd.SYS_POOL_FREE0_FREE_TIMERS : Fld := ⟨0x20001100, 31, 16⟩
def Fd.SYS_POOL_FREE0_FREE_CREDITS : Fld := ⟨0x20001100, 15, 0⟩
/-- `SYS_POOL_FREE1`, R169. -/
def Rg.SYS_POOL_FREE1 : Nat := 0x20001104
def Fd.SYS_POOL_FREE1_FREE_CAN : Fld := ⟨0x20001104, 31, 16⟩
def Fd.SYS_POOL_FREE1_FREE_CELLS : Fld := ⟨0x20001104, 15, 0⟩
/-- `SYS_EP_EVENT`, R169. -/
def Rg.SYS_EP_EVENT (c : Nat) : Nat := 0x20001110 + 0x4 * c
def Fd.SYS_EP_EVENT_COUNT (c : Nat) : Fld := ⟨0x20001110 + 0x4 * c, 31, 0⟩
/-- `SYS_EP_SAT`, R169. -/
def Rg.SYS_EP_SAT : Nat := 0x20001120
def Fd.SYS_EP_SAT_IE : Fld := ⟨0x20001120, 19, 16⟩
def Fd.SYS_EP_SAT_SAT : Fld := ⟨0x20001120, 3, 0⟩
/-- `SYS_OD_DONE`, R169. -/
def Rg.SYS_OD_DONE (k : Nat) : Nat := 0x20001200 + 0x4 * k
def Fd.SYS_OD_DONE_DONE (k : Nat) : Fld := ⟨0x20001200 + 0x4 * k, 31, 0⟩

/-! ### 08_mirror_path.md -/

/-- `SF_STATUS`, R196. -/
def Rg.SF_STATUS : Nat := 0x200A0000
def Fd.SF_STATUS_CAM_LOCK : Fld := ⟨0x200A0000, 11, 8⟩
def Fd.SF_STATUS_CAM_RUN : Fld := ⟨0x200A0000, 7, 4⟩
def Fd.SF_STATUS_DSP_RUN : Fld := ⟨0x200A0000, 1, 0⟩
/-- `SF_CAM_TIMING`, R196. -/
def Rg.SF_CAM_TIMING (c : Nat) : Nat := 0x200A0010 + 0x4 * c
def Fd.SF_CAM_TIMING_LINE_NS (c : Nat) : Fld := ⟨0x200A0010 + 0x4 * c, 31, 16⟩
def Fd.SF_CAM_TIMING_FIRST_US (c : Nat) : Fld := ⟨0x200A0010 + 0x4 * c, 15, 0⟩
/-- `SF_CAM_CTRL`, R196. -/
def Rg.SF_CAM_CTRL (c : Nat) : Nat := 0x200A0020 + 0x4 * c
def Fd.SF_CAM_CTRL_RUN (c : Nat) : Fld := ⟨0x200A0020 + 0x4 * c, 0, 0⟩
/-- `SF_CAM_STATUS`, R196. -/
def Rg.SF_CAM_STATUS (c : Nat) : Nat := 0x200A0030 + 0x4 * c
def Fd.SF_CAM_STATUS_FRAME (c : Nat) : Fld := ⟨0x200A0030 + 0x4 * c, 31, 16⟩
def Fd.SF_CAM_STATUS_LOCK (c : Nat) : Fld := ⟨0x200A0030 + 0x4 * c, 2, 2⟩
def Fd.SF_CAM_STATUS_LINK (c : Nat) : Fld := ⟨0x200A0030 + 0x4 * c, 1, 1⟩
def Fd.SF_CAM_STATUS_RUN (c : Nat) : Fld := ⟨0x200A0030 + 0x4 * c, 0, 0⟩
/-- `SF_CAM_I2C`, R196. -/
def Rg.SF_CAM_I2C (c : Nat) : Nat := 0x200A0040 + 0x4 * c
def Fd.SF_CAM_I2C_RESULT (c : Nat) : Fld := ⟨0x200A0040 + 0x4 * c, 31, 16⟩
def Fd.SF_CAM_I2C_RD (c : Nat) : Fld := ⟨0x200A0040 + 0x4 * c, 15, 15⟩
def Fd.SF_CAM_I2C_DEV (c : Nat) : Fld := ⟨0x200A0040 + 0x4 * c, 14, 8⟩
def Fd.SF_CAM_I2C_DATA (c : Nat) : Fld := ⟨0x200A0040 + 0x4 * c, 7, 0⟩
/-- `SF_CAM_I2C_ADDR`, R196. -/
def Rg.SF_CAM_I2C_ADDR (c : Nat) : Nat := 0x200A0050 + 0x4 * c
def Fd.SF_CAM_I2C_ADDR_REG (c : Nat) : Fld := ⟨0x200A0050 + 0x4 * c, 15, 0⟩
/-- `SF_DSP_STATUS`, R196. -/
def Rg.SF_DSP_STATUS (d : Nat) : Nat := 0x200A0060 + 0x4 * d
def Fd.SF_DSP_STATUS_FRAME (d : Nat) : Fld := ⟨0x200A0060 + 0x4 * d, 31, 16⟩
def Fd.SF_DSP_STATUS_LINK (d : Nat) : Fld := ⟨0x200A0060 + 0x4 * d, 1, 1⟩
def Fd.SF_DSP_STATUS_RUN (d : Nat) : Fld := ⟨0x200A0060 + 0x4 * d, 0, 0⟩
/-- `SF_LAT`, R196. -/
def Rg.SF_LAT (d : Nat) : Nat := 0x200A0068 + 0x4 * d
def Fd.SF_LAT_MAX_US (d : Nat) : Fld := ⟨0x200A0068 + 0x4 * d, 31, 16⟩
def Fd.SF_LAT_LAST_US (d : Nat) : Fld := ⟨0x200A0068 + 0x4 * d, 15, 0⟩
/-- `SF_VIEW_STATE`, R196. -/
def Rg.SF_VIEW_STATE (i : Nat) : Nat := 0x200A0080 + 0x4 * i
def Fd.SF_VIEW_STATE_ANGLE (i : Nat) : Fld := ⟨0x200A0080 + 0x4 * i, 31, 16⟩
def Fd.SF_VIEW_STATE_TAP (i : Nat) : Fld := ⟨0x200A0080 + 0x4 * i, 7, 7⟩
def Fd.SF_VIEW_STATE_SWAP_PEND (i : Nat) : Fld := ⟨0x200A0080 + 0x4 * i, 6, 6⟩
def Fd.SF_VIEW_STATE_PLAN_MAP (i : Nat) : Fld := ⟨0x200A0080 + 0x4 * i, 3, 3⟩
def Fd.SF_VIEW_STATE_RUN (i : Nat) : Fld := ⟨0x200A0080 + 0x4 * i, 0, 0⟩
/-- `SF_LOAD_FAIL`, R196. -/
def Rg.SF_LOAD_FAIL : Nat := 0x200A00A0
def Fd.SF_LOAD_FAIL_CODE : Fld := ⟨0x200A00A0, 31, 16⟩
def Fd.SF_LOAD_FAIL_SLICE : Fld := ⟨0x200A00A0, 15, 8⟩
def Fd.SF_LOAD_FAIL_OVERLAY : Fld := ⟨0x200A00A0, 4, 4⟩
def Fd.SF_LOAD_FAIL_DSP : Fld := ⟨0x200A00A0, 2, 2⟩
def Fd.SF_LOAD_FAIL_INDEX : Fld := ⟨0x200A00A0, 1, 0⟩
/-- `SF_OVL_BASE_LO`, R196. -/
def Rg.SF_OVL_BASE_LO (j : Nat) : Nat := 0x200A0100 + 0x8 * j
def Fd.SF_OVL_BASE_LO_ADDR (j : Nat) : Fld := ⟨0x200A0100 + 0x8 * j, 31, 6⟩
/-- `SF_OVL_BASE_HI`, R196. -/
def Rg.SF_OVL_BASE_HI (j : Nat) : Nat := 0x200A0104 + 0x8 * j
def Fd.SF_OVL_BASE_HI_ADDR_HI (j : Nat) : Fld := ⟨0x200A0104 + 0x8 * j, 1, 0⟩
/-- `SF_TAP_CFG`, R196. -/
def Rg.SF_TAP_CFG (i : Nat) : Nat := 0x200A0140 + 0x4 * i
def Fd.SF_TAP_CFG_ON (i : Nat) : Fld := ⟨0x200A0140 + 0x4 * i, 31, 31⟩
def Fd.SF_TAP_CFG_PCP (i : Nat) : Fld := ⟨0x200A0140 + 0x4 * i, 18, 16⟩
def Fd.SF_TAP_CFG_HANDLE (i : Nat) : Fld := ⟨0x200A0140 + 0x4 * i, 15, 0⟩
/-- `SF_TAP_MAC_LO`, R196. -/
def Rg.SF_TAP_MAC_LO : Nat := 0x200A0160
def Fd.SF_TAP_MAC_LO_MAC : Fld := ⟨0x200A0160, 31, 0⟩
/-- `SF_TAP_MAC_HI`, R196. -/
def Rg.SF_TAP_MAC_HI : Nat := 0x200A0164
def Fd.SF_TAP_MAC_HI_MAC : Fld := ⟨0x200A0164, 15, 0⟩
/-- `SF_VIEW_EVENT`, R196. -/
def Rg.SF_VIEW_EVENT (i : Nat) (c : Nat) : Nat := 0x200A0200 + 0x10 * i + 0x4 * c
def Fd.SF_VIEW_EVENT_COUNT (i : Nat) (c : Nat) : Fld := ⟨0x200A0200 + 0x10 * i + 0x4 * c, 31, 0⟩
/-- `SF_DSP_EVENT`, R196. -/
def Rg.SF_DSP_EVENT (d : Nat) (c : Nat) : Nat := 0x200A0280 + 0x10 * d + 0x4 * c
def Fd.SF_DSP_EVENT_COUNT (d : Nat) (c : Nat) : Fld := ⟨0x200A0280 + 0x10 * d + 0x4 * c, 31, 0⟩
/-- `SF_EVENT_SAT`, R196. -/
def Rg.SF_EVENT_SAT : Nat := 0x200A02A0
def Fd.SF_EVENT_SAT_BITS : Fld := ⟨0x200A02A0, 31, 0⟩
/-- `SF_EVENT_IE`, R196. -/
def Rg.SF_EVENT_IE : Nat := 0x200A02A4
def Fd.SF_EVENT_IE_BITS : Fld := ⟨0x200A02A4, 31, 0⟩
/-- `SF_DSP_SAT`, R196. -/
def Rg.SF_DSP_SAT : Nat := 0x200A02A8
def Fd.SF_DSP_SAT_IE : Fld := ⟨0x200A02A8, 19, 16⟩
def Fd.SF_DSP_SAT_SAT : Fld := ⟨0x200A02A8, 3, 0⟩

/-! ### 09_mirror_integrity.md -/

/-- `SF_INTEG_CFG`, R215. -/
def Rg.SF_INTEG_CFG (d : Nat) : Nat := 0x200A0300 + 0x4 * d
def Fd.SF_INTEG_CFG_BLANK_LATCH (d : Nat) : Fld := ⟨0x200A0300 + 0x4 * d, 16, 16⟩
def Fd.SF_INTEG_CFG_CLEAR (d : Nat) : Fld := ⟨0x200A0300 + 0x4 * d, 15, 8⟩
def Fd.SF_INTEG_CFG_CRC_BLANK (d : Nat) : Fld := ⟨0x200A0300 + 0x4 * d, 7, 4⟩
def Fd.SF_INTEG_CFG_CRC_MARK (d : Nat) : Fld := ⟨0x200A0300 + 0x4 * d, 3, 0⟩
/-- `SF_INTEG_VIEW`, R215. -/
def Rg.SF_INTEG_VIEW (i : Nat) : Nat := 0x200A0310 + 0x4 * i
def Fd.SF_INTEG_VIEW_FAULT_CLEAR (i : Nat) : Fld := ⟨0x200A0310 + 0x4 * i, 15, 8⟩
def Fd.SF_INTEG_VIEW_STALE_BLANK (i : Nat) : Fld := ⟨0x200A0310 + 0x4 * i, 7, 4⟩
def Fd.SF_INTEG_VIEW_STALE_MARK (i : Nat) : Fld := ⟨0x200A0310 + 0x4 * i, 3, 0⟩
/-- `SF_INTEG_STATE`, R215. -/
def Rg.SF_INTEG_STATE (d : Nat) : Nat := 0x200A0330 + 0x4 * d
def Fd.SF_INTEG_STATE_CLEAR_LATCH (d : Nat) : Fld := ⟨0x200A0330 + 0x4 * d, 31, 31⟩
def Fd.SF_INTEG_STATE_GOOD (d : Nat) : Fld := ⟨0x200A0330 + 0x4 * d, 23, 16⟩
def Fd.SF_INTEG_STATE_BAD (d : Nat) : Fld := ⟨0x200A0330 + 0x4 * d, 15, 12⟩
def Fd.SF_INTEG_STATE_FORCED (d : Nat) : Fld := ⟨0x200A0330 + 0x4 * d, 11, 11⟩
def Fd.SF_INTEG_STATE_MON_ABSENT (d : Nat) : Fld := ⟨0x200A0330 + 0x4 * d, 10, 10⟩
def Fd.SF_INTEG_STATE_DSTATE (d : Nat) : Fld := ⟨0x200A0330 + 0x4 * d, 9, 8⟩
def Fd.SF_INTEG_STATE_VIEWS (d : Nat) : Fld := ⟨0x200A0330 + 0x4 * d, 7, 0⟩
/-- `SF_ECHO`, R215. -/
def Rg.SF_ECHO (d : Nat) : Nat := 0x200A0338 + 0x4 * d
def Fd.SF_ECHO_FRAME (d : Nat) : Fld := ⟨0x200A0338 + 0x4 * d, 31, 16⟩
def Fd.SF_ECHO_OUTCOME (d : Nat) : Fld := ⟨0x200A0338 + 0x4 * d, 1, 0⟩
/-- `SF_CAM_FAULT`, R215. -/
def Rg.SF_CAM_FAULT (c : Nat) : Nat := 0x200A0340 + 0x4 * c
def Fd.SF_CAM_FAULT_CODE (c : Nat) : Fld := ⟨0x200A0340 + 0x4 * c, 31, 16⟩
def Fd.SF_CAM_FAULT_GOOD (c : Nat) : Fld := ⟨0x200A0340 + 0x4 * c, 15, 8⟩
def Fd.SF_CAM_FAULT_FAULT (c : Nat) : Fld := ⟨0x200A0340 + 0x4 * c, 7, 7⟩
def Fd.SF_CAM_FAULT_CAUSE (c : Nat) : Fld := ⟨0x200A0340 + 0x4 * c, 5, 0⟩
/-- `SF_POC`, R215. -/
def Rg.SF_POC (c : Nat) : Nat := 0x200A0350 + 0x4 * c
def Fd.SF_POC_ON (c : Nat) : Fld := ⟨0x200A0350 + 0x4 * c, 31, 31⟩
def Fd.SF_POC_STATE (c : Nat) : Fld := ⟨0x200A0350 + 0x4 * c, 30, 28⟩
def Fd.SF_POC_RETRIES (c : Nat) : Fld := ⟨0x200A0350 + 0x4 * c, 27, 26⟩
def Fd.SF_POC_CURRENT (c : Nat) : Fld := ⟨0x200A0350 + 0x4 * c, 9, 0⟩
/-- `SF_HEARTBEAT`, R215. -/
def Rg.SF_HEARTBEAT : Nat := 0x200A0360
def Fd.SF_HEARTBEAT_SEQ : Fld := ⟨0x200A0360, 31, 16⟩
def Fd.SF_HEARTBEAT_FORCE_BLANK : Fld := ⟨0x200A0360, 3, 2⟩
def Fd.SF_HEARTBEAT_FORCE_MARK : Fld := ⟨0x200A0360, 1, 0⟩
/-- `SF_MON_STATUS`, R215. -/
def Rg.SF_MON_STATUS : Nat := 0x200A0364
def Fd.SF_MON_STATUS_SINCE_MS : Fld := ⟨0x200A0364, 31, 16⟩
def Fd.SF_MON_STATUS_ABSENT : Fld := ⟨0x200A0364, 0, 0⟩
/-- `SF_INTEG_EVENT`, R215. -/
def Rg.SF_INTEG_EVENT (k : Nat) : Nat := 0x200A0380 + 0x4 * k
def Fd.SF_INTEG_EVENT_COUNT (k : Nat) : Fld := ⟨0x200A0380 + 0x4 * k, 31, 0⟩
/-- `SF_INTEG_SAT`, R215. -/
def Rg.SF_INTEG_SAT : Nat := 0x200A03E0
def Fd.SF_INTEG_SAT_BITS : Fld := ⟨0x200A03E0, 23, 0⟩
/-- `SF_INTEG_IE`, R215. -/
def Rg.SF_INTEG_IE : Nat := 0x200A03E4
def Fd.SF_INTEG_IE_BITS : Fld := ⟨0x200A03E4, 23, 0⟩

/-! ### 10_power_channels.md -/

/-- `PD_FEED_MEAS`, R240. -/
def Rg.PD_FEED_MEAS (f : Nat) : Nat := 0x200B0010 + 0x4 * f
def Fd.PD_FEED_MEAS_CURRENT (f : Nat) : Fld := ⟨0x200B0010 + 0x4 * f, 31, 16⟩
def Fd.PD_FEED_MEAS_VOLTAGE (f : Nat) : Fld := ⟨0x200B0010 + 0x4 * f, 15, 0⟩
/-- `PD_FEED_AVG`, R240. -/
def Rg.PD_FEED_AVG (f : Nat) : Nat := 0x200B0018 + 0x4 * f
def Fd.PD_FEED_AVG_FILT (f : Nat) : Fld := ⟨0x200B0018 + 0x4 * f, 15, 0⟩
/-- `PD_HOUSING`, R240. -/
def Rg.PD_HOUSING : Nat := 0x200B0020
def Fd.PD_HOUSING_P_FILT : Fld := ⟨0x200B0020, 31, 16⟩
def Fd.PD_HOUSING_P_INST : Fld := ⟨0x200B0020, 15, 0⟩
/-- `PD_SHED`, R240. -/
def Rg.PD_SHED : Nat := 0x200B0024
def Fd.PD_SHED_LEVEL : Fld := ⟨0x200B0024, 31, 24⟩
def Fd.PD_SHED_STUCK : Fld := ⟨0x200B0024, 4, 4⟩
def Fd.PD_SHED_TRIGGER : Fld := ⟨0x200B0024, 3, 0⟩
/-- `PD_AMBIENT`, R240. -/
def Rg.PD_AMBIENT : Nat := 0x200B0028
def Fd.PD_AMBIENT_TEMP : Fld := ⟨0x200B0028, 15, 0⟩
/-- `PD_AMBIENT_SW`, R240. -/
def Rg.PD_AMBIENT_SW : Nat := 0x200B002C
def Fd.PD_AMBIENT_SW_TEMP : Fld := ⟨0x200B002C, 15, 0⟩
/-- `PD_CH_CTRL`, R240. -/
def Rg.PD_CH_CTRL (n : Nat) : Nat := 0x200B0100 + 0x4 * n
def Fd.PD_CH_CTRL_PWM_HZ (n : Nat) : Fld := ⟨0x200B0100 + 0x4 * n, 30, 21⟩
def Fd.PD_CH_CTRL_DUTY (n : Nat) : Fld := ⟨0x200B0100 + 0x4 * n, 20, 11⟩
def Fd.PD_CH_CTRL_MODE (n : Nat) : Fld := ⟨0x200B0100 + 0x4 * n, 2, 1⟩
def Fd.PD_CH_CTRL_EN (n : Nat) : Fld := ⟨0x200B0100 + 0x4 * n, 0, 0⟩
/-- `PD_CH_STATUS`, R240. -/
def Rg.PD_CH_STATUS (n : Nat) : Nat := 0x200B0200 + 0x4 * n
def Fd.PD_CH_STATUS_CAUSE (n : Nat) : Fld := ⟨0x200B0200 + 0x4 * n, 31, 16⟩
def Fd.PD_CH_STATUS_RETRIES (n : Nat) : Fld := ⟨0x200B0200 + 0x4 * n, 15, 12⟩
def Fd.PD_CH_STATUS_BOUND (n : Nat) : Fld := ⟨0x200B0200 + 0x4 * n, 8, 8⟩
def Fd.PD_CH_STATUS_TIMED (n : Nat) : Fld := ⟨0x200B0200 + 0x4 * n, 7, 7⟩
def Fd.PD_CH_STATUS_SHED (n : Nat) : Fld := ⟨0x200B0200 + 0x4 * n, 6, 6⟩
def Fd.PD_CH_STATUS_LATCHED (n : Nat) : Fld := ⟨0x200B0200 + 0x4 * n, 5, 5⟩
def Fd.PD_CH_STATUS_COOLING (n : Nat) : Fld := ⟨0x200B0200 + 0x4 * n, 4, 4⟩
def Fd.PD_CH_STATUS_LIMIT (n : Nat) : Fld := ⟨0x200B0200 + 0x4 * n, 3, 3⟩
def Fd.PD_CH_STATUS_INRUSH (n : Nat) : Fld := ⟨0x200B0200 + 0x4 * n, 2, 2⟩
def Fd.PD_CH_STATUS_CMD (n : Nat) : Fld := ⟨0x200B0200 + 0x4 * n, 1, 1⟩
def Fd.PD_CH_STATUS_OUT (n : Nat) : Fld := ⟨0x200B0200 + 0x4 * n, 0, 0⟩
/-- `PD_CH_MEAS`, R240. -/
def Rg.PD_CH_MEAS (n : Nat) : Nat := 0x200B0300 + 0x4 * n
def Fd.PD_CH_MEAS_TEMP (n : Nat) : Fld := ⟨0x200B0300 + 0x4 * n, 31, 16⟩
def Fd.PD_CH_MEAS_CURRENT (n : Nat) : Fld := ⟨0x200B0300 + 0x4 * n, 15, 0⟩
/-- `PD_CH_ENERGY_LO`, R240. -/
def Rg.PD_CH_ENERGY_LO (n : Nat) : Nat := 0x200B0400 + 0x8 * n
def Fd.PD_CH_ENERGY_LO_COUNT (n : Nat) : Fld := ⟨0x200B0400 + 0x8 * n, 31, 0⟩
/-- `PD_CH_ENERGY_HI`, R240. -/
def Rg.PD_CH_ENERGY_HI (n : Nat) : Nat := 0x200B0404 + 0x8 * n
def Fd.PD_CH_ENERGY_HI_COUNT (n : Nat) : Fld := ⟨0x200B0404 + 0x8 * n, 31, 0⟩
/-- `PD_CH_EVENT`, R240. -/
def Rg.PD_CH_EVENT (n : Nat) (c : Nat) : Nat := 0x200B0600 + 0x10 * n + 0x4 * c
def Fd.PD_CH_EVENT_COUNT (n : Nat) (c : Nat) : Fld := ⟨0x200B0600 + 0x10 * n + 0x4 * c, 31, 0⟩
/-- `PD_CH_SAT`, R240. -/
def Rg.PD_CH_SAT (n : Nat) : Nat := 0x200B0A00 + 0x4 * n
def Fd.PD_CH_SAT_IE (n : Nat) : Fld := ⟨0x200B0A00 + 0x4 * n, 20, 16⟩
def Fd.PD_CH_SAT_SAT (n : Nat) : Fld := ⟨0x200B0A00 + 0x4 * n, 4, 0⟩

/-! ### 11_power_faults.md -/

/-- `PD_FEED_STATUS`, R258. -/
def Rg.PD_FEED_STATUS : Nat := 0x200B0030
def Fd.PD_FEED_STATUS_STICKY : Fld := ⟨0x200B0030, 21, 16⟩
def Fd.PD_FEED_STATUS_STATE_B : Fld := ⟨0x200B0030, 6, 4⟩
def Fd.PD_FEED_STATUS_STATE_A : Fld := ⟨0x200B0030, 2, 0⟩
/-- `PD_LAYBY_CTRL`, R258. -/
def Rg.PD_LAYBY_CTRL : Nat := 0x200B0040
def Fd.PD_LAYBY_CTRL_RESULT : Fld := ⟨0x200B0040, 31, 16⟩
def Fd.PD_LAYBY_CTRL_DISTRICT : Fld := ⟨0x200B0040, 13, 8⟩
def Fd.PD_LAYBY_CTRL_OP : Fld := ⟨0x200B0040, 2, 0⟩
/-- `PD_DIAG_CFG`, R258. -/
def Rg.PD_DIAG_CFG (n : Nat) : Nat := 0x200B0B00 + 0x4 * n
def Fd.PD_DIAG_CFG_STB_EN (n : Nat) : Fld := ⟨0x200B0B00 + 0x4 * n, 2, 2⟩
def Fd.PD_DIAG_CFG_OL_OFF_EN (n : Nat) : Fld := ⟨0x200B0B00 + 0x4 * n, 1, 1⟩
def Fd.PD_DIAG_CFG_OL_ON_EN (n : Nat) : Fld := ⟨0x200B0B00 + 0x4 * n, 0, 0⟩
/-- `PD_DIAG_STATUS`, R258. -/
def Rg.PD_DIAG_STATUS (n : Nat) : Nat := 0x200B0C00 + 0x10 * n
def Fd.PD_DIAG_STATUS_LAYBY (n : Nat) : Fld := ⟨0x200B0C00 + 0x10 * n, 31, 31⟩
def Fd.PD_DIAG_STATUS_CAUSE (n : Nat) : Fld := ⟨0x200B0C00 + 0x10 * n, 30, 28⟩
def Fd.PD_DIAG_STATUS_STICKY (n : Nat) : Fld := ⟨0x200B0C00 + 0x10 * n, 21, 16⟩
def Fd.PD_DIAG_STATUS_SUSPENDED (n : Nat) : Fld := ⟨0x200B0C00 + 0x10 * n, 5, 5⟩
def Fd.PD_DIAG_STATUS_HOT (n : Nat) : Fld := ⟨0x200B0C00 + 0x10 * n, 4, 4⟩
def Fd.PD_DIAG_STATUS_REV (n : Nat) : Fld := ⟨0x200B0C00 + 0x10 * n, 3, 3⟩
def Fd.PD_DIAG_STATUS_STB (n : Nat) : Fld := ⟨0x200B0C00 + 0x10 * n, 2, 2⟩
def Fd.PD_DIAG_STATUS_OL_OFF (n : Nat) : Fld := ⟨0x200B0C00 + 0x10 * n, 1, 1⟩
def Fd.PD_DIAG_STATUS_OL_ON (n : Nat) : Fld := ⟨0x200B0C00 + 0x10 * n, 0, 0⟩
/-- `PD_FAULT_REC`, R258. -/
def Rg.PD_FAULT_REC (n : Nat) : Nat := 0x200B0C04 + 0x10 * n
def Fd.PD_FAULT_REC_CODE (n : Nat) : Fld := ⟨0x200B0C04 + 0x10 * n, 31, 16⟩
def Fd.PD_FAULT_REC_COUNT (n : Nat) : Fld := ⟨0x200B0C04 + 0x10 * n, 15, 0⟩
/-- `PD_FAULT_TIME_LO`, R258. -/
def Rg.PD_FAULT_TIME_LO (n : Nat) : Nat := 0x200B0C08 + 0x10 * n
def Fd.PD_FAULT_TIME_LO_TIME (n : Nat) : Fld := ⟨0x200B0C08 + 0x10 * n, 31, 0⟩
/-- `PD_FAULT_TIME_HI`, R258. -/
def Rg.PD_FAULT_TIME_HI (n : Nat) : Nat := 0x200B0C0C + 0x10 * n
def Fd.PD_FAULT_TIME_HI_TIME (n : Nat) : Fld := ⟨0x200B0C0C + 0x10 * n, 31, 0⟩

/-! ### 12_can_fd.md -/

/-- `CAN_MODE`, R282. -/
def Rg.CAN_MODE (k : Nat) : Nat := 0x200C0000 + 0x1000 * k
def Fd.CAN_MODE_ACTUAL (k : Nat) : Fld := ⟨0x200C0000 + 0x1000 * k, 17, 16⟩
def Fd.CAN_MODE_MODE (k : Nat) : Fld := ⟨0x200C0000 + 0x1000 * k, 1, 0⟩
/-- `CAN_STATUS`, R282. -/
def Rg.CAN_STATUS (k : Nat) : Nat := 0x200C0004 + 0x1000 * k
def Fd.CAN_STATUS_REC (k : Nat) : Fld := ⟨0x200C0004 + 0x1000 * k, 31, 24⟩
def Fd.CAN_STATUS_TEC (k : Nat) : Fld := ⟨0x200C0004 + 0x1000 * k, 23, 15⟩
def Fd.CAN_STATUS_RECOV (k : Nat) : Fld := ⟨0x200C0004 + 0x1000 * k, 14, 7⟩
def Fd.CAN_STATUS_LAST_ERR (k : Nat) : Fld := ⟨0x200C0004 + 0x1000 * k, 6, 3⟩
def Fd.CAN_STATUS_IDLE (k : Nat) : Fld := ⟨0x200C0004 + 0x1000 * k, 2, 2⟩
def Fd.CAN_STATUS_ESTATE (k : Nat) : Fld := ⟨0x200C0004 + 0x1000 * k, 1, 0⟩
/-- `CAN_TIMING_N`, R282. -/
def Rg.CAN_TIMING_N (k : Nat) : Nat := 0x200C0008 + 0x1000 * k
def Fd.CAN_TIMING_N_FD (k : Nat) : Fld := ⟨0x200C0008 + 0x1000 * k, 31, 31⟩
def Fd.CAN_TIMING_N_NSJW (k : Nat) : Fld := ⟨0x200C0008 + 0x1000 * k, 29, 23⟩
def Fd.CAN_TIMING_N_NTSEG2 (k : Nat) : Fld := ⟨0x200C0008 + 0x1000 * k, 22, 16⟩
def Fd.CAN_TIMING_N_NTSEG1 (k : Nat) : Fld := ⟨0x200C0008 + 0x1000 * k, 15, 8⟩
def Fd.CAN_TIMING_N_NBRP (k : Nat) : Fld := ⟨0x200C0008 + 0x1000 * k, 7, 0⟩
/-- `CAN_TIMING_D`, R282. -/
def Rg.CAN_TIMING_D (k : Nat) : Nat := 0x200C000C + 0x1000 * k
def Fd.CAN_TIMING_D_DSJW (k : Nat) : Fld := ⟨0x200C000C + 0x1000 * k, 27, 24⟩
def Fd.CAN_TIMING_D_DTSEG2 (k : Nat) : Fld := ⟨0x200C000C + 0x1000 * k, 19, 16⟩
def Fd.CAN_TIMING_D_DTSEG1 (k : Nat) : Fld := ⟨0x200C000C + 0x1000 * k, 12, 8⟩
def Fd.CAN_TIMING_D_DBRP (k : Nat) : Fld := ⟨0x200C000C + 0x1000 * k, 4, 0⟩
/-- `CAN_TDC`, R282. -/
def Rg.CAN_TDC (k : Nat) : Nat := 0x200C0010 + 0x1000 * k
def Fd.CAN_TDC_MEASURED (k : Nat) : Fld := ⟨0x200C0010 + 0x1000 * k, 31, 24⟩
def Fd.CAN_TDC_EN (k : Nat) : Fld := ⟨0x200C0010 + 0x1000 * k, 15, 15⟩
def Fd.CAN_TDC_TDCO (k : Nat) : Fld := ⟨0x200C0010 + 0x1000 * k, 6, 0⟩
/-- `CAN_TT_CFG`, R282. -/
def Rg.CAN_TT_CFG (k : Nat) : Nat := 0x200C0020 + 0x1000 * k
def Fd.CAN_TT_CFG_EN (k : Nat) : Fld := ⟨0x200C0020 + 0x1000 * k, 31, 31⟩
def Fd.CAN_TT_CFG_REF (k : Nat) : Fld := ⟨0x200C0020 + 0x1000 * k, 30, 30⟩
def Fd.CAN_TT_CFG_CYCLES (k : Nat) : Fld := ⟨0x200C0020 + 0x1000 * k, 23, 20⟩
def Fd.CAN_TT_CFG_CYCLE_US (k : Nat) : Fld := ⟨0x200C0020 + 0x1000 * k, 19, 0⟩
/-- `CAN_TT_REF`, R282. -/
def Rg.CAN_TT_REF (k : Nat) : Nat := 0x200C0024 + 0x1000 * k
def Fd.CAN_TT_REF_IDE (k : Nat) : Fld := ⟨0x200C0024 + 0x1000 * k, 31, 31⟩
def Fd.CAN_TT_REF_ID (k : Nat) : Fld := ⟨0x200C0024 + 0x1000 * k, 28, 0⟩
/-- `CAN_TT_STATUS`, R282. -/
def Rg.CAN_TT_STATUS (k : Nat) : Nat := 0x200C0028 + 0x1000 * k
def Fd.CAN_TT_STATUS_FIT (k : Nat) : Fld := ⟨0x200C0028 + 0x1000 * k, 31, 22⟩
def Fd.CAN_TT_STATUS_FIT_VALID (k : Nat) : Fld := ⟨0x200C0028 + 0x1000 * k, 21, 21⟩
def Fd.CAN_TT_STATUS_SYNC (k : Nat) : Fld := ⟨0x200C0028 + 0x1000 * k, 15, 15⟩
def Fd.CAN_TT_STATUS_CYCLE (k : Nat) : Fld := ⟨0x200C0028 + 0x1000 * k, 9, 6⟩
def Fd.CAN_TT_STATUS_WINDOW (k : Nat) : Fld := ⟨0x200C0028 + 0x1000 * k, 5, 0⟩
/-- `CAN_GWY_Q`, R282. -/
def Rg.CAN_GWY_Q (k : Nat) : Nat := 0x200C0030 + 0x1000 * k
def Fd.CAN_GWY_Q_RETRY (k : Nat) : Fld := ⟨0x200C0030 + 0x1000 * k, 20, 16⟩
def Fd.CAN_GWY_Q_OCC (k : Nat) : Fld := ⟨0x200C0030 + 0x1000 * k, 5, 0⟩
/-- `CAN_EVENT`, R282. -/
def Rg.CAN_EVENT (k : Nat) (c : Nat) : Nat := 0x200C0040 + 0x1000 * k + 0x4 * c
def Fd.CAN_EVENT_COUNT (k : Nat) (c : Nat) : Fld := ⟨0x200C0040 + 0x1000 * k + 0x4 * c, 31, 0⟩
/-- `CAN_EVENT_SAT`, R282. -/
def Rg.CAN_EVENT_SAT (k : Nat) : Nat := 0x200C0080 + 0x1000 * k
def Fd.CAN_EVENT_SAT_IE (k : Nat) : Fld := ⟨0x200C0080 + 0x1000 * k, 31, 16⟩
def Fd.CAN_EVENT_SAT_SAT (k : Nat) : Fld := ⟨0x200C0080 + 0x1000 * k, 15, 0⟩
/-- `CAN_MB_SEL`, R282. -/
def Rg.CAN_MB_SEL (k : Nat) : Nat := 0x200C00C0 + 0x1000 * k
def Fd.CAN_MB_SEL_BUF (k : Nat) : Fld := ⟨0x200C00C0 + 0x1000 * k, 6, 0⟩
/-- `CAN_MB_TIME_LO`, R282. -/
def Rg.CAN_MB_TIME_LO (k : Nat) : Nat := 0x200C00C8 + 0x1000 * k
def Fd.CAN_MB_TIME_LO_TIME (k : Nat) : Fld := ⟨0x200C00C8 + 0x1000 * k, 31, 0⟩
/-- `CAN_MB_TIME_HI`, R282. -/
def Rg.CAN_MB_TIME_HI (k : Nat) : Nat := 0x200C00CC + 0x1000 * k
def Fd.CAN_MB_TIME_HI_TIME (k : Nat) : Fld := ⟨0x200C00CC + 0x1000 * k, 31, 0⟩
/-- `CAN_MB_WIN`, R282. -/
def Rg.CAN_MB_WIN (k : Nat) (w : Nat) : Nat := 0x200C0100 + 0x1000 * k + 0x4 * w
def Fd.CAN_MB_WIN_WORD (k : Nat) (w : Nat) : Fld := ⟨0x200C0100 + 0x1000 * k + 0x4 * w, 31, 0⟩
/-- `CAN_MB_CFG`, R282. -/
def Rg.CAN_MB_CFG (k : Nat) (b : Nat) : Nat := 0x200C0200 + 0x1000 * k + 0x4 * b
def Fd.CAN_MB_CFG_EN (k : Nat) (b : Nat) : Fld := ⟨0x200C0200 + 0x1000 * k + 0x4 * b, 31, 31⟩
def Fd.CAN_MB_CFG_DIR (k : Nat) (b : Nat) : Fld := ⟨0x200C0200 + 0x1000 * k + 0x4 * b, 30, 30⟩
def Fd.CAN_MB_CFG_REPEAT (k : Nat) (b : Nat) : Fld := ⟨0x200C0200 + 0x1000 * k + 0x4 * b, 29, 29⟩
def Fd.CAN_MB_CFG_RETRY (k : Nat) (b : Nat) : Fld := ⟨0x200C0200 + 0x1000 * k + 0x4 * b, 28, 24⟩
def Fd.CAN_MB_CFG_HELD (k : Nat) (b : Nat) : Fld := ⟨0x200C0200 + 0x1000 * k + 0x4 * b, 8, 8⟩
/-- `CAN_MB_FILT`, R282. -/
def Rg.CAN_MB_FILT (k : Nat) (b : Nat) : Nat := 0x200C0400 + 0x1000 * k + 0x4 * b
def Fd.CAN_MB_FILT_IDE (k : Nat) (b : Nat) : Fld := ⟨0x200C0400 + 0x1000 * k + 0x4 * b, 31, 31⟩
def Fd.CAN_MB_FILT_ID (k : Nat) (b : Nat) : Fld := ⟨0x200C0400 + 0x1000 * k + 0x4 * b, 28, 0⟩
/-- `CAN_MB_MASK`, R282. -/
def Rg.CAN_MB_MASK (k : Nat) (b : Nat) : Nat := 0x200C0600 + 0x1000 * k + 0x4 * b
def Fd.CAN_MB_MASK_MASK (k : Nat) (b : Nat) : Fld := ⟨0x200C0600 + 0x1000 * k + 0x4 * b, 28, 0⟩
/-- `CAN_MB_STAT`, R282. -/
def Rg.CAN_MB_STAT (k : Nat) (b : Nat) : Nat := 0x200C0800 + 0x1000 * k + 0x4 * b
def Fd.CAN_MB_STAT_CODE (k : Nat) (b : Nat) : Fld := ⟨0x200C0800 + 0x1000 * k + 0x4 * b, 31, 16⟩
def Fd.CAN_MB_STAT_RETRIES (k : Nat) (b : Nat) : Fld := ⟨0x200C0800 + 0x1000 * k + 0x4 * b, 15, 12⟩
def Fd.CAN_MB_STAT_BUSOFF_SEEN (k : Nat) (b : Nat) : Fld := ⟨0x200C0800 + 0x1000 * k + 0x4 * b, 10, 10⟩
def Fd.CAN_MB_STAT_TOO_LATE (k : Nat) (b : Nat) : Fld := ⟨0x200C0800 + 0x1000 * k + 0x4 * b, 9, 9⟩
def Fd.CAN_MB_STAT_SHADOW (k : Nat) (b : Nat) : Fld := ⟨0x200C0800 + 0x1000 * k + 0x4 * b, 8, 8⟩
def Fd.CAN_MB_STAT_OVR (k : Nat) (b : Nat) : Fld := ⟨0x200C0800 + 0x1000 * k + 0x4 * b, 7, 7⟩
def Fd.CAN_MB_STAT_LOCKED (k : Nat) (b : Nat) : Fld := ⟨0x200C0800 + 0x1000 * k + 0x4 * b, 6, 6⟩
def Fd.CAN_MB_STAT_NEW (k : Nat) (b : Nat) : Fld := ⟨0x200C0800 + 0x1000 * k + 0x4 * b, 5, 5⟩
def Fd.CAN_MB_STAT_STATE (k : Nat) (b : Nat) : Fld := ⟨0x200C0800 + 0x1000 * k + 0x4 * b, 1, 0⟩
/-- `CAN_MB_CTRL`, R282. -/
def Rg.CAN_MB_CTRL (k : Nat) (b : Nat) : Nat := 0x200C0A00 + 0x1000 * k + 0x4 * b
def Fd.CAN_MB_CTRL_CANCEL (k : Nat) (b : Nat) : Fld := ⟨0x200C0A00 + 0x1000 * k + 0x4 * b, 1, 1⟩
def Fd.CAN_MB_CTRL_TX (k : Nat) (b : Nat) : Fld := ⟨0x200C0A00 + 0x1000 * k + 0x4 * b, 0, 0⟩

/-! ### 13_network_sleep_and_wake.md -/

/-- `NM_TRX_CTRL`, R302. -/
def Rg.NM_TRX_CTRL (k : Nat) : Nat := 0x200D0000 + 0x4 * k
def Fd.NM_TRX_CTRL_FS (k : Nat) : Fld := ⟨0x200D0000 + 0x4 * k, 31, 31⟩
def Fd.NM_TRX_CTRL_STATE (k : Nat) : Fld := ⟨0x200D0000 + 0x4 * k, 25, 24⟩
def Fd.NM_TRX_CTRL_ID_BASE (k : Nat) : Fld := ⟨0x200D0000 + 0x4 * k, 20, 16⟩
def Fd.NM_TRX_CTRL_SLEEP (k : Nat) : Fld := ⟨0x200D0000 + 0x4 * k, 10, 10⟩
def Fd.NM_TRX_CTRL_WAKE_MODE (k : Nat) : Fld := ⟨0x200D0000 + 0x4 * k, 9, 8⟩
def Fd.NM_TRX_CTRL_FEC_WAKE (k : Nat) : Fld := ⟨0x200D0000 + 0x4 * k, 7, 7⟩
def Fd.NM_TRX_CTRL_DATA_EN (k : Nat) : Fld := ⟨0x200D0000 + 0x4 * k, 6, 6⟩
def Fd.NM_TRX_CTRL_DLC_EN (k : Nat) : Fld := ⟨0x200D0000 + 0x4 * k, 5, 5⟩
def Fd.NM_TRX_CTRL_DLC (k : Nat) : Fld := ⟨0x200D0000 + 0x4 * k, 3, 0⟩
/-- `NM_SWK_ID`, R302. -/
def Rg.NM_SWK_ID (k : Nat) : Nat := 0x200D0020 + 0x4 * k
def Fd.NM_SWK_ID_IDE (k : Nat) : Fld := ⟨0x200D0020 + 0x4 * k, 31, 31⟩
def Fd.NM_SWK_ID_ID (k : Nat) : Fld := ⟨0x200D0020 + 0x4 * k, 28, 0⟩
/-- `NM_SWK_MASK`, R302. -/
def Rg.NM_SWK_MASK (k : Nat) : Nat := 0x200D0040 + 0x4 * k
def Fd.NM_SWK_MASK_MASK (k : Nat) : Fld := ⟨0x200D0040 + 0x4 * k, 28, 0⟩
/-- `NM_SWK_DMASK_LO`, R302. -/
def Rg.NM_SWK_DMASK_LO (k : Nat) : Nat := 0x200D0060 + 0x8 * k
def Fd.NM_SWK_DMASK_LO_DMASK (k : Nat) : Fld := ⟨0x200D0060 + 0x8 * k, 31, 0⟩
/-- `NM_SWK_DMASK_HI`, R302. -/
def Rg.NM_SWK_DMASK_HI (k : Nat) : Nat := 0x200D0064 + 0x8 * k
def Fd.NM_SWK_DMASK_HI_DMASK (k : Nat) : Fld := ⟨0x200D0064 + 0x8 * k, 31, 0⟩
/-- `NM_RING_CTRL`, R302. -/
def Rg.NM_RING_CTRL (r : Nat) : Nat := 0x200D0100 + 0x4 * r
def Fd.NM_RING_CTRL_CONSENT (r : Nat) : Fld := ⟨0x200D0100 + 0x4 * r, 31, 31⟩
def Fd.NM_RING_CTRL_LOCAL_IGN (r : Nat) : Fld := ⟨0x200D0100 + 0x4 * r, 16, 16⟩
def Fd.NM_RING_CTRL_LOCAL_SP (r : Nat) : Fld := ⟨0x200D0100 + 0x4 * r, 15, 0⟩
/-- `NM_MED_STATUS`, R302. -/
def Rg.NM_MED_STATUS (m : Nat) : Nat := 0x200D0200 + 0x4 * m
def Fd.NM_MED_STATUS_NODE (m : Nat) : Fld := ⟨0x200D0200 + 0x4 * m, 29, 24⟩
def Fd.NM_MED_STATUS_RING (m : Nat) : Fld := ⟨0x200D0200 + 0x4 * m, 19, 16⟩
def Fd.NM_MED_STATUS_SUCC (m : Nat) : Fld := ⟨0x200D0200 + 0x4 * m, 13, 8⟩
def Fd.NM_MED_STATUS_TOKEN (m : Nat) : Fld := ⟨0x200D0200 + 0x4 * m, 3, 3⟩
def Fd.NM_MED_STATUS_STATE (m : Nat) : Fld := ⟨0x200D0200 + 0x4 * m, 2, 0⟩
/-- `NM_MED_PRESENT_LO`, R302. -/
def Rg.NM_MED_PRESENT_LO (m : Nat) : Nat := 0x200D0300 + 0x8 * m
def Fd.NM_MED_PRESENT_LO_NODES (m : Nat) : Fld := ⟨0x200D0300 + 0x8 * m, 31, 0⟩
/-- `NM_MED_PRESENT_HI`, R302. -/
def Rg.NM_MED_PRESENT_HI (m : Nat) : Nat := 0x200D0304 + 0x8 * m
def Fd.NM_MED_PRESENT_HI_NODES (m : Nat) : Fld := ⟨0x200D0304 + 0x8 * m, 31, 0⟩
/-- `NM_MED_READY_LO`, R302. -/
def Rg.NM_MED_READY_LO (m : Nat) : Nat := 0x200D0380 + 0x8 * m
def Fd.NM_MED_READY_LO_NODES (m : Nat) : Fld := ⟨0x200D0380 + 0x8 * m, 31, 0⟩
/-- `NM_MED_READY_HI`, R302. -/
def Rg.NM_MED_READY_HI (m : Nat) : Nat := 0x200D0384 + 0x8 * m
def Fd.NM_MED_READY_HI_NODES (m : Nat) : Fld := ⟨0x200D0384 + 0x8 * m, 31, 0⟩
/-- `NM_MED_EVENT`, R302. -/
def Rg.NM_MED_EVENT (m : Nat) (c : Nat) : Nat := 0x200D0400 + 0x20 * m + 0x4 * c
def Fd.NM_MED_EVENT_COUNT (m : Nat) (c : Nat) : Fld := ⟨0x200D0400 + 0x20 * m + 0x4 * c, 31, 0⟩
/-- `NM_MED_SAT`, R302. -/
def Rg.NM_MED_SAT (m : Nat) : Nat := 0x200D0600 + 0x4 * m
def Fd.NM_MED_SAT_IE (m : Nat) : Fld := ⟨0x200D0600 + 0x4 * m, 23, 16⟩
def Fd.NM_MED_SAT_SAT (m : Nat) : Fld := ⟨0x200D0600 + 0x4 * m, 7, 0⟩
/-- `NM_ETH_CTRL`, R302. -/
def Rg.NM_ETH_CTRL (p : Nat) : Nat := 0x200D0700 + 0x4 * p
def Fd.NM_ETH_CTRL_FWD (p : Nat) : Fld := ⟨0x200D0700 + 0x4 * p, 31, 18⟩
def Fd.NM_ETH_CTRL_ACCEPT_REMOTE (p : Nat) : Fld := ⟨0x200D0700 + 0x4 * p, 2, 2⟩
def Fd.NM_ETH_CTRL_OP (p : Nat) : Fld := ⟨0x200D0700 + 0x4 * p, 1, 0⟩
/-- `NM_ETH_STATUS`, R302. -/
def Rg.NM_ETH_STATUS (p : Nat) : Nat := 0x200D0780 + 0x4 * p
def Fd.NM_ETH_STATUS_RESULT (p : Nat) : Fld := ⟨0x200D0780 + 0x4 * p, 31, 16⟩
def Fd.NM_ETH_STATUS_STATE (p : Nat) : Fld := ⟨0x200D0780 + 0x4 * p, 2, 0⟩

/-! ### 14_signal_pins_and_lin.md -/

/-- `PIN_CFG`, R318. -/
def Rg.PIN_CFG (n : Nat) : Nat := 0x200E0000 + 0x4 * n
def Fd.PIN_CFG_FUNCTION (n : Nat) : Fld := ⟨0x200E0000 + 0x4 * n, 23, 16⟩
def Fd.PIN_CFG_PARAM (n : Nat) : Fld := ⟨0x200E0000 + 0x4 * n, 15, 0⟩
/-- `PIN_STATUS`, R318. -/
def Rg.PIN_STATUS (n : Nat) : Nat := 0x200E0100 + 0x4 * n
def Fd.PIN_STATUS_VALUE (n : Nat) : Fld := ⟨0x200E0100 + 0x4 * n, 31, 16⟩
def Fd.PIN_STATUS_STICKY (n : Nat) : Fld := ⟨0x200E0100 + 0x4 * n, 12, 8⟩
def Fd.PIN_STATUS_LATCHED (n : Nat) : Fld := ⟨0x200E0100 + 0x4 * n, 4, 4⟩
def Fd.PIN_STATUS_DIAG (n : Nat) : Fld := ⟨0x200E0100 + 0x4 * n, 3, 2⟩
def Fd.PIN_STATUS_BOUND (n : Nat) : Fld := ⟨0x200E0100 + 0x4 * n, 1, 1⟩
def Fd.PIN_STATUS_OUT (n : Nat) : Fld := ⟨0x200E0100 + 0x4 * n, 0, 0⟩
/-- `PIN_OUT`, R318. -/
def Rg.PIN_OUT (n : Nat) : Nat := 0x200E0200 + 0x4 * n
def Fd.PIN_OUT_VALUE (n : Nat) : Fld := ⟨0x200E0200 + 0x4 * n, 9, 0⟩
/-- `LIN_CTRL`, R318. -/
def Rg.LIN_CTRL (l : Nat) : Nat := 0x200E8000 + 0x1000 * l
def Fd.LIN_CTRL_RESULT (l : Nat) : Fld := ⟨0x200E8000 + 0x1000 * l, 31, 16⟩
def Fd.LIN_CTRL_TABLE (l : Nat) : Fld := ⟨0x200E8000 + 0x1000 * l, 9, 8⟩
def Fd.LIN_CTRL_OP (l : Nat) : Fld := ⟨0x200E8000 + 0x1000 * l, 2, 0⟩
/-- `LIN_STATUS`, R318. -/
def Rg.LIN_STATUS (l : Nat) : Nat := 0x200E8004 + 0x1000 * l
def Fd.LIN_STATUS_STATE (l : Nat) : Fld := ⟨0x200E8004 + 0x1000 * l, 14, 12⟩
def Fd.LIN_STATUS_TABLE (l : Nat) : Fld := ⟨0x200E8004 + 0x1000 * l, 9, 8⟩
def Fd.LIN_STATUS_SLOT (l : Nat) : Fld := ⟨0x200E8004 + 0x1000 * l, 4, 0⟩
/-- `LIN_EVENT`, R318. -/
def Rg.LIN_EVENT (l : Nat) (c : Nat) : Nat := 0x200E8010 + 0x1000 * l + 0x4 * c
def Fd.LIN_EVENT_COUNT (l : Nat) (c : Nat) : Fld := ⟨0x200E8010 + 0x1000 * l + 0x4 * c, 31, 0⟩
/-- `LIN_EVENT_SAT`, R318. -/
def Rg.LIN_EVENT_SAT (l : Nat) : Nat := 0x200E8020 + 0x1000 * l
def Fd.LIN_EVENT_SAT_IE (l : Nat) : Fld := ⟨0x200E8020 + 0x1000 * l, 19, 16⟩
def Fd.LIN_EVENT_SAT_SAT (l : Nat) : Fld := ⟨0x200E8020 + 0x1000 * l, 3, 0⟩
/-- `LIN_FRAME_CFG`, R318. -/
def Rg.LIN_FRAME_CFG (l : Nat) (j : Nat) : Nat := 0x200E8100 + 0x1000 * l + 0x4 * j
def Fd.LIN_FRAME_CFG_CLASSIC (l : Nat) (j : Nat) : Fld := ⟨0x200E8100 + 0x1000 * l + 0x4 * j, 5, 5⟩
def Fd.LIN_FRAME_CFG_PUBLISH (l : Nat) (j : Nat) : Fld := ⟨0x200E8100 + 0x1000 * l + 0x4 * j, 4, 4⟩
def Fd.LIN_FRAME_CFG_LEN (l : Nat) (j : Nat) : Fld := ⟨0x200E8100 + 0x1000 * l + 0x4 * j, 3, 0⟩
/-- `LIN_DATA_LO`, R318. -/
def Rg.LIN_DATA_LO (l : Nat) (j : Nat) : Nat := 0x200E8200 + 0x1000 * l + 0x8 * j
def Fd.LIN_DATA_LO_DATA (l : Nat) (j : Nat) : Fld := ⟨0x200E8200 + 0x1000 * l + 0x8 * j, 31, 0⟩
/-- `LIN_DATA_HI`, R318. -/
def Rg.LIN_DATA_HI (l : Nat) (j : Nat) : Nat := 0x200E8204 + 0x1000 * l + 0x8 * j
def Fd.LIN_DATA_HI_DATA (l : Nat) (j : Nat) : Fld := ⟨0x200E8204 + 0x1000 * l + 0x8 * j, 31, 0⟩

/-! ### 15_core_pairs.md -/

/-- `CP_PAIR_CTRL`, R346. -/
def Rg.CP_PAIR_CTRL (p : Nat) : Nat := 0x20040000 + 0x4 * p
def Fd.CP_PAIR_CTRL_RESULT (p : Nat) : Fld := ⟨0x20040000 + 0x4 * p, 31, 16⟩
def Fd.CP_PAIR_CTRL_OP (p : Nat) : Fld := ⟨0x20040000 + 0x4 * p, 2, 0⟩
/-- `CP_PAIR_STATUS`, R346. -/
def Rg.CP_PAIR_STATUS (p : Nat) : Nat := 0x20040010 + 0x4 * p
def Fd.CP_PAIR_STATUS_WINDOW_LOG2 (p : Nat) : Fld := ⟨0x20040010 + 0x4 * p, 28, 24⟩
def Fd.CP_PAIR_STATUS_BIST (p : Nat) : Fld := ⟨0x20040010 + 0x4 * p, 23, 22⟩
def Fd.CP_PAIR_STATUS_DEGRADED (p : Nat) : Fld := ⟨0x20040010 + 0x4 * p, 21, 21⟩
def Fd.CP_PAIR_STATUS_PERMIT (p : Nat) : Fld := ⟨0x20040010 + 0x4 * p, 20, 19⟩
def Fd.CP_PAIR_STATUS_INIT (p : Nat) : Fld := ⟨0x20040010 + 0x4 * p, 18, 18⟩
def Fd.CP_PAIR_STATUS_FAULT (p : Nat) : Fld := ⟨0x20040010 + 0x4 * p, 10, 8⟩
def Fd.CP_PAIR_STATUS_GATE (p : Nat) : Fld := ⟨0x20040010 + 0x4 * p, 7, 3⟩
def Fd.CP_PAIR_STATUS_STATE (p : Nat) : Fld := ⟨0x20040010 + 0x4 * p, 2, 0⟩
/-- `CP_ENTRY_LO`, R346. -/
def Rg.CP_ENTRY_LO (p : Nat) : Nat := 0x20040020 + 0x8 * p
def Fd.CP_ENTRY_LO_ADDR (p : Nat) : Fld := ⟨0x20040020 + 0x8 * p, 31, 2⟩
/-- `CP_ENTRY_HI`, R346. -/
def Rg.CP_ENTRY_HI (p : Nat) : Nat := 0x20040024 + 0x8 * p
def Fd.CP_ENTRY_HI_ADDR_HI (p : Nat) : Fld := ⟨0x20040024 + 0x8 * p, 1, 0⟩
/-- `CP_SIG_LO`, R346. -/
def Rg.CP_SIG_LO (p : Nat) : Nat := 0x20040040 + 0x8 * p
def Fd.CP_SIG_LO_SIG (p : Nat) : Fld := ⟨0x20040040 + 0x8 * p, 31, 0⟩
/-- `CP_SIG_HI`, R346. -/
def Rg.CP_SIG_HI (p : Nat) : Nat := 0x20040044 + 0x8 * p
def Fd.CP_SIG_HI_SIG (p : Nat) : Fld := ⟨0x20040044 + 0x8 * p, 31, 0⟩
/-- `CP_FAULT_OUT`, R346. -/
def Rg.CP_FAULT_OUT : Nat := 0x20040060
def Fd.CP_FAULT_OUT_ASSERT : Fld := ⟨0x20040060, 31, 31⟩
def Fd.CP_FAULT_OUT_RELEASE : Fld := ⟨0x20040060, 30, 30⟩
def Fd.CP_FAULT_OUT_SW : Fld := ⟨0x20040060, 3, 3⟩
def Fd.CP_FAULT_OUT_CHECKER : Fld := ⟨0x20040060, 2, 2⟩
def Fd.CP_FAULT_OUT_PAIR : Fld := ⟨0x20040060, 1, 1⟩
def Fd.CP_FAULT_OUT_PIN : Fld := ⟨0x20040060, 0, 0⟩
/-- `CP_BOLLARD`, R346. -/
def Rg.CP_BOLLARD : Nat := 0x20040064
def Fd.CP_BOLLARD_CHECKER_FAULT : Fld := ⟨0x20040064, 31, 31⟩
def Fd.CP_BOLLARD_LAST_BIT : Fld := ⟨0x20040064, 29, 24⟩
def Fd.CP_BOLLARD_B_ERR : Fld := ⟨0x20040064, 1, 1⟩
def Fd.CP_BOLLARD_A_ERR : Fld := ⟨0x20040064, 0, 0⟩
/-- `CP_EVENT`, R346. -/
def Rg.CP_EVENT (p : Nat) (c : Nat) : Nat := 0x20040100 + 0x20 * p + 0x4 * c
def Fd.CP_EVENT_COUNT (p : Nat) (c : Nat) : Fld := ⟨0x20040100 + 0x20 * p + 0x4 * c, 31, 0⟩
/-- `CP_EVENT_SAT`, R346. -/
def Rg.CP_EVENT_SAT (p : Nat) : Nat := 0x20040180 + 0x4 * p
def Fd.CP_EVENT_SAT_IE (p : Nat) : Fld := ⟨0x20040180 + 0x4 * p, 23, 16⟩
def Fd.CP_EVENT_SAT_SAT (p : Nat) : Fld := ⟨0x20040180 + 0x4 * p, 7, 0⟩

/-! ### 16_worlds_and_memory.md -/

/-- `WG_FAULT`, R376. -/
def Rg.WG_FAULT : Nat := 0x20050000
def Fd.WG_FAULT_VALID : Fld := ⟨0x20050000, 31, 31⟩
def Fd.WG_FAULT_OVERWRITE : Fld := ⟨0x20050000, 30, 30⟩
def Fd.WG_FAULT_DISTRICT : Fld := ⟨0x20050000, 29, 24⟩
def Fd.WG_FAULT_INITIATOR : Fld := ⟨0x20050000, 23, 19⟩
def Fd.WG_FAULT_KIND : Fld := ⟨0x20050000, 18, 17⟩
def Fd.WG_FAULT_COURTYARD : Fld := ⟨0x20050000, 16, 13⟩
def Fd.WG_FAULT_TARGET : Fld := ⟨0x20050000, 12, 11⟩
def Fd.WG_FAULT_BANK_OFF : Fld := ⟨0x20050000, 10, 10⟩
/-- `WG_FAULT_ADDR_LO`, R376. -/
def Rg.WG_FAULT_ADDR_LO : Nat := 0x20050004
def Fd.WG_FAULT_ADDR_LO_ADDR : Fld := ⟨0x20050004, 31, 0⟩
/-- `WG_FAULT_ADDR_HI`, R376. -/
def Rg.WG_FAULT_ADDR_HI : Nat := 0x20050008
def Fd.WG_FAULT_ADDR_HI_ADDR : Fld := ⟨0x20050008, 31, 0⟩
/-- `WG_ECC_ADDR_LO`, R376. -/
def Rg.WG_ECC_ADDR_LO : Nat := 0x20050010
def Fd.WG_ECC_ADDR_LO_ADDR : Fld := ⟨0x20050010, 31, 3⟩
/-- `WG_ECC_ADDR_HI`, R376. -/
def Rg.WG_ECC_ADDR_HI : Nat := 0x20050014
def Fd.WG_ECC_ADDR_HI_VALID : Fld := ⟨0x20050014, 31, 31⟩
def Fd.WG_ECC_ADDR_HI_ADDR_HI : Fld := ⟨0x20050014, 1, 0⟩
/-- `WG_EVENT`, R376. -/
def Rg.WG_EVENT (c : Nat) : Nat := 0x20050020 + 0x4 * c
def Fd.WG_EVENT_COUNT (c : Nat) : Fld := ⟨0x20050020 + 0x4 * c, 31, 0⟩
/-- `WG_EVENT_SAT`, R376. -/
def Rg.WG_EVENT_SAT : Nat := 0x20050030
def Fd.WG_EVENT_SAT_IE : Fld := ⟨0x20050030, 19, 16⟩
def Fd.WG_EVENT_SAT_SAT : Fld := ⟨0x20050030, 3, 0⟩
/-- `WG_BANK_PWR`, R376. -/
def Rg.WG_BANK_PWR : Nat := 0x20050040
def Fd.WG_BANK_PWR_ON : Fld := ⟨0x20050040, 31, 0⟩
/-- `WG_RESERVE`, R376. -/
def Rg.WG_RESERVE : Nat := 0x20050050
def Fd.WG_RESERVE_RESULT : Fld := ⟨0x20050050, 31, 16⟩
def Fd.WG_RESERVE_HELD : Fld := ⟨0x20050050, 15, 8⟩
def Fd.WG_RESERVE_OP : Fld := ⟨0x20050050, 7, 6⟩
def Fd.WG_RESERVE_BLOCK : Fld := ⟨0x20050050, 3, 0⟩
/-- `WG_RESV_STATUS`, R376. -/
def Rg.WG_RESV_STATUS : Nat := 0x20050054
def Fd.WG_RESV_STATUS_BLOCKS : Fld := ⟨0x20050054, 15, 8⟩
/-- `WG_CY_STATUS`, R376. -/
def Rg.WG_CY_STATUS (c : Nat) : Nat := 0x20050100 + 0x4 * c
def Fd.WG_CY_STATUS_CODE (c : Nat) : Fld := ⟨0x20050100 + 0x4 * c, 31, 16⟩
def Fd.WG_CY_STATUS_STATE (c : Nat) : Fld := ⟨0x20050100 + 0x4 * c, 15, 14⟩
def Fd.WG_CY_STATUS_DISTRICT (c : Nat) : Fld := ⟨0x20050100 + 0x4 * c, 13, 8⟩
def Fd.WG_CY_STATUS_WAYS (c : Nat) : Fld := ⟨0x20050100 + 0x4 * c, 7, 4⟩
def Fd.WG_CY_STATUS_CACHE (c : Nat) : Fld := ⟨0x20050100 + 0x4 * c, 3, 3⟩
def Fd.WG_CY_STATUS_HART (c : Nat) : Fld := ⟨0x20050100 + 0x4 * c, 2, 0⟩
/-- `WG_RGN_BASE`, R376. -/
def Rg.WG_RGN_BASE (r : Nat) : Nat := 0x20051000 + 0x10 * r
def Fd.WG_RGN_BASE_BASE (r : Nat) : Fld := ⟨0x20051000 + 0x10 * r, 21, 0⟩
/-- `WG_RGN_SIZE`, R376. -/
def Rg.WG_RGN_SIZE (r : Nat) : Nat := 0x20051004 + 0x10 * r
def Fd.WG_RGN_SIZE_SIZE (r : Nat) : Fld := ⟨0x20051004 + 0x10 * r, 21, 0⟩
/-- `WG_RGN_ATTR`, R376. -/
def Rg.WG_RGN_ATTR (r : Nat) : Nat := 0x20051008 + 0x10 * r
def Fd.WG_RGN_ATTR_VALID (r : Nat) : Fld := ⟨0x20051008 + 0x10 * r, 31, 31⟩
def Fd.WG_RGN_ATTR_COURTYARD (r : Nat) : Fld := ⟨0x20051008 + 0x10 * r, 27, 24⟩
def Fd.WG_RGN_ATTR_DISTRICT (r : Nat) : Fld := ⟨0x20051008 + 0x10 * r, 21, 16⟩
def Fd.WG_RGN_ATTR_TARGET (r : Nat) : Fld := ⟨0x20051008 + 0x10 * r, 9, 8⟩
def Fd.WG_RGN_ATTR_PERM (r : Nat) : Fld := ⟨0x20051008 + 0x10 * r, 3, 0⟩
/-- `WG_REG_RIGHTS`, R376. -/
def Rg.WG_REG_RIGHTS (n : Nat) (d : Nat) : Nat := 0x20052000 + 0x100 * n + 0x4 * d
def Fd.WG_REG_RIGHTS_GROUPS (n : Nat) (d : Nat) : Fld := ⟨0x20052000 + 0x100 * n + 0x4 * d, 15, 0⟩

/-! ### 17_interrupts.md -/

/-- `IC_SRC_CFG`, R390. -/
def Rg.IC_SRC_CFG (s : Nat) : Nat := 0x20030000 + 0x4 * s
def Fd.IC_SRC_CFG_STATE (s : Nat) : Fld := ⟨0x20030000 + 0x4 * s, 31, 30⟩
def Fd.IC_SRC_CFG_TARGET (s : Nat) : Fld := ⟨0x20030000 + 0x4 * s, 29, 26⟩
def Fd.IC_SRC_CFG_LEVEL (s : Nat) : Fld := ⟨0x20030000 + 0x4 * s, 25, 25⟩
def Fd.IC_SRC_CFG_TARGETS (s : Nat) : Fld := ⟨0x20030000 + 0x4 * s, 24, 16⟩
def Fd.IC_SRC_CFG_PTR (s : Nat) : Fld := ⟨0x20030000 + 0x4 * s, 15, 12⟩
def Fd.IC_SRC_CFG_PRIO (s : Nat) : Fld := ⟨0x20030000 + 0x4 * s, 3, 0⟩
/-- `IC_COAL`, R390. -/
def Rg.IC_COAL (s : Nat) : Nat := 0x20030800 + 0x4 * s
def Fd.IC_COAL_COUNT (s : Nat) : Fld := ⟨0x20030800 + 0x4 * s, 31, 24⟩
def Fd.IC_COAL_TIME_US (s : Nat) : Fld := ⟨0x20030800 + 0x4 * s, 15, 0⟩
/-- `IC_SPURIOUS`, R390. -/
def Rg.IC_SPURIOUS (s : Nat) : Nat := 0x20031000 + 0x4 * s
def Fd.IC_SPURIOUS_COUNT (s : Nat) : Fld := ⟨0x20031000 + 0x4 * s, 31, 0⟩
/-- `IC_SPUR_SAT`, R390. -/
def Rg.IC_SPUR_SAT (k : Nat) : Nat := 0x20031800 + 0x4 * k
def Fd.IC_SPUR_SAT_BITS (k : Nat) : Fld := ⟨0x20031800 + 0x4 * k, 31, 0⟩
/-- `IC_SPUR_IE`, R390. -/
def Rg.IC_SPUR_IE (k : Nat) : Nat := 0x20031840 + 0x4 * k
def Fd.IC_SPUR_IE_BITS (k : Nat) : Fld := ⟨0x20031840 + 0x4 * k, 31, 0⟩
/-- `IC_TARGET_CTRL`, R390. -/
def Rg.IC_TARGET_CTRL (t : Nat) : Nat := 0x20032000 + 0x4 * t
def Fd.IC_TARGET_CTRL_AWAKE (t : Nat) : Fld := ⟨0x20032000 + 0x4 * t, 31, 31⟩
def Fd.IC_TARGET_CTRL_MEIP (t : Nat) : Fld := ⟨0x20032000 + 0x4 * t, 8, 8⟩
def Fd.IC_TARGET_CTRL_THRESHOLD (t : Nat) : Fld := ⟨0x20032000 + 0x4 * t, 3, 0⟩
/-- `IC_CLAIM`, R390. -/
def Rg.IC_CLAIM (t : Nat) : Nat := 0x20032040 + 0x4 * t
def Fd.IC_CLAIM_SOURCE (t : Nat) : Fld := ⟨0x20032040 + 0x4 * t, 8, 0⟩
/-- `IC_COMPLETE`, R390. -/
def Rg.IC_COMPLETE (t : Nat) : Nat := 0x20032080 + 0x4 * t
def Fd.IC_COMPLETE_NONE (t : Nat) : Fld := ⟨0x20032080 + 0x4 * t, 31, 31⟩
def Fd.IC_COMPLETE_SOURCE (t : Nat) : Fld := ⟨0x20032080 + 0x4 * t, 8, 0⟩
/-- `IC_NOTICE`, R390. -/
def Rg.IC_NOTICE (g : Nat) : Nat := 0x20033000 + 0x4 * g
def Fd.IC_NOTICE_EN (g : Nat) : Fld := ⟨0x20033000 + 0x4 * g, 31, 16⟩
def Fd.IC_NOTICE_PEND (g : Nat) : Fld := ⟨0x20033000 + 0x4 * g, 15, 0⟩
/-- `IC_EVENT_LATCH`, R390. -/
def Rg.IC_EVENT_LATCH : Nat := 0x20033400
def Fd.IC_EVENT_LATCH_CY_END : Fld := ⟨0x20033400, 1, 1⟩
def Fd.IC_EVENT_LATCH_ETH_WAKE : Fld := ⟨0x20033400, 0, 0⟩
/-- `IC_WAKE_SUBSET`, R390. -/
def Rg.IC_WAKE_SUBSET (k : Nat) : Nat := 0x20033500 + 0x4 * k
def Fd.IC_WAKE_SUBSET_VALID (k : Nat) : Fld := ⟨0x20033500 + 0x4 * k, 31, 31⟩
def Fd.IC_WAKE_SUBSET_WAKE_TARGET (k : Nat) : Fld := ⟨0x20033500 + 0x4 * k, 18, 16⟩
def Fd.IC_WAKE_SUBSET_SOURCE (k : Nat) : Fld := ⟨0x20033500 + 0x4 * k, 8, 0⟩
/-- `IC_PENDING`, R390. -/
def Rg.IC_PENDING (k : Nat) : Nat := 0x20033600 + 0x4 * k
def Fd.IC_PENDING_BITS (k : Nat) : Fld := ⟨0x20033600 + 0x4 * k, 31, 0⟩

/-! ### 18_keys_and_tamper.md -/

/-- `KS_STATUS`, R414. -/
def Rg.KS_STATUS : Nat := 0x20060000
def Fd.KS_STATUS_BAD : Fld := ⟨0x20060000, 15, 8⟩
def Fd.KS_STATUS_SLOT_ALERT : Fld := ⟨0x20060000, 7, 7⟩
def Fd.KS_STATUS_CS_AREA : Fld := ⟨0x20060000, 5, 5⟩
def Fd.KS_STATUS_PROV_OPEN : Fld := ⟨0x20060000, 4, 4⟩
def Fd.KS_STATUS_DRBG_OK : Fld := ⟨0x20060000, 3, 3⟩
def Fd.KS_STATUS_STATE : Fld := ⟨0x20060000, 2, 0⟩
/-- `KS_TAMPER_REC`, R414. -/
def Rg.KS_TAMPER_REC : Nat := 0x20060004
def Fd.KS_TAMPER_REC_NEW : Fld := ⟨0x20060004, 31, 31⟩
def Fd.KS_TAMPER_REC_PENDING : Fld := ⟨0x20060004, 30, 30⟩
def Fd.KS_TAMPER_REC_PHASE : Fld := ⟨0x20060004, 25, 24⟩
def Fd.KS_TAMPER_REC_SOURCES : Fld := ⟨0x20060004, 4, 0⟩
/-- `KS_TAMPER_TIME_LO`, R414. -/
def Rg.KS_TAMPER_TIME_LO : Nat := 0x20060008
def Fd.KS_TAMPER_TIME_LO_TIME : Fld := ⟨0x20060008, 31, 0⟩
/-- `KS_TAMPER_TIME_HI`, R414. -/
def Rg.KS_TAMPER_TIME_HI : Nat := 0x2006000C
def Fd.KS_TAMPER_TIME_HI_TIME : Fld := ⟨0x2006000C, 31, 0⟩
/-- `KS_TAMPER_POLICY`, R414. -/
def Rg.KS_TAMPER_POLICY : Nat := 0x20060010
def Fd.KS_TAMPER_POLICY_ABORT_ONLY : Fld := ⟨0x20060010, 4, 2⟩
/-- `KS_CHALLENGE`, R414. -/
def Rg.KS_CHALLENGE (k : Nat) : Nat := 0x20060020 + 0x4 * k
def Fd.KS_CHALLENGE_BYTES (k : Nat) : Fld := ⟨0x20060020 + 0x4 * k, 31, 0⟩
/-- `KS_SLOT_SEL`, R414. -/
def Rg.KS_SLOT_SEL : Nat := 0x20060040
def Fd.KS_SLOT_SEL_SLOT : Fld := ⟨0x20060040, 6, 0⟩
/-- `KS_SLOT_ATTR`, R414. -/
def Rg.KS_SLOT_ATTR : Nat := 0x20060044
def Fd.KS_SLOT_ATTR_VALUE : Fld := ⟨0x20060044, 31, 0⟩
/-- `KS_SLOT_KCV`, R414. -/
def Rg.KS_SLOT_KCV : Nat := 0x20060054
def Fd.KS_SLOT_KCV_VALUE : Fld := ⟨0x20060054, 31, 0⟩
/-- `KS_SLOT_OWNER_LO`, R414. -/
def Rg.KS_SLOT_OWNER_LO : Nat := 0x20060048
def Fd.KS_SLOT_OWNER_LO_OWNER : Fld := ⟨0x20060048, 31, 0⟩
/-- `KS_SLOT_OWNER_HI`, R414. -/
def Rg.KS_SLOT_OWNER_HI : Nat := 0x2006004C
def Fd.KS_SLOT_OWNER_HI_OWNER : Fld := ⟨0x2006004C, 31, 0⟩
/-- `KS_SLOT_STATE`, R414. -/
def Rg.KS_SLOT_STATE : Nat := 0x20060050
def Fd.KS_SLOT_STATE_GEN : Fld := ⟨0x20060050, 31, 16⟩
def Fd.KS_SLOT_STATE_STATE : Fld := ⟨0x20060050, 1, 0⟩
/-- `KS_PROV_LOCK`, R414. -/
def Rg.KS_PROV_LOCK : Nat := 0x20060060
def Fd.KS_PROV_LOCK_KEY : Fld := ⟨0x20060060, 31, 0⟩
/-- `KS_EVENT`, R414. -/
def Rg.KS_EVENT (c : Nat) : Nat := 0x20060080 + 0x4 * c
def Fd.KS_EVENT_COUNT (c : Nat) : Fld := ⟨0x20060080 + 0x4 * c, 31, 0⟩
/-- `KS_EVENT_SAT`, R414. -/
def Rg.KS_EVENT_SAT : Nat := 0x20060090
def Fd.KS_EVENT_SAT_IE : Fld := ⟨0x20060090, 19, 16⟩
def Fd.KS_EVENT_SAT_SAT : Fld := ⟨0x20060090, 3, 0⟩

/-! ### 19_update.md -/

/-- `UP_STATUS`, R433. -/
def Rg.UP_STATUS : Nat := 0x20070000
def Fd.UP_STATUS_CLASS : Fld := ⟨0x20070000, 17, 16⟩
def Fd.UP_STATUS_STATE_B : Fld := ⟨0x20070000, 14, 12⟩
def Fd.UP_STATUS_STATE_A : Fld := ⟨0x20070000, 10, 8⟩
def Fd.UP_STATUS_RUNNING : Fld := ⟨0x20070000, 0, 0⟩
/-- `UP_CMD`, R433. -/
def Rg.UP_CMD : Nat := 0x20070004
def Fd.UP_CMD_RESULT : Fld := ⟨0x20070004, 31, 16⟩
def Fd.UP_CMD_DONE : Fld := ⟨0x20070004, 15, 15⟩
def Fd.UP_CMD_OP : Fld := ⟨0x20070004, 2, 0⟩
/-- `UP_SRC_LO`, R433. -/
def Rg.UP_SRC_LO : Nat := 0x20070008
def Fd.UP_SRC_LO_VALUE : Fld := ⟨0x20070008, 31, 0⟩
/-- `UP_SRC_HI`, R433. -/
def Rg.UP_SRC_HI : Nat := 0x2007000C
def Fd.UP_SRC_HI_VALUE : Fld := ⟨0x2007000C, 1, 0⟩
/-- `UP_SRC_LEN`, R433. -/
def Rg.UP_SRC_LEN : Nat := 0x20070010
def Fd.UP_SRC_LEN_VALUE : Fld := ⟨0x20070010, 31, 0⟩
/-- `UP_TIME_LO`, R433. -/
def Rg.UP_TIME_LO : Nat := 0x20070018
def Fd.UP_TIME_LO_TIME : Fld := ⟨0x20070018, 31, 0⟩
/-- `UP_TIME_HI`, R433. -/
def Rg.UP_TIME_HI : Nat := 0x2007001C
def Fd.UP_TIME_HI_TIME : Fld := ⟨0x2007001C, 31, 0⟩
/-- `UP_MODE`, R433. -/
def Rg.UP_MODE : Nat := 0x20070020
def Fd.UP_MODE_MODE : Fld := ⟨0x20070020, 1, 0⟩
/-- `UP_FAIL`, R433. -/
def Rg.UP_FAIL : Nat := 0x20070024
def Fd.UP_FAIL_CODE : Fld := ⟨0x20070024, 31, 16⟩
def Fd.UP_FAIL_SECTION : Fld := ⟨0x20070024, 15, 0⟩
/-- `UP_FAIL_POS`, R433. -/
def Rg.UP_FAIL_POS : Nat := 0x20070028
def Fd.UP_FAIL_POS_VALUE : Fld := ⟨0x20070028, 31, 0⟩
/-- `UP_PROGRESS`, R433. -/
def Rg.UP_PROGRESS : Nat := 0x2007002C
def Fd.UP_PROGRESS_VALUE : Fld := ⟨0x2007002C, 31, 0⟩
/-- `UP_BOOT`, R433. -/
def Rg.UP_BOOT : Nat := 0x20070030
def Fd.UP_BOOT_NEW : Fld := ⟨0x20070030, 31, 31⟩
def Fd.UP_BOOT_OUTCOME : Fld := ⟨0x20070030, 18, 16⟩
def Fd.UP_BOOT_CODE : Fld := ⟨0x20070030, 15, 0⟩
/-- `UP_FLOOR`, R433. -/
def Rg.UP_FLOOR : Nat := 0x20070034
def Fd.UP_FLOOR_FLOOR : Fld := ⟨0x20070034, 9, 0⟩
/-- `UP_SERIAL`, R433. -/
def Rg.UP_SERIAL (k : Nat) : Nat := 0x20070040 + 0x4 * k
def Fd.UP_SERIAL_BYTES (k : Nat) : Fld := ⟨0x20070040 + 0x4 * k, 31, 0⟩
/-- `UP_MEAS`, R433. -/
def Rg.UP_MEAS (k : Nat) : Nat := 0x20070060 + 0x4 * k
def Fd.UP_MEAS_DIGEST (k : Nat) : Fld := ⟨0x20070060 + 0x4 * k, 31, 0⟩

/-! ### 20_twin_town.md -/

/-- `UX_STATUS`, R453. -/
def Rg.UX_STATUS : Nat := 0x200F0000
def Fd.UX_STATUS_CHG : Fld := ⟨0x200F0000, 31, 31⟩
def Fd.UX_STATUS_INERR : Fld := ⟨0x200F0000, 30, 30⟩
def Fd.UX_STATUS_ROLE : Fld := ⟨0x200F0000, 16, 16⟩
def Fd.UX_STATUS_PRIMARY : Fld := ⟨0x200F0000, 8, 8⟩
def Fd.UX_STATUS_LINK : Fld := ⟨0x200F0000, 7, 7⟩
def Fd.UX_STATUS_CONFIG : Fld := ⟨0x200F0000, 0, 0⟩
/-- `UX_TWIN`, R453. -/
def Rg.UX_TWIN : Nat := 0x200F0004
def Fd.UX_TWIN_STATE : Fld := ⟨0x200F0004, 31, 30⟩
def Fd.UX_TWIN_FAULT_OUT : Fld := ⟨0x200F0004, 29, 29⟩
def Fd.UX_TWIN_CONFLICT : Fld := ⟨0x200F0004, 28, 28⟩
def Fd.UX_TWIN_TWIN_ROLE : Fld := ⟨0x200F0004, 16, 16⟩
def Fd.UX_TWIN_LINES : Fld := ⟨0x200F0004, 15, 0⟩
/-- `UX_LINE`, R453. -/
def Rg.UX_LINE : Nat := 0x200F0008
def Fd.UX_LINE_EN : Fld := ⟨0x200F0008, 31, 16⟩
def Fd.UX_LINE_OUT : Fld := ⟨0x200F0008, 15, 0⟩
/-- `UX_ERR`, R453. -/
def Rg.UX_ERR : Nat := 0x200F0010
def Fd.UX_ERR_VALID : Fld := ⟨0x200F0010, 31, 31⟩
def Fd.UX_ERR_OVERWRITE : Fld := ⟨0x200F0010, 30, 30⟩
def Fd.UX_ERR_POSTED : Fld := ⟨0x200F0010, 29, 29⟩
def Fd.UX_ERR_WINDOW : Fld := ⟨0x200F0010, 26, 24⟩
def Fd.UX_ERR_CODE : Fld := ⟨0x200F0010, 15, 0⟩
/-- `UX_ERR_ADDR`, R453. -/
def Rg.UX_ERR_ADDR : Nat := 0x200F0014
def Fd.UX_ERR_ADDR_ADDR : Fld := ⟨0x200F0014, 31, 0⟩
/-- `UX_ERR_INFO`, R453. -/
def Rg.UX_ERR_INFO : Nat := 0x200F0018
def Fd.UX_ERR_INFO_SEQ : Fld := ⟨0x200F0018, 31, 16⟩
def Fd.UX_ERR_INFO_ADDR_HI : Fld := ⟨0x200F0018, 1, 0⟩
/-- `UX_IN_ERR`, R453. -/
def Rg.UX_IN_ERR : Nat := 0x200F001C
def Fd.UX_IN_ERR_SEQ : Fld := ⟨0x200F001C, 31, 16⟩
def Fd.UX_IN_ERR_CODE : Fld := ⟨0x200F001C, 15, 0⟩
/-- `UX_OUT_WIN_LO`, R453. -/
def Rg.UX_OUT_WIN_LO (w : Nat) : Nat := 0x200F0100 + 0x8 * w
def Fd.UX_OUT_WIN_LO_REMOTE (w : Nat) : Fld := ⟨0x200F0100 + 0x8 * w, 31, 11⟩
def Fd.UX_OUT_WIN_LO_POSTED (w : Nat) : Fld := ⟨0x200F0100 + 0x8 * w, 2, 2⟩
def Fd.UX_OUT_WIN_LO_EN (w : Nat) : Fld := ⟨0x200F0100 + 0x8 * w, 0, 0⟩
/-- `UX_OUT_WIN_HI`, R453. -/
def Rg.UX_OUT_WIN_HI (w : Nat) : Nat := 0x200F0104 + 0x8 * w
def Fd.UX_OUT_WIN_HI_REMOTE_HI (w : Nat) : Fld := ⟨0x200F0104 + 0x8 * w, 1, 0⟩
/-- `UX_IN_WIN_BASE`, R453. -/
def Rg.UX_IN_WIN_BASE (k : Nat) : Nat := 0x200F0200 + 0x10 * k
def Fd.UX_IN_WIN_BASE_BASE (k : Nat) : Fld := ⟨0x200F0200 + 0x10 * k, 21, 0⟩
/-- `UX_IN_WIN_SIZE`, R453. -/
def Rg.UX_IN_WIN_SIZE (k : Nat) : Nat := 0x200F0204 + 0x10 * k
def Fd.UX_IN_WIN_SIZE_SIZE (k : Nat) : Fld := ⟨0x200F0204 + 0x10 * k, 21, 0⟩
/-- `UX_IN_WIN_ATTR`, R453. -/
def Rg.UX_IN_WIN_ATTR (k : Nat) : Nat := 0x200F0208 + 0x10 * k
def Fd.UX_IN_WIN_ATTR_EN (k : Nat) : Fld := ⟨0x200F0208 + 0x10 * k, 31, 31⟩
def Fd.UX_IN_WIN_ATTR_DISTRICT (k : Nat) : Fld := ⟨0x200F0208 + 0x10 * k, 21, 16⟩
def Fd.UX_IN_WIN_ATTR_ANY_SRC (k : Nat) : Fld := ⟨0x200F0208 + 0x10 * k, 15, 15⟩
def Fd.UX_IN_WIN_ATTR_SRC (k : Nat) : Fld := ⟨0x200F0208 + 0x10 * k, 13, 8⟩
def Fd.UX_IN_WIN_ATTR_W (k : Nat) : Fld := ⟨0x200F0208 + 0x10 * k, 1, 1⟩
def Fd.UX_IN_WIN_ATTR_R (k : Nat) : Fld := ⟨0x200F0208 + 0x10 * k, 0, 0⟩
/-- `UX_SEM`, R453. -/
def Rg.UX_SEM (k : Nat) : Nat := 0x200F0400 + 0x4 * k
def Fd.UX_SEM_CODE (k : Nat) : Fld := ⟨0x200F0400 + 0x4 * k, 31, 16⟩
def Fd.UX_SEM_HELD (k : Nat) : Fld := ⟨0x200F0400 + 0x4 * k, 15, 15⟩
def Fd.UX_SEM_BY_B (k : Nat) : Fld := ⟨0x200F0400 + 0x4 * k, 14, 14⟩
def Fd.UX_SEM_DISTRICT (k : Nat) : Fld := ⟨0x200F0400 + 0x4 * k, 13, 8⟩
def Fd.UX_SEM_RELEASE (k : Nat) : Fld := ⟨0x200F0400 + 0x4 * k, 0, 0⟩
/-- `UX_TSEM`, R453. -/
def Rg.UX_TSEM (k : Nat) : Nat := 0x200F0480 + 0x4 * k
def Fd.UX_TSEM_CODE (k : Nat) : Fld := ⟨0x200F0480 + 0x4 * k, 31, 16⟩
def Fd.UX_TSEM_HELD (k : Nat) : Fld := ⟨0x200F0480 + 0x4 * k, 15, 15⟩
def Fd.UX_TSEM_BY_B (k : Nat) : Fld := ⟨0x200F0480 + 0x4 * k, 14, 14⟩
def Fd.UX_TSEM_DISTRICT (k : Nat) : Fld := ⟨0x200F0480 + 0x4 * k, 13, 8⟩
def Fd.UX_TSEM_RELEASE (k : Nat) : Fld := ⟨0x200F0480 + 0x4 * k, 0, 0⟩
/-- `UX_SEM_GRAN`, R453. -/
def Rg.UX_SEM_GRAN (k : Nat) : Nat := 0x200F0500 + 0x4 * k
def Fd.UX_SEM_GRAN_GRANULE (k : Nat) : Fld := ⟨0x200F0500 + 0x4 * k, 27, 0⟩
/-- `UX_TAKEOVER`, R453. -/
def Rg.UX_TAKEOVER (n : Nat) : Nat := 0x200F0600 + 0x4 * n
def Fd.UX_TAKEOVER_HANDBACK (n : Nat) : Fld := ⟨0x200F0600 + 0x4 * n, 31, 31⟩
def Fd.UX_TAKEOVER_TWIN_CH (n : Nat) : Fld := ⟨0x200F0600 + 0x4 * n, 23, 16⟩
def Fd.UX_TAKEOVER_CAUSE (n : Nat) : Fld := ⟨0x200F0600 + 0x4 * n, 3, 2⟩
def Fd.UX_TAKEOVER_STATE (n : Nat) : Fld := ⟨0x200F0600 + 0x4 * n, 1, 0⟩
/-- `UX_EVENT`, R453. -/
def Rg.UX_EVENT (c : Nat) : Nat := 0x200F0700 + 0x4 * c
def Fd.UX_EVENT_COUNT (c : Nat) : Fld := ⟨0x200F0700 + 0x4 * c, 31, 0⟩
/-- `UX_EVENT_SAT`, R453. -/
def Rg.UX_EVENT_SAT : Nat := 0x200F0720
def Fd.UX_EVENT_SAT_SAT : Fld := ⟨0x200F0720, 7, 0⟩

/-! ### 21_electrical_and_environment.md -/

/-- `SYS_X_STATUS`, R474. -/
def Rg.SYS_X_STATUS : Nat := 0x20000100
def Fd.SYS_X_STATUS_STRAP : Fld := ⟨0x20000100, 18, 16⟩
def Fd.SYS_X_STATUS_SVC : Fld := ⟨0x20000100, 1, 1⟩
def Fd.SYS_X_STATUS_IGN : Fld := ⟨0x20000100, 0, 0⟩
/-- `SYS_XDIAG`, R474. -/
def Rg.SYS_XDIAG (i : Nat) : Nat := 0x20000200 + 0x4 * i
def Fd.SYS_XDIAG_STICKY (i : Nat) : Fld := ⟨0x20000200 + 0x4 * i, 18, 16⟩
def Fd.SYS_XDIAG_STATE (i : Nat) : Fld := ⟨0x20000200 + 0x4 * i, 1, 0⟩

end Sys2Proof.Machine
end

