-- ==== Sys2Proof/Machine/RegMap.lean ====
section
/-! DEFINITION. The register map as data: for each register its address range, who may write it, and its fields with access code
and range (R41, R43 steps 2 to 5, Table 03-1 and Table 03-2), page by page of Table 01-1 (R10). -/

namespace Sys2Proof.Machine

/-- The access codes of Table 03-1 (R41). -/
inductive Access where
  | ro | rw | w1c | wo | rc | rwe
  deriving DecidableEq, Repr

/-- Who holds write rights for a register (R43 step 3, R55, R362, R372, R390). -/
inductive Writer where
  | nobody | district0 | owner | any | target | courtyard
  | group (g : Nat)
  deriving DecidableEq, Repr

/-- One field of a register: its bits, its access code, and the range its map states (R43 step 5). -/
structure FieldRow where
  hi : Nat
  lo : Nat
  acc : Access
  range : Option (Nat × Nat)
  deriving DecidableEq, Repr

/-- One register or register array: `dims` lists (first index, count, stride), outermost first, and the address of the
elements of index zero is `base`. -/
structure RegRow where
  base : Nat
  dims : List (Nat × Nat × Nat)
  writer : Writer
  fields : List FieldRow
  deriving DecidableEq, Repr

/-- LAST_REJECT, LAST_REJECT_ADDR, REJECT_CTRL. -/
def RegMap.pageCommon : List RegRow := [
  ⟨0x2000FFF0, [(0, 16, 65536)], .district0, [⟨31, 31, .w1c, none⟩, ⟨30, 30, .ro, none⟩, ⟨29, 24, .ro, none⟩, ⟨23, 19, .ro, none⟩, ⟨18, 18, .ro, none⟩, ⟨17, 16, .ro, none⟩, ⟨15, 0, .ro, none⟩]⟩,
  ⟨0x2000FFF4, [(0, 16, 65536)], .nobody, [⟨31, 0, .ro, none⟩]⟩,
  ⟨0x2000FFF8, [(0, 16, 65536)], .district0, [⟨0, 0, .rw, none⟩]⟩]

/-- SYS_EP_CFG, SYS_CTX_BASE_LO, SYS_CTX_BASE_HI, SYS_MBOX_BASE_LO, SYS_MBOX_BASE_HI, SYS_EP0_RINGS_LO, SYS_EP0_RINGS_HI, SYS_EP_STAGE, SYS_EP_CMD, SYS_EP_RESULT, SYS_POOL_FREE0, SYS_POOL_FREE1. -/
def RegMap.page00a : List RegRow := [
  ⟨0x20001000, [], .district0, [⟨23, 16, .ro, none⟩, ⟨15, 8, .ro, none⟩, ⟨5, 0, .rw, some (0, 32)⟩]⟩,
  ⟨0x20001008, [], .district0, [⟨31, 0, .rw, none⟩]⟩,
  ⟨0x2000100C, [], .district0, [⟨1, 0, .rw, none⟩]⟩,
  ⟨0x20001010, [], .district0, [⟨31, 0, .rw, none⟩]⟩,
  ⟨0x20001014, [], .district0, [⟨1, 0, .rw, none⟩]⟩,
  ⟨0x20001018, [], .district0, [⟨31, 13, .rw, none⟩, ⟨0, 0, .rw, none⟩]⟩,
  ⟨0x2000101C, [], .district0, [⟨1, 0, .rw, none⟩]⟩,
  ⟨0x20001040, [(0, 14, 4)], .district0, [⟨31, 0, .rw, none⟩]⟩,
  ⟨0x20001080, [], .district0, [⟨31, 16, .ro, none⟩, ⟨13, 8, .rw, none⟩, ⟨3, 3, .rw, none⟩, ⟨2, 0, .wo, some (1, 5)⟩]⟩,
  ⟨0x200010C0, [(0, 6, 4)], .nobody, [⟨31, 0, .ro, none⟩]⟩,
  ⟨0x20001100, [], .nobody, [⟨31, 16, .ro, none⟩, ⟨15, 0, .ro, none⟩]⟩,
  ⟨0x20001104, [], .nobody, [⟨31, 16, .ro, none⟩, ⟨15, 0, .ro, none⟩]⟩]

/-- SYS_EP_EVENT, SYS_EP_SAT, SYS_OD_DONE, SYS_X_STATUS, SYS_XDIAG, SYS_XDIAG, SYS_XDIAG. -/
def RegMap.page00b : List RegRow := [
  ⟨0x20001110, [(0, 4, 4)], .district0, [⟨31, 0, .rw, none⟩]⟩,
  ⟨0x20001120, [], .district0, [⟨19, 16, .rw, none⟩, ⟨3, 0, .w1c, none⟩]⟩,
  ⟨0x20001200, [(0, 128, 4)], .district0, [⟨31, 0, .w1c, none⟩]⟩,
  ⟨0x20000100, [], .nobody, [⟨18, 16, .ro, none⟩, ⟨1, 1, .ro, none⟩, ⟨0, 0, .ro, none⟩]⟩,
  ⟨0x20000200, [(0, 13, 4)], .district0, [⟨18, 16, .w1c, none⟩, ⟨1, 0, .ro, none⟩]⟩,
  ⟨0x20000200, [(16, 19, 4)], .district0, [⟨18, 16, .w1c, none⟩, ⟨1, 0, .ro, none⟩]⟩,
  ⟨0x20000200, [(40, 8, 4)], .district0, [⟨18, 16, .w1c, none⟩, ⟨1, 0, .ro, none⟩]⟩]

/-- All rows of the page. -/
def RegMap.page00 : List RegRow := RegMap.page00a ++ RegMap.page00b

/-- TP_STATUS, TP_FAIL, TP_FAIL_LOC, TP_VERSION, TP_EPOCH, TP_DIGEST. -/
def RegMap.page01 : List RegRow := [
  ⟨0x20010000, [], .nobody, [⟨3, 3, .ro, none⟩, ⟨2, 2, .ro, none⟩, ⟨1, 0, .ro, none⟩]⟩,
  ⟨0x20010004, [], .nobody, [⟨21, 16, .ro, none⟩, ⟨15, 0, .ro, none⟩]⟩,
  ⟨0x20010008, [], .nobody, [⟨24, 24, .ro, none⟩, ⟨23, 8, .ro, none⟩, ⟨7, 0, .ro, none⟩]⟩,
  ⟨0x2001000C, [], .nobody, [⟨31, 0, .ro, none⟩]⟩,
  ⟨0x20010010, [], .nobody, [⟨25, 16, .ro, none⟩, ⟨9, 0, .ro, none⟩]⟩,
  ⟨0x20010020, [(0, 8, 4)], .nobody, [⟨31, 0, .ro, none⟩]⟩]

/-- AO_STATE, AO_WAKE_CAUSE, AO_RESET_CAUSE, AO_SLEEP, AO_WAKE_TIMER, AO_WDT, AO_PWR_REQ, AO_MRAM_PTR, AO_MRAM_DATA, AO_LOG_STAGE. -/
def RegMap.page02 : List RegRow := [
  ⟨0x20020000, [], .district0, [⟨31, 31, .wo, none⟩, ⟨3, 3, .ro, none⟩, ⟨2, 2, .ro, none⟩, ⟨1, 1, .ro, none⟩]⟩,
  ⟨0x20020004, [], .district0, [⟨31, 31, .w1c, none⟩, ⟨30, 30, .w1c, none⟩, ⟨29, 29, .w1c, none⟩, ⟨28, 28, .w1c, none⟩, ⟨27, 27, .w1c, none⟩, ⟨25, 24, .w1c, none⟩, ⟨23, 16, .w1c, none⟩, ⟨15, 0, .w1c, none⟩]⟩,
  ⟨0x20020008, [], .district0, [⟨7, 7, .w1c, none⟩, ⟨6, 6, .w1c, none⟩, ⟨5, 5, .w1c, none⟩, ⟨4, 4, .w1c, none⟩, ⟨3, 3, .w1c, none⟩, ⟨2, 2, .w1c, none⟩, ⟨1, 1, .w1c, none⟩]⟩,
  ⟨0x2002000C, [], .district0, [⟨31, 16, .ro, none⟩, ⟨15, 8, .rw, some (1, 255)⟩, ⟨1, 0, .rw, some (0, 2)⟩]⟩,
  ⟨0x20020010, [], .district0, [⟨31, 0, .rw, none⟩]⟩,
  ⟨0x20020014, [], .district0, [⟨31, 16, .wo, none⟩, ⟨15, 0, .rw, some (10, 10000)⟩]⟩,
  ⟨0x20020018, [], .district0, [⟨31, 16, .ro, none⟩, ⟨9, 8, .rw, some (0, 2)⟩, ⟨7, 0, .rw, some (0, 15)⟩]⟩,
  ⟨0x20020020, [], .district0, [⟨19, 2, .rw, none⟩]⟩,
  ⟨0x20020024, [], .nobody, [⟨31, 0, .ro, none⟩]⟩,
  ⟨0x20020040, [(0, 16, 4)], .district0, [⟨31, 0, .wo, none⟩]⟩]

/-- IC_SRC_CFG, IC_COAL, IC_SPURIOUS, IC_SPUR_SAT, IC_SPUR_IE, IC_TARGET_CTRL, IC_CLAIM, IC_COMPLETE, IC_NOTICE, IC_EVENT_LATCH, IC_WAKE_SUBSET, IC_PENDING. -/
def RegMap.page03 : List RegRow := [
  ⟨0x20030000, [(1, 511, 4)], .district0, [⟨31, 30, .ro, none⟩, ⟨29, 26, .ro, none⟩, ⟨25, 25, .ro, none⟩, ⟨24, 16, .rw, none⟩, ⟨15, 12, .ro, none⟩, ⟨3, 0, .rw, none⟩]⟩,
  ⟨0x20030800, [(1, 511, 4)], .district0, [⟨31, 24, .rw, some (1, 255)⟩, ⟨15, 0, .rw, some (1, 65535)⟩]⟩,
  ⟨0x20031000, [(1, 511, 4)], .district0, [⟨31, 0, .rw, none⟩]⟩,
  ⟨0x20031800, [(0, 16, 4)], .district0, [⟨31, 0, .w1c, none⟩]⟩,
  ⟨0x20031840, [(0, 16, 4)], .district0, [⟨31, 0, .rw, none⟩]⟩,
  ⟨0x20032000, [(0, 9, 4)], .district0, [⟨31, 31, .rw, none⟩, ⟨8, 8, .rw, none⟩, ⟨3, 0, .rw, none⟩]⟩,
  ⟨0x20032040, [(0, 9, 4)], .target, [⟨8, 0, .rc, none⟩]⟩,
  ⟨0x20032080, [(0, 9, 4)], .target, [⟨31, 31, .wo, none⟩, ⟨8, 0, .wo, none⟩]⟩,
  ⟨0x20033000, [(0, 256, 4)], .district0, [⟨31, 16, .rw, none⟩, ⟨15, 0, .ro, none⟩]⟩,
  ⟨0x20033400, [], .district0, [⟨1, 1, .w1c, none⟩, ⟨0, 0, .w1c, none⟩]⟩,
  ⟨0x20033500, [(0, 32, 4)], .nobody, [⟨31, 31, .ro, none⟩, ⟨18, 16, .ro, none⟩, ⟨8, 0, .ro, none⟩]⟩,
  ⟨0x20033600, [(0, 16, 4)], .nobody, [⟨31, 0, .ro, none⟩]⟩]

/-- CP_PAIR_CTRL, CP_PAIR_STATUS, CP_ENTRY_LO, CP_ENTRY_HI, CP_SIG_LO, CP_SIG_HI, CP_FAULT_OUT, CP_BOLLARD, CP_EVENT, CP_EVENT_SAT. -/
def RegMap.page04 : List RegRow := [
  ⟨0x20040000, [(0, 4, 4)], .district0, [⟨31, 16, .ro, none⟩, ⟨2, 0, .wo, some (1, 4)⟩]⟩,
  ⟨0x20040010, [(0, 4, 4)], .nobody, [⟨28, 24, .ro, none⟩, ⟨23, 22, .ro, none⟩, ⟨21, 21, .ro, none⟩, ⟨20, 19, .ro, none⟩, ⟨18, 18, .ro, none⟩, ⟨10, 8, .ro, none⟩, ⟨7, 3, .ro, none⟩, ⟨2, 0, .ro, none⟩]⟩,
  ⟨0x20040020, [(0, 4, 8)], .district0, [⟨31, 2, .rw, none⟩]⟩,
  ⟨0x20040024, [(0, 4, 8)], .district0, [⟨1, 0, .rw, none⟩]⟩,
  ⟨0x20040040, [(0, 4, 8)], .nobody, [⟨31, 0, .ro, none⟩]⟩,
  ⟨0x20040044, [(0, 4, 8)], .nobody, [⟨31, 0, .ro, none⟩]⟩,
  ⟨0x20040060, [], .district0, [⟨31, 31, .wo, none⟩, ⟨30, 30, .wo, none⟩, ⟨3, 3, .ro, none⟩, ⟨2, 2, .ro, none⟩, ⟨1, 1, .ro, none⟩, ⟨0, 0, .ro, none⟩]⟩,
  ⟨0x20040064, [], .nobody, [⟨31, 31, .ro, none⟩, ⟨29, 24, .ro, none⟩, ⟨1, 1, .ro, none⟩, ⟨0, 0, .ro, none⟩]⟩,
  ⟨0x20040100, [(0, 4, 32), (0, 8, 4)], .district0, [⟨31, 0, .rw, none⟩]⟩,
  ⟨0x20040180, [(0, 4, 4)], .district0, [⟨23, 16, .rw, none⟩, ⟨7, 0, .w1c, none⟩]⟩]

/-- WG_FAULT, WG_FAULT_ADDR_LO, WG_FAULT_ADDR_HI, WG_ECC_ADDR_LO, WG_ECC_ADDR_HI, WG_EVENT, WG_EVENT_SAT, WG_BANK_PWR, WG_RESERVE, WG_RESV_STATUS, WG_CY_STATUS, WG_RGN_BASE. -/
def RegMap.page05a : List RegRow := [
  ⟨0x20050000, [], .district0, [⟨31, 31, .w1c, none⟩, ⟨30, 30, .ro, none⟩, ⟨29, 24, .ro, none⟩, ⟨23, 19, .ro, none⟩, ⟨18, 17, .ro, none⟩, ⟨16, 13, .ro, none⟩, ⟨12, 11, .ro, none⟩, ⟨10, 10, .ro, none⟩]⟩,
  ⟨0x20050004, [], .nobody, [⟨31, 0, .ro, none⟩]⟩,
  ⟨0x20050008, [], .nobody, [⟨31, 0, .ro, none⟩]⟩,
  ⟨0x20050010, [], .nobody, [⟨31, 3, .ro, none⟩]⟩,
  ⟨0x20050014, [], .district0, [⟨31, 31, .w1c, none⟩, ⟨1, 0, .ro, none⟩]⟩,
  ⟨0x20050020, [(0, 4, 4)], .district0, [⟨31, 0, .rw, none⟩]⟩,
  ⟨0x20050030, [], .district0, [⟨19, 16, .rw, none⟩, ⟨3, 0, .w1c, none⟩]⟩,
  ⟨0x20050040, [], .district0, [⟨31, 0, .rw, none⟩]⟩,
  ⟨0x20050050, [], .courtyard, [⟨31, 16, .ro, none⟩, ⟨15, 8, .ro, none⟩, ⟨7, 6, .wo, some (1, 2)⟩, ⟨3, 0, .rw, none⟩]⟩,
  ⟨0x20050054, [], .nobody, [⟨15, 8, .ro, none⟩]⟩,
  ⟨0x20050100, [(1, 15, 4)], .nobody, [⟨31, 16, .ro, none⟩, ⟨15, 14, .ro, none⟩, ⟨13, 8, .ro, none⟩, ⟨7, 4, .ro, none⟩, ⟨3, 3, .ro, none⟩, ⟨2, 0, .ro, none⟩]⟩,
  ⟨0x20051000, [(0, 96, 16)], .nobody, [⟨21, 0, .ro, none⟩]⟩]

/-- WG_RGN_SIZE, WG_RGN_ATTR, WG_REG_RIGHTS. -/
def RegMap.page05b : List RegRow := [
  ⟨0x20051004, [(0, 96, 16)], .nobody, [⟨21, 0, .ro, none⟩]⟩,
  ⟨0x20051008, [(0, 96, 16)], .nobody, [⟨31, 31, .ro, none⟩, ⟨27, 24, .ro, none⟩, ⟨21, 16, .ro, none⟩, ⟨9, 8, .ro, none⟩, ⟨3, 0, .ro, none⟩]⟩,
  ⟨0x20052000, [(0, 16, 256), (0, 64, 4)], .nobody, [⟨15, 0, .ro, none⟩]⟩]

/-- All rows of the page. -/
def RegMap.page05 : List RegRow := RegMap.page05a ++ RegMap.page05b

/-- KS_STATUS, KS_TAMPER_REC, KS_TAMPER_TIME_LO, KS_TAMPER_TIME_HI, KS_TAMPER_POLICY, KS_CHALLENGE, KS_SLOT_SEL, KS_SLOT_ATTR, KS_SLOT_KCV, KS_SLOT_OWNER_LO, KS_SLOT_OWNER_HI, KS_SLOT_STATE. -/
def RegMap.page06a : List RegRow := [
  ⟨0x20060000, [], .district0, [⟨15, 8, .ro, none⟩, ⟨7, 7, .w1c, none⟩, ⟨5, 5, .ro, none⟩, ⟨4, 4, .ro, none⟩, ⟨3, 3, .ro, none⟩, ⟨2, 0, .ro, none⟩]⟩,
  ⟨0x20060004, [], .district0, [⟨31, 31, .w1c, none⟩, ⟨30, 30, .ro, none⟩, ⟨25, 24, .ro, none⟩, ⟨4, 0, .ro, none⟩]⟩,
  ⟨0x20060008, [], .nobody, [⟨31, 0, .ro, none⟩]⟩,
  ⟨0x2006000C, [], .nobody, [⟨31, 0, .ro, none⟩]⟩,
  ⟨0x20060010, [], .district0, [⟨4, 2, .rwe, none⟩]⟩,
  ⟨0x20060020, [(0, 8, 4)], .nobody, [⟨31, 0, .ro, none⟩]⟩,
  ⟨0x20060040, [], .district0, [⟨6, 0, .rw, none⟩]⟩,
  ⟨0x20060044, [], .nobody, [⟨31, 0, .ro, none⟩]⟩,
  ⟨0x20060054, [], .nobody, [⟨31, 0, .ro, none⟩]⟩,
  ⟨0x20060048, [], .nobody, [⟨31, 0, .ro, none⟩]⟩,
  ⟨0x2006004C, [], .nobody, [⟨31, 0, .ro, none⟩]⟩,
  ⟨0x20060050, [], .nobody, [⟨31, 16, .ro, none⟩, ⟨1, 0, .ro, none⟩]⟩]

/-- KS_PROV_LOCK, KS_EVENT, KS_EVENT_SAT. -/
def RegMap.page06b : List RegRow := [
  ⟨0x20060060, [], .district0, [⟨31, 0, .wo, none⟩]⟩,
  ⟨0x20060080, [(0, 4, 4)], .district0, [⟨31, 0, .rw, none⟩]⟩,
  ⟨0x20060090, [], .district0, [⟨19, 16, .rw, none⟩, ⟨3, 0, .w1c, none⟩]⟩]

/-- All rows of the page. -/
def RegMap.page06 : List RegRow := RegMap.page06a ++ RegMap.page06b

/-- UP_STATUS, UP_CMD, UP_SRC_LO, UP_SRC_HI, UP_SRC_LEN, UP_TIME_LO, UP_TIME_HI, UP_MODE, UP_FAIL, UP_FAIL_POS, UP_PROGRESS, UP_BOOT. -/
def RegMap.page07a : List RegRow := [
  ⟨0x20070000, [], .nobody, [⟨17, 16, .ro, none⟩, ⟨14, 12, .ro, none⟩, ⟨10, 8, .ro, none⟩, ⟨0, 0, .ro, none⟩]⟩,
  ⟨0x20070004, [], .district0, [⟨31, 16, .ro, none⟩, ⟨15, 15, .w1c, none⟩, ⟨2, 0, .wo, some (1, 5)⟩]⟩,
  ⟨0x20070008, [], .district0, [⟨31, 0, .rw, none⟩]⟩,
  ⟨0x2007000C, [], .district0, [⟨1, 0, .rw, none⟩]⟩,
  ⟨0x20070010, [], .district0, [⟨31, 0, .rw, none⟩]⟩,
  ⟨0x20070018, [], .district0, [⟨31, 0, .rw, none⟩]⟩,
  ⟨0x2007001C, [], .district0, [⟨31, 0, .rw, none⟩]⟩,
  ⟨0x20070020, [], .district0, [⟨1, 0, .rw, some (0, 2)⟩]⟩,
  ⟨0x20070024, [], .nobody, [⟨31, 16, .ro, none⟩, ⟨15, 0, .ro, none⟩]⟩,
  ⟨0x20070028, [], .nobody, [⟨31, 0, .ro, none⟩]⟩,
  ⟨0x2007002C, [], .nobody, [⟨31, 0, .ro, none⟩]⟩,
  ⟨0x20070030, [], .district0, [⟨31, 31, .w1c, none⟩, ⟨18, 16, .ro, none⟩, ⟨15, 0, .ro, none⟩]⟩]

/-- UP_FLOOR, UP_SERIAL, UP_MEAS. -/
def RegMap.page07b : List RegRow := [
  ⟨0x20070034, [], .nobody, [⟨9, 0, .ro, none⟩]⟩,
  ⟨0x20070040, [(0, 4, 4)], .nobody, [⟨31, 0, .ro, none⟩]⟩,
  ⟨0x20070060, [(0, 8, 4)], .nobody, [⟨31, 0, .ro, none⟩]⟩]

/-- All rows of the page. -/
def RegMap.page07 : List RegRow := RegMap.page07a ++ RegMap.page07b

/-- SW_CTRL, SW_HASH_CFG, SW_PORT_CFG, SW_PORT_STATUS, SW_FDB_KEY_LO, SW_FDB_KEY_HI, SW_FDB_CMD, SW_FDB_RESULT, SW_FDB_STATS, SW_EVENT, SW_EVENT_SAT, SW_MS_CTRL. -/
def RegMap.page08a : List RegRow := [
  ⟨0x20080000, [], .district0, [⟨31, 12, .rw, some (10, 1000000)⟩, ⟨1, 0, .rw, some (1, 3)⟩]⟩,
  ⟨0x20080004, [], .district0, [⟨17, 17, .ro, none⟩, ⟨16, 16, .ro, none⟩, ⟨15, 0, .rw, some (0, 60000)⟩]⟩,
  ⟨0x20080100, [(0, 24, 4)], .district0, [⟨31, 16, .rw, some (64, 9216)⟩, ⟨4, 4, .rw, none⟩, ⟨3, 3, .ro, none⟩, ⟨2, 2, .ro, none⟩, ⟨1, 1, .ro, none⟩, ⟨0, 0, .ro, none⟩]⟩,
  ⟨0x20080180, [(0, 24, 4)], .nobody, [⟨27, 16, .ro, none⟩, ⟨3, 1, .ro, none⟩, ⟨0, 0, .ro, none⟩]⟩,
  ⟨0x20080200, [], .district0, [⟨31, 0, .rw, none⟩]⟩,
  ⟨0x20080204, [], .district0, [⟨27, 16, .rw, some (1, 4094)⟩, ⟨15, 0, .rw, none⟩]⟩,
  ⟨0x20080208, [], .district0, [⟨31, 16, .ro, none⟩, ⟨12, 8, .rw, some (0, 23)⟩, ⟨2, 0, .wo, some (1, 4)⟩]⟩,
  ⟨0x2008020C, [], .nobody, [⟨31, 31, .ro, none⟩, ⟨30, 30, .ro, none⟩, ⟨29, 28, .ro, none⟩, ⟨23, 0, .ro, none⟩]⟩,
  ⟨0x20080210, [], .district0, [⟨31, 16, .rw, none⟩, ⟨15, 0, .rw, none⟩]⟩,
  ⟨0x20080400, [(0, 24, 64), (0, 16, 4)], .district0, [⟨31, 0, .rw, none⟩]⟩,
  ⟨0x20080A00, [(0, 24, 4)], .district0, [⟨31, 16, .rw, none⟩, ⟨15, 0, .w1c, none⟩]⟩,
  ⟨0x20081000, [(0, 3, 256)], .district0, [⟨2, 1, .rw, none⟩, ⟨0, 0, .ro, none⟩]⟩]

/-- SW_MS_REPLAY, SW_MS_TXPN_LO, SW_MS_TXPN_HI, SW_MS_SA_LOAD, SW_MS_STAGE. -/
def RegMap.page08b : List RegRow := [
  ⟨0x20081004, [(0, 3, 256)], .district0, [⟨31, 0, .rw, none⟩]⟩,
  ⟨0x20081008, [(0, 3, 256)], .nobody, [⟨31, 0, .ro, none⟩]⟩,
  ⟨0x2008100C, [(0, 3, 256)], .nobody, [⟨31, 0, .ro, none⟩]⟩,
  ⟨0x20081010, [(0, 3, 256)], .district0, [⟨31, 16, .ro, none⟩, ⟨15, 15, .rw, none⟩, ⟨14, 13, .rw, none⟩, ⟨12, 11, .rw, none⟩, ⟨6, 0, .rw, none⟩]⟩,
  ⟨0x20081020, [(0, 3, 256), (0, 8, 4)], .district0, [⟨31, 0, .rw, none⟩]⟩]

/-- All rows of the page. -/
def RegMap.page08 : List RegRow := RegMap.page08a ++ RegMap.page08b

/-- SQ_TIME_LO, SQ_TIME_HI, SQ_AS_STATUS, SQ_AS_PORT_CFG, SQ_POOL_STATUS, SQ_Q_OCC, SQ_Q_EVENT, SQ_Q_SAT, SQ_Q_IE, SQ_TRAFFIC_LO, SQ_TRAFFIC_HI, SQ_RX_ABORT. -/
def RegMap.page09a : List RegRow := [
  ⟨0x20090000, [], .nobody, [⟨31, 0, .ro, none⟩]⟩,
  ⟨0x20090004, [], .nobody, [⟨31, 0, .ro, none⟩]⟩,
  ⟨0x20090008, [], .nobody, [⟨31, 16, .ro, none⟩, ⟨13, 13, .ro, none⟩, ⟨12, 8, .ro, none⟩, ⟨2, 0, .ro, none⟩]⟩,
  ⟨0x20090040, [(0, 24, 4)], .district0, [⟨31, 16, .rw, none⟩, ⟨7, 7, .rw, none⟩, ⟨6, 4, .rw, some (0, 5)⟩, ⟨1, 0, .rw, some (0, 2)⟩]⟩,
  ⟨0x20090100, [(0, 8, 4)], .nobody, [⟨31, 16, .rc, none⟩, ⟨15, 0, .ro, none⟩]⟩,
  ⟨0x20090200, [(0, 24, 32), (0, 8, 4)], .nobody, [⟨31, 16, .rc, none⟩, ⟨15, 0, .ro, none⟩]⟩,
  ⟨0x20091000, [(0, 24, 128), (0, 8, 16), (0, 4, 4)], .district0, [⟨31, 0, .rw, none⟩]⟩,
  ⟨0x20091C00, [(0, 24, 4)], .district0, [⟨31, 0, .w1c, none⟩]⟩,
  ⟨0x20091C80, [(0, 24, 4)], .district0, [⟨31, 0, .rw, none⟩]⟩,
  ⟨0x20092000, [(0, 24, 32), (0, 4, 8)], .district0, [⟨31, 0, .rw, none⟩]⟩,
  ⟨0x20092004, [(0, 24, 32), (0, 4, 8)], .nobody, [⟨31, 0, .ro, none⟩]⟩,
  ⟨0x20092400, [(0, 24, 4)], .district0, [⟨31, 0, .rw, none⟩]⟩]

/-- SQ_PORT_SAT, SQ_GATE_STATUS, SQ_STREAM_SEL, SQ_STREAM_SEQ, SQ_STREAM_CNT, SQ_STREAM_SAT, SQ_FRER_CFG. -/
def RegMap.page09b : List RegRow := [
  ⟨0x20092480, [(0, 24, 4)], .district0, [⟨20, 16, .rw, none⟩, ⟨4, 0, .w1c, none⟩]⟩,
  ⟨0x20092500, [(0, 24, 4)], .nobody, [⟨16, 16, .ro, none⟩, ⟨15, 8, .ro, none⟩, ⟨7, 0, .ro, none⟩]⟩,
  ⟨0x20093000, [], .district0, [⟨31, 16, .ro, none⟩, ⟨15, 0, .rw, none⟩]⟩,
  ⟨0x20093004, [], .nobody, [⟨31, 16, .ro, none⟩, ⟨15, 0, .ro, none⟩]⟩,
  ⟨0x20093010, [(0, 8, 4)], .district0, [⟨31, 0, .rw, none⟩]⟩,
  ⟨0x20093030, [], .district0, [⟨15, 8, .rw, none⟩, ⟨7, 0, .w1c, none⟩]⟩,
  ⟨0x20093040, [], .district0, [⟨15, 0, .rw, some (1, 60000)⟩]⟩]

/-- All rows of the page. -/
def RegMap.page09 : List RegRow := RegMap.page09a ++ RegMap.page09b

/-- SF_STATUS, SF_CAM_TIMING, SF_CAM_CTRL, SF_CAM_STATUS, SF_CAM_I2C, SF_CAM_I2C_ADDR, SF_DSP_STATUS, SF_LAT, SF_VIEW_STATE, SF_LOAD_FAIL, SF_OVL_BASE_LO, SF_OVL_BASE_HI. -/
def RegMap.page0Aa : List RegRow := [
  ⟨0x200A0000, [], .nobody, [⟨11, 8, .ro, none⟩, ⟨7, 4, .ro, none⟩, ⟨1, 0, .ro, none⟩]⟩,
  ⟨0x200A0010, [(0, 4, 4)], .district0, [⟨31, 16, .rw, some (4000, 65535)⟩, ⟨15, 0, .rw, some (1, 10000)⟩]⟩,
  ⟨0x200A0020, [(0, 4, 4)], .district0, [⟨0, 0, .rw, none⟩]⟩,
  ⟨0x200A0030, [(0, 4, 4)], .nobody, [⟨31, 16, .ro, none⟩, ⟨2, 2, .ro, none⟩, ⟨1, 1, .ro, none⟩, ⟨0, 0, .ro, none⟩]⟩,
  ⟨0x200A0040, [(0, 4, 4)], .district0, [⟨31, 16, .ro, none⟩, ⟨15, 15, .rw, none⟩, ⟨14, 8, .rw, none⟩, ⟨7, 0, .rw, none⟩]⟩,
  ⟨0x200A0050, [(0, 4, 4)], .district0, [⟨15, 0, .rw, none⟩]⟩,
  ⟨0x200A0060, [(0, 2, 4)], .nobody, [⟨31, 16, .ro, none⟩, ⟨1, 1, .ro, none⟩, ⟨0, 0, .ro, none⟩]⟩,
  ⟨0x200A0068, [(0, 2, 4)], .nobody, [⟨31, 16, .rc, none⟩, ⟨15, 0, .ro, none⟩]⟩,
  ⟨0x200A0080, [(0, 8, 4)], .nobody, [⟨31, 16, .ro, none⟩, ⟨7, 7, .ro, none⟩, ⟨6, 6, .ro, none⟩, ⟨3, 3, .ro, none⟩, ⟨0, 0, .ro, none⟩]⟩,
  ⟨0x200A00A0, [], .nobody, [⟨31, 16, .ro, none⟩, ⟨15, 8, .ro, none⟩, ⟨4, 4, .ro, none⟩, ⟨2, 2, .ro, none⟩, ⟨1, 0, .ro, none⟩]⟩,
  ⟨0x200A0100, [(0, 8, 8)], .district0, [⟨31, 6, .rw, none⟩]⟩,
  ⟨0x200A0104, [(0, 8, 8)], .district0, [⟨1, 0, .rw, none⟩]⟩]

/-- SF_TAP_CFG, SF_TAP_MAC_LO, SF_TAP_MAC_HI, SF_VIEW_EVENT, SF_DSP_EVENT, SF_EVENT_SAT, SF_EVENT_IE, SF_DSP_SAT, SF_INTEG_CFG, SF_INTEG_VIEW, SF_INTEG_STATE, SF_ECHO. -/
def RegMap.page0Ab : List RegRow := [
  ⟨0x200A0140, [(0, 8, 4)], .district0, [⟨31, 31, .rw, none⟩, ⟨18, 16, .rw, none⟩, ⟨15, 0, .rw, none⟩]⟩,
  ⟨0x200A0160, [], .district0, [⟨31, 0, .rw, none⟩]⟩,
  ⟨0x200A0164, [], .district0, [⟨15, 0, .rw, none⟩]⟩,
  ⟨0x200A0200, [(0, 8, 16), (0, 4, 4)], .district0, [⟨31, 0, .rw, none⟩]⟩,
  ⟨0x200A0280, [(0, 2, 16), (0, 2, 4)], .district0, [⟨31, 0, .rw, none⟩]⟩,
  ⟨0x200A02A0, [], .district0, [⟨31, 0, .w1c, none⟩]⟩,
  ⟨0x200A02A4, [], .district0, [⟨31, 0, .rw, none⟩]⟩,
  ⟨0x200A02A8, [], .district0, [⟨19, 16, .rw, none⟩, ⟨3, 0, .w1c, none⟩]⟩,
  ⟨0x200A0300, [(0, 2, 4)], .district0, [⟨16, 16, .rwe, none⟩, ⟨15, 8, .rwe, some (1, 255)⟩, ⟨7, 4, .rwe, none⟩, ⟨3, 0, .rwe, some (1, 15)⟩]⟩,
  ⟨0x200A0310, [(0, 8, 4)], .district0, [⟨15, 8, .rwe, some (1, 255)⟩, ⟨7, 4, .rwe, none⟩, ⟨3, 0, .rwe, some (1, 15)⟩]⟩,
  ⟨0x200A0330, [(0, 2, 4)], .district0, [⟨31, 31, .wo, none⟩, ⟨23, 16, .ro, none⟩, ⟨15, 12, .ro, none⟩, ⟨11, 11, .ro, none⟩, ⟨10, 10, .ro, none⟩, ⟨9, 8, .ro, none⟩, ⟨7, 0, .ro, none⟩]⟩,
  ⟨0x200A0338, [(0, 2, 4)], .nobody, [⟨31, 16, .ro, none⟩, ⟨1, 0, .ro, none⟩]⟩]

/-- SF_CAM_FAULT, SF_POC, SF_HEARTBEAT, SF_MON_STATUS, SF_INTEG_EVENT, SF_INTEG_SAT, SF_INTEG_IE. -/
def RegMap.page0Ac : List RegRow := [
  ⟨0x200A0340, [(0, 4, 4)], .district0, [⟨31, 16, .ro, none⟩, ⟨15, 8, .ro, none⟩, ⟨7, 7, .ro, none⟩, ⟨5, 0, .w1c, none⟩]⟩,
  ⟨0x200A0350, [(0, 4, 4)], .district0, [⟨31, 31, .rw, none⟩, ⟨30, 28, .ro, none⟩, ⟨27, 26, .ro, none⟩, ⟨9, 0, .ro, none⟩]⟩,
  ⟨0x200A0360, [], .group 1, [⟨31, 16, .rw, none⟩, ⟨3, 2, .rw, none⟩, ⟨1, 0, .rw, none⟩]⟩,
  ⟨0x200A0364, [], .nobody, [⟨31, 16, .ro, none⟩, ⟨0, 0, .ro, none⟩]⟩,
  ⟨0x200A0380, [(0, 24, 4)], .district0, [⟨31, 0, .rw, none⟩]⟩,
  ⟨0x200A03E0, [], .district0, [⟨23, 0, .w1c, none⟩]⟩,
  ⟨0x200A03E4, [], .district0, [⟨23, 0, .rw, none⟩]⟩]

/-- All rows of the page. -/
def RegMap.page0A : List RegRow := RegMap.page0Aa ++ RegMap.page0Ab ++ RegMap.page0Ac

/-- PD_FEED_MEAS, PD_FEED_AVG, PD_HOUSING, PD_SHED, PD_AMBIENT, PD_AMBIENT_SW, PD_CH_CTRL, PD_CH_STATUS, PD_CH_MEAS, PD_CH_ENERGY_LO, PD_CH_ENERGY_HI, PD_CH_EVENT. -/
def RegMap.page0Ba : List RegRow := [
  ⟨0x200B0010, [(0, 2, 4)], .nobody, [⟨31, 16, .ro, none⟩, ⟨15, 0, .ro, none⟩]⟩,
  ⟨0x200B0018, [(0, 2, 4)], .nobody, [⟨15, 0, .ro, none⟩]⟩,
  ⟨0x200B0020, [], .nobody, [⟨31, 16, .ro, none⟩, ⟨15, 0, .ro, none⟩]⟩,
  ⟨0x200B0024, [], .nobody, [⟨31, 24, .ro, none⟩, ⟨4, 4, .ro, none⟩, ⟨3, 0, .ro, none⟩]⟩,
  ⟨0x200B0028, [], .nobody, [⟨15, 0, .ro, none⟩]⟩,
  ⟨0x200B002C, [], .district0, [⟨15, 0, .rwe, none⟩]⟩,
  ⟨0x200B0100, [(0, 52, 4)], .district0, [⟨30, 21, .rw, none⟩, ⟨20, 11, .rw, none⟩, ⟨2, 1, .rw, none⟩, ⟨0, 0, .rw, none⟩]⟩,
  ⟨0x200B0200, [(0, 52, 4)], .nobody, [⟨31, 16, .ro, none⟩, ⟨15, 12, .ro, none⟩, ⟨8, 8, .ro, none⟩, ⟨7, 7, .ro, none⟩, ⟨6, 6, .ro, none⟩, ⟨5, 5, .ro, none⟩, ⟨4, 4, .ro, none⟩, ⟨3, 3, .ro, none⟩, ⟨2, 2, .ro, none⟩, ⟨1, 1, .ro, none⟩, ⟨0, 0, .ro, none⟩]⟩,
  ⟨0x200B0300, [(0, 52, 4)], .nobody, [⟨31, 16, .ro, none⟩, ⟨15, 0, .ro, none⟩]⟩,
  ⟨0x200B0400, [(0, 52, 8)], .district0, [⟨31, 0, .rw, none⟩]⟩,
  ⟨0x200B0404, [(0, 52, 8)], .nobody, [⟨31, 0, .ro, none⟩]⟩,
  ⟨0x200B0600, [(0, 52, 16), (0, 4, 4)], .district0, [⟨31, 0, .rw, none⟩]⟩]

/-- PD_CH_SAT, PD_FEED_STATUS, PD_LAYBY_CTRL, PD_DIAG_CFG, PD_DIAG_STATUS, PD_FAULT_REC, PD_FAULT_TIME_LO, PD_FAULT_TIME_HI. -/
def RegMap.page0Bb : List RegRow := [
  ⟨0x200B0A00, [(0, 52, 4)], .district0, [⟨20, 16, .rw, none⟩, ⟨4, 0, .w1c, none⟩]⟩,
  ⟨0x200B0030, [], .district0, [⟨21, 16, .w1c, none⟩, ⟨6, 4, .ro, none⟩, ⟨2, 0, .ro, none⟩]⟩,
  ⟨0x200B0040, [], .district0, [⟨31, 16, .ro, none⟩, ⟨13, 8, .rw, none⟩, ⟨2, 0, .wo, some (1, 4)⟩]⟩,
  ⟨0x200B0B00, [(0, 52, 4)], .district0, [⟨2, 2, .rw, none⟩, ⟨1, 1, .rw, none⟩, ⟨0, 0, .rw, none⟩]⟩,
  ⟨0x200B0C00, [(0, 52, 16)], .district0, [⟨31, 31, .ro, none⟩, ⟨30, 28, .ro, none⟩, ⟨21, 16, .w1c, none⟩, ⟨5, 5, .ro, none⟩, ⟨4, 4, .ro, none⟩, ⟨3, 3, .ro, none⟩, ⟨2, 2, .ro, none⟩, ⟨1, 1, .ro, none⟩, ⟨0, 0, .ro, none⟩]⟩,
  ⟨0x200B0C04, [(0, 52, 16)], .district0, [⟨31, 16, .rw, none⟩, ⟨15, 0, .rw, none⟩]⟩,
  ⟨0x200B0C08, [(0, 52, 16)], .nobody, [⟨31, 0, .ro, none⟩]⟩,
  ⟨0x200B0C0C, [(0, 52, 16)], .nobody, [⟨31, 0, .ro, none⟩]⟩]

/-- All rows of the page. -/
def RegMap.page0B : List RegRow := RegMap.page0Ba ++ RegMap.page0Bb

/-- CAN_GWY_CFG, CAN_GWY_MAC_LO, CAN_GWY_MAC_HI, CAN_GWY_EVENT, CAN_GWY_SAT, CAN_MODE, CAN_STATUS, CAN_TIMING_N, CAN_TIMING_D, CAN_TDC, CAN_TT_CFG, CAN_TT_REF. -/
def RegMap.page0Ca : List RegRow := [
  ⟨0x200C8000, [], .district0, [⟨26, 24, .rw, none⟩, ⟨19, 8, .rw, some (0, 1000)⟩, ⟨4, 0, .rw, some (1, 16)⟩]⟩,
  ⟨0x200C8004, [], .district0, [⟨31, 0, .rw, none⟩]⟩,
  ⟨0x200C8008, [], .district0, [⟨15, 0, .rw, none⟩]⟩,
  ⟨0x200C8010, [(0, 2, 4)], .district0, [⟨31, 0, .rw, none⟩]⟩,
  ⟨0x200C8018, [], .district0, [⟨17, 16, .rw, none⟩, ⟨1, 0, .w1c, none⟩]⟩,
  ⟨0x200C0000, [(0, 8, 4096)], .district0, [⟨17, 16, .ro, none⟩, ⟨1, 0, .rw, some (0, 2)⟩]⟩,
  ⟨0x200C0004, [(0, 8, 4096)], .nobody, [⟨31, 24, .ro, none⟩, ⟨23, 15, .ro, none⟩, ⟨14, 7, .ro, none⟩, ⟨6, 3, .ro, none⟩, ⟨2, 2, .ro, none⟩, ⟨1, 0, .ro, none⟩]⟩,
  ⟨0x200C0008, [(0, 8, 4096)], .nobody, [⟨31, 31, .ro, none⟩, ⟨29, 23, .ro, none⟩, ⟨22, 16, .ro, none⟩, ⟨15, 8, .ro, none⟩, ⟨7, 0, .ro, none⟩]⟩,
  ⟨0x200C000C, [(0, 8, 4096)], .nobody, [⟨27, 24, .ro, none⟩, ⟨19, 16, .ro, none⟩, ⟨12, 8, .ro, none⟩, ⟨4, 0, .ro, none⟩]⟩,
  ⟨0x200C0010, [(0, 8, 4096)], .district0, [⟨31, 24, .ro, none⟩, ⟨15, 15, .rw, none⟩, ⟨6, 0, .rw, none⟩]⟩,
  ⟨0x200C0020, [(0, 8, 4096)], .district0, [⟨31, 31, .rw, none⟩, ⟨30, 30, .rw, none⟩, ⟨23, 20, .rw, none⟩, ⟨19, 0, .rw, some (100, 1000000)⟩]⟩,
  ⟨0x200C0024, [(0, 8, 4096)], .district0, [⟨31, 31, .rw, none⟩, ⟨28, 0, .rw, none⟩]⟩]

/-- CAN_TT_STATUS, CAN_GWY_Q, CAN_EVENT, CAN_EVENT_SAT, CAN_MB_SEL, CAN_MB_TIME_LO, CAN_MB_TIME_HI, CAN_MB_WIN, CAN_MB_CFG, CAN_MB_FILT, CAN_MB_MASK, CAN_MB_STAT. -/
def RegMap.page0Cb : List RegRow := [
  ⟨0x200C0028, [(0, 8, 4096)], .nobody, [⟨31, 22, .ro, none⟩, ⟨21, 21, .ro, none⟩, ⟨15, 15, .ro, none⟩, ⟨9, 6, .ro, none⟩, ⟨5, 0, .ro, none⟩]⟩,
  ⟨0x200C0030, [(0, 8, 4096)], .district0, [⟨20, 16, .rw, some (0, 15)⟩, ⟨5, 0, .ro, none⟩]⟩,
  ⟨0x200C0040, [(0, 8, 4096), (0, 16, 4)], .district0, [⟨31, 0, .rw, none⟩]⟩,
  ⟨0x200C0080, [(0, 8, 4096)], .district0, [⟨31, 16, .rw, none⟩, ⟨15, 0, .w1c, none⟩]⟩,
  ⟨0x200C00C0, [(0, 8, 4096)], .district0, [⟨6, 0, .rw, none⟩]⟩,
  ⟨0x200C00C8, [(0, 8, 4096)], .nobody, [⟨31, 0, .ro, none⟩]⟩,
  ⟨0x200C00CC, [(0, 8, 4096)], .nobody, [⟨31, 0, .ro, none⟩]⟩,
  ⟨0x200C0100, [(0, 8, 4096), (0, 18, 4)], .district0, [⟨31, 0, .rw, none⟩]⟩,
  ⟨0x200C0200, [(0, 8, 4096), (0, 128, 4)], .district0, [⟨31, 31, .rw, none⟩, ⟨30, 30, .rw, none⟩, ⟨29, 29, .rw, none⟩, ⟨28, 24, .rw, none⟩, ⟨8, 8, .ro, none⟩]⟩,
  ⟨0x200C0400, [(0, 8, 4096), (0, 128, 4)], .district0, [⟨31, 31, .rw, none⟩, ⟨28, 0, .rw, none⟩]⟩,
  ⟨0x200C0600, [(0, 8, 4096), (0, 128, 4)], .district0, [⟨28, 0, .rw, none⟩]⟩,
  ⟨0x200C0800, [(0, 8, 4096), (0, 128, 4)], .nobody, [⟨31, 16, .ro, none⟩, ⟨15, 12, .ro, none⟩, ⟨10, 10, .ro, none⟩, ⟨9, 9, .ro, none⟩, ⟨8, 8, .ro, none⟩, ⟨7, 7, .ro, none⟩, ⟨6, 6, .ro, none⟩, ⟨5, 5, .ro, none⟩, ⟨1, 0, .ro, none⟩]⟩]

/-- CAN_MB_CTRL. -/
def RegMap.page0Cc : List RegRow := [
  ⟨0x200C0A00, [(0, 8, 4096), (0, 128, 4)], .district0, [⟨1, 1, .wo, none⟩, ⟨0, 0, .wo, none⟩]⟩]

/-- All rows of the page. -/
def RegMap.page0C : List RegRow := RegMap.page0Ca ++ RegMap.page0Cb ++ RegMap.page0Cc

/-- NM_TRX_CTRL, NM_SWK_ID, NM_SWK_MASK, NM_SWK_DMASK_LO, NM_SWK_DMASK_HI, NM_RING_CTRL, NM_MED_STATUS, NM_MED_PRESENT_LO, NM_MED_PRESENT_HI, NM_MED_READY_LO, NM_MED_READY_HI, NM_MED_EVENT. -/
def RegMap.page0Da : List RegRow := [
  ⟨0x200D0000, [(0, 8, 4)], .district0, [⟨31, 31, .w1c, none⟩, ⟨25, 24, .ro, none⟩, ⟨20, 16, .rw, none⟩, ⟨10, 10, .rw, none⟩, ⟨9, 8, .rw, some (0, 2)⟩, ⟨7, 7, .rw, none⟩, ⟨6, 6, .rw, none⟩, ⟨5, 5, .rw, none⟩, ⟨3, 0, .rw, none⟩]⟩,
  ⟨0x200D0020, [(0, 8, 4)], .district0, [⟨31, 31, .rw, none⟩, ⟨28, 0, .rw, none⟩]⟩,
  ⟨0x200D0040, [(0, 8, 4)], .district0, [⟨28, 0, .rw, none⟩]⟩,
  ⟨0x200D0060, [(0, 8, 8)], .district0, [⟨31, 0, .rw, none⟩]⟩,
  ⟨0x200D0064, [(0, 8, 8)], .district0, [⟨31, 0, .rw, none⟩]⟩,
  ⟨0x200D0100, [(0, 10, 4)], .district0, [⟨31, 31, .rw, none⟩, ⟨16, 16, .rw, none⟩, ⟨15, 0, .rw, none⟩]⟩,
  ⟨0x200D0200, [(0, 10, 4)], .nobody, [⟨29, 24, .ro, none⟩, ⟨19, 16, .ro, none⟩, ⟨13, 8, .ro, none⟩, ⟨3, 3, .ro, none⟩, ⟨2, 0, .ro, none⟩]⟩,
  ⟨0x200D0300, [(0, 10, 8)], .nobody, [⟨31, 0, .ro, none⟩]⟩,
  ⟨0x200D0304, [(0, 10, 8)], .nobody, [⟨31, 0, .ro, none⟩]⟩,
  ⟨0x200D0380, [(0, 10, 8)], .nobody, [⟨31, 0, .ro, none⟩]⟩,
  ⟨0x200D0384, [(0, 10, 8)], .nobody, [⟨31, 0, .ro, none⟩]⟩,
  ⟨0x200D0400, [(0, 10, 32), (0, 8, 4)], .district0, [⟨31, 0, .rw, none⟩]⟩]

/-- NM_MED_SAT, NM_ETH_CTRL, NM_ETH_STATUS. -/
def RegMap.page0Db : List RegRow := [
  ⟨0x200D0600, [(0, 10, 4)], .district0, [⟨23, 16, .rw, none⟩, ⟨7, 0, .w1c, none⟩]⟩,
  ⟨0x200D0700, [(2, 14, 4)], .district0, [⟨31, 18, .rw, none⟩, ⟨2, 2, .rw, none⟩, ⟨1, 0, .wo, some (0, 2)⟩]⟩,
  ⟨0x200D0780, [(2, 14, 4)], .nobody, [⟨31, 16, .ro, none⟩, ⟨2, 0, .ro, none⟩]⟩]

/-- All rows of the page. -/
def RegMap.page0D : List RegRow := RegMap.page0Da ++ RegMap.page0Db

/-- PIN_CFG, PIN_STATUS, PIN_OUT, LIN_CTRL, LIN_STATUS, LIN_EVENT, LIN_EVENT_SAT, LIN_FRAME_CFG, LIN_DATA_LO, LIN_DATA_HI. -/
def RegMap.page0E : List RegRow := [
  ⟨0x200E0000, [(0, 64, 4)], .nobody, [⟨23, 16, .ro, none⟩, ⟨15, 0, .ro, none⟩]⟩,
  ⟨0x200E0100, [(0, 64, 4)], .district0, [⟨31, 16, .ro, none⟩, ⟨12, 8, .w1c, none⟩, ⟨4, 4, .ro, none⟩, ⟨3, 2, .ro, none⟩, ⟨1, 1, .ro, none⟩, ⟨0, 0, .ro, none⟩]⟩,
  ⟨0x200E0200, [(0, 64, 4)], .district0, [⟨9, 0, .rw, some (0, 1000)⟩]⟩,
  ⟨0x200E8000, [(0, 4, 4096)], .district0, [⟨31, 16, .ro, none⟩, ⟨9, 8, .rw, none⟩, ⟨2, 0, .wo, some (1, 4)⟩]⟩,
  ⟨0x200E8004, [(0, 4, 4096)], .nobody, [⟨14, 12, .ro, none⟩, ⟨9, 8, .ro, none⟩, ⟨4, 0, .ro, none⟩]⟩,
  ⟨0x200E8010, [(0, 4, 4096), (0, 4, 4)], .district0, [⟨31, 0, .rw, none⟩]⟩,
  ⟨0x200E8020, [(0, 4, 4096)], .district0, [⟨19, 16, .rw, none⟩, ⟨3, 0, .w1c, none⟩]⟩,
  ⟨0x200E8100, [(0, 4, 4096), (0, 62, 4)], .district0, [⟨5, 5, .rw, none⟩, ⟨4, 4, .rw, none⟩, ⟨3, 0, .rw, some (0, 8)⟩]⟩,
  ⟨0x200E8200, [(0, 4, 4096), (0, 62, 8)], .district0, [⟨31, 0, .rw, none⟩]⟩,
  ⟨0x200E8204, [(0, 4, 4096), (0, 62, 8)], .district0, [⟨31, 0, .rw, none⟩]⟩]

/-- UX_STATUS, UX_TWIN, UX_LINE, UX_ERR, UX_ERR_ADDR, UX_ERR_INFO, UX_IN_ERR, UX_OUT_WIN_LO, UX_OUT_WIN_HI, UX_IN_WIN_BASE, UX_IN_WIN_SIZE, UX_IN_WIN_ATTR. -/
def RegMap.page0Fa : List RegRow := [
  ⟨0x200F0000, [], .district0, [⟨31, 31, .w1c, none⟩, ⟨30, 30, .w1c, none⟩, ⟨16, 16, .ro, none⟩, ⟨8, 8, .ro, none⟩, ⟨7, 7, .ro, none⟩, ⟨0, 0, .ro, none⟩]⟩,
  ⟨0x200F0004, [], .nobody, [⟨31, 30, .ro, none⟩, ⟨29, 29, .ro, none⟩, ⟨28, 28, .ro, none⟩, ⟨16, 16, .ro, none⟩, ⟨15, 0, .ro, none⟩]⟩,
  ⟨0x200F0008, [], .district0, [⟨31, 16, .rw, none⟩, ⟨15, 0, .rw, none⟩]⟩,
  ⟨0x200F0010, [], .district0, [⟨31, 31, .w1c, none⟩, ⟨30, 30, .ro, none⟩, ⟨29, 29, .ro, none⟩, ⟨26, 24, .ro, none⟩, ⟨15, 0, .ro, none⟩]⟩,
  ⟨0x200F0014, [], .nobody, [⟨31, 0, .ro, none⟩]⟩,
  ⟨0x200F0018, [], .nobody, [⟨31, 16, .ro, none⟩, ⟨1, 0, .ro, none⟩]⟩,
  ⟨0x200F001C, [], .nobody, [⟨31, 16, .ro, none⟩, ⟨15, 0, .ro, none⟩]⟩,
  ⟨0x200F0100, [(0, 8, 8)], .district0, [⟨31, 11, .rw, none⟩, ⟨2, 2, .rw, none⟩, ⟨0, 0, .rw, none⟩]⟩,
  ⟨0x200F0104, [(0, 8, 8)], .district0, [⟨1, 0, .rw, none⟩]⟩,
  ⟨0x200F0200, [(0, 8, 16)], .district0, [⟨21, 0, .rw, none⟩]⟩,
  ⟨0x200F0204, [(0, 8, 16)], .district0, [⟨21, 0, .rw, none⟩]⟩,
  ⟨0x200F0208, [(0, 8, 16)], .district0, [⟨31, 31, .rw, none⟩, ⟨21, 16, .rw, none⟩, ⟨15, 15, .rw, none⟩, ⟨13, 8, .rw, none⟩, ⟨1, 1, .rw, none⟩, ⟨0, 0, .rw, none⟩]⟩]

/-- UX_SEM, UX_TSEM, UX_SEM_GRAN, UX_TAKEOVER, UX_EVENT, UX_EVENT_SAT. -/
def RegMap.page0Fb : List RegRow := [
  ⟨0x200F0400, [(0, 32, 4)], .group 9, [⟨31, 16, .rc, none⟩, ⟨15, 15, .ro, none⟩, ⟨14, 14, .ro, none⟩, ⟨13, 8, .ro, none⟩, ⟨0, 0, .wo, none⟩]⟩,
  ⟨0x200F0480, [(0, 32, 4)], .group 9, [⟨31, 16, .rc, none⟩, ⟨15, 15, .ro, none⟩, ⟨14, 14, .ro, none⟩, ⟨13, 8, .ro, none⟩, ⟨0, 0, .wo, none⟩]⟩,
  ⟨0x200F0500, [(0, 32, 4)], .district0, [⟨27, 0, .rw, none⟩]⟩,
  ⟨0x200F0600, [(0, 48, 4)], .district0, [⟨31, 31, .wo, none⟩, ⟨23, 16, .ro, none⟩, ⟨3, 2, .ro, none⟩, ⟨1, 0, .ro, none⟩]⟩,
  ⟨0x200F0700, [(0, 8, 4)], .district0, [⟨31, 0, .rw, none⟩]⟩,
  ⟨0x200F0720, [], .district0, [⟨7, 0, .w1c, none⟩]⟩]

/-- All rows of the page. -/
def RegMap.page0F : List RegRow := RegMap.page0Fa ++ RegMap.page0Fb

/-- DB_SQ, DB_CQ, DB_ABORT, DB_STATUS, DB_INFO, DB_CREDIT, DB_CELLS, DB_TRIMMED, MB_RING, MB_PENDING_LO, MB_PENDING_HI. -/
def RegMap.pageDoorbell : List RegRow := [
  ⟨0x21000000, [(0, 4096, 4096)], .owner, [⟨31, 16, .ro, none⟩, ⟨15, 0, .rw, none⟩]⟩,
  ⟨0x21000004, [(0, 4096, 4096)], .owner, [⟨31, 16, .ro, none⟩, ⟨15, 0, .rw, none⟩]⟩,
  ⟨0x21000008, [(0, 4096, 4096)], .owner, [⟨31, 16, .ro, none⟩, ⟨15, 0, .rw, none⟩]⟩,
  ⟨0x2100000C, [(0, 4096, 4096)], .owner, [⟨19, 19, .ro, none⟩, ⟨18, 18, .ro, none⟩, ⟨17, 17, .ro, none⟩, ⟨16, 16, .ro, none⟩, ⟨15, 15, .w1c, none⟩, ⟨13, 0, .ro, none⟩]⟩,
  ⟨0x21000010, [(0, 4096, 4096)], .nobody, [⟨31, 26, .ro, none⟩, ⟨23, 20, .ro, none⟩, ⟨19, 16, .ro, none⟩, ⟨15, 15, .ro, none⟩, ⟨14, 14, .ro, none⟩, ⟨13, 13, .ro, none⟩, ⟨10, 8, .ro, none⟩, ⟨7, 0, .ro, none⟩]⟩,
  ⟨0x21000014, [(0, 4096, 4096)], .nobody, [⟨13, 0, .ro, none⟩]⟩,
  ⟨0x21000018, [(0, 4096, 4096)], .nobody, [⟨31, 16, .ro, none⟩, ⟨15, 0, .ro, none⟩]⟩,
  ⟨0x2100001C, [(0, 4096, 4096)], .owner, [⟨31, 0, .rw, none⟩]⟩,
  ⟨0x21000100, [], .any, [⟨31, 0, .wo, none⟩]⟩,
  ⟨0x21000104, [], .district0, [⟨31, 0, .w1c, none⟩]⟩,
  ⟨0x21000108, [], .district0, [⟨31, 0, .w1c, none⟩]⟩]

/-- The rows of the page that holds address `a` (R10, R11, R18), those of the rejection registers (R48) included. -/
def RegMap.pageOf (a : Nat) : List RegRow :=
  if 0x21000000 ≤ a ∧ a < 0x22000000 then RegMap.pageDoorbell else
  match a / 0x10000 with
  | 0x2000 => RegMap.page00 ++ RegMap.pageCommon
  | 0x2001 => RegMap.page01 ++ RegMap.pageCommon
  | 0x2002 => RegMap.page02 ++ RegMap.pageCommon
  | 0x2003 => RegMap.page03 ++ RegMap.pageCommon
  | 0x2004 => RegMap.page04 ++ RegMap.pageCommon
  | 0x2005 => RegMap.page05 ++ RegMap.pageCommon
  | 0x2006 => RegMap.page06 ++ RegMap.pageCommon
  | 0x2007 => RegMap.page07 ++ RegMap.pageCommon
  | 0x2008 => RegMap.page08 ++ RegMap.pageCommon
  | 0x2009 => RegMap.page09 ++ RegMap.pageCommon
  | 0x200A => RegMap.page0A ++ RegMap.pageCommon
  | 0x200B => RegMap.page0B ++ RegMap.pageCommon
  | 0x200C => RegMap.page0C ++ RegMap.pageCommon
  | 0x200D => RegMap.page0D ++ RegMap.pageCommon
  | 0x200E => RegMap.page0E ++ RegMap.pageCommon
  | 0x200F => RegMap.page0F ++ RegMap.pageCommon
  | _ => []

/-- The indices of offset `off` in an array of these dimensions, or none where it falls between elements. -/
def RegMap.indices (dims : List (Nat × Nat × Nat)) (off : Nat) : Option (List Nat) :=
  match dims with
  | [] => if off = 0 then some [] else none
  | (first, count, stride) :: rest =>
    let i := off / stride
    if first ≤ i ∧ i < first + count then
      match RegMap.indices rest (off % stride) with
      | some l => some (i :: l)
      | none => none
    else none

/-- The register at address `a`, with its indices (R43 step 2: the address decodes to a register). -/
def RegMap.find (rows : List RegRow) (a : Nat) : Option (RegRow × List Nat) :=
  match rows with
  | [] => none
  | r :: rest =>
    if r.base ≤ a then
      match RegMap.indices r.dims (a - r.base) with
      | some l => some (r, l)
      | none => RegMap.find rest a
    else RegMap.find rest a

/-- The register that address `a` decodes to. -/
def RegMap.at (a : Nat) : Option (RegRow × List Nat) := RegMap.find (RegMap.pageOf a) a

end Sys2Proof.Machine
end

