-- ==== Sys2Proof/Machine/State.lean ====
section
/-! DEFINITION. The state of the AX4096: plain data, block by block, in the order of the chapters of the spec. -/

namespace Sys2Proof.Machine

/-- The device states of Table 04-1 (R69). -/
inductive DevState where
  | off | parked | standby | active
  deriving DecidableEq, Repr

/-- The answer that the last bus access got: nothing yet, the data of a read, a write that completed, or a bus error (R42, R44,
R45). The model's own field: what a read returns to its initiator. -/
inductive Resp where
  | none
  | data (w : Nat)
  | done
  | busError
  | poisoned
  deriving DecidableEq, Repr

/-- One item of the running plan (R28, R29): the index of its section, its index in the section, its TYPE, and its value fields in
the order of Table 02-3, reserved bytes left out. [Assumption 27: DESIGN CHOICE, unsafe.] -/
structure Item where
  sec : Nat
  pos : Nat
  ty : Nat
  v : List Nat
  deriving DecidableEq, Repr

/-! ### Chapter 04: Lamplighter -/

/-- One wake input of the LP domain (R72, R305): LP cycles in a row it has been active and inactive, at most 2 each; whether it has qualified
and must read inactive before it can again; the level, 1 closed, of its last qualification or at plan activation, if one was read. -/
structure WakeIn where
  run : Nat
  idle : Nat
  held : Bool
  level : Option Bool
  deriving DecidableEq, Repr

/-- The state of the always-on domain that no register holds (R69 to R93). -/
structure AoState where
  /-- A sleep request under R74 waits for the drain: the local time at which DRAIN_MS is over. -/
  sleepDue : Option Nat
  /-- The local time of the last accepted watchdog kick (R82). -/
  wdtKick : Nat
  /-- The local time at which the wake timer was armed (R93, AO_WAKE_TIMER). -/
  timerArm : Nat
  /-- Blocks whose clock is gated (R85), ascending. -/
  clkGated : List Nat
  /-- Blocks whose power is gated (R85), ascending. -/
  pwrGated : List Nat
  /-- The words staged in AO_LOG_STAGE, which reads 0 (R93). -/
  stage : Tbl Word
  /-- Log events appended and not yet committed to MRAM, oldest first (R88). -/
  logOpen : List (List Byte)
  /-- The log ring of the MRAM, entry by entry (R90). -/
  log : Tbl (List Byte)
  /-- The ring entry the next commit fills. -/
  logNext : Nat
  /-- The two last-words slots of the MRAM, 4 KiB each once written (R90, R91). -/
  words0 : List Byte
  words1 : List Byte
  /-- Set by a supply-loss sequence, until the boot it causes (R81, R87). -/
  lossBoot : Bool
  /-- The RESET_CAUSE bits that the next boot sets (Table 04-5), by bit number, ascending. -/
  causes : List Nat
  /-- The values on their way into the LP domain, at most one crossing and one held behind it (R78): the local times at which the pulse
  arrives and its acknowledgement is back, and the value. -/
  lpSent : List (Nat × Nat × Nat)
  /-- When the acknowledgement of the last pulse that arrived is back. -/
  lpAck : Nat
  /-- MAIN is to power up: a BOOT follows (R73, R81, R87). -/
  booting : Bool
  /-- The supply is below MAIN_UV (R71). -/
  underVolt : Bool
  /-- The local time at which the FAULT_OUT switch opened on a short (R460). -/
  foShort : Option Nat
  /-- Per display, the class of the last line sample: 0 normal, 1 OPEN, 2 SHORT_GND, 3 SHORT_BAT, 4 none of them, 5 no sample (R462). -/
  dspLine : Tbl Nat
  /-- The wake inputs SP00 to SP15, and 16 IGN (R72, R305). -/
  wakeIn : Tbl WakeIn
  deriving DecidableEq, Repr

/-! ### Chapters 03 and 07: endpoint engine -/

/-- Where a fetched command stands (R57, R64 to R66): held for ORDERED, held for EXEC_TIME, passed to its target, waiting at its
target before its commit point, at or after its commit point. -/
inductive Phase where
  | ordered | timed | passed | waiting | committed
  deriving DecidableEq, Repr

/-- A command in flight: the descriptor read by the engine (R59, Table 03-4) and where it stands. -/
structure Cmd where
  ep : Nat
  tag : Nat
  op : Nat
  flags : Nat
  late : Nat
  exec : Nat
  /-- Bytes 0x10 to 0x3F of the descriptor. -/
  body : List Byte
  phase : Phase
  /-- ABORT_SEEN of its record (R67). -/
  abortSeen : Bool
  /-- LATE of its record (R65). -/
  lateSeen : Bool
  /-- The Courtyard id that the doorbell write which published it carried (R403 step 4). -/
  cy : Nat
  /-- A value the target keeps with the command while it waits (a buffer number, a count, a time). -/
  note : Nat
  deriving DecidableEq, Repr

/-- A RESIZE that waits for the occupancy to fall (R165). -/
structure Resize where
  kind : Nat
  old : Nat
  new : Nat
  trimmed : Nat
  deriving DecidableEq, Repr

/-- An endpoint: its creation values (R161), its doorbell state (R55, R146) and its scheduling state. -/
structure Ep where
  live : Bool
  /-- Its destruction has passed the commit point and waits for the last record (R162). -/
  dying : Bool
  ty : Nat
  district : Nat
  sqLog2 : Nat
  cqLog2 : Nat
  sqBase : Nat
  cqBase : Nat
  bind : Nat
  mac : Nat
  vid : Nat
  group : Bool
  weight : Nat
  timers : Nat
  credits : Nat
  cells : Nat
  occ : Nat
  /-- Bit k: the share of KIND k is a reserved one (R158). -/
  resv : Nat
  planPin : Bool
  rtPin : Bool
  slot : Option Nat
  sqHead : Nat
  sqTail : Nat
  cqHead : Nat
  cqTail : Nat
  abortTag : Nat
  abortCode : Nat
  /-- The submission index up to which the undecided abort makes the engine fetch (R67). -/
  abortTail : Nat
  notice : Bool
  trimmed : Nat
  resize : Option Resize
  /-- Published and unfetched: the TAIL each doorbell write left, and the Courtyard id it carried (R403). -/
  pub : List (Nat × Nat)
  /-- Records with CANCELLED, and others, written since the destruction began (R162). -/
  gone : Nat
  ended : Nat
  /-- The deficit of R108, in bytes. -/
  deficit : Nat
  /-- Which kinds are overdrawn (R165): bit k for KIND k. -/
  overdrawn : Nat
  deriving DecidableEq, Repr

/-- A RESIZE of the mailbox that waits for its occupancy to fall (R165). -/
structure MbWait where
  district : Nat
  seq : Nat
  msg : Nat
  ep : Nat
  deriving DecidableEq, Repr

/-- The operation started through SYS_EP_CMD and not yet ended (R169): MSG, district, TRIM; whether Town Hall runs it for a mailbox request,
the SEQ of that request; the endpoint whose destruction it waits for. -/
structure EpOp where
  msg : Nat
  district : Nat
  trim : Bool
  mail : Bool
  seq : Nat
  target : Option Nat
  deriving DecidableEq, Repr

/-- The endpoint engine (block 0x00) and Town Hall's mailbox service. -/
structure EpState where
  eps : Tbl Ep
  /-- Commands in flight, oldest-fetched first. -/
  inflight : List Cmd
  /-- Resident endpoints of the paged slots, least recently used first (R149). -/
  lru : List Nat
  /-- Page-ins waiting for a candidate, in the order of their events; the flag says that PAGE_WAIT has counted it (R149). -/
  pageQ : List (Nat × Bool)
  /-- The operation that waits to be run. -/
  op : Option EpOp
  /-- Per district, the SEQ of the last request that passed step 1 of R160. -/
  mbRef : Tbl (Option Nat)
  mbWait : List MbWait
  /-- Virtual supervisor software interrupts injected per district (R160). -/
  vssip : Tbl Nat
  /-- Districts whose virtual machine runs. -/
  vmRun : List Nat
  /-- Districts that have rung and whose requests Town Hall still takes (R160). -/
  rung : List Nat
  /-- Districts whose restart waits for endpoints that go (R167). -/
  restart : List Nat
  deriving DecidableEq, Repr

/-! ### Chapter 16: worlds, Courtyards and memories -/

/-- What a hart saves on entry to a Courtyard (R365): the PC of the next instruction, the mode, the translation state (satp, vsatp,
hgatp), and x1 to x4, x8, x9, x18 to x27. -/
structure GateFrame where
  pc : Nat
  mode : Mode
  satp : Nat
  vsatp : Nat
  hgatp : Nat
  x : Tbl (BitVec 64)
  deriving DecidableEq, Repr

/-- A hart (one split core, or the leader of a locked pair), as far as the gate instructions act on it (R365 to R369).
[Assumption 22: DESIGN CHOICE, unsafe.] -/
structure Hart where
  pc : Nat
  mode : Mode
  satp : Nat
  vsatp : Nat
  hgatp : Nat
  x : Tbl (BitVec 64)
  f : Tbl (BitVec 64)
  fcsr : Word
  district : Nat
  /-- The Courtyard entered, 0 outside. -/
  cy : Nat
  frame : Option GateFrame
  /-- The local time of the GATE.LAND that started the budget. -/
  budgetFrom : Nat
  /-- The cause code of the last illegal-instruction or access exception the hart took, 0 none (R347). -/
  excCause : Nat
  /-- Halted by a pair fault, or parked. -/
  halted : Bool
  deriving DecidableEq, Repr

/-- A line of an L1 cache: core, line address, and the tags of R361. [Assumption 23: DESIGN CHOICE, unsafe.] -/
structure L1Line where
  core : Nat
  line : Nat
  district : Nat
  cy : Nat
  /-- What memory holds of a dirty line, empty for a clean one (R336). -/
  old : List Byte
  deriving DecidableEq, Repr

/-- A line of L2 that a Courtyard filled (R368). [Assumption 23: DESIGN CHOICE, unsafe.] -/
structure L2Line where
  line : Nat
  cy : Nat
  deriving DecidableEq, Repr

/-- The world guards (block 0x05), the harts and the memories' protection state. -/
structure WgState where
  harts : Tbl Hart
  l1 : List L1Line
  l2 : List L2Line
  /-- 64-bit words (address / 8) that read as uncorrectable (R349). -/
  poison : List Nat
  /-- 64-bit words that hold a correctable single-bit error (R349, R351). -/
  single : List Nat
  /-- Reservations held: Courtyard, block (R372). -/
  resv : List (Nat × Nat)
  /-- RESULT of WG_RESERVE as each Courtyard reads it. -/
  resvResult : Tbl Nat
  /-- BLOCK of WG_RESERVE as each Courtyard wrote it. -/
  resvBlock : Tbl Nat
  /-- Districts whose restart waits for the end of a Courtyard call (R371). -/
  restartWait : List Nat
  deriving DecidableEq, Repr

/-! ### Chapter 17: Crossing -/

/-- A source of Crossing (R382 to R386): STATE 0 IDLE, 1 PENDING, 2 ACTIVE; TARGET 15 when PENDING with none. -/
structure Src where
  state : Nat
  target : Nat
  level : Bool
  targets : Nat
  ptr : Nat
  prio : Nat
  /-- Events counted while IDLE, and the local time of the first of them. -/
  count : Nat
  first : Nat
  /-- Offered by the wake of R384, to a target that may lie outside TARGETS. -/
  byWake : Bool
  deriving DecidableEq, Repr

/-- A target of Crossing (R381, IC_TARGET_CTRL). -/
structure Tgt where
  awake : Bool
  meip : Bool
  threshold : Nat
  deriving DecidableEq, Repr

/-- Crossing (block 0x03). -/
structure IcState where
  src : Tbl Src
  tgt : Tbl Tgt
  deriving DecidableEq, Repr

/-! ### Chapters 10 and 11: Kerbside -/

/-- A power channel beyond its registers (R219 to R256). Times are local time in ns, temperatures 10⁻¹² K, sums in (0.5 mA)². -/
structure Chan where
  /-- The DUTY, PWM_HZ and MODE in force (R220, R227). -/
  duty : Nat
  hz : Nat
  mode : Nat
  /-- A change by PD_CH_CTRL that waits for the next PWM period (R220). -/
  pwmNext : Option (Nat × Nat)
  /-- The start of the present row of PWM periods, and the period start at which the changes that wait commit (R220). -/
  pwmStart : Nat
  pwmAt : Nat
  /-- The time of the last change of the output, and the SLEW of that transition (Table 10-3). -/
  since : Nat
  slew : Nat
  /-- The end of a switch-off whose slew still conducts (R219). -/
  falls : Option Nat
  /-- The end of the open inrush window (R225). -/
  inrushEnd : Option Nat
  /-- The time of the trip that a cooling channel waits after (R231). -/
  tripAt : Nat
  /-- A bridge reversal under way: the end of its brake, the mode and DUTY it enters (R227). -/
  brake : Option (Nat × Nat × Nat)
  /-- t of the wire model (R229). -/
  temp : Int
  /-- The last sample (R234). -/
  cur : Int
  /-- Squares of the samples since the last model step, of the channel and of its gang, with their number; the sums of the last step. -/
  sq : Nat
  gangSq : Nat
  n : Nat
  i2 : Nat
  /-- Energy below 1 µJ, in 5 pJ (R234). -/
  energy : Nat
  /-- Judged samples of the open-load window (R243): their sum and number. -/
  olSum : Int
  olN : Nat
  /-- Off-state tests in a row that failed or passed, for the short to battery and for the open load (R242). -/
  stbFail : Nat
  stbPass : Nat
  olFail : Nat
  olPass : Nat
  /-- Held by KH: 0 no, 1 in sleep (R238), 2 across a device restart (R255). -/
  held : Nat
  /-- Latched by HOLD_TRIP in KH (R238, R255). -/
  holdTrip : Bool
  /-- The junction sensor reads above 140 °C after an OVER_TEMP (R246), on each member of a gang. -/
  hot : Bool
  /-- Lay-by was entered with the present endpoint already there (R250 rule 1). -/
  layOld : Bool
  deriving DecidableEq, Repr

/-- A feed of Kerbside (R217, R247). -/
structure Feed where
  mv : Nat
  cur : Int
  /-- ia or ib of R235, in pA. -/
  filt : Int
  /-- Channels that wait for their turn after a return, ascending, and the time of the next turn (R248). -/
  turns : List Nat
  turnAt : Nat
  deriving DecidableEq, Repr

/-- Kerbside (block 0x0B). -/
structure KbState where
  /-- PWR has powered up: Kerbside runs (R230). -/
  up : Bool
  ch : Tbl Chan
  feedA : Feed
  feedB : Feed
  /-- p_filt and p_inst of R235, in pW. -/
  pFilt : Int
  pInst : Int
  /-- The time of the next shed check while a trigger is active (R236). -/
  shedAt : Option Nat
  /-- The times of the last update of PD_AMBIENT and of the last write to PD_AMBIENT_SW (Table 10-8). -/
  ambAt : Nat
  ambSwAt : Option Nat
  /-- The local time at which PWR powered down with KH powered (R230). -/
  khSince : Option Nat
  /-- The next sample and model steps. -/
  sampleAt : Nat
  wireAt : Nat
  houseAt : Nat
  deriving DecidableEq, Repr

/-! ### Chapter 14: signal pins and LIN masters -/

/-- A signal pin beyond its registers (R304 to R310). -/
structure Pin where
  /-- The class of the last sample: 0 open, 1 closed, 2 SHORT_GND, 3 OPEN, 4 SHORT_BAT; samples in a row with it, and in a row in a
  switch band (R304). -/
  cls : Nat
  run : Nat
  okRun : Nat
  /-- Analog updates in a row below MIN, above MAX, and within the band (R306). -/
  low : Nat
  high : Nat
  inBand : Nat
  /-- Line tests in a row with each result: open, short to ground, pass (R306, R309). -/
  openRun : Nat
  gndRun : Nat
  passRun : Nat
  /-- A FREQ_IN pin has timed out: its line tests run; the time of its last edge, at first of the plan's activation (R307). -/
  lost : Bool
  edgeAt : Nat
  /-- The time of the last change of the output, and the start of its first PWM period (R308, R309). -/
  since : Nat
  pwmStart : Nat
  /-- In Lay-by (R310), entered with the present endpoint already there. -/
  layby : Bool
  layOld : Bool
  layCause : Nat
  deriving DecidableEq, Repr

/-- Where a LIN_SCHED operation came from: an endpoint's command, or LIN_CTRL. -/
inductive LinFrom where
  | ring (ep tag : Nat)
  | ctrl
  deriving DecidableEq, Repr

/-- A LIN master beyond its registers (R312 to R315). -/
structure Lin where
  /-- Operations that wait for the next slot start: OP, TABLE, origin. -/
  pend : List (Nat × Nat × LinFrom)
  slotAt : Nat
  /-- The next slot start is that of slot 0. -/
  first : Bool
  /-- The frame whose response is awaited, and whether one came with a bad checksum. -/
  wait : Option Nat
  badSum : Bool
  /-- The last frame sent: its identifier, its data as latched at the break field, its checksum (R312, R313). -/
  sent : Option (Nat × Nat × Nat)
  /-- The end of the maximum frame time of the last header (R312). -/
  frameEnd : Nat
  /-- The restart after a wake pulse (R315). -/
  wakeAt : Option Nat
  deriving DecidableEq, Repr

/-- Signal pins and LIN masters (block 0x0E). -/
structure PinState where
  pin : Tbl Pin
  lin : Tbl Lin
  deriving DecidableEq, Repr

/-! ### Chapter 12: CAN FD controllers -/

/-- A message buffer beyond its registers (R264, R266, R270, R273). -/
structure CanBuf where
  /-- Words 0 to 17 of Table 12-2, and the time stamp. -/
  words : Tbl Word
  time : Nat
  /-- The shadow: its words and time stamp. -/
  shadow : Option (Tbl Word × Nat)
  /-- An abort is held until the attempt's deciding moment; an abort came after the commit point (R270). -/
  cancelHeld : Bool
  lateAbort : Bool
  /-- A window of the buffer was missed with CATCH_UP (R273). -/
  catchUp : Bool
  /-- The local time at which the request became PENDING (R267). -/
  pendAt : Nat
  deriving DecidableEq, Repr

/-- A transmission attempt (R267, R270): its buffer, or none for the head of the gateway queue; its start of frame in local time; and
the vehicle time of its commit point, once passed. -/
structure CanTry where
  src : Option Nat
  start : Nat
  commit : Option Nat
  deriving DecidableEq, Repr

/-- The exclusive window that runs (R272, R273): its item's CYCLE and WINDOW, its buffer, its end in local time, whether the buffer
was PENDING at its start, and whether an attempt has succeeded in it. -/
structure TtWin where
  cycle : Nat
  window : Nat
  buf : Nat
  fin : Nat
  catchUp : Bool
  pend : Bool
  ok : Bool
  deriving DecidableEq, Repr

/-- A message of the gateway transmit queue (R276): words 0 and 1, the data bytes, and the local time of its arrival. -/
structure GwyMsg where
  w0 : Nat
  w1 : Nat
  data : List Byte
  at_ : Nat
  deriving DecidableEq, Repr

/-- A CAN channel beyond its registers. -/
structure Can where
  bufs : Tbl CanBuf
  attempt : Option CanTry
  /-- Another node's frame is on the bus after a lost arbitration. -/
  rx : Bool
  /-- The local time at which the bus is idle again for this channel: intermission, suspend transmission, or integration over. -/
  freeAt : Nat
  /-- The local time of the last choice, or of the next: the sample point of the second bit of intermission, or the moment from which
  the channel may send (R267). -/
  chooseAt : Nat
  busOffAt : Nat
  gwy : List GwyMsg
  gwyUsed : Nat
  /-- A buffer locked through the window, and the local time of the lock (R266). -/
  lock : Option (Nat × Nat)
  win : Option TtWin
  /-- The start of the last basic cycle under REF 1, and its matrix cycle (R275). -/
  cycleAt : Nat
  cycle : Nat
  deriving DecidableEq, Repr

/-- The CAN FD controllers (block 0x0C). -/
structure CanState where
  ch : Tbl Can
  deriving DecidableEq, Repr

/-! ### Chapter 18: key slots (R395, R397) -/

/-- A working copy of a Cellar slot: 0 empty, 1 loaded, 2 bad; with the record it was loaded from. -/
structure KeySlot where
  st : Nat
  keyLen : Nat
  gen : Nat
  attr : Nat
  kcv : List Byte
  owner : Nat
  iv : List Byte
  key : List Byte
  deriving DecidableEq, Repr

/-! ### Chapters 05 and 06: the switch -/

/-- An entry of the forwarding database (R101, R102); `hit` is the local time of its last hit. -/
structure FdbEnt where
  mac : Nat
  vid : Nat
  ports : Nat
  static : Bool
  hit : Nat
  deriving DecidableEq, Repr

/-- A frame in Plaza. `payload` starts at the EtherType after any 802.1Q tag and any R-TAG taken off; `len` counts from the destination
address to the FCS as received; `stamp` is vehicle time (R124). -/
structure SwFrame where
  id : Nat
  inp : Nat
  da : Nat
  sa : Nat
  tagged : Bool
  pcp : Nat
  dei : Nat
  vid : Nat
  payload : List Byte
  /-- The received bytes in front of the payload: addresses, tag, and an R-TAG that has been taken off. -/
  hdr : Nat
  len : Nat
  /-- The bytes received so far, from the destination address, for a frame decided before its end. -/
  got : List Byte
  stamp : Nat
  ended : Bool
  bad : Bool
  /-- The sequence number that the copies with an R-TAG carry (R134). -/
  seq : Option Nat
  /-- The stream that meters it, and the bytes taken from the bucket (R133). -/
  meter : Option (Nat × Nat)
  /-- The stream whose history took its number, or whose history judges it at its end (R135): handle, number, already taken. -/
  elim : Option (Nat × Nat × Bool)
  deriving DecidableEq, Repr

/-- A MACsec SA (R113, R114): the key, SSCI, salt, SCI and the next (transmit) or lowest acceptable (receive) PN. -/
structure MsSa where
  key : List Byte
  ssci : Nat
  salt : Nat
  sci : Nat
  pn : Nat
  deriving DecidableEq, Repr

/-- A copy of a frame for one output and class, or for one endpoint behind EPE. -/
structure SwCopy where
  n : Nat
  frame : Nat
  inp : Nat
  out : Nat
  tc : Nat
  ep : Nat
  charge : Nat
  ct : Bool
  /-- It stands in its virtual output queue. -/
  joined : Bool
  /-- Cells crossed, and the turn in which the first of them crossed. -/
  crossed : Nat
  turn : Nat
  done : Bool
  /-- Its first byte has left, at this local time, under this MACsec SA: AN and SA. -/
  started : Bool
  txAt : Nat
  an : Nat
  sa : Option MsSa
  deriving DecidableEq, Repr

/-- A stream (R133 to R136): micro-bits taken from the bucket and not refilled, at a local time; the sequence counters; the recovery
history, bit 0 the newest; counters and SAT bits. -/
structure Strm where
  used : Nat
  at_ : Nat
  txSeq : Nat
  rxSeq : Nat
  hist : Nat
  takeAny : Bool
  seenAt : Nat
  cnt : Tbl Nat
  sat : Nat
  deriving DecidableEq, Repr

/-- The credit of a shaped class in micro-bits, at a local time, and what the class does since then (R131): 0 idle, 1 it sends, 2 its gate
is closed, 3 it waits. -/
structure Shaper where
  credit : Int
  at_ : Nat
  mode : Nat
  deriving DecidableEq, Repr

/-- An SA load under way (R114): the code it will end with, the word written, the staging words, and the key. -/
structure SaLoad where
  code : Nat
  w : Nat
  stage : List Nat
  key : List Byte
  deriving DecidableEq, Repr

/-- A frame that waits at an injector (R108): its port EPE, CPA or CPB; its queue set, that is its endpoint, or on CPA and CPB the district
that owns the set; its tag, class and bytes, without FCS on EPE; the time at which it was presented. -/
structure InjFrame where
  port : Nat
  ep : Nat
  tag : Nat
  tc : Nat
  bytes : List Byte
  stamp : Nat
  deriving DecidableEq, Repr

/-- A frame that is being received at a port: its bytes so far, the time of its first byte, an error symbol in them; whether its forwarding
decision has been made, and what the meter took for it then (R99, R127, R133). -/
structure RxFrame where
  got : List Byte
  stamp : Nat
  err : Bool
  decided : Bool
  meter : Option (Nat × Nat)
  deriving DecidableEq, Repr

/-- The last frame that a port sent, FCS included (an internal port: without), and whether it ended bad (R110, R111). -/
structure SentFrame where
  bytes : List Byte
  bad : Bool
  deriving DecidableEq, Repr

/-- An NTSCF frame that the gateway fills (R139, R140): its stream, the local time of its first message, its messages. -/
structure GwyFrame where
  stream : Nat
  first : Nat
  msgs : List (List Byte)
  deriving DecidableEq, Repr

/-- The switch (blocks 0x08 and 0x09) and the gateway port. -/
structure SwState where
  fdb : List FdbEnt
  frames : List SwFrame
  copies : List SwCopy
  next : Nat
  /-- Roundabout's pointers (R107): output × 8 + class, input × 8 + class; connections: input, copy. -/
  grant : Tbl Nat
  accept : Tbl Nat
  conns : List (Nat × Nat)
  /-- The local time since which a port's link is up; ports whose flush runs; ports whose link returns behind it (R126). -/
  linkAt : Tbl Nat
  flushing : List Nat
  returns : List Nat
  streams : Tbl Strm
  shapers : Tbl Shaper
  sent : Tbl SentFrame
  /-- Per port, the frame that is being received. -/
  rx : Tbl (Option RxFrame)
  /-- Frames that wait at the injectors of EPE, CPA and CPB, oldest first; per port the queue set whose turn it is; the deficits of the
  queue sets of CPA and CPB, by port × 64 + district (R108). -/
  inject : List InjFrame
  injTurn : Tbl Nat
  dmaDeficit : Tbl Nat
  /-- Transmit SAs: port × 4 + AN; receive SAs: port × 16 + SC × 4 + AN. The load under way of each port. -/
  txSa : Tbl (Option MsSa)
  rxSa : Tbl (Option MsSa)
  saLoad : Tbl (Option SaLoad)
  gwy : List GwyFrame
  gwySeq : Tbl Nat
  deriving DecidableEq, Repr

/-- Vehicle time (R137, R138): the correction still to be slewed, in ns, positive when local time is behind; the local time of the last
Sync; Sync intervals in a row below 1 µs; per port the time of the last Sync sent and the measured neighbour delay. -/
structure TimeState where
  slew : Int
  /-- The ns since the last correction of 1 ns, 2,000 of which correct one; the sign of the last rate, which HOLDOVER keeps. -/
  slewRem : Nat
  hold : Int
  syncAt : Nat
  good : Nat
  sentAt : Tbl Nat
  nbr : Tbl Nat
  deriving DecidableEq, Repr

/-! ### Chapter 13: network sleep and wake -/

/-- A Curfew frame that the node is to send (R289, R291): NEXT, the flags of byte 2, whether a start waits for it, retransmissions used,
the local time it was made ready (of the WAKE frame of a T1S segment that wakes: the end of the 2 ms pattern before it), and whether its bus has sent it (1) or failed to (2). -/
structure MedFrame where
  next : Nat
  flags : Nat
  start : Bool
  tries : Nat
  at_ : Nat
  st : Nat
  deriving DecidableEq, Repr

/-- A ring medium beyond its registers (R292, R293): when RING_T expires; the node addressed and when SKIP_T expires; the local times of
the last RING frame seen, of the last LIMP frame, of the start of the present consent in LIMP, and of the bell; frames to send; the
frame sent last, on CAN as a buffer image of words 0 to 3, on T1S from the destination address on (R289). -/
structure Medium where
  ringT : Option Nat
  skip : Option (Nat × Nat)
  ringSeen : Nat
  limpAt : Nat
  consentAt : Nat
  bellAt : Nat
  out : List MedFrame
  last : List Byte
  deriving DecidableEq, Repr

/-- A CAN transceiver (R284 to R286): the local time it left NORMAL, its frame error counter, the wake armed at that time (0 none, 1
WUP, 2 WUF); the local times at which its heartbeats began and of the last one before they stopped. -/
structure Trx where
  sleepAt : Nat
  fec : Nat
  armed : Nat
  beatsAt : Nat
  beatAt : Nat
  deriving DecidableEq, Repr

/-- Block 0x0D; per Ethernet port the local time of its request or wake, and the wake-up requests it has sent on an active link (R298 to
R300). -/
structure NmState where
  med : Tbl Medium
  trx : Tbl Trx
  eth : Tbl Nat
  wur : Tbl Nat
  deriving DecidableEq, Repr

/-! ### Chapters 08 and 09: Shopfront -/

/-- A line in a ring slot (R178): its camera frame and line number, the vehicle time at which its receipt ended, whether its payload
CRC failed (R203), its bytes. -/
structure CamLine where
  frame : Option Nat
  line : Nat
  at_ : Nat
  bad : Bool
  px : List Byte
  deriving DecidableEq, Repr

/-- A triggered camera frame: j and C(j) (R173). -/
structure TrigFrame where
  j : Nat
  at_ : Nat
  deriving DecidableEq, Repr

/-- The camera frame before the one whose start came last: j, its j_src, the lines received in it. -/
structure PastFrame where
  j : Nat
  src : Option Nat
  lines : Nat
  deriving DecidableEq, Repr

/-- A camera beyond its registers (R173 to R178, R199, R202 to R205). -/
structure Cam where
  /-- The last trigger, its local time, the earliest vehicle time of the next one after a step (R177), and j_run. -/
  trig : Option TrigFrame
  trigAt : Nat
  bound : Option Nat
  jRun : Nat
  /-- Frames triggered whose frame start has not come, oldest first. -/
  due : List TrigFrame
  /-- The frame whose frame start came last, whether it is being received, and its j_src. -/
  rx : Option TrigFrame
  open_ : Bool
  src : Option Nat
  prev : Option PastFrame
  /-- F of the last frame start, and whether it advanced by exactly 1. -/
  num : Option Nat
  step : Bool
  /-- Lines received since RUN was set; lines received in the frame. -/
  n : Nat
  line : Nat
  /-- In this frame: lock lost, a CSI-2 error, a payload CRC error; a payload CRC error in the previous frame. -/
  lost : Bool
  err : Bool
  crc : Bool
  crcPrev : Bool
  /-- A camera power fault was present in this frame (R204). -/
  pocBad : Bool
  /-- FAULTS has counted the present fault. -/
  counted : Bool
  /-- When the I2C transaction under way began. -/
  i2cAt : Nat
  /-- Power over coax: the local times of the shorts within 60 s of the first; shorted to battery; when the supply went off. -/
  shorts : List Nat
  ext : Bool
  offAt : Nat
  /-- When ON 0 was last written to a supply that was on. -/
  on0At : Option Nat
  deriving DecidableEq, Repr

/-- The command that made a request; a register write made one without (R190). -/
structure CmdId where
  ep : Nat
  tag : Nat
  deriving DecidableEq, Repr

/-- A pending PAN, with its clipped angle. -/
structure PanReq where
  from_ : CmdId
  angle : Int
  time : Nat
  clipped : Bool
  deriving DecidableEq, Repr

/-- A pan target in force, or a pending one's angle and measurement time (R191). -/
structure PanTgt where
  angle : Int
  time : Nat
  deriving DecidableEq, Repr

/-- A MAP_SWAP: being fetched and checked, or pending with its image in the shadow slot (R192). -/
structure SwapReq where
  from_ : CmdId
  addr : Nat
  len : Nat
  ready : Bool
  img : List Byte
  deriving DecidableEq, Repr

/-- A pending TAP, by a command or through SF_TAP_CFG. -/
structure TapReq where
  from_ : Option CmdId
  on : Bool
  deriving DecidableEq, Repr

/-- A view: its active map slot, its requests, its freshness (R206), and what the metadata line tells of it (R201). -/
structure SView where
  map : List Byte
  target : Option PanTgt
  pan : Option PanReq
  swap : Option SwapReq
  tap : Option TapReq
  stale : Nat
  src : Option Nat
  age : Option Nat
  tapSeq : Nat
  deriving DecidableEq, Repr

/-- A pending overlay address. -/
structure OvlReq where
  from_ : Option CmdId
  addr : Nat
  deriving DecidableEq, Repr

/-- An overlay plane: the upper address half as last written, its request, the header of the frame (empty: off). -/
structure Plane where
  hi : Nat
  req : Option OvlReq
  hdr : List Byte
  deriving DecidableEq, Repr

/-- A sent frame whose outcome has not been processed: its CRC and its outcome, 0 while undecided (R207 to R210). -/
structure EchoWait where
  k : Nat
  crc : Nat
  out : Nat
  deriving DecidableEq, Repr

/-- What a slice takes from a view: the camera, its frame, and the source window (R180, R183). -/
structure Part where
  view : Nat
  cam : Nat
  frame : Nat
  a : Nat
  b : Nat
  deriving DecidableEq, Repr

/-- A display beyond its registers. -/
structure Dsp where
  /-- The frame last started: k, S(k), its local time; the earliest S of the next one after a step (R177). -/
  k : Option Nat
  start : Nat
  startAt : Nat
  bound : Option Nat
  /-- The slice being computed, its parts, the views filled in it, those with an overrun, its pixels (R, G, B bytes), the planes whose
  data are late. -/
  slice : Option Nat
  parts : List Part
  fills : List Nat
  overs : List Nat
  rows : List Byte
  late : Nat
  /-- The slice being sent. -/
  out : List Byte
  /-- The running CRC register of the frame (R207) and its highest line age so far, in ns. -/
  crc : Nat
  age : Nat
  /-- The frame has been sent, and the CRC of the frame sent last. -/
  sent : Bool
  lastCrc : Nat
  waits : List EchoWait
  /-- The decided display state, and the forces in force: bit 0 mark, bit 1 blank, bit 2 the marker of an absent monitor (R210 to
  R212). -/
  dec : Nat
  force : Nat
  /-- The metadata line of the frame (R201). -/
  metaLine : List Byte
  deriving DecidableEq, Repr

/-- Shopfront (block 0x0A). Ring slots by camera × 128 + slot; views by 4 × display + view; planes by 4 × display + plane; the local
time of MIRROR's power-up or of the last accepted heartbeat, and whether one has been accepted since (R211, R212). -/
structure SfState where
  lines : Tbl CamLine
  cam : Tbl Cam
  view : Tbl SView
  plane : Tbl Plane
  dsp : Tbl Dsp
  hbAt : Nat
  hbAny : Bool
  /-- A heartbeat has been accepted, and the monitor's absence ends at the next frame boundary (R212). -/
  monBack : Bool
  deriving DecidableEq, Repr

/-! ### Chapter 15: pairs -/

/-- A gated write held in a pair's release gate (R329): the window it belongs to, its issuer, its address, its data. -/
structure GateEnt where
  win : Nat
  who : Who
  addr : Nat
  data : List Byte
  deriving DecidableEq, Repr

/-- A pair beyond its registers: windows closed and windows compared since it was locked (R327, R331), and the gate. -/
structure PairSt where
  closed : Nat
  compared : Nat
  gate : List GateEnt
  /-- The local time from which the next window may open, and whether held writes are leaving the gate now. -/
  openAt : Nat
  leaving : Bool
  deriving DecidableEq, Repr

/-- The pairs and Bollards (block 0x04): the local time of the last self-test, and the bit of the next (R333). -/
structure CpState where
  pair : Tbl PairSt
  testAt : Nat
  bit : Nat
  deriving DecidableEq, Repr

/-! ### Chapter 18: Cellar -/

/-- A Cornerstone area in OTP (R391): 0 unburned, 1 partly burned, 2 burned with its marker; its 256 bits. -/
structure CsArea where
  st : Nat
  key : List Byte
  deriving DecidableEq, Repr

/-- The OTP (R391, R414, R428), retained by every reset (R81): the Cornerstone areas, the provisioning lock, the anti-rollback
positions burned. -/
structure OtpState where
  cs0 : CsArea
  cs1 : CsArea
  provLocked : Bool
  floor : Nat
  deriving DecidableEq, Repr

/-- A Cellar operation of a KEY endpoint (R401 to R404): whether it has started, the slots as it found them then, the slot it replaces
and the new record. -/
structure KeyOp where
  ep : Nat
  tag : Nat
  op : Nat
  started : Bool
  slot : KeySlot
  aux : KeySlot
  target : Option Nat
  record : List Byte
  deriving DecidableEq, Repr

/-- Cellar (block 0x06): working copies; operations in the order of their arrival; ATTEST commands completed since the last restart; a
tamper record that is to be written (R410); the health of the entropy source (R393). Kept by Lamplighter across sleep (R409): vehicle and
local time of the sleep commit, the policy then in force, and the latched FULL and ABORT_ONLY sources with the time of the first. -/
structure KsState where
  slots : Tbl KeySlot
  ops : List KeyOp
  attests : Nat
  recDue : Bool
  drbgOk : Bool
  sleepVt : Nat
  sleepAt : Nat
  policy : Nat
  latFull : Nat
  latAbort : Nat
  latTime : Nat
  deriving DecidableEq, Repr

/-- A copy of the boot record (R426): SEQ, LAST_GOOD, BOOT_BANK, TRIAL. -/
structure BootRec where
  seq : Nat
  lastGood : Nat
  bootBank : Nat
  trial : Nat
  deriving DecidableEq, Repr

/-- An apply under way (R424): the outcome of its steps, worked through when it was accepted: the code, DONE where no step fails; the
failing section and byte offset; the first 4 KiB of target, held back. [Assumption 43: DESIGN CHOICE, unsafe.] -/
structure Apply where
  code : Nat
  sec : Nat
  pos : Nat
  head : List Byte
  deriving DecidableEq, Repr

/-- Roadworks (block 0x07) and the plan loader: the two copies of the boot record in MRAM, the states of bank A and B as they were last
known (R424 to R428), an apply under way, the vehicle time of a pending ACTIVATE AT, the section TYPEs of the running plan (R27),
and the hardware revision that the last boot checked plans against (R33). -/
structure UpState where
  rec0 : Option BootRec
  rec1 : Option BootRec
  stA : Nat
  stB : Nat
  apply : Option Apply
  actAt : Option Nat
  secs : List Nat
  hwrev : Nat
  deriving DecidableEq, Repr

/-- A non-posted access in flight (R444 to R448): its initiator, window, operation, twin address, the local times of its issue and of its
last try, and whether an atomic waits to be tried again. -/
structure NpAcc where
  who : Who
  win : Nat
  op : UxOp
  addr : Nat
  at_ : Nat
  tryAt : Nat
  again : Bool
  deriving DecidableEq, Repr

/-- A posted write not yet acknowledged (R445): its sequence number, window and twin address. -/
structure Posted where
  seq : Nat
  win : Nat
  addr : Nat
  deriving DecidableEq, Repr

/-- An LR hold: its end in local time, and the address of the word. -/
structure LrHold where
  fin : Nat
  addr : Nat
  deriving DecidableEq, Repr

/-- A semaphore of this unit (R447, R448): whether the twin holds it, the holding district, and for an LR hold its end in local time and
the word it read. -/
structure Sem where
  twin : Bool
  district : Nat
  lr : Option LrHold
  deriving DecidableEq, Repr

/-- A takeover decided and not yet committed (R449): its cause, and the state that it applies. -/
structure Takeover where
  cause : Nat
  last : TwinChan
  deriving DecidableEq, Repr

/-- The last message sent to the twin (R437, R443, R445): the answer to an inbound access, or the error message of a posted write. -/
inductive UxReply where
  | answer (a : NpAnswer)
  | error (seq code : Nat)
  deriving DecidableEq, Repr

/-- Underpass (block 0x0F): the last heartbeat sent and its local time; the local time of the twin's last valid heartbeat, whether one has
come since the twin was last lost, and its SLEEP flag; the last poll, by twin channel, and the twin's device state in it; the local time of
the last poll sent; posted writes; accesses in flight, oldest first; semaphores; takeovers decided; the last answer sent. -/
structure UxState where
  hbOut : Option Heartbeat
  hbSentAt : Nat
  hbAt : Nat
  alive : Bool
  hbSleep : Bool
  chans : Tbl (Option TwinChan)
  twinDev : Nat
  pollAt : Nat
  postSeq : Nat
  posted : List Posted
  np : List NpAcc
  sems : Tbl (Option Sem)
  takes : Tbl (Option Takeover)
  reply : Option UxReply
  deriving DecidableEq, Repr


/-- The whole machine. [Assumption 1: DESIGN CHOICE, unsafe.] -/
structure State where
  /-- The commands that wait, first in first out. -/
  pending : List Instr
  dev : DevState
  /-- Local time in ns since the state after reset: the clock of every interval (R15, R53). -/
  now : Nat
  /-- Vehicle time in ns, a 64-bit count (R53). -/
  vt : Nat
  /-- The register file, by address; an unlisted address reads as its reset value. -/
  regs : Tbl Word
  /-- Memory of the address map (R17), byte by byte; an unlisted address reads 0 (R79, R80). -/
  mem : List Host.Cell
  resp : Resp
  /-- How many free values have been drawn: the model's own counter. -/
  fresh : Nat
  /-- 64-bit counters latched by a read of _LO: initiator, address of _LO, latched upper half (R51). -/
  shadows : List (Nat × Nat × Nat)
  /-- The running plan: its items in bit-stream order (R25 to R29). -/
  plan : List Item
  ao : AoState
  ep : EpState
  wg : WgState
  ic : IcState
  kb : KbState
  pn : PinState
  can : CanState
  sw : SwState
  ptp : TimeState
  nm : NmState
  sf : SfState
  cp : CpState
  otp : OtpState
  ks : KsState
  up : UpState
  ux : UxState
  deriving DecidableEq, Repr

/-- The reasons for which the block could stop for good. The spec gives none: a refused access is answered and recorded (R44), a
bus error is an answer (R42, R19), a fault of a unit is state of that unit. So this type has no constructor and no command raises
one (safe: nothing is hidden behind a fault). [Assumption 5: DESIGN CHOICE, safe.] -/
inductive Fault where
  deriving DecidableEq, Repr

/-- The reasons for which a command has no meaning. [Assumption 5: DESIGN CHOICE, safe.] -/
inductive Refusal where
  /-- Raised by the arm of a command whose meaning is not written (safe: nothing is claimed about it). -/
  | notModelled (mnemonic : String)
  deriving DecidableEq, Repr

/-- The always-on domain as the first power-on finds it: no watchdog kick, no event, no words in MRAM (R83, R90). -/
def WakeIn.reset : WakeIn := ⟨0, 0, false, none⟩

/-- [Assumption 9: DESIGN CHOICE, unsafe.] -/
def AoState.reset : AoState := ⟨none, 0, 0, [], [], [], [], [], 0, [], [], false, [], [], 0, false, false, none, [], []⟩

/-- No endpoint, nothing in flight (R145). -/
def EpState.reset : EpState := ⟨[], [], [], [], none, [], [], [], [], [], []⟩

/-- No hart has anything to hold, no line is cached, every word is sound (R351, R361, R365). -/
def WgState.reset : WgState := ⟨[], [], [], [], [], [], [], [], []⟩

/-- Every source and target as R380 and R390 leave them. -/
def IcState.reset : IcState := ⟨[], []⟩

/-- A channel that has never been on. -/
def Chan.reset : Chan :=
  { duty := 0, hz := 0, mode := 0, pwmNext := none, pwmStart := 0, pwmAt := 0, since := 0, slew := 0, falls := none, inrushEnd := none, tripAt := 0, brake := none,
    temp := 0, cur := 0, sq := 0, gangSq := 0, n := 0, i2 := 0, energy := 0, olSum := 0, olN := 0, stbFail := 0, stbPass := 0, olFail := 0,
    olPass := 0, held := 0, holdTrip := false, hot := false, layOld := false }

/-- A feed before its first sample. -/
def Feed.reset : Feed := ⟨0, 0, 0, [], 0⟩

/-- Kerbside without power. [Assumption 9: DESIGN CHOICE, unsafe.] -/
def KbState.reset : KbState :=
  { up := false, ch := [], feedA := Feed.reset, feedB := Feed.reset, pFilt := 0, pInst := 0, shedAt := none, ambAt := 0, ambSwAt := none,
    khSince := none, sampleAt := 0, wireAt := 0, houseAt := 0 }

def Pin.reset : Pin := ⟨0, 0, 0, 0, 0, 0, 0, 0, 0, false, 0, 0, 0, false, false, 0⟩
/-- [Assumption 10: DESIGN CHOICE, unsafe.] -/
def Lin.reset : Lin := ⟨[], 0, true, none, false, none, 0, none⟩
def PinState.reset : PinState := ⟨[], []⟩

def CanBuf.reset : CanBuf :=
  { words := [], time := 0, shadow := none, cancelHeld := false, lateAbort := false, catchUp := false, pendAt := 0 }

def Can.reset : Can :=
  { bufs := [], attempt := none, rx := false, freeAt := 0, chooseAt := 0, busOffAt := 0, gwy := [], gwyUsed := 0, lock := none, win := none,
    cycleAt := 0, cycle := 0 }

def CanState.reset : CanState := { ch := [] }

def KeySlot.empty : KeySlot := ⟨0, 0, 0, 0, [], 0, [], []⟩
/-- [Assumption 10: DESIGN CHOICE, unsafe. Assumption 69: DESIGN CHOICE, unsafe.] -/
def Strm.reset : Strm := ⟨0, 0, 0, 0, 0, true, 0, [], 0⟩
def Shaper.reset : Shaper := ⟨0, 0, 0⟩
def SwState.reset : SwState :=
  { fdb := [], frames := [], copies := [], next := 0, grant := [], accept := [], conns := [], linkAt := [], flushing := [],
    returns := [], streams := [], shapers := [], sent := [], rx := [], inject := [], injTurn := [], dmaDeficit := [], txSa := [], rxSa := [], saLoad := [],
    gwy := [], gwySeq := [] }
def TimeState.reset : TimeState := ⟨0, 0, 0, 0, 0, [], []⟩

def Medium.reset : Medium := ⟨none, none, 0, 0, 0, 0, [], []⟩
def Trx.reset : Trx := ⟨0, 0, 0, 0, 0⟩
def NmState.reset : NmState := ⟨[], [], [], []⟩

def CamLine.none_ : CamLine := ⟨none, 0, 0, false, []⟩
def Cam.reset : Cam :=
  { trig := none, trigAt := 0, bound := none, jRun := 0, due := [], rx := none, open_ := false, src := none, prev := none, num := none,
    step := false, n := 0, line := 0, lost := false, err := false, crc := false, crcPrev := false, pocBad := false, counted := false,
    i2cAt := 0, shorts := [], ext := false, offAt := 0, on0At := none }
def SView.reset : SView := ⟨[], none, none, none, none, 0, none, none, 0⟩
def Plane.reset : Plane := ⟨0, none, []⟩
/-- [Assumption 10: DESIGN CHOICE, unsafe.] -/
def Dsp.reset : Dsp :=
  { k := none, start := 0, startAt := 0, bound := none, slice := none, parts := [], fills := [], overs := [], rows := [], late := 0,
    out := [], crc := 0xFFFFFFFF, age := 0, sent := false, lastCrc := 0, waits := [], dec := 0, force := 0, metaLine := [] }
def SfState.reset : SfState := ⟨[], [], [], [], [], 0, false, false⟩

def PairSt.reset : PairSt := ⟨0, 0, [], 0, false⟩
def CpState.reset : CpState := ⟨[], 0, 0⟩

/-- A device as it leaves the factory: nothing burned (R391, R414, R428). [Assumption 9: DESIGN CHOICE, unsafe.] -/
def OtpState.reset : OtpState := ⟨⟨0, []⟩, ⟨0, []⟩, false, 0⟩
def KsState.reset : KsState := ⟨[], [], 0, false, true, 0, 0, 0, 0, 0, 0⟩

/-- A device as it leaves the factory: no boot record, both banks CONFIRMED where they hold a bank (R426, R427).
[Assumption 9: DESIGN CHOICE, unsafe.] -/
def UpState.reset : UpState := ⟨none, none, 4, 4, none, none, [], 0⟩

/-- No twin has been heard of; the posted sequence number starts at 0 (R439, R445). -/
def UxState.reset : UxState :=
  { hbOut := none, hbSentAt := 0, hbAt := 0, alive := false, hbSleep := false, chans := [], twinDev := 0, pollAt := 0, postSeq := 0,
    posted := [], np := [], sems := [], takes := [], reply := none }

/-- The machine before its first power-on: state Off, every register at its reset value, no running plan (R69, R81).
[Assumption 3: DESIGN CHOICE, unsafe. Assumption 7: DESIGN CHOICE, unsafe. Assumption 8: DESIGN CHOICE, unsafe. Assumption 9: DESIGN CHOICE, unsafe. Assumption 10: DESIGN CHOICE, unsafe.] -/
def State.reset : State where
  pending := []
  dev := .off
  now := 0
  vt := 0
  regs := []
  mem := []
  resp := .none
  fresh := 0
  shadows := []
  plan := []
  ao := AoState.reset
  ep := EpState.reset
  wg := WgState.reset
  ic := IcState.reset
  kb := KbState.reset
  pn := PinState.reset
  can := CanState.reset
  sw := SwState.reset
  ptp := TimeState.reset
  nm := NmState.reset
  sf := SfState.reset
  cp := CpState.reset
  otp := OtpState.reset
  ks := KsState.reset
  up := UpState.reset
  ux := UxState.reset


end Sys2Proof.Machine
end

