-- ==== Sys2Proof/Machine/Tbl.lean ====
section
/-! DEFINITION. Sparse tables: reading, writing, and the canonical form. A table is read with its default `d`, which says what an
unlisted key reads as. -/

namespace Sys2Proof.Machine

/-- The value at key `k`; an unlisted key reads as `d k`. -/
def tget {α : Type} (d : Nat → α) (t : Tbl α) (k : Nat) : α :=
  match t with
  | [] => d k
  | (j, v) :: rest => if j = k then v else tget d rest k

/-- The table without key `k`. -/
def terase {α : Type} (t : Tbl α) (k : Nat) : Tbl α :=
  match t with
  | [] => []
  | (j, v) :: rest => if j = k then terase rest k else (j, v) :: terase rest k

/-- The table with an entry put before the first greater key. -/
def tinsert {α : Type} (t : Tbl α) (k : Nat) (x : α) : Tbl α :=
  match t with
  | [] => [(k, x)]
  | (j, v) :: rest => if k < j then (k, x) :: (j, v) :: rest else (j, v) :: tinsert rest k x

/-- The table with key `k` set to `x`; setting what an unlisted key reads as removes the entry. -/
def tset {α : Type} [DecidableEq α] (d : Nat → α) (t : Tbl α) (k : Nat) (x : α) : Tbl α :=
  if x = d k then terase t k else tinsert (terase t k) k x

/-- Every key of the table is greater than `k`. -/
def tabove {α : Type} (t : Tbl α) (k : Nat) : Bool :=
  match t with
  | [] => true
  | (j, _) :: rest => decide (k < j) && tabove rest k

/-- The canonical form: keys strictly rising, no entry equal to what an unlisted key reads as. -/
def twf {α : Type} [DecidableEq α] (d : Nat → α) (t : Tbl α) : Bool :=
  match t with
  | [] => true
  | (j, v) :: rest => decide (v ≠ d j) && tabove rest j && twf d rest

end Sys2Proof.Machine
end

