-- ==== Sys2Proof/Machine/Ops.lean ====
section
/-! DEFINITION. The named operations over the register file, memory and time. -/

namespace Sys2Proof.Machine

/-! ### Registers -/

/-- The reset value of the register at an address, as the register tables give it (R118, R143, R169, R196, R215, R240, R258, R282,
R302, R376, R390, R433, R93); 0 where the table says 0. Registers whose value comes with a plan, a boot or the power-on read what
their table gives without one until BOOT or POWER_ON_START writes them. -/
def regResetNat (a : Nat) : Nat :=
  match a / 0x10000 with
  | 0x2000 => if a = 0x20001000 then 4 else 0
  | 0x2002 => if a = 0x2002000C then 0xA00 else if a = 0x20020014 then 0x3E8 else 0
  | 0x2003 =>
    if 0x20030804 ≤ a ∧ a < 0x20031000 then 0x01000001
    else if 0x20033000 ≤ a ∧ a < 0x20033400 then 0xFFFF0000 else 0
  | 0x2005 => if a = 0x20050040 then 0xFFFFFFFF else 0
  | 0x2007 => if a = 0x20070020 then 1 else 0
  | 0x2008 =>
    if a = 0x20080000 then 0x0012C003 else if a = 0x20080004 then 0x3E8
    else if 0x20080100 ≤ a ∧ a < 0x20080160 then 0x05F20010 else 0
  | 0x2009 =>
    if 0x20090040 ≤ a ∧ a < 0x200900A0 then 0xB0
    else if 0x20092500 ≤ a ∧ a < 0x20092560 then 0xFF
    else if a = 0x20093040 then 0x64 else 0
  | 0x200A =>
    if 0x200A0010 ≤ a ∧ a < 0x200A0020 then 0x3A9803E8
    else if 0x200A0140 ≤ a ∧ a < 0x200A0160 then 0x00040000
    else if 0x200A0300 ≤ a ∧ a < 0x200A0308 then 0x1E31
    else if 0x200A0310 ≤ a ∧ a < 0x200A0330 then 0x861 else 0
  | 0x200B =>
    if a = 0x200B002C then 0x352
    else if 0x200B0B00 ≤ a ∧ a < 0x200B0BD0 then 7 else 0
  | 0x200C =>
    if a = 0x200C8000 then 0x06000008
    else if a < 0x200C8000 then
      (if a % 0x1000 = 0x20 then 0x3E8 else if a % 0x1000 = 0x30 then 0x30000 else 0)
    else 0
  | 0x200D =>
    if a < 0x200D0020 then 0x02140280
    else if 0x200D0100 ≤ a ∧ a < 0x200D0128 then 0x10000
    else if 0x200D0708 ≤ a ∧ a < 0x200D0740 then 4 else 0
  | _ => 0

/-- `regResetNat` as a register word. [Assumption 8: DESIGN CHOICE, unsafe.] -/
def regReset (a : Nat) : Word := BitVec.ofNat 32 (regResetNat a)

/-- The word of the register at an address. [Assumption 8: DESIGN CHOICE, unsafe.] -/
def State.reg (s : State) (a : Nat) : Word := tget regReset s.regs a

/-- The state with the word of one register replaced. -/
def State.setReg (s : State) (a : Nat) (w : Word) : State := { s with regs := tset regReset s.regs a w }

/-- The value of a field. -/
def State.rd (s : State) (f : Fld) : Nat := getBits (s.reg f.addr).toNat f.hi f.lo

/-- The state with one field replaced. -/
def State.wr (s : State) (f : Fld) (v : Nat) : State :=
  s.setReg f.addr (BitVec.ofNat 32 (putBits (s.reg f.addr).toNat f.hi f.lo v))

/-- A one-bit field. -/
def State.flag (s : State) (f : Fld) : Bool := s.rd f == 1

/-- The state with a one-bit field set to a truth value. -/
def State.setFlag (s : State) (f : Fld) (b : Bool) : State := s.wr f (if b then 1 else 0)

/-- One bit of a register, as a field. -/
def bitOf (a b : Nat) : Fld := ⟨a, b, b⟩

/-- Every register from one address up to another (the second not included) back to its reset value. -/
def State.resetRegs (s : State) (lo hi : Nat) : State :=
  { s with regs := s.regs.filter (fun p => decide (p.1 < lo) || decide (hi ≤ p.1)) }

/-! ### Memory (R17, R79, R80) -/

/-- What a byte of memory that nothing has written reads as: cleared memory reads 0 (R79, R80), and erased flash reads ones
(R421). [Assumption 7: DESIGN CHOICE, unsafe.] -/
def memReset (a : Nat) : Byte := if 0x40000000 ≤ a ∧ a < 0x60000000 then 0xFF#8 else 0#8

/-- One byte of memory. [Assumption 7: DESIGN CHOICE, unsafe.] -/
def State.byte (s : State) (a : Nat) : Byte := tget memReset s.mem a

/-- `n` bytes from an address upwards. -/
def State.bytes (s : State) (a n : Nat) : List Byte :=
  match n with
  | 0 => []
  | n + 1 => s.byte a :: s.bytes (a + 1) n

/-- The memory with bytes put from an address upwards. -/
def memPut (m : List Host.Cell) (a : Nat) (bs : List Byte) : List Host.Cell :=
  match bs with
  | [] => m
  | b :: rest => memPut (tset memReset m a b) (a + 1) rest

/-- The state with bytes stored from an address upwards. A 64-bit word that the store covers whole gets valid check bits (R350). -/
def State.store (s : State) (a : Nat) (bs : List Byte) : State :=
  { s with
    mem := memPut s.mem a bs,
    wg := { s.wg with
      poison := s.wg.poison.filter (fun w => !(decide (a ≤ 8 * w) && decide (8 * w + 8 ≤ a + bs.length))),
      single := s.wg.single.filter (fun w => !(decide (a < 8 * w + 8) && decide (8 * w < a + bs.length))) } }

/-- Some word that the bytes from `a`, `n` of them, touch reads as uncorrectable (R349). -/
def State.poisoned (s : State) (a n : Nat) : Bool :=
  s.wg.poison.any (fun w => decide (8 * w < a + n) && decide (a < 8 * w + 8))

/-- A little-endian number of `n` bytes (R8). -/
def State.le (s : State) (a n : Nat) : Nat := leNat (s.bytes a n)

/-! ### Time -/

/-- The 64-bit vehicle-time count (R53). -/
def vtMod : Nat := 2 ^ 64

/-- The slew of vehicle time in `d` ns: 1 ns in 2,000, towards the grandmaster, or at the last rate in HOLDOVER (Table 06-2). -/
def slewIn (p : TimeState) (d : Nat) : Int :=
  let n : Int := (((p.slewRem + d) / 2000 : Nat) : Int)
  if p.hold ≠ 0 then p.hold * n else max (-n) (min n p.slew)

/-- What `d` ns leave to be slewed. -/
def slewed (p : TimeState) (d : Nat) : TimeState :=
  if p.slew = 0 ∧ p.hold = 0 then p
  else { p with slew := if p.hold ≠ 0 then p.slew else p.slew - slewIn p d, slewRem := (p.slewRem + d) % 2000 }

/-- `d` ns pass: the local clock advances by `d`, vehicle time by `d` and the slew.
[Assumption 2: DESIGN CHOICE, unsafe. Assumption 173: DESIGN CHOICE, unsafe.] -/
def State.pass (s : State) (d : Nat) : State :=
  { s with now := s.now + d, vt := ((s.vt : Int) + d + slewIn s.ptp d).toNat % vtMod, ptp := slewed s.ptp d }

/-- The local time is at least `t`: an event whose moment is `t` comes about, so that moment has been reached.
[Assumption 173: DESIGN CHOICE, unsafe.] -/
def State.reach (s : State) (t : Nat) : State := s.pass (t - s.now)

/-- As much local time as takes vehicle time towards `t` and, slewing, not past it. -/
def State.towardsVt (s : State) (t : Nat) : State :=
  let d := t - s.vt
  s.pass (d - (if 0 < s.ptp.hold then d / 2001 else min s.ptp.slew.toNat (d / 2001)))

/-- Vehicle time is at least `t`. [Assumption 173: DESIGN CHOICE, unsafe.] -/
def State.reachVt (s : State) (t : Nat) : State :=
  let s := ((s.towardsVt t).towardsVt t).towardsVt t
  if s.vt < t then { s with now := s.now + (t - s.vt), vt := t } else s

/-- One microsecond, millisecond, second in ns. -/
def us : Nat := 1000
def ms : Nat := 1000000
def sec : Nat := 1000000000

/-! ### Small helpers -/

/-- Apply a step for each element of a list, in order. -/
def forAll {α : Type} (l : List α) (f : State → α → State) (s : State) : State :=
  match l with
  | [] => s
  | x :: rest => forAll rest f (f s x)

/-- The bit `k` of a number. -/
def tbit (n k : Nat) : Bool := (n >>> k) % 2 == 1

/-- The number with bit `k` set. -/
def setBit (n k : Nat) : Nat := if tbit n k then n else n + 2 ^ k

/-- The number with bit `k` clear. -/
def clrBit (n k : Nat) : Nat := if tbit n k then n - 2 ^ k else n

/-- A sorted list of numbers with one more. -/
def insertNat (l : List Nat) (k : Nat) : List Nat :=
  match l with
  | [] => [k]
  | j :: rest => if k < j then k :: j :: rest else if k = j then j :: rest else j :: insertNat rest k

/-! ### The running plan -/

/-- The items of one TYPE, in bit-stream order (R28, Table 02-3). -/
def State.items (s : State) (ty : Nat) : List Item := s.plan.filter (fun i => i.ty == ty)

/-- Value field `k` of an item, in the order of Table 02-3. -/
def Item.n (i : Item) (k : Nat) : Nat := i.v.getD k 0

/-- The first item of a TYPE whose first value field is `k`. -/
def State.item (s : State) (ty k : Nat) : Option Item := s.plan.find? (fun i => i.ty == ty && i.n 0 == k)

/-- The first item of a TYPE whose first two value fields are `j` and `k`. -/
def State.item2 (s : State) (ty j k : Nat) : Option Item :=
  s.plan.find? (fun i => i.ty == ty && i.n 0 == j && i.n 1 == k)

/-- Value field `k` of an item that may be absent; 0 without it. -/
def itemN (i : Option Item) (k : Nat) : Nat :=
  match i with
  | some i => i.n k
  | none => 0

/-- A DISTRICT item exists for the district. -/
def State.districtItem (s : State) (d : Nat) : Option Item := s.item 0x0201 d

/-- The district holds block `n` in its RIGHTS; district 0 holds every block (L01). -/
def State.holdsBlock (s : State) (d n : Nat) : Bool := d == 0 || tbit (itemN (s.districtItem d) 4) n

/-- The free value that the next draw takes. -/
def State.freeNat (s : State) : Nat := Config.free s.fresh

/-- A draw of the model's counter of free values. [Assumption 6: DESIGN CHOICE, safe.] -/
def State.draw (s : State) : State := { s with fresh := s.fresh + 1 }

end Sys2Proof.Machine
end

