-- ==== Sys2Proof/Machine/Flags.lean ====
section
/-! DEFINITION. The source side of Crossing (R377 to R384), event counters (R50, R51) and rejection records (R44, R45, R47), which
commands of every family use. -/

namespace Sys2Proof.Machine

/-! ### Sources and targets -/

/-- A source without an IRQ_ROUTE item (R380). -/
def Src.idle : Src := ⟨0, 0, false, 0, 0, 0, 0, 0, false⟩

/-- A target after reset (IC_TARGET_CTRL, R390): awake, on SEIP for a core and MEIP for Lamplighter, THRESHOLD 0. -/
def Tgt.fresh (t : Nat) : Tgt := ⟨true, t == 8, 0⟩

def State.src (s : State) (n : Nat) : Src := tget (fun _ => Src.idle) s.ic.src n
def State.setSrc (s : State) (n : Nat) (x : Src) : State :=
  { s with ic := { s.ic with src := tset (fun _ => Src.idle) s.ic.src n x } }
def State.tgt (s : State) (t : Nat) : Tgt := tget Tgt.fresh s.ic.tgt t
def State.setTgt (s : State) (t : Nat) (x : Tgt) : State :=
  { s with ic := { s.ic with tgt := tset Tgt.fresh s.ic.tgt t x } }

/-- The state of pair `p` as CP_PAIR_STATUS shows it (Table 15-1). -/
def State.pairState (s : State) (p : Nat) : Nat := s.rd (Fd.CP_PAIR_STATUS_STATE p)

/-- Pair `p` is LOCKED (Table 15-1). -/
def State.locked (s : State) (p : Nat) : Bool := s.pairState p == 1

/-- The core that issues for core `c`: the even-numbered leader of a locked pair (R322), else `c` itself. -/
def State.leader (s : State) (c : Nat) : Nat := if s.locked (c / 2) then c / 2 * 2 else c

/-- A target is asleep when AWAKE is 0 or when it is a core of a pair in FAULT (R383). -/
def State.asleep (s : State) (t : Nat) : Bool :=
  !(s.tgt t).awake || (decide (t < 8) && s.pairState (t / 2) == 4)

/-- Target `t` is enabled for TARGETS `m`: an enable for the checker of a locked pair counts for the leader, and the checker is no
target at all (R324, R383). -/
def State.enabled (s : State) (m t : Nat) : Bool :=
  if decide (t < 8) && s.locked (t / 2) then t % 2 == 0 && (tbit m t || tbit m (t + 1)) else tbit m t

/-- The first of `n` targets counting upwards modulo 9 from `t` that is enabled and awake (R383). -/
def State.choose (s : State) (m t n : Nat) : Option Nat :=
  match n with
  | 0 => none
  | n + 1 => if s.enabled m (t % 9) && !s.asleep (t % 9) then some (t % 9) else s.choose m (t + 1) n

/-- The WAKE_TARGET of a source named by a WAKE_SUBSET item (R384): the leader for the checker of a locked pair. -/
def State.wakeTarget (s : State) (n : Nat) : Option Nat :=
  match s.item 0x0E02 n with
  | some i => some (s.leader (i.n 1))
  | none => none

/-- A target that wakes takes the PENDING sources without a delivery target that are enabled for it (R383). -/
def State.takeOffers (s : State) (t : Nat) : State :=
  (s.ic.src.filter (fun p => p.2.state == 1 && p.2.target == 15 && s.enabled p.2.targets t)).foldl
    (fun s p => s.setSrc p.1 { p.2 with target := t, byWake := false }) s

/-- Offer a PENDING source to a target (R383), waking the WAKE_TARGET where none qualifies (R384). -/
def State.offer (s : State) (n : Nat) : State :=
  let x := s.src n
  match s.choose x.targets x.ptr 9 with
  | some t => s.setSrc n { x with target := t, byWake := false }
  | none =>
    match s.wakeTarget n with
    | some w =>
      if x.targets = 0 ∨ s.pairState (w / 2) = 4 then s.setSrc n { x with target := 15, byWake := false }
      else ((s.setSrc n { x with target := w, byWake := true }).setTgt w { s.tgt w with awake := true }).takeOffers w
    | none => s.setSrc n { x with target := 15, byWake := false }

/-- A source that is PENDING from now on. -/
def State.makePending (s : State) (n : Nat) : State :=
  (s.setSrc n { s.src n with state := 1, count := 0, first := 0 }).offer n

/-- One event of a source in state IDLE (R382): it becomes PENDING when COUNT events have been counted and its level is asserted.
With COUNT 1 that is its first event; an event after TIME_US from the first one finds it due. -/
def State.srcEvent (s : State) (n : Nat) : State :=
  let x := s.src n
  if x.state ≠ 0 then s else
  let c := x.count + 1
  let s := s.setSrc n { x with count := c, first := if x.count = 0 then s.now else x.first }
  let late := decide (0 < x.count) && decide (x.first + s.rd (Fd.IC_COAL_TIME_US n) * us ≤ s.now)
  if (s.rd (Fd.IC_COAL_COUNT n) ≤ c ∨ late) ∧ x.level then s.makePending n else s

/-- The level of source `n` is `b` from now on (R377): a rise while IDLE is one event (R382); a fall ends a count, and withdraws a
PENDING source that is not claimed (R382, R383). -/
def State.level (s : State) (n : Nat) (b : Bool) : State :=
  let x := s.src n
  if x.level = b then s
  else if b then (s.setSrc n { x with level := true }).srcEvent n
  else if x.state = 2 then s.setSrc n { x with level := false }
  else s.setSrc n { x with level := false, state := 0, target := 0, count := 0, first := 0, byWake := false }

/-- The choice of R383 made again for one source: while it is PENDING and its delivery target has left TARGETS, has fallen asleep,
or does not exist. -/
def State.rechoose (s : State) (n : Nat) : State :=
  let x := s.src n
  if x.state ≠ 1 then s
  else if x.targets = 0 ∨ x.target = 15 ∨ s.asleep x.target ∨ (!x.byWake && !s.enabled x.targets x.target) then s.offer n
  else s

/-- The choice of R383 made again for every source. -/
def State.rechooseAll (s : State) : State := forAll (s.ic.src.map (·.1)) State.rechoose s

/-- The interrupt line of target `t` (R381): some source offered to `t` has a priority at or above THRESHOLD. -/
def State.line (s : State) (t : Nat) : Bool :=
  s.ic.src.any (fun p => p.2.state == 1 && p.2.target == t && decide ((s.tgt t).threshold ≤ p.2.prio))

/-! ### Event counters -/

/-- An event counter counts one (R50): it stops at 0xFFFF_FFFF and then sets its SAT bit, bit `b` of the register at `sat`.
[Assumption 12: DEDUCED, unsafe.] -/
def State.count (s : State) (a sat b : Nat) : State :=
  let v := (s.reg a).toNat
  if v < 0xFFFFFFFE then s.setReg a (BitVec.ofNat 32 (v + 1))
  else (s.setReg a (BitVec.ofNat 32 0xFFFFFFFF)).wr (bitOf sat b) 1

/-- A 64-bit counter at `a` and `a + 4` counts `n` (R51). [Assumption 12: DEDUCED, unsafe.] -/
def State.count64 (s : State) (a sat b n : Nat) : State :=
  let v := (s.reg a).toNat + 2 ^ 32 * (s.reg (a + 4)).toNat + n
  if v < 2 ^ 64 - 1 then (s.setReg a (BitVec.ofNat 32 (v % 2 ^ 32))).setReg (a + 4) (BitVec.ofNat 32 (v / 2 ^ 32))
  else ((s.setReg a (BitVec.ofNat 32 0xFFFFFFFF)).setReg (a + 4) (BitVec.ofNat 32 0xFFFFFFFF)).wr (bitOf sat b) 1

/-! ### Rejection records -/

/-- The reject source of block `n` is asserted while VALID and IRQ_EN are both 1 (R47, Table 17-1). -/
def State.rejectLevel (s : State) (n : Nat) : Bool :=
  s.flag (Fd.LAST_REJECT_VALID n) && s.flag (Fd.REJECT_CTRL_IRQ_EN n)

/-- The rejection record that a rejected access leaves (R48). -/
def rejectWord (twice : Bool) (who : Who) (write : Bool) (addr code : Nat) : Word :=
  BitVec.ofNat 32 (2 ^ 31 + (if twice then 2 ^ 30 else 0) + who.district.toNat * 2 ^ 24 + who.initiator.toNat * 2 ^ 19
    + (if write then 2 ^ 18 else 0) + (addr / 2 ^ 32 % 4) * 2 ^ 16 + code % 2 ^ 16)

/-- Record a rejection in the LAST_REJECT registers of block `n` (R44, R47): it replaces a record that is still VALID and then sets
OVERWRITE. -/
def State.reject (s : State) (n code : Nat) (who : Who) (write : Bool) (addr : Nat) : State :=
  let twice := s.flag (Fd.LAST_REJECT_VALID n)
  let s := s.setReg (Rg.LAST_REJECT n) (rejectWord twice who write addr code)
  let s := s.setReg (Rg.LAST_REJECT_ADDR n) (BitVec.ofNat 32 (addr % 2 ^ 32))
  s.level (1 + n) (s.rejectLevel n)

/-! ### Harts -/

/-- [Assumption 9: DESIGN CHOICE, unsafe.] -/
def Hart.reset : Hart :=
  { pc := 0, mode := .m, satp := 0, vsatp := 0, hgatp := 0, x := [], f := [], fcsr := 0, district := 0, cy := 0, frame := none,
    budgetFrom := 0, excCause := 0, halted := false }

def State.hart (s : State) (c : Nat) : Hart := tget (fun _ => Hart.reset) s.wg.harts c
def State.setHart (s : State) (c : Nat) (x : Hart) : State :=
  { s with wg := { s.wg with harts := tset (fun _ => Hart.reset) s.wg.harts c x } }

/-- Who an access counts as (R12, Table 01-2): a locked pair issues as its leader (R322), a core carries the Courtyard it has entered and,
inside, the district that called; no other initiator but Cellar carries a Courtyard, and Lamplighter, Shopfront, Roadworks and the
Town Plan loader carry district 0. [Assumption 20: DEDUCED, unsafe.] -/
def State.issuer (s : State) (who : Who) : Who :=
  let n := who.initiator.toNat
  if n < 8 then
    let h := s.hart (s.leader n)
    { initiator := BitVec.ofNat 5 (s.leader n)
      district := if h.cy = 0 then who.district else BitVec.ofNat 6 h.district
      courtyard := BitVec.ofNat 4 h.cy }
  else
    { who with
      district := if n = 8 ∨ n = 0xA ∨ n = 0xD ∨ n = 0x10 then 0 else who.district
      courtyard := if n = 0xE then who.courtyard else 0 }

/-- A core takes an exception with this cause (R19, R347, R349, R360): 1 instruction access, 2 illegal instruction, 5 load access,
7 store access. [Assumption 22: DESIGN CHOICE, unsafe.] -/
def State.coreFault (s : State) (who : Who) (cause : Nat) : State :=
  if who.initiator.toNat < 8 then
    let c := s.leader who.initiator.toNat
    s.setHart c { s.hart c with excCause := cause }
  else s

end Sys2Proof.Machine
end

