-- ==== Sys2Proof/Machine/Guards.lean ====
section
/-! DEFINITION. The region guards on physical addresses (R355 to R358) and the rights tables of the register pages (R362). -/

namespace Sys2Proof.Machine

/-- The memories of the address map (Table 01-6, R17), with the guard target of Table 16-1 where a guard stands before them. -/
inductive Place where
  | rom | sram | dualPort | registers | reservedRegisters | doorbells | flash | dram | hole
  deriving DecidableEq, Repr

/-- What an address decodes to (R17, R19). [Assumption 16: DEDUCED, unsafe.] -/
def placeOf (a : Nat) : Place :=
  if a < 0x20000 then .rom
  else if a < 0x10000000 then .hole
  else if a < 0x10400000 then .sram
  else if a < 0x10440000 then .dualPort
  else if a < 0x20000000 then .hole
  else if a < 0x20100000 then .registers
  else if a < 0x21000000 then .reservedRegisters
  else if a < 0x22000000 then .doorbells
  else if a < 0x40000000 then .hole
  else if a < 0x60000000 then .flash
  else if a < 0x80000000 then .hole
  else if a < 0x240000000 then .dram
  else .hole

/-- The guard target of a memory (Table 16-1): 0 DRAM, 1 SRAM, 2 flash. -/
def guardTarget (p : Place) : Option Nat :=
  match p with
  | .dram => some 0
  | .sram => some 1
  | .dualPort => some 1
  | .flash => some 2
  | _ => none

/-- REGION item fields (Table 02-3). -/
def Item.rgnTarget (i : Item) : Nat := i.n 0
def Item.rgnIndex (i : Item) : Nat := i.n 1
def Item.rgnDistrict (i : Item) : Nat := i.n 2
def Item.rgnCourtyard (i : Item) : Nat := i.n 3
def Item.rgnPerm (i : Item) : Nat := i.n 4
def Item.rgnBase (i : Item) : Nat := i.n 5
def Item.rgnSize (i : Item) : Nat := i.n 6

/-- A REGION item covers every byte of `n` bytes from `a`. -/
def Item.covers (i : Item) (a n : Nat) : Bool :=
  decide (i.rgnBase ≤ a) && decide (a + n ≤ i.rgnBase + i.rgnSize)

/-- The WORLD of the DISTRICT item of district `d` is normal, and the item exists (R357). -/
def State.normalWorld (s : State) (d : Nat) : Bool :=
  match s.districtItem d with
  | some i => i.n 1 == 0
  | none => false

/-- One REGION item passes an access of district `d` and Courtyard `cy` (R356, R357): `need` is the PERM bits it needs, `fetch`
says that it is a fetch. -/
def State.regionPasses (s : State) (i : Item) (d cy need : Nat) (fetch : Bool) : Bool :=
  (s.districtItem i.rgnDistrict).isSome &&
  ((i.rgnDistrict == d && (i.rgnCourtyard == 0 || i.rgnCourtyard == cy) && (i.rgnPerm &&& need) == need) ||
   (d == 0 && cy == 0 && !fetch && i.rgnCourtyard == 0 && s.normalWorld i.rgnDistrict))

/-- The mailbox base and the context base (R169). -/
def State.mboxBase (s : State) : Nat :=
  s.rd Fd.SYS_MBOX_BASE_LO_BASE + 2 ^ 32 * s.rd Fd.SYS_MBOX_BASE_HI_BASE
def State.ctxBase (s : State) : Nat :=
  s.rd Fd.SYS_CTX_BASE_LO_BASE + 2 ^ 32 * s.rd Fd.SYS_CTX_BASE_HI_BASE

/-- The bytes touch the 4 MiB context backing store, or the mailbox pages, of 4 KiB for each district (R159, R358). -/
def State.inCtx (s : State) (a n : Nat) : Bool := decide (s.ctxBase < a + n) && decide (a < s.ctxBase + 0x400000)
def State.inMbox (s : State) (a n : Nat) : Bool := decide (s.mboxBase < a + n) && decide (a < s.mboxBase + 0x40000)
/-- The bytes lie in the mailbox page of district `k`. -/
def State.inMboxPage (s : State) (k a n : Nat) : Bool :=
  decide (s.mboxBase + 0x1000 * k ≤ a) && decide (a + n ≤ s.mboxBase + 0x1000 * (k + 1))

/-- The guards pass an access: some REGION item of the target passes it and covers every byte of it (R356); a mailbox page passes reads and
writes of its district and of district 0 alone, and the context store none (R358). -/
def State.guardPasses (s : State) (target a n d cy need : Nat) (fetch : Bool) : Bool :=
  if target = 0 ∧ s.inCtx a n then false
  else if target = 0 ∧ s.inMbox a n then
    !fetch && need &&& 4 == 0 && (s.inMboxPage d a n || (d == 0 && (List.range 64).any (fun k => s.inMboxPage k a n)))
  else (s.items 0x0401).any (fun i => i.rgnTarget == target && i.covers a n && s.regionPasses i d cy need fetch)

/-- `n` bytes from `a` lie in a district's DRAM regions with the PERM bits `need`, as the endpoint engine checks a range at
fetch (R160 step 4, R189, R221, R278, R316, R401); a mailbox page is no region. -/
def State.dramRange (s : State) (d cy a n need : Nat) : Bool :=
  placeOf a == .dram && !s.inMbox a n && s.guardPasses 0 a n d cy need false

/-- The GROUPS that a district holds in the page of block `n` (R362). -/
def State.groups (s : State) (n d : Nat) : Nat :=
  if d = 0 then 0xFFFF else itemN (s.item2 0x0403 n d) 2

/-- ENVELOPE item fields (Table 02-3): BLOCK, OFFSET, FIELD_MASK, MIN, MAX, DISTRICTS. -/
def Item.envMask (i : Item) : Nat := i.n 2
def Item.envMin (i : Item) : Nat := i.n 3
def Item.envMax (i : Item) : Nat := i.n 4
def Item.envDistricts (i : Item) : Nat := i.n 5

/-- The ENVELOPE items that cover a field of the register at offset `off` of block `n`. -/
def State.envelopes (s : State) (n off : Nat) : List Item :=
  (s.items 0x1001).filter (fun i => i.n 0 == n && i.n 1 == off)

end Sys2Proof.Machine
end

