-- ==== Sys2Proof/Machine/Access.lean ====
section
/-! DEFINITION. The checks on a register access (R41 to R45, Table 03-2, R30, R31, R86, R362) and the write that passes them. -/

namespace Sys2Proof.Machine

/-- The block whose page an address lies in (R10). -/
def pageBlock (a : Nat) : Nat := a / 0x10000 % 16

/-- The bits of a field, in place. -/
def FieldRow.mask (f : FieldRow) : Nat := putBits 0 f.hi f.lo (2 ^ (f.hi + 1 - f.lo) - 1)

/-- A written word changes the field's value. -/
def FieldRow.changes (f : FieldRow) (old w : Nat) : Bool := getBits w f.hi f.lo != getBits old f.hi f.lo

/-- The field takes a written value (RW, RWE or WO, R41). -/
def FieldRow.taken (f : FieldRow) : Bool := f.acc == .rw || f.acc == .rwe || f.acc == .wo

/-- The word left by a write that passes every check (R41): RW and RWE fields take the value, 1 clears a W1C bit, every other field
keeps its value. -/
def writeFields (fs : List FieldRow) (old w : Nat) : Nat :=
  match fs with
  | [] => old
  | f :: rest =>
    let v := getBits w f.hi f.lo
    let new :=
      match f.acc with
      | .rw => putBits old f.hi f.lo v
      | .rwe => putBits old f.hi f.lo v
      | .w1c => old - (old &&& putBits 0 f.hi f.lo v)
      | _ => old
    writeFields rest new w

/-- The bits of a word that no field covers. -/
def reservedBits (fs : List FieldRow) (w : Nat) : Nat :=
  match fs with
  | [] => w
  | f :: rest => reservedBits rest (putBits w f.hi f.lo 0)

/-- A field value decoded as its map states: PD_AMBIENT.TEMP is two's complement, every other RWE field unsigned (R29, R32). -/
def fieldValue (block off hi lo w : Nat) : Int :=
  if block = 0xB ∧ off = 0x2C then signed 16 (getBits w hi lo) else (getBits w hi lo : Int)

/-- The district may write an RWE field to this value under some ENVELOPE item that covers the field (R30). -/
def State.envelopePasses (s : State) (n off : Nat) (f : FieldRow) (d w : Nat) : Bool :=
  (s.envelopes n off).any (fun e => e.envMask == f.mask && tbit e.envDistricts d
    && decide (fieldValue n off f.hi f.lo e.envMin ≤ fieldValue n off f.hi f.lo w)
    && decide (fieldValue n off f.hi f.lo w ≤ fieldValue n off f.hi f.lo e.envMax))

/-- Some ENVELOPE item covers the field. -/
def State.envelopeCovers (s : State) (n off : Nat) (f : FieldRow) : Bool :=
  (s.envelopes n off).any (fun e => e.envMask == f.mask)

/-- The district is named by an ENVELOPE item that covers the register (R362). -/
def State.envelopeNames (s : State) (n off d : Nat) : Bool :=
  (s.envelopes n off).any (fun e => tbit e.envDistricts d)

/-- The offsets of LAST_REJECT and LAST_REJECT_ADDR (R48). [Assumption 13: DEDUCED, unsafe. Assumption 161: DEDUCED, unsafe.] -/
def isRejectReg (a : Nat) : Bool := decide (0xFFF0 ≤ a % 0x10000) && decide (a % 0x10000 < 0xFFF8)

/-- Write rights of step 3 of Table 03-2 (R43, R362). A register that a target writes asks for district 0 as well, and for its
initiator, which `held` refuses (R390). `held` says that the register belongs to an object that an endpoint holds. -/
def State.mayWrite (s : State) (who : Who) (r : RegRow) (a old w : Nat) (held : Bool) : Bool :=
  let d := who.district.toNat
  let n := pageBlock a
  !held && r.fields.any (fun f => f.acc != .ro) &&
  match r.writer with
  | .nobody => false
  | .any => true
  | .owner => true
  | .courtyard => who.courtyard != 0
  | .target => d == 0
  | .group g => d == 0 || tbit (s.groups n d) g
  | .district0 =>
    d == 0 || (s.envelopeNames n (a % 0x10000) d && r.fields.all (fun f => f.acc == .rwe || !f.taken && !(f.acc == .w1c
      && getBits w f.hi f.lo != 0) || f.taken && !f.changes old w))

/-- Steps 3 to 7 of Table 03-2 on a register; DONE where all pass. `bad` says that a value breaks a range that the register map states
in words. -/
def State.checkFields (s : State) (who : Who) (r : RegRow) (a w : Nat) (held bad : Bool) : Nat :=
  let old := (s.reg a).toNat
  let n := pageBlock a
  let off := a % 0x10000
  let changed := r.fields.filter (fun f => f.taken && f.changes old w)
  if !s.mayWrite who r a old w held then Code.NOT_OWNER
  else if reservedBits r.fields w ≠ 0 then Code.RESERVED_BIT
  else if bad || changed.any (fun f => match f.range with
      | some (lo, hi) => decide (getBits w f.hi f.lo < lo) || decide (hi < getBits w f.hi f.lo)
      | none => false) then Code.OUT_OF_RANGE
  else if changed.any (fun f => f.acc == .rwe && !s.envelopeCovers n off f) then Code.PLAN_LOCKED
  else if changed.any (fun f => f.acc == .rwe && !s.envelopePasses n off f who.district.toNat w) then Code.OUT_OF_ENVELOPE
  else Code.DONE

/-- Block `n`'s clock or power is gated (R85, R86); reduced function powers MIRROR off, which holds block 0x0A (R71, R194). -/
def State.gated (s : State) (n : Nat) : Bool :=
  s.ao.clkGated.contains n || s.ao.pwrGated.contains n || (n == 10 && s.flag Fd.AO_STATE_REDUCED)

/-- The initiator reaches the register pages: every initiator in Active, and Lamplighter its own page in Standby (R16, R17). -/
def State.reaches (s : State) (who : Who) (a : Nat) : Bool :=
  s.dev == .active || (s.dev == .standby && who.initiator == 8 && pageBlock a == 2)

/-- The answer of a refused write that completes normally (R44): recorded, except for the rejection registers themselves (R48).
[Assumption 13: DEDUCED, unsafe.] -/
def State.refuseWrite (s : State) (n code : Nat) (who : Who) (a : Nat) : State :=
  let s := if isRejectReg a then s else s.reject n code who true a
  { s with resp := .done }

/-! ### Pairs and gated stores (R328 to R330) -/

def State.pair (s : State) (p : Nat) : PairSt := tget (fun _ => PairSt.reset) s.cp.pair p
def State.setPair (s : State) (p : Nat) (x : PairSt) : State :=
  { s with cp := { s.cp with pair := tset (fun _ => PairSt.reset) s.cp.pair p x } }

/-- Sources 50 to 58 (Table 17-1): pairs in FAULT, saturated counters under their enables, FAULT_OUT. -/
def State.cpLevels (s : State) : State :=
  let s := forAll (List.range 4) (fun s p =>
    (s.level (50 + p) (s.pairState p == 4)).level (54 + p)
      ((s.rd (Fd.CP_EVENT_SAT_SAT p) &&& s.rd (Fd.CP_EVENT_SAT_IE p)) != 0)) s
  s.level 58 (s.flag Fd.CP_FAULT_OUT_PIN)

/-- CP_EVENT: 0 MISMATCH, 1 PARITY, 2 GATE_STALL, 3 SPLITS, 4 LOCKS, 5 RESTARTS, 6 UNGATED_WRITE, 7 GATE_DISCARDED. -/
def State.cpEvent (s : State) (p c : Nat) : State := (s.count (Rg.CP_EVENT p c) (Rg.CP_EVENT_SAT p) c).cpLevels

/-- The gate of a pair, shown in GATE (R329). -/
def State.setGate (s : State) (p : Nat) (g : List GateEnt) : State :=
  (s.setPair p { s.pair p with gate := g }).wr (Fd.CP_PAIR_STATUS_GATE p) g.length

/-- The address lies in a GATED_RANGE item of the district. GATED_RANGE: BASE, SIZE, DISTRICT. -/
def State.gatedRange (s : State) (district a : Nat) : Bool :=
  (s.items 0x0302).any (fun i => decide (i.n 0 ≤ a) && decide (a < i.n 0 + i.n 1) && i.n 2 == district)

/-- A store of a core fails at the instruction: recorded in CP_LAST_REJECT, a store access fault. [Assumption 92: DEDUCED, unsafe.] -/
def State.storeFault (s : State) (who : Who) (code a : Nat) : State := (s.reject 4 code who true a).coreFault who 7

/-- The pair's leader retires a store into the gate, which closes its window. [Assumption 92: DEDUCED, unsafe.] -/
def State.gatePush (s : State) (p : Nat) (who : Who) (a : Nat) (data : List Byte) : State :=
  let x := s.pair p
  let e : GateEnt := ⟨x.closed + 1, who, a, data⟩
  { (s.setPair p { x with closed := x.closed + 1, openAt := s.now }).setGate p (x.gate ++ [e]) with resp := .done }

/-- A store by a core into a gated range of its district. [Assumption 92: DEDUCED, unsafe.] -/
def State.gatedStore (s : State) (who : Who) (a : Nat) (data : List Byte) (amo : Bool) : State :=
  let c := who.initiator.toNat
  let p := c / 2
  let st := s.pairState p
  if s.dev ≠ .active ∨ 8 ≤ c ∨ (st = 1 ∧ c % 2 = 1) ∨ 3 ≤ st ∨ data.isEmpty ∨ !s.gatedRange who.district.toNat a then s
  else if amo then s.storeFault who Code.GATED_AMO a
  else if st ≠ 1 then (s.storeFault who Code.UNGATED_WRITE a).cpEvent p 6
  else if 0x20000000 ≤ a ∧ a < 0x22000000 ∧ (data.length ≠ 4 ∨ a % 4 ≠ 0) then s.storeFault who Code.BAD_SIZE a
  else if 16 ≤ (s.pair p).gate.length then s.cpEvent p 2
  else s.gatePush p who a data

/-- The initiator is a core whose held writes do not leave its pair's gate just now. -/
def State.gateGuards (s : State) (who : Who) : Bool :=
  decide (who.initiator.toNat < 8) && !(s.pair (who.initiator.toNat / 2)).leaving

/-- A store that is gated, or would be on a locked pair: it takes the way of R328 to R330. -/
def State.toGate (s : State) (who : Who) (a : Nat) : Bool := s.gateGuards who && s.gatedRange who.district.toNat a

/-- A later store or I/O access of a pair waits behind the writes its gate holds (R329): it has no effect before they have left.
[Assumption 92: DEDUCED, unsafe.] -/
def State.gateWait (s : State) (who : Who) : Bool := s.gateGuards who && !(s.pair (who.initiator.toNat / 2)).gate.isEmpty

/-! ### Reads and writes of the register pages -/

/-- A write to a register page, checked in the order of Table 03-2 (R42 to R44, R86). `refuse` is the code of step 8, DONE where the
block accepts the write in its present state; `effect` is what the write does beyond the fields it sets.
[Assumption 14: DEDUCED, unsafe. Assumption 175: DESIGN CHOICE, safe.] -/
def State.regWrite (s : State) (who : Who) (bytes a : Nat) (w : Word) (held bad : Bool) (refuse : Nat)
    (effect : State → State) : State :=
  let n := pageBlock a
  if !s.reaches who a then s
  else if s.toGate who a then s.gatedStore who a (leBytes bytes w.toNat) false
  else if s.gateWait who then s
  else if bytes ≠ 4 ∨ a % 4 ≠ 0 then
    let s := if s.gated n then s.reject 0 Code.BAD_SIZE who true a
      else if isRejectReg a then s else s.reject n Code.BAD_SIZE who true a
    { s.coreFault who 7 with resp := .busError }
  else if s.gated n then { s.reject 0 Code.WRONG_STATE who true a with resp := .done }
  else
    match RegMap.at a with
    | none => s.refuseWrite n Code.RESERVED_ADDRESS who a
    | some (r, _) =>
      let code := s.checkFields who r a w.toNat held bad
      if code ≠ Code.DONE then s.refuseWrite n code who a
      else if refuse ≠ Code.DONE then s.refuseWrite n refuse who a
      else
        let s := s.setReg a (BitVec.ofNat 32 (writeFields r.fields (s.reg a).toNat w.toNat))
        { effect s with resp := .done }

/-- A write passes steps 1 to 7 of Table 03-2, so that its block judges it at step 8. -/
def State.passesChecks (s : State) (who : Who) (bytes a : Nat) (w : Word) (held bad : Bool) : Bool :=
  s.reaches who a && !s.toGate who a && !s.gateWait who && bytes == 4 && a % 4 == 0 && !s.gated (pageBlock a) &&
  match RegMap.at a with
  | none => false
  | some (r, _) => s.checkFields who r a w.toNat held bad == Code.DONE

/-- Read rights (R45, R362): group 0 by bit 0 of GROUPS or an envelope over the register, group g by bit g. -/
def State.mayRead (s : State) (who : Who) (r : RegRow) (a : Nat) : Bool :=
  let d := who.district.toNat
  let n := pageBlock a
  d == 0 ||
  match r.writer with
  | .any => true
  | .group g => tbit (s.groups n d) g
  | .courtyard => who.courtyard != 0
  | _ => tbit (s.groups n d) 0 || s.envelopeNames n (a % 0x10000) d || a == Rg.SYS_MBOX_BASE_LO || a == Rg.SYS_MBOX_BASE_HI

/-- A read of a register page that returns the word `v` where it is allowed (R42, R45, R86), and whose side effect is `effect`;
IC_CLAIM is read by its target (R390), which `own` says. [Assumption 175: DESIGN CHOICE, safe.] -/
def State.regRead (s : State) (who : Who) (bytes a : Nat) (own : Option Bool) (v : Nat) (effect : State → State) : State :=
  let n := pageBlock a
  if !s.reaches who a ∨ s.gateWait who then s
  else if bytes ≠ 4 ∨ a % 4 ≠ 0 then
    let s := s.reject (if s.gated n then 0 else n) Code.BAD_SIZE who false a
    { s.coreFault who 5 with resp := .busError }
  else if s.gated n then { s.reject 0 Code.WRONG_STATE who false a with resp := .data 0 }
  else
    match RegMap.at a with
    | none => { s with resp := .data 0 }
    | some (r, _) =>
      let may := match own with
        | some b => b
        | none => s.mayRead who r a
      if may && !(isRejectReg a && who.district != 0) then { effect s with resp := .data v }
      else if isRejectReg a then { s with resp := .data 0 }
      else { s.reject n Code.NOT_OWNER who false a with resp := .data 0 }

end Sys2Proof.Machine
end

