-- ==== Sys2Proof/Machine/Rings.lean ====
section
/-! DEFINITION. Endpoints as the engine sees them: ring arithmetic (R54), doorbell state (R55, R146), residency (R149), notices (R63,
R378), completion records (R61 to R63) and the in-flight table (R151). -/

namespace Sys2Proof.Machine

/-! ### Ring arithmetic (R52, R54) -/

/-- `(a - b) mod 2^16` of two free-running 16-bit indices. -/
def idxSub (a b : Nat) : Nat := (a % 65536 + 65536 - b % 65536) % 65536

/-- The next index. -/
def idxNext (a : Nat) : Nat := (a + 1) % 65536

/-- Sequence number `a` is later than `b` (R52). -/
def later (a b : Nat) : Bool := decide (1 ≤ idxSub a b) && decide (idxSub a b ≤ 32767)

/-! ### Endpoints -/

/-- An endpoint that does not exist. -/
def Ep.absent : Ep :=
  { live := false, dying := false, ty := 0, district := 0, sqLog2 := 0, cqLog2 := 0, sqBase := 0, cqBase := 0, bind := 0, mac := 0,
    vid := 0, group := false, weight := 0, timers := 0, credits := 0, cells := 0, occ := 0, resv := 0, planPin := false,
    rtPin := false, slot := none, sqHead := 0, sqTail := 0, cqHead := 0, cqTail := 0, abortTag := 0, abortCode := 0, abortTail := 0,
    notice := false, trimmed := 0, resize := none, pub := [], gone := 0, ended := 0, deficit := 0, overdrawn := 0 }

def State.epAt (s : State) (e : Nat) : Ep := tget (fun _ => Ep.absent) s.ep.eps e
def State.setEp (s : State) (e : Nat) (x : Ep) : State :=
  { s with ep := { s.ep with eps := tset (fun _ => Ep.absent) s.ep.eps e x } }

/-- The endpoint exists: created, and not past the commit point of its destruction (R162). -/
def State.epExists (s : State) (e : Nat) : Bool := (s.epAt e).live && !(s.epAt e).dying

def Ep.sqSize (x : Ep) : Nat := 2 ^ x.sqLog2
def Ep.cqSize (x : Ep) : Nat := 2 ^ x.cqLog2

/-- Descriptors published and not fetched (R54). -/
def Ep.outstanding (x : Ep) : Nat := idxSub x.sqTail x.sqHead

/-- The commands of an endpoint in flight, oldest-fetched first. -/
def State.inflight (s : State) (e : Nat) : List Cmd := s.ep.inflight.filter (fun c => c.ep == e)

/-- The command of an endpoint with a TAG (R60 step 1: at most one). -/
def State.cmdOf (s : State) (e tag : Nat) : Option Cmd := s.ep.inflight.find? (fun c => c.ep == e && c.tag == tag)

/-- Free completion entries (R57): not counted in TAIL − HEAD and not reserved for a command in flight. -/
def State.cqFree (s : State) (e : Nat) : Nat :=
  let x := s.epAt e
  x.cqSize - idxSub x.cqTail x.cqHead - (s.inflight e).length

/-- The engine holds a credit for the endpoint: INFLIGHT below the share, and not overdrawn in credits (R57, R151, R165). -/
def State.hasCredit (s : State) (e : Nat) : Bool :=
  let x := s.epAt e
  decide ((s.inflight e).length < x.credits) && !tbit x.overdrawn 0

/-- STALL_CREDIT and STALL_CQ of DB_STATUS (R55): fetching waits for a credit, for completion ring space. -/
def State.stallCredit (s : State) (e : Nat) : Bool := decide (0 < (s.epAt e).outstanding) && !s.hasCredit e
def State.stallCq (s : State) (e : Nat) : Bool := decide (0 < (s.epAt e).outstanding) && s.cqFree e == 0

/-- The engine may fetch a descriptor of the endpoint now (R57, R149). -/
def State.canFetch (s : State) (e : Nat) : Bool :=
  let x := s.epAt e
  x.live && x.slot.isSome && decide (0 < x.outstanding) && s.hasCredit e && decide (0 < s.cqFree e)

/-! ### Doorbell registers as words -/

def State.dbSq (s : State) (e : Nat) : Nat := (s.epAt e).sqHead * 65536 + (s.epAt e).sqTail
def State.dbCq (s : State) (e : Nat) : Nat := (s.epAt e).cqTail * 65536 + (s.epAt e).cqHead
def State.dbAbort (s : State) (e : Nat) : Nat := (s.epAt e).abortCode * 65536 + (s.epAt e).abortTag
def State.dbStatus (s : State) (e : Nat) : Nat :=
  let x := s.epAt e
  (if x.overdrawn ≠ 0 then 2 ^ 19 else 0) + (if x.slot.isSome then 2 ^ 18 else 0) + (if s.stallCq e then 2 ^ 17 else 0)
    + (if s.stallCredit e then 2 ^ 16 else 0) + (if x.notice then 2 ^ 15 else 0) + (s.inflight e).length
def State.dbInfo (s : State) (e : Nat) : Nat :=
  let x := s.epAt e
  x.district * 2 ^ 26 + x.cqLog2 * 2 ^ 20 + x.sqLog2 * 2 ^ 16 + (if x.planPin then 2 ^ 15 else 0) + (if x.rtPin then 2 ^ 14 else 0)
    + (if x.resv ≠ 0 then 2 ^ 13 else 0) + x.ty * 2 ^ 8 + x.weight

/-! ### Notices (R63, R147, R378, R382) -/

/-- PEND of notice group `g`: bit j mirrors NOTICE of endpoint 16g + j (R378). -/
def State.noticePend (s : State) (g : Nat) : Nat :=
  (List.range 16).foldl (fun n j => if (s.epAt (16 * g + j)).notice then n + 2 ^ j else n) 0

/-- The level of source 256 + g (R378). -/
def State.noticeLevel (s : State) (g : Nat) : Bool := (s.noticePend g &&& s.rd (Fd.IC_NOTICE_EN g)) != 0

/-- One event of a notice source whose level was asserted already (R382): a PEND bit with EN 1 rising, or an EN bit rising over a
PEND bit. -/
def State.noticeEvent (s : State) (g : Nat) (was : Bool) : State :=
  if was then s.srcEvent (256 + g) else s.level (256 + g) (s.noticeLevel g)

/-- NOTICE of an endpoint sets (R63, R147): a bit set again is no event (R382). [Assumption 129: DEDUCED, unsafe.] -/
def State.setNotice (s : State) (e : Nat) : State :=
  let x := s.epAt e
  if x.notice then s
  else
    let g := e / 16
    let was := s.noticeLevel g
    let s := s.setEp e { x with notice := true }
    if tbit (s.rd (Fd.IC_NOTICE_EN g)) (e % 16) then s.noticeEvent g was else s

/-- NOTICE of an endpoint clears (R378). [Assumption 129: DEDUCED, unsafe.] -/
def State.clearNotice (s : State) (e : Nat) : State :=
  let s := s.setEp e { s.epAt e with notice := false }
  s.level (256 + e / 16) (s.noticeLevel (e / 16))

/-! ### Residency (R148, R149) -/

/-- The slot is unpinned and its endpoint idle: INFLIGHT 0, nothing published, no abort undecided (R149). -/
def State.evictable (s : State) (e : Nat) : Bool :=
  let x := s.epAt e
  x.slot.isSome && !x.planPin && !x.rtPin && e != 0 && (s.inflight e).isEmpty && x.outstanding == 0 && x.abortCode != Code.BUSY

/-- The endpoint becomes the most recently used of the paged residents. -/
def State.touch (s : State) (e : Nat) : State :=
  { s with ep := { s.ep with lru := s.ep.lru.filter (fun k => k != e) ++ (if s.ep.lru.contains e then [e] else []) } }

/-- The paged slots: 1 to 255 without those that PINNED items take (R148). -/
def State.pagedFree (s : State) : Option Nat :=
  let taken := s.ep.eps.filterMap (fun p => p.2.slot)
  let pinned := (s.items 0x0A03).length
  (List.range 256).find? (fun k => decide (pinned < k) && !taken.contains k)

/-- An event of R149 asks for the endpoint's context: where it is not resident, a page-in waits. [Assumption 81: DEDUCED, unsafe.] -/
def State.needPage (s : State) (e : Nat) : State :=
  if (s.epAt e).slot.isSome then s.touch e
  else if s.ep.pageQ.any (fun p => p.1 == e) then s
  else { s with ep := { s.ep with pageQ := s.ep.pageQ ++ [(e, false)] } }

/-! ### Completion records (R61 to R63) -/

/-- FLAGS of a record (Table 03-5). -/
def recFlags (phase abortSeen late dup : Bool) : Nat :=
  (if phase then 1 else 0) + (if abortSeen then 2 else 0) + (if late then 4 else 0) + (if dup then 8 else 0)

/-- PHASE of the record at completion index `i` of a ring (R62): 1 − ((i / size) mod 2). -/
def recPhase (i size : Nat) : Bool := i / size % 2 == 0

/-- The 16 bytes of a record (Table 03-5, R8). -/
def recBytes (tag code op flags detail time : Nat) : List Byte :=
  leBytes 2 tag ++ leBytes 2 code ++ leBytes 1 op ++ leBytes 1 flags ++ leBytes 2 detail ++ leBytes 8 time

/-- The engine writes a record of the endpoint, then advances TAIL, then raises the notice where NOTIFY is set (R63).
[Assumption 78: DEDUCED, unsafe.] -/
def State.record (s : State) (e tag code op detail time : Nat) (abortSeen late dup notify : Bool) : State :=
  let x := s.epAt e
  let i := x.cqTail
  let s := s.store (x.cqBase + 16 * (i % x.cqSize))
    (recBytes tag code op (recFlags (recPhase i x.cqSize) abortSeen late dup) detail time)
  let s := s.setEp e { s.epAt e with
    cqTail := idxNext i
    gone := x.gone + (if x.dying && code == Code.CANCELLED then 1 else 0)
    ended := x.ended + (if x.dying && code != Code.CANCELLED then 1 else 0) }
  if notify then s.setNotice e else s

/-- NOTIFY, ORDERED and TIMED of FLAGS (Table 03-4). -/
def Cmd.ordered (c : Cmd) : Bool := tbit c.flags 0
def Cmd.timed (c : Cmd) : Bool := tbit c.flags 1
def Cmd.notify (c : Cmd) : Bool := tbit c.flags 2

/-- The command leaves the in-flight table. -/
def State.dropCmd (s : State) (e tag : Nat) : State :=
  { s with ep := { s.ep with inflight := s.ep.inflight.filter (fun c => !(c.ep == e && c.tag == tag)) } }

/-- The command in flight is replaced. -/
def State.putCmd (s : State) (c : Cmd) : State :=
  { s with ep := { s.ep with inflight := s.ep.inflight.map (fun k => if k.ep == c.ep && k.tag == c.tag then c else k) } }

/-- The difference of a waiting RESIZE returns to its pool: free credits or free cells (R165, SYS_POOL_FREE0, SYS_POOL_FREE1). -/
def State.freeToPool (s : State) (kind n : Nat) : State :=
  if kind = 0 then s.wr Fd.SYS_POOL_FREE0_FREE_CREDITS (s.rd Fd.SYS_POOL_FREE0_FREE_CREDITS + n)
  else if kind = 1 then s.wr Fd.SYS_POOL_FREE1_FREE_CELLS (s.rd Fd.SYS_POOL_FREE1_FREE_CELLS + n)
  else s

/-- A command in flight completes with a code, a DETAIL and a DONE_TIME: its one record (R57, R66). -/
def State.complete (s : State) (c : Cmd) (code detail time : Nat) : State :=
  let s := s.dropCmd c.ep c.tag
  s.record c.ep c.tag code c.op detail time c.abortSeen c.lateSeen false c.notify

/-- A command completes at the present vehicle time, DETAIL 0. -/
def State.finish (s : State) (c : Cmd) (code : Nat) : State := s.complete c code 0 s.vt

/-- The command of the endpoint with this TAG, passed to its target and not yet taken by it. -/
def State.passed (s : State) (e tag ty op : Nat) : Option Cmd :=
  match s.cmdOf e tag with
  | some c => if c.phase = .passed ∧ (s.epAt e).ty = ty ∧ c.op = op then some c else none
  | none => none

/-- R65: a TIMED command is held until EXEC_TIME, executes at once with LATE within LATE_LIMIT, or completes with TIMEOUT. -/
def State.atTime (s : State) (c : Cmd) (run : State → Cmd → State) : State :=
  if !c.timed then run s c
  else if s.vt ≤ c.exec then s.putCmd { c with phase := .timed }
  else if s.vt ≤ c.exec + c.late then
    let c := { c with lateSeen := true }
    run (s.putCmd c) c
  else s.finish c Code.TIMEOUT

/-! ### Rings in memory -/

/-- The address of the descriptor at submission index `i` (R54). -/
def Ep.descAddr (x : Ep) (i : Nat) : Nat := x.sqBase + 64 * (i % x.sqSize)

/-- A little-endian field of a command's body: `off` counts from the start of the descriptor, 0x10 to 0x3F (R59). -/
def Cmd.f (c : Cmd) (off n : Nat) : Nat := leNat ((c.body.drop (off - 16)).take n)

end Sys2Proof.Machine
end

