-- ==== Sys2Proof/Machine/Operands.lean ====
section
/-! DEFINITION. The operand forms of the commands that endpoints carry: for each endpoint type and opcode the named bytes of the
descriptor, and whether TIMED is allowed (R59, R60 steps 2 and 3, Tables 07-4, 10-4, 12-x, 14-3, 18-5 and 08-x). -/

namespace Sys2Proof.Machine

/-- The named bytes of a descriptor's body, as (offset, size), and whether TIMED is allowed. -/
structure Form where
  named : List (Nat × Nat)
  timed : Bool
  deriving DecidableEq, Repr

/-- NET opcodes (Table 07-4): TX with BUF, LEN, TC; RX_POST with BUF, SIZE. -/
def netForm (op : Nat) : Option Form :=
  match op with
  | 1 => some ⟨[(0x10, 8), (0x18, 2), (0x1A, 1)], false⟩
  | 2 => some ⟨[(0x10, 8), (0x18, 2)], false⟩
  | _ => none

/-- TIMER opcodes (Table 07-4): ARM with EXPIRY. -/
def timerForm (op : Nat) : Option Form := if op = 1 then some ⟨[(0x10, 8)], false⟩ else none

/-- PWR opcodes (Table 10-4): ON with DUTY and PWM_HZ, OFF, DRIVE with MODE and DUTY, READ with BUF, WAIT_EVENT. -/
def pwrForm (op : Nat) : Option Form :=
  match op with
  | 1 => some ⟨[(0x10, 2), (0x12, 2)], true⟩
  | 2 => some ⟨[], true⟩
  | 3 => some ⟨[(0x10, 1), (0x12, 2)], true⟩
  | 4 => some ⟨[(0x10, 8)], false⟩
  | 5 => some ⟨[], false⟩
  | _ => none

/-- CAN opcodes (R278). -/
def canForm (op : Nat) : Option Form :=
  match op with
  | 1 => some ⟨[(0x10, 1), (0x11, 1), (0x12, 1), (0x13, 1), (0x14, 4), (0x18, 4)], false⟩
  | 2 => some ⟨[(0x10, 1), (0x18, 8)], true⟩
  | 3 => some ⟨[(0x10, 1), (0x18, 8)], false⟩
  | 4 => some ⟨[(0x18, 8)], false⟩
  | _ => none

/-- PIN opcodes on a pin, and LIN opcodes on a LIN master (Table 14-3). -/
def pinForm (lin : Bool) (op : Nat) : Option Form :=
  match lin, op with
  | false, 0x01 => some ⟨[(0x10, 2)], true⟩
  | false, 0x02 => some ⟨[(0x10, 8)], false⟩
  | false, 0x03 => some ⟨[], false⟩
  | true, 0x10 => some ⟨[(0x10, 1), (0x11, 1)], false⟩
  | true, 0x11 => some ⟨[(0x10, 1), (0x18, 8)], false⟩
  | true, 0x12 => some ⟨[(0x10, 1), (0x18, 8)], false⟩
  | _, _ => none

/-- VIEW opcodes (R189). -/
def viewForm (op : Nat) : Option Form :=
  match op with
  | 1 => some ⟨[(0x10, 2), (0x18, 8)], false⟩
  | 2 => some ⟨[(0x10, 8), (0x18, 4)], false⟩
  | 3 => some ⟨[(0x10, 8)], false⟩
  | 4 => some ⟨[(0x10, 1)], false⟩
  | _ => none

/-- KEY opcodes (R401, Table 18-5): SLOT, AUX, LEN, SRC, DST, ARG, IV and C0 where the opcode names them. -/
def keyForm (op : Nat) : Option Form :=
  let slot := (0x10, 1)
  let aux := (0x11, 1)
  let len := (0x12, 2)
  let src := (0x18, 8)
  let dst := (0x20, 8)
  let arg := (0x28, 8)
  match op with
  | 0x1 => some ⟨[slot, len, src, dst, (0x30, 12), (0x3C, 4)], false⟩
  | 0x2 => some ⟨[slot, len, src, dst, (0x30, 12), (0x3C, 4)], false⟩
  | 0x3 => some ⟨[slot, len, src, dst], false⟩
  | 0x4 => some ⟨[slot, aux, len, src, arg], false⟩
  | 0x5 => some ⟨[slot, src, dst], false⟩
  | 0x6 => some ⟨[slot, src, arg], false⟩
  | 0x7 => some ⟨[slot, aux, len, src, arg], false⟩
  | 0x8 => some ⟨[slot, aux, dst, (0x30, 12)], false⟩
  | 0x9 => some ⟨[slot, aux, src], false⟩
  | 0xA => some ⟨[src, dst], false⟩
  | 0xB => some ⟨[src], false⟩
  | 0xC => some ⟨[slot, src], false⟩
  | _ => none

/-- The form of a command by endpoint type (Table 07-1); `lin` says that a PIN endpoint is bound to a LIN master. -/
def formOf (ty : Nat) (lin : Bool) (op : Nat) : Option Form :=
  match ty with
  | 0 => netForm op
  | 1 => canForm op
  | 2 => pwrForm op
  | 3 => pinForm lin op
  | 4 => keyForm op
  | 5 => timerForm op
  | 6 => viewForm op
  | _ => none


/-- Every byte of the body outside the named ones is 0 (R59, R60 step 2). -/
def Form.clean (f : Form) (body : List Byte) : Bool :=
  (List.range 48).all (fun k => f.named.any (fun p => decide (p.1 ≤ k + 16) && decide (k + 16 < p.1 + p.2)) || body.getD k 0 == 0)

end Sys2Proof.Machine
end

