-- ==== Sys2Proof/Machine/Kerbside.lean ====
section
/-! DEFINITION. Kerbside's operations on channels (R216 to R239, R241 to R256): outputs, gangs, switching decisions, trips, events and
Lay-by. -/

namespace Sys2Proof.Machine

/-! ### Channels and their plan items (Table 02-3, Table 10-1, Table 10-2) -/

def State.chan (s : State) (n : Nat) : Chan := tget (fun _ => Chan.reset) s.kb.ch n
def State.setChan (s : State) (n : Nat) (c : Chan) : State :=
  { s with kb := { s.kb with ch := tset (fun _ => Chan.reset) s.kb.ch n c } }

def State.chItem (s : State) (n : Nat) : Option Item := s.item 0x0601 n
def State.chFeed (s : State) (n : Nat) : Nat := itemN (s.chItem n) 1
/-- The lead of the gang of channel `n`; a channel in no gang leads itself (L11). -/
def State.chLead (s : State) (n : Nat) : Nat := match s.chItem n with | some i => i.n 2 | none => n
def State.gangSize (s : State) (n : Nat) : Nat := match s.chItem n with | some i => i.n 3 | none => 1
def State.chInrush (s : State) (n : Nat) : Nat := itemN (s.chItem n) 4
def State.chSlew (s : State) (n : Nat) : Nat := itemN (s.chItem n) 5
def State.chLayby (s : State) (n : Nat) : Nat := itemN (s.chItem n) 6
def State.sleepHold (s : State) (n : Nat) : Bool := tbit (itemN (s.chItem n) 7) 0
def State.autoRetry (s : State) (n : Nat) : Bool := tbit (itemN (s.chItem n) 7) 1
def State.retryN (s : State) (n : Nat) : Nat := itemN (s.chItem n) 8
def State.shedPrio (s : State) (n : Nat) : Nat := itemN (s.chItem n) 9
def State.chDidt (s : State) (n : Nat) : Nat := itemN (s.chItem n) 10
def State.chOwner (s : State) (n : Nat) : Nat := itemN (s.chItem n) 11

/-- The channels of the gang led by `n` (R226). -/
def State.members (s : State) (n : Nat) : List Nat := (List.range (s.gangSize n)).map (· + n)

/-- A bridge. -/
def isBridge (n : Nat) : Bool := decide (48 ≤ n)

/-- Rating of one channel in mA, current LSB in 0.5 mA, R_ON in 0.1 mΩ (Table 10-1). -/
def ratingMa (n : Nat) : Nat := if n < 8 then 25000 else if n < 32 then 10000 else if n < 48 then 3000 else 15000
def lsbHalfMa (n : Nat) : Nat := if n < 8 then 8 else if n < 32 then 4 else if n < 48 then 1 else 4
def rOn (n : Nat) : Nat := if n < 8 then 20 else if n < 32 then 50 else if n < 48 then 200 else 80

/-- The cut threshold of one channel in mA (Table 10-1). -/
def cutMa (n : Nat) : Nat := if n < 8 then 75000 else if n < 32 then 30000 else if n < 48 then 9000 else 45000

/-- The output slew of a SLEW in mV/µs, and its time from 10 % to 90 % of a 24 V feed in 0.1 µs (Table 10-3). -/
def slewMvUs (slew : Nat) : Nat :=
  match slew with
  | 0 => 2000
  | 1 => 1000
  | 2 => 500
  | 3 => 250
  | _ => 100
def slewT90 (slew : Nat) : Nat := 192000 / slewMvUs slew

/-- The last sample in 0.5 mA. -/
def State.halfMa (s : State) (n : Nat) : Int := (s.chan n).cur * (lsbHalfMa n : Int)

/-- Every channel that leads a gang or stands alone, with a CHANNEL item, ascending. -/
def State.leads (s : State) : List Nat := (List.range 52).filter (fun n => (s.chItem n).isSome && s.chLead n == n)

/-! ### Status bits, kept on the lead, with OUT and CMD shown by every member (R226) -/

def State.out (s : State) (n : Nat) : Bool := s.flag (Fd.PD_CH_STATUS_OUT n)
def State.cmdOn (s : State) (n : Nat) : Bool := s.flag (Fd.PD_CH_STATUS_CMD n)
def State.latched (s : State) (n : Nat) : Bool := s.flag (Fd.PD_CH_STATUS_LATCHED n)
def State.cooling (s : State) (n : Nat) : Bool := s.flag (Fd.PD_CH_STATUS_COOLING n)
def State.inLayby (s : State) (n : Nat) : Bool := s.flag (Fd.PD_DIAG_STATUS_LAYBY n)
def State.hot (s : State) (n : Nat) : Bool := s.flag (Fd.PD_DIAG_STATUS_HOT n)

/-- The endpoint that holds channel `n`: a PWR endpoint bound to it (R145, BOUND). -/
def State.pwrHolder (s : State) (n : Nat) : Option Nat :=
  (s.ep.eps.find? (fun p => p.2.live && p.2.ty == 2 && p.2.bind % 64 == n)).map (·.1)

/-- A TIMED command is pending for the channel. -/
def State.timedPending (s : State) (n : Nat) : Bool :=
  match s.pwrHolder n with
  | some e => (s.inflight e).any (fun c => c.phase == .timed)
  | none => false

/-- The time since the last row of periods began lies in the on-time of its period (R220): DUTY/1,000 of each period, from its start. -/
def pwmPhaseOn (elapsed hz duty : Nat) : Bool := decide (duty = 1000) || decide (elapsed * hz % sec < sec * duty / 1000)

/-- The four switches of a bridge (R227): A high, A low, B high, B low; the PWM of 20 kHz drives the high side, and the dead time of 500 ns
lies between the switches of one half-bridge. -/
def bridgeSwitches (mode : Nat) (pwm : Bool) : Bool × Bool × Bool × Bool :=
  match mode with
  | 1 => (pwm, false, false, true)
  | 2 => (false, true, pwm, false)
  | 3 => (false, true, false, true)
  | _ => (false, false, false, false)

/-- The output conducts now: driven, in the on-time of PWM, or through some switch of a bridge. -/
def State.driven (s : State) (n : Nat) : Bool :=
  let c := s.chan n
  s.out n &&
  if isBridge n then
    let w := bridgeSwitches c.mode (pwmPhaseOn (s.now - c.since) 20000 c.duty)
    w.1 || w.2.1 || w.2.2.1 || w.2.2.2
  else c.hz == 0 || pwmPhaseOn (s.now - c.pwmStart) c.hz c.duty

/-- The output conducts, or its switch-off still moves at its slew (R219). [Assumption 121: DEDUCED, unsafe.] -/
def State.conducts (s : State) (n : Nat) : Bool :=
  s.driven n || (!s.out n && match (s.chan n).falls with
    | some t => decide (s.now < t)
    | none => false)

/-- PD_CH_STATUS[n] as it reads, with BOUND and TIMED, and OUT of the conducting output (R220). -/
def State.chStatusWord (s : State) (n : Nat) : Nat :=
  let w := (s.reg (Rg.PD_CH_STATUS n)).toNat
  let w := putBits w 0 0 (if s.driven n || (s.out n && s.chLead n != n) then 1 else 0)
  let w := putBits w 8 8 (if (s.pwrHolder n).isSome then 1 else 0)
  putBits w 7 7 (if s.timedPending n then 1 else 0)

/-! ### Feeds -/

def State.feed (s : State) (f : Nat) : Feed := if f = 0 then s.kb.feedA else s.kb.feedB
def State.setFeed (s : State) (f : Nat) (x : Feed) : State :=
  { s with kb := if f = 0 then { s.kb with feedA := x } else { s.kb with feedB := x } }
def feedStateFld (f : Nat) : Fld := if f = 0 then Fd.PD_FEED_STATUS_STATE_A else Fd.PD_FEED_STATUS_STATE_B
/-- The feed is suspended (R247). -/
def State.suspended (s : State) (f : Nat) : Bool := s.rd (feedStateFld f) != 0

/-! ### Crossing levels (Table 17-1: 74 to 76) -/

def State.kbLevels (s : State) : State :=
  let all := List.range 52
  let s := s.level 74 (all.any (fun n => s.rd (Fd.PD_DIAG_STATUS_STICKY n) != 0) || s.rd Fd.PD_FEED_STATUS_STICKY != 0)
  let s := s.level 75 (s.rd Fd.PD_SHED_TRIGGER != 0)
  s.level 76 (all.any (fun n => (s.rd (Fd.PD_CH_SAT_SAT n) &&& s.rd (Fd.PD_CH_SAT_IE n)) != 0))

/-! ### Events (R232, R251, R258) -/

/-- An event of the channel completes the oldest-fetched WAIT_EVENT of the endpoint that holds it (R232). -/
def State.chEvent (s : State) (n code detail : Nat) : State :=
  match s.pwrHolder n with
  | none => s
  | some e =>
    match (s.inflight e).find? (fun c => c.op == 5 && c.phase == .waiting) with
    | none => s
    | some c => s.complete c code detail s.vt

/-- The record of an event of Table 11-8 (PD_FAULT_REC, PD_FAULT_TIME): COUNT stops at 0xFFFF. -/
def State.faultRec (s : State) (n code : Nat) : State :=
  let s := s.wr (Fd.PD_FAULT_REC_CODE n) code
  let s := s.wr (Fd.PD_FAULT_REC_COUNT n) (min 0xFFFF (s.rd (Fd.PD_FAULT_REC_COUNT n) + 1))
  (s.wr (Fd.PD_FAULT_TIME_LO_TIME n) (s.vt % 2 ^ 32)).wr (Fd.PD_FAULT_TIME_HI_TIME n) (s.vt / 2 ^ 32)

/-- The onset of an event of Table 11-8 on a channel: its sticky bit where it has one, its record, and a WAIT_EVENT (R251, R258). -/
def State.diagEvent (s : State) (n code : Nat) (sticky : Option Nat) : State :=
  let s := match sticky with
    | some b => s.wr (bitOf (Rg.PD_DIAG_STATUS n) b) 1
    | none => s
  let s := s.faultRec n code
  (s.chEvent n code (s.rd (Fd.PD_CH_STATUS_RETRIES n))).kbLevels

/-! ### Outputs (R219, R225, R226) -/

/-- The inrush window in ns (Table 10-5). -/
def inrushWindow (profile : Nat) : Nat :=
  match profile with
  | 1 => 50 * ms
  | 2 => 50 * ms
  | 3 => 200 * ms
  | _ => 0

def State.eachMember (s : State) (n : Nat) (f : State → Nat → State) : State := forAll (s.members n) f s

/-- The inrush window opens (R225). -/
def State.openInrush (s : State) (n : Nat) : State :=
  if s.chInrush n = 0 then s
  else
    let s := s.setChan n { s.chan n with inrushEnd := some (s.now + inrushWindow (s.chInrush n)) }
    s.wr (Fd.PD_CH_STATUS_INRUSH n) 1

/-- The inrush window closes. -/
def State.closeInrush (s : State) (n : Nat) : State :=
  let s := s.setChan n { s.chan n with inrushEnd := none }
  (s.wr (Fd.PD_CH_STATUS_INRUSH n) 0).wr (Fd.PD_CH_STATUS_LIMIT n) 0

/-- The output starts conducting: every member in the same clock, with the inrush window where `window` says so. -/
def State.outOn (s : State) (n : Nat) (window : Bool) : State :=
  let s := s.eachMember n (fun s m => s.wr (Fd.PD_CH_STATUS_OUT m) 1)
  let s := s.setChan n { s.chan n with since := s.now, pwmStart := s.now, slew := s.chSlew n, falls := none }
  if window then s.openInrush n else s

/-- How long the output moves from the feed voltage to 0 at a SLEW, in ns: the nominal slew within ±20 % (R219). -/
def State.fallTime (s : State) (n slew : Nat) : Nat :=
  (s.feed (s.chFeed n)).mv * 100000 / (slewMvUs slew * (80 + Config.slewTol n s.now % 41))

/-- The output stops: every member in the same clock, at a SLEW. A reversal that still brakes keeps the mode and DUTY that it was to enter.
[Assumption 121: DEDUCED, unsafe.] -/
def State.outStop (s : State) (n slew : Nat) : State :=
  if s.out n then
    let c := s.chan n
    let falls := if s.driven n then some (s.now + s.fallTime n slew) else none
    let s := s.eachMember n (fun s m => s.wr (Fd.PD_CH_STATUS_OUT m) 0)
    (s.setChan n { c with
      since := s.now, slew := slew, falls := falls, brake := none
      mode := match c.brake with
        | some b => b.2.1
        | none => c.mode
      duty := match c.brake with
        | some b => b.2.2
        | none => c.duty }).closeInrush n
  else s

/-- A switch-off at the plan's SLEW; a cut, a diagnostic fault and a feed fault switch off at SLEW 0 (R219, R242, R247). -/
def State.outOff (s : State) (n : Nat) : State := s.outStop n (s.chSlew n)
def State.cutOff (s : State) (n : Nat) : State := s.outStop n 0

def State.setCmd (s : State) (n : Nat) (b : Bool) : State :=
  s.eachMember n (fun s m => s.setFlag (Fd.PD_CH_STATUS_CMD m) b)

/-! ### Switching (R220, R222, R227, R248) -/

/-- The trigger's candidates (Table 10-9): 0 HOUSING, 1 FEED_A, 2 FEED_B, 3 MODULE. -/
def State.candidate (s : State) (t n : Nat) : Bool :=
  (s.chItem n).isSome && (t == 0 || t == 3 || s.chFeed n + 1 == t)

/-- R222 rule 3. -/
def State.shedRefuses (s : State) (n : Nat) : Bool :=
  s.shedPrio n != 0 && decide (s.shedPrio n ≤ s.rd Fd.PD_SHED_LEVEL) &&
  (List.range 4).any (fun t => tbit (s.rd Fd.PD_SHED_TRIGGER) t && s.candidate t n)

/-- A secondary takeover channel in STANDBY (R449). [Assumption 117: DEDUCED, unsafe.] -/
def State.standby (s : State) (n : Nat) : Bool := s.rd (Fd.UX_TAKEOVER_STATE n) == 2

/-- The decision of R222 on an ON or a DRIVE other than coast, with the refusal of a STANDBY channel (R449) ahead of it.
[Assumption 117: DEDUCED, unsafe.] -/
def State.decideOn (s : State) (n : Nat) : Nat :=
  if s.standby n then Code.WRONG_STATE
  else if s.latched n then Code.CH_LATCHED
  else if s.cooling n then Code.CH_COOLING
  else if s.shedRefuses n then Code.SHED_ACTIVE
  else Code.DONE

/-- The bridge or high-side output takes its DUTY, PWM_HZ and MODE; a reversal brakes for 5 ms first (R227).
[Assumption 117: DEDUCED, unsafe.] -/
def State.drive (s : State) (n duty hz mode : Nat) : State :=
  let c := s.chan n
  if isBridge n then
    let running := s.out n && (c.mode == 1 || c.mode == 2)
    if running && (mode == 1 || mode == 2) && mode != c.mode then
      (s.setChan n { c with mode := 3, duty := 0, brake := some (s.now + 5 * ms, mode, duty) }).closeInrush n
    else
      let s := s.setChan n { c with mode := mode, duty := duty, hz := 0, brake := none }
      if mode == 3 then (s.closeInrush n).outOn n false
      else if running then s
      else s.outOn n true
  else
    let was := s.out n
    let s := s.setChan n { c with duty := duty, hz := hz, mode := 0 }
    if was then
      if c.duty < 1000 then s else s.setChan n { s.chan n with pwmStart := s.now }
    else s.outOn n true

/-- An ON or DRIVE that R222 accepts: the commanded state becomes ON and SHED clears; on a suspended feed the output waits (R248). -/
def State.acceptOn (s : State) (n duty hz mode : Nat) : State :=
  let s := (s.setCmd n true).wr (Fd.PD_CH_STATUS_SHED n) 0
  if s.suspended (s.chFeed n) then s.setChan n { s.chan n with duty := duty, hz := hz, mode := mode }
  else s.drive n duty hz mode

/-- An OFF, or a DRIVE with MODE coast (R222): it clears a latch, a scheduled retry and the SHED bit. -/
def State.applyOff (s : State) (n : Nat) : State :=
  let s := (s.setCmd n false).outOff n
  let s := s.wr (Fd.PD_CH_STATUS_LATCHED n) 0
  let s := s.wr (Fd.PD_CH_STATUS_COOLING n) 0
  let s := s.wr (Fd.PD_CH_STATUS_SHED n) 0
  let s := s.eachMember n (fun s m => s.wr (Fd.PD_DIAG_STATUS_REV m) 0)
  s.setChan n { s.chan n with duty := 0, hz := 0, mode := 0, pwmNext := none, holdTrip := false }

/-- An ON under R222: its code and what it leaves. -/
def State.applyOn (s : State) (n duty hz mode : Nat) : Nat × State :=
  let code := s.decideOn n
  if code = Code.DONE then (code, s.acceptOn n duty hz mode) else (code, s)

/-- A switched command: MODE coast, or DUTY 0 in forward or reverse, is an OFF (R227). [Assumption 118: DEDUCED, unsafe.] -/
def State.applySwitch (s : State) (n : Nat) (on : Bool) (duty hz mode : Nat) : Nat × State :=
  if !on || (isBridge n && (mode == 0 || ((mode == 1 || mode == 2) && duty == 0))) then (Code.DONE, s.applyOff n)
  else s.applyOn n duty hz mode

/-- The channel leaves Lay-by and CAUSE returns to 0 (R254). -/
def State.leaveLayby (s : State) (n : Nat) : State :=
  ((s.wr (Fd.PD_DIAG_STATUS_LAYBY n) 0).wr (Fd.PD_DIAG_STATUS_CAUSE n) 0).setChan n { s.chan n with layOld := false }

/-- The refusals of R250, ahead of R222; a Lay-by of cause 4 is released only by a device restart (R256). `on` says ON, or DRIVE other
than coast. [Assumption 116: DEDUCED, unsafe.] -/
def State.layRefuses (s : State) (n : Nat) (fromOld on : Bool) : Nat :=
  if s.inLayby n && (fromOld || s.rd (Fd.PD_DIAG_STATUS_CAUSE n) == 4) then Code.LAYBY_ACTIVE
  else if on && s.hot n then Code.OVER_TEMP
  else Code.DONE

/-! ### Trips (R231) -/

/-- A trip of the channel or of its gang: counter `k`, CAUSE, and a retry or a latch. A trip while OFF is commanded schedules no retry
(R222). [Assumption 120: DEDUCED, unsafe.] -/
def State.trip (s : State) (n code k : Nat) : State :=
  let s := if code = Code.SHORT_CUT then (s.cutOff n).setChan n { (s.cutOff n).chan n with falls := none } else s.outOff n
  let s := s.count (Rg.PD_CH_EVENT n k) (Rg.PD_CH_SAT n) k
  let s := s.wr (Fd.PD_CH_STATUS_CAUSE n) code
  let s := s.setChan n { s.chan n with tripAt := s.now }
  let used := s.rd (Fd.PD_CH_STATUS_RETRIES n)
  let s :=
    if s.autoRetry n && !s.cmdOn n then s.chEvent n code used
    else if s.autoRetry n && decide (used < s.retryN n) then (s.wr (Fd.PD_CH_STATUS_COOLING n) 1).chEvent n code used
    else ((s.wr (Fd.PD_CH_STATUS_COOLING n) 0).wr (Fd.PD_CH_STATUS_LATCHED n) 1).chEvent n Code.CH_LATCHED code
  s.kbLevels

/-- A diagnostic fault switches every member off and latches the lead (R226, R242, R246). -/
def State.diagFault (s : State) (n code sticky : Nat) : State :=
  let s := (s.cutOff n).wr (Fd.PD_CH_STATUS_LATCHED n) 1
  let s := s.wr (Fd.PD_CH_STATUS_COOLING n) 0
  s.diagEvent n code (some sticky)

/-! ### Lay-by (R252 to R254) -/

/-- The action of Table 11-4. -/
def State.laybyAction (s : State) (n : Nat) : State :=
  match s.chLayby n with
  | 0 => s.applyOff n
  | 2 =>
    let r := s.applyOn n 1000 0 0
    if r.1 = Code.DONE then r.2 else r.2.faultRec n r.1
  | _ => s

/-- A command is refused with LAYBY_ACTIVE or OVER_TEMP, which is an event of Table 11-8 (R250, R258). -/
def State.refused (s : State) (c : Cmd) (n code : Nat) : State := (s.faultRec n code).finish c code

/-- Every TIMED command pending for the channel completes with LAYBY_ACTIVE (R252). [Assumption 116: DEDUCED, unsafe.] -/
def State.laybyTimed (s : State) (n : Nat) : State :=
  match s.pwrHolder n with
  | none => s
  | some e => forAll ((s.inflight e).filter (fun c => c.phase == .timed)) (fun s c => s.refused c n Code.LAYBY_ACTIVE) s

/-- One channel enters Lay-by, or enters again: then CAUSE is updated, except that a cause 4 stays (R253, R256), and nothing is
counted. [Assumption 116: DEDUCED, unsafe.] -/
def State.enterLayby (s : State) (cause n : Nat) : State :=
  let again := s.inLayby n
  let s := s.wr (Fd.PD_DIAG_STATUS_CAUSE n) (if again ∧ s.rd (Fd.PD_DIAG_STATUS_CAUSE n) = 4 then 4 else cause)
  let s := s.wr (Fd.PD_DIAG_STATUS_LAYBY n) 1
  let s := s.setChan n { s.chan n with layOld := true, pwmNext := none }
  let s := if again then s else s.diagEvent n Code.LAYBY_ENTERED none
  (s.laybyAction n).laybyTimed n

/-- The channels of a district: those whose OWNER it is (Table 11-5). -/
def State.channelsOf (s : State) (d : Nat) : List Nat := s.leads.filter (fun n => s.chOwner n == d)

/-- The channels whose OWNER has pair `p` in PAIRS (Table 11-5 cause 1). -/
def State.channelsOfPair (s : State) (p : Nat) : List Nat :=
  s.leads.filter (fun n => tbit (itemN (s.districtItem (s.chOwner n)) 3) p)

/-- Channels enter Lay-by for one cause, in one PER clock (R252). -/
def State.channelsToLayby (s : State) (cause : Nat) (l : List Nat) : State :=
  if s.kb.up then forAll l (fun s n => s.enterLayby cause n) s else s

/-- Channels are released by PD_LAYBY_CTRL; those of cause 4 are skipped, which RESULT reports (R254, R256). -/
def State.releaseLayby (s : State) (l : List Nat) : State :=
  let held := l.filter (fun n => s.inLayby n && s.rd (Fd.PD_DIAG_STATUS_CAUSE n) == 4)
  let s := forAll (l.filter (fun n => s.inLayby n && s.rd (Fd.PD_DIAG_STATUS_CAUSE n) != 4)) State.leaveLayby s
  s.wr Fd.PD_LAYBY_CTRL_RESULT (if held.isEmpty then Code.DONE else Code.WRONG_STATE)

/-! ### Power of Kerbside (R75, R87, R230, R238, R255) -/

/-- Every channel and bridge off, whatever its Lay-by state (R87). -/
def State.allOff (s : State) : State :=
  forAll s.leads (fun s n => (s.setCmd n false).outOff n) s

/-- PWR powers down with KH powered while a channel is held: `mode` 1 in sleep, where channels without SLEEP_HOLD switch off first
(R75), 2 across a device restart, where every output is held as it is (R255). -/
def State.kerbDown (s : State) (mode : Nat) : State :=
  if !s.kb.up then { s with kb := { s.kb with khSince := if s.leads.any (fun n => (s.chan n).held != 0) then s.kb.khSince else none } }
  else
    let s := if mode = 1 then forAll (s.leads.filter (fun n => !s.sleepHold n)) (fun s n => (s.setCmd n false).outOff n) s else s
    let s := forAll (s.leads.filter (fun n => mode == 2 || s.sleepHold n))
      (fun s n => (s.setChan n { s.chan n with held := mode }).closeInrush n) s
    let held := s.leads.any (fun n => (s.chan n).held != 0)
    let s := (s.setReg Rg.PD_SHED 0).setReg Rg.PD_HOUSING 0
    let s := { s with kb := { s.kb with shedAt := none } }
    { s with kb := { s.kb with up := false, khSince := if held then some s.now else none } }

/-- PWR powers down with nothing held: what Kerbside held is lost (R87, R89). [Assumption 119: DEDUCED, unsafe.] -/
def State.kerbLost (s : State) : State := { s with kb := KbState.reset }

end Sys2Proof.Machine
end

