-- ==== Sys2Proof/Machine/PowerModels.lean ====
section
/-! DEFINITION. Kerbside's measurement, wire model, housing model and shedding (R229, R230, R234 to R237), in integers: temperatures in
10⁻¹² K, powers in pW, squared currents in (0.5 mA)². The rounding of one model step is below 10⁻¹¹ K and 1 pW, inside the tolerance
that R229 states for the trip time. -/

namespace Sys2Proof.Machine

/-! ### Wire model (R229, R230) -/

/-- rho20 in 10 µΩ/m, rth in 0.1 K·m/W and tau in s for a CSA in 0.01 mm² (Table 10-7). -/
def wireConsts (csa : Nat) : Option (Nat × Nat × Nat) :=
  match csa with
  | 35 => some (5200, 280, 12)
  | 50 => some (3710, 240, 16)
  | 75 => some (2470, 200, 22)
  | 100 => some (1850, 175, 28)
  | 150 => some (1270, 145, 38)
  | 250 => some (760, 115, 60)
  | 400 => some (471, 90, 90)
  | 600 => some (314, 75, 130)
  | 1000 => some (182, 58, 200)
  | 1600 => some (116, 46, 290)
  | _ => none

/-- 1 K and 0.1 °C in the unit of temperature. -/
def kelvin : Int := 1000000000000
def deciDeg : Int := 100000000000

/-- WIRE item fields: CH, INSULATION, AMBIENT_SRC, CSA, LIMIT (Table 02-3). -/
def State.wireItem (s : State) (n : Nat) : Option Item := s.item 0x0602 n
def Item.wireSrc (i : Item) : Nat := i.n 2
def Item.wireCsa (i : Item) : Nat := i.n 3
def Item.wireLimit (i : Item) : Int := (i.n 4 : Int) * deciDeg

/-- ta of an AMBIENT_SRC (Table 10-8); PD_AMBIENT_SW counts for 10 s after its last write. -/
def State.ambient (s : State) (src : Nat) : Int :=
  match src with
  | 0 => 850 * deciDeg
  | 1 => signed 16 (s.rd Fd.PD_AMBIENT_TEMP) * deciDeg
  | 2 => (signed 16 (s.rd Fd.PD_AMBIENT_TEMP) + 150) * deciDeg
  | _ =>
    match s.kb.ambSwAt with
    | some t => if s.now ≤ t + 10 * sec then signed 16 (s.rd Fd.PD_AMBIENT_SW_TEMP) * deciDeg else 850 * deciDeg
    | none => 850 * deciDeg

/-- I² × rho20 × rth in 10⁻¹² K, for a sum of ten squared samples. -/
def heat (i2x10 rho rth : Nat) : Int := ((i2x10 * rho * rth * 25 / 1000 : Nat) : Int)

/-- One step of R229: the sum of the ten squared samples in (0.5 mA)², t and ta. -/
def wireStep (i2x10 rho rth tau : Nat) (t ta : Int) : Int :=
  let rise := heat i2x10 rho rth * (100000000000000000 + 393 * (t - 20 * kelvin)) / 100000000000000000
  t + (rise - (t - ta)) / ((10000 * tau : Nat) : Int)

/-- `b^k` in units of 10⁻¹⁸, by squaring; 40 squarings cover every count of steps. -/
def fixPow (fuel b k : Nat) : Nat :=
  match fuel with
  | 0 => 1000000000000000000
  | fuel + 1 =>
    let r := fixPow fuel (b * b / 1000000000000000000) (k / 2)
    if k % 2 = 1 then r * b / 1000000000000000000 else r

/-- t after `steps` steps without current (R230). [Assumption 120: DEDUCED, unsafe.] -/
def wireCool (steps tau : Nat) (t ta : Int) : Int :=
  let f := fixPow 40 (1000000000000000000 - 100000000000000 / tau) steps
  ta + (t - ta) * (f : Int) / 1000000000000000000

/-- The steady-state temperature of a current (the step of R229 set to zero); the limit where the wire runs away.
[Assumption 120: DEDUCED, unsafe.] -/
def wireSteady (halfMa rho rth : Nat) (ta limit : Int) : Int :=
  let k := heat (10 * halfMa * halfMa) rho rth
  let den := 100000000000000000 - 393 * k
  if den ≤ 0 then limit else ta + k * (100000000000000000 + 393 * (ta - 20 * kelvin)) / den

/-- The rating of a channel or gang in 0.5 mA (R226). -/
def State.ratingHalf (s : State) (n : Nat) : Nat := 2 * ratingMa n * s.gangSize n

/-- TEMP of PD_CH_MEAS[n] shows t, rounded down to 0.1 °C (R229). -/
def State.showTemp (s : State) (n : Nat) : State :=
  s.wr (Fd.PD_CH_MEAS_TEMP n) (unsignedOf 16 ((s.chan n).temp / deciDeg))

/-- The wire model of one channel steps, and trips past LIMIT. -/
def State.wireStepOf (s : State) (n : Nat) : State :=
  let c := s.chan n
  let i2x10 := if c.n = 0 then 0 else c.gangSq * 10 / c.n
  let own := if c.n = 0 then 0 else c.sq * 10 / c.n
  let s := s.setChan n { c with i2 := own, sq := 0, gangSq := 0, n := 0 }
  match s.wireItem n with
  | none => s
  | some w =>
    match wireConsts w.wireCsa with
    | none => s
    | some (rho, rth, tau) =>
      let t := wireStep i2x10 rho rth tau c.temp (s.ambient w.wireSrc)
      let s := (s.setChan n { s.chan n with temp := t }).showTemp n
      if w.wireLimit < t ∧ s.out n then s.trip n Code.WIRE_TRIP 1 else s

/-- The retry condition on t (R231): t ≤ ta + (limit − ta) / 2. -/
def State.cooled (s : State) (n : Nat) : Bool :=
  match s.wireItem n with
  | none => true
  | some w =>
    let ta := s.ambient w.wireSrc
    decide ((s.chan n).temp ≤ ta + (w.wireLimit - ta) / 2)

/-- The start value of t at PWR power-up (R230): `since` is when PWR powered down with KH powered. [Assumption 120: DEDUCED, unsafe.] -/
def State.wireStart (s : State) (since : Option Nat) (n : Nat) : State :=
  match s.wireItem n with
  | none => s
  | some w =>
    match wireConsts w.wireCsa with
    | none => s
    | some (rho, rth, tau) =>
      let c := s.chan n
      let ta := s.ambient w.wireSrc
      let t :=
        match since with
        | none => ta + (w.wireLimit - ta) / 2
        | some t0 =>
          let cold := wireCool ((s.now - t0) / (100 * us)) tau c.temp ta
          let i := if c.held = 1 then s.ratingHalf n / 4 else if c.held = 2 then s.ratingHalf n else 0
          if c.held = 0 then cold else max cold (wireSteady i rho rth ta w.wireLimit)
      (s.setChan n { c with temp := t }).showTemp n

/-! ### Measurement (R234) -/

/-- The energy that one sample adds, in 5 pJ: mV × 0.5 mA × 10 µs; a bridge adds the magnitude, a high-side channel only positive
currents. -/
def State.sampleEnergy (s : State) (n mv : Nat) : Nat :=
  let i := s.halfMa n
  mv * (if isBridge n then i.natAbs else i.toNat)

/-- The sample of one channel: PD_CH_MEAS, the energy counter, the sums of the models, LIMIT in the inrush window, and the judged
samples of R243. [Assumption 123: DEDUCED, unsafe.] -/
def State.sampleChan (s : State) (n raw : Nat) : State :=
  let c := { s.chan n with cur := signed 16 raw }
  let s := (s.setChan n c).wr (Fd.PD_CH_MEAS_CURRENT n) raw
  let i := s.halfMa n
  let e := c.energy + s.sampleEnergy n (s.feed (s.chFeed n)).mv
  let s := s.setChan n { c with energy := e % 200000, sq := c.sq + i.natAbs * i.natAbs, n := c.n + 1 }
  if e / 200000 = 0 then s else s.count64 (Rg.PD_CH_ENERGY_LO n) (Rg.PD_CH_SAT n) 4 (e / 200000)

/-- The current of one channel in the direction of supply, in 0.5 mA: a bridge's in magnitude (R225, R227). -/
def State.drawnHalf (s : State) (n : Nat) : Int := if isBridge n then ((s.halfMa n).natAbs : Int) else s.halfMa n

/-- The gang current in 0.5 mA: the sum over the members (R229, R233). -/
def State.gangHalf (s : State) (n : Nat) : Int := (s.members n).foldl (fun a m => a + s.halfMa m) 0

/-- A sample that ends now falls wholly inside what R243 judges. [Assumption 123: DEDUCED, unsafe.] -/
def State.judged (s : State) (n : Nat) : Bool :=
  let c := s.chan n
  s.out n && c.inrushEnd.isNone &&
  if isBridge n then (c.mode == 1 || c.mode == 2) && c.duty == 1000
  else if c.duty = 1000 then true
  else
    let on := sec * c.duty / 1000
    let x := (s.now - c.pwmStart) * c.hz % sec
    decide (20 * us * c.hz ≤ on) && decide (10 * us * c.hz ≤ x) && decide (x ≤ on)

/-- The lead's part of a sample: the gang sum of the wire model, LIMIT where a member reaches its inrush limit (R225), and the open-load
sums while OL_ON_EN is 1 (R242, R243): signed, of a bridge in magnitude. -/
def State.sampleLead (s : State) (n : Nat) : State :=
  let i := s.gangHalf n
  let c := s.chan n
  let s := s.setChan n { c with
    gangSq := c.gangSq + i.natAbs * i.natAbs
    olSum := if !s.flag (Fd.PD_DIAG_CFG_OL_ON_EN n) then 0
      else if s.judged n then c.olSum + (if isBridge n then (i.natAbs : Int) else i) else c.olSum
    olN := if !s.flag (Fd.PD_DIAG_CFG_OL_ON_EN n) then 0 else if s.judged n then c.olN + 1 else c.olN }
  let lim := match s.chInrush n with | 1 => 5 | 2 => 3 | _ => 4
  s.setFlag (Fd.PD_CH_STATUS_LIMIT n)
    (c.inrushEnd.isSome && (s.members n).any (fun m => decide (((lim * ratingMa m : Nat) : Int) ≤ s.drawnHalf m)))

/-! ### Housing model (R235 to R237) -/

/-- The dissipation in pW: the electronics in mW, the channels, and the feeds (R235). [Assumption 174: DESIGN CHOICE, unsafe.] -/
def State.dissipation (s : State) (pElecMw : Nat) : Int :=
  let ch := (List.range 52).foldl (fun a n => a + (s.chan n).i2 * rOn n * 5 / 2) 0
  let sq := fun (i : Int) => i.natAbs * i.natAbs * 50000
  ((pElecMw * 1000000000 + ch + sq s.kb.feedA.cur + sq s.kb.feedB.cur : Nat) : Int)

/-- 0.1 W in pW, 0.1 A in pA, 10 mA in pA. -/
def deciWatt : Int := 100000000000
def deciAmp : Int := 100000000000
def tenMa : Int := 10000000000

def State.supply (s : State) (k : Nat) : Int := (itemN ((s.items 0x0101).head?) k : Int)

/-- The filtered and unfiltered quantity of a trigger, its limit, and its end value (Table 10-9). [Assumption 122: DEDUCED, unsafe.] -/
def State.trigger (s : State) (t : Nat) : Int × Int × Int × Int :=
  match t with
  | 0 => (s.kb.pFilt, s.kb.pInst, (550 - s.supply 3) * deciWatt, (520 - s.supply 3) * deciWatt)
  | 1 => (s.kb.feedA.filt, s.kb.feedA.cur * tenMa, s.supply 0 * deciAmp, s.supply 0 * deciAmp * 95 / 100)
  | 2 => (s.kb.feedB.filt, s.kb.feedB.cur * tenMa, s.supply 1 * deciAmp, s.supply 1 * deciAmp * 95 / 100)
  | _ => (s.kb.feedA.filt + s.kb.feedB.filt, (s.kb.feedA.cur + s.kb.feedB.cur) * tenMa, s.supply 2 * deciAmp,
      s.supply 2 * deciAmp * 95 / 100)

/-- TRIGGER with the triggers that start and end (R236). [Assumption 122: DEDUCED, unsafe.] -/
def State.triggers (s : State) : Nat :=
  (List.range 4).foldl (fun w t =>
    let q := s.trigger t
    let active := if tbit (s.rd Fd.PD_SHED_TRIGGER) t then decide (q.2.2.2 < q.1) else decide (q.2.2.1 < q.1)
    if active then w + 2 ^ t else w) 0

/-- Candidates with a non-zero SHED_PRIO whose output is on. -/
def State.shedable (s : State) (t : Nat) : List Nat :=
  s.leads.filter (fun n => s.candidate t n && s.shedPrio n != 0 && s.out n)

/-- STUCK (R22, R236): a trigger is active and no candidate of it with a non-zero SHED_PRIO is on. -/
def State.stuck (s : State) : Bool :=
  (List.range 4).any (fun t => tbit (s.rd Fd.PD_SHED_TRIGGER) t && (s.shedable t).isEmpty)

/-- One channel is shed: output and commanded state off, SHED set, counted and reported (R236). -/
def State.shedChan (s : State) (n : Nat) : State :=
  let s := (s.outOff n).setCmd n false
  let s := (s.wr (Fd.PD_CH_STATUS_SHED n) 1).wr (Fd.PD_CH_STATUS_CAUSE n) Code.SHED
  let s := s.count (Rg.PD_CH_EVENT n 3) (Rg.PD_CH_SAT n) 3
  s.chEvent n Code.SHED (s.rd (Fd.PD_CH_STATUS_RETRIES n))

/-- The check of R236 for one trigger: the lowest level of its candidates is switched off in one clock.
[Assumption 122: DEDUCED, unsafe.] -/
def State.shedFor (s : State) (t : Nat) : State :=
  let q := s.trigger t
  if !tbit (s.rd Fd.PD_SHED_TRIGGER) t || decide (q.2.1 ≤ q.2.2.2) then s
  else
    match ((s.shedable t).map s.shedPrio).min? with
    | none => s
    | some p =>
      let s := forAll ((s.shedable t).filter (fun n => s.shedPrio n == p)) State.shedChan s
      s.wr Fd.PD_SHED_LEVEL (max p (s.rd Fd.PD_SHED_LEVEL))

end Sys2Proof.Machine
end

