-- ==== Sys2Proof/Machine/Power.lean ====
section
/-! DEFINITION. The commands of chapter 10: PWR endpoint commands, PD_CH_CTRL, and what Kerbside does by itself. -/

namespace Sys2Proof.Machine

/-! ### Running a PWR command (R221, R222, R224, R250) -/

/-- The channel of a PWR endpoint (Table 07-1). -/
def State.boundChan (s : State) (e : Nat) : Nat := (s.epAt e).bind % 64

/-- DETAIL of an ON that commits while the feed is suspended: bit 15 (R248). -/
def State.onDetail (s : State) (n : Nat) : Nat := if s.suspended (s.chFeed n) then 0x8000 else 0

/-- An ON, OFF or DRIVE commits: the refusals of R250, the release from Lay-by (R254), then R222. [Assumption 118: DEDUCED, unsafe.] -/
def State.commitSwitch (s : State) (c : Cmd) (n : Nat) (on : Bool) (duty hz mode : Nat) : State :=
  let isOn := on && !(isBridge n && (mode == 0 || ((mode == 1 || mode == 2) && duty == 0)))
  let code := s.layRefuses n (s.chan n).layOld isOn
  if code ≠ Code.DONE then s.refused c n code
  else
    let s := if s.inLayby n then s.leaveLayby n else s
    let r := s.applySwitch n on duty hz mode
    (r.2.complete c r.1 (if r.1 = Code.DONE ∧ isOn then r.2.onDetail n else 0) s.vt).kbLevels

/-- The start of the next PWM period of a running channel: after now, so that a change at a period's start commits one period later (R220). -/
def State.nextPeriod (s : State) (n : Nat) : Nat :=
  let c := s.chan n
  c.pwmStart + (((s.now - c.pwmStart) * c.hz / sec + 1) * sec + c.hz - 1) / c.hz

/-- The PWR ON commands that wait for the channel's period start. -/
def State.periodWaits (s : State) (n : Nat) : List Cmd :=
  match s.pwrHolder n with
  | some e => (s.inflight e).filter (fun c => c.op == 1 && c.phase == .waiting)
  | none => []

/-- A change begins to wait: the first one that waits fixes the period start. -/
def State.awaitPeriod (s : State) (n : Nat) : State :=
  if (s.periodWaits n).isEmpty ∧ (s.chan n).pwmNext.isNone then s.setChan n { s.chan n with pwmAt := s.nextPeriod n } else s

/-- A change of DUTY or PWM_HZ of a running PWM waits for the next period (R220). [Assumption 118: DEDUCED, unsafe.] -/
def State.waitsPeriod (s : State) (n duty hz : Nat) : Bool :=
  let x := s.chan n
  !isBridge n && s.out n && decide (x.duty < 1000) && decide (0 < x.hz) && (x.duty != duty || x.hz != hz)

/-- PWR ON executes (R220, R222). -/
def State.runOn (s : State) (c : Cmd) : State :=
  let n := s.boundChan c.ep
  let duty := c.f 0x10 2
  let hz := c.f 0x12 2
  if s.waitsPeriod n duty hz then (s.awaitPeriod n).putCmd { c with phase := .waiting } else s.commitSwitch c n true duty hz 0

def State.runOff (s : State) (c : Cmd) : State := s.commitSwitch c (s.boundChan c.ep) false 0 0 0

def State.runDrive (s : State) (c : Cmd) : State :=
  s.commitSwitch c (s.boundChan c.ep) true (c.f 0x12 2) 0 (c.f 0x10 1)

/-- The record of Table 10-6. -/
def State.readRecord (s : State) (n : Nat) : List Byte :=
  let w := s.chStatusWord n
  let energy := (s.members n).foldl (fun a m =>
    a + (s.reg (Rg.PD_CH_ENERGY_LO m)).toNat + 2 ^ 32 * (s.reg (Rg.PD_CH_ENERGY_HI m)).toNat) 0
  let cur := (s.members n).foldl (fun a m => a + (s.chan m).cur) 0
  leBytes 2 w ++ leBytes 2 (w / 65536) ++ leBytes 2 (unsignedOf 16 cur) ++ leBytes 2 (s.rd (Fd.PD_CH_MEAS_TEMP n))
    ++ leBytes 2 (s.feed (s.chFeed n)).mv ++ leBytes 6 0 ++ leBytes 8 energy ++ leBytes 8 s.vt

/-- PWR READ (R233). -/
def State.runRead (s : State) (c : Cmd) : State :=
  let buf := c.f 0x10 8
  if s.dramRange (s.epAt c.ep).district 0 buf 32 2 then
    (s.store buf (s.readRecord (s.boundChan c.ep))).finish c Code.DONE
  else s.finish c Code.NOT_OWNER

/-- The number of WAIT_EVENT commands of the endpoint that wait. [Assumption 130: DEDUCED, unsafe.] -/
def State.waitEvents (s : State) (e : Nat) : Nat := ((s.inflight e).filter (fun c => c.op == 5 && c.phase == .waiting)).length

/-- PWR WAIT_EVENT (R232): a fifth in flight completes with BUSY. [Assumption 130: DEDUCED, unsafe.] -/
def State.runWaitEvent (s : State) (c : Cmd) : State :=
  if 4 ≤ s.waitEvents c.ep then s.finish c Code.BUSY else s.putCmd { c with phase := .waiting }

/-- A PWR command of any opcode executes. -/
def State.runPwr (s : State) (c : Cmd) : State :=
  match c.op with
  | 1 => s.runOn c
  | 2 => s.runOff c
  | 3 => s.runDrive c
  | 4 => s.runRead c
  | 5 => s.runWaitEvent c
  | _ => s

/-- Steps 3 and 4 of R60 for a PWR command (R218, R220, R221, R224, R85). -/
def State.checkPwr (s : State) (c : Cmd) : Nat :=
  let n := s.boundChan c.ep
  let duty := c.f 0x10 2
  let hz := c.f 0x12 2
  let t90 := slewT90 (s.chSlew n)
  let pwm := decide (8 ≤ n) && decide (n < 48) && s.gangSize n == 1 && !s.sleepHold n
  let inRange :=
    match c.op with
    | 1 => !isBridge n && decide (1 ≤ duty) && decide (duty ≤ 1000) &&
      (if duty = 1000 then hz == 0
       else pwm && decide (100 ≤ hz) && decide (hz ≤ 1000) && decide (2 * t90 * hz ≤ duty * 10000))
    | 2 => !isBridge n
    | 3 => isBridge n && decide (c.f 0x10 1 ≤ 3) && decide (c.f 0x12 2 ≤ 1000)
    | 4 => c.f 0x10 8 % 32 == 0
    | _ => true
  if !inRange then Code.OUT_OF_RANGE
  else if s.gated 0xB then Code.WRONG_STATE
  else if c.op = 4 ∧ !s.dramRange (s.epAt c.ep).district 0 (c.f 0x10 8) 32 2 then Code.NOT_OWNER
  else if c.timed ∧ 64 ≤ (s.ep.inflight.filter (fun k => k.timed && (s.epAt k.ep).ty == 2)).length then Code.NO_RESOURCE
  else Code.DONE

/-- A command that Kerbside has taken in: it runs where Kerbside is powered, at its time. -/
def State.kerbTakes (s : State) (ep tag op : Nat) (run : State → Cmd → State) : State :=
  match s.passed ep tag 2 op with
  | some c => if s.kb.up then s.atTime c run else s
  | none => s

def execPwrOn (ep : Fin 4096) (tag : BitVec 16) (s : State) : Host.Outcome State Fault Refusal :=
  .next (s.kerbTakes ep tag.toNat 1 State.runOn)

def execPwrOff (ep : Fin 4096) (tag : BitVec 16) (s : State) : Host.Outcome State Fault Refusal :=
  .next (s.kerbTakes ep tag.toNat 2 State.runOff)

def execPwrDrive (ep : Fin 4096) (tag : BitVec 16) (s : State) : Host.Outcome State Fault Refusal :=
  .next (s.kerbTakes ep tag.toNat 3 State.runDrive)

def execPwrRead (ep : Fin 4096) (tag : BitVec 16) (s : State) : Host.Outcome State Fault Refusal :=
  .next (s.kerbTakes ep tag.toNat 4 State.runRead)

def execWaitEvent (ep : Fin 4096) (tag : BitVec 16) (s : State) : Host.Outcome State Fault Refusal :=
  .next (s.kerbTakes ep tag.toNat 5 State.runWaitEvent)

/-! ### PD_CH_CTRL (R223) -/

/-- The fields of PD_CH_CTRL in a written word: PWM_HZ, DUTY, MODE, EN. -/
def ctrlHz (w : Nat) : Nat := getBits w 30 21
def ctrlDuty (w : Nat) : Nat := getBits w 20 11
def ctrlMode (w : Nat) : Nat := getBits w 2 1
def ctrlOn (w : Nat) : Bool := tbit w 0

/-- The word breaks a range that the register states in words, or R220. -/
def State.ctrlBad (s : State) (n w : Nat) : Bool :=
  let duty := ctrlDuty w
  let hz := ctrlHz w
  let t90 := slewT90 (s.chSlew n)
  let pwm := decide (8 ≤ n) && decide (n < 48) && s.gangSize n == 1 && !s.sleepHold n
  if isBridge n then decide (1000 < duty)
  else ctrlMode w != 0 || (ctrlOn w && !(decide (1 ≤ duty) && decide (duty ≤ 1000) && if duty = 1000 then hz == 0
    else pwm && decide (100 ≤ hz) && decide (hz ≤ 1000) && decide (2 * t90 * hz ≤ duty * 10000)))

/-- The outcome of the write, ahead of it (R222, R223, R250): WRONG_STATE for every outcome but DONE.
[Assumption 124: DEDUCED, unsafe.] -/
def State.ctrlRefuses (s : State) (n w : Nat) : Nat :=
  let isOn := ctrlOn w && !(isBridge n && (ctrlMode w == 0 || ((ctrlMode w == 1 || ctrlMode w == 2) && ctrlDuty w == 0)))
  if !s.kb.up || ((s.chItem n).isNone && isOn) then Code.WRONG_STATE
  else if s.layRefuses n false isOn ≠ Code.DONE then Code.WRONG_STATE
  else if isOn ∧ s.decideOn n ≠ Code.DONE then Code.WRONG_STATE
  else Code.DONE

/-- An accepted write commits as an untimed command. -/
def State.ctrlCommits (s : State) (n w : Nat) : State :=
  if ctrlOn w && s.waitsPeriod n (ctrlDuty w) (ctrlHz w) then
    (s.awaitPeriod n).setChan n { (s.awaitPeriod n).chan n with pwmNext := some (ctrlDuty w, ctrlHz w) }
  else ((s.applySwitch n (ctrlOn w) (ctrlDuty w) (if isBridge n then 0 else ctrlHz w) (ctrlMode w)).2).kbLevels

/-- What a write of PD_CH_CTRL does ahead of R222, once it has passed steps 1 to 7: it releases the channel from Lay-by (R254), or is
refused hot (R250, R258). -/
def State.ctrlFirst (s : State) (n w : Nat) : State :=
  let isOn := ctrlOn w && !(isBridge n && (ctrlMode w == 0 || ((ctrlMode w == 1 || ctrlMode w == 2) && ctrlDuty w == 0)))
  let code := s.layRefuses n false isOn
  if !s.kb.up || (s.chItem n).isNone then s
  else if code = Code.OVER_TEMP then s.faultRec n code
  else if code = Code.DONE ∧ s.inLayby n then s.leaveLayby n
  else s

/-- [Assumption 124: DEDUCED, unsafe.] -/
def State.chCtrlWrite (s : State) (who : Who) (bytes n : Nat) (w : Word) : State :=
  let held := (s.pwrHolder n).isSome || s.chLead n != n
  let s := if s.passesChecks who bytes (Rg.PD_CH_CTRL n) w held (s.ctrlBad n w.toNat) then s.ctrlFirst n w.toNat else s
  s.regWrite who bytes (Rg.PD_CH_CTRL n) w held (s.ctrlBad n w.toNat)
    (s.ctrlRefuses n w.toNat) (fun s => s.ctrlCommits n w.toNat)

def execChCtrlWrite (who : Who) (n : Fin 52) (w : Word) (s : State) : Host.Outcome State Fault Refusal :=
  .next (s.chCtrlWrite (s.issuer who) 4 n w)

/-! ### PWM periods and inrush windows (R220, R225, R227) -/

/-- The changes that wait for the period commit in fetch order, then the one of PD_CH_CTRL. [Assumption 118: DEDUCED, unsafe.] -/
def State.periodCommit (s : State) (n : Nat) : State :=
  let at_ := (s.chan n).pwmAt
  let running := s.out n && decide (0 < (s.chan n).hz)
  let waits := s.periodWaits n
  let s := if running ∧ (!waits.isEmpty ∨ (s.chan n).pwmNext.isSome) then s.reach at_ else s
  let start := fun (s : State) => s.setChan n { s.chan n with pwmStart := if running then at_ else s.now }
  let s := forAll waits (fun s c => start (s.commitSwitch c n true (c.f 0x10 2) (c.f 0x12 2) 0)) s
  match (s.chan n).pwmNext with
  | none => s
  | some (duty, hz) =>
    let s := s.setChan n { s.chan n with pwmNext := none }
    start (s.applyOn n duty hz 0).2

def execPwmPeriodCommit (n : Fin 52) (s : State) : Host.Outcome State Fault Refusal :=
  .next (if s.kb.up then s.periodCommit n else s)

/-- The end condition of a profile (Table 10-5): the output voltage in mV against the feed, or the current of each member. -/
def State.inrushOk (s : State) (n mv : Nat) : Bool :=
  let f := (s.feed (s.chFeed n)).mv
  match s.chInrush n with
  | 1 => decide (f ≤ mv + 2000)
  | 2 => decide (9 * f ≤ 10 * mv)
  | 3 => (s.members n).all (fun m => decide (s.drawnHalf m * 10 ≤ ((24 * ratingMa m : Nat) : Int)))
  | _ => true

def execInrushWindowEnd (n : Fin 52) (mv : BitVec 16) (s : State) : Host.Outcome State Fault Refusal :=
  .next (match (s.chan n).inrushEnd with
    | some t =>
      if s.kb.up then
        let s := s.reach t
        let ok := s.inrushOk n mv.toNat
        let s := s.closeInrush n
        if ok then s else s.trip n Code.INRUSH_FAIL 2
      else s
    | none => s)

def execBridgeBrakeEnd (k : Fin 4) (s : State) : Host.Outcome State Fault Refusal :=
  .next (match (s.chan (48 + k.val)).brake with
    | some (t, mode, duty) =>
      if !s.kb.up then s else
      let n := 48 + k.val
      let s := s.reach t
      let s := s.setChan n { s.chan n with brake := none, mode := mode, duty := duty }
      s.openInrush n
    | none => s)

/-! ### Protection (R228, R229, R231, R238) -/

/-- The lead that a fault of channel `n` is recorded on (R226). -/
def State.faultLead (s : State) (n : Nat) : Nat := s.chLead n

/-- The comparators of R228: the current in mA above the cut threshold in the direction of supply, of a bridge in any switch; or its rise
within 1 µs in mA above DIDT, which is in A/ms, where DIDT is not 0. [Assumption 121: DEDUCED, unsafe.] -/
def State.cutCondition (s : State) (n : Nat) (ma : Int) (rise : Nat) : Bool :=
  decide ((cutMa n : Int) < (if isBridge n then (ma.natAbs : Int) else ma)) || (s.chDidt n != 0 && decide (s.chDidt n < rise))

/-- The current of a switch of channel `n`, and its rise within the last µs, reach the comparators (R228). The cut acts wherever the output
conducts, held ones in KH too. [Assumption 121: DEDUCED, unsafe.] -/
def execShortCut (hit : ShortHit) (s : State) : Host.Outcome State Fault Refusal :=
  let l := s.faultLead hit.n
  .next (if !s.conducts l || !s.cutCondition hit.n hit.ma hit.rise then s
    else if s.kb.up then s.trip l Code.SHORT_CUT 0
    else if (s.chan l).held ≠ 0 then s.cutOff l
    else s)

/-- The step of every wire model (R229). -/
def State.wireModel (s : State) : State :=
  let s := s.reach s.kb.wireAt
  let s := forAll (List.range 52) State.wireStepOf s
  { s with kb := { s.kb with wireAt := s.now + 100 * us } }

/-- [Assumption 120: DEDUCED, unsafe.] -/
def execWireModelStep (s : State) : Host.Outcome State Fault Refusal := .next (if s.kb.up then s.wireModel else s)

def execRetried (n : Fin 52) (s : State) : Host.Outcome State Fault Refusal :=
  .next (if s.kb.up && s.cooling n && s.cooled n && !s.suspended (s.chFeed n) then
      let s := s.reach ((s.chan n).tripAt + 100 * ms)
      let used := s.rd (Fd.PD_CH_STATUS_RETRIES n) + 1
      let s := (s.wr (Fd.PD_CH_STATUS_COOLING n) 0).wr (Fd.PD_CH_STATUS_RETRIES n) used
      let s := s.outOn n true
      (s.chEvent n Code.RETRIED used).kbLevels
    else s)

def execRetryCountReset (n : Fin 52) (s : State) : Host.Outcome State Fault Refusal :=
  .next (if s.kb.up && s.out n then
      let s := s.reach ((s.chan n).since + 60 * sec)
      s.wr (Fd.PD_CH_STATUS_RETRIES n) 0
    else s)

def execHoldTrip (n : Fin 52) (s : State) : Host.Outcome State Fault Refusal :=
  .next (if !s.kb.up && (s.chan n).held != 0 && s.out n then
      let s := (s.pass (10 * ms)).outOff n
      let s := s.setChan n { s.chan n with holdTrip := true }
      s.chEvent n Code.HOLD_TRIP (s.rd (Fd.PD_CH_STATUS_RETRIES n))
    else s)

/-! ### Measurement and the housing (R234 to R237) -/

/-- The sample of one feed: mV, 10 mA. [Assumption 174: DESIGN CHOICE, unsafe.] -/
def State.sampleFeed (s : State) (f mv raw : Nat) : State :=
  let s := s.setFeed f { s.feed f with mv := mv, cur := signed 16 raw }
  (s.wr (Fd.PD_FEED_MEAS_VOLTAGE f) mv).wr (Fd.PD_FEED_MEAS_CURRENT f) raw

/-- [Assumption 123: DEDUCED, unsafe.] -/
def execCurrentSample (currents : List (BitVec 16)) (mvA mvB curA curB : BitVec 16) (s : State) :
    Host.Outcome State Fault Refusal :=
  .next (if s.kb.up then
      let s := s.reach s.kb.sampleAt
      let s := (s.sampleFeed 0 mvA.toNat curA.toNat).sampleFeed 1 mvB.toNat curB.toNat
      let s := forAll (List.range 52) (fun s n => s.sampleChan n (currents.getD n 0).toNat) s
      let s := forAll s.leads State.sampleLead s
      ({ s with kb := { s.kb with sampleAt := s.now + 10 * us } }).kbLevels
    else s)

/-- PD_FEED_AVG and PD_HOUSING show the filters (R240), held at the limits of their fields. -/
def State.showHousing (s : State) : State :=
  let cap := fun (i : Int) => min 0xFFFF i.toNat
  let s := (s.wr (Fd.PD_FEED_AVG_FILT 0) (cap (s.kb.feedA.filt / tenMa))).wr (Fd.PD_FEED_AVG_FILT 1) (cap (s.kb.feedB.filt / tenMa))
  (s.wr Fd.PD_HOUSING_P_FILT (cap (s.kb.pFilt / deciWatt))).wr Fd.PD_HOUSING_P_INST (cap (s.kb.pInst / deciWatt))

/-- Triggers start and end; the first to start brings the first check at once, and when all have ended the levels clear (R236, R237).
[Assumption 122: DEDUCED, unsafe.] -/
def State.updateTriggers (s : State) : State :=
  let old := s.rd Fd.PD_SHED_TRIGGER
  let w := s.triggers
  let s := s.wr Fd.PD_SHED_TRIGGER w
  let s := if w = 0 then { s.wr Fd.PD_SHED_LEVEL 0 with kb := { s.kb with shedAt := none } }
    else if old = 0 then { s with kb := { s.kb with shedAt := some s.now } }
    else s
  s.setFlag Fd.PD_SHED_STUCK s.stuck

def execHousingModelStep (pElec ambient : BitVec 16) (s : State) : Host.Outcome State Fault Refusal :=
  .next (if s.kb.up then
      let s := s.reach s.kb.houseAt
      let amb := s.kb.ambAt + 100 * ms ≤ s.now
      let s := if amb then { s.wr Fd.PD_AMBIENT_TEMP ambient.toNat with kb := { s.kb with ambAt := s.now } } else s
      let p := s.dissipation pElec.toNat
      let step := fun (x goal tau : Int) => x + (goal - x) / (10000 * tau)
      let s := { s with kb := { s.kb with
        pInst := p
        pFilt := step s.kb.pFilt p 300
        feedA := { s.kb.feedA with filt := step s.kb.feedA.filt (s.kb.feedA.cur * tenMa) 1 }
        feedB := { s.kb.feedB with filt := step s.kb.feedB.filt (s.kb.feedB.cur * tenMa) 1 }
        houseAt := s.now + 100 * us } }
      (s.showHousing.updateTriggers).kbLevels
    else s)

/-- The check of R236; a step of the wire model that is due at the same time comes first, so that a trip of it wins (R231). -/
def execShedCheck (s : State) : Host.Outcome State Fault Refusal :=
  .next (match s.kb.shedAt with
    | some t =>
      if !s.kb.up then s else
      let s := s.reach t
      let s := if s.kb.wireAt ≤ s.now then s.wireModel else s
      let s := forAll [0, 1, 2, 3] State.shedFor s
      let s := s.setFlag Fd.PD_SHED_STUCK s.stuck
      ({ s with kb := { s.kb with shedAt := some (s.now + sec) } }).kbLevels
    | none => s)

/-! ### Power-up (R230, R235, R238, R255) -/

/-- What KH held comes back: the output, its commanded state with DUTY and PWM_HZ, and a HOLD_TRIP latch; across a device restart the
channel is in Lay-by with CAUSE 3. [Assumption 119: DEDUCED, unsafe.] -/
def State.restoreHeld (s : State) (outs : List Nat) (n : Nat) : State :=
  let c := s.chan n
  if c.held = 0 then s.setChan n { Chan.reset with temp := c.temp, since := s.now }
  else
    let on := outs.contains n
    let s := s.setChan n { Chan.reset with
      temp := c.temp, since := s.now, pwmStart := s.now, duty := if on then c.duty else 0, hz := if on then c.hz else 0
      mode := if on then c.mode else 0 }
    let s := if on then (s.setCmd n true).eachMember n (fun s m => s.wr (Fd.PD_CH_STATUS_OUT m) 1) else s
    let s := if c.holdTrip then (s.wr (Fd.PD_CH_STATUS_LATCHED n) 1).wr (Fd.PD_CH_STATUS_CAUSE n) Code.HOLD_TRIP else s
    if c.held = 2 then (s.wr (Fd.PD_DIAG_STATUS_LAYBY n) 1).wr (Fd.PD_DIAG_STATUS_CAUSE n) 3 else s

/-- Kerbside powers up (R230, R235, R255): what KH held, and nothing else, survives. [Assumption 119: DEDUCED, unsafe.] -/
def State.kerbUp (s : State) (ambient pElec : Nat) : State :=
  let outs := (List.range 52).filter (fun n => s.out n)
  let since := s.kb.khSince
  let s := s.resetRegs 0x200B0000 0x200BFFF0
  let s := (s.wr Fd.PD_AMBIENT_TEMP ambient)
  let p : Int := ((pElec * 1000000000 : Nat) : Int)
  let s := { s with kb := { s.kb with
    up := true, feedA := Feed.reset, feedB := Feed.reset, pInst := p, pFilt := p, shedAt := none, ambAt := s.now, ambSwAt := none,
    khSince := none, sampleAt := s.now, wireAt := s.now, houseAt := s.now } }
  let s := forAll (List.range 52) (fun s n => s.wireStart since n) s
  let s := forAll (List.range 52) (fun s n =>
    if (s.chItem n).isSome then s.restoreHeld outs n else s.setChan n { Chan.reset with temp := (s.chan n).temp }) s
  s.showHousing.kbLevels


end Sys2Proof.Machine
end

