-- ==== Sys2Proof/Machine/CanOps.lean ====
section
/-! DEFINITION. The CAN FD channels' operations (R259 to R282): buffers, requests, priority, the time-triggered schedule, error state
and the gateway transmit queue. -/

namespace Sys2Proof.Machine

/-! ### Channels and buffers -/

def State.canAt (s : State) (k : Nat) : Can := tget (fun _ => Can.reset) s.can.ch k
def State.setCan (s : State) (k : Nat) (x : Can) : State :=
  { s with can := { s.can with ch := tset (fun _ => Can.reset) s.can.ch k x } }
def State.buf (s : State) (k b : Nat) : CanBuf := tget (fun _ => CanBuf.reset) (s.canAt k).bufs b
def State.setBuf (s : State) (k b : Nat) (x : CanBuf) : State :=
  s.setCan k { s.canAt k with bufs := tset (fun _ => CanBuf.reset) (s.canAt k).bufs b x }

/-- Word `w` of a buffer. -/
def CanBuf.word (x : CanBuf) (w : Nat) : Nat := (tget (fun _ => (0 : Word)) x.words w).toNat

/-- A table of words with word `w` set. -/
def setWord (t : Tbl Word) (w v : Nat) : Tbl Word := tset (fun _ => (0 : Word)) t w (BitVec.ofNat 32 v)

def State.medium (s : State) (m : Nat) : Medium := tget (fun _ => Medium.reset) s.nm.med m
def State.setMedium (s : State) (m : Nat) (x : Medium) : State :=
  { s with nm := { s.nm with med := tset (fun _ => Medium.reset) s.nm.med m x } }
def State.trx (s : State) (k : Nat) : Trx := tget (fun _ => Trx.reset) s.nm.trx k
def State.setTrx (s : State) (k : Nat) (x : Trx) : State :=
  { s with nm := { s.nm with trx := tset (fun _ => Trx.reset) s.nm.trx k x } }

/-- The controllers' heartbeats to the transceivers begin, one every 200 ms (R284). [Assumption 142: DEDUCED, unsafe.] -/
def State.beatsStart (s : State) : State := forAll (List.range 8) (fun s k => s.setTrx k { s.trx k with beatsAt := s.now }) s

/-- The heartbeats stop, as MAIN goes off or CANCLK stops: the last one was sent at most 200 ms ago. -/
def State.beatsStop (s : State) : State :=
  forAll (List.range 8) (fun s k =>
    let x := s.trx k
    s.setTrx k { x with beatAt := x.beatsAt + (s.now - x.beatsAt) / (200 * ms) * (200 * ms) }) s

/-- The transceiver of the channel is in NORMAL (Table 13-1). -/
def State.trxUp (s : State) (k : Nat) : Bool := s.rd (Fd.NM_TRX_CTRL_STATE k) == 0

/-- STATE of NM_MED_STATUS: 0 OFF, 1 RING, 2 LIMP, 3 WAIT_SLEEP, 4 BUS_SLEEP. -/
def State.medState (s : State) (m : Nat) : Nat := s.rd (Fd.NM_MED_STATUS_STATE m)

/-- The Curfew frame at the head of a medium is marked sent (1) or failed (2). -/
def State.medMark (s : State) (m st : Nat) : State :=
  let x := s.medium m
  match x.out with
  | f :: rest => if f.st = 0 then s.setMedium m { x with out := { f with st := st } :: rest } else s
  | [] => s

def State.canItem (s : State) (k : Nat) : Option Item := s.item 0x0C01 k
def State.canMode (s : State) (k : Nat) : Nat := s.rd (Fd.CAN_MODE_ACTUAL k)
def State.busOff (s : State) (k : Nat) : Bool := s.rd (Fd.CAN_STATUS_ESTATE k) == 2
def State.bufState (s : State) (k b : Nat) : Nat := s.rd (Fd.CAN_MB_STAT_STATE k b)
def State.bufEn (s : State) (k b : Nat) : Bool := s.flag (Fd.CAN_MB_CFG_EN k b)
def State.bufTx (s : State) (k b : Nat) : Bool := s.flag (Fd.CAN_MB_CFG_DIR k b)

/-- The CAN endpoint that holds buffer `b` of channel `k` (Table 07-1): BIND [2:0] channel, [14:8] first buffer, [23:16] count. -/
def State.bufHolder (s : State) (k b : Nat) : Option Nat :=
  (s.ep.eps.find? (fun p => p.2.live && p.2.ty == 1 && p.2.bind % 8 == k && decide (p.2.bind / 256 % 128 ≤ b)
    && decide (b < p.2.bind / 256 % 128 + p.2.bind / 65536 % 256))).map (·.1)
def State.bufHeld (s : State) (k b : Nat) : Bool := (s.bufHolder k b).isSome

/-- CAN_MB_CFG[k][b] as it reads, with HELD. -/
def State.mbCfgWord (s : State) (k b : Nat) : Nat :=
  putBits (s.reg (Rg.CAN_MB_CFG k b)).toNat 8 8 (if s.bufHeld k b then 1 else 0)

/-- CAN_MB_STAT[k][b] as it reads, with SHADOW and LOCKED. -/
def State.mbStatWord (s : State) (k b : Nat) : Nat :=
  let w := putBits (s.reg (Rg.CAN_MB_STAT k b)).toNat 8 8 (if (s.buf k b).shadow.isSome then 1 else 0)
  putBits w 6 6 (if ((s.canAt k).lock.map (·.1)) == some b then 1 else 0)

/-! ### Bit times (R260) -/

/-- The nominal and the data bit time of a channel, in half ns: 25 × BRP × (1 + TSEG1 + TSEG2). CAN_TIMING fields: CH, FD, NBRP,
NTSEG1, NTSEG2, NSJW, DBRP, DTSEG1, DTSEG2, DSJW. -/
def State.nomBit (s : State) (k : Nat) : Nat :=
  match s.canItem k with
  | some i => 25 * i.n 2 * (1 + i.n 3 + i.n 4)
  | none => 0
def State.dataBit (s : State) (k : Nat) : Nat :=
  match s.canItem k with
  | some i => 25 * i.n 6 * (1 + i.n 7 + i.n 8)
  | none => 0
/-- The sample point of the nominal phase, in half ns from the start of the bit. -/
def State.nomSample (s : State) (k : Nat) : Nat :=
  match s.canItem k with
  | some i => 25 * i.n 2 * (1 + i.n 3)
  | none => 0

/-- `n` nominal bits in ns. -/
def State.nomBits (s : State) (k n : Nat) : Nat := (n * s.nomBit k + 1) / 2

/-! ### Frames -/

/-- The bytes of a data length code (R264). -/
def dlcBytes (fdf : Bool) (dlc : Nat) : Nat :=
  if dlc ≤ 8 then dlc
  else if !fdf then 8
  else match dlc with
    | 9 => 12 | 10 => 16 | 11 => 20 | 12 => 24 | 13 => 32 | 14 => 48 | _ => 64

def hdrIde (w0 : Nat) : Bool := tbit w0 31
def hdrRtr (w0 : Nat) : Bool := tbit w0 30
def hdrFdf (w0 : Nat) : Bool := tbit w0 29
def hdrId (w0 : Nat) : Nat := w0 % 2 ^ 29
def hdrDlc (w1 : Nat) : Nat := w1 % 16
def hdrBrs (w1 : Nat) : Bool := tbit w1 6
def hdrEsi (w1 : Nat) : Bool := tbit w1 7

/-- The data length in words (R264). -/
def hdrWords (w0 w1 : Nat) : Nat := (dlcBytes (hdrFdf w0) (hdrDlc w1) + 3) / 4

/-- The consistency of a header that is to be sent (R277): RESERVED_BIT, OUT_OF_RANGE, or DONE. [Assumption 138: DEDUCED, unsafe.] -/
def State.headerCode (s : State) (k w0 w1 : Nat) : Nat :=
  let fd := itemN (s.canItem k) 1 == 1
  if w1 / 256 ≠ 0 ∨ w1 / 16 % 4 ≠ 0 then Code.RESERVED_BIT
  else if (hdrFdf w0 && !fd) || (hdrRtr w0 && hdrFdf w0) || (hdrBrs w1 && !hdrFdf w0) || hdrEsi w1 then Code.OUT_OF_RANGE
  else Code.DONE

/-- The priority of a frame in the arbitration field (R267), lower wins: base identifier; base data before base remote before
extended; extended identifier; data before remote; then the buffer number, the Curfew source and the gateway queue last (`order` 128 and 129). -/
def arbKey (w0 order : Nat) : Nat :=
  let id := hdrId w0
  let base := id / 2 ^ 18
  let kind := if hdrIde w0 then 2 else if hdrRtr w0 then 1 else 0
  let ext := if hdrIde w0 then id % 2 ^ 18 else 0
  ((((base * 4 + kind) * 2 ^ 18 + ext) * 2 + (if hdrRtr w0 then 1 else 0)) * 256) + order

/-- The words of a frame's data bytes from word `w` upwards. -/
def putData (t : Tbl Word) (w : Nat) (bs : List Byte) (n : Nat) : Tbl Word :=
  match n with
  | 0 => t
  | n + 1 => putData (setWord t w (leNat (bs.take 4))) (w + 1) (bs.drop 4) n

/-- A buffer's words after a frame is written to it: the header and the words of its data. [Assumption 132: PRESUMED, unsafe.] -/
def frameWords (t : Tbl Word) (w0 w1 : Nat) (data : List Byte) : Tbl Word :=
  putData (setWord (setWord t 0 w0) 1 w1) 2 data (hdrWords w0 w1)

/-- The number of bits of a frame up to its commit point, the RTR, RRS or extended RTR bit, that bit not counted (R270).
[Assumption 132: PRESUMED, unsafe.] -/
def arbBits (w0 : Nat) : Nat := if hdrIde w0 then 32 else 12

/-- The worst-case duration of a frame in half ns, with every possible stuff bit and 3 bits of intermission (R272), from the frame
formats of ISO 11898-1 (PRESUMED). [Assumption 132: PRESUMED, unsafe.] -/
def State.worstHalf (s : State) (k w0 w1 : Nat) : Nat :=
  let n := dlcBytes (hdrFdf w0) (hdrDlc w1)
  let bit := s.nomBit k
  if hdrFdf w0 then
    let dbit := if hdrBrs w1 then s.dataBit k else bit
    let nom := if hdrIde w0 then 36 else 17
    let dyn := 5 + 8 * n
    let crc := if n ≤ 16 then 4 + 17 + 6 else 4 + 21 + 7
    let nomStuff := (nom - 1) / 4
    let allStuff := (nom + dyn - 1) / 4
    (nom + nomStuff + 12) * bit + (dyn + (allStuff - nomStuff) + crc + 1) * dbit
  else
    let bytes := if hdrRtr w0 then 0 else n
    let total := (if hdrIde w0 then 64 else 44) + 8 * bytes
    let stuffed := (if hdrIde w0 then 54 else 34) + 8 * bytes
    (total + (stuffed - 1) / 4 + 3) * bit

/-! ### Levels of the channel's sources (Table 17-1: 77 + k, 85 + k, 93 + k) -/

def State.canNew (s : State) (k : Nat) : Bool :=
  (List.range 128).any (fun b => s.flag (Fd.CAN_MB_STAT_NEW k b) && !s.bufTx k b && !s.bufHeld k b)

def State.canLevels (s : State) (k : Nat) : State :=
  let s := s.level (77 + k) (s.canNew k)
  let s := s.level (85 + k) (s.rd (Fd.CAN_STATUS_ESTATE k) != 0)
  s.level (93 + k) ((s.rd (Fd.CAN_EVENT_SAT_SAT k) &&& s.rd (Fd.CAN_EVENT_SAT_IE k)) != 0)

/-- Event `c` of Table 12-5. -/
def State.canEvent (s : State) (k c : Nat) : State := s.count (Rg.CAN_EVENT k c) (Rg.CAN_EVENT_SAT k) c

/-- Event `c` counts `n` times. -/
def State.canEvents (s : State) (k c n : Nat) : State :=
  let v := (s.reg (Rg.CAN_EVENT k c)).toNat + n
  if n = 0 then s
  else if v < 0xFFFFFFFF then s.setReg (Rg.CAN_EVENT k c) (BitVec.ofNat 32 v)
  else (s.setReg (Rg.CAN_EVENT k c) (BitVec.ofNat 32 0xFFFFFFFF)).wr (bitOf (Rg.CAN_EVENT_SAT k) c) 1

/-! ### Receive buffers (R265, R266) -/

/-- A frame is written into an unlocked receive buffer. -/
def State.bufWrite (s : State) (k b : Nat) (words : Tbl Word) (time : Nat) : State :=
  let s := s.setBuf k b { s.buf k b with words := words, time := time }
  if s.flag (Fd.CAN_MB_STAT_NEW k b) then (s.wr (Fd.CAN_MB_STAT_OVR k b) 1).canEvent k 8
  else s.wr (Fd.CAN_MB_STAT_NEW k b) 1

/-- A frame is consumed: NEW and OVR clear. [Assumption 137: DEDUCED, unsafe.] -/
def State.consume (s : State) (k b : Nat) : State :=
  (s.wr (Fd.CAN_MB_STAT_NEW k b) 0).wr (Fd.CAN_MB_STAT_OVR k b) 0

/-- A validated frame reaches a receive buffer (R266). [Assumption 137: DEDUCED, unsafe.] -/
def State.bufReceive (s : State) (k b w0 w1 : Nat) (data : List Byte) (time : Nat) : State :=
  let x := s.buf k b
  let words := frameWords x.words w0 w1 data
  if (s.canAt k).lock.map (·.1) = some b then
    let twice := x.shadow.isSome
    let s := s.setBuf k b { x with shadow := some (words, time) }
    if twice then (s.wr (Fd.CAN_MB_STAT_OVR k b) 1).canEvent k 8 else s
  else s.bufWrite k b words time

/-- The oldest-fetched command of opcode `op` that waits on buffer `b` of channel `k`. -/
def State.canWaits (s : State) (k b op : Nat) : Option Cmd :=
  s.ep.inflight.find? (fun c => c.op == op && c.note == b && (c.phase == .waiting || c.phase == .committed)
    && (s.epAt c.ep).ty == 1 && (s.epAt c.ep).bind % 8 == k)

/-- The 72 bytes of a buffer's words (Table 12-2). -/
def CanBuf.image (x : CanBuf) : List Byte := (List.range 18).foldl (fun bs w => bs ++ leBytes 4 (x.word w)) []

/-- A waiting RX takes the frame of its buffer (R279): the words, the time stamp at ADDR + 72, and the consumption. -/
def State.canRxComplete (s : State) (k b : Nat) : State :=
  match s.canWaits k b 3 with
  | none => s
  | some c =>
    if s.flag (Fd.CAN_MB_STAT_NEW k b) then
      let x := s.buf k b
      let ovr := s.rd (Fd.CAN_MB_STAT_OVR k b)
      let s := s.store (c.f 0x18 8) (x.image ++ leBytes 8 x.time)
      (s.consume k b).complete c Code.DONE ovr s.vt
    else s

/-- The lock held through the window ends (R266); the shadow, if full, goes into the buffer. -/
def State.endLock (s : State) (k : Nat) (consumed : Bool) : State :=
  match (s.canAt k).lock with
  | none => s
  | some (b, _) =>
    let s := s.setCan k { s.canAt k with lock := none }
    let s := if consumed then s.consume k b else s
    let x := s.buf k b
    match x.shadow with
    | none => s
    | some (words, time) =>
      let s := s.setBuf k b { x with words := words, time := time, shadow := none }
      let s := s.wr (Fd.CAN_MB_STAT_NEW k b) 1
      if consumed then s else (s.wr (Fd.CAN_MB_STAT_OVR k b) 1).canEvent k 8

/-! ### Transmit requests (R268, R270) -/

/-- DETAIL of a TX record: retransmissions used, TOO_LATE, BUSOFF_SEEN (R279). [Assumption 136: DEDUCED, unsafe.] -/
def State.txDetail (s : State) (k b : Nat) : Nat :=
  s.rd (Fd.CAN_MB_STAT_RETRIES k b) + 16 * s.rd (Fd.CAN_MB_STAT_TOO_LATE k b) + 32 * s.rd (Fd.CAN_MB_STAT_BUSOFF_SEEN k b)

/-- A request makes a buffer PENDING. [Assumption 136: DEDUCED, unsafe.] -/
def State.txRequest (s : State) (k b : Nat) : State :=
  let s := s.setBuf k b { s.buf k b with cancelHeld := false, lateAbort := false, pendAt := s.now }
  let s := s.wr (Fd.CAN_MB_STAT_RETRIES k b) 0
  let s := (s.wr (Fd.CAN_MB_STAT_TOO_LATE k b) 0).wr (Fd.CAN_MB_STAT_BUSOFF_SEEN k b) 0
  s.wr (Fd.CAN_MB_STAT_STATE k b) 1

/-- An undecided abort of an endpoint is decided. -/
def State.abortDecided (s : State) (e tag code : Nat) : State :=
  let x := s.epAt e
  if x.abortCode = Code.BUSY ∧ x.abortTag = tag then s.setEp e { x with abortCode := code } else s

/-- A request ends: the buffer is IDLE and CODE holds the outcome; the command that made it completes. -/
def State.txEnd (s : State) (k b code time : Nat) : State :=
  let held := (s.buf k b).cancelHeld
  let s := s.setBuf k b { s.buf k b with cancelHeld := false, lateAbort := false, catchUp := false }
  let s := (s.wr (Fd.CAN_MB_STAT_STATE k b) 0).wr (Fd.CAN_MB_STAT_CODE k b) code
  match s.canWaits k b 2 with
  | none => s
  | some c =>
    let c := { c with abortSeen := c.abortSeen || held }
    let s := if held then s.abortDecided c.ep c.tag (if code = Code.CANCELLED then Code.CANCELLED else Code.ALREADY_DONE) else s
    s.complete c code (s.txDetail k b) time

/-- The attempt of the channel is one of buffer `b`. -/
def State.attempts (s : State) (k b : Nat) : Bool :=
  match (s.canAt k).attempt with
  | some a => a.src == some b
  | none => false
def State.committedTry (s : State) (k : Nat) : Bool :=
  match (s.canAt k).attempt with
  | some a => a.commit.isSome
  | none => false

/-- The attempt of the channel has sent its start of frame. -/
def State.tryStarted (s : State) (k : Nat) : Bool :=
  match (s.canAt k).attempt with
  | some a => decide (a.start ≤ s.now)
  | none => false

/-- An abort reaches buffer `b` of channel `k` (R270): at once before a start of frame, held in the arbitration field, late after the
commit point. On an IDLE buffer it has no effect. -/
def State.txAbort (s : State) (k b : Nat) : State :=
  if s.bufState k b = 0 then s
  else if s.attempts k b && s.tryStarted k then
    if s.committedTry k then s.setBuf k b { s.buf k b with lateAbort := true }
    else s.setBuf k b { s.buf k b with cancelHeld := true }
  else
    let s := if s.attempts k b then s.setCan k { s.canAt k with attempt := none } else s
    s.txEnd k b Code.CANCELLED s.vt

/-! ### Error state (R269) -/

/-- ESTATE follows TEC and REC; a TEC above 255 is bus-off. -/
def State.canErrState (s : State) (k : Nat) : State :=
  let tec := s.rd (Fd.CAN_STATUS_TEC k)
  let s :=
    if s.busOff k then s
    else if 255 < tec then
      let s := (s.wr (Fd.CAN_STATUS_ESTATE k) 2).wr (Fd.CAN_STATUS_RECOV k) 0
      let s := (s.setCan k { s.canAt k with attempt := none, rx := false, busOffAt := s.now }).canEvent k 7
      let s := s.medMark k 2
      forAll (List.range 128) (fun s b =>
        if s.bufTx k b && s.bufState k b != 0 then
          (s.wr (Fd.CAN_MB_STAT_STATE k b) 1).wr (Fd.CAN_MB_STAT_BUSOFF_SEEN k b) 1
        else s) s
    else s.wr (Fd.CAN_STATUS_ESTATE k) (if 127 < tec ∨ 127 < s.rd (Fd.CAN_STATUS_REC k) then 1 else 0)
  s.canLevels k

/-- The transmit and receive error counters as ISO 11898-1 counts them (PRESUMED): TEC stops at 256, REC at 255.
[Assumption 131: PRESUMED, unsafe.] -/
def State.tecUp (s : State) (k : Nat) : State := s.wr (Fd.CAN_STATUS_TEC k) (min 256 (s.rd (Fd.CAN_STATUS_TEC k) + 8))
/-- [Assumption 131: PRESUMED, unsafe.] -/
def State.tecDown (s : State) (k : Nat) : State := s.wr (Fd.CAN_STATUS_TEC k) (s.rd (Fd.CAN_STATUS_TEC k) - 1)
/-- [Assumption 131: PRESUMED, unsafe.] -/
def State.recUp (s : State) (k n : Nat) : State := s.wr (Fd.CAN_STATUS_REC k) (min 255 (s.rd (Fd.CAN_STATUS_REC k) + n))

/-- REC after a frame received without error: one less from 1 to 127; above 127 a value from 119 to 127 that is left open.
[Assumption 131: PRESUMED, unsafe.] -/
def State.recDown (s : State) (k : Nat) : State :=
  let r := s.rd (Fd.CAN_STATUS_REC k)
  if 127 < r then (s.wr (Fd.CAN_STATUS_REC k) (119 + s.freeNat % 9)).draw else s.wr (Fd.CAN_STATUS_REC k) (r - 1)

/-- The event counter of LAST_ERR value `e`: stuff, form, acknowledgement, bit 1, bit 0, CRC. [Assumption 131: PRESUMED, unsafe.] -/
def errEvent (e : Nat) : Nat :=
  match e with
  | 1 => 2 | 2 => 3 | 3 => 4 | 4 => 5 | 5 => 5 | _ => 6

/-! ### The time-triggered schedule (R271 to R275). TT_WINDOW fields: CH, CYCLE, WINDOW, KIND, BUFFER, FLAGS, START, LENGTH -/

def State.windows (s : State) (k : Nat) : List Item := (s.items 0x0C02).filter (fun i => i.n 0 == k)
def State.ttOn (s : State) (k : Nat) : Bool := s.flag (Fd.CAN_TT_CFG_EN k)
def State.ttRef (s : State) (k : Nat) : Bool := s.flag (Fd.CAN_TT_CFG_REF k)
def State.ttCycles (s : State) (k : Nat) : Nat := s.rd (Fd.CAN_TT_CFG_CYCLES k) + 1
def State.ttCycleNs (s : State) (k : Nat) : Nat := 1000 * s.rd (Fd.CAN_TT_CFG_CYCLE_US k)
/-- [Assumption 139: DEDUCED, unsafe.] -/
def State.ttSync (s : State) (k : Nat) : Bool := s.flag (Fd.CAN_TT_STATUS_SYNC k)

/-- The schedule places frames: it is enabled and in step. -/
def State.ttRuns (s : State) (k : Nat) : Bool := s.ttOn k && s.ttSync k

/-- The matrix cycle and the offset in it at local time `t` (R271, R275). -/
def State.ttPlace (s : State) (k t : Nat) : Nat × Nat :=
  let cyc := s.ttCycleNs k
  if s.ttRef k then ((s.canAt k).cycle, t - (s.canAt k).cycleAt)
  else
    let v := s.vt + (t - s.now)
    (v / cyc % s.ttCycles k, v % cyc)

/-- The item's next start, as a distance from a place in the matrix; 0 at its start. -/
def ttDistance (cyc n cycle off : Nat) (i : Item) : Nat :=
  let at_ := ((i.n 1 + n - cycle % n) % n) * cyc + i.n 6
  if off ≤ at_ then at_ - off else at_ + n * cyc - off

/-- The item that covers a place. -/
def State.ttCovers (s : State) (k cycle off : Nat) : Option Item :=
  (s.windows k).find? (fun i => i.n 1 == cycle && decide (i.n 6 ≤ off) && decide (off < i.n 6 + i.n 7))

/-- A buffer is named by an exclusive window. -/
def State.ttNamed (s : State) (k b : Nat) : Bool := (s.windows k).any (fun i => i.n 3 == 0 && i.n 4 == b)

/-- A frame of worst-case duration `d` (half ns) that would start at local time `t` ends by the limit of R272. `b` is its buffer, none
for the gateway queue. -/
def State.ttAllows (s : State) (k t d : Nat) (b : Option Nat) : Bool :=
  if !s.ttOn k then true
  else
    let outside := match b with
      | some b => !s.ttNamed k b || (s.buf k b).catchUp
      | none => true
    if !s.ttSync k then outside
    else
      let (cycle, off) := s.ttPlace k t
      let free := outside &&
        ((s.windows k).filter (fun i => i.n 3 != 1 && decide (i.n 1 < s.ttCycles k))).all (fun i =>
          decide (d < 2 * ttDistance (s.ttCycleNs k) (s.ttCycles k) cycle off i))
      match s.ttCovers k cycle off with
      | some i =>
        match i.n 3 with
        | 0 => b == some (i.n 4) && decide (2 * off + d ≤ 2 * (i.n 6 + i.n 7))
        | 1 => free
        | _ => false
      | none => free

/-- The first TT_WINDOW item that breaks a condition of R271, with the values of a word written to CAN_TT_CFG.
[Assumption 132: PRESUMED, unsafe.] -/
def State.ttMisfit (s : State) (k w : Nat) : Option Item :=
  (s.windows k).find? (fun i => decide (w / 2 ^ 20 % 16 + 1 ≤ i.n 1) || decide (w % 2 ^ 20 * 1000 < i.n 6 + i.n 7)
    || (i.n 3 == 0 && !(s.bufEn k (i.n 4) && s.bufTx k (i.n 4))))

/-- The exclusive window that runs ends (R273): missed when its buffer was PENDING at its start and nothing succeeded in it. -/
def State.ttClose (s : State) (k : Nat) : State :=
  match (s.canAt k).win with
  | none => s
  | some w =>
    let s := s.setCan k { s.canAt k with win := none }
    if w.pend && !w.ok then ((s.setBuf k w.buf { s.buf k w.buf with catchUp := w.catchUp }).canEvent k 10).canLevels k else s

/-- A REPEAT buffer makes itself PENDING at the start of its window, with a header that R277 lets it send. -/
def State.ttRepeats (s : State) (k b : Nat) : Bool :=
  s.flag (Fd.CAN_MB_CFG_REPEAT k b) && s.bufEn k b && s.bufTx k b && s.bufState k b == 0 &&
  s.headerCode k ((s.buf k b).word 0) ((s.buf k b).word 1) == Code.DONE

/-- A window runs from the present moment on, for `left` ns (R272, R273); the leave to catch up ends with it. -/
def State.ttOpen (s : State) (k : Nat) (i : Item) (left : Nat) : State :=
  let s := s.ttClose k
  let s := (s.wr (Fd.CAN_TT_STATUS_CYCLE k) (i.n 1)).wr (Fd.CAN_TT_STATUS_WINDOW k) (i.n 2)
  if i.n 3 = 0 then
    let b := i.n 4
    let s := s.setBuf k b { s.buf k b with catchUp := false }
    let s := if s.ttRepeats k b then s.txRequest k b else s
    s.setCan k { s.canAt k with win := some ⟨i.n 1, i.n 2, b, s.now + left, tbit (i.n 5) 0, s.bufState k b != 0, false⟩ }
  else s

/-- The number of basic cycles `j` with `lo ≤ c * j` and `c * j ≤ hi`. -/
def stepsIn (c lo hi : Nat) : Nat := if c = 0 then 0 else hi / c + 1 - (lo + c - 1) / c

/-- The item is the exclusive window that runs. -/
def State.ttRunning (s : State) (k : Nat) (i : Item) : Bool :=
  match (s.canAt k).win with
  | some w => w.cycle == i.n 1 && w.window == i.n 2
  | none => false

/-- The exclusive windows that a step of vehicle time from `old` to `new` passes over from start to end, and whose buffer is PENDING, are
missed (R274). -/
def State.ttPassed (s : State) (k old new : Nat) : State :=
  let cyc := s.ttCycleNs k
  let p := cyc * s.ttCycles k
  forAll ((s.windows k).filter (fun i => i.n 3 == 0 && s.bufState k (i.n 4) != 0)) (fun s i =>
    let base := i.n 1 * cyc + i.n 6
    if base + i.n 7 ≤ new then
      let n := stepsIn p ((if s.ttRunning k i then old + 1 else old) - base) (new - i.n 7 - base)
      let s := if 0 < n then s.setBuf k (i.n 4) { s.buf k (i.n 4) with catchUp := tbit (i.n 5) 0 } else s
      s.canEvents k 10 n
    else s) s

/-- The exclusive window that runs, after a step: it goes on where the new time still lies in it; a forward step out of it misses it. -/
def State.ttStepWin (s : State) (k old new : Nat) : State :=
  match (s.canAt k).win with
  | none => s
  | some w =>
    let fin := old + (w.fin - s.now)
    if old ≤ new ∧ new < fin then s.setCan k { s.canAt k with win := some { w with fin := s.now + (fin - new) } }
    else if old < new then s.ttClose k
    else s.setCan k { s.canAt k with win := none }

/-- The schedule goes on from the window and offset of the present time. [Assumption 139: DEDUCED, unsafe.] -/
def State.ttResume (s : State) (k : Nat) : State :=
  let (cycle, off) := s.ttPlace k s.now
  let s := s.wr (Fd.CAN_TT_STATUS_CYCLE k) cycle
  match s.ttCovers k cycle off with
  | some i => if s.ttRunning k i then s else s.ttOpen k i (i.n 6 + i.n 7 - off)
  | none => s

/-- A step of vehicle time from `old` to `new` (R274), which under REF 1 the schedule does not follow.
[Assumption 139: DEDUCED, unsafe.] -/
def State.canStep (s : State) (k old new : Nat) : State :=
  if !s.ttOn k || s.ttRef k || new == old then s
  else
    let s := if old < new then s.ttPassed k old new else s
    ((s.ttStepWin k old new).ttResume k).canLevels k

/-! ### Attempts (R267 to R270) -/

/-- The channel takes part in transmission: NORMAL and not bus-off, with its transceiver in NORMAL (R285). -/
def State.canSends (s : State) (k : Nat) : Bool := s.canMode k == 1 && !s.busOff k && s.trxUp k

/-- The Curfew frame that waits on channel `k` (R291), a source of the channel that the model numbers 128.
[Assumption 140: DESIGN CHOICE, unsafe.] -/
def State.curfewOut (s : State) (k : Nat) : Option MedFrame :=
  match (s.medium k).out with
  | f :: _ => if f.st = 0 then some f else none
  | [] => none

/-- Words 0 and 1 of the Curfew frames of channel `k` (R289): a classic base data frame with DLC 8. -/
def State.curfewW0 (s : State) (k : Nat) : Nat := (s.rd (Fd.NM_TRX_CTRL_ID_BASE k) * 64 + s.rd (Fd.NM_MED_STATUS_NODE k)) * 2 ^ 18

/-- A frame that competes: its source, its priority, and since when it has been PENDING. -/
abbrev Offer := Option Nat × Nat × Nat

/-- The frames a channel may offer for a start at local time `t`. [Assumption 140: DESIGN CHOICE, unsafe.] -/
def State.candidates (s : State) (k t : Nat) : List Offer :=
  let ring : List Offer := match s.curfewOut k with
    | some f => if s.ttAllows k t (s.worstHalf k (s.curfewW0 k) 8) none then [(some 128, arbKey (s.curfewW0 k) 128, f.at_)] else []
    | none => []
  if 3 ≤ s.medState k then ring else
  let bufs := (List.range 128).filter (fun b => s.bufTx k b && s.bufState k b == 1)
  let fits := bufs.filter (fun b => s.ttAllows k t (s.worstHalf k ((s.buf k b).word 0) ((s.buf k b).word 1)) (some b))
  let own : List Offer := fits.map (fun b => (some b, arbKey ((s.buf k b).word 0) b, (s.buf k b).pendAt))
  match (s.canAt k).gwy with
  | [] => own ++ ring
  | m :: _ => if s.ttAllows k t (s.worstHalf k m.w0 m.w1) none then own ++ ring ++ [(none, arbKey m.w0 129, m.at_)] else own ++ ring

/-- The candidates of the choice (R267): those PENDING at the last choice; with none, on the idle bus, the first that became PENDING,
and what was PENDING with it. The schedule's own windows decide when its frames may go, whenever they were requested.
[Assumption 133: DESIGN CHOICE, unsafe.] -/
def State.chosen (s : State) (k : Nat) (l : List Offer) : List Offer :=
  let x := s.canAt k
  let early := l.filter (fun o => decide (o.2.2 ≤ x.chooseAt))
  if s.ttOn k then l
  else if early.isEmpty then l.filter (fun o => l.all (fun p => decide (o.2.2 ≤ max x.freeAt p.2.2)))
  else early

/-- The first of the frames with the least key. -/
def best (l : List Offer) : Option (Option Nat) :=
  match l with
  | [] => none
  | o :: rest => if rest.all (fun p => decide (o.2.1 ≤ p.2.1)) then some o.1 else best rest

/-- Word 0 of the frame of an attempt. -/
def State.tryHeader (s : State) (k : Nat) (a : CanTry) : Nat :=
  match a.src with
  | some b => if b = 128 then s.curfewW0 k else (s.buf k b).word 0
  | none => match (s.canAt k).gwy with | m :: _ => m.w0 | [] => 0

/-- The gateway queue holds these messages; OCC follows. -/
def State.setGwy (s : State) (k : Nat) (l : List GwyMsg) : State :=
  (s.setCan k { s.canAt k with gwy := l, gwyUsed := 0 }).wr (Fd.CAN_GWY_Q_OCC k) l.length

/-- A message for the gateway queue (R276, R277). -/
def State.gwyPush (s : State) (k : Nat) (m : GwyMsg) : State :=
  let x := s.canAt k
  if x.gwy.length < 32 ∧ s.canMode k ≠ 0 ∧ s.headerCode k m.w0 m.w1 = Code.DONE then
    (s.setCan k { x with gwy := x.gwy ++ [m] }).wr (Fd.CAN_GWY_Q_OCC k) (x.gwy.length + 1)
  else (s.canEvent k 13).canLevels k

/-- Intermission ends after `n` nominal bits, with the choice of R267 in its second bit; the bus is idle for the channel then, or 8 bits
later when it has sent as an error-passive node (R269). -/
def State.canFreeIn (s : State) (k n : Nat) (sent : Bool) : State :=
  let idle := if sent && s.rd (Fd.CAN_STATUS_ESTATE k) == 1 then n + 8 else n
  s.setCan k { s.canAt k with
    freeAt := s.now + s.nomBits k idle, chooseAt := s.now + s.nomBits k n - (2 * s.nomBit k - s.nomSample k) / 2, rx := false }

/-- The channel may send again: it chooses among all that is PENDING then. -/
def State.canReady (s : State) (k : Nat) : State :=
  s.setCan k { s.canAt k with chooseAt := max s.now (s.canAt k).freeAt }

/-- The bus is idle for the channel (CAN_STATUS.IDLE). -/
def State.canIdle (s : State) (k : Nat) : Bool :=
  let x := s.canAt k
  s.canMode k != 0 && s.trxUp k && !s.busOff k && x.attempt.isNone && !x.rx && decide (x.freeAt ≤ s.now)

/-- CAN_STATUS[k] as it reads: IDLE, and RECOV counting the 11 recessive bits of a quiet bus in bus-off.
[Assumption 134: DEDUCED, unsafe.] -/
def State.canStatusWord (s : State) (k : Nat) : Nat :=
  let w := putBits (s.reg (Rg.CAN_STATUS k)).toNat 2 2 (if s.canIdle k then 1 else 0)
  if s.busOff k && s.nomBit k != 0 then
    putBits w 14 7 (min 128 (((if s.trxUp k then s.now else (s.trx k).sleepAt) - (s.canAt k).busOffAt) / s.nomBits k 11))
  else w

end Sys2Proof.Machine
end

