-- ==== Sys2Proof/Machine/PowerFaults.lean ====
section
/-! DEFINITION. The commands of chapter 11: diagnostics, feed faults, and Lay-by by PD_LAYBY_CTRL. -/

namespace Sys2Proof.Machine

/-! ### Reports (R241 to R245) -/

/-- The open-load threshold in 0.5 mA (Table 11-2). -/
def olThreshold (n : Nat) : Nat := if n < 8 then 400 else if n < 32 then 160 else if n < 48 then 40 else 160

/-- A report sets or clears, with its onset (R251). -/
def State.report (s : State) (n : Nat) (f : Fld) (b : Bool) (code sticky : Nat) : State :=
  if s.flag f = b then s
  else if b then (s.setFlag f true).diagEvent n code (some sticky)
  else s.setFlag f false

def execOpenLoadOnWindow (n : Fin 52) (s : State) : Host.Outcome State Fault Refusal :=
  .next (if s.kb.up && s.chLead n == n.val && (s.chItem n).isSome && s.flag (Fd.PD_DIAG_CFG_OL_ON_EN n) then
      let c := s.chan n
      let s := s.setChan n { c with olSum := 0, olN := 0 }
      if c.olN = 0 then s
      else if c.olSum < ((olThreshold n * c.olN : Nat) : Int) then s.report n (Fd.PD_DIAG_STATUS_OL_ON n) true Code.OPEN_LOAD_ON 16
      else if ((2 * olThreshold n * c.olN : Nat) : Int) ≤ c.olSum then s.report n (Fd.PD_DIAG_STATUS_OL_ON n) false Code.OPEN_LOAD_ON 16
      else s
    else s)

/-- Two results in a row set or clear a report (Table 11-1). [Assumption 125: DEDUCED, unsafe.] -/
def State.testResult (s : State) (n : Nat) (fail : Bool) (f : Fld) (code sticky fails passes : Nat) : State :=
  if fail ∧ 2 ≤ fails then s.report n f true code sticky
  else if !fail ∧ 2 ≤ passes then s.report n f false code sticky
  else s

/-- The off-state test of one channel with its samples in mV (R244): phase 1 on both outputs of a bridge, phase 2 on output A; a test
that a switch-on abandoned finds the output on and gives no result (R245). -/
def State.offTest (s : State) (n p1a p1b p2 : Nat) : State :=
  let c := s.chan n
  let stb := decide (8000 < p1a) || (isBridge n && decide (8000 < p1b))
  let s :=
    if s.flag (Fd.PD_DIAG_CFG_STB_EN n) then
      let fails := if stb then c.stbFail + 1 else 0
      let passes := if stb then 0 else c.stbPass + 1
      let s := s.setChan n { c with stbFail := min 2 fails, stbPass := min 2 passes }
      s.testResult n stb (Fd.PD_DIAG_STATUS_STB n) Code.SHORT_TO_BAT 18 fails passes
    else s
  if s.flag (Fd.PD_DIAG_CFG_OL_OFF_EN n) && !stb then
    let ol := decide (3500 < p2)
    let fails := if ol then c.olFail + 1 else 0
    let passes := if ol then 0 else c.olPass + 1
    let s := s.setChan n { s.chan n with olFail := min 2 fails, olPass := min 2 passes }
    s.testResult n ol (Fd.PD_DIAG_STATUS_OL_OFF n) Code.OPEN_LOAD_OFF 17 fails passes
  else s

def execOffStateTest (n : Fin 52) (p1a p1b p2 : BitVec 16) (s : State) : Host.Outcome State Fault Refusal :=
  .next (if s.kb.up && s.chLead n == n.val && (s.chItem n).isSome && !s.out n && !s.suspended (s.chFeed n)
      && (s.flag (Fd.PD_DIAG_CFG_STB_EN n) || s.flag (Fd.PD_DIAG_CFG_OL_OFF_EN n)) then
      (s.reach ((s.chan n).since + 11 * ms)).offTest n p1a.toNat p1b.toNat p2.toNat
    else s)

/-! ### Reverse current and over-temperature (R242, R246) -/

def execReverseCurrent (n : Fin 52) (s : State) : Host.Outcome State Fault Refusal :=
  let l := s.faultLead n
  .next (if s.kb.up && !isBridge n && (s.chItem n).isSome && s.out l then
      (s.wr (Fd.PD_DIAG_STATUS_REV l) 1).diagFault l Code.REVERSE_CURRENT 19
    else s)

def execOverTemp (n : Fin 52) (s : State) : Host.Outcome State Fault Refusal :=
  let l := s.faultLead n
  .next (if s.kb.up && (s.chItem n).isSome then
      ((s.setChan n { s.chan n with hot := true }).wr (Fd.PD_DIAG_STATUS_HOT l) 1).diagFault l Code.OVER_TEMP 20
    else s)

def execJunctionCooled (n : Fin 52) (s : State) : Host.Outcome State Fault Refusal :=
  let l := s.faultLead n
  .next (if s.kb.up && (s.chan n).hot then
      let s := s.setChan n { s.chan n with hot := false }
      s.setFlag (Fd.PD_DIAG_STATUS_HOT l) ((s.members l).any (fun m => (s.chan m).hot))
    else s)

/-! ### Feed faults (R247, R248) -/

/-- The code of a feed state 1 to 3 (Table 11-3). -/
def feedCode (k : Nat) : Nat := if k = 1 then Code.FEED_UV else if k = 2 then Code.FEED_OV else Code.FEED_REVERSE

/-- The channels on a feed. -/
def State.onFeed (s : State) (f : Nat) : List Nat :=
  (List.range 52).filter (fun n => (s.chItem n).isSome && s.chFeed n == f)

def feedFaultState (k : FeedFault) : Nat :=
  match k with
  | .underVoltage => 1
  | .overVoltage => 2
  | .reversed => 3

def execFeedFault (feed : Fin 2) (kind : FeedFault) (s : State) : Host.Outcome State Fault Refusal :=
  .next (if s.kb.up && s.rd (feedStateFld feed) != (feedFaultState kind) && !(kind == .underVoltage && s.rd (feedStateFld feed) == 3) then
      let f := feed.val
      let s := s.wr (feedStateFld f) (feedFaultState kind)
      let s := s.wr (bitOf Rg.PD_FEED_STATUS (16 + 3 * f + (feedFaultState kind) - 1)) 1
      let s := s.setFeed f { s.feed f with turns := [] }
      let s := forAll (s.onFeed f) (fun s n => (if s.chLead n == n then s.cutOff n else s).wr (Fd.PD_DIAG_STATUS_SUSPENDED n) 1) s
      forAll (s.onFeed f) (fun s n => s.diagEvent n (feedCode (feedFaultState kind)) (some 21)) s
    else s)

def execFeedReturn (feed : Fin 2) (s : State) : Host.Outcome State Fault Refusal :=
  .next (if s.kb.up && s.suspended feed then
      let f := feed.val
      let s := s.wr (feedStateFld f) 0
      let s := forAll (s.onFeed f) (fun s n => s.wr (Fd.PD_DIAG_STATUS_SUSPENDED n) 0) s
      let turns := s.leads.filter (fun n => s.chFeed n == f && s.cmdOn n && !s.latched n && !s.cooling n)
      s.setFeed f { s.feed f with turns := turns, turnAt := s.now }
    else s)

def execFeedReturnSwitchOn (feed : Fin 2) (s : State) : Host.Outcome State Fault Refusal :=
  .next (match (s.feed feed).turns with
    | [] => s
    | n :: rest =>
      let s := s.reach (s.feed feed).turnAt
      let s := s.setFeed feed { s.feed feed with turns := rest, turnAt := s.now + 100 * us }
      if s.kb.up && s.cmdOn n && !s.out n && !s.latched n && !s.cooling n then
        let c := s.chan n
        s.drive n c.duty c.hz c.mode
      else s)

end Sys2Proof.Machine
end

