-- ==== Sys2Proof/Machine/Pins.lean ====
section
/-! DEFINITION. Signal pins: inputs, outputs and PIN endpoints (R303 to R310, R316). -/

namespace Sys2Proof.Machine

def State.pinAt (s : State) (n : Nat) : Pin := tget (fun _ => Pin.reset) s.pn.pin n
def State.setPin (s : State) (n : Nat) (p : Pin) : State :=
  { s with pn := { s.pn with pin := tset (fun _ => Pin.reset) s.pn.pin n p } }

/-- FUNCTION and PARAM of a pin (Table 14-1); OFF where no PIN item names it. -/
def State.pinFunc (s : State) (n : Nat) : Nat := itemN (s.item 0x0501 n) 1
def State.pinParam (s : State) (n : Nat) : Nat := itemN (s.item 0x0501 n) 2

/-- The PIN endpoint that holds pin `n`, and the one that holds LIN master `l` (Table 07-1). -/
def State.pinHolder (s : State) (n : Nat) : Option Nat :=
  (s.ep.eps.find? (fun p => p.2.live && p.2.ty == 3 && !tbit p.2.bind 8 && p.2.bind % 64 == n)).map (·.1)
def State.linHolder (s : State) (l : Nat) : Option Nat :=
  (s.ep.eps.find? (fun p => p.2.live && p.2.ty == 3 && tbit p.2.bind 8 && p.2.bind % 4 == l)).map (·.1)

/-- The output is driven: OUT, but for the off parts of a PWM period. -/
def State.pinDriven (s : State) (n : Nat) : Bool := s.flag (Fd.PIN_STATUS_OUT n)

/-- A driven PWM_OUT pin runs its periods: a duty of 1 to 999 (R308). -/
def State.pinRuns (s : State) (n : Nat) : Bool :=
  let v := s.rd (Fd.PIN_STATUS_VALUE n)
  s.pinFunc n == 5 && s.pinDriven n && decide (0 < v) && decide (v < 1000)

/-- The output conducts now: with a duty of 1 to 999, for duty/1,000 of each period (R308). -/
def State.pinConducts (s : State) (n : Nat) : Bool :=
  s.pinDriven n &&
    (!s.pinRuns n || pwmPhaseOn (s.now - (s.pinAt n).pwmStart) (s.pinParam n) (s.rd (Fd.PIN_STATUS_VALUE n)))

/-- Since when an output that does not conduct has been off (R309). -/
def State.pinOffSince (s : State) (n : Nat) : Nat :=
  let f := s.pinParam n
  if s.pinRuns n && decide (0 < f) then
    let k := (s.now - (s.pinAt n).pwmStart) * f / sec
    (s.pinAt n).pwmStart + ((k * 1000 + s.rd (Fd.PIN_STATUS_VALUE n)) * sec + 1000 * f - 1) / (1000 * f)
  else (s.pinAt n).since

/-- PIN_STATUS[n] as it reads, with BOUND, and OUT as the output conducts. -/
def State.pinStatusWord (s : State) (n : Nat) : Nat :=
  let w := putBits (s.reg (Rg.PIN_STATUS n)).toNat 1 1 (if (s.pinHolder n).isSome then 1 else 0)
  putBits w 0 0 (if s.pinConducts n then 1 else 0)

/-- The pin fault source (Table 17-1: 104). [Assumption 54: DEDUCED, unsafe.] -/
def State.pinLevel (s : State) : State :=
  s.level 104 ((List.range 64).any (fun n => s.rd (Fd.PIN_STATUS_STICKY n) != 0 && (s.pinHolder n).isNone))

/-- A change of VALUE or of the reported fault completes the WAIT_CHANGEs in flight of the endpoint that holds the pin (R316). -/
def State.pinChange (s : State) (n code : Nat) : State :=
  match s.pinHolder n with
  | none => s
  | some e => forAll ((s.inflight e).filter (fun c => c.op == 3 && c.phase == .waiting)) (fun s c => s.finish c code) s

def State.setValue (s : State) (n v : Nat) : State :=
  if s.rd (Fd.PIN_STATUS_VALUE n) = v then s else (s.wr (Fd.PIN_STATUS_VALUE n) v).pinChange n Code.DONE

/-- The code of a fault class 1 OPEN, 2 SHORT_GND, 3 SHORT_BAT. -/
def pinCode (d : Nat) : Nat := if d = 1 then Code.PIN_OPEN else if d = 2 then Code.PIN_SHORT_GND else Code.PIN_SHORT_BAT

/-- The reported fault becomes `d`; its onset is kept in STICKY. -/
def State.setDiag (s : State) (n d : Nat) : State :=
  if s.rd (Fd.PIN_STATUS_DIAG n) = d then s
  else if d = 0 then (s.wr (Fd.PIN_STATUS_DIAG n) 0).pinChange n Code.DONE
  else
    let s := (s.wr (Fd.PIN_STATUS_DIAG n) d).wr (bitOf (Rg.PIN_STATUS n) (7 + d)) 1
    (s.pinChange n (pinCode d)).pinLevel

/-! ### Inputs (R304, R306, R307) -/

/-- The class of a voltage in mV (Table 14-2); between two bands, the class of the sample before. -/
def bandOf (mv old : Nat) : Nat :=
  if mv < 500 then 2
  else if mv ≤ 2000 then 1
  else if 3000 ≤ mv ∧ mv ≤ 7000 then 0
  else if 10000 ≤ mv ∧ mv ≤ 14000 then 3
  else if 16000 < mv then 4
  else old

/-- One sample of a switch input (R304): DEBOUNCE ms are 10 samples each, 100 ms are 1,000 samples. -/
def State.switchSample (s : State) (n mv : Nat) : State :=
  let p := s.pinAt n
  let cls := bandOf mv p.cls
  let run := if cls = p.cls then min (p.run + 1) 100000 else 1
  let okRun := if cls ≤ 1 then min (p.okRun + 1) 100000 else 0
  let s := s.setPin n { p with cls := cls, run := run, okRun := okRun }
  let s :=
    if 2 ≤ cls ∧ 1000 ≤ run then s.setDiag n (if cls = 2 then 2 else if cls = 3 then 1 else 3)
    else if 1000 ≤ okRun then s.setDiag n 0
    else s
  if s.rd (Fd.PIN_STATUS_DIAG n) = 0 ∧ cls ≤ 1 ∧ max 1 (10 * (s.pinParam n / 256)) ≤ run then s.setValue n cls else s

def execSwitchInputSample (n : Fin 64) (mv : BitVec 16) (s : State) : Host.Outcome State Fault Refusal :=
  .next (if s.dev = .active ∧ !s.gated 0xE ∧ (s.pinFunc n = 1 ∨ s.pinFunc n = 2) then s.switchSample n mv.toNat else s)

/-- The band check of an analog input (R306): 100 updates in a row report, and 100 in band clear. [Assumption 126: DEDUCED, unsafe.] -/
def State.analogBand (s : State) (n v : Nat) : State :=
  let lo := s.pinParam n % 256
  let hi := s.pinParam n / 256
  if lo = 0 ∧ hi = 0 then s
  else
    let p := s.pinAt n
    let low := if v < 16 * lo then min (p.low + 1) 100000 else 0
    let high := if 16 * hi < v then min (p.high + 1) 100000 else 0
    let inBand := if low = 0 ∧ high = 0 then min (p.inBand + 1) 100000 else 0
    let s := s.setPin n { p with low := low, high := high, inBand := inBand }
    if 100 ≤ low then s.setDiag n 2
    else if 100 ≤ high then s.setDiag n 3
    else if 100 ≤ inBand ∧ s.rd (Fd.PIN_STATUS_DIAG n) ≠ 1 then s.setDiag n 0
    else s

/-- [Assumption 126: DEDUCED, unsafe.] -/
def execAnalogUpdate (n : Fin 64) (conv : List (BitVec 12)) (s : State) : Host.Outcome State Fault Refusal :=
  .next (if s.dev = .active ∧ !s.gated 0xE ∧ s.pinFunc n = 3 ∧ !conv.isEmpty then
      let v := (conv.map BitVec.toNat).sum / conv.length
      (s.setValue n v).analogBand n v
    else s)

/-- A line test: two equal results in a row report, and two passes in a row clear an open or a short to ground.
[Assumption 125: DEDUCED, unsafe.] -/
def State.lineTest (s : State) (n : Nat) (opened gnd pass : Bool) : State :=
  let p := s.pinAt n
  let o := if opened then min (p.openRun + 1) 2 else 0
  let g := if gnd then min (p.gndRun + 1) 2 else 0
  let k := if pass then min (p.passRun + 1) 2 else 0
  let s := s.setPin n { p with openRun := o, gndRun := g, passRun := k }
  if o = 2 then s.setDiag n 1
  else if g = 2 then s.setDiag n 2
  else if k = 2 ∧ (s.rd (Fd.PIN_STATUS_DIAG n) = 1 ∨ (s.rd (Fd.PIN_STATUS_DIAG n) = 2 ∧ s.pinFunc n ≠ 3)) then s.setDiag n 0
  else s

def execAnalogOpenTest (n : Fin 64) (rise : BitVec 16) (s : State) : Host.Outcome State Fault Refusal :=
  .next (if s.dev = .active ∧ !s.gated 0xE ∧ s.pinFunc n = 3 then
      s.lineTest n (decide (1000 < rise.toNat)) false (decide (rise.toNat ≤ 1000))
    else s)

/-- VALUE of a FREQ_IN pin: 200 MHz over the interval in PER clocks, rounded, 1 to 50,000 (R307). -/
def freqValue (interval : Nat) : Nat := max 1 (min 50000 ((2 * 200000000 + interval) / (2 * interval)))

def execFreqEdge (n : Fin 64) (interval : BitVec 32) (s : State) : Host.Outcome State Fault Refusal :=
  .next (if s.dev = .active ∧ !s.gated 0xE ∧ s.pinFunc n = 6 then
      let s := s.setPin n { s.pinAt n with lost := false, edgeAt := s.now }
      (s.setDiag n 0).setValue n (freqValue interval.toNat)
    else s)

def execFreqTimeout (n : Fin 64) (s : State) : Host.Outcome State Fault Refusal :=
  .next (if s.dev = .active ∧ !s.gated 0xE ∧ s.pinFunc n = 6 then
      let s := s.reach ((s.pinAt n).edgeAt + s.pinParam n * ms)
      (s.setPin n { s.pinAt n with lost := true }).setValue n 0
    else s)

/-- [Assumption 125: DEDUCED, unsafe.] -/
def execFreqLineTest (n : Fin 64) (up down : BitVec 16) (s : State) : Host.Outcome State Fault Refusal :=
  .next (if s.dev = .active ∧ !s.gated 0xE ∧ s.pinFunc n = 6 ∧ (s.pinAt n).lost then
      if 10000 < up.toNat ∧ down.toNat < 1000 then s.setDiag n 1
      else if up.toNat < 1000 then s.setDiag n 2
      else if 16000 < down.toNat then s.setDiag n 3
      else s
    else s)

/-! ### Outputs (R308, R309) -/

/-- The pin is an output. -/
def State.isOutput (s : State) (n : Nat) : Bool := s.pinFunc n == 4 || s.pinFunc n == 5

/-- An output takes a command: VALUE shows it, and OUT follows; 0 clears the latch. [Assumption 127: DEDUCED, unsafe.] -/
def State.pinDrive (s : State) (n v : Nat) : State :=
  let on := v != 0
  let was := s.pinDriven n
  let ran := s.pinRuns n
  let s := if on then s else s.wr (Fd.PIN_STATUS_LATCHED n) 0
  let s := s.setFlag (Fd.PIN_STATUS_OUT n) on
  let p := s.pinAt n
  let s := s.setPin n { p with since := if on != was then s.now else p.since, pwmStart := if ran then p.pwmStart else s.now }
  s.setValue n v

/-- A running PWM changes its duty at the start of the next period (R308). [Assumption 127: DEDUCED, unsafe.] -/
def State.pinPeriod (s : State) (n v : Nat) : State :=
  let f := s.pinParam n
  if s.pinRuns n ∧ s.rd (Fd.PIN_STATUS_VALUE n) ≠ v ∧ 0 < f then
    s.reach ((s.pinAt n).pwmStart + (((s.now - (s.pinAt n).pwmStart) * f / sec + 1) * sec + f - 1) / f)
  else s

/-- The latch refuses a switch-on (R308: only VALUE 0 clears it). -/
def State.pinRefuses (s : State) (n v : Nat) : Bool := v != 0 && s.flag (Fd.PIN_STATUS_LATCHED n)

/-- A protection switches the output off and latches it (R308). -/
def State.pinTrip (s : State) (n bit code : Nat) : State :=
  let s := (s.wr (Fd.PIN_STATUS_OUT n) 0).wr (Fd.PIN_STATUS_LATCHED n) 1
  let s := s.setPin n { s.pinAt n with since := s.now }
  ((s.wr (bitOf (Rg.PIN_STATUS n) bit) 1).pinChange n code).pinLevel

def execPinOvercurrent (n : Fin 64) (s : State) : Host.Outcome State Fault Refusal :=
  .next (if s.isOutput n && s.pinConducts n then s.pinTrip n 11 Code.PIN_OVERCURRENT else s)

def execPinOvertemp (n : Fin 64) (s : State) : Host.Outcome State Fault Refusal :=
  .next (if s.isOutput n && s.pinConducts n then s.pinTrip n 12 Code.PIN_OVERTEMP else s)

/-- [Assumption 125: DEDUCED, unsafe.] -/
def execOutputLineTest (n : Fin 64) (mv : BitVec 16) (s : State) : Host.Outcome State Fault Refusal :=
  .next (if s.dev = .active ∧ !s.gated 0xE ∧ s.isOutput n ∧ !s.pinConducts n then
      let t := s.reach (s.pinOffSince n + 10 * ms)
      if t.pinConducts n then s
      else t.lineTest n (decide (10000 ≤ mv.toNat ∧ mv.toNat ≤ 14000)) (decide (mv.toNat < 2000)) (decide (14000 < mv.toNat))
    else s)

/-- An output that is on is judged after 100 ms, under PWM with on-times of at least 100 µs only (R309). -/
def execOutputOpenLoad (n : Fin 64) (s : State) : Host.Outcome State Fault Refusal :=
  let v := s.rd (Fd.PIN_STATUS_VALUE n)
  .next (if s.isOutput n && s.pinDriven n
      && (!s.pinRuns n || decide (100 * us * s.pinParam n * 1000 ≤ v * sec)) then
      (s.reach ((s.pinAt n).since + 100 * ms)).setDiag n 1
    else s)

/-! ### Lay-by of signal outputs (R310) -/

/-- The outputs that PIN endpoints of these districts hold switch off and are in Lay-by; pending TIMED commands end as under R252. -/
def State.pinLaybyOne (s : State) (cause n : Nat) : State :=
  let p := s.pinAt n
  let s := s.setPin n { p with layby := true, layOld := true, layCause := if p.layby ∧ p.layCause = 4 then 4 else cause }
  let s := s.pinDrive n 0
  match s.pinHolder n with
  | none => s
  | some e => forAll ((s.inflight e).filter (fun c => c.phase == .timed)) (fun s c => s.finish c Code.LAYBY_ACTIVE) s

/-- The output pins that PIN endpoints of the districts hold. -/
def State.pinOutputs (s : State) (ds : Nat → Bool) : List Nat :=
  (List.range 64).filter (fun n => s.isOutput n && match s.pinHolder n with
    | some e => ds (s.epAt e).district
    | none => false)

def State.pinsToLayby (s : State) (cause : Nat) (ds : Nat → Bool) : State :=
  forAll (s.pinOutputs ds) (fun s n => s.pinLaybyOne cause n) s

/-- The outputs of the districts leave Lay-by, but for cause 4 (R254, R256, R310). -/
def State.pinsRelease (s : State) (ds : Nat → Bool) : State :=
  forAll (s.pinOutputs ds) (fun s n =>
    if (s.pinAt n).layCause = 4 then s else s.setPin n { s.pinAt n with layby := false, layOld := false, layCause := 0 }) s

/-! ### PIN endpoints (R316) -/

def State.boundPin (s : State) (e : Nat) : Nat := (s.epAt e).bind % 64

/-- Steps 3 and 4 of R60 for a PIN command on a pin or a LIN master (R316). -/
def State.checkPin (s : State) (c : Cmd) : Nat :=
  let lin := tbit (s.epAt c.ep).bind 8
  let n := s.boundPin c.ep
  let d := (s.epAt c.ep).district
  let v := c.f 0x10 2
  let inRange :=
    match lin, c.op with
    | false, 1 => if s.pinFunc n = 4 then decide (v ≤ 1) else s.pinFunc n == 5 && decide (v ≤ 1000)
    | false, 2 => c.f 0x10 8 % 16 == 0
    | false, _ => true
    | true, 0x10 => decide (1 ≤ c.f 0x10 1) && decide (c.f 0x10 1 ≤ 4) && decide (c.f 0x11 1 ≤ 3)
    | true, 0x12 => decide (c.f 0x10 1 ≤ 61) && c.f 0x18 8 % 8 == 0
    | true, _ => decide (c.f 0x10 1 ≤ 61)
  if !inRange then Code.OUT_OF_RANGE
  else if s.gated 0xE then Code.WRONG_STATE
  else if !lin ∧ c.op = 2 ∧ !s.dramRange d 0 (c.f 0x10 8) 16 2 then Code.NOT_OWNER
  else if lin ∧ c.op = 0x12 ∧ !s.dramRange d 0 (c.f 0x18 8) 8 2 then Code.NOT_OWNER
  else Code.DONE

/-- A SET commits (R308, R310): the Lay-by rules of R250 and R254 apply to a signal output as to a channel.
[Assumption 127: DEDUCED, unsafe.] -/
def State.runPinSet (s : State) (c : Cmd) : State :=
  let n := s.boundPin c.ep
  let v := c.f 0x10 2
  let p := s.pinAt n
  if p.layby ∧ (p.layOld ∨ p.layCause = 4) then s.finish c Code.LAYBY_ACTIVE
  else if s.pinRefuses n v then s.finish c Code.WRONG_STATE
  else
    let s := s.pinPeriod n v
    let s := s.setPin n { s.pinAt n with layby := false, layOld := false, layCause := 0 }
    (s.pinDrive n v).finish c Code.DONE

/-- READ writes PIN_STATUS, 4 zero bytes and the time of the sample (R316). -/
def State.runPinRead (s : State) (c : Cmd) : State :=
  let n := s.boundPin c.ep
  let buf := c.f 0x10 8
  if s.dramRange (s.epAt c.ep).district 0 buf 16 2 then
    (s.store buf (leBytes 4 (s.pinStatusWord n) ++ leBytes 4 0 ++ leBytes 8 s.vt)).finish c Code.DONE
  else s.finish c Code.NOT_OWNER

/-- WAIT_CHANGE: a fifth in flight completes with BUSY (R316). -/
def State.runWaitChange (s : State) (c : Cmd) : State :=
  if 4 ≤ ((s.inflight c.ep).filter (fun k => k.op == 3 && k.phase == .waiting)).length then s.finish c Code.BUSY
  else s.putCmd { c with phase := .waiting }

def State.pinTakes (s : State) (ep tag op : Nat) (run : State → Cmd → State) : State :=
  match s.passed ep tag 3 op with
  | some c => if tbit (s.epAt ep).bind 8 == decide (0x10 ≤ op) then s.atTime c run else s
  | none => s

def execPinSet (ep : Fin 4096) (tag : BitVec 16) (s : State) : Host.Outcome State Fault Refusal :=
  .next (s.pinTakes ep tag.toNat 1 State.runPinSet)

def execPinRead (ep : Fin 4096) (tag : BitVec 16) (s : State) : Host.Outcome State Fault Refusal :=
  .next (s.pinTakes ep tag.toNat 2 State.runPinRead)

def execWaitChange (ep : Fin 4096) (tag : BitVec 16) (s : State) : Host.Outcome State Fault Refusal :=
  .next (s.pinTakes ep tag.toNat 3 State.runWaitChange)

/-- PIN_OUT commits as an untimed SET of an unheld output (R308, R318). [Assumption 124: DEDUCED, unsafe.] -/
def State.pinOutWrite (s : State) (who : Who) (bytes n : Nat) (w : Word) : State :=
  let v := getBits w.toNat 9 0
  let bad := decide (1000 < v) || (s.pinFunc n == 4 && decide (1 < v))
  let refuse := if !s.isOutput n || s.pinRefuses n v || (s.pinAt n).layCause == 4 then Code.WRONG_STATE else Code.DONE
  s.regWrite who bytes (Rg.PIN_OUT n) w (s.pinHolder n).isSome bad refuse (fun s =>
    let s := (s.pinPeriod n v).pinDrive n v
    s.setPin n { s.pinAt n with layby := false, layOld := false, layCause := 0 })

def execPinOutWrite (who : Who) (n : Fin 64) (w : Word) (s : State) : Host.Outcome State Fault Refusal :=
  .next (s.pinOutWrite (s.issuer who) 4 n w)

end Sys2Proof.Machine
end

