-- ==== Sys2Proof/Machine/LinMasters.lean ====
section
/-! DEFINITION. The LIN masters: schedules, responses, sleep and wake (R311 to R316). -/

namespace Sys2Proof.Machine

def State.linAt (s : State) (l : Nat) : Lin := tget (fun _ => Lin.reset) s.pn.lin l
def State.setLin (s : State) (l : Nat) (x : Lin) : State :=
  { s with pn := { s.pn with lin := tset (fun _ => Lin.reset) s.pn.lin l x } }

/-- STATE of LIN_STATUS: 0 STOPPED, 1 RUNNING, 2 SLEEP. -/
def State.linState (s : State) (l : Nat) : Nat := s.rd (Fd.LIN_STATUS_STATE l)

/-- The entries of a table, by LIN_ENTRY fields LIN, TABLE, SLOT, FRAME_ID, DELAY. -/
def State.linTable (s : State) (l t : Nat) : List Item := (s.items 0x0503).filter (fun i => i.n 0 == l && i.n 1 == t)
def State.linSlot (s : State) (l t k : Nat) : Option Item := (s.linTable l t).find? (fun i => i.n 2 == k)
def State.linBaud (s : State) (l : Nat) : Nat := itemN (s.item 0x0502 l) 2

/-- A slot fits (R312): LEN is not 0 and DELAY × 0.1 ms is at least 1.4 × (34 + 10 × (N + 1)) bit times. -/
def State.slotFits (s : State) (l : Nat) (i : Item) : Bool :=
  let n := s.rd (Fd.LIN_FRAME_CFG_LEN l (i.n 3))
  n != 0 && decide (14000 * (44 + 10 * n) ≤ i.n 4 * s.linBaud l)

/-- The first slot of a table that does not fit. [Assumption 128: DEDUCED, unsafe.] -/
def State.shortSlot (s : State) (l t : Nat) : Option Nat :=
  (((s.linTable l t).filter (fun i => !s.slotFits l i)).map (fun i => i.n 2)).min?

/-- The protected identifier of a frame: two parity bits over its six bits, as ISO 17987 forms them.
[Assumption 171: PRESUMED, unsafe.] -/
def linPid (id : Nat) : Nat :=
  let b := fun k => tbit id k
  let p0 := xor (xor (b 0) (b 1)) (xor (b 2) (b 4))
  let p1 := !(xor (xor (b 1) (b 3)) (xor (b 4) (b 5)))
  id + (if p0 then 64 else 0) + (if p1 then 128 else 0)

/-- The LIN checksum of the bytes: the inverted sum with end-around carry (ISO 17987). [Assumption 171: PRESUMED, unsafe.] -/
def linSum (bs : List Nat) : Nat := 255 - bs.foldl (fun a b => if 255 < a + b then a + b - 255 else a + b) 0

/-- The frame has the classic checksum: CLASSIC, and always 60 and 61 (R312). -/
def State.linClassic (s : State) (l id : Nat) : Bool := decide (60 ≤ id) || s.flag (Fd.LIN_FRAME_CFG_CLASSIC l id)

/-- The checksum of a frame with these data: over the data alone where classic, else over the protected identifier too (R312).
[Assumption 171: PRESUMED, unsafe.] -/
def State.linCheck (s : State) (l id n data : Nat) : Nat :=
  let bs := (List.range n).map (fun k => data / 256 ^ k % 256)
  linSum (if s.linClassic l id then bs else linPid id :: bs)

/-- The maximum frame time of a frame of `n` bytes in ns: 1.4 × (34 + 10 × (n + 1)) bit times (R312). -/
def State.linFrameTime (s : State) (l n : Nat) : Nat := 14 * (44 + 10 * n) * 100000000 / s.linBaud l

/-- An operation ends: its record, or RESULT of LIN_CTRL. -/
def State.linEnd (s : State) (l : Nat) (o : LinFrom) (code detail : Nat) : State :=
  match o with
  | .ctrl => s.wr (Fd.LIN_CTRL_RESULT l) code
  | .ring e t =>
    match s.cmdOf e t with
    | some c => s.complete c code detail s.vt
    | none => s

/-- An operation waits for the next slot start. -/
def State.linHold (s : State) (l op t : Nat) (o : LinFrom) : State :=
  let x := s.linAt l
  let s := s.setLin l { x with pend := x.pend ++ [(op, t, o)] }
  match o with
  | .ctrl => s.wr (Fd.LIN_CTRL_RESULT l) Code.ACCEPTED
  | .ring e tag =>
    match s.cmdOf e tag with
    | some c => s.putCmd { c with phase := .waiting }
    | none => s

/-- A table runs from slot 0, its first slot starting now. [Assumption 128: DEDUCED, unsafe.] -/
def State.linRun (s : State) (l t at_ : Nat) : State :=
  let s := (s.wr (Fd.LIN_STATUS_STATE l) 1).wr (Fd.LIN_STATUS_TABLE l) t
  (s.wr (Fd.LIN_STATUS_SLOT l) 0).setLin l { s.linAt l with slotAt := at_, first := true, wait := none, wakeAt := none }

/-- OP 1 (R312, R314): start, or a switch at the next slot start, which supersedes a pending one. -/
def State.linStartOp (s : State) (l t : Nat) (o : LinFrom) : State :=
  if (s.linTable l t).isEmpty then s.linEnd l o Code.OUT_OF_RANGE 0
  else
    match s.shortSlot l t with
    | some k => s.linEnd l o Code.LIN_SLOT_SHORT k
    | none =>
      match s.linState l with
      | 0 => (s.linRun l t s.now).linEnd l o Code.DONE 0
      | 1 =>
        let x := s.linAt l
        let old := x.pend.filter (fun p => p.1 == 1)
        let s := s.setLin l { x with pend := x.pend.filter (fun p => p.1 != 1) }
        let s := forAll old (fun s p => s.linEnd l p.2.2 Code.LIN_SUPERSEDED 0) s
        s.linHold l 1 t o
      | _ => s.linEnd l o Code.WRONG_STATE 0

/-- OP 2 and 3: stop and sleep commit at the next slot start of a running table (R314, R315). -/
def State.linAtSlot (s : State) (l op : Nat) (o : LinFrom) : State :=
  if s.linState l = 1 then s.linHold l op 0 o else s.linEnd l o Code.WRONG_STATE 0

/-- OP 4 (R315): in SLEEP, a dominant pulse of 1 ms; the table restarts 100 ms after its end. -/
def State.linWakeOp (s : State) (l : Nat) (o : LinFrom) : State :=
  if s.linState l = 2 then
    (s.setLin l { s.linAt l with wakeAt := some (s.now + 101 * ms) }).linEnd l o Code.DONE 0
  else s.linEnd l o Code.WRONG_STATE 0

/-- A LIN_SCHED operation (Table 14-3). [Assumption 128: DEDUCED, unsafe.] -/
def State.linSched (s : State) (l op t : Nat) (o : LinFrom) : State :=
  match op with
  | 1 => s.linStartOp l t o
  | 2 => s.linAtSlot l 2 o
  | 3 => s.linAtSlot l 3 o
  | 4 => s.linWakeOp l o
  | _ => s

def State.boundLin (s : State) (e : Nat) : Nat := (s.epAt e).bind % 4

/-- A passed LIN_SCHED command with the OP of this row. [Assumption 128: DEDUCED, unsafe.] -/
def State.linSchedTakes (s : State) (ep tag op : Nat) : State :=
  match s.passed ep tag 3 0x10 with
  | some c => if c.f 0x10 1 = op ∧ tbit (s.epAt ep).bind 8 then s.linSched (s.boundLin ep) op (c.f 0x11 1) (.ring ep tag) else s
  | none => s

def execLinStart (ep : Fin 4096) (tag : BitVec 16) (s : State) : Host.Outcome State Fault Refusal :=
  .next (s.linSchedTakes ep tag.toNat 1)

def execLinStop (ep : Fin 4096) (tag : BitVec 16) (s : State) : Host.Outcome State Fault Refusal :=
  .next (s.linSchedTakes ep tag.toNat 2)

def execLinSleep (ep : Fin 4096) (tag : BitVec 16) (s : State) : Host.Outcome State Fault Refusal :=
  .next (s.linSchedTakes ep tag.toNat 3)

def execLinWake (ep : Fin 4096) (tag : BitVec 16) (s : State) : Host.Outcome State Fault Refusal :=
  .next (s.linSchedTakes ep tag.toNat 4)

/-- The eight data bytes of a frame as one number, byte 0 lowest (LIN_DATA). -/
def State.linData (s : State) (l id : Nat) : Nat :=
  (s.reg (Rg.LIN_DATA_LO l id)).toNat + 2 ^ 32 * (s.reg (Rg.LIN_DATA_HI l id)).toNat

def State.setLinData (s : State) (l id v : Nat) : State :=
  (s.setReg (Rg.LIN_DATA_LO l id) (BitVec.ofNat 32 (v % 2 ^ 32))).setReg (Rg.LIN_DATA_HI l id) (BitVec.ofNat 32 (v / 2 ^ 32 % 2 ^ 32))

/-- LIN_PUT (R313, R316): on a subscribed frame WRONG_STATE. -/
def State.runLinPut (s : State) (c : Cmd) : State :=
  let l := s.boundLin c.ep
  let id := c.f 0x10 1
  if s.flag (Fd.LIN_FRAME_CFG_PUBLISH l id) then (s.setLinData l id (c.f 0x18 8)).finish c Code.DONE
  else s.finish c Code.WRONG_STATE

def execLinPut (ep : Fin 4096) (tag : BitVec 16) (s : State) : Host.Outcome State Fault Refusal :=
  .next (s.pinTakes ep tag.toNat 0x11 State.runLinPut)

/-- LIN_GET waits for the next reception of its frame (Table 14-3). -/
def State.runLinGet (s : State) (c : Cmd) : State := s.putCmd { c with phase := .waiting }

def execLinGet (ep : Fin 4096) (tag : BitVec 16) (s : State) : Host.Outcome State Fault Refusal :=
  .next (s.pinTakes ep tag.toNat 0x12 State.runLinGet)

/-- A PIN or LIN command of any opcode executes. -/
def State.runPin (s : State) (c : Cmd) : State :=
  match c.op with
  | 1 => s.runPinSet c
  | 2 => s.runPinRead c
  | 3 => s.runWaitChange c
  | 0x10 => s.linSched (s.boundLin c.ep) (c.f 0x10 1) (c.f 0x11 1) (.ring c.ep c.tag)
  | 0x11 => s.runLinPut c
  | 0x12 => s.runLinGet c
  | _ => s

/-! ### Slots (R313 to R315) -/

/-- A pending operation commits at a slot start. -/
def State.linCommit (s : State) (l : Nat) (p : Nat × Nat × LinFrom) : State :=
  match p.1 with
  | 1 => (s.linRun l p.2.1 s.now).linEnd l p.2.2 Code.DONE 0
  | 2 => (s.wr (Fd.LIN_STATUS_STATE l) 0).linEnd l p.2.2 Code.DONE 0
  | _ =>
    let data := 0xFFFFFFFFFFFFFF00
    let s := s.setLin l { s.linAt l with
      sent := some (0x3C, data, s.linCheck l 0x3C 8 data), wait := none, badSum := false, frameEnd := s.now + s.linFrameTime l 8 }
    (s.wr (Fd.LIN_STATUS_STATE l) 2).linEnd l p.2.2 Code.DONE 0

/-- The slot starts: its header goes out, and a published response takes the data that stand in LIN_DATA now (R313). -/
def State.linHeader (s : State) (l : Nat) : State :=
  let x := s.linAt l
  let t := s.rd (Fd.LIN_STATUS_TABLE l)
  let k := if x.first then 0 else (s.rd (Fd.LIN_STATUS_SLOT l) + 1) % (s.linTable l t).length
  match s.linSlot l t k with
  | none => s
  | some i =>
    let id := i.n 3
    let n := s.rd (Fd.LIN_FRAME_CFG_LEN l id)
    let pub := s.flag (Fd.LIN_FRAME_CFG_PUBLISH l id)
    let s := s.wr (Fd.LIN_STATUS_SLOT l) k
    s.setLin l { x with
      first := false, slotAt := s.now + i.n 4 * 100 * us
      wait := if pub then none else some id
      badSum := false
      sent := if pub then some (id, s.linData l id % 2 ^ (8 * n), s.linCheck l id n (s.linData l id)) else x.sent
      frameEnd := s.now + s.linFrameTime l n }

/-- LIN saturation (Table 17-1: 105). -/
def State.linLevel (s : State) : State :=
  s.level 105 ((List.range 4).any (fun l => (s.rd (Fd.LIN_EVENT_SAT_SAT l) &&& s.rd (Fd.LIN_EVENT_SAT_IE l)) != 0))

def State.linCount (s : State) (l c : Nat) : State := (s.count (Rg.LIN_EVENT l c) (Rg.LIN_EVENT_SAT l) c).linLevel

/-- The LIN_GET commands that wait for a frame. -/
def State.linGets (s : State) (l id : Nat) : List Cmd :=
  match s.linHolder l with
  | none => []
  | some e => (s.inflight e).filter (fun c => c.op == 0x12 && c.phase == .waiting && c.f 0x10 1 == id)

/-- The maximum frame time of an awaited response is over (R313): NO_RESPONSE, or CHECKSUM where one came with a bad checksum.
[Assumption 172: DEDUCED, unsafe.] -/
def State.linTimedOut (s : State) (l : Nat) : State :=
  match (s.linAt l).wait with
  | none => s
  | some id =>
    let bad := (s.linAt l).badSum
    let s := s.setLin l { s.linAt l with wait := none, badSum := false }
    let s := s.linCount l (if bad then 1 else 0)
    forAll (s.linGets l id) (fun s c => s.finish c (if bad then Code.LIN_CHECKSUM else Code.LIN_NO_RESPONSE)) s

def execLinSlotStart (l : Fin 4) (s : State) : Host.Outcome State Fault Refusal :=
  .next (if s.dev = .active ∧ !s.gated 0xE ∧ s.linState l = 1 then
      let s := (s.reach (s.linAt l).slotAt).linTimedOut l
      let pend := (s.linAt l).pend
      let s := s.setLin l { s.linAt l with pend := [] }
      let s := forAll pend (fun s p => s.linCommit l p) s
      if s.linState l = 1 then s.linHeader l else s
    else s)

/-- LIN_GET writes the 8 data bytes; DETAIL holds LEN (R316). -/
def State.linGot (s : State) (l id : Nat) (c : Cmd) : State :=
  let buf := c.f 0x18 8
  if s.dramRange (s.epAt c.ep).district 0 buf 8 2 then
    (s.store buf (leBytes 8 (s.linData l id))).complete c Code.DONE (s.rd (Fd.LIN_FRAME_CFG_LEN l id)) s.vt
  else s.finish c Code.NOT_OWNER

/-- A response is complete, with its checksum (R312, R313): in time and with the right one it goes to LIN_DATA. -/
def State.linResponse (s : State) (l data sum : Nat) : State :=
  match (s.linAt l).wait with
  | none => s
  | some id =>
    let n := s.rd (Fd.LIN_FRAME_CFG_LEN l id)
    if (s.linAt l).frameEnd < s.now then s.linTimedOut l
    else if (s.linAt l).badSum then s
    else if sum ≠ s.linCheck l id n data then s.setLin l { s.linAt l with badSum := true }
    else
      let old := s.linData l id
      let s := s.setLinData l id (data % 2 ^ (8 * n) + old / 2 ^ (8 * n) * 2 ^ (8 * n))
      let s := s.setLin l { s.linAt l with wait := none }
      forAll (s.linGets l id) (fun s c => s.linGot l id c) s

def execLinResponseReceived (l : Fin 4) (answer : LinAnswer) (s : State) : Host.Outcome State Fault Refusal :=
  .next (s.linResponse l answer.data.toNat answer.sum.toNat)

/-- The master reads back another bit than it sends, in a header or a published response (R311, LIN_EVENT): the frame is broken off and
counts; an awaited response then stays missing. [Assumption 172: DEDUCED, unsafe.] -/
def State.linBitError (s : State) (l : Nat) : State :=
  if s.now ≤ (s.linAt l).frameEnd ∧ (s.linState l = 1 ∨ s.linState l = 2) then
    (s.setLin l { s.linAt l with sent := if (s.linAt l).wait.isSome then (s.linAt l).sent else none }).linCount l 2
  else s

/-- The maximum frame time is over; or, where `bitErr`, the master breaks the frame off within it (R313).
[Assumption 172: DEDUCED, unsafe.] -/
def execLinFrameTimeout (l : Fin 4) (bitErr : Bool) (s : State) : Host.Outcome State Fault Refusal :=
  .next (if bitErr then s.linBitError l
    else if (s.linAt l).wait.isSome then (s.reach (s.linAt l).frameEnd).linTimedOut l
    else s)

def execLinWakeSeen (l : Fin 4) (s : State) : Host.Outcome State Fault Refusal :=
  .next (if s.dev = .active ∧ !s.gated 0xE ∧ s.linState l = 2 then
      let s := s.linCount l 3
      s.setLin l { s.linAt l with wakeAt := some (s.now + 100 * ms) }
    else s)

def execLinWakeRestart (l : Fin 4) (s : State) : Host.Outcome State Fault Refusal :=
  .next (match (s.linAt l).wakeAt with
    | some t => if s.linState l = 2 then (s.reach t).linRun l (s.rd (Fd.LIN_STATUS_TABLE l)) (max t s.now) else s
    | none => s)

/-! ### LIN registers (R312, R318) -/

def State.linCtrlWrite (s : State) (who : Who) (bytes l : Nat) (w : Word) : State :=
  let op := getBits w.toNat 2 0
  s.regWrite who bytes (Rg.LIN_CTRL l) w (s.linHolder l).isSome false Code.DONE (fun s =>
    if op = 0 then s else s.linSched l op (getBits w.toNat 9 8) .ctrl)

/-- The write would make the running table unfit (R312). -/
def State.cfgUnfits (s : State) (l id : Nat) (w : Word) : Bool :=
  let t := s.rd (Fd.LIN_STATUS_TABLE l)
  s.linState l == 1 && (s.linTable l t).any (fun i => i.n 3 == id)
    && ((s.setReg (Rg.LIN_FRAME_CFG l id) w).shortSlot l t).isSome

def State.linFrameCfgWrite (s : State) (who : Who) (bytes l id : Nat) (w : Word) : State :=
  s.regWrite who bytes (Rg.LIN_FRAME_CFG l id) w (s.linHolder l).isSome false
    (if s.cfgUnfits l id w then Code.WRONG_STATE else Code.DONE) (fun s => s)

def State.linDataWrite (s : State) (who : Who) (bytes a l id : Nat) (w : Word) : State :=
  s.regWrite who bytes a w (s.linHolder l).isSome false
    (if s.flag (Fd.LIN_FRAME_CFG_PUBLISH l id) then Code.DONE else Code.WRONG_STATE) (fun s => s)

end Sys2Proof.Machine
end

