-- ==== Sys2Proof/Machine/Bank.lean ====
section
/-! DEFINITION. Image banks: the bank header and its directory (R417 to R420), and the images of a bank. -/

namespace Sys2Proof.Machine

/-- The base of bank A or B (Table 01-6). -/
def bankBase (b : Nat) : Nat := 0x40000000 + 0x10000000 * (b % 2)
/-- The end of the image area in a flash device (Table 19-1). -/
def imageEnd : Nat := 0x0FF00000

/-- A directory entry (R418), by the offset of the image in the device. -/
structure DirEnt where
  id : Nat
  ty : Nat
  cy : Nat
  resv : Nat
  off : Nat
  len : Nat
  digest : List Byte
  deriving DecidableEq, Repr

/-- Directory entry `k` of a bank header given as bytes. -/
def dirEnt (h : List Byte) (k : Nat) : DirEnt :=
  let e := (h.drop (0x40 + 48 * k)).take 48
  { id := leNat (e.take 4), ty := leNat ((e.drop 4).take 1), cy := leNat ((e.drop 5).take 1), resv := leNat ((e.drop 6).take 2),
    off := leNat ((e.drop 8).take 4), len := leNat ((e.drop 12).take 4), digest := (e.drop 16).take 32 }

def hdrEntries (h : List Byte) : Nat := leNat ((h.drop 0xF).take 1)
def hdrEpoch (h : List Byte) : Nat := leNat ((h.drop 0xC).take 2)
def hdrKeySlot (h : List Byte) : Nat := leNat ((h.drop 0xE).take 1)
def hdrLen (h : List Byte) : Nat := leNat ((h.drop 0x10).take 4)
def hdrDir (h : List Byte) : List DirEnt := (List.range (hdrEntries h)).map (dirEnt h)

/-- No two of the numbers are equal. -/
def distinct (l : List Nat) : Bool :=
  match l with
  | [] => true
  | a :: rest => !rest.contains a && distinct rest

/-- The images of two entries share no byte. -/
def DirEnt.apart (a b : DirEnt) : Bool := decide (a.off + a.len ≤ b.off) || decide (b.off + b.len ≤ a.off)

/-- Every two entries of a list are apart. -/
def allApart (l : List DirEnt) : Bool :=
  match l with
  | [] => true
  | a :: rest => rest.all a.apart && allApart rest

/-- The header meets Table 19-2 and R418. -/
def hdrOk (h : List Byte) : Bool :=
  let dir := hdrDir h
  leNat (h.take 4) == 0x4B425752 && leNat ((h.drop 4).take 2) == 1 && leNat ((h.drop 6).take 2) == 0x4096 &&
  decide (hdrEpoch h ≤ 512) && decide (hdrKeySlot h ≤ 127) && decide (1 ≤ hdrEntries h) && decide (hdrEntries h ≤ 64) &&
  hdrLen h == 0x40 + 48 * hdrEntries h && ((h.drop 0x14).take 44).all (· == 0) &&
  dir.all (fun e => e.id != 0 && decide (1 ≤ e.ty) && decide (e.ty ≤ 8) && e.resv == 0 &&
    (if e.ty = 4 then decide (1 ≤ e.cy) && decide (e.cy ≤ 15) else e.cy == 0) &&
    e.off % 0x1000 == 0 && decide (0x1000 ≤ e.off) && decide (e.off + e.len ≤ imageEnd)) &&
  distinct (dir.map (·.id)) && distinct ((dir.filter (fun e => e.ty == 4)).map (·.cy)) && allApart dir &&
  [1, 2, 3, 5].all (fun t => (dir.filter (fun e => e.ty == t)).length == 1)

/-- The header bytes of a bank. -/
def State.header (s : State) (b : Nat) : List Byte := s.bytes (bankBase b) 0x1000
/-- The bytes of an image. -/
def State.imageOf (s : State) (b : Nat) (e : DirEnt) : List Byte := s.bytes (bankBase b + e.off) e.len
/-- The image matches its digest; otherwise it counts as absent (R419). -/
def State.imgPresent (s : State) (b : Nat) (e : DirEnt) : Bool :=
  Config.sha256 (s.imageOf b e) == e.digest && !s.poisoned (bankBase b + e.off) e.len
/-- The image of one TYPE and IMAGE_ID in a bank, where it is present (R419). -/
def State.findImage (s : State) (b ty id : Nat) : Option DirEnt :=
  (hdrDir (s.header b)).find? (fun e => e.ty == ty && e.id == id && s.imgPresent b e)
/-- The measurement digest of a bank (R420). -/
def State.measure (s : State) (b : Nat) : List Byte := Config.sha256 ((s.header b).take (hdrLen (s.header b)))
/-- The bank whose image set runs. -/
def State.runningBank (s : State) : Nat := s.rd Fd.UP_STATUS_RUNNING

end Sys2Proof.Machine
end

