-- ==== Sys2Proof/Machine/Crossing.lean ====
section
/-! DEFINITION. Crossing as its targets and district 0 use it: claims, completes, coalescing and configuration (R381 to R388, R390). -/

namespace Sys2Proof.Machine

/-- Source `n` exists (R377). -/
def isSource (n : Nat) : Bool := decide (1 ≤ n) && decide (n ≤ 511)

/-! ### Register words -/

/-- IC_SRC_CFG[n] as it reads. -/
def State.srcWord (s : State) (n : Nat) : Nat :=
  let x := s.src n
  x.state * 2 ^ 30 + x.target * 2 ^ 26 + (if x.level then 2 ^ 25 else 0) + x.targets * 2 ^ 16 + x.ptr * 2 ^ 12 + x.prio

/-- IC_TARGET_CTRL[t] as it reads. -/
def State.tgtWord (s : State) (t : Nat) : Nat :=
  let x := s.tgt t
  (if x.awake then 2 ^ 31 else 0) + (if x.meip then 2 ^ 8 else 0) + x.threshold

/-- IC_PENDING[k]: bit j says that source 32k + j is PENDING or ACTIVE. -/
def State.pendingWord (s : State) (k : Nat) : Nat :=
  (List.range 32).foldl (fun n j => if (s.src (32 * k + j)).state ≠ 0 then n + 2 ^ j else n) 0

/-- IC_WAKE_SUBSET[k]: the k-th WAKE_SUBSET item. -/
def State.wakeSubsetWord (s : State) (k : Nat) : Nat :=
  match (s.items 0x0E02)[k]? with
  | some i => 2 ^ 31 + i.n 1 * 2 ^ 16 + i.n 0
  | none => 0

/-! ### The end of a claim (R386, R388) -/

/-- A claimed source is completed: its level is sampled, and an asserted one counts one event. -/
def State.endClaim (s : State) (n : Nat) : State :=
  let x := s.src n
  let s := s.setSrc n { x with state := 0, target := 0, count := 0, first := 0, byWake := false }
  if x.level then s.srcEvent n else s

/-- The sources that target `t` holds ACTIVE. -/
def State.claimsOf (s : State) (t : Nat) : List Nat := (s.ic.src.filter (fun p => p.2.state == 2 && p.2.target == t)).map (·.1)

/-- A reset of a core completes every source it holds (R388). -/
def State.completeCore (s : State) (t : Nat) : State := forAll (s.claimsOf t) State.endClaim s

/-! ### Coalescing (R382) -/

/-- TIME_US have passed since the first event counted. -/
def State.coalesce (s : State) (n : Nat) : State :=
  let x := s.src n
  if isSource n && x.state == 0 && decide (0 < x.count) && x.level then
    (s.reach (x.first + s.rd (Fd.IC_COAL_TIME_US n) * us)).makePending n
  else s

def execCoalesceTimeout (n : Fin 512) (s : State) : Host.Outcome State Fault Refusal := .next (s.coalesce n)

/-! ### Claim (R385) -/

/-- The source that a claim of target `t` returns: highest priority offered at or above THRESHOLD, lowest number between equals. -/
def State.bestOffer (s : State) (t : Nat) : Option Nat :=
  s.ic.src.foldl (fun best p =>
    if p.2.state = 1 ∧ p.2.target = t ∧ (s.tgt t).threshold ≤ p.2.prio then
      match best with
      | some b => if (s.src b).prio < p.2.prio then some p.1 else some b
      | none => some p.1
    else best) none

/-- The source becomes ACTIVE, claimed by `t`. -/
def State.claimSrc (s : State) (n t : Nat) : State :=
  s.setSrc n { s.src n with state := 2, target := t, ptr := (t + 1) % 9, byWake := false }

/-- The initiator is target `t`: core t, a locked pair issuing as its leader, or Lamplighter for t = 8 (R390).
[Assumption 96: DEDUCED, unsafe.] -/
def State.isTarget (s : State) (who : Who) (t : Nat) : Bool :=
  if t = 8 then who.initiator == 8
  else decide (who.initiator.toNat < 8) && s.leader who.initiator.toNat == t && !(s.locked (t / 2) && t % 2 == 1)

/-- A read of IC_CLAIM[t]. [Assumption 96: DEDUCED, unsafe.] -/
def State.claimRead (s : State) (who : Who) (bytes t : Nat) : State :=
  let best := s.bestOffer t
  s.regRead who bytes (Rg.IC_CLAIM t) (if s.isTarget who t then none else some false) (best.getD 0) (fun s =>
    match best with
    | some n => s.claimSrc n t
    | none => s)

/-- A write to IC_CLAIM[t], which only target t may make (R390), and which its RC field ignores (R41). -/
def State.claimWrite (s : State) (who : Who) (bytes t : Nat) (w : Word) : State :=
  s.regWrite who bytes (Rg.IC_CLAIM t) w (!s.isTarget who t) false Code.DONE (fun s => s)

def execClaim (who : Who) (t : Fin 9) (s : State) : Host.Outcome State Fault Refusal := .next (s.claimRead (s.issuer who) 4 t)

/-! ### Complete (R386) -/

/-- Source 49 (Table 17-1). -/
def State.spurLevel (s : State) : State :=
  s.level 49 ((List.range 16).any (fun k => (s.reg (Rg.IC_SPUR_SAT k) &&& s.reg (Rg.IC_SPUR_IE k)) != 0))

/-- A write to IC_COMPLETE[t]: a source that t does not hold ACTIVE is WRONG_STATE; NONE counts in IC_SPURIOUS. -/
def State.completeWrite (s : State) (who : Who) (bytes t : Nat) (w : Word) : State :=
  let n := w.toNat % 512
  let none_ := tbit w.toNat 31
  let x := s.src n
  s.regWrite who bytes (Rg.IC_COMPLETE t) w (!s.isTarget who t) false
    (if x.state = 2 ∧ x.target = t ∧ isSource n then Code.DONE else Code.WRONG_STATE)
    (fun s =>
      let s := if none_ then (s.count (Rg.IC_SPURIOUS n) (Rg.IC_SPUR_SAT (n / 32)) (n % 32)).spurLevel else s
      s.endClaim n)

/-- [Assumption 96: DEDUCED, unsafe.] -/
def execComplete (who : Who) (t : Fin 9) (source : BitVec 9) (spurious : Bool) (s : State) : Host.Outcome State Fault Refusal :=
  .next (s.completeWrite (s.issuer who) 4 t (BitVec.ofNat 32 ((if spurious then 2 ^ 31 else 0) + source.toNat)))

/-! ### Configuration (R381, R383, R390) -/

/-- IC_SRC_CFG[n]: TARGETS and PRIO; TARGETS on a source that is never asserted is OUT_OF_RANGE. The source's state has one home, so the
register file keeps nothing of it. -/
def State.srcCfgWrite (s : State) (who : Who) (bytes n : Nat) (w : Word) : State :=
  let a := Rg.IC_SRC_CFG n
  let targets := getBits w.toNat 24 16
  s.regWrite who bytes a w false (decide (125 ≤ n) && decide (n ≤ 255) && targets != 0) Code.DONE (fun s =>
    ((s.setReg a (regReset a)).setSrc n { s.src n with targets := targets, prio := w.toNat % 16 }).rechoose n)

def execSrcCfgWrite (who : Who) (n : Fin 512) (w : Word) (s : State) : Host.Outcome State Fault Refusal :=
  .next (s.srcCfgWrite (s.issuer who) 4 n w)

/-- IC_TARGET_CTRL[t]: AWAKE, MEIP and THRESHOLD; Lamplighter is always awake and on MEIP. -/
def State.targetCtrlWrite (s : State) (who : Who) (bytes t : Nat) (w : Word) : State :=
  let a := Rg.IC_TARGET_CTRL t
  s.regWrite who bytes a w false false Code.DONE (fun s =>
    let x : Tgt := ⟨t == 8 || tbit w.toNat 31, t == 8 || tbit w.toNat 8, w.toNat % 16⟩
    ((s.setReg a (regReset a)).setTgt t x).rechooseAll)

def execTargetCtrlWrite (who : Who) (t : Fin 9) (w : Word) (s : State) : Host.Outcome State Fault Refusal :=
  .next (s.targetCtrlWrite (s.issuer who) 4 t w)


/-- IC_EVENT_LATCH and its sources 60 and 101 (R379). -/
def State.latchLevels (s : State) : State :=
  (s.level 60 (s.flag Fd.IC_EVENT_LATCH_CY_END)).level 101 (s.flag Fd.IC_EVENT_LATCH_ETH_WAKE)

end Sys2Proof.Machine
end

