-- ==== Sys2Proof/Machine/Memory.lean ====
section
/-! DEFINITION. Accesses to memory (R12, R17, R19, R20, R348 to R361), the patrol scrubber, bank power and block reservations (R372 to
R374). -/

namespace Sys2Proof.Machine

/-! ### Sources and counters of the WG_ block -/

/-- Source 59: a guard or ECC record; source 61: a saturated counter under its enable. -/
def State.wgLevels (s : State) : State :=
  (s.level 59 (s.flag Fd.WG_FAULT_VALID || s.flag Fd.WG_ECC_ADDR_HI_VALID)).level 61
    ((s.rd Fd.WG_EVENT_SAT_SAT &&& s.rd Fd.WG_EVENT_SAT_IE) != 0)

/-- WG_EVENT: 0 REGION_DENIED, 1 ECC_CORRECTED, 2 ECC_UNCORRECTED, 3 COURTYARD_END. -/
def State.wgEvent (s : State) (c : Nat) : State := (s.count (Rg.WG_EVENT c) Rg.WG_EVENT_SAT c).wgLevels

end Sys2Proof.Machine

namespace Sys2Proof

/-- KIND of WG_FAULT. -/
def AccessKind.code (k : AccessKind) : Nat :=
  match k with
  | .read _ => 0
  | .write => 1
  | .fetch _ => 2
  | .amo => 3

/-- The PERM bits that an access needs (R356). -/
def AccessKind.need (k : AccessKind) : Nat :=
  match k with
  | .read _ => 1
  | .write => 2
  | .fetch _ => 4
  | .amo => 3

def AccessKind.isFetch (k : AccessKind) : Bool := k.code == 2
def AccessKind.writes (k : AccessKind) : Bool := k.code == 1 || k.code == 3
/-- The bytes an access touches. -/
def AccessKind.size (k : AccessKind) (data : List Byte) : Nat :=
  match k with
  | .read n => n
  | .fetch n => n
  | _ => data.length

/-- The cause code of a failed access. -/
def AccessKind.cause (k : AccessKind) : Nat := if k.isFetch then 1 else if k.writes then 7 else 5

end Sys2Proof

namespace Sys2Proof.Machine

/-- A denial is recorded in WG_FAULT, with the rule of R47 (R354, R360). [Assumption 17: DEDUCED, unsafe.] -/
def State.guardRecord (s : State) (who : Who) (kind target a : Nat) (bankOff : Bool) : State :=
  let twice := s.flag Fd.WG_FAULT_VALID
  let addr := if who.courtyard = 0 then a else 0
  let w := 2 ^ 31 + (if twice then 2 ^ 30 else 0) + who.district.toNat * 2 ^ 24 + who.initiator.toNat * 2 ^ 19 + kind * 2 ^ 17
    + who.courtyard.toNat * 2 ^ 13 + target * 2 ^ 11 + (if bankOff then 2 ^ 10 else 0)
  let s := s.setReg Rg.WG_FAULT (BitVec.ofNat 32 w)
  let s := s.setReg Rg.WG_FAULT_ADDR_LO (BitVec.ofNat 32 (addr % 2 ^ 32))
  (s.setReg Rg.WG_FAULT_ADDR_HI (BitVec.ofNat 32 (addr / 2 ^ 32 % 4))).wgLevels

/-! ### Bus errors -/

/-- An access ends in a bus error, which a core takes as an access fault (R19, R360). -/
def State.busErr (s : State) (who : Who) (k : AccessKind) : State :=
  { s.coreFault who k.cause with resp := .busError }

/-! ### ECC (R349, R350) -/

/-- The 64-bit words that `n` bytes from `a` touch. -/
def wordsOf (a n : Nat) : List Nat := (List.range ((a + n + 7) / 8 - a / 8)).map (a / 8 + ·)

/-- An uncorrectable word is counted and its address recorded. -/
def State.eccBad (s : State) (w : Nat) : State :=
  let s := s.setReg Rg.WG_ECC_ADDR_LO (BitVec.ofNat 32 (8 * w % 2 ^ 32))
  let s := (s.wr Fd.WG_ECC_ADDR_HI_ADDR_HI (8 * w / 2 ^ 32 % 4)).wr Fd.WG_ECC_ADDR_HI_VALID 1
  s.wgEvent 2

/-- A single-bit error that a read finds is corrected and counted. -/
def State.eccFix (s : State) (w : Nat) : State :=
  if s.wg.single.contains w then { s with wg := { s.wg with single := s.wg.single.filter (· != w) } }.wgEvent 1 else s

/-- What the memory controller counts and records of a read by another initiator (R349).
[Assumption 18: DESIGN CHOICE, unsafe. Assumption 85: DEDUCED, unsafe.] -/
def State.readEcc (s : State) (a n : Nat) : State :=
  forAll (wordsOf a n) (fun s w => if s.wg.poison.contains w then s.eccBad w else s.eccFix w) s

/-- The uncorrectable words among those an access must read: all of them for a read, the partly written ones for a write (R350). -/
def State.badWords (s : State) (a n : Nat) (write : Bool) : List Nat :=
  (wordsOf a n).filter (fun w => s.wg.poison.contains w && !(write && decide (a ≤ 8 * w) && decide (8 * w + 8 ≤ a + n)))

/-! ### L1 and L2 (R336, R361, R368) -/

/-- The 64-byte lines that an access touches. -/
def linesOf (a n : Nat) : List Nat := (List.range ((a + n + 63) / 64 - a / 64)).map (a / 64 + ·)

/-- A line is filled in the L1 of a core, with the tags of R361; a write makes it dirty. The same line in another L1 is written back, and
dropped by a write: the interconnect is coherent. -/
def State.fillLine (s : State) (core : Nat) (who : Who) (line : Nat) (write : Bool) : State :=
  let mine := s.wg.l1.find? (fun l => l.core == core && l.line == line)
  let others := s.wg.l1.filterMap (fun l =>
    if l.line ≠ line then some l
    else if l.core = core ∨ write then none
    else some { l with old := [] })
  let before := match mine with
    | some l => l.old
    | none => []
  let old := if write ∧ before.isEmpty then s.bytes (64 * line) 64 else before
  { s with wg := { s.wg with l1 := others ++ [⟨core, line, who.district.toNat, who.courtyard.toNat, old⟩] } }

/-- An access of an initiator that has no L1 writes a line of some L1 back, and drops it where it writes. -/
def State.snoopLine (s : State) (line : Nat) (write : Bool) : State :=
  { s with wg := { s.wg with l1 := s.wg.l1.filterMap (fun l =>
      if l.line ≠ line then some l else if write then none else some { l with old := [] }) } }

/-- A Courtyard's access allocates in L2 for its id (R368). [Assumption 23: DESIGN CHOICE, unsafe.] -/
def State.fillL2 (s : State) (cy line : Nat) : State :=
  if cy = 0 ∨ s.wg.l2.any (fun l => l.line == line && l.cy == cy) then s
  else { s with wg := { s.wg with l2 := s.wg.l2 ++ [⟨line, cy⟩] } }

/-- The caches after an access to cacheable memory. [Assumption 23: DESIGN CHOICE, unsafe.] -/
def State.cacheAccess (s : State) (who : Who) (a n : Nat) (write : Bool) : State :=
  let core := who.initiator.toNat
  forAll (linesOf a n) (fun s line =>
    let s := if core < 8 then s.fillLine (s.leader core) who line write else s.snoopLine line write
    s.fillL2 who.courtyard.toNat line) s

/-! ### The access -/

/-- The guards check this initiator (R355). -/
def guardedInitiator (n : Nat) : Bool :=
  decide (n ≤ 7) || (decide (9 ≤ n) && decide (n ≤ 0xC)) || n == 0xE || n == 0xF

/-- Some bank of general SRAM that the bytes touch is off (R354). [Assumption 17: DEDUCED, unsafe.] -/
def State.bankOff (s : State) (a n : Nat) : Bool :=
  (List.range 32).any (fun k => decide (0x10000000 + 0x20000 * k < a + n) && decide (a < 0x10000000 + 0x20000 * (k + 1))
    && !tbit (s.reg Rg.WG_BANK_PWR).toNat k)

/-- The guards pass the access: an unguarded initiator, the engine in the context store, or R356 to R358. -/
def State.passes (s : State) (who : Who) (k : AccessKind) (target a n : Nat) : Bool :=
  !guardedInitiator who.initiator.toNat || (who.initiator == 9 && target == 0 && decide (s.ctxBase ≤ a) && decide (a + n ≤ s.ctxBase + 0x400000)) ||
  s.guardPasses target a n who.district.toNat who.courtyard.toNat k.need k.isFetch

/-- Served by its memory: errors of R349 and R350, then the data.
[Assumption 85: DEDUCED, unsafe. Assumption 175: DESIGN CHOICE, safe.] -/
def State.serve (s : State) (who : Who) (k : AccessKind) (a n : Nat) (data : List Byte) (cached : Bool) : State :=
  let bad := s.badWords a n (k.code == 1)
  if !bad.isEmpty then
    let s := forAll bad State.eccBad s
    if k.writes || decide (who.initiator.toNat < 8) then s.busErr who k else { s with resp := .poisoned }
  else
    let s := forAll (wordsOf a n) State.eccFix s
    let s := if cached then s.cacheAccess who a n k.writes else s
    let old := s.le a n
    if k.writes then { s.store a data with resp := if k.code = 3 then .data old else .done } else { s with resp := .data old }

/-- An access to a memory behind the guards. -/
def State.guardedAccess (s : State) (who : Who) (k : AccessKind) (place : Place) (target a n : Nat) (data : List Byte) : State :=
  if !s.passes who k target a n then
    ((s.guardRecord who k.code target a false).wgEvent 0).busErr who k
  else if place = .sram ∧ s.bankOff a n then (s.guardRecord who k.code target a true).busErr who k
  else s.serve who k a n data (place != .dualPort)

/-- A memory access on the interconnect (R17, R19, R20, R355 to R361). Accesses to the I/O pages do not come here.
[Assumption 16: DEDUCED, unsafe. Assumption 17: DEDUCED, unsafe.] -/
def State.memAccess (s : State) (who : Who) (k : AccessKind) (a : Nat) (data : List Byte) : State :=
  let n := k.size data
  let place := placeOf a
  if s.dev ≠ .active ∨ n = 0 then s
  else if k.writes ∧ s.toGate who a then s.gatedStore who a data (k.code == 3)
  else if k.writes ∧ s.gateWait who then s
  else if place = .hole ∨ placeOf (a + n - 1) ≠ place then
    (s.reject 0 Code.RESERVED_ADDRESS who k.writes a).busErr who k
  else
    match place, guardTarget place with
    | .rom, _ =>
      if k.writes then (s.reject 0 Code.RESERVED_ADDRESS who true a).busErr who k
      else { s.cacheAccess who a n false with resp := .data (leNat ((List.range n).map (fun j => Config.rom (a + j)))) }
    | .flash, some t =>
      if k.writes then (s.reject 0 Code.RESERVED_ADDRESS who true a).busErr who k else s.guardedAccess who k place t a n data
    | _, some t => s.guardedAccess who k place t a n data
    | _, none => s

/-- An error that an access meets is there before it (R349): in the memory word, or in the L1 line of a fetch, which is invalidated, fetched
anew and counted. [Assumption 18: DESIGN CHOICE, unsafe.] -/
def State.memErr (s : State) (who : Who) (k : AccessKind) (a : Nat) (err : MemErr) : State :=
  let w := a / 8
  let ram := placeOf a == .sram || placeOf a == .dualPort || placeOf a == .dram
  match err with
  | .none => s
  | .single => if ram && !s.wg.poison.contains w then { s with wg := { s.wg with single := insertNat s.wg.single w } } else s
  | .double => if ram then { s with wg := { s.wg with poison := insertNat s.wg.poison w } } else s
  | .parity =>
    let hit : L1Line → Bool := fun l => l.core == who.initiator.toNat && l.line == a / 64 && l.district == who.district.toNat
      && l.cy == who.courtyard.toNat
    if k.isFetch && s.wg.l1.any hit then { s with wg := { s.wg with l1 := s.wg.l1.filter (fun l => !hit l) } }.wgEvent 1 else s

/-- Shopfront on the interconnect (Table 01-2). -/
def shopfront : Who := ⟨0xA, 0, 0⟩

/-- A fetch by Shopfront of `n` bytes from `a` (R19, R349, R355 to R360): the state after it, and whether the data came. A bus error or a
denial counts as an uncorrectable read (R360). [Assumption 21: DEDUCED, unsafe.] -/
def State.shopFetch (s : State) (a n : Nat) : State × Bool :=
  if n = 0 then (s, true)
  else
    let t := ({ s with resp := .none }).memAccess shopfront (.read n) a []
    ({ t with resp := s.resp }, match t.resp with
      | .data _ => true
      | _ => false)

/-! ### The patrol scrubber (R351) -/

/-- The scrubber reads a word of SRAM or usable DRAM; `err` is what it finds besides the errors known: 1 a single-bit error, 2 an
uncorrectable one. [Assumption 18: DESIGN CHOICE, unsafe.] -/
def State.scrub (s : State) (a err : Nat) : State :=
  let w := a / 8
  let p := placeOf (8 * w)
  if s.dev ≠ .active ∨ !(p == .sram || p == .dualPort || p == .dram) || (p == .sram && s.bankOff (8 * w) 8) then s
  else
    let s := if err = 2 ∧ !s.wg.poison.contains w then { s with wg := { s.wg with poison := insertNat s.wg.poison w } } else s
    if s.wg.poison.contains w then s.eccBad w
    else if err = 1 then { s with wg := { s.wg with single := s.wg.single.filter (· != w) } }.wgEvent 1
    else s.eccFix w

/-- [Assumption 18: DESIGN CHOICE, unsafe.] -/
def execPatrolScrub (addr : BitVec 34) (err : Fin 3) (s : State) : Host.Outcome State Fault Refusal := .next (s.scrub addr.toNat err)

/-! ### Bank power (R354) -/

/-- A Courtyard region covers part of bank `k` of general SRAM. -/
def State.bankReserved (s : State) (k : Nat) : Bool :=
  (s.items 0x0401).any (fun i => i.rgnTarget == 1 && i.rgnCourtyard != 0 &&
    decide (i.rgnBase < 0x10000000 + 0x20000 * (k + 1)) && decide (0x10000000 + 0x20000 * k < i.rgnBase + i.rgnSize))

/-- The contents of addresses from `lo` up to `hi` are lost, with their errors; what is powered on again is cleared (R79). -/
def State.clearMem (s : State) (lo hi : Nat) : State :=
  { s with
    mem := s.mem.filter (fun c => decide (c.1 < lo) || decide (hi ≤ c.1))
    wg := { s.wg with
      poison := s.wg.poison.filter (fun w => decide (8 * w < lo) || decide (hi ≤ 8 * w))
      single := s.wg.single.filter (fun w => decide (8 * w < lo) || decide (hi ≤ 8 * w))
      l1 := s.wg.l1.filter (fun l => decide (64 * l.line < lo) || decide (hi ≤ 64 * l.line))
      l2 := s.wg.l2.filter (fun l => decide (64 * l.line < lo) || decide (hi ≤ 64 * l.line)) } }

/-- WG_BANK_PWR: banks powered off lose their contents, those of Courtyards stay. -/
def State.bankWrite (s : State) (who : Who) (bytes : Nat) (w : Word) : State :=
  let old := (s.reg Rg.WG_BANK_PWR).toNat
  let off := (List.range 32).filter (fun k => tbit old k && !tbit w.toNat k)
  s.regWrite who bytes Rg.WG_BANK_PWR w false false (if off.any s.bankReserved then Code.SECURE_RESERVED else Code.DONE)
    (fun s => forAll off (fun s k => s.clearMem (0x10000000 + 0x20000 * k) (0x10000000 + 0x20000 * (k + 1))) s)

def execBankPowerWrite (who : Who) (w : Word) (s : State) : Host.Outcome State Fault Refusal := .next (s.bankWrite (s.issuer who) 4 w)

/-! ### Block reservations (R372 to R374) -/

/-- The district of a Courtyard. COURTYARD: ID, DISTRICT, CACHE, WAYS, BUDGET. -/
def State.cyItem (s : State) (c : Nat) : Option Item := s.item 0x0402 c
def State.cyDistrict (s : State) (c : Nat) : Nat := itemN (s.cyItem c) 1

/-- HELD of WG_RESERVE for a Courtyard, and BLOCKS of WG_RESV_STATUS. -/
def State.heldBlocks (s : State) (c : Nat) : Nat :=
  (List.range 8).foldl (fun n j => if s.wg.resv.contains (c, 8 + j) then n + 2 ^ j else n) 0
def State.reservedBlocks (s : State) : Nat :=
  (List.range 8).foldl (fun n j => if s.wg.resv.any (fun p => p.2 == 8 + j) then n + 2 ^ j else n) 0
/-- Block `n` is reserved by some Courtyard. -/
def State.reserved (s : State) (n : Nat) : Bool := s.wg.resv.any (fun p => p.2 == n)

/-- WG_RESERVE as a Courtyard reads it. -/
def State.reserveWord (s : State) (c : Nat) : Nat :=
  if c = 0 then 0
  else tget (fun _ => 0) s.wg.resvResult c * 65536 + s.heldBlocks c * 256 + tget (fun _ => 0) s.wg.resvBlock c

/-- The outcome of a request of Courtyard `c` (R372): NOT_OWNER of step 1 is the register's write right.
[Assumption 24: DEDUCED, unsafe.] -/
def State.reserveCode (s : State) (c op n : Nat) : Nat :=
  if n < 8 then Code.OUT_OF_RANGE
  else if !s.holdsBlock (s.cyDistrict c) n then Code.NOT_OWNER
  else if op = 1 ∧ s.gated n then Code.WRONG_STATE
  else Code.DONE

/-- A reservation ends (R374). -/
def State.unreserve (s : State) (c n : Nat) : State := { s with wg := { s.wg with resv := s.wg.resv.filter (· != (c, n)) } }

/-- A write to WG_RESERVE: each Courtyard has its own RESULT and BLOCK. [Assumption 24: DEDUCED, unsafe.] -/
def State.reserveWrite (s : State) (who : Who) (bytes : Nat) (w : Word) : State :=
  let c := who.courtyard.toNat
  let n := w.toNat % 16
  let op := w.toNat / 64 % 4
  s.regWrite who bytes Rg.WG_RESERVE w false (op == 0 || op == 3) Code.DONE (fun s =>
    let code := s.reserveCode c op n
    let s := s.setReg Rg.WG_RESERVE 0
    let s := { s with wg := { s.wg with
      resvResult := tset (fun _ => 0) s.wg.resvResult c code, resvBlock := tset (fun _ => 0) s.wg.resvBlock c n } }
    if code ≠ Code.DONE then s
    else if op = 2 then s.unreserve c n
    else if s.wg.resv.contains (c, n) then s
    else { s with wg := { s.wg with resv := s.wg.resv ++ [(c, n)] } })

def execReserve (who : Who) (block : BitVec 4) (s : State) : Host.Outcome State Fault Refusal :=
  .next (s.reserveWrite (s.issuer who) 4 (BitVec.ofNat 32 (64 + block.toNat)))
def execReservationRelease (who : Who) (block : BitVec 4) (s : State) : Host.Outcome State Fault Refusal :=
  .next (s.reserveWrite (s.issuer who) 4 (BitVec.ofNat 32 (128 + block.toNat)))

end Sys2Proof.Machine
end

