-- ==== Sys2Proof/Machine/Crypto.lean ====
section
/-! DEFINITION. The constructions of chapter 18 over the uninterpreted primitives of Config: HMAC (FIPS 198-1), CMAC (SP 800-38B), the KDF of
R394, the counter construction of R398. -/

namespace Sys2Proof.Machine

/-! ### CRC-32 (IEEE 802.3, as chapter 05 states it) -/

/-- One bit of the reflected polynomial 0x04C1_1DB7. -/
def crcBit (c : Nat) : Nat := if c % 2 = 1 then (c / 2) ^^^ 0xEDB88320 else c / 2

def crcByte (c : Nat) (b : Byte) : Nat :=
  crcBit (crcBit (crcBit (crcBit (crcBit (crcBit (crcBit (crcBit (c ^^^ b.toNat))))))))

/-- The CRC-32 of bytes: initial value and final XOR 0xFFFF_FFFF. -/
def crc32 (bs : List Byte) : Nat := (bs.foldl crcByte 0xFFFFFFFF) ^^^ 0xFFFFFFFF

/-! ### Cryptography -/

/-- A big-endian number of `n` bytes. -/
def beBytes (n v : Nat) : List Byte := (leBytes n v).reverse

/-- Exactly `n` bytes, zero beyond the end. -/
def fixLen (n : Nat) (l : List Byte) : List Byte := (List.range n).map (fun i => l.getD i 0)

def xorBytes (a b : List Byte) : List Byte := List.zipWith (· ^^^ ·) a b

/-- The 32 bytes of a SHA-256 digest. -/
def sha256 (m : List Byte) : List Byte := fixLen 32 (Config.sha256 m)

/-- HMAC-SHA-256 under a key of at most 64 bytes. -/
def hmac (key m : List Byte) : List Byte :=
  let k := fixLen 64 key
  sha256 (k.map (· ^^^ 0x5C#8) ++ sha256 (k.map (· ^^^ 0x36#8) ++ m))

/-- One AES block. -/
def aesBlock (key b : List Byte) : List Byte := (List.range 16).map (Config.aes key b)

/-- Doubling in GF(2^128), for the subkeys of CMAC. -/
def gfDouble (b : List Byte) : List Byte :=
  let v := beNat b
  beBytes 16 ((2 * v % 2 ^ 128) ^^^ (if 2 ^ 127 ≤ v then 0x87 else 0))

/-- The chained blocks of CMAC: `n` further blocks of `m` after the chaining value `x`; the last is masked with `k1` when whole, padded and
masked with `k2` otherwise. -/
def cmacChain (key k1 k2 : List Byte) (n : Nat) (x m : List Byte) : List Byte :=
  match n with
  | 0 =>
    let last := if m.length = 16 then xorBytes m k1 else xorBytes (fixLen 16 (m ++ [0x80#8])) k2
    aesBlock key (xorBytes x last)
  | n + 1 => cmacChain key k1 k2 n (aesBlock key (xorBytes x (m.take 16))) (m.drop 16)

/-- The 16-byte AES-CMAC of a message. -/
def cmac (key m : List Byte) : List Byte :=
  let k1 := gfDouble (aesBlock key (List.replicate 16 0))
  cmacChain key k1 (gfDouble k1) ((m.length - 1) / 16) (List.replicate 16 0) m

/-- The counter construction over `n` blocks (R398). -/
def ctrBlocks (key iv : List Byte) (c0 n : Nat) (data : List Byte) : List Byte :=
  match n with
  | 0 => []
  | n + 1 => xorBytes (data.take 16) (aesBlock key (iv ++ beBytes 4 c0)) ++ ctrBlocks key iv (c0 + 1) n (data.drop 16)

/-- The counter construction (R398). -/
def ctr (key iv : List Byte) (c0 : Nat) (data : List Byte) : List Byte := ctrBlocks key iv c0 ((data.length + 15) / 16) data

/-- The KDF in counter mode of R394 over Label ‖ 0x00 ‖ Context. -/
def kdf (key labelContext : List Byte) : List Byte := hmac key (beBytes 4 1 ++ labelContext ++ beBytes 4 256)

/-- The labels of Table 18-1 in ASCII, each with the 0x00 that follows it. -/
def axStore : List Byte := [0x41, 0x58, 0x2D, 0x53, 0x54, 0x4F, 0x52, 0x45, 0]
def axTag : List Byte := [0x41, 0x58, 0x2D, 0x54, 0x41, 0x47, 0]
def axWrapE : List Byte := [0x41, 0x58, 0x2D, 0x57, 0x52, 0x41, 0x50, 0x2D, 0x45, 0]
def axWrapM : List Byte := [0x41, 0x58, 0x2D, 0x57, 0x52, 0x41, 0x50, 0x2D, 0x4D, 0]
def axUnlock : List Byte := [0x41, 0x58, 0x2D, 0x55, 0x4E, 0x4C, 0x4F, 0x43, 0x4B, 0]

/-- The serial number. -/
def serial : List Byte := (List.range 16).map Config.serial

/-- ECDSA signature and public point, 64 bytes each. -/
def ecdsaSign (d digest : List Byte) (nonce : Nat) : List Byte := (List.range 64).map (Config.ecdsaSign d digest nonce)
def ecdsaPublic (d : List Byte) : List Byte := (List.range 64).map (Config.ecdsaPublic d)

end Sys2Proof.Machine
end

