-- ==== Sys2Proof/Machine/SwitchOps.lean ====
section
/-! DEFINITION. The switch's operations (chapters 05 and 06): ports, CRC-32, the forwarding database, hash pinning, Plaza's accounting,
and the frames and copies that wait in it. -/

namespace Sys2Proof.Machine

/-- `n` bytes from offset `off`. -/
def sl (bs : List Byte) (off n : Nat) : List Byte := (bs.drop off).take n

/-! ### Ports (Table 05-1) -/

/-- The rate of a port in kbit/s. -/
def portRate (p : Nat) : Nat :=
  if p < 2 then 10000000 else if p < 8 then 1000000 else if p < 16 then 100000 else if p < 18 then 10000
  else if p < 20 then 10000000 else if p = 20 then 2500000 else if p = 21 then 1000000 else 10000000

/-- RATE of SW_PORT_STATUS with link up. -/
def portRateCode (p : Nat) : Nat :=
  match portRate p with
  | 10000 => 1 | 100000 => 2 | 1000000 => 3 | 2500000 => 4 | _ => 5

/-- An Ethernet port (R110). -/
def isEthernet (p : Nat) : Bool := decide (p < 18) || p == 22

/-- A port that carries an R-TAG on egress, and where MACsec may run (R113, R134). -/
def isUplink (p : Nat) : Bool := p == 0 || p == 1 || p == 22

/-- The index m of a MACsec port (chapter 05, MACsec registers). -/
def msIndex (p : Nat) : Nat := if p = 22 then 2 else p

def State.linkUp (s : State) (p : Nat) : Bool := s.flag (Fd.SW_PORT_STATUS_LINK p)
def State.maxLen (s : State) (p : Nat) : Nat := s.rd (Fd.SW_PORT_CFG_MAXLEN p)
def State.macsecOn (s : State) (p : Nat) : Bool := isUplink p && s.flag (Fd.SW_PORT_CFG_MACSEC p)

/-- UPA and UPB form a CX group. -/
def State.cxGroup (s : State) : Bool := s.flag (Fd.SW_PORT_CFG_HASH_GROUP 0) && s.flag (Fd.SW_PORT_CFG_HASH_GROUP 1)

/-- PVID of a port (R100): the lowest VID among the VLAN items whose UNTAGGED holds it; 0 without one. VLAN fields: VID, MEMBERS,
UNTAGGED. -/
def State.pvid (s : State) (p : Nat) : Nat :=
  ((((s.items 0x0903).filter (fun i => tbit (i.n 2) p)).map (fun i => i.n 0)).min?).getD 0

def State.members_ (s : State) (vid : Nat) : Nat := itemN (s.item 0x0903 vid) 1
def State.untagged (s : State) (vid p : Nat) : Bool := tbit (itemN (s.item 0x0903 vid) 2) p

/-! ### Events and levels (R117, Table 17-1: 17 + p, 44) -/

def State.swLevel (s : State) (p : Nat) : State :=
  s.level (17 + p) ((s.rd (Fd.SW_EVENT_SAT_SAT p) &&& s.rd (Fd.SW_EVENT_SAT_IE p)) != 0
    || (s.rd (Fd.SQ_PORT_SAT_SAT p) &&& s.rd (Fd.SQ_PORT_SAT_IE p)) != 0
    || ((s.reg (Rg.SQ_Q_SAT p)).toNat &&& (s.reg (Rg.SQ_Q_IE p)).toNat) != 0)

/-- Event `c` of Table 05-5 on port `p`. -/
def State.swEvent (s : State) (p c : Nat) : State := (s.count (Rg.SW_EVENT p c) (Rg.SW_EVENT_SAT p) c).swLevel p

/-- SQ_Q_EVENT: 0 BUF_DROP, 1 AGED, 2 FLUSHED, 3 GATE_OVERSIZE. -/
def State.qEvent (s : State) (p tc c : Nat) : State := (s.count (Rg.SQ_Q_EVENT p tc c) (Rg.SQ_Q_SAT p) (4 * tc + c)).swLevel p

/-- A frame of `len` octets counts in SQ_TRAFFIC: `k` 0 received, 2 sent. -/
def State.traffic (s : State) (p k len : Nat) : State :=
  ((s.count64 (Rg.SQ_TRAFFIC_LO p k) (Rg.SQ_PORT_SAT p) k 1).count64 (Rg.SQ_TRAFFIC_LO p (k + 1)) (Rg.SQ_PORT_SAT p) (k + 1) len).swLevel p

/-! ### The forwarding database (R101 to R103) -/

/-- The bucket of a key. -/
def fdbBucket (mac vid : Nat) : Nat := crc32 (beBytes 6 mac ++ beBytes 2 vid) % 2048

def FdbEnt.bucket (e : FdbEnt) : Nat := fdbBucket e.mac e.vid
def FdbEnt.is (e : FdbEnt) (mac vid : Nat) : Bool := e.mac == mac && e.vid == vid

def State.fdbFind (s : State) (mac vid : Nat) : Option FdbEnt := s.sw.fdb.find? (fun e => e.is mac vid)
def State.setFdb (s : State) (l : List FdbEnt) : State := { s with sw := { s.sw with fdb := l } }
def State.fdbPut (s : State) (e : FdbEnt) : State := s.setFdb (s.sw.fdb.map (fun x => if x.is e.mac e.vid then e else x))

/-- A lookup that finds a learned entry is its last hit. [Assumption 61: DEDUCED, unsafe.] -/
def State.fdbHit (s : State) (mac vid : Nat) : State :=
  s.setFdb (s.sw.fdb.map (fun x => if x.is mac vid && !x.static then { x with hit := s.now } else x))

/-- A 16-bit counter of SW_FDB_STATS. -/
def State.fdbStat (s : State) (f : Fld) : State := s.wr f (min 0xFFFF (s.rd f + 1))

/-- The port mask that stands for a port in the database: both members of a CX group act as one port.
[Assumption 61: DEDUCED, unsafe.] -/
def State.samePort (s : State) (mask p : Nat) : Bool :=
  tbit mask p || (s.cxGroup && decide (p < 2) && (tbit mask 0 || tbit mask 1))

/-- Learning (R102). [Assumption 61: DEDUCED, unsafe.] -/
def State.learn (s : State) (mac vid p : Nat) : State :=
  match s.fdbFind mac vid with
  | some e =>
    let s := s.fdbHit mac vid
    if s.samePort e.ports p then s
    else if e.static then s.swEvent p 10
    else (s.fdbPut { e with ports := 2 ^ p, hit := s.now }).fdbStat Fd.SW_FDB_STATS_MOVE
  | none =>
    let b := fdbBucket mac vid
    let ways := s.sw.fdb.filter (fun e => e.bucket == b)
    let new : FdbEnt := ⟨mac, vid, 2 ^ p, false, s.now⟩
    if ways.length < 4 then s.setFdb (s.sw.fdb ++ [new])
    else
      match ((ways.filter (fun e => !e.static)).map (fun e => e.hit)).min? with
      | none => s.swEvent p 9
      | some h =>
        match ways.find? (fun e => !e.static && e.hit == h) with
        | none => s
        | some old =>
          (s.setFdb (s.sw.fdb.filter (fun e => !e.is old.mac old.vid) ++ [new])).fdbStat Fd.SW_FDB_STATS_LEARN_EVICT

/-! ### Hash pinning (R104, R105) -/

/-- The IP fields of the 53-byte key: PROTO, SIP, DIP, SPORT, DPORT, from what follows the EtherType. -/
def hashFields (etype : Nat) (ip : List Byte) : Nat × List Byte × List Byte × Nat × Nat :=
  if etype = 0x0800 then
    let proto := beNat (sl ip 9 1)
    let ihl := beNat (sl ip 0 1) % 16 * 4
    let frag := beNat (sl ip 6 2) % 0x4000
    let ports := (proto == 6 || proto == 17) && frag == 0
    (proto, leBytes 12 0 ++ sl ip 12 4, leBytes 12 0 ++ sl ip 16 4,
      if ports then beNat (sl ip ihl 2) else 0, if ports then beNat (sl ip (ihl + 2) 2) else 0)
  else if etype = 0x86DD then
    let proto := beNat (sl ip 6 1)
    let ports := proto == 6 || proto == 17
    (proto, sl ip 8 16, sl ip 24 16, if ports then beNat (sl ip 40 2) else 0, if ports then beNat (sl ip 42 2) else 0)
  else (0, leBytes 16 0, leBytes 16 0, 0, 0)

/-- The key of Table 05-3. -/
def hashKey (da sa vid etype : Nat) (ip : List Byte) : List Byte :=
  let (proto, sip, dip, sport, dport) := hashFields etype ip
  beBytes 6 da ++ beBytes 6 sa ++ beBytes 2 vid ++ beBytes 2 etype ++ beBytes 1 proto ++ sip ++ dip ++ beBytes 2 sport ++ beBytes 2 dport

/-- The value h. -/
def hashOf (key : List Byte) : Nat := let c := crc32 key; (c % 65536) ^^^ (c / 65536)

/-- The member of the group chosen for a frame, none without a candidate (R104). -/
def State.pin (s : State) (members h : Nat) : Option Nat :=
  let a := tbit members 0 && s.flag Fd.SW_HASH_CFG_CAND_UPA
  let b := tbit members 1 && s.flag Fd.SW_HASH_CFG_CAND_UPB
  match a, b with
  | true, true => some (h % 2)
  | true, false => some 0
  | false, true => some 1
  | false, false => none

/-! ### Plaza's accounting (R119 to R123). QUEUE: PORT, TC, POOL, GUARANTEE, AGE_LIMIT; POOL: POOL, MODE, ALPHA_LOG2, CELLS -/

def cells (len : Nat) : Nat := (len + 127) / 128

def State.queueItem (s : State) (p tc : Nat) : Option Item := s.item2 0x0802 p tc
def State.occ (s : State) (p tc : Nat) : Nat := s.rd (Fd.SQ_Q_OCC_OCC p tc)

/-- The QUEUE items of a pool. -/
def State.poolQueues (s : State) (k : Nat) : List Item := (s.items 0x0802).filter (fun i => i.n 2 == k && i.n 0 != 23)

/-- F_P of R120. -/
def State.poolFree (s : State) (k : Nat) : Int :=
  let q := s.poolQueues k
  let g : Nat := (q.map (fun i => i.n 3)).foldl (· + ·) 0
  let e : Nat := (q.map (fun i => s.occ (i.n 0) (i.n 1) - i.n 3)).foldl (· + ·) 0
  (itemN (s.item 0x0801 k) 3 : Int) - g - e

/-- A copy of `n` cells is admitted to egress queue (p, tc) (R119, R121). -/
def State.admits (s : State) (p tc n : Nat) : Bool :=
  match s.queueItem p tc with
  | none => false
  | some q =>
    let occ := s.occ p tc
    let e := occ - q.n 3
    let d := (occ + n - q.n 3) - e
    let want : Int := Int.ofNat (e + d)
    let f := s.poolFree (q.n 2)
    let pool := s.item 0x0801 (q.n 2)
    let alpha := signed 8 (itemN pool 2)
    d == 0 || (decide ((d : Int) ≤ f) &&
      (itemN pool 1 == 0 ||
        (if 0 ≤ alpha then decide (want ≤ f * ((2 ^ alpha.toNat : Nat) : Int))
         else decide (want * ((2 ^ (-alpha).toNat : Nat) : Int) ≤ f))))

/-- SQ_Q_OCC and SQ_POOL_STATUS follow a charge. -/
def State.setOcc (s : State) (p tc n : Nat) : State :=
  let s := s.wr (Fd.SQ_Q_OCC_OCC p tc) n
  let s := s.wr (Fd.SQ_Q_OCC_HWM p tc) (max n (s.rd (Fd.SQ_Q_OCC_HWM p tc)))
  match s.queueItem p tc with
  | none => s
  | some q =>
    if p = 23 then s
    else
      let used := ((s.poolQueues (q.n 2)).map (fun i => s.occ (i.n 0) (i.n 1))).foldl (· + ·) 0
      let s := s.wr (Fd.SQ_POOL_STATUS_USED (q.n 2)) used
      s.wr (Fd.SQ_POOL_STATUS_HWM (q.n 2)) (max used (s.rd (Fd.SQ_POOL_STATUS_HWM (q.n 2))))

def State.charge (s : State) (p tc n : Nat) : State := s.setOcc p tc (s.occ p tc + n)
def State.release (s : State) (p tc n : Nat) : State := s.setOcc p tc (s.occ p tc - n)

/-- The cells that an endpoint occupies change, and with them the resize that waits for them (R152, R165).
[Assumption 65: DEDUCED, unsafe.] -/
def State.epOcc (s : State) (e n : Nat) : State := s.setEp e { s.epAt e with occ := n }

/-! ### Frames and copies -/

def State.setFrames (s : State) (l : List SwFrame) : State := { s with sw := { s.sw with frames := l } }
def State.setCopies (s : State) (l : List SwCopy) : State := { s with sw := { s.sw with copies := l } }
def State.frameOf (s : State) (c : SwCopy) : Option SwFrame := s.sw.frames.find? (fun f => f.id == c.frame)
def State.putFrame (s : State) (f : SwFrame) : State := s.setFrames (s.sw.frames.map (fun x => if x.id == f.id then f else x))
def State.putCopy (s : State) (c : SwCopy) : State := s.setCopies (s.sw.copies.map (fun x => if x.n == c.n then c else x))

/-- Frames without a copy leave Plaza once they have ended. -/
def State.sweepFrames (s : State) : State :=
  s.setFrames (s.sw.frames.filter (fun f => !f.ended || s.sw.copies.any (fun c => c.frame == f.id)))

/-- The charge of a copy is released (R120): of its egress queue, and of its endpoint behind EPE. -/
def State.releaseCopy (s : State) (c : SwCopy) : State :=
  let s := s.release c.out c.tc c.charge
  let s := if c.out = 23 then s.epOcc c.ep ((s.epAt c.ep).occ - c.charge) else s
  s.putCopy { c with charge := 0 }

/-- A copy leaves Plaza: its charge, its connection and its place. -/
def State.dropCopy (s : State) (c : SwCopy) : State :=
  let s := s.releaseCopy c
  { s with sw := { s.sw with copies := s.sw.copies.filter (fun x => x.n != c.n), conns := s.sw.conns.filter (fun k => k.2 != c.n) } }

/-- The copy holds a connection. -/
def State.connected (s : State) (c : SwCopy) : Bool := s.sw.conns.any (fun k => k.2 == c.n)

/-- The copy waits at its input: nothing of it has crossed. -/
def State.queued (s : State) (c : SwCopy) : Bool := c.joined && c.crossed == 0 && !s.connected c && !c.done

/-- The heads of the virtual output queues (R106): the first waiting copy of each input, output and class. -/
def headsIn (l : List SwCopy) : List SwCopy :=
  l.foldl (fun hs c => if hs.any (fun h => h.inp == c.inp && h.out == c.out && h.tc == c.tc) then hs else hs ++ [c]) []
def State.heads (s : State) : List SwCopy := headsIn (s.sw.copies.filter s.queued)

/-- The bytes of a frame on an egress port (R100, R134), without padding and FCS: addresses, 802.1Q tag, R-TAG, payload. -/
def State.rawBytes (s : State) (f : SwFrame) (p : Nat) : List Byte :=
  let tag := if s.untagged f.vid p then [] else beBytes 2 0x8100 ++ beBytes 2 (f.pcp * 8192 + f.dei * 4096 + f.vid)
  let rtag := match f.seq with
    | some n => if isUplink p then beBytes 2 0xF1C1 ++ beBytes 2 0 ++ beBytes 2 n else []
    | none => []
  beBytes 6 f.da ++ beBytes 6 f.sa ++ tag ++ rtag ++ f.payload

/-- The bytes of a frame on an egress port, without FCS, padded to 60. [Assumption 75: DEDUCED, unsafe.] -/
def State.outBytes (s : State) (f : SwFrame) (p : Nat) : List Byte :=
  let body := s.rawBytes f p
  body ++ List.replicate (60 - body.length) 0

/-- L of R129: the length on the egress port, FCS and MACsec bytes included; before its end, the ingress MAXLEN stands for the frame.
[Assumption 75: DEDUCED, unsafe.] -/
def State.outLen (s : State) (f : SwFrame) (p : Nat) : Nat :=
  let ms := if s.macsecOn p then 32 else 0
  if f.ended then (s.outBytes f p).length + 4 + ms
  else s.maxLen f.inp + (if f.tagged || s.untagged f.vid p then 0 else 4) + (if f.seq.isSome && isUplink p then 6 else 0) + ms

/-- The age of a frame exceeds the AGE_LIMIT of an egress queue (R124). [Assumption 97: DEDUCED, unsafe.] -/
def State.aged (s : State) (f : SwFrame) (p tc : Nat) : Bool :=
  match s.queueItem p tc with
  | none => false
  | some q => decide (q.n 4 < (s.vt + 2 ^ 32 - f.stamp % 2 ^ 32) % 2 ^ 32)

end Sys2Proof.Machine
end

