-- ==== Sys2Proof/Machine/MirrorMaps.lean ====
section
/-! DEFINITION. Shopfront's geometry: the timing grid, dewarp maps and their checks (R173, R175, R176, R179, R181 to R184). -/

namespace Sys2Proof.Machine

def State.camera (s : State) (c : Nat) : Cam := tget (fun _ => Cam.reset) s.sf.cam c
def State.setCam (s : State) (c : Nat) (x : Cam) : State :=
  { s with sf := { s.sf with cam := tset (fun _ => Cam.reset) s.sf.cam c x } }
def State.view (s : State) (i : Nat) : SView := tget (fun _ => SView.reset) s.sf.view i
def State.setView (s : State) (i : Nat) (x : SView) : State :=
  { s with sf := { s.sf with view := tset (fun _ => SView.reset) s.sf.view i x } }
def State.plane (s : State) (j : Nat) : Plane := tget (fun _ => Plane.reset) s.sf.plane j
def State.setPlane (s : State) (j : Nat) (x : Plane) : State :=
  { s with sf := { s.sf with plane := tset (fun _ => Plane.reset) s.sf.plane j x } }
def State.dsp (s : State) (d : Nat) : Dsp := tget (fun _ => Dsp.reset) s.sf.dsp d
def State.setDsp (s : State) (d : Nat) (x : Dsp) : State :=
  { s with sf := { s.sf with dsp := tset (fun _ => Dsp.reset) s.sf.dsp d x } }
/-- The line in a ring slot of camera `c`. -/
def State.ring (s : State) (c slot : Nat) : CamLine := tget (fun _ => CamLine.none_) s.sf.lines (c * 128 + slot)

/-! ### Plan items (Table 02-3): CAMERA: CAM, FPS, WIDTH, HEIGHT; DISPLAY: DSP, HZ, WIDTH, HEIGHT, LATENCY; VIEW: DSP, VIEW, CAM, MAP, X,
Y, W, H, STALE; MAP: MAP, FILTER, SPAN, IMAGE_ID; OVERLAY: DSP, PLANE, IMAGE_ID; PAN: DSP, VIEW, RATE, MIN, MAX -/

def State.camItem (s : State) (c : Nat) : Option Item := s.item 0x0B01 c
def State.dspItem (s : State) (d : Nat) : Option Item := s.item 0x0B02 d
def State.viewItem (s : State) (i : Nat) : Option Item := s.item2 0x0B03 (i / 4) (i % 4)
def State.mapItem (s : State) (i : Nat) : Option Item := s.item 0x0B04 (itemN (s.viewItem i) 3)
def State.panItem (s : State) (i : Nat) : Option Item := s.item2 0x0B06 (i / 4) (i % 4)

def State.camFps (s : State) (c : Nat) : Nat := itemN (s.camItem c) 1
/-- [Assumption 100: PRESUMED, unsafe.] -/
def State.camWidth (s : State) (c : Nat) : Nat := itemN (s.camItem c) 2
def State.camHeight (s : State) (c : Nat) : Nat := itemN (s.camItem c) 3
def State.dspHz (s : State) (d : Nat) : Nat := itemN (s.dspItem d) 1
def State.dspWidth (s : State) (d : Nat) : Nat := itemN (s.dspItem d) 2
def State.dspHeight (s : State) (d : Nat) : Nat := itemN (s.dspItem d) 3
def State.viewCam (s : State) (i : Nat) : Nat := itemN (s.viewItem i) 2
def State.viewX (s : State) (i : Nat) : Nat := itemN (s.viewItem i) 4
def State.viewY (s : State) (i : Nat) : Nat := itemN (s.viewItem i) 5
def State.viewW (s : State) (i : Nat) : Nat := itemN (s.viewItem i) 6
def State.viewH (s : State) (i : Nat) : Nat := itemN (s.viewItem i) 7
/-- MIN or MAX of the PAN item; 0 without one. -/
def State.panBound (s : State) (i k : Nat) : Int :=
  match s.panItem i with
  | some p => signed 16 (p.n k)
  | none => 0

/-- The views of a display, and of a camera, that the plan configures, ascending. -/
def State.viewsOf (s : State) (d : Nat) : List Nat := ((List.range 4).map (4 * d + ·)).filter (fun i => (s.viewItem i).isSome)
def State.viewsOfCam (s : State) (c : Nat) : List Nat :=
  (List.range 8).filter (fun i => (s.viewItem i).isSome && s.viewCam i == c)

/-! ### The grid -/

/-- C(j) of a camera (R173), in ns. -/
def State.gridC (s : State) (c j : Nat) : Nat := j * 1000000000 / s.camFps c
/-- S(k) of a display (R173), in ns. -/
def State.gridS (s : State) (d k : Nat) : Nat := k * 1000000000 / s.dspHz d + itemN (s.dspItem d) 4 * 1000
/-- The line period LP in SFT clocks (R176); an SFT clock is 5/3 ns. -/
def State.lp (s : State) (d : Nat) : Nat := 600000000 / (s.dspHz d * (s.dspHeight d + 24))
/-- `n` SFT clocks in ns. -/
def clkNs (n : Nat) : Nat := n * 5 / 3
/-- E(j, L) − C(j) of a camera (R175). -/
def State.lineNs (s : State) (c l : Nat) : Nat :=
  s.rd (Fd.SF_CAM_TIMING_FIRST_US c) * 1000 + l * s.rd (Fd.SF_CAM_TIMING_LINE_NS c)
/-- The least n with f n at least t, for a grid of `rate` points a second with offset `off`. -/
def gridFrom (rate off t : Nat) : Nat :=
  let n := (t - off) * rate / 1000000000
  if t ≤ n * 1000000000 / rate + off then n else n + 1

/-! ### Maps (Table 08-4) -/

/-- [Assumption 102: DEDUCED, unsafe.] -/
def mapCols (m : List Byte) : Nat := leNat (sl m 0x0E 2)
def mapRows (m : List Byte) : Nat := leNat (sl m 0x10 2)
def mapGain (m : List Byte) : Int := signed 32 (leNat (sl m 0x14 4))
/-- X and Y of a vertex, in 16.16 pixels. -/
def mapX (m : List Byte) (i j : Nat) : Nat := leNat (sl m (0x20 + 8 * (j * mapCols m + i)) 4)
def mapY (m : List Byte) (i j : Nat) : Nat := leNat (sl m (0x24 + 8 * (j * mapCols m + i)) 4)

/-- The interpolation of R182 over a mesh of vertex values. -/
def meshAt (f : Nat → Nat → Nat) (u v : Nat) : Nat :=
  let i := u / 32
  let j := v / 32
  let fx := u % 32
  let fy := v % 32
  ((32 - fx) * (32 - fy) * f i j + fx * (32 - fy) * f (i + 1) j + (32 - fx) * fy * f i (j + 1) + fx * fy * f (i + 1) (j + 1)) / 1024

/-- SX and SY of a view pixel (R182). -/
def mapSX (m : List Byte) (theta : Int) (u v : Nat) : Int := (meshAt (mapX m) u v : Int) + theta * mapGain m
def mapSY (m : List Byte) (u v : Nat) : Nat := meshAt (mapY m) u v

/-- The first and last tap line of a source coordinate, before clamping (R183). -/
def tapLow (filter sy : Nat) : Int := ((sy / 65536 : Nat) : Int) - (if filter = 1 then 1 else 0)
def tapHigh (filter sy : Nat) : Nat := sy / 65536 + (if filter = 1 then 2 else 1)

/-- The smallest and the greatest of a list of numbers. -/
def listMin (l : List Nat) : Nat := l.tail.foldl min (l.headD 0)
def listMax (l : List Nat) : Nat := l.foldl max 0

/-- The view rows of a display slice: first and last, where the slice intersects the view. -/
def State.sliceRows (s : State) (i sl : Nat) : Option (Nat × Nat) :=
  let y := s.viewY i
  let lo := max (16 * sl) y
  let hi := min (16 * sl + 15) (y + s.viewH i - 1)
  if lo ≤ hi ∧ 0 < s.viewH i then some (lo - y, hi - y) else none

/-- The source window of view rows `v0` to `v1` (R183): the extremes lie at vertex columns on the first or last row. -/
def State.window (s : State) (i : Nat) (m : List Byte) (v0 v1 : Nat) : Nat × Nat :=
  let filter := itemN (s.mapItem i) 1
  let top := s.camHeight (s.viewCam i) - 1
  let ys := (List.range (mapCols m)).flatMap (fun c => [mapSY m (32 * c) v0, mapSY m (32 * c) v1])
  (min top (tapLow filter (listMin ys)).toNat, min top (tapHigh filter (listMax ys)))

/-- A failed check: its code and the display slice, 0xFFFF when none is concerned. -/
abbrev MapFail := Option (Nat × Nat)

/-- Check 1 of R184. -/
def mapFormatOk (m : List Byte) : Bool :=
  let n := mapCols m * mapRows m
  leNat (sl m 0 4) == 0x50414D53 && leNat (sl m 4 2) == 1 && leNat (sl m 0x12 2) == 0 && leNat (sl m 0x1C 4) == 0 &&
  m.length == 32 + 8 * n && decide (m.length ≤ 16384) && leNat (sl m 0x18 4) == crc32 (m.drop 0x20)

/-- Check 2 of R184. -/
def State.mapShapeOk (s : State) (i : Nat) (m : List Byte) : Bool :=
  let c := s.viewCam i
  leNat (sl m 6 2) == s.viewW i && leNat (sl m 8 2) == s.viewH i && leNat (sl m 0xA 2) == s.camWidth c &&
  leNat (sl m 0xC 2) == s.camHeight c && mapCols m == (s.viewW i + 31) / 32 + 1 && mapRows m == (s.viewH i + 31) / 32 + 1

/-- Check 3 of R184. [Assumption 102: DEDUCED, unsafe.] -/
def State.mapRangeOk (s : State) (i : Nat) (m : List Byte) : Bool :=
  let c := s.viewCam i
  let xTop : Int := ((s.camWidth c - 1) * 65536 : Nat)
  (List.range (mapRows m)).all (fun j => (List.range (mapCols m)).all (fun k =>
    decide (mapY m k j ≤ (s.camHeight c - 1) * 65536) &&
    [s.panBound i 3, s.panBound i 4].all (fun t =>
      let x := (mapX m k j : Int) + t * mapGain m
      decide (0 ≤ x) && decide (x ≤ xTop))))

/-- Check 4 of R184 for one slice, on frame 0 of the grid; times in thirds of a nanosecond. [Assumption 102: DEDUCED, unsafe.] -/
def State.mapSliceFail (s : State) (i : Nat) (m : List Byte) (sl : Nat) : MapFail :=
  match s.sliceRows i sl with
  | none => none
  | some (v0, v1) =>
    let d := i / 4
    let c := s.viewCam i
    let (a, b) := s.window i m v0 v1
    let t := 80 * s.lp d
    let start := 3 * s.gridS d 0 + sl * t
    let e := fun (f l : Nat) => 3 * (s.gridC c f + s.lineNs c l)
    let n := a + 128
    let h := s.camHeight c
    if itemN (s.mapItem i) 2 < b - a + 1 then some (Code.MAP_SPAN, sl)
    else if start < e 0 b + 30000 then some (Code.MAP_LATE, sl)
    else if e 0 a + 9600000 < start + 2 * t + 30000 then some (Code.MAP_OLD, sl)
    else if e (n / h) (n % h) < start + t + 30000 then some (Code.MAP_OVERRUN, sl)
    else none

/-- The first of the slices of a list that fails. -/
def State.mapSlicesFail (s : State) (i : Nat) (m : List Byte) (l : List Nat) : MapFail :=
  match l with
  | [] => none
  | x :: rest =>
    match s.mapSliceFail i m x with
    | some f => some f
    | none => s.mapSlicesFail i m rest

/-- The checks of R184, stopping at the first failure. -/
def State.mapCheck (s : State) (i : Nat) (m : List Byte) : MapFail :=
  if !mapFormatOk m then some (Code.MAP_FORMAT, 0xFFFF)
  else if !s.mapShapeOk i m then some (Code.MAP_SHAPE, 0xFFFF)
  else if !s.mapRangeOk i m then some (Code.MAP_RANGE, 0xFFFF)
  else s.mapSlicesFail i m (List.range (s.dspHeight (i / 4) / 16))

/-- The plan map of a view in the running bank (R181, R192); an absent image fails as MAP_FORMAT (R419), as no bytes do. -/
def State.planMap (s : State) (i : Nat) : List Byte :=
  match s.findImage s.runningBank 6 (itemN (s.mapItem i) 3) with
  | some e => s.imageOf s.runningBank e
  | none => []

/-- The last failed check in SF_LOAD_FAIL (R196). -/
def State.loadFail (s : State) (code slice : Nat) (overlay : Bool) (i : Nat) : State :=
  s.setReg Rg.SF_LOAD_FAIL (BitVec.ofNat 32
    (code * 65536 + (min slice 0xFF) * 256 + (if overlay then 16 else 0) + (i / 4) * 4 + i % 4))

end Sys2Proof.Machine
end

