-- ==== Sys2Proof/Machine/MirrorPixels.lean ====
section
/-! DEFINITION. Shopfront's pixels: interpolation (R183), overlays (R186, R187), patterns (R197, R198) and composition (R185). -/

namespace Sys2Proof.Machine

/-! ### The view pixel -/

/-- Rounding to nearest (R183); halfway values go as the constant `Config.halfUp` says. [Assumption 101: DESIGN CHOICE, safe.] -/
def roundDiv (n : Int) (d : Nat) : Int :=
  let q := n / (d : Int)
  let r := n % (d : Int)
  if 2 * r < d ∨ (2 * r = d ∧ !Config.halfUp) then q else q + 1

/-- A value clamped to 0 to 255. -/
def clamp8 (v : Int) : Nat := (max 0 (min 255 v)).toNat

/-- The index of a tap, replaced by the nearest edge. -/
def edge (v : Int) (n : Nat) : Nat := min (n - 1) v.toNat

/-- The weights of the taps, over a denominator of 2^8 (bilinear) or 2^25 (Catmull-Rom, a = −0.5), for a fraction of 8 bits, with the
offset of the first tap (R183). -/
def tapWeights (filter w : Nat) : List (Int × Int) :=
  let t : Int := w
  if filter = 1 then
    [(-1, -t * t * t + 512 * t * t - 65536 * t),
     (0, 3 * t * t * t - 1280 * t * t + 33554432),
     (1, -3 * t * t * t + 1024 * t * t + 65536 * t),
     (2, t * t * t - 256 * t * t)]
  else [(0, 256 - t), (1, t)]

/-- The denominator of one direction. -/
def tapDen (filter : Nat) : Nat := if filter = 1 then 33554432 else 256

/-- A sample interpolated at (x, y) in 16.16 from a grid of `w` columns and `h` lines. -/
def sampleAt (filter : Nat) (px : Nat → Nat → Nat) (w h : Nat) (x : Int) (y : Nat) : Nat :=
  let xi := x / 65536
  let yi : Int := ((y / 65536 : Nat) : Int)
  let sum := (tapWeights filter (y % 65536 / 256)).foldl (fun acc p =>
    acc + p.2 * ((tapWeights filter ((x % 65536).toNat / 256)).foldl (fun b q =>
      b + q.2 * (px (edge (xi + q.1) w) (edge (yi + p.1) h) : Int)) 0)) 0
  clamp8 (roundDiv sum (tapDen filter * tapDen filter))

/-- Y, Cb and Cr of a column of a line in YUV422 8-bit order (U, Y, V, Y). [Assumption 100: PRESUMED, unsafe.] -/
def lumaOf (px : List Byte) (x : Nat) : Nat := (px.getD (2 * x + 1) 0).toNat
/-- [Assumption 100: PRESUMED, unsafe.] -/
def cbOf (px : List Byte) (x : Nat) : Nat := (px.getD (4 * x) 0).toNat
/-- [Assumption 100: PRESUMED, unsafe.] -/
def crOf (px : List Byte) (x : Nat) : Nat := (px.getD (4 * x + 2) 0).toNat

/-- The ring slot that holds line `l` of frame `j` of a camera. -/
def State.slotOf (s : State) (c j l : Nat) : Option CamLine :=
  (s.sf.lines.find? (fun p => p.1 / 128 == c && p.2.frame == some j && p.2.line == l)).map (·.2)

/-- The bytes of a camera line, empty where no slot holds it. [Assumption 100: PRESUMED, unsafe.] -/
def State.linePx (s : State) (c j l : Nat) : List Byte :=
  match s.slotOf c j l with
  | some x => x.px
  | none => []

/-- θ of a view (R191). -/
def State.theta (s : State) (i : Nat) : Int := signed 16 (s.rd (Fd.SF_VIEW_STATE_ANGLE i))

/-- Y, Cb and Cr of a view pixel (R182, R183). -/
def State.viewYcc (s : State) (i frame u v : Nat) : Nat × Nat × Nat :=
  let c := s.viewCam i
  let m := (s.view i).map
  let f := itemN (s.mapItem i) 1
  let x := mapSX m (s.theta i) u v
  let y := mapSY m u v
  let w := s.camWidth c
  let h := s.camHeight c
  let at_ := fun (get : List Byte → Nat → Nat) (a b : Nat) => get (s.linePx c frame b) a
  (sampleAt f (at_ lumaOf) w h x y, sampleAt f (at_ cbOf) (w / 2) h (x / 2) y, sampleAt f (at_ crOf) (w / 2) h (x / 2) y)

/-- RGB of a view pixel (step 2 of R185). -/
def State.viewPixel (s : State) (i frame u v : Nat) : Nat × Nat × Nat :=
  let p := s.viewYcc i frame u v
  let yy : Int := p.1
  let cb : Int := p.2.1
  let cr : Int := p.2.2
  let l := 298 * (yy - 16) + 128
  (clamp8 ((l + 459 * (cr - 128)) / 256), clamp8 ((l - 55 * (cb - 128) - 136 * (cr - 128)) / 256), clamp8 ((l + 541 * (cb - 128)) / 256))

/-! ### Overlays (Table 08-5) -/

/-- The overlay header of a display meets Table 08-5. -/
def State.ovlHdrOk (s : State) (d : Nat) (h : List Byte) : Bool :=
  leNat (sl h 0 4) == 0x4C564F53 && leNat (sl h 4 2) == s.dspWidth d && leNat (sl h 6 2) == s.dspHeight d &&
  leNat (sl h 8 2) == s.dspHeight d / 16 && leNat (sl h 0xA 2) == 0 && decide (leNat (sl h 0xC 4) ≤ 0x100000)

/-- The bytes of a header: palette and slice offsets with it. -/
def State.ovlHdrLen (s : State) (d : Nat) : Nat := 0x50 + 4 * (s.dspHeight d / 16)

/-- The palette indices of one line from runs of u16, with the bytes left over; none where the runs break R186. -/
def ovlLine (bs : List Byte) (left fuel : Nat) : Option (List Nat × List Byte) :=
  match left, fuel with
  | 0, _ => some ([], bs)
  | _, 0 => none
  | left, fuel + 1 =>
    match bs with
    | lo :: hi :: rest =>
      let w := lo.toNat + 256 * hi.toNat
      let n := w % 4096
      if n = 0 ∨ left < n then none
      else
        match ovlLine rest (left - n) fuel with
        | some (l, r) => some (List.replicate n (w / 4096) ++ l, r)
        | none => none
    | _ => none

/-- The 16 lines of a slice; nothing is left over. -/
def ovlLines (bs : List Byte) (w n : Nat) : Option (List (List Nat)) :=
  match n with
  | 0 => if bs.isEmpty then some [] else none
  | n + 1 =>
    match ovlLine bs w w with
    | some (l, rest) =>
      match ovlLines rest w n with
      | some ls => some (l :: ls)
      | none => none
    | none => none

/-- What the fetch of a plane's slice gives (R187): off, transparent and late, transparent and bad, or the lines. -/
inductive OvlSlice where
  | off
  | late
  | bad
  | lines (l : List (List Nat))
  deriving DecidableEq, Repr

/-- The overlay base in force (R196). -/
def State.ovlBase (s : State) (j : Nat) : Nat :=
  (s.reg (Rg.SF_OVL_BASE_LO j)).toNat + 2 ^ 32 * s.rd (Fd.SF_OVL_BASE_HI_ADDR_HI j)

/-- Where the data of slice `sl` of a plane stand: their address and length (R186). -/
def State.ovlRange (s : State) (j sl : Nat) : Nat × Nat :=
  let h := (s.plane j).hdr
  let n := leNat (Sys2Proof.Machine.sl h 8 2)
  let off := fun (k : Nat) => if k < n then leNat (Sys2Proof.Machine.sl h (0x50 + 4 * k) 4) else leNat (Sys2Proof.Machine.sl h 0xC 4)
  (s.ovlBase j + off sl, off (sl + 1) - off sl)

/-- The data of slice `sl` of a plane (R186, R187). [Assumption 21: DEDUCED, unsafe. Assumption 108: DEDUCED, unsafe.] -/
def State.ovlFetch (s : State) (j sl : Nat) (late : Bool) : OvlSlice :=
  if (s.plane j).hdr.isEmpty then .off
  else if late then .late
  else
    let r := s.ovlRange j sl
    if !(s.shopFetch r.1 r.2).2 then .bad
    else
      match ovlLines (s.bytes r.1 r.2) (s.dspWidth (j / 4)) 16 with
      | some l => .lines l
      | none => .bad

/-- A plane pixel over an underlying colour (R185). -/
def blend (a p u : Nat) : Nat := (a * p + (255 - a) * u + 127) / 255

/-- The pixel (x, y of the slice) with one plane laid over it. -/
def layPlane (h : List Byte) (o : OvlSlice) (x y : Nat) (u : Nat × Nat × Nat) : Nat × Nat × Nat :=
  match o with
  | .lines l =>
    let k := (l.getD y []).getD x 0
    let argb := leNat (sl h (0x10 + 4 * k) 4)
    let a := getBits argb 31 24
    (blend a (getBits argb 23 16) u.1, blend a (getBits argb 15 8) u.2.1, blend a (getBits argb 7 0) u.2.2)
  | _ => u

/-! ### Patterns and markers (Table 09-1) -/

def faultPixel (u v : Nat) : Nat × Nat × Nat := if (u + v) / 32 % 2 = 0 then (96, 96, 96) else (0, 0, 0)
def blankPixel : Nat × Nat × Nat := (32, 32, 32)

/-- (u, v) lies in the band of 8 pixels inside the edges of an area. -/
def inBand (u v w h : Nat) : Bool := decide (u < 8) || decide (v < 8) || decide (w < u + 9) || decide (h < v + 9)

/-- The state of a view in force (SF_INTEG_STATE.VIEWS): 0 OK, 1 MARK, 2 BLANK, 3 FAULT. -/
def State.viewSt (s : State) (i : Nat) : Nat := s.rd (Fd.SF_INTEG_STATE_VIEWS (i / 4)) / 4 ^ (i % 4) % 4

/-- The whole active area is blank (case 1 of R198; FORCE_BLANK in force). [Assumption 106: DEDUCED, unsafe.] -/
def State.dspBlank (s : State) (d : Nat) : Bool := decide (2 ≤ s.rd (Fd.SF_INTEG_STATE_DSTATE d)) || tbit (s.dsp d).force 1

/-- The display marker is laid (R198). [Assumption 106: DEDUCED, unsafe.] -/
def State.dspMarked (s : State) (d : Nat) : Bool :=
  s.rd (Fd.SF_INTEG_STATE_DSTATE d) != 0 || (s.dsp d).force != 0

/-- The frame of a view's camera that the slice uses. -/
def partFrame (l : List Part) (i : Nat) : Nat :=
  match l.find? (fun p => p.view == i) with
  | some p => p.frame
  | none => 0

/-- View `i` covers display pixel (x, y). -/
def State.viewCovers (s : State) (i x y : Nat) : Bool :=
  decide (s.viewX i ≤ x) && decide (x < s.viewX i + s.viewW i) && decide (s.viewY i ≤ y) && decide (y < s.viewY i + s.viewH i)

/-- One pixel of a display slice (R185, R198): (x, y) on the display. [Assumption 106: DEDUCED, unsafe.] -/
def State.compose (s : State) (d : Nat) (views : List Nat) (planes : List (List Byte × OvlSlice)) (x y : Nat) : Nat × Nat × Nat :=
  let dd := s.dsp d
  let base := if s.dspBlank d then blankPixel
    else views.foldl (fun p i =>
      if s.viewCovers i x y then
        let u := x - s.viewX i
        let v := y - s.viewY i
        if s.viewSt i = 3 ∨ dd.fills.contains i then faultPixel u v
        else if s.viewSt i = 2 then blankPixel
        else s.viewPixel i (partFrame dd.parts i) u v
      else p) (0, 0, 0)
  let laid := if s.dspBlank d then base else planes.foldl (fun p o => layPlane o.1 o.2 x (y % 16) p) base
  let marked := views.foldl (fun p i =>
    if (s.viewSt i = 1 ∨ s.viewSt i = 2) ∧ s.viewCovers i x y ∧ inBand (x - s.viewX i) (y - s.viewY i) (s.viewW i) (s.viewH i)
    then (255, 191, 0) else p) laid
  if s.dspMarked d && inBand x y (s.dspWidth d) (s.dspHeight d) then (255, 0, 0) else marked

/-- R, G and B of the 16 lines of a slice, pixel by pixel and line by line. -/
def State.composeSlice (s : State) (d sl : Nat) : List Byte :=
  let views := s.viewsOf d
  let planes := (List.range 4).map (fun p => ((s.plane (4 * d + p)).hdr, s.ovlFetch (4 * d + p) sl (tbit (s.dsp d).late p)))
  (List.range 16).flatMap (fun r => (List.range (s.dspWidth d)).flatMap (fun x =>
    let p := s.compose d views planes x (16 * sl + r)
    [BitVec.ofNat 8 p.1, BitVec.ofNat 8 p.2.1, BitVec.ofNat 8 p.2.2]))

end Sys2Proof.Machine
end

