-- ==== Sys2Proof/Machine/MirrorCams.lean ====
section
/-! DEFINITION. Shopfront's cameras: triggers, frames, lines, faults, the I2C tunnel and power over coax (R171, R173 to R178, R199,
R202 to R205). -/

namespace Sys2Proof.Machine

/-- MIRROR is powered: the device is Active, and neither reduced function nor a gate has taken it off (R16, R71, R194). -/
def State.mirrorOn (s : State) : Bool := s.dev == .active && !s.gated 10

/-! ### Sources and counters of the SF_ block (Table 17-1) -/

/-- Source 73: a SAT bit under its enable. -/
def State.sfLevel (s : State) : State :=
  s.level 73 ((s.reg Rg.SF_EVENT_SAT &&& s.reg Rg.SF_EVENT_IE) != 0 || (s.rd Fd.SF_DSP_SAT_SAT &&& s.rd Fd.SF_DSP_SAT_IE) != 0
    || (s.reg Rg.SF_INTEG_SAT &&& s.reg Rg.SF_INTEG_IE) != 0)
/-- Source 67 + c: a recorded fault cause of camera c. -/
def State.camLevel (s : State) (c : Nat) : State := s.level (67 + c) (s.rd (Fd.SF_CAM_FAULT_CAUSE c) != 0)
/-- Source 71 + d: a display state other than OK, or the monitor absent. -/
def State.dspLevel (s : State) (d : Nat) : State :=
  s.level (71 + d) (s.rd (Fd.SF_INTEG_STATE_DSTATE d) != 0 || s.flag (Fd.SF_INTEG_STATE_MON_ABSENT d))

def State.viewEvent (s : State) (i c : Nat) : State := (s.count (Rg.SF_VIEW_EVENT i c) Rg.SF_EVENT_SAT (4 * i + c)).sfLevel
def State.dspEvent (s : State) (d c : Nat) : State := (s.count (Rg.SF_DSP_EVENT d c) Rg.SF_DSP_SAT (2 * d + c)).sfLevel
def State.integEvent (s : State) (k : Nat) : State := (s.count (Rg.SF_INTEG_EVENT k) Rg.SF_INTEG_SAT k).sfLevel

/-! ### Camera faults (R202, R204) -/

/-- A cause of Table 09-3 is detected: its bit, the code, the fault; the run of good frames ends. -/
def State.camFault (s : State) (c bit code : Nat) : State :=
  let s := if s.flag (Fd.SF_CAM_FAULT_FAULT c) then s else s.setCam c { s.camera c with counted := false }
  let s := s.wr (bitOf (Rg.SF_CAM_FAULT c) bit) 1
  let s := (s.wr (Fd.SF_CAM_FAULT_CODE c) code).wr (Fd.SF_CAM_FAULT_FAULT c) 1
  (s.wr (Fd.SF_CAM_FAULT_GOOD c) 0).camLevel c

/-- A camera power fault is present: STATE 2 to 5 of SF_POC (R205). -/
def State.pocFault (s : State) (c : Nat) : Bool := decide (2 ≤ s.rd (Fd.SF_POC_STATE c))

/-- A camera power fault is detected: the frame in receipt is not good (R204). -/
def State.pocDetected (s : State) (c code : Nat) : State := (s.setCam c { s.camera c with pocBad := true }).camFault c 5 code

/-- The camera frame in receipt ends: good or not (R204). [Assumption 105: DEDUCED, unsafe.] -/
def State.endFrame (s : State) (c : Nat) : State :=
  let x := s.camera c
  let good := !x.lost && !x.err && x.step && !x.pocBad && !s.pocFault c
  let s := s.setFlag (Fd.SF_CAM_STATUS_LOCK c) !x.lost
  let s := s.wr (Fd.SF_CAM_FAULT_GOOD c) (if good then min 255 (s.rd (Fd.SF_CAM_FAULT_GOOD c) + 1) else 0)
  s.setCam c { x with open_ := false, crcPrev := x.crc }

/-- Loss of frame lock (R175). [Assumption 104: DEDUCED, unsafe.] -/
def State.lockLost (s : State) (c : Nat) : State :=
  ((s.setCam c { s.camera c with lost := true }).camFault c 1 Code.CAM_LOCK).wr (Fd.SF_CAM_STATUS_LOCK c) 0

/-- The camera runs and its link is up, so packets arrive. -/
def State.camLive (s : State) (c : Nat) : Bool :=
  s.mirrorOn && s.flag (Fd.SF_CAM_CTRL_RUN c) && s.flag (Fd.SF_CAM_STATUS_LINK c)

/-! ### Triggers and packets -/

/-- The frame number of the next trigger: the first grid point from now on after RUN was set, the first one allowed after a step of
vehicle time (R177), else the next. -/
def State.nextJ (s : State) (c : Nat) : Nat :=
  let x := s.camera c
  match x.bound, x.trig with
  | some b, _ => gridFrom (s.camFps c) 0 b
  | none, some t => t.j + 1
  | none, none => gridFrom (s.camFps c) 0 s.vt

/-- The trigger of a camera at C(j) (R173). -/
def State.camTrigger (s : State) (c : Nat) : State :=
  if !(s.mirrorOn && s.flag (Fd.SF_CAM_CTRL_RUN c)) then s
  else
    let j := s.nextJ c
    let t : TrigFrame := ⟨j, s.gridC c j⟩
    let s := s.reachVt t.at_
    let x := s.camera c
    let s := s.setCam c { x with trig := some t, trigAt := s.now, bound := none, jRun := if x.trig.isSome then x.jRun else j,
                                 due := x.due ++ [t] }
    s.wr (Fd.SF_CAM_STATUS_FRAME c) (j % 65536)

def execCameraTrigger (c : Fin 4) (s : State) : Host.Outcome State Fault Refusal := .next (s.camTrigger c)

/-- The frame number F of a frame start is faulty (R199): it stalled, or it is later than the frame's own under R52. -/
def Cam.faulty (x : Cam) (j f : Nat) : Bool := x.num == some f || later f (idxSub j x.jRun)

/-- j_src of a frame: the largest j′ ≤ j with (j′ − j_run) mod 2^16 = F (R199). -/
def Cam.source (x : Cam) (j f : Nat) : Option Nat :=
  let back := idxSub (idxSub j x.jRun) f
  if back ≤ j then some (j - back) else none

/-- A frame start packet (R199). [Assumption 104: DEDUCED, unsafe.] -/
def State.frameStart (s : State) (c f : Nat) : State :=
  let s := if (s.camera c).open_ then (s.lockLost c).endFrame c else s
  let x := s.camera c
  match x.due with
  | [] => s.lockLost c
  | t :: rest =>
    let bad := x.faulty t.j f
    let step := match x.num with
      | none => true
      | some n => f == idxNext n
    let s := s.setCam c { x with due := rest, rx := some t, open_ := true, src := x.source t.j f, num := some f, step := step, line := 0,
                                 prev := x.rx.map (fun r => ⟨r.j, x.src, x.line⟩), lost := false, err := false, crc := false
                                 pocBad := s.pocFault c }
    if bad then s.camFault c 4 Code.FRAME_NUMBER else s

def execCsi2FrameStart (c : Fin 4) (f : BitVec 16) (ecc : Bool) (s : State) : Host.Outcome State Fault Refusal :=
  .next (if !s.camLive c then s
    else if ecc then (s.setCam c { s.camera c with err := true }).camFault c 2 Code.CSI2_ECC
    else s.frameStart c f.toNat)

/-- The part of a display's slice, still being computed, that samples a ring slot about to be overwritten (R180). -/
def State.overruns (s : State) (d c : Nat) (old : CamLine) : List Part :=
  let x := s.dsp d
  match x.slice with
  | none => []
  | some k =>
    if s.vt < x.start + clkNs (16 * (k + 1) * s.lp d) then
      x.parts.filter (fun p => p.cam == c && some p.frame == old.frame && decide (p.a ≤ old.line) && decide (old.line ≤ p.b)
        && !x.overs.contains p.view)
    else []

/-- The overruns that a line of a camera causes: counted, and the view's part of the slice filled. -/
def State.overrunBy (s : State) (c slot : Nat) : State :=
  let old := s.ring c slot
  if old = CamLine.none_ then s
  else forAll [0, 1] (fun s d =>
    match s.overruns d c old, (s.dsp d).slice with
    | p :: ps, some k =>
      let s := forAll (p :: ps) (fun s p =>
        (s.setDsp d { s.dsp d with fills := insertNat (s.dsp d).fills p.view, overs := insertNat (s.dsp d).overs p.view }).viewEvent
          p.view 1) s
      s.setDsp d { s.dsp d with rows := s.composeSlice d k }
    | _, _ => s) s

/-- A line with a payload CRC error is bad; in two consecutive frames it is a fault (R202, R203). -/
def State.lineCrc (s : State) (c : Nat) (crc : Bool) : State :=
  let x := s.camera c
  if !crc then s
  else
    let s := s.setCam c { x with crc := true, err := true }
    if x.crcPrev && !x.crc then s.camFault c 3 Code.CSI2_BAD_LINES else s

/-- A ring slot takes a line. -/
def State.setLine (s : State) (key : Nat) (l : CamLine) : State :=
  { s with sf := { s.sf with lines := tset (fun _ => CamLine.none_) s.sf.lines key l } }

/-- A frame end packet (Table 08-1): after the last line the frame is complete, sooner its lock is lost. -/
def State.frameEndPacket (s : State) (c : Nat) : State :=
  let x := s.camera c
  if !x.open_ then s
  else if x.line = s.camHeight c then s.endFrame c
  else (s.lockLost c).endFrame c

/-- A line is as R175 expects it in the open frame. -/
def State.lineOk (s : State) (c : Nat) (px : List Byte) : Bool :=
  let x := s.camera c
  match x.rx with
  | some t =>
    let e := t.at_ + s.lineNs c x.line
    x.open_ && decide (x.line < s.camHeight c) && px.length == 2 * s.camWidth c && decide (e ≤ s.vt + 10000)
      && decide (s.vt ≤ e + 10000)
  | none => false

/-- A camera line has been received (R175, R178); `fe`: a frame end packet follows it. [Assumption 104: DEDUCED, unsafe.] -/
def State.lineReceived (s : State) (c : Nat) (px : List Byte) (crc fe : Bool) : State :=
  let x := s.camera c
  let ok := s.lineOk c px
  let slot := x.n % 128
  let s := (s.overrunBy c slot).setLine (c * 128 + slot) ⟨x.rx.map (·.j), x.line, s.vt, crc, px⟩
  let s := (s.setCam c { s.camera c with n := x.n + 1, line := x.line + 1 }).lineCrc c crc
  let s := if ok then s else s.lockLost c
  if fe then s.frameEndPacket c else s

def execCameraLineReceived (c : Fin 4) (px : List Byte) (crc : Bool) (fate : LineFate) (ns : BitVec 32) (s : State) :
    Host.Outcome State Fault Refusal :=
  let s := s.pass ns.toNat
  .next (if !s.camLive c then s
    else if fate.ecc then (s.setCam c { s.camera c with err := true }).camFault c 2 Code.CSI2_ECC
    else s.lineReceived c px crc fate.fe)

/-- The frame end is missing (R202): the frame in receipt, or the oldest frame that never started. [Assumption 104: DEDUCED, unsafe.] -/
def State.lockTimeout (s : State) (c : Nat) : State :=
  let x := s.camera c
  let late := s.lineNs c (s.camHeight c - 1) + 10000
  if !(s.mirrorOn && s.flag (Fd.SF_CAM_CTRL_RUN c)) then s
  else
    match x.open_, x.rx, x.due with
    | true, some t, _ => ((s.reachVt (t.at_ + late)).lockLost c).endFrame c
    | _, _, t :: rest =>
      let s := s.reachVt (t.at_ + late)
      (s.setCam c { x with due := rest, crc := false, crcPrev := false }).lockLost c
    | _, _, _ => s

def execCameraLockTimeout (c : Fin 4) (s : State) : Host.Outcome State Fault Refusal := .next (s.lockTimeout c)

/-- The camera's A-PHY link goes down: while RUN is 1 a camera fault (R202). -/
def State.camLinkDown (s : State) (c : Nat) : State :=
  if !s.flag (Fd.SF_CAM_STATUS_LINK c) then s
  else
    let s := (s.wr (Fd.SF_CAM_STATUS_LINK c) 0).wr (Fd.SF_CAM_STATUS_LOCK c) 0
    let s := s.setCam c { s.camera c with open_ := false, lost := true }
    if s.flag (Fd.SF_CAM_CTRL_RUN c) then s.camFault c 0 Code.CAM_LINK else s

def execCameraLinkDown (c : Fin 4) (s : State) : Host.Outcome State Fault Refusal := .next (s.camLinkDown c)

def execCameraLinkUp (c : Fin 4) (s : State) : Host.Outcome State Fault Refusal :=
  .next (if s.mirrorOn then s.wr (Fd.SF_CAM_STATUS_LINK c) 1 else s)

/-! ### Starting a camera (R174, R184) -/

/-- A view starts with its plan map, or its failure is recorded (R174, R184). -/
def State.startView (s : State) (i : Nat) : State :=
  let m := s.planMap i
  if s.camFps (s.viewCam i) ≠ s.dspHz (i / 4) then s.loadFail Code.RATE_MISMATCH 0xFF false i
  else
    match s.mapCheck i m with
    | some (code, slice) => s.loadFail code slice false i
    | none =>
      let s := s.setView i { s.view i with map := m, target := none, stale := 0, src := none, age := none }
      ((s.wr (Fd.SF_VIEW_STATE_ANGLE i) 0).wr (Fd.SF_VIEW_STATE_PLAN_MAP i) 1).wr (Fd.SF_VIEW_STATE_RUN i) 1

/-- RUN of a camera goes to 1: it counts lines and triggers anew, and its views start; a link that is down is a fault (R202).
[Assumption 110: DEDUCED, unsafe.] -/
def State.camStart (s : State) (c : Nat) : State :=
  let x := s.camera c
  let s := s.setCam c { Cam.reset with
    i2cAt := x.i2cAt, shorts := x.shorts, ext := x.ext, offAt := x.offAt, on0At := x.on0At, counted := x.counted }
  let s := forAll (s.viewsOfCam c) State.startView (s.wr (Fd.SF_CAM_STATUS_RUN c) 1)
  if s.flag (Fd.SF_CAM_STATUS_LINK c) then s else s.camFault c 0 Code.CAM_LINK

/-- RUN of a camera goes to 0: its views no longer run. [Assumption 110: DEDUCED, unsafe.] -/
def State.camStop (s : State) (c : Nat) : State :=
  let s := s.setCam c { s.camera c with trig := none, bound := none, due := [], open_ := false }
  forAll (s.viewsOfCam c) (fun s i => s.wr (Fd.SF_VIEW_STATE_RUN i) 0) (s.wr (Fd.SF_CAM_STATUS_RUN c) 0)

/-- SF_CAM_CTRL (R196): RUN 1 for a camera without a CAMERA item is WRONG_STATE. [Assumption 110: DEDUCED, unsafe.] -/
def State.camCtrlWrite (s : State) (who : Who) (bytes c : Nat) (w : Word) : State :=
  let run := tbit w.toNat 0
  let was := s.flag (Fd.SF_CAM_CTRL_RUN c)
  s.regWrite who bytes (Rg.SF_CAM_CTRL c) w false false
    (if run && (s.camItem c).isNone then Code.WRONG_STATE else Code.DONE)
    (fun s => if run && !was then s.camStart c else if !run && was then s.camStop c else s)

def execCameraRunWrite (who : Who) (c : Fin 4) (w : Word) (s : State) : Host.Outcome State Fault Refusal :=
  .next (s.camCtrlWrite (s.issuer who) 4 c w)

/-- SF_CAM_TIMING (R196): a write while RUN is 1 is WRONG_STATE. -/
def State.camTimingWrite (s : State) (who : Who) (bytes c : Nat) (w : Word) : State :=
  s.regWrite who bytes (Rg.SF_CAM_TIMING c) w false false
    (if s.flag (Fd.SF_CAM_CTRL_RUN c) then Code.WRONG_STATE else Code.DONE) (fun s => s)

/-! ### The I2C tunnel (R171) -/

/-- SF_CAM_I2C: every write starts a transaction. -/
def State.i2cWrite (s : State) (who : Who) (bytes c : Nat) (w : Word) : State :=
  s.regWrite who bytes (Rg.SF_CAM_I2C c) w false false
    (if s.rd (Fd.SF_CAM_I2C_RESULT c) = Code.BUSY then Code.BUSY else Code.DONE)
    (fun s =>
      if s.flag (Fd.SF_CAM_STATUS_LINK c) then
        (s.setCam c { s.camera c with i2cAt := s.now }).wr (Fd.SF_CAM_I2C_RESULT c) Code.BUSY
      else s.wr (Fd.SF_CAM_I2C_RESULT c) Code.WRONG_STATE)

def execCamI2cStart (who : Who) (c : Fin 4) (w : Word) (s : State) : Host.Outcome State Fault Refusal :=
  .next (s.i2cWrite (s.issuer who) 4 c w)

/-- The end of a transaction: 0 acknowledged, with the data of a read; 1 not acknowledged; 2 no answer within 1 ms. -/
def State.i2cDone (s : State) (c result data : Nat) : State :=
  if s.rd (Fd.SF_CAM_I2C_RESULT c) ≠ Code.BUSY then s
  else
    match result with
    | 0 =>
      let s := s.wr (Fd.SF_CAM_I2C_RESULT c) Code.DONE
      if s.flag (Fd.SF_CAM_I2C_RD c) then s.wr (Fd.SF_CAM_I2C_DATA c) data else s
    | 1 => s.wr (Fd.SF_CAM_I2C_RESULT c) Code.I2C_NACK
    | _ => (s.reach ((s.camera c).i2cAt + ms)).wr (Fd.SF_CAM_I2C_RESULT c) Code.TIMEOUT

def execI2cComplete (c : Fin 4) (result : Fin 3) (data : Byte) (s : State) : Host.Outcome State Fault Refusal :=
  .next (s.i2cDone c result data.toNat)

/-! ### Power over coax (R205) -/

/-- SF_POC: STATE 0 off, 1 on, 2 waiting to retry, 3 latched off, 4 on with open wire, 5 off for short to battery. -/
def State.pocState (s : State) (c : Nat) : Nat := s.rd (Fd.SF_POC_STATE c)
def State.setPoc (s : State) (c st : Nat) : State := s.wr (Fd.SF_POC_STATE c) st
/-- The supply of camera c is on. [Assumption 111: DESIGN CHOICE, unsafe.] -/
def State.pocOn (s : State) (c : Nat) : Bool := s.pocState c == 1 || s.pocState c == 4

/-- [Assumption 111: DESIGN CHOICE, unsafe.] -/
def State.pocWrite (s : State) (who : Who) (bytes c : Nat) (w : Word) : State :=
  let on := tbit w.toNat 31
  let was := s.flag (Fd.SF_POC_ON c)
  s.regWrite who bytes (Rg.SF_POC c) w false false Code.DONE (fun s =>
    let x := s.camera c
    if on && !was then (if x.ext then s else s.setPoc c 1)
    else if !on then
      let x := { x with shorts := [], on0At := if s.pocOn c then some s.now else x.on0At }
      let s := ((s.setCam c x).wr (Fd.SF_POC_RETRIES c) 0).wr (Fd.SF_POC_CURRENT c) 0
      if x.ext then s else s.setPoc c 0
    else s)

def execPocOnWrite (who : Who) (c : Fin 4) (w : Word) (s : State) : Host.Outcome State Fault Refusal :=
  .next (s.pocWrite (s.issuer who) 4 c w)

/-- A short to ground: the supply goes off; the fourth within 60 s of the first latches it. With ON 0 written in the same PER clock (5
ns) the supply stays off and the short is recorded. -/
def State.pocShort (s : State) (c : Nat) : State :=
  if !(s.mirrorOn && s.pocOn c) then
    match (s.camera c).on0At with
    | some t => if s.mirrorOn && t / 5 == s.now / 5 then s.pocDetected c Code.POC_SHORT else s
    | none => s
  else
    let x := s.camera c
    let old := match x.shorts with
      | [] => []
      | t :: rest => if s.now - t ≤ 60 * sec then t :: rest else []
    let shorts := old ++ [s.now]
    let s := if old.isEmpty then s.wr (Fd.SF_POC_RETRIES c) 0 else s
    let s := s.setCam c { x with shorts := shorts, offAt := s.now }
    ((s.setPoc c (if 4 ≤ shorts.length then 3 else 2)).wr (Fd.SF_POC_CURRENT c) 0).pocDetected c Code.POC_SHORT

def execPocShort (c : Fin 4) (s : State) : Host.Outcome State Fault Refusal := .next (s.pocShort c)

/-- 1 s after a short the supply is switched on again. -/
def State.pocRetry (s : State) (c : Nat) : State :=
  if s.pocState c ≠ 2 then s
  else
    let s := s.reach ((s.camera c).offAt + sec)
    (s.setPoc c 1).wr (Fd.SF_POC_RETRIES c) (min 3 (s.camera c).shorts.length)

def execPocRetry (c : Fin 4) (s : State) : Host.Outcome State Fault Refusal := .next (s.pocRetry c)

/-- A short to battery: the supply goes off. [Assumption 111: DESIGN CHOICE, unsafe.] -/
def State.pocExternal (s : State) (c : Nat) : State :=
  if !s.mirrorOn || (s.camera c).ext then s
  else
    let s := s.setCam c { s.camera c with ext := true }
    ((s.setPoc c 5).wr (Fd.SF_POC_CURRENT c) 0).pocDetected c Code.POC_EXTERNAL

def execPocExternal (c : Fin 4) (s : State) : Host.Outcome State Fault Refusal := .next (s.pocExternal c)

/-- The voltage has been below 14 V for 1 s while ON is 1; a supply that four shorts have latched off stays so. -/
def State.pocExternalClear (s : State) (c : Nat) : State :=
  let x := s.camera c
  if x.ext && s.flag (Fd.SF_POC_ON c) then
    (s.setCam c { x with ext := false }).setPoc c (if 4 ≤ x.shorts.length then 3 else 1)
  else s

def execPocExternalClear (c : Fin 4) (s : State) : Host.Outcome State Fault Refusal := .next (s.pocExternalClear c)

/-- The current of the last 100 ms: below 30 mA it is an open wire, and the supply stays on. [Assumption 111: DESIGN CHOICE, unsafe.] -/
def State.pocOpen (s : State) (c ma : Nat) : State :=
  if !(s.mirrorOn && s.pocOn c) then s
  else
    let s := s.wr (Fd.SF_POC_CURRENT c) ma
    if 30 ≤ ma then s.setPoc c 1
    else if s.pocState c = 4 then s
    else (s.setPoc c 4).pocDetected c Code.POC_OPEN

def execPocOpen (c : Fin 4) (ma : BitVec 10) (s : State) : Host.Outcome State Fault Refusal := .next (s.pocOpen c ma.toNat)

/-! ### Steps of vehicle time (R177) -/

/-- Vehicle time has stepped by `delta`: a camera triggers next at the first grid point at least half a period after its last trigger;
the frames in progress keep their times. [Assumption 103: DEDUCED, unsafe.] -/
def State.camStep (s : State) (delta : Int) (c : Nat) : State :=
  let x := s.camera c
  match x.trig with
  | none => s
  | some _ =>
    let move := fun (t : TrigFrame) => { t with at_ := ((t.at_ : Int) + delta).toNat }
    s.setCam c { x with
      bound := some (s.vt - (s.now - x.trigAt) + 500000000 / s.camFps c)
      due := x.due.map move
      rx := x.rx.map move }

/-- A display completes its frame in progress and starts the next at the first grid point at least half a period after its start.
[Assumption 103: DEDUCED, unsafe.] -/
def State.dspStep (s : State) (d : Nat) : State :=
  let x := s.dsp d
  match x.k with
  | none => s
  | some _ =>
    let start := s.vt - (s.now - x.startAt)
    s.setDsp d { x with
      start := start
      bound := some (start + max (500000000 / s.dspHz d) (clkNs ((s.dspHeight d + 24) * s.lp d))) }

/-- The stamps of the ring slots move with a step, so that line ages stay true (R178, R188). -/
def State.stampStep (s : State) (delta : Int) : State :=
  forAll s.sf.lines (fun s p => s.setLine p.1 { p.2 with at_ := ((p.2.at_ : Int) + delta).toNat }) s

/-- [Assumption 103: DEDUCED, unsafe.] -/
def State.mirrorStep (s : State) (delta : Int) : State :=
  (forAll [0, 1] State.dspStep (forAll [0, 1, 2, 3] (fun s c => s.camStep delta c) s)).stampStep delta

end Sys2Proof.Machine
end

