-- ==== Sys2Proof/Machine/Can.lean ====
section
/-! DEFINITION. The commands of chapter 12 but reception and the change of mode: the message-buffer window, transmission, the schedule,
and the CAN endpoint's opcodes. -/

namespace Sys2Proof.Machine

/-! ### The window (R266, CAN_MB_SEL, CAN_MB_WIN, CAN_MB_CTRL) -/

def State.mbSelected (s : State) (k : Nat) : Nat := s.rd (Fd.CAN_MB_SEL_BUF k)

/-- What a window read does to an enabled receive buffer: word 0 locks it, its last word consumes. -/
def State.mbTouch (s : State) (k b w : Nat) : State :=
  if s.bufTx k b || !s.bufEn k b then s
  else
    let x := s.buf k b
    let s := if w = 0 ∧ (s.canAt k).lock.isNone then s.setCan k { s.canAt k with lock := some (b, s.now) } else s
    if w = 1 + hdrWords (x.word 0) (x.word 1) then
      let s := if (s.canAt k).lock.isSome then s.endLock k true else s.consume k b
      s.canLevels k
    else s

/-- [Assumption 137: DEDUCED, unsafe.] -/
def State.mbWindowRead (s : State) (who : Who) (bytes k w : Nat) : State :=
  let b := s.mbSelected k
  s.regRead who bytes (Rg.CAN_MB_WIN k w) (if s.bufHeld k b then some false else none) ((s.buf k b).word w)
    (fun s => s.mbTouch k b w)

def execMbWindowRead (who : Who) (k : Fin 8) (w : Fin 18) (s : State) : Host.Outcome State Fault Refusal :=
  .next (s.mbWindowRead (s.issuer who) 4 k w)

/-- A window write sets a word of an IDLE transmit buffer. -/
def State.mbWindowWrite (s : State) (who : Who) (bytes k w : Nat) (v : Word) : State :=
  let b := s.mbSelected k
  s.regWrite who bytes (Rg.CAN_MB_WIN k w) v (s.bufHeld k b) false
    (if !s.bufTx k b then Code.WRONG_STATE else if s.bufState k b ≠ 0 then Code.BUSY else Code.DONE)
    (fun s => (s.setReg (Rg.CAN_MB_WIN k w) 0).setBuf k b { s.buf k b with words := setWord (s.buf k b).words w v.toNat })

def State.mbSelWrite (s : State) (who : Who) (bytes k : Nat) (w : Word) : State :=
  s.regWrite who bytes (Rg.CAN_MB_SEL k) w false false Code.DONE (fun s => (s.endLock k false).canLevels k)

def execMbSelect (who : Who) (k : Fin 8) (w : Word) (s : State) : Host.Outcome State Fault Refusal :=
  .next (s.mbSelWrite (s.issuer who) 4 k w)

/-- A lock held for 100 µs ends without consuming (R266). -/
def execLockTimeout (k : Fin 8) (s : State) : Host.Outcome State Fault Refusal :=
  .next (match (s.canAt k).lock with
    | none => s
    | some (_, t) => (((s.reach (t + 100 * us)).canEvent k 9).endLock k false).canLevels k)

/-- CAN_MB_CFG: refused with BUSY while a request runs; an accepted write clears NEW, OVR and the shadow. -/
def State.mbCfgWrite (s : State) (who : Who) (bytes k b : Nat) (w : Word) : State :=
  let retry := w.toNat / 2 ^ 24 % 32
  s.regWrite who bytes (Rg.CAN_MB_CFG k b) w (s.bufHeld k b) (decide (16 ≤ retry) && decide (retry ≤ 30))
    (if s.bufState k b ≠ 0 then Code.BUSY else Code.DONE)
    (fun s => ((s.consume k b).setBuf k b { s.buf k b with shadow := none }).canLevels k)

/-- CAN_MB_CTRL: TX requests, CANCEL aborts (R268, R270, R277). -/
def State.mbCtrlWrite (s : State) (who : Who) (bytes k b : Nat) (w : Word) : State :=
  let tx := tbit w.toNat 0
  let cancel := tbit w.toNat 1
  let x := s.buf k b
  s.regWrite who bytes (Rg.CAN_MB_CTRL k b) w (s.bufHeld k b) (tx && cancel)
    (if !tx then Code.DONE
     else if !(s.bufTx k b && s.bufEn k b) then Code.WRONG_STATE
     else if s.bufState k b ≠ 0 then Code.BUSY
     else s.headerCode k (x.word 0) (x.word 1))
    (fun s => if tx then s.txRequest k b else if cancel then s.txAbort k b else s)

def execMbTxRequest (who : Who) (k : Fin 8) (b : Fin 128) (s : State) : Host.Outcome State Fault Refusal :=
  .next (s.mbCtrlWrite (s.issuer who) 4 k b 1)

def execMbCancel (who : Who) (k : Fin 8) (b : Fin 128) (s : State) : Host.Outcome State Fault Refusal :=
  .next (s.mbCtrlWrite (s.issuer who) 4 k b 2)

/-! ### Modes (R262) -/

def State.canModeWrite (s : State) (who : Who) (bytes k : Nat) (w : Word) : State :=
  s.regWrite who bytes (Rg.CAN_MODE k) w false (w.toNat % 4 == 3)
    (if (s.canItem k).isNone ∧ w.toNat % 4 ≠ 0 then Code.WRONG_STATE else Code.DONE) id

def execCanModeWrite (who : Who) (k : Fin 8) (w : Word) (s : State) : Host.Outcome State Fault Refusal :=
  .next (s.canModeWrite (s.issuer who) 4 k w)

/-- The effects of entering OFF (R262). [Assumption 135: DEDUCED, unsafe.] -/
def State.canEnterOff (s : State) (k : Nat) : State :=
  let s := s.ttClose k
  let s := forAll (List.range 128) (fun s b => if s.bufTx k b && s.bufState k b != 0 then s.txEnd k b Code.CANCELLED s.vt else s) s
  let s := s.canEvents k 13 (s.canAt k).gwy.length
  let s := s.setGwy k []
  let s := (s.wr (Fd.CAN_STATUS_TEC k) 0).wr (Fd.CAN_STATUS_REC k) 0
  ((s.wr (Fd.CAN_STATUS_ESTATE k) 0).wr (Fd.CAN_STATUS_RECOV k) 0).canLevels k

/-- The requested mode takes effect at the next bus idle: no frame in progress (R262). -/
def State.canModeTakes (s : State) (k : Nat) : State :=
  let m := s.rd (Fd.CAN_MODE_MODE k)
  let old := s.canMode k
  let x := s.canAt k
  if m = old ∨ x.attempt.isSome ∨ x.rx then s
  else
    let s := if old = 0 ∨ s.busOff k then s else s.reach x.freeAt
    let s := s.wr (Fd.CAN_MODE_ACTUAL k) m
    if m = 0 then s.canEnterOff k
    else if old = 0 then (s.setCan k { s.canAt k with freeAt := s.now + s.nomBits k 11 }).canReady k
    else s.canReady k

/-! ### Attempts (R267 to R270) -/

/-- The channel chooses the frame it offers: at the sample point of the second bit of intermission, or now on an idle bus.
[Assumption 133: DESIGN CHOICE, unsafe.] -/
def State.txOffer (s : State) (k : Nat) : State :=
  let x := s.canAt k
  if !s.canSends k || x.attempt.isSome || x.rx then s
  else
    let t := s.reach x.chooseAt
    let start := max t.now x.freeAt
    match best (t.chosen k (t.candidates k start)) with
    | none => s
    | some src => t.setCan k { x with attempt := some ⟨src, start, none⟩ }

/-- [Assumption 133: DESIGN CHOICE, unsafe.] -/
def execCanTxOffer (k : Fin 8) (s : State) : Host.Outcome State Fault Refusal := .next (s.txOffer k)

/-- The commit point of a buffer's request (R270): a held abort is decided as late. -/
def State.bufCommits (s : State) (k b : Nat) : State :=
  let x := s.buf k b
  let s := s.wr (Fd.CAN_MB_STAT_STATE k b) 2
  let s := s.setBuf k b { x with cancelHeld := false, lateAbort := x.lateAbort || x.cancelHeld }
  match s.canWaits k b 2 with
  | none => s
  | some c =>
    let s := s.putCmd { c with phase := .committed, abortSeen := c.abortSeen || x.cancelHeld }
    if x.cancelHeld then s.abortDecided c.ep c.tag Code.ALREADY_DONE else s

def State.txCommit (s : State) (k : Nat) : State :=
  match (s.canAt k).attempt with
  | none => s
  | some a =>
    if a.commit.isSome then s
    else
      let s := s.reach (a.start + (arbBits (s.tryHeader k a) * s.nomBit k + s.nomSample k) / 2)
      let s := s.setCan k { s.canAt k with attempt := some { a with commit := some s.vt } }
      match a.src with
      | some b => if b = 128 then s else s.bufCommits k b
      | none => s

def execCanTxCommit (k : Fin 8) (s : State) : Host.Outcome State Fault Refusal := .next (s.txCommit k)

/-- A TX on a REPEAT buffer completes at the first attempt made with its content (R279); any other goes on waiting.
[Assumption 136: DEDUCED, unsafe.] -/
def State.repeatTried (s : State) (k b code : Nat) : State :=
  match s.canWaits k b 2 with
  | some c => if s.flag (Fd.CAN_MB_CFG_REPEAT k b) then s.complete c code (s.txDetail k b) s.vt else s.putCmd { c with phase := .waiting }
  | none => s

/-- An attempt loses arbitration (R268, R270): no retransmission is used; a held abort ends the request with CANCELLED. -/
def State.arbLost (s : State) (k : Nat) : State :=
  match (s.canAt k).attempt with
  | none => s
  | some a =>
    if a.commit.isSome then s
    else
      let s := s.reach a.start
      let s := (s.setCan k { s.canAt k with attempt := none, rx := true }).canEvent k 14
      let s := match a.src with
        | some b =>
          if 128 ≤ b then s
          else if (s.buf k b).cancelHeld then s.txEnd k b Code.CANCELLED s.vt
          else s.repeatTried k b Config.repeatLost.toNat
        | none => s
      s.canLevels k

def execCanArbLost (k : Fin 8) (s : State) : Host.Outcome State Fault Refusal := .next (s.arbLost k)

/-- An attempt of a buffer succeeds (R268, R270, R273). [Assumption 136: DEDUCED, unsafe.] -/
def State.bufSent (s : State) (k b commit : Nat) : State :=
  let x := s.buf k b
  let s := s.setBuf k b { x with time := s.vt }
  let s := if x.lateAbort then s.wr (Fd.CAN_MB_STAT_TOO_LATE k b) 1 else s
  let s := match (s.canAt k).win with
    | some w => if w.buf = b ∧ s.now ≤ w.fin then s.setCan k { s.canAt k with win := some { w with ok := true } } else s
    | none => s
  s.txEnd k b Code.DONE commit

/-- An attempt of a buffer ends in an error (R268, R270). [Assumption 135: DEDUCED, unsafe.] -/
def State.bufFailed (s : State) (k b : Nat) : State :=
  let x := s.buf k b
  let used := s.rd (Fd.CAN_MB_STAT_RETRIES k b)
  let retry := s.rd (Fd.CAN_MB_CFG_RETRY k b)
  if x.lateAbort then s.txEnd k b Code.CANCELLED_AFTER_ERROR s.vt
  else if x.cancelHeld then s.txEnd k b Code.CANCELLED s.vt
  else if retry ≠ 31 ∧ retry ≤ used then (s.canEvent k 12).txEnd k b Code.CAN_FAILED s.vt
  else
    ((s.wr (Fd.CAN_MB_STAT_RETRIES k b) (min 15 (used + 1))).wr (Fd.CAN_MB_STAT_STATE k b) 1).repeatTried k b Code.CAN_FAILED

/-- The head of the gateway queue fails (R276). -/
def State.gwyFailed (s : State) (k : Nat) : State :=
  let x := s.canAt k
  if x.gwyUsed < s.rd (Fd.CAN_GWY_Q_RETRY k) then s.setCan k { x with gwyUsed := x.gwyUsed + 1 }
  else (s.setGwy k x.gwy.tail).canEvent k 13

/-- A Curfew frame's attempt fails: it has 3 retransmissions (R291). -/
def State.curfewFailed (s : State) (k : Nat) : State :=
  let x := s.medium k
  match x.out with
  | f :: rest => if f.tries < 3 then s.setMedium k { x with out := { f with tries := f.tries + 1 } :: rest } else s.medMark k 2
  | [] => s

/-- The transmitter delay is measured at the edge from FDF to res of an FD frame with BRS, `half` half ns after its start (R261).
[Assumption 132: PRESUMED, unsafe.] -/
def State.tdcMeasure (s : State) (k : Nat) (a : CanTry) (half tdc : Nat) : State :=
  let w0 := s.tryHeader k a
  let brs := match a.src with
    | some b => hdrBrs ((s.buf k b).word 1)
    | none => match (s.canAt k).gwy with | m :: _ => hdrBrs m.w1 | [] => false
  let edge := (arbBits w0 + (if hdrIde w0 then 2 else 3)) * s.nomBit k
  if s.flag (Fd.CAN_TDC_EN k) && hdrFdf w0 && brs && a.commit.isSome && decide (edge ≤ half) then
    s.wr (Fd.CAN_TDC_MEASURED k) (min 127 tdc)
  else s

/-- The attempt succeeds at the present moment. -/
def State.tryOk (s : State) (k : Nat) (a : CanTry) (commit : Nat) : State :=
  let s := ((s.setCan k { s.canAt k with attempt := none }).tecDown k).canEvent k 0
  let s := match a.src with
    | some b => if b = 128 then s.medMark k 1 else s.bufSent k b commit
    | none => s.setGwy k (s.canAt k).gwy.tail
  (s.canErrState k).canFreeIn k 3 true

/-- TEC counts the error, except a missing acknowledgement of an error-passive channel and a stuff error in the arbitration field
(ISO 11898-1). [Assumption 131: PRESUMED, unsafe.] -/
def State.tecCounts (s : State) (k : Nat) (a : CanTry) (e : Nat) : Bool :=
  !(e == 3 && s.rd (Fd.CAN_STATUS_ESTATE k) == 1) && !(e == 1 && a.commit.isNone)

/-- The attempt ends in an error of the LAST_ERR value `e` at the present moment (R268, R269): it uses a retransmission, and at a TEC above
255 what is still requested stays PENDING. [Assumption 135: DEDUCED, unsafe.] -/
def State.tryError (s : State) (k : Nat) (a : CanTry) (e : Nat) : State :=
  let s := (s.wr (Fd.CAN_STATUS_LAST_ERR k) e).canEvent k (errEvent e)
  let s := if s.tecCounts k a e then s.tecUp k else s
  let s := s.setCan k { s.canAt k with attempt := none }
  let s := match a.src with
    | some b => if b = 128 then s.curfewFailed k else s.bufFailed k b
    | none => s.gwyFailed k
  (s.canErrState k).canFreeIn k 17 true

/-- The end of an attempt (R268): `result` 0 is success, 1 to 6 an error of that LAST_ERR value; `ns` counts from its start of frame;
`tdc` is the transmitter delay measured in it. [Assumption 133: DESIGN CHOICE, unsafe.] -/
def State.tryEnds (s : State) (k result ns tdc : Nat) : State :=
  match (s.canAt k).attempt with
  | none => s
  | some a =>
    match result, a.commit with
    | 0, some commit => ((s.reach (a.start + ns)).tdcMeasure k a (2 * ns) tdc).tryOk k a commit
    | 0, none => s
    | e, _ => ((s.reach (a.start + ns)).tdcMeasure k a (2 * ns) tdc).tryError k a e

def execCanTxEnd (k : Fin 8) (result : Fin 7) (ns : BitVec 32) (tdc : BitVec 8) (s : State) : Host.Outcome State Fault Refusal :=
  .next (s.tryEnds k result ns.toNat tdc.toNat)

/-- The return from bus-off (R269). [Assumption 134: DEDUCED, unsafe.] -/
def State.busOffEnds (s : State) (k : Nat) : State :=
  if !s.busOff k || !s.trxUp k then s
  else
    let s := s.reach ((s.canAt k).busOffAt + s.nomBits k (128 * 11))
    let s := (s.wr (Fd.CAN_STATUS_TEC k) 0).wr (Fd.CAN_STATUS_REC k) 0
    let s := (s.wr (Fd.CAN_STATUS_ESTATE k) 0).wr (Fd.CAN_STATUS_RECOV k) 0
    ((s.setCan k { s.canAt k with freeAt := s.now }).canReady k).canLevels k

/-- [Assumption 134: DEDUCED, unsafe.] -/
def execBusOffRecovery (k : Fin 8) (s : State) : Host.Outcome State Fault Refusal := .next (s.busOffEnds k)

/-- An error in another node's frame (R263, R269): `eight` says that REC counts 8 and not 1. [Assumption 133: DESIGN CHOICE, unsafe.] -/
def State.rxError (s : State) (k e : Nat) (eight : Bool) : State :=
  if s.canMode k = 0 ∨ s.busOff k ∨ !s.trxUp k ∨ (s.canAt k).attempt.isSome ∨ e = 0 ∨ e = 3 then s
  else
    let s := (s.wr (Fd.CAN_STATUS_LAST_ERR k) e).canEvent k (errEvent e)
    let s := if s.canMode k = 1 then s.recUp k (if eight then 8 else 1) else s
    (s.canFreeIn k 17 false).canErrState k

def execCanReceiveError (k : Fin 8) (kind : Fin 7) (eight : Bool) (s : State) : Host.Outcome State Fault Refusal :=
  .next (s.rxError k kind eight)

/-! ### The schedule (R271 to R275) -/

/-- The word changes a setting that is fixed while EN is 1 (R271). -/
def State.ttChanges (s : State) (k w : Nat) : Bool := s.ttOn k && decide (w % 2 ^ 31 ≠ (s.reg (Rg.CAN_TT_CFG k)).toNat % 2 ^ 31)

/-- CAN_TT_CFG: a write of EN 1 checks the schedule and starts it, or records the failing item (R271). -/
def State.ttCfgWrite (s : State) (who : Who) (bytes k : Nat) (w : Word) : State :=
  let en := tbit w.toNat 31
  let misfit := if en then s.ttMisfit k w.toNat else none
  let refuse := if s.ttChanges k w.toNat ∨ misfit.isSome then Code.WRONG_STATE else Code.DONE
  let before := s.ttOn k
  let t := s.regWrite who bytes (Rg.CAN_TT_CFG k) w false false refuse (fun s =>
    if !en then ((s.ttClose k).wr (Fd.CAN_TT_STATUS_SYNC k) 0).canReady k
    else
      let s := s.wr (Fd.CAN_TT_STATUS_FIT_VALID k) 0
      if before then s else s.wr (Fd.CAN_TT_STATUS_SYNC k) (if s.ttRef k then 0 else 1))
  match misfit with
  | none => t
  | some i =>
    if s.passesChecks who bytes (Rg.CAN_TT_CFG k) w false false && !s.ttChanges k w.toNat then
      (t.wr (Fd.CAN_TT_STATUS_FIT k) (i.n 1 * 64 + i.n 2)).wr (Fd.CAN_TT_STATUS_FIT_VALID k) 1
    else t

def execTtEnable (who : Who) (k : Fin 8) (w : Word) (s : State) : Host.Outcome State Fault Refusal :=
  .next (s.ttCfgWrite (s.issuer who) 4 k w)

/-- CAN_TT_REF: refused while EN is 1 (R271). -/
def State.ttRefWrite (s : State) (who : Who) (bytes k : Nat) (w : Word) : State :=
  s.regWrite who bytes (Rg.CAN_TT_REF k) w false false (if s.ttOn k then Code.WRONG_STATE else Code.DONE) id

def State.ttItem (s : State) (k c w : Nat) : Option Item := (s.windows k).find? (fun i => i.n 1 == c && i.n 2 == w)

/-- The start of a window (R272): the clock moves to it. [Assumption 139: DEDUCED, unsafe.] -/
def State.ttStarts (s : State) (k c w : Nat) : State :=
  match s.ttItem k c w with
  | none => s
  | some i =>
    if !s.ttRuns k || decide (s.ttCycles k ≤ c) then s
    else
      let (cycle, off) := s.ttPlace k s.now
      if s.ttRef k && !(c == cycle && decide (off ≤ i.n 6)) then s
      else (s.pass (ttDistance (s.ttCycleNs k) (s.ttCycles k) cycle off i)).ttOpen k i (i.n 7)

def execTtWindowStart (k : Fin 8) (cycle : Fin 16) (window : Fin 64) (s : State) : Host.Outcome State Fault Refusal :=
  .next (s.ttStarts k cycle window)

/-- The end of an exclusive window without success (R273); without SYNC every one is missed (R275). [Assumption 139: DEDUCED, unsafe.] -/
def State.ttMisses (s : State) (k c w : Nat) : State :=
  match (s.canAt k).win, s.ttItem k c w with
  | some x, _ => if x.cycle = c ∧ x.window = w ∧ x.pend ∧ !x.ok then (s.reach x.fin).ttClose k else s
  | none, some i =>
    if s.ttOn k && s.ttRef k && !s.ttSync k && i.n 3 == 0 && s.bufState k (i.n 4) != 0 then
      ((s.setBuf k (i.n 4) { s.buf k (i.n 4) with catchUp := tbit (i.n 5) 0 }).canEvent k 10).canLevels k
    else s
  | none, none => s

def execTtWindowMissed (k : Fin 8) (cycle : Fin 16) (window : Fin 64) (s : State) : Host.Outcome State Fault Refusal :=
  .next (s.ttMisses k cycle window)

/-- No reference within 1.1 × CYCLE_US (R275). [Assumption 139: DEDUCED, unsafe.] -/
def State.refLost (s : State) (k : Nat) : State :=
  if s.ttOn k && s.ttRef k && s.ttSync k then
    let s := s.reach ((s.canAt k).cycleAt + 11 * s.ttCycleNs k / 10)
    (((s.ttClose k).wr (Fd.CAN_TT_STATUS_SYNC k) 0).canEvent k 11).canLevels k
  else s

def execRefLost (k : Fin 8) (s : State) : Host.Outcome State Fault Refusal := .next (s.refLost k)

/-! ### The CAN endpoint's opcodes (R278, R279) -/

def State.boundCan (s : State) (e : Nat) : Nat := (s.epAt e).bind % 8
/-- The buffer of a relative BUFFER index. -/
def State.canBuffer (s : State) (c : Cmd) : Nat := (s.epAt c.ep).bind / 256 % 128 + c.f 0x10 1

/-- Reserved bits inside the fields of a CAN command (R60 step 2). -/
def Cmd.canReserved (c : Cmd) : Bool := c.op == 1 && (c.f 0x14 4 / 2 ^ 29 % 4 != 0 || c.f 0x18 4 / 2 ^ 29 != 0)

/-- Steps 3 and 4 of R60 for a CAN command. [Assumption 138: DEDUCED, unsafe.] -/
def State.checkCan (s : State) (c : Cmd) : Nat :=
  let count := (s.epAt c.ep).bind / 65536 % 256
  let d := (s.epAt c.ep).district
  let addr := c.f 0x18 8
  let retry := c.f 0x12 1
  let inRange :=
    (c.op == 4 || decide (c.f 0x10 1 < count)) &&
    (if c.op = 1 then decide (c.f 0x11 1 ≤ 2) && (decide (retry ≤ 15) || retry == 31) && decide (c.f 0x13 1 ≤ 1) else addr % 8 == 0)
  if !inRange then Code.OUT_OF_RANGE
  else if s.gated 12 then Code.WRONG_STATE
  else
    let ok := match c.op with
      | 2 => s.dramRange d 0 addr 72 1
      | 3 => s.dramRange d 0 addr 80 2
      | 4 => s.dramRange d 0 addr 16 2
      | _ => true
    if !ok then Code.NOT_OWNER else Code.DONE

/-- SETUP (R279). -/
def State.runCanSetup (s : State) (c : Cmd) : State :=
  let k := s.boundCan c.ep
  let b := s.canBuffer c
  if s.bufState k b ≠ 0 then s.finish c Code.BUSY
  else
    let dir := c.f 0x11 1
    let s := s.wr (Fd.CAN_MB_CFG_EN k b) (if dir = 2 then 0 else 1)
    let s := (s.wr (Fd.CAN_MB_CFG_DIR k b) (if dir = 1 then 1 else 0)).wr (Fd.CAN_MB_CFG_REPEAT k b) (c.f 0x13 1)
    let s := s.wr (Fd.CAN_MB_CFG_RETRY k b) (c.f 0x12 1)
    let s := s.setReg (Rg.CAN_MB_FILT k b) (BitVec.ofNat 32 (c.f 0x14 4))
    let s := s.setReg (Rg.CAN_MB_MASK k b) (BitVec.ofNat 32 (c.f 0x18 4))
    let s := (s.consume k b).setBuf k b { s.buf k b with shadow := none, catchUp := false }
    (s.finish c Code.DONE).canLevels k

/-- A TX becomes a request at its time; on a REPEAT buffer it waits for the next window (R279). -/
def State.canTxDue (s : State) (c : Cmd) : State :=
  let k := s.boundCan c.ep
  let b := s.canBuffer c
  let s := s.putCmd { c with phase := .waiting, note := b }
  if s.flag (Fd.CAN_MB_CFG_REPEAT k b) then s
  else if s.bufState k b ≠ 0 then s.finish c Code.BUSY
  else s.txRequest k b

/-- The words of a 72-byte image. -/
def imageWords (bs : List Byte) : Tbl Word :=
  (List.range 18).foldl (fun t w => setWord t w (leNat ((bs.drop (4 * w)).take 4))) []

/-- TX (R277 to R279): the image is copied when the engine fetches it. [Assumption 136: DEDUCED, unsafe.] -/
def State.runCanTx (s : State) (c : Cmd) : State :=
  let k := s.boundCan c.ep
  let b := s.canBuffer c
  let addr := c.f 0x18 8
  if !(s.bufTx k b && s.bufEn k b) then s.finish c Code.WRONG_STATE
  else if s.bufState k b ≠ 0 then s.finish c Code.BUSY
  else if s.poisoned addr 72 then (s.readEcc addr 72).finish c Code.POISONED
  else
    let s := s.readEcc addr 72
    let words := imageWords (s.bytes addr 72)
    let code := s.headerCode k ({ s.buf k b with words := words }.word 0) ({ s.buf k b with words := words }.word 1)
    if code ≠ Code.DONE then s.finish c code
    else (s.setBuf k b { s.buf k b with words := words }).atTime c State.canTxDue

/-- RX (R278, R279): it waits for NEW. -/
def State.runCanRx (s : State) (c : Cmd) : State :=
  let k := s.boundCan c.ep
  let b := s.canBuffer c
  if s.bufTx k b || !s.bufEn k b then s.finish c Code.WRONG_STATE
  else if (s.canWaits k b 3).isSome then s.finish c Code.BUSY
  else ((s.putCmd { c with phase := .waiting, note := b }).canRxComplete k b).canLevels k

/-- STATE (R279): the channel's error state and counters go to DRAM. -/
def State.runCanState (s : State) (c : Cmd) : State :=
  let k := s.boundCan c.ep
  let w := s.canStatusWord k
  let bs := leBytes 1 (w % 4) ++ leBytes 1 (s.canMode k) ++ leBytes 2 (getBits w 23 15) ++ leBytes 1 (getBits w 31 24)
    ++ leBytes 1 (getBits w 6 3) ++ leBytes 2 (getBits w 14 7) ++ leBytes 8 s.vt
  (s.store (c.f 0x18 8) bs).finish c Code.DONE

def State.runCan (s : State) (c : Cmd) : State :=
  match c.op with
  | 1 => s.runCanSetup c
  | 2 => s.runCanTx c
  | 3 => s.runCanRx c
  | 4 => s.runCanState c
  | _ => s

/-- A passed CAN command of this opcode. -/
def State.canTakes (s : State) (ep tag op : Nat) (run : State → Cmd → State) : State :=
  match s.passed ep tag 1 op with
  | some c => run s c
  | none => s

def execCanSetup (ep : Fin 4096) (tag : BitVec 16) (s : State) : Host.Outcome State Fault Refusal :=
  .next (s.canTakes ep tag.toNat 1 State.runCanSetup)
def execCanTx (ep : Fin 4096) (tag : BitVec 16) (s : State) : Host.Outcome State Fault Refusal :=
  .next (s.canTakes ep tag.toNat 2 State.runCanTx)
def execCanRx (ep : Fin 4096) (tag : BitVec 16) (s : State) : Host.Outcome State Fault Refusal :=
  .next (s.canTakes ep tag.toNat 3 State.runCanRx)
def execCanState (ep : Fin 4096) (tag : BitVec 16) (s : State) : Host.Outcome State Fault Refusal :=
  .next (s.canTakes ep tag.toNat 4 State.runCanState)

end Sys2Proof.Machine
end

