-- ==== Sys2Proof/Machine/SwitchTime.lean ====
section
/-! DEFINITION. Gates and shapers (R128 to R131), and streams: identification, filtering, replication and elimination (R132 to R136). -/

namespace Sys2Proof.Machine

/-! ### Gates. GATE_ENTRY: PORT, INDEX, GATES, INTERVAL; GATE_CYCLE: PORT, CYCLE, BASE_TIME -/

def State.gateCycle (s : State) (p : Nat) : Option Item := s.item 0x0804 p

/-- The entries of a port's list, by INDEX. -/
def State.gateList (s : State) (p : Nat) : List Item :=
  (List.range (((s.items 0x0803).filter (fun i => i.n 0 == p)).length)).filterMap (fun k => s.item2 0x0803 p k)

/-- The entry at an offset in the cycle: its index, its GATES, and the time to the next entry, `left` being the rest of the cycle. -/
def gateAt (l : List Item) (k off left : Nat) : Nat × Nat × Nat :=
  match l with
  | [] => (k, 0xFF, left)
  | [i] => (k, i.n 2, left)
  | i :: rest => if off < i.n 3 then (k, i.n 2, i.n 3 - off) else gateAt rest (k + 1) (off - i.n 3) left

/-- The entry in force on a port, its GATES, and the time to the next entry. Before BASE_TIME every gate is open. -/
def State.gateNow (s : State) (p : Nat) : Nat × Nat × Nat :=
  match s.gateCycle p with
  | none => (0, 0xFF, 0)
  | some c =>
    let cyc := c.n 1
    if s.vt < c.n 2 then (0, 0xFF, c.n 2 - s.vt)
    else
      let off := (s.vt - c.n 2) % cyc
      gateAt (s.gateList p) 0 off (cyc - off)

/-- SQ_GATE_STATUS[p] as it reads. -/
def State.gateWord (s : State) (p : Nat) : Nat :=
  let g := s.gateNow p
  (if (s.gateCycle p).isSome then 2 ^ 16 else 0) + g.1 % 256 * 256 + g.2.1

/-- The time for which a class stays open over entries. -/
def openRun (l : List Item) (tc : Nat) : Nat :=
  match l with
  | [] => 0
  | i :: rest => if tbit (i.n 2) tc then i.n 3 + openRun rest tc else 0

/-- A class that every entry opens never closes. -/
def neverCloses : Nat := 2 ^ 64

/-- The time for which class `tc` stays open from now (R129). -/
def State.openFor (s : State) (p tc : Nat) : Nat :=
  let l := s.gateList p
  if (s.gateCycle p).isNone || l.all (fun i => tbit (i.n 2) tc) then neverCloses
  else
    let g := s.gateNow p
    if !tbit g.2.1 tc then 0
    else
      let next := if s.vt < itemN (s.gateCycle p) 2 then l else l.drop (g.1 + 1) ++ l
      g.2.2 + openRun next tc

/-- The longest unbroken open time of a class in the cycle (R130). [Assumption 66: PRESUMED, unsafe.] -/
def State.longestOpen (s : State) (p tc : Nat) : Nat :=
  let l := s.gateList p
  if (s.gateCycle p).isNone || l.all (fun i => tbit (i.n 2) tc) then neverCloses
  else ((List.range l.length).map (fun k => openRun (l.drop k ++ l.take k) tc)).foldl max 0

/-- T of R129 is at most `t` ns: (L + 20) × 8 / rate + 200 ns, exactly. -/
def State.fits (s : State) (f : SwFrame) (p t : Nat) : Bool :=
  decide ((s.outLen f p + 20) * 8 * 1000000 + 200 * portRate p ≤ t * portRate p)

/-! ### Shapers. SHAPER: PORT, TC, IDLE_SLOPE -/

def State.shaper (s : State) (p tc : Nat) : Shaper := tget (fun _ => Shaper.reset) s.sw.shapers (p * 8 + tc)
def State.setShaper (s : State) (p tc : Nat) (x : Shaper) : State :=
  { s with sw := { s.sw with shapers := tset (fun _ => Shaper.reset) s.sw.shapers (p * 8 + tc) x } }

/-- The class sends on the port; it waits there. -/
def State.classSends (s : State) (p tc : Nat) : Bool := s.sw.copies.any (fun c => c.out == p && c.tc == tc && c.started)
def State.classWaits (s : State) (p tc : Nat) : Bool := s.sw.copies.any (fun c => c.out == p && c.tc == tc && c.joined && !c.started)

/-- What a class does now (R131). -/
def State.shaperMode (s : State) (p tc : Nat) : Nat :=
  if s.classSends p tc then 1 else if !tbit (s.gateNow p).2.1 tc then 2 else if s.classWaits p tc then 3 else 0

/-- Credit up to the present moment (R131), in kbit/s times ns, by what the class did since the last moment; then what it does from now
on: hiCredit and loCredit with MAXLEN as the largest frame. [Assumption 66: PRESUMED, unsafe.] -/
def State.shaperSync (s : State) (i : Item) : State :=
  let p := i.n 0
  let tc := i.n 1
  let idle : Int := Int.ofNat (i.n 2)
  let rate : Int := Int.ofNat (portRate p)
  let x := s.shaper p tc
  let d : Int := Int.ofNat (s.now - x.at_)
  let maxBits : Int := Int.ofNat (s.maxLen p * 8 * 1000000)
  let hi := maxBits * idle / rate
  let lo := maxBits * (idle - rate) / rate
  let credit :=
    match x.mode with
    | 1 => max lo (x.credit + (idle - rate) * d)
    | 2 => x.credit
    | 3 => min hi (x.credit + idle * d)
    | _ => min 0 (x.credit + idle * d)
  let empty := !s.classSends p tc && !s.classWaits p tc
  s.setShaper p tc ⟨if empty then min 0 credit else credit, s.now, s.shaperMode p tc⟩

/-- Every shaper up to the present moment. -/
def State.shapersSync (s : State) : State := forAll (s.items 0x0805) State.shaperSync s

/-- The credit of the class allows a start (R129 item 3). [Assumption 66: PRESUMED, unsafe.] -/
def State.creditOk (s : State) (p tc : Nat) : Bool :=
  (s.item2 0x0805 p tc).isNone || decide (0 ≤ (s.shaper p tc).credit)

/-- A head frame is eligible (R129). -/
def State.eligible (s : State) (c : SwCopy) : Bool :=
  match s.frameOf c with
  | none => false
  | some f =>
    !s.sw.flushing.contains c.out && tbit (s.gateNow c.out).2.1 c.tc && s.fits f c.out (s.openFor c.out c.tc)
      && s.creditOk c.out c.tc

/-! ### Streams. STREAM: HANDLE, IDENT, FUNC, PORTS, MAC, VID, RATE, MAX_SDU -/

def State.strm (s : State) (h : Nat) : Strm := tget (fun _ => Strm.reset) s.sw.streams h
def State.setStrm (s : State) (h : Nat) (x : Strm) : State :=
  { s with sw := { s.sw with streams := tset (fun _ => Strm.reset) s.sw.streams h x } }

/-- The stream of a frame (R132): null identification first. -/
def State.streamOf (s : State) (da sa vid : Nat) : Option Item :=
  match (s.items 0x0901).find? (fun i => i.n 1 == 0 && i.n 4 == da && i.n 5 == vid) with
  | some i => some i
  | none => (s.items 0x0901).find? (fun i => i.n 1 == 1 && i.n 4 == sa && i.n 5 == vid)

def Item.replicates (i : Item) : Bool := tbit (i.n 2) 0
def Item.eliminates (i : Item) : Bool := tbit (i.n 2) 1
def Item.filters (i : Item) : Bool := tbit (i.n 2) 2
def Item.hasPort (i : Item) (p : Nat) : Bool := tbit (i.n 3) p

/-- The level of source 44. -/
def State.streamLevel (s : State) : State :=
  s.level 44 (s.sw.streams.any (fun p => (p.2.sat &&& s.rd Fd.SQ_STREAM_SAT_IE) != 0))

/-- Counter `c` of a stream (SQ_STREAM_CNT). -/
def State.strmCount (s : State) (h c : Nat) : State :=
  let x := s.strm h
  let v := tget (fun _ => 0) x.cnt c
  if v < 0xFFFFFFFE then s.setStrm h { x with cnt := tset (fun _ => 0) x.cnt c (v + 1) }
  else (s.setStrm h { x with cnt := tset (fun _ => 0) x.cnt c 0xFFFFFFFF, sat := setBit x.sat c }).streamLevel

/-- The burst of the meter in bytes (R133). [Assumption 69: DESIGN CHOICE, unsafe.] -/
def State.burst (s : State) (i : Item) : Nat :=
  if i.n 7 ≠ 0 then 2 * i.n 7 else 2 * (((List.range 24).filter (fun p => i.hasPort p)).map s.maxLen).foldl max 0

/-- The bucket refilled up to the present moment: `used` falls at RATE. [Assumption 69: DESIGN CHOICE, unsafe.] -/
def State.refill (s : State) (i : Item) : State :=
  let x := s.strm (i.n 0)
  s.setStrm (i.n 0) { x with used := x.used - i.n 6 * (s.now - x.at_), at_ := s.now }

/-- The flow meter for `len` bytes (R133): none where the bucket holds too few. -/
def State.meter (s : State) (i : Item) (len : Nat) : Option State :=
  let s := s.refill i
  let x := s.strm (i.n 0)
  let need := len * 8000000
  if need + x.used ≤ s.burst i * 8000000 then some (s.setStrm (i.n 0) { x with used := x.used + need }) else none

/-- Bytes metered and not received return to the bucket. -/
def State.refund (s : State) (h len : Nat) : State :=
  match s.item 0x0901 h with
  | none => s
  | some i =>
    let s := s.refill i
    let x := s.strm h
    s.setStrm h { x with used := x.used - len * 8000000 }

/-- Vector recovery (R135; IEEE 802.1CB-2017 clause 7.4.3): true where the frame passes. [Assumption 68: PRESUMED, unsafe.] -/
def State.recover (s : State) (h seq : Nat) : Bool × State :=
  let x := s.strm h
  let accept (x : Strm) (order : Bool) : Bool × State :=
    let s := s.setStrm h { x with seenAt := s.now }
    let s := if order then s else s.strmCount h 5
    (true, s.strmCount h 3)
  if x.takeAny then accept { x with takeAny := false, rxSeq := seq, hist := 1 } true
  else
    let ahead := (seq + 65536 - x.rxSeq) % 65536
    let back := (x.rxSeq + 65536 - seq) % 65536
    if 0 < ahead ∧ ahead < 32 then
      accept { x with rxSeq := seq, hist := (x.hist * 2 ^ ahead + 1) % 2 ^ 32 } (ahead == 1)
    else if back < 32 ∧ !tbit x.hist back then accept { x with hist := setBit x.hist back } false
    else (false, s.strmCount h 4)

/-- A number is taken out of the history again (R135). [Assumption 68: PRESUMED, unsafe.] -/
def State.unrecover (s : State) (h seq : Nat) : State :=
  let x := s.strm h
  let back := (x.rxSeq + 65536 - seq) % 65536
  if back < 32 then s.setStrm h { x with hist := clrBit x.hist back } else s

/-- A frame proves bad (R110 to R112): copies under way on an Ethernet port or arrived at an internal one stay and end stomped or
poisoned with what has crossed; the others are discarded; a number that it has put into a history is taken out again (R135).
[Assumption 62: DEDUCED, unsafe.] -/
def State.badFrame (s : State) (f : SwFrame) : State :=
  let s := s.putFrame { f with bad := true, ended := true, elim := none }
  let s := match f.elim with
    | some (h, seq, true) => s.unrecover h seq
    | _ => s
  let s := forAll (s.sw.copies.filter (fun c => c.frame == f.id)) (fun s c =>
    if c.started || (!isEthernet c.out && decide (0 < c.crossed)) then
      let s := if c.done || c.out == 23 then s else s.releaseCopy c
      let s := s.putCopy { c with charge := if c.done || c.out == 23 then c.charge else 0, done := true, joined := true }
      { s with sw := { s.sw with conns := s.sw.conns.filter (fun k => k.2 != c.n) } }
    else (s.swEvent c.out 15).dropCopy c) s
  s.sweepFrames

/-- The recovery reset time of a stream expires (R135). -/
def State.frerReset (s : State) (h : Nat) : State :=
  match s.item 0x0901 h with
  | none => s
  | some i =>
    let x := s.strm h
    if i.eliminates && !x.takeAny then
      let s := s.reach (x.seenAt + s.rd Fd.SQ_FRER_CFG_RESET_MS * ms)
      (s.setStrm h { x with takeAny := true, hist := 0 }).strmCount h 7
    else s

def execFrerRecoveryReset (handle : BitVec 16) (s : State) : Host.Outcome State Fault Refusal := .next (s.frerReset handle.toNat)

/-- A gate list moves to its next entry at its scheduled vehicle time (R128). -/
def execGateEntryChange (p : Fin 24) (s : State) : Host.Outcome State Fault Refusal :=
  .next (match s.gateCycle p with
    | none => s
    | some _ =>
      let s := s.shapersSync
      ((s.reachVt (s.vt + (s.gateNow p).2.2))).shapersSync)

end Sys2Proof.Machine
end

