-- ==== Sys2Proof/Machine/Switch.lean ====
section
/-! DEFINITION. The switch at work: MACsec, the forwarding decision, Roundabout, and the egress ports (R97 to R115, R123 to R127). -/

namespace Sys2Proof.Machine

/-! ### MACsec (R113, R115; the SecTAG of IEEE 802.1AE-2018) -/

def State.txSaAt (s : State) (p an : Nat) : Option MsSa := tget (fun _ => none) s.sw.txSa (p * 4 + an)
def State.setTxSa (s : State) (p an : Nat) (x : Option MsSa) : State :=
  { s with sw := { s.sw with txSa := tset (fun _ => none) s.sw.txSa (p * 4 + an) x } }
def State.rxSaAt (s : State) (p sc an : Nat) : Option MsSa := tget (fun _ => none) s.sw.rxSa (p * 16 + sc * 4 + an)
def State.setRxSa (s : State) (p sc an : Nat) (x : Option MsSa) : State :=
  { s with sw := { s.sw with rxSa := tset (fun _ => none) s.sw.rxSa (p * 16 + sc * 4 + an) x } }

/-- TX_AN of a port. -/
def State.txAn (s : State) (p : Nat) : Nat := s.rd (Fd.SW_MS_CTRL_TX_AN (msIndex p))

/-- The level of source 41 + m (R115). -/
def State.pnLevel (s : State) (p : Nat) : State :=
  s.level (41 + msIndex p) (match s.txSaAt p (s.txAn p) with | some a => decide (0xC000000000000000 ≤ a.pn) | none => false)

/-- The IV of GCM-AES-XPN: salt XOR (SSCI ‖ PN). [Assumption 67: PRESUMED, unsafe.] -/
def msIv (a : MsSa) (pn : Nat) : List Byte := beBytes 12 (a.salt ^^^ (a.ssci * 2 ^ 64 + pn))

/-- The 64-bit packet number that 32 received bits stand for, at or above the lowest acceptable one where it can be.
[Assumption 67: PRESUMED, unsafe.] -/
def xpn (lowest low : Nat) : Nat :=
  let high := lowest / 2 ^ 32
  if low < lowest % 2 ^ 32 ∧ 2 ^ 31 ≤ lowest % 2 ^ 32 ∧ low < 2 ^ 31 then (high + 1) * 2 ^ 32 + low else high * 2 ^ 32 + low

/-- The receive SC of a SecTAG: the one whose SA carries the SCI, SC 0 without one. -/
def State.rxSc (s : State) (p an : Nat) (sci : Option Nat) : Option Nat :=
  match sci with
  | none => some 0
  | some v => (List.range 4).find? (fun sc => match s.rxSaAt p sc an with | some a => a.sci == v | none => false)

/-- What MACsec makes of a received frame: the frame to decide, an uncontrolled frame, or a discard. -/
inductive MsResult where
  | frame (bs : List Byte)
  | uncontrolled
  | drop
  deriving DecidableEq, Repr

/-- Validation of a frame of a MACsec port (R113). [Assumption 67: PRESUMED, unsafe.] -/
def State.msValidate (s : State) (p : Nat) (bs : List Byte) : MsResult × State :=
  let etype := beNat (sl bs 12 2)
  if etype = 0x888E then (.uncontrolled, s)
  else if etype ≠ 0x88E5 then (.drop, s)
  else
    let tci := beNat (sl bs 14 1)
    let an := tci % 4
    let hdr := if tbit tci 5 then 28 else 20
    match s.rxSc p an (if tbit tci 5 then some (beNat (sl bs 20 8)) else none) with
    | none => (.drop, s)
    | some sc =>
      match s.rxSaAt p sc an with
      | none => (.drop, s)
      | some a =>
        let pn := xpn a.pn (beNat (sl bs 16 4))
        let conf := tbit tci 3
        let body := bs.drop hdr
        let aad := if conf then bs.take hdr else bs.take (bs.length - 16)
        let text := if conf then body else body.drop (body.length - 16)
        match Config.gcmOpen a.key (msIv a pn) aad text with
        | none => (.drop, s)
        | some plain =>
          if pn < a.pn ∨ tbit tci 3 ≠ tbit tci 2 then (.drop, s)
          else
            let s := s.setRxSa p sc an (some { a with pn := max a.pn (pn + 1 - s.rd (Fd.SW_MS_REPLAY_WINDOW (msIndex p))) })
            (.frame (bs.take 12 ++ (if conf then plain else body.take (body.length - 16))), s)

/-- The protected frame of an egress port (R113): the SecTAG carries the SCI, confidentiality is on.
[Assumption 67: PRESUMED, unsafe.] -/
def msSeal (a : MsSa) (an : Nat) (bs : List Byte) : List Byte :=
  let data := bs.drop 12
  let tag := beBytes 2 0x88E5 ++ beBytes 1 (0x2C + an) ++ beBytes 1 (if data.length < 48 then data.length else 0)
    ++ beBytes 4 (a.pn % 2 ^ 32) ++ beBytes 8 a.sci
  let hdr := bs.take 12 ++ tag
  hdr ++ Config.gcmSeal a.key (msIv a a.pn) hdr data

/-! ### Entering Plaza (steps 7 to 10 of Table 05-2) -/

/-- A CUT_THROUGH item names the input and output with the class in TCMASK (R109). -/
def State.ctItem (s : State) (i o tc : Nat) : Bool := tbit (itemN (s.item2 0x0702 i o) 2) tc

/-- A copy is forwarded by cut-through (R109). -/
def State.cutsThrough (s : State) (f : SwFrame) (o : Nat) : Bool :=
  !f.ended && s.ctItem f.inp o f.pcp && s.linkUp o
    && !s.sw.copies.any (fun c => c.inp == f.inp && c.out == o && c.tc == f.pcp && c.joined && c.crossed == 0)

/-- The NET endpoints a frame behind EPE is for (R153), ascending. -/
def State.netTargets (s : State) (da vid : Nat) : List Nat :=
  let group := tbit da 40
  (s.ep.eps.filter (fun p => p.2.live && !p.2.dying && p.2.ty == 0 && p.2.vid == vid
    && (if group then p.2.group else p.2.mac == da))).map (·.1)

/-- The charge of a new copy (R120). -/
def State.newCharge (s : State) (f : SwFrame) : Nat := if f.ended then cells f.len else cells (s.maxLen f.inp)

/-- One copy enters Plaza, or is refused as BUF_DROP (R121, R122, R152). -/
def State.enterCopy (s : State) (f : SwFrame) (o e : Nat) : State × Nat :=
  let n := s.newCharge f
  let tc := f.pcp
  let x := s.epAt e
  let ok := if o = 23 then !tbit x.overdrawn 1 && decide (x.occ + n ≤ x.cells) else s.admits o tc n
  if ok then
    let ct := s.cutsThrough f o
    let c : SwCopy := { n := s.sw.next, frame := f.id, inp := f.inp, out := o, tc := tc, ep := e, charge := n, ct := ct,
                        joined := ct || f.ended, crossed := 0, turn := 0, done := false, started := false, txAt := 0, an := 0, sa := none }
    let s := s.charge o tc n
    let s := if o = 23 then s.epOcc e (x.occ + n) else s
    let s := if o = 23 && (s.inflight e).any (fun k => k.op == 2) then s.needPage e else s
    ({ s with sw := { s.sw with next := s.sw.next + 1, copies := s.sw.copies ++ [c] } }, 1)
  else (s.qEvent o tc 0, 0)

/-- The copies of a frame for one output port (R123): behind EPE one for each endpoint; none matched counts EPE_NO_EP.
[Assumption 65: DEDUCED, unsafe.] -/
def State.enterPort (s : State) (f : SwFrame) (o : Nat) : State × Nat :=
  if o = 23 then
    match s.netTargets f.da f.vid with
    | [] =>
      let s := s.count (Rg.SYS_EP_EVENT 2) Rg.SYS_EP_SAT 2
      (s.level 46 ((s.rd Fd.SYS_EP_SAT_SAT &&& s.rd Fd.SYS_EP_SAT_IE) != 0), 0)
    | l => l.foldl (fun r e => let q := r.1.enterCopy f 23 e; (q.1, r.2 + q.2)) (s, 0)
  else s.enterCopy f o 0

/-- A frame enters Plaza with a copy for each port of a mask, in ascending order; the number of copies admitted (R123). -/
def State.enterMask (s : State) (f : SwFrame) (mask : Nat) : State × Nat :=
  let s := { s with sw := { s.sw with next := s.sw.next + 1, frames := s.sw.frames ++ [f] } }
  let r := ((List.range 24).filter (fun o => tbit mask o)).foldl (fun r o => let q := r.1.enterPort f o; (q.1, r.2 + q.2)) (s, 0)
  (r.1.sweepFrames, r.2)

/-- Ports of a mask that a test keeps. -/
def maskOf (keep : Nat → Bool) : Nat := (List.range 24).foldl (fun m p => if keep p then m + 2 ^ p else m) 0

/-- The R-TAG in front of a payload. -/
def hasRtag (payload : List Byte) : Bool := beNat (sl payload 0 2) == 0xF1C1

/-- Stream filtering (R133): the frame with what it was metered at, or none where it is discarded. -/
def State.streamFilter (s : State) (i : Item) (f : SwFrame) : State × Option SwFrame :=
  let h := i.n 0
  if !(i.filters && i.hasPort f.inp) then (s, some f)
  else if i.n 7 ≠ 0 ∧ i.n 7 < f.len then (s.strmCount h 1, none)
  else if i.n 6 = 0 then (s, some { f with meter := some (h, 0) })
  else
    let len := if f.ended then f.len else if i.n 7 ≠ 0 then i.n 7 else s.maxLen f.inp
    match s.meter i len with
    | none => (s.strmCount h 2, none)
    | some t => (t, some { f with meter := some (h, len) })

/-- Elimination (R135), at the decision of a whole frame or of one that cuts through to some port of the mask; else at its end.
[Assumption 68: PRESUMED, unsafe.] -/
def State.streamEliminate (s : State) (i : Item) (f : SwFrame) (mask : Nat) : State × Option SwFrame :=
  let h := i.n 0
  if !(i.eliminates && i.hasPort f.inp) then (s, some f)
  else if !hasRtag f.payload then (s.strmCount h 6, some f)
  else
    let seq := beNat (sl f.payload 4 2)
    let f' := { f with payload := f.payload.drop 6, hdr := f.hdr + 6, elim := some (h, seq, true) }
    if f.ended || (List.range 24).any (fun o => tbit mask o && s.cutsThrough f o) then
      match s.recover h seq with
      | (true, t) => (t, some f')
      | (false, t) => (t, none)
    else (s, some { f' with elim := some (h, seq, false) })

/-- Replication (R134): the frame with its sequence number, and the ports added to its mask. -/
def State.streamReplicate (s : State) (i : Item) (f : SwFrame) : State × SwFrame × Nat :=
  if !i.replicates then (s, f, 0)
  else
    let h := i.n 0
    let extra := maskOf (fun o => i.hasPort o && s.linkUp o && o != f.inp && o != 20)
    match f.elim with
    | some (_, seq, _) => (s, { f with seq := some seq }, extra)
    | none =>
      if hasRtag f.payload then (s, { f with seq := some (beNat (sl f.payload 4 2)), payload := f.payload.drop 6, hdr := f.hdr + 6 }, extra)
      else
        let x := s.strm h
        (s.setStrm h { x with txSeq := (x.txSeq + 1) % 65536 }, { f with seq := some x.txSeq }, extra)

/-- The frame that is being received at a port. -/
def State.rx (s : State) (p : Nat) : Option RxFrame := tget (fun _ => none) s.sw.rx p
def State.setRx (s : State) (p : Nat) (x : Option RxFrame) : State := { s with sw := { s.sw with rx := tset (fun _ => none) s.sw.rx p x } }

/-- What the meter took for a frame that is still being received is given back at its end (R133). -/
def State.noteMeter (s : State) (p : Nat) (m : Option (Nat × Nat)) : State :=
  match s.rx p with
  | some x => s.setRx p (some { x with meter := m })
  | none => s

/-- Step 10 of Table 05-2; the number of copies admitted. [Assumption 63: DEDUCED, unsafe.] -/
def State.step10 (s : State) (f : SwFrame) (mask : Nat) : State × Nat :=
  match s.streamOf f.da f.sa f.vid with
  | none => s.enterMask f mask
  | some i =>
    let s := s.strmCount (i.n 0) 0
    match s.streamFilter i f with
    | (s, none) => (s, 0)
    | (s, some f) =>
      let s := if f.ended then s else s.noteMeter f.inp f.meter
      match s.streamEliminate i f mask with
      | (s, none) => (s, 0)
      | (s, some f) =>
        let (s, f, extra) := s.streamReplicate i f
        s.enterMask f (mask ||| extra)

/-- Steps 7 to 9 of Table 05-2: the mask, or the event of the discard. [Assumption 63: DEDUCED, unsafe.] -/
def State.maskFor (s : State) (f : SwFrame) : Sum Nat Nat :=
  let members := s.members_ f.vid
  let found := match s.fdbFind f.da f.vid with
    | some e => e.ports
    | none => members
  let grouped := fun o => s.cxGroup && decide (o < 2)
  let inGroup := s.cxGroup && decide (f.inp < 2)
  let kept := maskOf (fun o => tbit found o && tbit members o && o != f.inp && o != 20 && !(inGroup && decide (o < 2)))
  let toGroup := s.cxGroup && (tbit kept 0 || tbit kept 1)
  let etype := beNat (sl f.payload 0 2)
  let pinned := if toGroup then s.pin members (hashOf (hashKey f.da f.sa f.vid etype (f.payload.drop 2))) else none
  let m := maskOf (fun o => (if grouped o then toGroup && pinned == some o else tbit kept o) && s.linkUp o)
  if m ≠ 0 then .inl m
  else if (List.range 24).all (fun o => !tbit found o || o == f.inp || (inGroup && decide (o < 2))) then .inr 7 else .inr 8

/-- The frame that received bytes spell (step 2 of Table 05-2). -/
def State.parse (s : State) (p : Nat) (bs : List Byte) (len stamp : Nat) (ended : Bool) : SwFrame :=
  let tagged := beNat (sl bs 12 2) == 0x8100
  let tci := beNat (sl bs 14 2)
  let vid := if tagged && tci % 4096 != 0 then tci % 4096 else s.pvid p
  { id := s.sw.next, inp := p, da := beNat (sl bs 0 6), sa := beNat (sl bs 6 6), tagged := tagged,
    pcp := if tagged then tci / 8192 else 0, dei := if tagged then tci / 4096 % 2 else 0, vid := vid,
    payload := if tagged then bs.drop 16 else bs.drop 12, hdr := if tagged then 16 else 12, len := len, got := bs, stamp := stamp, ended := ended, bad := false,
    seq := none, meter := none, elim := none }

/-- A link-local destination (step 6). [Assumption 63: DEDUCED, unsafe.] -/
def linkLocal (da : Nat) : Bool := da / 16 == 0x0180C200000

/-- A Curfew frame on S0 or S1, which the switch never forwards (R289). -/
def curfewT1s (p : Nat) (bs : List Byte) : Bool :=
  (p == 16 || p == 17) && beNat (sl bs 0 6) == 0x034E4D000001 && beNat (sl bs 12 2) == 0x88B5

/-- An Underpass frame at PLK, which the switch consumes there and never forwards (R436). -/
def underpassFrame (p : Nat) (bs : List Byte) : Bool :=
  p == 22 && beNat (sl bs 0 6) == 0x034E4D000002 && beNat (sl bs 12 2) == 0x88B6

/-- The forwarding decision on a frame without its FCS (R99): the state and the number of copies admitted.
[Assumption 59: DESIGN CHOICE, unsafe.] -/
def State.forward (s : State) (p : Nat) (bs : List Byte) (len stamp : Nat) (ended : Bool) : State × Nat :=
  let f := s.parse p bs len stamp ended
  if curfewT1s p bs || underpassFrame p bs then (s, 0)
  else if s.maxLen p < len then (s.swEvent p 5, 0)
  else if f.vid = 0 then (s.swEvent p 1, 0)
  else if f.vid = 4095 then (s.swEvent p 2, 0)
  else if !tbit (s.members_ f.vid) p then (s.swEvent p 0, 0)
  else if tbit f.sa 40 then (s.swEvent p 6, 0)
  else
    let s := if s.flag (Fd.SW_PORT_CFG_LEARN p) then s.learn f.sa f.vid p else s
    if linkLocal f.da then
      if f.da == 0x0180C200000E && beNat (sl f.payload 0 2) == 0x88F7 then (s, 0) else s.enterMask f (2 ^ 18)
    else
      match s.maskFor f with
      | .inr c => (s.swEvent p c, 0)
      | .inl m => (s.fdbHit f.da f.vid).step10 f m

/-- A whole frame received at a port: RX_FRAMES and RX_OCTETS, its FCS, MACsec, and the decision.
[Assumption 59: DESIGN CHOICE, unsafe.] -/
def State.frameIn (s : State) (p : Nat) (data : List Byte) (err : Bool) (stamp : Nat) : State :=
  let s := s.traffic p 0 data.length
  let bs := data.take (data.length - 4)
  let fcs := leNat (data.drop (data.length - 4))
  if err ∨ data.length < 18 then s.swEvent p 3
  else if fcs = crc32 bs then
    if s.macsecOn p then
      match s.msValidate p bs with
      | (.drop, s) => s.swEvent p 13
      | (.uncontrolled, s) => (s.enterMask (s.parse p bs data.length stamp true) (2 ^ 18)).1
      | (.frame plain, s) => (s.forward p plain data.length stamp true).1
    else (s.forward p bs data.length stamp true).1
  else if fcs = crc32 bs ^^^ 0xFFFFFFFF then s.swEvent p 4
  else s.swEvent p 3

/-- The frame partly received at a port. -/
def State.partFrame (s : State) (p : Nat) : Option SwFrame := s.sw.frames.find? (fun f => f.inp == p && !f.ended)

/-- Some CUT_THROUGH item names the port as IN with the class (R109). -/
def State.mayCut (s : State) (p tc : Nat) : Bool := (s.items 0x0702).any (fun i => i.n 0 == p && tbit (i.n 2) tc)

/-- S0 and S1 run half duplex (R95). -/
def halfDuplex (p : Nat) : Bool := p == 16 || p == 17

/-- The copy that a port sends. -/
def State.sending (s : State) (p : Nat) : Option SwCopy := s.sw.copies.find? (fun c => c.out == p && c.started)

/-- A frame may be received at a port: its link is up, no other frame is being received there, and a half-duplex port does not send. -/
def State.rxFree (s : State) (p : Nat) : Bool :=
  s.linkUp p && p != 21 && p != 23 && (s.rx p).isNone && !(halfDuplex p && (s.sending p).isSome)

/-- The first bytes of a frame have been received: it is decided at its 128th byte where it may cut through, else at its end. -/
def State.frameBegins (s : State) (p : Nat) (data : List Byte) (err : Bool) (stamp : Nat) : State :=
  let cut := decide (128 ≤ data.length) && !err && !s.macsecOn p && s.mayCut p (s.parse p data data.length stamp false).pcp
  let s := s.setRx p (some ⟨data, stamp, err, cut, none⟩)
  if cut then (s.forward p data data.length stamp false).1 else s

/-- A whole frame of a queue set of CPA or CPB waits at the port's injector (R108). [Assumption 64: DEDUCED, unsafe.] -/
def State.dmaQueue (s : State) (p set : Nat) (data : List Byte) (stamp : Nat) : State :=
  let f : InjFrame := ⟨p, set, s.sw.next, (s.parse p data data.length stamp true).pcp, data, stamp⟩
  { s with sw := { s.sw with next := s.sw.next + 1, inject := s.sw.inject ++ [f] } }

/-- The decision of a received frame (R99): whole, or after 128 bytes of one that may cut through; a frame that has not ended is otherwise
decided at its end. On CPA and CPB `arr.set` is the district that owns the queue set, and a whole frame waits for the injector.
[Assumption 59: DESIGN CHOICE, unsafe.] -/
def execForwardingDecision (p : Fin 24) (data : List Byte) (ended err : Bool) (arr : Arrival) (s : State) :
    Host.Outcome State Fault Refusal :=
  let p := p.val
  let stamp := s.vt - arr.ago.toNat
  .next (
    if !s.rxFree p then s
    else if !ended then (s.shapersSync.frameBegins p data err stamp).shapersSync
    else if (p = 18 ∨ p = 19) ∧ !err ∧ 18 ≤ data.length then s.dmaQueue p arr.set.val data stamp
    else (s.shapersSync.frameIn p data err stamp).shapersSync)

/-! ### The end of a frame decided early (R110, R120, R133, R135) -/

/-- A good end: charges fall to the actual cells, stored copies join their queues. [Assumption 62: DEDUCED, unsafe.] -/
def State.goodEnd (s : State) (f : SwFrame) : State :=
  let s := s.putFrame f
  forAll (s.sw.copies.filter (fun c => c.frame == f.id)) (fun s c =>
    let n := cells f.len
    let less := c.charge - n
    let s := s.release c.out c.tc less
    let s := if c.out = 23 then s.epOcc c.ep ((s.epAt c.ep).occ - less) else s
    let c := { c with charge := min c.charge n, joined := true }
    if c.crossed = n then
      let s := { s with sw := { s.sw with conns := s.sw.conns.filter (fun k => k.2 != c.n) } }
      let s := s.putCopy { c with done := true }
      if c.out = 23 then s.traffic 23 2 f.len else s.releaseCopy { c with done := true }
    else s.putCopy c) s

/-- Every copy of a frame is discarded without an event of its own. -/
def State.dropFrame (s : State) (f : SwFrame) : State :=
  (forAll (s.sw.copies.filter (fun c => c.frame == f.id)) State.dropCopy (s.putFrame { f with ended := true })).sweepFrames

/-- The meter gives back what a frame of `len` bytes did not need (R133). -/
def State.meterEnd (s : State) (m : Option (Nat × Nat)) (len : Nat) : State :=
  match m with
  | some (h, n) => s.refund h (n - len)
  | none => s

/-- A frame decided early ends: its FCS and lengths are judged, unless it has proved bad or was discarded before. -/
def State.earlyEnd (s : State) (p : Nat) (f : SwFrame) (data : List Byte) (err : Bool) : State :=
  let len := data.length
  let bs := data.take (len - 4)
  let sdu := match f.meter with
    | some (h, _) => itemN (s.item 0x0901 h) 7
    | none => 0
  let tooLong := sdu != 0 && decide (sdu < len)
  let f := { f with len := len, ended := true, got := [], payload := bs.drop f.hdr }
  let good := !err && leNat (data.drop (len - 4)) == crc32 bs && decide (len ≤ s.maxLen p) && !tooLong
  if good then
    match f.elim with
    | some (h, seq, false) =>
      match s.recover h seq with
      | (true, s) => s.goodEnd f
      | (false, s) => s.dropFrame f
    | _ => s.goodEnd f
  else
    let s := match f.meter with
      | some (h, _) => if tooLong then s.strmCount h 1 else s
      | none => s
    s.badFrame f

/-- The end of the frame that a port receives (R99, R110, R133, R143): RX_FRAMES and RX_OCTETS count it whatever became of it.
[Assumption 62: DEDUCED, unsafe.] -/
def State.frameEnd (s : State) (p : Nat) (rest : List Byte) (err : Bool) : State :=
  match s.rx p with
  | none => s
  | some x =>
    let data := x.got ++ rest
    let s := s.shapersSync.setRx p none
    let s :=
      if !x.decided then s.frameIn p data (err || x.err) x.stamp
      else
        let s := (s.traffic p 0 data.length).meterEnd x.meter data.length
        match s.partFrame p with
        | none => s
        | some f => s.earlyEnd p f data err
    s.shapersSync

/-- [Assumption 59: DESIGN CHOICE, unsafe.] -/
def execFrameEndReceived (p : Fin 24) (rest : List Byte) (err : Bool) (s : State) : Host.Outcome State Fault Refusal :=
  .next (s.frameEnd p rest err)

/-! ### The injectors of EPE, CPA and CPB (R108) -/

/-- The Roundabout weight of a queue set: of an endpoint, AMOUNT of the district's RESERVED_SHARE item of KIND 2 where it holds a reserved
share, else its own; of a set of CPA or CPB, which no register or command shows, a free value from 1 to 255.
RESERVED_SHARE: KIND, DISTRICT, ENDPOINTS, AMOUNT. [Assumption 64: DEDUCED, unsafe.] -/
def State.netWeight (s : State) (p e : Nat) : Nat :=
  if p = 23 then
    if tbit (s.epAt e).resv 2 then itemN (s.item2 0x0A02 2 (s.epAt e).district) 3 else (s.epAt e).weight
  else 1 + Config.dmaWeight p e % 255

/-- The deficit of a queue set, in bytes. -/
def State.deficit (s : State) (p e : Nat) : Nat := if p = 23 then (s.epAt e).deficit else tget (fun _ => 0) s.sw.dmaDeficit (p * 64 + e)
def State.setDeficit (s : State) (p e n : Nat) : State :=
  if p = 23 then s.setEp e { s.epAt e with deficit := n }
  else { s with sw := { s.sw with dmaDeficit := tset (fun _ => 0) s.sw.dmaDeficit (p * 64 + e) n } }

/-- The length of a waiting frame, FCS included. -/
def InjFrame.len (f : InjFrame) : Nat := if f.port = 23 then f.bytes.length + 4 else f.bytes.length

/-- The first frame of a queue set in a class. -/
def State.injHead (s : State) (p e tc : Nat) : Option InjFrame := s.sw.inject.find? (fun f => f.port == p && f.ep == e && f.tc == tc)

/-- The queue set whose turn comes after `e`, in ascending order and round again. -/
def nextTurn (l : List Nat) (e : Nat) : Nat :=
  match l.find? (fun k => decide (e < k)) with
  | some k => k
  | none => l.headD e

/-- Deficit round robin over the queue sets `l` of port `p` with a frame of class `tc` (R108). [Assumption 64: DEDUCED, unsafe.] -/
def State.drr (s : State) (p : Nat) (l : List Nat) (tc fuel : Nat) : Option (InjFrame × State) :=
  match fuel with
  | 0 => none
  | fuel + 1 =>
    let e := tget (fun _ => 0) s.sw.injTurn p
    let turn := fun (s : State) =>
      let k := nextTurn l e
      let s := { s with sw := { s.sw with injTurn := tset (fun _ => 0) s.sw.injTurn p k } }
      s.setDeficit p k (s.deficit p k + s.netWeight p k * 128)
    match s.injHead p e tc with
    | none => (turn s).drr p l tc fuel
    | some f =>
      if f.len ≤ s.deficit p e then
        let rest := s.sw.inject.filter (fun g => !(g.port == p && g.ep == f.ep && g.tag == f.tag))
        let left := if rest.any (fun g => g.port == p && g.ep == e) then s.deficit p e - f.len else 0
        some (f, ({ s with sw := { s.sw with inject := rest } }).setDeficit p e left)
      else (turn s).drr p l tc fuel

/-- A TX command ends with its frame's decision at EPE (R154). -/
def State.txDecided (s : State) (f : InjFrame) (n : Nat) : State :=
  match s.cmdOf f.ep f.tag with
  | none => s
  | some c =>
    if 0 < n then s.finish c Code.DONE
    else
      let s := s.count (Rg.SYS_EP_EVENT 3) Rg.SYS_EP_SAT 3
      let s := s.level 46 ((s.rd Fd.SYS_EP_SAT_SAT &&& s.rd Fd.SYS_EP_SAT_IE) != 0)
      s.finish c Code.TX_DISCARDED

/-- The injector of port `p` picks the next frame, which runs the forwarding decision there (R108). [Assumption 64: DEDUCED, unsafe.] -/
def State.injectOne (s : State) (p : Nat) : State :=
  let waits := s.sw.inject.filter (fun f => f.port == p)
  match (waits.map (fun f => f.tc)).max? with
  | none => s
  | some tc =>
    let l := (waits.filter (fun f => f.tc == tc)).foldl (fun l f => insertNat l f.ep) []
    match s.drr p l tc (80 * (l.length + 1)) with
    | none => s
    | some (f, s) =>
      if p = 23 then
        let (s, n) := s.forward 23 f.bytes f.len s.vt true
        (s.traffic 23 0 f.len).txDecided f n
      else s.frameIn p f.bytes false f.stamp

/-! ### Roundabout (R97, R107, R124, R130) -/

def State.grantPtr (s : State) (o tc : Nat) : Nat := tget (fun _ => 0) s.sw.grant (o * 8 + tc)
def State.acceptPtr (s : State) (i tc : Nat) : Nat := tget (fun _ => 0) s.sw.accept (i * 8 + tc)

/-- A request or grant: input, output, class. -/
abbrev Req := Nat × Nat × Nat

/-- The distance from a pointer counting upwards modulo 24. -/
def ahead24 (ptr k : Nat) : Nat := (k + 24 - ptr % 24) % 24

/-- The request chosen: the highest class, then the least distance from the pointer of that class. -/
def pickReq (l : List Req) (key : Req → Nat) (ptr : Nat → Nat) : Option Req :=
  match (l.map (fun r => r.2.2)).max? with
  | none => none
  | some tc =>
    let same := l.filter (fun r => r.2.2 == tc)
    match (same.map (fun r => ahead24 (ptr tc) (key r))).min? with
    | none => none
    | some d => same.find? (fun r => ahead24 (ptr tc) (key r) == d)

/-- One request for each input and output: the highest eligible class. -/
def requestsOf (hs : List SwCopy) : List Req :=
  hs.foldl (fun rs c =>
    match rs.find? (fun r => r.1 == c.inp && r.2.1 == c.out) with
    | some r => if r.2.2 < c.tc then rs.map (fun q => if q == r then (c.inp, c.out, c.tc) else q) else rs
    | none => rs ++ [(c.inp, c.out, c.tc)]) []

def State.inputBusy (s : State) (i : Nat) : Bool := s.sw.conns.any (fun k => k.1 == i)
def State.outputBusy (s : State) (o : Nat) : Bool :=
  s.sw.conns.any (fun k => s.sw.copies.any (fun c => c.n == k.2 && c.out == o))

/-- Heads that never fit their gates are discarded (R130), until every head fits. -/
def State.dropOversize (s : State) (fuel : Nat) : State :=
  match fuel with
  | 0 => s
  | fuel + 1 =>
    match s.heads.find? (fun c => match s.frameOf c with
        | some f => !s.fits f c.out (s.longestOpen c.out c.tc)
        | none => false) with
    | none => s
    | some c => (((s.dropCopy c).qEvent c.out c.tc 3).sweepFrames).dropOversize fuel

/-- A matched head: discarded when it is too old, and the match is void; else connected, the pointers moving in the first iteration. -/
def State.matched (s : State) (first : Bool) (r : Req) : State :=
  match s.heads.find? (fun c => c.inp == r.1 && c.out == r.2.1 && c.tc == r.2.2) with
  | none => s
  | some c =>
    match s.frameOf c with
    | none => s
    | some f =>
      if s.aged f c.out c.tc then (((s.dropCopy c).qEvent c.out c.tc 1).sweepFrames)
      else
        let s := { s with sw := { s.sw with conns := s.sw.conns ++ [(c.inp, c.n)] } }
        if first then
          { s with sw := { s.sw with
              grant := tset (fun _ => 0) s.sw.grant (c.out * 8 + c.tc) ((c.inp + 1) % 24)
              accept := tset (fun _ => 0) s.sw.accept (c.inp * 8 + c.tc) ((c.out + 1) % 24) } }
        else s

/-- One iteration of request, grant and accept (R107). [Assumption 60: DESIGN CHOICE, unsafe.] -/
def State.iterate (s : State) (first : Bool) : State :=
  let reqs := requestsOf (s.heads.filter (fun c => !s.inputBusy c.inp && !s.outputBusy c.out && s.eligible c))
  let grants := (List.range 24).filterMap (fun o => pickReq (reqs.filter (fun r => r.2.1 == o)) (fun r => r.1) (s.grantPtr o))
  let accepts := (List.range 24).filterMap (fun i => pickReq (grants.filter (fun r => r.1 == i)) (fun r => r.2.1) (s.acceptPtr i))
  forAll accepts (fun s r => s.matched first r) s

/-- The cells of a frame that have been received (R97). -/
def SwFrame.ready (f : SwFrame) : Nat := if f.ended then cells f.len else f.got.length / 128

/-- Each connected input moves one cell, where the next one has been received; the connection ends with the last cell (R97, R120). -/
def State.moveCell (s : State) (k : Nat × Nat) : State :=
  match s.sw.copies.find? (fun c => c.n == k.2) with
  | none => s
  | some c =>
    match s.frameOf c with
    | none => s
    | some f =>
      if c.crossed < f.ready then
        let turn := if c.crossed = 0 then s.sw.next else c.turn
        let c := { c with crossed := c.crossed + 1, turn := turn }
        let s := { s with sw := { s.sw with next := s.sw.next + 1 } }
        if f.ended ∧ c.crossed = f.ready then
          let s := s.putCopy { c with done := true }
          let s := { s with sw := { s.sw with conns := s.sw.conns.filter (fun q => q != k) } }
          if c.out = 23 then s.traffic 23 2 f.len else s.releaseCopy { c with done := true }
        else s.putCopy c
      else s

/-- A cell read with an uncorrectable error makes the frame of that input's connection bad (R110). -/
def State.cellError (s : State) (i : Nat) : State :=
  match s.sw.conns.find? (fun k => k.1 == i) with
  | none => s
  | some k =>
    match s.sw.copies.find? (fun c => c.n == k.2) with
    | none => s
    | some c => match s.frameOf c with
      | some f => s.badFrame f
      | none => s

/-- One cell time of Roundabout, 51.2 ns (R107): `ecc` names the inputs whose cell reads with an uncorrectable error.
[Assumption 60: DESIGN CHOICE, unsafe.] -/
def State.roundabout (s : State) (ecc : List (Fin 24)) : State :=
  let s := forAll [18, 19, 23] State.injectOne (s.pass 51).shapersSync
  let s := s.dropOversize (s.sw.copies.length + 1)
  let n := s.rd Fd.SW_CTRL_ITER
  let s := s.iterate true
  let s := if 2 ≤ n then s.iterate false else s
  let s := if 3 ≤ n then s.iterate false else s
  let s := forAll ecc (fun s i => s.cellError i.val) s
  (forAll s.sw.conns State.moveCell s).shapersSync

/-- [Assumption 60: DESIGN CHOICE, unsafe.] -/
def execRoundaboutMatch (ecc : List (Fin 24)) (s : State) : Host.Outcome State Fault Refusal := .next (s.roundabout ecc)

/-! ### Egress ports (R98, R110, R111, R115) -/

/-- The copy next in a port's egress FIFO. -/
def State.fifoHead (s : State) (p : Nat) : Option SwCopy :=
  let l := s.sw.copies.filter (fun c => c.out == p && !c.started && decide (0 < c.crossed))
  match (l.map (fun c => c.turn)).min? with
  | none => none
  | some t => l.find? (fun c => c.turn == t)

/-- A T1S port's egress queues wait: its medium sleeps or is about to, or a Curfew frame goes first (R291, R293). -/
def State.curfewHolds (s : State) (p : Nat) : Bool :=
  (p == 16 || p == 17) && (decide (3 ≤ s.rd (Fd.NM_MED_STATUS_STATE (p - 8))) || !(tget (fun _ => Medium.reset) s.nm.med (p - 8)).out.isEmpty)

/-- A port starts its next frame once 2 cells, or the whole short frame, have crossed (R98). A MACsec port takes SA and PN here; with
no PN left the frame is discarded (R115). -/
def State.txStart (s : State) (p : Nat) : State :=
  match s.sending p, s.fifoHead p with
  | none, some c =>
    match s.frameOf c with
    | none => s
    | some f =>
      if !s.linkUp p || p == 21 || p == 23 || s.sw.flushing.contains p || (halfDuplex p && (s.rx p).isSome) || s.curfewHolds p || !(c.done || (decide (2 ≤ c.crossed) && !(f.ended && decide (f.len ≤ 256)))) then s
      else
        let s := s.shapersSync
        let c := { c with started := true, txAt := s.now }
        if s.macsecOn p then
          let an := s.txAn p
          match s.txSaAt p an with
          | some a =>
            if a.pn < 2 ^ 64 then
              (((s.setTxSa p an (some { a with pn := a.pn + 1 })).putCopy { c with an := an, sa := some a }).pnLevel p).shapersSync
            else (((s.swEvent p 14).dropCopy c).sweepFrames).shapersSync
          | none => (((s.swEvent p 14).dropCopy c).sweepFrames).shapersSync
        else (s.putCopy c).shapersSync
  | _, _ => s

def execEgressTxStart (p : Fin 24) (s : State) : Host.Outcome State Fault Refusal := .next (s.txStart p)

/-- The bytes of a copy on the wire before the FCS. -/
def State.wireBytes (s : State) (c : SwCopy) (f : SwFrame) : List Byte :=
  match c.sa with
  | some a => msSeal a c.an (s.outBytes f c.out)
  | none => s.outBytes f c.out

/-- The bytes that a bad copy puts on the wire (R110): what the received bytes that have crossed become there, of a frame that exceeds the
ingress MAXLEN its first MAXLEN − 4 bytes at most. -/
def State.cutBytes (s : State) (c : SwCopy) (f : SwFrame) : List Byte :=
  let crossed := if s.maxLen f.inp < f.len then min (c.crossed * 128) (s.maxLen f.inp - 4) else c.crossed * 128
  let part := s.rawBytes { f with payload := f.payload.take (crossed - f.hdr) } c.out
  match c.sa with
  | some a => let w := msSeal a c.an part; w.take (w.length - 16)
  | none => part

def State.setSent (s : State) (p : Nat) (bs : List Byte) (bad : Bool) : State :=
  { s with sw := { s.sw with sent := tset (fun _ => (⟨[], false⟩ : SentFrame)) s.sw.sent p ⟨bs, bad⟩ } }

/-- A port finishes the frame it sends: whole with its FCS; stomped with what has crossed where it is bad or its FIFO has run empty
(R98, R110); poisoned on an internal port (R111). A flush that runs on the port governs its copies (R112). -/
def State.txFinish (s : State) (p : Nat) : State :=
  match s.sending p with
  | none => s
  | some c =>
    if s.sw.flushing.contains p then s else
    match s.frameOf c with
    | none => s
    | some f =>
      let s := s.shapersSync
      let bad := f.bad || !c.done
      let out := if bad then s.cutBytes c f else s.wireBytes c f
      let len := out.length + 4
      let s := s.reach (c.txAt + len * 8 * 1000000 / portRate p)
      let fcs := if bad then crc32 out ^^^ 0xFFFFFFFF else crc32 out
      let s := s.setSent p (if isEthernet p then out ++ leBytes 4 fcs else out) bad
      let s := s.traffic p 2 len
      let s := if bad then s.swEvent p (if isEthernet p then 11 else 12) else s
      let s := (s.dropCopy c).sweepFrames
      let s := if f.bad || c.done then s else
        match s.frameOf c with
        | some f => s.badFrame f
        | none => s
      s.shapersSync

def execEgressTxEnd (p : Fin 24) (s : State) : Host.Outcome State Fault Refusal := .next (s.txFinish p)

/-! ### Ageing (R125) -/

/-- Heads of virtual output queues that are too old are discarded, one after another. -/
def State.ageHeads (s : State) (fuel : Nat) : State :=
  match fuel with
  | 0 => s
  | fuel + 1 =>
    match s.heads.find? (fun c => match s.frameOf c with
        | some f => s.aged f c.out c.tc
        | none => false) with
    | none => s
    | some c => (((s.dropCopy c).qEvent c.out c.tc 1).sweepFrames).ageHeads fuel

def execAgeSweep (s : State) : Host.Outcome State Fault Refusal := .next ((s.shapersSync.ageHeads (s.sw.copies.length + 1)).shapersSync)

end Sys2Proof.Machine
end

