-- ==== Sys2Proof/Machine/SwitchPorts.lean ====
section
/-! DEFINITION. Links (R103, R104, R126, R127), commands on the forwarding database (R116), and the change of the transmit SA (R115). -/

namespace Sys2Proof.Machine

/-! ### Links -/

def State.linkAt (s : State) (p : Nat) : Nat := tget (fun _ => 0) s.sw.linkAt p

def candFld (p : Nat) : Fld := if p = 0 then Fd.SW_HASH_CFG_CAND_UPA else Fd.SW_HASH_CFG_CAND_UPB

/-- The port's link reads up from now on. -/
def State.setLinkUp (s : State) (p : Nat) : State :=
  let s := (s.wr (Fd.SW_PORT_STATUS_LINK p) 1).wr (Fd.SW_PORT_STATUS_RATE p) (portRateCode p)
  { s with sw := { s.sw with linkAt := tset (fun _ => 0) s.sw.linkAt p s.now, returns := s.sw.returns.filter (fun k => k != p) } }

/-- Block `n` has no power: by a request, or MIRROR in reduced function. -/
def State.unpowered (s : State) (n : Nat) : Bool := s.ao.pwrGated.contains n || (n == 10 && s.flag Fd.AO_STATE_REDUCED)

/-- The link may come up: ENABLE is 1, the switch and the block behind an internal port are powered, and the port is not asleep, nor one that
reduced function takes away (R71, R96, R298). [Assumption 167: DEDUCED, unsafe.] -/
def State.mayLink (s : State) (p : Nat) : Bool :=
  s.dev == .active && s.flag (Fd.SW_PORT_CFG_ENABLE p) && !s.unpowered 8 && !s.unpowered 9
    && !(p == 20 && s.unpowered 10) && !(p == 21 && s.unpowered 12) && !(isUplink p && s.flag Fd.AO_STATE_REDUCED)
    && !(decide (2 ≤ p) && decide (p < 16) && s.rd (Fd.NM_ETH_STATUS_STATE p) == 2)

/-- The frame partly received at a port is discarded (R127): its copies under way are bad, and the meter gives back what it took. -/
def State.rxAbort (s : State) (p : Nat) : State :=
  match s.rx p with
  | none => s
  | some x =>
    let s := (s.count (Rg.SQ_RX_ABORT p) (Rg.SQ_PORT_SAT p) 4).swLevel p
    let s := (s.meterEnd x.meter x.got.length).setRx p none
    match s.partFrame p with
    | some f => s.badFrame f
    | none => s

/-- A port's link goes down (R104, R126, R127): step 9 sees it at once, frames partly received on it are aborted, and its flush begins. A
link that had returned behind a flush is not reported up after it. -/
def State.linkDown (s : State) (p : Nat) : State :=
  if !s.linkUp p then { s with sw := { s.sw with returns := s.sw.returns.filter (fun k => k != p) } }
  else
    let s := s.shapersSync
    let s := (s.wr (Fd.SW_PORT_STATUS_LINK p) 0).wr (Fd.SW_PORT_STATUS_RATE p) 0
    let s := if p < 2 then s.wr (candFld p) 0 else s
    let s := { s with sw := { s.sw with flushing := insertNat s.sw.flushing p } }
    (s.rxAbort p).shapersSync

def execPortLinkDown (p : Fin 24) (s : State) : Host.Outcome State Fault Refusal := .next (s.linkDown p)

/-- The port's link is reported up; a port that was waking is awake (R300). -/
def State.linkRises (s : State) (p : Nat) : State :=
  let s := s.setLinkUp p
  if decide (2 ≤ p) && decide (p < 16) && s.rd (Fd.NM_ETH_STATUS_STATE p) == 3 then
    (s.wr (Fd.NM_ETH_STATUS_STATE p) 0).wr (Fd.NM_ETH_STATUS_RESULT p) Code.DONE
  else s

/-- The flush ends: every copy charged to the port's egress queues is freed and counted as FLUSHED; a link that returned is reported
up, where it still may be (R112, R126). -/
def State.flushEnd (s : State) (p : Nat) : State :=
  if s.sw.flushing.contains p then
    let s := s.shapersSync
    let s := forAll (s.sw.copies.filter (fun c => c.out == p)) (fun s c => (s.dropCopy c).qEvent c.out c.tc 2) s
    let back := s.sw.returns.contains p
    let s := { s with sw := { s.sw with flushing := s.sw.flushing.filter (fun k => k != p), returns := s.sw.returns.filter (fun k => k != p) } }
    let s := s.sweepFrames.shapersSync
    if back && s.mayLink p then s.linkRises p else s
  else s

def execLinkDownFlushEnd (p : Fin 24) (s : State) : Host.Outcome State Fault Refusal := .next (s.flushEnd p)

/-- A PHY brings its link up (R126, R463). [Assumption 167: DEDUCED, unsafe.] -/
def State.linkComesUp (s : State) (p : Nat) : State :=
  if s.linkUp p || !s.mayLink p then s
  else if s.sw.flushing.contains p then { s with sw := { s.sw with returns := insertNat s.sw.returns p } }
  else s.linkRises p

/-- The links of internal ports come up with the power of the blocks behind them (Table 05-1, R96). -/
def State.innerLinks (s : State) : State := forAll [18, 19, 20, 21, 23] State.linkComesUp s

def execPortLinkUp (p : Fin 24) (s : State) : Host.Outcome State Fault Refusal := .next (s.linkComesUp p)

/-- A CX group member whose link has been up for FAILBACK_MS rejoins (R104). [Assumption 167: DEDUCED, unsafe.] -/
def State.rejoin (s : State) (p : Nat) : State :=
  if s.cxGroup && s.linkUp p then
    (s.reach (s.linkAt p + s.rd Fd.SW_HASH_CFG_FAILBACK_MS * ms)).wr (candFld p) 1
  else s

def execHashMemberRejoin (m : Fin 2) (s : State) : Host.Outcome State Fault Refusal := .next (s.rejoin m)

/-! ### The forwarding database's commands -/

/-- A learned entry leaves AGE_S seconds after its last hit (R102). -/
def State.fdbAge (s : State) (mac vid : Nat) : State :=
  match s.fdbFind mac vid with
  | none => s
  | some e =>
    if e.static then s
    else
      let s := s.reach (e.hit + s.rd Fd.SW_CTRL_AGE_S * sec)
      s.setFdb (s.sw.fdb.filter (fun x => !x.is mac vid))

def execFdbAgeOut (mac : BitVec 48) (vid : BitVec 12) (s : State) : Host.Outcome State Fault Refusal :=
  .next (s.fdbAge mac.toNat vid.toNat)

/-- The key in SW_FDB_KEY_LO and SW_FDB_KEY_HI. -/
def State.fdbKey (s : State) : Nat × Nat :=
  (s.rd Fd.SW_FDB_KEY_HI_MAC_HI * 2 ^ 32 + s.rd Fd.SW_FDB_KEY_LO_MAC_LO, s.rd Fd.SW_FDB_KEY_HI_VID)

/-- LOOKUP (R116). -/
def State.fdbLookup (s : State) : State :=
  let (mac, vid) := s.fdbKey
  match s.fdbFind mac vid with
  | none => (s.setReg Rg.SW_FDB_RESULT 0).wr Fd.SW_FDB_CMD_RESULT Code.FDB_NOT_FOUND
  | some e =>
    let age := min 3 ((s.now - e.hit) * 4 / (s.rd Fd.SW_CTRL_AGE_S * sec))
    let s := (s.setReg Rg.SW_FDB_RESULT 0).wr Fd.SW_FDB_RESULT_VALID 1
    let s := (s.setFlag Fd.SW_FDB_RESULT_STATIC e.static).wr Fd.SW_FDB_RESULT_AGE (if e.static then 0 else age)
    (s.wr Fd.SW_FDB_RESULT_PORTS e.ports).wr Fd.SW_FDB_CMD_RESULT Code.DONE

/-- DELETE (R103, R116). -/
def State.fdbDelete (s : State) : State :=
  let (mac, vid) := s.fdbKey
  match s.fdbFind mac vid with
  | none => s.wr Fd.SW_FDB_CMD_RESULT Code.FDB_NOT_FOUND
  | some e =>
    if e.static then s.wr Fd.SW_FDB_CMD_RESULT Code.PLAN_LOCKED
    else (s.setFdb (s.sw.fdb.filter (fun x => !x.is mac vid))).wr Fd.SW_FDB_CMD_RESULT Code.DONE

/-- FLUSH_PORT: the learned entries that name the port. -/
def State.fdbFlushPort (s : State) (p : Nat) : State :=
  (s.setFdb (s.sw.fdb.filter (fun x => x.static || !tbit x.ports p))).wr Fd.SW_FDB_CMD_RESULT Code.DONE

/-- FLUSH_ALL: every learned entry. -/
def State.fdbFlushAll (s : State) : State :=
  (s.setFdb (s.sw.fdb.filter (fun x => x.static))).wr Fd.SW_FDB_CMD_RESULT Code.DONE

/-- SW_FDB_CMD: OP 1 to 4, others OUT_OF_RANGE; OP 0 asks for nothing (R43). [Assumption 70: DESIGN CHOICE, unsafe.] -/
def State.fdbCmdWrite (s : State) (who : Who) (bytes : Nat) (w : Word) : State :=
  let op := w.toNat % 8
  let port := w.toNat / 256 % 32
  s.regWrite who bytes Rg.SW_FDB_CMD w false (decide (4 < op) || decide (23 < port))
    (if s.rd Fd.SW_FDB_CMD_RESULT = Code.BUSY then Code.BUSY else Code.DONE)
    (fun s => match op with
      | 1 => s.fdbLookup
      | 2 => s.fdbDelete
      | 3 => s.fdbFlushPort port
      | 4 => s.fdbFlushAll
      | _ => s)

/-- The word of SW_FDB_CMD with an OP and a PORT. -/
def fdbWord (op port : Nat) : Word := BitVec.ofNat 32 (port * 256 + op)

/-- [Assumption 70: DESIGN CHOICE, unsafe.] -/
def execFdbLookup (who : Who) (s : State) : Host.Outcome State Fault Refusal := .next (s.fdbCmdWrite (s.issuer who) 4 (fdbWord 1 (s.rd Fd.SW_FDB_CMD_PORT)))
def execFdbDelete (who : Who) (s : State) : Host.Outcome State Fault Refusal := .next (s.fdbCmdWrite (s.issuer who) 4 (fdbWord 2 (s.rd Fd.SW_FDB_CMD_PORT)))
def execFdbFlushPort (who : Who) (p : Fin 32) (s : State) : Host.Outcome State Fault Refusal := .next (s.fdbCmdWrite (s.issuer who) 4 (fdbWord 3 p))
/-- [Assumption 70: DESIGN CHOICE, unsafe.] -/
def execFdbFlushAll (who : Who) (s : State) : Host.Outcome State Fault Refusal := .next (s.fdbCmdWrite (s.issuer who) 4 (fdbWord 4 (s.rd Fd.SW_FDB_CMD_PORT)))

/-! ### MACsec registers -/

/-- The port of MACsec index `m`. -/
def msPort (m : Nat) : Nat := if m = 2 then 22 else m

/-- SW_MS_CTRL: a change of TX_AN takes effect at the start of the next frame (R115). -/
def State.msCtrlWrite (s : State) (who : Who) (bytes m : Nat) (w : Word) : State :=
  s.regWrite who bytes (Rg.SW_MS_CTRL m) w false false Code.DONE (fun s => s.pnLevel (msPort m))

def execMacsecTxAnChange (who : Who) (m : Fin 3) (w : Word) (s : State) : Host.Outcome State Fault Refusal := .next (s.msCtrlWrite (s.issuer who) 4 m w)

/-- The next transmit PN of SA TX_AN (SW_MS_TXPN), 0 without an SA. -/
def State.txPn (s : State) (m : Nat) : Nat :=
  match s.txSaAt (msPort m) (s.txAn (msPort m)) with
  | some a => a.pn % 2 ^ 64
  | none => 0

end Sys2Proof.Machine
end

