-- ==== Sys2Proof/Machine/VehicleTime.lean ====
section
/-! DEFINITION. Vehicle time and 802.1AS (R137, R138), and the CAN gateway port (R139 to R141). -/

namespace Sys2Proof.Machine

/-! ### Vehicle time -/

/-- STATE of SQ_AS_STATUS: 0 FREE, 1 ACQUIRING, 2 LOCKED, 3 HOLDOVER, 4 AHEAD. -/
def State.asState (s : State) : Nat := s.rd Fd.SQ_AS_STATUS_STATE
def State.setAs (s : State) (v : Nat) : State := s.wr Fd.SQ_AS_STATUS_STATE v
def State.setPtp (s : State) (x : TimeState) : State := { s with ptp := x }

def State.role (s : State) (p : Nat) : Nat := s.rd (Fd.SQ_AS_PORT_CFG_ROLE p)
/-- The Sync interval of a port in ns. -/
def State.syncInterval (s : State) (p : Nat) : Nat := sec / 2 ^ s.rd (Fd.SQ_AS_PORT_CFG_SYNC_RATE p)

/-- Ports on which 802.1AS runs: 0 to 15 and PLK. -/
def asPort (p : Nat) : Bool := decide (p < 16) || p == 22

/-- OFFSET of SQ_AS_STATUS: the last offset, saturating at ±32,767. [Assumption 71: DEDUCED, unsafe.] -/
def State.setOffset (s : State) (o : Int) : State := s.wr Fd.SQ_AS_STATUS_OFFSET (unsignedOf 16 (max (-32767) (min 32767 o)))

/-- Vehicle time is set (Table 06-2); a step resumes the CAN schedules, the gate lists and Shopfront's grids at the new time (R128, R138,
R177, R274). [Assumption 73: DEDUCED, unsafe.] -/
def State.setVt (s : State) (t : Nat) : State :=
  let old := s.vt
  let s := s.shapersSync
  let s := { s with vt := t % vtMod, ptp := { s.ptp with slew := 0, slewRem := 0, hold := 0 } }
  (forAll (List.range 8) (fun s k => s.canStep k old (t % vtMod)) s.shapersSync).mirrorStep ((t % vtMod : Nat) - (old : Int))

/-- A Sync interval's verdict in ACQUIRING or LOCKED (Table 06-2). [Assumption 71: DEDUCED, unsafe.] -/
def State.judgeOffset (s : State) (o : Int) : State :=
  let small := decide (-1000 < o) && decide (o < 1000)
  let good := if small then s.ptp.good + 1 else 0
  let s := s.setPtp { s.ptp with good := good }
  if small && decide (8 ≤ good) then s.setAs 2
  else if !small && s.asState == 2 then s.setAs 1
  else s

/-- A valid Sync with grandmaster time `gm` at the present moment (Table 06-2, R138). [Assumption 71: DEDUCED, unsafe.] -/
def State.sync (s : State) (gm : Nat) : State :=
  let o : Int := Int.ofNat s.vt - Int.ofNat gm
  let s := (s.setOffset o).setPtp { s.ptp with syncAt := s.now, hold := 0 }
  let st := s.asState
  if st = 0 then ((s.setVt gm).setAs 1).setPtp { s.ptp with slew := 0, good := 0, syncAt := s.now }
  else if 1000000000 < o then (s.setPtp { s.ptp with slew := 0, good := 0 }).setAs 4
  else if o ≤ -10000 then
    let s := s.setVt gm
    (s.setPtp { s.ptp with good := 0 }).setAs 1
  else
    let s := s.setPtp { s.ptp with slew := -o }
    let s := if st = 3 ∨ st = 4 then (s.setPtp { s.ptp with good := 0 }).setAs 1 else s
    s.judgeOffset o

/-- The neighbour delay of a port: measured, or fixed by NBR_DELAY with PDELAY_EN 0 (R137, SQ_AS_PORT_CFG). -/
def State.nbrDelay (s : State) (p : Nat) : Nat :=
  if s.flag (Fd.SQ_AS_PORT_CFG_PDELAY_EN p) then tget (fun _ => 0) s.ptp.nbr p else s.rd (Fd.SQ_AS_PORT_CFG_NBR_DELAY p)

/-- A valid Sync reaches the slave port: `gm` is the grandmaster's time when it left the neighbour. -/
def execSyncReceived (p : Fin 24) (gm : BitVec 64) (s : State) : Host.Outcome State Fault Refusal :=
  .next (if s.role p == 2 && asPort p && s.linkUp p then s.sync ((gm.toNat + s.nbrDelay p) % vtMod) else s)

/-- No Sync for 3 Sync intervals: HOLDOVER, at the last rate (Table 06-2). -/
def State.syncTimeout (s : State) : State :=
  if s.asState = 0 ∨ s.asState = 3 then s
  else
    match (List.range 24).find? (fun p => s.role p == 2) with
    | none => s
    | some p =>
      let s := s.reach (s.ptp.syncAt + 3 * s.syncInterval p)
      (s.setPtp { s.ptp with slew := 0, hold := s.ptp.slew.sign, good := 0 }).setAs 3

def execSyncTimeout (s : State) : Host.Outcome State Fault Refusal := .next s.syncTimeout

/-- A master port sends a two-step Sync, Sync and Follow_Up, at its Sync interval (R137). [Assumption 72: PRESUMED, unsafe.] -/
def State.asSend (s : State) (p : Nat) : State :=
  if s.role p == 1 && asPort p && s.linkUp p then
    let last := tget (fun _ => 0) s.ptp.sentAt p
    let s := if last = 0 then s else s.reach (last + s.syncInterval p)
    let s := s.setPtp { s.ptp with sentAt := tset (fun _ => 0) s.ptp.sentAt p s.now }
    (s.traffic p 2 64).traffic p 2 94
  else s

def execAsSyncSend (p : Fin 24) (s : State) : Host.Outcome State Fault Refusal := .next (s.asSend p)

/-- A port with PDELAY_EN measures its neighbour delay. [Assumption 72: PRESUMED, unsafe.] -/
def State.pdelay (s : State) (p d : Nat) : State :=
  if s.role p != 0 && s.flag (Fd.SQ_AS_PORT_CFG_PDELAY_EN p) && s.linkUp p then
    (s.setPtp { s.ptp with nbr := tset (fun _ => 0) s.ptp.nbr p d }).traffic p 2 72
  else s

def execPdelayMeasure (p : Fin 24) (d : BitVec 32) (s : State) : Host.Outcome State Fault Refusal := .next (s.pdelay p d.toNat)

/-- SQ_AS_PORT_CFG: ROLE 3, or a role on a port without 802.1AS, is OUT_OF_RANGE; a second slave is WRONG_STATE (R137). -/
def State.asCfgWrite (s : State) (who : Who) (bytes p : Nat) (w : Word) : State :=
  let role := w.toNat % 4
  let rate := w.toNat / 16 % 8
  s.regWrite who bytes (Rg.SQ_AS_PORT_CFG p) w false (role == 3 || (role != 0 && !asPort p) || decide (5 < rate))
    (if role = 2 ∧ (List.range 24).any (fun q => q != p && s.role q == 2) then Code.WRONG_STATE else Code.DONE)
    (fun s =>
      match (List.range 24).find? (fun q => s.role q == 2) with
      | some q => (s.wr Fd.SQ_AS_STATUS_SLAVE_VALID 1).wr Fd.SQ_AS_STATUS_SLAVE_PORT q
      | none => (s.wr Fd.SQ_AS_STATUS_SLAVE_VALID 0).wr Fd.SQ_AS_STATUS_SLAVE_PORT 0)

/-! ### The gateway port, packing (R139, R140). CAN_ROUTE: CH, DIR, ID, MASK, STREAM -/

/-- An ACF CAN message of a frame (IEEE 1722-2016): header quadlet, flags and can_bus_id, message_timestamp, identifier, data padded to
quadlets. [Assumption 74: PRESUMED, unsafe.] -/
def acfCan (k w0 w1 : Nat) (data : List Byte) (time : Nat) : List Byte :=
  let n := data.length
  let pad := (4 - n % 4) % 4
  let quads := 4 + (n + pad) / 4
  let flag := fun (b : Bool) (v : Nat) => if b then v else 0
  let flags := pad * 64 + 32 + flag (hdrRtr w0) 16 + flag (hdrIde w0) 8 + flag (hdrBrs w1) 4 + flag (hdrFdf w0) 2 + flag (hdrEsi w1) 1
  let id := if hdrIde w0 then hdrId w0 else hdrId w0 / 2 ^ 18
  beBytes 2 (1 * 512 + quads) ++ beBytes 1 flags ++ beBytes 1 k ++ beBytes 8 time ++ beBytes 4 id ++ data ++ List.replicate pad 0

/-- The gateway address (CAN_GWY_MAC). -/
def State.gwyMac (s : State) : Nat := s.rd Fd.CAN_GWY_MAC_HI_MAC * 2 ^ 32 + s.rd Fd.CAN_GWY_MAC_LO_MAC

/-- An NTSCF frame of the gateway enters the switch at GWY (R139). -/
def State.gwySend (s : State) (g : GwyFrame) : State :=
  let s := { s with sw := { s.sw with gwy := s.sw.gwy.filter (fun x => x.stream != g.stream) } }
  match s.item 0x0901 g.stream with
  | none => s
  | some i =>
    let seq := tget (fun _ => 0) s.sw.gwySeq g.stream
    let s := { s with sw := { s.sw with gwySeq := tset (fun _ => 0) s.sw.gwySeq g.stream ((seq + 1) % 256) } }
    let msgs := g.msgs.foldl (· ++ ·) []
    let pdu := beBytes 1 0x82 ++ beBytes 2 (0x8000 + msgs.length % 2048) ++ beBytes 1 seq
      ++ beBytes 6 s.gwyMac ++ beBytes 2 g.stream ++ msgs
    let bs := beBytes 6 (i.n 4) ++ beBytes 6 s.gwyMac ++ beBytes 2 0x8100 ++ beBytes 2 (s.rd Fd.CAN_GWY_CFG_PCP * 8192 + i.n 5)
      ++ beBytes 2 0x22F0 ++ pdu
    let bs := bs ++ List.replicate (60 - bs.length) 0
    let s := s.shapersSync.traffic 21 0 (bs.length + 4)
    (s.forward 21 bs (bs.length + 4) s.vt true).1.shapersSync

/-- The length of an NTSCF frame's PDU with its messages. [Assumption 74: PRESUMED, unsafe.] -/
def GwyFrame.size (g : GwyFrame) : Nat := 12 + (g.msgs.map List.length).foldl (· + ·) 0

/-- [Assumption 74: PRESUMED, unsafe.] -/
def State.gwyFrame (s : State) (h : Nat) : Option GwyFrame := s.sw.gwy.find? (fun g => g.stream == h)

/-- A message joins the NTSCF frame of its stream (R140). -/
def State.gwyAdd (s : State) (h : Nat) (m : List Byte) : State :=
  let s := match s.gwyFrame h with
    | some g => if 1400 < g.size + m.length then s.gwySend g else s
    | none => s
  let g := match s.gwyFrame h with
    | some g => { g with msgs := g.msgs ++ [m] }
    | none => ⟨h, s.now, [m]⟩
  let s := { s with sw := { s.sw with gwy := s.sw.gwy.filter (fun x => x.stream != h) ++ [g] } }
  if s.rd Fd.CAN_GWY_CFG_MAX_MSGS ≤ g.msgs.length ∨ s.rd Fd.CAN_GWY_CFG_HOLD_US = 0 then s.gwySend g else s

/-- The routes of a direction that match a channel and an identifier. -/
def State.canRoute (s : State) (dir k id : Nat) (ok : Item → Bool) : Option Item :=
  (s.items 0x0C03).find? (fun i => i.n 1 == dir && i.n 0 == k && (id &&& i.n 3) == (i.n 2 &&& i.n 3) && ok i)

/-- GWY_PACK: a received frame that matches a route is packed (R139); true where one matches. -/
def State.gwyPack (s : State) (k w0 w1 : Nat) (data : List Byte) : Bool × State :=
  match s.canRoute 0 k (hdrId w0) (fun _ => true) with
  | none => (false, s)
  | some i => (true, s.gwyAdd (i.n 4) (acfCan k w0 w1 data s.vt))

/-- HOLD_US has passed since the first message of a stream's frame (R140). -/
def execGwyHoldExpiry (stream : BitVec 16) (s : State) : Host.Outcome State Fault Refusal :=
  .next (match s.gwyFrame stream.toNat with
    | none => s
    | some g => (s.reach (g.first + s.rd Fd.CAN_GWY_CFG_HOLD_US * us)).gwySend g)

/-! ### The gateway port, unpacking (R111, R141) -/

def State.gwyLevel (s : State) : State := s.level 45 ((s.rd Fd.CAN_GWY_SAT_SAT &&& s.rd Fd.CAN_GWY_SAT_IE) != 0)
/-- CAN_GWY_EVENT: 0 NO_ROUTE, 1 UNSUPPORTED. -/
def State.gwyEvent (s : State) (c : Nat) : State := (s.count (Rg.CAN_GWY_EVENT c) Rg.CAN_GWY_SAT c).gwyLevel

/-- The data length code of a number of bytes: the least that holds them. -/
def dlcOf (n : Nat) : Nat :=
  if n ≤ 8 then n else if n ≤ 12 then 9 else if n ≤ 16 then 10 else if n ≤ 20 then 11 else if n ≤ 24 then 12
  else if n ≤ 32 then 13 else if n ≤ 48 then 14 else 15

/-- One ACF message is delivered (R141). -/
def State.gwyMessage (s : State) (stream : Nat) (m : List Byte) : State :=
  if beNat (sl m 0 1) / 2 ≠ 1 then s.gwyEvent 1
  else
    let flags := beNat (sl m 2 1)
    let k := beNat (sl m 3 1) % 32
    let eff := tbit flags 3
    let raw := beNat (sl m 12 4) % 2 ^ 29
    let id := if eff then raw else raw % 2 ^ 11 * 2 ^ 18
    let data := (m.drop 16).take (m.length - 16 - flags / 64)
    match s.canRoute 1 k id (fun i => i.n 4 == stream) with
    | none => s.gwyEvent 0
    | some _ =>
      let w0 := (if eff then 2 ^ 31 else 0) + (if tbit flags 4 then 2 ^ 30 else 0) + (if tbit flags 1 then 2 ^ 29 else 0) + id
      let w1 := (if tbit flags 0 then 128 else 0) + (if tbit flags 2 then 64 else 0) + dlcOf data.length
      s.gwyPush k ⟨w0, w1, data, s.now⟩

/-- The messages of an NTSCF frame, one after another. [Assumption 74: PRESUMED, unsafe.] -/
def State.gwyMessages (s : State) (stream : Nat) (bs : List Byte) (fuel : Nat) : State :=
  match fuel with
  | 0 => s
  | fuel + 1 =>
    if bs.length < 4 then s
    else
      let n := 4 * (beNat (sl bs 0 2) % 512)
      if n = 0 then s else (s.gwyMessage stream (bs.take n)).gwyMessages stream (bs.drop n) fuel

/-- The next frame that has reached GWY is unpacked (R141), or handled under R111 where it is poisoned. -/
def State.gwyReceive (s : State) : State :=
  match s.fifoHead 21 with
  | none => s
  | some c =>
    match s.frameOf c with
    | none => s
    | some f =>
      if !c.done then s
      else
        let s := ((s.shapersSync.dropCopy c).sweepFrames).traffic 21 2 f.len
        if f.bad then s.swEvent 21 12
        else
          let p := f.payload
          let stream := beNat (sl p 12 2)
          if beNat (sl p 0 2) = 0x22F0 ∧ beNat (sl p 2 1) = 0x82 then
            let n := beNat (sl p 3 2) % 2048
            s.gwyMessages stream ((p.drop 14).take n) (n + 1)
          else s.gwyEvent 1

def execGwyNtscfReceive (s : State) : Host.Outcome State Fault Refusal := .next s.gwyReceive

end Sys2Proof.Machine
end

