-- ==== Sys2Proof/Machine/Wake.lean ====
section
/-! DEFINITION. Qualified wakes (R72, R73, R76) as every source raises them. -/

namespace Sys2Proof.Machine

/-- The level of source 48 (Table 17-1). -/
def State.wakeLevel (s : State) : State := s.level 48 (s.reg Rg.AO_WAKE_CAUSE != 0)

/-- MAIN is to power up, with the cause bit `b` unless another cause stands (Table 04-5). -/
def State.boots (s : State) (b : Nat) : State :=
  { s with ao := { s.ao with booting := true, causes := if s.ao.causes.isEmpty then [b] else s.ao.causes } }

/-- A qualified wake sets its bit of AO_WAKE_CAUSE; it ends a sleep request before its commit point, and in Parked or Standby the device
boots (R72, R73, R76), unless the supply is away (R87). -/
def State.qualifiedWake (s : State) (b : Nat) : State :=
  let s := (s.wr (bitOf Rg.AO_WAKE_CAUSE b) 1).wakeLevel
  match s.dev with
  | .active =>
    if s.ao.sleepDue.isSome then
      ({ s with ao := { s.ao with sleepDue := none } }).wr Fd.AO_SLEEP_RESULT Code.WAKE_PENDING
    else s
  | .parked => if s.ao.underVolt then s else s.boots 7
  | .standby => if s.ao.underVolt then s else s.boots 7
  | .off => s

end Sys2Proof.Machine
end

