-- ==== Sys2Proof/Machine/Network.lean ====
section
/-! DEFINITION. Network sleep and wake (R283 to R302), with the reception of a CAN frame (R265) and the change of a channel's mode
(R262), which touch the gateway and the Curfew ring. -/

namespace Sys2Proof.Machine

/-! ### Rings and media. RING: RING, MEDIUM (0 CAN, 1 T1S), INDEX, NODE -/

/-- The RING item of a medium: CANk is medium k, Sk is medium 8 + k. -/
def State.ringItem (s : State) (m : Nat) : Option Item :=
  (s.items 0x0D01).find? (fun i => if m < 8 then i.n 1 == 0 && i.n 2 == m else i.n 1 == 1 && i.n 2 + 8 == m)

def State.medNode (s : State) (m : Nat) : Nat := itemN (s.ringItem m) 3
def State.medRing (s : State) (m : Nat) : Nat := itemN (s.ringItem m) 0
def State.consent (s : State) (r : Nat) : Bool := s.flag (Fd.NM_RING_CTRL_CONSENT r)
def State.medConsent (s : State) (m : Nat) : Bool := s.consent (s.medRing m)

/-- The media of a ring. -/
def State.mediaOf (s : State) (r : Nat) : List Nat := (List.range 10).filter (fun m => (s.ringItem m).isSome && s.medRing m == r)

/-- RING_T, SKIP_T, ERROR_T and WBS_T (R292). -/
def ringTime : Nat := 100 * ms
def skipTime : Nat := 250 * ms
def errorTime : Nat := sec
def wbsTime : Nat := 1500 * ms

def State.nmLevels (s : State) : State :=
  let s := s.level 102 ((List.range 8).any (fun k => s.flag (Fd.NM_TRX_CTRL_FS k)))
  s.level 103 ((List.range 10).any (fun m => (s.rd (Fd.NM_MED_SAT_SAT m) &&& s.rd (Fd.NM_MED_SAT_IE m)) != 0))

/-- NM_MED_EVENT: 0 BAD_FRAME, 1 DUP_NODE, 2 SKIPPED, 3 RING_LOST, 4 LIMP_ENTRY, 5 WITHDRAWN, 6 LATE_WAKE, 7 BELLS. -/
def State.medEvent (s : State) (m c : Nat) : State := (s.count (Rg.NM_MED_EVENT m c) (Rg.NM_MED_SAT m) c).nmLevels

/-- The nodes of PRESENT and READY as one number. [Assumption 141: DEDUCED, unsafe.] -/
def State.present (s : State) (m : Nat) : Nat := s.rd (Fd.NM_MED_PRESENT_LO_NODES m) + 2 ^ 32 * s.rd (Fd.NM_MED_PRESENT_HI_NODES m)
def State.ready (s : State) (m : Nat) : Nat := s.rd (Fd.NM_MED_READY_LO_NODES m) + 2 ^ 32 * s.rd (Fd.NM_MED_READY_HI_NODES m)

/-- The successor of the node (R291): the lowest present node above it, or else the lowest, itself included.
[Assumption 141: DEDUCED, unsafe.] -/
def State.successor (s : State) (m : Nat) : Nat :=
  let own := s.medNode m
  let l := (List.range 64).filter (fun n => tbit (s.present m) n || n == own)
  match l.find? (fun n => decide (own < n)) with
  | some n => n
  | none => l.headD own

def State.setPresent (s : State) (m v : Nat) : State :=
  let s := (s.wr (Fd.NM_MED_PRESENT_LO_NODES m) (v % 2 ^ 32)).wr (Fd.NM_MED_PRESENT_HI_NODES m) (v / 2 ^ 32)
  s.wr (Fd.NM_MED_STATUS_SUCC m) (s.successor m)
def State.setReady (s : State) (m v : Nat) : State :=
  (s.wr (Fd.NM_MED_READY_LO_NODES m) (v % 2 ^ 32)).wr (Fd.NM_MED_READY_HI_NODES m) (v / 2 ^ 32)

def State.token (s : State) (m : Nat) : Bool := s.flag (Fd.NM_MED_STATUS_TOKEN m)
def State.setToken (s : State) (m : Nat) (b : Bool) : State := s.setFlag (Fd.NM_MED_STATUS_TOKEN m) b
/-- STATE of a medium; a CAN channel whose requests have waited chooses among them all. -/
def State.setMed (s : State) (m v : Nat) : State :=
  (if m < 8 ∧ v = 1 ∧ 3 ≤ s.medState m then s.canReady m else s).wr (Fd.NM_MED_STATUS_STATE m) v

/-! ### Sending and starting (R289 to R293) -/

/-- The 8 data bytes of a Curfew frame of node `own` (Table 13-2). -/
def MedFrame.data (f : MedFrame) (own : Nat) : List Byte := leBytes 1 own ++ leBytes 1 f.next ++ leBytes 1 f.flags ++ leBytes 5 0

/-- The source address of node `n` on medium `m` of T1S: 02-4E-4D-00-0k-SOURCE. -/
def t1sSource (m n : Nat) : Nat := 0x024E4D000000 + (m - 8) * 256 + n

/-- A Curfew frame of the medium as it goes out (R289): on CAN a classic base data frame with DLC 8 as a buffer image, on T1S an untagged
Ethernet frame. -/
def State.curfewBytes (s : State) (m : Nat) (f : MedFrame) : List Byte :=
  let data := f.data (s.medNode m)
  if m < 8 then leBytes 4 (s.curfewW0 m) ++ leBytes 4 8 ++ data
  else beBytes 6 0x034E4D000001 ++ beBytes 6 (t1sSource m (s.medNode m)) ++ beBytes 2 0x88B5 ++ data ++ leBytes 38 0

/-- A frame made ready to send: NEXT and the flags of byte 2. [Assumption 140: DESIGN CHOICE, unsafe.] -/
def State.medSend (s : State) (m next flags : Nat) (start : Bool) : State :=
  let x := s.medium m
  s.setMedium m { x with out := x.out ++ [⟨next, flags, start, 0, s.now, 0⟩] }

/-- The node sends a WAKE frame. -/
def State.sendWake (s : State) (m : Nat) (start : Bool) : State := s.medSend m (s.medNode m) 0x10 start

/-- The node sends a RING frame to its successor. [Assumption 141: DEDUCED, unsafe.] -/
def State.sendRing (s : State) (m : Nat) : State := s.medSend m (s.successor m) (if s.medConsent m then 3 else 1) false

/-- Start (R293): a WAKE frame; the token RING_T after it is sent. [Assumption 141: DEDUCED, unsafe.] -/
def State.medStart (s : State) (m : Nat) : State :=
  let s := (s.setMed m 1).setToken m false
  let s := s.setMedium m { s.medium m with ringT := none, skip := none, ringSeen := s.now, out := [] }
  s.sendWake m true

/-- The medium can run: its block and NM have power, and a channel is not OFF (Table 13-3). -/
def State.medUsable (s : State) (m : Nat) : Bool :=
  (s.ringItem m).isSome && !s.gated 0xD && (if m < 8 then !s.gated 0xC && s.canMode m != 0 else !s.gated 8)

/-- CURFEW_START out of OFF: PRESENT and READY clear first (Table 13-3). -/
def State.curfewStart (s : State) (m : Nat) : State :=
  if s.medUsable m then ((s.setPresent m 0).setReady m 0).medStart m else s

/-- The medium stops sending: no token, no timer, no frame. -/
def State.medStop (s : State) (m : Nat) : State :=
  (s.setToken m false).setMedium m { s.medium m with ringT := none, skip := none, out := [] }

/-- The medium is in OFF. -/
def State.medOff (s : State) (m : Nat) : State := (s.medStop m).setMed m 0

/-- WAIT_SLEEP, counted from now. -/
def State.medWait (s : State) (m : Nat) : State :=
  let s := (s.medStop m).setMed m 3
  s.setMedium m { s.medium m with bellAt := s.now }

/-! ### Transceivers (R283 to R285) -/

/-- The attempt of a channel ends where its bus goes away (R285): its request stays PENDING, unless an abort was undecided or late.
[Assumption 142: DEDUCED, unsafe.] -/
def State.tryDropped (s : State) (k : Nat) : State :=
  match (s.canAt k).attempt with
  | none => s.setCan k { s.canAt k with rx := false }
  | some a =>
    let s := s.setCan k { s.canAt k with attempt := none, rx := false }
    match a.src with
    | none => s
    | some b =>
      if b = 128 then s
      else if (s.buf k b).lateAbort then s.txEnd k b Code.CANCELLED_AFTER_ERROR s.vt
      else if (s.buf k b).cancelHeld then s.txEnd k b Code.CANCELLED s.vt
      else
        let s := s.wr (Fd.CAN_MB_STAT_STATE k b) 1
        match s.canWaits k b 2 with
        | some c => s.putCmd { c with phase := .waiting }
        | none => s

/-- The transceiver enters SLEEP with its wake armed. [Assumption 142: DEDUCED, unsafe.] -/
def State.trxSleep (s : State) (k : Nat) : State :=
  if s.trxUp k then
    let mode := s.rd (Fd.NM_TRX_CTRL_WAKE_MODE k)
    (s.tryDropped k).wr (Fd.NM_TRX_CTRL_STATE k) 1 |>.setTrx k { s.trx k with sleepAt := s.now, fec := 0, armed := mode }
  else s

/-- The transceiver returns to NORMAL: the controller integrates on 11 recessive bits and resumes with the counters it kept; a recovery
from bus-off goes on where it paused (R285). -/
def State.trxNormal (s : State) (k : Nat) : State :=
  if s.rd (Fd.NM_TRX_CTRL_STATE k) = 1 then
    let s := (s.wr (Fd.NM_TRX_CTRL_STATE k) 0).setTrx k { s.trx k with beatsAt := s.now }
    let x := s.canAt k
    (s.setCan k { x with
      freeAt := s.now + s.nomBits k 11, rx := false, busOffAt := x.busOffAt + (s.now - (s.trx k).sleepAt) }).canReady k
  else s

/-- The frames that wait on a T1S segment wait for the end of its wake pattern of 2 ms (R287). -/
def State.wakePattern (s : State) (m : Nat) : State :=
  let x := s.medium m
  s.setMedium m { x with out := x.out.map (fun f => { f with at_ := s.now + 2 * ms }) }

/-- A medium in BUS_SLEEP wakes (R296): its transceiver or PHY returns to NORMAL, it sends its wake pattern, and it starts. -/
def State.mediumWakes (s : State) (m : Nat) : State :=
  if s.medState m ≠ 4 then s
  else if m < 8 then (s.trxNormal m).medStart m
  else (s.medStart m).wakePattern m

/-- The commit point (R296): the medium sleeps with its wake armed. -/
def State.curfewCommit (s : State) (m : Nat) : State :=
  if s.medState m = 3 then
    let s := s.reach ((s.medium m).bellAt + wbsTime)
    let s := (s.medStop m).setMed m 4
    if m < 8 then s.trxSleep m else s
  else s

/-- A medium in WAIT_SLEEP whose commit point has come, the present PER clock (5 ns) included, is past it (R296). -/
def State.duePast (s : State) (m : Nat) : State :=
  if s.medState m = 3 ∧ ((s.medium m).bellAt + wbsTime) / 5 ≤ s.now / 5 then s.curfewCommit m else s

/-- CONSENT of ring `r` has fallen to 0 (Table 13-3, R296). -/
def State.consentFalls (s : State) (r : Nat) : State :=
  forAll (s.mediaOf r) (fun s m =>
    let s := s.duePast m
    match s.medState m with
    | 1 => (s.sendWake m false).medEvent m 5
    | 3 => (s.medStart m).medEvent m 5
    | 4 => (s.medEvent m 6).mediumWakes m
    | _ => s) s

/-- A local wake of IGN (16) or of SP j clears CONSENT of each ring that names it (R288). -/
def State.localWake (s : State) (j : Nat) : State :=
  forAll (List.range 10) (fun s r =>
    let named := if j = 16 then s.flag (Fd.NM_RING_CTRL_LOCAL_IGN r) else tbit (s.rd (Fd.NM_RING_CTRL_LOCAL_SP r)) j
    if named && s.consent r then (s.wr (Fd.NM_RING_CTRL_CONSENT r) 0).consentFalls r else s) s

/-! ### Curfew events (Table 13-3) -/

/-- A valid kind of byte 2 (R290): RING, bell, WAKE, LIMP. -/
def curfewKind (flags : Nat) : Bool := flags == 1 || flags == 3 || flags == 7 || flags == 0x10 || flags == 8 || flags == 0xA

/-- A Curfew frame of the medium: on CAN its identifier lies in ID_BASE's range. -/
def State.isCurfew (s : State) (m src : Nat) : Bool := decide (8 ≤ m) || src / 64 == s.rd (Fd.NM_TRX_CTRL_ID_BASE m)

/-- The state machine on a valid frame of another node. -/
def State.curfewFrame (s : State) (m source next flags : Nat) : State :=
  let x := s.medium m
  let s := match x.skip with
    | some (n, _) => if n = source then s.setMedium m { x with skip := none } else s
    | none => s
  let s := if tbit flags 0 then s.setMedium m { s.medium m with ringSeen := s.now } else s
  let own := s.medNode m
  match flags, s.medState m with
  | 7, 1 => if s.medConsent m then (s.medWait m).medEvent m 7 else ((s.sendWake m false).medEvent m 5).medEvent m 7
  | 7, 2 => if s.medConsent m then (s.medWait m).medEvent m 7 else ((s.sendWake m false).medEvent m 5).medEvent m 7
  | 0x10, 3 => s.setMed m 1
  | 0x10, 2 => s.setMedium m { s.medium m with consentAt := s.now }
  | _, 1 =>
    if tbit flags 0 then
      if next = own then (s.setToken m true).setMedium m { s.medium m with ringT := some (s.now + ringTime) }
      else if s.token m then (s.setToken m false).setMedium m { s.medium m with ringT := none }
      else s
    else s
  | _, _ => s

/-- A frame is validated on the medium (R290): `src` is its identifier on CAN, its source address on T1S; `dlc` its DLC on CAN. -/
def State.curfewReceived (s : State) (m src dlc : Nat) (data : List Byte) : State :=
  let s := s.duePast m
  if s.medState m = 0 ∨ s.medState m = 4 ∨ !s.isCurfew m src then s
  else
    let b := fun k => beNat (sl data k 1)
    let source := b 0
    let zero := decide (source < 64) && decide (b 1 < 64) && (data.drop 3).all (fun x => x == 0)
    let agree := if m < 8 then src % 64 == source && dlc == 8 else src == t1sSource m source
    if !(curfewKind (b 2) && zero && agree) then s.medEvent m 0
    else if source = s.medNode m then s.medEvent m 1
    else
      let s := s.setPresent m (setBit (s.present m) source)
      let s := s.setReady m (if tbit (b 2) 1 then setBit (s.ready m) source else clrBit (s.ready m) source)
      s.curfewFrame m source (b 1) (b 2)

def execCurfewFrameReceived (m : Fin 10) (src : BitVec 48) (body : CurfewBody) (s : State) :
    Host.Outcome State Fault Refusal :=
  .next (s.curfewReceived m src.toNat body.dlc body.data)

/-- Every node of PRESENT but the node itself is in READY, and CONSENT is 1 (R295). -/
def State.bellAllowed (s : State) (m : Nat) : Bool :=
  s.medConsent m && (List.range 64).all (fun n => n == s.medNode m || !tbit (s.present m) n || tbit (s.ready m) n)

/-- RING_T expires: a started node takes the token; a node that holds it sends the bell, or a RING frame to its successor. -/
def State.ringTimer (s : State) (m : Nat) : State :=
  match (s.medium m).ringT with
  | none => s
  | some t =>
    if s.medState m ≠ 1 then s
    else
      let s := s.reach t
      if s.token m then
        let s := s.setMedium m { s.medium m with ringT := none }
        if s.bellAllowed m then s.medSend m (s.successor m) 7 false else s.sendRing m
      else (s.setToken m true).setMedium m { s.medium m with ringT := some (s.now + ringTime) }

def execCurfewRingTimer (m : Fin 10) (s : State) : Host.Outcome State Fault Refusal := .next (s.ringTimer m)

/-- SKIP_T expires: the addressed node leaves PRESENT and READY, and the next one is addressed. -/
def State.skipTimeout (s : State) (m : Nat) : State :=
  match (s.medium m).skip with
  | none => s
  | some (n, t) =>
    if s.medState m ≠ 1 then s
    else
      let s := s.reach t
      let s := s.setMedium m { s.medium m with skip := none }
      let s := (s.setPresent m (clrBit (s.present m) n)).setReady m (clrBit (s.ready m) n)
      (s.sendRing m).medEvent m 2

def execCurfewSkipTimeout (m : Fin 10) (s : State) : Host.Outcome State Fault Refusal := .next (s.skipTimeout m)

/-- No RING frame seen for ERROR_T. -/
def execCurfewRingLost (m : Fin 10) (s : State) : Host.Outcome State Fault Refusal :=
  .next (if s.medState m = 1 then ((s.reach ((s.medium m).ringSeen + errorTime)).medStart m).medEvent m 3 else s)

/-- A send fails (R291): on CAN with FAILED or bus-off; on T1S without an opportunity within 10 ms. -/
def State.sendFails (s : State) (m : Nat) : State :=
  let x := s.medium m
  match x.out with
  | [] => s
  | f :: rest =>
    if m < 8 ∧ f.st ≠ 2 then s
    else
      let s := if m < 8 then s else s.reach (f.at_ + 10 * ms)
      if s.medState m = 1 then
        let s := (s.medStop m).setMed m 2
        (s.setMedium m { s.medium m with limpAt := s.now, consentAt := s.now }).medEvent m 4
      else s.setMedium m { x with out := rest }

def execCurfewSendFail (m : Fin 10) (s : State) : Host.Outcome State Fault Refusal := .next (s.sendFails m)

/-- What follows a frame of the node once it is sent; a bell whose sender has withdrawn consent meanwhile does not let it sleep. -/
def State.afterSent (s : State) (m : Nat) (f : MedFrame) : State :=
  let x := s.medium m
  match f.flags with
  | 0x10 => if f.start then s.setMedium m { x with ringT := some (x.ringT.getD (s.now + ringTime)) } else s
  | 7 => (if s.medConsent m then s.medWait m else s.medStart m).medEvent m 7
  | 8 => if s.medState m = 2 then s.medStart m else s
  | 0xA => if s.medState m = 2 then s.medStart m else s
  | _ =>
    if f.next = s.medNode m then s.setMedium m { x with ringT := some (s.now + ringTime), ringSeen := s.now }
    else (s.setToken m false).setMedium m { x with skip := some (f.next, s.now + skipTime), ringSeen := s.now }

/-- A Curfew frame of the node is validated on the bus (R291). [Assumption 140: DESIGN CHOICE, unsafe.] -/
def State.frameSent (s : State) (m : Nat) : State :=
  let x := s.medium m
  match x.out with
  | [] => s
  | f :: rest =>
    if m < 8 ∧ f.st ≠ 1 then s
    else
      let s := if m < 8 then s else s.reach f.at_
      (s.setMedium m { x with out := rest, last := s.curfewBytes m f }).afterSent m f

def execCurfewFrameSent (m : Fin 10) (s : State) : Host.Outcome State Fault Refusal := .next (s.frameSent m)

/-- Every ERROR_T a medium in LIMP sends a LIMP frame. -/
def State.limpSend (s : State) (m : Nat) : State :=
  if s.medState m = 2 then
    let s := s.reach ((s.medium m).limpAt + errorTime)
    let s := s.setMedium m { s.medium m with limpAt := s.now }
    s.medSend m (s.medNode m) (if s.medConsent m then 0xA else 8) false
  else s

def execCurfewLimpSend (m : Fin 10) (s : State) : Host.Outcome State Fault Refusal := .next (s.limpSend m)

/-- In LIMP, CONSENT held for a whole ERROR_T with no WAKE frame received. -/
def execCurfewLimpSleep (m : Fin 10) (s : State) : Host.Outcome State Fault Refusal :=
  .next (if s.medState m = 2 ∧ s.medConsent m then (s.reach ((s.medium m).consentAt + errorTime)).medWait m else s)

/-- NM_RING_CTRL: a rise of CONSENT counts from now in LIMP; a fall withdraws. -/
def State.ringCtrlWrite (s : State) (who : Who) (bytes r : Nat) (w : Word) : State :=
  let before := s.consent r
  s.regWrite who bytes (Rg.NM_RING_CTRL r) w false false
    (if (s.items 0x0D01).any (fun i => i.n 0 == r) then Code.DONE else Code.WRONG_STATE)
    (fun s =>
      if before && !s.consent r then s.consentFalls r
      else if !before && s.consent r then
        forAll (s.mediaOf r) (fun s m => s.setMedium m { s.medium m with consentAt := s.now }) s
      else s)

def execConsentWrite (who : Who) (r : Fin 10) (w : Word) (s : State) : Host.Outcome State Fault Refusal := .next (s.ringCtrlWrite (s.issuer who) 4 r w)

def execCurfewCommit (m : Fin 10) (s : State) : Host.Outcome State Fault Refusal := .next (s.curfewCommit m)

/-! ### Transceiver commands and wakes (R284, R286, R287) -/

/-- A transceiver without a heartbeat for 2 s falls to SLEEP (R284): MAIN without power, or CANCLK stopped. WUP is armed where WAKE_MODE is
0. [Assumption 142: DEDUCED, unsafe.] -/
def State.trxFails (s : State) (k : Nat) : State :=
  if s.trxUp k && (s.dev != .active || s.gated 12) then
    let s := (s.reach ((s.trx k).beatAt + 2 * sec)).trxSleep k
    let x := s.trx k
    ((s.setTrx k { x with armed := if x.armed = 0 then 1 else x.armed }).wr (Fd.NM_TRX_CTRL_FS k) 1).nmLevels
  else s

def execTransceiverFailsafe (k : Fin 8) (s : State) : Host.Outcome State Fault Refusal := .next (s.trxFails k)

/-- The wake fields of NM_TRX_CTRL: WAKE_MODE, FEC_WAKE, DATA_EN, DLC_EN, DLC. -/
def wakeFields (w : Nat) : Nat := getBits w 9 0

/-- NM_TRX_CTRL (R283, R286, R302). [Assumption 142: DEDUCED, unsafe.] -/
def State.trxCtrlWrite (s : State) (who : Who) (bytes k : Nat) (w : Word) : State :=
  let old := (s.reg (Rg.NM_TRX_CTRL k)).toNat
  let v := w.toNat
  let ring := (s.ringItem k).isSome
  let st := s.medState k
  let refuse :=
    if ring ∧ tbit v 10 ≠ tbit old 10 then Code.WRONG_STATE
    else if s.rd (Fd.NM_TRX_CTRL_STATE k) = 1 ∧ wakeFields v ≠ wakeFields old then Code.WRONG_STATE
    else if getBits v 20 16 ≠ getBits old 20 16 ∧ st ≠ 0 ∧ st ≠ 4 then Code.WRONG_STATE
    else Code.DONE
  s.regWrite who bytes (Rg.NM_TRX_CTRL k) w false (getBits v 9 8 == 3) refuse
    (fun s => (if ring then s else if tbit v 10 then s.trxSleep k else s.trxNormal k).nmLevels)

def execTrxSleepWrite (who : Who) (k : Fin 8) (w : Word) (s : State) : Host.Outcome State Fault Refusal := .next (s.trxCtrlWrite (s.issuer who) 4 k w)

/-- NM_SWK_ID, NM_SWK_MASK and NM_SWK_DMASK of channel `k`: refused while the transceiver is in SLEEP (R286). -/
def State.swkWrite (s : State) (who : Who) (bytes k a : Nat) (w : Word) : State :=
  s.regWrite who bytes a w false false (if s.rd (Fd.NM_TRX_CTRL_STATE k) = 1 then Code.WRONG_STATE else Code.DONE) id

/-- A frame that the selective wake matches (R286). -/
def State.wufMatches (s : State) (k w0 w1 : Nat) (data : List Byte) : Bool :=
  let dmask := leBytes 4 (s.rd (Fd.NM_SWK_DMASK_LO_DMASK k)) ++ leBytes 4 (s.rd (Fd.NM_SWK_DMASK_HI_DMASK k))
  !hdrFdf w0 && (if hdrIde w0 then 1 else 0) == s.rd (Fd.NM_SWK_ID_IDE k)
    && ((hdrId w0 ^^^ s.rd (Fd.NM_SWK_ID_ID k)) &&& s.rd (Fd.NM_SWK_MASK_MASK k)) == 0
    && (!s.flag (Fd.NM_TRX_CTRL_DLC_EN k) || hdrDlc w1 == s.rd (Fd.NM_TRX_CTRL_DLC k))
    && (!s.flag (Fd.NM_TRX_CTRL_DATA_EN k) || (!hdrRtr w0 && (List.range 8).any (fun i => (data.getD i 0 &&& dmask.getD i 0) != 0)))

/-- The wake is one that a sleeping transceiver detects, by what was armed at its entry (R286). -/
def State.detects (s : State) (k : Nat) (how : CanWakeBy) : Bool :=
  s.rd (Fd.NM_TRX_CTRL_STATE k) == 1 &&
  match how with
  | .wup => (s.trx k).armed == 1
  | .wuf w0 w1 data => (s.trx k).armed == 2 && s.wufMatches k w0.toNat w1.toNat data
  | .errors => (s.trx k).armed == 2 && s.flag (Fd.NM_TRX_CTRL_FEC_WAKE k) && decide (31 ≤ (s.trx k).fec)

/-- A CAN wake is qualified (R286, R296). [Assumption 142: DEDUCED, unsafe.] -/
def State.canWakes (s : State) (k : Nat) (how : CanWakeBy) : State :=
  if s.detects k how then
    let s := s.qualifiedWake (16 + k)
    if s.dev == .active then
      if s.medState k = 4 then s.mediumWakes k else s.trxNormal k
    else s
  else s

def execCanWake (k : Fin 8) (how : CanWakeBy) (s : State) : Host.Outcome State Fault Refusal := .next (s.canWakes k how)

/-- A frame that a sleeping transceiver decodes and that does not wake it moves its frame error counter (R286). -/
def State.swkFrame (s : State) (k : Nat) (err : Bool) : State :=
  let x := s.trx k
  if s.rd (Fd.NM_TRX_CTRL_STATE k) == 1 && x.armed == 2 then
    if err then s.setTrx k { x with fec := if s.flag (Fd.NM_TRX_CTRL_FEC_WAKE k) then min 31 (x.fec + 1) else x.fec + 1 }
    else s.setTrx k { x with fec := x.fec - 1 }
  else s

def execSelectiveWakeFrame (k : Fin 8) (err : Bool) (s : State) : Host.Outcome State Fault Refusal := .next (s.swkFrame k err)

/-- A T1S detector sees 500 µs of activity (R287, R296). -/
def State.t1sWakes (s : State) (k : Nat) : State :=
  if s.medState (8 + k) = 4 then
    let s := s.qualifiedWake (24 + k)
    if s.dev == .active then s.mediumWakes (8 + k) else s
  else s

def execT1sWake (k : Fin 2) (s : State) : Host.Outcome State Fault Refusal := .next (s.t1sWakes k)

/-! ### CAN frames received, and modes taken (R262, R265, R275) -/

/-- The lowest-numbered enabled receive buffer that a frame matches (R265). -/
def State.rxBuffer (s : State) (k w0 : Nat) : Option Nat :=
  (List.range 128).find? (fun b =>
    s.bufEn k b && !s.bufTx k b && (s.rd (Fd.CAN_MB_FILT_IDE k b) == 1) == hdrIde w0
      && ((hdrId w0 ^^^ s.rd (Fd.CAN_MB_FILT_ID k b)) &&& s.rd (Fd.CAN_MB_MASK_MASK k b)) == 0)

/-- A reference message starts a basic cycle at its start of frame, `ago` ns before its validation (R275). -/
def State.ttReference (s : State) (k w0 : Nat) (data : List Byte) (ago : Nat) : State :=
  if s.ttOn k && s.ttRef k && hdrIde w0 == s.flag (Fd.CAN_TT_REF_IDE k) && hdrId w0 == s.rd (Fd.CAN_TT_REF_ID k) then
    let c := (data.getD 0 0).toNat % 16 % s.ttCycles k
    let s := s.setCan k { s.canAt k with cycleAt := s.now - ago, cycle := c }
    (s.wr (Fd.CAN_TT_STATUS_SYNC k) 1).wr (Fd.CAN_TT_STATUS_CYCLE k) c
  else s

/-- A frame of another node is validated on a channel (R265, R266, R269): its buffer or shadow, the gateway, the reference. -/
def State.canReceive (s : State) (k w0 w1 : Nat) (data : List Byte) (ago : Nat) : State :=
  if s.canMode k = 0 ∨ s.busOff k ∨ !s.trxUp k ∨ (s.canAt k).attempt.isSome ∨ (hdrFdf w0 ∧ itemN (s.canItem k) 1 = 0) then s
  else
    let s := s.canEvent k 1
    let s := if s.canMode k = 1 then s.recDown k else s
    let target := s.rxBuffer k w0
    let s := match target with
      | some b => (s.bufReceive k b w0 w1 data s.vt).canRxComplete k b
      | none => s
    let (routed, s) := s.gwyPack k w0 w1 data
    let s := if target.isNone && !routed then s.canEvent k 15 else s
    ((s.ttReference k w0 data ago).canFreeIn k 3 false).canErrState k

def execCanFrameReceived (k : Fin 8) (w0 w1 : Word) (data : List Byte) (ago : BitVec 32) (s : State) : Host.Outcome State Fault Refusal :=
  .next (s.canReceive k w0.toNat w1.toNat data ago.toNat)

/-- A requested mode takes effect (R262); a ring medium follows its channel out of and into OFF (R293). -/
def State.canModeChange (s : State) (k : Nat) : State :=
  let old := s.canMode k
  let s := s.canModeTakes k
  let new := s.canMode k
  if old = 0 ∧ new ≠ 0 then s.curfewStart k
  else if old ≠ 0 ∧ new = 0 ∧ (s.ringItem k).isSome then s.medOff k
  else s

def execCanModeChange (k : Fin 8) (s : State) : Host.Outcome State Fault Refusal := .next (s.canModeChange k)

/-! ### Ethernet sleep and wake (R298 to R300) -/

/-- STATE of NM_ETH_STATUS: 0 AWAKE, 1 SLEEP_PENDING, 2 ASLEEP, 3 WAKING. -/
def State.ethState (s : State) (p : Nat) : Nat := s.rd (Fd.NM_ETH_STATUS_STATE p)
def State.setEth (s : State) (p v : Nat) : State := s.wr (Fd.NM_ETH_STATUS_STATE p) v
def State.ethResult (s : State) (p c : Nat) : State := s.wr (Fd.NM_ETH_STATUS_RESULT p) c
def State.ethAt (s : State) (p : Nat) : Nat := tget (fun _ => 0) s.nm.eth p
def State.ethStamp (s : State) (p : Nat) : State := { s with nm := { s.nm with eth := tset (fun _ => 0) s.nm.eth p s.now } }

/-- A sleeping port wakes by a pulse. -/
def State.ethWakes (s : State) (p : Nat) : State :=
  if s.ethState p = 2 then (s.setEth p 3).ethStamp p else s

/-- A port takes a forwarded wake (R300): asleep it sends a wake-up pulse, active a wake-up request. -/
def State.ethTakes (s : State) (q : Nat) : State :=
  if s.ethState q = 0 then
    { s with nm := { s.nm with wur := tset (fun _ => 0) s.nm.wur q (tget (fun _ => 0) s.nm.wur q + 1) } }
  else s.ethWakes q

/-- The wake is forwarded to the ports of FWD (R300); bit 16 + q of the register stands for port q. -/
def State.ethForward (s : State) (p : Nat) : State :=
  let fwd := (s.reg (Rg.NM_ETH_CTRL p)).toNat / 2 ^ 16
  forAll ((List.range 16).filter (fun q => tbit fwd q && q != p && decide (2 ≤ q))) State.ethTakes s

/-- OP 1 and OP 2 of NM_ETH_CTRL (R299, R300). [Assumption 144: DEDUCED, unsafe.] -/
def State.ethCtrlWrite (s : State) (who : Who) (bytes p : Nat) (w : Word) : State :=
  let op := w.toNat % 4
  let st := s.ethState p
  s.regWrite who bytes (Rg.NM_ETH_CTRL p) w false (op == 3)
    (if (op = 1 ∧ st ≠ 0) ∨ (op = 2 ∧ st = 0) then Code.WRONG_STATE else Code.DONE)
    (fun s => match op with
      | 1 => ((s.setEth p 1).ethResult p Code.BUSY).ethStamp p
      | 2 =>
        if st = 1 then (s.setEth p 0).ethResult p Code.CANCELLED
        else if st = 2 then ((s.ethWakes p).ethResult p Code.BUSY).ethForward p
        else s
      | _ => s)

/-- The word of NM_ETH_CTRL with its present fields and an OP. -/
def State.ethWord (s : State) (p op : Nat) : Word := BitVec.ofNat 32 ((s.reg (Rg.NM_ETH_CTRL p)).toNat / 4 * 4 + op)

def execEthSleepRequest (who : Who) (p : Fin 24) (s : State) : Host.Outcome State Fault Refusal := .next (s.ethCtrlWrite (s.issuer who) 4 p (s.ethWord p 1))
def execEthWakeRequest (who : Who) (p : Fin 24) (s : State) : Host.Outcome State Fault Refusal := .next (s.ethCtrlWrite (s.issuer who) 4 p (s.ethWord p 2))

/-- A TC10 port: G0 to G5 and M0 to M7. -/
def tc10 (p : Nat) : Bool := decide (2 ≤ p) && decide (p < 16)

/-- The port enters the low-power state: the commit point (R299). [Assumption 144: DEDUCED, unsafe.] -/
def State.ethEnters (s : State) (p : Nat) : State :=
  if tc10 p && s.ethState p == 1 then
    let s := if s.rd (Fd.NM_ETH_STATUS_RESULT p) = Code.BUSY then s.ethResult p Code.DONE else s
    (s.setEth p 2).linkDown p
  else s

def execEthLowPowerEntry (p : Fin 24) (s : State) : Host.Outcome State Fault Refusal := .next (s.ethEnters p)

/-- Not entered within 20 ms: the partner has refused or not answered (R299). [Assumption 144: DEDUCED, unsafe.] -/
def State.ethRefused (s : State) (p : Nat) : State :=
  if tc10 p && s.ethState p == 1 then
    let s := s.reach (s.ethAt p + 20 * ms)
    let s := if s.rd (Fd.NM_ETH_STATUS_RESULT p) = Code.BUSY then s.ethResult p Code.SLEEP_REFUSED else s
    s.setEth p 0
  else s

def execEthSleepTimeout (p : Fin 24) (s : State) : Host.Outcome State Fault Refusal := .next (s.ethRefused p)

/-- The partner requests sleep: accepted while ACCEPT_REMOTE is 1, else refused (R298). [Assumption 144: DEDUCED, unsafe.] -/
def execEthRemoteSleep (p : Fin 24) (s : State) : Host.Outcome State Fault Refusal :=
  .next (if tc10 p && s.ethState p == 0 && s.flag (Fd.NM_ETH_CTRL_ACCEPT_REMOTE p) then (s.setEth p 1).ethStamp p else s)

/-- A wake from the partner (R300, R379). -/
def State.ethDetected (s : State) (p : Nat) : State :=
  if tc10 p && s.dev == .active then
    let s := (s.wr Fd.IC_EVENT_LATCH_ETH_WAKE 1).level 101 true
    (s.ethWakes p).ethForward p
  else s

def execEthWakeDetect (p : Fin 24) (s : State) : Host.Outcome State Fault Refusal := .next (s.ethDetected p)

/-- No link 500 ms after a wake; the port keeps training (R300). -/
def execEthWakeNoLink (p : Fin 24) (s : State) : Host.Outcome State Fault Refusal :=
  .next (if tc10 p && s.ethState p == 3 then (s.reach (s.ethAt p + 500 * ms)).ethResult p Code.WAKE_NO_LINK else s)

end Sys2Proof.Machine
end

