-- ==== Sys2Proof/Machine/Layby.lean ====
section
/-! DEFINITION. Lay-by of channels and signal outputs together (R252, R254, R256, R310), and PD_LAYBY_CTRL. -/

namespace Sys2Proof.Machine

/-- Every channel and every PIN-bound output enters Lay-by (Table 11-5 causes 3 to 5). [Assumption 116: DEDUCED, unsafe.] -/
def State.laybyAll (s : State) (cause : Nat) : State :=
  (s.channelsToLayby cause s.leads).pinsToLayby cause (fun _ => true)

/-- The channels that a district owns, and its PIN-bound outputs, enter Lay-by. -/
def State.laybyDistrict (s : State) (cause d : Nat) : State :=
  (s.channelsToLayby cause (s.channelsOf d)).pinsToLayby cause (fun k => k == d)

/-- The channels and outputs of the districts that have pair `p` in PAIRS enter Lay-by with cause 1. -/
def State.laybyPair (s : State) (p : Nat) : State :=
  (s.channelsToLayby 1 (s.channelsOfPair p)).pinsToLayby 1 (fun d => tbit (itemN (s.districtItem d) 3) p)

/-- The channels bound by a district's PWR endpoints, and its outputs, enter Lay-by with cause 2 (R167, Table 11-5). -/
def State.laybyRestart (s : State) (d : Nat) : State :=
  let bound := s.leads.filter (fun n => match s.pwrHolder n with
    | some e => (s.epAt e).district == d
    | none => false)
  (s.channelsToLayby 2 bound).pinsToLayby 2 (fun k => k == d)

/-- The operation of PD_LAYBY_CTRL (R254, R256). -/
def State.laybyOp (s : State) (op d : Nat) : State :=
  match op with
  | 1 => (s.laybyDistrict 5 d).wr Fd.PD_LAYBY_CTRL_RESULT Code.DONE
  | 2 => (s.laybyAll 5).wr Fd.PD_LAYBY_CTRL_RESULT Code.DONE
  | 3 => (s.releaseLayby (s.channelsOf d)).pinsRelease (fun k => k == d)
  | 4 => (s.releaseLayby s.leads).pinsRelease (fun _ => true)
  | _ => s

def State.laybyCtrlWrite (s : State) (who : Who) (bytes : Nat) (w : Word) : State :=
  s.regWrite who bytes Rg.PD_LAYBY_CTRL w false false Code.DONE
    (fun s => s.laybyOp (getBits w.toNat 2 0) (getBits w.toNat 13 8))

/-- The word that PD_LAYBY_CTRL takes for an OP and a district. -/
def laybyWord (op d : Nat) : Word := BitVec.ofNat 32 (d * 256 + op)

def execLaybyEnterDistrict (who : Who) (d : Fin 64) (s : State) : Host.Outcome State Fault Refusal :=
  .next (s.laybyCtrlWrite (s.issuer who) 4 (laybyWord 1 d))

def execLaybyEnterAll (who : Who) (d : Fin 64) (s : State) : Host.Outcome State Fault Refusal :=
  .next (s.laybyCtrlWrite (s.issuer who) 4 (laybyWord 2 d))

def execLaybyReleaseDistrict (who : Who) (d : Fin 64) (s : State) : Host.Outcome State Fault Refusal :=
  .next (s.laybyCtrlWrite (s.issuer who) 4 (laybyWord 3 d))

def execLaybyReleaseAll (who : Who) (d : Fin 64) (s : State) : Host.Outcome State Fault Refusal :=
  .next (s.laybyCtrlWrite (s.issuer who) 4 (laybyWord 4 d))

/-! ### The power-up of PWR (R230, R255, R408) -/

/-- Kerbside powers up once a plan has loaded; after a tamper during start-up every channel enters Lay-by with cause 4. -/
def State.pwrUp (s : State) (ambient pElec : Nat) : State :=
  if s.dev = .active ∧ !s.kb.up ∧ !s.gated 0xB ∧ s.rd Fd.TP_STATUS_STATE ≠ 0 then
    let s := s.kerbUp ambient pElec
    if s.rd Fd.KS_STATUS_STATE = 3 then s.laybyAll 4 else s
  else s

def execPwrPowerUp (ambient pElec : BitVec 16) (s : State) : Host.Outcome State Fault Refusal :=
  .next (s.pwrUp ambient.toNat pElec.toNat)

end Sys2Proof.Machine
end

