-- ==== Sys2Proof/Machine/MirrorDisplay.lean ====
section
/-! DEFINITION. Shopfront's displays: frames, slices, requests at the frame boundary, freshness, the recording tap, the CRC echo and the
monitor (R176, R179, R180, R187, R188, R190 to R193, R198 to R213). -/

namespace Sys2Proof.Machine

/-! ### Requests (R190) -/

/-- The command of a request completes; a request made by a register write has none. -/
def State.endCmd (s : State) (id : CmdId) (code detail : Nat) : State :=
  match s.cmdOf id.ep id.tag with
  | some c => s.complete c code detail s.vt
  | none => s

def State.endReq (s : State) (id : Option CmdId) (code : Nat) : State :=
  match id with
  | some i => s.endCmd i code 0
  | none => s

/-- θ moves towards its target by at most RATE (R191). -/
def panStep (theta target rate : Int) : Int := theta + max (-rate) (min rate (target - theta))

/-- The PAN step of a view at a frame boundary, and the commit of its pending PAN before it (R191). -/
def State.panCommit (s : State) (i start : Nat) : State :=
  let v := s.view i
  let rate := itemN (s.panItem i) 2
  let stale := match v.pan with
    | some p => decide (p.time + 100000000 < start) || (match v.target with | some t => decide (p.time < t.time) | none => false)
    | none => false
  let target := match v.pan with
    | some p => if stale then v.target else some ⟨p.angle, p.time⟩
    | none => v.target
  let theta := match target with
    | some t => panStep (s.theta i) t.angle rate
    | none => s.theta i
  let s := (s.setView i { v with target := target, pan := none }).wr (Fd.SF_VIEW_STATE_ANGLE i) (unsignedOf 16 theta)
  match v.pan with
  | some p =>
    let clip := if p.clipped then 1 else 0
    if stale then s.endCmd p.from_ Code.PAN_STALE clip
    else s.endCmd p.from_ Code.DONE (clip + (if theta = p.angle then 0 else 2))
  | none => s

/-- A checked MAP_SWAP commits: the shadow slot becomes the active one (R192). -/
def State.swapCommit (s : State) (i : Nat) : State :=
  let v := s.view i
  match v.swap with
  | some r =>
    if r.ready then
      let s := s.setView i { v with map := r.img, swap := none }
      let s := (s.setFlag (Fd.SF_VIEW_STATE_PLAN_MAP i) (r.addr == 0)).wr (Fd.SF_VIEW_STATE_SWAP_PEND i) 0
      s.endCmd r.from_ Code.DONE 0
    else s
  | none => s

/-- Frame k of a display is a tap frame (R193). -/
def State.tapFrame (s : State) (d k : Nat) : Bool :=
  let hz := s.dspHz d
  k == 0 || decide ((k - 1) * 30 / hz < k * 30 / hz)

/-- A TAP commits at the start of a tap frame (R193). -/
def State.tapCommit (s : State) (i k : Nat) : State :=
  let v := s.view i
  match v.tap with
  | some r =>
    if s.tapFrame (i / 4) k then
      let s := s.setView i { v with tap := none }
      ((s.setFlag (Fd.SF_TAP_CFG_ON i) r.on).setFlag (Fd.SF_VIEW_STATE_TAP i) r.on).endReq r.from_ Code.DONE
    else s
  | none => s

/-- An overlay address commits (R190). [Assumption 108: DEDUCED, unsafe.] -/
def State.ovlCommit (s : State) (j : Nat) : State :=
  let p := s.plane j
  match p.req with
  | some r =>
    let s := s.setPlane j { p with req := none }
    let s := (s.setReg (Rg.SF_OVL_BASE_LO j) (BitVec.ofNat 32 (r.addr / 64 * 64 % 2 ^ 32))).wr (Fd.SF_OVL_BASE_HI_ADDR_HI j) (r.addr / 2 ^ 32)
    s.endReq r.from_ Code.DONE
  | none => s

/-- The header and palette of a plane are read at the frame boundary (R187).
[Assumption 21: DEDUCED, unsafe. Assumption 108: DEDUCED, unsafe.] -/
def State.ovlHeader (s : State) (j : Nat) : State :=
  let a := s.ovlBase j
  let n := s.ovlHdrLen (j / 4)
  let h := s.bytes a n
  if a = 0 then s.setPlane j { s.plane j with hdr := [] }
  else
  let (s, came) := s.shopFetch a n
  if !came then (s.setPlane j { s.plane j with hdr := [] }).dspEvent (j / 4) 1
  else if s.ovlHdrOk (j / 4) h then s.setPlane j { s.plane j with hdr := h }
  else (s.setPlane j { s.plane j with hdr := [] }).loadFail Code.OVL_FORMAT 0xFF true j

/-! ### The end of a frame (R188, R207) -/

/-- The slice computed last goes on the link: its pixels enter the CRC. -/
def State.sendSlice (s : State) (d : Nat) : State :=
  let x := s.dsp d
  match x.slice with
  | some _ => s.setDsp d { x with crc := x.rows.foldl crcByte x.crc, out := x.rows, rows := [], parts := [], fills := [], overs := [] }
  | none => s

/-- The frame has been sent: its CRC awaits the echo, its highest line age is shown. -/
def State.finishFrame (s : State) (d : Nat) : State :=
  let x := s.dsp d
  match x.k with
  | none => s
  | some k =>
    if x.sent then s
    else
      let s := s.sendSlice d
      let x := s.dsp d
      let us := min 0xFFFF ((x.age + 999) / 1000)
      let crc := x.crc ^^^ 0xFFFFFFFF
      let s := s.setDsp d { x with waits := x.waits ++ [⟨k, crc, 0⟩], slice := none, sent := true, lastCrc := crc }
      (s.wr (Fd.SF_LAT_LAST_US d) us).wr (Fd.SF_LAT_MAX_US d) (max us (s.rd (Fd.SF_LAT_MAX_US d)))

/-! ### The metadata line (R201) -/

/-- What byte 0 of a view's metadata says: 0 not configured, 1 OK, 2 MARK, 3 BLANK, 4 FAULT; then camera, source frame, source age.
[Assumption 107: DEDUCED, unsafe.] -/
def State.metaView (s : State) (i : Nat) : List Byte :=
  if (s.viewItem i).isNone then leBytes 8 0 ++ leBytes 4 0xFFFFFFFF ++ leBytes 4 0
  else
    let v := s.view i
    let age := match v.age with
      | some a => min 0xFFFFFFFE ((a + 999) / 1000)
      | none => 0xFFFFFFFF
    leBytes 1 (s.viewSt i + 1) ++ leBytes 1 (s.viewCam i) ++ leBytes 2 0 ++ leBytes 4 (v.src.getD 0) ++ leBytes 4 age ++ leBytes 4 0

/-- The fields from 0x10 to 0x5F, of the frame that ends. [Assumption 106: DEDUCED, unsafe.] -/
def State.metaPrev (s : State) (d : Nat) : List Byte :=
  let x := s.dsp d
  match x.k with
  | none => List.replicate 80 0
  | some _ =>
    let st := s.rd (Fd.SF_INTEG_STATE_DSTATE d)
    let flags := (if st = 1 then 1 else 0) + (if 2 ≤ st then 2 else 0) + (if tbit x.force 2 then 4 else 0)
      + (if s.flag (Fd.SF_INTEG_STATE_FORCED d) then 8 else 0)
    leBytes 8 x.start ++ leBytes 1 flags ++ leBytes 3 0 ++ leBytes 4 x.lastCrc ++
      [0, 1, 2, 3].flatMap (fun v => s.metaView (4 * d + v))

/-- The payload of the metadata line of frame k: 3 × WIDTH bytes. -/
def State.metaPayload (s : State) (d k : Nat) (prev : List Byte) : List Byte :=
  let head := leBytes 4 0x54454D53 ++ leBytes 2 1 ++ leBytes 1 d ++ leBytes 1 0 ++ leBytes 4 (k % 2 ^ 32) ++ leBytes 4 0
  let body := head ++ (if k = 0 then List.replicate 80 0 else prev)
  body ++ leBytes 4 (crc32 body) ++ List.replicate (3 * s.dspWidth d - 100) 0

/-! ### The frame boundary -/

/-- A camera fault is counted once, and a fault whose good frames suffice for every view of the camera clears (R204).
[Assumption 105: DEDUCED, unsafe.] -/
def State.faultBoundary (s : State) (c : Nat) : State :=
  let s := if s.flag (Fd.SF_CAM_FAULT_FAULT c) && !(s.camera c).counted then
      (s.setCam c { s.camera c with counted := true }).integEvent (20 + c)
    else s
  if s.flag (Fd.SF_CAM_FAULT_FAULT c) &&
      (s.viewsOfCam c).all (fun i => decide (s.rd (Fd.SF_INTEG_VIEW_FAULT_CLEAR i) ≤ s.rd (Fd.SF_CAM_FAULT_GOOD c)))
  then s.wr (Fd.SF_CAM_FAULT_FAULT c) 0 else s

/-- A view is in fault: it has not started, or its camera is in fault (R204). -/
def State.viewFaulty (s : State) (i : Nat) : Bool :=
  let c := s.viewCam i
  !s.flag (Fd.SF_VIEW_STATE_RUN i) || (s.flag (Fd.SF_CAM_FAULT_FAULT c)
    && decide (s.rd (Fd.SF_CAM_FAULT_GOOD c) < s.rd (Fd.SF_INTEG_VIEW_FAULT_CLEAR i)))

def State.setViewSt (s : State) (i v : Nat) : State :=
  s.wr ⟨Rg.SF_INTEG_STATE (i / 4), 2 * (i % 4) + 1, 2 * (i % 4)⟩ v

/-- FAULT takes and leaves force at the frame boundary. [Assumption 105: DEDUCED, unsafe.] -/
def State.viewBoundary (s : State) (i : Nat) : State :=
  if s.viewFaulty i then s.setViewSt i 3 else if s.viewSt i = 3 then s.setViewSt i 0 else s

/-- The number of the next frame of a display: the first at or after now, the first allowed after a step (R177), else the next.
[Assumption 103: DEDUCED, unsafe.] -/
def State.nextK (s : State) (d : Nat) : Nat :=
  let x := s.dsp d
  let off := itemN (s.dspItem d) 4 * 1000
  match x.bound, x.k with
  | some b, _ => gridFrom (s.dspHz d) off b
  | none, some k => k + 1
  | none, none => gridFrom (s.dspHz d) off s.vt

/-- The monitor is absent, or no longer (R212): SF_MON_STATUS, SF_INTEG_STATE and the sources of both displays show it. -/
def State.setAbsent (s : State) (absent : Bool) : State :=
  let s := { s with sf := { s.sf with monBack := false } }.setFlag Fd.SF_MON_STATUS_ABSENT absent
  forAll [0, 1] (fun s d => (s.setFlag (Fd.SF_INTEG_STATE_MON_ABSENT d) absent).dspLevel d) s

/-- Decided display states and accepted forces take force, and the marker of an absent monitor with them (R210, R211, R212).
[Assumption 115: DEDUCED, unsafe.] -/
def State.forceBoundary (s : State) (d : Nat) : State :=
  let mark := tbit (s.rd Fd.SF_HEARTBEAT_FORCE_MARK) d
  let blank := tbit (s.rd Fd.SF_HEARTBEAT_FORCE_BLANK) d
  let s := if s.sf.monBack then s.setAbsent false else s
  let x := s.dsp d
  let s := s.setDsp d { x with
    force := (if mark then 1 else 0) + (if blank then 2 else 0) + (if s.flag Fd.SF_MON_STATUS_ABSENT then 4 else 0) }
  ((s.wr (Fd.SF_INTEG_STATE_DSTATE d) x.dec).setFlag (Fd.SF_INTEG_STATE_FORCED d) (mark || blank)).dspLevel d

/-- Display frame k starts at S(k) (R176, R190). [Assumption 115: DEDUCED, unsafe.] -/
def State.frameBegin (s : State) (d : Nat) : State :=
  if !(s.mirrorOn && (s.dspItem d).isSome) then s
  else
    let k := s.nextK d
    let s := (s.reachVt (s.gridS d k)).finishFrame d
    let prev := s.metaPrev d
    let start := s.gridS d k
    let s := s.setDsp d { s.dsp d with
      k := some k, start := start, startAt := s.now, bound := none, slice := none, parts := [], fills := [], overs := [], rows := [],
      late := 0, crc := 0xFFFFFFFF, age := 0, sent := false, metaLine := s.metaPayload d k prev }
    let s := (s.wr (Fd.SF_DSP_STATUS_FRAME d) (k % 65536)).wr (Fd.SF_DSP_STATUS_RUN d) 1
    let s := s.forceBoundary d
    let views := s.viewsOf d
    let s := forAll views (fun s i => s.faultBoundary (s.viewCam i)) s
    let s := forAll views State.viewBoundary s
    let s := forAll views (fun s i => ((s.swapCommit i).panCommit i start).tapCommit i k) s
    forAll [0, 1, 2, 3] (fun s p => (s.ovlCommit (4 * d + p)).ovlHeader (4 * d + p)) s

def execDisplayFrameStart (d : Fin 2) (s : State) : Host.Outcome State Fault Refusal := .next (s.frameBegin d)

/-! ### Slices -/

/-- j_src of a view in the display's frame: that of its camera's frame of the same number (R200). -/
def State.viewSource (s : State) (i : Nat) : Option Nat :=
  let x := s.camera (s.viewCam i)
  let k := (s.dsp (i / 4)).k
  if k.isNone then none
  else if x.rx.map (·.j) = k then x.src
  else match x.prev with
    | some p => if k = some p.j then p.src else none
    | none => none

/-- The state of a view that has been stale `n` times in a row (R206). -/
def State.freshness (s : State) (i n : Nat) : Nat :=
  let blank := s.rd (Fd.SF_INTEG_VIEW_STALE_BLANK i)
  if blank != 0 && decide (blank ≤ n) then 2
  else if decide (s.rd (Fd.SF_INTEG_VIEW_STALE_MARK i) ≤ n) then 1
  else 0

/-- A source of this age is stale; so is a view without a source frame (R206). [Assumption 107: DEDUCED, unsafe.] -/
def State.isStale (s : State) (i : Nat) (age : Option Nat) : Bool :=
  match age with
  | some a => decide (itemN (s.viewItem i) 8 * 1000000 < a)
  | none => true

/-- The age of a view's source is decided at the compute start of its first slice, and its state with it (R200, R206).
[Assumption 107: DEDUCED, unsafe.] -/
def State.ageDecision (s : State) (i : Nat) : State :=
  let src := s.viewSource i
  let age := src.map (fun j => (s.dsp (i / 4)).start - s.gridC (s.viewCam i) j)
  let n := if s.isStale i age then (s.view i).stale + 1 else 0
  let s1 := s.setView i { s.view i with src := src, age := age, stale := n }
  let s2 := if n = 0 then s1 else s1.integEvent (8 + i)
  if s.viewSt i = 3 then s2 else s2.setViewSt i (s.freshness i n)

/-- The view's part of the slice carries the fault pattern. -/
def State.fillView (s : State) (i : Nat) : State :=
  s.setDsp (i / 4) { s.dsp (i / 4) with fills := insertNat (s.dsp (i / 4)).fills i }

/-- The lines of a window that a slot holds. -/
def State.windowLines (s : State) (p : Part) : List CamLine :=
  (List.range (p.b + 1 - p.a)).filterMap (fun n => s.slotOf p.cam p.frame (p.a + n))

/-- Line `l` of a frame has been received, whether or not its slot still holds it. -/
def State.wasReceived (s : State) (c j l : Nat) : Bool :=
  let x := s.camera c
  (match x.rx with
    | some t => t.j == j && decide (l < x.line)
    | none => false) ||
  (match x.prev with
    | some p => p.j == j && decide (l < p.lines)
    | none => false)

/-- The part of a view in a slice: an underrun, an overrun and a bad line are counted, and each of them, or a camera fault, fills it
(R180, R203); else it is composed. -/
def State.slicePart (s : State) (i k a b : Nat) : State :=
  let d := i / 4
  let c := s.viewCam i
  let p : Part := ⟨i, c, k, a, b⟩
  let s := s.setDsp d { s.dsp d with parts := (s.dsp d).parts ++ [p] }
  let l := (List.range (b + 1 - a)).map (a + ·)
  let under := l.any (fun n => !s.wasReceived c k n)
  let overwritten := l.any (fun n => s.wasReceived c k n && (s.slotOf c k n).isNone)
  let bad := (s.windowLines p).any (·.bad)
  let fill := s.viewFaulty i || under || overwritten || bad
  let s := if under then s.viewEvent i 0 else s
  let s := if overwritten then (s.setDsp d { s.dsp d with overs := insertNat (s.dsp d).overs i }).viewEvent i 1 else s
  let s := if bad then s.integEvent (16 + c) else s
  if fill then s.fillView i else s

/-- The line age that a view gives to a slice whose last line ends at `fin` (R188). -/
def State.sliceAge (s : State) (p : Part) (fin : Nat) : Nat :=
  (s.windowLines p).foldl (fun a l => max a (fin - l.at_)) 0

/-- One view takes part in slice `k` of a display whose computing ends the slice's link time at `fin`. -/
def State.sliceView (s : State) (i k fin : Nat) : State :=
  let d := i / 4
  match s.sliceRows i k with
  | none => s
  | some (v0, v1) =>
    let s := if v0 = 0 then s.ageDecision i else s
    if !s.flag (Fd.SF_VIEW_STATE_RUN i) then s.fillView i
    else
      let (a, b) := s.window i (s.view i).map v0 v1
      let frame := ((s.dsp d).k).getD 0
      let s := s.slicePart i frame a b
      s.setDsp d { s.dsp d with age := max (s.dsp d).age (s.sliceAge ⟨i, s.viewCam i, frame, a, b⟩ fin) }

/-- Where a tap line lies in the view, and a tap column, in 16.16 (R193). -/
def State.tapY (s : State) (i line : Nat) : Nat := Config.tapPos false (s.viewH i) 400 line

/-- The last view row that a tap line blends. -/
def State.tapRow (s : State) (i line : Nat) : Nat := min (s.viewH i - 1) (s.tapY i line / 65536 + 1)

/-- The pixels of a tap line: the view after dewarp, scaled bilinearly to 640 × 400, as Cb, Y, Cr, Y.
[Assumption 113: PRESUMED, safe.] -/
def State.tapPixels (s : State) (i line : Nat) : List Byte :=
  let frame := ((s.dsp (i / 4)).k).getD 0
  let at_ := fun (get : Nat × Nat × Nat → Nat) (x : Nat) =>
    BitVec.ofNat 8 (sampleAt 0 (fun u v => get (s.viewYcc i frame u v)) (s.viewW i) (s.viewH i) x (s.tapY i line))
  let y := fun (n : Nat) => at_ (·.1) (Config.tapPos false (s.viewW i) 640 n)
  let x := fun (n : Nat) => Config.tapPos true (s.viewW i) 320 n
  (List.range 320).flatMap (fun n => [at_ (·.2.1) (x n), y (2 * n), at_ (·.2.2) (x n), y (2 * n + 1)])

/-- The IEEE 1722-2016 Raw Video Format frame of a tap line (R193), from the destination address on. [Assumption 113: PRESUMED, safe.] -/
def State.tapBytes (s : State) (i line : Nat) (st : Item) : List Byte :=
  let v := s.view i
  let d := i / 4
  let mac := s.rd Fd.SF_TAP_MAC_HI_MAC * 2 ^ 32 + s.rd Fd.SF_TAP_MAC_LO_MAC
  let handle := s.rd (Fd.SF_TAP_CFG_HANDLE i)
  let tci := s.rd (Fd.SF_TAP_CFG_PCP i) * 8192 + st.n 5
  let eth : List (List Byte) := [beBytes 6 (st.n 4), beBytes 6 mac, beBytes 2 0x8100, beBytes 2 tci, beBytes 2 0x22F0]
  let head : List (List Byte) := [beBytes 1 7, beBytes 1 0x81, beBytes 1 (v.tapSeq % 256), beBytes 1 0, beBytes 6 mac, beBytes 2 handle,
    beBytes 4 ((s.dsp d).start % 2 ^ 32)]
  let raw : List (List Byte) := [beBytes 2 640, beBytes 2 400, beBytes 2 1288, beBytes 2 0,
    [0, 0x13, 0x1E, BitVec.ofNat 8 (Config.rvfSpace % 16 * 16 + 1)], beBytes 2 0, beBytes 2 (line + 1)]
  (eth ++ head ++ raw).flatten ++ s.tapPixels i line

/-- The tap lines of a view that a slice carries enter the switch at SFT, as long as its FIFO has room (R193).
[Assumption 113: PRESUMED, safe.] -/
def State.tapLines (s : State) (i room : Nat) (lines : List Nat) : State × Nat :=
  match lines with
  | [] => (s, room)
  | l :: rest =>
    match s.item 0x0901 (s.rd (Fd.SF_TAP_CFG_HANDLE i)) with
    | none => (s, room)
    | some st =>
      if room = 0 then (s.viewEvent i 3).tapLines i 0 rest
      else
        let bs := s.tapBytes i l st
        let s := s.setView i { s.view i with tapSeq := (s.view i).tapSeq + 1 }
        let s := (s.forward 20 bs (bs.length + 4) s.vt true).1.shapersSync
        s.tapLines i (room - 1) rest

/-- The taps of a display's views in a slice. -/
def State.tapViews (s : State) (k room : Nat) (views : List Nat) : State :=
  match views with
  | [] => s
  | i :: rest =>
    match s.sliceRows i k with
    | some (v0, v1) =>
      if s.flag (Fd.SF_VIEW_STATE_TAP i) && s.flag (Fd.SF_VIEW_STATE_RUN i) then
        let lines := (List.range 400).filter (fun l => decide (v0 ≤ s.tapRow i l) && decide (s.tapRow i l ≤ v1))
        let (s, room) := s.tapLines i room lines
        s.tapViews k room rest
      else s.tapViews k room rest
    | none => s.tapViews k room rest

/-- The overlay data of a slice are fetched; those that are late or bad are counted (R187). -/
def State.ovlCounts (s : State) (d k late : Nat) : State :=
  forAll [0, 1, 2, 3] (fun s p =>
    let j := 4 * d + p
    let got := s.ovlFetch j k (tbit late p)
    let s := if (s.plane j).hdr.isEmpty then s else (s.shopFetch (s.ovlRange j k).1 (s.ovlRange j k).2).1
    match got with
    | .late => s.dspEvent d 0
    | .bad => s.dspEvent d 1
    | _ => s) s

/-- The next slice of a display is computed from D(s) (R179). `late` names the planes whose data are not complete, `room` the tap lines
for which SFT's FIFO has room. -/
def State.sliceCompute (s : State) (d late room : Nat) : State :=
  let x := s.dsp d
  let k := match x.slice with
    | some n => n + 1
    | none => 0
  match x.k with
  | none => s
  | some f =>
    if !s.mirrorOn || decide (s.dspHeight d / 16 ≤ k) || x.sent then s
    else
      let t := 16 * s.lp d
      let s := (s.reachVt (x.start + clkNs (k * t))).sendSlice d
      let s := s.setDsp d { s.dsp d with slice := some k, late := late }
      let fin := x.start + clkNs ((k + 2) * t)
      let s := forAll (s.viewsOf d) (fun s i => s.sliceView i k fin) s
      let s := s.ovlCounts d k late
      let s := s.setDsp d { s.dsp d with rows := s.composeSlice d k }
      if s.tapFrame d f then s.tapViews k room (s.viewsOf d) else s

def execSliceCompute (d : Fin 2) (late : BitVec 4) (room : BitVec 8) (s : State) : Host.Outcome State Fault Refusal :=
  .next (s.sliceCompute d late.toNat room.toNat)

/-! ### Outcomes (R209, R210) -/

/-- The display state after an outcome. -/
def State.escalate (s : State) (d : Nat) : State :=
  let x := s.dsp d
  let bad := s.rd (Fd.SF_INTEG_STATE_BAD d)
  let good := s.rd (Fd.SF_INTEG_STATE_GOOD d)
  let blankAt := s.rd (Fd.SF_INTEG_CFG_CRC_BLANK d)
  let next :=
    if x.dec ≤ 1 ∧ blankAt ≠ 0 ∧ blankAt ≤ bad then (if s.flag (Fd.SF_INTEG_CFG_BLANK_LATCH d) then 3 else 2)
    else if x.dec = 0 ∧ s.rd (Fd.SF_INTEG_CFG_CRC_MARK d) ≤ bad then 1
    else if (x.dec = 1 ∨ x.dec = 2) ∧ s.rd (Fd.SF_INTEG_CFG_CLEAR d) ≤ good then 0
    else x.dec
  s.setDsp d { x with dec := next }

/-- One outcome is processed: 1 MATCH, 2 MISMATCH, 3 MISSING. [Assumption 109: DEDUCED, unsafe.] -/
def State.outcome (s : State) (d k out : Nat) : State :=
  let s := (s.wr (Fd.SF_ECHO_FRAME d) (k % 65536)).wr (Fd.SF_ECHO_OUTCOME d) out
  let s :=
    if out = 1 then
      (s.wr (Fd.SF_INTEG_STATE_BAD d) 0).wr (Fd.SF_INTEG_STATE_GOOD d) (min 255 (s.rd (Fd.SF_INTEG_STATE_GOOD d) + 1))
    else
      let s := if out = 2 then s.integEvent (4 * d) else s.integEvent (4 * d + 1)
      (s.wr (Fd.SF_INTEG_STATE_GOOD d) 0).wr (Fd.SF_INTEG_STATE_BAD d) (min 15 (s.rd (Fd.SF_INTEG_STATE_BAD d) + 1))
  s.escalate d

/-- The decided outcomes at the front are processed, in frame order. -/
def State.drainOutcomes (s : State) (d : Nat) (l : List EchoWait) : State :=
  match l with
  | [] => s.setDsp d { s.dsp d with waits := [] }
  | w :: rest =>
    if w.out = 0 then s.setDsp d { s.dsp d with waits := w :: rest }
    else (s.outcome d w.k w.out).drainOutcomes d rest

/-- Frame `k` of a display gets its outcome. [Assumption 109: DEDUCED, unsafe.] -/
def State.settle (s : State) (d k out : Nat) : State :=
  let l := (s.dsp d).waits.map (fun w => if w.k = k ∧ w.out = 0 then { w with out := out } else w)
  s.drainOutcomes d l

/-- An echo (R208, R209). [Assumption 109: DEDUCED, unsafe.] -/
def State.echo (s : State) (d frame crc flags resv : Nat) : State :=
  let x := s.dsp d
  match x.k with
  | none => s.integEvent (4 * d + 3)
  | some k =>
    let back := (k % 2 ^ 32 + 2 ^ 32 - frame) % 2 ^ 32
    if 2 ^ 31 ≤ back ∨ k < back then s.integEvent (4 * d + 3)
    else
      let f := k - back
      if s.gridS d (f + 2) ≤ s.vt then s.integEvent (4 * d + 2)
      else
        let n := s.dspHeight d / 16
        let s := if back = 0 ∧ x.slice = some (n - 1) ∧ x.start + clkNs ((n + 1) * 16 * s.lp d) ≤ s.vt then s.finishFrame d else s
        match (s.dsp d).waits.find? (fun w => w.k == f && w.out == 0) with
        | none => s.integEvent (4 * d + 3)
        | some w =>
          if resv ≠ 0 ∨ 2 ≤ flags then s.integEvent (4 * d + 3)
          else s.settle d f (if crc = w.crc ∧ flags = 0 then 1 else 2)

def execDisplayEchoReceived (d : Fin 2) (frame crc : BitVec 32) (flags resv : BitVec 16) (ns : BitVec 32) (s : State) :
    Host.Outcome State Fault Refusal :=
  let s := s.pass ns.toNat
  .next (if s.mirrorOn && s.flag (Fd.SF_DSP_STATUS_LINK d) then s.echo d frame.toNat crc.toNat flags.toNat resv.toNat else s)

/-- No echo for the oldest undecided frame k by S(k + 2): MISSING. -/
def State.echoMissing (s : State) (d : Nat) : State :=
  match (s.dsp d).waits.find? (fun w => w.out == 0) with
  | some w => if s.mirrorOn then (s.reachVt (s.gridS d (w.k + 2))).settle d w.k 3 else s
  | none => s

def execEchoMissing (d : Fin 2) (s : State) : Host.Outcome State Fault Refusal := .next (s.echoMissing d)

/-- SF_INTEG_STATE: CLEAR_LATCH releases a latched BLANK while BAD is 0 (R210). -/
def State.integStateWrite (s : State) (who : Who) (bytes d : Nat) (w : Word) : State :=
  let clear := tbit w.toNat 31
  s.regWrite who bytes (Rg.SF_INTEG_STATE d) w false false
    (if clear && ((s.dsp d).dec != 3 || s.rd (Fd.SF_INTEG_STATE_BAD d) != 0) then Code.WRONG_STATE else Code.DONE)
    (fun s => if clear then s.setDsp d { s.dsp d with dec := 0 } else s)

def execClearLatch (who : Who) (d : Fin 2) (s : State) : Host.Outcome State Fault Refusal :=
  .next (s.integStateWrite (s.issuer who) 4 d 0x80000000#32)

/-- The display link: SF_DSP_STATUS.LINK (R209). -/
def State.dspLink (s : State) (d : Nat) (up : Bool) : State := if s.mirrorOn then s.setFlag (Fd.SF_DSP_STATUS_LINK d) up else s
def execDisplayLinkDown (d : Fin 2) (s : State) : Host.Outcome State Fault Refusal := .next (s.dspLink d false)
def execDisplayLinkUp (d : Fin 2) (s : State) : Host.Outcome State Fault Refusal := .next (s.dspLink d true)

/-! ### The monitor (R211, R212) -/

/-- SF_HEARTBEAT: SEQ is the last accepted plus 1, except while the monitor is absent and before the first acceptance.
[Assumption 115: DEDUCED, unsafe.] -/
def State.heartbeatWrite (s : State) (who : Who) (bytes : Nat) (w : Word) : State :=
  let free := s.flag Fd.SF_MON_STATUS_ABSENT || !s.sf.hbAny
  s.regWrite who bytes Rg.SF_HEARTBEAT w false false
    (if free || w.toNat / 65536 == idxNext (s.rd Fd.SF_HEARTBEAT_SEQ) then Code.DONE else Code.OUT_OF_RANGE)
    (fun s => { s with sf := { s.sf with hbAt := s.now, hbAny := true, monBack := s.flag Fd.SF_MON_STATUS_ABSENT } })

def execMonitorHeartbeat (who : Who) (w : Word) (s : State) : Host.Outcome State Fault Refusal := .next (s.heartbeatWrite (s.issuer who) 4 w)

/-- 500 ms without an accepted write. -/
def State.monitorAbsent (s : State) : State :=
  if s.mirrorOn then (s.reach (s.sf.hbAt + 500 * ms)).setAbsent true else s

def execMonitorAbsent (s : State) : Host.Outcome State Fault Refusal := .next s.monitorAbsent

/-- SINCE_MS of SF_MON_STATUS. -/
def State.monStatusWord (s : State) : Nat :=
  min 0xFFFF ((s.now - s.sf.hbAt) / ms) * 65536 + s.rd Fd.SF_MON_STATUS_ABSENT

/-- SF_STATUS: CAM_LOCK, CAM_RUN, DSP_RUN. -/
def State.sfStatusWord (s : State) : Nat :=
  [0, 1, 2, 3].foldl (fun n c => n + (if s.flag (Fd.SF_CAM_STATUS_LOCK c) then 2 ^ (8 + c) else 0)
    + (if s.flag (Fd.SF_CAM_STATUS_RUN c) then 2 ^ (4 + c) else 0)) 0
  + s.rd (Fd.SF_DSP_STATUS_RUN 0) + 2 * s.rd (Fd.SF_DSP_STATUS_RUN 1)

end Sys2Proof.Machine
end

