-- ==== Sys2Proof/Machine/MirrorViews.lean ====
section
/-! DEFINITION. The VIEW endpoint's opcodes (R189 to R193), the SF_ registers that make requests (R190, R196), and MIRROR going off and
coming back (R194, R213). -/

namespace Sys2Proof.Machine

/-- The view of a VIEW endpoint, as 4 × display + view (Table 07-1), and its rights: 8 pan, 9 overlay, 10 tap. -/
def State.boundView (s : State) (e : Nat) : Nat := 4 * ((s.epAt e).bind % 2) + (s.epAt e).bind / 2 % 4
def State.viewRight (s : State) (e b : Nat) : Bool := tbit (s.epAt e).bind b

/-- The bit of the right that an opcode needs (Table 08-6). -/
def viewOpRight (op : Nat) : Nat := if op = 3 then 9 else if op = 4 then 10 else 8

/-- Steps 3 and 4 of R60 for a VIEW command (R189, R191). -/
def State.checkView (s : State) (c : Cmd) : Nat :=
  let d := (s.epAt c.ep).district
  let image := c.f 0x10 8
  let len := c.f 0x18 4
  let inRange := match c.op with
    | 1 => decide (c.f 0x18 8 ≤ s.vt)
    | 2 => image % 64 == 0 && decide (32 ≤ len) && decide (len ≤ 16384)
    | 3 => image % 64 == 0
    | _ => decide (c.f 0x10 1 ≤ 1)
  let readable := match c.op with
    | 2 => image == 0 || s.dramRange d 0 image len 1
    | 3 => image == 0 || s.dramRange d 0 image (s.ovlHdrLen (s.boundView c.ep / 4)) 1
    | _ => true
  if !inRange then Code.OUT_OF_RANGE
  else if s.gated 10 then Code.WRONG_STATE
  else if !(s.viewRight c.ep (viewOpRight c.op) && readable) then Code.NOT_OWNER
  else Code.DONE

/-- The command waits as a pending request. -/
def State.waits (s : State) (c : Cmd) : State := s.putCmd { c with phase := .waiting }

/-- An earlier request is superseded (R190). -/
def State.superseded (s : State) (id : Option CmdId) : State := s.endReq id Code.SF_SUPERSEDED

/-- PAN (R191). -/
def State.runPan (s : State) (c : Cmd) : State :=
  let i := s.boundView c.ep
  if (s.panItem i).isNone || !s.mirrorOn then s.finish c Code.WRONG_STATE
  else
    let a := signed 16 (c.f 0x10 2)
    let t := max (s.panBound i 3) (min (s.panBound i 4) a)
    let s := if t = a then s else s.viewEvent i 2
    let s := s.superseded ((s.view i).pan.map (·.from_))
    (s.setView i { s.view i with pan := some ⟨⟨c.ep, c.tag⟩, t, c.f 0x18 8, decide (t ≠ a)⟩ }).waits c

/-- MAP_SWAP: the fetch into the shadow slot begins (R192). -/
def State.runMapSwap (s : State) (c : Cmd) : State :=
  let i := s.boundView c.ep
  if !s.mirrorOn || !s.flag (Fd.SF_CAM_CTRL_RUN (s.viewCam i)) then s.finish c Code.WRONG_STATE
  else if (s.view i).swap.isSome then s.finish c Code.BUSY
  else
    let r : SwapReq := ⟨⟨c.ep, c.tag⟩, c.f 0x10 8, c.f 0x18 4, false, []⟩
    ((s.setView i { s.view i with swap := some r }).wr (Fd.SF_VIEW_STATE_SWAP_PEND i) 1).waits c

/-- A swap ends without effect. -/
def State.swapFails (s : State) (i : Nat) (r : SwapReq) (code detail : Nat) : State :=
  ((s.setView i { s.view i with swap := none }).wr (Fd.SF_VIEW_STATE_SWAP_PEND i) 0).endCmd r.from_ code detail

/-- The map of a swap has been fetched: it is checked, and becomes pending where it passes (R184, R192).
[Assumption 21: DEDUCED, unsafe.] -/
def State.swapFetched (s : State) (i : Nat) : State :=
  match (s.view i).swap with
  | none => s
  | some r =>
    if r.ready || !s.mirrorOn then s
    else
      let (s, came) := if r.addr = 0 then (s, true) else s.shopFetch r.addr r.len
      if !came then s.swapFails i r Code.POISONED 0
      else
      let m := if r.addr = 0 then s.planMap i else s.bytes r.addr r.len
      match s.mapCheck i m with
      | some (code, slice) => (s.loadFail code slice false i).swapFails i r code slice
      | none => s.setView i { s.view i with swap := some { r with ready := true, img := m } }

def execMapSwapFetched (d : Fin 2) (v : Fin 4) (s : State) : Host.Outcome State Fault Refusal := .next (s.swapFetched (4 * d + v))

/-- A new overlay address becomes pending (R190). [Assumption 108: DEDUCED, unsafe.] -/
def State.ovlRequest (s : State) (j : Nat) (id : Option CmdId) (addr : Nat) : State :=
  let p := s.plane j
  let s := match p.req with
    | some r => s.superseded r.from_
    | none => s
  s.setPlane j { p with req := some ⟨id, addr⟩ }

/-- OVL_SET: it becomes pending once its header has passed R186 (R190). [Assumption 21: DEDUCED, unsafe.] -/
def State.runOvlSet (s : State) (c : Cmd) : State :=
  let j := s.boundView c.ep
  let a := c.f 0x10 8
  let n := s.ovlHdrLen (j / 4)
  let h := s.bytes a n
  if !s.mirrorOn then s.finish c Code.WRONG_STATE
  else if a = 0 then (s.waits c).ovlRequest j (some ⟨c.ep, c.tag⟩) 0
  else
  let (s, came) := s.shopFetch a n
  if !came then s.finish c Code.POISONED
  else if !s.ovlHdrOk (j / 4) h then (s.loadFail Code.OVL_FORMAT 0xFF true j).finish c Code.OVL_FORMAT
  else if !s.dramRange (s.epAt c.ep).district 0 a (leNat (sl h 0xC 4)) 1 then s.finish c Code.NOT_OWNER
  else (s.waits c).ovlRequest j (some ⟨c.ep, c.tag⟩) a

/-- A TAP becomes pending (R190, R193). -/
def State.tapRequest (s : State) (i : Nat) (id : Option CmdId) (on : Bool) : State :=
  let v := s.view i
  let s := match v.tap with
    | some r => s.superseded r.from_
    | none => s
  s.setView i { v with tap := some ⟨id, on⟩ }

def State.runTap (s : State) (c : Cmd) : State :=
  if !s.mirrorOn then s.finish c Code.WRONG_STATE
  else (s.waits c).tapRequest (s.boundView c.ep) (some ⟨c.ep, c.tag⟩) (tbit (c.f 0x10 1) 0)

/-- A passed VIEW command of this opcode. -/
def State.viewTakes (s : State) (ep tag op : Nat) (run : State → Cmd → State) : State :=
  match s.passed ep tag 6 op with
  | some c => run s c
  | none => s

def execPan (ep : Fin 4096) (tag : BitVec 16) (s : State) : Host.Outcome State Fault Refusal :=
  .next (s.viewTakes ep tag.toNat 1 State.runPan)
def execMapSwap (ep : Fin 4096) (tag : BitVec 16) (s : State) : Host.Outcome State Fault Refusal :=
  .next (s.viewTakes ep tag.toNat 2 State.runMapSwap)
def execOvlSet (ep : Fin 4096) (tag : BitVec 16) (s : State) : Host.Outcome State Fault Refusal :=
  .next (s.viewTakes ep tag.toNat 3 State.runOvlSet)
def execTap (ep : Fin 4096) (tag : BitVec 16) (s : State) : Host.Outcome State Fault Refusal :=
  .next (s.viewTakes ep tag.toNat 4 State.runTap)

/-- The request of an endpoint's command is forgotten: its command has been cancelled before the frame boundary (R66, R190). -/
def State.viewCancel (s : State) (c : Cmd) : State :=
  let i := s.boundView c.ep
  let v := s.view i
  let p := s.plane i
  let id : CmdId := ⟨c.ep, c.tag⟩
  match c.op with
  | 1 => s.setView i { v with pan := none }
  | 2 => (s.setView i { v with swap := none }).wr (Fd.SF_VIEW_STATE_SWAP_PEND i) 0
  | 3 => if (p.req.bind (·.from_)) = some id then s.setPlane i { p with req := none } else s
  | 4 => if (v.tap.bind (·.from_)) = some id then s.setView i { v with tap := none } else s
  | _ => s

/-! ### Registers that make requests -/

/-- SF_OVL_BASE_LO: the address becomes pending like an OVL_SET; reads keep the address in force (R190, R196). -/
def State.ovlLoWrite (s : State) (who : Who) (bytes j : Nat) (w : Word) : State :=
  let old := s.reg (Rg.SF_OVL_BASE_LO j)
  s.regWrite who bytes (Rg.SF_OVL_BASE_LO j) w false false Code.DONE
    (fun s => (s.setReg (Rg.SF_OVL_BASE_LO j) old).ovlRequest j none (w.toNat + 2 ^ 32 * (s.plane j).hi))

/-- SF_OVL_BASE_HI: kept for the next write of _LO. -/
def State.ovlHiWrite (s : State) (who : Who) (bytes j : Nat) (w : Word) : State :=
  let old := s.reg (Rg.SF_OVL_BASE_HI j)
  s.regWrite who bytes (Rg.SF_OVL_BASE_HI j) w false false Code.DONE
    (fun s => (s.setReg (Rg.SF_OVL_BASE_HI j) old).setPlane j { s.plane j with hi := w.toNat % 4 })

def execOvlBaseWrite (who : Who) (j : Fin 8) (w : Word) (s : State) : Host.Outcome State Fault Refusal :=
  .next (s.ovlLoWrite (s.issuer who) 4 j w)

/-- SF_TAP_CFG: HANDLE and PCP are set, ON becomes pending (R193, R196). [Assumption 114: DEDUCED, unsafe.] -/
def State.tapCfgWrite (s : State) (who : Who) (bytes i : Nat) (w : Word) : State :=
  let on := s.flag (Fd.SF_TAP_CFG_ON i)
  let handle := w.toNat % 65536
  s.regWrite who bytes (Rg.SF_TAP_CFG i) w false
    (handle != s.rd (Fd.SF_TAP_CFG_HANDLE i) && (s.item 0x0901 handle).isNone)
    (if on && handle != s.rd (Fd.SF_TAP_CFG_HANDLE i) then Code.WRONG_STATE else Code.DONE)
    (fun s => (s.setFlag (Fd.SF_TAP_CFG_ON i) on).tapRequest i none (tbit w.toNat 31))

def execTapCfgWrite (who : Who) (i : Fin 8) (w : Word) (s : State) : Host.Outcome State Fault Refusal :=
  .next (s.tapCfgWrite (s.issuer who) 4 i w)

/-- SQ_STREAM_SEL: the stream shown, or STREAM_NOT_FOUND (R142). [Assumption 114: DEDUCED, unsafe.] -/
def State.streamSelWrite (s : State) (who : Who) (bytes : Nat) (w : Word) : State :=
  s.regWrite who bytes Rg.SQ_STREAM_SEL w false false Code.DONE (fun s =>
    s.wr Fd.SQ_STREAM_SEL_RESULT (if (s.item 0x0901 (w.toNat % 65536)).isSome then Code.DONE else Code.STREAM_NOT_FOUND))

def execStreamSelect (who : Who) (handle : BitVec 16) (s : State) : Host.Outcome State Fault Refusal :=
  .next (s.streamSelWrite (s.issuer who) 4 (handle.setWidth 32))

/-! ### MIRROR off and on (R194, R213) -/

/-- The SF_ registers that keep their values while MIRROR is off: those R194 names, the supply switch of each camera, and the rejection
registers. [Assumption 112: DEDUCED, unsafe.] -/
def sfKept (a : Nat) : Bool :=
  decide (0x200A0010 ≤ a) && decide (a < 0x200A0030) || decide (0x200A0100 ≤ a) && decide (a < 0x200A0168)
    || decide (0x200A0350 ≤ a) && decide (a < 0x200A0360) || decide (0x200AFFF0 ≤ a) && decide (a < 0x200B0000)

/-- MIRROR powers off: pending requests complete with WRONG_STATE, links stop, the shadow slots are lost (R190, R194). A latched BLANK
is kept (R213). [Assumption 112: DEDUCED, unsafe.] -/
def State.mirrorDown (s : State) : State :=
  let cmds := s.ep.inflight.filter (fun c => (s.epAt c.ep).ty == 6 && c.phase == .waiting)
  let s := forAll cmds (fun s c => s.finish c Code.WRONG_STATE) s
  let latched := (List.range 2).filter (fun d => (s.dsp d).dec == 3)
  let s := { s with regs := s.regs.filter (fun p => decide (p.1 < 0x200A0000) || decide (0x200B0000 ≤ p.1) || sfKept p.1) }
  let s := forAll [0, 1, 2, 3] (fun s c =>
    ((s.wr (Fd.SF_POC_STATE c) 0).wr (Fd.SF_POC_RETRIES c) 0).wr (Fd.SF_POC_CURRENT c) 0) s
  let his := (List.range 8).map (fun j => (j, (s.plane j).hi))
  let s := { s with sf := SfState.reset }
  let s := forAll his (fun s p => s.setPlane p.1 { Plane.reset with hi := p.2 }) s
  let s := forAll latched (fun s d => (s.setDsp d { s.dsp d with dec := 3 }).wr (Fd.SF_INTEG_STATE_DSTATE d) 3) s
  forAll [0, 1] State.dspLevel (forAll [0, 1, 2, 3] State.camLevel s.sfLevel)

/-- MIRROR powers up, or returns: supplies that are ON are switched on, the cameras with RUN 1 start, the monitor's 500 ms begin (R194,
R211 to R213). [Assumption 112: DEDUCED, unsafe.] -/
def State.mirrorUp (s : State) : State :=
  let s := { s with sf := { s.sf with hbAt := s.now, hbAny := false } }
  let s := forAll [0, 1, 2, 3] (fun s c => if s.flag (Fd.SF_POC_ON c) then s.setPoc c 1 else s) s
  let s := forAll (List.range 8) (fun s i => s.setFlag (Fd.SF_VIEW_STATE_TAP i) (s.flag (Fd.SF_TAP_CFG_ON i))) s
  let s := forAll [0, 1, 2, 3] (fun s c => if s.flag (Fd.SF_CAM_CTRL_RUN c) then s.camStart c else s) s
  forAll (s.viewsOf 0 ++ s.viewsOf 1) State.viewBoundary s

end Sys2Proof.Machine
end

