-- ==== Sys2Proof/Machine/LastWords.lean ====
section
/-! DEFINITION. The last-words record (R90, R91) and the log (R88). -/

namespace Sys2Proof.Machine

/-- Every uncommitted log event is committed to the ring, oldest first (R88, R90). [Assumption 57: DESIGN CHOICE, unsafe.] -/
def AoState.commitLog (a : AoState) (l : List (List Byte)) : AoState :=
  match l with
  | [] => a
  | e :: rest =>
    ({ a with log := tset (fun _ => []) a.log a.logNext e, logNext := (a.logNext + 1) % 16192 }).commitLog rest

/-- A last-words slot holds a valid record (R91). -/
def wordsValid (r : List Byte) : Bool :=
  leNat (r.take 4) == 0x4452574C && r.length == 4096 && leNat (r.drop 0xFFC) == crc32 (r.take 0xFFC)
/-- [Assumption 56: DEDUCED, unsafe.] -/
def wordsSeq (r : List Byte) : Nat := leNat ((r.drop 4).take 2)

/-- The slot of the current record: the valid one with the later SEQ (R90). -/
def State.wordsSlot (s : State) : Option Nat :=
  if wordsValid s.ao.words0 then
    if wordsValid s.ao.words1 && later (wordsSeq s.ao.words1) (wordsSeq s.ao.words0) then some 1 else some 0
  else if wordsValid s.ao.words1 then some 1 else none

/-- A byte of CHANNELS: on, held, tripped. [Assumption 56: DEDUCED, unsafe.] -/
def State.wordsChan (s : State) (n : Nat) : Byte :=
  let l := s.chLead n
  BitVec.ofNat 8 ((if s.out n then 1 else 0) + (if (s.chan l).held ≠ 0 then 2 else 0) + (if s.latched l || s.cooling l then 4 else 0))

/-- The record of Table 04-10 with a SEQ. -/
def State.wordsRecord (s : State) (trigger feedA feedB time seq : Nat) : List Byte :=
  let tail := s.ao.logOpen.drop (s.ao.logOpen.length - 57)
  let flight := fun (d : Nat) => (s.ep.inflight.filter (fun c => (s.epAt c.ep).district == d)).length
  let body := List.flatten [
    leBytes 4 0x4452574C, leBytes 2 seq, leBytes 2 trigger, leBytes 8 time, leBytes 2 feedA, leBytes 2 feedB,
    leBytes 4 (s.reg Rg.AO_RESET_CAUSE).toNat, leBytes 4 (s.reg Rg.AO_WAKE_CAUSE).toNat, leBytes 2 tail.length,
    leBytes 2 (s.ao.logOpen.length - 57), (List.range 52).map s.wordsChan, leBytes 12 0,
    (List.range 4).flatMap (fun p => [BitVec.ofNat 8 (if s.pairState p = 1 then 1 else 0),
      BitVec.ofNat 8 (s.rd (Fd.CP_PAIR_STATUS_FAULT p))] ++ leBytes 6 0),
    (List.range 64).flatMap (fun d => leBytes 2 (flight d)),
    (List.range 16).flatMap (fun n => leBytes 4 (s.reg (Rg.LAST_REJECT n)).toNat ++ leBytes 4 (s.reg (Rg.LAST_REJECT_ADDR n)).toNat),
    tail.flatten]
  let body := fixLen 0xFFC body
  body ++ leBytes 4 (crc32 body)

/-- Lamplighter writes a last-words record into the slot that is not current (R90, R91). The SEQ of the first is left open.
[Assumption 56: DEDUCED, unsafe.] -/
def State.lastWords (s : State) (trigger feedA feedB time : Nat) : State :=
  match s.wordsSlot with
  | some 0 =>
    { s with ao := { s.ao with words1 := s.wordsRecord trigger feedA feedB time (wordsSeq s.ao.words0 + 1) } }
  | some _ =>
    { s with ao := { s.ao with words0 := s.wordsRecord trigger feedA feedB time (wordsSeq s.ao.words1 + 1) } }
  | none => ({ s with ao := { s.ao with words0 := s.wordsRecord trigger feedA feedB time s.freeNat } }).draw

/-- The feed voltage that Kerbside last sampled, in mV. -/
def State.feedMv (s : State) (f : Nat) : Nat := (s.feed f).mv

end Sys2Proof.Machine
end

