-- ==== Sys2Proof/Machine/Cellar.lean ====
section
/-! DEFINITION. Cellar's slots (R391 to R400) and its operations over them. -/

namespace Sys2Proof.Machine

/-! ### Slots -/

def KeySlot.alg (k : KeySlot) : Nat := getBits k.attr 14 12
def KeySlot.usage (k : KeySlot) (b : Nat) : Bool := tbit k.attr b
/-- [Assumption 147: DEDUCED, unsafe.] -/
def KeySlot.cyOnly (k : KeySlot) : Bool := tbit k.attr 16
def KeySlot.cy (k : KeySlot) : Nat := getBits k.attr 20 17
def KeySlot.exports (k : KeySlot) : Bool := tbit k.attr 21

def State.slot (s : State) (n : Nat) : KeySlot := tget (fun _ => KeySlot.empty) s.ks.slots n
def State.setSlot (s : State) (n : Nat) (k : KeySlot) : State :=
  { s with ks := { s.ks with slots := tset (fun _ => KeySlot.empty) s.ks.slots n k } }

/-- KS_STATUS.STATE: 0 INIT, 1 READY, 2 LOCKED, 3 HALTED, 4 NO_ROOT. -/
def State.ksState (s : State) : Nat := s.rd Fd.KS_STATUS_STATE

/-- The sources of R412. -/
def State.ksLevels (s : State) : State :=
  ((s.level 62 (s.flag Fd.KS_TAMPER_REC_NEW)).level 63 (s.flag Fd.KS_STATUS_SLOT_ALERT)).level 64
    ((s.rd Fd.KS_EVENT_SAT_SAT &&& s.rd Fd.KS_EVENT_SAT_IE) != 0)

/-- KS_EVENT: 0 TAMPER_EVENTS, 1 OPS_ABORTED, 2 SLOT_BAD, 3 UNLOCK_FAIL. -/
def State.ksCount (s : State) (c : Nat) : State := s.count (Rg.KS_EVENT c) Rg.KS_EVENT_SAT c

/-- Cornerstone, of the area in use (R391). -/
def State.cornerstone (s : State) : List Byte := if s.flag Fd.KS_STATUS_CS_AREA then s.otp.cs1.key else s.otp.cs0.key
/-- The keys of Table 18-1 that Cornerstone gives. -/
def State.storeKey (s : State) : List Byte := kdf s.cornerstone (axStore ++ serial)
def State.tagKey (s : State) : List Byte := kdf s.cornerstone (axTag ++ serial)

/-- A slot turns bad (R399): its copy is wiped. -/
def State.turnBad (s : State) (n : Nat) : State :=
  let s := s.setSlot n { KeySlot.empty with st := 2 }
  let s := s.wr Fd.KS_STATUS_BAD (s.ks.slots.filter (fun p => p.2.st == 2)).length
  ((s.wr Fd.KS_STATUS_SLOT_ALERT 1).ksCount 2).ksLevels

/-! ### Records in flash (R397, R415) -/

/-- The place of record A (device 0) or B (device 1) of a slot, and of the tamper block. -/
def slotAddr (dev n : Nat) : Nat := bankBase dev + 0x0FF00000 + 0x1000 * n
/-- [Assumption 149: DEDUCED, unsafe.] -/
def tamperAddr : Nat := 0x4FF80000

def recMagic (r : List Byte) : Nat := leNat (r.take 4)
def recSlot (r : List Byte) : Nat := leNat ((r.drop 4).take 1)
def recKeyLen (r : List Byte) : Nat := leNat ((r.drop 5).take 1)
def recGen (r : List Byte) : Nat := leNat ((r.drop 6).take 2)
def recAttr (r : List Byte) : Nat := leNat ((r.drop 8).take 4)
def recKcv (r : List Byte) : List Byte := (r.drop 0xC).take 4
def recOwner (r : List Byte) : Nat := leNat ((r.drop 0x10).take 8)
def recIv (r : List Byte) : List Byte := (r.drop 0x18).take 12
def recKey (r : List Byte) : List Byte := (r.drop 0x30).take 64
def recTag (r : List Byte) : List Byte := (r.drop 0x70).take 16

/-- The bytes of a record or blob ahead of its TAG (Table 18-4). -/
def recBody (magic slot keyLen gen attr : Nat) (kcv : List Byte) (owner : Nat) (iv key : List Byte) : List Byte :=
  List.flatten [leBytes 4 magic, leBytes 1 slot, leBytes 1 keyLen, leBytes 2 gen, leBytes 4 attr, fixLen 4 kcv, leBytes 8 owner,
    fixLen 12 iv, leBytes 12 0, fixLen 64 key]

/-- Record A or B of a slot. -/
def State.record_ (s : State) (dev n : Nat) : List Byte := s.bytes (slotAddr dev n) 128

/-- The record is valid (R397). -/
def State.recordValid (s : State) (dev n : Nat) : Bool :=
  let r := s.record_ dev n
  recMagic r == 0x544C534B && recSlot r == n && recTag r == cmac s.tagKey (r.take 0x70) && !s.poisoned (slotAddr dev n) 128

/-- The device that holds the record in force (R397). -/
def State.recordInForce (s : State) (n : Nat) : Option Nat :=
  if s.recordValid 0 n then
    if s.recordValid 1 n && later (recGen (s.record_ 1 n)) (recGen (s.record_ 0 n)) then some 1 else some 0
  else if s.recordValid 1 n then some 1 else none

/-- The KCV of a key (Table 18-3). -/
def kcvOf (alg : Nat) (key : List Byte) : List Byte :=
  (match alg with
  | 0 => aesBlock key (List.replicate 16 0)
  | 1 => aesBlock key (List.replicate 16 0)
  | 2 => hmac key []
  | 3 => sha256 (ecdsaPublic key)
  | _ => sha256 key).take 4

/-- The slot that a record gives. -/
def State.keyFrom (s : State) (r : List Byte) : KeySlot :=
  { st := 1, keyLen := recKeyLen r, gen := recGen r, attr := recAttr r, kcv := recKcv r, owner := recOwner r, iv := recIv r,
    key := (ctr s.storeKey (recIv r) 0 (recKey r)).take (recKeyLen r) }

/-- Cellar loads one slot into its working SRAM (R399). A slot that is bad stays so until the next device restart. -/
def State.loadSlot (s : State) (n : Nat) : State :=
  if (s.slot n).st = 2 then s
  else
    match s.recordInForce n with
    | some dev =>
      let k := s.keyFrom (s.record_ dev n)
      if kcvOf k.alg k.key = k.kcv then s.setSlot n k else s.turnBad n
    | none =>
      if recMagic (s.record_ 0 n) = 0x544C534B ∨ recMagic (s.record_ 1 n) = 0x544C534B then s.turnBad n
      else s.setSlot n KeySlot.empty

/-- Every slot is loaded. -/
def State.loadSlots (s : State) : State := forAll (List.range 128) State.loadSlot s

/-- The working-key SRAM is wiped (R407); a slot that was bad stays bad. [Assumption 148: DEDUCED, unsafe.] -/
def State.wipeSlots (s : State) : State := { s with ks := { s.ks with slots := s.ks.slots.filter (fun p => p.2.st == 2) } }

/-- A 4 KiB sector of flash is erased and programmed from its start. -/
def State.program (s : State) (a : Nat) (bs : List Byte) : State := (s.clearMem a (a + 0x1000)).store a bs

/-- The challenge is renewed (R410, R411): 32 random bytes. [Assumption 151: DESIGN CHOICE, unsafe.] -/
def State.renewChallenge (s : State) : State :=
  forAll (List.range 8) (fun s k => (s.setReg (Rg.KS_CHALLENGE k) (BitVec.ofNat 32 s.freeNat)).draw) s

/-! ### Key operations: forms and checks (R401, R403) -/

/-- The slot number that an index of a KEY endpoint names (Table 07-1). -/
def State.keySlotOf (s : State) (e k : Nat) : Nat := (s.epAt e).bind % 128 + k
def State.keyCount (s : State) (e : Nat) : Nat := (s.epAt e).bind / 256 % 256

def Cmd.slotNo (c : Cmd) : Nat := c.f 0x10 1
def Cmd.aux (c : Cmd) : Nat := c.f 0x11 1
def Cmd.keyLen (c : Cmd) : Nat := c.f 0x12 2
def Cmd.src (c : Cmd) : Nat := c.f 0x18 8
def Cmd.dst (c : Cmd) : Nat := c.f 0x20 8
def Cmd.arg (c : Cmd) : Nat := c.f 0x28 8
def Cmd.iv (c : Cmd) : List Byte := (c.body.drop 0x20).take 12
def Cmd.c0 (c : Cmd) : Nat := beNat ((c.body.drop 0x2C).take 4)

/-- The opcode uses SLOT; it uses AUX as a slot. -/
def keyUsesSlot (op : Nat) : Bool := op != 0xA && op != 0xB
def keyUsesAux (op : Nat) : Bool := op == 7 || op == 8 || op == 9

/-- The slots that a command names: those it uses as keys, and the one it replaces. ATTEST and UNLOCK use slot 0 (R396). -/
def State.keySlots (s : State) (c : Cmd) : List Nat :=
  let a := s.keySlotOf c.ep c.slotNo
  let b := s.keySlotOf c.ep c.aux
  match c.op with
  | 7 => [a]
  | 8 => [a, b]
  | 9 => [a]
  | 0xA => [0]
  | 0xB => [0]
  | 0xC => []
  | _ => [a]
def State.keyTarget (s : State) (c : Cmd) : Option Nat :=
  match c.op with
  | 7 => some (s.keySlotOf c.ep c.aux)
  | 9 => some (s.keySlotOf c.ep c.aux)
  | 0xC => some (s.keySlotOf c.ep c.slotNo)
  | _ => none

/-- The slots that steps 2 to 4 of R403 look at: an empty slot that is to be replaced passes them (R400).
[Assumption 145: DEDUCED, unsafe.] -/
def State.keyChecked (s : State) (c : Cmd) : List Nat :=
  s.keySlots c ++ (match s.keyTarget c with
    | some n => if (s.slot n).st = 0 then [] else [n]
    | none => [])

/-- The Courtyard id with which the buffers are accessed (R403). [Assumption 152: DEDUCED, unsafe.] -/
def State.keyCy (s : State) (c : Cmd) : Nat :=
  match (s.keyChecked c).find? (fun n => (s.slot n).cyOnly) with
  | some n => (s.slot n).cy
  | none => 0

/-- The sizes of SRC, DST and ARG; `hm` says that the slot holds an HMAC key. -/
def keySrcLen (c : Cmd) : Nat :=
  match c.op with
  | 5 => 32
  | 6 => 32
  | 8 => 0
  | 9 => 128
  | 0xA => 32
  | 0xB => 32
  | 0xC => 128
  | _ => c.keyLen
def keyDstLen (c : Cmd) (hm : Bool) : Nat :=
  match c.op with
  | 1 => c.keyLen
  | 2 => c.keyLen
  | 3 => if hm then 32 else 16
  | 5 => 64
  | 8 => 128
  | 0xA => 84
  | _ => 0
def keyArgLen (c : Cmd) : Nat :=
  match c.op with
  | 4 => c.aux
  | 6 => 64
  | 7 => 16
  | _ => 0

/-- `n` bytes lie in the district's DRAM regions, where there are any.
[Assumption 145: DEDUCED, unsafe. Assumption 152: DEDUCED, unsafe.] -/
def State.keyRange (s : State) (c : Cmd) (a n need : Nat) : Bool :=
  n == 0 || s.dramRange (s.epAt c.ep).district (s.keyCy c) a n need

/-- Steps 3 and 4 of R60 for a KEY command (R398, R401). [Assumption 145: DEDUCED, unsafe.] -/
def State.checkKey (s : State) (c : Cmd) : Nat :=
  let cnt := s.keyCount c.ep
  let inRange := (!keyUsesSlot c.op || decide (c.slotNo < cnt)) && (!keyUsesAux c.op || decide (c.aux < cnt)) &&
    (match c.op with
    | 1 => decide (1 ≤ c.keyLen) && decide (c.keyLen ≤ 4096) && decide (c.c0 + (c.keyLen + 15) / 16 ≤ 2 ^ 32)
    | 2 => decide (1 ≤ c.keyLen) && decide (c.keyLen ≤ 4096) && decide (c.c0 + (c.keyLen + 15) / 16 ≤ 2 ^ 32)
    | 3 => decide (c.keyLen ≤ 4096)
    | 4 => decide (c.keyLen ≤ 4096) && decide (4 ≤ c.aux) && decide (c.aux ≤ 32)
    | 7 => decide (2 ≤ c.keyLen) && decide (c.keyLen ≤ 256)
    | _ => true)
  if !inRange then Code.OUT_OF_RANGE
  else if s.keyRange c c.src (keySrcLen c) 1 && s.keyRange c c.arg (keyArgLen c) 1
      && s.keyRange c c.dst (keyDstLen c ((s.slot (s.keySlotOf c.ep c.slotNo)).alg == 2)) 2 then Code.DONE
  else Code.NOT_OWNER

/-- The usage or algorithm of a slot permits the opcode (step 5 of R403, R402). -/
def State.keyUsage (s : State) (c : Cmd) : Bool :=
  let k := s.slot (s.keySlotOf c.ep c.slotNo)
  match c.op with
  | 1 => decide (k.alg ≤ 1) && k.usage 0
  | 2 => decide (k.alg ≤ 1) && k.usage 1
  | 3 => decide (k.alg ≤ 2) && k.usage 2
  | 4 => decide (k.alg ≤ 2) && k.usage 3
  | 5 => k.alg == 3 && k.usage 4
  | 6 => (k.alg == 3 || k.alg == 4) && k.usage 5
  | 7 => k.alg == 2 && k.usage 6
  | 8 => k.alg == 1 && k.usage 7 && (s.slot (s.keySlotOf c.ep c.aux)).exports
  | 9 => k.alg == 1 && k.usage 8
  | _ => true

/-- The opcode needs random data (R393): nonces, record IVs, challenges. [Assumption 151: DESIGN CHOICE, unsafe.] -/
def keyRandom (op : Nat) : Bool := op == 5 || op == 7 || op == 9 || op == 0xB || op == 0xC

/-- The checks of R403 up to step 6 as far as it does not need the new record, then those of R402, R401 (tag length), R411, R393.
[Assumption 145: DEDUCED, unsafe.] -/
def State.keyChecks (s : State) (c : Cmd) : Nat :=
  let d := (s.epAt c.ep).district
  let l := s.keyChecked c
  let st := s.ksState
  if st = 3 ∨ (st = 2 ∧ c.op ≠ 0xA ∧ c.op ≠ 0xB) then Code.TAMPER
  else if st = 4 then Code.CELLAR_UNAVAILABLE
  else if l.any (fun n => (s.slot n).st == 0) then Code.CELLAR_UNAVAILABLE
  else if l.any (fun n => (s.slot n).st == 2) then Code.SLOT_BAD
  else if keyUsesSlot c.op && l.any (fun n => !tbit (s.slot n).owner d) then Code.NOT_OWNER
  else if l.any (fun n => (s.slot n).cyOnly && (s.slot n).cy != c.cy) then Code.NOT_OWNER
  else if l.any (fun n => (s.slot n).cyOnly && s.rd (Fd.WG_CY_STATUS_STATE (s.slot n).cy) == 3) then Code.CELLAR_UNAVAILABLE
  else if !s.keyUsage c then Code.KEY_USAGE
  else if s.keyTarget c = some 0 ∧ c.op ≠ 0xC then Code.NOT_OWNER
  else if c.op = 0xC ∧ (d ≠ 0 ∨ !s.flag Fd.KS_STATUS_PROV_OPEN) then Code.PROV_CLOSED
  else if c.op = 4 ∧ (s.slot (s.keySlotOf c.ep c.slotNo)).alg ≤ 1 ∧ 16 < c.aux then Code.OUT_OF_RANGE
  else if c.op = 0xB ∧ st ≠ 2 then Code.WRONG_STATE
  else if keyRandom c.op && !s.flag Fd.KS_STATUS_DRBG_OK then Code.CELLAR_UNAVAILABLE
  else if c.op = 0xA ∧ 0xFFFFFFFF ≤ s.ks.attests then Code.NO_RESOURCE
  else Code.DONE

/-! ### Replacement (R400) -/

/-- The key length of an algorithm; 0 where Table 18-3 gives a range. -/
def algKeyLen (alg : Nat) : Nat :=
  match alg with
  | 0 => 16
  | 1 => 32
  | 2 => 0
  | 3 => 32
  | _ => 64

/-- The usages that an algorithm permits (Table 18-3). -/
def algUsages (alg : Nat) : Nat :=
  match alg with
  | 0 => 0b000001111
  | 1 => 0b110001111
  | 2 => 0b001001100
  | 3 => 0b000110000
  | _ => 0b000100000

/-- The check of a new record's attributes (R395, R396). [Assumption 147: DEDUCED, unsafe.] -/
def attrCheck (n attr owner keyLen : Nat) : Nat :=
  let alg := getBits attr 14 12
  if getBits attr 31 22 ≠ 0 ∨ tbit attr 15 ∨ getBits attr 11 9 ≠ 0 then Code.RESERVED_BIT
  else if 4 < alg then Code.OUT_OF_RANGE
  else if getBits attr 8 0 &&& algUsages alg ≠ getBits attr 8 0 then Code.OUT_OF_RANGE
  else if alg = 2 ∧ (keyLen < 32 ∨ 64 < keyLen) then Code.OUT_OF_RANGE
  else if alg ≠ 2 ∧ keyLen ≠ algKeyLen alg then Code.OUT_OF_RANGE
  else if tbit attr 16 = decide (getBits attr 20 17 = 0) then Code.OUT_OF_RANGE
  else if n = 0 ∧ (alg ≠ 2 ∨ getBits attr 8 0 ≠ 0 ∨ owner ≠ 0) then Code.OUT_OF_RANGE
  else Code.DONE

/-- A new slot as UNWRAP, DERIVE or PROVISION gives it, or the code that ends the command. -/
structure NewKey where
  code : Nat
  keyLen : Nat
  attr : Nat
  kcv : List Byte
  owner : Nat
  key : List Byte

def NewKey.fail (code : Nat) : NewKey := ⟨code, 0, 0, [], 0, []⟩

/-- The blob of UNWRAP, under the key of the wrapping slot (R402). [Assumption 146: DEDUCED, unsafe.] -/
def unwrap (wrapKey b : List Byte) : NewKey :=
  if recTag b ≠ cmac (kdf wrapKey axWrapM) (b.take 0x70) ∨ recMagic b ≠ 0x5052574B then NewKey.fail Code.AUTH_FAIL
  else if recSlot b ≠ 0 ∨ recGen b ≠ 0 ∨ leNat ((b.drop 0x24).take 12) ≠ 0 then NewKey.fail Code.RESERVED_BIT
  else ⟨Code.DONE, recKeyLen b, recAttr b, recKcv b, recOwner b,
    (ctr (kdf wrapKey axWrapE) (recIv b) 0 (recKey b)).take (recKeyLen b)⟩

/-- The plain record of PROVISION (R402). [Assumption 146: DEDUCED, unsafe.] -/
def provide (n : Nat) (b : List Byte) : NewKey :=
  if leNat ((b.drop 0x24).take 12) ≠ 0 ∨ leNat (recTag b) ≠ 0 then NewKey.fail Code.RESERVED_BIT
  else if recMagic b ≠ 0x544C534B ∨ recSlot b ≠ n then NewKey.fail Code.OUT_OF_RANGE
  else ⟨Code.DONE, recKeyLen b, recAttr b, recKcv b, recOwner b, (recKey b).take (recKeyLen b)⟩

/-- The key of DERIVE: `m` is Label ‖ 0x00 ‖ Context, `a` the 16 bytes of ARG (R402). -/
def deriveKey (key m a : List Byte) : NewKey :=
  let attr := leNat (a.take 4)
  let alg := getBits attr 14 12
  let n := if alg = 2 then 32 else algKeyLen alg
  let k := (kdf key m).take n
  if leNat ((a.drop 4).take 4) ≠ 0 then NewKey.fail Code.RESERVED_BIT
  else ⟨Code.DONE, k.length, attr, kcvOf alg k, leNat ((a.drop 8).take 8), k⟩

/-- What the command would put into its target. -/
def State.newKey (s : State) (c : Cmd) (n : Nat) : NewKey :=
  let k := (s.slot (s.keySlotOf c.ep c.slotNo)).key
  if s.poisoned c.src (keySrcLen c) || (c.op == 7 && s.poisoned c.arg 16) then NewKey.fail Code.POISONED
  else
    match c.op with
    | 7 => deriveKey k (s.bytes c.src c.keyLen) (s.bytes c.arg 16)
    | 9 => unwrap k (s.bytes c.src 128)
    | _ => provide n (s.bytes c.src 128)

/-- The code of a replacement before anything is written: the new record's own checks, step 6 of R403, R395, step 1 of R400.
[Assumption 146: DEDUCED, unsafe.] -/
def State.newKeyCode (s : State) (c : Cmd) (n : Nat) (k : NewKey) : Nat :=
  if k.code ≠ Code.DONE then k.code
  else if n ≠ 0 ∧ !tbit k.owner (s.epAt c.ep).district then Code.NOT_OWNER
  else if attrCheck n k.attr k.owner k.keyLen ≠ Code.DONE then attrCheck n k.attr k.owner k.keyLen
  else if kcvOf (getBits k.attr 14 12) k.key ≠ k.kcv then Code.KCV_MISMATCH
  else Code.DONE

/-- The shadow record of a replacement (R397, R400), its TAG last. [Assumption 148: DEDUCED, unsafe.] -/
def State.shadowRecord (s : State) (n : Nat) (k : NewKey) (iv : List Byte) : List Byte :=
  let t := s.slot n
  let gen := if t.st = 1 then (t.gen + 1) % 65536 else 1
  let b := recBody 0x544C534B n k.keyLen gen k.attr k.kcv k.owner iv (ctr s.storeKey iv 0 (fixLen 64 k.key))
  b ++ cmac s.tagKey b

/-- The device whose record of the slot is not in force. [Assumption 148: DEDUCED, unsafe.] -/
def State.shadowDev (s : State) (n : Nat) : Nat :=
  match s.recordInForce n with
  | some 0 => 1
  | _ => 0

/-! ### The two engines of Cellar (R404) -/

/-- SIGN and VERIFY are ECDSA operations. -/
def isEcdsa (op : Nat) : Bool := op == 5 || op == 6

/-- The operation that each engine would start next. -/
def State.nextKeyOp (s : State) : Option KeyOp :=
  match s.ks.ops.find? (fun k => isEcdsa k.op), s.ks.ops.find? (fun k => !isEcdsa k.op) with
  | some a, some b => if !a.started then some a else if !b.started then some b else none
  | some a, none => if a.started then none else some a
  | none, some b => if b.started then none else some b
  | none, none => none

def State.dropKeyOp (s : State) (e tag : Nat) : State :=
  { s with ks := { s.ks with ops := s.ks.ops.filter (fun k => !(k.ep == e && k.tag == tag)) } }

def State.putKeyOp (s : State) (x : KeyOp) : State :=
  { s with ks := { s.ks with ops := s.ks.ops.map (fun k => if k.ep == x.ep && k.tag == x.tag then x else k) } }

/-- An operation starts: the checks of R403, and for a replacement those of R400 step 1 and the shadow record up to its TAG. -/
def State.startKeyOp (s : State) (k : KeyOp) (c : Cmd) : State :=
  let code := s.keyChecks c
  if code ≠ Code.DONE then (s.dropKeyOp k.ep k.tag).finish c code
  else
    let k := { k with started := true, slot := s.slot (s.keySlotOf c.ep c.slotNo), aux := s.slot (s.keySlotOf c.ep c.aux) }
    match s.keyTarget c with
    | none => s.putKeyOp k
    | some n =>
      let x := s.newKey c n
      let code := s.newKeyCode c n x
      let s := (s.readEcc c.src (keySrcLen c)).readEcc c.arg (keyArgLen c)
      if code ≠ Code.DONE then (s.dropKeyOp k.ep k.tag).finish c code
      else
        let r := s.shadowRecord n x (leBytes 12 s.freeNat)
        ((s.draw).program (slotAddr (s.shadowDev n) n) (r.take 0x70)).putKeyOp { k with target := some n, record := r }

/-- The engines start what they can. -/
def State.startKeys (s : State) (fuel : Nat) : State :=
  match fuel with
  | 0 => s
  | fuel + 1 =>
    match s.nextKeyOp with
    | none => s
    | some k =>
      match s.cmdOf k.ep k.tag with
      | some c => (s.startKeyOp k c).startKeys fuel
      | none => (s.dropKeyOp k.ep k.tag).startKeys fuel

def State.startAllKeys (s : State) : State := s.startKeys (2 * s.ks.ops.length + 2)

/-- A KEY command reaches Cellar: a second replacement of a slot while one is in progress completes with BUSY (R400); otherwise it queues
for its engine (R404). -/
def State.keyTakes (s : State) (ep tag op : Nat) : State :=
  match s.passed ep tag 4 op with
  | none => s
  | some c =>
    let t := s.keyTarget c
    if t.isSome && s.ks.ops.any (fun k => (s.cmdOf k.ep k.tag).any (fun d => s.keyTarget d == t)) then
      s.finish c (if s.keyChecks c ≠ Code.DONE then s.keyChecks c else Code.BUSY)
    else
      let s := s.putCmd { c with phase := .waiting }
      let k : KeyOp := ⟨ep, tag, op, false, KeySlot.empty, KeySlot.empty, none, []⟩
      let s := { s with ks := { s.ks with ops := s.ks.ops ++ [k] } }
      s.startAllKeys

/-- An abort before the commit point takes the operation out of Cellar (R66, R404). -/
def State.keyCancel (s : State) (c : Cmd) : State := (s.dropKeyOp c.ep c.tag).startAllKeys

/-- An operation ends with a code, a DETAIL. -/
def State.keyEnd (s : State) (c : Cmd) (code detail : Nat) : State :=
  ((s.dropKeyOp c.ep c.tag).complete c code detail s.vt).startAllKeys

/-! ### Results (Table 18-5) -/

/-- The MAC of a message under a slot. -/
def macOf (k : KeySlot) (m : List Byte) : List Byte := if k.alg = 2 then hmac k.key m else cmac k.key m

/-- The 128-byte wrap blob of a slot under a wrapping key (R402). -/
def wrapBlob (wrapKey : List Byte) (k : KeySlot) (iv : List Byte) : List Byte :=
  let b := recBody 0x5052574B 0 k.keyLen 0 k.attr k.kcv k.owner iv (ctr (kdf wrapKey axWrapE) iv 0 (fixLen 64 k.key))
  b ++ cmac (kdf wrapKey axWrapM) b

/-- The measurement digest of the running bank as UP_MEAS shows it (R405, R420). -/
def State.measReg (s : State) : List Byte := (List.range 8).flatMap (fun k => leBytes 4 (s.reg (Rg.UP_MEAS k)).toNat)

/-- The record of ATTEST (R405). -/
def State.attestRecord (s : State) (key nonce : List Byte) (count : Nat) : List Byte :=
  hmac key (nonce ++ s.measReg ++ beBytes 4 count ++ serial) ++ beBytes 4 count ++ s.measReg ++ serial

/-- The 16 record bytes: KS_TAMPER_REC, 4 zero bytes, TIME (R411). [Assumption 149: DEDUCED, unsafe.] -/
def State.tamperRecord (s : State) : List Byte :=
  leBytes 4 (s.reg Rg.KS_TAMPER_REC).toNat ++ leBytes 4 0 ++ leBytes 4 (s.reg Rg.KS_TAMPER_TIME_LO).toNat
    ++ leBytes 4 (s.reg Rg.KS_TAMPER_TIME_HI).toNat

/-- The token that unlocks (R411). -/
def State.unlockToken (s : State) (key0 : List Byte) : List Byte :=
  hmac (kdf key0 (axUnlock ++ serial))
    ([0x55, 0x4E, 0x4C, 0x4B] ++ serial ++ (List.range 8).flatMap (fun k => leBytes 4 (s.reg (Rg.KS_CHALLENGE k)).toNat)
      ++ s.tamperRecord)

/-- A matching token: the tamper block is erased, every slot reloaded, STATE READY (R411). -/
def State.unlocked (s : State) : State :=
  let s := s.clearMem tamperAddr (tamperAddr + 0x1000)
  let s := { s with ks := { s.ks with recDue := false } }
  ((s.loadSlots).wr Fd.KS_STATUS_STATE 1).wr Fd.KS_TAMPER_REC_PENDING 0

/-- UNLOCK compares its token (R411). [Assumption 146: DEDUCED, unsafe.] -/
def State.unlockOp (s : State) (c : Cmd) (token : List Byte) : State :=
  if token = s.unlockToken (s.slot 0).key then (s.unlocked.renewChallenge).keyEnd c Code.DONE 0
  else ((s.ksCount 3).ksLevels.renewChallenge).keyEnd c Code.AUTH_FAIL 0

/-- An operation without a replacement finishes: its result is written (R401, R404). [Assumption 146: DEDUCED, unsafe.] -/
def State.keyResult (s : State) (k : KeyOp) (c : Cmd) : State :=
  let src := s.bytes c.src (keySrcLen c)
  let arg := s.bytes c.arg (keyArgLen c)
  let s := (s.readEcc c.src (keySrcLen c)).readEcc c.arg (keyArgLen c)
  let put := fun (s : State) (bs : List Byte) => (s.store c.dst bs).keyEnd c Code.DONE 0
  if s.poisoned c.src (keySrcLen c) || s.poisoned c.arg (keyArgLen c) then s.keyEnd c Code.POISONED 0
  else
    match c.op with
    | 1 => put s (ctr k.slot.key c.iv c.c0 src)
    | 2 => put s (ctr k.slot.key c.iv c.c0 src)
    | 3 => put s (macOf k.slot src)
    | 4 => s.keyEnd c (if (macOf k.slot src).take c.aux = arg then Code.DONE else Code.AUTH_FAIL) 0
    | 5 => put s.draw (ecdsaSign k.slot.key src s.freeNat)
    | 6 =>
      let pub := if k.slot.alg = 3 then ecdsaPublic k.slot.key else k.slot.key
      s.keyEnd c (if Config.ecdsaVerify pub src arg then Code.DONE else Code.AUTH_FAIL) 0
    | 8 => put s (wrapBlob k.slot.key k.aux c.iv)
    | 0xA =>
      let n := s.ks.attests + 1
      put { s with ks := { s.ks with attests := n } } (s.attestRecord (s.slot 0).key src n)
    | 0xB => s.unlockOp c src
    | _ => s

/-- The TAG of a shadow record is programmed and the record read back: `bad` says that it does not read back (R400).
[Assumption 148: DEDUCED, unsafe.] -/
def State.replaceCommit (s : State) (k : KeyOp) (c : Cmd) (n : Nat) (bad : Bool) : State :=
  if bad then s.keyEnd c Code.POISONED 0
  else
    let s := s.store (slotAddr (s.shadowDev n) n + 0x70) (recTag k.record)
    let s := s.setSlot n (s.keyFrom k.record)
    s.keyEnd c Code.DONE (if c.op = 7 then beNat ((recKcv k.record).take 2) else 0)

end Sys2Proof.Machine
end

