-- ==== Sys2Proof/Machine/Tamper.lean ====
section
/-! DEFINITION. The commands of chapter 18, tamper, Cellar at a boot, and MACsec SA loads (R114). -/

namespace Sys2Proof.Machine

/-! ### KEY commands (Table 18-5) -/

def execEnc (ep : Fin 4096) (tag : BitVec 16) (s : State) : Host.Outcome State Fault Refusal := .next (s.keyTakes ep tag.toNat 1)
def execDec (ep : Fin 4096) (tag : BitVec 16) (s : State) : Host.Outcome State Fault Refusal := .next (s.keyTakes ep tag.toNat 2)
def execMacGen (ep : Fin 4096) (tag : BitVec 16) (s : State) : Host.Outcome State Fault Refusal := .next (s.keyTakes ep tag.toNat 3)
def execMacVerify (ep : Fin 4096) (tag : BitVec 16) (s : State) : Host.Outcome State Fault Refusal := .next (s.keyTakes ep tag.toNat 4)
def execSign (ep : Fin 4096) (tag : BitVec 16) (s : State) : Host.Outcome State Fault Refusal := .next (s.keyTakes ep tag.toNat 5)
def execVerify (ep : Fin 4096) (tag : BitVec 16) (s : State) : Host.Outcome State Fault Refusal := .next (s.keyTakes ep tag.toNat 6)
def execDerive (ep : Fin 4096) (tag : BitVec 16) (s : State) : Host.Outcome State Fault Refusal := .next (s.keyTakes ep tag.toNat 7)
def execWrap (ep : Fin 4096) (tag : BitVec 16) (s : State) : Host.Outcome State Fault Refusal := .next (s.keyTakes ep tag.toNat 8)
def execUnwrap (ep : Fin 4096) (tag : BitVec 16) (s : State) : Host.Outcome State Fault Refusal := .next (s.keyTakes ep tag.toNat 9)
def execAttest (ep : Fin 4096) (tag : BitVec 16) (s : State) : Host.Outcome State Fault Refusal := .next (s.keyTakes ep tag.toNat 0xA)
def execUnlock (ep : Fin 4096) (tag : BitVec 16) (s : State) : Host.Outcome State Fault Refusal := .next (s.keyTakes ep tag.toNat 0xB)
def execProvision (ep : Fin 4096) (tag : BitVec 16) (s : State) : Host.Outcome State Fault Refusal := .next (s.keyTakes ep tag.toNat 0xC)

def execKeyOpComplete (ep : Fin 4096) (tag : BitVec 16) (s : State) : Host.Outcome State Fault Refusal :=
  .next (match s.ks.ops.find? (fun k => k.ep == ep.val && k.tag == tag.toNat), s.cmdOf ep tag.toNat with
    | some k, some c => if k.started && k.target.isNone then s.keyResult k c else s
    | _, _ => s)

def execSlotReplaceCommit (slot : Fin 128) (bad : Bool) (s : State) : Host.Outcome State Fault Refusal :=
  .next (match s.ks.ops.find? (fun k => k.started && k.target == some slot.val) with
    | some k =>
      match s.cmdOf k.ep k.tag with
      | some c => s.replaceCommit k c slot bad
      | none => s
    | none => s)

/-- The check of every 10 ms (R399); `upset` names the working copies that no longer match their TAG. -/
def execWorkingKeyCheck (upset : List (Fin 128)) (s : State) : Host.Outcome State Fault Refusal :=
  .next (if s.dev = .active then forAll upset (fun s n => if (s.slot n).st = 1 then s.turnBad n else s) s else s)

/-! ### Tamper (R406 to R411) -/

/-- Source `src` is ABORT_ONLY under a KS_TAMPER_POLICY.ABORT_ONLY value (Table 18-6). -/
def abortOnly (policy src : Nat) : Bool := decide (2 ≤ src) && tbit policy (src - 2)

/-- A tamper event is noted in KS_TAMPER_REC and its time (R407, R410): sources, FULL or not, PHASE, TIME.
[Assumption 150: DEDUCED, unsafe.] -/
def State.tamperNote (s : State) (mask : Nat) (full : Bool) (phase time : Nat) : State :=
  let pend := s.flag Fd.KS_TAMPER_REC_PENDING
  let s := s.wr Fd.KS_TAMPER_REC_SOURCES (if pend then s.rd Fd.KS_TAMPER_REC_SOURCES ||| mask else mask)
  let s := if pend then s
    else ((s.wr Fd.KS_TAMPER_REC_PHASE phase).setReg Rg.KS_TAMPER_TIME_LO (BitVec.ofNat 32 (time % 2 ^ 32))).setReg
      Rg.KS_TAMPER_TIME_HI (BitVec.ofNat 32 (time / 2 ^ 32))
  let s := (s.wr Fd.KS_TAMPER_REC_NEW 1).ksCount 0
  let s := if full then s.wr Fd.KS_TAMPER_REC_PENDING 1 else s
  let s := if pend || full then ({ s with ks := { s.ks with recDue := true } }).renewChallenge else s
  s.ksLevels

/-- Every Cellar operation before its commit point ends with TAMPER and is counted (R407). -/
def State.tamperAborts (s : State) : State :=
  let l := s.ep.inflight.filter (fun c => (s.epAt c.ep).ty == 4 && (c.phase == .passed || c.phase == .waiting))
  let s := { s with ks := { s.ks with ops := [] } }
  let s := forAll l (fun s c => (s.finish c Code.TAMPER).ksCount 1) s
  (forAll [0, 1, 2] (fun s m =>
    match tget (fun _ => none) s.sw.saLoad m with
    | some l =>
      if l.code = Code.DONE then
        ({ s with sw := { s.sw with saLoad := tset (fun _ => none) s.sw.saLoad m (some { l with code := Code.TAMPER }) } }).ksCount 1
      else s
    | none => s) s).ksLevels

/-- The pending record is written to the tamper block under its CMAC (R410). -/
def State.tamperWrite (s : State) : State :=
  if s.ks.recDue && s.flag Fd.KS_TAMPER_REC_PENDING then
    let r := s.tamperRecord
    { s.program tamperAddr (r ++ cmac s.tagKey r) with ks := { s.ks with recDue := false } }
  else s

/-- A tamper during start-up (R408): everything wiped, STATE HALTED, a last-words record with TRIGGER 4, and the record pending across
the restart. -/
def State.tamperHalt (s : State) (src : Nat) : State :=
  let s := (s.tamperNote (2 ^ src) true 2 s.vt).wipeSlots.wr Fd.KS_STATUS_STATE 3
  (s.tamperWrite).lastWords 4 (s.feedMv 0) (s.feedMv 1) s.vt

/-- An event in Active (R407). -/
def State.tamperEvent (s : State) (src : Nat) : State :=
  let full := !abortOnly (s.rd Fd.KS_TAMPER_POLICY_ABORT_ONLY) src
  let s := s.tamperAborts
  if s.ksState = 3 then s.tamperNote (2 ^ src) true 2 s.vt
  else
    let s := s.tamperNote (2 ^ src) full 0 s.vt
    if full then ((s.wipeSlots).wr Fd.KS_STATUS_STATE 2).loadSlot 0 else s

def execTamperEvent (src : Fin 5) (s : State) : Host.Outcome State Fault Refusal :=
  .next (if s.dev = .active then s.tamperEvent src else s)

/-- The vehicle time that the LP count gives in sleep (R409): LP cycles of 30,517.578 ns since the sleep commit. -/
def State.sleepTime (s : State) : Nat := s.ks.sleepVt + (s.now - s.ks.sleepAt) * 1000 / 30517578 * 30517578 / 1000

/-- A source armed in Parked and Standby is latched with its time (R406, R409); a FULL one wakes the device. -/
def State.sleepTamper (s : State) (src : Nat) : State :=
  let k := s.ks
  let full := !abortOnly k.policy src
  let time := if k.latFull = 0 then s.sleepTime else k.latTime
  let k := { k with
    latFull := if full || k.latFull != 0 then k.latFull ||| 2 ^ src else 0
    latAbort := if full || k.latFull != 0 then k.latAbort else k.latAbort ||| 2 ^ src
    latTime := time }
  let s := { s with ks := k }
  if full then s.qualifiedWake 30 else s

def execSleepTamperLatch (src : Fin 5) (s : State) : Host.Outcome State Fault Refusal :=
  .next (if (s.dev = .parked ∨ s.dev = .standby) ∧ src.val ≤ 2 then s.sleepTamper src else s)

/-- [Assumption 149: DEDUCED, unsafe.] -/
def execTamperRecordWrite (s : State) : Host.Outcome State Fault Refusal :=
  .next (if s.dev = .active then s.tamperWrite else s)

/-- The sleep commit hands the time and the policy to Lamplighter (R409). -/
def State.ksSleep (s : State) : State :=
  { s with ks := { s.ks with sleepVt := s.vt, sleepAt := s.now, policy := s.rd Fd.KS_TAMPER_POLICY_ABORT_ONLY } }

/-- Cellar loses its power: what Lamplighter keeps stays (R409). -/
def State.ksDown (s : State) : State :=
  { s with ks := { s.ks with slots := [], ops := [], attests := 0, recDue := false } }

/-! ### The OTP provisioning lock and the entropy source -/

def State.provLockWrite (s : State) (who : Who) (bytes : Nat) (w : Word) : State :=
  s.regWrite who bytes Rg.KS_PROV_LOCK w false (w.toNat != 0x4C4F434B) Code.DONE
    (fun s => { s.wr Fd.KS_STATUS_PROV_OPEN 0 with otp := { s.otp with provLocked := true } })

def execProvLock (who : Who) (w : Word) (s : State) : Host.Outcome State Fault Refusal := .next (s.provLockWrite (s.issuer who) 4 w)

def execDrbgHealthChange (ok : Bool) (s : State) : Host.Outcome State Fault Refusal :=
  let s := { s with ks := { s.ks with drbgOk := ok } }
  .next (if s.dev = .active then s.setFlag Fd.KS_STATUS_DRBG_OK ok else s)

/-! ### Cellar at a boot (R391, R392, R399, R409, R410) -/

/-- 32 random bytes. [Assumption 151: DESIGN CHOICE, unsafe.] -/
def State.random32 (s : State) : List Byte := leBytes 32 s.freeNat

/-- The start generates a Cornerstone (R391): no area is marked, and area 0 is unburned, or partly burned with area 1 unburned. -/
def State.csNeeded (s : State) : Bool := s.otp.cs0.st != 2 && s.otp.cs1.st != 2 && (s.otp.cs0.st == 0 || s.otp.cs1.st == 0)

/-- The chosen area is burned with 256 random bits: 2 with its marker, 1 without (R392). -/
def State.csBurn (s : State) (st : Nat) : State :=
  let o : OtpState := if s.otp.cs0.st = 0 then { s.otp with cs0 := ⟨st, s.random32⟩ } else { s.otp with cs1 := ⟨st, s.random32⟩ }
  ({ s with otp := o }).draw

/-- Cornerstone: the marked area in use, or one generated; the flag says that one was generated on this start.
[Assumption 150: DEDUCED, unsafe.] -/
def State.cornerstoneBoot (s : State) (gen : CsGen) : State :=
  let a := s.otp.cs0.st
  let b := s.otp.cs1.st
  if a = 2 then s.setFlag Fd.KS_STATUS_CS_AREA false
  else if b = 2 then s.setFlag Fd.KS_STATUS_CS_AREA true
  else if !s.ks.drbgOk ∨ !s.csNeeded then s.wr Fd.KS_STATUS_STATE 4
  else
    match gen with
    | .ok => ((s.csBurn 2).setFlag Fd.KS_STATUS_CS_AREA (a != 0)).wr Fd.AO_STATE_FIRST_START 1
    | _ => (s.csBurn 1).wr Fd.KS_STATUS_STATE 4

/-- Cellar before boot step 3. [Assumption 150: DEDUCED, unsafe.] -/
def State.ksStart (s : State) (gen : CsGen) : State :=
  let s := (s.setFlag Fd.KS_STATUS_DRBG_OK s.ks.drbgOk).setFlag Fd.KS_STATUS_PROV_OPEN (!s.otp.provLocked)
  ((s.wr Fd.AO_STATE_FIRST_START 0).cornerstoneBoot gen).renewChallenge

/-- The record that the tamper block holds, where its CMAC holds. [Assumption 149: DEDUCED, unsafe.] -/
def State.tamperBlock (s : State) : Option (List Byte) :=
  let r := s.bytes tamperAddr 16
  if s.bytes (tamperAddr + 16) 16 = cmac s.tagKey r then some r else none

/-- The pending records that this boot finds: the tamper block's, then the sleep latch's. -/
def State.ksPending (s : State) : State :=
  let s := match s.tamperBlock with
    | some r =>
      ((s.setReg Rg.KS_TAMPER_REC (BitVec.ofNat 32 (leNat (r.take 4)))).setReg Rg.KS_TAMPER_TIME_LO
        (BitVec.ofNat 32 (leNat ((r.drop 8).take 4)))).setReg Rg.KS_TAMPER_TIME_HI (BitVec.ofNat 32 (leNat ((r.drop 12).take 4)))
    | none => s
  let k := s.ks
  let s := if k.latAbort ≠ 0 then s.tamperNote k.latAbort false 1 k.latTime else s
  let s := if k.latFull ≠ 0 then s.tamperNote k.latFull true 1 k.latTime else s
  ({ s with ks := { s.ks with latFull := 0, latAbort := 0, latTime := 0 } }).ksLevels

/-- Cellar after boot step 4: every slot, or slot 0 alone under a pending record. [Assumption 150: DEDUCED, unsafe.] -/
def State.ksLoad (s : State) : State :=
  if s.ksState = 4 then { s with ks := { s.ks with slots := [] } }
  else
    let s := s.ksPending
    if s.flag Fd.KS_TAMPER_REC_PENDING then ((s.wipeSlots).wr Fd.KS_STATUS_STATE 2).loadSlot 0
    else (s.loadSlots).wr Fd.KS_STATUS_STATE 1

/-! ### MACsec SA loads (R114, R115) -/

/-- The outcome of an SA load. [Assumption 153: DEDUCED, unsafe.] -/
def State.saLoadCode (s : State) (m w : Nat) : Nat :=
  let k := s.slot (getBits w 6 0)
  let rx := tbit w 15
  if s.ksState = 2 ∨ s.ksState = 3 then Code.TAMPER
  else if k.st = 2 then Code.SLOT_BAD
  else if k.st = 0 ∨ k.alg ≠ 1 ∨ !k.usage (if rx then 1 else 0) ∨ !tbit k.owner 0 ∨ k.cyOnly then Code.CELLAR_UNAVAILABLE
  else if !rx ∧ getBits w 12 11 = s.rd (Fd.SW_MS_CTRL_TX_AN m) then Code.WRONG_STATE
  else if s.reg (Rg.SW_MS_STAGE m 4) = 0 ∧ s.reg (Rg.SW_MS_STAGE m 5) = 0 then Code.OUT_OF_RANGE
  else Code.DONE

/-- The load starts: RESULT reads BUSY. [Assumption 153: DEDUCED, unsafe.] -/
def State.saLoadStart (s : State) (m w : Nat) : State :=
  let l : SaLoad := ⟨s.saLoadCode m w, w, (List.range 8).map (fun k => (s.reg (Rg.SW_MS_STAGE m k)).toNat), (s.slot (getBits w 6 0)).key⟩
  ({ s with sw := { s.sw with saLoad := tset (fun _ => none) s.sw.saLoad m (some l) } }).wr (Fd.SW_MS_SA_LOAD_RESULT m) Code.BUSY

def State.saLoadWrite (s : State) (who : Who) (bytes m : Nat) (w : Word) : State :=
  s.regWrite who bytes (Rg.SW_MS_SA_LOAD m) w false (!tbit w.toNat 15 && getBits w.toNat 14 13 != 0)
    (if s.rd (Fd.SW_MS_SA_LOAD_RESULT m) = Code.BUSY then Code.BUSY else Code.DONE) (fun s => s.saLoadStart m w.toNat)

/-- [Assumption 153: DEDUCED, unsafe.] -/
def execMacsecSaLoad (who : Who) (m : Fin 3) (w : Word) (s : State) : Host.Outcome State Fault Refusal :=
  .next (s.saLoadWrite (s.issuer who) 4 m w)

/-- The SA that the staging words and the key give. -/
def SaLoad.sa (l : SaLoad) : MsSa :=
  let g := fun (k : Nat) => l.stage.getD k 0
  { key := l.key, ssci := g 0, salt := g 1 * 2 ^ 64 + g 2 * 2 ^ 32 + g 3, pn := g 4 + 2 ^ 32 * g 5, sci := g 6 + 2 ^ 32 * g 7 }

def execMacsecSaLoadDone (m : Fin 3) (s : State) : Host.Outcome State Fault Refusal :=
  .next (match tget (fun _ => none) s.sw.saLoad m with
    | some l =>
      let s := { s with sw := { s.sw with saLoad := tset (fun _ => none) s.sw.saLoad m none } }
      let s := s.wr (Fd.SW_MS_SA_LOAD_RESULT m) l.code
      let an := getBits l.w 12 11
      if l.code ≠ Code.DONE then s
      else if tbit l.w 15 then s.setRxSa (msPort m) (getBits l.w 14 13) an (some l.sa)
      else (s.setTxSa (msPort m) an (some l.sa)).pnLevel (msPort m)
    | none => s)

end Sys2Proof.Machine
end

