-- ==== Sys2Proof/Machine/Doorbells.lean ====
section
/-! DEFINITION. The endpoint engine's command path: doorbells (R55, R56, R146), residency (R148, R149), fetch (R57 to R60), ORDERED and
TIMED release (R64, R65) and aborts (R66 to R68). -/

namespace Sys2Proof.Machine

/-! ### Residency (R148, R149) -/

/-- The levels of sources 46 and 47. -/
def State.epLevels (s : State) : State :=
  (s.level 46 ((s.rd Fd.SYS_EP_SAT_SAT &&& s.rd Fd.SYS_EP_SAT_IE) != 0)).level 47
    ((List.range 128).any (fun k => s.reg (Rg.SYS_OD_DONE k) != 0))

/-- SYS_EP_EVENT: 0 PAGE_INS, 1 PAGE_WAIT, 2 EPE_NO_EP, 3 TX_DISCARDED. -/
def State.epCount (s : State) (c : Nat) : State := (s.count (Rg.SYS_EP_EVENT c) Rg.SYS_EP_SAT c).epLevels

/-- The endpoint gets a slot, as the most recently used. -/
def State.seat (s : State) (e k : Nat) : State :=
  let s := s.setEp e { s.epAt e with slot := some k }
  ({ s with ep := { s.ep with lru := s.ep.lru.filter (· != e) ++ [e] } }).epCount 0

/-- The endpoint loses its slot. -/
def State.unseat (s : State) (e : Nat) : State :=
  let s := s.setEp e { s.epAt e with slot := none }
  { s with ep := { s.ep with lru := s.ep.lru.filter (· != e) } }

/-- No candidate exists: every page-in that waits is counted, each once. -/
def State.pageWait (s : State) : State :=
  let new := s.ep.pageQ.filter (fun (p : Nat × Bool) => !p.2)
  forAll new (fun s _ => s.epCount 1) { s with ep := { s.ep with pageQ := s.ep.pageQ.map (fun (p : Nat × Bool) => (p.1, true)) } }

/-- A page-in of one endpoint: an empty slot, or that of the candidate used least recently; with neither it waits.
[Assumption 81: DEDUCED, unsafe.] -/
def State.pageIn (s : State) (e : Nat) : State :=
  let drop := fun (s : State) => { s with ep := { s.ep with pageQ := s.ep.pageQ.filter (fun (p : Nat × Bool) => p.1 != e) } }
  if (s.epAt e).slot.isSome ∨ !(s.epAt e).live then drop s
  else
    match s.pagedFree with
    | some k => (drop s).seat e k
    | none =>
      match s.ep.lru.find? s.evictable with
      | some v =>
        let k := (s.epAt v).slot.getD 0
        (drop (s.unseat v)).seat e k
      | none => s.pageWait

/-- The page-in that has waited longest is served (R149). -/
def State.servePage (s : State) : State :=
  match s.ep.pageQ with
  | p :: _ => s.pageIn p.1
  | [] => s

/-- The endpoint's context is asked for, and the page-ins up to its own are served in the order of their events (R149). -/
def State.resident (s : State) (e : Nat) : State :=
  let s := s.needPage e
  if (s.epAt e).slot.isSome then s
  else forAll (List.range ((s.ep.pageQ.findIdx (fun (p : Nat × Bool) => p.1 == e)) + 1)) (fun s _ => s.servePage) s

/-! ### Doorbell pages (R18, R146) -/

/-- The address of a doorbell register. -/
def dbAddr (e off : Nat) : Nat := 0x21000000 + 0x1000 * e + off

/-- The registers of a doorbell page (R55, Table 07-2). [Assumption 79: DEDUCED, unsafe.] -/
def dbNamed (e off : Nat) : Bool :=
  (decide (off < 0x20) && off % 4 == 0) || (e == 0 && (off == 0x100 || off == 0x104 || off == 0x108))

/-- A doorbell access that its record alone describes. [Assumption 79: DEDUCED, unsafe.] -/
def State.dbRefuse (s : State) (who : Who) (e off code : Nat) (write : Bool) (r : Resp) : State :=
  { s.reject 0 code who write (dbAddr e off) with resp := r }

/-- The owner and district 0 may access a doorbell page; every district rings MB_RING (R146 step 4). [Assumption 79: DEDUCED, unsafe.] -/
def State.dbRight (s : State) (who : Who) (e off : Nat) : Bool :=
  who.district == 0 || (s.epAt e).district == who.district.toNat || (e == 0 && off == 0x100)

/-- R56: the new TAIL of DB_SQ passes over more entries than are free. -/
def Ep.sqOver (x : Ep) (tail : Nat) : Bool := decide (x.sqSize - x.outstanding < idxSub tail x.sqTail)
/-- R56: the new HEAD of DB_CQ passes over more records than stand. -/
def Ep.cqOver (x : Ep) (head : Nat) : Bool := decide (idxSub x.cqTail x.cqHead < idxSub head x.cqHead)

/-- DB_SQ (R56, R475): TAIL moves, the descriptors up to it are published with the Courtyard id carried, and a page-in may start. -/
def State.dbSqWrite (s : State) (who : Who) (e w : Nat) : State :=
  let x := s.epAt e
  let tail := w % 65536
  if tail = x.sqTail then s
  else if x.sqOver tail then s.dbRefuse who e 0 Code.OUT_OF_RANGE true .done
  else if e = 0 ∧ !s.flag Fd.SYS_EP0_RINGS_LO_EN then s.dbRefuse who e 0 Code.WRONG_STATE true .done
  else (s.setEp e { x with sqTail := tail, pub := x.pub ++ [(tail, who.courtyard.toNat)] }).needPage e

/-- DB_CQ (R56). -/
def State.dbCqWrite (s : State) (who : Who) (e w : Nat) : State :=
  let x := s.epAt e
  let head := w % 65536
  if head = x.cqHead then s
  else if x.cqOver head then s.dbRefuse who e 4 Code.OUT_OF_RANGE true .done
  else s.setEp e { x with cqHead := head }

/-! ### Checks at fetch (R60) -/

/-- Steps 3 and 4 for a NET command (Table 07-4). -/
def State.checkNet (s : State) (c : Cmd) : Nat :=
  let d := (s.epAt c.ep).district
  let buf := c.f 0x10 8
  let n := c.f 0x18 2
  let inRange :=
    if c.op = 1 then decide (14 ≤ n) && decide (n ≤ s.maxLen 23 - 4) && decide (c.f 0x1A 1 ≤ 7)
    else buf % 64 == 0 && n % 64 == 0 && decide (64 ≤ n) && decide (n ≤ 9216)
  if !inRange then Code.OUT_OF_RANGE
  else if s.gated 8 then Code.WRONG_STATE
  else if !s.dramRange d 0 buf n (if c.op = 1 then 1 else 2) then Code.NOT_OWNER
  else Code.DONE

/-- Steps 3 and 4 for a TIMER command: EXPIRY at most 60 s ahead. -/
def State.checkTimer (s : State) (c : Cmd) : Nat := if s.vt + 60 * sec < c.f 0x10 8 then Code.OUT_OF_RANGE else Code.DONE

/-- Steps 3 and 4 of R60 by endpoint type. -/
def State.checkTarget (s : State) (c : Cmd) : Nat :=
  match (s.epAt c.ep).ty with
  | 0 => s.checkNet c
  | 1 => s.checkCan c
  | 2 => s.checkPwr c
  | 3 => s.checkPin c
  | 4 => s.checkKey c
  | 5 => s.checkTimer c
  | 6 => s.checkView c
  | _ => Code.OUT_OF_RANGE

/-- The flag, opcode and time part of step 3. -/
def State.timedBad (s : State) (c : Cmd) (f : Form) : Bool :=
  if c.timed then !f.timed || decide (s.vt + 60 * sec < c.exec) else c.late != 0 || c.exec != 0

/-- Steps 2 to 4 of R60; DONE where the descriptor passes. [Assumption 78: DEDUCED, unsafe.] -/
def State.checkDesc (s : State) (c : Cmd) : Nat :=
  let x := s.epAt c.ep
  if c.flags / 8 ≠ 0 then Code.RESERVED_BIT
  else
    match formOf x.ty (tbit x.bind 8) c.op with
    | none => Code.OUT_OF_RANGE
    | some f =>
      if !f.clean c.body || (x.ty == 1 && c.canReserved) then Code.RESERVED_BIT
      else if s.timedBad c f then Code.OUT_OF_RANGE
      else s.checkTarget c

/-! ### Fetch (R57, R58) -/

/-- The command that 64 descriptor bytes spell (Table 03-4). [Assumption 26: DESIGN CHOICE, unsafe.] -/
def cmdOfBytes (e cy : Nat) (b : List Byte) : Cmd :=
  { ep := e, tag := leNat (b.take 2), op := leNat ((b.drop 2).take 1), flags := leNat ((b.drop 3).take 1)
    late := leNat ((b.drop 4).take 4), exec := leNat ((b.drop 8).take 8), body := b.drop 16, phase := .passed
    abortSeen := false, lateSeen := false, cy := cy, note := 0 }

/-- The words of a descriptor that read with an uncorrectable error, bit w for bytes 8w to 8w + 7 (R58). -/
def State.poisonMask (s : State) (a : Nat) : Nat :=
  (List.range 8).foldl (fun m w => if s.poisoned (a + 8 * w) 8 then m + 2 ^ w else m) 0

/-- The descriptor at HEAD is taken: HEAD moves past it. -/
def State.takeHead (s : State) (e : Nat) : State :=
  let x := s.epAt e
  let h := idxNext x.sqHead
  s.setEp e { x with sqHead := h, pub := if x.pub.head?.map (·.1) = some h then x.pub.drop 1 else x.pub }

/-- The engine fetches one descriptor (R57), checks it (R58, R60) and passes it to its target, or holds it for R64.
[Assumption 26: DESIGN CHOICE, unsafe. Assumption 78: DEDUCED, unsafe.] -/
def State.fetchOne (s : State) (e : Nat) : State :=
  let x := s.epAt e
  let a := x.descAddr x.sqHead
  let mask := s.poisonMask a
  let cy := match x.pub.head? with | some p => p.2 | none => 0
  let c := cmdOfBytes e cy (s.bytes a 64)
  let s := ((s.readEcc a 64).takeHead e).touch e
  if mask ≠ 0 then
    let readable := !tbit mask 0
    s.record e (if readable then c.tag else 0) Code.POISONED (if readable then c.op else 0) mask s.vt false false false
      (readable && c.notify)
  else if (s.cmdOf e c.tag).isSome then s.record e c.tag Code.BUSY c.op 0 s.vt false false true c.notify
  else
    let code := s.checkDesc c
    if code ≠ Code.DONE then s.record e c.tag code c.op 0 s.vt false false false c.notify
    else
      let c := if c.ordered && !(s.inflight e).isEmpty then { c with phase := .ordered } else c
      { s with ep := { s.ep with inflight := s.ep.inflight ++ [c] } }

/-- The engine fetches up to a submission index, as far as credits and completion entries allow (R67, R162). -/
def State.fetchTo (s : State) (e tail fuel : Nat) : State :=
  match fuel with
  | 0 => s
  | fuel + 1 => if s.canFetch e && (s.epAt e).sqHead != tail then (s.fetchOne e).fetchTo e tail fuel else s

/-- [Assumption 26: DESIGN CHOICE, unsafe.] -/
def execDescriptorFetch (ep : Fin 4096) (s : State) : Host.Outcome State Fault Refusal :=
  .next (if s.dev = .active ∧ s.canFetch ep ∧ !(s.epAt ep).dying then s.fetchOne ep else s)

/-- R64: every command fetched before it from the endpoint has written its record. -/
def execOrderedRelease (ep : Fin 4096) (tag : BitVec 16) (s : State) : Host.Outcome State Fault Refusal :=
  .next (match (s.inflight ep).head? with
    | some c => if c.tag = tag.toNat ∧ c.phase = .ordered then s.putCmd { c with phase := .passed } else s
    | none => s)

/-- A TIMED command executes in its block. -/
def State.runTimed (s : State) (c : Cmd) : State :=
  match (s.epAt c.ep).ty with
  | 1 => s.canTxDue c
  | 2 => if s.kb.up then s.runPwr c else s
  | 3 => s.runPin c
  | _ => s

/-- R65: at EXEC_TIME, or late within LATE_LIMIT, or not at all. [Assumption 73: DEDUCED, unsafe.] -/
def State.timedExecute (s : State) (c : Cmd) : State :=
  if s.vt ≤ c.exec then (s.reachVt c.exec).runTimed { c with phase := .passed }
  else if s.vt ≤ c.exec + c.late then
    let c := { c with lateSeen := true }
    (s.putCmd c).runTimed { c with phase := .passed }
  else s.finish c Code.TIMEOUT

/-- Commands of one channel with equal EXEC_TIME execute in fetch order (R224): the older ones first. -/
def execTimedExecute (ep : Fin 4096) (tag : BitVec 16) (s : State) : Host.Outcome State Fault Refusal :=
  .next (match s.cmdOf ep tag.toNat with
    | some c =>
      if c.phase = .timed ∧ s.dev = .active then
        let older := if (s.epAt c.ep).ty = 2 then
            ((s.inflight c.ep).takeWhile (fun k => k.tag != c.tag)).filter (fun k => k.phase == .timed && k.exec == c.exec)
          else []
        (forAll older State.timedExecute s).timedExecute c
      else s
    | none => s)

/-! ### Aborts (R66 to R68) -/

/-- The target gives up what it keeps for a waiting command. -/
def State.targetCancel (s : State) (c : Cmd) : State :=
  if c.phase ≠ .waiting then s
  else
    match (s.epAt c.ep).ty with
    | 0 => { s with sw := { s.sw with inject := s.sw.inject.filter (fun f => !(f.port == 23 && f.ep == c.ep && f.tag == c.tag)) } }
    | 3 =>
      if tbit (s.epAt c.ep).bind 8 then
        let l := s.boundLin c.ep
        s.setLin l { s.linAt l with pend := (s.linAt l).pend.filter (fun p => p.2.2 != .ring c.ep c.tag) }
      else s
    | 4 => s.keyCancel c
    | 6 => s.viewCancel c
    | _ => s

/-- The command is a transmission whose buffer is PENDING or ACTIVE for it, which CAN itself decides (R270): on a REPEAT buffer, while an
attempt is made. -/
def State.canDecides (s : State) (c : Cmd) : Bool :=
  let k := s.boundCan c.ep
  (s.epAt c.ep).ty == 1 && c.op == 2 && (c.phase == .waiting || c.phase == .committed) &&
  (!s.flag (Fd.CAN_MB_CFG_REPEAT k c.note) || s.attempts k c.note)

/-- An abort of a command in flight (R66): what CODE reads, or BUSY where a CAN transmission holds the decision. -/
def State.abortCmd (s : State) (c : Cmd) : State × Nat :=
  let d := { c with abortSeen := true }
  if c.phase = .committed ∧ !s.canDecides c then (s.putCmd d, Code.ALREADY_DONE)
  else if s.canDecides c then
    let s := (s.putCmd d).txAbort (s.boundCan c.ep) c.note
    match s.cmdOf c.ep c.tag with
    | none => (s, Code.CANCELLED)
    | some _ => (s, if (s.buf (s.boundCan c.ep) c.note).cancelHeld then Code.BUSY else Code.ALREADY_DONE)
  else ((s.targetCancel c).finish d Code.CANCELLED, Code.CANCELLED)

/-- DB_ABORT (R67, R68): a write while an abort is undecided changes nothing. -/
def State.dbAbortWrite (s : State) (who : Who) (e w : Nat) : State :=
  let x := s.epAt e
  if x.abortCode = Code.BUSY then s.dbRefuse who e 8 Code.BUSY true .done
  else
    let s := (s.setEp e { x with abortTag := w % 65536, abortCode := Code.BUSY, abortTail := x.sqTail }).needPage e
    s.fetchTo e x.sqTail 4096

/-- The abort is decided (R67): the descriptors published before it are fetched first, then TAG is looked up. -/
def State.abortDecide (s : State) (e : Nat) : State :=
  let x := s.epAt e
  let s := s.fetchTo e x.abortTail 4096
  match s.cmdOf e x.abortTag with
  | none => s.setEp e { s.epAt e with abortCode := Code.ALREADY_DONE }
  | some c =>
    let r := s.abortCmd c
    r.1.setEp e { r.1.epAt e with abortCode := r.2 }

def execAbortDecision (ep : Fin 4096) (s : State) : Host.Outcome State Fault Refusal :=
  .next (if (s.epAt ep).live ∧ (s.epAt ep).abortCode = Code.BUSY then
      let s := s.resident ep
      if (s.epAt ep).slot.isSome then s.abortDecide ep else s
    else s)

/-! ### Writes and reads of doorbell pages (R146) -/

/-- The bit of a district in MB_PENDING sets, and bit 0 of notice group 0 (R147); Town Hall looks for its requests (R160). -/
def State.mbRing (s : State) (who : Who) : State :=
  let d := who.district.toNat
  let a := dbAddr 0 (if d < 32 then 0x104 else 0x108)
  let s := s.setReg a (BitVec.ofNat 32 (setBit (s.reg a).toNat (d % 32)))
  { s with ep := { s.ep with rung := if d = 0 then s.ep.rung else insertNat s.ep.rung d } }.setNotice 0

/-- A write that has passed steps 1 to 4 of R146, by register. -/
def State.dbEffect (s : State) (who : Who) (e off w : Nat) : State :=
  match off with
  | 0x000 => s.dbSqWrite who e w
  | 0x004 => s.dbCqWrite who e w
  | 0x008 => s.dbAbortWrite who e w
  | 0x00C =>
    if w / 2 ^ 20 ≠ 0 ∨ tbit w 14 then s.dbRefuse who e off Code.RESERVED_BIT true .done
    else if tbit w 15 then s.clearNotice e
    else s
  | 0x01C => s.setEp e { s.epAt e with trimmed := 0 }
  | 0x100 => s.mbRing who
  | 0x104 => s.setReg (dbAddr 0 off) (BitVec.ofNat 32 (((s.reg (dbAddr 0 off)).toNat ||| w) ^^^ w))
  | 0x108 => s.setReg (dbAddr 0 off) (BitVec.ofNat 32 (((s.reg (dbAddr 0 off)).toNat ||| w) ^^^ w))
  | _ => s.dbRefuse who e off Code.NOT_OWNER true .done

/-- A write to a doorbell page (R146). -/
def State.dbWrite (s : State) (who : Who) (bytes e off : Nat) (w : Word) : State :=
  if s.dev ≠ .active then s
  else if s.toGate who (dbAddr e off) then s.gatedStore who (dbAddr e off) (leBytes bytes w.toNat) false
  else if s.gateWait who then s
  else if bytes ≠ 4 ∨ off % 4 ≠ 0 then (s.coreFault who 7).dbRefuse who e off Code.BAD_SIZE true .busError
  else if !s.epExists e then s.dbRefuse who e off Code.WRONG_STATE true .done
  else if !dbNamed e off then s.dbRefuse who e off Code.RESERVED_ADDRESS true .done
  else if !s.dbRight who e off then s.dbRefuse who e off Code.NOT_OWNER true .done
  else { s with resp := .done }.dbEffect who e off w.toNat

/-- The word that a doorbell register reads. -/
def State.dbWord (s : State) (e off : Nat) : Nat :=
  match off with
  | 0x000 => s.dbSq e
  | 0x004 => s.dbCq e
  | 0x008 => s.dbAbort e
  | 0x00C => s.dbStatus e
  | 0x010 => s.dbInfo e
  | 0x014 => (s.epAt e).credits
  | 0x018 => (s.epAt e).occ * 65536 + (s.epAt e).cells
  | 0x01C => (s.epAt e).trimmed
  | 0x100 => 0
  | _ => (s.reg (dbAddr e off)).toNat

/-- A read of a doorbell page (R146). -/
def State.dbRead (s : State) (who : Who) (bytes e off : Nat) : State :=
  if s.dev ≠ .active ∨ s.gateWait who then s
  else if bytes ≠ 4 ∨ off % 4 ≠ 0 then (s.coreFault who 5).dbRefuse who e off Code.BAD_SIZE false .busError
  else if !s.epExists e then s.dbRefuse who e off Code.WRONG_STATE false (.data 0)
  else if !dbNamed e off then { s with resp := .data 0 }
  else if !s.dbRight who e off then s.dbRefuse who e off Code.NOT_OWNER false (.data 0)
  else { s with resp := .data (s.dbWord e off) }

def execDbSqWrite (who : Who) (ep : Fin 4096) (w : Word) (s : State) : Host.Outcome State Fault Refusal := .next (s.dbWrite (s.issuer who) 4 ep 0 w)
def execDbCqWrite (who : Who) (ep : Fin 4096) (w : Word) (s : State) : Host.Outcome State Fault Refusal := .next (s.dbWrite (s.issuer who) 4 ep 4 w)
def execDbAbortWrite (who : Who) (ep : Fin 4096) (w : Word) (s : State) : Host.Outcome State Fault Refusal :=
  .next (s.dbWrite (s.issuer who) 4 ep 8 w)
def execMbRing (who : Who) (w : Word) (s : State) : Host.Outcome State Fault Refusal := .next (s.dbWrite (s.issuer who) 4 0 0x100 w)

end Sys2Proof.Machine
end

