-- ==== Sys2Proof/Machine/Endpoints.lean ====
section
/-! DEFINITION. Endpoints as Town Hall and the engine manage them (R144 to R168): creation, destruction, shares, the mailbox, district
restart; and NET and TIMER endpoints (R153 to R156). -/

namespace Sys2Proof.Machine

/-! ### The request (Table 07-6) and the answer (R169) -/

/-- Request bytes 0x08 to 0x3F as the staging words hold them. -/
def State.reqBytes (s : State) : List Byte := (List.range 14).flatMap (fun k => leBytes 4 (s.reg (Rg.SYS_EP_STAGE k)).toNat)
/-- A field of the request. -/
def State.req (s : State) (off n : Nat) : Nat := leNat ((s.reqBytes.drop (off - 8)).take n)

/-- The staging words take request bytes 0x08 to 0x3F. -/
def State.stage (s : State) (bs : List Byte) : State :=
  forAll (List.range 14) (fun s k => s.setReg (Rg.SYS_EP_STAGE k) (BitVec.ofNat 32 (leNat ((bs.drop (4 * k)).take 4)))) s

/-- Response bytes 0x08 to 0x1F stand in SYS_EP_RESULT. [Assumption 77: DEDUCED, unsafe.] -/
def State.setResult (s : State) (payload : List Byte) : State :=
  forAll (List.range 6) (fun s k => s.setReg (Rg.SYS_EP_RESULT k) (BitVec.ofNat 32 (leNat ((payload.drop (4 * k)).take 4)))) s

/-- The mailbox page of a district (R159). [Assumption 84: DEDUCED, unsafe.] -/
def State.mboxPage (s : State) (d : Nat) : Nat := s.mboxBase + 0x1000 * d

/-- Town Hall writes a response, advances RSP_TAIL and injects the interrupt (R160). [Assumption 76: DEDUCED, unsafe.] -/
def State.respond (s : State) (d seq msg code no : Nat) (payload : List Byte) : State :=
  let p := s.mboxPage d
  let tail := s.le (p + 4) 2
  let s := s.store (p + 0x900 + 32 * (tail % 32))
    (leBytes 2 seq ++ leBytes 1 msg ++ leBytes 1 0 ++ leBytes 2 code ++ leBytes 2 no ++ fixLen 24 payload)
  let s := s.store (p + 4) (leBytes 2 (idxNext tail))
  { s with ep := { s.ep with vssip := tset (fun _ => 0) s.ep.vssip d (tget (fun _ => 0) s.ep.vssip d + 1) } }

/-- The operation ends: RESULT, the result words, and the response where it came from the mailbox. `no` is its ENDPOINT.
[Assumption 77: DEDUCED, unsafe.] -/
def State.opEnd (s : State) (o : EpOp) (code no : Nat) (payload : List Byte) : State :=
  let s := { s with ep := { s.ep with op := none } }
  let s := (s.wr Fd.SYS_EP_CMD_RESULT code).setResult payload
  if o.mail then s.respond o.district o.seq o.msg code no payload else s

/-! ### Pools and reserved shares (R157, R158) -/

/-- KIND applies to the endpoint type. -/
def kindApplies (kind ty : Nat) : Bool := kind == 0 || (ty == 0 && decide (kind ≤ 2))
/-- The RESERVED_SHARE item of a district for a KIND that applies to the type. RESERVED_SHARE: KIND, DISTRICT, ENDPOINTS, AMOUNT. -/
def State.resvItem (s : State) (kind d ty : Nat) : Option Item := if kindApplies kind ty then s.item2 0x0A02 kind d else none
/-- The endpoints of a district that hold a reserved share of a KIND. -/
def State.resvUsed (s : State) (kind d : Nat) : Nat := (s.ep.eps.filter (fun p => p.2.live && p.2.district == d && tbit p.2.resv kind)).length
/-- The reserved kinds that a creation takes, bit k for KIND k. -/
def State.resvMask (s : State) (share d ty : Nat) : Nat :=
  if share = 0 then 0 else (List.range 3).foldl (fun m k => if (s.resvItem k d ty).isSome then m + 2 ^ k else m) 0

def State.freeCredits (s : State) : Nat := s.rd Fd.SYS_POOL_FREE0_FREE_CREDITS
def State.freeTimers (s : State) : Nat := s.rd Fd.SYS_POOL_FREE0_FREE_TIMERS
def State.freeCells (s : State) : Nat := s.rd Fd.SYS_POOL_FREE1_FREE_CELLS
def State.freeCan (s : State) : Nat := s.rd Fd.SYS_POOL_FREE1_FREE_CAN
/-- The pools with other amounts. -/
def State.setPools (s : State) (credits timers cells can : Nat) : State :=
  (((s.wr Fd.SYS_POOL_FREE0_FREE_CREDITS credits).wr Fd.SYS_POOL_FREE0_FREE_TIMERS timers).wr Fd.SYS_POOL_FREE1_FREE_CELLS cells).wr
    Fd.SYS_POOL_FREE1_FREE_CAN can

/-! ### Creation (R145, R161) -/

/-- The PINNED item that names an endpoint. PINNED: ENDPOINT, DISTRICT, EPTYPE. -/
def State.pinnedItem (s : State) (e : Nat) : Option Item := s.item 0x0A03 e

/-- Step 1 of R161: the number, or the code. -/
def State.createNo (s : State) (d ty no : Nat) : Nat × Nat :=
  if no = 0xFFFF then
    match (List.range 4096).find? (fun e => e != 0 && !(s.epAt e).live && (s.pinnedItem e).isNone) with
    | some e => (Code.DONE, e)
    | none => (Code.NO_RESOURCE, no)
  else if no = 0 ∨ 4095 < no then (Code.OUT_OF_RANGE, no)
  else if (s.epAt no).live then (Code.EP_EXISTS, no)
  else
    match s.pinnedItem no with
    | some i => if i.n 1 = d ∧ i.n 2 = ty then (Code.DONE, no) else (Code.NOT_OWNER, no)
    | none => (Code.DONE, no)

/-- The block of an endpoint type (Table 07-1). -/
def epBlock (ty : Nat) : Nat :=
  match ty with
  | 0 => 0x08
  | 1 => 0x0C
  | 2 => 0x0B
  | 3 => 0x0E
  | 4 => 0x06
  | 5 => 0x00
  | _ => 0x0A

/-- The fields of CREATE_EP. -/
def State.crShare (s : State) : Nat := s.req 0x0B 1
def State.crSqLog2 (s : State) : Nat := s.req 0x0C 1
def State.crCqLog2 (s : State) : Nat := s.req 0x0D 1
def State.crWeight (s : State) : Nat := s.req 0x0E 1
def State.crTimers (s : State) : Nat := s.req 0x0F 1
def State.crSq (s : State) : Nat := s.req 0x10 8
def State.crCq (s : State) : Nat := s.req 0x18 8
def State.crCredits (s : State) : Nat := s.req 0x20 2
/-- [Assumption 80: DEDUCED, unsafe.] -/
def State.crCells (s : State) : Nat := s.req 0x22 2
def State.crBind (s : State) : Nat := s.req 0x24 4
def State.crMac (s : State) : Nat := beNat ((s.reqBytes.drop 0x20).take 6)
def State.crVid (s : State) : Nat := s.req 0x2E 2
def State.crGroup (s : State) : Nat := s.req 0x30 1

/-- The ring fields are in range (step 3 of R161, step 4 of R160). -/
def State.ringsOk (s : State) : Bool :=
  decide (4 ≤ s.crSqLog2) && decide (s.crSqLog2 ≤ 12) && decide (4 ≤ s.crCqLog2) && decide (s.crCqLog2 ≤ 12)
    && s.crSq % 0x1000 == 0 && s.crCq % 0x1000 == 0

/-- Step 3 of R161. -/
def State.createFields (s : State) (d ty : Nat) : Bool :=
  let m := s.resvMask s.crShare d ty
  let net := ty == 0
  s.ringsOk && decide (s.crShare ≤ 1) &&
  (if tbit m 0 then s.crCredits == 0 else decide (1 ≤ s.crCredits) && decide (s.crCredits ≤ 8192)) &&
  (if tbit m 1 || !net then s.crCells == 0 else decide (0 < s.crCells)) &&
  (if tbit m 2 || !net then s.crWeight == 0 else decide (0 < s.crWeight)) &&
  (if ty = 5 then decide (0 < s.crTimers) else s.crTimers == 0) &&
  (if net then decide (s.crGroup ≤ 1) else s.crGroup == 0)

/-- Two ranges of CAN buffers share one. -/
def overlap (a n b m : Nat) : Bool := decide (a < b + m) && decide (b < a + n)

/-- The CAN buffers of a binding: channel, first, count. -/
def bindCan (b : Nat) : Nat × Nat × Nat := (b % 8, b / 256 % 128, b / 65536 % 256)

/-- The binding is checked (R145). [Assumption 147: DEDUCED, unsafe.] -/
def State.createBind (s : State) (d ty : Nat) : Nat :=
  let b := s.crBind
  match ty with
  | 1 =>
    let (k, f, n) := bindCan b
    if n = 0 ∨ 128 < n ∨ 128 < f + n then Code.OUT_OF_RANGE
    else if s.ep.eps.any (fun p => p.2.live && p.2.ty == 1 && (bindCan p.2.bind).1 == k
        && overlap f n (bindCan p.2.bind).2.1 (bindCan p.2.bind).2.2) then Code.NO_RESOURCE
    else Code.DONE
  | 2 =>
    let n := b % 64
    if (s.chItem n).isNone ∨ s.chLead n ≠ n then Code.OUT_OF_RANGE
    else if s.chOwner n ≠ d then Code.NOT_OWNER
    else if (s.pwrHolder n).isSome then Code.NO_RESOURCE
    else Code.DONE
  | 3 =>
    if tbit b 8 then (if (s.linHolder (b % 4)).isSome then Code.NO_RESOURCE else Code.DONE)
    else if (s.pinHolder (b % 64)).isSome then Code.NO_RESOURCE
    else Code.DONE
  | 4 =>
    let f := b % 128
    let n := b / 256 % 256
    if n = 0 ∨ 128 < n ∨ 128 < f + n then Code.OUT_OF_RANGE
    else if (List.range n).any (fun j => (s.slot (f + j)).st != 0 && !tbit (s.slot (f + j)).owner d) then Code.NOT_OWNER
    else Code.DONE
  | 6 =>
    if tbit b 8 && s.ep.eps.any (fun p => p.2.live && p.2.ty == 6 && tbit p.2.bind 8 && p.2.bind % 8 == b % 8) then Code.NO_RESOURCE
    else Code.DONE
  | _ => Code.DONE

/-- Step 5 of R161: reserved shares (R158), then the pools. -/
def State.createShares (s : State) (d ty : Nat) : Nat :=
  let m := s.resvMask s.crShare d ty
  let can := if ty = 1 then (bindCan s.crBind).2.2 else 0
  if s.crShare = 1 ∧ m = 0 then Code.PLAN_LOCKED
  else if (List.range 3).any (fun k => match s.resvItem k d ty with
      | some i => tbit m k && decide (i.n 2 ≤ s.resvUsed k d)
      | none => false) then Code.NO_RESOURCE
  else if s.freeCredits < s.crCredits ∨ s.freeCells < s.crCells ∨ s.freeTimers < s.crTimers ∨ s.freeCan < can then Code.NO_RESOURCE
  else Code.DONE

/-- The checks of CREATE_EP in the order of R161, with the number. [Assumption 76: DEDUCED, unsafe.] -/
def State.createCheck (s : State) (d : Nat) : Nat × Nat :=
  let ty := s.req 0x0A 1
  let r := s.createNo d ty (s.req 0x08 2)
  if r.1 ≠ Code.DONE then r
  else if 6 < ty then (Code.OUT_OF_RANGE, r.2)
  else if !s.holdsBlock d (epBlock ty) then (Code.NOT_OWNER, r.2)
  else if !s.createFields d ty then (Code.OUT_OF_RANGE, r.2)
  else if s.createBind d ty ≠ Code.DONE then (s.createBind d ty, r.2)
  else (s.createShares d ty, r.2)

/-- The position of an endpoint among the PINNED items, from 1: its slot (R148). -/
def State.pinnedSlot (s : State) (e : Nat) : Option Nat :=
  ((s.items 0x0A03).findIdx? (fun i => i.n 0 == e)).map (· + 1)

/-- AMOUNT of the reserved share of a KIND. -/
def State.resvAmount (s : State) (kind d ty given : Nat) : Nat :=
  if tbit (s.resvMask s.crShare d ty) kind then itemN (s.resvItem kind d ty) 3 else given

/-- The endpoint is created: registers reset, shares taken (R55, R158, R161). [Assumption 81: DEDUCED, unsafe.] -/
def State.createEp (s : State) (d e : Nat) : State :=
  let ty := s.req 0x0A 1
  let can := if ty = 1 then (bindCan s.crBind).2.2 else 0
  let k := s.pinnedSlot e
  let x : Ep := { Ep.absent with
    live := true, ty := ty, district := d, sqLog2 := s.crSqLog2, cqLog2 := s.crCqLog2, sqBase := s.crSq, cqBase := s.crCq
    bind := s.crBind, mac := s.crMac, vid := s.crVid, group := s.crGroup == 1, timers := s.crTimers
    credits := s.resvAmount 0 d ty s.crCredits, cells := s.resvAmount 1 d ty s.crCells, weight := s.resvAmount 2 d ty s.crWeight
    resv := s.resvMask s.crShare d ty, planPin := k.isSome, slot := k }
  let s := s.setPools (s.freeCredits - s.crCredits) (s.freeTimers - s.crTimers) (s.freeCells - s.crCells) (s.freeCan - can)
  let s := s.setEp e x
  match ty with
  | 2 => s.setChan (x.bind % 64) { s.chan (x.bind % 64) with layOld := false }
  | 3 => if tbit x.bind 8 then s else s.setPin (x.bind % 64) { s.pinAt (x.bind % 64) with layOld := false }
  | _ => s

/-- CREATE_EP runs. -/
def State.runCreate (s : State) (o : EpOp) : State :=
  let r := s.createCheck o.district
  if r.1 ≠ Code.DONE then s.opEnd o r.1 (s.req 0x08 2) []
  else
    (s.createEp o.district r.2).opEnd o Code.DONE r.2
      (leBytes 2 r.2 ++ leBytes 2 0 ++ leBytes 4 (dbAddr r.2 0) ++ leBytes 2 (256 + r.2 / 16) ++ leBytes 1 (r.2 % 16))

/-! ### The checks of R476 -/

/-- Steps 1 to 4: the endpoint is there, owned, and not one that no request changes. -/
def State.nameCheck (s : State) (d e : Nat) (changes : Bool) : Nat :=
  if 4095 < e then Code.OUT_OF_RANGE
  else if !s.epExists e then Code.EP_ABSENT
  else if (s.epAt e).district ≠ d then Code.NOT_OWNER
  else if changes && e == 0 then Code.PLAN_LOCKED
  else Code.DONE

/-! ### Resizing (R163 to R166) -/

def Ep.share (x : Ep) (kind : Nat) : Nat := if kind = 0 then x.credits else if kind = 1 then x.cells else x.weight
def Ep.withShare (x : Ep) (kind n : Nat) : Ep :=
  if kind = 0 then { x with credits := n } else if kind = 1 then { x with cells := n }
  else { x with weight := n, deficit := min x.deficit (n * 128) }

/-- The occupancy of a kind: commands in flight, or cells. -/
def State.occupancy (s : State) (e kind : Nat) : Nat := if kind = 0 then (s.inflight e).length else (s.epAt e).occ

/-- Checks of RESIZE beyond the name (R476). [Assumption 80: DEDUCED, unsafe.] -/
def State.resizeCheck (s : State) (d e kind amount : Nat) : Nat :=
  let x := s.epAt e
  let base := s.nameCheck d e true
  if base ≠ Code.DONE then base
  else if 2 < kind ∨ (kind ≠ 0 ∧ x.ty ≠ 0) ∨ amount = 0 ∨ (if kind = 0 then 8192 else if kind = 1 then 65535 else 255) < amount then
    Code.OUT_OF_RANGE
  else if tbit x.resv kind then Code.PLAN_LOCKED
  else if x.resize.isSome then Code.BUSY
  else if (kind = 0 ∧ s.freeCredits < amount - x.credits) ∨ (kind = 1 ∧ s.freeCells < amount - x.cells) then Code.NO_RESOURCE
  else Code.DONE

/-- Queued frames of an endpoint are discarded, oldest first, until its cells are within the share; how many were (R166). -/
def State.trimCells (s : State) (e share fuel : Nat) : State × Nat :=
  match fuel with
  | 0 => (s, 0)
  | fuel + 1 =>
    if (s.epAt e).occ ≤ share then (s, 0)
    else
      match s.sw.copies.find? (fun c => c.out == 23 && c.ep == e) with
      | none => (s, 0)
      | some c =>
        let r := ((s.dropCopy c).sweepFrames).trimCells e share fuel
        (r.1, r.2 + 1)

/-- The oldest commands are aborted, as many as exceed the share; how many ended CANCELLED (R166). -/
def State.trimCredits (s : State) (l : List Cmd) : State × Nat :=
  match l with
  | [] => (s, 0)
  | c :: rest =>
    let r := s.abortCmd c
    let q := r.1.trimCredits rest
    (q.1, q.2 + (if r.2 = Code.CANCELLED then 1 else 0))

/-- The oldest excess is discarded. -/
def State.trim (s : State) (e kind share : Nat) : State × Nat :=
  let r := if kind = 0 then s.trimCredits ((s.inflight e).take ((s.inflight e).length - share))
    else if kind = 1 then s.trimCells e share (s.sw.copies.length + 1)
    else (s, 0)
  (r.1.setEp e { r.1.epAt e with trimmed := min 0xFFFFFFFF ((r.1.epAt e).trimmed + r.2) }, r.2)

/-- The payload of a RESIZE response. -/
def resizePayload (old new trimmed : Nat) : List Byte := leBytes 4 old ++ leBytes 4 new ++ leBytes 4 trimmed

/-- RESIZE runs (R163). -/
def State.runResize (s : State) (o : EpOp) : State :=
  let e := s.req 0x08 2
  let kind := s.req 0x0A 1
  let new := s.req 0x0C 4
  let code := s.resizeCheck o.district e kind new
  if code ≠ Code.DONE then s.opEnd o code e []
  else
    let x := s.epAt e
    let old := x.share kind
    let s := (s.setEp e (x.withShare kind new)).needPage e
    if kind = 2 then s.opEnd o Code.DONE e (resizePayload old new 0)
    else if old ≤ new then
      let s := if kind = 0 then s.wr Fd.SYS_POOL_FREE0_FREE_CREDITS (s.freeCredits - (new - old))
        else s.wr Fd.SYS_POOL_FREE1_FREE_CELLS (s.freeCells - (new - old))
      s.opEnd o Code.DONE e (resizePayload old new 0)
    else
      let r := if o.trim then s.trim e kind new else (s, 0)
      let s := r.1
      if s.occupancy e kind ≤ new then (s.freeToPool kind (old - new)).opEnd o Code.DONE e (resizePayload old new r.2)
      else
        let x := s.epAt e
        let s := s.setEp e { x with overdrawn := setBit x.overdrawn kind, resize := some ⟨kind, old, new, r.2⟩ }
        let w : MbWait := ⟨o.district, o.seq, 3, e⟩
        let s := { s with ep := { s.ep with op := none, mbWait := if o.mail then s.ep.mbWait ++ [w] else s.ep.mbWait } }
        (s.wr Fd.SYS_EP_CMD_RESULT Code.ACCEPTED).setResult (resizePayload old new r.2)

/-- The waiting RESIZE of an endpoint is answered DONE with the values read at acceptance. -/
def State.answerResize (s : State) (e : Nat) (z : Resize) : State :=
  let w := s.ep.mbWait.find? (fun w => w.ep == e)
  let s := { s with ep := { s.ep with mbWait := s.ep.mbWait.filter (fun w => w.ep != e) } }
  match w with
  | some w => s.respond w.district w.seq w.msg Code.DONE e (resizePayload z.old z.new z.trimmed)
  | none => s

/-- The occupancy has fallen to the new share (R165). -/
def State.resizeComplete (s : State) (e : Nat) : State :=
  let x := s.epAt e
  match x.resize with
  | none => s
  | some z =>
    if s.occupancy e z.kind ≤ z.new then
      let s := s.setEp e { x with overdrawn := clrBit x.overdrawn z.kind, resize := none }
      let s := (s.wr (bitOf (Rg.SYS_OD_DONE (e / 32)) (e % 32)) 1).freeToPool z.kind (z.old - z.new)
      (s.epLevels).answerResize e z
    else s

def execResizeComplete (ep : Fin 4096) (s : State) : Host.Outcome State Fault Refusal := .next (s.resizeComplete ep)

/-! ### Destruction (R162) -/

/-- What waits for a destroyed endpoint goes: its queued frames, its page-in, its waiting RESIZE. -/
def State.destroyQueues (s : State) (e : Nat) : State :=
  let s := forAll (s.sw.copies.filter (fun c => c.out == 23 && c.ep == e)) State.dropCopy s
  let s := s.sweepFrames
  let s := { s with ep := { s.ep with pageQ := s.ep.pageQ.filter (fun (p : Nat × Bool) => p.1 != e) } }
  let x := s.epAt e
  match x.resize with
  | some z =>
    let s := (s.setEp e { x with resize := none, overdrawn := 0 }).freeToPool z.kind (z.old - z.new)
    s.answerResize e z
  | none => s

/-- The commit point: fetching stops, what is published and unfetched is discarded, every command in flight is aborted. -/
def State.destroyCommit (s : State) (e : Nat) : State :=
  let s := s.fetchTo e (s.epAt e).sqTail 4096
  let x := s.epAt e
  let s := s.setEp e { x with dying := true, sqHead := x.sqTail, pub := [], gone := 0, ended := 0 }
  let s := forAll (s.inflight e) (fun s c => (s.abortCmd c).1) s
  s.destroyQueues e

/-- The endpoint is gone: pooled resources return to their pools, its slot is free. [Assumption 129: DEDUCED, unsafe.] -/
def State.destroyEnd (s : State) (e : Nat) : State :=
  let x := s.epAt e
  let can := if x.ty = 1 then (bindCan x.bind).2.2 else 0
  let s := s.setPools (s.freeCredits + (if tbit x.resv 0 then 0 else x.credits)) (s.freeTimers + x.timers)
    (s.freeCells + (if tbit x.resv 1 then 0 else x.cells)) (s.freeCan + can)
  let s := if x.rtPin then s.wr Fd.SYS_EP_CFG_RT_PINNED (s.rd Fd.SYS_EP_CFG_RT_PINNED - 1) else s
  let s := { s with ep := { s.ep with lru := s.ep.lru.filter (· != e) } }
  s.setEp e { Ep.absent with notice := x.notice }

/-- DESTROY_EP runs. [Assumption 81: DEDUCED, unsafe.] -/
def State.runDestroy (s : State) (o : EpOp) : State :=
  let e := s.req 0x08 2
  let code := s.nameCheck o.district e true
  if code ≠ Code.DONE then s.opEnd o code e []
  else
    let s := s.resident e
    if (s.epAt e).outstanding ≠ 0 ∧ (s.epAt e).slot.isNone then s
    else
      let s := s.destroyCommit e
      { s with ep := { s.ep with op := some { o with target := some e } } }

/-- The last record of a destroyed endpoint has been written: the response (R162). -/
def State.destroyResponse (s : State) (e : Nat) : State :=
  let x := s.epAt e
  if x.live && x.dying && (s.inflight e).isEmpty then
    let payload := leBytes 2 x.gone ++ leBytes 2 x.ended
    let s := s.destroyEnd e
    match s.ep.op with
    | some o => if o.target = some e then s.opEnd o Code.DONE e payload else s
    | none => s
  else s

/-! ### QUERY and PIN_RESIDENT (R148, R150, Table 07-7) -/

/-- Run-time pins of a district. -/
def State.rtPins (s : State) (d : Nat) : Nat := (s.ep.eps.filter (fun p => p.2.live && p.2.district == d && p.2.rtPin)).length
/-- Slots that nothing pins. -/
def State.unpinnedSlots (s : State) : Nat := 255 - (s.items 0x0A03).length - s.rd Fd.SYS_EP_CFG_RT_PINNED

/-- The payload of a QUERY. -/
def State.queryPayload (s : State) (d e : Nat) : List Byte :=
  if e = 0xFFFF then
    List.flatten [leBytes 2 s.freeCredits, leBytes 2 s.freeTimers, leBytes 4 s.freeCells, leBytes 2 s.freeCan, leBytes 1 s.unpinnedSlots,
      leBytes 1 (s.rtPins d), leBytes 2 (s.ep.eps.filter (fun p => p.2.live && p.2.district == d)).length]
  else
    let x := s.epAt e
    let b := fun (v : Bool) (k : Nat) => if v then 2 ^ k else 0
    List.flatten [leBytes 1 x.ty, leBytes 1 (b x.slot.isSome 0 + b x.planPin 1 + b x.rtPin 2 + b (x.resv != 0) 3 + b (x.overdrawn != 0) 4
      + b x.resize.isSome 5), leBytes 1 x.weight, leBytes 1 x.timers, leBytes 2 x.credits, leBytes 2 (s.inflight e).length,
      leBytes 2 x.cells, leBytes 2 x.occ, leBytes 4 x.trimmed]

/-- QUERY runs. -/
def State.runQuery (s : State) (o : EpOp) : State :=
  let e := s.req 0x08 2
  let code := if e = 0xFFFF then Code.DONE else s.nameCheck o.district e false
  if code ≠ Code.DONE then s.opEnd o code e []
  else
    let s := if e = 0xFFFF then s else s.needPage e
    s.opEnd o Code.DONE e (s.queryPayload o.district e)

/-- PIN_RESIDENT runs; a pin waits until the endpoint is resident. -/
def State.runPinResident (s : State) (o : EpOp) : State :=
  let e := s.req 0x08 2
  let op := s.req 0x0A 1
  let x := s.epAt e
  let code := s.nameCheck o.district e true
  if code ≠ Code.DONE then s.opEnd o code e []
  else if 1 < op then s.opEnd o Code.OUT_OF_RANGE e []
  else if op = 0 ∧ x.planPin then s.opEnd o Code.PLAN_LOCKED e []
  else if (op = 1 ∧ (x.planPin ∨ x.rtPin)) ∨ (op = 0 ∧ !x.rtPin) then s.opEnd o Code.DONE e []
  else if op = 0 then
    ((s.setEp e { x with rtPin := false }).wr Fd.SYS_EP_CFG_RT_PINNED (s.rd Fd.SYS_EP_CFG_RT_PINNED - 1)).opEnd o Code.DONE e []
  else if s.unpinnedSlots ≤ 32 ∨ s.rd Fd.SYS_EP_CFG_RT_PIN_MAX ≤ s.rtPins o.district then s.opEnd o Code.NO_RESOURCE e []
  else
    let s := s.resident e
    if (s.epAt e).slot.isNone then s
    else
      ((s.setEp e { s.epAt e with rtPin := true }).wr Fd.SYS_EP_CFG_RT_PINNED (s.rd Fd.SYS_EP_CFG_RT_PINNED + 1)).opEnd o Code.DONE e []

/-! ### SYS_EP_CMD (R169) -/

/-- The operation that waits is run, where it is the one with this MSG. -/
def State.runOp (s : State) (msg : Nat) : State :=
  match s.ep.op with
  | none => s
  | some o =>
    if o.target.isSome ∨ o.msg ≠ msg then s
    else
      match msg with
      | 1 => s.runCreate o
      | 2 => s.runDestroy o
      | 3 => s.runResize o
      | 4 => s.runQuery o
      | 5 => s.runPinResident o
      | _ => s

/-- A write to SYS_EP_CMD starts an operation; OP 0 asks for none (R43). -/
def State.epCmdWrite (s : State) (who : Who) (bytes : Nat) (w : Word) : State :=
  let op := getBits w.toNat 2 0
  s.regWrite who bytes Rg.SYS_EP_CMD w false (decide (5 < op))
    (if s.rd Fd.SYS_EP_CMD_RESULT = Code.BUSY then Code.BUSY else Code.DONE)
    (fun s =>
      let o : EpOp := ⟨op, getBits w.toNat 13 8, tbit w.toNat 3, false, 0, none⟩
      if op = 0 then s else { s.wr Fd.SYS_EP_CMD_RESULT Code.BUSY with ep := { s.ep with op := some o } })

def execCreateEp (s : State) : Host.Outcome State Fault Refusal := .next (s.runOp 1)
def execDestroyEp (s : State) : Host.Outcome State Fault Refusal := .next (s.runOp 2)
def execResize (s : State) : Host.Outcome State Fault Refusal := .next (s.runOp 3)
def execQuery (s : State) : Host.Outcome State Fault Refusal := .next (s.runOp 4)
def execPinResident (s : State) : Host.Outcome State Fault Refusal := .next (s.runOp 5)

/-! ### The mailbox (R159, R160) -/

/-- The named payload bytes of a message, from 0x08 (Table 07-6). -/
def msgBytes (msg : Nat) : List (Nat × Nat) :=
  match msg with
  | 1 => [(0x08, 0x29)]
  | 2 => [(0x08, 2)]
  | 3 => [(0x08, 3), (0x0C, 4)]
  | 4 => [(0x08, 2)]
  | _ => [(0x08, 3)]

/-- A reserved byte or flag of a request is non-zero. [Assumption 76: DEDUCED, unsafe.] -/
def reqReserved (r : List Byte) (msg : Nat) : Bool :=
  let flags := (r.getD 3 0).toNat
  decide (1 < flags) || (flags == 1 && msg != 3) || (r.drop 4).take 4 != [0, 0, 0, 0] ||
  (List.range 56).any (fun k => !(msgBytes msg).any (fun p => decide (p.1 ≤ k + 8) && decide (k + 8 < p.1 + p.2)) && r.getD (k + 8) 0 != 0)

/-- The ring memory of a CREATE_EP lies in the district's DRAM regions with R and W (step 4 of R160). -/
def State.ringsOwned (s : State) (d : Nat) : Bool :=
  s.dramRange d 0 s.crSq (64 * 2 ^ s.crSqLog2) 3 && s.dramRange d 0 s.crCq (16 * 2 ^ s.crCqLog2) 3

/-- Steps 1 to 3 of R160; the payload stands in the staging words for step 4. -/
def State.mailCheck (s : State) (d seq msg : Nat) (r : List Byte) : Nat :=
  let stale := match tget (fun _ => none) s.ep.mbRef d with
    | some k => !later seq k
    | none => false
  if stale then Code.STALE_SEQ
  else if msg = 0 ∨ 5 < msg then Code.OUT_OF_RANGE
  else if reqReserved r msg then Code.RESERVED_BIT
  else Code.DONE

/-- A request that has passed steps 1 to 3 and stands in the staging words: step 4, then the engine's checks through SYS_EP_CMD.
[Assumption 77: DEDUCED, unsafe.] -/
def State.mailRun (s : State) (d seq msg no : Nat) (trim : Bool) : State :=
  if msg = 1 ∧ s.ringsOk ∧ !s.ringsOwned d then s.respond d seq msg Code.NOT_OWNER no []
  else
    let s := ((s.wr Fd.SYS_EP_CMD_DISTRICT d).setFlag Fd.SYS_EP_CMD_TRIM trim).wr Fd.SYS_EP_CMD_RESULT Code.BUSY
    let o : EpOp := { msg := msg, district := d, trim := trim, mail := true, seq := seq, target := none }
    { s with ep := { s.ep with op := some o } }.runOp msg

/-- A request of 64 bytes is judged. -/
def State.mailJudge (s : State) (d : Nat) (r : List Byte) : State :=
  let seq := leNat (r.take 2)
  let msg := (r.getD 2 0).toNat
  let no := leNat ((r.drop 8).take 2)
  let code := s.mailCheck d seq msg r
  let s := if code = Code.STALE_SEQ then s
    else { s with ep := { s.ep with mbRef := tset (fun _ => none) s.ep.mbRef d (some seq) } }
  if code ≠ Code.DONE then s.respond d seq msg code no []
  else (s.stage (r.drop 8)).mailRun d seq msg no (r.getD 3 0 == 1)

/-- The address of the next request of a district. -/
def State.mailAddr (s : State) (d : Nat) : Nat := s.mboxPage d + 0x100 + 64 * (s.le (s.mboxPage d + 2) 2 % 32)

/-- A request is taken from the ring: REQ_HEAD advances; a poisoned one is answered as such. -/
def State.mailTake (s : State) (d : Nat) : State :=
  let a := s.mailAddr d
  let bad := s.poisoned a 64
  let r := s.bytes a 64
  let s := (s.readEcc a 64).store (s.mboxPage d + 2) (leBytes 2 (idxNext (s.le (s.mboxPage d + 2) 2)))
  if bad then s.respond d 0 0 Code.POISONED 0 [] else s.mailJudge d r

/-- Town Hall looks at the requests of the district (R160): it has rung, the engine is free, and the word of the indices reads. -/
def State.mailReady (s : State) (d : Nat) : Bool :=
  d != 0 && s.dev == .active && s.ep.vmRun.contains d && s.ep.rung.contains d && !s.poisoned (s.mboxPage d) 8 && s.ep.op.isNone &&
  s.rd Fd.SYS_EP_CMD_RESULT != Code.BUSY

/-- A request stands, and a response entry that is neither written nor reserved (R160). -/
def State.mailStands (s : State) (d : Nat) : Bool :=
  let p := s.mboxPage d
  let taken := (s.ep.mbWait.filter (fun w => w.district == d)).length
  s.le p 2 != s.le (p + 2) 2 && decide (idxSub (s.le (p + 4) 2) (s.le (p + 6) 2) + taken < 32)

/-- Town Hall takes the next request, or, with none or no free entry, stops until the district rings again.
[Assumption 84: DEDUCED, unsafe.] -/
def State.mailLook (s : State) (d : Nat) : State :=
  if !s.mailReady d then s
  else if s.mailStands d then s.mailTake d
  else { s with ep := { s.ep with rung := s.ep.rung.filter (· != d) } }

def execMailboxRequest (district : Fin 64) (s : State) : Host.Outcome State Fault Refusal := .next (s.mailLook district)

/-! ### District restart (R167) -/

/-- The mailbox page is zeroed and VERSION written (R159). [Assumption 84: DEDUCED, unsafe.] -/
def State.mboxInit (s : State) (d : Nat) : State :=
  (s.store (s.mboxPage d) (List.replicate 0x1000 0)).store (s.mboxPage d + 8) (leBytes 4 0x00010000)

/-- A district starts. -/
def State.startDistrict (s : State) (d : Nat) : State :=
  let s := s.mboxInit d
  { s with ep := { s.ep with
    vmRun := insertNat s.ep.vmRun d, mbRef := tset (fun _ => none) s.ep.mbRef d none, vssip := tset (fun _ => 0) s.ep.vssip d 0
    rung := s.ep.rung.filter (· != d), restart := s.ep.restart.filter (· != d) } }

/-- A district starts where its page lies in DRAM; until SYS_MBOX_BASE has been written it waits (R159, R169).
[Assumption 84: DEDUCED, unsafe.] -/
def State.tryDistrict (s : State) (d : Nat) : State :=
  if d = 0 then s
  else if placeOf (s.mboxPage d) = .dram then s.startDistrict d
  else { s with ep := { s.ep with vmRun := s.ep.vmRun.filter (· != d) } }

/-- An accepted write of SYS_MBOX_BASE starts the districts that wait for it; `_HI` alone, with `_LO` still 0, is half a base.
[Assumption 84: DEDUCED, unsafe.] -/
def State.mboxBaseEffect (s : State) (high : Bool) : State :=
  if high && s.rd Fd.SYS_MBOX_BASE_LO_BASE == 0 then s
  else forAll ((s.items 0x0201).filter (fun i => !s.ep.vmRun.contains (i.n 0))) (fun s i => s.tryDistrict (i.n 0)) s

/-- The mailbox's operation of a district that restarts is dropped; a destruction under way goes on without a response.
[Assumption 82: DEDUCED, unsafe.] -/
def EpOp.restart (o : EpOp) (d : Nat) : Option EpOp :=
  if o.mail && o.district == d then (if o.target.isSome then some { o with mail := false } else none) else some o

/-- The district's unanswered requests are discarded (R167 step 1). [Assumption 82: DEDUCED, unsafe.] -/
def State.dropMail (s : State) (d : Nat) : State :=
  let s := { s with ep := { s.ep with
    mbWait := s.ep.mbWait.filter (fun w => w.district != d), op := s.ep.op.bind (fun o => o.restart d) } }
  if s.ep.op.isNone && s.rd Fd.SYS_EP_CMD_RESULT == Code.BUSY then s.wr Fd.SYS_EP_CMD_RESULT Code.CANCELLED else s

/-- The endpoints of a district. -/
def State.epsOf (s : State) (d : Nat) : List Nat := (s.ep.eps.filter (fun p => p.2.live && !p.2.dying && p.2.district == d)).map (·.1)

/-- The destruction of an endpoint in a restart: one whose published descriptors stand outside the cache is paged in first (R162). -/
def State.restartEp (s : State) (e : Nat) : State :=
  let s := if (s.epAt e).outstanding = 0 then s else s.resident e
  if (s.epAt e).outstanding ≠ 0 ∧ (s.epAt e).slot.isNone then s else (s.destroyCommit e).destroyResponse e

/-- A restart under way goes on: endpoints go, and when the last has gone the virtual machine starts (R167 steps 2 to 4). -/
def State.restartGoesOn (s : State) (d : Nat) : State :=
  if !s.ep.restart.contains d then s
  else
    let s := forAll (s.epsOf d) State.restartEp s
    if s.ep.eps.any (fun p => p.2.live && p.2.district == d) then s
    else { s with ep := { s.ep with restart := s.ep.restart.filter (· != d) } }.tryDistrict d

/-- A district restarts (R167). [Assumption 82: DEDUCED, unsafe.] -/
def State.restartDistrict (s : State) (d : Nat) : State :=
  let s := (s.dropMail d).laybyRestart d
  { s with ep := { s.ep with
    restart := insertNat s.ep.restart d, vmRun := s.ep.vmRun.filter (· != d), rung := s.ep.rung.filter (· != d) } }.restartGoesOn d

/-- The last record of a destroyed endpoint: its response, and the restart that waits for it. -/
def State.endpointGone (s : State) (e : Nat) : State := (s.destroyResponse e).restartGoesOn (s.epAt e).district

def execDestroyEpResponse (ep : Fin 4096) (s : State) : Host.Outcome State Fault Refusal := .next (s.endpointGone ep)

/-- The page-in that has waited longest is served, and a restart that waits for it goes on. -/
def execPageIn (s : State) : Host.Outcome State Fault Refusal :=
  .next (match s.ep.pageQ with
    | p :: _ => s.servePage.restartGoesOn (s.epAt p.1).district
    | [] => s)

/-- A Courtyard of the district is in a call (R371). -/
def State.inCall (s : State) (d : Nat) : Bool :=
  (List.range 16).any (fun c => c != 0 && s.rd (Fd.WG_CY_STATUS_STATE c) == 2 && s.cyDistrict c == d)

/-- A district restart, at once or at the end of the call that runs (R371). -/
def State.districtRestart (s : State) (d : Nat) : State :=
  if d = 0 ∨ s.dev ≠ .active ∨ (s.districtItem d).isNone then s
  else if s.inCall d then { s with wg := { s.wg with restartWait := insertNat s.wg.restartWait d } }
  else s.restartDistrict d

def execDistrictRestart (district : Fin 64) (s : State) : Host.Outcome State Fault Refusal := .next (s.districtRestart district)

/-! ### Endpoint 0 (R475) -/

/-- The rings of endpoint 0 as SYS_EP0_RINGS places them; its doorbell registers are reset. -/
def State.ep0Rings (s : State) : State :=
  let base := s.rd Fd.SYS_EP0_RINGS_LO_BASE * 0x2000 + 2 ^ 32 * s.rd Fd.SYS_EP0_RINGS_HI_BASE_HI
  let s := s.clearNotice 0
  s.setEp 0 { s.epAt 0 with
    sqBase := base, cqBase := base + 0x1000, sqHead := 0, sqTail := 0, cqHead := 0, cqTail := 0, abortTag := 0, abortCode := 0
    trimmed := 0, pub := [] }

def State.ep0Write (s : State) (who : Who) (bytes : Nat) (high : Bool) (w : Word) : State :=
  s.regWrite who bytes (if high then Rg.SYS_EP0_RINGS_HI else Rg.SYS_EP0_RINGS_LO) w false false
    (if (s.inflight 0).isEmpty && (s.epAt 0).outstanding == 0 then Code.DONE else Code.WRONG_STATE) State.ep0Rings

def execEp0RingsWrite (who : Who) (high : Bool) (w : Word) (s : State) : Host.Outcome State Fault Refusal :=
  .next (s.ep0Write (s.issuer who) 4 high w)

/-! ### NET endpoints (R153 to R155) -/

/-- TX: the frame is read and waits at the injector of EPE in its class (R154, R108). -/
def State.netTx (s : State) (c : Cmd) : State :=
  let a := c.f 0x10 8
  let n := c.f 0x18 2
  let bs := s.bytes a n
  let bad := s.poisoned a n
  let s := s.readEcc a n
  if bad then s.finish c Code.POISONED
  else
    let s := s.putCmd { c with phase := .waiting }
    let f : InjFrame := ⟨23, c.ep, c.tag, c.f 0x1A 1, bs ++ List.replicate (60 - bs.length) 0, s.vt⟩
    { s with sw := { s.sw with inject := s.sw.inject ++ [f] } }

def execNetTx (ep : Fin 4096) (tag : BitVec 16) (s : State) : Host.Outcome State Fault Refusal :=
  .next (match s.passed ep tag.toNat 0 1 with
    | some c => s.netTx c
    | none => s)

/-- [Assumption 83: DEDUCED, unsafe.] -/
def execRxPost (ep : Fin 4096) (tag : BitVec 16) (s : State) : Host.Outcome State Fault Refusal :=
  .next (match s.passed ep tag.toNat 0 2 with
    | some c => s.putCmd { c with phase := .waiting }
    | none => s)

/-- A frame is written to a posted buffer, whose command completes; its cells are released (R155, R111).
[Assumption 65: DEDUCED, unsafe. Assumption 83: DEDUCED, unsafe.] -/
def State.deliver (s : State) (c : Cmd) (k : SwCopy) (f : SwFrame) : State :=
  let bs := s.outBytes f 23
  let size := c.f 0x18 2
  let s := if f.bad then (s.swEvent 23 12).finish c Code.POISONED
    else
      let s := s.store (c.f 0x10 8) (bs.take size)
      s.complete c (if size < bs.length then Code.RX_TOO_LONG else Code.DONE) bs.length s.vt
  (s.dropCopy k).sweepFrames

/-- The oldest frame admitted for the endpoint, once it has crossed, goes to the oldest posted buffer (R153).
[Assumption 83: DEDUCED, unsafe.] -/
def execEpeDelivery (ep : Fin 4096) (s : State) : Host.Outcome State Fault Refusal :=
  .next (match s.sw.copies.find? (fun k => k.out == 23 && k.ep == ep.val),
      (s.inflight ep).find? (fun c => c.op == 2 && c.phase == .waiting) with
    | some k, some c =>
      match s.frameOf k with
      | some f => if k.done && f.ended && (s.epAt ep).ty == 0 then s.deliver c k f else s
      | none => s
    | _, _ => s)

/-! ### TIMER endpoints (R156) -/

/-- ARM. -/
def State.timerArm (s : State) (c : Cmd) : State :=
  let armed := ((s.inflight c.ep).filter (fun k => k.phase == .waiting)).length
  let expiry := c.f 0x10 8
  if (s.epAt c.ep).timers ≤ armed then s.finish c Code.NO_RESOURCE
  else if expiry < s.vt then s.complete { c with lateSeen := true } Code.DONE 0 expiry
  else s.putCmd { c with phase := .waiting }

def execTimerArm (ep : Fin 4096) (tag : BitVec 16) (s : State) : Host.Outcome State Fault Refusal :=
  .next (match s.passed ep tag.toNat 5 1 with
    | some c => s.timerArm c
    | none => s)

/-- The armed timer reaches EXPIRY. -/
def State.timerExpiry (s : State) (c : Cmd) : State := (s.reachVt (c.f 0x10 8)).complete c Code.DONE 0 (c.f 0x10 8)

def execTimerExpiry (ep : Fin 4096) (tag : BitVec 16) (s : State) : Host.Outcome State Fault Refusal :=
  .next (match s.cmdOf ep tag.toNat with
    | some c => if (s.epAt ep).ty = 5 ∧ c.phase = .waiting ∧ s.dev = .active then s.timerExpiry c else s
    | none => s)

end Sys2Proof.Machine
end

