-- ==== Sys2Proof/Machine/Courtyard.lean ====
section
/-! DEFINITION. Courtyard calls: GATE.CALL, GATE.RET, budgets and forced ends (R363 to R371). -/

namespace Sys2Proof.Machine

/-! ### Harts -/

/-- The hart of a core executes instructions: MAIN runs, and its pair is neither parked nor halted (R320, R341, R342). -/
def State.runs (s : State) (core : Nat) : Bool :=
  s.dev == .active && !(s.hart core).halted && (match s.pairState (core / 2) with
    | 0 => true
    | 1 => true
    | 2 => core % 2 == 0
    | _ => false)

/-- `misa` of C0 to C7 and of Lamplighter (R319). -/
def misaCore : BitVec 64 := 0x80000000001411AD
def misaLamplighter : BitVec 32 := 0x40001104

/-- `mhartid` as core `c` reads it: its own number, and on the checker of a locked pair the leader's (R319, R322). -/
def State.mhartid (s : State) (c : Nat) : BitVec 64 := BitVec.ofNat 64 (s.leader c)

/-- A CSR of a core that the spec gives a value or the model holds, as machine mode reads it: misa, mhartid, satp, vsatp, hgatp, fcsr,
and 0 for each pmpcfg and pmpaddr (R347). [Assumption 99: PRESUMED, unsafe.] -/
def State.csr (s : State) (c a : Nat) : Option (BitVec 64) :=
  let h := s.hart (s.leader c)
  match a with
  | 0x301 => some misaCore
  | 0xF14 => some (s.mhartid c)
  | 0x180 => some (BitVec.ofNat 64 h.satp)
  | 0x280 => some (BitVec.ofNat 64 h.vsatp)
  | 0x680 => some (BitVec.ofNat 64 h.hgatp)
  | 0x003 => some (h.fcsr.setWidth 64)
  | _ => if 0x3A0 ≤ a ∧ a < 0x3F0 then some 0 else none

/-- Integer register `k` of a hart; x0 reads 0 and keeps nothing. -/
def Hart.xr (h : Hart) (k : Nat) : BitVec 64 := if k = 0 then 0 else tget (fun _ => 0) h.x k
def Hart.setX (h : Hart) (k : Nat) (v : BitVec 64) : Hart :=
  if k = 0 then h else { h with x := tset (fun _ => 0) h.x k v }

/-- The registers of a list, taken from a table. -/
def pickRegs (t : Tbl (BitVec 64)) (l : List Nat) : Tbl (BitVec 64) := t.filter (fun p => l.contains p.1)
/-- The registers of a list, put over a table. -/
def putRegs (t saved : Tbl (BitVec 64)) (l : List Nat) : Tbl (BitVec 64) :=
  l.foldl (fun t k => tset (fun _ => 0) t k (tget (fun _ => 0) saved k)) t

/-- The registers that the gate frame saves, and those that a return clears (R365, R367). -/
def frameRegs : List Nat := [1, 2, 3, 4, 8, 9, 18, 19, 20, 21, 22, 23, 24, 25, 26, 27]
def clearedRegs : List Nat := [5, 6, 7, 12, 13, 14, 15, 16, 17, 28, 29, 30, 31]

/-- The registers x1 upwards of a list. -/
def loadRegs (l : List (BitVec 64)) (k : Nat) : Tbl (BitVec 64) :=
  match l with
  | [] => []
  | v :: rest => if k < 32 then tset (fun _ => 0) (loadRegs rest (k + 1)) k v else []

/-- A hart as its software left it at the gate instruction. [Assumption 89: DEDUCED, unsafe.] -/
def Hart.load (h : Hart) (c : HartCtx) : Hart :=
  { h with
    pc := c.pc.toNat, mode := c.mode, satp := c.satp.toNat, vsatp := c.vsatp.toNat, hgatp := c.hgatp.toNat, x := loadRegs c.x 1
    district := c.district.toNat }

/-- The hart takes an exception (R347): its cause. [Assumption 22: DESIGN CHOICE, unsafe.] -/
def State.exception (s : State) (core cause : Nat) : State := s.setHart core { s.hart core with excCause := cause }

/-! ### The end of a call -/

/-- Every line of a core's L1 is written back and invalidated. -/
def State.flushL1 (s : State) (core : Nat) : State :=
  { s with wg := { s.wg with l1 := s.wg.l1.filter (fun l => l.core != core) } }

/-- The return work of Table 16-3: a Courtyard with CACHE 1 leaves no line in the hart's L1 and none of its own in L2. -/
def State.returnCache (s : State) (c core : Nat) : State :=
  if itemN (s.cyItem c) 2 = 1 then
    let s := s.flushL1 core
    { s with wg := { s.wg with l2 := s.wg.l2.filter (fun l => l.cy != c) } }
  else s

/-- A hart returns to the caller (R367): what the frame saved comes back, and every other register but a0 and a1 is cleared. -/
def Hart.back (h : Hart) (g : GateFrame) (a0 a1 : BitVec 64) : Hart :=
  let x := clearedRegs.foldl (fun t k => tset (fun _ => 0) t k 0) (putRegs h.x g.x frameRegs)
  let h := { h with
    pc := g.pc, mode := g.mode, satp := g.satp, vsatp := g.vsatp, hgatp := g.hgatp, x := x, f := [], fcsr := 0, cy := 0, frame := none }
  (h.setX 10 a0).setX 11 a1

/-- The hart leaves its Courtyard with a0 and a1. -/
def State.leaveCall (s : State) (core : Nat) (a0 a1 : BitVec 64) : State :=
  let h := s.hart core
  match h.frame with
  | some g => (s.returnCache h.cy core).setHart core (h.back g a0 a1)
  | none => s

/-- District restarts that waited for a call take effect (R371). -/
def State.lateRestarts (s : State) : State :=
  let go := s.wg.restartWait.filter (fun d => !s.inCall d)
  let s := { s with wg := { s.wg with restartWait := s.wg.restartWait.filter (fun d => !go.contains d) } }
  forAll go State.restartDistrict s

/-- The Courtyard has become FAILED with a code (R369): its reservations end, COURTYARD_END is counted and its source latched. -/
def State.cyFailed (s : State) (c code : Nat) : State :=
  let s := (s.wr (Fd.WG_CY_STATUS_STATE c) 3).wr (Fd.WG_CY_STATUS_CODE c) code
  let s := { s with wg := { s.wg with resv := s.wg.resv.filter (fun p => p.1 != c) } }
  ((s.wgEvent 3).setFlag Fd.IC_EVENT_LATCH_CY_END true).latchLevels

/-- A call ends by force with a code, and the Courtyard fails (R369). [Assumption 88: DEDUCED, unsafe.] -/
def State.forcedEnd (s : State) (core code : Nat) : State :=
  let c := (s.hart core).cy
  ((s.leaveCall core (BitVec.ofNat 64 code) 0).cyFailed c code).lateRestarts

/-- A call ends, and the Courtyard is READY again. -/
def State.readyEnd (s : State) (core : Nat) (a0 a1 : BitVec 64) : State :=
  let c := (s.hart core).cy
  ((s.leaveCall core a0 a1).wr (Fd.WG_CY_STATUS_STATE c) 1).lateRestarts

/-- A pair fault during a call (R371): the Courtyard fails, and nothing returns. -/
def State.faultedCall (s : State) (core : Nat) : State :=
  let h := s.hart core
  if h.cy = 0 then s
  else ((s.setHart core { h with cy := 0, frame := none }).cyFailed h.cy Code.COURTYARD_FAULT).lateRestarts

/-! ### GATE.CALL (R365) -/

/-- The base of a Courtyard's lowest-addressed region with X (R363). -/
def State.cyBase (s : State) (c : Nat) : Nat :=
  (s.items 0x0401).foldl (fun b i =>
    if i.rgnCourtyard = c ∧ tbit i.rgnPerm 2 ∧ (b = 0 ∨ i.rgnBase < b) then i.rgnBase else b) 0

/-- The gate frame of a hart, and the hart inside the Courtyard (R365, R366). [Assumption 89: DEDUCED, unsafe.] -/
def Hart.frameOf (h : Hart) : GateFrame :=
  { pc := h.pc + 4, mode := h.mode, satp := h.satp, vsatp := h.vsatp, hgatp := h.hgatp, x := pickRegs h.x frameRegs }
/-- [Assumption 86: DESIGN CHOICE, unsafe.] -/
def Hart.enter (h : Hart) (c entry now : Nat) : Hart :=
  { h with frame := some h.frameOf, cy := c, mode := .u, satp := 0, vsatp := 0, hgatp := 0, pc := entry, budgetFrom := now }

/-- The instruction fetch at the entry: nothing where it ends in a bus error. [Assumption 87: DEDUCED, unsafe.] -/
def State.entryFetch (s : State) (core c entry : Nat) : State × Option Nat :=
  let h := s.hart core
  let who : Who := ⟨BitVec.ofNat 5 core, BitVec.ofNat 6 h.district, BitVec.ofNat 4 c⟩
  let t := s.memAccess who (.fetch 4) entry []
  let got := match t.resp with
    | .data w => some w
    | _ => none
  ({ (t.setHart core h) with resp := s.resp }, got)

/-- The call enters (R365): the entry cache work, the frame, and the first instruction. -/
def State.enterCall (s : State) (core c k : Nat) : State :=
  let s := if itemN (s.cyItem c) 2 = 1 then s.flushL1 core else s
  let entry := s.cyBase c + 64 * k
  let s := (s.wr (Fd.WG_CY_STATUS_STATE c) 2).wr (Fd.WG_CY_STATUS_HART c) core
  let s := s.setHart core ((s.hart core).enter c entry s.now)
  let r := s.entryFetch core c entry
  match r.2 with
  | none => r.1.forcedEnd core Code.COURTYARD_FAULT
  | some w =>
    if w = 0x100B then r.1.setHart core { r.1.hart core with pc := entry + 4 }
    else (r.1.wr (Fd.WG_CY_STATUS_CODE c) Code.GATE_NO_LAND).readyEnd core (BitVec.ofNat 64 Code.GATE_NO_LAND) 0

/-- The decision of a GATE.CALL outside M mode and outside a Courtyard (cases 2 to 5 of R365); DONE where it enters.
[Assumption 87: DEDUCED, unsafe.] -/
def State.gateCode (s : State) (district g : Nat) : Nat :=
  let c := g / 16
  if g < 0x10 ∨ 0xFF < g ∨ (s.cyItem c).isNone then Code.OUT_OF_RANGE
  else if s.cyDistrict c ≠ district then Code.NOT_OWNER
  else if s.rd (Fd.WG_CY_STATUS_STATE c) = 3 then Code.CELLAR_UNAVAILABLE
  else if s.rd (Fd.WG_CY_STATUS_STATE c) = 2 then Code.BUSY
  else Code.DONE

/-- GATE.CALL outside a Courtyard, with the hart as its software left it. [Assumption 86: DESIGN CHOICE, unsafe.] -/
def State.gateCall (s : State) (core g : Nat) : State :=
  let h := s.hart core
  if h.mode = .m then s.exception core 2
  else
    let code := s.gateCode h.district g
    if code ≠ Code.DONE then s.setHart core { (h.setX 10 (BitVec.ofNat 64 code)) with pc := h.pc + 4 }
    else s.enterCall core (g / 16) (g % 16)

/-! ### GATE.RET, budget and exceptions (R367, R369) -/

/-- The moment at which the budget of the hart's call ends. [Assumption 88: DEDUCED, unsafe.] -/
def State.budgetEnd (s : State) (core : Nat) : Nat :=
  let h := s.hart core
  h.budgetFrom + itemN (s.cyItem h.cy) 4 * us

/-- GATE.RET with a0 and a1 as the Courtyard left them; a budget that has expired before has ended the call.
[Assumption 88: DEDUCED, unsafe.] -/
def State.gateRet (s : State) (core : Nat) (a0 a1 : BitVec 64) : State :=
  let core := s.leader core
  if !s.runs core then s
  else if (s.hart core).cy = 0 then s.exception core 2
  else if s.budgetEnd core < s.now then s.forcedEnd core Code.TIMEOUT
  else s.readyEnd core a0 a1

/-! ### The custom opcode space (R319, R364) -/

/-- The integer register `k` that software left. -/
def ctxReg (ctx : HartCtx) (k : Nat) : BitVec 64 := if k = 0 then 0 else ctx.x.getD (k - 1) 0

/-- The words of GATE.CALL: 0xB, with rs1 in bits 19 to 15 (Table 16-2). -/
def isGateCall (w : Nat) : Bool := decide (w % 32768 = 0xB) && decide (w < 1048576)

/-- The four custom major opcodes of RISC-V. [Assumption 99: PRESUMED, unsafe.] -/
def isCustom (w : Nat) : Bool := [0x0B, 0x2B, 0x5B, 0x7B].contains (w % 128)

/-- GATE.LAND, met anywhere but as the first instruction of a call: no effect (R364). -/
def State.gateLand (s : State) (core : Nat) (ctx : HartCtx) : State :=
  let h := s.hart core
  s.setHart core { (if h.cy = 0 then h.load ctx else h) with pc := ctx.pc.toNat + 4 }

/-- An instruction that is illegal where it stands: an exception, which inside a Courtyard ends the call (R319, R364, R369). -/
def State.illegalInsn (s : State) (core : Nat) (ctx : HartCtx) : State :=
  if (s.hart core).cy ≠ 0 then s.forcedEnd core Code.COURTYARD_FAULT
  else (s.setHart core ((s.hart core).load ctx)).exception core 2

/-- GATE.CALL on a core (R365). [Assumption 87: DEDUCED, unsafe.] -/
def State.gateCallOn (s : State) (core g : Nat) (ctx : HartCtx) : State :=
  if (s.hart core).cy ≠ 0 then s.forcedEnd core Code.COURTYARD_FAULT
  else (s.setHart core ((s.hart core).load ctx)).gateCall core g

/-- The instruction `w` of the custom opcode space on a core; both cores of a locked pair execute it as one hart. A word outside that
space is none of these. [Assumption 99: PRESUMED, unsafe.] -/
def State.customInsn (s : State) (core w : Nat) (ctx : HartCtx) : State :=
  let core := s.leader core
  if !s.runs core then s
  else if isGateCall w then s.gateCallOn core (ctxReg ctx (w / 32768)).toNat ctx
  else if w = 0x100B then s.gateLand core ctx
  else if w = 0x200B then s.gateRet core (ctxReg ctx 10) (ctxReg ctx 11)
  else if isCustom w then s.illegalInsn core ctx
  else s

/-- [Assumption 86: DESIGN CHOICE, unsafe.] -/
def execGateCall (core : Fin 8) (insn : Word) (ctx : HartCtx) (s : State) : Host.Outcome State Fault Refusal :=
  .next (s.customInsn core insn.toNat ctx)

def execGateRet (core : Fin 8) (a0 a1 : BitVec 64) (s : State) : Host.Outcome State Fault Refusal := .next (s.gateRet core a0 a1)

def execCourtyardBudgetExpiry (core : Fin 8) (s : State) : Host.Outcome State Fault Refusal :=
  let c := s.leader core
  .next (if (s.hart c).cy ≠ 0 ∧ s.runs c then (s.reach (s.budgetEnd c)).forcedEnd c Code.TIMEOUT else s)

/-- The CSRs a Courtyard may access: fflags, frm, fcsr, cycle, time and instret (R366). [Assumption 99: PRESUMED, unsafe.] -/
def cyCsr (a : Nat) : Bool := [0x001, 0x002, 0x003, 0xC00, 0xC01, 0xC02].contains a

/-- An exception of a hart inside a Courtyard ends its call; whatever raised it (R369). [Assumption 89: DEDUCED, unsafe.] -/
def State.cyException (s : State) (core : Nat) (why : CyEvent) : State :=
  let c := s.leader core
  if (s.hart c).cy = 0 ∨ !s.runs c then s
  else match why with
  | .denial => s.forcedEnd c Code.COURTYARD_FAULT
  | .illegal => s.forcedEnd c Code.COURTYARD_FAULT
  | .ecall => s.forcedEnd c Code.COURTYARD_FAULT
  | .nestedCall => s.forcedEnd c Code.COURTYARD_FAULT
  | .csr a => if cyCsr a.toNat then s else s.forcedEnd c Code.COURTYARD_FAULT
  | .other => s.forcedEnd c Code.COURTYARD_FAULT

def execCourtyardException (core : Fin 8) (why : CyEvent) (s : State) : Host.Outcome State Fault Refusal :=
  .next (s.cyException core why)

end Sys2Proof.Machine
end

