-- ==== Sys2Proof/Machine/Pairs.lean ====
section
/-! DEFINITION. Core pairs and Bollards: signatures, faults, splitting, locking, restarts, the built-in test and FAULT_OUT (R320 to R345). -/

namespace Sys2Proof.Machine

/-! ### Pairs, counters and sources -/

/-- A pair whose first window opens now, with an empty gate. -/
def State.freshPair (s : State) : PairSt := { PairSt.reset with openAt := s.now }

/-- A pair enters a state, and Crossing makes its choices again (R324, R383). -/
def State.setPairState (s : State) (p st : Nat) : State := ((s.wr (Fd.CP_PAIR_STATUS_STATE p) st).cpLevels).rechooseAll

/-- The address in CP_ENTRY (R339). [Assumption 94: DEDUCED, unsafe.] -/
def State.cpEntry (s : State) (p : Nat) : Nat := 4 * s.rd (Fd.CP_ENTRY_LO_ADDR p) + 2 ^ 32 * s.rd (Fd.CP_ENTRY_HI_ADDR_HI p)

/-- A core starts in machine mode with the state of the RISC-V reset. -/
def State.startCore (s : State) (core pc : Nat) : State := (s.flushL1 core).setHart core { Hart.reset with pc := pc }

/-! ### Signatures (R325, R326) -/

/-- The record of a retired instruction: R[127:64] and R[63:0]. -/
def recHigh (r : SigRec) : BitVec 64 := r.pc ^^^ r.sa
def recLow (r : SigRec) : BitVec 64 := r.wb ^^^ r.sd

/-- One step of the MISR. -/
def misrStep (sig d : BitVec 64) : BitVec 64 := (sig <<< 1) ^^^ (if sig.getLsbD 63 then 0x1B#64 else 0#64) ^^^ d

/-- The signature of a window. -/
def misr (rs : List SigRec) : BitVec 64 :=
  rs.foldl (fun sig r => misrStep (misrStep sig (recHigh r)) (recLow r)) 0xFFFFFFFFFFFFFFFF#64

/-! ### FAULT_OUT (R337) -/

/-- FAULT_OUT is asserted, with the reasons recorded. -/
def State.faultOut (s : State) (pair checker : Bool) : State :=
  let s := s.setFlag Fd.CP_FAULT_OUT_PIN true
  let s := if pair then s.setFlag Fd.CP_FAULT_OUT_PAIR true else s
  let s := if checker then s.setFlag Fd.CP_FAULT_OUT_CHECKER true else s
  s.cpLevels

/-- What ASSERT or RELEASE does; the two bits are write-only. -/
def State.faultOutEffect (s : State) (w : Nat) : State :=
  let s := if tbit w 31 then (s.setFlag Fd.CP_FAULT_OUT_PIN true).setFlag Fd.CP_FAULT_OUT_SW true
    else if tbit w 30 then s.setReg Rg.CP_FAULT_OUT 0 else s
  s.cpLevels

/-- Some pair is in FAULT. -/
def State.anyFault (s : State) : Bool := (List.range 4).any (fun p => s.pairState p == 4)

def State.faultOutWrite (s : State) (who : Who) (bytes : Nat) (w : Word) : State :=
  let a := tbit w.toNat 31
  let r := tbit w.toNat 30
  s.regWrite who bytes Rg.CP_FAULT_OUT w false (a && r) (if r && s.anyFault then Code.WRONG_STATE else Code.DONE)
    (fun s => s.faultOutEffect w.toNat)

def execFaultOutAssert (who : Who) (s : State) : Host.Outcome State Fault Refusal := .next (s.faultOutWrite (s.issuer who) 4 0x80000000)
def execFaultOutRelease (who : Who) (s : State) : Host.Outcome State Fault Refusal := .next (s.faultOutWrite (s.issuer who) 4 0x40000000)

/-! ### Faults (R334 to R336) -/

/-- A dirty line of the faulted leader: discarded, or it had left L1 before (R336 says that neither may be relied on).
[Assumption 91: DESIGN CHOICE, safe.] -/
def State.dropLine (s : State) (l : L1Line) : State :=
  if l.old.isEmpty then s
  else
    let kept := s.freeNat % 2 == 1
    let s := s.draw
    if kept then s else { s with mem := memPut s.mem (64 * l.line) l.old }

/-- The L1 lines of both cores of a faulted pair go. [Assumption 91: DESIGN CHOICE, safe.] -/
def State.dropCaches (s : State) (p : Nat) : State :=
  let s := forAll (s.wg.l1.filter (fun l => l.core == 2 * p)) State.dropLine s
  (s.flushL1 (2 * p)).flushL1 (2 * p + 1)

/-- The gate is discarded (R329). -/
def State.discardGate (s : State) (p : Nat) : State :=
  let n := (s.pair p).gate.length
  (forAll (List.range n) (fun s _ => s.cpEvent p 7) s).setGate p []

/-- The cores of a pair halt; a Courtyard in a call fails (R371). -/
def State.haltPair (s : State) (p : Nat) : State :=
  let s := (s.faultedCall (2 * p)).faultedCall (2 * p + 1)
  let s := s.setHart (2 * p) { s.hart (2 * p) with halted := true }
  s.setHart (2 * p + 1) { s.hart (2 * p + 1) with halted := true }

/-- The fault of a pair that is locked or in a hand-over (R334, R335, R344): 1 SIG_MISMATCH, 2 DELAY_PARITY, 3 CHECKER_FAULT.
[Assumption 90: DEDUCED, unsafe.] -/
def State.pairFault (s : State) (p fault : Nat) : State :=
  let st := s.pairState p
  if st = 0 ∨ 4 ≤ st then s
  else
    let s := if s.rd (Fd.CP_PAIR_CTRL_RESULT p) = Code.BUSY then s.wr (Fd.CP_PAIR_CTRL_RESULT p) (0x13FF + fault) else s
    let s := ((s.discardGate p).haltPair p).dropCaches p
    let s := (s.wr (Fd.CP_PAIR_STATUS_FAULT p) fault).setPairState p 4
    (s.laybyPair p).faultOut true (fault == 3)

/-- CHECKER_FAULT: a fault of every locked pair at once (R334). [Assumption 90: DEDUCED, unsafe.] -/
def State.checkerFault (s : State) : State :=
  let s := (s.setFlag Fd.CP_BOLLARD_CHECKER_FAULT true).faultOut false true
  forAll (List.range 4) (fun s p => if s.pairState p = 1 ∨ s.pairState p = 2 then s.pairFault p 3 else s) s

/-- A parity error in the delay registers, which carry the inputs of a locked pair's checker (R323). -/
def State.delayParity (s : State) (p : Nat) : State :=
  if s.dev = .active ∧ (s.pairState p = 1 ∨ s.pairState p = 2) then (s.cpEvent p 1).pairFault p 2 else s

def execDelayParity (p : Fin 4) (s : State) : Host.Outcome State Fault Refusal := .next (s.delayParity p)

/-! ### Bollard self-test (R333) -/

/-- One test of both Bollards, with what each got wrong. [Assumption 90: DEDUCED, unsafe.] -/
def State.selfTest (s : State) (aWrong bWrong : Bool) : State :=
  let s := s.wr Fd.CP_BOLLARD_LAST_BIT s.cp.bit
  let s := { s with cp := { s.cp with testAt := s.now, bit := (s.cp.bit + 1) % 64 } }
  let s := if aWrong then s.setFlag Fd.CP_BOLLARD_A_ERR true else s
  let s := if bWrong then s.setFlag Fd.CP_BOLLARD_B_ERR true else s
  if aWrong || bWrong then s.checkerFault else s

def execBollardSelfTest (aWrong bWrong : Bool) (s : State) : Host.Outcome State Fault Refusal :=
  .next (if s.dev = .active then (s.reach (s.cp.testAt + 10 * ms)).selfTest aWrong bWrong else s)

/-! ### CP_PAIR_CTRL (R338 to R343) -/

/-- The pair can no longer run locked: degraded, or a CHECKER_FAULT stands (R334, R338). -/
def State.cannotLock (s : State) (p : Nat) : Bool := s.flag (Fd.CP_PAIR_STATUS_DEGRADED p) || s.flag Fd.CP_BOLLARD_CHECKER_FAULT

/-- The pair's INIT state is locked, it cannot lock, and it may not run split (R339). -/
def State.cannotRestart (s : State) (p : Nat) : Bool :=
  s.flag (Fd.CP_PAIR_STATUS_INIT p) && s.cannotLock p && !tbit (s.rd (Fd.CP_PAIR_STATUS_PERMIT p)) 0

/-- The checks of R340, and the refusal of R339. [Assumption 25: DEDUCED, unsafe.] -/
def State.opCode (s : State) (p op : Nat) : Nat :=
  let st := s.pairState p
  let permit := s.rd (Fd.CP_PAIR_STATUS_PERMIT p)
  if (op = 1 ∧ st ≠ 1) ∨ (op = 2 ∧ st ≠ 0) ∨ (3 ≤ op ∧ st ≠ 4) then Code.WRONG_STATE
  else if (op = 1 ∧ !tbit permit 0) ∨ (op = 2 ∧ !tbit permit 1) then Code.PLAN_LOCKED
  else if op = 2 ∧ s.cannotLock p then Code.PAIR_DEGRADED
  else if op = 3 ∧ s.cannotRestart p then Code.PAIR_DEGRADED
  else Code.DONE

/-- A hart of the pair is in a Courtyard call (R371). -/
def State.pairInCall (s : State) (p : Nat) : Bool :=
  decide ((s.hart (2 * p)).cy ≠ 0) || (!s.locked p && decide ((s.hart (2 * p + 1)).cy ≠ 0))

/-- An accepted operation starts: SPLIT closes the window (R327); LOCK parks both cores and completes the checker's claims (R343);
RESTART resets both cores, whose claims Crossing completes (R388); BIST runs. [Assumption 95: DEDUCED, unsafe.] -/
def State.startPairOp (s : State) (p op : Nat) : State :=
  let s := s.wr (Fd.CP_PAIR_CTRL_RESULT p) Code.BUSY
  match op with
  | 1 => (s.setPair p { s.pair p with closed := (s.pair p).closed + 1, openAt := s.now }).setPairState p 2
  | 2 => (s.completeCore (2 * p + 1)).setPairState p 3
  | 3 => (((s.completeCore (2 * p)).completeCore (2 * p + 1)).setPair p s.freshPair).setPairState p 5
  | 4 => s.wr (Fd.CP_PAIR_STATUS_BIST p) 1
  | _ => s

/-- A write of OP (R340); a refusal of R340 stands in RESULT. [Assumption 25: DEDUCED, unsafe.] -/
def State.pairOp (s : State) (p op : Nat) : State :=
  if op = 0 then s
  else
    let code := s.opCode p op
    if code = Code.DONE then s.startPairOp p op else s.wr (Fd.CP_PAIR_CTRL_RESULT p) code

/-- [Assumption 25: DEDUCED, unsafe. Assumption 95: DEDUCED, unsafe.] -/
def State.pairCtrlWrite (s : State) (who : Who) (bytes p : Nat) (w : Word) : State :=
  let op := w.toNat % 8
  let busy := s.rd (Fd.CP_PAIR_CTRL_RESULT p) == Code.BUSY || ((op == 1 || op == 2) && s.opCode p op == Code.DONE && s.pairInCall p)
  s.regWrite who bytes (Rg.CP_PAIR_CTRL p) w false (decide (4 < op)) (if busy then Code.BUSY else Code.DONE) (fun s => s.pairOp p op)

def execSplit (who : Who) (p : Fin 4) (s : State) : Host.Outcome State Fault Refusal := .next (s.pairCtrlWrite (s.issuer who) 4 p 1)
def execLock (who : Who) (p : Fin 4) (s : State) : Host.Outcome State Fault Refusal := .next (s.pairCtrlWrite (s.issuer who) 4 p 2)
def execPairRestart (who : Who) (p : Fin 4) (s : State) : Host.Outcome State Fault Refusal := .next (s.pairCtrlWrite (s.issuer who) 4 p 3)
def execBist (who : Who) (p : Fin 4) (s : State) : Host.Outcome State Fault Refusal := .next (s.pairCtrlWrite (s.issuer who) 4 p 4)

/-- The hand-over ends: RESULT DONE and its counter. -/
def State.pairDone (s : State) (p c : Nat) : State := (s.wr (Fd.CP_PAIR_CTRL_RESULT p) Code.DONE).cpEvent p c

/-- The checker is cleared and starts at CP_ENTRY, once the closing window has compared (R341). -/
def State.splitDone (s : State) (p : Nat) : State :=
  if s.dev = .active ∧ s.pairState p = 2 ∧ (s.pair p).compared = (s.pair p).closed then
    let s := (s.startCore (2 * p + 1) (s.cpEntry p)).setPair p s.freshPair
    (s.setPairState p 0).pairDone p 3
  else s

def execSplitDone (p : Fin 4) (s : State) : Host.Outcome State Fault Refusal := .next (s.splitDone p)

/-- The leader's state is copied, and the first window opens (R342). -/
def State.lockDone (s : State) (p : Nat) : State :=
  if s.dev = .active ∧ s.pairState p = 3 then
    let s := ((s.setHart (2 * p + 1) (s.hart (2 * p))).flushL1 (2 * p + 1)).setPair p s.freshPair
    let s := { s with wg := { s.wg with l1 := s.wg.l1.map (fun (l : L1Line) => if l.core = 2 * p then { l with old := [] } else l) } }
    (s.setPairState p 1).pairDone p 4
  else s

def execLockDone (p : Fin 4) (s : State) : Host.Outcome State Fault Refusal := .next (s.lockDone p)

/-- The state in which a pair starts (R321, R339): INIT, or SPLIT where it cannot lock. [Assumption 94: DEDUCED, unsafe.] -/
def State.initState (s : State) (p : Nat) : Nat := if s.flag (Fd.CP_PAIR_STATUS_INIT p) && !s.cannotLock p then 1 else 0

/-- Both cores start at CP_ENTRY (R339). [Assumption 94: DEDUCED, unsafe.] -/
def State.restartDone (s : State) (p : Nat) : State :=
  if s.dev = .active ∧ s.pairState p = 5 then
    let pc := s.cpEntry p
    let s := (s.startCore (2 * p) pc).startCore (2 * p + 1) pc
    (s.setPairState p (s.initState p)).pairDone p 5
  else s

def execPairRestartDone (p : Fin 4) (s : State) : Host.Outcome State Fault Refusal := .next (s.restartDone p)

/-- The built-in test ends (R338). -/
def State.bistDone (s : State) (p : Nat) (delay : Bool) : State :=
  if s.dev = .active ∧ s.pairState p = 4 ∧ s.rd (Fd.CP_PAIR_STATUS_BIST p) = 1 then
    let s := s.wr (Fd.CP_PAIR_STATUS_BIST p) (if delay then 3 else 2)
    let s := if delay then s.setFlag (Fd.CP_PAIR_STATUS_DEGRADED p) true else s
    s.wr (Fd.CP_PAIR_CTRL_RESULT p) Code.DONE
  else s

def execBistDone (p : Fin 4) (delay : Bool) (s : State) : Host.Outcome State Fault Refusal := .next (s.bistDone p delay)

/-! ### CP_ENTRY (R346) -/

/-- A write to one half of CP_ENTRY: an address in a hole is out of range; a hand-over that will use it is the wrong state. -/
def State.cpEntryWrite (s : State) (who : Who) (bytes p : Nat) (high : Bool) (w : Word) : State :=
  let a := if high then 4 * s.rd (Fd.CP_ENTRY_LO_ADDR p) + 2 ^ 32 * (w.toNat % 4) else w.toNat / 4 * 4 + 2 ^ 32 * s.rd (Fd.CP_ENTRY_HI_ADDR_HI p)
  let st := s.pairState p
  s.regWrite who bytes (if high then Rg.CP_ENTRY_HI p else Rg.CP_ENTRY_LO p) w false (placeOf a == .hole && a != s.cpEntry p)
    (if st = 2 ∨ st = 3 ∨ st = 5 then Code.WRONG_STATE else Code.DONE) id

end Sys2Proof.Machine
end

