-- ==== Sys2Proof/Machine/Levels.lean ====
section
/-! DEFINITION. The levels of the sources of Table 17-1, brought up to date block by block. -/

namespace Sys2Proof.Machine

/-- Sources 65 and 66 (R433). -/
def State.upLevels (s : State) : State := (s.level 65 (s.flag Fd.UP_BOOT_NEW)).level 66 (s.flag Fd.UP_CMD_DONE)

/-- Sources 106 to 124 (R440); a unit without a TWIN item drives none of them (R434). -/
def State.uxLevels (s : State) : State :=
  let on := s.flag Fd.UX_STATUS_CONFIG
  let s := s.level 106 (on && (s.flag Fd.UX_TWIN_FAULT_OUT || s.rd Fd.UX_TWIN_STATE == 0))
  let s := (s.level 107 (on && s.flag Fd.UX_STATUS_CHG)).level 108 (on && s.flag Fd.UX_ERR_VALID)
  let lines := s.rd Fd.UX_TWIN_LINES &&& s.rd Fd.UX_LINE_EN
  forAll (List.range 16) (fun s j => s.level (109 + j) (on && tbit lines j)) s

/-- The reject source of block `n` (R47). -/
def State.rejectRelevel (s : State) (n : Nat) : State := s.level (1 + n) (s.rejectLevel n)

/-- The notice source of group `g` (R378). -/
def State.noticeRelevel (s : State) (g : Nat) : State := s.level (256 + g) (s.noticeLevel g)

/-- The sources that the blocks SYS_ to IC_ (0x00 to 0x03) drive. -/
def State.relevelLow (s : State) (n : Nat) : State :=
  match n with
  | 0 => s.epLevels
  | 2 => s.wakeLevel
  | 3 => (forAll (List.range 256) State.noticeRelevel s).spurLevel.latchLevels
  | _ => s

/-- The sources that the blocks CP_ to SQ_ (0x04 to 0x09) drive. -/
def State.relevelMid (s : State) (n : Nat) : State :=
  match n with
  | 4 => s.cpLevels
  | 5 => s.wgLevels
  | 6 => s.ksLevels
  | 7 => s.upLevels
  | 8 => forAll (List.range 24) State.swLevel (forAll [0, 1, 22] State.pnLevel s)
  | 9 => (forAll (List.range 24) State.swLevel s).streamLevel
  | _ => s

/-- The sources that the blocks SF_ to UX_ (0x0A to 0x0F) drive. -/
def State.relevelHigh (s : State) (n : Nat) : State :=
  match n with
  | 0xA => forAll [0, 1] State.dspLevel (forAll [0, 1, 2, 3] State.camLevel s.sfLevel)
  | 0xB => s.kbLevels
  | 0xC => (forAll (List.range 8) State.canLevels s).gwyLevel
  | 0xD => s.nmLevels
  | 0xE => s.pinLevel.linLevel
  | 0xF => s.uxLevels
  | _ => s

/-- The levels of every source that block `n` drives (Table 17-1). -/
def State.relevel (s : State) (n : Nat) : State :=
  let s := s.rejectRelevel n
  if n < 4 then s.relevelLow n else if n < 0xA then s.relevelMid n else s.relevelHigh n

/-- The levels of every source. -/
def State.relevelAll (s : State) : State := forAll (List.range 16) State.relevel s

/-- The level of one source brought up to date: only that source changes. -/
def State.relevelOne (s : State) (n : Nat) : State :=
  let t := s.relevelAll
  s.level n (t.src n).level

/-- A source's level falls, when its cause is served; nothing happens while it is asserted (R377, R382, R383). -/
def execSourceLevelFall (n : Fin 512) (s : State) : Host.Outcome State Fault Refusal :=
  .next (if s.dev = .active ∧ (s.src n.val).level then s.relevelOne n.val else s)

end Sys2Proof.Machine
end

