-- ==== Sys2Proof/Machine/PlanForm.lean ====
section
/-! DEFINITION. The bit-stream of a plan: header, sections and items (R25 to R29), and the framing checks of R33. -/

namespace Sys2Proof.Machine

/-- A rejection of a plan (R34): its code, the legality rule or 0, the section and the item. -/
structure PlanFail where
  code : Nat
  rule : Nat
  sec : Nat
  item : Nat
  deriving DecidableEq, Repr

/-- A failure without a place in the bit-stream. -/
def failAt (code : Nat) : PlanFail := ⟨code, 0, 0xFF, 0xFFFF⟩

/-- A plan taken apart: its items, and its section TYPEs in order. -/
structure Framed where
  items : List Item
  secs : List Nat
  deriving DecidableEq, Repr

/-- The parts of an item's value: an unsigned or signed field of some bytes, a MAC address in wire order, reserved bytes (R28). -/
inductive Part0 where
  | num (n : Nat)
  | mac
  | pad (n : Nat)
  deriving DecidableEq, Repr

def Part0.size (p : Part0) : Nat :=
  match p with
  | .num n => n
  | .mac => 6
  | .pad n => n

/-- Table 02-3. -/
def itemForm (ty : Nat) : Option (List Part0) :=
  let b : Part0 := .num 1
  let h : Part0 := .num 2
  let w : Part0 := .num 4
  let q : Part0 := .num 8
  match ty with
  | 0x0101 => some [h, h, h, h]
  | 0x0201 => some [b, b, b, b, w]
  | 0x0301 => some [b, b, b, b]
  | 0x0302 => some [q, w, b, .pad 3]
  | 0x0401 => some [b, b, b, b, b, .pad 3, q, q]
  | 0x0402 => some [b, b, b, b, w]
  | 0x0403 => some [b, b, h]
  | 0x0501 => some [b, b, h]
  | 0x0502 => some [b, b, h]
  | 0x0503 => some [b, b, b, b, h, .pad 2]
  | 0x0601 => some [b, b, b, b, b, b, b, b, b, b, h, b, .pad 3]
  | 0x0602 => some [b, b, b, .pad 1, h, h]
  | 0x0701 => some [b, b, b, b]
  | 0x0702 => some [b, b, b, .pad 1]
  | 0x0801 => some [b, b, b, .pad 1, w]
  | 0x0802 => some [b, b, b, .pad 1, w, w]
  | 0x0803 => some [b, b, b, .pad 1, w]
  | 0x0804 => some [b, .pad 3, w, q]
  | 0x0805 => some [b, b, .pad 2, w]
  | 0x0901 => some [h, b, b, w, .mac, h, w, h, .pad 2]
  | 0x0902 => some [.mac, h, w]
  | 0x0903 => some [h, .pad 2, w, w]
  | 0x0A01 => some [h, h, w]
  | 0x0A02 => some [b, b, h, w]
  | 0x0A03 => some [h, b, b]
  | 0x0B01 => some [b, b, h, h, .pad 2]
  | 0x0B02 => some [b, b, h, h, h]
  | 0x0B03 => some [b, b, b, b, h, h, h, h, h, .pad 2]
  | 0x0B04 => some [b, b, b, .pad 1, w]
  | 0x0B05 => some [b, b, .pad 2, w]
  | 0x0B06 => some [b, b, h, h, h]
  | 0x0C01 => some [b, b, h, h, b, b, b, b, b, b]
  | 0x0C02 => some [b, b, b, b, b, b, .pad 2, w, w]
  | 0x0C03 => some [b, b, .pad 2, w, w, h, .pad 2]
  | 0x0D01 => some [b, b, b, b]
  | 0x0E01 => some [h, b, .pad 1, h, .pad 2]
  | 0x0E02 => some [h, b, .pad 1]
  | 0x0F01 => some [b, b, .pad 2]
  | 0x0F02 => some [b, b, b, .pad 1]
  | 0x1001 => some [b, .pad 1, h, w, w, w, q]
  | _ => none

/-- The LEN of an item of this form. -/
def formLen (l : List Part0) : Nat := (l.map Part0.size).foldl (· + ·) 0

/-- The value fields of an item, unless a reserved byte is non-zero. -/
def takeFields (l : List Part0) (bs : List Byte) : Option (List Nat) :=
  match l with
  | [] => some []
  | p :: rest =>
    let x := bs.take p.size
    match takeFields rest (bs.drop p.size) with
    | none => none
    | some v =>
      match p with
      | .num _ => some (leNat x :: v)
      | .mac => some (beNat x :: v)
      | .pad _ => if x.all (· == 0) then some v else none

/-- `n` items of section `sec`, whose TYPE is `ty`, from the bytes of its body; the items found so far stand last first (R28).
[Assumption 28: DEDUCED, unsafe.] -/
def frameItems (sec ty n pos : Nat) (bs : List Byte) (acc : List Item) : Except PlanFail (List Item) :=
  match n with
  | 0 => if bs.isEmpty then .ok acc else .error ⟨Code.BAD_LENGTH, 0, sec, 0xFFFF⟩
  | n + 1 =>
    let t := leNat (bs.take 2)
    let len := leNat ((bs.drop 2).take 2)
    let room := (len + 3) / 4 * 4
    if bs.length < 4 then .error ⟨Code.BAD_LENGTH, 0, sec, 0xFFFF⟩
    else match itemForm t with
    | none => .error ⟨Code.BAD_ITEM, 0, sec, pos⟩
    | some form =>
      if t / 256 ≠ ty ∨ len ≠ formLen form then .error ⟨Code.BAD_ITEM, 0, sec, pos⟩
      else if bs.length < 4 + room then .error ⟨Code.BAD_LENGTH, 0, sec, 0xFFFF⟩
      else
        match takeFields form (bs.drop 4), ((bs.drop (4 + len)).take (room - len)).all (· == 0) with
        | some v, true => frameItems sec ty n (pos + 1) (bs.drop (4 + room)) (⟨sec, pos, t, v⟩ :: acc)
        | _, _ => .error ⟨Code.BAD_ITEM, 0, sec, pos⟩

/-- A section whose header fails with `code`: an item of it that fails is reported first (R34). [Assumption 28: DEDUCED, unsafe.] -/
def secFails (code sec ty n : Nat) (body : List Byte) (acc : List Item) : PlanFail :=
  match frameItems sec ty n 0 body acc with
  | .error e => if e.item = 0xFFFF then ⟨code, 0, sec, 0xFFFF⟩ else e
  | .ok _ => ⟨code, 0, sec, 0xFFFF⟩

/-- The sections from the bytes that follow the header, in ascending TYPE order (R27); at most `fuel` of them, one more than there are
TYPEs. [Assumption 28: DEDUCED, unsafe.] -/
def frameSecs (fuel sec last : Nat) (bs : List Byte) (acc : Framed) : Except PlanFail Framed :=
  match fuel with
  | 0 => .ok acc
  | fuel + 1 =>
    if bs.isEmpty then .ok { acc with items := acc.items.reverse, secs := acc.secs.reverse }
    else
      let ty := leNat (bs.take 1)
      let n := leNat ((bs.drop 2).take 2)
      let len := leNat ((bs.drop 4).take 4)
      let body := (bs.take len).drop 8
      if bs.length < 8 then .error ⟨Code.BAD_LENGTH, 0, sec, 0xFFFF⟩
      else if ty = 0 ∨ 0x10 < ty then .error ⟨Code.BAD_SECTION_ORDER, 0, sec, 0xFFFF⟩
      else if ty ≤ last then .error (secFails Code.BAD_SECTION_ORDER sec ty n body acc.items)
      else if bs.getD 1 0 ≠ 0 then .error (secFails Code.BAD_ITEM sec ty n body acc.items)
      else if len < 8 ∨ bs.length < len then .error (secFails Code.BAD_LENGTH sec ty n body acc.items)
      else match frameItems sec ty n 0 body acc.items with
      | .error e => .error e
      | .ok items => frameSecs fuel (sec + 1) ty (bs.drop len) ⟨items, ty :: acc.secs⟩

/-! ### The header (R25) -/

def planField (p : List Byte) (off n : Nat) : Nat := leNat ((p.drop off).take n)
def planLength (p : List Byte) : Nat := planField p 0x14 4
def planEpoch (p : List Byte) : Nat := planField p 0x10 2
def planKeySlot (p : List Byte) : Nat := planField p 0x13 1

/-- Step 1 of R33 for a plan of these stored bytes on this hardware revision; DONE where it passes. -/
def planHeaderCode (p : List Byte) (hwrev : Nat) : Nat :=
  let len := planLength p
  let sections := planField p 0x12 1
  if planField p 0 4 ≠ 0x4E4C5054 ∨ planField p 4 2 ≠ 1 then Code.BAD_MAGIC
  else if planField p 6 2 ≠ 0x4096 then Code.WRONG_PART
  else if hwrev < planField p 8 2 ∨ planField p 0xA 2 < hwrev then Code.WRONG_REVISION
  else if planField p 0x18 4 ≠ 1 then Code.MATRIX_REVISION
  else if len < 64 ∨ 262144 < len ∨ p.length ≠ len + 64 then Code.BAD_LENGTH
  else if 512 < planEpoch p ∨ sections = 0 ∨ 16 < sections ∨ 127 < planKeySlot p then Code.OUT_OF_RANGE
  else if !((p.drop 0x2C).take 20).all (· == 0) then Code.RESERVED_BIT
  else Code.DONE

/-- The sections that every plan holds (R27). -/
def requiredSecs : List Nat := [1, 2, 3, 4, 0xA, 0xE]

/-- Step 4 of R33. [Assumption 27: DESIGN CHOICE, unsafe. Assumption 28: DEDUCED, unsafe.] -/
def framePlan (p : List Byte) : Except PlanFail Framed :=
  match frameSecs 17 0 0 ((p.take (planLength p)).drop 64) ⟨[], []⟩ with
  | .error e => .error e
  | .ok f =>
    if f.secs.length ≠ planField p 0x12 1 then .error (failAt Code.BAD_LENGTH)
    else if requiredSecs.all f.secs.contains then .ok f
    else .error (failAt Code.MISSING_SECTION)

end Sys2Proof.Machine
end

