-- ==== Sys2Proof/Machine/PlanRange.lean ====
section
/-! DEFINITION. Field ranges of plan items and duplicate items: step 5 of R33 (R96, R100, R101, R119, R132, R139, R144, R157, R172, R218, R260,
R303, R311, R328, R359, R363, R380, R435, R477). -/

namespace Sys2Proof.Machine

/-- A value lies in a range, bounds included (R4). -/
def within (x lo hi : Nat) : Bool := decide (lo ≤ x) && decide (x ≤ hi)

/-- The items of one TYPE. -/
def itemsOf (p : List Item) (ty : Nat) : List Item := p.filter (fun i => i.ty == ty)
/-- The first item of a TYPE whose first field is `k`. -/
def itemAt (p : List Item) (ty k : Nat) : Option Item := p.find? (fun i => i.ty == ty && i.n 0 == k)

/-- The last item of a list. -/
def isLastOf (l : List Item) (i : Item) : Bool := l.getLast? == some i

/-- The sum of a number over the items of a list. -/
def sumN (l : List Item) (f : Item → Nat) : Nat := l.foldl (fun n i => n + f i) 0

/-- GATED_RANGE: wholly in the pages of blocks 0x00 to 0x0F, the doorbell pages or the dual-port SRAM (R328). -/
def gatedRangeOk (base size : Nat) : Bool :=
  decide (0 < size) && [(0x20000000, 0x20100000), (0x21000000, 0x22000000), (0x10400000, 0x10440000)].any
    (fun (p : Nat × Nat) => decide (p.1 ≤ base) && decide (base + size ≤ p.2))

/-- REGION (R359). -/
def regionOk (i : Item) : Bool :=
  let b := i.rgnBase
  let n := i.rgnSize
  let inside := fun (lo hi : Nat) => decide (lo ≤ b) && decide (b + n ≤ hi)
  within i.rgnTarget 0 2 && within i.rgnDistrict 0 63 && within i.rgnCourtyard 0 15 && decide (i.rgnPerm < 16) && decide (0 < n) &&
  match i.rgnTarget with
  | 0 => within i.rgnIndex 0 63 && inside 0x80000000 0x240000000 && b % 0x1000 == 0 && n % 0x1000 == 0
  | 1 => within i.rgnIndex 0 15 &&
    ((inside 0x10000000 0x10400000 && b % 0x20000 == 0 && n % 0x20000 == 0) ||
     (inside 0x10400000 0x10440000 && b % 0x10000 == 0 && n % 0x10000 == 0 && !tbit i.rgnPerm 2))
  | _ => within i.rgnIndex 0 15 && b % 0x10000 == 0 && n % 0x10000 == 0 &&
    (inside 0x40000000 0x50000000 || inside 0x50000000 0x60000000)

/-- COURTYARD: ID, DISTRICT, CACHE, WAYS, BUDGET (R363). -/
def courtyardFields (i : Item) : Bool :=
  within (i.n 0) 1 15 && within (i.n 1) 0 63 && within (i.n 2) 0 1 && within (i.n 3) 1 (if i.n 2 = 0 then 12 else 4) &&
  within (i.n 4) 1 10000

/-- Some REGION of the Courtyard carries X (R363). -/
def courtyardOk (p : List Item) (i : Item) : Bool :=
  courtyardFields i && (itemsOf p 0x0401).any (fun r => r.rgnCourtyard == i.n 0 && tbit r.rgnPerm 2)

/-- PIN: FUNCTION and PARAM (Table 14-1). -/
def pinItemOk (i : Item) : Bool :=
  let param := i.n 2
  let hi := param / 256
  let lo := param % 256
  within (i.n 0) 0 63 &&
  match i.n 1 with
  | 0 => param == 0
  | 1 => lo == 0
  | 2 => within lo 1 3
  | 3 => param == 0 || decide (lo < hi)
  | 4 => param == 0
  | 5 => within param 10 20000
  | 6 => within param 1 10000
  | _ => false

/-- LIN_ENTRY (R311); the slots of a table run from 0 upwards without gaps, judged at its last entry. -/
def linEntryOk (p : List Item) (i : Item) : Bool :=
  let table := (itemsOf p 0x0503).filter (fun j => j.n 0 == i.n 0 && j.n 1 == i.n 1)
  within (i.n 0) 0 3 && within (i.n 1) 0 3 && within (i.n 2) 0 31 && within (i.n 3) 0 61 && within (i.n 4) 10 65535 &&
  (!isLastOf table i || table.all (fun j => (List.range (j.n 2)).all (fun k => table.any (fun t => t.n 2 == k))))

/-- CHANNEL (Table 10-2): CH, FEED, GANG_LEAD, GANG_SIZE, INRUSH, SLEW, LAYBY, FLAGS, RETRY_N, SHED_PRIO, DIDT, OWNER. -/
def channelOk (i : Item) : Bool :=
  within (i.n 0) 0 51 && within (i.n 1) 0 1 && within (i.n 4) 0 3 && within (i.n 5) 0 (if 48 ≤ i.n 0 then 1 else 4) &&
  within (i.n 6) 0 2 && within (i.n 7) 0 3 && (if tbit (i.n 7) 1 then within (i.n 8) 1 15 else i.n 8 == 0) &&
  (i.n 10 == 0 || within (i.n 10) 100 60000) && within (i.n 11) 0 63

/-- The temperature class of INSULATION, in °C (Table 10-2). -/
def classTemp (k : Nat) : Nat := [85, 100, 125, 150, 175].getD k 0

/-- WIRE (Table 10-2): CH, INSULATION, AMBIENT_SRC, CSA, LIMIT. -/
def wireItemOk (p : List Item) (i : Item) : Bool :=
  (itemAt p 0x0601 (i.n 0)).isSome && within (i.n 0) 0 51 && within (i.n 1) 0 4 && within (i.n 2) 0 3 && (wireConsts (i.n 3)).isSome &&
  within (i.n 4) 600 (10 * classTemp (i.n 1)) && !(i.n 2 == 0 && decide (i.n 4 ≤ 900)) && !(i.n 2 == 2 && decide (i.n 4 ≤ 1000))

/-- A port mask: bits [31:24] are reserved (R94), and an egress mask does not name SFT (R96). [Assumption 30: DEDUCED, unsafe.] -/
def maskOk (m : Nat) (egress : Bool) : Bool := decide (m < 2 ^ 24) && !(egress && tbit m 20)

/-- QUEUE (R119): PORT, TC, POOL, GUARANTEE, AGE_LIMIT. -/
def queueOk (p : List Item) (i : Item) : Bool :=
  within (i.n 0) 0 23 && within (i.n 1) 0 7 && i.n 0 != 20 &&
  (if i.n 0 = 23 then i.n 2 == 0 && i.n 3 == 0 else within (i.n 2) 0 7 && (itemAt p 0x0801 (i.n 2)).isSome)

/-- STREAM: HANDLE, IDENT, FUNC, PORTS, MAC, VID, RATE, MAX_SDU. -/
def streamOk (i : Item) : Bool := within (i.n 1) 0 1 && within (i.n 2) 0 7 && maskOk (i.n 3) (tbit (i.n 2) 0)

/-- FDB: MAC, VID, PORTS; at most 4 of a bucket (R101). -/
def fdbOk (p : List Item) (i : Item) : Bool :=
  let before := (itemsOf p 0x0902).takeWhile (fun j => j != i)
  maskOk (i.n 2) true && decide ((before.filter (fun j => fdbBucket (j.n 0) (j.n 1) == fdbBucket (i.n 0) (i.n 1))).length < 4)

/-- RESERVED_SHARE (R157): KIND, DISTRICT, ENDPOINTS, AMOUNT. [Assumption 31: DESIGN CHOICE, unsafe.] -/
def shareOk (p : List Item) (i : Item) : Bool :=
  let cells := (itemsOf p 0x0A02).filter (fun j => j.n 0 == 1)
  let sum : Nat := sumN cells (fun j => j.n 2 * j.n 3)
  let room : Nat := itemN (itemsOf p 0x0A01).head? 2
  within (i.n 0) 0 2 && within (i.n 1) 0 63 && within (i.n 2) 1 4095 && (i.n 0 != 2 || within (i.n 3) 1 255) &&
  !(isLastOf cells i && decide (room < sum))

/-- VIEW (Table 08-2): DSP, VIEW, CAM, MAP, X, Y, W, H, STALE: what no DISPLAY item bears on. -/
def viewFields (i : Item) : Bool := within (i.n 1) 0 3 && decide (32 ≤ i.n 6) && decide (32 ≤ i.n 7)

/-- The view is no larger than its display, or than the largest one where none is configured (R172). -/
def viewOk (p : List Item) (i : Item) : Bool :=
  let d := itemAt p 0x0B02 (i.n 0)
  let w := match d with
    | some d => d.n 2
    | none => 1920
  let h := match d with
    | some d => d.n 3
    | none => 720
  viewFields i && decide (i.n 6 ≤ w) && decide (i.n 7 ≤ h)

/-- PAN (Table 08-2): DSP, VIEW, RATE, MIN, MAX. -/
def panOk (i : Item) : Bool :=
  let lo := signed 16 (i.n 3)
  let hi := signed 16 (i.n 4)
  within (i.n 2) 1 1000 && decide (-9000 ≤ lo) && decide (hi ≤ 9000) && decide (lo ≤ 0) && decide (0 ≤ hi)

/-- SOURCE of an IRQ_ROUTE or WAKE_SUBSET item (R380). -/
def sourceOk (n : Nat) : Bool := within n 1 124 || within n 256 511

/-- TAKEOVER (R435): CH, TWIN_CH, MODE. -/
def takeoverFields (i : Item) : Bool := within (i.n 2) 0 1 && within (i.n 1) 0 47

/-- The items that a TAKEOVER item does not agree with: a TWIN item of the other role, a CHANNEL item of a gang member (R435). -/
def takeoverAgainst (p : List Item) (i : Item) : List Item :=
  (itemsOf p 0x0F01).filter (fun t => t.n 1 == i.n 2) ++ (itemAt p 0x0601 (i.n 0)).toList.filter (fun c => c.n 2 != i.n 0)

def takeoverOk (p : List Item) (i : Item) : Bool := takeoverFields i && (takeoverAgainst p i).isEmpty

/-- Every field of the item lies in its range. [Assumption 30: DEDUCED, unsafe. Assumption 31: DESIGN CHOICE, unsafe.] -/
def rangeOk (p : List Item) (i : Item) : Bool :=
  match i.ty with
  | 0x0201 => within (i.n 0) 0 63 && within (i.n 1) 0 1 && within (i.n 2) 0 1
  | 0x0301 => within (i.n 0) 0 3 && within (i.n 1) 0 1 && within (i.n 2) 0 3
  | 0x0302 => gatedRangeOk (i.n 0) (i.n 1) && within (i.n 2) 0 63
  | 0x0401 => regionOk i
  | 0x0402 => courtyardOk p i
  | 0x0403 => within (i.n 0) 0 15 && within (i.n 1) 0 63
  | 0x0501 => pinItemOk i
  | 0x0502 => within (i.n 0) 0 3 && within (i.n 1) 0 63 && within (i.n 2) 1000 20000
  | 0x0503 => linEntryOk p i
  | 0x0601 => channelOk i
  | 0x0602 => wireItemOk p i
  | 0x0701 => within (i.n 0) 0 23 && within (i.n 1) 0 1 && within (i.n 3) 0 1
  | 0x0702 => within (i.n 0) 0 23 && within (i.n 1) 0 23
  | 0x0801 => within (i.n 0) 0 7 && within (i.n 1) 0 1
  | 0x0802 => queueOk p i
  | 0x0803 => within (i.n 0) 0 23
  | 0x0804 => within (i.n 0) 0 23
  | 0x0805 => within (i.n 0) 0 23 && within (i.n 1) 0 7
  | 0x0901 => streamOk i
  | 0x0902 => fdbOk p i
  | 0x0903 => within (i.n 0) 1 4094 && maskOk (i.n 1) false && maskOk (i.n 2) true
  | 0x0A02 => shareOk p i
  | 0x0A03 => within (i.n 2) 0 6
  | 0x0B01 => within (i.n 0) 0 3 && within (i.n 1) 10 60 && within (i.n 2) 64 2048 && i.n 2 % 2 == 0 && within (i.n 3) 64 1280
  | 0x0B02 => within (i.n 0) 0 1 && within (i.n 1) 30 60 && within (i.n 2) 64 1920 && i.n 2 % 2 == 0 && within (i.n 3) 16 720 &&
      i.n 3 % 16 == 0 && within (i.n 4) 1 3200
  | 0x0B03 => viewOk p i
  | 0x0B04 => within (i.n 0) 0 7 && within (i.n 1) 0 1 && within (i.n 2) 1 96 && i.n 3 != 0
  | 0x0B05 => within (i.n 1) 0 3 && i.n 2 != 0
  | 0x0B06 => panOk i
  | 0x0C01 => within (i.n 0) 0 7 && within (i.n 1) 0 1
  | 0x0C02 => within (i.n 0) 0 7 && within (i.n 1) 0 15 && within (i.n 2) 0 63 && within (i.n 3) 0 2 && within (i.n 4) 0 127 &&
      within (i.n 5) 0 1
  | 0x0C03 => within (i.n 0) 0 7 && within (i.n 1) 0 1 && (itemAt p 0x0901 (i.n 4)).isSome
  | 0x0D01 => within (i.n 1) 0 1
  | 0x0E01 => sourceOk (i.n 0) && within (i.n 1) 0 15 && within (i.n 2) 0 0x1FF
  | 0x0E02 => sourceOk (i.n 0)
  | 0x0F01 => within (i.n 0) 0 1 && within (i.n 1) 0 1
  | 0x0F02 => takeoverOk p i
  | _ => true

/-- The items beside `i` that a range which `i` breaks involves; the item reported is the last of them all (R34). -/
def rangeWith (p : List Item) (i : Item) : List Item :=
  match i.ty with
  | 0x0402 => if courtyardFields i then (itemsOf p 0x0401).filter (fun r => r.rgnCourtyard == i.n 0) else []
  | 0x0B03 => if viewFields i then (itemAt p 0x0B02 (i.n 0)).toList else []
  | 0x0F02 => if takeoverFields i then takeoverAgainst p i else []
  | _ => []

/-- What an item configures, as the fields that name it; two items of a TYPE with such a name in common configure the same object (R35).
[Assumption 29: DEDUCED, unsafe.] -/
def itemKeys (i : Item) : List (List Nat) :=
  match i.ty with
  | 0x0101 => [[]]
  | 0x0201 => [[i.n 0]]
  | 0x0301 => [[i.n 0]]
  | 0x0401 => [[i.n 0, i.n 1]]
  | 0x0402 => [[i.n 0]]
  | 0x0403 => [[i.n 0, i.n 1]]
  | 0x0501 => [[i.n 0]]
  | 0x0502 => [[i.n 0]]
  | 0x0503 => [[i.n 0, i.n 1, i.n 2]]
  | 0x0601 => [[i.n 0]]
  | 0x0602 => [[i.n 0]]
  | 0x0701 => [[i.n 0]]
  | 0x0702 => [[i.n 0, i.n 1]]
  | 0x0801 => [[i.n 0]]
  | 0x0802 => [[i.n 0, i.n 1]]
  | 0x0803 => [[i.n 0, i.n 1]]
  | 0x0804 => [[i.n 0]]
  | 0x0805 => [[i.n 0, i.n 1]]
  | 0x0901 => [[i.n 0], [i.n 1, i.n 4, i.n 5]]
  | 0x0902 => [[i.n 0, i.n 1]]
  | 0x0903 => [[i.n 0]]
  | 0x0A01 => [[]]
  | 0x0A02 => [[i.n 0, i.n 1]]
  | 0x0A03 => [[i.n 0]]
  | 0x0B01 => [[i.n 0]]
  | 0x0B02 => [[i.n 0]]
  | 0x0B03 => [[i.n 0, i.n 1]]
  | 0x0B04 => [[i.n 0]]
  | 0x0B05 => [[i.n 0, i.n 1]]
  | 0x0B06 => [[i.n 0, i.n 1]]
  | 0x0C01 => [[i.n 0]]
  | 0x0C02 => [[i.n 0, i.n 1, i.n 2]]
  | 0x0D01 => [[i.n 1, i.n 2]]
  | 0x0E01 => [[i.n 0]]
  | 0x0E02 => [[i.n 0]]
  | 0x0F01 => [[]]
  | 0x0F02 => [[i.n 0]]
  | 0x1001 => [[i.n 0, i.n 1, i.n 2]]
  | _ => []

/-- Two items configure the same object. -/
def sameObject (i j : Item) : Bool := i.ty == j.ty && (itemKeys i).any (fun k => (itemKeys j).contains k)

/-- A place as a number: section × 65,536 + item (R34). -/
def Item.place (i : Item) : Nat := i.sec * 65536 + i.pos
/-- Of several items, the place of the last. -/
def lastPlace (l : List Item) : Nat := l.foldl (fun n i => max n i.place) 0

/-- Where and why items fail step 5 of R33: place and code, with the items already passed. -/
def rangeFails (p seen rest : List Item) : List (Nat × Nat) :=
  match rest with
  | [] => []
  | i :: rest =>
    (if rangeOk p i then [] else [(lastPlace (i :: rangeWith p i), Code.OUT_OF_RANGE)]) ++
    (if seen.any (sameObject i) then [(i.place, Code.DUPLICATE_ITEM)] else []) ++ rangeFails p (i :: seen) rest

/-- The failure that stands first; of two at one place, the first of the list. -/
def firstFail (best : Nat × Nat) (l : List (Nat × Nat)) : Nat × Nat :=
  match l with
  | [] => best
  | x :: rest => firstFail (if x.1 < best.1 then x else best) rest

/-- Step 5 of R33 over the items (R34). [Assumption 29: DEDUCED, unsafe.] -/
def checkRanges (p : List Item) : Option PlanFail :=
  match rangeFails p [] p with
  | [] => none
  | x :: rest => some ⟨(firstFail x rest).2, 0, (firstFail x rest).1 / 65536, (firstFail x rest).1 % 65536⟩

end Sys2Proof.Machine
end

