-- ==== Sys2Proof/Machine/PlanRules.lean ====
section
/-! DEFINITION. The legality rules L01 to L39 (R36, Table 02-5), with the place that each failure is reported at (R34). -/

namespace Sys2Proof.Machine

/-- What the rules look at: the items, the section TYPEs, and the unit of the PAIR_ROLE strap (0 A, 1 B). -/
structure PlanCtx where
  p : List Item
  secs : List Nat
  role : Nat
  deriving DecidableEq, Repr

/-- The place of an item that is absent altogether from the section of TYPE `ty`. -/
def PlanCtx.missing (c : PlanCtx) (ty : Nat) : Nat := (c.secs.findIdx? (· == ty)).getD 0xFF * 65536 + 0xFFFF

def PlanCtx.of (c : PlanCtx) (ty : Nat) : List Item := itemsOf c.p ty
def PlanCtx.district (c : PlanCtx) (d : Nat) : Option Item := itemAt c.p 0x0201 d
def PlanCtx.channel (c : PlanCtx) (n : Nat) : Option Item := itemAt c.p 0x0601 n
def PlanCtx.port (c : PlanCtx) (n : Nat) : Option Item := itemAt c.p 0x0701 n

/-- The district holds the block (L01). -/
def PlanCtx.holds (c : PlanCtx) (d block : Nat) : Bool := d == 0 || tbit (itemN (c.district d) 4) block
/-- The PAIR items of the pairs that a DISTRICT item names. -/
def PlanCtx.pairsOf (c : PlanCtx) (d : Item) : List Item := (c.of 0x0301).filter (fun i => tbit (d.n 3) (i.n 0))

/-- The places of the items of a list that fail a test. -/
def bad1 (l : List Item) (ok : Item → Bool) : List Nat := (l.filter (fun i => !ok i)).map Item.place
/-- The places of the pairs of a list that fail a test, each pair once. -/
def bad2 (ok : Item → Item → Bool) (l : List Item) : List Nat :=
  match l with
  | [] => []
  | i :: rest => (rest.filter (fun j => !ok i j)).map (fun j => lastPlace [i, j]) ++ bad2 ok rest
/-- One place where a whole list fails. -/
def badAll (l : List Item) (ok : Bool) : List Nat := if ok then [] else [lastPlace l]

/-! ### L01 to L10 -/

def legal01 (c : PlanCtx) : List Nat :=
  match c.district 0 with
  | none => [c.missing 2]
  | some d => bad1 [d] (fun d => d.n 1 == 0 && d.n 2 == 1 && d.n 3 == 0xF)

def legal02 (c : PlanCtx) : List Nat := bad1 (c.of 0x0201) (fun d => within (d.n 3) 1 15)

/-- [Assumption 33: DEDUCED, unsafe.] -/
def legal03 (c : PlanCtx) : List Nat :=
  bad1 (c.of 0x0301) (fun i => within (i.n 3) 8 16) ++
  (List.range 4).flatMap (fun p =>
    let l := (c.of 0x0301).filter (fun i => i.n 0 == p)
    if l.isEmpty then [c.missing 3] else badAll l (l.length == 1))

/-- [Assumption 33: DEDUCED, unsafe.] -/
def legal04 (c : PlanCtx) : List Nat :=
  (c.of 0x0201).flatMap (fun d =>
    let wrong := (c.pairsOf d).filter (fun p => p.n 1 != 1 || tbit (p.n 2) 0)
    badAll (d :: wrong) (d.n 0 == 0 || d.n 2 == 0 || !tbit (d.n 4) 10 || wrong.isEmpty))

/-- [Assumption 33: DEDUCED, unsafe.] -/
def legal05 (c : PlanCtx) : List Nat :=
  (c.of 0x0302).flatMap (fun g =>
    match c.district (g.n 2) with
    | none => [g.place]
    | some d =>
      let wrong := (c.pairsOf d).filter (fun p => p.n 1 != 1)
      badAll [g, d] (d.n 2 == 1) ++ badAll (g :: d :: wrong) wrong.isEmpty)

/-- Two ranges of BASE and SIZE share an address. -/
def meets (b1 n1 b2 n2 : Nat) : Bool := decide (b1 < b2 + n2) && decide (b2 < b1 + n1)

def legal06 (c : PlanCtx) : List Nat :=
  let l := c.of 0x0302
  badAll l (decide (l.length ≤ 32)) ++ bad2 (fun g h => !meets (g.n 0) (g.n 1) (h.n 0) (h.n 1)) l

/-- SHARED without W. -/
def Item.sharedRead (i : Item) : Bool := tbit i.rgnPerm 3 && !tbit i.rgnPerm 1

def legal07 (c : PlanCtx) : List Nat :=
  let l := c.of 0x0401
  let of := fun (t : Nat) => l.filter (fun i => i.rgnTarget == t)
  badAll (of 0) (decide ((of 0).length ≤ 64)) ++ badAll (of 1) (decide ((of 1).length ≤ 16)) ++ badAll (of 2) (decide ((of 2).length ≤ 16)) ++
  bad2 (fun i j => i.rgnTarget != j.rgnTarget || i.rgnDistrict == j.rgnDistrict || !meets i.rgnBase i.rgnSize j.rgnBase j.rgnSize ||
    (i.sharedRead && j.sharedRead)) l

/-- The regions of a list cover every address from `lo` up to `hi`; each step uses one region. -/
def covered (l : List Item) (fuel lo hi : Nat) : Bool :=
  match fuel with
  | 0 => decide (hi ≤ lo)
  | fuel + 1 =>
    if hi ≤ lo then true
    else
      let far := l.foldl (fun m i => if i.rgnBase ≤ lo then max m (i.rgnBase + i.rgnSize) else m) lo
      if far ≤ lo then false else covered l fuel far hi

/-- [Assumption 33: DEDUCED, unsafe.] -/
def legal08 (c : PlanCtx) : List Nat :=
  bad2 (fun i j => i.n 0 != j.n 0) (c.of 0x0402) ++
  ((c.of 0x0401).filter (fun r => r.rgnCourtyard != 0)).flatMap (fun r =>
    match itemAt c.p 0x0402 r.rgnCourtyard with
    | none => [r.place]
    | some y =>
      let own := (c.of 0x0401).filter (fun i => i.rgnCourtyard == 0 && i.rgnDistrict == r.rgnDistrict && i.rgnTarget == r.rgnTarget)
      badAll [r, y] (y.n 1 == r.rgnDistrict) ++ badAll [r] (covered own (own.length + 1) r.rgnBase (r.rgnBase + r.rgnSize)))

def legal09 (c : PlanCtx) : List Nat :=
  let l := (c.of 0x0402).filter (fun i => i.n 2 == 0)
  badAll l (decide (sumN l (fun i => i.n 3) ≤ 12))

def legal10 (c : PlanCtx) : List Nat :=
  let judge := fun (i : Item) (d block : Nat) => badAll (i :: (c.district d).toList) (c.holds d block)
  (c.of 0x0403).flatMap (fun i => judge i (i.n 1) (i.n 0)) ++ (c.of 0x0A03).flatMap (fun i => judge i (i.n 1) (epBlock (i.n 2)))

/-! ### L11 to L18: power and pins -/

/-- The type of a channel: 0 H25, 1 H10, 2 H3, 3 BR. -/
def chType (n : Nat) : Nat := if n < 8 then 0 else if n < 32 then 1 else if n < 48 then 2 else 3

/-- A lead: its size, and the item of each of the indices that follow it. -/
def PlanCtx.leadPlaces (c : PlanCtx) (i : Item) : List Nat :=
  let n := i.n 0
  let size := i.n 3
  badAll [i] (within size 1 4 && (size == 1 || chType n != 3)) ++
  (List.range (min size 4 - 1)).flatMap (fun k =>
    match c.channel (n + 1 + k) with
    | none => [i.place]
    | some m => badAll [i, m] (chType (m.n 0) == chType n && m.n 2 == n && m.n 3 == size))

/-- A member other than the lead. -/
def PlanCtx.memberPlaces (c : PlanCtx) (i : Item) : List Nat :=
  match c.channel (i.n 2) with
  | none => [i.place]
  | some l => badAll [i, l] (decide (i.n 2 < i.n 0) && chType (i.n 0) != 3 && chType (i.n 0) == chType (l.n 0) && l.n 2 == l.n 0
      && l.n 3 == i.n 3 && decide (i.n 0 < l.n 0 + l.n 3))

def legal11 (c : PlanCtx) : List Nat :=
  (c.of 0x0601).flatMap (fun i => if i.n 2 = i.n 0 then c.leadPlaces i else c.memberPlaces i)

/-- Every member that is not a lead, beside its lead. -/
def PlanCtx.members (c : PlanCtx) : List (Item × Item) :=
  (c.of 0x0601).filterMap (fun i => if i.n 2 = i.n 0 then none else (c.channel (i.n 2)).map (fun l => (i, l)))

def legal12 (c : PlanCtx) : List Nat :=
  c.members.flatMap (fun (m : Item × Item) => badAll [m.1, m.2] (m.1.n 1 == m.2.n 1))

def legal13 (c : PlanCtx) : List Nat :=
  let l := c.of 0x0101
  if l.isEmpty then [c.missing 1]
  else badAll l (l.length == 1) ++ bad1 l (fun i => decide (i.n 0 ≤ 1000) && decide (i.n 1 ≤ 1000) && decide (i.n 2 ≤ 1500))

def legal14 (c : PlanCtx) : List Nat := bad1 (c.of 0x0601) (fun i => !tbit (i.n 7) 0 || within (i.n 6) 0 1)

/-- The channel has a WIRE item. -/
def PlanCtx.wired (c : PlanCtx) (n : Nat) : Bool := (itemAt c.p 0x0602 n).isSome

/-- [Assumption 32: DEDUCED, unsafe.] -/
def legal15 (c : PlanCtx) : List Nat :=
  c.members.flatMap (fun (m : Item × Item) => badAll [m.1, m.2] ([6, 7, 8, 9, 11].all (fun k => m.1.n k == m.2.n k))) ++
  (c.of 0x0602).flatMap (fun w =>
    let on := (c.members.filter (fun (m : Item × Item) => m.1.n 0 == w.n 0)).map (fun (m : Item × Item) => m.1)
    badAll (w :: on) on.isEmpty) ++
  bad1 (c.of 0x0601) (fun i => i.n 2 != i.n 0 || i.n 3 == 1 || c.wired (i.n 0))

/-- [Assumption 32: DEDUCED, unsafe.] -/
def legal16 (c : PlanCtx) : List Nat := bad1 (c.of 0x0601) (fun i => i.n 2 != i.n 0 || c.wired (i.n 0))
def legal17 (c : PlanCtx) : List Nat := bad1 (c.of 0x0601) (fun i => chType (i.n 0) != 3 || within (i.n 6) 0 1)

def legal18 (c : PlanCtx) : List Nat :=
  let pins := c.of 0x0501
  let lins := c.of 0x0502
  bad2 (fun i j => i.n 0 != j.n 0) pins ++ bad1 pins (fun i => i.n 1 != 2 || decide (i.n 0 < 16)) ++
  bad2 (fun i j => i.n 1 != j.n 1) lins ++
  lins.flatMap (fun l => (pins.filter (fun p => p.n 0 == l.n 1)).map (fun p => lastPlace [l, p]))

/-! ### L19 to L26: the switch -/

def legal19 (c : PlanCtx) : List Nat :=
  (c.of 0x0702).flatMap (fun i =>
    badAll [i] (decide (portRate (i.n 1) ≤ portRate (i.n 0))) ++ badAll (i :: (c.port (i.n 0)).toList) (itemN (c.port (i.n 0)) 2 == 0))

def legal20 (c : PlanCtx) : List Nat := bad1 (c.of 0x0701) (fun i => i.n 2 == 0 || isUplink (i.n 0))

/-- A stream that replicates or eliminates. -/
def Item.redundant (i : Item) : Bool := i.n 2 % 4 != 0

def legal21 (c : PlanCtx) : List Nat :=
  let ups := (c.port 0).toList ++ (c.port 1).toList
  let a := itemN (c.port 0) 3 == 1
  let b := itemN (c.port 1) 3 == 1
  badAll ups (a == b) ++
  (if a && b then ((c.of 0x0901).filter (fun i => i.redundant && i.n 3 % 4 != 0)).map (fun i => lastPlace (i :: ups)) else [])

def legal22 (c : PlanCtx) : List Nat :=
  let l := c.of 0x0901
  bad1 l (fun i => !i.redundant || (List.range 24).all (fun p => !tbit (i.n 3) p || isUplink p)) ++
  badAll l (decide (l.length ≤ 1024)) ++ bad2 (fun i j => i.n 0 != j.n 0) l

def legal23 (c : PlanCtx) : List Nat :=
  bad1 (c.of 0x0805) (fun i => within (i.n 1) 5 6) ++
  (List.range 24).flatMap (fun p =>
    let l := (c.of 0x0805).filter (fun i => i.n 0 == p)
    badAll l (decide (4 * sumN l (fun i => i.n 2) ≤ 3 * portRate p)))

def legal24 (c : PlanCtx) : List Nat :=
  bad1 (c.of 0x0803) (fun i => decide (51 ≤ i.n 3)) ++ bad1 (c.of 0x0804) (fun i => within (i.n 1) 1000 1000000000) ++
  (List.range 24).flatMap (fun p =>
    let es := (c.of 0x0803).filter (fun i => i.n 0 == p)
    let cy := (c.of 0x0804).filter (fun i => i.n 0 == p)
    badAll es (decide (es.length ≤ 256) && (List.range es.length).all (fun k => es.any (fun i => i.n 1 == k))) ++
    badAll (cy ++ es) (es.isEmpty == cy.isEmpty && (es.isEmpty || sumN es (fun i => i.n 3) == itemN cy.head? 1)))

def legal25 (c : PlanCtx) : List Nat :=
  bad1 (c.of 0x0802) (fun i => within (i.n 4) 1000 1000000000) ++
  bad1 (c.of 0x0801) (fun i => if i.n 1 = 1 then decide (-6 ≤ signed 8 (i.n 2)) && decide (signed 8 (i.n 2) ≤ 3) else i.n 2 == 0)

def legal26 (c : PlanCtx) : List Nat :=
  (c.of 0x0801).flatMap (fun i =>
    let qs := (c.of 0x0802).filter (fun q => q.n 0 != 23 && q.n 2 == i.n 0)
    badAll (i :: qs) (decide (sumN qs (fun q => q.n 3) ≤ i.n 3))) ++
  badAll (c.of 0x0801 ++ c.of 0x0A01) (decide (sumN (c.of 0x0801) (fun i => i.n 3) + sumN (c.of 0x0A01) (fun i => i.n 2) ≤ 49152))

/-! ### L27 to L32: endpoints and the mirror -/

def legal27 (c : PlanCtx) : List Nat :=
  (c.of 0x0A02).flatMap (fun i => badAll (i :: (c.district (i.n 1)).toList) (itemN (c.district (i.n 1)) 2 == 1)) ++
  bad2 (fun i j => i.n 0 != j.n 0 || i.n 3 == j.n 3) (c.of 0x0A02)

def legal28 (c : PlanCtx) : List Nat :=
  let l := c.of 0x0A01
  let k0 := (c.of 0x0A02).filter (fun i => i.n 0 == 0)
  if l.isEmpty then [c.missing 0xA]
  else badAll l (l.length == 1) ++ bad1 l (fun i => decide (64 ≤ i.n 0) && decide (16 ≤ i.n 1)) ++
    badAll (l ++ k0) (decide (itemN l.head? 0 + sumN k0 (fun i => i.n 2 * i.n 3) ≤ 8192))

def legal29 (c : PlanCtx) : List Nat :=
  let l := c.of 0x0A03
  badAll l (decide (l.length ≤ 223)) ++ bad1 l (fun i => within (i.n 0) 1 4095 && (c.district (i.n 1)).isSome)

def legal30 (c : PlanCtx) : List Nat :=
  bad1 (c.of 0x0B01) (fun i => decide (i.n 2 ≤ 2048) && decide (i.n 3 ≤ 1280) && decide (i.n 1 ≤ 60)) ++
  bad1 (c.of 0x0B02) (fun i => decide (i.n 2 ≤ 1920) && decide (i.n 3 ≤ 720) && decide (i.n 1 ≤ 60) && decide (i.n 4 ≤ 3200))

def legal31 (c : PlanCtx) : List Nat :=
  let few := fun (ty d : Nat) => (let l := (c.of ty).filter (fun i => i.n 0 == d); badAll l (decide (l.length ≤ 4)))
  [0, 1].flatMap (fun d => few 0x0B03 d ++ few 0x0B05 d) ++
  (c.of 0x0B03).flatMap (fun v =>
    match itemAt c.p 0x0B02 (v.n 0) with
    | none => [v.place]
    | some d =>
      badAll [v] ((itemAt c.p 0x0B01 (v.n 2)).isSome && (itemAt c.p 0x0B04 (v.n 3)).isSome) ++
      badAll [v, d] (decide (v.n 4 + v.n 6 ≤ d.n 2) && decide (v.n 5 + v.n 7 ≤ d.n 3)))

def legal32 (c : PlanCtx) : List Nat :=
  bad1 (c.of 0x0B04) (fun i => decide (i.n 2 ≤ 96)) ++ bad1 (c.of 0x0B03) (fun i => within (i.n 8) 1 200)

/-! ### L33 to L39 -/

/-- Table 12-1 and the relations of R260: CH, FD, NBRP, NTSEG1, NTSEG2, NSJW, DBRP, DTSEG1, DTSEG2, DSJW. -/
def timingOk (i : Item) : Bool :=
  let nom := i.n 2 * (1 + i.n 3 + i.n 4)
  let dat := i.n 6 * (1 + i.n 7 + i.n 8)
  within (i.n 2) 1 256 && within (i.n 3) 2 256 && within (i.n 4) 2 128 && within (i.n 5) 1 128 && decide (i.n 5 ≤ i.n 4) && decide (80 ≤ nom) &&
  (if i.n 1 = 1 then
    within (i.n 6) 1 32 && within (i.n 7) 1 32 && within (i.n 8) 1 16 && within (i.n 9) 1 16 && decide (i.n 9 ≤ i.n 8) && within dat 16 nom
  else [6, 7, 8, 9].all (fun k => i.n k == 0))

def legal33 (c : PlanCtx) : List Nat := bad1 (c.of 0x0C01) timingOk

def legal34 (c : PlanCtx) : List Nat :=
  bad2 (fun i j => i.n 0 != j.n 0 || i.n 1 != j.n 1 || !meets (i.n 6) (i.n 7) (j.n 6) (j.n 7)) (c.of 0x0C02)

/-- RING: RING, MEDIUM, INDEX, NODE. [Assumption 31: DESIGN CHOICE, unsafe.] -/
def legal35 (c : PlanCtx) : List Nat :=
  let l := c.of 0x0D01
  bad1 l (fun i => decide (i.n 3 ≤ 63) && (match i.n 1 with
    | 0 => (itemAt c.p 0x0C01 (i.n 2)).isSome
    | 1 => decide (i.n 2 < 2) && itemN (c.port (16 + i.n 2)) 1 == 1
    | _ => false)) ++
  bad2 (fun i j => (i.n 1 != j.n 1 || i.n 2 != j.n 2) && (i.n 0 != j.n 0 || i.n 3 == j.n 3)) l

def legal36 (c : PlanCtx) : List Nat :=
  let w := c.of 0x0E02
  bad1 (c.of 0x0E01) (fun i => i.n 2 != 0) ++ badAll w (decide (w.length ≤ 32)) ++ bad1 w (fun i => decide (i.n 1 ≤ 7))

def legal37 (c : PlanCtx) : List Nat :=
  let tw := c.of 0x0F01
  if itemN tw.head? 0 = c.role ∧ !tw.isEmpty then []
  else ((c.of 0x0701).filter (fun i => i.n 0 == 22 && i.n 1 == 1) ++ c.of 0x0F02 ++ (c.of 0x0901).filter (fun i => tbit (i.n 3) 22)).map
    (fun i => lastPlace (i :: tw))

/-- [Assumption 33: DEDUCED, unsafe.] -/
def legal38 (c : PlanCtx) : List Nat :=
  (c.of 0x0F02).flatMap (fun i =>
    match c.channel (i.n 0) with
    | none => [i.place]
    | some ch => badAll [i, ch] (decide (i.n 0 < 48) && (i.n 2 == 0 || ch.n 6 == 0)))

/-- The range of an RWE field as its map states it: TEMP of PD_AMBIENT_SW lies from -40.0 to 125.0 °C. -/
def fieldRange (block off : Nat) (f : FieldRow) : Int × Int :=
  if block = 0xB ∧ off = 0x2C then (-400, 1250)
  else match f.range with
    | some (lo, hi) => ((lo : Int), (hi : Int))
    | none => (0, ((2 ^ (f.hi + 1 - f.lo) - 1 : Nat) : Int))

/-- The RWE field that an ENVELOPE item names: BLOCK, OFFSET, FIELD_MASK, MIN, MAX, DISTRICTS. -/
def envelopeField (i : Item) : Option FieldRow :=
  if 15 < i.n 0 then none
  else match RegMap.at (0x20000000 + 0x10000 * i.n 0 + i.n 1) with
    | some (r, _) => r.fields.find? (fun f => f.acc == .rwe && f.mask == i.n 2)
    | none => none

def envelopeOk (i : Item) : Bool :=
  match envelopeField i with
  | none => false
  | some f =>
    let lo := fieldValue (i.n 0) (i.n 1) f.hi f.lo (i.n 3)
    let hi := fieldValue (i.n 0) (i.n 1) f.hi f.lo (i.n 4)
    let r := fieldRange (i.n 0) (i.n 1) f
    putBits (i.n 3) f.hi f.lo 0 == 0 && putBits (i.n 4) f.hi f.lo 0 == 0 && decide (lo ≤ hi) && decide (r.1 ≤ lo) && decide (hi ≤ r.2)

/-- The least value above 0 that an ENVELOPE item permits, if any. -/
def leastAbove0 (lo hi : Nat) : Option Nat := if 0 < lo then some lo else if 0 < hi then some 1 else none

/-- CRC_BLANK and STALE_BLANK are 0 or at least their MARK (R215): over the register at offset `off`, reset `w`, no value that the envelopes
permit, beside any other or beside the reset value, breaks that range (R32). [Assumption 32: DEDUCED, unsafe.] -/
def markBelowBlank (c : PlanCtx) (off w : Nat) : List Nat :=
  let on := fun (mask : Nat) => (c.of 0x1001).filter (fun i => i.n 0 == 0xA && i.n 1 == off && i.n 2 == mask)
  let mark := (on 0xF).foldl (fun m i => max m (getBits (i.n 4) 3 0)) (getBits w 3 0)
  let blank := (on 0xF0).foldl (fun m i =>
    match leastAbove0 (getBits (i.n 3) 7 4) (getBits (i.n 4) 7 4) with
    | some v => min m v
    | none => m) (getBits w 7 4)
  if ((on 0xF) ++ (on 0xF0)).isEmpty then [] else badAll ((on 0xF) ++ (on 0xF0)) (decide (mark ≤ blank))

/-- [Assumption 32: DEDUCED, unsafe.] -/
def legal39 (c : PlanCtx) : List Nat :=
  bad1 (c.of 0x1001) envelopeOk ++
  [0x300, 0x304].flatMap (fun off => markBelowBlank c off 0x1E31) ++
  (List.range 8).flatMap (fun k => markBelowBlank c (0x310 + 4 * k) 0x861) ++
  (c.of 0x1001).flatMap (fun i =>
    ((List.range 64).filter (fun d => tbit (i.n 5) d && !c.holds d (i.n 0))).map (fun d => lastPlace (i :: (c.district d).toList)))

/-- The rules in ascending order. -/
def legalRules : List (PlanCtx → List Nat) :=
  [legal01, legal02, legal03, legal04, legal05, legal06, legal07, legal08, legal09, legal10, legal11, legal12, legal13, legal14, legal15,
   legal16, legal17, legal18, legal19, legal20] ++
  [legal21, legal22, legal23, legal24, legal25, legal26, legal27, legal28, legal29, legal30, legal31, legal32, legal33, legal34, legal35,
   legal36, legal37, legal38, legal39]

/-- The first of some places. -/
def firstPlace (l : List Nat) : Option Nat :=
  match l with
  | [] => none
  | a :: rest => some (rest.foldl min a)

/-- Step 6 of R33, from rule `n` upwards. -/
def checkRules (c : PlanCtx) (n : Nat) (rules : List (PlanCtx → List Nat)) : Option PlanFail :=
  match rules with
  | [] => none
  | r :: rest =>
    match firstPlace (r c) with
    | some k => some ⟨0x1140 + n, n, k / 65536, k % 65536⟩
    | none => checkRules c (n + 1) rest

end Sys2Proof.Machine
end

