-- ==== Sys2Proof/Machine/PlanLoad.lean ====
section
/-! DEFINITION. The checks of an image bank and of its plan at a boot, and the recovery plan (R33, R38, R417, R427). -/

namespace Sys2Proof.Machine

/-! ### Signatures (R26, R417) -/

/-- The key that verifies a signature under slot `n`, which Cellar has loaded alone, or the code of the failure: `factory` says that the
factory public key stands in for an empty slot while provisioning is open. -/
def State.verifyKey (s : State) (n : Nat) (factory : Bool) : Except Nat (List Byte) :=
  let k := s.slot n
  if s.ksState = 4 then .error Code.CELLAR_UNAVAILABLE
  else if k.st = 2 then .error Code.SLOT_BAD
  else if k.st = 0 then
    if !factory then .error Code.CELLAR_UNAVAILABLE
    else if s.flag Fd.KS_STATUS_PROV_OPEN then .ok ((List.range 64).map Config.factoryKey)
    else .error Code.AUTH_FAIL
  else if k.alg ≠ 4 ∨ !k.usage 5 then .error Code.CELLAR_UNAVAILABLE
  else .ok k.key

/-- The outcome of a signature over some bytes. -/
def State.signatureCode (s : State) (n : Nat) (factory : Bool) (bytes sig : List Byte) : Nat :=
  match s.verifyKey n factory with
  | .error code => code
  | .ok key => if Config.ecdsaVerify key (sha256 bytes) sig then Code.DONE else Code.AUTH_FAIL

/-! ### The bank (R427) -/

/-- The images that the boot ROM verifies, types 1, 2, 3 and 5, match their digests. -/
def State.imagesOk (s : State) (b : Nat) : Bool :=
  ((hdrDir (s.header b)).filter (fun e => [1, 2, 3, 5].contains e.ty)).all (s.imgPresent b)

/-- The slot of the verifying key is loaded alone before it is used (R399). -/
def State.loadBankKey (s : State) (b : Nat) : State :=
  if hdrOk (s.header b) then s.loadSlot (hdrKeySlot (s.header b)) else s

/-- check(b), with the slot loaded; DONE where it passes. -/
def State.bankCode (s : State) (b : Nat) : Nat :=
  let h := s.header b
  let len := hdrLen h
  if !hdrOk h || s.poisoned (bankBase b) 0x1000 then Code.IMAGE_FORMAT
  else
    let sig := s.signatureCode (hdrKeySlot h) true (h.take len) ((h.drop len).take 64)
    if sig ≠ Code.DONE then sig
    else if hdrEpoch h < s.otp.floor then Code.VERSION_DOWN
    else if !s.imagesOk b then Code.AUTH_FAIL
    else Code.DONE

/-! ### The plan (R33) -/

/-- The directory entry of a bank's plan, and the stored bytes of the plan. -/
def State.planEntry (s : State) (b : Nat) : Option DirEnt := (hdrDir (s.header b)).find? (fun e => e.ty == 5)
/-- [Assumption 27: DESIGN CHOICE, unsafe.] -/
def State.planBytes (s : State) (b : Nat) : List Byte :=
  match s.planEntry b with
  | some e => s.imageOf b e
  | none => []

/-- The role that L37 compares: the PAIR_ROLE strap, a fault counting as unit A (R459). -/
def State.strapRole (s : State) : Nat := if s.rd Fd.SYS_X_STATUS_STRAP = 1 then 1 else 0

/-- Steps 4 to 6 of R33. -/
def checkBits (role : Nat) (p : List Byte) : Except PlanFail Framed :=
  match framePlan p with
  | .error e => .error e
  | .ok f =>
    match checkRanges f.items with
    | some e => .error e
    | none =>
      match checkRules ⟨f.items, f.secs, role⟩ 1 legalRules with
      | some e => .error e
      | none => .ok f

/-- The slot of the plan's verifying key is loaded alone. -/
def State.loadPlanKey (s : State) (p : List Byte) : State :=
  if planKeySlot p ≤ 127 then s.loadSlot (planKeySlot p) else s

/-- R33 for the plan of a bank, with the slot loaded. -/
def State.checkPlan (s : State) (p : List Byte) (hwrev : Nat) : Except PlanFail Framed :=
  let code := planHeaderCode p hwrev
  let sig := s.signatureCode (planKeySlot p) false (p.take (planLength p)) (p.drop (planLength p))
  if code ≠ Code.DONE then .error (failAt code)
  else if sig ≠ Code.DONE then .error (failAt sig)
  else if planEpoch p < s.otp.floor then .error (failAt Code.VERSION_DOWN)
  else checkBits s.strapRole p

/-! ### The recovery plan (Table 02-6) -/

/-- The items of one section, in order. -/
def secItems (sec : Nat) (l : List (Nat × List Nat)) : List Item :=
  (List.zip (List.range l.length) l).map (fun (k : Nat × Nat × List Nat) => (⟨sec, k.1, k.2.1, k.2.2⟩ : Item))

/-- The sources that exist in two ranges. -/
def allSources : List Nat := (List.range 124).map (· + 1) ++ (List.range 256).map (· + 256)

def recoverySecs : List Nat := [1, 2, 3, 4, 7, 8, 9, 0xA, 0xE]

/-- SYSTEM, DISTRICTS and PAIRS. -/
def recovery1 : List Item :=
  [secItems 0 [(0x0101, [1000, 1000, 1500, 51])], secItems 1 [(0x0201, [0, 0, 1, 0xF, 0xFFFF])],
   secItems 2 ((List.range 4).map (fun p => (0x0301, [p, 0, 3, 8])))].flatten

/-- MEMORY and PORTS. -/
def recovery2 : List Item :=
  [secItems 3 [(0x0401, [0, 0, 0, 0, 7, 0x80000000, 0x1C0000000]), (0x0401, [1, 0, 0, 0, 7, 0x10000000, 0x400000]),
     (0x0401, [1, 1, 0, 0, 3, 0x10400000, 0x40000]), (0x0401, [2, 0, 0, 0, 5, 0x40000000, 0x10000000]),
     (0x0401, [2, 1, 0, 0, 5, 0x50000000, 0x10000000])],
   secItems 4 [(0x0701, [0, 1, 0, 0]), (0x0701, [18, 1, 0, 0])]].flatten

/-- QUEUES and STREAMS: UPA is port 0, CPA port 18. -/
def recovery3 : List Item :=
  [secItems 5 ((0x0801, [0, 0, 0, 32768]) :: [0, 18].flatMap (fun p => (List.range 8).map (fun tc =>
     (0x0802, [p, tc, 0, 0, 1000000000])))), secItems 6 [(0x0903, [1, 0x40001, 0x40001])]].flatten

/-- ENDPOINTS and INTERRUPTS. -/
def recovery4 : List Item :=
  [secItems 7 [(0x0A01, [1024, 64, 8192])], secItems 8 (allSources.map (fun n => (0x0E01, [n, 1, 0xFF])))].flatten

/-- The recovery plan. -/
def recoveryPlan : List Item := [recovery1, recovery2, recovery3, recovery4].flatten

end Sys2Proof.Machine
end

