-- ==== Sys2Proof/Machine/Activate.lean ====
section
/-! DEFINITION. Plan activation: what the items of a plan set in the blocks (R24 to R40, R363, R380, R434, R475). -/

namespace Sys2Proof.Machine

/-! ### The TP_ registers (R37, R40) -/

/-- A rejection, kept until the next power-on reset. -/
def State.planRejected (s : State) (b : Nat) (e : PlanFail) : State :=
  let s := (s.wr Fd.TP_FAIL_RULE e.rule).wr Fd.TP_FAIL_CODE e.code
  ((s.wr Fd.TP_FAIL_LOC_BANK b).wr Fd.TP_FAIL_LOC_ITEM e.item).wr Fd.TP_FAIL_LOC_SECTION e.sec

/-- 32 bytes shown in eight registers, byte 4k of register k in [7:0]. [Assumption 35: DESIGN CHOICE, unsafe.] -/
def State.showDigest (s : State) (reg : Nat → Nat) (d : List Byte) : State :=
  forAll (List.range 8) (fun s k => s.setReg (reg k) (BitVec.ofNat 32 (leNat ((d.drop (4 * k)).take 4)))) s

/-- VERSION, EPOCH and DIGEST of the running plan. -/
def State.showPlan (s : State) (version epoch : Nat) (digest : List Byte) : State :=
  let s := (s.wr Fd.TP_VERSION_VERSION version).wr Fd.TP_EPOCH_EPOCH epoch
  s.showDigest Rg.TP_DIGEST digest

/-! ### Blocks -/

/-- The optional sections whose absence leaves a block unconfigured and powered off (R27), with the block.
[Assumption 34: DEDUCED, unsafe.] -/
def secBlocks : List (Nat × Nat) := [(7, 8), (8, 9), (0xB, 0xA), (6, 0xB), (0xC, 0xC), (0xD, 0xD), (5, 0xE)]
/-- [Assumption 34: DEDUCED, unsafe.] -/
def absentBlocks (secs : List Nat) : List Nat :=
  (secBlocks.filter (fun (p : Nat × Nat) => !secs.contains p.1)).map (fun (p : Nat × Nat) => p.2)

/-- PORT: PORT, ENABLE, MACSEC, HASH_GROUP. -/
def State.planPort (s : State) (i : Item) : State :=
  let p := i.n 0
  let s := ((s.wr (Fd.SW_PORT_CFG_ENABLE p) (i.n 1)).wr (Fd.SW_PORT_CFG_MACSEC p) (i.n 2)).wr (Fd.SW_PORT_CFG_HASH_GROUP p) (i.n 3)
  if isUplink p then s.wr (Fd.SW_MS_CTRL_EN (msIndex p)) (i.n 2) else s

/-- CUT_THROUGH: IN, OUT, TCMASK. -/
def State.planCut (s : State) (i : Item) : State := s.wr (Fd.SW_PORT_CFG_CT_IN (i.n 0)) 1

/-- FDB: MAC, VID, PORTS. -/
def planFdb (i : Item) : FdbEnt := ⟨i.n 0, i.n 1, i.n 2, true, 0⟩

/-- Ports, MACsec, static entries and PVIDs; the links of internal ports are up at once (Table 05-1, R100, R101). -/
def State.planSwitch (s : State) : State :=
  let s := forAll (s.items 0x0702) State.planCut (forAll (s.items 0x0701) State.planPort s)
  let s := forAll (List.range 24) (fun s p => s.wr (Fd.SW_PORT_STATUS_PVID p) (s.pvid p)) s
  let s := { s with sw := { s.sw with fdb := (s.items 0x0902).map planFdb } }
  s.innerLinks

/-- CAN_TIMING: CH, FD, NBRP, NTSEG1, NTSEG2, NSJW, DBRP, DTSEG1, DTSEG2, DSJW (R260 to R262, R282). -/
def State.planTiming (s : State) (i : Item) : State :=
  let k := i.n 0
  let s := (s.wr (Fd.CAN_TIMING_N_FD k) (i.n 1)).wr (Fd.CAN_TIMING_N_NSJW k) (i.n 5 - 1)
  let s := ((s.wr (Fd.CAN_TIMING_N_NTSEG2 k) (i.n 4 - 1)).wr (Fd.CAN_TIMING_N_NTSEG1 k) (i.n 3 - 1)).wr (Fd.CAN_TIMING_N_NBRP k) (i.n 2 - 1)
  if i.n 1 = 0 then s
  else
    let s := (s.wr (Fd.CAN_TIMING_D_DSJW k) (i.n 9 - 1)).wr (Fd.CAN_TIMING_D_DTSEG2 k) (i.n 8 - 1)
    let s := (s.wr (Fd.CAN_TIMING_D_DTSEG1 k) (i.n 7 - 1)).wr (Fd.CAN_TIMING_D_DBRP k) (i.n 6 - 1)
    (s.wr (Fd.CAN_TDC_EN k) 1).wr (Fd.CAN_TDC_TDCO k) (i.n 6 * (1 + i.n 7))

/-- A configured channel enters NORMAL, with the integration of 11 recessive bits (R262), and its transceiver NORMAL (R284). -/
def State.planCan (s : State) (i : Item) : State :=
  let k := i.n 0
  let s := ((s.planTiming i).wr (Fd.CAN_MODE_ACTUAL k) 1).wr (Fd.CAN_MODE_MODE k) 1
  let s := s.setCan k { Can.reset with freeAt := s.now + s.nomBits k 11, chooseAt := s.now + s.nomBits k 11 }
  ((s.wr (Fd.NM_TRX_CTRL_STATE k) 0).setTrx k { s.trx k with beatsAt := s.now }).canLevels k

/-- RING: RING, MEDIUM, INDEX, NODE. The medium starts (Table 13-3). -/
def State.planRing (s : State) (i : Item) : State :=
  let m := i.n 1 * 8 + i.n 2
  ((s.wr (Fd.NM_MED_STATUS_NODE m) (i.n 3)).wr (Fd.NM_MED_STATUS_RING m) (i.n 0)).curfewStart m

/-- PIN: PIN, FUNCTION, PARAM; LIN_MASTER: LIN, PIN, BAUD (R302). A FREQ_IN pin waits for its first edge from now on (R307). -/
def State.planPin (s : State) (i : Item) : State :=
  let s := (s.wr (Fd.PIN_CFG_FUNCTION (i.n 0)) (i.n 1)).wr (Fd.PIN_CFG_PARAM (i.n 0)) (i.n 2)
  if i.n 1 = 6 then
    let p := tget (fun _ => Pin.reset) s.pn.pin (i.n 0)
    { s with pn := { s.pn with pin := tset (fun _ => Pin.reset) s.pn.pin (i.n 0) { p with edgeAt := s.now } } }
  else s
def State.planLin (s : State) (i : Item) : State := s.wr (Fd.PIN_CFG_FUNCTION (i.n 1)) (0x80 + i.n 0)

/-- PAIR: PAIR, INIT, PERMIT, WINDOW_LOG2; the pair starts in its INIT state (R320, R321). -/
def State.planPair (s : State) (i : Item) : State :=
  let p := i.n 0
  let s := ((s.wr (Fd.CP_PAIR_STATUS_INIT p) (i.n 1)).wr (Fd.CP_PAIR_STATUS_PERMIT p) (i.n 2)).wr (Fd.CP_PAIR_STATUS_WINDOW_LOG2 p) (i.n 3)
  s.setPairState p (s.initState p)

/-! ### Courtyards (R363, R370) -/

/-- The regions of a Courtyard are cleared, where they lie in RAM. -/
def State.clearRegion (s : State) (i : Item) : State :=
  if i.rgnTarget = 2 then s else s.clearMem i.rgnBase (i.rgnBase + i.rgnSize)

/-- The image of a Courtyard in a bank. -/
def State.cyImage (s : State) (b c : Nat) : Option DirEnt :=
  (hdrDir (s.header b)).find? (fun e => e.ty == 4 && e.cy == c && s.imgPresent b e)

/-- Roadworks loads a Courtyard from bank `b`; none is the recovery plan. COURTYARD: ID, DISTRICT, CACHE, WAYS, BUDGET.
[Assumption 35: DESIGN CHOICE, unsafe.] -/
def State.loadCourtyard (s : State) (bank : Option Nat) (i : Item) : State :=
  let c := i.n 0
  let s := ((s.wr (Fd.WG_CY_STATUS_DISTRICT c) (i.n 1)).wr (Fd.WG_CY_STATUS_CACHE c) (i.n 2)).wr (Fd.WG_CY_STATUS_WAYS c) (i.n 3)
  let s := (s.wr (Fd.WG_CY_STATUS_CODE c) 0).wr (Fd.WG_CY_STATUS_HART c) 0
  let s := forAll ((s.items 0x0401).filter (fun j => j.rgnCourtyard == c)) State.clearRegion s
  let base := s.cyBase c
  match bank.bind (fun b => (s.cyImage b c).map (fun e => s.imageOf b e)) with
  | some image =>
    if guardTarget (placeOf base) = some 0 ∨ guardTarget (placeOf base) = some 1 then (s.store base image).wr (Fd.WG_CY_STATUS_STATE c) 1
    else s.wr (Fd.WG_CY_STATUS_STATE c) 3
  | none => s.wr (Fd.WG_CY_STATUS_STATE c) 3

def State.loadCourtyards (s : State) (bank : Option Nat) : State := forAll (s.items 0x0402) (fun s i => s.loadCourtyard bank i) s

/-! ### Interrupts, twin, endpoints, districts -/

/-- IRQ_ROUTE: SOURCE, PRIO, TARGETS (R380). -/
def State.planRoute (s : State) (i : Item) : State := s.setSrc (i.n 0) { Src.idle with prio := i.n 1, targets := i.n 2 }

/-- TAKEOVER: CH, TWIN_CH, MODE: STATE 1 for a primary channel, STANDBY for a secondary (R449). -/
def State.planTakeover (s : State) (i : Item) : State :=
  let n := i.n 0
  ((s.wr (Fd.UX_TAKEOVER_TWIN_CH n) (i.n 1)).wr (Fd.UX_TAKEOVER_CAUSE n) 0).wr (Fd.UX_TAKEOVER_STATE n) (1 + i.n 2)

/-- ROLE from the strap, PRIMARY and CONFIG from the TWIN item; a strap fault makes CONFLICT read 1 (R434, R439, R459). -/
def State.planTwin (s : State) : State :=
  let s := s.wr Fd.UX_STATUS_ROLE s.strapRole
  match s.items 0x0F01 with
  | [] => s
  | i :: _ =>
    let s := (s.wr Fd.UX_STATUS_PRIMARY (i.n 1)).wr Fd.UX_STATUS_CONFIG 1
    let s := s.setFlag Fd.UX_TWIN_CONFLICT (decide (2 ≤ s.rd Fd.SYS_X_STATUS_STRAP))
    forAll (s.items 0x0F02) State.planTakeover s

/-- Cells reserved by RESERVED_SHARE items: KIND, DISTRICT, ENDPOINTS, AMOUNT. -/
def State.reservedCells (s : State) : Nat := sumN ((s.items 0x0A02).filter (fun i => i.n 0 == 1)) (fun i => i.n 2 * i.n 3)

/-- Endpoint 0 (R475). -/
def State.endpoint0 (s : State) : State :=
  s.setEp 0 { s.epAt 0 with
    live := true, ty := 5, district := 0, slot := some 0, credits := 64, timers := 16, sqLog2 := 6, cqLog2 := 6 }

/-- POOLS: CREDITS, TIMERS, CELLS (R157, R475, L28). -/
def State.planPools (s : State) : State :=
  match s.items 0x0A01 with
  | [] => s
  | i :: _ =>
    let s := s.setPools (i.n 0 - 64) (i.n 1 - 16) (i.n 2 - s.reservedCells) 1024
    (s.wr Fd.SYS_EP_CFG_PLAN_PINNED (s.items 0x0A03).length).endpoint0

/-- A district starts, or waits for SYS_MBOX_BASE (R159). -/
def State.planDistrict (s : State) (i : Item) : State := s.tryDistrict (i.n 0)

/-- A plan without a POWER section: Kerbside is powered off, and every output that KH held is off (R27, R38). -/
def State.kerbAbsent (s : State) : State := { s.resetRegs 0x200B0000 0x200C0000 with kb := KbState.reset }

/-- A plan is activated at a device restart (R39). [Assumption 3: DESIGN CHOICE, unsafe. Assumption 34: DEDUCED, unsafe.] -/
def State.activatePlan (s : State) (items : List Item) (secs : List Nat) : State :=
  let s := { s with plan := items, up := { s.up with secs := secs }, ao := { s.ao with clkGated := [], pwrGated := absentBlocks secs, wakeIn := s.ao.wakeIn.filter (fun p => p.1 == 16) } }
  let s := if s.ao.pwrGated.contains 0xB then s.kerbAbsent else s
  let s := forAll (s.items 0x0E01) State.planRoute s
  let s := forAll (s.items 0x0301) State.planPair s
  let s := forAll (s.items 0x0502) State.planLin (forAll (s.items 0x0501) State.planPin s.planSwitch)
  let s := forAll (List.range 8) (fun s k => s.wr (Fd.NM_TRX_CTRL_STATE k) 2) s
  let s := forAll (s.items 0x0D01) State.planRing (forAll (s.items 0x0C01) State.planCan s)
  s.planTwin.planPools

/-- The cores start at the entry of Town Hall, of the bank that runs (R321, R430). [Assumption 98: DEDUCED, unsafe.] -/
def State.startCores (s : State) (bank : Option Nat) : State :=
  let entry := (Config.townEntry (match bank with
    | some b => s.header b
    | none => [])).toNat
  forAll (List.range 8) (fun s c => s.startCore c entry) s

/-- Boot step 5: Courtyards are loaded, then the districts start. -/
def State.startTowns (s : State) (bank : Option Nat) : State :=
  let s := s.loadCourtyards bank
  forAll (s.items 0x0201) State.planDistrict s

end Sys2Proof.Machine
end

