-- ==== Sys2Proof/Machine/Roadworks.lean ====
section
/-! DEFINITION. Roadworks: the boot record, the delta and its apply, the choice of the bank, CONFIRM and the floor (R415 to R433). -/

namespace Sys2Proof.Machine

/-! ### The boot record (R426) -/

/-- The index of the copy in force: the valid one with the later SEQ. -/
def State.recSlotInForce (s : State) : Option Nat :=
  match s.up.rec0, s.up.rec1 with
  | some a, some b => some (if later b.seq a.seq then 1 else 0)
  | some _, none => some 0
  | none, some _ => some 1
  | none, none => none

/-- The record in force; before the first is written, bank A boots. [Assumption 39: DEDUCED, unsafe.] -/
def State.bootRec (s : State) : BootRec :=
  match s.recSlotInForce with
  | some 1 => s.up.rec1.getD ⟨0, 0, 0, 0⟩
  | some _ => s.up.rec0.getD ⟨0, 0, 0, 0⟩
  | none => ⟨0, 0, 0, 0⟩

/-- The record is written into the copy that is not in force, with the next SEQ; the SEQ of the first is left open.
[Assumption 39: DEDUCED, unsafe.] -/
def State.writeRec (s : State) (lastGood bootBank trial : Nat) : State :=
  match s.recSlotInForce with
  | some 0 => { s with up := { s.up with rec1 := some ⟨(s.bootRec.seq + 1) % 65536, lastGood, bootBank, trial⟩ } }
  | some _ => { s with up := { s.up with rec0 := some ⟨(s.bootRec.seq + 1) % 65536, lastGood, bootBank, trial⟩ } }
  | none => ({ s with up := { s.up with rec0 := some ⟨s.freeNat % 65536, lastGood, bootBank, trial⟩ } }).draw

/-- The 16 bytes of a copy (Table 19-6). -/
def BootRec.bytes (r : BootRec) : List Byte :=
  let b := leBytes 4 0x52425752 ++ leBytes 2 r.seq ++ [BitVec.ofNat 8 r.lastGood, BitVec.ofNat 8 r.bootBank, BitVec.ofNat 8 r.trial, 0, 0, 0]
  b ++ leBytes 4 (crc32 b)

/-! ### Bank states -/

def otherBank (b : Nat) : Nat := 1 - b % 2
def State.bankState (s : State) (b : Nat) : Nat := if b = 0 then s.up.stA else s.up.stB
def State.setBank (s : State) (b st : Nat) : State :=
  if b = 0 then ({ s with up := { s.up with stA := st } }).wr Fd.UP_STATUS_STATE_A st
  else ({ s with up := { s.up with stB := st } }).wr Fd.UP_STATUS_STATE_B st
def State.idleBank (s : State) : Nat := otherBank s.runningBank

/-- A bank that is INVALID and no longer STAGED has no class. -/
def State.invalidate (s : State) (b : Nat) : State :=
  let s := s.setBank b 5
  if b = s.idleBank then s.wr Fd.UP_STATUS_CLASS 0 else s

/-! ### The class of an update (R39, R425) -/

/-- The sections of a plan as they stand, without ENVELOPES. -/
def planSections (fuel : Nat) (bs : List Byte) : List (List Byte) :=
  match fuel with
  | 0 => []
  | fuel + 1 =>
    if bs.isEmpty then []
    else
      let len := max 8 (leNat ((bs.drop 4).take 4))
      let rest := planSections fuel (bs.drop len)
      if leNat (bs.take 1) = 0x10 then rest else bs.take len :: rest
/-- [Assumption 42: DEDUCED, unsafe.] -/
def planStructure (p : List Byte) : List (List Byte) := planSections 17 ((p.take (planLength p)).drop 64)

/-- The plan of bank `b` is the running plan, or an envelope-only plan under it (R39). [Assumption 42: DEDUCED, unsafe.] -/
def State.envelopeOnly (s : State) (b : Nat) : Bool :=
  s.rd Fd.TP_STATUS_STATE != 3 && planStructure (s.planBytes b) == planStructure (s.planBytes s.runningBank)

/-- CLASS of a staged bank: 1 management, 2 full. [Assumption 42: DEDUCED, unsafe.] -/
def State.classOf (s : State) (b : Nat) : Nat :=
  let dir := fun (k ty : Nat) => (hdrDir (s.header k)).filter (fun e => e.ty == ty)
  let r := s.runningBank
  if dir b 2 = dir r 2 ∧ dir b 8 = dir r 8 ∧ s.envelopeOnly b then 1 else 2

/-! ### The delta (R421 to R423) -/

def deltaTarget (d : List Byte) : Nat := leNat ((d.drop 0x28).take 4)
def deltaSections (d : List Byte) : Nat := leNat ((d.drop 0x2C).take 2)

/-- The header meets Table 19-4. -/
def deltaHeaderOk (d : List Byte) : Bool :=
  let n := deltaTarget d
  decide (0x60 ≤ d.length) && leNat (d.take 4) == 0x4C445752 && leNat ((d.drop 4).take 2) == 1 && leNat ((d.drop 6).take 2) == 0x4096 &&
  n % 0x1000 == 0 && decide (0x2000 ≤ n) && decide (n ≤ imageEnd) && decide (1 ≤ deltaSections d) &&
  ((d.drop 0x2E).take 2).all (· == 0) && ((d.drop 0x50).take 16).all (· == 0)

/-- The output of a record of `len` bytes from `src` of the running bank, with its data (Table 19-5). -/
def State.recordOut (s : State) (op src len : Nat) (data : List Byte) : List Byte :=
  let a := bankBase s.runningBank + src
  match op with
  | 1 => s.bytes a len
  | 2 => List.zipWith (· + ·) (s.bytes a len) data
  | _ => data

/-- A record is within R423: `room` bytes of target are left. -/
def recordOk (op resv src len room : Nat) (pad : List Byte) : Bool :=
  decide (1 ≤ op) && decide (op ≤ 3) && resv == 0 && decide (1 ≤ len) && decide (len ≤ 0x1000000) && decide (len ≤ room) &&
  (if op = 3 then src == 0 else decide (src + len ≤ imageEnd)) && pad.all (· == 0)

/-- What `n` records write, from the bytes of their section at delta offset `pos`; or the offset of the first that breaks R423. -/
def State.records (s : State) (n pos room : Nat) (bs out : List Byte) : Except Nat (List Byte) :=
  match n with
  | 0 => if bs.isEmpty then .ok out else .error pos
  | n + 1 =>
    let op := leNat (bs.take 1)
    let src := leNat ((bs.drop 4).take 4)
    let len := leNat ((bs.drop 8).take 4)
    let size := if op = 1 then 0 else len
    let full := 12 + (size + 3) / 4 * 4
    let pad := (bs.drop (12 + size)).take (full - 12 - size)
    if bs.length < full ∨ !recordOk op (leNat ((bs.drop 1).take 3)) src len room pad then .error pos
    else
      s.records n (pos + full) (room - len) (bs.drop full) (out ++ s.recordOut op src len ((bs.drop 12).take len))

/-- Sectors of 64 KiB are erased as the cursor enters them. -/
def sector (a : Nat) : Nat := (a + 0xFFFF) / 0x10000 * 0x10000

/-- A section's output written to the inactive bank from the cursor, the first 4 KiB of target held back. -/
def State.writeTarget (s : State) (cursor : Nat) (out : List Byte) : State :=
  let base := bankBase s.idleBank
  let s := s.clearMem (base + sector cursor) (base + sector (cursor + out.length))
  s.store (base + max cursor 0x1000) (out.drop (0x1000 - cursor))

/-- A failing item of an apply. [Assumption 44: DEDUCED, unsafe.] -/
def Apply.fail (code sec pos : Nat) : Apply := ⟨code, sec, pos, []⟩

/-- The section at offset `pos` of the delta meets R422: its hash is `want`, and the last one ends the delta with a NEXT of zero. -/
def sectionOk (last : Bool) (len : Nat) (d want : List Byte) : Bool :=
  decide (40 ≤ len) && decide (len ≤ d.length) && decide (1 ≤ leNat ((d.drop 4).take 2)) && ((d.drop 6).take 2).all (· == 0) &&
  sha256 (d.take len) == want && (!last || ((d.take len).drop (len - 32)).all (· == 0) && len == d.length)

/-- Step 3 and 4 of R424 for `n` sections from section `i` at offset `pos`, whose bytes and those of the rest are `d`.
[Assumption 44: DEDUCED, unsafe.] -/
def State.applySecs (s : State) (n i pos cursor target : Nat) (want d head : List Byte) : State × Apply :=
  match n with
  | 0 => (s, if hdrOk head then ⟨Code.DONE, 0, 0, head⟩ else Apply.fail Code.IMAGE_FORMAT 0xFFFF 0)
  | n + 1 =>
    let len := leNat (d.take 4)
    let body := ((d.take len).drop 8).take (len - 40)
    if !sectionOk (n == 0) len d want then (s, Apply.fail Code.CHAIN_BROKEN i pos)
    else match s.records (leNat ((d.drop 4).take 2)) (pos + 8) (target - cursor) body [] with
    | .error p => (s, Apply.fail Code.BAD_RECORD i p)
    | .ok out =>
      let cur := cursor + out.length
      if n = 0 ∧ cur ≠ target then (s, Apply.fail Code.BAD_RECORD i (pos + len - 32))
      else
        let s := (s.writeTarget cursor out).wr Fd.UP_PROGRESS_VALUE cur
        s.applySecs n (i + 1) (pos + len) cur target ((d.take len).drop (len - 32)) (d.drop len) (head ++ out.take (0x1000 - cursor))

/-! ### APPLY (R424, R425) -/

def State.upSrc (s : State) : Nat := (s.reg Rg.UP_SRC_LO).toNat + 2 ^ 32 * s.rd Fd.UP_SRC_HI_VALUE
def State.upLen (s : State) : Nat := (s.reg Rg.UP_SRC_LEN).toNat

/-- An operation of UP_CMD has ended. -/
def State.upEnd (s : State) (code : Nat) : State := ((s.wr Fd.UP_CMD_RESULT code).wr Fd.UP_CMD_DONE 1).upLevels

/-- An apply has failed: the bank is INVALID. [Assumption 44: DEDUCED, unsafe.] -/
def State.applyFailed (s : State) (x : Apply) : State :=
  let s := { s with up := { s.up with apply := none } }
  let s := ((s.wr Fd.UP_FAIL_CODE x.code).wr Fd.UP_FAIL_SECTION x.sec).setReg Rg.UP_FAIL_POS (BitVec.ofNat 32 x.pos)
  (s.invalidate s.idleBank).upEnd x.code

/-- Step 1 of R424; DONE where it passes. A delta outside DRAM is none. [Assumption 44: DEDUCED, unsafe.] -/
def State.applyCode (s : State) (d : List Byte) : Nat :=
  if placeOf s.upSrc ≠ .dram ∨ placeOf (s.upSrc + s.upLen - 1) ≠ .dram ∨ s.upLen = 0 then Code.IMAGE_FORMAT
  else if s.poisoned s.upSrc s.upLen then Code.POISONED
  else if !deltaHeaderOk d then Code.IMAGE_FORMAT
  else if (d.drop 8).take 32 ≠ s.measReg then Code.SOURCE_MISMATCH
  else Code.DONE

/-- An accepted apply: step 1; then the header sector is erased and the sections are worked through.
[Assumption 43: DESIGN CHOICE, unsafe.] -/
def State.startApply (s : State) : State :=
  let d := s.bytes s.upSrc s.upLen
  let s := (s.wr Fd.UP_CMD_RESULT Code.BUSY).wr Fd.UP_PROGRESS_VALUE 0
  let code := s.applyCode d
  if code ≠ Code.DONE then s.applyFailed (Apply.fail code 0xFFFF 0)
  else
    let b := s.idleBank
    let s := ((s.clearMem (bankBase b) (bankBase b + 0x1000)).setBank b 1).wr Fd.UP_STATUS_CLASS 0
    let r := s.applySecs (deltaSections d) 0 0x60 0 (deltaTarget d) ((d.drop 0x30).take 32) (d.drop 0x60) []
    { r.1 with up := { r.1.up with apply := some r.2 } }

/-- The last byte of the bank header is programmed: the commit point (R425); the rest of the image area is left erased (R423).
[Assumption 43: DESIGN CHOICE, unsafe.] -/
def State.applyCommit (s : State) (x : Apply) : State :=
  let b := s.idleBank
  let s := s.clearMem (bankBase b + sector (s.rd Fd.UP_PROGRESS_VALUE)) (bankBase b + imageEnd)
  let s := (s.store (bankBase b) x.head).setBank b 2
  let s := s.wr Fd.UP_STATUS_CLASS (s.classOf b)
  ({ s with up := { s.up with apply := none } }).upEnd Code.DONE

def execApplyCommit (s : State) : Host.Outcome State Fault Refusal :=
  .next (match s.up.apply with
    | some x => if x.code = Code.DONE then s.applyCommit x else s
    | none => s)

def execApplyFailure (mismatch : Bool) (sec : BitVec 16) (pos : Word) (s : State) : Host.Outcome State Fault Refusal :=
  .next (match s.up.apply with
    | some x => if mismatch then s.applyFailed (Apply.fail Code.POISONED sec.toNat pos.toNat) else if x.code ≠ Code.DONE then s.applyFailed x else s
    | none => s)

/-- ABORT (R425, R431). [Assumption 45: DEDUCED, unsafe.] -/
def State.updateAbort (s : State) : State :=
  if s.up.apply.isSome then
    (({ s with up := { s.up with apply := none } }).invalidate s.idleBank).upEnd Code.CANCELLED
  else if s.up.actAt.isSome then ({ s with up := { s.up with actAt := none } }).upEnd Code.CANCELLED
  else s.wr Fd.UP_CMD_RESULT Code.ALREADY_DONE

/-! ### The floor and CONFIRM (R428) -/

def State.setFloor (s : State) (n : Nat) : State :=
  (({ s with otp := { s.otp with floor := n } }).wr Fd.UP_FLOOR_FLOOR n).wr Fd.TP_EPOCH_FLOOR n

/-- Positions are burned until the floor equals the lower EPOCH; it never falls. -/
def State.burn (s : State) : State :=
  s.setFloor (max s.otp.floor (min 512 (min (hdrEpoch (s.header s.runningBank)) (s.rd Fd.TP_EPOCH_EPOCH))))

/-- An inactive bank whose EPOCH lies below the floor becomes INVALID. -/
def State.dropOld (s : State) : State :=
  let b := s.idleBank
  if hdrOk (s.header b) ∧ hdrEpoch (s.header b) < s.otp.floor then s.invalidate b else s

def State.confirm (s : State) : State :=
  let s := s.writeRec s.bootRec.lastGood s.bootRec.bootBank 0
  ((s.setBank s.runningBank 4).burn.dropOld).upEnd Code.DONE

/-! ### UP_CMD (R424, R428, R429, R431) -/

def State.anyTrial (s : State) : Bool := s.up.stA == 3 || s.up.stB == 3
def State.upTime (s : State) : Nat := (s.reg Rg.UP_TIME_LO).toNat + 2 ^ 32 * (s.reg Rg.UP_TIME_HI).toNat

/-- ACTIVATE AT, beyond R429 (R431). -/
def State.atCode (s : State) : Nat :=
  if s.rd Fd.UP_MODE_MODE = 0 ∧ s.rd Fd.TP_STATUS_STATE ≠ 3 then Code.NOT_STATIONARY
  else if s.rd Fd.SQ_AS_STATUS_STATE ≠ 2 then Code.WRONG_STATE
  else if s.upTime < s.vt + 100 * ms ∨ s.vt + 60 * sec < s.upTime then Code.OUT_OF_RANGE
  else Code.DONE

/-- Step 8 of Table 03-2 for a write of OP. [Assumption 45: DEDUCED, unsafe.] -/
def State.upCmdCode (s : State) (op : Nat) : Nat :=
  let r := s.rd Fd.UP_CMD_RESULT
  if (r = Code.BUSY ∨ r = Code.ACCEPTED) ∧ op ≠ 5 then Code.BUSY
  else match op with
  | 1 => if s.anyTrial || s.up.actAt.isSome then Code.WRONG_STATE else Code.DONE
  | 2 => if s.bankState s.idleBank ≠ 2 || s.anyTrial then Code.WRONG_STATE else Code.DONE
  | 3 => if s.bankState s.idleBank ≠ 2 || s.anyTrial then Code.WRONG_STATE else s.atCode
  | 4 => if s.bankState s.runningBank ≠ 3 then Code.WRONG_STATE else Code.DONE
  | _ => Code.DONE

/-- What an accepted OP does; `now` is ACTIVATE_NOW. [Assumption 45: DEDUCED, unsafe.] -/
def State.upOp (s : State) (op : Nat) (now : State → State) : State :=
  let s := s.upLevels
  match op with
  | 1 => s.startApply
  | 2 => now s
  | 3 => ({ s with up := { s.up with actAt := some s.upTime } }).wr Fd.UP_CMD_RESULT Code.ACCEPTED
  | 4 => s.confirm
  | 5 => s.updateAbort
  | _ => s

def State.upCmdWrite (s : State) (who : Who) (bytes : Nat) (w : Word) (now : State → State) : State :=
  let op := w.toNat % 8
  s.regWrite who bytes Rg.UP_CMD w false false (s.upCmdCode op) (fun s => s.upOp op now)

/-- A write of OP, with DONE cleared or not. -/
def upWord (op : Nat) (clr : Bool) : Word := BitVec.ofNat 32 (op + if clr then 0x8000 else 0)

def execApply (who : Who) (clr : Bool) (s : State) : Host.Outcome State Fault Refusal := .next (s.upCmdWrite (s.issuer who) 4 (upWord 1 clr) id)
def execUpdateAbort (who : Who) (clr : Bool) (s : State) : Host.Outcome State Fault Refusal := .next (s.upCmdWrite (s.issuer who) 4 (upWord 5 clr) id)
def execActivateAt (who : Who) (clr : Bool) (s : State) : Host.Outcome State Fault Refusal := .next (s.upCmdWrite (s.issuer who) 4 (upWord 3 clr) id)
def execConfirm (who : Who) (clr : Bool) (s : State) : Host.Outcome State Fault Refusal := .next (s.upCmdWrite (s.issuer who) 4 (upWord 4 clr) id)

/-! ### The other UP_ registers (R431, R433) -/

/-- UP_TIME: a write while ACTIVATE AT is pending is BUSY. [Assumption 46: DEDUCED, unsafe.] -/
def State.upTimeWrite (s : State) (who : Who) (bytes : Nat) (high : Bool) (w : Word) : State :=
  s.regWrite who bytes (if high then Rg.UP_TIME_HI else Rg.UP_TIME_LO) w false false (if s.up.actAt.isSome then Code.BUSY else Code.DONE) id

/-- UP_SRC: the address is 4 KiB aligned, the length from 0x80 to 0x1000_0000. -/
def State.upSrcWrite (s : State) (who : Who) (bytes k : Nat) (w : Word) : State :=
  let n := w.toNat
  let bad := (k == 0 && n % 0x1000 != 0) || (k == 2 && (decide (n < 0x80) || decide (0x10000000 < n)))
  s.regWrite who bytes (Rg.UP_SRC_LO + 4 * k) w false (bad && w != s.reg (Rg.UP_SRC_LO + 4 * k)) Code.DONE id

/-- UP_MODE: MODE NORMAL ends a pending ACTIVATE AT (R431). -/
def State.upModeWrite (s : State) (who : Who) (bytes : Nat) (w : Word) : State :=
  s.regWrite who bytes Rg.UP_MODE w false false Code.DONE (fun s =>
    if w.toNat % 4 = 0 ∧ s.up.actAt.isSome then ({ s with up := { s.up with actAt := none } }).upEnd Code.CANCELLED else s)

/-! ### The choice of the bank (R427) -/

/-- What the boot ROM has chosen: the bank, or none for the recovery plan; OUTCOME and CODE of UP_BOOT; whether a trial runs. -/
structure Choice where
  bank : Option Nat
  code : Nat
  trial : Bool
  deriving DecidableEq, Repr

/-- check(b): the slot is loaded alone, then the bank is checked. [Assumption 41: DEDUCED, unsafe.] -/
def State.checkBank (s : State) (b : Nat) : State × Nat :=
  let s := s.loadBankKey b
  (s, s.bankCode b)

/-- check(b) for the bank that BOOT_BANK and TRIAL name, and for the other one where it fails; BOOT_BANK and TRIAL are written.
[Assumption 39: DEDUCED, unsafe.] -/
def State.tryBanks (s : State) (b trial code : Nat) : State × Choice :=
  let r := s.checkBank b
  if r.2 = Code.DONE then (r.1.writeRec s.bootRec.lastGood b trial, ⟨some b, code, trial == 2⟩)
  else
    let s := if trial = 2 then r.1.setBank b 5 else r.1
    let t := s.checkBank (otherBank b)
    (t.1.writeRec s.bootRec.lastGood (otherBank b) 0, ⟨if t.2 = Code.DONE then some (otherBank b) else none, r.2, false⟩)

/-- [Assumption 39: DEDUCED, unsafe.] -/
def State.chooseBank (s : State) : State × Choice :=
  let r := s.bootRec
  if r.trial = 2 then (s.setBank r.bootBank 5).tryBanks (otherBank r.bootBank) 0 Code.TRIAL_REVERTED
  else s.tryBanks r.bootBank (if r.trial = 1 then 2 else 0) 0

/-- OUTCOME and CODE are recorded, and source 65 is asserted. -/
def State.showBoot (s : State) (outcome code : Nat) : State :=
  (((s.wr Fd.UP_BOOT_OUTCOME outcome).wr Fd.UP_BOOT_CODE code).wr Fd.UP_BOOT_NEW 1).upLevels

/-- UP_STATUS.RUNNING and UP_MEAS. [Assumption 41: DEDUCED, unsafe.] -/
def State.runBank (s : State) (b : Nat) : State := (s.wr Fd.UP_STATUS_RUNNING b).showDigest Rg.UP_MEAS (s.measure b)

/-- The state of the bank that does not run, as a boot finds it. [Assumption 38: DESIGN CHOICE, unsafe.] -/
def State.idleState (s : State) (b : Nat) : Nat :=
  let h := s.header b
  let kept := s.bankState b
  if kept = 1 ∨ kept = 5 then 5
  else if h.all (· == 0xFF) then 0
  else if !hdrOk h || decide (hdrEpoch h < s.otp.floor) then 5
  else if kept = 2 then 2
  else 4

/-- The states of both banks and CLASS, once bank `b` runs, on trial or not; none is the recovery plan.
[Assumption 38: DESIGN CHOICE, unsafe.] -/
def State.showBanks (s : State) (b : Nat) (running trial : Bool) : State :=
  let o := otherBank b
  let s := s.setBank b (if !running then s.idleState b else if trial then 3 else 4)
  let s := s.setBank o (s.idleState o)
  s.wr Fd.UP_STATUS_CLASS (if s.bankState o = 2 then s.classOf o else 0)

end Sys2Proof.Machine
end

