-- ==== Sys2Proof/Machine/Lamplighter.lean ====
section
/-! DEFINITION. Lamplighter: power states, supply, wakes, sleep, resets, the watchdog, block power, and the log (R69 to R93). -/

namespace Sys2Proof.Machine

/-! ### Loss of power (R16, R75, R81, R89) -/

/-- Registers that outlive MAIN: the AO_ page, the PD_ page as far as KH holds channels, the NM_ page until the boot, FAULT_OUT (R337),
the line reports and the straps (R458, R469), and the last plan rejection (R40). [Assumption 168: DEDUCED, unsafe.] -/
def outlivesMain (a : Nat) : Bool :=
  a / 0x10000 == 0x2002 || (a / 0x10000 == 0x200B && decide (a % 0x10000 < 0xFFF0)) || a / 0x10000 == 0x200D || a == Rg.CP_FAULT_OUT || a == Rg.SYS_X_STATUS ||
  (decide (0x20000200 ≤ a) && decide (a < 0x20000300)) || a == Rg.TP_FAIL || a == Rg.TP_FAIL_LOC

/-- A latched BLANK is kept until power-on (R213). -/
def State.mainShop (s : State) : State :=
  let latched := (List.range 2).filter (fun d => (s.dsp d).dec == 3)
  let s := { s with sf := SfState.reset, regs := s.regs.filter (fun p => outlivesMain p.1) }
  forAll latched (fun s d => (s.setDsp d { s.dsp d with dec := 3 }).wr (Fd.SF_INTEG_STATE_DSTATE d) 3) s

/-- The last heartbeat before NET is off: at the sleep commit with SLEEP, at a supply loss with SUPPLY_LOSS (R437, R439). -/
def State.sayLast (s : State) (sleep supplyLoss : Bool) : State :=
  if s.dev == .active && s.flag Fd.UX_STATUS_CONFIG && !s.gated 0xF && !s.gated 8 then
    let h : Heartbeat := ⟨s.flag Fd.UX_STATUS_ROLE, s.flag Fd.UX_STATUS_PRIMARY, sleep, supplyLoss, decide (2 ≤ s.rd Fd.SYS_X_STATUS_STRAP)⟩
    { s with ux := { s.ux with hbOut := some h, hbSentAt := s.now } }
  else s

/-- MAIN, NET, MIRROR and PWR are off: what they hold is lost; MRAM, OTP, flash and the running plan's text stay (R81, R89).
A sleep request that was pending ends without a result. [Assumption 168: DEDUCED, unsafe.] -/
def State.mainOff (s : State) : State :=
  let s := if s.ao.sleepDue.isSome then s.wr Fd.AO_SLEEP_RESULT 0 else s
  let s := if s.dev == .active && !s.gated 0xC then s.beatsStop else s
  let s := (s.mainShop.ksDown.clearMem 0x10000000 0x20000000).clearMem 0x80000000 0x400000000
  { s with
    ep := EpState.reset, wg := { WgState.reset with poison := s.wg.poison, single := s.wg.single }, ic := IcState.reset
    pn := PinState.reset, can := CanState.reset, sw := SwState.reset, ptp := TimeState.reset, cp := CpState.reset, shadows := []
    ux := { UxState.reset with hbOut := s.ux.hbOut, hbSentAt := s.ux.hbSentAt }
    up := { s.up with apply := none, actAt := none }, ao := { s.ao with sleepDue := none, clkGated := [], pwrGated := [], dspLine := [] } }

/-- Nothing is powered: only MRAM, OTP and flash keep what they hold (Table 04-1, R81). -/
def State.allLost (s : State) : State :=
  { State.reset with
    pending := s.pending, now := s.now, resp := s.resp, fresh := s.fresh, otp := s.otp
    mem := s.mem.filter (fun c => decide (0x40000000 ≤ c.1) && decide (c.1 < 0x60000000))
    wg := { WgState.reset with
      poison := s.wg.poison.filter (fun w => decide (0x40000000 ≤ 8 * w) && decide (8 * w < 0x60000000))
      single := s.wg.single.filter (fun w => decide (0x40000000 ≤ 8 * w) && decide (8 * w < 0x60000000)) }
    up := { UpState.reset with rec0 := s.up.rec0, rec1 := s.up.rec1, stA := s.up.stA, stB := s.up.stB }
    ao := { AoState.reset with words0 := s.ao.words0, words1 := s.ao.words1, log := s.ao.log, logNext := s.ao.logNext }
    ks := { KsState.reset with drbgOk := s.ks.drbgOk } }

/-! ### Supply thresholds (R71, Table 04-2) -/

/-- The code of a strap class in SYS_X_STATUS. -/
def strapCode (x : Strap) : Nat :=
  match x with
  | .unitA => 0
  | .unitB => 1
  | .shortGnd => 2
  | .open_ => 3
  | .shortBat => 4
  | .outOfBand => 5

/-- The supply rises through LAMP: Lamplighter starts, and samples PAIR_ROLE and SVC_EN (R71, R81, R458, R461). The supply is below FULL, and
the boot waits for MAIN_UV. [Assumption 48: DESIGN CHOICE, unsafe. Assumption 49: DEDUCED, unsafe.] -/
def State.powerOn (s : State) (strap : Strap) (svc : Bool) : State :=
  if s.dev ≠ .off then s
  else
    let brown := s.ao.causes.contains 2
    let s := { s.allLost with dev := .standby }
    let s := ((s.wr Fd.AO_STATE_REDUCED 1).wr Fd.AO_WAKE_CAUSE_POWER_ON 1).setFlag Fd.AO_RESET_CAUSE_BOR brown
    let s := (s.wr Fd.SYS_X_STATUS_STRAP (strapCode strap)).setFlag Fd.SYS_X_STATUS_SVC svc
    { s with ao := { s.ao with underVolt := true, causes := [1], wdtKick := s.now } }

def execPowerOnStart (strap : Strap) (svc : Bool) (s : State) : Host.Outcome State Fault Refusal := .next (s.powerOn strap svc)

/-- The supply falls through LAMP: the device is Off. [Assumption 49: DEDUCED, unsafe.] -/
def State.brownOut (s : State) : State :=
  if s.dev = .off then s
  else
    let s := s.allLost
    { s with ao := { s.ao with causes := [2] } }

def execBrownOutReset (s : State) : Host.Outcome State Fault Refusal := .next s.brownOut

/-- Below FULL: MIRROR and the UPA, UPB and PLK PHYs are powered off. -/
def State.reduce (s : State) : State :=
  if s.dev = .off ∨ s.flag Fd.AO_STATE_REDUCED then s
  else
    let s := if s.mirrorOn then s.mirrorDown else s
    ((((s.wr Fd.AO_STATE_REDUCED 1).linkDown 0).linkDown 1).linkDown 22).linkDown 20

/-- [Assumption 58: DEDUCED, unsafe.] -/
def execReducedFunctionEnter (s : State) : Host.Outcome State Fault Refusal := .next s.reduce

/-- Above FULL: they are restored per plan; a link returns by its own command (R463). [Assumption 58: DEDUCED, unsafe.] -/
def State.restore (s : State) : State :=
  if s.dev = .off ∨ !s.flag Fd.AO_STATE_REDUCED then s
  else
    let s := s.wr Fd.AO_STATE_REDUCED 0
    if s.mirrorOn then s.innerLinks.mirrorUp else s

def execReducedFunctionExit (s : State) : Host.Outcome State Fault Refusal := .next s.restore

/-- MAIN is to power up, and the boot sets cause bit `b` beside those that stand (Table 04-5). -/
def State.bootsWith (s : State) (b : Nat) : State := { s with ao := { s.ao with booting := true, causes := insertNat s.ao.causes b } }

/-- The supply-loss sequence, which ends with the supply back or away (R76, R87, R88). -/
def State.supplyLoss (s : State) (feedA feedB : Nat) (supply : SupplyBack) : State :=
  if s.dev = .off ∨ s.dev = .parked then s
  else
    let t := s.vt
    let s := (s.allOff.lastWords 1 feedA feedB t)
    let s := { s with ao := { s.ao.commitLog s.ao.logOpen with logOpen := [] } }
    let s := (s.sayLast false true).mainOff.kerbLost
    let s := { (s.resetRegs 0x200B0000 0x200C0000) with dev := .standby }
    let s := { s.wr Fd.AO_STATE_REDUCED 1 with ao := { s.ao with lossBoot := true, booting := false, causes := s.ao.causes.filter (· != 7) } }
    match supply with
    | .back => ({ (s.wr Fd.AO_WAKE_CAUSE_SUPPLY_RETURN 1).wakeLevel with ao := { s.ao with underVolt := false } }).bootsWith 5
    | .away => { s with ao := { s.ao with underVolt := true } }

def execSupplyLossSequence (feedA feedB : BitVec 16) (supply : SupplyBack) (s : State) : Host.Outcome State Fault Refusal :=
  .next (s.supplyLoss feedA.toNat feedB.toNat supply)

/-- The supply rises through MAIN_UV: a boot, when the device is not Active.
[Assumption 48: DESIGN CHOICE, unsafe. Assumption 58: DEDUCED, unsafe.] -/
def State.supplyReturn (s : State) : State :=
  if s.dev = .off then s
  else
    let s := (s.wr Fd.AO_WAKE_CAUSE_SUPPLY_RETURN 1).wakeLevel
    let s := { s with ao := { s.ao with underVolt := false } }
    if s.dev = .active then s else if s.ao.lossBoot then s.bootsWith 5 else s.boots 7

def execSupplyReturn (s : State) : Host.Outcome State Fault Refusal := .next s.supplyReturn

/-! ### Wakes (R72, R73, R288, R305) -/

def State.wakeInAt (s : State) (k : Nat) : WakeIn := tget (fun _ => WakeIn.reset) s.ao.wakeIn k
def State.setWakeIn (s : State) (k : Nat) (w : WakeIn) : State :=
  { s with ao := { s.ao with wakeIn := tset (fun _ => WakeIn.reset) s.ao.wakeIn k w } }

/-- The record of an input after one LP cycle that found it active or not; it may qualify again after `need` inactive cycles in a row. -/
def wakeCycle (w : WakeIn) (active : Bool) (need : Nat) : WakeIn :=
  if active then { w with run := min (w.run + 1) 2, idle := 0 }
  else
    let idle := min (w.idle + 1) 2
    { w with run := 0, idle := idle, held := w.held && decide (idle < need) }

/-- The input has been active for 2 LP cycles in a row and may qualify (R72, R305). -/
def wakeQualifies (w : WakeIn) : Bool := w.run == 2 && !w.held

/-- One LP cycle of IGN: active above 10.0 V, inactive below 5.0 V, and as before between (R72, R457). -/
def State.ignSample (s : State) (mv : Nat) : State :=
  let active := decide (10000 < mv) || (decide (5000 ≤ mv) && s.flag Fd.SYS_X_STATUS_IGN)
  let s := s.setFlag Fd.SYS_X_STATUS_IGN active
  let w := wakeCycle (s.wakeInAt 16) active 1
  if wakeQualifies w then
    let s := s.setWakeIn 16 { w with held := true }
    (if s.dev = .active then s.localWake 16 else s).qualifiedWake 27
  else s.setWakeIn 16 w

/-- A WAKE_IN pin is active: EDGE 1 while closed, 2 while open, 3 while it differs from the level kept (R305). -/
def edgeActive (edge : Nat) (level : Option Bool) (closed : Bool) : Bool :=
  match edge with
  | 1 => closed
  | 2 => !closed
  | 3 => closed != level.getD closed
  | _ => false

/-- One LP cycle of a pin that the plan makes WAKE_IN (R305): below 0.6 V it reads closed. -/
def State.pinSample (s : State) (k mv : Nat) : State :=
  let edge := itemN (s.item 0x0501 k) 2 % 4
  let closed := decide (mv < 600)
  let w := s.wakeInAt k
  let active := edgeActive edge w.level closed
  let w := wakeCycle { w with level := some (w.level.getD closed) } active 2
  if wakeQualifies w then
    let s := s.setWakeIn k { w with held := edge != 3, level := some closed, run := if edge = 3 then 0 else 2 }
    (if s.dev = .active then s.localWake k else s).qualifiedWake k
  else s.setWakeIn k w

/-- The voltages that IGN or a pin showed at the LP cycles since this source was last told of, or at the RC samples while LP_OK reads 0
(R72, R305). [Assumption 54: DEDUCED, unsafe.] -/
def State.wakeQualified (s : State) (src : WakeSource) (mv : List (BitVec 16)) : State :=
  if s.dev = .off then s
  else match src with
  | .ign => forAll mv (fun s v => s.ignSample v.toNat) s
  | .pin k => if itemN (s.item 0x0501 k.val) 1 = 2 then forAll mv (fun s v => s.pinSample k.val v.toNat) s else s

def execWakeQualified (edge : WakeEdge) (s : State) : Host.Outcome State Fault Refusal :=
  .next (s.wakeQualified edge.src edge.mv)

/-- A value has crossed into the LP domain at time `t` (R78): the timer is armed with it, or disarmed.
[Assumption 51: DEDUCED, unsafe.] -/
def State.lpArrive (s : State) (t ack w : Nat) : State :=
  { s.wr Fd.AO_WAKE_TIMER_COUNT w with ao := { s.ao with timerArm := t, lpAck := ack } }

/-- The pulses into the LP domain that have arrived by now take effect. -/
def State.lpSettle (s : State) : State :=
  let come := s.ao.lpSent.filter (fun p => decide (p.1 ≤ s.now))
  let s := { s with ao := { s.ao with lpSent := s.ao.lpSent.filter (fun p => decide (s.now < p.1)) } }
  forAll come (fun s p => s.lpArrive p.1 p.2.1 p.2.2) s

/-- When the timer expires, as the LP domain has it armed. -/
def State.timerEnd (s : State) : Option Nat :=
  let n := s.rd Fd.AO_WAKE_TIMER_COUNT
  if n = 0 then none else some (s.ao.timerArm + n * sec / 1024)

/-- The pulses that arrive before the timer expires arm it anew (R78). -/
def State.timerRearm (s : State) (l : List (Nat × Nat × Nat)) : State :=
  match l with
  | [] => s
  | p :: rest =>
    match s.timerEnd with
    | some e => if e < p.1 then s else (({ s with ao := { s.ao with lpSent := rest } }).lpArrive p.1 p.2.1 p.2.2).timerRearm rest
    | none => (({ s with ao := { s.ao with lpSent := rest } }).lpArrive p.1 p.2.1 p.2.2).timerRearm rest

/-- The wake timer expires, once (R93): the arm that stands when its time is over. [Assumption 50: DESIGN CHOICE, safe.] -/
def State.timerWake (s : State) : State :=
  if s.dev = .off then s
  else
    let t := s.timerRearm s.ao.lpSent
    match t.timerEnd with
    | none => s
    | some e => ((t.reach e).wr Fd.AO_WAKE_TIMER_COUNT 0).qualifiedWake 28

/-- [Assumption 50: DESIGN CHOICE, safe.] -/
def execWakeTimerExpiry (s : State) : Host.Outcome State Fault Refusal := .next s.timerWake

/-- The 32.768 kHz crystal has settled (R77). -/
def execLpCrystalSettled (s : State) : Host.Outcome State Fault Refusal :=
  .next (if s.dev = .off then s else s.wr Fd.AO_STATE_LP_OK 1)

/-- When the crossing into the LP domain is free again: the last acknowledgement is back. -/
def State.lpFree (s : State) : Nat :=
  match s.ao.lpSent.getLast? with
  | some p => p.2.1
  | none => s.ao.lpAck

/-- A write with one pulse crossing and one held stalls the bus until the held one is sent (R78). [Assumption 51: DEDUCED, unsafe.] -/
def State.lpStall (s : State) : State :=
  let s := s.lpSettle
  let first := if s.now < s.ao.lpAck then s.ao.lpAck else match s.ao.lpSent with
    | p :: _ => p.2.1
    | [] => 0
  let n := s.ao.lpSent.length + (if s.now < s.ao.lpAck then 1 else 0)
  if 2 ≤ n then (s.reach first).lpSettle else s

/-- AO_WAKE_TIMER: the value crosses into the LP domain (R78): it arrives 61.0 to 91.6 µs after its pulse is sent, and the acknowledgement
takes 10 to 15 ns back. [Assumption 51: DEDUCED, unsafe.] -/
def State.lpSend (s : State) (w : Nat) : State :=
  let at_ := max s.now s.lpFree + 61035 + s.freeNat % 30519
  let s := s.draw
  let ack := at_ + 10 + s.freeNat % 6
  { s.draw with ao := { s.ao with lpSent := s.ao.lpSent ++ [(at_, ack, w)] } }

/-- [Assumption 51: DEDUCED, unsafe. Assumption 52: DEDUCED, unsafe.] -/
def State.wakeTimerWrite (s : State) (who : Who) (bytes : Nat) (w : Word) : State :=
  s.regWrite who bytes Rg.AO_WAKE_TIMER w false false
    (if w ≠ 0 ∧ !s.flag Fd.AO_STATE_LP_OK then Code.LP_NOT_READY else Code.DONE)
    (fun t => (t.setReg Rg.AO_WAKE_TIMER (s.reg Rg.AO_WAKE_TIMER)).lpStall.lpSend w.toNat)

/-! ### Sleep (R74 to R76, R297) -/

/-- Some medium is in RING, LIMP or WAIT_SLEEP. -/
def State.mediaAwake (s : State) : Bool := (List.range 10).any (fun m => decide (1 ≤ s.medState m) && decide (s.medState m ≤ 3))

/-- A write that starts a request: TARGET 1 or 2. [Assumption 53: DEDUCED, unsafe.] -/
def State.sleepStart (s : State) (target drain : Nat) : State :=
  if target = 0 then s
  else if target = 1 ∧ !s.flag Fd.AO_STATE_LP_OK then s.wr Fd.AO_SLEEP_RESULT Code.LP_NOT_READY
  else if s.mediaAwake then s.wr Fd.AO_SLEEP_RESULT Code.WRONG_STATE
  else ({ s with ao := { s.ao with sleepDue := some (s.now + drain * ms) } }).wr Fd.AO_SLEEP_RESULT Code.ACCEPTED

/-- [Assumption 52: DEDUCED, unsafe.] -/
def State.sleepWrite (s : State) (who : Who) (bytes : Nat) (w : Word) : State :=
  s.regWrite who bytes Rg.AO_SLEEP w false false (if s.rd Fd.AO_SLEEP_RESULT = Code.ACCEPTED then Code.BUSY else Code.DONE)
    (fun s => s.sleepStart (w.toNat % 4) (getBits w.toNat 15 8))

def execSleepRequest (who : Who) (w : Word) (s : State) : Host.Outcome State Fault Refusal := .next (s.sleepWrite (s.issuer who) 4 w)

/-- What Parked keeps of the AO_ page: the causes, the wake timer, the state of the crystal and where the supply stands to FULL. -/
def State.parkedKeeps (s : State) : State :=
  let cause := s.reg Rg.AO_WAKE_CAUSE
  let reset := s.reg Rg.AO_RESET_CAUSE
  let timer := s.reg Rg.AO_WAKE_TIMER
  let lp := s.rd Fd.AO_STATE_LP_OK
  let low := s.rd Fd.AO_STATE_REDUCED
  let s := s.resetRegs 0x20020000 0x20030000
  let s := ((s.setReg Rg.AO_WAKE_CAUSE cause).setReg Rg.AO_RESET_CAUSE reset).setReg Rg.AO_WAKE_TIMER timer
  { (s.wr Fd.AO_STATE_LP_OK lp).wr Fd.AO_STATE_REDUCED low with ao := { s.ao with stage := [] } }

/-- The wait exceeds DRAIN_MS: the request ends with BUSY (R74). -/
def State.sleepBusy (s : State) : State := ({ s with ao := { s.ao with sleepDue := none } }).wr Fd.AO_SLEEP_RESULT Code.BUSY

/-- The drain has ended: the commit point (R74, R75), the log committed (R88), unless the wait has exceeded DRAIN_MS.
[Assumption 53: DEDUCED, unsafe.] -/
def State.sleepCommit (s : State) : State :=
  if s.ao.sleepDue.isNone ∨ !s.ep.inflight.isEmpty then s
  else if (s.ao.sleepDue.getD 0) < s.now then s.sleepBusy
  else
    let parked := s.rd Fd.AO_SLEEP_TARGET == 1
    let s := (s.kerbDown 1).ksSleep
    let s := { s with ao := { s.ao.commitLog s.ao.logOpen with logOpen := [] } }
    let s := (s.sayLast true false).mainOff
    if parked then { s.parkedKeeps with dev := .parked } else { s with dev := .standby }

def execSleepCommit (s : State) : Host.Outcome State Fault Refusal := .next s.sleepCommit

/-- DRAIN_MS are over with a command still in flight, or were over before the last one ended. [Assumption 53: DEDUCED, unsafe.] -/
def State.drainTimeout (s : State) : State :=
  match s.ao.sleepDue with
  | some t => if s.ep.inflight.isEmpty ∧ s.now ≤ t then s else (s.reach t).sleepBusy
  | none => s

def execSleepDrainTimeout (s : State) : Host.Outcome State Fault Refusal := .next s.drainTimeout

/-! ### Device restarts and the watchdog (R81, R82, R255) -/

/-- A device restart: Lay-by with cause 3, held through KH; the last-words record where there is one; then MAIN is reset. `bit` is the
cause bit of AO_RESET_CAUSE. -/
def State.deviceRestart (s : State) (bit : Nat) (trigger : Option Nat) : State :=
  let s := if s.dev = .active then (s.laybyAll 3).kerbDown 2 else s
  let s := match trigger with
    | some t => s.lastWords t (s.feedMv 0) (s.feedMv 1) s.vt
    | none => s
  let s := { s.mainOff with dev := .standby }
  s.bootsWith bit

/-- When the watchdog expires: between PERIOD_MS and PERIOD_MS + 0.2 ms after the last kick (R82); where in that span is open.
[Assumption 50: DESIGN CHOICE, safe.] -/
def State.wdtEnd (s : State) : Nat := s.ao.wdtKick + s.rd Fd.AO_WDT_PERIOD_MS * ms + s.freeNat % (ms / 5 + 1)

/-- An accepted write of AO_WDT restarts the count; one that comes as late as the expiry is too late, and the reset occurs (R82). -/
def State.wdtWrite (s : State) (who : Who) (bytes : Nat) (w : Word) : State :=
  let kick := w.toNat / 65536
  s.regWrite who bytes Rg.AO_WDT w false (kick != 0 && kick != 0x6C61) Code.DONE
    (fun t =>
      if s.ao.wdtKick + s.rd Fd.AO_WDT_PERIOD_MS * ms ≤ s.now then
        if s.wdtEnd ≤ s.now then s.draw.deviceRestart 3 (some 2) else { t.draw with ao := { t.ao with wdtKick := t.now } }
      else { t with ao := { t.ao with wdtKick := t.now } })

def execWatchdogKick (who : Who) (w : Word) (s : State) : Host.Outcome State Fault Refusal := .next (s.wdtWrite (s.issuer who) 4 w)

/-- The watchdog expires (R82). [Assumption 50: DESIGN CHOICE, safe.] -/
def State.wdtExpired (s : State) : State := (s.draw.reach s.wdtEnd).deviceRestart 3 (some 2)

/-- It counts wherever AO-RC is powered: Active and Standby. [Assumption 50: DESIGN CHOICE, safe.] -/
def execWatchdogExpiry (s : State) : Host.Outcome State Fault Refusal :=
  .next (if s.dev = .active ∨ s.dev = .standby then s.wdtExpired else s)

/-- AO_STATE.DEV_RESET. -/
def State.devResetWrite (s : State) (who : Who) (bytes : Nat) (w : Word) : State :=
  s.regWrite who bytes Rg.AO_STATE w false false Code.DONE (fun s => if tbit w.toNat 31 then s.deviceRestart 4 (some 3) else s)

def execSoftwareDeviceReset (who : Who) (w : Word) (s : State) : Host.Outcome State Fault Refusal := .next (s.devResetWrite (s.issuer who) 4 w)

/-! ### Block power (R85) -/

/-- The endpoint types whose commands go to block `n`. -/
def State.blockBusy (s : State) (n : Nat) : Bool := s.ep.inflight.any (fun c => epBlock (s.epAt c.ep).ty == n)

/-- The switch's links go down without power. [Assumption 143: DEDUCED, unsafe.] -/
def State.netDown (s : State) : State := forAll (List.range 24) State.linkDown s

/-- The signal pins and LIN masters are off. -/
def State.pinsDown (s : State) : State := { s with pn := PinState.reset }

/-- Block `n` loses its power: its state and its registers go; the last rejection stays with the rest of nothing.
[Assumption 55: DEDUCED, unsafe.] -/
def State.blockOff (s : State) (n : Nat) : State :=
  let s := match n with
    | 8 =>
      let s := forAll [8, 9] (fun s m => if s.medState m = 0 then s else s.medOff m) s
      let s := forAll (List.range 24) State.flushEnd s.netDown
      { s with sw := { SwState.reset with streams := s.sw.streams, shapers := s.sw.shapers } }
    | 9 =>
      let s := s.netDown
      { s with sw := { s.sw with frames := [], copies := [], conns := [], flushing := [], returns := [], streams := [], shapers := [] } }
    | 0xA => (if s.mirrorOn then s.mirrorDown else s).linkDown 20
    | 0xB => s.kerbDown 1
    | 0xC =>
      let s := if s.gated 0xC then s else s.beatsStop
      let s := forAll (List.range 8) (fun s m => if s.medState m = 0 then s else s.medOff m) s
      { s.linkDown 21 with can := CanState.reset }
    | 0xD => { s with nm := { NmState.reset with trx := s.nm.trx } }
    | 0xE => s.pinsDown
    | 0xF => { s with ux := { UxState.reset with hbOut := s.ux.hbOut, hbSentAt := s.ux.hbSentAt } }
    | _ => s
  let s := { s with ao := { s.ao with pwrGated := insertNat s.ao.pwrGated n } }
  if n = 0xA then s else if n = 0xB then s.resetRegs 0x200BFFF0 0x200C0000 else (s.resetRegs (0x20000000 + 0x10000 * n) (0x20010000 + 0x10000 * n)).relevel n

/-- Block `n` has power again: what the plan gives it is set again (R24, R79). [Assumption 55: DEDUCED, unsafe.] -/
def State.blockOn (s : State) (n : Nat) : State :=
  match n with
  | 8 => forAll [8, 9] State.curfewStart s.planSwitch
  | 9 => s.innerLinks
  | 0xA => if s.mirrorOn then s.innerLinks.mirrorUp else s
  | 0xC => forAll (List.range 8) State.curfewStart (forAll (s.items 0x0C01) State.planCan s.innerLinks)
  | 0xD => forAll (s.items 0x0D01) State.planRing (forAll (s.items 0x0C01) (fun s i => s.wr (Fd.NM_TRX_CTRL_STATE (i.n 0)) 0) s)
  | 0xE => forAll (s.items 0x0502) State.planLin (forAll (s.items 0x0501) State.planPin s)
  | 0xF => s.planTwin
  | _ => s

/-- A channel that KH held while Kerbside's clock was gated: a hold trip latches it (R238). -/
def State.kerbRelease (s : State) (n : Nat) : State :=
  let c := s.chan n
  let s := if c.holdTrip then (s.wr (Fd.PD_CH_STATUS_LATCHED n) 1).wr (Fd.PD_CH_STATUS_CAUSE n) Code.HOLD_TRIP else s
  s.setChan n { c with held := 0, holdTrip := false }

/-- Kerbside's clock is back (R238): what KH held goes on, and the samples and model steps go on from now. -/
def State.kerbResume (s : State) : State :=
  match s.kb.khSince with
  | none => s
  | some t =>
  let s := forAll s.leads (fun s n => (s.wireStart (some t) n).kerbRelease n) s
  { s with kb := { s.kb with up := true, khSince := none, sampleAt := s.now, wireAt := s.now, houseAt := s.now } }

/-- Block `n` is ungated: its clock, and its power. [Assumption 55: DEDUCED, unsafe.] -/
def State.ungate (s : State) (n : Nat) : State :=
  let off := s.ao.pwrGated.contains n
  let clk := s.ao.clkGated.contains n
  let s := { s with ao := { s.ao with
    clkGated := s.ao.clkGated.filter (· != n), pwrGated := s.ao.pwrGated.filter (· != n) } }
  let s := if off then s.blockOn n else if clk ∧ n = 0xC then s.beatsStart else if clk ∧ n = 0xB then s.kerbResume else if clk ∧ n = 0xA ∧ s.mirrorOn then s.mirrorUp else s
  s.relevel n

/-- Kerbside's clock stops (R238). -/
def State.kerbStop (s : State) : State :=
  if s.kb.up then { s.kerbDown 1 with kb := { (s.kerbDown 1).kb with khSince := some s.now } } else s

/-- Block `n`'s clock stops: Shopfront's stop is MIRROR's, and Kerbside's acts as a sleep commit (R238).
[Assumption 55: DEDUCED, unsafe.] -/
def State.gateClock (s : State) (n : Nat) : State :=
  let s := if n = 0xA ∧ s.mirrorOn then s.mirrorDown else if n = 0xB then s.kerbStop
    else if n = 0xC ∧ !s.gated 0xC then s.beatsStop else s
  { s with ao := { s.ao with clkGated := insertNat s.ao.clkGated n } }

/-- The decision of R85; DONE where the request is carried out. -/
def State.powerCode (s : State) (n action : Nat) : Nat :=
  if n < 8 then Code.ESSENTIAL_BLOCK
  else if s.reserved n then Code.SECURE_RESERVED
  else if action ≠ 0 ∧ s.blockBusy n then Code.BUSY
  else Code.DONE

/-- An accepted request. -/
def State.powerOp (s : State) (n action : Nat) : State :=
  match action with
  | 0 => s.ungate n
  | 1 => s.gateClock n
  | _ => s.blockOff n

def State.powerReq (s : State) (w : Nat) : State :=
  let n := w % 256
  let action := getBits w 9 8
  let code := s.powerCode n action
  (if code = Code.DONE then s.powerOp n action else s).wr Fd.AO_PWR_REQ_RESULT code

def State.powerWrite (s : State) (who : Who) (bytes : Nat) (w : Word) : State :=
  s.regWrite who bytes Rg.AO_PWR_REQ w false false Code.DONE (fun s => s.powerReq w.toNat)

def execBlockPowerRequest (who : Who) (w : Word) (s : State) : Host.Outcome State Fault Refusal := .next (s.powerWrite (s.issuer who) 4 w)

/-! ### The log and MRAM (R88, R90, R93) -/

/-- AO_LOG_STAGE[k]: word k of an entry; word 15 appends the entry. -/
def State.stageEffect (s : State) (k : Nat) (w : Word) : State :=
  let s := (s.setReg (Rg.AO_LOG_STAGE k) 0)
  let s := { s with ao := { s.ao with stage := tset (fun _ => 0) s.ao.stage k w } }
  if k = 15 then
    let e := (List.range 16).flatMap (fun j => leBytes 4 (tget (fun _ => (0 : Word)) s.ao.stage j).toNat)
    { s with ao := { s.ao with logOpen := s.ao.logOpen ++ [e] } }
  else s

/-- [Assumption 57: DESIGN CHOICE, unsafe.] -/
def State.logStageWrite (s : State) (who : Who) (bytes k : Nat) (w : Word) : State :=
  s.regWrite who bytes (Rg.AO_LOG_STAGE k) w false false Code.DONE (fun s => s.stageEffect k w)

def execLogAppend (who : Who) (w : Word) (s : State) : Host.Outcome State Fault Refusal := .next (s.logStageWrite (s.issuer who) 4 15 w)

/-- The open log events are committed to MRAM. [Assumption 57: DESIGN CHOICE, unsafe.] -/
def execLogCommit (s : State) : Host.Outcome State Fault Refusal :=
  .next (if s.dev = .active ∨ s.dev = .standby then { s with ao := { s.ao.commitLog s.ao.logOpen with logOpen := [] } } else s)

/-- Byte `a` of MRAM (Table 04-9); what nothing has written reads 0. [Assumption 38: DESIGN CHOICE, unsafe.] -/
def State.mramByte (s : State) (a : Nat) : Byte :=
  if a < 0x1000 then s.ao.words0.getD a 0
  else if a < 0x2000 then s.ao.words1.getD (a - 0x1000) 0
  else if a < 0x3000 then
    let r := if a < 0x2800 then s.up.rec0 else s.up.rec1
    match r with
    | some r => r.bytes.getD (a % 0x800) 0
    | none => 0
  else (tget (fun _ => ([] : List Byte)) s.ao.log ((a - 0x3000) / 64)).getD ((a - 0x3000) % 64) 0

/-- A read of AO_MRAM_DATA: the word at AO_MRAM_PTR, which advances by 4 and wraps at 1 MiB. -/
def State.mramRead (s : State) (who : Who) (bytes : Nat) : State :=
  let p := 4 * s.rd Fd.AO_MRAM_PTR_OFFSET
  let w := leNat ((List.range 4).map (fun j => s.mramByte (p + j)))
  s.regRead who bytes Rg.AO_MRAM_DATA (some (who.district == 0)) w (fun s => s.wr Fd.AO_MRAM_PTR_OFFSET ((p / 4 + 1) % 0x40000))

def execMramDataRead (who : Who) (s : State) : Host.Outcome State Fault Refusal := .next (s.mramRead (s.issuer who) 4)

end Sys2Proof.Machine
end

