-- ==== Sys2Proof/Machine/Boot.lean ====
section
/-! DEFINITION. The boot (R77, R79 to R84, R33 to R39, R427). -/

namespace Sys2Proof.Machine

/-! ### Steps 1 and 2 -/

/-- The NM_ page of a boot: reset, but for the fail-safe bits that CANW keeps (R284). [Assumption 143: DEDUCED, unsafe.] -/
def State.nmBoot (s : State) : State :=
  let fs := (List.range 8).filter (fun k => s.flag (Fd.NM_TRX_CTRL_FS k))
  let s := { s.resetRegs 0x200D0000 0x200E0000 with nm := NmState.reset }
  forAll fs (fun s k => s.wr (Fd.NM_TRX_CTRL_FS k) 1) s

/-- MAIN powers up: vehicle time starts at 0 (R137), the cause is shown, the watchdog counts from here. -/
def State.mainUp (s : State) : State :=
  let bits := if s.ao.causes.isEmpty then [7] else s.ao.causes
  let s := { s with
    dev := .active, vt := 0, ptp := TimeState.reset
    ao := { s.ao with booting := false, causes := [], lossBoot := false, wdtKick := s.now } }
  let s := (forAll bits (fun s b => s.wr (bitOf Rg.AO_RESET_CAUSE b) 1) s).nmBoot
  let s := forAll (List.range 4) (fun s k => s.setReg (Rg.UP_SERIAL k) (BitVec.ofNat 32 (leNat ((serial.drop (4 * k)).take 4)))) s
  s.setFloor s.otp.floor

/-! ### Step 4: the plan (R33, R37, R38) -/

/-- What a boot runs: the bank, or none for the recovery plan; the plan taken apart; OUTCOME and CODE of UP_BOOT; STATE of TP_STATUS. -/
structure Boot where
  bank : Option Nat
  trial : Bool
  plan : Framed
  outcome : Nat
  code : Nat
  tpState : Nat
  deriving DecidableEq, Repr

def recoveryBoot (code : Nat) : Boot := ⟨none, false, ⟨recoveryPlan, recoverySecs⟩, 3, code, 3⟩

/-- The loader checks the plan of bank `b`. -/
def State.tryPlan (s : State) (b hwrev : Nat) : State × Except PlanFail Framed :=
  let s := s.loadPlanKey (s.planBytes b)
  (s, s.checkPlan (s.planBytes b) hwrev)

/-- The fallback to the other bank: firmware and plan together. [Assumption 40: DEDUCED, unsafe.] -/
def State.fallback (s : State) (b hwrev code : Nat) : State × Boot :=
  let r := s.checkBank b
  if r.2 ≠ Code.DONE then (r.1, recoveryBoot code)
  else
    let t := r.1.tryPlan b hwrev
    match t.2 with
    | .ok f => (t.1, ⟨some b, false, f, 2, code, 2⟩)
    | .error e => (t.1.planRejected b e, recoveryBoot code)

/-- The plan of the bank chosen, or the fallback. [Assumption 40: DEDUCED, unsafe.] -/
def State.bootPlan (s : State) (c : Choice) (hwrev : Nat) : State × Boot :=
  match c.bank with
  | none => (s, recoveryBoot c.code)
  | some b =>
    let t := s.tryPlan b hwrev
    match t.2 with
    | .ok f => (t.1, ⟨some b, c.trial, f, if c.trial then 1 else if c.code = 0 then 0 else 2, c.code, 1⟩)
    | .error e =>
      let s := t.1.planRejected b e
      let s := if c.trial then (s.setBank b 5).writeRec s.bootRec.lastGood (otherBank b) 0 else s
      s.fallback (otherBank b) hwrev (if c.trial then Code.PLAN_REJECTED else e.code)

/-- The bank whose plan has loaded is the last good one. [Assumption 40: DEDUCED, unsafe. Assumption 49: DEDUCED, unsafe.] -/
def State.noteGood (s : State) (b : Nat) : State :=
  if s.bootRec.lastGood = b then s else s.writeRec b s.bootRec.bootBank s.bootRec.trial

/-- The TP_ registers of the running plan. -/
def State.showTp (s : State) (x : Boot) : State :=
  let s := (s.wr Fd.TP_STATUS_STATE x.tpState).wr Fd.TP_STATUS_BANK (x.bank.getD 0)
  match x.bank with
  | some b =>
    let p := s.planBytes b
    s.showPlan (planField p 0xC 4) (planEpoch p) (sha256 (p.take (planLength p)))
  | none => s.showPlan 0 0 ((List.range 32).map Config.recoveryDigest)

/-- The UP_ registers of the boot; the floor rises for a confirmed bank (R428). -/
def State.showUp (s : State) (x : Boot) : State :=
  let b := x.bank.getD s.bootRec.bootBank
  let s := s.runBank b
  let s := if x.bank.isSome && !x.trial then s.burn else s
  (s.showBanks b x.bank.isSome x.trial).showBoot x.outcome x.code

/-- A plan that has loaded is activated. -/
def State.runPlan (s : State) (x : Boot) : State :=
  let s := match x.bank with
    | some b => s.noteGood b
    | none => s
  ((s.showTp x).activatePlan x.plan.items x.plan.secs).showUp x

/-! ### Step 5 -/

/-- The cores never start (R408). -/
def State.haltAll (s : State) : State := forAll (List.range 8) (fun s c => s.setHart c { s.hart c with halted := true }) s

/-- Town Hall starts on all cores, then the districts; Shopfront runs where MIRROR is powered; both Bollards pass their first test. -/
def State.startTown (s : State) (x : Boot) : State :=
  let s := (s.startCores x.bank).startTowns x.bank
  let s := if s.mirrorOn then s.mirrorUp else s
  (s.selfTest false false).relevelAll

/-- The boot, once MAIN has power (R83); `tamper` is a tamper event of the start-up (R408). [Assumption 48: DESIGN CHOICE, unsafe.] -/
def State.boot (s : State) (hwrev : Nat) (tamper : BootTamper) (gen : CsGen) : State :=
  let s := { s with up := { s.up with hwrev := hwrev } }
  let r := (s.mainUp.ksStart gen).chooseBank
  match tamper with
  | .beforePlan src => (r.1.tamperHalt src.val).haltAll.relevelAll
  | .afterPlan src =>
    let t := r.1.bootPlan r.2 hwrev
    ((t.1.runPlan t.2).tamperHalt src.val).haltAll.relevelAll
  | .none =>
    let t := r.1.bootPlan r.2 hwrev
    (t.1.runPlan t.2).ksLoad.startTown t.2

/-- A boot follows a wake, a restart or the return of the supply, while the supply stands above MAIN_UV; one that a loss of supply meets
while it generates a Cornerstone leaves the area partly burned and goes no further (R392). -/
def execBoot (hwrev : BitVec 16) (rom : RomPhase) (s : State) : Host.Outcome State Fault Refusal :=
  .next (if s.ao.booting ∧ !s.ao.underVolt ∧ s.dev ≠ .active ∧ s.dev ≠ .off then
      if rom.gen = .lost ∧ s.csNeeded ∧ s.ks.drbgOk then s.csBurn 1 else s.boot hwrev.toNat rom.tamper rom.gen
    else s)

end Sys2Proof.Machine
end

