-- ==== Sys2Proof/Machine/Underpass.lean ====
section
/-! DEFINITION. Underpass: heartbeats, polls, the twin's state, accesses to the twin, semaphores and takeover (R434 to R453). -/

namespace Sys2Proof.Machine

/-! ### Records, events, levels -/

/-- UX_EVENT: 0 HB_LOST, 1 HB_BAD, 2 NP_FAIL, 3 POSTED_FAIL, 4 POSTED_DROPPED, 5 IN_DENIED, 6 RETRY_LOST, 7 TAKEOVERS. -/
def State.uxEvent (s : State) (c : Nat) : State := s.count (Rg.UX_EVENT c) Rg.UX_EVENT_SAT c

/-- Underpass is configured and powered (R434). [Assumption 161: DEDUCED, unsafe.] -/
def State.uxOn (s : State) : Bool := s.dev == .active && s.flag Fd.UX_STATUS_CONFIG && !s.gated 0xF

/-- This unit's role: true for unit B. -/
def State.unitB (s : State) : Bool := s.flag Fd.UX_STATUS_ROLE
def State.conflict (s : State) : Bool := s.flag Fd.UX_TWIN_CONFLICT
/-- [Assumption 154: DEDUCED, unsafe.] -/
def State.twinState (s : State) : Nat := s.rd Fd.UX_TWIN_STATE
def State.strapBad (s : State) : Bool := decide (2 ≤ s.rd Fd.SYS_X_STATUS_STRAP)

/-- A failure is recorded in UX_ERR, replacing one that is still VALID; `seq` is that of a posted write. -/
def State.uxErr (s : State) (code win addr : Nat) (seq : Option Nat) : State :=
  let twice := s.flag Fd.UX_ERR_VALID
  let w := 2 ^ 31 + (if twice then 2 ^ 30 else 0) + (if seq.isSome then 2 ^ 29 else 0) + win % 8 * 2 ^ 24 + code % 65536
  let s := s.setReg Rg.UX_ERR (BitVec.ofNat 32 w)
  let s := s.setReg Rg.UX_ERR_ADDR (BitVec.ofNat 32 (addr % 2 ^ 32))
  (s.setReg Rg.UX_ERR_INFO (BitVec.ofNat 32 (seq.getD 0 % 65536 * 65536 + addr / 2 ^ 32 % 4))).uxLevels

end Sys2Proof.Machine

namespace Sys2Proof

/-- The operation writes: its bus error is a store access fault. -/
def UxOp.writes (o : UxOp) : Bool :=
  match o with
  | .write _ => true
  | .amo _ _ => true
  | .sc _ => true
  | .release _ => true
  | .read => false
  | .lr => false
  | .sem _ => false

/-- The operation is emulated with the semaphore of its granule (R448). -/
def UxOp.atomic (o : UxOp) : Bool :=
  match o with
  | .amo _ _ => true
  | .lr => true
  | .sc _ => true
  | _ => false

/-- The bytes that a store brings; an atomic to a gated range stores nothing (R330). -/
def UxOp.stored (o : UxOp) : List Byte :=
  match o with
  | .write w => leBytes 4 w.toNat
  | _ => [0]

end Sys2Proof

namespace Sys2Proof.Machine

/-- An access over the link ends in a bus error; a core takes a load or store access fault (R442). [Assumption 161: DEDUCED, unsafe.] -/
def State.uxBusErr (s : State) (who : Who) (o : UxOp) : State := { s.coreFault who (if o.writes then 7 else 5) with resp := .busError }

/-- A non-posted access fails (R444). -/
def State.npFail (s : State) (x : NpAcc) (code : Nat) : State :=
  ((s.uxErr code x.win x.addr none).uxEvent 2).uxBusErr x.who x.op

/-! ### Semaphores of this unit (R447, R448) -/

def State.sem (s : State) (k : Nat) : Option Sem := tget (fun _ => none) s.ux.sems k
def State.setSem (s : State) (k : Nat) (x : Option Sem) : State :=
  { s with ux := { s.ux with sems := tset (fun _ => none) s.ux.sems k x } }

/-- UX_SEM[k] as a read shows it, with the CODE of the read. -/
def State.semWord (s : State) (k code : Nat) : Nat :=
  code * 65536 + match s.sem k with
    | none => 0
    | some x => 0x8000 + (if s.unitB != x.twin then 0x4000 else 0) + x.district * 256

/-- A request of this unit (`twin` false) or of the twin: DONE, or BUSY while another holds it. -/
def State.semTake (s : State) (k district : Nat) (twin : Bool) : State × Nat :=
  match s.sem k with
  | none => (s.setSem k (some ⟨twin, district, none⟩), Code.DONE)
  | some x => (s, if x.twin = twin ∧ x.district = district then Code.DONE else Code.BUSY)

/-- The semaphore bound to the granule of an address; GRANULE 0 binds none. -/
def State.granuleSem (s : State) (a : Nat) : Option Nat :=
  (List.range 32).find? (fun k => a / 64 != 0 && s.rd (Fd.UX_SEM_GRAN_GRANULE k) == a / 64 % 2 ^ 28)

/-! ### The twin's state (R439, R441) -/

/-- Everything that ends when the twin becomes LOST or ASLEEP. -/
def State.twinGone (s : State) : State :=
  let np := s.ux.np
  let posted := s.ux.posted
  let s := { s with ux := { s.ux with np := [], posted := [], sems := s.ux.sems.filter (fun (p : Nat × Option Sem) => match p.2 with
    | some x => !x.twin
    | none => true) } }
  let s := forAll np (fun s x => s.npFail x Code.LINK_LOST) s
  let s := forAll posted (fun s p => (s.uxErr Code.LINK_DOWN p.win p.addr (some p.seq)).uxEvent 4) s
  (s.wr Fd.UX_TWIN_LINES 0).uxLevels

/-- The secondary channels in STANDBY for which nothing is decided. -/
def State.waitingSecond (s : State) : List Nat :=
  (List.range 48).filter (fun n => s.rd (Fd.UX_TAKEOVER_STATE n) == 2 && (tget (fun _ => none) s.ux.takes n).isNone)

/-- The last state that a poll reported for the primary of channel `n`. -/
def State.primaryOf (s : State) (n : Nat) : Option TwinChan := tget (fun _ => none) s.ux.chans (s.rd (Fd.UX_TAKEOVER_TWIN_CH n))

/-- A takeover is decided (R449); with nothing reported, the channel is to be OFF. [Assumption 157: DEDUCED, unsafe.] -/
def State.decideTake (s : State) (cause n : Nat) (last : Option TwinChan) : State :=
  if s.conflict then s
  else { s with ux := { s.ux with takes := tset (fun _ => none) s.ux.takes n (some ⟨cause, last.getD ⟨0, false, 0, 0, false⟩⟩) } }

def State.decideAll (s : State) (cause : Nat) : State := forAll s.waitingSecond (fun s n => s.decideTake cause n (s.primaryOf n)) s

/-- UX_TWIN.STATE becomes `st`; a change sets CHG, and has the effects of R441 and R449. -/
def State.setTwin (s : State) (st : Nat) : State :=
  if s.twinState = st then s
  else
    let s := ((s.wr Fd.UX_TWIN_STATE st).wr Fd.UX_STATUS_CHG 1).uxLevels
    match st with
    | 0 => s.twinGone.decideAll 1
    | 2 => s.twinGone
    | 3 => s.decideAll 3
    | _ => s

/-! ### Heartbeats (R437) -/

/-- The heartbeat of this unit. -/
def State.ownHeartbeat (s : State) (sleep supplyLoss : Bool) : Heartbeat :=
  ⟨s.unitB, s.flag Fd.UX_STATUS_PRIMARY, sleep, supplyLoss, s.strapBad⟩

def State.heartbeatSend (s : State) : State :=
  if s.uxOn && !s.gated 8 then
    let s := s.reach (s.ux.hbSentAt + ms)
    { s with ux := { s.ux with hbOut := some (s.ownHeartbeat false false), hbSentAt := s.now } }
  else s

def execHeartbeatSend (s : State) : Host.Outcome State Fault Refusal := .next s.heartbeatSend

/-- The heartbeat is valid here. [Assumption 154: DEDUCED, unsafe.] -/
def State.heartbeatOk (s : State) (h : Heartbeat) : Bool :=
  h.role != s.unitB && h.primary != s.flag Fd.UX_STATUS_PRIMARY && !h.strapFault && !s.strapBad

/-- A valid heartbeat. [Assumption 154: DEDUCED, unsafe.] -/
def State.heartbeatTaken (s : State) (h : Heartbeat) : State :=
  let s := { s with ux := { s.ux with hbAt := s.now, alive := true, hbSleep := h.sleep } }
  let s := (s.wr Fd.UX_TWIN_CONFLICT 0).setFlag Fd.UX_TWIN_TWIN_ROLE h.role
  s.setTwin (if h.supplyLoss then 3 else if h.sleep then 2 else 1)

def State.heartbeatReceived (s : State) (h : Heartbeat) : State :=
  if !s.uxOn || !s.linkUp 22 then s
  else if s.heartbeatOk h then s.heartbeatTaken h
  else (s.wr Fd.UX_TWIN_CONFLICT 1).uxEvent 1

def execHeartbeatReceived (hb : Heartbeat) (s : State) : Host.Outcome State Fault Refusal := .next (s.heartbeatReceived hb)

/-- No valid heartbeat for 3.0 ms: the twin is LOST, unless its last one carried SLEEP. -/
def State.twinLost (s : State) : State :=
  if s.uxOn && s.ux.alive then
    let s := (s.reach (s.ux.hbAt + 3 * ms)).uxEvent 0
    let s := { s with ux := { s.ux with alive := false } }
    if s.ux.hbSleep then s else s.setTwin 0
  else s

def execTwinLost (s : State) : Host.Outcome State Fault Refusal := .next s.twinLost

/-! ### Side-band polls (R438, R440, R449) -/

def State.sidebandPoll (s : State) : State :=
  if s.uxOn then
    let s := s.reach (s.ux.pollAt + 50 * us)
    { s with ux := { s.ux with pollAt := s.now } }
  else s

def execSidebandPoll (s : State) : Host.Outcome State Fault Refusal := .next s.sidebandPoll

/-- What this unit answers to its twin's poll. -/
def State.ownReply (s : State) : PollReply :=
  let prim := (List.range 48).filter (fun n => s.rd (Fd.UX_TAKEOVER_STATE n) == 1)
  { faultOut := s.flag Fd.CP_FAULT_OUT_PIN, state := 3, supplyLoss := s.ao.underVolt
    lines := BitVec.ofNat 16 (s.rd Fd.UX_LINE_OUT)
    chans := prim.map (fun n => ⟨Fin.ofNat 48 n, s.cmdOn n, BitVec.ofNat 10 (s.chan n).duty, BitVec.ofNat 10 (s.chan n).hz, s.inLayby n⟩)
    acked := none }

/-- The reports of a poll answer. -/
def State.pollChans (s : State) (l : List TwinChan) : State :=
  forAll l (fun s c => { s with ux := { s.ux with chans := tset (fun _ => none) s.ux.chans c.ch.val (some c) } }) s

/-- Primary channels that the answer shows in Lay-by: their secondaries take over, with the state reported before. -/
def State.pollLayby (s : State) (l : List TwinChan) : State :=
  forAll (s.waitingSecond.filter (fun n => l.any (fun c => c.layby && c.ch.val == s.rd (Fd.UX_TAKEOVER_TWIN_CH n))))
    (fun s n => s.decideTake 2 n (s.primaryOf n)) s

/-- [Assumption 155: DEDUCED, unsafe.] -/
def State.pollAnswer (s : State) (r : PollReply) : State :=
  if !s.uxOn || !s.linkUp 22 || s.twinState == 0 || s.twinState == 2 then s
  else
    let s := if s.flag Fd.UX_TWIN_FAULT_OUT = r.faultOut then s
      else (s.setFlag Fd.UX_TWIN_FAULT_OUT r.faultOut).wr Fd.UX_STATUS_CHG 1
    let s := (s.wr Fd.UX_TWIN_LINES r.lines.toNat).uxLevels
    let s := { s with ux := { s.ux with
      twinDev := r.state.toNat
      posted := match r.acked with
        | some n => s.ux.posted.filter (fun p => later p.seq n.toNat)
        | none => s.ux.posted } }
    let s := if r.supplyLoss then s.setTwin 3 else s
    (s.pollLayby r.chans).pollChans r.chans

def execPollAnswer (reply : PollReply) (s : State) : Host.Outcome State Fault Refusal := .next (s.pollAnswer reply)

/-! ### Accesses to the twin (R442, R444, R445) -/

/-- The window of an aperture address, and its twin address. -/
def apertureWin (a : Nat) : Nat := (a - 0x200F8000) / 0x800 % 8
def State.remote (s : State) (w a : Nat) : Nat :=
  s.rd (Fd.UX_OUT_WIN_LO_REMOTE w) * 0x800 + 2 ^ 32 * s.rd (Fd.UX_OUT_WIN_HI_REMOTE_HI w) + a % 0x800

/-- The first row of Table 20-2 that applies at issue. [Assumption 156: DEDUCED, unsafe.] -/
def State.issueCode (s : State) : Nat :=
  if s.conflict then Code.ROLE_CONFLICT
  else if (s.twinState ≠ 1 ∧ s.twinState ≠ 3) ∨ !s.linkUp 22 then Code.LINK_DOWN
  else Code.DONE

/-- A non-posted access is issued; while 16 are in flight it waits on the bus. [Assumption 156: DEDUCED, unsafe.] -/
def State.npIssue (s : State) (x : NpAcc) : State :=
  let code := s.issueCode
  if code ≠ Code.DONE then s.npFail x code
  else if 16 ≤ s.ux.np.length then s
  else { s with ux := { s.ux with np := s.ux.np ++ [x] } }

/-- A posted write completes at once and takes the next sequence number; one to a twin that is LOST or ASLEEP is dropped.
[Assumption 155: DEDUCED, unsafe.] -/
def State.postedWrite (s : State) (who : Who) (o : UxOp) (w addr : Nat) : State :=
  if s.conflict then (s.uxErr Code.ROLE_CONFLICT w addr none).uxBusErr who o
  else
    let seq := s.ux.postSeq
    let s := { s with resp := .done, ux := { s.ux with postSeq := (seq + 1) % 65536 } }
    if s.twinState = 0 ∨ s.twinState = 2 then (s.uxErr Code.LINK_DOWN w addr (some seq)).uxEvent 4
    else { s with ux := { s.ux with posted := s.ux.posted ++ [⟨seq, w, addr⟩] } }

/-- The district may use aperture `w`: group 1 + w of block 0x0F. -/
def State.mayAperture (s : State) (who : Who) (w : Nat) : Bool :=
  who.district == 0 || tbit (s.groups 0xF who.district.toNat) (1 + w)

/-- A failure of the aperture itself: recorded in UX_LAST_REJECT, and a bus error. -/
def State.apertureFail (s : State) (who : Who) (o : UxOp) (code a : Nat) : State := (s.reject 0xF code who o.writes a).uxBusErr who o

/-- The aperture of a gated block 0x0F: recorded in SYS_LAST_REJECT (R86). -/
def State.apertureGated (s : State) (who : Who) (bytes : Nat) (o : UxOp) (a : Nat) : State :=
  if bytes ≠ 4 ∨ a % 4 ≠ 0 then (s.reject 0 Code.BAD_SIZE who o.writes a).uxBusErr who o
  else { s.reject 0 Code.WRONG_STATE who o.writes a with resp := match o with
    | .write _ => .done
    | _ => .data 0 }

def State.aperture (s : State) (who : Who) (bytes : Nat) (o : UxOp) (a : Nat) : State :=
  let w := apertureWin a
  if s.dev ≠ .active ∨ a < 0x200F8000 ∨ 0x200FC000 ≤ a then s
  else if o.writes && s.toGate who a then s.gatedStore who a o.stored o.atomic
  else if s.gateWait who then s
  else if s.gated 0xF then s.apertureGated who bytes o a
  else if bytes ≠ 4 ∨ a % 4 ≠ 0 then s.apertureFail who o Code.BAD_SIZE a
  else if !s.mayAperture who w then s.apertureFail who o Code.NOT_OWNER a
  else if !s.uxOn || !s.flag (Fd.UX_OUT_WIN_LO_EN w) then s.apertureFail who o Code.WRONG_STATE a
  else
    let np := s.npIssue ⟨who, w, o, s.remote w a, s.now, s.now, false⟩
    match o with
    | .write _ => if s.flag (Fd.UX_OUT_WIN_LO_POSTED w) then s.postedWrite who o w (s.remote w a) else np
    | .read => np
    | .amo _ _ => np
    | .lr => np
    | .sc _ => np
    | .sem _ => s
    | .release _ => s

def execApertureAccess (who : Who) (bytes : Nat) (op : UxOp) (addr : BitVec 34) (s : State) : Host.Outcome State Fault Refusal :=
  .next (s.aperture (s.issuer who) bytes op addr.toNat)

/-- Access `k` is the first of its initiator, so that its answer may complete it (R13, R446). -/
def State.npFirst (s : State) (k : Nat) (x : NpAcc) : Bool := (s.ux.np.take k).all (fun y => y.who.initiator != x.who.initiator)
def State.dropNp (s : State) (k : Nat) : State := { s with ux := { s.ux with np := s.ux.np.eraseIdx k } }

/-- The twin's answer, within 4 µs of the issue. [Assumption 156: DEDUCED, unsafe.] -/
def State.npAnswer (s : State) (k : Nat) (ans : NpAnswer) : State :=
  match s.ux.np[k]? with
  | none => s
  | some x =>
    if !s.npFirst k x ∨ x.at_ + 4 * us < s.now ∨ x.again then s
    else match ans with
    | .word w => { s.dropNp k with resp := if x.op.writes ∧ !x.op.atomic then .done else .data w.toNat }
    | .fail code => (s.dropNp k).npFail x code.toNat
    | .held =>
      if x.op.atomic then { s with ux := { s.ux with np := s.ux.np.set k { x with again := true, tryAt := s.now } } } else s

def execNonPostedAnswer (k : Fin 16) (answer : NpAnswer) (s : State) : Host.Outcome State Fault Refusal := .next (s.npAnswer k answer)

/-- 4 µs after the issue: LINK_LOST, or TIMEOUT for an atomic that kept finding its semaphore held. [Assumption 156: DEDUCED, unsafe.] -/
def State.npTimeout (s : State) (k : Nat) : State :=
  match s.ux.np[k]? with
  | none => s
  | some x => ((s.reach (x.at_ + 4 * us)).dropNp k).npFail x (if x.again then Code.TIMEOUT else Code.LINK_LOST)

def execNonPostedTimeout (k : Fin 16) (s : State) : Host.Outcome State Fault Refusal := .next (s.npTimeout k)

/-- An atomic is tried again 1 µs after it found its semaphore held, within its 4 µs. [Assumption 158: DEDUCED, unsafe.] -/
def State.atomicRetry (s : State) (k : Nat) : State :=
  match s.ux.np[k]? with
  | none => s
  | some x =>
    let s := if x.again then s.reach (x.tryAt + us) else s
    if x.again ∧ s.now < x.at_ + 4 * us then
      { s with ux := { s.ux with np := s.ux.np.set k { x with again := false, tryAt := s.now } } }
    else s

def execAtomicRetry (k : Fin 16) (s : State) : Host.Outcome State Fault Refusal := .next (s.atomicRetry k)

/-- An error message for a posted write. -/
def State.postedError (s : State) (seq code : Nat) : State :=
  if !s.uxOn then s
  else
    let p := (s.ux.posted.find? (fun p => p.seq == seq)).getD ⟨seq, 0, 0⟩
    let s := { s with ux := { s.ux with posted := s.ux.posted.filter (fun p => p.seq != seq) } }
    (s.uxErr code p.win p.addr (some seq)).uxEvent 3

def execPostedErrorReceived (seq code : BitVec 16) (s : State) : Host.Outcome State Fault Refusal :=
  .next (s.postedError seq.toNat code.toNat)

/-! ### Semaphore accesses (R447) -/

/-- A read of UX_SEM[k]; `rival` is a district of the twin whose request reaches the semaphore in the same FAB clock.
[Assumption 158: DEDUCED, unsafe.] -/
def State.semRequest (s : State) (who : Who) (bytes k : Nat) (rival : Option Nat) : State :=
  let d := who.district.toNat
  let ok := s.uxOn && s.mayRead who ⟨0, [], .group 9, []⟩ (Rg.UX_SEM k) && bytes == 4
  let loses := rival.isSome && s.unitB
  let t := if !ok then (s, 0) else
    match rival with
    | none => s.semTake k d false
    | some r => if s.unitB then ((s.semTake k r true).1.uxEvent 6, Code.RETRY) else ((s.semTake k d false).1.uxEvent 6, (s.semTake k d false).2)
  let code := if loses then Code.RETRY else t.2
  let after := t.1
  let word := if s.uxOn then after.semWord k code else 0
  s.regRead who bytes (Rg.UX_SEM k) none word (fun _ => { after with resp := s.resp })

def execSemRequest (who : Who) (k : Fin 32) (rival : Option (BitVec 6)) (s : State) : Host.Outcome State Fault Refusal :=
  .next (s.semRequest (s.issuer who) 4 k (rival.map BitVec.toNat))

/-- The twin address of UX_SEM[k], which a UX_TSEM access reaches. -/
def farSem (who : Who) (now : Nat) (o : UxOp) (k : Nat) : NpAcc := ⟨who, 0, o, Rg.UX_SEM k, now, now, false⟩

/-- A read of UX_TSEM[k] is a non-posted access. [Assumption 158: DEDUCED, unsafe.] -/
def State.twinSemRequest (s : State) (who : Who) (bytes : Nat) (k : Fin 32) : State :=
  if s.uxOn ∧ s.mayRead who ⟨0, [], .group 9, []⟩ (Rg.UX_TSEM k.val) ∧ bytes = 4 ∧ !s.gateWait who then s.npIssue (farSem who s.now (.sem k) k.val)
  else s.regRead who bytes (Rg.UX_TSEM k.val) none 0 id

def execTwinSemRequest (who : Who) (k : Fin 32) (s : State) : Host.Outcome State Fault Refusal := .next (s.twinSemRequest (s.issuer who) 4 k)

/-- The release comes from the holder. -/
def State.holdsSem (s : State) (k district : Nat) (twin : Bool) : Bool :=
  match s.sem k with
  | some x => x.twin == twin && x.district == district
  | none => false

/-- A write of UX_SEM[k]. -/
def State.semWrite (s : State) (who : Who) (bytes k : Nat) (w : Word) : State :=
  let rel := tbit w.toNat 0
  let refuse := if !s.uxOn then Code.WRONG_STATE else if rel && !s.holdsSem k who.district.toNat false then Code.NOT_OWNER else Code.DONE
  s.regWrite who bytes (Rg.UX_SEM k) w false false refuse (fun s =>
    (if rel then s.setSem k none else s).setReg (Rg.UX_SEM k) 0)

/-- A write of UX_TSEM[k]: a release is a non-posted access. -/
def State.twinSemWrite (s : State) (who : Who) (bytes : Nat) (k : Fin 32) (w : Word) : State :=
  if s.passesChecks who bytes (Rg.UX_TSEM k.val) w false false ∧ s.uxOn ∧ tbit w.toNat 0 then s.npIssue (farSem who s.now (.release k) k.val)
  else s.regWrite who bytes (Rg.UX_TSEM k.val) w false false (if s.uxOn then Code.DONE else Code.WRONG_STATE)
    (fun s => s.setReg (Rg.UX_TSEM k.val) 0)

def execSemRelease (who : Who) (k : Fin 32) (far : Bool) (s : State) : Host.Outcome State Fault Refusal :=
  .next (if far then s.twinSemWrite (s.issuer who) 4 k 1 else s.semWrite (s.issuer who) 4 k 1)

/-- An LR hold ends 10 µs after the LR (R448). -/
def State.lrExpiry (s : State) (k : Nat) : State :=
  match s.sem k with
  | some x =>
    match x.lr with
    | some h => (s.reach h.fin).setSem k none
    | none => s
  | none => s

def execLrHoldExpiry (k : Fin 32) (s : State) : Host.Outcome State Fault Refusal := .next (s.lrExpiry k)

/-! ### Takeover (R449, R450) -/

/-- The channel takes the primary's last commanded state. [Assumption 157: DEDUCED, unsafe.] -/
def State.takeState (s : State) (n : Nat) (c : TwinChan) : State :=
  ((if c.on then (s.applyOn n c.duty.toNat c.hz.toNat 0).2 else s.applyOff n)).kbLevels

/-- The takeover commits: TAKEN, with its cause. [Assumption 157: DEDUCED, unsafe.] -/
def State.takeover (s : State) (n : Nat) : State :=
  match tget (fun _ => none) s.ux.takes n with
  | none => s
  | some t =>
    let s := { s with ux := { s.ux with takes := tset (fun _ => none) s.ux.takes n none } }
    if !s.uxOn || s.conflict || s.rd (Fd.UX_TAKEOVER_STATE n) != 2 || !s.kb.up then s
    else
      let s := (s.wr (Fd.UX_TAKEOVER_STATE n) 3).wr (Fd.UX_TAKEOVER_CAUSE n) t.cause
      (s.takeState n t.last).uxEvent 7

def execTakeoverCommit (n : Fin 48) (s : State) : Host.Outcome State Fault Refusal := .next (s.takeover n)

/-- The primary channel is in Lay-by at the last poll. -/
def State.primaryLayby (s : State) (n : Nat) : Bool :=
  match s.primaryOf n with
  | some c => c.layby
  | none => false

/-- A write of UX_TAKEOVER[n]: HANDBACK commits as an OFF and returns the channel to STANDBY. [Assumption 157: DEDUCED, unsafe.] -/
def State.takeoverWrite (s : State) (who : Who) (bytes n : Nat) (w : Word) : State :=
  let hand := tbit w.toNat 31
  let bad := !s.uxOn || (hand && (s.twinState != 1 || s.primaryLayby n || s.rd (Fd.UX_TAKEOVER_STATE n) != 3))
  s.regWrite who bytes (Rg.UX_TAKEOVER n) w false false (if bad then Code.WRONG_STATE else Code.DONE) (fun s =>
    if hand then (((s.applyOff n).wr (Fd.UX_TAKEOVER_STATE n) 2).wr (Fd.UX_TAKEOVER_CAUSE n) 0).kbLevels else s)

def execHandback (who : Who) (n : Fin 48) (s : State) : Host.Outcome State Fault Refusal := .next (s.takeoverWrite (s.issuer who) 4 n 0x80000000)

/-! ### Inbound requests (R443, R445) -/

/-- A failed inbound access: counted, recorded where it was a posted write, and answered. -/
def State.inDenied (s : State) (code : Nat) (posted : Option Nat) : State :=
  let s := s.uxEvent 5
  match posted with
  | some seq =>
    let s := s.setReg Rg.UX_IN_ERR (BitVec.ofNat 32 (seq % 65536 * 65536 + code % 65536))
    { s.wr Fd.UX_STATUS_INERR 1 with ux := { s.ux with reply := some (.error seq code) } }
  | none => { s with ux := { s.ux with reply := some (.answer (.fail (BitVec.ofNat 16 code))) } }

/-- The answer to an inbound access that was carried out; a posted write gets none. [Assumption 160: DEDUCED, unsafe.] -/
def State.inAnswer (s : State) (w : Nat) (posted : Option Nat) : State :=
  if posted.isSome then s else { s with ux := { s.ux with reply := some (.answer (.word (BitVec.ofNat 32 w))) } }

/-- A request not issued within 3 µs of its arrival is discarded. -/
def execInboundTimeout (posted : Option (BitVec 16)) (s : State) : Host.Outcome State Fault Refusal :=
  .next (if s.uxOn then s.inDenied Code.TIMEOUT (posted.map BitVec.toNat) else s)

/-- Permit `k` admits the access: EN, the twin's district, R or W, and every byte. [Assumption 159: DEDUCED, unsafe.] -/
def State.permits (s : State) (k district : Nat) (o : UxOp) (a : Nat) : Bool :=
  let base := s.rd (Fd.UX_IN_WIN_BASE_BASE k) * 4096
  let size := s.rd (Fd.UX_IN_WIN_SIZE_SIZE k) * 4096
  let rw := o == .read || o == .lr
  s.flag (Fd.UX_IN_WIN_ATTR_EN k) && (s.flag (Fd.UX_IN_WIN_ATTR_ANY_SRC k) || s.rd (Fd.UX_IN_WIN_ATTR_SRC k) == district) &&
  decide (base ≤ a) && decide (a + 4 ≤ base + size) && (if rw then s.flag (Fd.UX_IN_WIN_ATTR_R k) else s.flag (Fd.UX_IN_WIN_ATTR_W k)) &&
  (match o with | .amo _ _ => s.flag (Fd.UX_IN_WIN_ATTR_R k) | _ => true)

def State.permitOf (s : State) (district : Nat) (o : UxOp) (a : Nat) : Option Nat :=
  (List.range 8).find? (fun k => s.permits k district o a)

/-- A semaphore request or release of the twin: it needs no permit. [Assumption 158: DEDUCED, unsafe.] -/
def State.inSem (s : State) (k district : Nat) : State :=
  let r := s.semTake k district true
  r.1.inAnswer (r.1.semWord k r.2) none
def State.inRelease (s : State) (k district : Nat) : State :=
  if s.holdsSem k district true then (s.setSem k none).inAnswer 0 none
  else (s.reject 0xF Code.NOT_OWNER ⟨0xF, BitVec.ofNat 6 district, 0⟩ true (Rg.UX_SEM k)).inAnswer 0 none

/-! ### Windows (R443, R445) -/

/-- Addresses wholly within one of the places that a permit may open. [Assumption 159: DEDUCED, unsafe.] -/
def permitRange (base size : Nat) : Bool :=
  let inside := fun (lo hi : Nat) => decide (lo ≤ base) && decide (base + size ≤ hi)
  decide (0 < size) && (inside 0x80000000 0x240000000 || inside 0x10000000 0x10400000 || inside 0x10400000 0x10440000 ||
    inside 0x20000000 0x200F0000 || inside 0x21000000 0x22000000)

/-- A write of a permit's BASE (0), SIZE (1) or ATTR (2): a permit in force has a range of R443. [Assumption 159: DEDUCED, unsafe.] -/
def State.inWinWrite (s : State) (who : Who) (bytes k part : Nat) (w : Word) : State :=
  let base := (if part = 0 then w.toNat % 2 ^ 22 else s.rd (Fd.UX_IN_WIN_BASE_BASE k)) * 4096
  let size := (if part = 1 then w.toNat % 2 ^ 22 else s.rd (Fd.UX_IN_WIN_SIZE_SIZE k)) * 4096
  let en := if part = 2 then tbit w.toNat 31 else s.flag (Fd.UX_IN_WIN_ATTR_EN k)
  s.regWrite who bytes (Rg.UX_IN_WIN_BASE k + 4 * part) w false (en && !permitRange base size)
    (if s.uxOn then Code.DONE else Code.WRONG_STATE) id

/-- A write of an outbound window: POSTED only where the window lies in the doorbell pages. [Assumption 159: DEDUCED, unsafe.] -/
def State.outWinWrite (s : State) (who : Who) (bytes w : Nat) (high : Bool) (v : Word) : State :=
  let hi := if high then v.toNat % 4 else s.rd (Fd.UX_OUT_WIN_HI_REMOTE_HI w)
  let rem := if high then s.rd (Fd.UX_OUT_WIN_LO_REMOTE w) else v.toNat / 0x800
  let posted := if high then s.flag (Fd.UX_OUT_WIN_LO_POSTED w) else tbit v.toNat 2
  let a := rem * 0x800 + hi * 2 ^ 32
  s.regWrite who bytes (if high then Rg.UX_OUT_WIN_HI w else Rg.UX_OUT_WIN_LO w) v false
    (posted && !(decide (0x21000000 ≤ a) && decide (a < 0x22000000))) (if s.uxOn then Code.DONE else Code.WRONG_STATE) id

/-- UX_SEM_GRAN[k]: BUSY while the semaphore is held. -/
def State.semGranWrite (s : State) (who : Who) (bytes k : Nat) (w : Word) : State :=
  s.regWrite who bytes (Rg.UX_SEM_GRAN k) w false false
    (if !s.uxOn then Code.WRONG_STATE else if (s.sem k).isSome then Code.BUSY else Code.DONE) id

end Sys2Proof.Machine
end

