-- ==== Sys2Proof/Machine/Electrical.lean ====
section
/-! DEFINITION. Line reports of chapter 21: SYS_XDIAG, IGN, PAIR_ROLE, FAULT_OUT, displays, Ethernet and CAN wires, H25 pins (R455 to
R469). Each command is a line that has shown the values it carries for the time that the rule states. -/

namespace Sys2Proof.Machine

/-- The faults of a line report (SYS_XDIAG.STATE). -/
def lineOpen : Nat := 1
def lineGnd : Nat := 2
def lineBat : Nat := 3

/-- A fault of line `i` is reported: its onset sets its STICKY bit (R469, R474). -/
def State.lineFault (s : State) (i code : Nat) : State :=
  if s.rd (Fd.SYS_XDIAG_STATE i) = code then s
  else (s.wr (Fd.SYS_XDIAG_STATE i) code).wr (bitOf (Rg.SYS_XDIAG i) (15 + code)) 1

/-- The report of line `i` clears. -/
def State.lineClear (s : State) (i : Nat) : State := s.wr (Fd.SYS_XDIAG_STATE i) 0

/-- A line's class: 0 in its normal band, a fault, or neither. -/
def State.lineClass (s : State) (i : Nat) (c : Option Nat) : State :=
  match c with
  | some 0 => s.lineClear i
  | some k => s.lineFault i k
  | none => s

/-! ### H25 pins (R455) -/

/-- The two pins of H25.k have carried `a` and `b` mA: at least 5 A together, and one below 30 % of it.
[Assumption 162: DESIGN CHOICE, unsafe. Assumption 163: DEDUCED, unsafe. Assumption 174: DESIGN CHOICE, unsafe.] -/
def h25Class (a b : Nat) : Option Nat :=
  if a + b < 5000 then none
  else if 10 * a < 3 * (a + b) ∨ 10 * b < 3 * (a + b) then some lineOpen else some 0

def execH25PinImbalance (k : Fin 8) (a b : BitVec 16) (s : State) : Host.Outcome State Fault Refusal :=
  .next (if s.dev = .active ∧ s.kb.up then s.lineClass (40 + k.val) (h25Class a.toNat b.toNat) else s)

/-! ### IGN (R457) -/

/-- IGN is active above 10.0 V and inactive below 5.0 V. [Assumption 163: DEDUCED, unsafe.] -/
def State.ignLevel (s : State) (mv : Int) : State :=
  if 10000 < mv then s.setFlag Fd.SYS_X_STATUS_IGN true
  else if mv < 5000 then s.setFlag Fd.SYS_X_STATUS_IGN false else s

/-- [Assumption 162: DESIGN CHOICE, unsafe. Assumption 163: DEDUCED, unsafe.] -/
def State.ignDiag (s : State) (mv : Int) : State :=
  if s.dev = .off then s
  else
    let s := s.ignLevel mv
    if s.dev ≠ .active then s
    else if mv < 50 then s.lineFault 10 lineGnd
    else if 5500 ≤ mv ∧ mv ≤ 8000 then s.lineFault 10 lineOpen
    else s.lineClear 10

def execIgnLineDiag (mv : Int) (s : State) : Host.Outcome State Fault Refusal := .next (s.ignDiag mv)

/-! ### PAIR_ROLE (R458, Table 21-2) -/

/-- The class of the pin's voltage. -/
def strapClass (mv : Int) : Strap :=
  if mv < 1000 then .shortGnd
  else if 2200 ≤ mv ∧ mv ≤ 4200 then .unitA
  else if 5900 ≤ mv ∧ mv ≤ 7900 then .unitB
  else if 9000 ≤ mv ∧ mv ≤ 11000 then .open_
  else if 12000 < mv then .shortBat
  else .outOfBand

/-- The report of a class: out of band is neither one of the faults of SYS_XDIAG nor the normal band.
[Assumption 162: DESIGN CHOICE, unsafe. Assumption 163: DEDUCED, unsafe.] -/
def strapReport (c : Strap) : Option Nat :=
  match c with
  | .unitA => some 0
  | .unitB => some 0
  | .shortGnd => some lineGnd
  | .open_ => some lineOpen
  | .shortBat => some lineBat
  | .outOfBand => none

def execPairRoleMonitor (mv : Int) (s : State) : Host.Outcome State Fault Refusal :=
  .next (if s.dev = .active then s.lineClass 11 (strapReport (strapClass mv)) else s)

/-! ### FAULT_OUT (R460) -/

/-- The switch conducts: FAULT_OUT is not asserted, and no short holds the switch open. [Assumption 164: DEDUCED, unsafe.] -/
def State.foConducts (s : State) : Bool := !s.flag Fd.CP_FAULT_OUT_PIN && s.ao.foShort.isNone

/-- The switch's current in µA while it conducts, or the pin's voltage in mV while it is open. A short opens the switch.
[Assumption 164: DEDUCED, unsafe.] -/
def State.faultOutDiag (s : State) (ua : Nat) (mv : Int) : State :=
  if s.dev ≠ .active then s
  else if s.foConducts then
    if ua < 1000 then s.lineFault 12 lineOpen
    else if 40000 < ua then { s.lineFault 12 lineBat with ao := { s.ao with foShort := some s.now } }
    else s.lineClear 12
  else if mv < 1000 then s.lineFault 12 lineGnd
  else if s.ao.foShort.isNone then s.lineClear 12 else s

def execFaultOutLineDiag (ua : BitVec 32) (mv : Int) (s : State) : Host.Outcome State Fault Refusal :=
  .next (s.faultOutDiag ua.toNat mv)

/-- 1 s after it opened on a short, the switch conducts again. [Assumption 164: DEDUCED, unsafe.] -/
def execFaultOutShortRetry (s : State) : Host.Outcome State Fault Refusal :=
  .next (match s.ao.foShort with
    | some t =>
      let s := s.reach (t + sec)
      { s with ao := { s.ao with foShort := none } }
    | none => s)

/-! ### Display lines (R462, Table 21-3) -/

/-- The class of a display line's centre conductor; 4 for a voltage between the bands. [Assumption 165: DEDUCED, unsafe.] -/
def dspLineClass (mv : Int) : Nat :=
  if mv < 200 then lineGnd
  else if 700 ≤ mv ∧ mv ≤ 1300 then 0
  else if 8000 ≤ mv ∧ mv ≤ 13000 then lineOpen
  else if 14000 < mv then lineBat
  else 4

/-- One class of display `d`: a second in a row is reported, or clears the report.
[Assumption 162: DESIGN CHOICE, unsafe. Assumption 165: DEDUCED, unsafe.] -/
def State.dspClassify (s : State) (d : Nat) (mv : Int) : State :=
  if s.dev ≠ .active ∨ !s.mirrorOn ∨ s.gated 0xA then s
  else
    let c := dspLineClass mv
    let last := tget (fun _ => 5) s.ao.dspLine d
    let s := { s with ao := { s.ao with dspLine := tset (fun _ => 5) s.ao.dspLine d c } }
    if c = last ∧ c ≠ 4 then s.lineClass (8 + d) (some c) else s

/-- [Assumption 165: DEDUCED, unsafe.] -/
def execDisplayLineClassify (d : Fin 2) (mv : Int) (s : State) : Host.Outcome State Fault Refusal := .next (s.dspClassify d.val mv)

/-! ### Ethernet (R463) -/

/-- The index of an external port in SYS_XDIAG: 16 + p, and 34 for PLK. -/
def ethLine (p : Nat) : Option Nat := if p < 18 then some (16 + p) else if p = 22 then some 34 else none

/-- A wire of a pair, in mV. [Assumption 166: DEDUCED, unsafe.] -/
def ethWire (mv : Int) : Nat := if mv < 500 then lineGnd else if 6000 < mv then lineBat else 0

/-- The two wires of a pair. Both normal clear a short, and with the link up an open line as well.
[Assumption 162: DESIGN CHOICE, unsafe. Assumption 166: DEDUCED, unsafe.] -/
def State.ethDiag (s : State) (p : Nat) (a b : Int) : State :=
  match ethLine p with
  | none => s
  | some i =>
    if !s.mayLink p then s
    else if ethWire a = 0 ∧ ethWire b = 0 then
      (if s.rd (Fd.SYS_XDIAG_STATE i) = lineOpen ∧ !s.linkUp p then s else s.lineClear i)
    else
      let s := if ethWire a = 0 then s else s.lineFault i (ethWire a)
      if ethWire b = 0 then s else s.lineFault i (ethWire b)

def execEthWireDiag (p : Fin 24) (a b : Int) (s : State) : Host.Outcome State Fault Refusal := .next (s.ethDiag p.val a b)

/-- The cable test of a PHY whose link is down: no termination is OPEN; one that it finds clears OPEN.
[Assumption 166: DEDUCED, unsafe.] -/
def State.cableTest (s : State) (p : Nat) (openLine : Bool) : State :=
  match ethLine p with
  | none => s
  | some i =>
    if !s.mayLink p || s.linkUp p then s
    else if openLine then s.lineFault i lineOpen
    else if s.rd (Fd.SYS_XDIAG_STATE i) = lineOpen then s.lineClear i else s

def execEthCableTest (p : Fin 24) (openLine : Bool) (s : State) : Host.Outcome State Fault Refusal := .next (s.cableTest p.val openLine)

/-! ### CAN (R468) -/

/-- A wire of a CAN bus at the sample points of recessive bits, in mV. [Assumption 166: DEDUCED, unsafe.] -/
def canWire (mv : Int) : Nat := if mv < 1000 then lineGnd else if 16000 < mv then lineBat else 0

/-- The two wires, and whether 16 dominant bits of the channel's own in a row have shown a load above 200 Ω.
[Assumption 162: DESIGN CHOICE, unsafe. Assumption 166: DEDUCED, unsafe.] -/
def State.canDiag (s : State) (k : Nat) (high low : Int) (openLoad : Bool) : State :=
  if s.dev ≠ .active ∨ s.gated 0xC ∨ !s.trxUp k then s
  else
    let s := if canWire high = 0 then s else s.lineFault k (canWire high)
    let s := if canWire low = 0 then s else s.lineFault k (canWire low)
    let s := if openLoad then s.lineFault k lineOpen else s
    if canWire high = 0 ∧ canWire low = 0 ∧ !openLoad then s.lineClear k else s

def execCanWireDiag (k : Fin 8) (high low : Int) (openLoad : Bool) (s : State) : Host.Outcome State Fault Refusal :=
  .next (s.canDiag k.val high low openLoad)

end Sys2Proof.Machine
end

