-- ==== Sys2Proof/Machine/Views.lean ====
section
/-! DEFINITION. What a read of each register returns (R41, R45): most registers keep their word in the register file; the words below are
assembled from state that has its home elsewhere. -/

namespace Sys2Proof.Machine

/-- AO_WAKE_TIMER: the last value that has crossed into the LP domain (R78). [Assumption 51: DEDUCED, unsafe.] -/
def State.lpCount (s : State) : Nat :=
  match (s.ao.lpSent.filter (fun p => decide (p.1 ≤ s.now))).getLast? with
  | some p => p.2.2
  | none => (s.reg Rg.AO_WAKE_TIMER).toNat

/-- IC_NOTICE[g]: EN, and PEND as the endpoints' NOTICE bits (R378). -/
def State.noticeWord (s : State) (g : Nat) : Nat := s.rd (Fd.IC_NOTICE_EN g) * 65536 + s.noticePend g

/-- The REGION item of region index `r` (R376). -/
def State.regionAt (s : State) (r : Nat) : Option Item :=
  (s.items 0x0401).find? (fun i => (match i.rgnTarget with | 0 => i.rgnIndex | 1 => 64 + i.rgnIndex | _ => 80 + i.rgnIndex) == r)

/-- WG_RGN_BASE, WG_RGN_SIZE and WG_RGN_ATTR, `part` 0 to 2, of region index `r`. -/
def State.regionWord (s : State) (r part : Nat) : Nat :=
  match s.regionAt r with
  | none => 0
  | some i =>
    match part with
    | 0 => i.rgnBase / 4096 % 2 ^ 22
    | 1 => i.rgnSize / 4096 % 2 ^ 22
    | _ => 2 ^ 31 + i.rgnCourtyard * 2 ^ 24 + i.rgnDistrict * 2 ^ 16 + i.rgnTarget * 2 ^ 8 + i.rgnPerm % 16

/-- The slot that KS_SLOT_SEL shows. [Assumption 11: DESIGN CHOICE, safe.] -/
def State.shownSlot (s : State) : KeySlot := s.slot (s.rd Fd.KS_SLOT_SEL_SLOT)

/-- KS_SLOT_ATTR to KS_SLOT_KCV, by offset in the page (R414). -/
def State.slotWord (s : State) (off : Nat) : Nat :=
  let k := s.shownSlot
  let valid := k.st == 1
  match off with
  | 0x44 => if valid then k.attr else 0
  | 0x48 => k.owner % 2 ^ 32
  | 0x4C => k.owner / 2 ^ 32 % 2 ^ 32
  | 0x50 => k.gen * 65536 + k.st
  | _ => if valid then leNat (k.kcv.take 4) else 0

/-- The stream that SQ_STREAM_SEL shows. -/
def State.shownStream (s : State) : Strm := s.strm (s.rd Fd.SQ_STREAM_SEL_HANDLE)

/-- The next transmit PN of a MACsec port (SW_MS_TXPN). -/
def State.shownPn (s : State) (m : Nat) : Nat :=
  match s.txSaAt (msPort m) (s.txAn (msPort m)) with
  | some a => a.pn
  | none => 0

/-- The registers of block 0x03 that Crossing keeps. -/
def State.viewIc (s : State) (a : Nat) : Nat :=
  let k := a % 0x10000 / 4
  if a < 0x20030800 then s.srcWord k
  else if 0x20032000 ≤ a ∧ a < 0x20032024 then s.tgtWord (k - 0x800)
  else if 0x20033000 ≤ a ∧ a < 0x20033400 then s.noticeWord (k - 0xC00)
  else if 0x20033500 ≤ a ∧ a < 0x20033580 then s.wakeSubsetWord (k - 0xD40)
  else if 0x20033600 ≤ a ∧ a < 0x20033640 then s.pendingWord (k - 0xD80)
  else (s.reg a).toNat

/-- The registers of block 0x05 that the plan and the Courtyards give. -/
def State.viewWg (s : State) (who : Who) (a : Nat) : Nat :=
  if a = Rg.WG_RESERVE then s.reserveWord who.courtyard.toNat
  else if a = Rg.WG_RESV_STATUS then s.reservedBlocks * 256
  else if 0x20051000 ≤ a ∧ a < 0x20051600 then s.regionWord ((a - 0x20051000) / 16) (a / 4 % 4)
  else if 0x20052000 ≤ a ∧ a < 0x20053000 then s.groups ((a - 0x20052000) / 256) (a / 4 % 64)
  else (s.reg a).toNat

/-- The registers of the CAN channels (block 0x0C). -/
def State.viewCan (s : State) (a : Nat) : Nat :=
  let k := a / 0x1000 % 16
  let off := a % 0x1000
  if 8 ≤ k then (s.reg a).toNat
  else if off = 0x004 then s.canStatusWord k
  else if off = 0x0C8 then (s.buf k (s.mbSelected k)).time % 2 ^ 32
  else if off = 0x0CC then (s.buf k (s.mbSelected k)).time / 2 ^ 32 % 2 ^ 32
  else if 0x100 ≤ off ∧ off < 0x148 then (((s.buf k (s.mbSelected k)).word ((off - 0x100) / 4)))
  else if 0x200 ≤ off ∧ off < 0x400 then s.mbCfgWord k ((off - 0x200) / 4)
  else if 0x800 ≤ off ∧ off < 0xA00 then s.mbStatWord k ((off - 0x800) / 4)
  else (s.reg a).toNat

/-- The registers of Underpass: all but UX_STATUS read 0 in a unit without a TWIN item (R434). -/
def State.viewUx (s : State) (a : Nat) : Nat :=
  if a = Rg.UX_STATUS then putBits (s.reg a).toNat 7 7 (if s.linkUp 22 then 1 else 0)
  else if isRejectReg a then (s.reg a).toNat
  else if !s.flag Fd.UX_STATUS_CONFIG then 0
  else (s.reg a).toNat

/-- The registers of the SQ_ block. -/
def State.viewSq (s : State) (a : Nat) : Nat :=
  if a = Rg.SQ_TIME_LO then s.vt % 2 ^ 32
  else if a = Rg.SQ_TIME_HI then s.vt / 2 ^ 32 % 2 ^ 32
  else if 0x20092500 ≤ a ∧ a < 0x20092560 then s.gateWord ((a - 0x20092500) / 4)
  else if a = Rg.SQ_STREAM_SEQ then s.shownStream.rxSeq % 65536 * 65536 + s.shownStream.txSeq % 65536
  else if 0x20093010 ≤ a ∧ a < 0x20093030 then tget (fun _ => 0) s.shownStream.cnt ((a - 0x20093010) / 4)
  else if a = Rg.SQ_STREAM_SAT then s.rd Fd.SQ_STREAM_SAT_IE * 256 + s.shownStream.sat % 256
  else (s.reg a).toNat

/-- The word of the register at `a`, as an access of `who` reads it. [Assumption 11: DESIGN CHOICE, safe.] -/
def State.regView (s : State) (who : Who) (a : Nat) : Nat :=
  match pageBlock a with
  | 0 => if a = Rg.SYS_X_STATUS then putBits (s.reg a).toNat 1 1 (if s.flag Fd.SYS_X_STATUS_SVC && s.flag Fd.KS_STATUS_PROV_OPEN then 1 else 0)
    else (s.reg a).toNat
  | 2 => if a = Rg.AO_WAKE_TIMER then s.lpCount else (s.reg a).toNat
  | 3 => s.viewIc a
  | 5 => s.viewWg who a
  | 6 => if 0x20060044 ≤ a ∧ a < 0x20060058 then s.slotWord (a % 0x10000) else (s.reg a).toNat
  | 8 => if 0x20081000 ≤ a ∧ a < 0x20081300 ∧ a % 256 = 8 then s.shownPn (a / 256 % 16) % 2 ^ 32
    else if 0x20081000 ≤ a ∧ a < 0x20081300 ∧ a % 256 = 12 then s.shownPn (a / 256 % 16) / 2 ^ 32 % 2 ^ 32
    else (s.reg a).toNat
  | 9 => s.viewSq a
  | 0xA => if a = Rg.SF_STATUS then s.sfStatusWord else if a = Rg.SF_MON_STATUS then s.monStatusWord else (s.reg a).toNat
  | 0xB => if 0x200B0200 ≤ a ∧ a < 0x200B02D0 then s.chStatusWord ((a - 0x200B0200) / 4) else (s.reg a).toNat
  | 0xC => s.viewCan a
  | 0xE => if 0x200E0100 ≤ a ∧ a < 0x200E0200 then s.pinStatusWord ((a - 0x200E0100) / 4) else (s.reg a).toNat
  | 0xF => s.viewUx a
  | _ => (s.reg a).toNat

/-! ### Reads with the rules of R41, R45, R51 -/

/-- The registers of 64-bit pairs that are read under the latching rule of R51, by the address of their _LO half. -/
def latchedLo (a : Nat) : Bool :=
  (decide (0x20040040 ≤ a) && decide (a < 0x20040060) && a % 8 == 0) || a == Rg.KS_TAMPER_TIME_LO ||
  (decide (0x20081000 ≤ a) && decide (a < 0x20081300) && a % 256 == 8) || a == Rg.SQ_TIME_LO ||
  (decide (0x20092000 ≤ a) && decide (a < 0x20092300) && a % 8 == 0) ||
  (decide (0x200B0400 ≤ a) && decide (a < 0x200B05A0) && a % 8 == 0) ||
  (decide (0x200B0C00 ≤ a) && decide (a < 0x200B0F40) && a % 16 == 8) ||
  (decide (0x200C0000 ≤ a) && decide (a < 0x200C8000) && a % 0x1000 == 0xC8)

/-- The shadow that an initiator holds of the counter whose _LO half is at `a`: its upper half. -/
def State.shadowOf (s : State) (init a : Nat) : Option Nat := (s.shadows.find? (fun p => p.1 == init && p.2.1 == a)).map (·.2.2)
def State.dropShadow (s : State) (init a : Nat) : State :=
  { s with shadows := s.shadows.filter (fun p => !(p.1 == init && p.2.1 == a)) }

/-- A read of a _LO half latches the whole counter for the initiator, replacing its earlier latch. -/
def State.latch (s : State) (who : Who) (a : Nat) : State :=
  let high := s.regView who (a + 4)
  let s := s.dropShadow who.initiator.toNat a
  { s with shadows := s.shadows ++ [(who.initiator.toNat, a, high)] }

/-- The fields of a register that a read clears (R41, R46). [Assumption 169: DEDUCED, unsafe.] -/
def rcBits (fs : List FieldRow) (w : Nat) : Nat :=
  match fs with
  | [] => w
  | f :: rest => rcBits rest (if f.acc == .rc then putBits w f.hi f.lo 0 else w)

/-- The register at `a` has a field that a read clears. -/
def hasRc (a : Nat) : Bool :=
  match RegMap.at a with
  | some (r, _) => r.fields.any (fun f => f.acc == .rc)
  | none => false

/-- A read clears the RC fields of the register. [Assumption 169: DEDUCED, unsafe.] -/
def State.clearRc (s : State) (a : Nat) : State :=
  match RegMap.at a with
  | some (r, _) => s.setReg a (BitVec.ofNat 32 (rcBits r.fields (s.reg a).toNat))
  | none => s

/-- A register of a message buffer that an endpoint holds, other than CAN_MB_CFG, whose HELD shows it.
[Assumption 137: DEDUCED, unsafe.] -/
def State.heldBufReg (s : State) (a : Nat) : Bool :=
  let k := a / 0x1000 % 16
  let off := a % 0x1000
  pageBlock a == 0xC && decide (k < 8) &&
    (((decide (0x400 ≤ off) && decide (off < 0xC00)) && s.bufHeld k (off % 0x200 / 4)) ||
      ((off == 0xC8 || off == 0xCC) && s.bufHeld k (s.mbSelected k)))

/-- A read of a register without a row of its own. -/
def State.plainRead (s : State) (who : Who) (bytes a : Nat) : State :=
  let own := if s.heldBufReg a then some false else none
  if latchedLo a then s.regRead who bytes a own (s.regView who a) (fun s => s.latch who a)
  else if latchedLo (a - 4) then
    match s.shadowOf who.initiator.toNat (a - 4) with
    | some h => s.regRead who bytes a own h (fun s => s.dropShadow who.initiator.toNat (a - 4))
    | none => s.regRead who bytes a own (s.regView who a) id
  else s.regRead who bytes a own (s.regView who a) (fun s => s.clearRc a)

/-- A read of a register page: the registers whose read is an operation of its own, and the others. [Assumption 169: DEDUCED, unsafe.] -/
def State.pageRead (s : State) (who : Who) (bytes a : Nat) : State :=
  let off := a % 0x10000
  if 0x20032040 ≤ a ∧ a < 0x20032064 ∧ a % 4 = 0 then s.claimRead who bytes ((off - 0x2040) / 4)
  else if a = Rg.AO_MRAM_DATA then s.mramRead who bytes
  else if 0x200C0000 ≤ a ∧ a < 0x200C8000 ∧ 0x100 ≤ a % 0x1000 ∧ a % 0x1000 < 0x148 ∧ a % 4 = 0 then
    s.mbWindowRead who bytes (a / 0x1000 % 16) ((a % 0x1000 - 0x100) / 4)
  else if 0x200F0400 ≤ a ∧ a < 0x200F0480 ∧ a % 4 = 0 then s.semRequest who bytes ((off - 0x400) / 4) none
  else if 0x200F0480 ≤ a ∧ a < 0x200F0500 ∧ a % 4 = 0 then s.twinSemRequest who bytes (Fin.ofNat 32 ((off - 0x480) / 4))
  else if 0x200F8000 ≤ a ∧ a < 0x200FC000 then s.aperture who bytes .read a
  else s.plainRead who bytes a

end Sys2Proof.Machine
end

