-- ==== Sys2Proof/Machine/Writes.lean ====
section
/-! DEFINITION. A write to any register (R41 to R44, R50, R51): the registers whose writes have rows of their own go to the functions of those
rows; every other register follows here. -/

namespace Sys2Proof.Machine

/-! ### Event counters (R50, R51) -/

/-- An event counter clears, and its SAT bit, bit `b` of the register at `sat`. -/
def State.clearCount (s : State) (a sat b : Nat) : State := (s.setReg a 0).wr (bitOf sat b) 0

/-- A 64-bit counter clears, and its SAT bit. -/
def State.clearCount64 (s : State) (a sat b : Nat) : State := ((s.setReg a 0).setReg (a + 4) 0).wr (bitOf sat b) 0

/-- The SAT register and bit of the 32-bit event counter at `a`, for the blocks below 0x08. -/
def satLow (a : Nat) : Option (Nat × Nat) :=
  if 0x20001110 ≤ a ∧ a < 0x20001120 then some (Rg.SYS_EP_SAT, a / 4 % 4)
  else if 0x20031004 ≤ a ∧ a < 0x20031800 then some (Rg.IC_SPUR_SAT (a % 0x800 / 128), a / 4 % 32)
  else if 0x20040100 ≤ a ∧ a < 0x20040180 then some (Rg.CP_EVENT_SAT (a % 0x80 / 32), a / 4 % 8)
  else if 0x20050020 ≤ a ∧ a < 0x20050030 then some (Rg.WG_EVENT_SAT, a / 4 % 4)
  else if 0x20060080 ≤ a ∧ a < 0x20060090 then some (Rg.KS_EVENT_SAT, a / 4 % 4)
  else none

/-- The same for the switch and Shopfront. -/
def satMid (a : Nat) : Option (Nat × Nat) :=
  if 0x20080400 ≤ a ∧ a < 0x20080A00 then some (Rg.SW_EVENT_SAT ((a - 0x20080400) / 64), a / 4 % 16)
  else if 0x20091000 ≤ a ∧ a < 0x20091C00 then some (Rg.SQ_Q_SAT ((a - 0x20091000) / 128), a / 4 % 32)
  else if 0x20092400 ≤ a ∧ a < 0x20092460 then some (Rg.SQ_PORT_SAT ((a - 0x20092400) / 4), 4)
  else if 0x200A0200 ≤ a ∧ a < 0x200A0280 then some (Rg.SF_EVENT_SAT, a / 4 % 32)
  else if 0x200A0280 ≤ a ∧ a < 0x200A02A0 ∧ a % 16 < 8 then some (Rg.SF_DSP_SAT, a % 0x80 / 16 * 2 + a / 4 % 2)
  else if 0x200A0380 ≤ a ∧ a < 0x200A03E0 then some (Rg.SF_INTEG_SAT, a / 4 % 32)
  else none

/-- The same for Kerbside, CAN, the network, the pins and Underpass. -/
def satHigh (a : Nat) : Option (Nat × Nat) :=
  if 0x200B0600 ≤ a ∧ a < 0x200B0940 then some (Rg.PD_CH_SAT ((a - 0x200B0600) / 16), a / 4 % 4)
  else if 0x200C0000 ≤ a ∧ a < 0x200C8000 ∧ 0x40 ≤ a % 0x1000 ∧ a % 0x1000 < 0x80 then some (Rg.CAN_EVENT_SAT (a / 0x1000 % 16), a / 4 % 16)
  else if 0x200C8010 ≤ a ∧ a < 0x200C8018 then some (Rg.CAN_GWY_SAT, a / 4 % 2)
  else if 0x200D0400 ≤ a ∧ a < 0x200D0540 then some (Rg.NM_MED_SAT ((a - 0x200D0400) / 32), a / 4 % 8)
  else if 0x200E8000 ≤ a ∧ a < 0x200EC000 ∧ 0x10 ≤ a % 0x1000 ∧ a % 0x1000 < 0x20 then some (Rg.LIN_EVENT_SAT (a / 0x1000 % 4), a / 4 % 4)
  else if 0x200F0700 ≤ a ∧ a < 0x200F0720 then some (Rg.UX_EVENT_SAT, a / 4 % 8)
  else none

/-- The SAT register and bit of the 32-bit event counter at `a`. -/
def satOf (a : Nat) : Option (Nat × Nat) := if a < 0x20080000 then satLow a else if a < 0x200B0000 then satMid a else satHigh a

/-- The SAT register and bit of the 64-bit counter whose _LO half is at `a` (R51). -/
def sat64Of (a : Nat) : Option (Nat × Nat) :=
  if 0x20092000 ≤ a ∧ a < 0x20092300 ∧ a % 8 = 0 then some (Rg.SQ_PORT_SAT ((a - 0x20092000) / 32), a / 8 % 4)
  else if 0x200B0400 ≤ a ∧ a < 0x200B05A0 ∧ a % 8 = 0 then some (Rg.PD_CH_SAT ((a - 0x200B0400) / 8), 4)
  else none

/-! ### What a write does beyond its fields -/

/-- A counter of the stream that SQ_STREAM_SEL shows clears. -/
def State.clearStream (s : State) (c : Nat) : State :=
  let h := s.rd Fd.SQ_STREAM_SEL_HANDLE
  let x := s.strm h
  s.setStrm h { x with cnt := tset (fun _ => 0) x.cnt c 0, sat := clrBit x.sat c }

/-- SQ_STREAM_SAT: SAT belongs to the stream shown, IE to the register. -/
def State.streamSatEffect (s : State) (w : Nat) : State :=
  let h := s.rd Fd.SQ_STREAM_SEL_HANDLE
  let x := s.strm h
  (s.setStrm h { x with sat := (x.sat ||| w % 256) ^^^ (w % 256) }).setReg Rg.SQ_STREAM_SAT (BitVec.ofNat 32 (w / 256 % 256 * 256))

/-- Records that a written VALID bit clears as a whole: the rejection records (R48), WG_FAULT (R360) and UX_ERR (R453). -/
def State.clearRecord (s : State) (a : Nat) : State :=
  if a % 0x10000 = 0xFFF0 then s.setReg a 0
  else if a = Rg.WG_FAULT then ((s.setReg a 0).setReg Rg.WG_FAULT_ADDR_LO 0).setReg Rg.WG_FAULT_ADDR_HI 0
  else if a = Rg.UX_ERR then ((s.setReg a 0).setReg Rg.UX_ERR_ADDR 0).setReg Rg.UX_ERR_INFO 0
  else s

/-- A new EN of IC_NOTICE[g]: an EN bit that rises over a PEND bit is an event (R382). -/
def State.noticeEffect (old : Nat) (s : State) (g : Nat) : State :=
  let en := s.rd (Fd.IC_NOTICE_EN g)
  let was := (s.src (256 + g)).level
  if was && (s.noticePend g &&& ((en ||| old) ^^^ old)) != 0 then s.srcEvent (256 + g) else s.level (256 + g) (s.noticeLevel g)

/-- The effect of a write without a row of its own, `old` being the word before it. [Assumption 11: DESIGN CHOICE, safe.] -/
def State.plainEffect (old a w : Nat) (s : State) : State :=
  let s :=
    match satOf a, sat64Of a with
    | some (sat, b), _ => s.clearCount a sat b
    | none, some (sat, b) => s.clearCount64 a sat b
    | none, none =>
      if a = Rg.SW_FDB_STATS then s.setReg a 0
      else if 0x200B0C00 ≤ a ∧ a < 0x200B0F40 ∧ a % 16 = 4 then s.setReg a 0
      else if 0x20093010 ≤ a ∧ a < 0x20093030 then (s.setReg a 0).clearStream ((a - 0x20093010) / 4)
      else if a = Rg.SQ_STREAM_SAT then s.streamSatEffect w
      else if a = Rg.SYS_MBOX_BASE_LO ∨ a = Rg.SYS_MBOX_BASE_HI then s.mboxBaseEffect (a == Rg.SYS_MBOX_BASE_HI)
      else if a = Rg.PD_AMBIENT_SW then { s with kb := { s.kb with ambSwAt := some s.now } }
      else if tbit w 31 ∧ (a % 0x10000 = 0xFFF0 ∨ a = Rg.WG_FAULT ∨ a = Rg.UX_ERR) then s.clearRecord a
      else s
  if 0x20033000 ≤ a ∧ a < 0x20033400 then s.noticeEffect (old / 65536) ((a - 0x20033000) / 4)
  else s.relevel (pageBlock a)

/-! ### Conditions that the register map states in words -/

/-- Some endpoint other than 0 exists. -/
def State.otherEp (s : State) : Bool := s.ep.eps.any (fun p => p.2.live && p.1 != 0)

/-- CRC_BLANK and STALE_BLANK are 0, or at least their MARK (R215). -/
def blankBad (w old : Nat) : Bool :=
  let mark := getBits w 3 0
  let blank := getBits w 7 4
  (mark != getBits old 3 0 || blank != getBits old 7 4) && blank != 0 && decide (blank < mark)

/-- A value outside a range stated in words. -/
def State.plainBad (s : State) (a w : Nat) : Bool :=
  let old := (s.reg a).toNat
  if a = Rg.SYS_CTX_BASE_LO then w != old && w % 0x400000 != 0
  else if a = Rg.SYS_MBOX_BASE_LO then w != old && w % 0x40000 != 0
  else if 0x200A0300 ≤ a ∧ a < 0x200A0330 then blankBad w old
  else if a = Rg.PD_AMBIENT_SW then w % 65536 != old % 65536 && (decide (signed 16 w < -400) || decide (1250 < signed 16 w))
  else false

/-- The register belongs to an object that an endpoint holds, or to a gang member other than the lead (R223, R258, R278, R318). -/
def State.plainHeld (s : State) (a : Nat) : Bool :=
  if 0x200B0B00 ≤ a ∧ a < 0x200B0BD0 then s.chLead ((a - 0x200B0B00) / 4) != (a - 0x200B0B00) / 4
  else if 0x200E0100 ≤ a ∧ a < 0x200E0200 then (s.pinHolder ((a - 0x200E0100) / 4)).isSome
  else if 0x200E8000 ≤ a ∧ a < 0x200EC000 then (s.linHolder (a / 0x1000 % 4)).isSome
  else s.heldBufReg a

/-- Step 8 of Table 03-2. -/
def State.plainRefuse (s : State) (a : Nat) : Nat :=
  if Rg.SYS_CTX_BASE_LO ≤ a ∧ a ≤ Rg.SYS_MBOX_BASE_HI then (if s.otherEp then Code.WRONG_STATE else Code.DONE)
  else if pageBlock a = 0xF ∧ a % 0x10000 < 0xFFF0 ∧ !s.uxOn then Code.WRONG_STATE
  else Code.DONE

/-- A write to a register without a row of its own. -/
def State.plainWrite (s : State) (who : Who) (bytes a : Nat) (w : Word) : State :=
  let old := (s.reg a).toNat
  s.regWrite who bytes a w (s.plainHeld a) (s.plainBad a w.toNat) (s.plainRefuse a) (fun s => s.plainEffect old a w.toNat)

/-! ### The registers with rows of their own -/

/-- Blocks 0x00 to 0x03. -/
def State.write0 (s : State) (who : Who) (bytes a : Nat) (w : Word) : Option State :=
  if a = Rg.SYS_EP_CMD then some (s.epCmdWrite who bytes w)
  else if a = Rg.SYS_EP0_RINGS_LO then some (s.ep0Write who bytes false w)
  else if a = Rg.SYS_EP0_RINGS_HI then some (s.ep0Write who bytes true w)
  else if a = Rg.AO_STATE then some (s.devResetWrite who bytes w)
  else if a = Rg.AO_SLEEP then some (s.sleepWrite who bytes w)
  else if a = Rg.AO_WAKE_TIMER then some (s.wakeTimerWrite who bytes w)
  else if a = Rg.AO_WDT then some (s.wdtWrite who bytes w)
  else if a = Rg.AO_PWR_REQ then some (s.powerWrite who bytes w)
  else if 0x20020040 ≤ a ∧ a < 0x20020080 then some (s.logStageWrite who bytes (a / 4 % 16) w)
  else if 0x20030004 ≤ a ∧ a < 0x20030800 then some (s.srcCfgWrite who bytes (a / 4 % 512) w)
  else if 0x20032000 ≤ a ∧ a < 0x20032024 then some (s.targetCtrlWrite who bytes (a / 4 % 16) w)
  else if 0x20032040 ≤ a ∧ a < 0x20032064 then some (s.claimWrite who bytes (a / 4 % 16) w)
  else if 0x20032080 ≤ a ∧ a < 0x200320A4 then some (s.completeWrite who bytes (a / 4 % 16) w)
  else none

/-- Blocks 0x04 to 0x09. -/
def State.write4 (s : State) (who : Who) (bytes a : Nat) (w : Word) (now : State → State) : Option State :=
  if 0x20040000 ≤ a ∧ a < 0x20040010 then some (s.pairCtrlWrite who bytes (a / 4 % 4) w)
  else if 0x20040020 ≤ a ∧ a < 0x20040040 then some (s.cpEntryWrite who bytes (a / 8 % 4) (a % 8 == 4) w)
  else if a = Rg.CP_FAULT_OUT then some (s.faultOutWrite who bytes w)
  else if a = Rg.WG_BANK_PWR then some (s.bankWrite who bytes w)
  else if a = Rg.WG_RESERVE then some (s.reserveWrite who bytes w)
  else if a = Rg.KS_PROV_LOCK then some (s.provLockWrite who bytes w)
  else if a = Rg.UP_CMD then some (s.upCmdWrite who bytes w now)
  else if Rg.UP_SRC_LO ≤ a ∧ a ≤ Rg.UP_SRC_LEN then some (s.upSrcWrite who bytes ((a - Rg.UP_SRC_LO) / 4) w)
  else if a = Rg.UP_TIME_LO then some (s.upTimeWrite who bytes false w)
  else if a = Rg.UP_TIME_HI then some (s.upTimeWrite who bytes true w)
  else if a = Rg.UP_MODE then some (s.upModeWrite who bytes w)
  else if a = Rg.SW_FDB_CMD then some (s.fdbCmdWrite who bytes w)
  else if 0x20081000 ≤ a ∧ a < 0x20081300 ∧ a % 256 = 0 then some (s.msCtrlWrite who bytes (a / 256 % 16) w)
  else if 0x20081000 ≤ a ∧ a < 0x20081300 ∧ a % 256 = 0x10 then some (s.saLoadWrite who bytes (a / 256 % 16) w)
  else if 0x20090040 ≤ a ∧ a < 0x200900A0 then some (s.asCfgWrite who bytes ((a - 0x20090040) / 4) w)
  else if a = Rg.SQ_STREAM_SEL then some (s.streamSelWrite who bytes w)
  else none

/-- Blocks 0x0A and 0x0B. -/
def State.writeA (s : State) (who : Who) (bytes a : Nat) (w : Word) : Option State :=
  let k := a / 4 % 4
  if 0x200A0010 ≤ a ∧ a < 0x200A0020 then some (s.camTimingWrite who bytes k w)
  else if 0x200A0020 ≤ a ∧ a < 0x200A0030 then some (s.camCtrlWrite who bytes k w)
  else if 0x200A0040 ≤ a ∧ a < 0x200A0050 then some (s.i2cWrite who bytes k w)
  else if 0x200A0100 ≤ a ∧ a < 0x200A0140 then
    some (if a % 8 = 0 then s.ovlLoWrite who bytes (a / 8 % 8) w else s.ovlHiWrite who bytes (a / 8 % 8) w)
  else if 0x200A0140 ≤ a ∧ a < 0x200A0160 then some (s.tapCfgWrite who bytes (a / 4 % 8) w)
  else if 0x200A0330 ≤ a ∧ a < 0x200A0338 then some (s.integStateWrite who bytes (a / 4 % 2) w)
  else if 0x200A0350 ≤ a ∧ a < 0x200A0360 then some (s.pocWrite who bytes k w)
  else if a = Rg.SF_HEARTBEAT then some (s.heartbeatWrite who bytes w)
  else if 0x200B0100 ≤ a ∧ a < 0x200B01D0 then some (s.chCtrlWrite who bytes ((a - 0x200B0100) / 4) w)
  else if a = Rg.PD_LAYBY_CTRL then some (s.laybyCtrlWrite who bytes w)
  else none

/-- Blocks 0x0C and 0x0D. -/
def State.writeC (s : State) (who : Who) (bytes a : Nat) (w : Word) : Option State :=
  let k := a / 0x1000 % 16
  let off := a % 0x1000
  if pageBlock a = 0xC ∧ k < 8 then
    if off = 0 then some (s.canModeWrite who bytes k w)
    else if off = 0x020 then some (s.ttCfgWrite who bytes k w)
    else if off = 0x024 then some (s.ttRefWrite who bytes k w)
    else if off = 0x0C0 then some (s.mbSelWrite who bytes k w)
    else if 0x100 ≤ off ∧ off < 0x148 then some (s.mbWindowWrite who bytes k ((off - 0x100) / 4) w)
    else if 0x200 ≤ off ∧ off < 0x400 then some (s.mbCfgWrite who bytes k ((off - 0x200) / 4) w)
    else if 0xA00 ≤ off ∧ off < 0xC00 then some (s.mbCtrlWrite who bytes k ((off - 0xA00) / 4) w)
    else none
  else if 0x200D0000 ≤ a ∧ a < 0x200D0020 then some (s.trxCtrlWrite who bytes (a / 4 % 8) w)
  else if 0x200D0020 ≤ a ∧ a < 0x200D0060 then some (s.swkWrite who bytes (a / 4 % 8) a w)
  else if 0x200D0060 ≤ a ∧ a < 0x200D00A0 then some (s.swkWrite who bytes ((a - 0x200D0060) / 8) a w)
  else if 0x200D0100 ≤ a ∧ a < 0x200D0128 then some (s.ringCtrlWrite who bytes ((a - 0x200D0100) / 4) w)
  else if 0x200D0708 ≤ a ∧ a < 0x200D0740 then some (s.ethCtrlWrite who bytes ((a - 0x200D0700) / 4) w)
  else none

/-- Block 0x0E. -/
def State.writeE (s : State) (who : Who) (bytes a : Nat) (w : Word) : Option State :=
  let l := a / 0x1000 % 4
  let off := a % 0x1000
  if 0x200E0200 ≤ a ∧ a < 0x200E0300 then some (s.pinOutWrite who bytes ((a - 0x200E0200) / 4) w)
  else if 0x200E8000 ≤ a ∧ a < 0x200EC000 then
    if off = 0 then some (s.linCtrlWrite who bytes l w)
    else if 0x100 ≤ off ∧ off < 0x1F8 then some (s.linFrameCfgWrite who bytes l ((off - 0x100) / 4) w)
    else if 0x200 ≤ off ∧ off < 0x3F0 then some (s.linDataWrite who bytes a l ((off - 0x200) / 8) w)
    else none
  else none

/-- Block 0x0F: registers of Underpass, and the apertures. -/
def State.writeF (s : State) (who : Who) (bytes a : Nat) (w : Word) : Option State :=
  if 0x200F0100 ≤ a ∧ a < 0x200F0140 then some (s.outWinWrite who bytes (a / 8 % 8) (a % 8 == 4) w)
  else if 0x200F0200 ≤ a ∧ a < 0x200F0280 ∧ a % 16 < 12 then some (s.inWinWrite who bytes (a / 16 % 8) (a / 4 % 4) w)
  else if 0x200F0400 ≤ a ∧ a < 0x200F0480 then some (s.semWrite who bytes (a / 4 % 32) w)
  else if 0x200F0480 ≤ a ∧ a < 0x200F0500 then some (s.twinSemWrite who bytes (Fin.ofNat 32 (a / 4 % 32)) w)
  else if 0x200F0500 ≤ a ∧ a < 0x200F0580 then some (s.semGranWrite who bytes (a / 4 % 32) w)
  else if 0x200F0600 ≤ a ∧ a < 0x200F06C0 then some (s.takeoverWrite who bytes ((a - 0x200F0600) / 4) w)
  else if 0x200F8000 ≤ a ∧ a < 0x200FC000 then some (s.aperture who bytes (.write w) a)
  else none

/-- The register's own write, where it has one and the address is aligned. -/
def State.ownWrite (s : State) (who : Who) (bytes a : Nat) (w : Word) (now : State → State) : Option State :=
  if a % 4 ≠ 0 ∧ !(decide (0x200F8000 ≤ a) && decide (a < 0x200FC000)) then none
  else
    match pageBlock a with
    | 0 => s.write0 who bytes a w
    | 2 => s.write0 who bytes a w
    | 3 => s.write0 who bytes a w
    | 0xA => s.writeA who bytes a w
    | 0xB => s.writeA who bytes a w
    | 0xC => s.writeC who bytes a w
    | 0xD => s.writeC who bytes a w
    | 0xE => s.writeE who bytes a w
    | 0xF => s.writeF who bytes a w
    | _ => s.write4 who bytes a w now

/-- A write to a register page. `now` is the effect of an accepted ACTIVATE_NOW. -/
def State.pageWrite (s : State) (now : State → State) (who : Who) (bytes a : Nat) (w : Word) : State :=
  match s.ownWrite who bytes a w now with
  | some t => t
  | none => s.plainWrite who bytes a w

end Sys2Proof.Machine
end

