-- ==== Sys2Proof/Machine/Bus.lean ====
section
/-! DEFINITION. An access as the interconnect decodes it (R17, R19, R42, R146), and the accesses of the twin (R443, R445, R448). `now` is
everywhere the effect of an ACTIVATE_NOW that a write starts. -/

namespace Sys2Proof.Machine

/-! ### Decoding -/

/-- A write that reaches the interconnect. [Assumption 13: DEDUCED, unsafe.] -/
def State.busWrite (s : State) (now : State → State) (who : Who) (a : Nat) (data : List Byte) : State :=
  match placeOf a with
  | .registers => if s.reaches who a then s.pageWrite now who data.length a (BitVec.ofNat 32 (leNat data)) else s
  | .reservedRegisters =>
    if s.dev ≠ .active ∨ s.gateWait who then s
    else if data.length ≠ 4 ∨ a % 4 ≠ 0 then { (s.reject 0 Code.BAD_SIZE who true a).coreFault who 7 with resp := .busError }
    else { s.reject 0 Code.RESERVED_ADDRESS who true a with resp := .done }
  | .doorbells => s.dbWrite who data.length ((a - 0x21000000) / 0x1000) (a % 0x1000) (BitVec.ofNat 32 (leNat data))
  | _ => s.memAccess who .write a data

/-- A read that reaches the interconnect. -/
def State.busRead (s : State) (who : Who) (bytes a : Nat) : State :=
  match placeOf a with
  | .registers => s.pageRead who bytes a
  | .reservedRegisters =>
    if s.dev ≠ .active ∨ s.gateWait who then s
    else if bytes ≠ 4 ∨ a % 4 ≠ 0 then { (s.reject 0 Code.BAD_SIZE who false a).coreFault who 5 with resp := .busError }
    else { s with resp := .data 0 }
  | .doorbells => s.dbRead who bytes ((a - 0x21000000) / 0x1000) (a % 0x1000)
  | _ => s.memAccess who (.read bytes) a []

/-- A fetch from an I/O page is a read of it, whose bus error is an instruction access fault (R19, R42).
[Assumption 19: DESIGN CHOICE, unsafe.] -/
def State.ioFetch (s : State) (who : Who) (n a : Nat) : State :=
  let t := ({ s with resp := .none }).busRead who n a
  match t.resp with
  | .none => s
  | .busError => t.coreFault who 1
  | _ => t

/-- An atomic operation on an I/O page: a bus error where its size or alignment breaks R42, else a read and the write of its result.
[Assumption 19: DESIGN CHOICE, unsafe.] -/
def State.ioAmo (s : State) (now : State → State) (who : Who) (a : Nat) (data : List Byte) : State :=
  if data.length ≠ 4 ∨ a % 4 ≠ 0 then s.busWrite now who a data
  else
    let t := ({ s with resp := .none }).busRead who 4 a
    match t.resp with
    | .none => s
    | .data _ => { t.busWrite now who a data with resp := t.resp }
    | _ => t.coreFault who 7

/-- The address lies in the I/O space of Table 01-6: register pages, reserved register space, doorbell pages. -/
def ioSpace (a : Nat) : Bool := decide (0x20000000 ≤ a) && decide (a < 0x22000000)

/-- Any access. -/
def State.busAccess (s : State) (now : State → State) (who : Who) (k : AccessKind) (a : Nat) (data : List Byte) : State :=
  match k with
  | .write => s.busWrite now who a data
  | .read n => s.busRead who n a
  | .fetch n => if ioSpace a then s.ioFetch who n a else s.memAccess who k a data
  | .amo =>
    if !ioSpace a then s.memAccess who k a data
    else if s.toGate who a then s.gatedStore who a data true
    else s.ioAmo now who a data

/-! ### Accesses of the twin -/

/-- The word that an AMO*.W writes, from the word it finds. -/
def amoWord (op : AmoOp) (old w : BitVec 32) : BitVec 32 :=
  match op with
  | .swap => w
  | .add => old + w
  | .xor => old ^^^ w
  | .and => old &&& w
  | .or => old ||| w
  | .min => if old.slt w then old else w
  | .max => if old.slt w then w else old
  | .minu => if old.ult w then old else w
  | .maxu => if old.ult w then w else old

/-- The code of a far-side bus error (R19, R42, R349, R354, R360). -/
def State.busCode (s : State) (who : Who) (k : AccessKind) (a : Nat) : Nat :=
  match guardTarget (placeOf a) with
  | none => if placeOf a = .hole ∨ placeOf a = .rom then Code.RESERVED_ADDRESS else Code.BAD_SIZE
  | some t =>
    if placeOf a = .flash ∧ k.writes then Code.RESERVED_ADDRESS
    else if !s.passes who k t a 4 || (placeOf a == .sram && s.bankOff a 4) then Code.REGION_DENIED
    else Code.POISONED

/-- An access of the twin runs as initiator 0x0F: the state after it, with the last answer of this unit's own initiators kept, and what the
access gave: a word, or the code of a bus error. -/
def State.inIssue (s : State) (now : State → State) (who : Who) (k : AccessKind) (a : Nat) (data : List Byte) : State × (Nat ⊕ Nat) :=
  let t := ({ s with resp := .none }).busAccess now who k a data
  let out : Nat ⊕ Nat :=
    match t.resp with
    | .data w => .inl w
    | .done => .inl 0
    | .none => .inl 0
    | .busError => .inr (s.busCode who k a)
    | .poisoned => .inr (s.busCode who k a)
  ({ t with resp := s.resp }, out)

/-- The answer to an access that ran. [Assumption 160: DEDUCED, unsafe.] -/
def inResult (r : State × (Nat ⊕ Nat)) (posted : Option Nat) : State :=
  match r.2 with
  | .inl w => r.1.inAnswer w posted
  | .inr code => r.1.inDenied code posted

/-- An AMO on memory, or on a register as a read and a write. -/
def State.inAmo (s : State) (now : State → State) (who : Who) (op : AmoOp) (w : Word) (a : Nat) : State × (Nat ⊕ Nat) :=
  match guardTarget (placeOf a) with
  | some _ => s.inIssue now who .amo a (leBytes 4 (amoWord op (BitVec.ofNat 32 (s.le a 4)) w).toNat)
  | none =>
    let r := s.inIssue now who (.read 4) a []
    match r.2 with
    | .inl old => ((r.1.inIssue now who .write a (leBytes 4 (amoWord op (BitVec.ofNat 32 old) w).toNat)).1, .inl old)
    | .inr _ => r

/-- The semaphore of an LR that the twin's district still holds for the word at `a`. [Assumption 160: DEDUCED, unsafe.] -/
def State.lrHeld (s : State) (k district a : Nat) : Bool :=
  match s.sem k with
  | some x => x.twin && x.district == district && (match x.lr with | some h => h.addr == a && decide (s.now < h.fin) | none => false)
  | none => false

/-- An atomic access with the semaphore bound to its granule (R448). [Assumption 160: DEDUCED, unsafe.] -/
def State.inAtomic (s : State) (now : State → State) (who : Who) (district : Nat) (o : UxOp) (a : Nat) : State :=
  match s.granuleSem a with
  | none => s.inDenied Code.NO_RESOURCE none
  | some k =>
    match o with
    | .sc w =>
      if s.lrHeld k district a then
        let r := s.inIssue now who .write a (leBytes 4 w.toNat)
        match r.2 with
        | .inl _ => (r.1.setSem k none).inAnswer 0 none
        | .inr code => r.1.inDenied code none
      else s.draw.inAnswer (1 + s.freeNat % (2 ^ 32 - 1)) none
    | _ =>
      if (s.sem k).isSome then { s with ux := { s.ux with reply := some (.answer .held) } }
      else match o with
      | .amo op w => inResult (s.inAmo now who op w a) none
      | .lr =>
        let r := s.inIssue now who (.read 4) a []
        match r.2 with
        | .inl w => (r.1.setSem k (some ⟨true, district, some ⟨s.now + 10 * us, a⟩⟩)).inAnswer w none
        | .inr code => r.1.inDenied code none
      | _ => s

/-- A request of the twin's district for the word at `a`. [Assumption 160: DEDUCED, unsafe.] -/
def State.inbound (s : State) (now : State → State) (district : Nat) (o : UxOp) (a : Nat) (posted : Option Nat) : State :=
  if !s.uxOn || !s.linkUp 22 then s
  else if s.conflict then s.inDenied Code.ROLE_CONFLICT posted
  else match o with
  | .sem k => s.inSem k.val district
  | .release k => s.inRelease k.val district
  | _ =>
    match s.permitOf district o a with
    | none => s.inDenied Code.NO_PERMIT posted
    | some k =>
      let who : Who := ⟨0xF, BitVec.ofNat 6 (s.rd (Fd.UX_IN_WIN_ATTR_DISTRICT k)), 0⟩
      match o with
      | .read => inResult (s.inIssue now who (.read 4) a []) posted
      | .write w => inResult (s.inIssue now who .write a (leBytes 4 w.toNat)) posted
      | _ => if a % 4 ≠ 0 then s.inDenied Code.BAD_SIZE none else s.inAtomic now who district o a

end Sys2Proof.Machine
end

