-- ==== Sys2Proof/Machine/Gate.lean ====
section
/-! DEFINITION. The release gate and the comparison of windows (R327 to R331). `now` is the effect of an ACTIVATE_NOW that a released
write starts. -/

namespace Sys2Proof.Machine

/-! ### Windows (R327, R329, R331) -/

/-- A held write leaves to the interconnect; its initiator has been answered. -/
def State.releaseOne (s : State) (now : State → State) (e : GateEnt) : State :=
  { s.busWrite now e.who e.addr e.data with resp := s.resp }

/-- The held writes of the windows compared leave in program order. [Assumption 93: DEDUCED, unsafe.] -/
def State.releaseGate (s : State) (now : State → State) (p : Nat) : State :=
  let x := s.pair p
  let out := x.gate.filter (fun e => decide (e.win ≤ x.compared))
  let s := s.setGate p (x.gate.filter (fun e => decide (x.compared < e.win)))
  let s := forAll out (fun s e => s.releaseOne now e) (s.setPair p { s.pair p with leaving := true })
  s.setPair p { s.pair p with leaving := false }

/-- The next window has compared equal. -/
def State.windowMatch (s : State) (now : State → State) (p : Nat) : State :=
  let x := s.pair p
  (s.setPair p { x with compared := x.compared + 1 }).releaseGate now p

/-- The most records of a window of a pair: 2^WINDOW_LOG2 (R327). -/
def State.windowMax (s : State) (p : Nat) : Nat := 2 ^ s.rd (Fd.CP_PAIR_STATUS_WINDOW_LOG2 p)

/-- The window that compares next is closed. One that no gated store has closed closes, in a locked pair, by its count of records, or
when 4 × 2^WINDOW_LOG2 cycles of 1.4 GHz have passed since it could open (R327). [Assumption 93: DEDUCED, unsafe.] -/
def State.closeNext (s : State) (p records : Nat) : State :=
  let x := s.pair p
  if x.compared = x.closed ∧ s.locked p then
    let s := if records = s.windowMax p then s else s.reach (x.openAt + (20 * s.windowMax p + 6) / 7)
    s.setPair p { x with closed := x.closed + 1, openAt := s.now }
  else s

/-- Bollard A and Bollard B compare the signatures of the leader and the checker; a Bollard may err. [Assumption 93: DEDUCED, unsafe.] -/
def State.windowClose (s : State) (now : State → State) (p : Nat) (lead chk : List SigRec) (aWrong bWrong : Bool) : State :=
  if s.dev ≠ .active ∨ !(s.pairState p == 1 || s.pairState p == 2) ∨ s.windowMax p < lead.length ∨ s.windowMax p < chk.length then s
  else
    let s := s.closeNext p lead.length
    if (s.pair p).compared = (s.pair p).closed then s
    else
      let sig := misr lead
      let same := sig == misr chk
      let s := (s.setReg (Rg.CP_SIG_LO p) (sig.setWidth 32)).setReg (Rg.CP_SIG_HI p) ((sig >>> 32).setWidth 32)
      if aWrong != bWrong then s.checkerFault
      else if same != aWrong then s.windowMatch now p
      else (s.cpEvent p 0).pairFault p 1

end Sys2Proof.Machine
end

