-- ==== Sys2Proof/Machine/Activation.lean ====
section
/-! DEFINITION. ACTIVATE: the commit point and the two restarts (R39, R429 to R431, Table 19-7). -/

namespace Sys2Proof.Machine

/-- A locked pair closes its window at the commit point: a match releases its gate, a mismatch is a pair fault.
[Assumption 47: DEDUCED, unsafe.] -/
def State.closeForRestart (s : State) (p : Nat) (mismatch : Bool) : State :=
  if !(s.pairState p == 1 || s.pairState p == 2) then s
  else if mismatch then (s.cpEvent p 0).pairFault p 1
  else
    let x := s.pair p
    (s.setPair p { x with compared := x.closed }).releaseGate id p

/-- C0 to C7 are reset: claims complete, calls end without return, reservations end (R371, R374, R388). -/
def State.resetCores (s : State) : State :=
  let s := forAll (List.range 8) (fun s c => (s.completeCore c).startCore c 0) s
  { s with wg := { s.wg with l2 := [], resv := [], resvResult := [], resvBlock := [], restartWait := [] } }

/-- The plan in force goes on. -/
def State.sameBoot (s : State) (bank : Option Nat) (outcome code tpState : Nat) : Boot :=
  ⟨bank, false, ⟨s.plan, s.up.secs⟩, outcome, code, tpState⟩

/-- An envelope-only plan of bank `b` takes the place of the plan in force (R39). -/
def State.takePlan (s : State) (b : Nat) (f : Framed) : State :=
  let old := s.planBytes (s.rd Fd.TP_STATUS_BANK)
  let new := s.planBytes b
  let s := if new.take (planLength new) = old.take (planLength old) then s else s.wr Fd.TP_STATUS_ENV_ONLY 1
  { s with plan := f.items, up := { s.up with secs := f.secs } }

/-- The staged bank's plan has been rejected: the bank that ran goes on, if it still passes (R427). [Assumption 40: DEDUCED, unsafe.] -/
def State.trialRejected (s : State) (b old : Nat) (e : PlanFail) (st : Nat) : State × Boot :=
  let s := ((s.planRejected b e).setBank b 5).writeRec s.bootRec.lastGood old 0
  let r := s.checkBank old
  if r.2 = Code.DONE then (r.1, r.1.sameBoot (some old) 2 Code.PLAN_REJECTED 2)
  else (r.1, r.1.sameBoot none 3 Code.PLAN_REJECTED st)

/-- The bank chosen under R427, its envelope-only plan loaded where it is the staged one. [Assumption 47: DEDUCED, unsafe.] -/
def State.restartBank (s : State) : State × Boot :=
  let old := s.runningBank
  let st := s.rd Fd.TP_STATUS_STATE
  let r := s.chooseBank
  match r.2.bank with
  | none => (r.1, r.1.sameBoot none 3 r.2.code st)
  | some b =>
    if b = old then (r.1, r.1.sameBoot (some b) 2 r.2.code st)
    else
      let t := r.1.tryPlan b s.up.hwrev
      match t.2 with
      | .ok f => (t.1.takePlan b f, ⟨some b, r.2.trial, f, if r.2.trial then 1 else 2, r.2.code, 1⟩)
      | .error e => t.1.trialRejected b old e st

/-- Every pair starts in its INIT state; an operation that was under way is cancelled. [Assumption 47: DEDUCED, unsafe.] -/
def State.initPair (s : State) (p : Nat) : State :=
  let s := if s.rd (Fd.CP_PAIR_CTRL_RESULT p) = Code.BUSY then s.wr (Fd.CP_PAIR_CTRL_RESULT p) Code.CANCELLED else s
  ((s.discardGate p).setPair p s.freshPair).setPairState p (s.initState p)

/-- Town Hall runs again: the districts' unanswered requests are dropped, their pages rewritten, their machines restarted. -/
def State.restartTowns (s : State) : State := forAll (s.items 0x0201) (fun s i => (s.dropMail (i.n 0)).planDistrict i) s

/-- The registers that show what the restart chose. -/
def State.showRestart (s : State) (x : Boot) : State :=
  let s := match x.bank with
    | some b => (s.noteGood b).showTp x
    | none => s
  s.showUp x

/-- The management-plane restart (Table 19-7). [Assumption 47: DEDUCED, unsafe.] -/
def State.mgmtRestart (s : State) (mismatch : Nat) : State :=
  let s := { s with ao := { s.ao with wdtKick := s.now } }
  let s := forAll (List.range 4) (fun s p => s.closeForRestart p (tbit mismatch p)) s
  let r := s.resetCores.restartBank
  let s := r.1.showRestart r.2
  let s := ((forAll (List.range 4) State.initPair s).startCores r.2.bank).loadCourtyards r.2.bank
  (s.restartTowns.upEnd Code.DONE).relevelAll

/-- The commit point of an activation: the boot record, then the restart of CLASS; `mismatch` names the locked pairs whose closing windows
differ. [Assumption 46: DEDUCED, unsafe.] -/
def State.activate (mismatch : Nat) (s : State) : State :=
  let s := s.writeRec s.bootRec.lastGood s.idleBank 1
  if s.rd Fd.UP_STATUS_CLASS = 2 then s.deviceRestart 6 none
  else (s.wr Fd.UP_CMD_RESULT Code.BUSY).mgmtRestart mismatch

/-- The activation that a write without further operands starts: which windows differ is open. -/
def State.activateOpen (s : State) : State := s.draw.activate (s.freeNat % 16)

def execActivateNow (who : Who) (clr : Bool) (mismatch : BitVec 4) (s : State) : Host.Outcome State Fault Refusal :=
  .next (s.upCmdWrite (s.issuer who) 4 (upWord 2 clr) (State.activate mismatch.toNat))

/-- Vehicle time reaches UP_TIME. [Assumption 46: DEDUCED, unsafe.] -/
def execActivateAtCommit (mismatch : BitVec 4) (s : State) : Host.Outcome State Fault Refusal :=
  .next (match s.up.actAt with
    | some t =>
      let s := s.reachVt t
      ({ s with up := { s.up with actAt := none } }).activate mismatch.toNat
    | none => s)

/-! ### The accesses as commands -/

/-- [Assumption 15: DESIGN CHOICE, unsafe.] -/
def execMemoryAccess (who : Who) (kind : AccessKind) (addr : BitVec 64) (item : MemItem) (s : State) :
    Host.Outcome State Fault Refusal :=
  .next ((s.memErr (s.issuer who) kind addr.toNat item.err).busAccess State.activateOpen (s.issuer who) kind addr.toNat item.data)

/-- [Assumption 14: DEDUCED, unsafe. Assumption 15: DESIGN CHOICE, unsafe.] -/
def execRegisterWrite (who : Who) (bytes : Nat) (addr : BitVec 34) (w : Word) (s : State) : Host.Outcome State Fault Refusal :=
  .next (s.busWrite State.activateOpen (s.issuer who) addr.toNat (leBytes bytes w.toNat))

/-- [Assumption 14: DEDUCED, unsafe.] -/
def execRcFieldRead (who : Who) (bytes : Nat) (addr : BitVec 34) (s : State) : Host.Outcome State Fault Refusal :=
  .next (s.busRead (s.issuer who) bytes addr.toNat)

/-- [Assumption 14: DEDUCED, unsafe.] -/
def execCounterLoRead (who : Who) (bytes : Nat) (addr : BitVec 34) (s : State) : Host.Outcome State Fault Refusal :=
  .next (s.busRead (s.issuer who) bytes addr.toNat)

/-- [Assumption 15: DESIGN CHOICE, unsafe.] -/
def execGatedStore (who : Who) (addr : BitVec 34) (data : List Byte) (amo : Bool) (s : State) : Host.Outcome State Fault Refusal :=
  .next (s.gatedStore (s.issuer who) addr.toNat data amo)

def execWindowClose (p : Fin 4) (lead chk : List SigRec) (aWrong bWrong : Bool) (s : State) : Host.Outcome State Fault Refusal :=
  .next (s.windowClose State.activateOpen p lead chk aWrong bWrong)

def execInboundRequest (district : BitVec 6) (op : UxOp) (addr : BitVec 34) (posted : Option (BitVec 16)) (s : State) :
    Host.Outcome State Fault Refusal :=
  .next (s.inbound State.activateOpen district.toNat op addr.toNat (posted.map BitVec.toNat))

end Sys2Proof.Machine
end

