-- ==== Sys2Proof/Machine/Dispatch.lean ====
section
/-! DEFINITION. One arm for each command: a direct call of its meaning. -/

namespace Sys2Proof.Machine

def exec (i : Instr) (s : State) : Host.Outcome State Fault Refusal :=
  match i with
  | .powerOnStart strap svc => Sys2Proof.Machine.execPowerOnStart strap svc s
  | .brownOutReset => Sys2Proof.Machine.execBrownOutReset s
  | .reducedFunctionEnter => Sys2Proof.Machine.execReducedFunctionEnter s
  | .reducedFunctionExit => Sys2Proof.Machine.execReducedFunctionExit s
  | .supplyLossSequence feedA feedB supply => Sys2Proof.Machine.execSupplyLossSequence feedA feedB supply s
  | .supplyReturn => Sys2Proof.Machine.execSupplyReturn s
  | .wakeQualified edge => Sys2Proof.Machine.execWakeQualified edge s
  | .wakeTimerExpiry => Sys2Proof.Machine.execWakeTimerExpiry s
  | .lpCrystalSettled => Sys2Proof.Machine.execLpCrystalSettled s
  | .boot hwrev rom => Sys2Proof.Machine.execBoot hwrev rom s
  | .sleepRequest who w => Sys2Proof.Machine.execSleepRequest who w s
  | .sleepCommit => Sys2Proof.Machine.execSleepCommit s
  | .sleepDrainTimeout => Sys2Proof.Machine.execSleepDrainTimeout s
  | .watchdogKick who w => Sys2Proof.Machine.execWatchdogKick who w s
  | .watchdogExpiry => Sys2Proof.Machine.execWatchdogExpiry s
  | .softwareDeviceReset who w => Sys2Proof.Machine.execSoftwareDeviceReset who w s
  | .blockPowerRequest who w => Sys2Proof.Machine.execBlockPowerRequest who w s
  | .logAppend who w => Sys2Proof.Machine.execLogAppend who w s
  | .logCommit => Sys2Proof.Machine.execLogCommit s
  | .mramDataRead who => Sys2Proof.Machine.execMramDataRead who s
  | .registerWrite who bytes addr w => Sys2Proof.Machine.execRegisterWrite who bytes addr w s
  | .rcFieldRead who bytes addr => Sys2Proof.Machine.execRcFieldRead who bytes addr s
  | .counterLoRead who bytes addr => Sys2Proof.Machine.execCounterLoRead who bytes addr s
  | .dbSqWrite who ep w => Sys2Proof.Machine.execDbSqWrite who ep w s
  | .dbCqWrite who ep w => Sys2Proof.Machine.execDbCqWrite who ep w s
  | .dbAbortWrite who ep w => Sys2Proof.Machine.execDbAbortWrite who ep w s
  | .abortDecision ep => Sys2Proof.Machine.execAbortDecision ep s
  | .descriptorFetch ep => Sys2Proof.Machine.execDescriptorFetch ep s
  | .orderedRelease ep tag => Sys2Proof.Machine.execOrderedRelease ep tag s
  | .timedExecute ep tag => Sys2Proof.Machine.execTimedExecute ep tag s
  | .pageIn => Sys2Proof.Machine.execPageIn s
  | .mbRing who w => Sys2Proof.Machine.execMbRing who w s
  | .mailboxRequest district => Sys2Proof.Machine.execMailboxRequest district s
  | .createEp => Sys2Proof.Machine.execCreateEp s
  | .destroyEp => Sys2Proof.Machine.execDestroyEp s
  | .destroyEpResponse ep => Sys2Proof.Machine.execDestroyEpResponse ep s
  | .resize => Sys2Proof.Machine.execResize s
  | .resizeComplete ep => Sys2Proof.Machine.execResizeComplete ep s
  | .query => Sys2Proof.Machine.execQuery s
  | .pinResident => Sys2Proof.Machine.execPinResident s
  | .districtRestart district => Sys2Proof.Machine.execDistrictRestart district s
  | .ep0RingsWrite who high w => Sys2Proof.Machine.execEp0RingsWrite who high w s
  | .netTx ep tag => Sys2Proof.Machine.execNetTx ep tag s
  | .rxPost ep tag => Sys2Proof.Machine.execRxPost ep tag s
  | .epeDelivery ep => Sys2Proof.Machine.execEpeDelivery ep s
  | .timerArm ep tag => Sys2Proof.Machine.execTimerArm ep tag s
  | .timerExpiry ep tag => Sys2Proof.Machine.execTimerExpiry ep tag s
  | .forwardingDecision p data ended err arr => Sys2Proof.Machine.execForwardingDecision p data ended err arr s
  | .frameEndReceived p rest err => Sys2Proof.Machine.execFrameEndReceived p rest err s
  | .roundaboutMatch ecc => Sys2Proof.Machine.execRoundaboutMatch ecc s
  | .egressTxStart p => Sys2Proof.Machine.execEgressTxStart p s
  | .fdbAgeOut mac vid => Sys2Proof.Machine.execFdbAgeOut mac vid s
  | .portLinkDown p => Sys2Proof.Machine.execPortLinkDown p s
  | .linkDownFlushEnd p => Sys2Proof.Machine.execLinkDownFlushEnd p s
  | .portLinkUp p => Sys2Proof.Machine.execPortLinkUp p s
  | .hashMemberRejoin m => Sys2Proof.Machine.execHashMemberRejoin m s
  | .fdbLookup who => Sys2Proof.Machine.execFdbLookup who s
  | .fdbDelete who => Sys2Proof.Machine.execFdbDelete who s
  | .fdbFlushPort who p => Sys2Proof.Machine.execFdbFlushPort who p s
  | .fdbFlushAll who => Sys2Proof.Machine.execFdbFlushAll who s
  | .macsecSaLoad who m w => Sys2Proof.Machine.execMacsecSaLoad who m w s
  | .macsecTxAnChange who m w => Sys2Proof.Machine.execMacsecTxAnChange who m w s
  | .ageSweep => Sys2Proof.Machine.execAgeSweep s
  | .gateEntryChange p => Sys2Proof.Machine.execGateEntryChange p s
  | .frerRecoveryReset handle => Sys2Proof.Machine.execFrerRecoveryReset handle s
  | .syncReceived p gm => Sys2Proof.Machine.execSyncReceived p gm s
  | .syncTimeout => Sys2Proof.Machine.execSyncTimeout s
  | .asSyncSend p => Sys2Proof.Machine.execAsSyncSend p s
  | .pdelayMeasure p d => Sys2Proof.Machine.execPdelayMeasure p d s
  | .gwyHoldExpiry stream => Sys2Proof.Machine.execGwyHoldExpiry stream s
  | .gwyNtscfReceive => Sys2Proof.Machine.execGwyNtscfReceive s
  | .streamSelect who handle => Sys2Proof.Machine.execStreamSelect who handle s
  | .cameraTrigger c => Sys2Proof.Machine.execCameraTrigger c s
  | .csi2FrameStart c f ecc => Sys2Proof.Machine.execCsi2FrameStart c f ecc s
  | .cameraLineReceived c px crc fate ns => Sys2Proof.Machine.execCameraLineReceived c px crc fate ns s
  | .cameraLockTimeout c => Sys2Proof.Machine.execCameraLockTimeout c s
  | .cameraLinkDown c => Sys2Proof.Machine.execCameraLinkDown c s
  | .displayFrameStart d => Sys2Proof.Machine.execDisplayFrameStart d s
  | .sliceCompute d late room => Sys2Proof.Machine.execSliceCompute d late room s
  | .cameraRunWrite who c w => Sys2Proof.Machine.execCameraRunWrite who c w s
  | .camI2cStart who c w => Sys2Proof.Machine.execCamI2cStart who c w s
  | .i2cComplete c result data => Sys2Proof.Machine.execI2cComplete c result data s
  | .pan ep tag => Sys2Proof.Machine.execPan ep tag s
  | .mapSwap ep tag => Sys2Proof.Machine.execMapSwap ep tag s
  | .mapSwapFetched d v => Sys2Proof.Machine.execMapSwapFetched d v s
  | .ovlSet ep tag => Sys2Proof.Machine.execOvlSet ep tag s
  | .tap ep tag => Sys2Proof.Machine.execTap ep tag s
  | .ovlBaseWrite who j w => Sys2Proof.Machine.execOvlBaseWrite who j w s
  | .tapCfgWrite who k w => Sys2Proof.Machine.execTapCfgWrite who k w s
  | .displayEchoReceived d frame crc flags resv ns => Sys2Proof.Machine.execDisplayEchoReceived d frame crc flags resv ns s
  | .echoMissing d => Sys2Proof.Machine.execEchoMissing d s
  | .clearLatch who d => Sys2Proof.Machine.execClearLatch who d s
  | .pocOnWrite who c w => Sys2Proof.Machine.execPocOnWrite who c w s
  | .pocShort c => Sys2Proof.Machine.execPocShort c s
  | .pocRetry c => Sys2Proof.Machine.execPocRetry c s
  | .pocExternal c => Sys2Proof.Machine.execPocExternal c s
  | .pocExternalClear c => Sys2Proof.Machine.execPocExternalClear c s
  | .pocOpen c ma => Sys2Proof.Machine.execPocOpen c ma s
  | .monitorHeartbeat who w => Sys2Proof.Machine.execMonitorHeartbeat who w s
  | .monitorAbsent => Sys2Proof.Machine.execMonitorAbsent s
  | .pwrOn ep tag => Sys2Proof.Machine.execPwrOn ep tag s
  | .pwrOff ep tag => Sys2Proof.Machine.execPwrOff ep tag s
  | .pwrDrive ep tag => Sys2Proof.Machine.execPwrDrive ep tag s
  | .pwrRead ep tag => Sys2Proof.Machine.execPwrRead ep tag s
  | .waitEvent ep tag => Sys2Proof.Machine.execWaitEvent ep tag s
  | .chCtrlWrite who n w => Sys2Proof.Machine.execChCtrlWrite who n w s
  | .pwmPeriodCommit n => Sys2Proof.Machine.execPwmPeriodCommit n s
  | .inrushWindowEnd n mv => Sys2Proof.Machine.execInrushWindowEnd n mv s
  | .bridgeBrakeEnd k => Sys2Proof.Machine.execBridgeBrakeEnd k s
  | .shortCut hit => Sys2Proof.Machine.execShortCut hit s
  | .wireModelStep => Sys2Proof.Machine.execWireModelStep s
  | .retried n => Sys2Proof.Machine.execRetried n s
  | .retryCountReset n => Sys2Proof.Machine.execRetryCountReset n s
  | .currentSample currents mvA mvB curA curB => Sys2Proof.Machine.execCurrentSample currents mvA mvB curA curB s
  | .housingModelStep pElec ambient => Sys2Proof.Machine.execHousingModelStep pElec ambient s
  | .shedCheck => Sys2Proof.Machine.execShedCheck s
  | .pwrPowerUp ambient pElec => Sys2Proof.Machine.execPwrPowerUp ambient pElec s
  | .holdTrip n => Sys2Proof.Machine.execHoldTrip n s
  | .openLoadOnWindow n => Sys2Proof.Machine.execOpenLoadOnWindow n s
  | .offStateTest n p1a p1b p2 => Sys2Proof.Machine.execOffStateTest n p1a p1b p2 s
  | .reverseCurrent n => Sys2Proof.Machine.execReverseCurrent n s
  | .overTemp n => Sys2Proof.Machine.execOverTemp n s
  | .junctionCooled n => Sys2Proof.Machine.execJunctionCooled n s
  | .feedFault feed kind => Sys2Proof.Machine.execFeedFault feed kind s
  | .feedReturn feed => Sys2Proof.Machine.execFeedReturn feed s
  | .feedReturnSwitchOn feed => Sys2Proof.Machine.execFeedReturnSwitchOn feed s
  | .laybyEnterDistrict who d => Sys2Proof.Machine.execLaybyEnterDistrict who d s
  | .laybyEnterAll who d => Sys2Proof.Machine.execLaybyEnterAll who d s
  | .laybyReleaseDistrict who d => Sys2Proof.Machine.execLaybyReleaseDistrict who d s
  | .laybyReleaseAll who d => Sys2Proof.Machine.execLaybyReleaseAll who d s
  | .canFrameReceived k w0 w1 data ago => Sys2Proof.Machine.execCanFrameReceived k w0 w1 data ago s
  | .mbWindowRead who k w => Sys2Proof.Machine.execMbWindowRead who k w s
  | .lockTimeout k => Sys2Proof.Machine.execLockTimeout k s
  | .mbSelect who k w => Sys2Proof.Machine.execMbSelect who k w s
  | .canTxOffer k => Sys2Proof.Machine.execCanTxOffer k s
  | .canTxCommit k => Sys2Proof.Machine.execCanTxCommit k s
  | .canArbLost k => Sys2Proof.Machine.execCanArbLost k s
  | .canTxEnd k result ns tdc => Sys2Proof.Machine.execCanTxEnd k result ns tdc s
  | .busOffRecovery k => Sys2Proof.Machine.execBusOffRecovery k s
  | .canModeWrite who k w => Sys2Proof.Machine.execCanModeWrite who k w s
  | .canModeChange k => Sys2Proof.Machine.execCanModeChange k s
  | .mbTxRequest who k b => Sys2Proof.Machine.execMbTxRequest who k b s
  | .mbCancel who k b => Sys2Proof.Machine.execMbCancel who k b s
  | .ttEnable who k w => Sys2Proof.Machine.execTtEnable who k w s
  | .ttWindowStart k cycle window => Sys2Proof.Machine.execTtWindowStart k cycle window s
  | .ttWindowMissed k cycle window => Sys2Proof.Machine.execTtWindowMissed k cycle window s
  | .refLost k => Sys2Proof.Machine.execRefLost k s
  | .canSetup ep tag => Sys2Proof.Machine.execCanSetup ep tag s
  | .canTx ep tag => Sys2Proof.Machine.execCanTx ep tag s
  | .canRx ep tag => Sys2Proof.Machine.execCanRx ep tag s
  | .canState ep tag => Sys2Proof.Machine.execCanState ep tag s
  | .transceiverFailsafe k => Sys2Proof.Machine.execTransceiverFailsafe k s
  | .trxSleepWrite who k w => Sys2Proof.Machine.execTrxSleepWrite who k w s
  | .canWake k how => Sys2Proof.Machine.execCanWake k how s
  | .t1sWake k => Sys2Proof.Machine.execT1sWake k s
  | .curfewFrameReceived m src body => Sys2Proof.Machine.execCurfewFrameReceived m src body s
  | .curfewRingTimer m => Sys2Proof.Machine.execCurfewRingTimer m s
  | .curfewSkipTimeout m => Sys2Proof.Machine.execCurfewSkipTimeout m s
  | .curfewRingLost m => Sys2Proof.Machine.execCurfewRingLost m s
  | .curfewSendFail m => Sys2Proof.Machine.execCurfewSendFail m s
  | .curfewFrameSent m => Sys2Proof.Machine.execCurfewFrameSent m s
  | .curfewLimpSend m => Sys2Proof.Machine.execCurfewLimpSend m s
  | .curfewLimpSleep m => Sys2Proof.Machine.execCurfewLimpSleep m s
  | .consentWrite who r w => Sys2Proof.Machine.execConsentWrite who r w s
  | .curfewCommit m => Sys2Proof.Machine.execCurfewCommit m s
  | .ethSleepRequest who p => Sys2Proof.Machine.execEthSleepRequest who p s
  | .ethWakeRequest who p => Sys2Proof.Machine.execEthWakeRequest who p s
  | .ethLowPowerEntry p => Sys2Proof.Machine.execEthLowPowerEntry p s
  | .ethSleepTimeout p => Sys2Proof.Machine.execEthSleepTimeout p s
  | .ethRemoteSleep p => Sys2Proof.Machine.execEthRemoteSleep p s
  | .ethWakeDetect p => Sys2Proof.Machine.execEthWakeDetect p s
  | .ethWakeNoLink p => Sys2Proof.Machine.execEthWakeNoLink p s
  | .switchInputSample n mv => Sys2Proof.Machine.execSwitchInputSample n mv s
  | .analogUpdate n conv => Sys2Proof.Machine.execAnalogUpdate n conv s
  | .analogOpenTest n rise => Sys2Proof.Machine.execAnalogOpenTest n rise s
  | .freqEdge n interval => Sys2Proof.Machine.execFreqEdge n interval s
  | .freqTimeout n => Sys2Proof.Machine.execFreqTimeout n s
  | .freqLineTest n up down => Sys2Proof.Machine.execFreqLineTest n up down s
  | .pinOvercurrent n => Sys2Proof.Machine.execPinOvercurrent n s
  | .pinOvertemp n => Sys2Proof.Machine.execPinOvertemp n s
  | .outputLineTest n mv => Sys2Proof.Machine.execOutputLineTest n mv s
  | .outputOpenLoad n => Sys2Proof.Machine.execOutputOpenLoad n s
  | .pinOutWrite who n w => Sys2Proof.Machine.execPinOutWrite who n w s
  | .pinSet ep tag => Sys2Proof.Machine.execPinSet ep tag s
  | .pinRead ep tag => Sys2Proof.Machine.execPinRead ep tag s
  | .waitChange ep tag => Sys2Proof.Machine.execWaitChange ep tag s
  | .linStart ep tag => Sys2Proof.Machine.execLinStart ep tag s
  | .linStop ep tag => Sys2Proof.Machine.execLinStop ep tag s
  | .linSleep ep tag => Sys2Proof.Machine.execLinSleep ep tag s
  | .linWake ep tag => Sys2Proof.Machine.execLinWake ep tag s
  | .linPut ep tag => Sys2Proof.Machine.execLinPut ep tag s
  | .linGet ep tag => Sys2Proof.Machine.execLinGet ep tag s
  | .linSlotStart l => Sys2Proof.Machine.execLinSlotStart l s
  | .linResponseReceived l answer => Sys2Proof.Machine.execLinResponseReceived l answer s
  | .linFrameTimeout l bitErr => Sys2Proof.Machine.execLinFrameTimeout l bitErr s
  | .linWakeSeen l => Sys2Proof.Machine.execLinWakeSeen l s
  | .linWakeRestart l => Sys2Proof.Machine.execLinWakeRestart l s
  | .gatedStore who addr data amo => Sys2Proof.Machine.execGatedStore who addr data amo s
  | .windowClose p lead chk aWrong bWrong => Sys2Proof.Machine.execWindowClose p lead chk aWrong bWrong s
  | .delayParity p => Sys2Proof.Machine.execDelayParity p s
  | .bollardSelfTest aWrong bWrong => Sys2Proof.Machine.execBollardSelfTest aWrong bWrong s
  | .split who p => Sys2Proof.Machine.execSplit who p s
  | .splitDone p => Sys2Proof.Machine.execSplitDone p s
  | .lock who p => Sys2Proof.Machine.execLock who p s
  | .lockDone p => Sys2Proof.Machine.execLockDone p s
  | .pairRestart who p => Sys2Proof.Machine.execPairRestart who p s
  | .pairRestartDone p => Sys2Proof.Machine.execPairRestartDone p s
  | .bist who p => Sys2Proof.Machine.execBist who p s
  | .bistDone p delay => Sys2Proof.Machine.execBistDone p delay s
  | .faultOutAssert who => Sys2Proof.Machine.execFaultOutAssert who s
  | .faultOutRelease who => Sys2Proof.Machine.execFaultOutRelease who s
  | .gateCall core insn ctx => Sys2Proof.Machine.execGateCall core insn ctx s
  | .gateRet core a0 a1 => Sys2Proof.Machine.execGateRet core a0 a1 s
  | .courtyardBudgetExpiry core => Sys2Proof.Machine.execCourtyardBudgetExpiry core s
  | .courtyardException core why => Sys2Proof.Machine.execCourtyardException core why s
  | .memoryAccess who kind addr item => Sys2Proof.Machine.execMemoryAccess who kind addr item s
  | .patrolScrub addr err => Sys2Proof.Machine.execPatrolScrub addr err s
  | .bankPowerWrite who w => Sys2Proof.Machine.execBankPowerWrite who w s
  | .reserve who block => Sys2Proof.Machine.execReserve who block s
  | .reservationRelease who block => Sys2Proof.Machine.execReservationRelease who block s
  | .coalesceTimeout n => Sys2Proof.Machine.execCoalesceTimeout n s
  | .sourceLevelFall n => Sys2Proof.Machine.execSourceLevelFall n s
  | .claim who t => Sys2Proof.Machine.execClaim who t s
  | .complete who t source spurious => Sys2Proof.Machine.execComplete who t source spurious s
  | .srcCfgWrite who n w => Sys2Proof.Machine.execSrcCfgWrite who n w s
  | .targetCtrlWrite who t w => Sys2Proof.Machine.execTargetCtrlWrite who t w s
  | .enc ep tag => Sys2Proof.Machine.execEnc ep tag s
  | .dec ep tag => Sys2Proof.Machine.execDec ep tag s
  | .macGen ep tag => Sys2Proof.Machine.execMacGen ep tag s
  | .macVerify ep tag => Sys2Proof.Machine.execMacVerify ep tag s
  | .sign ep tag => Sys2Proof.Machine.execSign ep tag s
  | .verify ep tag => Sys2Proof.Machine.execVerify ep tag s
  | .derive ep tag => Sys2Proof.Machine.execDerive ep tag s
  | .wrap ep tag => Sys2Proof.Machine.execWrap ep tag s
  | .unwrap ep tag => Sys2Proof.Machine.execUnwrap ep tag s
  | .attest ep tag => Sys2Proof.Machine.execAttest ep tag s
  | .unlock ep tag => Sys2Proof.Machine.execUnlock ep tag s
  | .provision ep tag => Sys2Proof.Machine.execProvision ep tag s
  | .keyOpComplete ep tag => Sys2Proof.Machine.execKeyOpComplete ep tag s
  | .slotReplaceCommit slot bad => Sys2Proof.Machine.execSlotReplaceCommit slot bad s
  | .workingKeyCheck upset => Sys2Proof.Machine.execWorkingKeyCheck upset s
  | .tamperEvent src => Sys2Proof.Machine.execTamperEvent src s
  | .sleepTamperLatch src => Sys2Proof.Machine.execSleepTamperLatch src s
  | .tamperRecordWrite => Sys2Proof.Machine.execTamperRecordWrite s
  | .provLock who w => Sys2Proof.Machine.execProvLock who w s
  | .apply who clr => Sys2Proof.Machine.execApply who clr s
  | .applyCommit => Sys2Proof.Machine.execApplyCommit s
  | .updateAbort who clr => Sys2Proof.Machine.execUpdateAbort who clr s
  | .activateNow who clr mismatch => Sys2Proof.Machine.execActivateNow who clr mismatch s
  | .activateAt who clr => Sys2Proof.Machine.execActivateAt who clr s
  | .activateAtCommit mismatch => Sys2Proof.Machine.execActivateAtCommit mismatch s
  | .confirm who clr => Sys2Proof.Machine.execConfirm who clr s
  | .heartbeatSend => Sys2Proof.Machine.execHeartbeatSend s
  | .heartbeatReceived hb => Sys2Proof.Machine.execHeartbeatReceived hb s
  | .twinLost => Sys2Proof.Machine.execTwinLost s
  | .sidebandPoll => Sys2Proof.Machine.execSidebandPoll s
  | .pollAnswer reply => Sys2Proof.Machine.execPollAnswer reply s
  | .apertureAccess who bytes op addr => Sys2Proof.Machine.execApertureAccess who bytes op addr s
  | .nonPostedAnswer k answer => Sys2Proof.Machine.execNonPostedAnswer k answer s
  | .nonPostedTimeout k => Sys2Proof.Machine.execNonPostedTimeout k s
  | .inboundRequest district op addr posted => Sys2Proof.Machine.execInboundRequest district op addr posted s
  | .inboundTimeout posted => Sys2Proof.Machine.execInboundTimeout posted s
  | .postedErrorReceived seq code => Sys2Proof.Machine.execPostedErrorReceived seq code s
  | .semRequest who k rival => Sys2Proof.Machine.execSemRequest who k rival s
  | .twinSemRequest who k => Sys2Proof.Machine.execTwinSemRequest who k s
  | .semRelease who k far => Sys2Proof.Machine.execSemRelease who k far s
  | .lrHoldExpiry k => Sys2Proof.Machine.execLrHoldExpiry k s
  | .atomicRetry k => Sys2Proof.Machine.execAtomicRetry k s
  | .takeoverCommit n => Sys2Proof.Machine.execTakeoverCommit n s
  | .handback who n => Sys2Proof.Machine.execHandback who n s
  | .h25PinImbalance k a b => Sys2Proof.Machine.execH25PinImbalance k a b s
  | .ignLineDiag mv => Sys2Proof.Machine.execIgnLineDiag mv s
  | .pairRoleMonitor mv => Sys2Proof.Machine.execPairRoleMonitor mv s
  | .faultOutLineDiag ua mv => Sys2Proof.Machine.execFaultOutLineDiag ua mv s
  | .faultOutShortRetry => Sys2Proof.Machine.execFaultOutShortRetry s
  | .displayLineClassify d mv => Sys2Proof.Machine.execDisplayLineClassify d mv s
  | .ethWireDiag p a b => Sys2Proof.Machine.execEthWireDiag p a b s
  | .ethCableTest p openLine => Sys2Proof.Machine.execEthCableTest p openLine s
  | .canWireDiag k high low openLoad => Sys2Proof.Machine.execCanWireDiag k high low openLoad s
  | .canReceiveError k kind eight => Sys2Proof.Machine.execCanReceiveError k kind eight s
  | .drbgHealthChange ok => Sys2Proof.Machine.execDrbgHealthChange ok s
  | .applyFailure mismatch sec pos => Sys2Proof.Machine.execApplyFailure mismatch sec pos s
  | .egressTxEnd p => Sys2Proof.Machine.execEgressTxEnd p s
  | .macsecSaLoadDone m => Sys2Proof.Machine.execMacsecSaLoadDone m s
  | .cameraLinkUp c => Sys2Proof.Machine.execCameraLinkUp c s
  | .displayLinkDown d => Sys2Proof.Machine.execDisplayLinkDown d s
  | .displayLinkUp d => Sys2Proof.Machine.execDisplayLinkUp d s
  | .selectiveWakeFrame k err => Sys2Proof.Machine.execSelectiveWakeFrame k err s

end Sys2Proof.Machine
end

