-- ==== Sys2Proof/Machine/Step.lean ====
section
/-! DEFINITION. One step of the block: the front command of the queue, or one nanosecond. -/

namespace Sys2Proof.Machine

/-- The command at the front of the queue takes effect; on an empty queue one nanosecond passes.
[Assumption 1: DESIGN CHOICE, unsafe. Assumption 2: DESIGN CHOICE, unsafe.] -/
def step (s : State) : Host.Outcome State Fault Refusal :=
  match s.pending with
  | [] => .next (s.pass 1)
  | c :: rest => exec c { s with pending := rest }

/-- The state with the command that the word spells at the front of the queue; no word spells one, so the state stays.
[Assumption 3: DESIGN CHOICE, unsafe.] -/
def State.withFetchWord (s : State) (nbits w : Nat) : State :=
  match decodeTableWord nbits w with
  | some c => { s with pending := c :: s.pending }
  | none => s

end Sys2Proof.Machine
end

