-- ==== Sys2Proof/Safety.lean ====
section
/-! DEFINITION. What counts as a well-kept state, and what it is for a command to leave a part of the state alone: the terms of the
statements. -/

namespace Sys2Proof

open Sys2Proof.Machine

/-- Memory and register file are in canonical form. -/
def Machine.State.canonical (s : State) : Bool := twf memReset s.mem && twf regReset s.regs

/-- The parts of a state, the queue apart. -/
inductive Piece where
  | dev | now | vt | regs | mem | resp | fresh | shadows | plan | ao | ep | wg | ic | kb | pn | can | sw | ptp | nm | sf | cp | otp | ks | up
  | ux
  deriving DecidableEq, Repr

/-- The part is the same in both states. -/
def Piece.same (p : Piece) (s t : State) : Prop :=
  match p with
  | .dev => t.dev = s.dev
  | .now => t.now = s.now
  | .vt => t.vt = s.vt
  | .regs => t.regs = s.regs
  | .mem => t.mem = s.mem
  | .resp => t.resp = s.resp
  | .fresh => t.fresh = s.fresh
  | .shadows => t.shadows = s.shadows
  | .plan => t.plan = s.plan
  | .ao => t.ao = s.ao
  | .ep => t.ep = s.ep
  | .wg => t.wg = s.wg
  | .ic => t.ic = s.ic
  | .kb => t.kb = s.kb
  | .pn => t.pn = s.pn
  | .can => t.can = s.can
  | .sw => t.sw = s.sw
  | .ptp => t.ptp = s.ptp
  | .nm => t.nm = s.nm
  | .sf => t.sf = s.sf
  | .cp => t.cp = s.cp
  | .otp => t.otp = s.otp
  | .ks => t.ks = s.ks
  | .up => t.up = s.up
  | .ux => t.ux = s.ux

/-- THE FRAME between two states: the queue stays, no part changes but the listed ones, and, where `.regs` is listed, no register changes
but those that `regs` names. Every byte of memory stays unless `.mem` is listed. -/
def Frame (s t : State) (parts : List Piece) (regs : Nat → Prop) : Prop :=
  t.pending = s.pending ∧ (∀ p, p ∉ parts → p.same s t) ∧ (∀ a, ¬ regs a → t.reg a = s.reg a)

end Sys2Proof
end

