-- ==== Sys2Proof/WellFormed.lean ====
section
/-! DEFINITION. What a command's operands must satisfy beyond their types. -/

namespace Sys2Proof

/-- The values that a transaction carries (R12, Table 01-2): a number that is issued; Lamplighter, Shopfront, Roadworks and the loader carry
district 0; only a core and Cellar carry a Courtyard. [Assumption 170: DESIGN CHOICE, safe.] -/
def Who.wf (w : Who) : Bool :=
  let n := w.initiator.toNat
  decide (n ≤ 0x10) && (w.district == 0 || !(n == 8 || n == 0xA || n == 0xD || n == 0x10)) &&
  (w.courtyard == 0 || decide (n ≤ 7) || n == 0xE)

/-- The size of one load, store or register access. -/
def accessBytes (n : Nat) : Bool := n == 1 || n == 2 || n == 4 || n == 8

/-- A memory access moves 1 to 64 bytes, a cache line at most; a read brings no data, an AMO a word or a doubleword (R353, R356).
[Assumption 170: DESIGN CHOICE, safe.] -/
def AccessKind.wf (k : AccessKind) (data : List Byte) : Bool :=
  match k with
  | .read n => decide (1 ≤ n) && decide (n ≤ 64) && data.isEmpty
  | .fetch n => decide (1 ≤ n) && decide (n ≤ 64) && data.isEmpty
  | .write => decide (1 ≤ data.length) && decide (data.length ≤ 64)
  | .amo => data.length == 4 || data.length == 8

/-- An aperture carries loads, stores and atomic accesses; semaphores have their own registers (R442, R447). -/
def UxOp.onAperture (o : UxOp) : Bool :=
  match o with
  | .read => true
  | .write _ => true
  | .amo _ _ => true
  | .lr => true
  | .sc _ => true
  | .sem _ => false
  | .release _ => false

/-- The data lengths of CAN and CAN FD (Table 12-2). -/
def canLength (n : Nat) : Bool := decide (n ≤ 8) || [12, 16, 20, 24, 32, 48, 64].contains n

/-- A wake-up frame is a classic frame of up to 8 bytes (R286). -/
def CanWakeBy.wf (b : CanWakeBy) : Bool :=
  match b with
  | .wup => true
  | .wuf _ _ data => decide (data.length ≤ 8)
  | .errors => true

/-- The checks on a command's operands, one arm for each command. [Assumption 170: DESIGN CHOICE, safe.] -/
def Instr.wf (i : Instr) : Bool :=
  match i with
  | .powerOnStart .. => true
  | .brownOutReset => true
  | .reducedFunctionEnter => true
  | .reducedFunctionExit => true
  | .supplyLossSequence .. => true
  | .supplyReturn => true
  | .wakeQualified .. => true
  | .wakeTimerExpiry => true
  | .lpCrystalSettled => true
  | .boot .. => true
  | .sleepRequest who _ => who.wf
  | .sleepCommit => true
  | .sleepDrainTimeout => true
  | .watchdogKick who _ => who.wf
  | .watchdogExpiry => true
  | .softwareDeviceReset who _ => who.wf
  | .blockPowerRequest who _ => who.wf
  | .logAppend who _ => who.wf
  | .logCommit => true
  | .mramDataRead who => who.wf
  | .registerWrite who bytes _ _ => who.wf && accessBytes bytes
  | .rcFieldRead who bytes _ => who.wf && accessBytes bytes
  | .counterLoRead who bytes _ => who.wf && accessBytes bytes
  | .dbSqWrite who _ _ => who.wf
  | .dbCqWrite who _ _ => who.wf
  | .dbAbortWrite who _ _ => who.wf
  | .abortDecision .. => true
  | .descriptorFetch .. => true
  | .orderedRelease .. => true
  | .timedExecute .. => true
  | .pageIn => true
  | .mbRing who _ => who.wf
  | .mailboxRequest .. => true
  | .createEp => true
  | .destroyEp => true
  | .destroyEpResponse .. => true
  | .resize => true
  | .resizeComplete .. => true
  | .query => true
  | .pinResident => true
  | .districtRestart .. => true
  | .ep0RingsWrite who _ _ => who.wf
  | .netTx .. => true
  | .rxPost .. => true
  | .epeDelivery .. => true
  | .timerArm .. => true
  | .timerExpiry .. => true
  | .forwardingDecision _ data _ _ _ => decide (data.length ≤ 9248)
  | .frameEndReceived _ rest _ => decide (rest.length ≤ 9248)
  | .roundaboutMatch ecc => decide ecc.Nodup
  | .egressTxStart .. => true
  | .fdbAgeOut .. => true
  | .portLinkDown .. => true
  | .linkDownFlushEnd .. => true
  | .portLinkUp .. => true
  | .hashMemberRejoin .. => true
  | .fdbLookup who => who.wf
  | .fdbDelete who => who.wf
  | .fdbFlushPort who _ => who.wf
  | .fdbFlushAll who => who.wf
  | .macsecSaLoad who _ _ => who.wf
  | .macsecTxAnChange who _ _ => who.wf
  | .ageSweep => true
  | .gateEntryChange .. => true
  | .frerRecoveryReset .. => true
  | .syncReceived .. => true
  | .syncTimeout => true
  | .asSyncSend .. => true
  | .pdelayMeasure .. => true
  | .gwyHoldExpiry .. => true
  | .gwyNtscfReceive => true
  | .streamSelect who _ => who.wf
  | .cameraTrigger .. => true
  | .csi2FrameStart .. => true
  | .cameraLineReceived _ px _ _ _ => decide (px.length ≤ 65536)
  | .cameraLockTimeout .. => true
  | .cameraLinkDown .. => true
  | .displayFrameStart .. => true
  | .sliceCompute .. => true
  | .cameraRunWrite who _ _ => who.wf
  | .camI2cStart who _ _ => who.wf
  | .i2cComplete .. => true
  | .pan .. => true
  | .mapSwap .. => true
  | .mapSwapFetched .. => true
  | .ovlSet .. => true
  | .tap .. => true
  | .ovlBaseWrite who _ _ => who.wf
  | .tapCfgWrite who _ _ => who.wf
  | .displayEchoReceived .. => true
  | .echoMissing .. => true
  | .clearLatch who _ => who.wf
  | .pocOnWrite who _ _ => who.wf
  | .pocShort .. => true
  | .pocRetry .. => true
  | .pocExternal .. => true
  | .pocExternalClear .. => true
  | .pocOpen .. => true
  | .monitorHeartbeat who _ => who.wf
  | .monitorAbsent => true
  | .pwrOn .. => true
  | .pwrOff .. => true
  | .pwrDrive .. => true
  | .pwrRead .. => true
  | .waitEvent .. => true
  | .chCtrlWrite who _ _ => who.wf
  | .pwmPeriodCommit .. => true
  | .inrushWindowEnd .. => true
  | .bridgeBrakeEnd .. => true
  | .shortCut .. => true
  | .wireModelStep => true
  | .retried .. => true
  | .retryCountReset .. => true
  | .currentSample currents _ _ _ _ => currents.length == 52
  | .housingModelStep .. => true
  | .shedCheck => true
  | .pwrPowerUp .. => true
  | .holdTrip .. => true
  | .openLoadOnWindow .. => true
  | .offStateTest .. => true
  | .reverseCurrent .. => true
  | .overTemp .. => true
  | .junctionCooled .. => true
  | .feedFault .. => true
  | .feedReturn .. => true
  | .feedReturnSwitchOn .. => true
  | .laybyEnterDistrict who _ => who.wf
  | .laybyEnterAll who _ => who.wf
  | .laybyReleaseDistrict who _ => who.wf
  | .laybyReleaseAll who _ => who.wf
  | .canFrameReceived _ _ _ data _ => canLength data.length
  | .mbWindowRead who _ _ => who.wf
  | .lockTimeout .. => true
  | .mbSelect who _ _ => who.wf
  | .canTxOffer .. => true
  | .canTxCommit .. => true
  | .canArbLost .. => true
  | .canTxEnd .. => true
  | .busOffRecovery .. => true
  | .canModeWrite who _ _ => who.wf
  | .canModeChange .. => true
  | .mbTxRequest who _ _ => who.wf
  | .mbCancel who _ _ => who.wf
  | .ttEnable who _ _ => who.wf
  | .ttWindowStart .. => true
  | .ttWindowMissed .. => true
  | .refLost .. => true
  | .canSetup .. => true
  | .canTx .. => true
  | .canRx .. => true
  | .canState .. => true
  | .transceiverFailsafe .. => true
  | .trxSleepWrite who _ _ => who.wf
  | .canWake _ how => how.wf
  | .t1sWake .. => true
  | .curfewFrameReceived _ _ body => decide (body.data.length ≤ 64)
  | .curfewRingTimer .. => true
  | .curfewSkipTimeout .. => true
  | .curfewRingLost .. => true
  | .curfewSendFail .. => true
  | .curfewFrameSent .. => true
  | .curfewLimpSend .. => true
  | .curfewLimpSleep .. => true
  | .consentWrite who _ _ => who.wf
  | .curfewCommit .. => true
  | .ethSleepRequest who _ => who.wf
  | .ethWakeRequest who _ => who.wf
  | .ethLowPowerEntry .. => true
  | .ethSleepTimeout .. => true
  | .ethRemoteSleep .. => true
  | .ethWakeDetect .. => true
  | .ethWakeNoLink .. => true
  | .switchInputSample .. => true
  | .analogUpdate _ conv => conv.length == 8
  | .analogOpenTest .. => true
  | .freqEdge .. => true
  | .freqTimeout .. => true
  | .freqLineTest .. => true
  | .pinOvercurrent .. => true
  | .pinOvertemp .. => true
  | .outputLineTest .. => true
  | .outputOpenLoad .. => true
  | .pinOutWrite who _ _ => who.wf
  | .pinSet .. => true
  | .pinRead .. => true
  | .waitChange .. => true
  | .linStart .. => true
  | .linStop .. => true
  | .linSleep .. => true
  | .linWake .. => true
  | .linPut .. => true
  | .linGet .. => true
  | .linSlotStart .. => true
  | .linResponseReceived .. => true
  | .linFrameTimeout .. => true
  | .linWakeSeen .. => true
  | .linWakeRestart .. => true
  | .gatedStore who _ data _ => who.wf && decide (who.initiator.toNat < 8) && accessBytes data.length
  | .windowClose _ lead chk _ _ => decide (lead.length ≤ 65536) && decide (chk.length ≤ 65536)
  | .delayParity .. => true
  | .bollardSelfTest .. => true
  | .split who _ => who.wf
  | .splitDone .. => true
  | .lock who _ => who.wf
  | .lockDone .. => true
  | .pairRestart who _ => who.wf
  | .pairRestartDone .. => true
  | .bist who _ => who.wf
  | .bistDone .. => true
  | .faultOutAssert who => who.wf
  | .faultOutRelease who => who.wf
  | .gateCall _ _ ctx => decide (ctx.x.length ≤ 31)
  | .gateRet .. => true
  | .courtyardBudgetExpiry .. => true
  | .courtyardException .. => true
  | .memoryAccess who kind _ item => who.wf && kind.wf item.data
  | .patrolScrub .. => true
  | .bankPowerWrite who _ => who.wf
  | .reserve who _ => who.wf
  | .reservationRelease who _ => who.wf
  | .coalesceTimeout .. => true
  | .sourceLevelFall .. => true
  | .claim who _ => who.wf
  | .complete who _ _ _ => who.wf
  | .srcCfgWrite who _ _ => who.wf
  | .targetCtrlWrite who _ _ => who.wf
  | .enc .. => true
  | .dec .. => true
  | .macGen .. => true
  | .macVerify .. => true
  | .sign .. => true
  | .verify .. => true
  | .derive .. => true
  | .wrap .. => true
  | .unwrap .. => true
  | .attest .. => true
  | .unlock .. => true
  | .provision .. => true
  | .keyOpComplete .. => true
  | .slotReplaceCommit .. => true
  | .workingKeyCheck upset => decide upset.Nodup
  | .tamperEvent .. => true
  | .sleepTamperLatch .. => true
  | .tamperRecordWrite => true
  | .provLock who _ => who.wf
  | .apply who _ => who.wf
  | .applyCommit => true
  | .updateAbort who _ => who.wf
  | .activateNow who _ _ => who.wf
  | .activateAt who _ => who.wf
  | .activateAtCommit .. => true
  | .confirm who _ => who.wf
  | .heartbeatSend => true
  | .heartbeatReceived .. => true
  | .twinLost => true
  | .sidebandPoll => true
  | .pollAnswer reply => decide ((reply.chans.map (·.ch)).Nodup)
  | .apertureAccess who bytes op _ => who.wf && accessBytes bytes && op.onAperture
  | .nonPostedAnswer .. => true
  | .nonPostedTimeout .. => true
  | .inboundRequest .. => true
  | .inboundTimeout .. => true
  | .postedErrorReceived .. => true
  | .semRequest who _ _ => who.wf
  | .twinSemRequest who _ => who.wf
  | .semRelease who _ _ => who.wf
  | .lrHoldExpiry .. => true
  | .atomicRetry .. => true
  | .takeoverCommit .. => true
  | .handback who _ => who.wf
  | .h25PinImbalance .. => true
  | .ignLineDiag .. => true
  | .pairRoleMonitor .. => true
  | .faultOutLineDiag .. => true
  | .faultOutShortRetry => true
  | .displayLineClassify .. => true
  | .ethWireDiag .. => true
  | .ethCableTest .. => true
  | .canWireDiag .. => true
  | .canReceiveError .. => true
  | .drbgHealthChange .. => true
  | .applyFailure .. => true
  | .egressTxEnd .. => true
  | .macsecSaLoadDone .. => true
  | .cameraLinkUp .. => true
  | .displayLinkDown .. => true
  | .displayLinkUp .. => true
  | .selectiveWakeFrame .. => true

end Sys2Proof
end

