-- ==== Sys2Proof/Certificates/Slice0/Obligations.lean ====
section
/-! DEFINITION. The statements about the block that the provers prove. -/

open Sys2Proof Sys2Proof.Machine

/-- The record of `c` that its endpoint's completion ring gets next: its address. -/
def recordAt (s : State) (c : Cmd) : Nat := (s.epAt c.ep).cqBase + 16 * ((s.epAt c.ep).cqTail % (s.epAt c.ep).cqSize)
/-- From `s` to `t` the command `c` has completed with one record (R61 to R63): it is in flight no more, the completion TAIL is one on, and
the sixteen bytes of the record stand in its ring. -/
abbrev Recorded (s t : State) (c : Cmd) (code detail time : Nat) (late : Bool) : Prop :=
  t.cmdOf c.ep c.tag = none ∧ (t.epAt c.ep).cqTail = idxNext (s.epAt c.ep).cqTail ∧
  t.bytes (recordAt s c) 16 =
    recBytes c.tag code c.op (recFlags (recPhase (s.epAt c.ep).cqTail (s.epAt c.ep).cqSize) c.abortSeen late false) detail time
/-- No byte of memory changes but the sixteen of the record of `c`. -/
abbrev OnlyRecord (s t : State) (c : Cmd) : Prop := ∀ b, b < recordAt s c ∨ recordAt s c + 16 ≤ b → t.byte b = s.byte b
/-- The counter at `a` has counted one (R50). -/
abbrev Counted (s t : State) (a : Nat) : Prop := (t.reg a).toNat = min 0xFFFFFFFF ((s.reg a).toNat + 1)
/-- The command waits, and nothing else of the endpoints changes. -/
abbrev Waits (s t : State) (c : Cmd) : Prop := t.cmdOf c.ep c.tag = some { c with phase := .waiting } ∧ t.ep.eps = s.ep.eps

/-- The word of the register is all that a write without a row of its own changes: it is no counter, and no record that VALID clears as a
whole, no counter of a selected stream, no PWM time counter, not PD_AMBIENT_SW. -/
def plainWord (a : Nat) : Bool :=
  (satOf a).isNone && (sat64Of a).isNone && a != Rg.SW_FDB_STATS && !(decide (0x200B0C00 ≤ a) && decide (a < 0x200B0F40) && a % 16 == 4)
    && !(decide (0x20093010 ≤ a) && decide (a < 0x20093030)) && a != Rg.SQ_STREAM_SAT && a != Rg.PD_AMBIENT_SW
    && a % 0x10000 != 0xFFF0 && a != Rg.WG_FAULT && a != Rg.UX_ERR
/-- A read of the register is no command of its own: not IC_CLAIM, AO_MRAM_DATA, a CAN buffer window, a semaphore or an aperture; and it
is no half of a 64-bit value under R51. -/
def readsPlainly (a : Nat) : Bool :=
  !(decide (0x20032040 ≤ a) && decide (a < 0x20032064)) && a != Rg.AO_MRAM_DATA
    && !(decide (0x200C0000 ≤ a) && decide (a < 0x200C8000) && decide (0x100 ≤ a % 0x1000) && decide (a % 0x1000 < 0x148))
    && !(decide (0x200F0400 ≤ a) && decide (a < 0x200F0500)) && !(decide (0x200F8000 ≤ a) && decide (a < 0x200FC000))
    && !latchedLo a && !latchedLo (a - 4)
/-- The initiator may read the register at `a`, and it answers: the register pages reach it, and the access is aligned (R42, R45, R86), with no write of its pair waiting in the gate (R329). -/
def readable (s : State) (who : Who) (a : Nat) (r : RegRow) : Bool :=
  s.reaches who a && !s.gateWait who && a % 4 == 0 && !s.gated (pageBlock a) && s.mayRead who r a && !s.heldBufReg a && !isRejectReg a

/-- REGISTER_WRITE to a register without a row of its own that passes steps 1 to 8: its RW and RWE fields take the written value, its W1C
bits clear where 1 is written, every other field and every other register stay. To an event counter: the counter and its SAT bit clear.
RC_FIELD_READ of a readable register answers its word and clears its RC fields, and nothing else; a register with none stays. A
COUNTER_LO_READ answers the lower half and latches the upper half for its initiator; that initiator's next read of _HI answers the latched
half and ends the latch.
Where the spec's words end it goes by the model's choices of assumptions 4, 12, 14, 19, 20 and 169.
Completing with their own effect: registerWrite, rcFieldRead, counterLoRead. -/
def Obligations.RegisterAccesses : Prop :=
  (∀ (s : State) (who : Who) (a : BitVec 34) (w : Word) (r : RegRow) (x : List Nat), placeOf a.toNat = .registers →
    RegMap.at a.toNat = some (r, x) → s.passesChecks (s.issuer who) 4 a.toNat w (s.plainHeld a.toNat) (s.plainBad a.toNat w.toNat) = true →
    s.plainRefuse a.toNat = Code.DONE → (s.ownWrite (s.issuer who) 4 a.toNat w State.activateOpen).isNone = true → plainWord a.toNat = true →
    ∃ t, exec (.registerWrite who 4 a w) s = .next t ∧ t.resp = .done ∧
      t.reg a.toNat = BitVec.ofNat 32 (writeFields r.fields (s.reg a.toNat).toNat w.toNat) ∧
      Frame s t [.regs, .ic, .resp] (fun b => b = a.toNat)) ∧
  (∀ (s : State) (who : Who) (a : BitVec 34) (w : Word) (sat b : Nat), placeOf a.toNat = .registers →
    s.passesChecks (s.issuer who) 4 a.toNat w (s.plainHeld a.toNat) (s.plainBad a.toNat w.toNat) = true → s.plainRefuse a.toNat = Code.DONE →
    (s.ownWrite (s.issuer who) 4 a.toNat w State.activateOpen).isNone = true → satOf a.toNat = some (sat, b) →
    ∃ t, exec (.registerWrite who 4 a w) s = .next t ∧ t.resp = .done ∧ t.reg a.toNat = 0 ∧ t.flag (bitOf sat b) = false ∧
      Frame s t [.regs, .ic, .resp] (fun k => k = a.toNat ∨ k = sat)) ∧
  (∀ (s : State) (who : Who) (a : BitVec 34) (r : RegRow) (x : List Nat), placeOf a.toNat = .registers → RegMap.at a.toNat = some (r, x) →
    readable s (s.issuer who) a.toNat r = true → readsPlainly a.toNat = true →
    ∃ t, exec (.rcFieldRead who 4 a) s = .next t ∧ t.resp = .data (s.regView (s.issuer who) a.toNat) ∧
      t.reg a.toNat = BitVec.ofNat 32 (rcBits r.fields (s.reg a.toNat).toNat) ∧ Frame s t [.regs, .resp] (fun b => b = a.toNat)) ∧
  (∀ (s : State) (who : Who) (a : BitVec 34) (r : RegRow) (x : List Nat), placeOf a.toNat = .registers → RegMap.at a.toNat = some (r, x) →
    readable s (s.issuer who) a.toNat r = true → latchedLo a.toNat = true →
    ∃ t, exec (.counterLoRead who 4 a) s = .next t ∧ t.resp = .data (s.regView (s.issuer who) a.toNat) ∧
      t.shadowOf (s.issuer who).initiator.toNat a.toNat = some (s.regView (s.issuer who) (a.toNat + 4)) ∧ Frame s t [.shadows, .resp] (fun _ => False)) ∧
  (∀ (s : State) (who : Who) (a : BitVec 34) (h : Nat) (r : RegRow) (x : List Nat), placeOf a.toNat = .registers →
    latchedLo a.toNat = true → RegMap.at (a.toNat + 4) = some (r, x) → readable s (s.issuer who) (a.toNat + 4) r = true →
    s.shadowOf (s.issuer who).initiator.toNat a.toNat = some h →
    ∃ t, exec (.rcFieldRead who 4 (a + 4)) s = .next t ∧ t.resp = .data h ∧ t.shadowOf (s.issuer who).initiator.toNat a.toNat = none ∧
      Frame s t [.shadows, .resp] (fun _ => False))

/-- MEMORY_ACCESS in Active, of one memory behind a guard, that the guards pass, with its bank on and no write of its pair waiting in the gate.
With no uncorrectable word among those it must read: a read or a fetch answers the bytes as a little-endian number and no byte changes; a
write, and an AMO, put exactly the given bytes at the address, every other byte stays, and the AMO answers what stood there. A single-bit error
that a read or a fetch meets is corrected: the same answer, and WG_EVENT[1] counts. With an uncorrectable word among them, a core takes an
access fault of its kind with a bus error, another reader gets poisoned data, another writer a bus error, and no byte changes. Besides, only
Crossing's sources, WG_EVENT and the error's address, the caches' tags and the answer change.
Where the spec's words end it goes by the model's choices of assumptions 15, 16, 17, 18, 19, 20 and 23.
Completing with their own effect: memoryAccess. -/
def Obligations.MemoryAccesses : Prop :=
  (∀ (s : State) (who : Who) (k : AccessKind) (a : BitVec 64) (target : Nat), s.dev = .active → k.writes = false → 0 < k.size [] →
    guardTarget (placeOf a.toNat) = some target → placeOf (a.toNat + k.size [] - 1) = placeOf a.toNat →
    s.passes (s.issuer who) k target a.toNat (k.size []) = true →
    (placeOf a.toNat = .sram → s.bankOff a.toNat (k.size []) = false) → s.badWords a.toNat (k.size []) false = [] →
    ∃ t, exec (.memoryAccess who k a ⟨[], .none⟩) s = .next t ∧ t.resp = .data (s.le a.toNat (k.size [])) ∧
      Frame s t [.regs, .wg, .ic, .resp] (fun b => b = Rg.WG_EVENT 1 ∨ b = Rg.WG_EVENT_SAT)) ∧
  (∀ (s : State) (who : Who) (a : BitVec 64) (data : List Byte) (target : Nat), s.dev = .active → data ≠ [] →
    s.toGate (s.issuer who) a.toNat = false → s.gateWait (s.issuer who) = false →
    guardTarget (placeOf a.toNat) = some target → placeOf a.toNat ≠ .flash → placeOf (a.toNat + data.length - 1) = placeOf a.toNat →
    s.passes (s.issuer who) .write target a.toNat data.length = true → (placeOf a.toNat = .sram → s.bankOff a.toNat data.length = false) →
    s.badWords a.toNat data.length true = [] →
    ∃ t, exec (.memoryAccess who .write a ⟨data, .none⟩) s = .next t ∧ t.resp = .done ∧ t.bytes a.toNat data.length = data ∧
      (∀ b, b < a.toNat ∨ a.toNat + data.length ≤ b → t.byte b = s.byte b) ∧
      Frame s t [.regs, .wg, .ic, .resp, .mem] (fun b => b = Rg.WG_EVENT 1 ∨ b = Rg.WG_EVENT_SAT)) ∧
  (∀ (s : State) (who : Who) (a : BitVec 64) (data : List Byte) (target : Nat), s.dev = .active → data ≠ [] →
    s.toGate (s.issuer who) a.toNat = false → s.gateWait (s.issuer who) = false →
    guardTarget (placeOf a.toNat) = some target → placeOf a.toNat ≠ .flash → placeOf (a.toNat + data.length - 1) = placeOf a.toNat →
    s.passes (s.issuer who) .amo target a.toNat data.length = true → (placeOf a.toNat = .sram → s.bankOff a.toNat data.length = false) →
    s.badWords a.toNat data.length false = [] →
    ∃ t, exec (.memoryAccess who .amo a ⟨data, .none⟩) s = .next t ∧ t.resp = .data (s.le a.toNat data.length) ∧
      t.bytes a.toNat data.length = data ∧ (∀ b, b < a.toNat ∨ a.toNat + data.length ≤ b → t.byte b = s.byte b) ∧
      Frame s t [.regs, .wg, .ic, .resp, .mem] (fun b => b = Rg.WG_EVENT 1 ∨ b = Rg.WG_EVENT_SAT)) ∧
  (∀ (s : State) (who : Who) (k : AccessKind) (a : BitVec 64) (target : Nat), s.dev = .active → k.writes = false → 0 < k.size [] →
    a.toNat % 8 + k.size [] ≤ 8 → placeOf a.toNat = .sram ∨ placeOf a.toNat = .dualPort ∨ placeOf a.toNat = .dram →
    guardTarget (placeOf a.toNat) = some target → placeOf (a.toNat + k.size [] - 1) = placeOf a.toNat →
    s.passes (s.issuer who) k target a.toNat (k.size []) = true →
    (placeOf a.toNat = .sram → s.bankOff a.toNat (k.size []) = false) → s.badWords a.toNat (k.size []) false = [] →
    ∃ t, exec (.memoryAccess who k a ⟨[], .single⟩) s = .next t ∧ t.resp = .data (s.le a.toNat (k.size [])) ∧ Counted s t (Rg.WG_EVENT 1) ∧
      a.toNat / 8 ∉ t.wg.single ∧ Frame s t [.regs, .wg, .ic, .resp] (fun b => b = Rg.WG_EVENT 1 ∨ b = Rg.WG_EVENT_SAT)) ∧
  (∀ (s : State) (who : Who) (k : AccessKind) (a : BitVec 64) (data : List Byte) (err : MemErr) (target : Nat), s.dev = .active →
    0 < k.size data → s.toGate (s.issuer who) a.toNat = false → s.gateWait (s.issuer who) = false →
    guardTarget (placeOf a.toNat) = some target → placeOf a.toNat ≠ .flash → placeOf (a.toNat + k.size data - 1) = placeOf a.toNat →
    s.passes (s.issuer who) k target a.toNat (k.size data) = true → (placeOf a.toNat = .sram → s.bankOff a.toNat (k.size data) = false) →
    s.badWords a.toNat (k.size data) (k.code == 1) ≠ [] →
    ∃ t, exec (.memoryAccess who k a ⟨data, err⟩) s = .next t ∧
      t.resp = (if k.writes ∨ (s.issuer who).initiator.toNat < 8 then .busError else .poisoned) ∧
      ((s.issuer who).initiator.toNat < 8 → (t.hart (s.leader (s.issuer who).initiator.toNat)).excCause = k.cause) ∧
      t.flag Fd.WG_ECC_ADDR_HI_VALID = true ∧
      Frame s t [.regs, .wg, .ic, .resp] (fun b => b = Rg.WG_EVENT 1 ∨ b = Rg.WG_EVENT 2 ∨ b = Rg.WG_EVENT_SAT ∨ b = Rg.WG_ECC_ADDR_LO ∨
        b = Rg.WG_ECC_ADDR_HI))

/-- Every unit that MAIN, NET, MIRROR and PWR power is as after reset. -/
abbrev UnitsReset (t : State) : Prop :=
  t.ep = EpState.reset ∧ t.ic = IcState.reset ∧ t.kb = KbState.reset ∧ t.pn = PinState.reset ∧ t.can = CanState.reset ∧ t.sw = SwState.reset ∧
  t.ptp = TimeState.reset ∧ t.nm = NmState.reset ∧ t.sf = SfState.reset ∧ t.cp = CpState.reset ∧ t.ux = UxState.reset
/-- What a cause adds to the causes that stand for the next boot, where it adds nothing to others (Table 04-5). -/
abbrev CausesOr (c : List Nat) (b : Nat) : List Nat := if c = [] then [b] else c

/-- Where its condition holds, each of these events answers a next state. POWER_ON_START from Off: Standby with every unit as after reset;
POWER_ON and REDUCED set, BOR exactly where a brown-out came before, the strap and SVC as sampled, every other register at its reset value;
the boot has cause POR and waits for the supply; flash and OTP stay and other memory reads 0. BROWN_OUT_RESET: Off, every unit and register
as after reset, BOR noted for the next start, flash and OTP kept and other memory 0. SUPPLY_RETURN sets SUPPLY_RETURN in AO_WAKE_CAUSE and ends
the low supply; outside Active a boot is due, with cause SUPPLY_LOSS added after a supply-loss sequence and with cause WAKE where no other
stands, and in Active nothing is due that was not; nothing but that, Crossing and AO state changes. SUPPLY_LOSS_SEQUENCE in Active or
Standby: Standby, REDUCED set, channels and endpoints as after reset, the log committed, OTP and plan kept; a boot is due exactly where the
supply is back, with cause SUPPLY_LOSS. LP_CRYSTAL_SETTLED sets LP_OK and changes nothing else.
Where the spec's words end it goes by the model's choices of assumptions 9, 48, 49, 53, 56, 57 and 58.
Completing with their own effect: powerOnStart, brownOutReset, supplyReturn, supplyLossSequence, lpCrystalSettled. -/
def Obligations.SupplyEvents : Prop :=
  (∀ (s : State) (strap : Strap) (svc : Bool), s.dev = .off →
    ∃ t, exec (.powerOnStart strap svc) s = .next t ∧ t.dev = .standby ∧ t.flag Fd.AO_WAKE_CAUSE_POWER_ON = true ∧
      t.flag Fd.AO_STATE_REDUCED = true ∧ (t.flag Fd.AO_RESET_CAUSE_BOR = true ↔ 2 ∈ s.ao.causes) ∧
      t.rd Fd.SYS_X_STATUS_STRAP = strapCode strap ∧ t.flag Fd.SYS_X_STATUS_SVC = svc ∧ t.ao.causes = [1] ∧ t.ao.underVolt = true ∧
      t.otp = s.otp ∧ t.pending = s.pending ∧ UnitsReset t ∧
      (∀ a, a ≠ Rg.AO_WAKE_CAUSE → a ≠ Rg.AO_RESET_CAUSE → a ≠ Rg.AO_STATE → a ≠ Rg.SYS_X_STATUS → t.reg a = regReset a) ∧
      (∀ a, t.byte a = if 0x40000000 ≤ a ∧ a < 0x60000000 then s.byte a else 0)) ∧
  (∀ (s : State), s.dev ≠ .off →
    ∃ t, exec .brownOutReset s = .next t ∧ t.dev = .off ∧ t.otp = s.otp ∧ t.pending = s.pending ∧ UnitsReset t ∧ t.ao.causes = [2] ∧
      (∀ a, t.reg a = regReset a) ∧
      (∀ a, t.byte a = if 0x40000000 ≤ a ∧ a < 0x60000000 then s.byte a else 0)) ∧
  (∀ (s : State), s.dev ≠ .off →
    ∃ t, exec .supplyReturn s = .next t ∧ t.flag Fd.AO_WAKE_CAUSE_SUPPLY_RETURN = true ∧ t.ao.underVolt = false ∧
      (s.dev ≠ .active → t.ao.booting = true ∧
        t.ao.causes = (if s.ao.lossBoot then insertNat s.ao.causes 5 else CausesOr s.ao.causes 7)) ∧
      (s.dev = .active → t.ao.booting = s.ao.booting ∧ t.ao.causes = s.ao.causes) ∧
      Frame s t [.regs, .ao, .ic] (fun a => a = Rg.AO_WAKE_CAUSE)) ∧
  (∀ (s : State) (a b : BitVec 16) (supply : SupplyBack), s.dev = .active ∨ s.dev = .standby →
    ∃ t, exec (.supplyLossSequence a b supply) s = .next t ∧ t.dev = .standby ∧ t.flag Fd.AO_STATE_REDUCED = true ∧ t.kb = KbState.reset ∧
      t.ep = EpState.reset ∧ t.ao.logOpen = [] ∧ t.otp = s.otp ∧ t.plan = s.plan ∧ (t.ao.booting = true ↔ supply = .back) ∧
      (supply = .back → 5 ∈ t.ao.causes) ∧ (t.ao.underVolt = true ↔ supply = .away) ∧ t.pending = s.pending) ∧
  (∀ (s : State), s.dev ≠ .off →
    ∃ t, exec .lpCrystalSettled s = .next t ∧ t.flag Fd.AO_STATE_LP_OK = true ∧ Frame s t [.regs] (fun a => a = Rg.AO_STATE))

/-- REDUCED_FUNCTION_ENTER, the device not Off and not reduced: REDUCED is set; the links of UPA, UPB, PLK and Shopfront's port are down and
every other link stands as it stood; where MIRROR was powered, the supplies of the four cameras are off, with no retry and no current shown,
and no camera or display has state any more. REDUCED_FUNCTION_EXIT, reduced: REDUCED is clear, and the three external links stay as they are,
to come up by their own commands; where MIRROR then has power, each camera's supply whose ON is 1 is switched on and the monitor's 500 ms
begin. Neither changes the device's state, memory, the plan, Kerbside's channels, CAN, pins, Cellar, updates or OTP.
Where the spec's words end it goes by the model's choices of assumptions 58 and 112.
Completing with their own effect: reducedFunctionEnter, reducedFunctionExit. -/
def Obligations.ReducedFunction : Prop :=
  (∀ (s : State), s.dev ≠ .off → s.flag Fd.AO_STATE_REDUCED = false →
    ∃ t, exec .reducedFunctionEnter s = .next t ∧ t.flag Fd.AO_STATE_REDUCED = true ∧
      (∀ p : Fin 24, t.linkUp p.val = (s.linkUp p.val && !(p.val == 0 || p.val == 1 || p.val == 20 || p.val == 22))) ∧
      (s.mirrorOn = true → ∀ c : Fin 4, t.rd (Fd.SF_POC_STATE c.val) = 0 ∧ t.rd (Fd.SF_POC_RETRIES c.val) = 0 ∧
        t.rd (Fd.SF_POC_CURRENT c.val) = 0 ∧ t.camera c.val = Cam.reset) ∧
      Frame s t [.regs, .mem, .ep, .ic, .sw, .sf, .wg] (fun _ => True)) ∧
  (∀ (s : State), s.dev ≠ .off → s.flag Fd.AO_STATE_REDUCED = true →
    ∃ t, exec .reducedFunctionExit s = .next t ∧ t.flag Fd.AO_STATE_REDUCED = false ∧
      t.linkUp 0 = s.linkUp 0 ∧ t.linkUp 1 = s.linkUp 1 ∧ t.linkUp 22 = s.linkUp 22 ∧
      (t.mirrorOn = true → t.sf.hbAt = s.now ∧ ∀ c : Fin 4, s.flag (Fd.SF_POC_ON c.val) = true → t.rd (Fd.SF_POC_STATE c.val) = 1) ∧
      Frame s t [.regs, .mem, .ep, .ic, .sw, .sf, .wg] (fun _ => True))

/-- WAKE_QUALIFIED with two LP cycles that find IGN above 10.0 V, or a wake pin active by its EDGE, after the input has been inactive: its bit
of AO_WAKE_CAUSE is set, and in Parked or Standby above MAIN_UV a boot is due, with cause WAKE where no other stands. One cycle with IGN below
5.0 V makes IGN inactive, sets no cause, and lets it wake again. WAKE_TIMER_EXPIRY of the arm that stands, after the values that reach the
timer before, sets TIMER and disarms the timer, no earlier than COUNT / 1024 s after the value arrived. SLEEP_REQUEST, where the
write passes its checks and nothing stands against sleep, reads ACCEPTED, with the drain's limit DRAIN_MS ahead. SLEEP_COMMIT, with no command
in flight within that limit, brings the device to Parked or Standby as TARGET says, ends every endpoint context, commits the log and keeps plan
and OTP; after the limit it ends the request with BUSY. SLEEP_DRAIN_TIMEOUT with a command in flight, or after the limit, ends the request with
BUSY in the same device state, the commands unaffected, no earlier than the limit.
Where the spec's words end it goes by the model's choices of assumptions 4, 50, 51, 52, 53 and 54.
Completing with their own effect: wakeQualified, wakeTimerExpiry, sleepRequest, sleepCommit, sleepDrainTimeout. -/
def Obligations.WakeAndSleep : Prop :=
  (∀ (s : State) (a b : BitVec 16), s.dev ≠ .off → 10000 < a.toNat → 10000 < b.toNat → (s.wakeInAt 16).held = false →
    ∃ t, exec (.wakeQualified ⟨.ign, [a, b]⟩) s = .next t ∧ t.flag (bitOf Rg.AO_WAKE_CAUSE 27) = true ∧ t.flag Fd.SYS_X_STATUS_IGN = true ∧
      (s.dev ≠ .active → s.ao.underVolt = false → t.ao.booting = true ∧ t.ao.causes = CausesOr s.ao.causes 7) ∧
      (s.dev ≠ .active → Frame s t [.regs, .ao, .ic] (fun a => a = Rg.AO_WAKE_CAUSE ∨ a = Rg.SYS_X_STATUS))) ∧
  (∀ (s : State) (a : BitVec 16), s.dev ≠ .off → a.toNat < 5000 →
    ∃ t, exec (.wakeQualified ⟨.ign, [a]⟩) s = .next t ∧ t.flag Fd.SYS_X_STATUS_IGN = false ∧ (t.wakeInAt 16).held = false ∧
      Frame s t [.regs, .ao] (fun a => a = Rg.SYS_X_STATUS)) ∧
  (∀ (s : State) (k : Fin 16) (a b : BitVec 16), s.dev ≠ .off → itemN (s.item 0x0501 k.val) 1 = 2 →
    edgeActive (itemN (s.item 0x0501 k.val) 2 % 4) (s.wakeInAt k.val).level (decide (a.toNat < 600)) = true →
    edgeActive (itemN (s.item 0x0501 k.val) 2 % 4) (s.wakeInAt k.val).level (decide (b.toNat < 600)) = true → (s.wakeInAt k.val).held = false →
    ∃ t, exec (.wakeQualified ⟨(.pin k), [a, b]⟩) s = .next t ∧ t.flag (bitOf Rg.AO_WAKE_CAUSE k.val) = true ∧
      (s.dev ≠ .active → s.ao.underVolt = false → t.ao.booting = true ∧ t.ao.causes = CausesOr s.ao.causes 7) ∧
      (s.dev ≠ .active → Frame s t [.regs, .ao, .ic] (fun a => a = Rg.AO_WAKE_CAUSE))) ∧
  (∀ (s : State) (e : Nat), s.dev ≠ .off → (s.timerRearm s.ao.lpSent).timerEnd = some e →
    ∃ t, exec .wakeTimerExpiry s = .next t ∧ t.flag Fd.AO_WAKE_CAUSE_TIMER = true ∧ t.rd Fd.AO_WAKE_TIMER_COUNT = 0 ∧ e ≤ t.now ∧
      (s.ao.lpSent = [] → s.rd Fd.AO_WAKE_TIMER_COUNT ≠ 0 ∧ e = s.ao.timerArm + s.rd Fd.AO_WAKE_TIMER_COUNT * sec / 1024)) ∧
  (∀ (s : State) (who : Who) (w : Word), s.passesChecks (s.issuer who) 4 Rg.AO_SLEEP w false false = true →
    s.rd Fd.AO_SLEEP_RESULT ≠ Code.ACCEPTED → w.toNat % 4 = 1 ∧ s.flag Fd.AO_STATE_LP_OK = true ∨ w.toNat % 4 = 2 → s.mediaAwake = false →
    ∃ t, exec (.sleepRequest who w) s = .next t ∧ t.rd Fd.AO_SLEEP_RESULT = Code.ACCEPTED ∧ t.rd Fd.AO_SLEEP_TARGET = w.toNat % 4 ∧
      t.rd Fd.AO_SLEEP_DRAIN_MS = getBits w.toNat 15 8 ∧ t.ao.sleepDue = some (s.now + getBits w.toNat 15 8 * ms) ∧ t.resp = .done ∧
      Frame s t [.regs, .ao, .resp] (fun a => a = Rg.AO_SLEEP)) ∧
  (∀ (s : State) (d : Nat), s.ao.sleepDue = some d → s.ep.inflight = [] → s.now ≤ d →
    ∃ t, exec .sleepCommit s = .next t ∧ t.dev = (if s.rd Fd.AO_SLEEP_TARGET = 1 then .parked else .standby) ∧ t.ep = EpState.reset ∧
      t.ao.sleepDue = none ∧ t.ao.logOpen = [] ∧ t.otp = s.otp ∧ t.plan = s.plan ∧ t.pending = s.pending) ∧
  (∀ (s : State) (d : Nat), s.ao.sleepDue = some d → s.ep.inflight = [] → d < s.now →
    ∃ t, exec .sleepCommit s = .next t ∧ t.rd Fd.AO_SLEEP_RESULT = Code.BUSY ∧ t.ao.sleepDue = none ∧ Frame s t [.regs, .ao] (fun a => a = Rg.AO_SLEEP)) ∧
  (∀ (s : State) (d : Nat), s.ao.sleepDue = some d → s.ep.inflight ≠ [] ∨ d < s.now →
    ∃ t, exec .sleepDrainTimeout s = .next t ∧ t.rd Fd.AO_SLEEP_RESULT = Code.BUSY ∧ t.ao.sleepDue = none ∧ d ≤ t.now ∧
      Frame s t [.regs, .ao, .now, .vt, .ptp] (fun a => a = Rg.AO_SLEEP))

/-- WATCHDOG_KICK, where the write passes its checks before PERIOD_MS have passed since the last kick, restarts the count and sets PERIOD_MS, and
nothing else changes; at or after the expiry it is too late, and the device restarts with cause LWDT. WATCHDOG_EXPIRY in Active or Standby, and
DEV_RESET written 1, restart the device: Standby, a boot due with cause LWDT or SWRST, every endpoint context gone and the OTP kept; the expiry
comes no earlier than PERIOD_MS after the last kick. BOOT, due above MAIN_UV in Parked or Standby, brings the device to Active with no boot due
and no cause left waiting, the watchdog counting from then; where a tamper event of the start-up halts it, every core is halted; and where a
loss of supply meets it while it generates a Cornerstone, the area is partly burned and nothing else happens.
Where the spec's words end it goes by the model's choices of assumptions 3, 6, 31, 33, 39, 40, 41, 48, 50 and 98.
Completing with their own effect: watchdogKick, watchdogExpiry, softwareDeviceReset, boot. -/
def Obligations.RestartsAndBoot : Prop :=
  (∀ (s : State) (who : Who) (w : Word),
    s.passesChecks (s.issuer who) 4 Rg.AO_WDT w false (w.toNat / 65536 != 0 && w.toNat / 65536 != 0x6C61) = true →
    s.now < s.ao.wdtKick + s.rd Fd.AO_WDT_PERIOD_MS * ms →
    ∃ t, exec (.watchdogKick who w) s = .next t ∧ t.ao.wdtKick = s.now ∧ t.rd Fd.AO_WDT_PERIOD_MS = w.toNat % 65536 ∧ t.resp = .done ∧
      Frame s t [.regs, .ao, .resp] (fun a => a = Rg.AO_WDT)) ∧
  (∀ (s : State) (who : Who) (w : Word),
    s.passesChecks (s.issuer who) 4 Rg.AO_WDT w false (w.toNat / 65536 != 0 && w.toNat / 65536 != 0x6C61) = true →
    s.ao.wdtKick + s.rd Fd.AO_WDT_PERIOD_MS * ms ≤ s.now → s.wdtEnd ≤ s.now →
    ∃ t, exec (.watchdogKick who w) s = .next t ∧ t.dev = .standby ∧ t.ao.booting = true ∧ 3 ∈ t.ao.causes ∧ t.ep = EpState.reset ∧ t.otp = s.otp) ∧
  (∀ (s : State), s.dev = .active ∨ s.dev = .standby →
    ∃ t, exec .watchdogExpiry s = .next t ∧ t.dev = .standby ∧ t.ao.booting = true ∧ 3 ∈ t.ao.causes ∧ t.ep = EpState.reset ∧
      t.otp = s.otp ∧ t.pending = s.pending ∧ s.ao.wdtKick + s.rd Fd.AO_WDT_PERIOD_MS * ms ≤ t.now) ∧
  (∀ (s : State) (who : Who) (w : Word), s.passesChecks (s.issuer who) 4 Rg.AO_STATE w false false = true → tbit w.toNat 31 = true →
    ∃ t, exec (.softwareDeviceReset who w) s = .next t ∧ t.dev = .standby ∧ t.ao.booting = true ∧ 4 ∈ t.ao.causes ∧
      t.ep = EpState.reset ∧ t.otp = s.otp ∧ t.resp = .done) ∧
  (∀ (s : State) (hw : BitVec 16) (gen : CsGen), s.ao.booting = true → s.ao.underVolt = false → s.dev = .parked ∨ s.dev = .standby →
    gen ≠ .lost ∨ s.csNeeded = false ∨ s.ks.drbgOk = false →
    ∃ t, exec (.boot hw ⟨.none, gen⟩) s = .next t ∧ t.dev = .active ∧ t.ao.booting = false ∧ t.ao.causes = [] ∧ t.ao.wdtKick = s.now ∧
      t.otp.provLocked = s.otp.provLocked) ∧
  (∀ (s : State) (hw : BitVec 16) (src : Fin 5) (gen : CsGen), s.ao.booting = true → s.ao.underVolt = false → s.dev = .parked ∨ s.dev = .standby →
    gen ≠ .lost ∨ s.csNeeded = false ∨ s.ks.drbgOk = false →
    ∃ t, exec (.boot hw ⟨(.beforePlan src), gen⟩) s = .next t ∧ t.dev = .active ∧ t.ao.booting = false ∧
      (∀ c : Fin 8, (t.hart c.val).halted = true)) ∧
  (∀ (s : State) (hw : BitVec 16) (tamper : BootTamper), s.ao.booting = true → s.ao.underVolt = false → s.dev = .parked ∨ s.dev = .standby →
    s.csNeeded = true → s.ks.drbgOk = true →
    ∃ t, exec (.boot hw ⟨tamper, .lost⟩) s = .next t ∧ (if s.otp.cs0.st = 0 then t.otp.cs0.st = 1 ∧ t.otp.cs1 = s.otp.cs1 else t.otp.cs1.st = 1 ∧ t.otp.cs0 = s.otp.cs0) ∧
      t.otp.provLocked = s.otp.provLocked ∧ t.otp.floor = s.otp.floor ∧ Frame s t [.otp, .fresh] (fun _ => False))

/-- BLOCK_POWER_REQUEST, where the write passes its checks, shows the outcome in RESULT: ESSENTIAL_BLOCK for blocks 0x00 to 0x07,
SECURE_RESERVED for a reserved block, BUSY for a gate of a block with commands in flight, otherwise DONE; a gate that is DONE leaves the block
gated, a power gate without power, and an ungate that is DONE leaves it neither; a clock gate of a block other than Shopfront, Kerbside and CAN
changes nothing else. LOG_APPEND, where its write passes, appends an entry of 64 bytes to the uncommitted log. LOG_COMMIT in Active or
Standby leaves nothing uncommitted. MRAM_DATA_READ by district 0 answers the word at the pointer and advances the pointer by 4, modulo
1 MiB, and nothing else changes.
Where the spec's words end it goes by the model's choices of assumptions 38, 51, 52, 55 and 57.
Completing with their own effect: blockPowerRequest, logAppend, logCommit, mramDataRead. -/
def Obligations.LamplighterRegisters : Prop :=
  (∀ (s : State) (who : Who) (w : Word), s.passesChecks (s.issuer who) 4 Rg.AO_PWR_REQ w false false = true → w.toNat % 256 < 8 →
    ∃ t, exec (.blockPowerRequest who w) s = .next t ∧ t.rd Fd.AO_PWR_REQ_RESULT = Code.ESSENTIAL_BLOCK ∧ t.resp = .done ∧
      Frame s t [.regs, .resp] (fun a => a = Rg.AO_PWR_REQ)) ∧
  (∀ (s : State) (who : Who) (w : Word), s.passesChecks (s.issuer who) 4 Rg.AO_PWR_REQ w false false = true → 8 ≤ w.toNat % 256 →
    s.reserved (w.toNat % 256) = true →
    ∃ t, exec (.blockPowerRequest who w) s = .next t ∧ t.rd Fd.AO_PWR_REQ_RESULT = Code.SECURE_RESERVED ∧ t.resp = .done ∧
      Frame s t [.regs, .resp] (fun a => a = Rg.AO_PWR_REQ)) ∧
  (∀ (s : State) (who : Who) (w : Word), s.passesChecks (s.issuer who) 4 Rg.AO_PWR_REQ w false false = true → 8 ≤ w.toNat % 256 →
    s.reserved (w.toNat % 256) = false → getBits w.toNat 9 8 ≠ 0 → s.blockBusy (w.toNat % 256) = true →
    ∃ t, exec (.blockPowerRequest who w) s = .next t ∧ t.rd Fd.AO_PWR_REQ_RESULT = Code.BUSY ∧ t.resp = .done ∧
      Frame s t [.regs, .resp] (fun a => a = Rg.AO_PWR_REQ)) ∧
  (∀ (s : State) (who : Who) (w : Word), s.passesChecks (s.issuer who) 4 Rg.AO_PWR_REQ w false false = true → 8 ≤ w.toNat % 256 →
    w.toNat % 256 ∉ [10, 11, 12] → s.reserved (w.toNat % 256) = false → getBits w.toNat 9 8 = 1 → s.blockBusy (w.toNat % 256) = false →
    ∃ t, exec (.blockPowerRequest who w) s = .next t ∧ t.rd Fd.AO_PWR_REQ_RESULT = Code.DONE ∧ t.resp = .done ∧
      t.gated (w.toNat % 256) = true ∧ Frame s t [.regs, .ao, .resp] (fun a => a = Rg.AO_PWR_REQ)) ∧
  (∀ (s : State) (who : Who) (w : Word), s.passesChecks (s.issuer who) 4 Rg.AO_PWR_REQ w false false = true → 8 ≤ w.toNat % 256 →
    s.reserved (w.toNat % 256) = false → getBits w.toNat 9 8 ≠ 0 → s.blockBusy (w.toNat % 256) = false →
    ∃ t, exec (.blockPowerRequest who w) s = .next t ∧ t.rd Fd.AO_PWR_REQ_RESULT = Code.DONE ∧ t.resp = .done ∧
      t.gated (w.toNat % 256) = true ∧ (getBits w.toNat 9 8 = 1 ∨ w.toNat % 256 ∈ t.ao.pwrGated)) ∧
  (∀ (s : State) (who : Who) (w : Word), s.passesChecks (s.issuer who) 4 Rg.AO_PWR_REQ w false false = true → 8 ≤ w.toNat % 256 →
    s.reserved (w.toNat % 256) = false → getBits w.toNat 9 8 = 0 →
    ∃ t, exec (.blockPowerRequest who w) s = .next t ∧ t.rd Fd.AO_PWR_REQ_RESULT = Code.DONE ∧ t.resp = .done ∧
      w.toNat % 256 ∉ t.ao.pwrGated ∧ w.toNat % 256 ∉ t.ao.clkGated) ∧
  (∀ (s : State) (who : Who) (w : Word), s.passesChecks (s.issuer who) 4 (Rg.AO_LOG_STAGE 15) w false false = true →
    ∃ t, exec (.logAppend who w) s = .next t ∧ t.resp = .done ∧ (∃ e, e.length = 64 ∧ t.ao.logOpen = s.ao.logOpen ++ [e]) ∧
      Frame s t [.regs, .ao, .resp] (fun a => a = Rg.AO_LOG_STAGE 15)) ∧
  (∀ (s : State), s.dev = .active ∨ s.dev = .standby →
    ∃ t, exec .logCommit s = .next t ∧ t.ao.logOpen = [] ∧ Frame s t [.ao] (fun _ => False)) ∧
  (∀ (s : State) (who : Who), s.reaches (s.issuer who) Rg.AO_MRAM_DATA = true → s.gateWait (s.issuer who) = false → (s.issuer who).district = 0 →
    ∃ t, exec (.mramDataRead who) s = .next t ∧
      t.resp = .data (leNat ((List.range 4).map (fun j => s.mramByte (4 * s.rd Fd.AO_MRAM_PTR_OFFSET + j)))) ∧
      t.rd Fd.AO_MRAM_PTR_OFFSET = (s.rd Fd.AO_MRAM_PTR_OFFSET + 1) % 0x40000 ∧ Frame s t [.regs, .resp] (fun a => a = Rg.AO_MRAM_PTR))

/-- FORWARDING_DECISION of a whole frame at a free port: with a receive error, or shorter than 18 bytes, it is counted as FCS_ERR and leaves
nothing in Plaza; on CPA and CPB a good one waits at the injector, in its queue set; elsewhere, with a good FCS and MACsec off, it runs the
forwarding decision on its bytes without FCS, and one of a VLAN of which the port is no member is counted and leaves nothing. The first bytes
of a frame that has not ended are kept for its end. FRAME_END_RECEIVED leaves no frame under reception: of one not decided it runs the whole
frame's decision, and one decided early is ended and every copy of it left has joined. In one cell time of 51 ns a connected copy that is not
at its last cell moves one cell, and a lone eligible head is connected and starts. A port with a stored frame starts it, and sends nothing
else; at its end the frame and its FCS have been sent, or a bad one's bytes that crossed with a stomped FCS and its event, no sooner than its
time on the wire, and its copy has left. After an age sweep no head is too old.
Where the spec's words end it goes by the model's choices of assumptions 59, 60, 62, 63, 65, 67, 75 and 97.
Completing with their own effect: forwardingDecision, frameEndReceived, roundaboutMatch, egressTxStart, egressTxEnd, ageSweep. -/
def Obligations.SwitchFrames : Prop :=
  (∀ (s : State) (p : Fin 24) (data : List Byte) (ago : BitVec 32) (err : Bool) (set : Fin 64), s.rxFree p.val = true →
    err = true ∨ data.length < 18 →
    ∃ t, exec (.forwardingDecision p data true err ⟨ago, set⟩) s = .next t ∧ Counted s t (Rg.SW_EVENT p.val 3) ∧ t.sw.copies = s.sw.copies ∧
      t.sw.frames = s.sw.frames ∧ t.sw.fdb = s.sw.fdb ∧ Frame s t [.sw, .regs, .ic]
        (fun a => a = Rg.SW_EVENT p.val 3 ∨ a = Rg.SW_EVENT_SAT p.val ∨ a = Rg.SQ_PORT_SAT p.val ∨ (Rg.SQ_TRAFFIC_LO p.val 0 ≤ a ∧ a < Rg.SQ_TRAFFIC_LO p.val 0 + 16))) ∧
  (∀ (s : State) (p : Fin 24) (data : List Byte) (ago : BitVec 32) (set : Fin 64), s.rxFree p.val = true → p.val = 18 ∨ p.val = 19 →
    18 ≤ data.length →
    ∃ t, exec (.forwardingDecision p data true false ⟨ago, set⟩) s = .next t ∧
      t.sw.inject = s.sw.inject ++ [⟨p.val, set.val, s.sw.next, (s.parse p.val data data.length 0 true).pcp, data, s.vt - ago.toNat⟩] ∧
      t.sw.frames = s.sw.frames ∧ t.sw.copies = s.sw.copies ∧ Frame s t [.sw] (fun _ => False)) ∧
  (∀ (s : State) (p : Fin 24) (data : List Byte) (ago : BitVec 32) (set : Fin 64), s.rxFree p.val = true → p.val ≠ 18 → p.val ≠ 19 →
    18 ≤ data.length → leNat (data.drop (data.length - 4)) = crc32 (data.take (data.length - 4)) → s.macsecOn p.val = false →
    exec (.forwardingDecision p data true false ⟨ago, set⟩) s =
      .next ((s.shapersSync.traffic p.val 0 data.length).forward p.val (data.take (data.length - 4)) data.length (s.vt - ago.toNat) true).1.shapersSync) ∧
  (∀ (s : State) (p : Fin 24) (data : List Byte) (ago : BitVec 32) (vid : Nat) (set : Fin 64), s.rxFree p.val = true → p.val ≠ 18 → p.val ≠ 19 →
    18 ≤ data.length → leNat (data.drop (data.length - 4)) = crc32 (data.take (data.length - 4)) →
    s.macsecOn p.val = false → curfewT1s p.val (data.take (data.length - 4)) = false → underpassFrame p.val (data.take (data.length - 4)) = false →
    data.length ≤ s.maxLen p.val →
    vid = (s.parse p.val (data.take (data.length - 4)) data.length 0 true).vid → vid ≠ 0 → vid ≠ 4095 → tbit (s.members_ vid) p.val = false →
    ∃ t, exec (.forwardingDecision p data true false ⟨ago, set⟩) s = .next t ∧ Counted s t (Rg.SW_EVENT p.val 0) ∧ t.sw.copies = s.sw.copies ∧
      t.sw.frames = s.sw.frames ∧ t.sw.fdb = s.sw.fdb) ∧
  (∀ (s : State) (p : Fin 24) (data : List Byte) (ago : BitVec 32) (err : Bool) (set : Fin 64), s.rxFree p.val = true → data.length < 128 →
    ∃ t, exec (.forwardingDecision p data false err ⟨ago, set⟩) s = .next t ∧ t.rx p.val = some ⟨data, s.vt - ago.toNat, err, false, none⟩ ∧
      t.sw.frames = s.sw.frames ∧ t.sw.copies = s.sw.copies ∧ Frame s t [.sw] (fun _ => False)) ∧
  (∀ (s : State) (p : Fin 24) (rest : List Byte) (err : Bool) (x : RxFrame), s.rx p.val = some x → x.decided = false →
    exec (.frameEndReceived p rest err) s =
      .next ((s.shapersSync.setRx p.val none).frameIn p.val (x.got ++ rest) (err || x.err) x.stamp).shapersSync) ∧
  (∀ (s : State) (p : Fin 24) (rest : List Byte) (err : Bool) (x : RxFrame) (f : SwFrame), s.rx p.val = some x → x.decided = true →
    s.partFrame p.val = some f →
    ∃ t, exec (.frameEndReceived p rest err) s = .next t ∧ t.rx p.val = none ∧ (∀ g ∈ t.sw.frames, g.id = f.id → g.ended = true) ∧
      (∀ c ∈ t.sw.copies, c.frame = f.id → c.joined = true) ∧ t.mem = s.mem ∧ t.otp = s.otp ∧ t.plan = s.plan ∧ t.pending = s.pending) ∧
  (∀ (s : State) (f : SwFrame) (c : SwCopy), s.sw.copies = [c] → s.sw.frames = [f] → c.frame = f.id → s.sw.conns = [(c.inp, c.n)] → s.sw.inject = [] →
    f.ended = true → c.crossed + 1 < cells f.len →
    ∃ t, exec (.roundaboutMatch []) s = .next t ∧ t.now = s.now + 51 ∧
      t.sw.copies = [{ c with crossed := c.crossed + 1, turn := if c.crossed = 0 then s.sw.next else c.turn }] ∧ t.sw.conns = s.sw.conns ∧
      t.sw.frames = s.sw.frames ∧ Frame s t [.sw, .now, .vt, .ptp] (fun _ => False)) ∧
  (∀ (s : State) (f : SwFrame) (c : SwCopy), s.sw.copies = [c] → s.sw.frames = [f] → c.frame = f.id → s.sw.conns = [] → s.sw.inject = [] →
    f.ended = true → 1 < cells f.len → c.joined = true → c.crossed = 0 → c.done = false → s.gateCycle c.out = none → s.item2 0x0805 c.out c.tc = none →
    s.queueItem c.out c.tc = none → s.sw.flushing = [] → s.fits f c.out neverCloses = true → c.inp < 24 → c.out < 24 → c.tc < 8 →
    ∃ t, exec (.roundaboutMatch []) s = .next t ∧ t.now = s.now + 51 ∧ t.sw.conns = [(c.inp, c.n)] ∧
      t.sw.copies = [{ c with crossed := 1, turn := s.sw.next }] ∧ t.grantPtr c.out c.tc = (c.inp + 1) % 24 ∧
      t.acceptPtr c.inp c.tc = (c.out + 1) % 24 ∧ Frame s t [.sw, .now, .vt, .ptp] (fun _ => False)) ∧
  (∀ (s : State) (p : Fin 24) (c : SwCopy) (f : SwFrame), s.sending p.val = none → s.fifoHead p.val = some c → s.frameOf c = some f → s.linkUp p.val = true →
    p.val ≠ 21 → p.val ≠ 23 → s.sw.flushing.contains p.val = false → halfDuplex p.val = false ∨ s.rx p.val = none → s.curfewHolds p.val = false →
    c.done = true → s.macsecOn p.val = false →
    ∃ t, exec (.egressTxStart p) s = .next t ∧ t.sending p.val = some { c with started := true, txAt := s.now } ∧
      t.sw.frames = s.sw.frames ∧ Frame s t [.sw] (fun _ => False)) ∧
  (∀ (s : State) (p : Fin 24) (c : SwCopy) (f : SwFrame), s.sending p.val = some c → s.frameOf c = some f → isEthernet p.val = true →
    s.sw.flushing.contains p.val = false → c.done = true → f.bad = false →
    ∃ t, exec (.egressTxEnd p) s = .next t ∧
      tget (fun _ => (⟨[], false⟩ : SentFrame)) t.sw.sent p.val = ⟨s.wireBytes c f ++ leBytes 4 (crc32 (s.wireBytes c f)), false⟩ ∧
      (∀ x ∈ t.sw.copies, x.n ≠ c.n) ∧ c.txAt + ((s.wireBytes c f).length + 4) * 8 * 1000000 / portRate p.val ≤ t.now ∧
      t.mem = s.mem ∧ t.otp = s.otp ∧ t.plan = s.plan) ∧
  (∀ (s : State) (p : Fin 24) (c : SwCopy) (f : SwFrame), s.sending p.val = some c → s.frameOf c = some f → isEthernet p.val = true →
    s.sw.flushing.contains p.val = false → f.bad = true ∨ c.done = false →
    ∃ t, exec (.egressTxEnd p) s = .next t ∧
      tget (fun _ => (⟨[], false⟩ : SentFrame)) t.sw.sent p.val = ⟨s.cutBytes c f ++ leBytes 4 (crc32 (s.cutBytes c f) ^^^ 0xFFFFFFFF), true⟩ ∧
      (∀ x ∈ t.sw.copies, x.n ≠ c.n) ∧ Counted s t (Rg.SW_EVENT p.val 11) ∧ t.mem = s.mem ∧ t.otp = s.otp ∧ t.plan = s.plan) ∧
  (∀ (s : State), ∃ t, exec .ageSweep s = .next t ∧ (∀ c ∈ t.heads, ∀ f ∈ (t.frameOf c).toList, t.aged f c.out c.tc = false) ∧ t.vt = s.vt ∧
      t.mem = s.mem ∧ t.otp = s.otp ∧ t.plan = s.plan ∧ t.pending = s.pending)

/-- A port whose link goes down reads it down at once, begins its flush, and on an uplink stops being a candidate; the flush end leaves no
copy for the port, and a link that returned meanwhile and still may be up is up. A link that may come up, on a port not flushing, is up at the port's rate. A
member of the CX group rejoins as candidate FAILBACK_MS after its link came up or later. A learned entry ages out, AGE_S after its last hit
or later. LOOKUP shows a found entry, or says FDB_NOT_FOUND; DELETE removes a learned entry and leaves a static one with PLAN_LOCKED; the
flushes remove every learned entry, of a port or all. A change of TX_AN keeps every SA.
Where the spec's words end it goes by the model's choices of assumptions 61, 70 and 167.
Completing with their own effect: portLinkDown, linkDownFlushEnd, portLinkUp, hashMemberRejoin, fdbAgeOut, fdbLookup, fdbDelete, fdbFlushPort, fdbFlushAll, macsecTxAnChange. -/
def Obligations.SwitchDatabase : Prop :=
  (∀ (s : State) (p : Fin 24), s.linkUp p.val = true →
    ∃ t, exec (.portLinkDown p) s = .next t ∧ t.linkUp p.val = false ∧ t.rd (Fd.SW_PORT_STATUS_RATE p.val) = 0 ∧ t.sw.flushing.contains p.val = true ∧
      (p.val < 2 → t.flag (candFld p.val) = false) ∧ t.mem = s.mem ∧ t.otp = s.otp ∧ t.pending = s.pending) ∧
  (∀ (s : State) (p : Fin 24), s.sw.flushing.contains p.val = true →
    ∃ t, exec (.linkDownFlushEnd p) s = .next t ∧ (∀ c ∈ t.sw.copies, c.out ≠ p.val) ∧ t.sw.flushing.contains p.val = false ∧
      (s.sw.returns.contains p.val = true → t.mayLink p.val = true → t.linkUp p.val = true) ∧ t.mem = s.mem ∧ t.otp = s.otp ∧ t.pending = s.pending) ∧
  (∀ (s : State) (p : Fin 24), s.linkUp p.val = false → s.mayLink p.val = true → s.sw.flushing.contains p.val = false → p.val < 2 ∨ 16 ≤ p.val ∨ s.rd (Fd.NM_ETH_STATUS_STATE p.val) ≠ 3 →
    ∃ t, exec (.portLinkUp p) s = .next t ∧ t.linkUp p.val = true ∧ t.rd (Fd.SW_PORT_STATUS_RATE p.val) = portRateCode p.val ∧ t.linkAt p.val = s.now ∧
      Frame s t [.regs, .sw] (fun a => a = Rg.SW_PORT_STATUS p.val)) ∧
  (∀ (s : State) (m : Fin 2), s.cxGroup = true → s.linkUp m.val = true →
    ∃ t, exec (.hashMemberRejoin m) s = .next t ∧ t.flag (candFld m.val) = true ∧ s.linkAt m.val + s.rd Fd.SW_HASH_CFG_FAILBACK_MS * ms ≤ t.now ∧
      Frame s t [.regs, .now, .vt, .ptp] (fun a => a = Rg.SW_HASH_CFG)) ∧
  (∀ (s : State) (mac : BitVec 48) (vid : BitVec 12) (e : FdbEnt), s.fdbFind mac.toNat vid.toNat = some e → e.static = false →
    ∃ t, exec (.fdbAgeOut mac vid) s = .next t ∧ t.fdbFind mac.toNat vid.toNat = none ∧ e.hit + s.rd Fd.SW_CTRL_AGE_S * sec ≤ t.now ∧
      t.sw.fdb = s.sw.fdb.filter (fun x => !x.is mac.toNat vid.toNat) ∧ Frame s t [.sw, .now, .vt, .ptp] (fun _ => False)) ∧
  (∀ (s : State) (who : Who) (e : FdbEnt), s.passesChecks (s.issuer who) 4 Rg.SW_FDB_CMD (fdbWord 1 (s.rd Fd.SW_FDB_CMD_PORT)) false (decide (23 < s.rd Fd.SW_FDB_CMD_PORT)) = true →
    s.rd Fd.SW_FDB_CMD_RESULT ≠ Code.BUSY → s.fdbFind s.fdbKey.1 s.fdbKey.2 = some e →
    ∃ t, exec (.fdbLookup who) s = .next t ∧ t.flag Fd.SW_FDB_RESULT_VALID = true ∧ t.flag Fd.SW_FDB_RESULT_STATIC = e.static ∧
      (e.ports < 2 ^ 24 → t.rd Fd.SW_FDB_RESULT_PORTS = e.ports) ∧ t.rd Fd.SW_FDB_CMD_RESULT = Code.DONE ∧ t.resp = .done ∧
      Frame s t [.regs, .ic, .resp] (fun a => a = Rg.SW_FDB_CMD ∨ a = Rg.SW_FDB_RESULT)) ∧
  (∀ (s : State) (who : Who), s.passesChecks (s.issuer who) 4 Rg.SW_FDB_CMD (fdbWord 1 (s.rd Fd.SW_FDB_CMD_PORT)) false (decide (23 < s.rd Fd.SW_FDB_CMD_PORT)) = true →
    s.rd Fd.SW_FDB_CMD_RESULT ≠ Code.BUSY → s.fdbFind s.fdbKey.1 s.fdbKey.2 = none →
    ∃ t, exec (.fdbLookup who) s = .next t ∧ t.flag Fd.SW_FDB_RESULT_VALID = false ∧ t.rd Fd.SW_FDB_CMD_RESULT = Code.FDB_NOT_FOUND ∧ t.resp = .done) ∧
  (∀ (s : State) (who : Who) (e : FdbEnt), s.passesChecks (s.issuer who) 4 Rg.SW_FDB_CMD (fdbWord 2 (s.rd Fd.SW_FDB_CMD_PORT)) false (decide (23 < s.rd Fd.SW_FDB_CMD_PORT)) = true →
    s.rd Fd.SW_FDB_CMD_RESULT ≠ Code.BUSY → s.fdbFind s.fdbKey.1 s.fdbKey.2 = some e →
    ∃ t, exec (.fdbDelete who) s = .next t ∧
      (e.static = false → t.sw.fdb = s.sw.fdb.filter (fun x => !x.is s.fdbKey.1 s.fdbKey.2) ∧ t.rd Fd.SW_FDB_CMD_RESULT = Code.DONE) ∧
      (e.static = true → t.sw.fdb = s.sw.fdb ∧ t.rd Fd.SW_FDB_CMD_RESULT = Code.PLAN_LOCKED) ∧ t.resp = .done ∧
      Frame s t [.regs, .ic, .sw, .resp] (fun a => a = Rg.SW_FDB_CMD)) ∧
  (∀ (s : State) (who : Who) (p : Fin 32), s.passesChecks (s.issuer who) 4 Rg.SW_FDB_CMD (fdbWord 3 p.val) false (decide (23 < p.val)) = true →
    s.rd Fd.SW_FDB_CMD_RESULT ≠ Code.BUSY →
    ∃ t, exec (.fdbFlushPort who p) s = .next t ∧ t.sw.fdb = s.sw.fdb.filter (fun x => x.static || !tbit x.ports p.val) ∧
      t.rd Fd.SW_FDB_CMD_RESULT = Code.DONE ∧ t.resp = .done ∧ Frame s t [.regs, .ic, .sw, .resp] (fun a => a = Rg.SW_FDB_CMD)) ∧
  (∀ (s : State) (who : Who), s.passesChecks (s.issuer who) 4 Rg.SW_FDB_CMD (fdbWord 4 (s.rd Fd.SW_FDB_CMD_PORT)) false (decide (23 < s.rd Fd.SW_FDB_CMD_PORT)) = true →
    s.rd Fd.SW_FDB_CMD_RESULT ≠ Code.BUSY →
    ∃ t, exec (.fdbFlushAll who) s = .next t ∧ t.sw.fdb = s.sw.fdb.filter (fun x => x.static) ∧ t.rd Fd.SW_FDB_CMD_RESULT = Code.DONE ∧
      t.resp = .done ∧ Frame s t [.regs, .ic, .sw, .resp] (fun a => a = Rg.SW_FDB_CMD)) ∧
  (∀ (s : State) (who : Who) (m : Fin 3) (w : Word), s.passesChecks (s.issuer who) 4 (Rg.SW_MS_CTRL m.val) w false false = true →
    ∃ t, exec (.macsecTxAnChange who m w) s = .next t ∧ t.rd (Fd.SW_MS_CTRL_TX_AN m.val) = getBits w.toNat 2 1 ∧ t.sw = s.sw ∧ t.resp = .done ∧
      Frame s t [.regs, .ic, .resp] (fun a => a = Rg.SW_MS_CTRL m.val))

/-- A gate list's change comes at its scheduled vehicle time or later. A recovery reset takes any number next, counts, and comes after RESET_MS
without a frame. A Sync on the slave port carries the grandmaster's time to which the neighbour delay is added: in FREE vehicle time is set to
it, and so in any state behind by 10 µs or more; in LOCKED or ACQUIRING any other offset up to 1 s is slewed away, the eighth one in a row
under 1 µs locks, and a larger one leaves LOCKED; in HOLDOVER and AHEAD it is slewed from ACQUIRING on; a grandmaster more than a second behind
puts the unit AHEAD, its time unchanged. Three Sync intervals without one bring HOLDOVER. A master's Sync is
noted, a Sync interval after the last or later, and a delay measurement is kept; besides, only the port's traffic counters change. A gateway
frame leaves when HOLD_US is over, or later; a frame that has reached the gateway is gone and, bad, counted, of another kind, counted as
UNSUPPORTED, and of NTSCF, unpacked message by message. STREAM_SELECT shows whether the plan has the stream.
Where the spec's words end it goes by the model's choices of assumptions 66, 68, 71, 72, 73 and 74.
Completing with their own effect: gateEntryChange, frerRecoveryReset, syncReceived, syncTimeout, asSyncSend, pdelayMeasure, gwyHoldExpiry, gwyNtscfReceive, streamSelect. -/
def Obligations.SwitchTime : Prop :=
  (∀ (s : State) (p : Fin 24), (s.gateCycle p.val).isSome = true →
    ∃ t, exec (.gateEntryChange p) s = .next t ∧ s.vt + (s.gateNow p.val).2.2 ≤ t.vt ∧ t.sw.copies = s.sw.copies ∧
      Frame s t [.sw, .now, .vt, .ptp] (fun _ => False)) ∧
  (∀ (s : State) (h : BitVec 16) (i : Item), s.item 0x0901 h.toNat = some i → i.eliminates = true → (s.strm h.toNat).takeAny = false →
    ∃ t, exec (.frerRecoveryReset h) s = .next t ∧ (t.strm h.toNat).takeAny = true ∧ (t.strm h.toNat).hist = 0 ∧
      tget (fun _ => 0) (t.strm h.toNat).cnt 7 = (if tget (fun _ => 0) (s.strm h.toNat).cnt 7 < 0xFFFFFFFE then tget (fun _ => 0) (s.strm h.toNat).cnt 7 + 1 else 0xFFFFFFFF) ∧
      (s.strm h.toNat).seenAt + s.rd Fd.SQ_FRER_CFG_RESET_MS * ms ≤ t.now ∧ Frame s t [.sw, .ic, .now, .vt, .ptp] (fun _ => False)) ∧
  (∀ (s : State) (p : Fin 24) (gm : BitVec 64), s.role p.val = 2 → asPort p.val = true → s.linkUp p.val = true → s.asState = 0 →
    ∃ t, exec (.syncReceived p gm) s = .next t ∧ t.asState = 1 ∧ t.vt = (gm.toNat + s.nbrDelay p.val) % 2 ^ 64 ∧ t.ptp.slew = 0 ∧ t.ptp.good = 0 ∧
      t.ptp.syncAt = s.now ∧ t.now = s.now ∧ t.mem = s.mem ∧ t.otp = s.otp ∧ t.plan = s.plan) ∧
  (∀ (s : State) (p : Fin 24) (gm : BitVec 64), s.role p.val = 2 → asPort p.val = true → s.linkUp p.val = true → s.asState ≠ 0 → s.vt + 10000 ≤ (gm.toNat + s.nbrDelay p.val) % 2 ^ 64 →
    ∃ t, exec (.syncReceived p gm) s = .next t ∧ t.asState = 1 ∧ t.vt = (gm.toNat + s.nbrDelay p.val) % 2 ^ 64 ∧ t.ptp.slew = 0 ∧ t.ptp.good = 0 ∧
      t.ptp.syncAt = s.now ∧ t.now = s.now ∧ t.mem = s.mem ∧ t.otp = s.otp ∧ t.plan = s.plan) ∧
  (∀ (s : State) (p : Fin 24) (gm : BitVec 64) (g : Nat), s.role p.val = 2 → asPort p.val = true → s.linkUp p.val = true → s.asState = 1 ∨ s.asState = 2 →
    g = (gm.toNat + s.nbrDelay p.val) % 2 ^ 64 → g < s.vt + 10000 → s.vt ≤ g + 1000000000 →
    ∃ t, exec (.syncReceived p gm) s = .next t ∧ t.ptp.slew = (g : Int) - (s.vt : Int) ∧ t.vt = s.vt ∧ t.ptp.syncAt = s.now ∧
      t.ptp.good = (if s.vt < g + 1000 ∧ g < s.vt + 1000 then s.ptp.good + 1 else 0) ∧
      t.asState = (if s.vt < g + 1000 ∧ g < s.vt + 1000 then (if 7 ≤ s.ptp.good then 2 else s.asState) else 1) ∧
      Frame s t [.regs, .ptp] (fun a => a = Rg.SQ_AS_STATUS)) ∧
  (∀ (s : State) (p : Fin 24) (gm : BitVec 64) (g : Nat), s.role p.val = 2 → asPort p.val = true → s.linkUp p.val = true → s.asState = 3 ∨ s.asState = 4 →
    g = (gm.toNat + s.nbrDelay p.val) % 2 ^ 64 → g < s.vt + 10000 → s.vt ≤ g + 1000000000 →
    ∃ t, exec (.syncReceived p gm) s = .next t ∧ t.asState = 1 ∧ t.ptp.slew = (g : Int) - (s.vt : Int) ∧ t.vt = s.vt ∧
      Frame s t [.regs, .ptp] (fun a => a = Rg.SQ_AS_STATUS)) ∧
  (∀ (s : State) (p : Fin 24) (gm : BitVec 64), s.role p.val = 2 → asPort p.val = true → s.linkUp p.val = true → s.asState ≠ 0 → (gm.toNat + s.nbrDelay p.val) % 2 ^ 64 + 1000000000 < s.vt →
    ∃ t, exec (.syncReceived p gm) s = .next t ∧ t.asState = 4 ∧ t.vt = s.vt ∧ t.ptp.slew = 0 ∧ Frame s t [.regs, .ptp] (fun a => a = Rg.SQ_AS_STATUS)) ∧
  (∀ (s : State) (p : Nat), s.asState ≠ 0 → s.asState ≠ 3 → (List.range 24).find? (fun q => s.role q == 2) = some p →
    ∃ t, exec .syncTimeout s = .next t ∧ t.asState = 3 ∧ t.ptp.slew = 0 ∧ s.ptp.syncAt + 3 * s.syncInterval p ≤ t.now ∧
      Frame s t [.regs, .now, .vt, .ptp] (fun a => a = Rg.SQ_AS_STATUS)) ∧
  (∀ (s : State) (p : Fin 24), s.role p.val = 1 → asPort p.val = true → s.linkUp p.val = true →
    ∃ t, exec (.asSyncSend p) s = .next t ∧ tget (fun _ => 0) t.ptp.sentAt p.val = t.now ∧
      (tget (fun _ => 0) s.ptp.sentAt p.val ≠ 0 → tget (fun _ => 0) s.ptp.sentAt p.val + s.syncInterval p.val ≤ t.now) ∧
      Frame s t [.regs, .ic, .now, .vt, .ptp] (fun a => a = Rg.SQ_PORT_SAT p.val ∨ (Rg.SQ_TRAFFIC_LO p.val 0 ≤ a ∧ a < Rg.SQ_TRAFFIC_LO p.val 4))) ∧
  (∀ (s : State) (p : Fin 24) (d : BitVec 32), s.role p.val ≠ 0 → s.flag (Fd.SQ_AS_PORT_CFG_PDELAY_EN p.val) = true → s.linkUp p.val = true →
    ∃ t, exec (.pdelayMeasure p d) s = .next t ∧ tget (fun _ => 0) t.ptp.nbr p.val = d.toNat ∧
      Frame s t [.regs, .ic, .ptp] (fun a => a = Rg.SQ_PORT_SAT p.val ∨ (Rg.SQ_TRAFFIC_LO p.val 0 ≤ a ∧ a < Rg.SQ_TRAFFIC_LO p.val 4))) ∧
  (∀ (s : State) (h : BitVec 16) (g : GwyFrame), s.gwyFrame h.toNat = some g →
    ∃ t, exec (.gwyHoldExpiry h) s = .next t ∧ t.gwyFrame h.toNat = none ∧ g.first + s.rd Fd.CAN_GWY_CFG_HOLD_US * us ≤ t.now ∧
      t.mem = s.mem ∧ t.otp = s.otp ∧ t.can = s.can ∧ t.plan = s.plan) ∧
  (∀ (s : State) (c : SwCopy) (f : SwFrame), s.fifoHead 21 = some c → s.frameOf c = some f → c.done = true → f.bad = true →
    ∃ t, exec .gwyNtscfReceive s = .next t ∧ Counted s t (Rg.SW_EVENT 21 12) ∧ (∀ x ∈ t.sw.copies, x.n ≠ c.n) ∧ t.can = s.can ∧ t.mem = s.mem ∧ t.otp = s.otp) ∧
  (∀ (s : State) (c : SwCopy) (f : SwFrame), s.fifoHead 21 = some c → s.frameOf c = some f → c.done = true → f.bad = false →
    beNat (sl f.payload 0 2) ≠ 0x22F0 ∨ beNat (sl f.payload 2 1) ≠ 0x82 →
    ∃ t, exec .gwyNtscfReceive s = .next t ∧ Counted s t (Rg.CAN_GWY_EVENT 1) ∧ (∀ x ∈ t.sw.copies, x.n ≠ c.n) ∧ t.can = s.can ∧ t.mem = s.mem ∧ t.otp = s.otp) ∧
  (∀ (s : State) (c : SwCopy) (f : SwFrame), s.fifoHead 21 = some c → s.frameOf c = some f → c.done = true → f.bad = false →
    beNat (sl f.payload 0 2) = 0x22F0 → beNat (sl f.payload 2 1) = 0x82 →
    exec .gwyNtscfReceive s = .next ((((s.shapersSync.dropCopy c).sweepFrames).traffic 21 2 f.len).gwyMessages (beNat (sl f.payload 12 2))
      ((f.payload.drop 14).take (beNat (sl f.payload 3 2) % 2048)) (beNat (sl f.payload 3 2) % 2048 + 1))) ∧
  (∀ (s : State) (who : Who) (h : BitVec 16), s.passesChecks (s.issuer who) 4 Rg.SQ_STREAM_SEL (h.setWidth 32) false false = true →
    ∃ t, exec (.streamSelect who h) s = .next t ∧ t.rd Fd.SQ_STREAM_SEL_HANDLE = h.toNat ∧
      t.rd Fd.SQ_STREAM_SEL_RESULT = (if (s.item 0x0901 h.toNat).isSome then Code.DONE else Code.STREAM_NOT_FOUND) ∧ t.resp = .done ∧
      Frame s t [.regs, .ic, .resp] (fun a => a = Rg.SQ_STREAM_SEL))

/-- On an existing endpoint's doorbell page, for its owner or district 0, past the gate of its pair: a DB_SQ write within the free ring space moves TAIL, publishes
the descriptors up to it and leaves HEAD; a DB_CQ write within the records moves HEAD; a DB_ABORT write with no abort undecided takes TAG
and reads BUSY. MB_RING sets the ringing district's bit of MB_PENDING and the notice of endpoint 0. PAGE_IN seats the endpoint that has
waited longest in a free slot, and counts, where no restart waits for it. An abort whose TAG names no command in flight is decided ALREADY_DONE; of a command at or past
its commit point ALREADY_DONE, with ABORT_SEEN; of an armed timer CANCELLED, with its record.
Where the spec's words end it goes by the model's choices of assumptions 26, 78 and 79.
Completing with their own effect: dbSqWrite, dbCqWrite, dbAbortWrite, mbRing, pageIn, abortDecision. -/
def Obligations.DoorbellWrites : Prop :=
  (∀ (s : State) (who : Who) (e : Fin 4096) (w : Word), s.dev = .active → s.epExists e.val = true → s.dbRight (s.issuer who) e.val 0 = true →
    s.toGate (s.issuer who) (dbAddr e.val 0) = false → s.gateWait (s.issuer who) = false →
    w.toNat % 65536 ≠ (s.epAt e.val).sqTail → (s.epAt e.val).sqOver (w.toNat % 65536) = false →
    e.val ≠ 0 ∨ s.flag Fd.SYS_EP0_RINGS_LO_EN = true →
    ∃ t, exec (.dbSqWrite who e w) s = .next t ∧ (t.epAt e.val).sqTail = w.toNat % 65536 ∧ (t.epAt e.val).sqHead = (s.epAt e.val).sqHead ∧
      (t.epAt e.val).pub = (s.epAt e.val).pub ++ [(w.toNat % 65536, (s.issuer who).courtyard.toNat)] ∧ t.ep.inflight = s.ep.inflight ∧ t.resp = .done ∧
      Frame s t [.ep, .resp] (fun _ => False)) ∧
  (∀ (s : State) (who : Who) (e : Fin 4096) (w : Word), s.dev = .active → s.epExists e.val = true → s.dbRight (s.issuer who) e.val 4 = true →
    s.toGate (s.issuer who) (dbAddr e.val 4) = false → s.gateWait (s.issuer who) = false →
    (s.epAt e.val).cqOver (w.toNat % 65536) = false →
    ∃ t, exec (.dbCqWrite who e w) s = .next t ∧ (t.epAt e.val).cqHead = w.toNat % 65536 ∧ (t.epAt e.val).cqTail = (s.epAt e.val).cqTail ∧
      t.ep.inflight = s.ep.inflight ∧ t.resp = .done ∧ Frame s t [.ep, .resp] (fun _ => False)) ∧
  (∀ (s : State) (who : Who) (e : Fin 4096) (w : Word), s.dev = .active → s.epExists e.val = true → s.dbRight (s.issuer who) e.val 8 = true →
    s.toGate (s.issuer who) (dbAddr e.val 8) = false → s.gateWait (s.issuer who) = false →
    (s.epAt e.val).abortCode ≠ Code.BUSY →
    ∃ t, exec (.dbAbortWrite who e w) s = .next t ∧ (t.epAt e.val).abortTag = w.toNat % 65536 ∧ (t.epAt e.val).abortCode = Code.BUSY ∧
      (t.epAt e.val).abortTail = (s.epAt e.val).sqTail ∧ t.resp = .done ∧
      Frame s t [.ep, .resp, .mem, .wg, .ic, .regs] (fun a => a = Rg.WG_EVENT 1 ∨ a = Rg.WG_EVENT 2 ∨ a = Rg.WG_EVENT_SAT ∨
        a = Rg.WG_ECC_ADDR_LO ∨ a = Rg.WG_ECC_ADDR_HI)) ∧
  (∀ (s : State) (who : Who) (w : Word), s.dev = .active → s.epExists 0 = true →
    s.toGate (s.issuer who) (dbAddr 0 0x100) = false → s.gateWait (s.issuer who) = false →
    ∃ t, exec (.mbRing who w) s = .next t ∧
      tbit (t.reg (dbAddr 0 (if (s.issuer who).district.toNat < 32 then 0x104 else 0x108))).toNat ((s.issuer who).district.toNat % 32) = true ∧
      (t.epAt 0).notice = true ∧ t.resp = .done ∧
      Frame s t [.ep, .resp, .ic, .regs] (fun a => a = dbAddr 0 (if (s.issuer who).district.toNat < 32 then 0x104 else 0x108))) ∧
  (∀ (s : State) (e : Nat) (b : Bool) (rest : List (Nat × Bool)) (k : Nat), s.ep.pageQ = (e, b) :: rest → (s.epAt e).live = true →
    (s.epAt e).slot = none → s.pagedFree = some k → s.ep.restart.contains (s.epAt e).district = false →
    ∃ t, exec .pageIn s = .next t ∧ (t.epAt e).slot = some k ∧ t.ep.pageQ = rest.filter (fun p => p.1 != e) ∧
      t.ep.lru = s.ep.lru.filter (· != e) ++ [e] ∧ t.ep.inflight = s.ep.inflight ∧
      Frame s t [.ep, .ic, .regs] (fun a => a = Rg.SYS_EP_EVENT 0 ∨ a = Rg.SYS_EP_SAT)) ∧
  (∀ (s : State) (e : Fin 4096), (s.epAt e.val).live = true → (s.epAt e.val).abortCode = Code.BUSY → (s.epAt e.val).slot.isSome = true →
    (s.epAt e.val).sqHead = (s.epAt e.val).abortTail → s.cmdOf e.val (s.epAt e.val).abortTag = none →
    ∃ t, exec (.abortDecision e) s = .next t ∧ t.epAt e.val = { s.epAt e.val with abortCode := Code.ALREADY_DONE } ∧
      t.ep.inflight = s.ep.inflight ∧ Frame s t [.ep] (fun _ => False)) ∧
  (∀ (s : State) (e : Fin 4096) (c : Cmd), (s.epAt e.val).live = true → (s.epAt e.val).abortCode = Code.BUSY →
    (s.epAt e.val).slot.isSome = true → (s.epAt e.val).sqHead = (s.epAt e.val).abortTail →
    s.cmdOf e.val (s.epAt e.val).abortTag = some c → c.phase = .committed →
    ∃ t, exec (.abortDecision e) s = .next t ∧ (t.epAt e.val).abortCode = Code.ALREADY_DONE ∧
      t.cmdOf c.ep c.tag = some { c with abortSeen := true } ∧ Frame s t [.ep] (fun _ => False)) ∧
  (∀ (s : State) (e : Fin 4096) (c : Cmd), (s.epAt e.val).live = true → (s.epAt e.val).abortCode = Code.BUSY →
    (s.epAt e.val).slot.isSome = true → (s.epAt e.val).sqHead = (s.epAt e.val).abortTail →
    s.cmdOf e.val (s.epAt e.val).abortTag = some c → c.phase = .waiting → (s.epAt e.val).ty = 5 →
    ∃ t, exec (.abortDecision e) s = .next t ∧ (t.epAt e.val).abortCode = Code.CANCELLED ∧
      Recorded s t { c with abortSeen := true } Code.CANCELLED 0 s.vt c.lateSeen ∧ OnlyRecord s t c ∧
      Frame s t [.ep, .mem, .wg, .ic] (fun _ => False))

/-- DESCRIPTOR_FETCH of a fetchable endpoint: HEAD moves one on; a sound descriptor with a TAG not in flight that passes R60 is in flight,
held where ORDERED stands behind others; one that fails R60 leaves a record with its code. ORDERED_RELEASE passes the oldest command of
the endpoint. A TIMED command past EXEC_TIME by more than LATE_LIMIT ends with TIMEOUT; otherwise its block runs it, no earlier than
EXEC_TIME, and marked LATE past it; of one channel's commands the oldest first. NET TX reads its frame and waits at the injector with exactly those bytes, padded to 60; RX_POST waits; a delivery into a posted buffer
records the frame's length. ARM of a TIMER waits, or, past its time, completes at once with LATE; the expiry completes with DONE and
EXPIRY as its time. Only the bytes named change.
Where the spec's words end it goes by the model's choices of assumptions 26, 73, 75, 78, 81, 83 and 85.
Completing with their own effect: descriptorFetch, orderedRelease, timedExecute, netTx, rxPost, epeDelivery, timerArm, timerExpiry. -/
def Obligations.EngineCommands : Prop :=
  (∀ (s : State) (e : Fin 4096), s.dev = .active → s.canFetch e.val = true → (s.epAt e.val).dying = false →
    s.poisonMask ((s.epAt e.val).descAddr (s.epAt e.val).sqHead) = 0 →
    (s.cmdOf e.val (leNat (s.bytes ((s.epAt e.val).descAddr (s.epAt e.val).sqHead) 2))).isSome = false →
    (((s.readEcc ((s.epAt e.val).descAddr (s.epAt e.val).sqHead) 64).takeHead e.val).touch e.val).checkDesc
      (cmdOfBytes e.val (match (s.epAt e.val).pub.head? with | some p => p.2 | none => 0) (s.bytes ((s.epAt e.val).descAddr (s.epAt e.val).sqHead) 64)) = Code.DONE →
    ∃ t, exec (.descriptorFetch e) s = .next t ∧ (t.epAt e.val).sqHead = idxNext (s.epAt e.val).sqHead ∧
      t.ep.inflight.length = s.ep.inflight.length + 1 ∧ t.ep.inflight.take s.ep.inflight.length = s.ep.inflight ∧
      (t.cmdOf e.val (leNat (s.bytes ((s.epAt e.val).descAddr (s.epAt e.val).sqHead) 2))).isSome = true ∧
      Frame s t [.ep, .wg, .ic, .regs] (fun a => a = Rg.WG_EVENT 1 ∨ a = Rg.WG_EVENT_SAT)) ∧
  (∀ (s : State) (e : Fin 4096), s.dev = .active → s.canFetch e.val = true → (s.epAt e.val).dying = false →
    s.poisonMask ((s.epAt e.val).descAddr (s.epAt e.val).sqHead) = 0 →
    (s.cmdOf e.val (leNat (s.bytes ((s.epAt e.val).descAddr (s.epAt e.val).sqHead) 2))).isSome = false →
    (((s.readEcc ((s.epAt e.val).descAddr (s.epAt e.val).sqHead) 64).takeHead e.val).touch e.val).checkDesc
      (cmdOfBytes e.val (match (s.epAt e.val).pub.head? with | some p => p.2 | none => 0) (s.bytes ((s.epAt e.val).descAddr (s.epAt e.val).sqHead) 64)) ≠ Code.DONE →
    ∃ t, exec (.descriptorFetch e) s = .next t ∧ (t.epAt e.val).sqHead = idxNext (s.epAt e.val).sqHead ∧ t.ep.inflight = s.ep.inflight ∧
      (t.epAt e.val).cqTail = idxNext (s.epAt e.val).cqTail ∧
      Frame s t [.ep, .mem, .wg, .ic, .regs] (fun a => a = Rg.WG_EVENT 1 ∨ a = Rg.WG_EVENT_SAT)) ∧
  (∀ (s : State) (e : Fin 4096) (tag : BitVec 16) (c : Cmd), (s.inflight e.val).head? = some c → c.tag = tag.toNat → c.phase = .ordered →
    ∃ t, exec (.orderedRelease e tag) s = .next t ∧ t.cmdOf e.val tag.toNat = some { c with phase := .passed } ∧ t.ep.eps = s.ep.eps ∧
      Frame s t [.ep] (fun _ => False)) ∧
  (∀ (s : State) (e : Fin 4096) (tag : BitVec 16) (c : Cmd), s.dev = .active → s.cmdOf e.val tag.toNat = some c → c.phase = .timed →
    (s.epAt e.val).ty ≠ 2 ∨ (s.inflight e.val).head? = some c → c.exec + c.late < s.vt →
    ∃ t, exec (.timedExecute e tag) s = .next t ∧ Recorded s t c Code.TIMEOUT 0 s.vt c.lateSeen ∧ OnlyRecord s t c ∧
      Frame s t [.ep, .mem, .wg, .ic] (fun _ => False)) ∧
  (∀ (s : State) (e : Fin 4096) (tag : BitVec 16) (c : Cmd), s.dev = .active → s.cmdOf e.val tag.toNat = some c → c.phase = .timed →
    (s.epAt e.val).ty ≠ 2 ∨ (s.inflight e.val).head? = some c → s.vt ≤ c.exec →
    exec (.timedExecute e tag) s = .next ((s.reachVt c.exec).runTimed { c with phase := .passed })) ∧
  (∀ (s : State) (e : Fin 4096) (tag : BitVec 16) (c : Cmd), s.dev = .active → s.cmdOf e.val tag.toNat = some c → c.phase = .timed →
    (s.epAt e.val).ty ≠ 2 ∨ (s.inflight e.val).head? = some c → c.exec < s.vt → s.vt ≤ c.exec + c.late →
    exec (.timedExecute e tag) s = .next ((s.putCmd { c with lateSeen := true }).runTimed { c with lateSeen := true, phase := .passed })) ∧
  (∀ (s : State) (e : Fin 4096) (tag : BitVec 16) (c : Cmd), s.passed e.val tag.toNat 0 1 = some c →
    s.poisoned (c.f 0x10 8) (c.f 0x18 2) = false →
    ∃ t, exec (.netTx e tag) s = .next t ∧
      t.sw.inject = s.sw.inject ++ [⟨23, c.ep, c.tag, c.f 0x1A 1,
        s.bytes (c.f 0x10 8) (c.f 0x18 2) ++ List.replicate (60 - c.f 0x18 2) 0, s.vt⟩] ∧
      t.cmdOf e.val tag.toNat = some { c with phase := .waiting } ∧ t.ep.eps = s.ep.eps ∧
      Frame s t [.ep, .sw, .wg, .ic, .regs] (fun a => a = Rg.WG_EVENT 1 ∨ a = Rg.WG_EVENT_SAT)) ∧
  (∀ (s : State) (e : Fin 4096) (tag : BitVec 16) (c : Cmd), s.passed e.val tag.toNat 0 2 = some c →
    ∃ t, exec (.rxPost e tag) s = .next t ∧ t.cmdOf e.val tag.toNat = some { c with phase := .waiting } ∧ t.ep.eps = s.ep.eps ∧
      Frame s t [.ep] (fun _ => False)) ∧
  (∀ (s : State) (e : Fin 4096) (c : Cmd) (k : SwCopy) (f : SwFrame), s.sw.copies.find? (fun k => k.out == 23 && k.ep == e.val) = some k →
    (s.inflight e.val).find? (fun c => c.op == 2 && c.phase == .waiting) = some c → s.frameOf k = some f → k.done = true → f.ended = true →
    (s.epAt e.val).ty = 0 → f.bad = false →
    (s.outBytes f 23).length ≤ c.f 0x18 2 → recordAt s c + 16 ≤ c.f 0x10 8 ∨ c.f 0x10 8 + (s.outBytes f 23).length ≤ recordAt s c →
    ∃ t, exec (.epeDelivery e) s = .next t ∧ t.bytes (c.f 0x10 8) (s.outBytes f 23).length = s.outBytes f 23 ∧
      Recorded s t c Code.DONE (s.outBytes f 23).length s.vt c.lateSeen ∧ (t.sw.copies.any (fun x => x.n == k.n)) = false ∧
      (∀ b, (b < recordAt s c ∨ recordAt s c + 16 ≤ b) → (b < c.f 0x10 8 ∨ c.f 0x10 8 + (s.outBytes f 23).length ≤ b) → t.byte b = s.byte b)) ∧
  (∀ (s : State) (e : Fin 4096) (tag : BitVec 16) (c : Cmd), s.passed e.val tag.toNat 5 1 = some c →
    ((s.inflight c.ep).filter (fun k => k.phase == .waiting)).length < (s.epAt c.ep).timers → s.vt ≤ c.f 0x10 8 →
    ∃ t, exec (.timerArm e tag) s = .next t ∧ t.cmdOf e.val tag.toNat = some { c with phase := .waiting } ∧ t.ep.eps = s.ep.eps ∧
      Frame s t [.ep] (fun _ => False)) ∧
  (∀ (s : State) (e : Fin 4096) (tag : BitVec 16) (c : Cmd), s.passed e.val tag.toNat 5 1 = some c →
    ((s.inflight c.ep).filter (fun k => k.phase == .waiting)).length < (s.epAt c.ep).timers → c.f 0x10 8 < s.vt →
    ∃ t, exec (.timerArm e tag) s = .next t ∧ Recorded s t c Code.DONE 0 (c.f 0x10 8) true ∧ OnlyRecord s t c ∧
      Frame s t [.ep, .mem, .wg, .ic] (fun _ => False)) ∧
  (∀ (s : State) (e : Fin 4096) (tag : BitVec 16) (c : Cmd), s.dev = .active → s.cmdOf e.val tag.toNat = some c → (s.epAt e.val).ty = 5 →
    c.phase = .waiting →
    ∃ t, exec (.timerExpiry e tag) s = .next t ∧ Recorded s t c Code.DONE 0 (c.f 0x10 8) c.lateSeen ∧ OnlyRecord s t c ∧
      Frame s t [.ep, .mem, .wg, .ic, .now, .vt, .ptp] (fun _ => False))

/-- An operation of SYS_EP_CMD that waits at the engine. CREATE_EP that passes R161: the endpoint exists with its type, district, rings and
binding, empty rings, RESULT DONE and its number in the result. DESTROY_EP of an idle endpoint: it no longer exists, and
DESTROY_EP_RESPONSE, once nothing is in flight, removes it, returns its pooled credits and answers DONE. RESIZE to a larger weight or
credit share sets it at once; RESIZE_COMPLETE clears the overdraft and sets the endpoint's SYS_OD_DONE bit. QUERY of the pools answers them
and changes no endpoint. PIN_RESIDENT pins a resident endpoint. A mailbox request that fails the checks of R160 gets one response with its
code, and REQ_HEAD passes it; one that passes them goes to the engine with its payload in SYS_EP_STAGE and its district in SYS_EP_CMD, and a
QUERY is answered by one response. DISTRICT_RESTART outside a call, of a district whose endpoints
are idle and whose mailbox page lies in DRAM, ends them, writes zeroes and VERSION to the page, and the district runs; during a call it waits. A write of SYS_EP0_RINGS places the idle rings of endpoint 0 and resets their indices.
Where the spec's words end it goes by the model's choices of assumptions 76, 77, 80, 81, 82, 84 and 129.
Completing with their own effect: createEp, destroyEp, destroyEpResponse, resize, resizeComplete, query, pinResident, mailboxRequest, districtRestart, ep0RingsWrite. -/
def Obligations.TownHallOperations : Prop :=
  (∀ (s : State) (o : EpOp) (e : Nat), s.ep.op = some o → o.msg = 1 → o.target = none → o.mail = false →
    s.createCheck o.district = (Code.DONE, e) →
    ∃ t, exec .createEp s = .next t ∧ (t.epAt e).live = true ∧ (t.epAt e).ty = s.req 0x0A 1 ∧ (t.epAt e).district = o.district ∧
      (t.epAt e).sqBase = s.crSq ∧ (t.epAt e).cqBase = s.crCq ∧ (t.epAt e).bind = s.crBind ∧ (t.epAt e).outstanding = 0 ∧
      (t.epAt e).cqTail = 0 ∧ t.rd Fd.SYS_EP_CMD_RESULT = Code.DONE ∧ (t.reg (Rg.SYS_EP_RESULT 0)).toNat % 65536 = e % 65536 ∧
      t.ep.op = none ∧ t.ep.inflight = s.ep.inflight ∧
      Frame s t [.ep, .regs, .kb, .pn] (fun a => a = Rg.SYS_EP_CMD ∨ a = Rg.SYS_POOL_FREE0 ∨ a = Rg.SYS_POOL_FREE1 ∨
        (Rg.SYS_EP_RESULT 0 ≤ a ∧ a ≤ Rg.SYS_EP_RESULT 5))) ∧
  (∀ (s : State) (o : EpOp), s.ep.op = some o → o.msg = 2 → o.target = none → o.mail = false →
    s.nameCheck o.district (s.req 0x08 2) true = Code.DONE → (s.epAt (s.req 0x08 2)).sqHead = (s.epAt (s.req 0x08 2)).sqTail →
    (s.epAt (s.req 0x08 2)).sqTail < 65536 → s.inflight (s.req 0x08 2) = [] →
    ∃ t, exec .destroyEp s = .next t ∧ t.epExists (s.req 0x08 2) = false ∧ (t.epAt (s.req 0x08 2)).dying = true ∧
      t.ep.op = some { o with target := some (s.req 0x08 2) } ∧ t.ep.inflight = s.ep.inflight ∧ t.pending = s.pending ∧ t.plan = s.plan) ∧
  (∀ (s : State) (o : EpOp) (e : Fin 4096), s.ep.op = some o → o.target = some e.val → o.mail = false → (s.epAt e.val).live = true →
    (s.epAt e.val).dying = true → s.inflight e.val = [] → s.ep.restart.contains (s.epAt e.val).district = false →
    ∃ t, exec (.destroyEpResponse e) s = .next t ∧ t.epAt e.val = { Ep.absent with notice := (s.epAt e.val).notice } ∧ t.ep.op = none ∧
      t.rd Fd.SYS_EP_CMD_RESULT = Code.DONE ∧
      t.freeCredits = (s.freeCredits + (if tbit (s.epAt e.val).resv 0 then 0 else (s.epAt e.val).credits)) % 65536 ∧
      Frame s t [.ep, .regs] (fun a => a = Rg.SYS_EP_CMD ∨ a = Rg.SYS_POOL_FREE0 ∨ a = Rg.SYS_POOL_FREE1 ∨ a = Rg.SYS_EP_CFG ∨
        (Rg.SYS_EP_RESULT 0 ≤ a ∧ a ≤ Rg.SYS_EP_RESULT 5))) ∧
  (∀ (s : State) (o : EpOp), s.ep.op = some o → o.msg = 3 → o.target = none → o.mail = false → s.req 0x0A 1 = 2 →
    s.resizeCheck o.district (s.req 0x08 2) 2 (s.req 0x0C 4) = Code.DONE →
    ∃ t, exec .resize s = .next t ∧ (t.epAt (s.req 0x08 2)).weight = s.req 0x0C 4 ∧ t.rd Fd.SYS_EP_CMD_RESULT = Code.DONE ∧
      t.ep.op = none ∧ t.ep.inflight = s.ep.inflight ∧
      Frame s t [.ep, .regs] (fun a => a = Rg.SYS_EP_CMD ∨ (Rg.SYS_EP_RESULT 0 ≤ a ∧ a ≤ Rg.SYS_EP_RESULT 5))) ∧
  (∀ (s : State) (o : EpOp), s.ep.op = some o → o.msg = 3 → o.target = none → o.mail = false → s.req 0x0A 1 = 0 →
    s.resizeCheck o.district (s.req 0x08 2) 0 (s.req 0x0C 4) = Code.DONE → (s.epAt (s.req 0x08 2)).credits ≤ s.req 0x0C 4 →
    ∃ t, exec .resize s = .next t ∧ (t.epAt (s.req 0x08 2)).credits = s.req 0x0C 4 ∧ t.rd Fd.SYS_EP_CMD_RESULT = Code.DONE ∧
      t.freeCredits = s.freeCredits - (s.req 0x0C 4 - (s.epAt (s.req 0x08 2)).credits) ∧ t.ep.op = none ∧
      Frame s t [.ep, .regs] (fun a => a = Rg.SYS_EP_CMD ∨ a = Rg.SYS_POOL_FREE0 ∨ (Rg.SYS_EP_RESULT 0 ≤ a ∧ a ≤ Rg.SYS_EP_RESULT 5))) ∧
  (∀ (s : State) (e : Fin 4096) (z : Resize), (s.epAt e.val).resize = some z → s.occupancy e.val z.kind ≤ z.new →
    s.ep.mbWait.find? (fun w => w.ep == e.val) = none →
    ∃ t, exec (.resizeComplete e) s = .next t ∧ (t.epAt e.val).resize = none ∧ (t.epAt e.val).overdrawn = clrBit (s.epAt e.val).overdrawn z.kind ∧
      t.flag (bitOf (Rg.SYS_OD_DONE (e.val / 32)) (e.val % 32)) = true ∧ t.ep.inflight = s.ep.inflight ∧
      Frame s t [.ep, .ic, .regs] (fun a => a = Rg.SYS_OD_DONE (e.val / 32) ∨ a = Rg.SYS_POOL_FREE0 ∨ a = Rg.SYS_POOL_FREE1)) ∧
  (∀ (s : State) (o : EpOp), s.ep.op = some o → o.msg = 4 → o.target = none → o.mail = false → s.req 0x08 2 = 0xFFFF →
    ∃ t, exec .query s = .next t ∧ t.rd Fd.SYS_EP_CMD_RESULT = Code.DONE ∧
      (t.reg (Rg.SYS_EP_RESULT 0)).toNat % 65536 = s.freeCredits % 65536 ∧ (t.reg (Rg.SYS_EP_RESULT 1)).toNat = s.freeCells ∧
      t.ep = { s.ep with op := none } ∧
      Frame s t [.ep, .regs] (fun a => a = Rg.SYS_EP_CMD ∨ (Rg.SYS_EP_RESULT 0 ≤ a ∧ a ≤ Rg.SYS_EP_RESULT 5))) ∧
  (∀ (s : State) (o : EpOp), s.ep.op = some o → o.msg = 5 → o.target = none → o.mail = false → s.req 0x0A 1 = 1 →
    s.nameCheck o.district (s.req 0x08 2) true = Code.DONE → (s.epAt (s.req 0x08 2)).planPin = false →
    (s.epAt (s.req 0x08 2)).rtPin = false → (s.epAt (s.req 0x08 2)).slot.isSome = true → 32 < s.unpinnedSlots →
    s.rtPins o.district < s.rd Fd.SYS_EP_CFG_RT_PIN_MAX →
    ∃ t, exec .pinResident s = .next t ∧ (t.epAt (s.req 0x08 2)).rtPin = true ∧ t.rd Fd.SYS_EP_CMD_RESULT = Code.DONE ∧
      t.rd Fd.SYS_EP_CFG_RT_PINNED = s.rd Fd.SYS_EP_CFG_RT_PINNED + 1 ∧ t.ep.inflight = s.ep.inflight ∧
      Frame s t [.ep, .regs] (fun a => a = Rg.SYS_EP_CMD ∨ a = Rg.SYS_EP_CFG ∨ (Rg.SYS_EP_RESULT 0 ≤ a ∧ a ≤ Rg.SYS_EP_RESULT 5))) ∧
  (∀ (s : State) (d : Fin 64), s.mailReady d.val = true → s.mailStands d.val = true → s.poisoned (s.mailAddr d.val) 64 = false →
    s.mailCheck d.val (s.le (s.mailAddr d.val) 2) (s.byte (s.mailAddr d.val + 2)).toNat (s.bytes (s.mailAddr d.val) 64) ≠ Code.DONE →
    ∃ t, exec (.mailboxRequest d) s = .next t ∧ t.le (s.mboxPage d.val + 2) 2 = idxNext (s.le (s.mboxPage d.val + 2) 2) ∧
      t.le (s.mboxPage d.val + 4) 2 = idxNext (s.le (s.mboxPage d.val + 4) 2) ∧
      t.le (s.mboxPage d.val + 0x900 + 32 * (s.le (s.mboxPage d.val + 4) 2 % 32) + 4) 2 =
        s.mailCheck d.val (s.le (s.mailAddr d.val) 2) (s.byte (s.mailAddr d.val + 2)).toNat (s.bytes (s.mailAddr d.val) 64) ∧
      t.ep.op = none ∧ t.ep.eps = s.ep.eps ∧
      Frame s t [.ep, .mem, .wg, .ic, .regs] (fun a => a = Rg.WG_EVENT 1 ∨ a = Rg.WG_EVENT_SAT)) ∧
  (∀ (s : State) (d : Fin 64), s.mailReady d.val = true → s.mailStands d.val = true → s.poisoned (s.mailAddr d.val) 64 = false →
    s.mailCheck d.val (s.le (s.mailAddr d.val) 2) (s.byte (s.mailAddr d.val + 2)).toNat (s.bytes (s.mailAddr d.val) 64) = Code.DONE →
    (s.byte (s.mailAddr d.val + 2)).toNat ≠ 1 →
    ∃ t, exec (.mailboxRequest d) s = .next t ∧ t.rd Fd.SYS_EP_CMD_DISTRICT = d.val ∧
      (t.reg (Rg.SYS_EP_STAGE 0)).toNat = s.le (s.mailAddr d.val + 8) 4 ∧ (t.reg (Rg.SYS_EP_STAGE 13)).toNat = s.le (s.mailAddr d.val + 60) 4 ∧
      ((s.byte (s.mailAddr d.val + 2)).toNat = 4 →
        t.le (s.mboxPage d.val + 2) 2 = idxNext (s.le (s.mboxPage d.val + 2) 2) ∧
        t.le (s.mboxPage d.val + 4) 2 = idxNext (s.le (s.mboxPage d.val + 4) 2) ∧ t.ep.eps = s.ep.eps)) ∧
  (∀ (s : State) (d : Fin 64), s.dev = .active → d.val ≠ 0 → (s.districtItem d.val).isSome = true → s.inCall d.val = false →
    placeOf (s.mboxPage d.val) = .dram → s.ep.eps.all (fun p => p.2.district != d.val || !p.2.live || (!p.2.dying && p.2.outstanding == 0)) = true →
    s.ep.inflight.all (fun c => (s.epAt c.ep).district != d.val) = true →
    ∃ t, exec (.districtRestart d) s = .next t ∧ t.ep.vmRun.contains d.val = true ∧ t.ep.restart.contains d.val = false ∧ t.epsOf d.val = [] ∧
      t.le (t.mboxPage d.val + 8) 4 = 0x00010000 ∧ t.le (t.mboxPage d.val) 8 = 0 ∧ t.plan = s.plan ∧ t.otp = s.otp ∧ t.dev = s.dev) ∧
  (∀ (s : State) (d : Fin 64), s.dev = .active → d.val ≠ 0 → (s.districtItem d.val).isSome = true → s.inCall d.val = true →
    ∃ t, exec (.districtRestart d) s = .next t ∧ t.wg.restartWait.contains d.val = true ∧ t.wg.harts = s.wg.harts ∧
      Frame s t [.wg] (fun _ => False)) ∧
  (∀ (s : State) (who : Who) (high : Bool) (w : Word),
    s.passesChecks (s.issuer who) 4 (if high then Rg.SYS_EP0_RINGS_HI else Rg.SYS_EP0_RINGS_LO) w false false = true → s.inflight 0 = [] →
    (s.epAt 0).outstanding = 0 →
    ∃ t, exec (.ep0RingsWrite who high w) s = .next t ∧
      (t.epAt 0).sqBase = t.rd Fd.SYS_EP0_RINGS_LO_BASE * 0x2000 + 2 ^ 32 * t.rd Fd.SYS_EP0_RINGS_HI_BASE_HI ∧
      (t.epAt 0).cqBase = (t.epAt 0).sqBase + 0x1000 ∧ (t.epAt 0).sqHead = 0 ∧ (t.epAt 0).sqTail = 0 ∧ (t.epAt 0).cqHead = 0 ∧
      (t.epAt 0).cqTail = 0 ∧ (t.epAt 0).notice = false ∧ t.ep.inflight = s.ep.inflight ∧ t.resp = .done ∧
      Frame s t [.ep, .ic, .regs, .resp] (fun a => a = (if high then Rg.SYS_EP0_RINGS_HI else Rg.SYS_EP0_RINGS_LO)))

/-- Camera `c` is in fault for the cause of bit `b`, with `code`; its run of good frames is over (R202, R204). -/
abbrev CamFaulted (t : State) (c b code : Nat) : Prop :=
  t.flag (bitOf (Rg.SF_CAM_FAULT c) b) = true ∧ t.flag (Fd.SF_CAM_FAULT_FAULT c) = true ∧ t.rd (Fd.SF_CAM_FAULT_CODE c) = code ∧
  t.rd (Fd.SF_CAM_FAULT_GOOD c) = 0
/-- The camera is powered and runs. -/
abbrev CamRuns (s : State) (c : Nat) : Prop := s.mirrorOn = true ∧ s.flag (Fd.SF_CAM_CTRL_RUN c) = true
/-- The other cameras, the displays, the views and the planes stay. -/
abbrev OnlyCam (s t : State) (c : Nat) : Prop :=
  (∀ k : Fin 4, k.val ≠ c → t.camera k.val = s.camera k.val) ∧ t.sf.view = s.sf.view ∧ t.sf.plane = s.sf.plane ∧ t.sf.dsp = s.sf.dsp
/-- `a` is the status or the fault register of camera `c`. -/
abbrev CamReg (c a : Nat) : Prop := a = Rg.SF_CAM_STATUS c ∨ a = Rg.SF_CAM_FAULT c
/-- A line of the open frame `p` comes as R175 expects it: its length, and its time to 10 µs. -/
abbrev LineInTime (s : State) (c : Nat) (px : List Byte) (ns : BitVec 32) (p : TrigFrame) : Prop :=
  s.camLive c = true ∧ (s.camera c).open_ = true ∧ (s.camera c).rx = some p ∧ (s.camera c).line < s.camHeight c ∧
  px.length = 2 * s.camWidth c ∧ p.at_ + s.lineNs c (s.camera c).line ≤ (s.pass ns.toNat).vt + 10000 ∧
  (s.pass ns.toNat).vt ≤ p.at_ + s.lineNs c (s.camera c).line + 10000
/-- The line is in ring slot N mod 128 with its frame, number, time and CRC error, no other slot changes, and N counts it (R178). -/
abbrev LineKept (s t : State) (c : Fin 4) (px : List Byte) (crc : Bool) : Prop :=
  t.ring c.val ((s.camera c.val).n % 128) = ⟨(s.camera c.val).rx.map (·.j), (s.camera c.val).line, t.vt, crc, px⟩ ∧
  (t.camera c.val).n = (s.camera c.val).n + 1 ∧ (t.camera c.val).line = (s.camera c.val).line + 1 ∧
  (∀ k : Fin 128, k.val ≠ (s.camera c.val).n % 128 → t.ring c.val k.val = s.ring c.val k.val)
/-- A VIEW command has passed, and Shopfront is powered. -/
abbrev ViewReady (s : State) (e tag op i : Nat) (c : Cmd) : Prop :=
  s.passed e tag 6 op = some c ∧ s.boundView c.ep = i ∧ s.mirrorOn = true
/-- The outcome of frame `k` of display `d` has been processed: shown, and counted in the runs (R209, R210). -/
abbrev Outcome (s t : State) (d k out : Nat) : Prop :=
  t.rd (Fd.SF_ECHO_FRAME d) = k % 65536 ∧ t.rd (Fd.SF_ECHO_OUTCOME d) = out ∧ (t.dsp d).waits = [] ∧
  t.rd (Fd.SF_INTEG_STATE_GOOD d) = (if out = 1 then min 255 (s.rd (Fd.SF_INTEG_STATE_GOOD d) + 1) else 0) ∧
  t.rd (Fd.SF_INTEG_STATE_BAD d) = (if out = 1 then 0 else min 15 (s.rd (Fd.SF_INTEG_STATE_BAD d) + 1))
/-- `a` is the echo, the state or the counter `k` of display `d`, or the saturation register. -/
abbrev EchoReg (d k a : Nat) : Prop :=
  a = Rg.SF_ECHO d ∨ a = Rg.SF_INTEG_STATE d ∨ a = Rg.SF_INTEG_EVENT k ∨ a = Rg.SF_INTEG_SAT

/-- A running camera is triggered at the next grid point, the first after RUN or that of the next frame number, and the frame waits for its
start. A clean frame start opens the oldest of these; a number that stalled or lies ahead of the frame's own, an uncorrectable header and a
start without a triggered frame are camera faults. Every line that comes into a free ring slot goes into slot N mod 128 with its time and is
counted; the frame end packet after the last line ends a good frame, with lock and GOOD one on. A line of the wrong length or time, a frame end
before the last line, no frame end in time and a triggered frame that never starts are losses of lock; a payload CRC error in a second frame
in a row is CSI2_BAD_LINES, a line's uncorrectable header CSI2_ECC. A link that goes down while RUN is 1 is CAM_LINK; a link that comes up
is shown. No other camera, display or view changes.
Where the spec's words end it goes by the model's choices of assumptions 4, 103, 104 and 105.
Completing with their own effect: cameraTrigger, csi2FrameStart, cameraLineReceived, cameraLockTimeout, cameraLinkDown, cameraLinkUp. -/
def Obligations.CameraFrames : Prop :=
  (∀ (s : State) (c : Fin 4) (p : TrigFrame), CamRuns s c.val → (s.camera c.val).trig = some p → (s.camera c.val).bound = none →
    ∃ t, exec (.cameraTrigger c) s = .next t ∧ (t.camera c.val).trig = some ⟨p.j + 1, s.gridC c.val (p.j + 1)⟩ ∧
      s.gridC c.val (p.j + 1) ≤ t.vt ∧ (t.camera c.val).due = (s.camera c.val).due ++ [⟨p.j + 1, s.gridC c.val (p.j + 1)⟩] ∧
      (t.camera c.val).jRun = (s.camera c.val).jRun ∧ t.rd (Fd.SF_CAM_STATUS_FRAME c.val) = (p.j + 1) % 65536 ∧ OnlyCam s t c.val ∧
      Frame s t [.sf, .regs, .now, .vt, .ptp] (fun a => a = Rg.SF_CAM_STATUS c.val)) ∧
  (∀ (s : State) (c : Fin 4), CamRuns s c.val → (s.camera c.val).trig = none → (s.camera c.val).bound = none → 0 < s.camFps c.val →
    s.camFps c.val ≤ 60 →
    ∃ t, exec (.cameraTrigger c) s = .next t ∧ (t.camera c.val).trig = some ⟨(t.camera c.val).jRun, s.gridC c.val (t.camera c.val).jRun⟩ ∧
      s.vt ≤ s.gridC c.val (t.camera c.val).jRun ∧ (0 < (t.camera c.val).jRun → s.gridC c.val ((t.camera c.val).jRun - 1) < s.vt) ∧ OnlyCam s t c.val ∧
      Frame s t [.sf, .regs, .now, .vt, .ptp] (fun a => a = Rg.SF_CAM_STATUS c.val)) ∧
  (∀ (s : State) (c : Fin 4) (f : BitVec 16) (p : TrigFrame) (rest : List TrigFrame), s.camLive c.val = true →
    (s.camera c.val).open_ = false → (s.camera c.val).due = p :: rest → (s.camera c.val).faulty p.j f.toNat = false →
    ∃ t, exec (.csi2FrameStart c f false) s = .next t ∧ (t.camera c.val).rx = some p ∧ (t.camera c.val).open_ = true ∧
      (t.camera c.val).due = rest ∧ (t.camera c.val).line = 0 ∧ (t.camera c.val).num = some f.toNat ∧ (t.camera c.val).lost = false ∧
      (t.camera c.val).src = (s.camera c.val).source p.j f.toNat ∧ OnlyCam s t c.val ∧ Frame s t [.sf] (fun _ => False)) ∧
  (∀ (s : State) (c : Fin 4) (f : BitVec 16) (p : TrigFrame) (rest : List TrigFrame), s.camLive c.val = true →
    (s.camera c.val).open_ = false → (s.camera c.val).due = p :: rest →
    (s.camera c.val).num = some f.toNat ∨ later f.toNat (idxSub p.j (s.camera c.val).jRun) = true →
    ∃ t, exec (.csi2FrameStart c f false) s = .next t ∧ CamFaulted t c.val 4 Code.FRAME_NUMBER ∧ (t.camera c.val).open_ = true ∧
      OnlyCam s t c.val ∧ Frame s t [.sf, .regs, .ic] (fun a => a = Rg.SF_CAM_FAULT c.val)) ∧
  (∀ (s : State) (c : Fin 4) (f : BitVec 16), s.camLive c.val = true →
    ∃ t, exec (.csi2FrameStart c f true) s = .next t ∧ CamFaulted t c.val 2 Code.CSI2_ECC ∧ (t.camera c.val).open_ = (s.camera c.val).open_ ∧
      OnlyCam s t c.val ∧ Frame s t [.sf, .regs, .ic] (fun a => a = Rg.SF_CAM_FAULT c.val)) ∧
  (∀ (s : State) (c : Fin 4) (f : BitVec 16), s.camLive c.val = true → (s.camera c.val).open_ = false → (s.camera c.val).due = [] →
    ∃ t, exec (.csi2FrameStart c f false) s = .next t ∧ CamFaulted t c.val 1 Code.CAM_LOCK ∧ t.flag (Fd.SF_CAM_STATUS_LOCK c.val) = false ∧
      OnlyCam s t c.val ∧ Frame s t [.sf, .regs, .ic] (CamReg c.val)) ∧
  (∀ (s : State) (c : Fin 4) (px : List Byte) (ns : BitVec 32) (p : TrigFrame), LineInTime s c.val px ns p →
    s.ring c.val ((s.camera c.val).n % 128) = CamLine.none_ →
    ∃ t, exec (.cameraLineReceived c px false ⟨false, false⟩ ns) s = .next t ∧ LineKept s t c px false ∧
      (t.camera c.val).lost = (s.camera c.val).lost ∧ (t.camera c.val).open_ = true ∧ OnlyCam s t c.val ∧
      Frame s t [.sf, .now, .vt, .ptp] (fun _ => False)) ∧
  (∀ (s : State) (c : Fin 4) (px : List Byte) (ns : BitVec 32) (p : TrigFrame), LineInTime s c.val px ns p →
    (s.camera c.val).line + 1 = s.camHeight c.val → s.ring c.val ((s.camera c.val).n % 128) = CamLine.none_ →
    (s.camera c.val).lost = false → (s.camera c.val).err = false → (s.camera c.val).step = true → (s.camera c.val).pocBad = false →
    s.pocFault c.val = false →
    ∃ t, exec (.cameraLineReceived c px false ⟨false, true⟩ ns) s = .next t ∧ LineKept s t c px false ∧ (t.camera c.val).open_ = false ∧
      t.flag (Fd.SF_CAM_STATUS_LOCK c.val) = true ∧ t.rd (Fd.SF_CAM_FAULT_GOOD c.val) = min 255 (s.rd (Fd.SF_CAM_FAULT_GOOD c.val) + 1) ∧
      OnlyCam s t c.val ∧ Frame s t [.sf, .regs, .now, .vt, .ptp] (CamReg c.val)) ∧
  (∀ (s : State) (c : Fin 4) (px : List Byte) (crc : Bool) (ns : BitVec 32) (p : TrigFrame), LineInTime s c.val px ns p →
    (s.camera c.val).line + 1 < s.camHeight c.val → s.ring c.val ((s.camera c.val).n % 128) = CamLine.none_ →
    ∃ t, exec (.cameraLineReceived c px crc ⟨false, true⟩ ns) s = .next t ∧ LineKept s t c px crc ∧ CamFaulted t c.val 1 Code.CAM_LOCK ∧
      t.flag (Fd.SF_CAM_STATUS_LOCK c.val) = false ∧ (t.camera c.val).open_ = false ∧ OnlyCam s t c.val ∧
      Frame s t [.sf, .regs, .ic, .now, .vt, .ptp] (CamReg c.val)) ∧
  (∀ (s : State) (c : Fin 4) (px : List Byte) (crc : Bool) (ns : BitVec 32), s.camLive c.val = true →
    s.ring c.val ((s.camera c.val).n % 128) = CamLine.none_ → (s.pass ns.toNat).lineOk c.val px = false →
    ∃ t, exec (.cameraLineReceived c px crc ⟨false, false⟩ ns) s = .next t ∧ LineKept s t c px crc ∧ CamFaulted t c.val 1 Code.CAM_LOCK ∧
      t.flag (Fd.SF_CAM_STATUS_LOCK c.val) = false ∧ (t.camera c.val).lost = true ∧ OnlyCam s t c.val ∧
      Frame s t [.sf, .regs, .ic, .now, .vt, .ptp] (CamReg c.val)) ∧
  (∀ (s : State) (c : Fin 4) (px : List Byte) (ns : BitVec 32) (p : TrigFrame), LineInTime s c.val px ns p →
    s.ring c.val ((s.camera c.val).n % 128) = CamLine.none_ → (s.camera c.val).crcPrev = true → (s.camera c.val).crc = false →
    ∃ t, exec (.cameraLineReceived c px true ⟨false, false⟩ ns) s = .next t ∧ LineKept s t c px true ∧
      CamFaulted t c.val 3 Code.CSI2_BAD_LINES ∧ (t.camera c.val).crc = true ∧ OnlyCam s t c.val ∧
      Frame s t [.sf, .regs, .ic, .now, .vt, .ptp] (fun a => a = Rg.SF_CAM_FAULT c.val)) ∧
  (∀ (s : State) (c : Fin 4) (px : List Byte) (crc fe : Bool) (ns : BitVec 32), s.camLive c.val = true →
    ∃ t, exec (.cameraLineReceived c px crc ⟨true, fe⟩ ns) s = .next t ∧ CamFaulted t c.val 2 Code.CSI2_ECC ∧
      (t.camera c.val).err = true ∧ (t.camera c.val).n = (s.camera c.val).n ∧ OnlyCam s t c.val ∧
      Frame s t [.sf, .regs, .ic, .now, .vt, .ptp] (fun a => a = Rg.SF_CAM_FAULT c.val)) ∧
  (∀ (s : State) (c : Fin 4) (p : TrigFrame), CamRuns s c.val → (s.camera c.val).open_ = true → (s.camera c.val).rx = some p →
    ∃ t, exec (.cameraLockTimeout c) s = .next t ∧ CamFaulted t c.val 1 Code.CAM_LOCK ∧ t.flag (Fd.SF_CAM_STATUS_LOCK c.val) = false ∧
      (t.camera c.val).open_ = false ∧ p.at_ + s.lineNs c.val (s.camHeight c.val - 1) + 10000 ≤ t.vt ∧ OnlyCam s t c.val ∧
      Frame s t [.sf, .regs, .ic, .now, .vt, .ptp] (CamReg c.val)) ∧
  (∀ (s : State) (c : Fin 4) (p : TrigFrame) (rest : List TrigFrame), CamRuns s c.val → (s.camera c.val).open_ = false →
    (s.camera c.val).due = p :: rest →
    ∃ t, exec (.cameraLockTimeout c) s = .next t ∧ CamFaulted t c.val 1 Code.CAM_LOCK ∧ t.flag (Fd.SF_CAM_STATUS_LOCK c.val) = false ∧
      (t.camera c.val).due = rest ∧ p.at_ + s.lineNs c.val (s.camHeight c.val - 1) + 10000 ≤ t.vt ∧ OnlyCam s t c.val ∧
      Frame s t [.sf, .regs, .ic, .now, .vt, .ptp] (CamReg c.val)) ∧
  (∀ (s : State) (c : Fin 4), s.flag (Fd.SF_CAM_STATUS_LINK c.val) = true → s.flag (Fd.SF_CAM_CTRL_RUN c.val) = true →
    ∃ t, exec (.cameraLinkDown c) s = .next t ∧ CamFaulted t c.val 0 Code.CAM_LINK ∧ t.flag (Fd.SF_CAM_STATUS_LINK c.val) = false ∧
      t.flag (Fd.SF_CAM_STATUS_LOCK c.val) = false ∧ (t.camera c.val).open_ = false ∧ OnlyCam s t c.val ∧
      Frame s t [.sf, .regs, .ic] (CamReg c.val)) ∧
  (∀ (s : State) (c : Fin 4), s.mirrorOn = true →
    ∃ t, exec (.cameraLinkUp c) s = .next t ∧ t.flag (Fd.SF_CAM_STATUS_LINK c.val) = true ∧
      t.rd (Fd.SF_CAM_STATUS_FRAME c.val) = s.rd (Fd.SF_CAM_STATUS_FRAME c.val) ∧ Frame s t [.regs] (fun a => a = Rg.SF_CAM_STATUS c.val))

/-- A write of RUN 1 that passes, for a configured camera, starts it afresh: the trigger and line counts start again, the views of the wrong
rate do not run and are recorded as RATE_MISMATCH; RUN 0 stops its views. A write of SF_CAM_I2C starts a transaction while the link is up, else
ends it at once with WRONG_STATE; its end is DONE with the data of a read, I2C_NACK, or TIMEOUT 1 ms on. SF_POC.ON switches a supply
without an outside voltage; OFF ends the count of shorts. A short to ground switches a supply that is on off, latched at the fourth short
within 60 s; 1 s later it is tried again. A short to battery switches it off until the voltage has gone, a supply latched off excepted. Below 30 mA it is an open wire and
stays on. Each of the three is a camera fault.
Where the spec's words end it goes by the model's choices of assumptions 110 and 111.
Completing with their own effect: cameraRunWrite, camI2cStart, i2cComplete, pocOnWrite, pocShort, pocRetry, pocExternal, pocExternalClear, pocOpen. -/
def Obligations.CameraSupplyAndTunnel : Prop :=
  (∀ (s : State) (who : Who) (c : Fin 4) (w : Word), s.passesChecks (s.issuer who) 4 (Rg.SF_CAM_CTRL c.val) w false false = true →
    tbit w.toNat 0 = true → (s.camItem c.val).isSome = true → s.flag (Fd.SF_CAM_CTRL_RUN c.val) = false →
    s.flag (Fd.SF_CAM_STATUS_LINK c.val) = true →
    ∃ t, exec (.cameraRunWrite who c w) s = .next t ∧ t.flag (Fd.SF_CAM_CTRL_RUN c.val) = true ∧
      t.flag (Fd.SF_CAM_STATUS_RUN c.val) = true ∧ (t.camera c.val).n = 0 ∧ (t.camera c.val).trig = none ∧ (t.camera c.val).due = [] ∧
      (t.camera c.val).open_ = false ∧ (t.camera c.val).shorts = (s.camera c.val).shorts ∧ t.resp = .done ∧
      (∀ k : Fin 4, k ≠ c → t.camera k.val = s.camera k.val) ∧
      Frame s t [.sf, .regs, .resp] (fun a => a = Rg.SF_CAM_CTRL c.val ∨ a = Rg.SF_CAM_STATUS c.val ∨ a = Rg.SF_LOAD_FAIL ∨
        ∃ i ∈ s.viewsOfCam c.val, a = Rg.SF_VIEW_STATE i)) ∧
  (∀ (s : State) (who : Who) (c : Fin 4) (w : Word) (i : Fin 8), s.passesChecks (s.issuer who) 4 (Rg.SF_CAM_CTRL c.val) w false false = true →
    tbit w.toNat 0 = true → (s.camItem c.val).isSome = true → s.flag (Fd.SF_CAM_CTRL_RUN c.val) = false → s.viewsOfCam c.val = [i.val] →
    s.flag (Fd.SF_CAM_STATUS_LINK c.val) = true → s.camFps c.val ≠ s.dspHz (i.val / 4) →
    ∃ t, exec (.cameraRunWrite who c w) s = .next t ∧ t.flag (Fd.SF_VIEW_STATE_RUN i.val) = s.flag (Fd.SF_VIEW_STATE_RUN i.val) ∧
      t.rd Fd.SF_LOAD_FAIL_CODE = Code.RATE_MISMATCH ∧ t.rd Fd.SF_LOAD_FAIL_DSP = i.val / 4 ∧ t.rd Fd.SF_LOAD_FAIL_INDEX = i.val % 4 ∧
      Frame s t [.sf, .regs, .resp] (fun a => a = Rg.SF_CAM_CTRL c.val ∨ a = Rg.SF_CAM_STATUS c.val ∨ a = Rg.SF_LOAD_FAIL)) ∧
  (∀ (s : State) (who : Who) (c : Fin 4) (w : Word), s.passesChecks (s.issuer who) 4 (Rg.SF_CAM_CTRL c.val) w false false = true →
    tbit w.toNat 0 = false → s.flag (Fd.SF_CAM_CTRL_RUN c.val) = true →
    ∃ t, exec (.cameraRunWrite who c w) s = .next t ∧ t.flag (Fd.SF_CAM_CTRL_RUN c.val) = false ∧
      t.flag (Fd.SF_CAM_STATUS_RUN c.val) = false ∧ (∀ i ∈ s.viewsOfCam c.val, t.flag (Fd.SF_VIEW_STATE_RUN i) = false) ∧
      (t.camera c.val).due = [] ∧ t.resp = .done ∧
      Frame s t [.sf, .regs, .resp] (fun a => a = Rg.SF_CAM_CTRL c.val ∨ a = Rg.SF_CAM_STATUS c.val ∨
        ∃ i ∈ s.viewsOfCam c.val, a = Rg.SF_VIEW_STATE i)) ∧
  (∀ (s : State) (who : Who) (c : Fin 4) (w : Word), s.passesChecks (s.issuer who) 4 (Rg.SF_CAM_I2C c.val) w false false = true →
    s.rd (Fd.SF_CAM_I2C_RESULT c.val) ≠ Code.BUSY →
    ∃ t, exec (.camI2cStart who c w) s = .next t ∧
      t.rd (Fd.SF_CAM_I2C_RESULT c.val) = (if s.flag (Fd.SF_CAM_STATUS_LINK c.val) then Code.BUSY else Code.WRONG_STATE) ∧
      t.rd (Fd.SF_CAM_I2C_DEV c.val) = getBits w.toNat 14 8 ∧ t.rd (Fd.SF_CAM_I2C_RD c.val) = getBits w.toNat 15 15 ∧
      (s.flag (Fd.SF_CAM_STATUS_LINK c.val) = true → (t.camera c.val).i2cAt = s.now) ∧ t.resp = .done ∧
      Frame s t [.sf, .regs, .resp] (fun a => a = Rg.SF_CAM_I2C c.val)) ∧
  (∀ (s : State) (c : Fin 4) (r : Fin 3) (data : Byte), s.rd (Fd.SF_CAM_I2C_RESULT c.val) = Code.BUSY →
    ∃ t, exec (.i2cComplete c r data) s = .next t ∧
      t.rd (Fd.SF_CAM_I2C_RESULT c.val) = (if r = 0 then Code.DONE else if r = 1 then Code.I2C_NACK else Code.TIMEOUT) ∧
      t.rd (Fd.SF_CAM_I2C_DATA c.val) =
        (if r = 0 ∧ s.flag (Fd.SF_CAM_I2C_RD c.val) = true then data.toNat else s.rd (Fd.SF_CAM_I2C_DATA c.val)) ∧
      (r = 2 → (s.camera c.val).i2cAt + 1000000 ≤ t.now) ∧
      Frame s t [.regs, .now, .vt, .ptp] (fun a => a = Rg.SF_CAM_I2C c.val)) ∧
  (∀ (s : State) (who : Who) (c : Fin 4) (w : Word), s.passesChecks (s.issuer who) 4 (Rg.SF_POC c.val) w false false = true →
    tbit w.toNat 31 = true → s.flag (Fd.SF_POC_ON c.val) = false → (s.camera c.val).ext = false →
    ∃ t, exec (.pocOnWrite who c w) s = .next t ∧ t.flag (Fd.SF_POC_ON c.val) = true ∧ t.pocState c.val = 1 ∧ t.resp = .done ∧
      Frame s t [.regs, .resp] (fun a => a = Rg.SF_POC c.val)) ∧
  (∀ (s : State) (who : Who) (c : Fin 4) (w : Word), s.passesChecks (s.issuer who) 4 (Rg.SF_POC c.val) w false false = true → tbit w.toNat 31 = false →
    (s.camera c.val).ext = false →
    ∃ t, exec (.pocOnWrite who c w) s = .next t ∧ t.flag (Fd.SF_POC_ON c.val) = false ∧ t.pocState c.val = 0 ∧
      t.rd (Fd.SF_POC_RETRIES c.val) = 0 ∧ t.rd (Fd.SF_POC_CURRENT c.val) = 0 ∧ (t.camera c.val).shorts = [] ∧ t.resp = .done ∧
      Frame s t [.sf, .regs, .resp] (fun a => a = Rg.SF_POC c.val)) ∧
  (∀ (s : State) (c : Fin 4), s.mirrorOn = true → s.pocOn c.val = true → (s.camera c.val).shorts = [] →
    ∃ t, exec (.pocShort c) s = .next t ∧ t.pocState c.val = 2 ∧ t.rd (Fd.SF_POC_RETRIES c.val) = 0 ∧ t.rd (Fd.SF_POC_CURRENT c.val) = 0 ∧
      (t.camera c.val).offAt = s.now ∧ (t.camera c.val).shorts = [s.now] ∧ CamFaulted t c.val 5 Code.POC_SHORT ∧
      Frame s t [.sf, .regs, .ic] (fun a => a = Rg.SF_POC c.val ∨ a = Rg.SF_CAM_FAULT c.val)) ∧
  (∀ (s : State) (c : Fin 4) (x y z : Nat), s.mirrorOn = true → s.pocOn c.val = true → (s.camera c.val).shorts = [x, y, z] →
    s.now ≤ x + 60000000000 →
    ∃ t, exec (.pocShort c) s = .next t ∧ t.pocState c.val = 3 ∧ (t.camera c.val).shorts = [x, y, z, s.now] ∧
      CamFaulted t c.val 5 Code.POC_SHORT ∧ Frame s t [.sf, .regs, .ic] (fun a => a = Rg.SF_POC c.val ∨ a = Rg.SF_CAM_FAULT c.val)) ∧
  (∀ (s : State) (c : Fin 4), s.pocState c.val = 2 →
    ∃ t, exec (.pocRetry c) s = .next t ∧ t.pocState c.val = 1 ∧ (s.camera c.val).offAt + 1000000000 ≤ t.now ∧
      t.rd (Fd.SF_POC_RETRIES c.val) = min 3 (s.camera c.val).shorts.length ∧
      Frame s t [.regs, .now, .vt, .ptp] (fun a => a = Rg.SF_POC c.val)) ∧
  (∀ (s : State) (c : Fin 4), s.mirrorOn = true → (s.camera c.val).ext = false →
    ∃ t, exec (.pocExternal c) s = .next t ∧ t.pocState c.val = 5 ∧ (t.camera c.val).ext = true ∧ t.rd (Fd.SF_POC_CURRENT c.val) = 0 ∧
      CamFaulted t c.val 5 Code.POC_EXTERNAL ∧ Frame s t [.sf, .regs, .ic] (fun a => a = Rg.SF_POC c.val ∨ a = Rg.SF_CAM_FAULT c.val)) ∧
  (∀ (s : State) (c : Fin 4), (s.camera c.val).ext = true → s.flag (Fd.SF_POC_ON c.val) = true →
    ∃ t, exec (.pocExternalClear c) s = .next t ∧ t.pocState c.val = (if 4 ≤ (s.camera c.val).shorts.length then 3 else 1) ∧ (t.camera c.val).ext = false ∧
      Frame s t [.sf, .regs] (fun a => a = Rg.SF_POC c.val)) ∧
  (∀ (s : State) (c : Fin 4) (ma : BitVec 10), s.mirrorOn = true → s.pocState c.val = 1 → ma.toNat < 30 →
    ∃ t, exec (.pocOpen c ma) s = .next t ∧ t.pocState c.val = 4 ∧ t.rd (Fd.SF_POC_CURRENT c.val) = ma.toNat ∧
      CamFaulted t c.val 5 Code.POC_OPEN ∧ Frame s t [.sf, .regs, .ic] (fun a => a = Rg.SF_POC c.val ∨ a = Rg.SF_CAM_FAULT c.val)) ∧
  (∀ (s : State) (c : Fin 4) (ma : BitVec 10), s.mirrorOn = true → s.pocOn c.val = true → 30 ≤ ma.toNat →
    ∃ t, exec (.pocOpen c ma) s = .next t ∧ t.pocState c.val = 1 ∧ t.rd (Fd.SF_POC_CURRENT c.val) = ma.toNat ∧
      Frame s t [.regs] (fun a => a = Rg.SF_POC c.val))

/-- A display frame starts at its grid point with an empty CRC; the decided display state and the accepted forces take force, and the pending
MAP_SWAP and PAN of its views commit: the map becomes active, the target is set. Slice k is computed from D(k), and what was computed before
goes on the link and into the CRC. The echo of the sent frame that waits settles it: MATCH where CRC and flags agree, else MISMATCH, counted; no
echo by S(k + 2) is MISSING, counted. BAD at CRC_MARK decides MARK. CLEAR_LATCH releases a latched BLANK while BAD is 0. A write of
SF_HEARTBEAT with the next SEQ is accepted, and an absence ends with the next frame boundary; another SEQ changes no field while the monitor is
present; 500 ms without one is the absence, shown for both displays. LINK follows the display link.
Where the spec's words end it goes by the model's choices of assumptions 21, 103, 106, 107, 109 and 115.
Completing with their own effect: displayFrameStart, sliceCompute, displayEchoReceived, echoMissing, clearLatch, monitorHeartbeat, monitorAbsent, displayLinkUp, displayLinkDown. -/
def Obligations.DisplayIntegrity : Prop :=
  (∀ (s : State) (d : Fin 2) (k : Nat), s.mirrorOn = true → (s.dspItem d.val).isSome = true → (s.dsp d.val).k = some k →
    (s.dsp d.val).bound = none →
    ∃ t, exec (.displayFrameStart d) s = .next t ∧ (t.dsp d.val).k = some (k + 1) ∧ (t.dsp d.val).start = s.gridS d.val (k + 1) ∧
      s.gridS d.val (k + 1) ≤ t.vt ∧ (t.dsp d.val).crc = 0xFFFFFFFF ∧ (t.dsp d.val).slice = none ∧
      t.rd (Fd.SF_DSP_STATUS_FRAME d.val) = (k + 1) % 65536 ∧ t.flag (Fd.SF_DSP_STATUS_RUN d.val) = true ∧
      t.rd (Fd.SF_INTEG_STATE_DSTATE d.val) = (s.dsp d.val).dec % 4 ∧
      t.flag (Fd.SF_INTEG_STATE_FORCED d.val) = (tbit (s.rd Fd.SF_HEARTBEAT_FORCE_MARK) d.val || tbit (s.rd Fd.SF_HEARTBEAT_FORCE_BLANK) d.val) ∧
      t.flag Fd.SF_MON_STATUS_ABSENT = (s.flag Fd.SF_MON_STATUS_ABSENT && !s.sf.monBack) ∧ t.dsp (1 - d.val) = s.dsp (1 - d.val) ∧
      ((∀ p : Fin 4, s.ovlBase (4 * d.val + p.val) = 0 ∧ (s.plane (4 * d.val + p.val)).req = none) →
        Frame s t [.sf, .regs, .now, .vt, .ptp, .ic, .ep, .mem, .wg] (fun a => 0x200A0000 ≤ a ∧ a < 0x200B0000))) ∧
  (∀ (s : State) (d : Fin 2) (i : Nat) (r : SwapReq), s.mirrorOn = true → (s.dspItem d.val).isSome = true → i ∈ s.viewsOf d.val →
    (s.view i).swap = some r → r.ready = true →
    ∃ t, exec (.displayFrameStart d) s = .next t ∧ (t.view i).map = r.img ∧ (t.view i).swap = none ∧
      t.flag (Fd.SF_VIEW_STATE_SWAP_PEND i) = false) ∧
  (∀ (s : State) (d : Fin 2) (i : Nat) (p : PanReq) (k : Nat), s.mirrorOn = true → (s.dspItem d.val).isSome = true → i ∈ s.viewsOf d.val →
    (s.view i).pan = some p → (s.view i).target = none → (s.dsp d.val).k = some k → (s.dsp d.val).bound = none →
    s.gridS d.val (k + 1) ≤ p.time + 100000000 →
    ∃ t, exec (.displayFrameStart d) s = .next t ∧ (t.view i).target = some ⟨p.angle, p.time⟩ ∧ (t.view i).pan = none ∧
      t.rd (Fd.SF_VIEW_STATE_ANGLE i) = unsignedOf 16 (panStep (s.theta i) p.angle (itemN (s.panItem i) 2))) ∧
  (∀ (s : State) (d : Fin 2) (late : BitVec 4) (room : BitVec 8) (f k : Nat), s.mirrorOn = true → (s.dsp d.val).k = some f →
    (s.dsp d.val).slice = some k → k + 1 < s.dspHeight d.val / 16 → (s.dsp d.val).waits = [] → s.viewsOf d.val = [] →
    ∃ t, exec (.sliceCompute d late room) s = .next t ∧ (t.dsp d.val).slice = some (k + 1) ∧
      (t.dsp d.val).out = (s.dsp d.val).rows ∧ (t.dsp d.val).crc = (s.dsp d.val).rows.foldl crcByte (s.dsp d.val).crc ∧
      (t.dsp d.val).start = (s.dsp d.val).start ∧ (s.dsp d.val).start + clkNs ((k + 1) * (16 * s.lp d.val)) ≤ t.vt ∧
      (t.dsp d.val).rows = t.composeSlice d.val (k + 1) ∧ t.dsp (1 - d.val) = s.dsp (1 - d.val) ∧
      ((∀ p : Fin 4, (s.plane (4 * d.val + p.val)).hdr = []) →
        Frame s t [.sf, .regs, .now, .vt, .ptp, .ic] (fun a => 0x200A0000 ≤ a ∧ a < 0x200B0000))) ∧
  (∀ (s : State) (d : Fin 2) (k : BitVec 32) (crc : BitVec 32) (flags : BitVec 16) (ns : BitVec 32) (own : Nat), s.mirrorOn = true →
    s.flag (Fd.SF_DSP_STATUS_LINK d.val) = true → (s.dsp d.val).k = some (k.toNat + 1) → (s.dsp d.val).waits = [⟨k.toNat, own, 0⟩] →
    (s.pass ns.toNat).vt < s.gridS d.val (k.toNat + 2) → flags.toNat ≤ 1 → k.toNat + 1 < 2 ^ 32 →
    ∃ t, exec (.displayEchoReceived d k crc flags 0 ns) s = .next t ∧
      Outcome s t d.val k.toNat (if crc.toNat = own ∧ flags = 0 then 1 else 2) ∧
      (¬ (crc.toNat = own ∧ flags = 0) → Counted s t (Rg.SF_INTEG_EVENT (4 * d.val))) ∧
      Frame s t [.sf, .regs, .now, .vt, .ptp, .ic] (EchoReg d.val (4 * d.val))) ∧
  (∀ (s : State) (d : Fin 2) (k own : Nat), s.mirrorOn = true → (s.dsp d.val).waits = [⟨k, own, 0⟩] →
    ∃ t, exec (.echoMissing d) s = .next t ∧ Outcome s t d.val k 3 ∧ s.gridS d.val (k + 2) ≤ t.vt ∧
      Counted s t (Rg.SF_INTEG_EVENT (4 * d.val + 1)) ∧
      ((s.dsp d.val).dec = 0 → s.rd (Fd.SF_INTEG_CFG_CRC_BLANK d.val) = 0 → s.rd (Fd.SF_INTEG_CFG_CRC_MARK d.val) ≤ t.rd (Fd.SF_INTEG_STATE_BAD d.val) →
        (t.dsp d.val).dec = 1) ∧
      Frame s t [.sf, .regs, .now, .vt, .ptp, .ic] (EchoReg d.val (4 * d.val + 1))) ∧
  (∀ (s : State) (who : Who) (d : Fin 2), s.passesChecks (s.issuer who) 4 (Rg.SF_INTEG_STATE d.val) 0x80000000#32 false false = true →
    (s.dsp d.val).dec = 3 → s.rd (Fd.SF_INTEG_STATE_BAD d.val) = 0 →
    ∃ t, exec (.clearLatch who d) s = .next t ∧ (t.dsp d.val).dec = 0 ∧ t.resp = .done ∧
      t.rd (Fd.SF_INTEG_STATE_DSTATE d.val) = s.rd (Fd.SF_INTEG_STATE_DSTATE d.val) ∧
      Frame s t [.sf, .regs, .resp] (fun a => a = Rg.SF_INTEG_STATE d.val)) ∧
  (∀ (s : State) (who : Who) (w : Word), s.passesChecks (s.issuer who) 4 Rg.SF_HEARTBEAT w false false = true →
    getBits w.toNat 31 16 = (s.rd Fd.SF_HEARTBEAT_SEQ + 1) % 65536 →
    ∃ t, exec (.monitorHeartbeat who w) s = .next t ∧ t.rd Fd.SF_HEARTBEAT_SEQ = getBits w.toNat 31 16 ∧
      t.rd Fd.SF_HEARTBEAT_FORCE_MARK = getBits w.toNat 1 0 ∧ t.rd Fd.SF_HEARTBEAT_FORCE_BLANK = getBits w.toNat 3 2 ∧
      t.sf.monBack = s.flag Fd.SF_MON_STATUS_ABSENT ∧ t.sf.hbAt = s.now ∧ t.sf.hbAny = true ∧ t.resp = .done ∧
      Frame s t [.sf, .regs, .resp] (fun a => a = Rg.SF_HEARTBEAT)) ∧
  (∀ (s : State) (d e : Fin 2), s.mirrorOn = true → (s.dspItem d.val).isSome = true → s.sf.monBack = true →
    ∃ t, exec (.displayFrameStart d) s = .next t ∧ t.flag Fd.SF_MON_STATUS_ABSENT = false ∧
      t.flag (Fd.SF_INTEG_STATE_MON_ABSENT e.val) = false ∧ t.sf.monBack = false) ∧
  (∀ (s : State) (who : Who) (w : Word), s.passesChecks (s.issuer who) 4 Rg.SF_HEARTBEAT w false false = true → s.sf.hbAny = true →
    s.flag Fd.SF_MON_STATUS_ABSENT = false → getBits w.toNat 31 16 ≠ (s.rd Fd.SF_HEARTBEAT_SEQ + 1) % 65536 →
    ∃ t, exec (.monitorHeartbeat who w) s = .next t ∧ t.reg Rg.SF_HEARTBEAT = s.reg Rg.SF_HEARTBEAT ∧ t.sf = s.sf ∧
      t.rd (Fd.LAST_REJECT_CODE 10) = Code.OUT_OF_RANGE ∧ t.mem = s.mem ∧ t.ep = s.ep) ∧
  (∀ (s : State), s.mirrorOn = true →
    ∃ t, exec .monitorAbsent s = .next t ∧ t.flag Fd.SF_MON_STATUS_ABSENT = true ∧ s.sf.hbAt + 500000000 ≤ t.now ∧
      (∀ d : Fin 2, t.flag (Fd.SF_INTEG_STATE_MON_ABSENT d.val) = true) ∧
      Frame s t [.sf, .regs, .now, .vt, .ptp, .ic] (fun a => a = Rg.SF_MON_STATUS ∨ a = Rg.SF_INTEG_STATE 0 ∨ a = Rg.SF_INTEG_STATE 1)) ∧
  (∀ (s : State) (d : Fin 2), s.mirrorOn = true →
    ∃ t, exec (.displayLinkUp d) s = .next t ∧ t.flag (Fd.SF_DSP_STATUS_LINK d.val) = true ∧
      t.rd (Fd.SF_DSP_STATUS_FRAME d.val) = s.rd (Fd.SF_DSP_STATUS_FRAME d.val) ∧ Frame s t [.regs] (fun a => a = Rg.SF_DSP_STATUS d.val)) ∧
  (∀ (s : State) (d : Fin 2), s.mirrorOn = true →
    ∃ t, exec (.displayLinkDown d) s = .next t ∧ t.flag (Fd.SF_DSP_STATUS_LINK d.val) = false ∧
      t.rd (Fd.SF_DSP_STATUS_FRAME d.val) = s.rd (Fd.SF_DSP_STATUS_FRAME d.val) ∧ Frame s t [.regs] (fun a => a = Rg.SF_DSP_STATUS d.val))

/-- On a powered Shopfront: PAN waits with its angle clipped to the PAN item, counted where it clips; without an item it records WRONG_STATE.
MAP_SWAP on a view whose camera runs waits for its map, with SWAP_PEND, and records BUSY on a second one; a map fetched without error
that passes its checks becomes pending, one that fails records its code and leaves the active map. OVL_SET of address 0 and TAP wait for the frame boundary. A write
of SF_OVL_BASE_LO makes its address pending, with the upper half last written, and the register keeps the address in force; SF_TAP_CFG sets HANDLE and PCP and
makes ON pending. No active map, overlay or tap changes.
Where the spec's words end it goes by the model's choices of assumptions 102, 108, 113 and 114.
Completing with their own effect: pan, mapSwap, mapSwapFetched, ovlSet, tap, ovlBaseWrite, tapCfgWrite. -/
def Obligations.ViewCommands : Prop :=
  (∀ (s : State) (e : Fin 4096) (tag : BitVec 16) (i : Nat) (c : Cmd), ViewReady s e.val tag.toNat 1 i c → (s.panItem i).isSome = true →
    (s.view i).pan = none → i < 8 →
    ∃ t, exec (.pan e tag) s = .next t ∧ (t.view i).pan = some ⟨⟨c.ep, c.tag⟩, max (s.panBound i 3) (min (s.panBound i 4) (signed 16 (c.f 0x10 2))),
        c.f 0x18 8, decide (max (s.panBound i 3) (min (s.panBound i 4) (signed 16 (c.f 0x10 2))) ≠ signed 16 (c.f 0x10 2))⟩ ∧
      (max (s.panBound i 3) (min (s.panBound i 4) (signed 16 (c.f 0x10 2))) ≠ signed 16 (c.f 0x10 2) → Counted s t (Rg.SF_VIEW_EVENT i 2)) ∧
      Waits s t c ∧ (t.view i).map = (s.view i).map ∧ (t.view i).target = (s.view i).target ∧
      Frame s t [.ep, .sf, .regs, .ic] (fun a => a = Rg.SF_VIEW_EVENT i 2 ∨ a = Rg.SF_EVENT_SAT)) ∧
  (∀ (s : State) (e : Fin 4096) (tag : BitVec 16) (i : Nat) (c : Cmd), ViewReady s e.val tag.toNat 1 i c → s.panItem i = none →
    ∃ t, exec (.pan e tag) s = .next t ∧ Recorded s t c Code.WRONG_STATE 0 s.vt c.lateSeen ∧ OnlyRecord s t c ∧
      Frame s t [.ep, .mem, .wg, .ic] (fun _ => False)) ∧
  (∀ (s : State) (e : Fin 4096) (tag : BitVec 16) (i : Nat) (c : Cmd), ViewReady s e.val tag.toNat 2 i c →
    s.flag (Fd.SF_CAM_CTRL_RUN (s.viewCam i)) = true → (s.view i).swap = none →
    ∃ t, exec (.mapSwap e tag) s = .next t ∧ (t.view i).swap = some ⟨⟨c.ep, c.tag⟩, c.f 0x10 8, c.f 0x18 4, false, []⟩ ∧
      (t.view i).map = (s.view i).map ∧ t.flag (Fd.SF_VIEW_STATE_SWAP_PEND i) = true ∧ Waits s t c ∧
      Frame s t [.ep, .sf, .regs] (fun a => a = Rg.SF_VIEW_STATE i)) ∧
  (∀ (s : State) (e : Fin 4096) (tag : BitVec 16) (i : Nat) (c : Cmd), ViewReady s e.val tag.toNat 2 i c →
    s.flag (Fd.SF_CAM_CTRL_RUN (s.viewCam i)) = true → (s.view i).swap ≠ none →
    ∃ t, exec (.mapSwap e tag) s = .next t ∧ Recorded s t c Code.BUSY 0 s.vt c.lateSeen ∧ OnlyRecord s t c ∧
      Frame s t [.ep, .mem, .wg, .ic] (fun _ => False)) ∧
  (∀ (s : State) (d : Fin 2) (v : Fin 4) (r : SwapReq), s.mirrorOn = true → (s.view (4 * d.val + v.val)).swap = some r → r.ready = false →
    r.addr ≠ 0 → s.shopFetch r.addr r.len = (s, true) → s.mapCheck (4 * d.val + v.val) (s.bytes r.addr r.len) = none →
    ∃ t, exec (.mapSwapFetched d v) s = .next t ∧
      (t.view (4 * d.val + v.val)).swap = some { r with ready := true, img := s.bytes r.addr r.len } ∧
      (t.view (4 * d.val + v.val)).map = (s.view (4 * d.val + v.val)).map ∧ Frame s t [.sf] (fun _ => False)) ∧
  (∀ (s : State) (d : Fin 2) (v : Fin 4) (r : SwapReq) (c : Cmd) (code slice : Nat), s.mirrorOn = true →
    (s.view (4 * d.val + v.val)).swap = some r → r.ready = false → r.addr ≠ 0 → s.shopFetch r.addr r.len = (s, true) →
    s.mapCheck (4 * d.val + v.val) (s.bytes r.addr r.len) = some (code, slice) → s.cmdOf r.from_.ep r.from_.tag = some c →
    ∃ t, exec (.mapSwapFetched d v) s = .next t ∧ (t.view (4 * d.val + v.val)).swap = none ∧
      (t.view (4 * d.val + v.val)).map = (s.view (4 * d.val + v.val)).map ∧ t.flag (Fd.SF_VIEW_STATE_SWAP_PEND (4 * d.val + v.val)) = false ∧
      t.rd Fd.SF_LOAD_FAIL_CODE = code ∧ Recorded s t c code slice s.vt false ∧ OnlyRecord s t c ∧
      Frame s t [.ep, .mem, .wg, .ic, .sf, .regs] (fun a => a = Rg.SF_LOAD_FAIL ∨ a = Rg.SF_VIEW_STATE (4 * d.val + v.val))) ∧
  (∀ (s : State) (e : Fin 4096) (tag : BitVec 16) (i : Nat) (c : Cmd), ViewReady s e.val tag.toNat 3 i c → c.f 0x10 8 = 0 →
    (s.plane i).req = none →
    ∃ t, exec (.ovlSet e tag) s = .next t ∧ (t.plane i).req = some ⟨some ⟨c.ep, c.tag⟩, 0⟩ ∧ (t.plane i).hdr = (s.plane i).hdr ∧
      Waits s t c ∧ Frame s t [.ep, .sf] (fun _ => False)) ∧
  (∀ (s : State) (e : Fin 4096) (tag : BitVec 16) (i : Nat) (c : Cmd), ViewReady s e.val tag.toNat 4 i c → (s.view i).tap = none →
    ∃ t, exec (.tap e tag) s = .next t ∧ (t.view i).tap = some ⟨some ⟨c.ep, c.tag⟩, tbit (c.f 0x10 1) 0⟩ ∧ Waits s t c ∧
      Frame s t [.ep, .sf] (fun _ => False)) ∧
  (∀ (s : State) (who : Who) (j : Fin 8) (w : Word), s.passesChecks (s.issuer who) 4 (Rg.SF_OVL_BASE_LO j.val) w false false = true →
    (s.plane j.val).req = none →
    ∃ t, exec (.ovlBaseWrite who j w) s = .next t ∧ t.reg (Rg.SF_OVL_BASE_LO j.val) = s.reg (Rg.SF_OVL_BASE_LO j.val) ∧
      (t.plane j.val).req = some ⟨none, w.toNat + 2 ^ 32 * (s.plane j.val).hi⟩ ∧ (t.plane j.val).hdr = (s.plane j.val).hdr ∧
      t.resp = .done ∧ Frame s t [.sf, .regs, .resp] (fun _ => False)) ∧
  (∀ (s : State) (who : Who) (i : Fin 8) (w : Word),
    s.passesChecks (s.issuer who) 4 (Rg.SF_TAP_CFG i.val) w false
      (w.toNat % 65536 != s.rd (Fd.SF_TAP_CFG_HANDLE i.val) && (s.item 0x0901 (w.toNat % 65536)).isNone) = true →
    (s.view i.val).tap = none → s.flag (Fd.SF_TAP_CFG_ON i.val) = false ∨ w.toNat % 65536 = s.rd (Fd.SF_TAP_CFG_HANDLE i.val) →
    ∃ t, exec (.tapCfgWrite who i w) s = .next t ∧ (t.view i.val).tap = some ⟨none, tbit w.toNat 31⟩ ∧
      t.flag (Fd.SF_TAP_CFG_ON i.val) = s.flag (Fd.SF_TAP_CFG_ON i.val) ∧ t.rd (Fd.SF_TAP_CFG_HANDLE i.val) = w.toNat % 65536 ∧
      t.rd (Fd.SF_TAP_CFG_PCP i.val) = getBits w.toNat 18 16 ∧ t.resp = .done ∧
      Frame s t [.sf, .regs, .resp] (fun a => a = Rg.SF_TAP_CFG i.val))

/-- Kerbside is powered, and an untimed PWR command of opcode `op` for channel `n` has reached it. -/
abbrev KerbReady (s : State) (e tag op n : Nat) (c : Cmd) : Prop :=
  s.passed e tag 2 op = some c ∧ s.kb.up = true ∧ c.timed = false ∧ s.boundChan c.ep = n ∧ n < 52 ∧ n + s.gangSize n ≤ 52
/-- `a` is a status, diagnostic, record or event register of the gang led by `n`. -/
abbrev OfChan (s : State) (n a : Nat) : Prop :=
  (∃ m ∈ s.members n, a = Rg.PD_CH_STATUS m ∨ a = Rg.PD_DIAG_STATUS m) ∨ a = Rg.PD_CH_STATUS n ∨ a = Rg.PD_DIAG_STATUS n ∨
  a = Rg.PD_FAULT_REC n ∨ a = Rg.PD_FAULT_TIME_LO n ∨ a = Rg.PD_FAULT_TIME_HI n ∨ a = Rg.PD_CH_SAT n ∨ (Rg.PD_CH_EVENT n 0 ≤ a ∧ a ≤ Rg.PD_CH_EVENT n 3)
/-- The output of the gang led by `n` is off, and its trip is judged as R231 and R222 say: a retry where one is left, else a latch. -/
abbrev Tripped (s t : State) (n code k : Nat) : Prop :=
  (∀ m ∈ s.members n, t.out m = false) ∧ t.rd (Fd.PD_CH_STATUS_CAUSE n) = code ∧
  (t.reg (Rg.PD_CH_EVENT n k)).toNat = min 0xFFFFFFFF ((s.reg (Rg.PD_CH_EVENT n k)).toNat + 1) ∧ t.cmdOn n = s.cmdOn n ∧
  (s.autoRetry n = true ∧ s.cmdOn n = true ∧ s.rd (Fd.PD_CH_STATUS_RETRIES n) < s.retryN n → t.cooling n = true ∧ t.latched n = s.latched n) ∧
  (¬ (s.autoRetry n = true ∧ (s.cmdOn n = false ∨ s.rd (Fd.PD_CH_STATUS_RETRIES n) < s.retryN n)) → t.latched n = true ∧ t.cooling n = false)

/-- An untimed PWR command that has reached a powered Kerbside. ON that no rule of R250 or R222 refuses, on a feed in order: the whole gang
conducts and is commanded on with the DUTY and PWM_HZ given, Lay-by is left, and DONE is recorded. ON that R250 refuses records that code,
which its fault record shows; on a latched, cooling or shed channel out of Lay-by it records the code of R222's first rule; the channel does
not change. An ON that changes a running PWM waits for the next period. OFF, and DRIVE with MODE coast, switch the gang off and clear its
latch and its scheduled retry. DRIVE forward or reverse from a bridge that is off conducts in that mode and DUTY; a reversal brakes for 5 ms
first. READ puts the record of Table 10-6 at BUF. WAIT_EVENT waits while fewer than four wait, else BUSY is
recorded.
Where the spec's words end it goes by the model's choices of assumptions 116, 117, 118, 124 and 130.
Completing with their own effect: pwrOn, pwrOff, pwrDrive, pwrRead, waitEvent. -/
def Obligations.PowerCommands : Prop :=
  (∀ (s : State) (e : Fin 4096) (tag : BitVec 16) (n : Nat) (c : Cmd), KerbReady s e.val tag.toNat 1 n c → isBridge n = false →
    s.waitsPeriod n (c.f 0x10 2) (c.f 0x12 2) = false → s.layRefuses n (s.chan n).layOld true = Code.DONE → s.decideOn n = Code.DONE →
    s.suspended (s.chFeed n) = false →
    ∃ t, exec (.pwrOn e tag) s = .next t ∧ t.out n = true ∧ (s.out n = false → ∀ m ∈ s.members n, t.out m = true) ∧
      (∀ m ∈ s.members n, t.cmdOn m = true) ∧ (t.chan n).duty = c.f 0x10 2 ∧ (t.chan n).hz = c.f 0x12 2 ∧ t.inLayby n = false ∧
      Recorded s t c Code.DONE 0 s.vt c.lateSeen ∧ OnlyRecord s t c ∧ Frame s t [.kb, .regs, .ep, .mem, .wg, .ic] (OfChan s n)) ∧
  (∀ (s : State) (e : Fin 4096) (tag : BitVec 16) (n : Nat) (c : Cmd), KerbReady s e.val tag.toNat 1 n c → isBridge n = false →
    s.waitsPeriod n (c.f 0x10 2) (c.f 0x12 2) = false → s.layRefuses n (s.chan n).layOld true ≠ Code.DONE →
    ∃ t, exec (.pwrOn e tag) s = .next t ∧ Recorded s t c (s.layRefuses n (s.chan n).layOld true) 0 s.vt c.lateSeen ∧ OnlyRecord s t c ∧
      t.rd (Fd.PD_FAULT_REC_CODE n) = s.layRefuses n (s.chan n).layOld true ∧ t.kb = s.kb ∧
      Frame s t [.regs, .ep, .mem, .wg, .ic] (fun a => a = Rg.PD_FAULT_REC n ∨ a = Rg.PD_FAULT_TIME_LO n ∨ a = Rg.PD_FAULT_TIME_HI n)) ∧
  (∀ (s : State) (e : Fin 4096) (tag : BitVec 16) (n : Nat) (c : Cmd), KerbReady s e.val tag.toNat 1 n c →
    s.waitsPeriod n (c.f 0x10 2) (c.f 0x12 2) = true → s.periodWaits n = [] → (s.chan n).pwmNext = none →
    ∃ t, exec (.pwrOn e tag) s = .next t ∧ Waits s t c ∧ t.kb = (s.setChan n { s.chan n with pwmAt := s.nextPeriod n }).kb ∧
      s.now < s.nextPeriod n ∧ Frame s t [.kb, .ep] (fun _ => False)) ∧
  (∀ (s : State) (e : Fin 4096) (tag : BitVec 16) (n : Nat) (c : Cmd), KerbReady s e.val tag.toNat 1 n c → isBridge n = false →
    s.waitsPeriod n (c.f 0x10 2) (c.f 0x12 2) = false → s.layRefuses n (s.chan n).layOld true = Code.DONE → s.inLayby n = false →
    s.decideOn n ≠ Code.DONE →
    ∃ t, exec (.pwrOn e tag) s = .next t ∧ Recorded s t c (s.decideOn n) 0 s.vt c.lateSeen ∧ OnlyRecord s t c ∧ t.kb = s.kb ∧
      Frame s t [.ep, .mem, .wg, .ic] (fun _ => False)) ∧
  (∀ (s : State) (e : Fin 4096) (tag : BitVec 16) (n : Nat) (c : Cmd), KerbReady s e.val tag.toNat 2 n c →
    s.layRefuses n (s.chan n).layOld false = Code.DONE →
    ∃ t, exec (.pwrOff e tag) s = .next t ∧ (s.out n = true → ∀ m ∈ s.members n, t.out m = false) ∧ (∀ m ∈ s.members n, t.cmdOn m = false) ∧
      t.latched n = false ∧ t.cooling n = false ∧ (t.chan n).duty = 0 ∧ Recorded s t c Code.DONE 0 s.vt c.lateSeen ∧ OnlyRecord s t c ∧
      Frame s t [.kb, .regs, .ep, .mem, .wg, .ic] (OfChan s n)) ∧
  (∀ (s : State) (e : Fin 4096) (tag : BitVec 16) (n : Nat) (c : Cmd), KerbReady s e.val tag.toNat 3 n c → isBridge n = true →
    c.f 0x10 1 = 1 ∨ c.f 0x10 1 = 2 → c.f 0x12 2 ≠ 0 → s.out n = false → s.layRefuses n (s.chan n).layOld true = Code.DONE →
    s.decideOn n = Code.DONE → s.suspended (s.chFeed n) = false →
    ∃ t, exec (.pwrDrive e tag) s = .next t ∧ (∀ m ∈ s.members n, t.out m = true ∧ t.cmdOn m = true) ∧ (t.chan n).mode = c.f 0x10 1 ∧
      (t.chan n).duty = c.f 0x12 2 ∧ (t.chan n).brake = none ∧ Recorded s t c Code.DONE 0 s.vt c.lateSeen ∧ OnlyRecord s t c ∧
      Frame s t [.kb, .regs, .ep, .mem, .wg, .ic] (OfChan s n)) ∧
  (∀ (s : State) (e : Fin 4096) (tag : BitVec 16) (n : Nat) (c : Cmd), KerbReady s e.val tag.toNat 3 n c → isBridge n = true →
    (c.f 0x10 1 = 2 ∧ (s.chan n).mode = 1) ∨ (c.f 0x10 1 = 1 ∧ (s.chan n).mode = 2) → c.f 0x12 2 ≠ 0 → s.out n = true →
    s.layRefuses n (s.chan n).layOld true = Code.DONE → s.decideOn n = Code.DONE → s.suspended (s.chFeed n) = false →
    ∃ t, exec (.pwrDrive e tag) s = .next t ∧ t.out n = true ∧ (t.chan n).mode = 3 ∧
      (t.chan n).brake = some (s.now + 5000000, c.f 0x10 1, c.f 0x12 2) ∧ Recorded s t c Code.DONE 0 s.vt c.lateSeen ∧ OnlyRecord s t c ∧
      Frame s t [.kb, .regs, .ep, .mem, .wg, .ic] (OfChan s n)) ∧
  (∀ (s : State) (e : Fin 4096) (tag : BitVec 16) (n : Nat) (c : Cmd), KerbReady s e.val tag.toNat 3 n c → isBridge n = true →
    c.f 0x10 1 = 0 → s.layRefuses n (s.chan n).layOld false = Code.DONE →
    ∃ t, exec (.pwrDrive e tag) s = .next t ∧ (s.out n = true → ∀ m ∈ s.members n, t.out m = false) ∧ (∀ m ∈ s.members n, t.cmdOn m = false) ∧
      t.latched n = false ∧ t.cooling n = false ∧ Recorded s t c Code.DONE 0 s.vt c.lateSeen ∧ OnlyRecord s t c) ∧
  (∀ (s : State) (e : Fin 4096) (tag : BitVec 16) (n : Nat) (c : Cmd), KerbReady s e.val tag.toNat 4 n c →
    s.dramRange (s.epAt c.ep).district 0 (c.f 0x10 8) 32 2 = true → recordAt s c + 16 ≤ c.f 0x10 8 ∨ c.f 0x10 8 + 32 ≤ recordAt s c →
    ∃ t, exec (.pwrRead e tag) s = .next t ∧ t.bytes (c.f 0x10 8) 32 = s.readRecord n ∧ Recorded s t c Code.DONE 0 s.vt c.lateSeen ∧
      (∀ b, (b < recordAt s c ∨ recordAt s c + 16 ≤ b) → (b < c.f 0x10 8 ∨ c.f 0x10 8 + 32 ≤ b) → t.byte b = s.byte b) ∧
      Frame s t [.ep, .mem, .wg, .ic] (fun _ => False)) ∧
  (∀ (s : State) (e : Fin 4096) (tag : BitVec 16) (n : Nat) (c : Cmd), KerbReady s e.val tag.toNat 5 n c → s.waitEvents c.ep < 4 →
    ∃ t, exec (.waitEvent e tag) s = .next t ∧ t.cmdOf e.val tag.toNat = some { c with phase := .waiting } ∧ t.ep.eps = s.ep.eps ∧
      Frame s t [.ep] (fun _ => False)) ∧
  (∀ (s : State) (e : Fin 4096) (tag : BitVec 16) (n : Nat) (c : Cmd), KerbReady s e.val tag.toNat 5 n c → 4 ≤ s.waitEvents c.ep →
    ∃ t, exec (.waitEvent e tag) s = .next t ∧ Recorded s t c Code.BUSY 0 s.vt c.lateSeen ∧ OnlyRecord s t c ∧
      Frame s t [.ep, .mem, .wg, .ic] (fun _ => False))

/-- PD_CH_CTRL with EN on a high-side channel that no endpoint holds, where the write passes its checks and no rule refuses it, switches
the channel on with the DUTY and PWM_HZ written; with EN 0 it switches it off; a channel that a rule refuses records WRONG_STATE and does not
change. At the next period of a running PWM its written change, or its waiting ON, is in force.
At the end of an inrush window INRUSH clears, and a channel that fails the end condition trips with INRUSH_FAIL. After its brake a
reversing bridge has its new mode. A current or a rise above the cut threshold
of a conducting output trips it with SHORT_CUT, or in KH switches it off; below it nothing happens. RETRIED, where the channel is cooling and
cooled on a feed in order, comes 100 ms after the trip at the earliest, conducts and counts. RETRY_COUNT_RESET clears the count 60 s after
the last change at the earliest. HOLD_TRIP in sleep switches the held output off and notes it.
Where the spec's words end it goes by the model's choices of assumptions 117, 118, 120, 121 and 124.
Completing with their own effect: chCtrlWrite, pwmPeriodCommit, inrushWindowEnd, bridgeBrakeEnd, shortCut, retried, retryCountReset, holdTrip. -/
def Obligations.PowerSwitching : Prop :=
  (∀ (s : State) (who : Who) (n : Fin 52) (w : Word), n.val + s.gangSize n.val ≤ 52 → isBridge n.val = false → ctrlOn w.toNat = true →
    s.passesChecks (s.issuer who) 4 (Rg.PD_CH_CTRL n.val) w ((s.pwrHolder n.val).isSome || s.chLead n.val != n.val) (s.ctrlBad n.val w.toNat) = true →
    s.ctrlRefuses n.val w.toNat = Code.DONE → s.waitsPeriod n.val (ctrlDuty w.toNat) (ctrlHz w.toNat) = false → s.inLayby n.val = false →
    s.suspended (s.chFeed n.val) = false →
    ∃ t, exec (.chCtrlWrite who n w) s = .next t ∧ t.out n.val = true ∧ (∀ m ∈ s.members n.val, t.cmdOn m = true) ∧
      (t.chan n.val).duty = ctrlDuty w.toNat ∧ (t.chan n.val).hz = ctrlHz w.toNat ∧ t.resp = .done ∧
      Frame s t [.kb, .regs, .resp, .ic] (fun a => a = Rg.PD_CH_CTRL n.val ∨ OfChan s n.val a)) ∧
  (∀ (s : State) (who : Who) (n : Fin 52) (w : Word), n.val + s.gangSize n.val ≤ 52 → ctrlOn w.toNat = false →
    s.passesChecks (s.issuer who) 4 (Rg.PD_CH_CTRL n.val) w ((s.pwrHolder n.val).isSome || s.chLead n.val != n.val) (s.ctrlBad n.val w.toNat) = true →
    s.ctrlRefuses n.val w.toNat = Code.DONE →
    ∃ t, exec (.chCtrlWrite who n w) s = .next t ∧ (s.out n.val = true → ∀ m ∈ s.members n.val, t.out m = false) ∧
      (∀ m ∈ s.members n.val, t.cmdOn m = false) ∧ t.latched n.val = false ∧ t.cooling n.val = false ∧ t.inLayby n.val = false ∧ t.resp = .done ∧
      Frame s t [.kb, .regs, .resp, .ic] (fun a => a = Rg.PD_CH_CTRL n.val ∨ OfChan s n.val a)) ∧
  (∀ (s : State) (who : Who) (n : Fin 52) (w : Word), s.inLayby n.val = false → s.hot n.val = false →
    s.passesChecks (s.issuer who) 4 (Rg.PD_CH_CTRL n.val) w ((s.pwrHolder n.val).isSome || s.chLead n.val != n.val) (s.ctrlBad n.val w.toNat) = true →
    s.ctrlRefuses n.val w.toNat ≠ Code.DONE →
    ∃ t, exec (.chCtrlWrite who n w) s = .next t ∧ t.rd (Fd.LAST_REJECT_CODE 11) = Code.WRONG_STATE ∧ t.kb = s.kb ∧ t.ep = s.ep ∧ t.mem = s.mem) ∧
  (∀ (s : State) (n : Fin 52) (duty hz : Nat), s.kb.up = true → isBridge n.val = false → s.periodWaits n.val = [] → s.out n.val = true →
    0 < (s.chan n.val).hz → (s.chan n.val).pwmNext = some (duty, hz) → s.decideOn n.val = Code.DONE → s.suspended (s.chFeed n.val) = false →
    ∃ t, exec (.pwmPeriodCommit n) s = .next t ∧ (t.chan n.val).duty = duty ∧ (t.chan n.val).hz = hz ∧
      (t.chan n.val).pwmStart = (s.chan n.val).pwmAt ∧ (t.chan n.val).pwmNext = none ∧ (s.chan n.val).pwmAt ≤ t.now ∧ t.out n.val = true ∧
      Frame s t [.kb, .regs, .now, .vt, .ptp] (fun a => ∃ m ∈ s.members n.val, a = Rg.PD_CH_STATUS m ∨ a = Rg.PD_CH_STATUS n.val)) ∧
  (∀ (s : State) (n : Fin 52) (c : Cmd), s.kb.up = true → isBridge n.val = false → s.periodWaits n.val = [c] → s.cmdOf c.ep c.tag = some c →
    s.out n.val = true → 0 < (s.chan n.val).hz → (s.chan n.val).pwmNext = none → s.inLayby n.val = false → s.hot n.val = false →
    s.decideOn n.val = Code.DONE → s.suspended (s.chFeed n.val) = false →
    ∃ t, exec (.pwmPeriodCommit n) s = .next t ∧ (t.chan n.val).duty = c.f 0x10 2 ∧ (t.chan n.val).hz = c.f 0x12 2 ∧
      (t.chan n.val).pwmStart = (s.chan n.val).pwmAt ∧ (s.chan n.val).pwmAt ≤ t.now ∧ t.out n.val = true ∧
      Recorded s t c Code.DONE 0 t.vt c.lateSeen ∧ OnlyRecord s t c) ∧
  (∀ (s : State) (n : Fin 52) (mv : BitVec 16) (e : Nat), s.kb.up = true → (s.chan n.val).inrushEnd = some e → s.inrushOk n.val mv.toNat = true →
    ∃ t, exec (.inrushWindowEnd n mv) s = .next t ∧ e ≤ t.now ∧ t.flag (Fd.PD_CH_STATUS_INRUSH n.val) = false ∧
      (t.chan n.val).inrushEnd = none ∧ t.out n.val = s.out n.val ∧
      Frame s t [.kb, .regs, .now, .vt, .ptp] (fun a => a = Rg.PD_CH_STATUS n.val)) ∧
  (∀ (s : State) (n : Fin 52) (mv : BitVec 16) (e : Nat), n.val + s.gangSize n.val ≤ 52 → s.kb.up = true → s.out n.val = true →
    (s.chan n.val).inrushEnd = some e → s.inrushOk n.val mv.toNat = false →
    ∃ t, exec (.inrushWindowEnd n mv) s = .next t ∧ e ≤ t.now ∧ t.flag (Fd.PD_CH_STATUS_INRUSH n.val) = false ∧
      Tripped s t n.val Code.INRUSH_FAIL 2) ∧
  (∀ (s : State) (k : Fin 4) (e mode duty : Nat), s.kb.up = true → (s.chan (48 + k.val)).brake = some (e, mode, duty) →
    ∃ t, exec (.bridgeBrakeEnd k) s = .next t ∧ e ≤ t.now ∧ (t.chan (48 + k.val)).mode = mode ∧ (t.chan (48 + k.val)).duty = duty ∧
      (t.chan (48 + k.val)).brake = none ∧ Frame s t [.kb, .regs, .now, .vt, .ptp] (fun a => a = Rg.PD_CH_STATUS (48 + k.val))) ∧
  (∀ (s : State) (n : Fin 52) (ma : Int) (rise l : Nat), s.chLead n.val = l → s.cutCondition n.val ma rise = true → s.conducts l = true → l + s.gangSize l ≤ 52 → l < 52 → s.kb.up = true → s.out l = true →
    ∃ t, exec (.shortCut ⟨n, ma, rise⟩) s = .next t ∧ Tripped s t l Code.SHORT_CUT 0 ∧
      Frame s t [.kb, .regs, .ep, .mem, .wg, .ic] (OfChan s l)) ∧
  (∀ (s : State) (n : Fin 52) (ma : Int) (rise : Nat), s.chLead n.val = n.val → n.val + s.gangSize n.val ≤ 52 →
    s.cutCondition n.val ma rise = true → s.conducts n.val = true → s.kb.up = false → (s.chan n.val).held ≠ 0 → s.out n.val = true →
    ∃ t, exec (.shortCut ⟨n, ma, rise⟩) s = .next t ∧ (∀ m ∈ s.members n.val, t.out m = false) ∧ t.cmdOn n.val = s.cmdOn n.val ∧
      Frame s t [.kb, .regs] (fun a => ∃ m ∈ s.members n.val, a = Rg.PD_CH_STATUS m ∨ a = Rg.PD_CH_STATUS n.val)) ∧
  (∀ (s : State) (n : Fin 52) (ma : Int) (rise : Nat), s.cutCondition n.val ma rise = false → exec (.shortCut ⟨n, ma, rise⟩) s = .next s) ∧
  (∀ (s : State) (n : Fin 52), n.val + s.gangSize n.val ≤ 52 → s.kb.up = true → s.cooling n.val = true → s.cooled n.val = true →
    s.suspended (s.chFeed n.val) = false →
    ∃ t, exec (.retried n) s = .next t ∧ (∀ m ∈ s.members n.val, t.out m = true) ∧ t.cooling n.val = false ∧
      t.rd (Fd.PD_CH_STATUS_RETRIES n.val) = (s.rd (Fd.PD_CH_STATUS_RETRIES n.val) + 1) % 16 ∧ (s.chan n.val).tripAt + 100 * ms ≤ t.now ∧
      Frame s t [.kb, .regs, .ep, .mem, .wg, .ic, .now, .vt, .ptp] (OfChan s n.val)) ∧
  (∀ (s : State) (n : Fin 52), s.kb.up = true → s.out n.val = true →
    ∃ t, exec (.retryCountReset n) s = .next t ∧ t.rd (Fd.PD_CH_STATUS_RETRIES n.val) = 0 ∧ (s.chan n.val).since + 60 * sec ≤ t.now ∧
      Frame s t [.regs, .now, .vt, .ptp] (fun a => a = Rg.PD_CH_STATUS n.val)) ∧
  (∀ (s : State) (n : Fin 52), n.val + s.gangSize n.val ≤ 52 → s.kb.up = false → (s.chan n.val).held ≠ 0 → s.out n.val = true →
    ∃ t, exec (.holdTrip n) s = .next t ∧ (∀ m ∈ s.members n.val, t.out m = false) ∧ (t.chan n.val).holdTrip = true ∧
      t.cmdOn n.val = s.cmdOn n.val ∧ s.now + 10 * ms ≤ t.now ∧
      (s.pwrHolder n.val = none → Frame s t [.kb, .regs, .now, .vt, .ptp] (fun a => ∃ m ∈ s.members n.val, a = Rg.PD_CH_STATUS m ∨ a = Rg.PD_CH_STATUS n.val)))

/-- A sample shows each channel's raw current and each feed's voltage and current, and the next comes 10 µs on. A wire model step puts
every channel with a WIRE item at the temperature of R229's step from the ten samples, and one past its LIMIT no longer conducts. A
housing step takes the dissipation of R235, filters it, and the HOUSING trigger starts above its limit and ends at its end value. A shed
check of the HOUSING trigger alone, above its end value, ahead of the next wire step, switches the candidates of the lowest SHED_PRIO off, commands them off and
sets SHED; the next check is a second on. PWR_POWER_UP of an Active device brings Kerbside up with nothing conducting where nothing was
held, and puts every channel into Lay-by with cause 4 where tamper halted Cellar.
Where the spec's words end it goes by the model's choices of assumptions 120, 122 and 123.
Completing with their own effect: currentSample, wireModelStep, housingModelStep, shedCheck, pwrPowerUp. -/
def Obligations.PowerModelSteps : Prop :=
  (∀ (s : State) (l : List (BitVec 16)) (mvA mvB curA curB : BitVec 16), s.kb.up = true →
    ∃ t, exec (.currentSample l mvA mvB curA curB) s = .next t ∧ t.kb.sampleAt = t.now + 10 * us ∧ s.kb.sampleAt ≤ t.now ∧
      (t.feed 0).mv = mvA.toNat ∧ (t.feed 1).mv = mvB.toNat ∧ t.rd (Fd.PD_FEED_MEAS_VOLTAGE 0) = mvA.toNat ∧
      t.rd (Fd.PD_FEED_MEAS_CURRENT 1) = curB.toNat ∧
      (∀ n : Fin 52, (t.chan n.val).cur = signed 16 (l.getD n.val 0).toNat ∧ t.rd (Fd.PD_CH_MEAS_CURRENT n.val) = (l.getD n.val 0).toNat ∧
        (t.chan n.val).n = (s.chan n.val).n + 1 ∧ t.out n.val = s.out n.val) ∧ t.ep = s.ep ∧ t.otp = s.otp) ∧
  (∀ (s : State), s.kb.up = true →
    ∃ t, exec .wireModelStep s = .next t ∧ s.kb.wireAt ≤ t.now ∧ t.kb.wireAt = t.now + 100 * us ∧
      (∀ n : Fin 52, ((s.wireItem n.val).bind (fun i => wireConsts i.wireCsa)).isSome = true →
        (t.chan n.val).temp = wireStep (if (s.chan n.val).n = 0 then 0 else (s.chan n.val).gangSq * 10 / (s.chan n.val).n)
          (((s.wireItem n.val).bind (fun i => wireConsts i.wireCsa)).getD (0, 0, 0)).1 (((s.wireItem n.val).bind (fun i => wireConsts i.wireCsa)).getD (0, 0, 0)).2.1
          (((s.wireItem n.val).bind (fun i => wireConsts i.wireCsa)).getD (0, 0, 0)).2.2 (s.chan n.val).temp
          (((s.wireItem n.val).map (fun i => t.ambient i.wireSrc)).getD 0) ∧
        (((s.wireItem n.val).map (fun i => i.wireLimit)).getD 0 < (t.chan n.val).temp → 0 < s.gangSize n.val → t.out n.val = false)) ∧
      (∀ n : Fin 52, s.out n.val = false → t.out n.val = false) ∧ (∀ n : Fin 52, t.cmdOn n.val = s.cmdOn n.val) ∧ t.otp = s.otp) ∧
  (∀ (s : State) (pElec ambient : BitVec 16), s.kb.up = true →
    ∃ t, exec (.housingModelStep pElec ambient) s = .next t ∧ s.kb.houseAt ≤ t.now ∧ t.kb.houseAt = t.now + 100 * us ∧
      t.kb.pInst = s.dissipation pElec.toNat ∧ t.kb.pFilt = s.kb.pFilt + (s.dissipation pElec.toNat - s.kb.pFilt) / 3000000 ∧
      (tbit (t.rd Fd.PD_SHED_TRIGGER) 0 = true ↔
        (if tbit (s.rd Fd.PD_SHED_TRIGGER) 0 then (s.trigger 0).2.2.2 else (s.trigger 0).2.2.1) < t.kb.pFilt) ∧
      (t.rd Fd.PD_SHED_TRIGGER = 0 → t.rd Fd.PD_SHED_LEVEL = 0 ∧ t.kb.shedAt = none) ∧ (∀ n : Fin 52, t.out n.val = s.out n.val) ∧
      Frame s t [.kb, .regs, .ic, .now, .vt, .ptp] (fun a => a = Rg.PD_AMBIENT ∨ a = Rg.PD_FEED_AVG 0 ∨ a = Rg.PD_FEED_AVG 1 ∨ a = Rg.PD_HOUSING ∨ a = Rg.PD_SHED)) ∧
  (∀ (s : State) (e p : Nat), s.kb.up = true → s.kb.shedAt = some e → max s.now e < s.kb.wireAt → s.rd Fd.PD_SHED_TRIGGER = 1 → (s.trigger 0).2.2.2 < (s.trigger 0).2.1 →
    ((s.shedable 0).map s.shedPrio).min? = some p → (∀ n ∈ s.leads, n + s.gangSize n ≤ 52 ∧ 0 < s.gangSize n) →
    ∃ t, exec .shedCheck s = .next t ∧ e ≤ t.now ∧ t.kb.shedAt = some (t.now + sec) ∧
      (∀ n ∈ s.shedable 0, s.shedPrio n = p →
        t.out n = false ∧ t.cmdOn n = false ∧ t.flag (Fd.PD_CH_STATUS_SHED n) = true ∧ t.rd (Fd.PD_CH_STATUS_CAUSE n) = Code.SHED) ∧
      (∀ n : Fin 52, s.out n.val = false → t.out n.val = false) ∧ max p (s.rd Fd.PD_SHED_LEVEL) % 256 = t.rd Fd.PD_SHED_LEVEL ∧ t.otp = s.otp) ∧
  (∀ (s : State) (ambient pElec : BitVec 16), s.dev = .active → s.kb.up = false → s.gated 0xB = false → s.rd Fd.TP_STATUS_STATE ≠ 0 →
    s.rd Fd.KS_STATUS_STATE ≠ 3 → (∀ n : Fin 52, (s.chan n.val).held = 0) →
    ∃ t, exec (.pwrPowerUp ambient pElec) s = .next t ∧ t.kb.up = true ∧ t.rd Fd.PD_AMBIENT_TEMP = ambient.toNat ∧
      (∀ n : Fin 52, t.out n.val = false ∧ t.cmdOn n.val = false ∧ t.inLayby n.val = false) ∧
      t.kb.pFilt = ((pElec.toNat * 1000000000 : Nat) : Int) ∧
      Frame s t [.kb, .regs, .ic] (fun a => 0x200B0000 ≤ a ∧ a < 0x200BFFF0)) ∧
  (∀ (s : State) (ambient pElec : BitVec 16), s.dev = .active → s.kb.up = false → s.gated 0xB = false → s.rd Fd.TP_STATUS_STATE ≠ 0 →
    s.rd Fd.KS_STATUS_STATE = 3 →
    ∃ t, exec (.pwrPowerUp ambient pElec) s = .next t ∧ t.kb.up = true ∧
      (∀ n ∈ s.leads, t.inLayby n = true ∧ t.rd (Fd.PD_DIAG_STATUS_CAUSE n) = 4))

/-- The report of channel `n` in bit `f` shows, with its sticky bit `b` and its record of `code` at the present vehicle time (R251, R258). -/
abbrev Reported (s t : State) (n : Nat) (f : Fld) (code b : Nat) : Prop :=
  t.flag f = true ∧ t.flag (bitOf (Rg.PD_DIAG_STATUS n) b) = true ∧ t.rd (Fd.PD_FAULT_REC_CODE n) = code ∧
  t.rd (Fd.PD_FAULT_REC_COUNT n) = min 0xFFFF (s.rd (Fd.PD_FAULT_REC_COUNT n) + 1)
/-- Kerbside is powered and channel `n` is a lead with a CHANNEL item. -/
abbrev KerbLead (s : State) (n : Nat) : Prop := s.kb.up = true ∧ s.chLead n = n ∧ (s.chItem n).isSome = true ∧ n + s.gangSize n ≤ 52
/-- Of the channels in the list, all are in Lay-by, with cause `k` but where cause 4 stays (R253, R256). -/
abbrev InLayby (s t : State) (l : List Nat) (k : Nat) : Prop :=
  ∀ n ∈ l, t.inLayby n = true ∧ t.rd (Fd.PD_DIAG_STATUS_CAUSE n) = (if s.inLayby n = true ∧ s.rd (Fd.PD_DIAG_STATUS_CAUSE n) = 4 then 4 else k)

/-- With the on-state test enabled, a window whose judged mean lies below the threshold of Table 11-2 reports OPEN_LOAD_ON, one at twice
the threshold or above clears the report, and the sums start again. The second off-state test in a row with an output above 8 V reports
SHORT_TO_BAT, the second with the open-load test enabled alone and output A above 3.5 V OPEN_LOAD_OFF; the output stays off. Reverse current on
a conducting high-side channel, and over-temperature, switch the whole gang off, latch the lead and report; the last hot junction of a gang
that cools clears HOT alone. A feed fault sets the feed's state, switches its leads off and suspends its channels; on a reversed feed an
under-voltage is no fault of its own. A return ends the suspension and queues, in channel order, the channels commanded on; each turn of the queue comes 100 µs after
the last at the earliest, and switches its channel on again as last commanded.
Where the spec's words end it goes by the model's choices of assumptions 123 and 125.
Completing with their own effect: openLoadOnWindow, offStateTest, reverseCurrent, overTemp, junctionCooled, feedFault, feedReturn, feedReturnSwitchOn. -/
def Obligations.PowerDiagnostics : Prop :=
  (∀ (s : State) (n : Fin 52), KerbLead s n.val → s.flag (Fd.PD_DIAG_CFG_OL_ON_EN n.val) = true → (s.chan n.val).olN ≠ 0 →
    (s.chan n.val).olSum < olThreshold n.val * (s.chan n.val).olN → s.flag (Fd.PD_DIAG_STATUS_OL_ON n.val) = false →
    ∃ t, exec (.openLoadOnWindow n) s = .next t ∧ Reported s t n.val (Fd.PD_DIAG_STATUS_OL_ON n.val) Code.OPEN_LOAD_ON 16 ∧
      (t.chan n.val).olN = 0 ∧ (t.chan n.val).olSum = 0 ∧ t.out n.val = s.out n.val ∧
      Frame s t [.kb, .regs, .ep, .mem, .wg, .ic] (OfChan s n.val)) ∧
  (∀ (s : State) (n : Fin 52), KerbLead s n.val → s.flag (Fd.PD_DIAG_CFG_OL_ON_EN n.val) = true → (s.chan n.val).olN ≠ 0 →
    2 * olThreshold n.val * (s.chan n.val).olN ≤ (s.chan n.val).olSum →
    ∃ t, exec (.openLoadOnWindow n) s = .next t ∧ t.flag (Fd.PD_DIAG_STATUS_OL_ON n.val) = false ∧ (t.chan n.val).olN = 0 ∧
      t.out n.val = s.out n.val ∧ Frame s t [.kb, .regs] (fun a => a = Rg.PD_DIAG_STATUS n.val)) ∧
  (∀ (s : State) (n : Fin 52) (a b p : BitVec 16), KerbLead s n.val → s.out n.val = false → s.suspended (s.chFeed n.val) = false →
    s.flag (Fd.PD_DIAG_CFG_STB_EN n.val) = true → 8000 < a.toNat → (s.chan n.val).stbFail = 1 → s.flag (Fd.PD_DIAG_STATUS_STB n.val) = false →
    ∃ t, exec (.offStateTest n a b p) s = .next t ∧ Reported s t n.val (Fd.PD_DIAG_STATUS_STB n.val) Code.SHORT_TO_BAT 18 ∧
      (s.chan n.val).since + 11 * ms ≤ t.now ∧ t.out n.val = false ∧
      Frame s t [.kb, .regs, .ep, .mem, .wg, .ic, .now, .vt, .ptp] (OfChan s n.val)) ∧
  (∀ (s : State) (n : Fin 52) (a b p : BitVec 16), KerbLead s n.val → s.out n.val = false → s.suspended (s.chFeed n.val) = false →
    s.flag (Fd.PD_DIAG_CFG_STB_EN n.val) = false → s.flag (Fd.PD_DIAG_CFG_OL_OFF_EN n.val) = true → a.toNat ≤ 8000 → b.toNat ≤ 8000 →
    3500 < p.toNat → (s.chan n.val).olFail = 1 → s.flag (Fd.PD_DIAG_STATUS_OL_OFF n.val) = false →
    ∃ t, exec (.offStateTest n a b p) s = .next t ∧ Reported s t n.val (Fd.PD_DIAG_STATUS_OL_OFF n.val) Code.OPEN_LOAD_OFF 17 ∧
      (s.chan n.val).since + 11 * ms ≤ t.now ∧ t.out n.val = false ∧
      Frame s t [.kb, .regs, .ep, .mem, .wg, .ic, .now, .vt, .ptp] (OfChan s n.val)) ∧
  (∀ (s : State) (n : Fin 52) (l : Nat), s.chLead n.val = l → l < 52 → l + s.gangSize l ≤ 52 → s.kb.up = true → isBridge n.val = false →
    (s.chItem n.val).isSome = true → s.out l = true →
    ∃ t, exec (.reverseCurrent n) s = .next t ∧ (∀ m ∈ s.members l, t.out m = false) ∧ t.latched l = true ∧ t.cooling l = false ∧
      Reported s t l (Fd.PD_DIAG_STATUS_REV l) Code.REVERSE_CURRENT 19 ∧ t.cmdOn l = s.cmdOn l ∧
      Frame s t [.kb, .regs, .ep, .mem, .wg, .ic] (OfChan s l)) ∧
  (∀ (s : State) (n : Fin 52) (l : Nat), s.chLead n.val = l → l < 52 → l + s.gangSize l ≤ 52 → s.kb.up = true →
    (s.chItem n.val).isSome = true →
    ∃ t, exec (.overTemp n) s = .next t ∧ (t.chan n.val).hot = true ∧ (s.out l = true → ∀ m ∈ s.members l, t.out m = false) ∧ t.latched l = true ∧ t.cooling l = false ∧
      Reported s t l (Fd.PD_DIAG_STATUS_HOT l) Code.OVER_TEMP 20 ∧ t.cmdOn l = s.cmdOn l ∧
      Frame s t [.kb, .regs, .ep, .mem, .wg, .ic] (OfChan s l)) ∧
  (∀ (s : State) (n : Fin 52) (l : Nat), s.chLead n.val = l → l < 52 → s.kb.up = true → (s.chan n.val).hot = true →
    ∃ t, exec (.junctionCooled n) s = .next t ∧ (t.chan n.val).hot = false ∧
      t.hot l = (s.members l).any (fun m => m != n.val && (s.chan m).hot) ∧ t.latched l = s.latched l ∧
      Frame s t [.kb, .regs] (fun a => a = Rg.PD_DIAG_STATUS l)) ∧
  (∀ (s : State) (f : Fin 2) (k : FeedFault), s.kb.up = true → s.rd (feedStateFld f.val) ≠ feedFaultState k →
    ¬ (k = .underVoltage ∧ s.rd (feedStateFld f.val) = 3) →
    (∀ n ∈ s.leads, n + s.gangSize n ≤ 52 ∧ 0 < s.gangSize n) →
    ∃ t, exec (.feedFault f k) s = .next t ∧ t.rd (feedStateFld f.val) = feedFaultState k ∧ t.suspended f.val = true ∧
      (∀ n ∈ s.onFeed f.val, t.flag (Fd.PD_DIAG_STATUS_SUSPENDED n) = true ∧ t.cmdOn n = s.cmdOn n ∧
        (s.chLead n = n → t.out n = false) ∧ t.rd (Fd.PD_FAULT_REC_CODE n) = feedCode (feedFaultState k)) ∧ t.otp = s.otp ∧ t.pending = s.pending) ∧
  (∀ (s : State) (f : Fin 2), s.rd (feedStateFld f.val) = 3 → exec (.feedFault f .underVoltage) s = .next s) ∧
  (∀ (s : State) (f : Fin 2), s.kb.up = true → s.suspended f.val = true →
    ∃ t, exec (.feedReturn f) s = .next t ∧ t.suspended f.val = false ∧ (t.feed f.val).turnAt = s.now ∧
      (t.feed f.val).turns = s.leads.filter (fun n => s.chFeed n == f.val && s.cmdOn n && !s.latched n && !s.cooling n) ∧
      (∀ n ∈ s.onFeed f.val, t.flag (Fd.PD_DIAG_STATUS_SUSPENDED n) = false ∧ t.out n = s.out n) ∧
      Frame s t [.kb, .regs] (fun a => a = Rg.PD_FEED_STATUS ∨ ∃ n ∈ s.onFeed f.val, a = Rg.PD_DIAG_STATUS n)) ∧
  (∀ (s : State) (f : Fin 2) (n : Nat) (rest : List Nat), (s.feed f.val).turns = n :: rest → n + s.gangSize n ≤ 52 → isBridge n = false → s.kb.up = true →
    s.cmdOn n = true → s.out n = false → s.latched n = false → s.cooling n = false →
    ∃ t, exec (.feedReturnSwitchOn f) s = .next t ∧ (s.feed f.val).turnAt ≤ t.now ∧ (t.feed f.val).turns = rest ∧
      (t.feed f.val).turnAt = t.now + 100 * us ∧ (∀ m ∈ s.members n, t.out m = true) ∧ (t.chan n).duty = (s.chan n).duty ∧
      (t.chan n).hz = (s.chan n).hz ∧ Frame s t [.kb, .regs, .now, .vt, .ptp] (OfChan s n))

/-- Where the write passes its checks and Kerbside is powered: LAYBY_ENTER of a district puts every channel that it owns into Lay-by with
cause 5 (a cause 4 stays), LAYBY_ENTER of all every channel, with RESULT DONE. A release takes the channels of the district, or all, out
of Lay-by, but those of cause 4; RESULT says DONE where none was held back and WRONG_STATE where one was, and no output changes.
Where the spec's words end it goes by the model's choices of assumption 116.
Completing with their own effect: laybyEnterDistrict, laybyEnterAll, laybyReleaseDistrict, laybyReleaseAll. -/
def Obligations.LaybyControl : Prop :=
  (∀ (s : State) (who : Who) (d : Fin 64), s.passesChecks (s.issuer who) 4 Rg.PD_LAYBY_CTRL (laybyWord 1 d.val) false false = true → s.kb.up = true →
    ∃ t, exec (.laybyEnterDistrict who d) s = .next t ∧ InLayby s t (s.channelsOf d.val) 5 ∧ t.rd Fd.PD_LAYBY_CTRL_RESULT = Code.DONE ∧
      t.resp = .done ∧ t.otp = s.otp ∧ t.plan = s.plan ∧ t.pending = s.pending) ∧
  (∀ (s : State) (who : Who) (d : Fin 64), s.passesChecks (s.issuer who) 4 Rg.PD_LAYBY_CTRL (laybyWord 2 d.val) false false = true → s.kb.up = true →
    ∃ t, exec (.laybyEnterAll who d) s = .next t ∧ InLayby s t s.leads 5 ∧ t.rd Fd.PD_LAYBY_CTRL_RESULT = Code.DONE ∧ t.resp = .done ∧
      t.otp = s.otp ∧ t.plan = s.plan ∧ t.pending = s.pending) ∧
  (∀ (s : State) (who : Who) (d : Fin 64), s.passesChecks (s.issuer who) 4 Rg.PD_LAYBY_CTRL (laybyWord 3 d.val) false false = true →
    ∃ t, exec (.laybyReleaseDistrict who d) s = .next t ∧
      (∀ n ∈ s.channelsOf d.val, s.rd (Fd.PD_DIAG_STATUS_CAUSE n) ≠ 4 → t.inLayby n = false) ∧
      (∀ n : Fin 52, t.out n.val = s.out n.val ∧ (s.inLayby n.val = true → s.rd (Fd.PD_DIAG_STATUS_CAUSE n.val) = 4 → t.inLayby n.val = true)) ∧
      t.rd Fd.PD_LAYBY_CTRL_RESULT = (if (s.channelsOf d.val).any (fun n => s.inLayby n && s.rd (Fd.PD_DIAG_STATUS_CAUSE n) == 4) then Code.WRONG_STATE else Code.DONE) ∧
      t.resp = .done ∧ Frame s t [.kb, .pn, .regs, .resp] (fun a => a = Rg.PD_LAYBY_CTRL ∨ ∃ n ∈ s.channelsOf d.val, a = Rg.PD_DIAG_STATUS n)) ∧
  (∀ (s : State) (who : Who) (d : Fin 64), s.passesChecks (s.issuer who) 4 Rg.PD_LAYBY_CTRL (laybyWord 4 d.val) false false = true →
    ∃ t, exec (.laybyReleaseAll who d) s = .next t ∧
      (∀ n ∈ s.leads, s.rd (Fd.PD_DIAG_STATUS_CAUSE n) ≠ 4 → t.inLayby n = false) ∧
      (∀ n : Fin 52, t.out n.val = s.out n.val ∧ (s.inLayby n.val = true → s.rd (Fd.PD_DIAG_STATUS_CAUSE n.val) = 4 → t.inLayby n.val = true)) ∧
      t.rd Fd.PD_LAYBY_CTRL_RESULT = (if s.leads.any (fun n => s.inLayby n && s.rd (Fd.PD_DIAG_STATUS_CAUSE n) == 4) then Code.WRONG_STATE else Code.DONE) ∧
      t.resp = .done ∧ Frame s t [.kb, .pn, .regs, .resp] (fun a => a = Rg.PD_LAYBY_CTRL ∨ ∃ n ∈ s.leads, a = Rg.PD_DIAG_STATUS n))

/-- A CAN command of opcode `op` for buffer `b` of channel `k` has passed. -/
abbrev CanReady (s : State) (e tag op k b : Nat) (c : Cmd) : Prop :=
  s.passed e tag 1 op = some c ∧ s.boundCan c.ep = k ∧ s.canBuffer c = b ∧ b < 128
/-- `a` is the counter `c` of CAN channel `k`, or the register of its saturation bits. -/
abbrev CanCount (k c a : Nat) : Prop := a = Rg.CAN_EVENT k c ∨ a = Rg.CAN_EVENT_SAT k

/-- A frame for an unlocked receive buffer, on a channel that takes part, replaces its header and data words, takes the vehicle time, sets
NEW, and sets OVR where NEW stood; a frame for the locked buffer goes to its shadow alone. Reading word 0 of an enabled receive buffer
through the window locks it and answers the word. MB_SELECT selects, ends the lock and brings a full shadow into its buffer with NEW; a lock
ends by itself after 100 µs, counted. A TX request on an idle enabled transmit buffer with a consistent header makes it PENDING with
no retransmission used. Reading the last word of a locked buffer ends the lock and clears NEW and
OVR. A cancel of a pending request whose frame has not started ends it with CANCELLED; in the arbitration field, and past the commit point,
it is only noted. A mode write changes the request, and the mode alone follows it at bus idle; OFF clears the error counters.
Where the spec's words end it goes by the model's choices of assumptions 135, 137 and 138.
Completing with their own effect: canFrameReceived, mbWindowRead, mbSelect, lockTimeout, mbTxRequest, mbCancel, canModeWrite, canModeChange. -/
def Obligations.CanBuffers : Prop :=
  (∀ (s : State) (k : Fin 8) (w0 w1 : Word) (data : List Byte) (ago : BitVec 32) (b : Nat), s.canMode k.val ≠ 0 → s.busOff k.val = false →
    s.trxUp k.val = true → (s.canAt k.val).attempt = none → (hdrFdf w0.toNat = true → itemN (s.canItem k.val) 1 ≠ 0) →
    s.rxBuffer k.val w0.toNat = some b → (s.canAt k.val).lock = none → s.canWaits k.val b 3 = none →
    ∃ t, exec (.canFrameReceived k w0 w1 data ago) s = .next t ∧
      (t.buf k.val b).words = frameWords (s.buf k.val b).words w0.toNat w1.toNat data ∧ (t.buf k.val b).time = s.vt ∧
      (∀ n, n ≠ b → t.buf k.val n = s.buf k.val n) ∧ t.flag (Fd.CAN_MB_STAT_NEW k.val b) = true ∧
      (s.flag (Fd.CAN_MB_STAT_NEW k.val b) = true → t.flag (Fd.CAN_MB_STAT_OVR k.val b) = true) ∧ Counted s t (Rg.CAN_EVENT k.val 1) ∧
      (t.canAt k.val).rx = false ∧ t.otp = s.otp ∧ t.pending = s.pending) ∧
  (∀ (s : State) (k : Fin 8) (w0 w1 : Word) (data : List Byte) (ago : BitVec 32) (b x : Nat), s.canMode k.val ≠ 0 → s.busOff k.val = false →
    s.trxUp k.val = true → (s.canAt k.val).attempt = none → (hdrFdf w0.toNat = true → itemN (s.canItem k.val) 1 ≠ 0) →
    s.rxBuffer k.val w0.toNat = some b → (s.canAt k.val).lock = some (b, x) → s.canWaits k.val b 3 = none →
    ∃ t, exec (.canFrameReceived k w0 w1 data ago) s = .next t ∧ (t.buf k.val b).words = (s.buf k.val b).words ∧
      (t.buf k.val b).shadow = some (frameWords (s.buf k.val b).words w0.toNat w1.toNat data, s.vt) ∧
      ((s.buf k.val b).shadow.isSome = true → t.flag (Fd.CAN_MB_STAT_OVR k.val b) = true) ∧ (∀ n, n ≠ b → t.buf k.val n = s.buf k.val n)) ∧
  (∀ (s : State) (who : Who) (k : Fin 8), s.reaches (s.issuer who) (Rg.CAN_MB_WIN k.val 0) = true → s.gated 12 = false →
    ((RegMap.at (Rg.CAN_MB_WIN k.val 0)).map (fun p => s.mayRead (s.issuer who) p.1 (Rg.CAN_MB_WIN k.val 0))) = some true →
    s.bufHeld k.val (s.mbSelected k.val) = false → s.bufTx k.val (s.mbSelected k.val) = false → s.bufEn k.val (s.mbSelected k.val) = true →
    (s.canAt k.val).lock = none →
    ∃ t, exec (.mbWindowRead who k 0) s = .next t ∧ t.resp = .data ((s.buf k.val (s.mbSelected k.val)).word 0) ∧
      (t.canAt k.val).lock = some (s.mbSelected k.val, s.now) ∧ (∀ n, t.buf k.val n = s.buf k.val n) ∧
      Frame s t [.can, .resp] (fun _ => False)) ∧
  (∀ (s : State) (who : Who) (k : Fin 8) (w : Fin 18) (x : Nat), s.reaches (s.issuer who) (Rg.CAN_MB_WIN k.val w.val) = true → s.gated 12 = false →
    ((RegMap.at (Rg.CAN_MB_WIN k.val w.val)).map (fun p => s.mayRead (s.issuer who) p.1 (Rg.CAN_MB_WIN k.val w.val))) = some true →
    s.bufHeld k.val (s.mbSelected k.val) = false → s.bufTx k.val (s.mbSelected k.val) = false → s.bufEn k.val (s.mbSelected k.val) = true →
    w.val = 1 + hdrWords ((s.buf k.val (s.mbSelected k.val)).word 0) ((s.buf k.val (s.mbSelected k.val)).word 1) → w.val ≠ 0 →
    (s.canAt k.val).lock = some (s.mbSelected k.val, x) → (s.buf k.val (s.mbSelected k.val)).shadow = none → s.mbSelected k.val < 128 →
    ∃ t, exec (.mbWindowRead who k w) s = .next t ∧ t.resp = .data ((s.buf k.val (s.mbSelected k.val)).word w.val) ∧
      (t.canAt k.val).lock = none ∧ t.flag (Fd.CAN_MB_STAT_NEW k.val (s.mbSelected k.val)) = false ∧
      t.flag (Fd.CAN_MB_STAT_OVR k.val (s.mbSelected k.val)) = false ∧ (∀ n, t.buf k.val n = s.buf k.val n) ∧
      Frame s t [.can, .resp, .regs, .ic] (fun a => a = Rg.CAN_MB_STAT k.val (s.mbSelected k.val))) ∧
  (∀ (s : State) (who : Who) (k : Fin 8) (w : Word) (b x : Nat) (words : Tbl Word) (time : Nat), b < 128 →
    s.passesChecks (s.issuer who) 4 (Rg.CAN_MB_SEL k.val) w false false = true → (s.canAt k.val).lock = some (b, x) → (s.buf k.val b).shadow = some (words, time) →
    ∃ t, exec (.mbSelect who k w) s = .next t ∧ t.mbSelected k.val = w.toNat % 128 ∧ (t.canAt k.val).lock = none ∧
      t.buf k.val b = { s.buf k.val b with words := words, time := time, shadow := none } ∧ t.flag (Fd.CAN_MB_STAT_NEW k.val b) = true ∧
      t.resp = .done ∧ Frame s t [.can, .regs, .ic, .resp] (fun a => a = Rg.CAN_MB_SEL k.val ∨ a = Rg.CAN_MB_STAT k.val b ∨ CanCount k.val 8 a)) ∧
  (∀ (s : State) (k : Fin 8) (b x : Nat), b < 128 → (s.canAt k.val).lock = some (b, x) →
    ∃ t, exec (.lockTimeout k) s = .next t ∧ (t.canAt k.val).lock = none ∧ x + 100 * us ≤ t.now ∧ Counted s t (Rg.CAN_EVENT k.val 9) ∧
      Frame s t [.can, .regs, .ic, .now, .vt, .ptp] (fun a => a = Rg.CAN_MB_STAT k.val b ∨ CanCount k.val 8 a ∨ CanCount k.val 9 a)) ∧
  (∀ (s : State) (who : Who) (k : Fin 8) (b : Fin 128),
    s.passesChecks (s.issuer who) 4 (Rg.CAN_MB_CTRL k.val b.val) 1 (s.bufHeld k.val b.val) false = true → s.bufTx k.val b.val = true →
    s.bufEn k.val b.val = true → s.bufState k.val b.val = 0 →
    s.headerCode k.val ((s.buf k.val b.val).word 0) ((s.buf k.val b.val).word 1) = Code.DONE →
    ∃ t, exec (.mbTxRequest who k b) s = .next t ∧ t.bufState k.val b.val = 1 ∧ t.rd (Fd.CAN_MB_STAT_RETRIES k.val b.val) = 0 ∧
      t.flag (Fd.CAN_MB_STAT_TOO_LATE k.val b.val) = false ∧ (t.buf k.val b.val).words = (s.buf k.val b.val).words ∧ t.resp = .done ∧
      Frame s t [.can, .regs, .ic, .resp] (fun a => a = Rg.CAN_MB_STAT k.val b.val ∨ a = Rg.CAN_MB_CTRL k.val b.val)) ∧
  (∀ (s : State) (who : Who) (k : Fin 8) (b : Fin 128),
    s.passesChecks (s.issuer who) 4 (Rg.CAN_MB_CTRL k.val b.val) 2 (s.bufHeld k.val b.val) false = true → s.bufState k.val b.val ≠ 0 →
    (s.attempts k.val b.val && s.tryStarted k.val) = false → s.canWaits k.val b.val 2 = none →
    ∃ t, exec (.mbCancel who k b) s = .next t ∧ t.bufState k.val b.val = 0 ∧ t.rd (Fd.CAN_MB_STAT_CODE k.val b.val) = Code.CANCELLED ∧ t.resp = .done ∧
      Frame s t [.can, .regs, .ic, .resp] (fun a => a = Rg.CAN_MB_STAT k.val b.val ∨ a = Rg.CAN_MB_CTRL k.val b.val)) ∧
  (∀ (s : State) (who : Who) (k : Fin 8) (b : Fin 128),
    s.passesChecks (s.issuer who) 4 (Rg.CAN_MB_CTRL k.val b.val) 2 (s.bufHeld k.val b.val) false = true → s.bufState k.val b.val ≠ 0 →
    s.attempts k.val b.val = true → s.tryStarted k.val = true → s.committedTry k.val = false →
    ∃ t, exec (.mbCancel who k b) s = .next t ∧ t.bufState k.val b.val = s.bufState k.val b.val ∧ (t.buf k.val b.val).cancelHeld = true ∧
      t.resp = .done ∧ Frame s t [.can, .regs, .ic, .resp] (fun a => a = Rg.CAN_MB_CTRL k.val b.val)) ∧
  (∀ (s : State) (who : Who) (k : Fin 8) (b : Fin 128),
    s.passesChecks (s.issuer who) 4 (Rg.CAN_MB_CTRL k.val b.val) 2 (s.bufHeld k.val b.val) false = true → s.bufState k.val b.val ≠ 0 →
    s.attempts k.val b.val = true → s.tryStarted k.val = true → s.committedTry k.val = true →
    ∃ t, exec (.mbCancel who k b) s = .next t ∧ t.bufState k.val b.val = s.bufState k.val b.val ∧ (t.buf k.val b.val).lateAbort = true ∧
      t.resp = .done ∧ Frame s t [.can, .regs, .ic, .resp] (fun a => a = Rg.CAN_MB_CTRL k.val b.val)) ∧
  (∀ (s : State) (who : Who) (k : Fin 8) (w : Word), s.passesChecks (s.issuer who) 4 (Rg.CAN_MODE k.val) w false (w.toNat % 4 == 3) = true →
    (s.canItem k.val).isSome = true →
    ∃ t, exec (.canModeWrite who k w) s = .next t ∧ t.rd (Fd.CAN_MODE_MODE k.val) = w.toNat % 4 ∧ t.canMode k.val = s.canMode k.val ∧
      t.resp = .done ∧ Frame s t [.regs, .ic, .resp] (fun a => a = Rg.CAN_MODE k.val)) ∧
  (∀ (s : State) (k : Fin 8), s.rd (Fd.CAN_MODE_MODE k.val) ≠ 0 → s.canMode k.val = 0 → (s.canAt k.val).attempt = none → (s.canAt k.val).rx = false →
    s.ringItem k.val = none →
    ∃ t, exec (.canModeChange k) s = .next t ∧ t.canMode k.val = s.rd (Fd.CAN_MODE_MODE k.val) ∧
      (t.canAt k.val).freeAt = s.now + s.nomBits k.val 11 ∧ Frame s t [.can, .regs] (fun a => a = Rg.CAN_MODE k.val)) ∧
  (∀ (s : State) (k : Fin 8), s.rd (Fd.CAN_MODE_MODE k.val) = 0 → s.canMode k.val ≠ 0 → (s.canAt k.val).attempt = none → (s.canAt k.val).rx = false →
    s.ringItem k.val = none →
    ∃ t, exec (.canModeChange k) s = .next t ∧ t.canMode k.val = 0 ∧ t.rd (Fd.CAN_STATUS_TEC k.val) = 0 ∧ t.rd (Fd.CAN_STATUS_REC k.val) = 0 ∧
      t.rd (Fd.CAN_STATUS_ESTATE k.val) = 0 ∧ (∀ b : Fin 128, s.bufTx k.val b.val = true → t.bufState k.val b.val = 0) ∧ (t.canAt k.val).gwy = [])

/-- A channel that sends and has a candidate offers the best at the bus's free time or later. At the commit point a buffer without a held
abort is COMMITTED. Lost arbitration ends the attempt, counts, and leaves the request as it was. A success after its commit point
leaves the buffer IDLE with CODE DONE and its time stamp; an error with a retransmission left makes it PENDING again with one
more used, and below bus-off shows LAST_ERR and TEC; a TEC above 255 is bus-off, which the buffer shows. A receive error shows and counts, and in NORMAL raises REC. Bus-off ends after 128 × 11 bits with the
counters 0. SETUP of an idle buffer writes its configuration; TX copies the 72 bytes and makes the request; RX without NEW waits, and with
it stores the frame and records; STATE stores 16 bytes.
Where the spec's words end it goes by the model's choices of assumptions 131, 132, 133, 134, 135, 136 and 138.
Completing with their own effect: canTxOffer, canTxCommit, canArbLost, canTxEnd, canReceiveError, busOffRecovery, canSetup, canTx, canRx, canState. -/
def Obligations.CanTransmission : Prop :=
  (∀ (s : State) (k : Fin 8) (b : Option Nat), s.canSends k.val = true → (s.canAt k.val).attempt = none → (s.canAt k.val).rx = false →
    best ((s.reach (s.canAt k.val).chooseAt).chosen k.val ((s.reach (s.canAt k.val).chooseAt).candidates k.val
      (max (s.reach (s.canAt k.val).chooseAt).now (s.canAt k.val).freeAt))) = some b →
    ∃ t, exec (.canTxOffer k) s = .next t ∧ (s.canAt k.val).chooseAt ≤ t.now ∧ (t.canAt k.val).attempt = some ⟨b, max t.now (s.canAt k.val).freeAt, none⟩ ∧
      Frame s t [.can, .now, .vt, .ptp] (fun _ => False)) ∧
  (∀ (s : State) (k : Fin 8) (b x : Nat), b < 128 → (s.canAt k.val).attempt = some ⟨some b, x, none⟩ → (s.buf k.val b).cancelHeld = false →
    ∃ t, exec (.canTxCommit k) s = .next t ∧ t.bufState k.val b = 2 ∧ (t.canAt k.val).attempt = some ⟨some b, x, some t.vt⟩ ∧
      x + (arbBits ((s.buf k.val b).word 0) * s.nomBit k.val + s.nomSample k.val) / 2 ≤ t.now ∧
      Frame s t [.can, .regs, .ep, .now, .vt, .ptp] (fun a => a = Rg.CAN_MB_STAT k.val b)) ∧
  (∀ (s : State) (k : Fin 8) (b x : Nat), b < 128 → (s.canAt k.val).attempt = some ⟨some b, x, none⟩ → (s.buf k.val b).cancelHeld = false →
    s.canWaits k.val b 2 = none →
    ∃ t, exec (.canArbLost k) s = .next t ∧ (t.canAt k.val).attempt = none ∧ (t.canAt k.val).rx = true ∧ x ≤ t.now ∧
      t.bufState k.val b = s.bufState k.val b ∧ Counted s t (Rg.CAN_EVENT k.val 14) ∧
      Frame s t [.can, .regs, .ic, .now, .vt, .ptp] (CanCount k.val 14)) ∧
  (∀ (s : State) (k : Fin 8) (ns : BitVec 32) (tdc : BitVec 8) (b x v : Nat), b < 128 → (s.canAt k.val).attempt = some ⟨some b, x, some v⟩ →
    s.canWaits k.val b 2 = none → (s.canAt k.val).win = none → s.rd (Fd.CAN_STATUS_TEC k.val) ≤ 255 →
    ∃ t, exec (.canTxEnd k 0 ns tdc) s = .next t ∧ t.bufState k.val b = 0 ∧ t.rd (Fd.CAN_MB_STAT_CODE k.val b) = Code.DONE ∧
      (t.buf k.val b).time = t.vt ∧ (t.canAt k.val).attempt = none ∧ x + ns.toNat ≤ t.now ∧ Counted s t (Rg.CAN_EVENT k.val 0) ∧
      t.rd (Fd.CAN_STATUS_TEC k.val) = s.rd (Fd.CAN_STATUS_TEC k.val) - 1 ∧
      Frame s t [.can, .regs, .ic, .now, .vt, .ptp] (fun a => a = Rg.CAN_MB_STAT k.val b ∨ a = Rg.CAN_STATUS k.val ∨ a = Rg.CAN_TDC k.val ∨ CanCount k.val 0 a)) ∧
  (∀ (s : State) (k : Fin 8) (e : Fin 7) (ns : BitVec 32) (tdc : BitVec 8) (b x : Nat) (v : Option Nat), b < 128 → e ≠ 0 →
    (s.canAt k.val).attempt = some ⟨some b, x, v⟩ → s.rd (Fd.CAN_STATUS_TEC k.val) + 8 ≤ 255 → s.busOff k.val = false →
    s.canWaits k.val b 2 = none → (s.buf k.val b).lateAbort = false → (s.buf k.val b).cancelHeld = false → s.flag (Fd.CAN_MB_CFG_REPEAT k.val b) = false →
    s.rd (Fd.CAN_MB_CFG_RETRY k.val b) = 31 ∨ s.rd (Fd.CAN_MB_STAT_RETRIES k.val b) < s.rd (Fd.CAN_MB_CFG_RETRY k.val b) →
    ∃ t, exec (.canTxEnd k e ns tdc) s = .next t ∧ t.bufState k.val b = 1 ∧
      t.rd (Fd.CAN_MB_STAT_RETRIES k.val b) = min 15 (s.rd (Fd.CAN_MB_STAT_RETRIES k.val b) + 1) ∧ t.rd (Fd.CAN_STATUS_LAST_ERR k.val) = e.val ∧
      t.rd (Fd.CAN_STATUS_TEC k.val) = s.rd (Fd.CAN_STATUS_TEC k.val) + (if s.tecCounts k.val ⟨some b, x, v⟩ e.val then 8 else 0) ∧
      (t.canAt k.val).attempt = none ∧ Counted s t (Rg.CAN_EVENT k.val (errEvent e.val)) ∧ x + ns.toNat ≤ t.now ∧
      Frame s t [.can, .regs, .ic, .now, .vt, .ptp]
        (fun a => a = Rg.CAN_MB_STAT k.val b ∨ a = Rg.CAN_STATUS k.val ∨ a = Rg.CAN_TDC k.val ∨ CanCount k.val (errEvent e.val) a)) ∧
  (∀ (s : State) (k : Fin 8) (e : Fin 7) (ns : BitVec 32) (tdc : BitVec 8) (b x v : Nat), b < 128 → e ≠ 0 → e ≠ 3 →
    (s.canAt k.val).attempt = some ⟨some b, x, some v⟩ → 255 < s.rd (Fd.CAN_STATUS_TEC k.val) + 8 → s.busOff k.val = false →
    s.bufTx k.val b = true → s.canWaits k.val b 2 = none → (s.buf k.val b).lateAbort = false → (s.buf k.val b).cancelHeld = false →
    s.rd (Fd.CAN_MB_CFG_RETRY k.val b) = 31 ∨ s.rd (Fd.CAN_MB_STAT_RETRIES k.val b) < s.rd (Fd.CAN_MB_CFG_RETRY k.val b) →
    ∃ t, exec (.canTxEnd k e ns tdc) s = .next t ∧ t.busOff k.val = true ∧ t.bufState k.val b = 1 ∧
      t.flag (Fd.CAN_MB_STAT_BUSOFF_SEEN k.val b) = true ∧ t.rd (Fd.CAN_MB_STAT_RETRIES k.val b) = min 15 (s.rd (Fd.CAN_MB_STAT_RETRIES k.val b) + 1) ∧
      (t.canAt k.val).attempt = none ∧ (t.canAt k.val).busOffAt = t.now ∧ Counted s t (Rg.CAN_EVENT k.val 7)) ∧
  (∀ (s : State) (k : Fin 8) (e : Fin 7) (eight : Bool), s.canMode k.val ≠ 0 → s.busOff k.val = false → s.trxUp k.val = true →
    (s.canAt k.val).attempt = none → e ≠ 0 → e ≠ 3 → s.rd (Fd.CAN_STATUS_TEC k.val) ≤ 255 →
    ∃ t, exec (.canReceiveError k e eight) s = .next t ∧ t.rd (Fd.CAN_STATUS_LAST_ERR k.val) = e.val ∧ Counted s t (Rg.CAN_EVENT k.val (errEvent e.val)) ∧
      t.rd (Fd.CAN_STATUS_REC k.val) = (if s.canMode k.val = 1 then min 255 (s.rd (Fd.CAN_STATUS_REC k.val) + (if eight then 8 else 1)) else s.rd (Fd.CAN_STATUS_REC k.val)) ∧
      Frame s t [.can, .regs, .ic] (fun a => a = Rg.CAN_STATUS k.val ∨ CanCount k.val (errEvent e.val) a)) ∧
  (∀ (s : State) (k : Fin 8), s.busOff k.val = true → s.trxUp k.val = true →
    ∃ t, exec (.busOffRecovery k) s = .next t ∧ t.rd (Fd.CAN_STATUS_ESTATE k.val) = 0 ∧ t.rd (Fd.CAN_STATUS_TEC k.val) = 0 ∧
      t.rd (Fd.CAN_STATUS_REC k.val) = 0 ∧ (s.canAt k.val).busOffAt + s.nomBits k.val 1408 ≤ t.now ∧ (t.canAt k.val).freeAt = t.now ∧
      Frame s t [.can, .regs, .ic, .now, .vt, .ptp] (fun a => a = Rg.CAN_STATUS k.val)) ∧
  (∀ (s : State) (e : Fin 4096) (tag : BitVec 16) (k b : Nat) (c : Cmd), CanReady s e.val tag.toNat 1 k b c → s.bufState k b = 0 → c.f 0x11 1 ≤ 2 →
    ∃ t, exec (.canSetup e tag) s = .next t ∧ t.bufEn k b = decide (c.f 0x11 1 ≠ 2) ∧ t.bufTx k b = decide (c.f 0x11 1 = 1) ∧
      t.rd (Fd.CAN_MB_CFG_RETRY k b) = c.f 0x12 1 % 32 ∧ (t.reg (Rg.CAN_MB_FILT k b)).toNat = c.f 0x14 4 ∧ (t.reg (Rg.CAN_MB_MASK k b)).toNat = c.f 0x18 4 ∧
      t.flag (Fd.CAN_MB_STAT_NEW k b) = false ∧ (t.buf k b).shadow = none ∧ Recorded s t c Code.DONE 0 s.vt c.lateSeen ∧ OnlyRecord s t c ∧
      Frame s t [.can, .regs, .ep, .mem, .wg, .ic] (fun a => a = Rg.CAN_MB_CFG k b ∨ a = Rg.CAN_MB_FILT k b ∨ a = Rg.CAN_MB_MASK k b ∨ a = Rg.CAN_MB_STAT k b)) ∧
  (∀ (s : State) (e : Fin 4096) (tag : BitVec 16) (k b : Nat) (c : Cmd), CanReady s e.val tag.toNat 2 k b c → s.bufTx k b = true → s.bufEn k b = true →
    s.bufState k b = 0 → s.poisoned (c.f 0x18 8) 72 = false → c.timed = false → s.flag (Fd.CAN_MB_CFG_REPEAT k b) = false →
    s.headerCode k (leNat (s.bytes (c.f 0x18 8) 4)) (leNat (s.bytes (c.f 0x18 8 + 4) 4)) = Code.DONE →
    ∃ t, exec (.canTx e tag) s = .next t ∧ t.bufState k b = 1 ∧ (t.buf k b).words = imageWords (s.bytes (c.f 0x18 8) 72) ∧
      t.cmdOf e.val tag.toNat = some { c with phase := .waiting, note := b } ∧ t.ep.eps = s.ep.eps ∧
      t.mem = s.mem) ∧
  (∀ (s : State) (e : Fin 4096) (tag : BitVec 16) (k b : Nat) (c : Cmd), CanReady s e.val tag.toNat 3 k b c → s.bufTx k b = false →
    s.bufEn k b = true → s.canWaits k b 3 = none → s.flag (Fd.CAN_MB_STAT_NEW k b) = false →
    ∃ t, exec (.canRx e tag) s = .next t ∧ t.cmdOf e.val tag.toNat = some { c with phase := .waiting, note := b } ∧ t.ep.eps = s.ep.eps ∧
      Frame s t [.ep, .ic] (fun _ => False)) ∧
  (∀ (s : State) (e : Fin 4096) (tag : BitVec 16) (k b : Nat) (c : Cmd), CanReady s e.val tag.toNat 3 k b c → s.bufTx k b = false →
    s.bufEn k b = true → s.canWaits k b 3 = none → s.flag (Fd.CAN_MB_STAT_NEW k b) = true → c.phase = .passed →
    recordAt s c + 16 ≤ c.f 0x18 8 ∨ c.f 0x18 8 + 80 ≤ recordAt s c →
    ∃ t, exec (.canRx e tag) s = .next t ∧ t.bytes (c.f 0x18 8) 80 = (s.buf k b).image ++ leBytes 8 (s.buf k b).time ∧
      Recorded s t c Code.DONE (s.rd (Fd.CAN_MB_STAT_OVR k b)) s.vt c.lateSeen ∧ t.flag (Fd.CAN_MB_STAT_NEW k b) = false ∧
      t.flag (Fd.CAN_MB_STAT_OVR k b) = false ∧
      (∀ x, (x < recordAt s c ∨ recordAt s c + 16 ≤ x) → (x < c.f 0x18 8 ∨ c.f 0x18 8 + 80 ≤ x) → t.byte x = s.byte x) ∧
      Frame s t [.ep, .mem, .wg, .regs, .ic] (fun a => a = Rg.CAN_MB_STAT k b)) ∧
  (∀ (s : State) (e : Fin 4096) (tag : BitVec 16) (c : Cmd), s.passed e.val tag.toNat 1 4 = some c →
    recordAt s c + 16 ≤ c.f 0x18 8 ∨ c.f 0x18 8 + 16 ≤ recordAt s c →
    ∃ t, exec (.canState e tag) s = .next t ∧ (t.bytes (c.f 0x18 8) 2) = leBytes 1 (s.canStatusWord (s.boundCan c.ep) % 4) ++ leBytes 1 (s.canMode (s.boundCan c.ep)) ∧
      t.bytes (c.f 0x18 8 + 8) 8 = leBytes 8 s.vt ∧ Recorded s t c Code.DONE 0 s.vt c.lateSeen ∧
      (∀ x, (x < recordAt s c ∨ recordAt s c + 16 ≤ x) → (x < c.f 0x18 8 ∨ c.f 0x18 8 + 16 ≤ x) → t.byte x = s.byte x) ∧
      Frame s t [.ep, .mem, .wg, .ic] (fun _ => False))

/-- TT_ENABLE with EN, where the write passes its checks and every item fits, sets EN with FIT_VALID 0, in step at once without REF; with an
item that does not fit it leaves the configuration and shows the first such item in FIT. The start of a window, the schedule
running on vehicle time, comes at its place in the matrix and shows CYCLE and WINDOW; an exclusive one notes whether its buffer waits. The end of a window
whose waiting buffer did not succeed counts it as missed, and with CATCH_UP frees the buffer to send outside. A lost reference clears SYNC
and counts, 1.1 × CYCLE_US after the last cycle start or later.
Where the spec's words end it goes by the model's choices of assumptions 132 and 139.
Completing with their own effect: ttEnable, ttWindowStart, ttWindowMissed, refLost. -/
def Obligations.CanSchedule : Prop :=
  (∀ (s : State) (who : Who) (k : Fin 8) (w : Word), s.passesChecks (s.issuer who) 4 (Rg.CAN_TT_CFG k.val) w false false = true → tbit w.toNat 31 = true →
    s.ttOn k.val = false → s.ttMisfit k.val w.toNat = none →
    ∃ t, exec (.ttEnable who k w) s = .next t ∧ t.ttOn k.val = true ∧ t.flag (Fd.CAN_TT_STATUS_FIT_VALID k.val) = false ∧
      t.ttSync k.val = !tbit w.toNat 30 ∧ t.rd (Fd.CAN_TT_CFG_CYCLE_US k.val) = w.toNat % 2 ^ 20 ∧ t.resp = .done ∧
      Frame s t [.regs, .ic, .resp] (fun a => a = Rg.CAN_TT_CFG k.val ∨ a = Rg.CAN_TT_STATUS k.val)) ∧
  (∀ (s : State) (who : Who) (k : Fin 8) (w : Word) (i : Item), s.passesChecks (s.issuer who) 4 (Rg.CAN_TT_CFG k.val) w false false = true → tbit w.toNat 31 = true →
    s.ttOn k.val = false → s.ttMisfit k.val w.toNat = some i →
    ∃ t, exec (.ttEnable who k w) s = .next t ∧ t.ttOn k.val = false ∧ t.flag (Fd.CAN_TT_STATUS_FIT_VALID k.val) = true ∧
      t.rd (Fd.CAN_TT_STATUS_FIT k.val) = (i.n 1 * 64 + i.n 2) % 1024 ∧ t.reg (Rg.CAN_TT_CFG k.val) = s.reg (Rg.CAN_TT_CFG k.val)) ∧
  (∀ (s : State) (k : Fin 8) (cy : Fin 16) (wi : Fin 64) (i : Item), s.ttItem k.val cy.val wi.val = some i → i.n 3 = 0 → s.ttRuns k.val = true →
    s.canMode k.val ≠ 0 → cy.val < s.ttCycles k.val → s.ttRef k.val = false → (s.canAt k.val).win = none → i.n 4 < 128 →
    s.flag (Fd.CAN_MB_CFG_REPEAT k.val (i.n 4)) = false →
    ∃ t, exec (.ttWindowStart k cy wi) s = .next t ∧
      t.now = s.now + ttDistance (s.ttCycleNs k.val) (s.ttCycles k.val) (s.ttPlace k.val s.now).1 (s.ttPlace k.val s.now).2 i ∧
      (t.canAt k.val).win = some ⟨cy.val, wi.val, i.n 4, t.now + i.n 7, tbit (i.n 5) 0, s.bufState k.val (i.n 4) != 0, false⟩ ∧
      t.rd (Fd.CAN_TT_STATUS_CYCLE k.val) = cy.val ∧ t.rd (Fd.CAN_TT_STATUS_WINDOW k.val) = wi.val ∧
      Frame s t [.can, .regs, .now, .vt, .ptp] (fun a => a = Rg.CAN_TT_STATUS k.val)) ∧
  (∀ (s : State) (k : Fin 8) (cy : Fin 16) (wi : Fin 64) (i : Item), s.ttItem k.val cy.val wi.val = some i → i.n 3 ≠ 0 → s.ttRuns k.val = true →
    cy.val < s.ttCycles k.val → s.ttRef k.val = false → (s.canAt k.val).win = none →
    ∃ t, exec (.ttWindowStart k cy wi) s = .next t ∧
      t.now = s.now + ttDistance (s.ttCycleNs k.val) (s.ttCycles k.val) (s.ttPlace k.val s.now).1 (s.ttPlace k.val s.now).2 i ∧
      (t.canAt k.val).win = none ∧ t.rd (Fd.CAN_TT_STATUS_CYCLE k.val) = cy.val ∧ t.rd (Fd.CAN_TT_STATUS_WINDOW k.val) = wi.val ∧
      Frame s t [.regs, .now, .vt, .ptp] (fun a => a = Rg.CAN_TT_STATUS k.val)) ∧
  (∀ (s : State) (k : Fin 8) (cy : Fin 16) (wi : Fin 64) (x : TtWin), (s.canAt k.val).win = some x → x.cycle = cy.val → x.window = wi.val →
    x.pend = true → x.ok = false →
    ∃ t, exec (.ttWindowMissed k cy wi) s = .next t ∧ x.fin ≤ t.now ∧ (t.canAt k.val).win = none ∧ Counted s t (Rg.CAN_EVENT k.val 10) ∧
      (t.buf k.val x.buf).catchUp = x.catchUp ∧ Frame s t [.can, .regs, .ic, .now, .vt, .ptp] (CanCount k.val 10)) ∧
  (∀ (s : State) (k : Fin 8), s.ttOn k.val = true → s.ttRef k.val = true → s.ttSync k.val = true → (s.canAt k.val).win = none →
    ∃ t, exec (.refLost k) s = .next t ∧ t.ttSync k.val = false ∧ Counted s t (Rg.CAN_EVENT k.val 11) ∧
      (s.canAt k.val).cycleAt + 11 * s.ttCycleNs k.val / 10 ≤ t.now ∧
      Frame s t [.can, .regs, .ic, .now, .vt, .ptp] (fun a => a = Rg.CAN_TT_STATUS k.val ∨ CanCount k.val 11 a))

/-- `a` is a register of ring medium `m`. -/
abbrev MedReg (m a : Nat) : Prop :=
  a = Rg.NM_MED_STATUS m ∨ a = Rg.NM_MED_PRESENT_LO m ∨ a = Rg.NM_MED_PRESENT_HI m ∨ a = Rg.NM_MED_READY_LO m ∨ a = Rg.NM_MED_READY_HI m ∨
  a = Rg.NM_MED_SAT m ∨ (Rg.NM_MED_EVENT m 0 ≤ a ∧ a ≤ Rg.NM_MED_EVENT m 7)
/-- A Curfew frame from node `a` has the sender's identifier and DLC 8 on CAN, its source address on T1S (R289). -/
abbrev CurfewFrom (m src dlc a : Nat) : Prop := if m < 8 then src % 64 = a ∧ dlc = 8 else src = t1sSource m a
/-- The 8 bytes and the sender of a Curfew frame are well formed (R290). -/
abbrev CurfewOk (m src dlc : Nat) (data : List Byte) : Prop :=
  curfewKind (beNat (sl data 2 1)) = true ∧ beNat (sl data 0 1) < 64 ∧ beNat (sl data 1 1) < 64 ∧ (∀ x ∈ data.drop 3, x = 0) ∧
  CurfewFrom m src dlc (beNat (sl data 0 1))
/-- The commit point of a medium in WAIT_SLEEP has not come. -/
abbrev BeforeCommit (s : State) (m : Nat) : Prop := s.medState m = 3 → s.now / 5 < ((s.medium m).bellAt + wbsTime) / 5

/-- In RING, a well-formed RING frame addressed to the node gives it the token with RING_T running, and notes its sender as present and as
ready or not; an ill-formed frame is counted and moves nothing; a bell under consent begins WAIT_SLEEP. The RING timer takes the token, or
with the token sends the bell where every present node is ready under consent, else a RING frame to the successor. A skip timeout drops the
node and addresses the next. A lost ring starts again; a failed send in RING enters LIMP; a RING frame sent passes the token and
starts SKIP_T. LIMP sends its frame each ERROR_T, and sleeps after an ERROR_T of consent. Consent withdrawn in RING sends WAKE, in WAIT_SLEEP
before the commit point it starts the ring again; consent given is timed. The commit
puts the medium in BUS_SLEEP, its transceiver in SLEEP, WBS_T after the bell.
Where the spec's words end it goes by the model's choices of assumptions 140 and 141.
Completing with their own effect: curfewFrameReceived, curfewRingTimer, curfewSkipTimeout, curfewRingLost, curfewSendFail, curfewFrameSent, curfewLimpSend, curfewLimpSleep, consentWrite, curfewCommit. -/
def Obligations.CurfewRing : Prop :=
  (∀ (s : State) (m : Fin 10) (src : BitVec 48) (dlc : Fin 16) (a b f : Byte), s.medState m.val = 1 → s.isCurfew m.val src.toNat = true → a.toNat < 64 →
    b.toNat = s.medNode m.val → b.toNat < 64 → a.toNat ≠ b.toNat → CurfewFrom m.val src.toNat dlc.val a.toNat → f = 1 ∨ f = 3 → (s.medium m.val).skip = none →
    ∃ t, exec (.curfewFrameReceived m src ⟨dlc, [a, b, f, 0, 0, 0, 0, 0]⟩) s = .next t ∧ t.token m.val = true ∧
      (t.medium m.val).ringT = some (s.now + ringTime) ∧ t.present m.val = setBit (s.present m.val) a.toNat ∧
      t.ready m.val = (if f = 3 then setBit (s.ready m.val) a.toNat else clrBit (s.ready m.val) a.toNat) ∧ t.medState m.val = 1 ∧
      Frame s t [.nm, .regs] (MedReg m.val)) ∧
  (∀ (s : State) (m : Fin 10) (src : BitVec 48) (dlc : Fin 16) (data : List Byte), s.medState m.val ≠ 0 → s.medState m.val ≠ 4 →
    BeforeCommit s m.val → s.isCurfew m.val src.toNat = true → ¬ CurfewOk m.val src.toNat dlc.val data →
    ∃ t, exec (.curfewFrameReceived m src ⟨dlc, data⟩) s = .next t ∧ Counted s t (Rg.NM_MED_EVENT m.val 0) ∧
      Frame s t [.regs, .ic] (fun a => a = Rg.NM_MED_EVENT m.val 0 ∨ a = Rg.NM_MED_SAT m.val)) ∧
  (∀ (s : State) (m : Fin 10) (src : BitVec 48) (dlc : Fin 16) (a b : Byte), s.medState m.val = 1 ∨ s.medState m.val = 2 → s.isCurfew m.val src.toNat = true →
    a.toNat < 64 → b.toNat < 64 → a.toNat ≠ s.medNode m.val → CurfewFrom m.val src.toNat dlc.val a.toNat → s.medConsent m.val = true → m.val < 10 →
    ∃ t, exec (.curfewFrameReceived m src ⟨dlc, [a, b, 7, 0, 0, 0, 0, 0]⟩) s = .next t ∧ t.medState m.val = 3 ∧ t.token m.val = false ∧
      (t.medium m.val).bellAt = s.now ∧ (t.medium m.val).out = [] ∧ Counted s t (Rg.NM_MED_EVENT m.val 7) ∧
      Frame s t [.nm, .regs, .ic] (MedReg m.val)) ∧
  (∀ (s : State) (m : Fin 10) (e : Nat), (s.medium m.val).ringT = some e → s.medState m.val = 1 → s.token m.val = true →
    ∃ t, exec (.curfewRingTimer m) s = .next t ∧ e ≤ t.now ∧ (t.medium m.val).ringT = none ∧
      (t.medium m.val).out = (s.medium m.val).out ++
        [⟨s.successor m.val, if s.bellAllowed m.val then 7 else if s.medConsent m.val then 3 else 1, false, 0, t.now, 0⟩] ∧
      Frame s t [.nm, .now, .vt, .ptp] (fun _ => False)) ∧
  (∀ (s : State) (m : Fin 10) (e : Nat), (s.medium m.val).ringT = some e → s.medState m.val = 1 → s.token m.val = false →
    ∃ t, exec (.curfewRingTimer m) s = .next t ∧ e ≤ t.now ∧ t.token m.val = true ∧ (t.medium m.val).ringT = some (t.now + ringTime) ∧
      Frame s t [.nm, .regs, .now, .vt, .ptp] (fun a => a = Rg.NM_MED_STATUS m.val)) ∧
  (∀ (s : State) (m : Fin 10) (n e : Nat), n < 64 → (s.medium m.val).skip = some (n, e) → s.medState m.val = 1 →
    ∃ t, exec (.curfewSkipTimeout m) s = .next t ∧ e ≤ t.now ∧ (t.medium m.val).skip = none ∧ t.present m.val = clrBit (s.present m.val) n ∧
      t.ready m.val = clrBit (s.ready m.val) n ∧ (t.medium m.val).out.length = (s.medium m.val).out.length + 1 ∧
      Counted s t (Rg.NM_MED_EVENT m.val 2) ∧ Frame s t [.nm, .regs, .ic, .now, .vt, .ptp] (MedReg m.val)) ∧
  (∀ (s : State) (m : Fin 10), s.medState m.val = 1 →
    ∃ t, exec (.curfewRingLost m) s = .next t ∧ t.medState m.val = 1 ∧ t.token m.val = false ∧ (s.medium m.val).ringSeen + errorTime ≤ t.now ∧
      (t.medium m.val).out = [⟨s.medNode m.val, 0x10, true, 0, t.now, 0⟩] ∧ Counted s t (Rg.NM_MED_EVENT m.val 3) ∧
      Frame s t [.nm, .regs, .ic, .now, .vt, .ptp] (MedReg m.val)) ∧
  (∀ (s : State) (m : Fin 10) (f : MedFrame) (rest : List MedFrame), (s.medium m.val).out = f :: rest → m.val < 8 → f.st = 2 → s.medState m.val = 1 →
    ∃ t, exec (.curfewSendFail m) s = .next t ∧ t.medState m.val = 2 ∧ t.token m.val = false ∧ (t.medium m.val).out = [] ∧
      (t.medium m.val).limpAt = s.now ∧ Counted s t (Rg.NM_MED_EVENT m.val 4) ∧ Frame s t [.nm, .regs, .ic] (MedReg m.val)) ∧
  (∀ (s : State) (m : Fin 10) (f : MedFrame) (rest : List MedFrame), (s.medium m.val).out = f :: rest → f.st = 1 ∨ 8 ≤ m.val → f.flags = 1 ∨ f.flags = 3 →
    f.next ≠ s.medNode m.val →
    ∃ t, exec (.curfewFrameSent m) s = .next t ∧ t.token m.val = false ∧ (t.medium m.val).skip = some (f.next, t.now + skipTime) ∧
      (t.medium m.val).out = rest ∧ (t.medium m.val).ringSeen = t.now ∧ (t.medium m.val).last = s.curfewBytes m.val f ∧
      (8 ≤ m.val → f.at_ ≤ t.now) ∧ Frame s t [.nm, .regs, .now, .vt, .ptp] (fun a => a = Rg.NM_MED_STATUS m.val)) ∧
  (∀ (s : State) (m : Fin 10), s.medState m.val = 2 →
    ∃ t, exec (.curfewLimpSend m) s = .next t ∧ (s.medium m.val).limpAt + errorTime ≤ t.now ∧ (t.medium m.val).limpAt = t.now ∧
      (t.medium m.val).out = (s.medium m.val).out ++ [⟨s.medNode m.val, if s.medConsent m.val then 0xA else 8, false, 0, t.now, 0⟩] ∧
      Frame s t [.nm, .now, .vt, .ptp] (fun _ => False)) ∧
  (∀ (s : State) (m : Fin 10), s.medState m.val = 2 → s.medConsent m.val = true →
    ∃ t, exec (.curfewLimpSleep m) s = .next t ∧ t.medState m.val = 3 ∧ (s.medium m.val).consentAt + errorTime ≤ t.now ∧
      (t.medium m.val).bellAt = t.now ∧ Frame s t [.nm, .regs, .now, .vt, .ptp] (fun a => a = Rg.NM_MED_STATUS m.val)) ∧
  (∀ (s : State) (who : Who) (r : Fin 10) (w : Word) (m : Nat), s.passesChecks (s.issuer who) 4 (Rg.NM_RING_CTRL r.val) w false false = true →
    (s.items 0x0D01).any (fun i => i.n 0 == r.val) = true → s.consent r.val = true → tbit w.toNat 31 = false → m < 10 → m ∈ s.mediaOf r.val → s.medState m = 1 →
    ∃ t, exec (.consentWrite who r w) s = .next t ∧ t.consent r.val = false ∧
      (t.medium m).out = (s.medium m).out ++ [⟨s.medNode m, 0x10, false, 0, s.now, 0⟩] ∧ Counted s t (Rg.NM_MED_EVENT m 5) ∧ t.resp = .done) ∧
  (∀ (s : State) (who : Who) (r : Fin 10) (w : Word) (m : Nat), s.passesChecks (s.issuer who) 4 (Rg.NM_RING_CTRL r.val) w false false = true →
    (s.items 0x0D01).any (fun i => i.n 0 == r.val) = true → s.consent r.val = true → tbit w.toNat 31 = false → m < 10 → m ∈ s.mediaOf r.val →
    s.medState m = 3 → BeforeCommit s m →
    ∃ t, exec (.consentWrite who r w) s = .next t ∧ t.medState m = 1 ∧ (t.medium m).out = [⟨s.medNode m, 0x10, true, 0, s.now, 0⟩] ∧
      Counted s t (Rg.NM_MED_EVENT m 5) ∧ t.resp = .done) ∧
  (∀ (s : State) (who : Who) (r : Fin 10) (w : Word), s.passesChecks (s.issuer who) 4 (Rg.NM_RING_CTRL r.val) w false false = true →
    (s.items 0x0D01).any (fun i => i.n 0 == r.val) = true → s.consent r.val = false → tbit w.toNat 31 = true →
    ∃ t, exec (.consentWrite who r w) s = .next t ∧ t.consent r.val = true ∧ (∀ m ∈ s.mediaOf r.val, (t.medium m).consentAt = s.now ∧ t.medState m = s.medState m) ∧
      t.resp = .done ∧ Frame s t [.nm, .regs, .ic, .resp] (fun a => a = Rg.NM_RING_CTRL r.val)) ∧
  (∀ (s : State) (m : Fin 10), s.medState m.val = 3 →
    ∃ t, exec (.curfewCommit m) s = .next t ∧ t.medState m.val = 4 ∧ t.token m.val = false ∧ (s.medium m.val).bellAt + wbsTime ≤ t.now ∧
      (m.val < 8 → t.trxUp m.val = false) ∧
      ((s.canAt m.val).attempt = none →
        Frame s t [.nm, .can, .regs, .now, .vt, .ptp] (fun a => a = Rg.NM_MED_STATUS m.val ∨ (m.val < 8 ∧ a = Rg.NM_TRX_CTRL m.val))))

/-- A transceiver without its heartbeat falls to SLEEP with FS set and a wake armed, 2 s after the last one. On a channel in no ring a write of
REQ puts it to SLEEP, where a running attempt's request is PENDING again, and one that clears REQ back to NORMAL. A detected wake sets its bit of AO_WAKE_CAUSE, and in Active returns the transceiver to NORMAL; a frame that
wakes nothing moves the error counter of a selective wake. A T1S wake starts its sleeping medium after the wake pattern. An Ethernet sleep request of an
awake port is pending with RESULT BUSY; a wake request cancels a pending sleep, and starts the wake of a sleeping port, forwarded to the ports of FWD. The low-power entry
completes with DONE; after 20 ms without it the port is awake with SLEEP_REFUSED. A partner's sleep request is accepted where ACCEPT_REMOTE
is 1; its wake is latched and wakes the port; 500 ms without a link show WAKE_NO_LINK.
Where the spec's words end it goes by the model's choices of assumptions 142, 143 and 144.
Completing with their own effect: transceiverFailsafe, trxSleepWrite, canWake, selectiveWakeFrame, t1sWake, ethSleepRequest, ethWakeRequest, ethLowPowerEntry, ethSleepTimeout, ethRemoteSleep, ethWakeDetect, ethWakeNoLink. -/
def Obligations.MediaSleep : Prop :=
  (∀ (s : State) (k : Fin 8), s.trxUp k.val = true → s.dev ≠ .active ∨ s.gated 12 = true →
    ∃ t, exec (.transceiverFailsafe k) s = .next t ∧ t.trxUp k.val = false ∧ t.flag (Fd.NM_TRX_CTRL_FS k.val) = true ∧
      (t.trx k.val).armed = (if s.rd (Fd.NM_TRX_CTRL_WAKE_MODE k.val) = 0 then 1 else s.rd (Fd.NM_TRX_CTRL_WAKE_MODE k.val)) ∧
      t.rd (Fd.NM_TRX_CTRL_WAKE_MODE k.val) = s.rd (Fd.NM_TRX_CTRL_WAKE_MODE k.val) ∧ (s.trx k.val).beatAt + 2 * sec ≤ t.now ∧
      (t.trx k.val).sleepAt = t.now ∧
      ((s.canAt k.val).attempt = none → Frame s t [.nm, .can, .regs, .ic, .now, .vt, .ptp] (fun a => a = Rg.NM_TRX_CTRL k.val))) ∧
  (∀ (s : State) (who : Who) (k : Fin 8) (w : Word), s.passesChecks (s.issuer who) 4 (Rg.NM_TRX_CTRL k.val) w false (getBits w.toNat 9 8 == 3) = true →
    s.ringItem k.val = none → s.trxUp k.val = true → s.medState k.val = 0 → tbit w.toNat 10 = true →
    ∃ t, exec (.trxSleepWrite who k w) s = .next t ∧ t.rd (Fd.NM_TRX_CTRL_STATE k.val) = 1 ∧ (t.trx k.val).sleepAt = s.now ∧ (t.trx k.val).fec = 0 ∧
      (t.trx k.val).armed = getBits w.toNat 9 8 ∧ t.rd (Fd.NM_TRX_CTRL_WAKE_MODE k.val) = getBits w.toNat 9 8 ∧ t.resp = .done ∧
      ((s.canAt k.val).attempt = none → Frame s t [.nm, .can, .regs, .ic, .resp] (fun a => a = Rg.NM_TRX_CTRL k.val))) ∧
  (∀ (s : State) (who : Who) (k : Fin 8) (w : Word) (b x : Nat) (v : Option Nat),
    s.passesChecks (s.issuer who) 4 (Rg.NM_TRX_CTRL k.val) w false (getBits w.toNat 9 8 == 3) = true →
    s.ringItem k.val = none → s.trxUp k.val = true → s.medState k.val = 0 → tbit w.toNat 10 = true →
    (s.canAt k.val).attempt = some ⟨some b, x, v⟩ → b < 128 → (s.buf k.val b).lateAbort = false → (s.buf k.val b).cancelHeld = false →
    ∃ t, exec (.trxSleepWrite who k w) s = .next t ∧ (t.canAt k.val).attempt = none ∧ t.bufState k.val b = 1) ∧
  (∀ (s : State) (who : Who) (k : Fin 8) (w : Word), s.passesChecks (s.issuer who) 4 (Rg.NM_TRX_CTRL k.val) w false (getBits w.toNat 9 8 == 3) = true →
    s.ringItem k.val = none → s.rd (Fd.NM_TRX_CTRL_STATE k.val) = 1 → s.medState k.val = 0 → tbit w.toNat 10 = false →
    wakeFields w.toNat = wakeFields (s.reg (Rg.NM_TRX_CTRL k.val)).toNat →
    ∃ t, exec (.trxSleepWrite who k w) s = .next t ∧ t.trxUp k.val = true ∧ (t.canAt k.val).freeAt = s.now + s.nomBits k.val 11 ∧
      (t.canAt k.val).rx = false ∧ t.resp = .done ∧ Frame s t [.nm, .can, .regs, .ic, .resp] (fun a => a = Rg.NM_TRX_CTRL k.val)) ∧
  (∀ (s : State) (k : Fin 8) (how : CanWakeBy), s.detects k.val how = true → s.dev = .active → s.medState k.val ≠ 4 → s.ao.sleepDue = none →
    ∃ t, exec (.canWake k how) s = .next t ∧ t.trxUp k.val = true ∧ t.flag (bitOf Rg.AO_WAKE_CAUSE (16 + k.val)) = true ∧
      (t.canAt k.val).freeAt = s.now + s.nomBits k.val 11 ∧
      Frame s t [.regs, .nm, .can, .ic] (fun a => a = Rg.NM_TRX_CTRL k.val ∨ a = Rg.AO_WAKE_CAUSE)) ∧
  (∀ (s : State) (k : Fin 8) (how : CanWakeBy), s.detects k.val how = true → s.dev = .parked ∨ s.dev = .standby → s.ao.underVolt = false →
    ∃ t, exec (.canWake k how) s = .next t ∧ t.ao.booting = true ∧ t.flag (bitOf Rg.AO_WAKE_CAUSE (16 + k.val)) = true ∧
      Frame s t [.regs, .ao, .ic] (fun a => a = Rg.AO_WAKE_CAUSE)) ∧
  (∀ (s : State) (k : Fin 8) (err : Bool), s.rd (Fd.NM_TRX_CTRL_STATE k.val) = 1 → (s.trx k.val).armed = 2 →
    ∃ t, exec (.selectiveWakeFrame k err) s = .next t ∧
      (t.trx k.val).fec = (if err then (if s.flag (Fd.NM_TRX_CTRL_FEC_WAKE k.val) then min 31 ((s.trx k.val).fec + 1) else (s.trx k.val).fec + 1)
        else (s.trx k.val).fec - 1) ∧
      (t.trx k.val).sleepAt = (s.trx k.val).sleepAt ∧ Frame s t [.nm] (fun _ => False)) ∧
  (∀ (s : State) (k : Fin 2), s.medState (8 + k.val) = 4 → s.dev = .active → s.ao.sleepDue = none →
    ∃ t, exec (.t1sWake k) s = .next t ∧ t.medState (8 + k.val) = 1 ∧ t.flag (bitOf Rg.AO_WAKE_CAUSE (24 + k.val)) = true ∧
      (t.medium (8 + k.val)).out = [⟨s.medNode (8 + k.val), 0x10, true, 0, s.now + 2 * ms, 0⟩] ∧
      Frame s t [.nm, .regs, .ic] (fun a => a = Rg.NM_MED_STATUS (8 + k.val) ∨ a = Rg.AO_WAKE_CAUSE)) ∧
  (∀ (s : State) (who : Who) (p : Fin 24), s.passesChecks (s.issuer who) 4 (Rg.NM_ETH_CTRL p.val) (s.ethWord p.val 1) false false = true → s.ethState p.val = 0 →
    ∃ t, exec (.ethSleepRequest who p) s = .next t ∧ t.ethState p.val = 1 ∧ t.rd (Fd.NM_ETH_STATUS_RESULT p.val) = Code.BUSY ∧
      t.ethAt p.val = s.now ∧ t.resp = .done ∧ Frame s t [.nm, .regs, .ic, .resp] (fun a => a = Rg.NM_ETH_STATUS p.val ∨ a = Rg.NM_ETH_CTRL p.val)) ∧
  (∀ (s : State) (who : Who) (p : Fin 24), s.passesChecks (s.issuer who) 4 (Rg.NM_ETH_CTRL p.val) (s.ethWord p.val 2) false false = true → s.ethState p.val = 1 →
    ∃ t, exec (.ethWakeRequest who p) s = .next t ∧ t.ethState p.val = 0 ∧ t.rd (Fd.NM_ETH_STATUS_RESULT p.val) = Code.CANCELLED ∧ t.resp = .done ∧
      Frame s t [.regs, .ic, .resp] (fun a => a = Rg.NM_ETH_STATUS p.val ∨ a = Rg.NM_ETH_CTRL p.val)) ∧
  (∀ (s : State) (who : Who) (p : Fin 24), s.passesChecks (s.issuer who) 4 (Rg.NM_ETH_CTRL p.val) (s.ethWord p.val 2) false false = true → s.ethState p.val = 2 →
    ∃ t, exec (.ethWakeRequest who p) s = .next t ∧ t.ethState p.val = 3 ∧ t.rd (Fd.NM_ETH_STATUS_RESULT p.val) = Code.BUSY ∧ t.ethAt p.val = s.now ∧
      (∀ q : Fin 16, 2 ≤ q.val → q.val ≠ p.val → tbit (s.reg (Rg.NM_ETH_CTRL p.val)).toNat (16 + q.val) = true → s.ethState q.val = 2 → t.ethState q.val = 3) ∧
      (∀ q : Fin 16, 2 ≤ q.val → q.val ≠ p.val → tbit (s.reg (Rg.NM_ETH_CTRL p.val)).toNat (16 + q.val) = true → s.ethState q.val = 0 →
        tget (fun _ => 0) t.nm.wur q.val = tget (fun _ => 0) s.nm.wur q.val + 1) ∧ t.resp = .done) ∧
  (∀ (s : State) (p : Fin 24), tc10 p.val = true → s.ethState p.val = 1 →
    ∃ t, exec (.ethLowPowerEntry p) s = .next t ∧ t.ethState p.val = 2 ∧
      t.rd (Fd.NM_ETH_STATUS_RESULT p.val) = (if s.rd (Fd.NM_ETH_STATUS_RESULT p.val) = Code.BUSY then Code.DONE else s.rd (Fd.NM_ETH_STATUS_RESULT p.val)) ∧
      t.otp = s.otp ∧ t.mem = s.mem) ∧
  (∀ (s : State) (p : Fin 24), tc10 p.val = true → s.ethState p.val = 1 →
    ∃ t, exec (.ethSleepTimeout p) s = .next t ∧ t.ethState p.val = 0 ∧ s.ethAt p.val + 20 * ms ≤ t.now ∧
      t.rd (Fd.NM_ETH_STATUS_RESULT p.val) = (if s.rd (Fd.NM_ETH_STATUS_RESULT p.val) = Code.BUSY then Code.SLEEP_REFUSED else s.rd (Fd.NM_ETH_STATUS_RESULT p.val)) ∧
      Frame s t [.regs, .now, .vt, .ptp] (fun a => a = Rg.NM_ETH_STATUS p.val)) ∧
  (∀ (s : State) (p : Fin 24), tc10 p.val = true → s.ethState p.val = 0 → s.flag (Fd.NM_ETH_CTRL_ACCEPT_REMOTE p.val) = true →
    ∃ t, exec (.ethRemoteSleep p) s = .next t ∧ t.ethState p.val = 1 ∧ t.ethAt p.val = s.now ∧
      Frame s t [.nm, .regs] (fun a => a = Rg.NM_ETH_STATUS p.val)) ∧
  (∀ (s : State) (p : Fin 24), tc10 p.val = true → s.dev = .active → s.ethState p.val = 2 →
    ∃ t, exec (.ethWakeDetect p) s = .next t ∧ t.ethState p.val = 3 ∧ t.ethAt p.val = s.now ∧ t.flag Fd.IC_EVENT_LATCH_ETH_WAKE = true ∧
      Frame s t [.nm, .regs, .ic] (fun a => a = Rg.IC_EVENT_LATCH ∨ ∃ q ∈ List.range 24, a = Rg.NM_ETH_STATUS q)) ∧
  (∀ (s : State) (p : Fin 24), tc10 p.val = true → s.ethState p.val = 3 →
    ∃ t, exec (.ethWakeNoLink p) s = .next t ∧ t.rd (Fd.NM_ETH_STATUS_RESULT p.val) = Code.WAKE_NO_LINK ∧ t.ethState p.val = 3 ∧
      s.ethAt p.val + 500 * ms ≤ t.now ∧ Frame s t [.regs, .now, .vt, .ptp] (fun a => a = Rg.NM_ETH_STATUS p.val))

/-- Pin `n` has FUNCTION `k` in an Active device with powered pins. -/
abbrev PinRuns (s : State) (n : Nat) (k : Nat) : Prop := s.dev = .active ∧ s.gated 0xE = false ∧ s.pinFunc n = k
/-- An untimed PIN command of opcode `op` for pin `n` has passed. -/
abbrev PinReady (s : State) (e tag op n : Nat) (c : Cmd) : Prop :=
  s.passed e tag 3 op = some c ∧ tbit (s.epAt e).bind 8 = false ∧ c.timed = false ∧ s.boundPin c.ep = n
/-- A LIN command of opcode `op` for master `l` has passed. -/
abbrev LinReady (s : State) (e tag op l : Nat) (c : Cmd) : Prop :=
  s.passed e tag 3 op = some c ∧ tbit (s.epAt e).bind 8 = true ∧ s.boundLin c.ep = l ∧ c.timed = false

/-- For a pin of the FUNCTION each needs: a switch sample in its class of before for the whole DEBOUNCE becomes VALUE; the thousandth in a
row in a fault band becomes the reported fault. An analog update shows the mean of its conversions, and the hundredth in a row below MIN
reports SHORT_GND. The second open test in a row reports OPEN. A frequency edge shows the rounded frequency and clears the report, a
timeout, no sooner than TIMEOUT after the last edge, shows 0, and a line test after it reports what its levels say. Overcurrent and
over-temperature of a conducting output switch it off, latch it and keep their sticky bit. A line test with an output low reports SHORT_GND
the second time, and an open load of an output on for 100 ms OPEN. PIN_OUT of
an output that no endpoint holds shows and drives its value. No other pin changes.
Where the spec's words end it goes by the model's choices of assumptions 125, 126 and 127.
Completing with their own effect: switchInputSample, analogUpdate, analogOpenTest, freqEdge, freqTimeout, freqLineTest, pinOvercurrent, pinOvertemp, outputLineTest, outputOpenLoad, pinOutWrite. -/
def Obligations.SignalPins : Prop :=
  (∀ (s : State) (n : Fin 64) (mv : BitVec 16) (k : Nat), PinRuns s n.val 1 ∨ PinRuns s n.val 2 → k ≤ 1 → (s.pinAt n.val).cls = k →
    bandOf mv.toNat k = k → s.rd (Fd.PIN_STATUS_DIAG n.val) = 0 →
    max 1 (10 * (s.pinParam n.val / 256)) ≤ min ((s.pinAt n.val).run + 1) 100000 →
    ∃ t, exec (.switchInputSample n mv) s = .next t ∧ t.rd (Fd.PIN_STATUS_VALUE n.val) = k ∧ t.rd (Fd.PIN_STATUS_DIAG n.val) = 0 ∧
      (∀ m : Fin 64, m ≠ n → t.pinAt m.val = s.pinAt m.val) ∧
      Frame s t [.pn, .regs, .ep, .mem, .wg, .ic] (fun a => a = Rg.PIN_STATUS n.val)) ∧
  (∀ (s : State) (n : Fin 64) (mv : BitVec 16) (k : Nat), PinRuns s n.val 1 ∨ PinRuns s n.val 2 → 2 ≤ k → k ≤ 4 → (s.pinAt n.val).cls = k →
    bandOf mv.toNat k = k → 999 ≤ (s.pinAt n.val).run →
    ∃ t, exec (.switchInputSample n mv) s = .next t ∧
      t.rd (Fd.PIN_STATUS_DIAG n.val) = (if k = 2 then 2 else if k = 3 then 1 else 3) ∧
      t.rd (Fd.PIN_STATUS_VALUE n.val) = s.rd (Fd.PIN_STATUS_VALUE n.val) ∧
      Frame s t [.pn, .regs, .ep, .mem, .wg, .ic] (fun a => a = Rg.PIN_STATUS n.val)) ∧
  (∀ (s : State) (n : Fin 64) (l : List (BitVec 12)), PinRuns s n.val 3 → l ≠ [] →
    ∃ t, exec (.analogUpdate n l) s = .next t ∧ t.rd (Fd.PIN_STATUS_VALUE n.val) = (l.map BitVec.toNat).sum / l.length ∧
      ((s.pinAt n.val).low = 99 → (l.map BitVec.toNat).sum / l.length < 16 * (s.pinParam n.val % 256) → t.rd (Fd.PIN_STATUS_DIAG n.val) = 2) ∧
      Frame s t [.pn, .regs, .ep, .mem, .wg, .ic] (fun a => a = Rg.PIN_STATUS n.val)) ∧
  (∀ (s : State) (n : Fin 64) (mv : BitVec 16), PinRuns s n.val 3 → 1000 < mv.toNat → (s.pinAt n.val).openRun = 1 →
    ∃ t, exec (.analogOpenTest n mv) s = .next t ∧ t.rd (Fd.PIN_STATUS_DIAG n.val) = 1 ∧ t.rd (Fd.PIN_STATUS_VALUE n.val) = s.rd (Fd.PIN_STATUS_VALUE n.val) ∧
      Frame s t [.pn, .regs, .ep, .mem, .wg, .ic] (fun a => a = Rg.PIN_STATUS n.val)) ∧
  (∀ (s : State) (n : Fin 64) (k : BitVec 32), PinRuns s n.val 6 →
    ∃ t, exec (.freqEdge n k) s = .next t ∧ t.rd (Fd.PIN_STATUS_VALUE n.val) = freqValue k.toNat ∧ t.rd (Fd.PIN_STATUS_DIAG n.val) = 0 ∧
      (t.pinAt n.val).lost = false ∧ Frame s t [.pn, .regs, .ep, .mem, .wg, .ic] (fun a => a = Rg.PIN_STATUS n.val)) ∧
  (∀ (s : State) (n : Fin 64), PinRuns s n.val 6 →
    ∃ t, exec (.freqTimeout n) s = .next t ∧ t.rd (Fd.PIN_STATUS_VALUE n.val) = 0 ∧ (t.pinAt n.val).lost = true ∧
      (s.pinAt n.val).edgeAt + s.pinParam n.val * ms ≤ t.now ∧
      Frame s t [.pn, .regs, .ep, .mem, .wg, .ic, .now, .vt, .ptp] (fun a => a = Rg.PIN_STATUS n.val)) ∧
  (∀ (s : State) (n : Fin 64) (a b : BitVec 16), PinRuns s n.val 6 → (s.pinAt n.val).lost = true →
    ∃ t, exec (.freqLineTest n a b) s = .next t ∧
      t.rd (Fd.PIN_STATUS_DIAG n.val) = (if 10000 < a.toNat ∧ b.toNat < 1000 then 1 else if a.toNat < 1000 then 2 else if 16000 < b.toNat then 3
        else s.rd (Fd.PIN_STATUS_DIAG n.val)) ∧
      Frame s t [.regs, .ep, .mem, .wg, .ic] (fun a => a = Rg.PIN_STATUS n.val)) ∧
  (∀ (s : State) (n : Fin 64), s.isOutput n.val = true → s.pinConducts n.val = true →
    ∃ t, exec (.pinOvercurrent n) s = .next t ∧ t.flag (Fd.PIN_STATUS_OUT n.val) = false ∧ t.flag (Fd.PIN_STATUS_LATCHED n.val) = true ∧
      t.flag (bitOf (Rg.PIN_STATUS n.val) 11) = true ∧ (t.pinAt n.val).since = s.now ∧
      Frame s t [.pn, .regs, .ep, .mem, .wg, .ic] (fun a => a = Rg.PIN_STATUS n.val)) ∧
  (∀ (s : State) (n : Fin 64), s.isOutput n.val = true → s.pinConducts n.val = true →
    ∃ t, exec (.pinOvertemp n) s = .next t ∧ t.flag (Fd.PIN_STATUS_OUT n.val) = false ∧ t.flag (Fd.PIN_STATUS_LATCHED n.val) = true ∧
      t.flag (bitOf (Rg.PIN_STATUS n.val) 12) = true ∧ (t.pinAt n.val).since = s.now ∧
      Frame s t [.pn, .regs, .ep, .mem, .wg, .ic] (fun a => a = Rg.PIN_STATUS n.val)) ∧
  (∀ (s : State) (n : Fin 64) (mv : BitVec 16), PinRuns s n.val 4 ∨ PinRuns s n.val 5 → s.flag (Fd.PIN_STATUS_OUT n.val) = false →
    mv.toNat < 2000 → (s.pinAt n.val).gndRun = 1 →
    ∃ t, exec (.outputLineTest n mv) s = .next t ∧ t.rd (Fd.PIN_STATUS_DIAG n.val) = 2 ∧ (s.pinAt n.val).since + 10 * ms ≤ t.now ∧
      t.flag (Fd.PIN_STATUS_OUT n.val) = false ∧
      Frame s t [.pn, .regs, .ep, .mem, .wg, .ic, .now, .vt, .ptp] (fun a => a = Rg.PIN_STATUS n.val)) ∧
  (∀ (s : State) (n : Fin 64), s.isOutput n.val = true → s.flag (Fd.PIN_STATUS_OUT n.val) = true →
    s.pinRuns n.val = false ∨ 100 * us * s.pinParam n.val * 1000 ≤ s.rd (Fd.PIN_STATUS_VALUE n.val) * sec →
    ∃ t, exec (.outputOpenLoad n) s = .next t ∧ t.rd (Fd.PIN_STATUS_DIAG n.val) = 1 ∧ t.flag (Fd.PIN_STATUS_OUT n.val) = true ∧
      (s.pinAt n.val).since + 100 * ms ≤ t.now ∧ Frame s t [.regs, .ep, .mem, .wg, .ic, .now, .vt, .ptp] (fun a => a = Rg.PIN_STATUS n.val)) ∧
  (∀ (s : State) (who : Who) (n : Fin 64) (w : Word),
    s.passesChecks (s.issuer who) 4 (Rg.PIN_OUT n.val) w (s.pinHolder n.val).isSome
      (decide (1000 < getBits w.toNat 9 0) || (s.pinFunc n.val == 4 && decide (1 < getBits w.toNat 9 0))) = true →
    s.isOutput n.val = true → s.pinRefuses n.val (getBits w.toNat 9 0) = false → (s.pinAt n.val).layCause ≠ 4 →
    ∃ t, exec (.pinOutWrite who n w) s = .next t ∧ t.rd (Fd.PIN_STATUS_VALUE n.val) = getBits w.toNat 9 0 ∧
      t.flag (Fd.PIN_STATUS_OUT n.val) = decide (getBits w.toNat 9 0 ≠ 0) ∧ (t.pinAt n.val).layby = false ∧ t.resp = .done ∧
      (getBits w.toNat 9 0 = 0 → t.flag (Fd.PIN_STATUS_LATCHED n.val) = false) ∧
      Frame s t [.pn, .regs, .resp, .now, .vt, .ptp] (fun a => a = Rg.PIN_STATUS n.val ∨ a = Rg.PIN_OUT n.val))

/-- An untimed PIN SET out of Lay-by that the latch does not refuse shows and drives its value and records DONE; in a Lay-by that it found
LAYBY_ACTIVE is recorded, on a latched output WRONG_STATE, and the pin stays. PIN READ puts PIN_STATUS, zeros and the time at BUF;
WAIT_CHANGE and LIN_GET wait. LIN start on a stopped master with a table that fits runs it from slot 0, and on a running one waits for
the next slot start; a table that does not fit records LIN_SLOT_SHORT with its slot. Stop and sleep wait for the slot start of a running
table. Wake in SLEEP, recorded at once, restarts the table 101 ms on. LIN_PUT sets the data of a published frame, and records WRONG_STATE
on a subscribed one.
Where the spec's words end it goes by the model's choices of assumptions 124, 127 and 128.
Completing with their own effect: pinSet, pinRead, waitChange, linStart, linStop, linSleep, linWake, linPut, linGet. -/
def Obligations.PinCommands : Prop :=
  (∀ (s : State) (e : Fin 4096) (tag : BitVec 16) (n : Nat) (c : Cmd), PinReady s e.val tag.toNat 1 n c → (s.pinAt n).layby = false →
    s.pinRefuses n (c.f 0x10 2) = false →
    ∃ t, exec (.pinSet e tag) s = .next t ∧ t.rd (Fd.PIN_STATUS_VALUE n) = c.f 0x10 2 ∧
      t.flag (Fd.PIN_STATUS_OUT n) = decide (c.f 0x10 2 ≠ 0) ∧ Recorded s t c Code.DONE 0 t.vt c.lateSeen ∧ OnlyRecord s t c ∧
      Frame s t [.pn, .regs, .ep, .mem, .wg, .ic, .now, .vt, .ptp] (fun a => a = Rg.PIN_STATUS n)) ∧
  (∀ (s : State) (e : Fin 4096) (tag : BitVec 16) (n : Nat) (c : Cmd), PinReady s e.val tag.toNat 1 n c → (s.pinAt n).layby = true →
    (s.pinAt n).layOld = true ∨ (s.pinAt n).layCause = 4 →
    ∃ t, exec (.pinSet e tag) s = .next t ∧ Recorded s t c Code.LAYBY_ACTIVE 0 s.vt c.lateSeen ∧ OnlyRecord s t c ∧
      Frame s t [.ep, .mem, .wg, .ic] (fun _ => False)) ∧
  (∀ (s : State) (e : Fin 4096) (tag : BitVec 16) (n : Nat) (c : Cmd), PinReady s e.val tag.toNat 1 n c → (s.pinAt n).layby = false →
    s.pinRefuses n (c.f 0x10 2) = true →
    ∃ t, exec (.pinSet e tag) s = .next t ∧ Recorded s t c Code.WRONG_STATE 0 s.vt c.lateSeen ∧ OnlyRecord s t c ∧
      Frame s t [.ep, .mem, .wg, .ic] (fun _ => False)) ∧
  (∀ (s : State) (e : Fin 4096) (tag : BitVec 16) (n : Nat) (c : Cmd), PinReady s e.val tag.toNat 2 n c →
    s.dramRange (s.epAt c.ep).district 0 (c.f 0x10 8) 16 2 = true → recordAt s c + 16 ≤ c.f 0x10 8 ∨ c.f 0x10 8 + 16 ≤ recordAt s c →
    ∃ t, exec (.pinRead e tag) s = .next t ∧
      t.bytes (c.f 0x10 8) 16 = leBytes 4 (s.pinStatusWord n) ++ leBytes 4 0 ++ leBytes 8 s.vt ∧
      Recorded s t c Code.DONE 0 s.vt c.lateSeen ∧
      (∀ b, (b < recordAt s c ∨ recordAt s c + 16 ≤ b) → (b < c.f 0x10 8 ∨ c.f 0x10 8 + 16 ≤ b) → t.byte b = s.byte b) ∧
      Frame s t [.ep, .mem, .wg, .ic] (fun _ => False)) ∧
  (∀ (s : State) (e : Fin 4096) (tag : BitVec 16) (n : Nat) (c : Cmd), PinReady s e.val tag.toNat 3 n c →
    ((s.inflight c.ep).filter (fun k => k.op == 3 && k.phase == .waiting)).length < 4 →
    ∃ t, exec (.waitChange e tag) s = .next t ∧ Waits s t c ∧ Frame s t [.ep] (fun _ => False)) ∧
  (∀ (s : State) (e : Fin 4096) (tag : BitVec 16) (l : Nat) (c : Cmd), LinReady s e.val tag.toNat 0x10 l c → c.f 0x10 1 = 1 → c.f 0x11 1 ≤ 3 →
    (s.linTable l (c.f 0x11 1)).isEmpty = false → s.shortSlot l (c.f 0x11 1) = none → s.linState l = 0 →
    ∃ t, exec (.linStart e tag) s = .next t ∧ t.linState l = 1 ∧ t.rd (Fd.LIN_STATUS_TABLE l) = c.f 0x11 1 ∧
      t.rd (Fd.LIN_STATUS_SLOT l) = 0 ∧ (t.linAt l).slotAt = s.now ∧ (t.linAt l).first = true ∧ Recorded s t c Code.DONE 0 s.vt c.lateSeen ∧
      OnlyRecord s t c ∧ Frame s t [.pn, .regs, .ep, .mem, .wg, .ic] (fun a => a = Rg.LIN_STATUS l)) ∧
  (∀ (s : State) (e : Fin 4096) (tag : BitVec 16) (l : Nat) (c : Cmd) (k : Nat), LinReady s e.val tag.toNat 0x10 l c → c.f 0x10 1 = 1 →
    (s.linTable l (c.f 0x11 1)).isEmpty = false → s.shortSlot l (c.f 0x11 1) = some k →
    ∃ t, exec (.linStart e tag) s = .next t ∧ Recorded s t c Code.LIN_SLOT_SHORT k s.vt c.lateSeen ∧ OnlyRecord s t c ∧
      Frame s t [.ep, .mem, .wg, .ic] (fun _ => False)) ∧
  (∀ (s : State) (e : Fin 4096) (tag : BitVec 16) (l : Nat) (c : Cmd), LinReady s e.val tag.toNat 0x10 l c → c.f 0x10 1 = 1 →
    (s.linTable l (c.f 0x11 1)).isEmpty = false → s.shortSlot l (c.f 0x11 1) = none → s.linState l = 1 → (s.linAt l).pend = [] →
    ∃ t, exec (.linStart e tag) s = .next t ∧ Waits s t c ∧ (t.linAt l).pend = [(1, c.f 0x11 1, .ring e.val tag.toNat)] ∧
      Frame s t [.pn, .ep] (fun _ => False)) ∧
  (∀ (s : State) (e : Fin 4096) (tag : BitVec 16) (l : Nat) (c : Cmd), LinReady s e.val tag.toNat 0x10 l c → c.f 0x10 1 = 2 → s.linState l = 1 →
    ∃ t, exec (.linStop e tag) s = .next t ∧ Waits s t c ∧ (t.linAt l).pend = (s.linAt l).pend ++ [(2, 0, .ring e.val tag.toNat)] ∧
      Frame s t [.pn, .ep] (fun _ => False)) ∧
  (∀ (s : State) (e : Fin 4096) (tag : BitVec 16) (l : Nat) (c : Cmd), LinReady s e.val tag.toNat 0x10 l c → c.f 0x10 1 = 3 → s.linState l = 1 →
    ∃ t, exec (.linSleep e tag) s = .next t ∧ Waits s t c ∧ (t.linAt l).pend = (s.linAt l).pend ++ [(3, 0, .ring e.val tag.toNat)] ∧
      Frame s t [.pn, .ep] (fun _ => False)) ∧
  (∀ (s : State) (e : Fin 4096) (tag : BitVec 16) (l : Nat) (c : Cmd), LinReady s e.val tag.toNat 0x10 l c → c.f 0x10 1 = 4 → s.linState l = 2 →
    ∃ t, exec (.linWake e tag) s = .next t ∧ (t.linAt l).wakeAt = some (s.now + 101 * ms) ∧ Recorded s t c Code.DONE 0 s.vt c.lateSeen ∧
      OnlyRecord s t c ∧ Frame s t [.pn, .ep, .mem, .wg, .ic] (fun _ => False)) ∧
  (∀ (s : State) (e : Fin 4096) (tag : BitVec 16) (l : Nat) (c : Cmd), LinReady s e.val tag.toNat 0x11 l c →
    s.flag (Fd.LIN_FRAME_CFG_PUBLISH l (c.f 0x10 1)) = true →
    ∃ t, exec (.linPut e tag) s = .next t ∧ t.linData l (c.f 0x10 1) = c.f 0x18 8 ∧ Recorded s t c Code.DONE 0 s.vt c.lateSeen ∧ OnlyRecord s t c ∧
      Frame s t [.regs, .ep, .mem, .wg, .ic] (fun a => a = Rg.LIN_DATA_LO l (c.f 0x10 1) ∨ a = Rg.LIN_DATA_HI l (c.f 0x10 1))) ∧
  (∀ (s : State) (e : Fin 4096) (tag : BitVec 16) (l : Nat) (c : Cmd), LinReady s e.val tag.toNat 0x11 l c →
    s.flag (Fd.LIN_FRAME_CFG_PUBLISH l (c.f 0x10 1)) = false →
    ∃ t, exec (.linPut e tag) s = .next t ∧ Recorded s t c Code.WRONG_STATE 0 s.vt c.lateSeen ∧ OnlyRecord s t c ∧
      Frame s t [.ep, .mem, .wg, .ic] (fun _ => False)) ∧
  (∀ (s : State) (e : Fin 4096) (tag : BitVec 16) (l : Nat) (c : Cmd), LinReady s e.val tag.toNat 0x12 l c →
    ∃ t, exec (.linGet e tag) s = .next t ∧ Waits s t c ∧ Frame s t [.ep] (fun _ => False))

/-- A slot start of a running table with nothing pending comes at its time or later, moves to the next slot (slot 0 at first), lets a
published frame send the bytes that stand in LIN_DATA with their checksum, and awaits the response of a subscribed one; a pending stop by
LIN_CTRL ends in STOPPED with RESULT DONE. A response in time with its checksum right puts its LEN bytes into LIN_DATA and leaves the bytes
above as they are; one with a wrong checksum goes on waiting, and one after the frame's end is none. A frame timeout comes at the frame's end
or later, counts the checksum or the missing response, and writes no data; a bit error of the master's own sending counts. A wake signal in SLEEP
counts and restarts the table 100 ms on; WAKE_RESTART runs that table from slot 0, no sooner than that.
Where the spec's words end it goes by the model's choices of assumptions 128, 171 and 172.
Completing with their own effect: linSlotStart, linResponseReceived, linFrameTimeout, linWakeSeen, linWakeRestart. -/
def Obligations.LinBus : Prop :=
  (∀ (s : State) (l : Fin 4) (i : Item) (k : Nat), s.dev = .active → s.gated 0xE = false → s.linState l.val = 1 → (s.linAt l.val).pend = [] →
    k = (if (s.linAt l.val).first then 0 else (s.rd (Fd.LIN_STATUS_SLOT l.val) + 1) % (s.linTable l.val (s.rd (Fd.LIN_STATUS_TABLE l.val))).length) →
    s.linSlot l.val (s.rd (Fd.LIN_STATUS_TABLE l.val)) k = some i → k < 64 →
    ∃ t, exec (.linSlotStart l) s = .next t ∧ t.rd (Fd.LIN_STATUS_SLOT l.val) = k ∧ (s.linAt l.val).slotAt ≤ t.now ∧
      (t.linAt l.val).slotAt = t.now + i.n 4 * 100 * us ∧ (t.linAt l.val).first = false ∧
      (s.flag (Fd.LIN_FRAME_CFG_PUBLISH l.val (i.n 3)) = true → (t.linAt l.val).wait = none ∧
        (t.linAt l.val).sent = some (i.n 3, s.linData l.val (i.n 3) % 2 ^ (8 * s.rd (Fd.LIN_FRAME_CFG_LEN l.val (i.n 3))),
          s.linCheck l.val (i.n 3) (s.rd (Fd.LIN_FRAME_CFG_LEN l.val (i.n 3))) (s.linData l.val (i.n 3)))) ∧
      (s.flag (Fd.LIN_FRAME_CFG_PUBLISH l.val (i.n 3)) = false → (t.linAt l.val).wait = some (i.n 3) ∧ (t.linAt l.val).sent = (s.linAt l.val).sent) ∧
      ((s.linAt l.val).wait = none → Frame s t [.pn, .regs, .now, .vt, .ptp] (fun a => a = Rg.LIN_STATUS l.val))) ∧
  (∀ (s : State) (l : Fin 4), s.dev = .active → s.gated 0xE = false → s.linState l.val = 1 → (s.linAt l.val).pend = [(2, 0, .ctrl)] →
    ∃ t, exec (.linSlotStart l) s = .next t ∧ t.linState l.val = 0 ∧ t.rd (Fd.LIN_CTRL_RESULT l.val) = Code.DONE ∧ (t.linAt l.val).pend = [] ∧
      ((s.linAt l.val).wait = none →
        Frame s t [.pn, .regs, .now, .vt, .ptp] (fun a => a = Rg.LIN_STATUS l.val ∨ a = Rg.LIN_CTRL l.val))) ∧
  (∀ (s : State) (l : Fin 4) (data : BitVec 64) (sum : Byte) (id : Nat), (s.linAt l.val).wait = some id → s.now ≤ (s.linAt l.val).frameEnd →
    (s.linAt l.val).badSum = false → sum.toNat = s.linCheck l.val id (s.rd (Fd.LIN_FRAME_CFG_LEN l.val id)) data.toNat →
    ∃ t, exec (.linResponseReceived l ⟨data, sum⟩) s = .next t ∧ (t.linAt l.val).wait = none ∧
      t.linData l.val id = data.toNat % 2 ^ (8 * s.rd (Fd.LIN_FRAME_CFG_LEN l.val id)) +
        s.linData l.val id / 2 ^ (8 * s.rd (Fd.LIN_FRAME_CFG_LEN l.val id)) * 2 ^ (8 * s.rd (Fd.LIN_FRAME_CFG_LEN l.val id)) ∧
      Frame s t [.pn, .regs, .ep, .mem, .wg, .ic] (fun a => a = Rg.LIN_DATA_LO l.val id ∨ a = Rg.LIN_DATA_HI l.val id)) ∧
  (∀ (s : State) (l : Fin 4) (data : BitVec 64) (sum : Byte) (id : Nat), (s.linAt l.val).wait = some id → s.now ≤ (s.linAt l.val).frameEnd →
    (s.linAt l.val).badSum = false → sum.toNat ≠ s.linCheck l.val id (s.rd (Fd.LIN_FRAME_CFG_LEN l.val id)) data.toNat →
    ∃ t, exec (.linResponseReceived l ⟨data, sum⟩) s = .next t ∧ (t.linAt l.val).wait = some id ∧ (t.linAt l.val).badSum = true ∧
      Frame s t [.pn] (fun _ => False)) ∧
  (∀ (s : State) (l : Fin 4) (data : BitVec 64) (sum : Byte) (id : Nat), (s.linAt l.val).wait = some id → (s.linAt l.val).frameEnd < s.now →
    ∃ t, exec (.linResponseReceived l ⟨data, sum⟩) s = .next t ∧ (t.linAt l.val).wait = none ∧ t.linData l.val id = s.linData l.val id ∧
      Counted s t (Rg.LIN_EVENT l.val (if (s.linAt l.val).badSum then 1 else 0)) ∧
      Frame s t [.pn, .regs, .ep, .mem, .wg, .ic]
        (fun a => a = Rg.LIN_EVENT l.val (if (s.linAt l.val).badSum then 1 else 0) ∨ a = Rg.LIN_EVENT_SAT l.val)) ∧
  (∀ (s : State) (l : Fin 4) (id : Nat), (s.linAt l.val).wait = some id →
    ∃ t, exec (.linFrameTimeout l false) s = .next t ∧ (t.linAt l.val).wait = none ∧ (s.linAt l.val).frameEnd ≤ t.now ∧
      Counted s t (Rg.LIN_EVENT l.val (if (s.linAt l.val).badSum then 1 else 0)) ∧
      Frame s t [.pn, .regs, .ep, .mem, .wg, .ic, .now, .vt, .ptp]
        (fun a => a = Rg.LIN_EVENT l.val (if (s.linAt l.val).badSum then 1 else 0) ∨ a = Rg.LIN_EVENT_SAT l.val)) ∧
  (∀ (s : State) (l : Fin 4), s.now ≤ (s.linAt l.val).frameEnd → s.linState l.val = 1 ∨ s.linState l.val = 2 →
    ∃ t, exec (.linFrameTimeout l true) s = .next t ∧ Counted s t (Rg.LIN_EVENT l.val 2) ∧ (t.linAt l.val).wait = (s.linAt l.val).wait ∧
      ((s.linAt l.val).wait = none → (t.linAt l.val).sent = none) ∧
      Frame s t [.pn, .regs, .ic] (fun a => a = Rg.LIN_EVENT l.val 2 ∨ a = Rg.LIN_EVENT_SAT l.val)) ∧
  (∀ (s : State) (l : Fin 4), s.dev = .active → s.gated 0xE = false → s.linState l.val = 2 →
    ∃ t, exec (.linWakeSeen l) s = .next t ∧ (t.linAt l.val).wakeAt = some (s.now + 100 * ms) ∧ t.linState l.val = 2 ∧
      (t.reg (Rg.LIN_EVENT l.val 3)).toNat = min 0xFFFFFFFF ((s.reg (Rg.LIN_EVENT l.val 3)).toNat + 1) ∧
      Frame s t [.pn, .regs, .ic] (fun a => a = Rg.LIN_EVENT l.val 3 ∨ a = Rg.LIN_EVENT_SAT l.val)) ∧
  (∀ (s : State) (l : Fin 4) (e : Nat), (s.linAt l.val).wakeAt = some e → s.linState l.val = 2 →
    ∃ t, exec (.linWakeRestart l) s = .next t ∧ t.linState l.val = 1 ∧ t.rd (Fd.LIN_STATUS_SLOT l.val) = 0 ∧ e ≤ t.now ∧
      (t.linAt l.val).first = true ∧ (t.linAt l.val).wakeAt = none ∧ t.rd (Fd.LIN_STATUS_TABLE l.val) = s.rd (Fd.LIN_STATUS_TABLE l.val) ∧
      Frame s t [.pn, .regs, .now, .vt, .ptp] (fun a => a = Rg.LIN_STATUS l.val))

/-- The pair of the core that issues a store. -/
abbrev pairOf (s : State) (who : Who) : Nat := (s.issuer who).initiator.toNat / 2
/-- A core stores to a gated range of its district. -/
abbrev GatedBy (s : State) (who : Who) (a : BitVec 34) (data : List Byte) : Prop :=
  s.dev = .active ∧ (s.issuer who).initiator.toNat < 8 ∧
  data ≠ [] ∧ s.gatedRange (s.issuer who).district.toNat a.toNat = true

/-- Where the write passes its checks, no operation is BUSY and R340 accepts it: SPLIT closes the window and starts SPLITTING; LOCK starts
LOCKING; RESTART empties the gate's windows and starts RESTARTING; BIST of a faulted pair runs; each with RESULT BUSY. SPLIT_DONE, once
every closed window has compared, starts the checker at CP_ENTRY with an empty window and the pair is SPLIT; LOCK_DONE copies the leader's hart to the checker,
whose first window opens, and the pair is LOCKED; PAIR_RESTART_DONE starts both cores at CP_ENTRY in the INIT state; BIST_DONE shows CORE or DELAY, and DELAY degrades
the pair; each with RESULT DONE. A self-test in which neither Bollard errs advances its bit and changes no pair. ASSERT asserts FAULT_OUT,
and RELEASE releases it while no pair is in FAULT.
Where the spec's words end it goes by the model's choices of assumptions 25, 90, 91, 94 and 95.
Completing with their own effect: split, lock, pairRestart, bist, splitDone, lockDone, pairRestartDone, bistDone, bollardSelfTest, faultOutAssert, faultOutRelease. -/
def Obligations.PairOperations : Prop :=
  (∀ (s : State) (who : Who) (p : Fin 4), s.passesChecks (s.issuer who) 4 (Rg.CP_PAIR_CTRL p.val) 1 false false = true →
    s.rd (Fd.CP_PAIR_CTRL_RESULT p.val) ≠ Code.BUSY → s.opCode p.val 1 = Code.DONE → s.pairInCall p.val = false →
    ∃ t, exec (.split who p) s = .next t ∧ t.pairState p.val = 2 ∧ t.rd (Fd.CP_PAIR_CTRL_RESULT p.val) = Code.BUSY ∧
      t.pair p.val = { s.pair p.val with closed := (s.pair p.val).closed + 1, openAt := s.now } ∧ t.resp = .done ∧
      Frame s t [.regs, .ic, .cp, .resp] (fun a => a = Rg.CP_PAIR_CTRL p.val ∨ a = Rg.CP_PAIR_STATUS p.val)) ∧
  (∀ (s : State) (who : Who) (p : Fin 4), s.passesChecks (s.issuer who) 4 (Rg.CP_PAIR_CTRL p.val) 2 false false = true →
    s.rd (Fd.CP_PAIR_CTRL_RESULT p.val) ≠ Code.BUSY → s.opCode p.val 2 = Code.DONE → s.pairInCall p.val = false →
    ∃ t, exec (.lock who p) s = .next t ∧ t.pairState p.val = 3 ∧ t.rd (Fd.CP_PAIR_CTRL_RESULT p.val) = Code.BUSY ∧ t.resp = .done ∧
      Frame s t [.regs, .ic, .resp] (fun a => a = Rg.CP_PAIR_CTRL p.val ∨ a = Rg.CP_PAIR_STATUS p.val)) ∧
  (∀ (s : State) (who : Who) (p : Fin 4), s.passesChecks (s.issuer who) 4 (Rg.CP_PAIR_CTRL p.val) 3 false false = true →
    s.rd (Fd.CP_PAIR_CTRL_RESULT p.val) ≠ Code.BUSY → s.opCode p.val 3 = Code.DONE →
    ∃ t, exec (.pairRestart who p) s = .next t ∧ t.pairState p.val = 5 ∧ t.rd (Fd.CP_PAIR_CTRL_RESULT p.val) = Code.BUSY ∧
      t.pair p.val = { PairSt.reset with openAt := s.now } ∧ t.resp = .done ∧
      Frame s t [.regs, .ic, .cp, .resp] (fun a => a = Rg.CP_PAIR_CTRL p.val ∨ a = Rg.CP_PAIR_STATUS p.val)) ∧
  (∀ (s : State) (who : Who) (p : Fin 4), s.passesChecks (s.issuer who) 4 (Rg.CP_PAIR_CTRL p.val) 4 false false = true →
    s.rd (Fd.CP_PAIR_CTRL_RESULT p.val) ≠ Code.BUSY → s.pairState p.val = 4 →
    ∃ t, exec (.bist who p) s = .next t ∧ t.rd (Fd.CP_PAIR_STATUS_BIST p.val) = 1 ∧ t.rd (Fd.CP_PAIR_CTRL_RESULT p.val) = Code.BUSY ∧
      t.pairState p.val = 4 ∧ t.resp = .done ∧
      Frame s t [.regs, .resp] (fun a => a = Rg.CP_PAIR_CTRL p.val ∨ a = Rg.CP_PAIR_STATUS p.val)) ∧
  (∀ (s : State) (p : Fin 4), s.dev = .active → s.pairState p.val = 2 → (s.pair p.val).compared = (s.pair p.val).closed →
    ∃ t, exec (.splitDone p) s = .next t ∧ t.pairState p.val = 0 ∧ t.rd (Fd.CP_PAIR_CTRL_RESULT p.val) = Code.DONE ∧
      t.hart (2 * p.val + 1) = { Hart.reset with pc := s.cpEntry p.val } ∧ t.hart (2 * p.val) = s.hart (2 * p.val) ∧
      t.pair p.val = { PairSt.reset with openAt := s.now } ∧
      Frame s t [.regs, .ic, .cp, .wg] (fun a => a = Rg.CP_PAIR_CTRL p.val ∨ a = Rg.CP_PAIR_STATUS p.val ∨ a = Rg.CP_EVENT p.val 3 ∨ a = Rg.CP_EVENT_SAT p.val)) ∧
  (∀ (s : State) (p : Fin 4), s.dev = .active → s.pairState p.val = 3 →
    ∃ t, exec (.lockDone p) s = .next t ∧ t.pairState p.val = 1 ∧ t.rd (Fd.CP_PAIR_CTRL_RESULT p.val) = Code.DONE ∧
      t.hart (2 * p.val + 1) = s.hart (2 * p.val) ∧ t.hart (2 * p.val) = s.hart (2 * p.val) ∧ t.pair p.val = { PairSt.reset with openAt := s.now } ∧
      Frame s t [.regs, .ic, .cp, .wg] (fun a => a = Rg.CP_PAIR_CTRL p.val ∨ a = Rg.CP_PAIR_STATUS p.val ∨ a = Rg.CP_EVENT p.val 4 ∨ a = Rg.CP_EVENT_SAT p.val)) ∧
  (∀ (s : State) (p : Fin 4), s.dev = .active → s.pairState p.val = 5 →
    ∃ t, exec (.pairRestartDone p) s = .next t ∧ t.pairState p.val = s.initState p.val ∧
      t.rd (Fd.CP_PAIR_CTRL_RESULT p.val) = Code.DONE ∧ t.hart (2 * p.val) = { Hart.reset with pc := s.cpEntry p.val } ∧
      t.hart (2 * p.val + 1) = { Hart.reset with pc := s.cpEntry p.val } ∧
      Frame s t [.regs, .ic, .wg] (fun a => a = Rg.CP_PAIR_CTRL p.val ∨ a = Rg.CP_PAIR_STATUS p.val ∨ a = Rg.CP_EVENT p.val 5 ∨ a = Rg.CP_EVENT_SAT p.val)) ∧
  (∀ (s : State) (p : Fin 4) (delay : Bool), s.dev = .active → s.pairState p.val = 4 → s.rd (Fd.CP_PAIR_STATUS_BIST p.val) = 1 →
    ∃ t, exec (.bistDone p delay) s = .next t ∧ t.rd (Fd.CP_PAIR_STATUS_BIST p.val) = (if delay then 3 else 2) ∧
      t.flag (Fd.CP_PAIR_STATUS_DEGRADED p.val) = (delay || s.flag (Fd.CP_PAIR_STATUS_DEGRADED p.val)) ∧
      t.rd (Fd.CP_PAIR_CTRL_RESULT p.val) = Code.DONE ∧ t.pairState p.val = 4 ∧
      Frame s t [.regs] (fun a => a = Rg.CP_PAIR_CTRL p.val ∨ a = Rg.CP_PAIR_STATUS p.val)) ∧
  (∀ (s : State), s.dev = .active →
    ∃ t, exec (.bollardSelfTest false false) s = .next t ∧ t.rd Fd.CP_BOLLARD_LAST_BIT = s.cp.bit % 64 ∧ t.cp.bit = (s.cp.bit + 1) % 64 ∧
      s.cp.testAt + 10 * ms ≤ t.now ∧ t.cp.pair = s.cp.pair ∧ Frame s t [.regs, .cp, .now, .vt, .ptp] (fun a => a = Rg.CP_BOLLARD)) ∧
  (∀ (s : State) (who : Who), s.passesChecks (s.issuer who) 4 Rg.CP_FAULT_OUT 0x80000000 false false = true →
    ∃ t, exec (.faultOutAssert who) s = .next t ∧ t.flag Fd.CP_FAULT_OUT_PIN = true ∧ t.flag Fd.CP_FAULT_OUT_SW = true ∧ t.resp = .done ∧
      Frame s t [.regs, .ic, .resp] (fun a => a = Rg.CP_FAULT_OUT)) ∧
  (∀ (s : State) (who : Who), s.passesChecks (s.issuer who) 4 Rg.CP_FAULT_OUT 0x40000000 false false = true → s.anyFault = false →
    ∃ t, exec (.faultOutRelease who) s = .next t ∧ t.reg Rg.CP_FAULT_OUT = 0 ∧ (t.src 58).level = false ∧ t.resp = .done ∧
      Frame s t [.regs, .ic, .resp] (fun a => a = Rg.CP_FAULT_OUT))

/-- A store of a core of a locked pair to a gated range of its district: with room in the gate it retires
into the gate, closes its window and answers, and no byte of memory changes; with the gate full it stalls, and GATE_STALL counts. An atomic
there, or any store there of a split pair, is a store access fault that writes nothing: GATED_AMO or UNGATED_WRITE is recorded in CP_LAST_REJECT.
A window closes after at most 2^WINDOW_LOG2 records. Where it compares equal in both Bollards it counts as compared, and with an empty gate
nothing but its signature and the time changes; where the gate's only write belongs to that window and goes to the dual-port SRAM, it leaves the gate and
stands in memory, every other byte unchanged. A window that differs, and a parity error of a delay register, is a fault of the pair: state
FAULT with its cause, the gate empty, both cores halted, FAULT_OUT asserted, and every other pair's state as it was. Verdicts that differ
are a CHECKER_FAULT: it is latched, and every pair that compares windows is in FAULT with it.
Where the spec's words end it goes by the model's choices of assumptions 15, 90, 92 and 93.
Completing with their own effect: gatedStore, windowClose, delayParity. -/
def Obligations.PairWindows : Prop :=
  (∀ (s : State) (who : Who) (a : BitVec 34) (data : List Byte) (amo : Bool), GatedBy s who a data → s.pairState (pairOf s who) = 1 →
    (0x20000000 ≤ a.toNat ∧ a.toNat < 0x22000000 → data.length = 4 ∧ a.toNat % 4 = 0) →
    (s.pair (pairOf s who)).gate.length < 16 → amo = false →
    ∃ t, exec (.gatedStore who a data amo) s = .next t ∧ t.resp = .done ∧
      (t.pair (pairOf s who)).gate = (s.pair (pairOf s who)).gate ++
        [⟨(s.pair (pairOf s who)).closed + 1, s.issuer who, a.toNat, data⟩] ∧
      (t.pair (pairOf s who)).closed = (s.pair (pairOf s who)).closed + 1 ∧
      t.rd (Fd.CP_PAIR_STATUS_GATE (pairOf s who)) = (s.pair (pairOf s who)).gate.length + 1 ∧
      Frame s t [.regs, .cp, .resp] (fun r => r = Rg.CP_PAIR_STATUS (pairOf s who))) ∧
  (∀ (s : State) (who : Who) (a : BitVec 34) (data : List Byte), GatedBy s who a data → s.pairState (pairOf s who) = 1 →
    (0x20000000 ≤ a.toNat ∧ a.toNat < 0x22000000 → data.length = 4 ∧ a.toNat % 4 = 0) →
    16 ≤ (s.pair (pairOf s who)).gate.length →
    ∃ t, exec (.gatedStore who a data false) s = .next t ∧ Counted s t (Rg.CP_EVENT (pairOf s who) 2) ∧
      Frame s t [.regs, .ic] (fun r => r = Rg.CP_EVENT (pairOf s who) 2 ∨ r = Rg.CP_EVENT_SAT (pairOf s who))) ∧
  (∀ (s : State) (who : Who) (a : BitVec 34) (data : List Byte), GatedBy s who a data → s.pairState (pairOf s who) = 0 ∨ s.pairState (pairOf s who) = 1 →
    ∃ t, exec (.gatedStore who a data true) s = .next t ∧
      t.reg (Rg.LAST_REJECT 4) = rejectWord (s.flag (Fd.LAST_REJECT_VALID 4)) (s.issuer who) true a.toNat Code.GATED_AMO ∧
      t.reg (Rg.LAST_REJECT_ADDR 4) = BitVec.ofNat 32 (a.toNat % 2 ^ 32) ∧ (t.hart (s.issuer who).initiator.toNat).excCause = 7 ∧
      Frame s t [.regs, .ic, .wg] (fun r => r = Rg.LAST_REJECT 4 ∨ r = Rg.LAST_REJECT_ADDR 4)) ∧
  (∀ (s : State) (who : Who) (a : BitVec 34) (data : List Byte), GatedBy s who a data → s.pairState (pairOf s who) = 0 →
    ∃ t, exec (.gatedStore who a data false) s = .next t ∧ 
      t.reg (Rg.LAST_REJECT 4) = rejectWord (s.flag (Fd.LAST_REJECT_VALID 4)) (s.issuer who) true a.toNat Code.UNGATED_WRITE ∧
      t.reg (Rg.LAST_REJECT_ADDR 4) = BitVec.ofNat 32 (a.toNat % 2 ^ 32) ∧ (t.hart (s.issuer who).initiator.toNat).excCause = 7 ∧
      Counted s t (Rg.CP_EVENT (pairOf s who) 6) ∧
      Frame s t [.regs, .ic, .wg] (fun r => r = Rg.LAST_REJECT 4 ∨ r = Rg.LAST_REJECT_ADDR 4 ∨ r = Rg.CP_EVENT (pairOf s who) 6 ∨ r = Rg.CP_EVENT_SAT (pairOf s who))) ∧
  (∀ (s : State) (p : Fin 4) (lead chk : List SigRec), s.dev = .active → s.pairState p.val = 1 → misr lead = misr chk →
    lead.length ≤ s.windowMax p.val → chk.length ≤ s.windowMax p.val → (s.pair p.val).gate = [] →
    ∃ t, exec (.windowClose p lead chk false false) s = .next t ∧ (t.pair p.val).compared = (s.pair p.val).compared + 1 ∧
      t.reg (Rg.CP_SIG_LO p.val) = (misr lead).setWidth 32 ∧ t.reg (Rg.CP_SIG_HI p.val) = ((misr lead) >>> 32).setWidth 32 ∧
      (t.pair p.val).gate = [] ∧ ((s.pair p.val).compared ≠ (s.pair p.val).closed ∨ lead.length = s.windowMax p.val → t.now = s.now) ∧
      Frame s t [.regs, .cp, .now, .vt, .ptp] (fun r => r = Rg.CP_SIG_LO p.val ∨ r = Rg.CP_SIG_HI p.val ∨ r = Rg.CP_PAIR_STATUS p.val)) ∧
  (∀ (s : State) (p : Fin 4) (lead chk : List SigRec) (e : GateEnt), s.dev = .active → s.pairState p.val = 1 ∨ s.pairState p.val = 2 →
    lead.length ≤ s.windowMax p.val → chk.length ≤ s.windowMax p.val →
    misr lead = misr chk → (s.pair p.val).gate = [e] → e.win = (s.pair p.val).compared + 1 →
    (s.pair p.val).compared < (s.pair p.val).closed → placeOf e.addr = .dualPort → e.data ≠ [] → e.who.initiator.toNat / 2 = p.val →
    placeOf (e.addr + e.data.length - 1) = .dualPort → s.passes e.who .write 1 e.addr e.data.length = true →
    s.badWords e.addr e.data.length true = [] →
    ∃ t, exec (.windowClose p lead chk false false) s = .next t ∧ (t.pair p.val).gate = [] ∧ t.bytes e.addr e.data.length = e.data ∧
      (∀ b, b < e.addr ∨ e.addr + e.data.length ≤ b → t.byte b = s.byte b) ∧ t.resp = s.resp ∧
      (t.pair p.val).compared = (s.pair p.val).compared + 1) ∧
  (∀ (s : State) (p : Fin 4) (lead chk : List SigRec), s.dev = .active → s.pairState p.val = 1 → misr lead ≠ misr chk →
    lead.length ≤ s.windowMax p.val → chk.length ≤ s.windowMax p.val →
    ∃ t, exec (.windowClose p lead chk false false) s = .next t ∧ t.pairState p.val = 4 ∧ t.rd (Fd.CP_PAIR_STATUS_FAULT p.val) = 1 ∧
      (t.pair p.val).gate = [] ∧ (t.hart (2 * p.val)).halted = true ∧ (t.hart (2 * p.val + 1)).halted = true ∧
      t.flag Fd.CP_FAULT_OUT_PIN = true ∧ t.flag Fd.CP_FAULT_OUT_PAIR = true ∧ t.otp = s.otp ∧
      (∀ q : Fin 4, q ≠ p → t.pairState q.val = s.pairState q.val)) ∧
  (∀ (s : State) (p : Fin 4) (lead : List SigRec) (b : Bool), s.dev = .active → s.pairState p.val = 1 → lead.length ≤ s.windowMax p.val →
    ∃ t, exec (.windowClose p lead lead b (!b)) s = .next t ∧ t.flag Fd.CP_BOLLARD_CHECKER_FAULT = true ∧ t.flag Fd.CP_FAULT_OUT_CHECKER = true ∧
      (∀ q : Fin 4, s.pairState q.val = 1 ∨ s.pairState q.val = 2 → t.pairState q.val = 4 ∧ t.rd (Fd.CP_PAIR_STATUS_FAULT q.val) = 3)) ∧
  (∀ (s : State) (p : Fin 4), s.dev = .active → s.pairState p.val = 1 ∨ s.pairState p.val = 2 →
    ∃ t, exec (.delayParity p) s = .next t ∧ t.pairState p.val = 4 ∧ t.rd (Fd.CP_PAIR_STATUS_FAULT p.val) = 2 ∧
      (t.pair p.val).gate = [] ∧ (t.hart (2 * p.val)).halted = true ∧ (t.hart (2 * p.val + 1)).halted = true ∧
      t.flag Fd.CP_FAULT_OUT_PIN = true ∧ t.otp = s.otp ∧ (∀ q : Fin 4, q ≠ p → t.pairState q.val = s.pairState q.val))

/-- The hart of a core, as its software left it at a gate instruction outside a Courtyard. -/
abbrev hartAt (s : State) (core : Fin 8) (ctx : HartCtx) : Hart := (s.hart (s.leader core.val)).load ctx
/-- The hart of a core runs, outside a Courtyard. -/
abbrev RunsOut (s : State) (core : Fin 8) : Prop := s.runs (s.leader core.val) = true ∧ (s.hart (s.leader core.val)).cy = 0
/-- The hart of a core runs inside a Courtyard, with the frame `f`. -/
abbrev RunsIn (s : State) (core : Fin 8) (f : GateFrame) : Prop :=
  s.runs (s.leader core.val) = true ∧ (s.hart (s.leader core.val)).cy ≠ 0 ∧ (s.hart (s.leader core.val)).frame = some f
/-- The Courtyard of the hart of a core. -/
abbrev cyOf (s : State) (core : Fin 8) : Nat := (s.hart (s.leader core.val)).cy
/-- Only the hart of `core` changes, to `h`. -/
abbrev HartNow (s t : State) (core : Fin 8) (h : Hart) : Prop :=
  t.hart (s.leader core.val) = h ∧ (∀ k : Fin 8, k.val ≠ s.leader core.val → t.hart k.val = s.hart k.val)
/-- The gate number in the register that the word `w` of a GATE.CALL names. -/
abbrev gateNo (w : Word) (ctx : HartCtx) : Nat := (ctxReg ctx (w.toNat / 32768)).toNat
/-- The entry of gate `g`. -/
abbrev gateEntry (s : State) (g : Nat) : Nat := s.cyBase (g / 16) + 64 * (g % 16)
/-- The word `v` can be fetched at the entry of gate `g` by the hart of a core inside that gate's Courtyard. -/
abbrev EntryReads (s : State) (core : Fin 8) (ctx : HartCtx) (g : Nat) (v : Nat) : Prop :=
  ((guardTarget (placeOf (gateEntry s g)) = some 0 ∧ s.passes ⟨BitVec.ofNat 5 (s.leader core.val), ctx.district, BitVec.ofNat 4 (g / 16)⟩ (.fetch 4) 0 (gateEntry s g) 4 = true) ∨
   (guardTarget (placeOf (gateEntry s g)) = some 1 ∧ s.passes ⟨BitVec.ofNat 5 (s.leader core.val), ctx.district, BitVec.ofNat 4 (g / 16)⟩ (.fetch 4) 1 (gateEntry s g) 4 = true) ∨
   (guardTarget (placeOf (gateEntry s g)) = some 2 ∧ s.passes ⟨BitVec.ofNat 5 (s.leader core.val), ctx.district, BitVec.ofNat 4 (g / 16)⟩ (.fetch 4) 2 (gateEntry s g) 4 = true)) ∧
  placeOf (gateEntry s g + 3) = placeOf (gateEntry s g) ∧
  s.bankOff (gateEntry s g) 4 = false ∧ s.badWords (gateEntry s g) 4 false = [] ∧ s.le (gateEntry s g) 4 = v
/-- The call of the hart of `core` has ended by force with `code` in a0, and its Courtyard is FAILED with it, unless a district restart that
waited for the call did more. -/
abbrev ForcedOut (s t : State) (core : Fin 8) (f : GateFrame) (code : Nat) : Prop :=
  t.hart (s.leader core.val) = (s.hart (s.leader core.val)).back f (BitVec.ofNat 64 code) 0 ∧
  (s.wg.restartWait = [] → t.rd (Fd.WG_CY_STATUS_STATE (cyOf s core)) = 3 ∧ t.rd (Fd.WG_CY_STATUS_CODE (cyOf s core)) = code ∧
    t.wg.resv.all (fun p => p.1 != cyOf s core) = true)
/-- The CSRs that R366 allows inside a Courtyard: fflags, frm, fcsr, cycle, time and instret. -/
abbrev cyCsrs : List (BitVec 12) := [0x001, 0x002, 0x003, 0xC00, 0xC01, 0xC02]

/-- A GATE.CALL word on a running hart outside a Courtyard. In M mode: an illegal-instruction exception. Else, where a case of R365 from 2 to
5 applies, its code in a0; it goes on at the next instruction and changes no other register. Else, with GATE.LAND readable at the gate's
entry, the hart carries the Courtyard's id, its frame holds what R365 saves, and it stands behind GATE.LAND in U mode, the Courtyard in a
call; with another word there, it is back with GATE_NO_LAND and the Courtyard READY. Elsewhere GATE.LAND goes on at the next instruction. An
illegal custom word, and GATE.RET outside a Courtyard, is an illegal-instruction exception. GATE.RET within the budget restores the frame,
keeps a0 and a1, clears the other registers, and the Courtyard is READY. The expiry of the budget ends the call with TIMEOUT in a0; an
exception inside, an illegal or GATE.CALL word and a CSR access beyond those of R366 among them, with COURTYARD_FAULT; a1 is 0, the
Courtyard FAILED with that code and without reservations. A CSR access that R366 allows changes nothing.
Where the spec's words end it goes by the model's choices of assumptions 22, 86, 87, 88, 89 and 99.
Completing with their own effect: gateCall, gateRet, courtyardBudgetExpiry, courtyardException. -/
def Obligations.CourtyardCalls : Prop :=
  (∀ (s : State) (core : Fin 8) (w : Word) (ctx : HartCtx), RunsOut s core → isGateCall w.toNat = true → ctx.mode = .m →
    ∃ t, exec (.gateCall core w ctx) s = .next t ∧ HartNow s t core { hartAt s core ctx with excCause := 2 } ∧ Frame s t [.wg] (fun _ => False)) ∧
  (∀ (s : State) (core : Fin 8) (w : Word) (ctx : HartCtx), RunsOut s core → isGateCall w.toNat = true → ctx.mode ≠ .m →
    s.gateCode ctx.district.toNat (gateNo w ctx) ≠ Code.DONE →
    ∃ t, exec (.gateCall core w ctx) s = .next t ∧
      HartNow s t core { ((hartAt s core ctx).setX 10 (BitVec.ofNat 64 (s.gateCode ctx.district.toNat (gateNo w ctx)))) with pc := ctx.pc.toNat + 4 } ∧
      Frame s t [.wg] (fun _ => False)) ∧
  (∀ (s : State) (core : Fin 8) (w : Word) (ctx : HartCtx), RunsOut s core → isGateCall w.toNat = true → ctx.mode ≠ .m →
    s.gateCode ctx.district.toNat (gateNo w ctx) = Code.DONE → EntryReads s core ctx (gateNo w ctx) 0x100B →
    ∃ t, exec (.gateCall core w ctx) s = .next t ∧
      HartNow s t core { (hartAt s core ctx).enter (gateNo w ctx / 16) (gateEntry s (gateNo w ctx)) s.now with pc := gateEntry s (gateNo w ctx) + 4 } ∧
      t.rd (Fd.WG_CY_STATUS_STATE (gateNo w ctx / 16)) = 2 ∧ t.rd (Fd.WG_CY_STATUS_HART (gateNo w ctx / 16)) = s.leader core.val ∧
      Frame s t [.regs, .wg, .ic] (fun a => a = Rg.WG_CY_STATUS (gateNo w ctx / 16) ∨ a = Rg.WG_EVENT 1 ∨ a = Rg.WG_EVENT_SAT)) ∧
  (∀ (s : State) (core : Fin 8) (w : Word) (ctx : HartCtx) (v : Nat), RunsOut s core → isGateCall w.toNat = true → ctx.mode ≠ .m →
    s.gateCode ctx.district.toNat (gateNo w ctx) = Code.DONE → EntryReads s core ctx (gateNo w ctx) v → v ≠ 0x100B → s.wg.restartWait = [] →
    ∃ t, exec (.gateCall core w ctx) s = .next t ∧
      HartNow s t core (((hartAt s core ctx).enter (gateNo w ctx / 16) (gateEntry s (gateNo w ctx)) s.now).back (hartAt s core ctx).frameOf
        (BitVec.ofNat 64 Code.GATE_NO_LAND) 0) ∧
      t.rd (Fd.WG_CY_STATUS_STATE (gateNo w ctx / 16)) = 1 ∧
      Frame s t [.regs, .wg, .ic] (fun a => a = Rg.WG_CY_STATUS (gateNo w ctx / 16) ∨ a = Rg.WG_EVENT 1 ∨ a = Rg.WG_EVENT_SAT)) ∧
  (∀ (s : State) (core : Fin 8) (ctx : HartCtx), RunsOut s core →
    ∃ t, exec (.gateCall core 0x100B ctx) s = .next t ∧ HartNow s t core { hartAt s core ctx with pc := ctx.pc.toNat + 4 } ∧
      Frame s t [.wg] (fun _ => False)) ∧
  (∀ (s : State) (core : Fin 8) (w : Word) (ctx : HartCtx), RunsOut s core → isCustom w.toNat = true → isGateCall w.toNat = false →
    w ≠ 0x100B → w ≠ 0x200B →
    ∃ t, exec (.gateCall core w ctx) s = .next t ∧ HartNow s t core { hartAt s core ctx with excCause := 2 } ∧ Frame s t [.wg] (fun _ => False)) ∧
  (∀ (s : State) (core : Fin 8) (w : Word) (ctx : HartCtx) (f : GateFrame), RunsIn s core f → isCustom w.toNat = true → w ≠ 0x100B → w ≠ 0x200B →
    ∃ t, exec (.gateCall core w ctx) s = .next t ∧ ForcedOut s t core f Code.COURTYARD_FAULT) ∧
  (∀ (s : State) (core : Fin 8) (pc : BitVec 64) (f : GateFrame) (ctx : HartCtx), RunsIn s core f → ctx.pc = pc →
    ∃ t, exec (.gateCall core 0x100B ctx) s = .next t ∧ HartNow s t core { s.hart (s.leader core.val) with pc := pc.toNat + 4 } ∧
      Frame s t [.wg] (fun _ => False)) ∧
  (∀ (s : State) (core : Fin 8) (a0 a1 : BitVec 64), RunsOut s core →
    ∃ t, exec (.gateRet core a0 a1) s = .next t ∧ HartNow s t core { s.hart (s.leader core.val) with excCause := 2 } ∧ Frame s t [.wg] (fun _ => False)) ∧
  (∀ (s : State) (core : Fin 8) (a0 a1 : BitVec 64) (f : GateFrame), RunsIn s core f → s.now ≤ s.budgetEnd (s.leader core.val) →
    ∃ t, exec (.gateRet core a0 a1) s = .next t ∧ t.hart (s.leader core.val) = (s.hart (s.leader core.val)).back f a0 a1 ∧
      (s.wg.restartWait = [] → t.rd (Fd.WG_CY_STATUS_STATE (cyOf s core)) = 1) ∧
      (s.wg.restartWait = [] → Frame s t [.regs, .wg] (fun a => a = Rg.WG_CY_STATUS (cyOf s core)))) ∧
  (∀ (s : State) (core : Fin 8) (f : GateFrame), RunsIn s core f →
    ∃ t, exec (.courtyardBudgetExpiry core) s = .next t ∧ s.budgetEnd (s.leader core.val) ≤ t.now ∧ ForcedOut s t core f Code.TIMEOUT) ∧
  (∀ (s : State) (core : Fin 8) (why : CyEvent) (f : GateFrame), RunsIn s core f → (∀ a ∈ cyCsrs, why ≠ .csr a) →
    ∃ t, exec (.courtyardException core why) s = .next t ∧ ForcedOut s t core f Code.COURTYARD_FAULT ∧
      (s.wg.restartWait = [] → Frame s t [.regs, .wg, .ic] (fun a => a = Rg.WG_CY_STATUS (cyOf s core) ∨
        a = Rg.WG_EVENT 3 ∨ a = Rg.WG_EVENT_SAT ∨ a = Rg.IC_EVENT_LATCH))) ∧
  (∀ (s : State) (core : Fin 8) (a : BitVec 12) (f : GateFrame), RunsIn s core f → a ∈ cyCsrs →
    exec (.courtyardException core (.csr a)) s = .next s)

/-- PATROL_SCRUB of a word of powered memory: a single-bit error of a word that is not uncorrectable is corrected and counted as
ECC_CORRECTED; an uncorrectable error is kept, counted, and its address recorded; no byte changes. BANK_POWER_WRITE that passes its checks
and touches no bank of a Courtyard: WG_BANK_PWR holds the word, the bytes of every bank that it switches off read 0, every other byte
stays. RESERVE by a Courtyard that may hold the block, which is not gated, holds the reservation with RESULT DONE; the release ends it.
Where the spec's words end it goes by the model's choices of assumptions 17, 18 and 24.
Completing with their own effect: patrolScrub, bankPowerWrite, reserve, reservationRelease. -/
def Obligations.MemoryUpkeep : Prop :=
  (∀ (s : State) (a : BitVec 34), s.dev = .active → placeOf (8 * (a.toNat / 8)) = .dram → s.wg.poison.contains (a.toNat / 8) = false →
    ∃ t, exec (.patrolScrub a 1) s = .next t ∧ t.wg.single.contains (a.toNat / 8) = false ∧ t.wg.poison = s.wg.poison ∧
      ((s.reg (Rg.WG_EVENT 1)).toNat < 0xFFFFFFFE → t.reg (Rg.WG_EVENT 1) = s.reg (Rg.WG_EVENT 1) + 1) ∧
      Frame s t [.regs, .wg, .ic] (fun r => r = Rg.WG_EVENT 1 ∨ r = Rg.WG_EVENT_SAT)) ∧
  (∀ (s : State) (a : BitVec 34), s.dev = .active → placeOf (8 * (a.toNat / 8)) = .sram → s.bankOff (8 * (a.toNat / 8)) 8 = false →
    ∃ t, exec (.patrolScrub a 2) s = .next t ∧ t.wg.poison.contains (a.toNat / 8) = true ∧ t.flag Fd.WG_ECC_ADDR_HI_VALID = true ∧
      t.reg Rg.WG_ECC_ADDR_LO = BitVec.ofNat 32 (8 * (a.toNat / 8)) ∧
      ((s.reg (Rg.WG_EVENT 2)).toNat < 0xFFFFFFFE → t.reg (Rg.WG_EVENT 2) = s.reg (Rg.WG_EVENT 2) + 1) ∧
      Frame s t [.regs, .wg, .ic] (fun r => r = Rg.WG_EVENT 2 ∨ r = Rg.WG_EVENT_SAT ∨ r = Rg.WG_ECC_ADDR_LO ∨ r = Rg.WG_ECC_ADDR_HI)) ∧
  (∀ (s : State) (who : Who) (w : Word), s.passesChecks (s.issuer who) 4 Rg.WG_BANK_PWR w false false = true →
    (List.range 32).all (fun k => !(tbit (s.reg Rg.WG_BANK_PWR).toNat k && !tbit w.toNat k && s.bankReserved k)) = true →
    ∃ t, exec (.bankPowerWrite who w) s = .next t ∧ t.reg Rg.WG_BANK_PWR = w ∧ t.resp = .done ∧
      (∀ b, t.byte b = if 0x10000000 ≤ b ∧ b < 0x10400000 ∧ tbit (s.reg Rg.WG_BANK_PWR).toNat ((b - 0x10000000) / 0x20000) = true ∧
        tbit w.toNat ((b - 0x10000000) / 0x20000) = false then 0 else s.byte b) ∧
      Frame s t [.regs, .wg, .mem, .resp] (fun r => r = Rg.WG_BANK_PWR)) ∧
  (∀ (s : State) (who : Who) (b : BitVec 4), s.passesChecks (s.issuer who) 4 Rg.WG_RESERVE (BitVec.ofNat 32 (64 + b.toNat)) false false = true →
    8 ≤ b.toNat → s.holdsBlock (s.cyDistrict (s.issuer who).courtyard.toNat) b.toNat = true → s.gated b.toNat = false →
    ∃ t, exec (.reserve who b) s = .next t ∧ t.wg.resv.contains ((s.issuer who).courtyard.toNat, b.toNat) = true ∧ t.reserved b.toNat = true ∧
      tget (fun _ => 0) t.wg.resvResult (s.issuer who).courtyard.toNat = Code.DONE ∧ t.resp = .done ∧
      t.wg.resv.filter (· != ((s.issuer who).courtyard.toNat, b.toNat)) = s.wg.resv.filter (· != ((s.issuer who).courtyard.toNat, b.toNat)) ∧
      Frame s t [.regs, .wg, .resp] (fun r => r = Rg.WG_RESERVE)) ∧
  (∀ (s : State) (who : Who) (b : BitVec 4), s.passesChecks (s.issuer who) 4 Rg.WG_RESERVE (BitVec.ofNat 32 (128 + b.toNat)) false false = true →
    8 ≤ b.toNat → s.holdsBlock (s.cyDistrict (s.issuer who).courtyard.toNat) b.toNat = true →
    ∃ t, exec (.reservationRelease who b) s = .next t ∧ t.wg.resv = s.wg.resv.filter (· != ((s.issuer who).courtyard.toNat, b.toNat)) ∧
      tget (fun _ => 0) t.wg.resvResult (s.issuer who).courtyard.toNat = Code.DONE ∧ t.resp = .done ∧
      Frame s t [.regs, .wg, .resp] (fun r => r = Rg.WG_RESERVE))

/-- TIME_US after the first event, an asserted source in a count is PENDING, at the first enabled and awake target from its pointer where
there is one. A claim by its target answers the best offered source, which is then ACTIVE there with the pointer behind the target; with
nothing offered it answers 0. A COMPLETE by the target that holds the source ends the claim: IDLE, or one event where the level is still
asserted, PENDING at once under COUNT 1; marked spurious, it counts. A level that its cause no longer asserts falls: an ACTIVE source stays
claimed, another is IDLE. A write of IC_SRC_CFG sets TARGETS and PRIO and keeps the source's state; one of IC_TARGET_CTRL sets THRESHOLD
and MEIP, and wakes with AWAKE 1. No other source changes by these, but through the choice of R383 and, at a
spurious claim, source 49.
Where the spec's words end it goes by the model's choices of assumption 96.
Completing with their own effect: coalesceTimeout, claim, complete, sourceLevelFall, srcCfgWrite, targetCtrlWrite. -/
def Obligations.CrossingCommands : Prop :=
  (∀ (s : State) (n : Fin 512), isSource n.val = true → (s.src n.val).state = 0 → 0 < (s.src n.val).count → (s.src n.val).level = true →
    ∃ t, exec (.coalesceTimeout n) s = .next t ∧ (t.src n.val).state = 1 ∧ (t.src n.val).count = 0 ∧
      (s.src n.val).first + s.rd (Fd.IC_COAL_TIME_US n.val) * us ≤ t.now ∧
      ((s.choose (s.src n.val).targets (s.src n.val).ptr 9).isSome = true →
        some (t.src n.val).target = s.choose (s.src n.val).targets (s.src n.val).ptr 9) ∧
      (∀ m : Fin 512, m ≠ n → t.src m.val = s.src m.val) ∧ Frame s t [.ic, .now, .vt, .ptp] (fun _ => False)) ∧
  (∀ (s : State) (who : Who) (k : Fin 9) (n : Nat) (r : RegRow) (x : List Nat), RegMap.at (Rg.IC_CLAIM k.val) = some (r, x) →
    readable s (s.issuer who) (Rg.IC_CLAIM k.val) r = true → s.isTarget (s.issuer who) k.val = true → s.bestOffer k.val = some n →
    ∃ t, exec (.claim who k) s = .next t ∧ t.resp = .data n ∧ t.src n = { s.src n with state := 2, target := k.val, ptr := (k.val + 1) % 9, byWake := false } ∧
      (∀ m : Fin 512, m.val ≠ n → t.src m.val = s.src m.val) ∧ t.ic.tgt = s.ic.tgt ∧ Frame s t [.ic, .resp] (fun _ => False)) ∧
  (∀ (s : State) (who : Who) (k : Fin 9) (r : RegRow) (x : List Nat), RegMap.at (Rg.IC_CLAIM k.val) = some (r, x) →
    readable s (s.issuer who) (Rg.IC_CLAIM k.val) r = true → s.isTarget (s.issuer who) k.val = true → s.bestOffer k.val = none →
    ∃ t, exec (.claim who k) s = .next t ∧ t.resp = .data 0 ∧ Frame s t [.resp] (fun _ => False)) ∧
  (∀ (s : State) (who : Who) (k : Fin 9) (n : BitVec 9),
    s.passesChecks (s.issuer who) 4 (Rg.IC_COMPLETE k.val) (BitVec.ofNat 32 (0 + n.toNat)) (!s.isTarget (s.issuer who) k.val) false = true → isSource n.toNat = true →
    (s.src n.toNat).state = 2 → (s.src n.toNat).target = k.val →
    ∃ t, exec (.complete who k n false) s = .next t ∧ t.resp = .done ∧
      ((s.src n.toNat).level = false → (t.src n.toNat).state = 0 ∧ (t.src n.toNat).level = false) ∧
      ((s.src n.toNat).level = true → s.rd (Fd.IC_COAL_COUNT n.toNat) ≤ 1 → (t.src n.toNat).state = 1) ∧
      (∀ m : Fin 512, m.val ≠ n.toNat → t.src m.val = s.src m.val) ∧ Frame s t [.regs, .ic, .resp] (fun a => a = Rg.IC_COMPLETE k.val)) ∧
  (∀ (s : State) (who : Who) (k : Fin 9) (n : BitVec 9),
    s.passesChecks (s.issuer who) 4 (Rg.IC_COMPLETE k.val) (BitVec.ofNat 32 (2 ^ 31 + n.toNat)) (!s.isTarget (s.issuer who) k.val) false = true →
    isSource n.toNat = true → (s.src n.toNat).state = 2 → (s.src n.toNat).target = k.val →
    ∃ t, exec (.complete who k n true) s = .next t ∧ t.resp = .done ∧
      ((s.src n.toNat).level = false → n.toNat ≠ 49 → (t.src n.toNat).state = 0) ∧
      (∀ m : Fin 512, m.val ≠ n.toNat → m.val ≠ 49 → t.src m.val = s.src m.val) ∧
      ((s.reg (Rg.IC_SPURIOUS n.toNat)).toNat < 0xFFFFFFFE → t.reg (Rg.IC_SPURIOUS n.toNat) = s.reg (Rg.IC_SPURIOUS n.toNat) + 1) ∧
      Frame s t [.regs, .ic, .resp] (fun a => a = Rg.IC_COMPLETE k.val ∨ a = Rg.IC_SPURIOUS n.toNat ∨ a = Rg.IC_SPUR_SAT (n.toNat / 32))) ∧
  (∀ (s : State) (n : Fin 512), s.dev = .active → (s.src n.val).level = true → (s.relevelAll.src n.val).level = false →
    ∃ t, exec (.sourceLevelFall n) s = .next t ∧ (t.src n.val).level = false ∧
      (t.src n.val).state = (if (s.src n.val).state = 2 then 2 else 0) ∧ (∀ m : Fin 512, m ≠ n → t.src m.val = s.src m.val) ∧
      Frame s t [.ic] (fun _ => False)) ∧
  (∀ (s : State) (who : Who) (n : Fin 512) (w : Word),
    s.passesChecks (s.issuer who) 4 (Rg.IC_SRC_CFG n.val) w false (decide (125 ≤ n.val) && decide (n.val ≤ 255) && getBits w.toNat 24 16 != 0) = true →
    ∃ t, exec (.srcCfgWrite who n w) s = .next t ∧ (t.src n.val).targets = getBits w.toNat 24 16 ∧ (t.src n.val).prio = w.toNat % 16 ∧
      (t.src n.val).state = (s.src n.val).state ∧ (t.src n.val).level = (s.src n.val).level ∧ t.resp = .done ∧
      (∀ m : Fin 512, m ≠ n → t.src m.val = s.src m.val) ∧ Frame s t [.regs, .ic, .resp] (fun a => a = Rg.IC_SRC_CFG n.val)) ∧
  (∀ (s : State) (who : Who) (k : Fin 9) (w : Word), s.passesChecks (s.issuer who) 4 (Rg.IC_TARGET_CTRL k.val) w false false = true →
    ∃ t, exec (.targetCtrlWrite who k w) s = .next t ∧ (t.tgt k.val).threshold = w.toNat % 16 ∧
      (t.tgt k.val).meip = (k == 8 || tbit w.toNat 8) ∧ (k = 8 ∨ tbit w.toNat 31 = true → (t.tgt k.val).awake = true) ∧ t.resp = .done ∧
      Frame s t [.regs, .ic, .resp] (fun a => a = Rg.IC_TARGET_CTRL k.val))

/-- A KEY command of opcode `op` has reached an idle Cellar, and the checks of R403 pass. -/
abbrev KeyReady (s : State) (e tag op : Nat) (c : Cmd) : Prop := s.passed e tag 4 op = some c ∧ s.ks.ops = [] ∧ s.keyChecks c = Code.DONE
/-- Its operation has started, with the slots as it found them, and the command waits. -/
abbrev KeyStarted (s t : State) (e tag op : Nat) (c : Cmd) : Prop :=
  t.ks.ops = [⟨e, tag, op, true, s.slot (s.keySlotOf c.ep c.slotNo), s.slot (s.keySlotOf c.ep c.aux), none, []⟩] ∧
  t.ks.slots = s.ks.slots ∧ t.cmdOf e tag = some { c with phase := .waiting } ∧ t.ep.eps = s.ep.eps
/-- The replacement of slot `n` has started, or its new record fails the checks and the command is recorded with their code. -/
abbrev KeyReplaces (s t : State) (e tag : Nat) (c : Cmd) (n : Nat) : Prop :=
  (s.newKeyCode c n (s.newKey c n) = Code.DONE →
    t.ks.ops.map (fun k => (k.ep, k.tag, k.started)) = [(e, tag, true)] ∧ t.ks.ops.map (fun k => k.target) = [some n] ∧
    t.cmdOf e tag = some { c with phase := .waiting }) ∧
  (s.newKeyCode c n (s.newKey c n) ≠ Code.DONE →
    t.ks.ops = [] ∧ Recorded s t c (s.newKeyCode c n (s.newKey c n)) 0 s.vt c.lateSeen) ∧ t.ks.slots = s.ks.slots

/-- ENC, DEC, MAC_GEN, MAC_VERIFY, SIGN, VERIFY, WRAP, ATTEST and UNLOCK that have reached an idle Cellar and pass R403 start with the
slots as they stand, and wait. DERIVE, UNWRAP and PROVISION start their replacement where the new record passes its checks, and are
recorded with the failing check's code where it does not; no slot changes yet. The completion of an ENC puts the encryption of SRC at
DST and records DONE; that of a MAC_VERIFY records DONE or AUTH_FAIL as its tag compares, and no other byte changes. The commit of a
replacement puts the new record's key into its slot alone and records DONE, with the start of its KCV after a DERIVE; where the record does not read back, the slots stay and the
record says POISONED. An ATTEST that completes counts, and puts its record at DST with DONE. An UNLOCK records DONE and Cellar is READY
where its token matches, and otherwise AUTH_FAIL with the state as it was.
Where the spec's words end it goes by the model's choices of assumptions 36, 145, 146, 147, 148, 151 and 152.
Completing with their own effect: enc, dec, macGen, macVerify, sign, verify, wrap, attest, unlock, derive, unwrap, provision, keyOpComplete, slotReplaceCommit. -/
def Obligations.CellarOperations : Prop :=
  (∀ (s : State) (e : Fin 4096) (tag : BitVec 16) (c : Cmd), KeyReady s e.val tag.toNat 1 c →
    ∃ t, exec (.enc e tag) s = .next t ∧ KeyStarted s t e.val tag.toNat 1 c ∧ Frame s t [.ep, .ks] (fun _ => False)) ∧
  (∀ (s : State) (e : Fin 4096) (tag : BitVec 16) (c : Cmd), KeyReady s e.val tag.toNat 2 c →
    ∃ t, exec (.dec e tag) s = .next t ∧ KeyStarted s t e.val tag.toNat 2 c ∧ Frame s t [.ep, .ks] (fun _ => False)) ∧
  (∀ (s : State) (e : Fin 4096) (tag : BitVec 16) (c : Cmd), KeyReady s e.val tag.toNat 3 c →
    ∃ t, exec (.macGen e tag) s = .next t ∧ KeyStarted s t e.val tag.toNat 3 c ∧ Frame s t [.ep, .ks] (fun _ => False)) ∧
  (∀ (s : State) (e : Fin 4096) (tag : BitVec 16) (c : Cmd), KeyReady s e.val tag.toNat 4 c →
    ∃ t, exec (.macVerify e tag) s = .next t ∧ KeyStarted s t e.val tag.toNat 4 c ∧ Frame s t [.ep, .ks] (fun _ => False)) ∧
  (∀ (s : State) (e : Fin 4096) (tag : BitVec 16) (c : Cmd), KeyReady s e.val tag.toNat 5 c →
    ∃ t, exec (.sign e tag) s = .next t ∧ KeyStarted s t e.val tag.toNat 5 c ∧ Frame s t [.ep, .ks] (fun _ => False)) ∧
  (∀ (s : State) (e : Fin 4096) (tag : BitVec 16) (c : Cmd), KeyReady s e.val tag.toNat 6 c →
    ∃ t, exec (.verify e tag) s = .next t ∧ KeyStarted s t e.val tag.toNat 6 c ∧ Frame s t [.ep, .ks] (fun _ => False)) ∧
  (∀ (s : State) (e : Fin 4096) (tag : BitVec 16) (c : Cmd), KeyReady s e.val tag.toNat 8 c →
    ∃ t, exec (.wrap e tag) s = .next t ∧ KeyStarted s t e.val tag.toNat 8 c ∧ Frame s t [.ep, .ks] (fun _ => False)) ∧
  (∀ (s : State) (e : Fin 4096) (tag : BitVec 16) (c : Cmd), KeyReady s e.val tag.toNat 10 c →
    ∃ t, exec (.attest e tag) s = .next t ∧ KeyStarted s t e.val tag.toNat 10 c ∧ Frame s t [.ep, .ks] (fun _ => False)) ∧
  (∀ (s : State) (e : Fin 4096) (tag : BitVec 16) (c : Cmd), KeyReady s e.val tag.toNat 11 c →
    ∃ t, exec (.unlock e tag) s = .next t ∧ KeyStarted s t e.val tag.toNat 11 c ∧ Frame s t [.ep, .ks] (fun _ => False)) ∧
  (∀ (s : State) (e : Fin 4096) (tag : BitVec 16) (c : Cmd), KeyReady s e.val tag.toNat 7 c →
    ∃ t, exec (.derive e tag) s = .next t ∧ KeyReplaces s t e.val tag.toNat c (s.keySlotOf c.ep c.aux) ∧ t.otp = s.otp ∧ t.pending = s.pending) ∧
  (∀ (s : State) (e : Fin 4096) (tag : BitVec 16) (c : Cmd), KeyReady s e.val tag.toNat 9 c →
    ∃ t, exec (.unwrap e tag) s = .next t ∧ KeyReplaces s t e.val tag.toNat c (s.keySlotOf c.ep c.aux) ∧ t.otp = s.otp ∧ t.pending = s.pending) ∧
  (∀ (s : State) (e : Fin 4096) (tag : BitVec 16) (c : Cmd), KeyReady s e.val tag.toNat 12 c →
    ∃ t, exec (.provision e tag) s = .next t ∧ KeyReplaces s t e.val tag.toNat c (s.keySlotOf c.ep c.slotNo) ∧ t.otp = s.otp ∧ t.pending = s.pending) ∧
  (∀ (s : State) (e : Fin 4096) (tag : BitVec 16) (c : Cmd) (k : KeyOp), s.cmdOf e.val tag.toNat = some c → c.op = 1 → s.ks.ops = [k] →
    k.ep = e.val → k.tag = tag.toNat → k.started = true → k.target = none → s.poisoned c.src c.keyLen = false →
    recordAt s c + 16 ≤ c.dst ∨ c.dst + c.keyLen ≤ recordAt s c →
    ∃ t, exec (.keyOpComplete e tag) s = .next t ∧ t.bytes c.dst c.keyLen = ctr k.slot.key c.iv c.c0 (s.bytes c.src c.keyLen) ∧
      Recorded s t c Code.DONE 0 s.vt c.lateSeen ∧ t.ks.ops = [] ∧ t.ks.slots = s.ks.slots ∧
      (∀ b, (b < recordAt s c ∨ recordAt s c + 16 ≤ b) → (b < c.dst ∨ c.dst + c.keyLen ≤ b) → t.byte b = s.byte b)) ∧
  (∀ (s : State) (e : Fin 4096) (tag : BitVec 16) (c : Cmd) (k : KeyOp), s.cmdOf e.val tag.toNat = some c → c.op = 4 → s.ks.ops = [k] →
    k.ep = e.val → k.tag = tag.toNat → k.started = true → k.target = none → s.poisoned c.src c.keyLen = false → s.poisoned c.arg c.aux = false →
    ∃ t, exec (.keyOpComplete e tag) s = .next t ∧
      Recorded s t c (if (macOf k.slot (s.bytes c.src c.keyLen)).take c.aux = s.bytes c.arg c.aux then Code.DONE else Code.AUTH_FAIL) 0 s.vt c.lateSeen ∧
      OnlyRecord s t c ∧ t.ks.ops = [] ∧ t.ks.slots = s.ks.slots) ∧
  (∀ (s : State) (n : Fin 128) (c : Cmd) (k : KeyOp), s.ks.ops = [k] → k.started = true → k.target = some n.val → s.cmdOf k.ep k.tag = some c →
    ∃ t, exec (.slotReplaceCommit n false) s = .next t ∧ t.slot n.val = s.keyFrom k.record ∧
      (∀ m : Fin 128, m ≠ n → t.slot m.val = s.slot m.val) ∧ Recorded s t c Code.DONE (if c.op = 7 then beNat ((recKcv k.record).take 2) else 0) s.vt c.lateSeen ∧ t.ks.ops = []) ∧
  (∀ (s : State) (n : Fin 128) (c : Cmd) (k : KeyOp), s.ks.ops = [k] → k.started = true → k.target = some n.val → s.cmdOf k.ep k.tag = some c →
    ∃ t, exec (.slotReplaceCommit n true) s = .next t ∧ t.ks.slots = s.ks.slots ∧ Recorded s t c Code.POISONED 0 s.vt c.lateSeen ∧
      OnlyRecord s t c ∧ t.ks.ops = []) ∧
  (∀ (s : State) (e : Fin 4096) (tag : BitVec 16) (c : Cmd) (k : KeyOp), s.cmdOf e.val tag.toNat = some c → c.op = 10 → s.ks.ops = [k] →
    k.ep = e.val → k.tag = tag.toNat → k.started = true → k.target = none → s.poisoned c.src 32 = false →
    recordAt s c + 16 ≤ c.dst ∨ c.dst + 0x100 ≤ recordAt s c →
    ∃ t, exec (.keyOpComplete e tag) s = .next t ∧ t.ks.attests = s.ks.attests + 1 ∧
      t.bytes c.dst (s.attestRecord (s.slot 0).key (s.bytes c.src 32) (s.ks.attests + 1)).length =
        s.attestRecord (s.slot 0).key (s.bytes c.src 32) (s.ks.attests + 1) ∧
      Recorded s t c Code.DONE 0 s.vt c.lateSeen ∧ t.ks.ops = [] ∧ t.ks.slots = s.ks.slots) ∧
  (∀ (s : State) (e : Fin 4096) (tag : BitVec 16) (c : Cmd) (k : KeyOp), s.cmdOf e.val tag.toNat = some c → c.op = 11 → s.ks.ops = [k] →
    k.ep = e.val → k.tag = tag.toNat → k.started = true → k.target = none → s.poisoned c.src 32 = false →
    ∃ t, exec (.keyOpComplete e tag) s = .next t ∧
      Recorded s t c (if s.bytes c.src 32 = s.unlockToken (s.slot 0).key then Code.DONE else Code.AUTH_FAIL) 0 s.vt c.lateSeen ∧
      t.ksState = (if s.bytes c.src 32 = s.unlockToken (s.slot 0).key then 1 else s.ksState) ∧ t.ks.ops = [])

/-- TAMPER_EVENT in Active under FULL: no KEY command before its commit point is left, Cellar is LOCKED, no slot but 0 keeps a key, the
record is pending. Under ABORT_ONLY the commands end likewise, while slots and STATE stay. In Parked or Standby a source is latched, and a
FULL one sets the tamper wake. TAMPER_RECORD_WRITE puts the due record at the tamper block and is no longer due. WORKING_KEY_CHECK turns a
slot whose copy no longer matches bad and wipes it, no other slot; PROV_LOCK, with its key, burns the lock and closes provisioning, and no
other OTP bit changes; DRBG_HEALTH_CHANGE shows the new health. An SA load starts with RESULT BUSY; a sound one done installs the SA of
its association number with the staged values, with RESULT DONE.
Where the spec's words end it goes by the model's choices of assumptions 36, 148, 149, 150 and 153.
Completing with their own effect: tamperEvent, sleepTamperLatch, tamperRecordWrite, workingKeyCheck, provLock, drbgHealthChange, macsecSaLoad, macsecSaLoadDone. -/
def Obligations.TamperAndKeys : Prop :=
  (∀ (s : State) (src : Fin 5), s.dev = .active → abortOnly (s.rd Fd.KS_TAMPER_POLICY_ABORT_ONLY) src.val = false → s.ksState ≠ 3 →
    ∃ t, exec (.tamperEvent src) s = .next t ∧ t.ksState = 2 ∧ (∀ n : Fin 128, n.val ≠ 0 → (t.slot n.val).st ≠ 1) ∧
      t.flag Fd.KS_TAMPER_REC_PENDING = true ∧ t.ks.ops = [] ∧
      t.ep.inflight.any (fun c => (s.epAt c.ep).ty == 4 && (c.phase == .passed || c.phase == .waiting)) = false ∧ t.otp = s.otp) ∧
  (∀ (s : State) (src : Fin 5), s.dev = .active → abortOnly (s.rd Fd.KS_TAMPER_POLICY_ABORT_ONLY) src.val = true →
    ∃ t, exec (.tamperEvent src) s = .next t ∧ t.ks.ops = [] ∧ t.otp = s.otp ∧
      (s.ksState ≠ 3 → t.ksState = s.ksState ∧ t.ks.slots = s.ks.slots) ∧ t.flag Fd.KS_TAMPER_REC_NEW = true ∧
      t.ep.inflight.any (fun c => (s.epAt c.ep).ty == 4 && (c.phase == .passed || c.phase == .waiting)) = false) ∧
  (∀ (s : State) (src : Fin 5), s.dev = .parked ∨ s.dev = .standby → src.val ≤ 2 → abortOnly s.ks.policy src.val = false →
    ∃ t, exec (.sleepTamperLatch src) s = .next t ∧ tbit t.ks.latFull src.val = true ∧ t.flag (bitOf Rg.AO_WAKE_CAUSE 30) = true ∧
      (s.ao.underVolt = false → t.ao.booting = true) ∧ t.ks.slots = s.ks.slots ∧
      Frame s t [.regs, .ks, .ao, .ic] (fun a => a = Rg.AO_WAKE_CAUSE)) ∧
  (∀ (s : State) (src : Fin 5), s.dev = .parked ∨ s.dev = .standby → src.val ≤ 2 → abortOnly s.ks.policy src.val = true → s.ks.latFull = 0 →
    ∃ t, exec (.sleepTamperLatch src) s = .next t ∧ tbit t.ks.latAbort src.val = true ∧ t.ks.latTime = s.sleepTime ∧
      t.ks.slots = s.ks.slots ∧ Frame s t [.ks] (fun _ => False)) ∧
  (∀ (s : State), s.dev = .active → s.ks.recDue = true → s.flag Fd.KS_TAMPER_REC_PENDING = true →
    ∃ t, exec .tamperRecordWrite s = .next t ∧ t.bytes tamperAddr 16 = s.tamperRecord ∧ t.ks.recDue = false ∧ t.ks.slots = s.ks.slots ∧
      (∀ b, b < tamperAddr ∨ tamperAddr + 0x1000 ≤ b → t.byte b = s.byte b) ∧ Frame s t [.ks, .mem, .wg] (fun _ => False)) ∧
  (∀ (s : State) (n : Fin 128), s.dev = .active → (s.slot n.val).st = 1 →
    ∃ t, exec (.workingKeyCheck [n]) s = .next t ∧ t.slot n.val = { KeySlot.empty with st := 2 } ∧
      (∀ m : Fin 128, m ≠ n → t.slot m.val = s.slot m.val) ∧ t.flag Fd.KS_STATUS_SLOT_ALERT = true ∧
      Frame s t [.regs, .ks, .ic] (fun a => a = Rg.KS_STATUS ∨ a = Rg.KS_EVENT 2 ∨ a = Rg.KS_EVENT_SAT)) ∧
  (∀ (s : State) (who : Who) (w : Word), s.passesChecks (s.issuer who) 4 Rg.KS_PROV_LOCK w false (w.toNat != 0x4C4F434B) = true →
    ∃ t, exec (.provLock who w) s = .next t ∧ t.otp = { s.otp with provLocked := true } ∧ t.flag Fd.KS_STATUS_PROV_OPEN = false ∧
      t.resp = .done ∧ Frame s t [.regs, .otp, .resp] (fun a => a = Rg.KS_PROV_LOCK ∨ a = Rg.KS_STATUS)) ∧
  (∀ (s : State) (ok : Bool), s.dev = .active →
    ∃ t, exec (.drbgHealthChange ok) s = .next t ∧ t.ks.drbgOk = ok ∧ t.flag Fd.KS_STATUS_DRBG_OK = ok ∧ t.ks.slots = s.ks.slots ∧
      Frame s t [.regs, .ks] (fun a => a = Rg.KS_STATUS)) ∧
  (∀ (s : State) (who : Who) (m : Fin 3) (w : Word),
    s.passesChecks (s.issuer who) 4 (Rg.SW_MS_SA_LOAD m.val) w false (!tbit w.toNat 15 && getBits w.toNat 14 13 != 0) = true →
    s.rd (Fd.SW_MS_SA_LOAD_RESULT m.val) ≠ Code.BUSY →
    ∃ t, exec (.macsecSaLoad who m w) s = .next t ∧ t.rd (Fd.SW_MS_SA_LOAD_RESULT m.val) = Code.BUSY ∧
      ((tget (fun _ => none) t.sw.saLoad m.val).map (fun l => l.code)) = some (s.saLoadCode m.val w.toNat) ∧ t.resp = .done ∧
      t.sw.txSa = s.sw.txSa ∧ t.sw.rxSa = s.sw.rxSa ∧ Frame s t [.regs, .sw, .resp] (fun a => a = Rg.SW_MS_SA_LOAD m.val)) ∧
  (∀ (s : State) (m : Fin 3) (l : SaLoad), tget (fun _ => none) s.sw.saLoad m.val = some l → l.code = Code.DONE → tbit l.w 15 = false →
    ∃ t, exec (.macsecSaLoadDone m) s = .next t ∧ t.rd (Fd.SW_MS_SA_LOAD_RESULT m.val) = Code.DONE ∧
      t.txSaAt (msPort m.val) (getBits l.w 12 11) = some l.sa ∧ tget (fun _ => none) t.sw.saLoad m.val = none ∧ t.sw.rxSa = s.sw.rxSa ∧
      Frame s t [.regs, .sw, .ic] (fun a => a = Rg.SW_MS_SA_LOAD m.val))

/-- An accepted APPLY whose delta fails the first step shows that step's code in UP_CMD.RESULT and in UP_FAIL and leaves the inactive bank
INVALID; one that passes it shows BUSY and an apply under way; neither changes a byte outside the image area of the inactive bank. The
commit point of an apply with no failing step makes the bank STAGED, with the held-back header bytes at its base and RESULT DONE. A
failure, and an ABORT before the commit point, leave it INVALID, with the failing section and position shown, or with CANCELLED; an ABORT
with nothing pending shows ALREADY_DONE and touches no bank. CONFIRM of a bank in trial clears the trial in the boot record, shows DONE,
and the anti-rollback floor never falls.
Where the spec's words end it goes by the model's choices of assumptions 42, 43, 44 and 45.
Completing with their own effect: apply, applyCommit, applyFailure, updateAbort, confirm. -/
def Obligations.UpdateOfABank : Prop :=
  (∀ (s : State) (who : Who) (clr : Bool), s.passesChecks (s.issuer who) 4 Rg.UP_CMD (upWord 1 clr) false false = true →
    s.rd Fd.UP_CMD_RESULT ≠ Code.BUSY → s.rd Fd.UP_CMD_RESULT ≠ Code.ACCEPTED → s.anyTrial = false → s.up.actAt = none →
    s.applyCode (s.bytes s.upSrc s.upLen) ≠ Code.DONE →
    ∃ t, exec (.apply who clr) s = .next t ∧ t.rd Fd.UP_CMD_RESULT = s.applyCode (s.bytes s.upSrc s.upLen) ∧
      t.rd Fd.UP_FAIL_CODE = s.applyCode (s.bytes s.upSrc s.upLen) ∧ t.bankState s.idleBank = 5 ∧ t.up.apply = none ∧ t.resp = .done ∧
      Frame s t [.regs, .ic, .up, .resp] (fun a => a = Rg.UP_STATUS ∨ a = Rg.UP_CMD ∨ a = Rg.UP_FAIL ∨ a = Rg.UP_FAIL_POS ∨ a = Rg.UP_PROGRESS)) ∧
  (∀ (s : State) (who : Who) (clr : Bool), s.passesChecks (s.issuer who) 4 Rg.UP_CMD (upWord 1 clr) false false = true →
    s.rd Fd.UP_CMD_RESULT ≠ Code.BUSY → s.rd Fd.UP_CMD_RESULT ≠ Code.ACCEPTED → s.anyTrial = false → s.up.actAt = none →
    s.applyCode (s.bytes s.upSrc s.upLen) = Code.DONE →
    ∃ t, exec (.apply who clr) s = .next t ∧ t.rd Fd.UP_CMD_RESULT = Code.BUSY ∧ t.bankState s.idleBank = 1 ∧ t.up.apply.isSome = true ∧
      t.resp = .done ∧ (∀ a, a < bankBase s.idleBank ∨ bankBase s.idleBank + imageEnd ≤ a → t.byte a = s.byte a) ∧
      Frame s t [.regs, .ic, .up, .resp, .mem, .wg] (fun a => a = Rg.UP_STATUS ∨ a = Rg.UP_CMD ∨ a = Rg.UP_PROGRESS)) ∧
  (∀ (s : State) (x : Apply), s.up.apply = some x → x.code = Code.DONE →
    ∃ t, exec .applyCommit s = .next t ∧ t.bankState s.idleBank = 2 ∧ t.up.apply = none ∧ t.rd Fd.UP_CMD_RESULT = Code.DONE ∧
      t.flag Fd.UP_CMD_DONE = true ∧ t.bytes (bankBase s.idleBank) x.head.length = x.head ∧
      Frame s t [.regs, .ic, .up, .mem, .wg] (fun a => a = Rg.UP_STATUS ∨ a = Rg.UP_CMD)) ∧
  (∀ (s : State) (x : Apply) (sec : BitVec 16) (pos : Word), s.up.apply = some x →
    ∃ t, exec (.applyFailure true sec pos) s = .next t ∧ t.bankState s.idleBank = 5 ∧ t.up.apply = none ∧
      t.rd Fd.UP_CMD_RESULT = Code.POISONED ∧ t.rd Fd.UP_FAIL_CODE = Code.POISONED ∧ t.rd Fd.UP_FAIL_SECTION = sec.toNat ∧
      t.reg Rg.UP_FAIL_POS = pos ∧ t.flag Fd.UP_CMD_DONE = true ∧
      Frame s t [.regs, .ic, .up] (fun a => a = Rg.UP_STATUS ∨ a = Rg.UP_CMD ∨ a = Rg.UP_FAIL ∨ a = Rg.UP_FAIL_POS)) ∧
  (∀ (s : State) (x : Apply) (sec : BitVec 16) (pos : Word), s.up.apply = some x → x.code ≠ Code.DONE →
    ∃ t, exec (.applyFailure false sec pos) s = .next t ∧ t.bankState s.idleBank = 5 ∧ t.up.apply = none ∧
      t.rd Fd.UP_CMD_RESULT = x.code % 65536 ∧ t.rd Fd.UP_FAIL_SECTION = x.sec % 65536 ∧ t.reg Rg.UP_FAIL_POS = BitVec.ofNat 32 x.pos ∧
      Frame s t [.regs, .ic, .up] (fun a => a = Rg.UP_STATUS ∨ a = Rg.UP_CMD ∨ a = Rg.UP_FAIL ∨ a = Rg.UP_FAIL_POS)) ∧
  (∀ (s : State) (who : Who) (clr : Bool), s.passesChecks (s.issuer who) 4 Rg.UP_CMD (upWord 5 clr) false false = true → s.up.apply.isSome = true →
    ∃ t, exec (.updateAbort who clr) s = .next t ∧ t.rd Fd.UP_CMD_RESULT = Code.CANCELLED ∧ t.bankState s.idleBank = 5 ∧
      t.up.apply = none ∧ t.resp = .done ∧ Frame s t [.regs, .ic, .up, .resp] (fun a => a = Rg.UP_STATUS ∨ a = Rg.UP_CMD)) ∧
  (∀ (s : State) (who : Who) (clr : Bool), s.passesChecks (s.issuer who) 4 Rg.UP_CMD (upWord 5 clr) false false = true → s.up.apply = none →
    s.up.actAt = none →
    ∃ t, exec (.updateAbort who clr) s = .next t ∧ t.rd Fd.UP_CMD_RESULT = Code.ALREADY_DONE ∧ t.resp = .done ∧
      Frame s t [.regs, .ic, .resp] (fun a => a = Rg.UP_CMD)) ∧
  (∀ (s : State) (who : Who) (clr : Bool), s.passesChecks (s.issuer who) 4 Rg.UP_CMD (upWord 4 clr) false false = true →
    s.rd Fd.UP_CMD_RESULT ≠ Code.BUSY → s.rd Fd.UP_CMD_RESULT ≠ Code.ACCEPTED → s.bankState s.runningBank = 3 →
    ∃ t, exec (.confirm who clr) s = .next t ∧ t.rd Fd.UP_CMD_RESULT = Code.DONE ∧ t.flag Fd.UP_CMD_DONE = true ∧
      t.bankState s.runningBank = 4 ∧ t.bootRec.trial = 0 ∧ t.bootRec.bootBank = s.bootRec.bootBank ∧ s.otp.floor ≤ t.otp.floor ∧
      t.rd Fd.UP_FLOOR_FLOOR = t.otp.floor % 1024 ∧ t.otp.provLocked = s.otp.provLocked ∧ t.resp = .done ∧
      Frame s t [.regs, .ic, .up, .otp, .fresh, .resp] (fun a => a = Rg.UP_STATUS ∨ a = Rg.UP_CMD ∨ a = Rg.UP_FLOOR ∨ a = Rg.TP_EPOCH))

/-- An accepted ACTIVATE_NOW of a bank of CLASS full arms the trial of the staged bank in the boot record and restarts the device: Standby,
a boot due with cause UPDATE, and the trial stands in the record. Of CLASS management it restarts the management plane alone: RESULT DONE,
the device state, the OTP, the switch, CAN and the time of day as they were, every window compared, no reservation left. An accepted
ACTIVATE_AT shows ACCEPTED and makes the activation pending at UP_TIME. When vehicle time reaches it nothing is pending any more, vehicle
time is not earlier, and the restart of CLASS full is a device restart.
Where the spec's words end it goes by the model's choices of assumptions 38, 39, 46 and 47.
Completing with their own effect: activateNow, activateAt, activateAtCommit. -/
def Obligations.Activation : Prop :=
  (∀ (s : State) (who : Who) (clr : Bool) (m : BitVec 4), s.passesChecks (s.issuer who) 4 Rg.UP_CMD (upWord 2 clr) false false = true →
    s.rd Fd.UP_CMD_RESULT ≠ Code.BUSY → s.rd Fd.UP_CMD_RESULT ≠ Code.ACCEPTED → s.bankState s.idleBank = 2 → s.anyTrial = false →
    s.rd Fd.UP_STATUS_CLASS = 2 →
    ∃ t, exec (.activateNow who clr m) s = .next t ∧ t.bootRec.trial = 1 ∧ t.bootRec.bootBank = s.idleBank ∧ t.dev = .standby ∧
      t.ao.booting = true ∧ 6 ∈ t.ao.causes ∧ t.otp = s.otp ∧ t.plan = s.plan ∧ t.pending = s.pending ∧ t.resp = .done) ∧
  (∀ (s : State) (who : Who) (clr : Bool) (m : BitVec 4), s.passesChecks (s.issuer who) 4 Rg.UP_CMD (upWord 2 clr) false false = true →
    s.rd Fd.UP_CMD_RESULT ≠ Code.BUSY → s.rd Fd.UP_CMD_RESULT ≠ Code.ACCEPTED → s.bankState s.idleBank = 2 → s.anyTrial = false →
    s.rd Fd.UP_STATUS_CLASS = 1 →
    ∃ t, exec (.activateNow who clr m) s = .next t ∧ t.rd Fd.UP_CMD_RESULT = Code.DONE ∧ t.dev = s.dev ∧ t.otp = s.otp ∧ t.now = s.now ∧
      t.vt = s.vt ∧ t.ptp = s.ptp ∧ t.wg.resv = [] ∧ t.ao.wdtKick = s.now ∧ t.pending = s.pending ∧ t.resp = .done) ∧
  (∀ (s : State) (who : Who) (clr : Bool), s.passesChecks (s.issuer who) 4 Rg.UP_CMD (upWord 3 clr) false false = true →
    s.rd Fd.UP_CMD_RESULT ≠ Code.BUSY → s.rd Fd.UP_CMD_RESULT ≠ Code.ACCEPTED → s.bankState s.idleBank = 2 → s.anyTrial = false →
    s.rd Fd.UP_MODE_MODE ≠ 0 ∨ s.rd Fd.TP_STATUS_STATE = 3 → s.rd Fd.SQ_AS_STATUS_STATE = 2 → s.vt + 100 * ms ≤ s.upTime →
    s.upTime ≤ s.vt + 60 * sec →
    ∃ t, exec (.activateAt who clr) s = .next t ∧ t.rd Fd.UP_CMD_RESULT = Code.ACCEPTED ∧ t.up.actAt = some s.upTime ∧ t.resp = .done ∧
      Frame s t [.regs, .ic, .up, .resp] (fun a => a = Rg.UP_CMD)) ∧
  (∀ (s : State) (m : BitVec 4) (at_ : Nat), s.up.actAt = some at_ → s.rd Fd.UP_STATUS_CLASS = 2 →
    ∃ t, exec (.activateAtCommit m) s = .next t ∧ t.up.actAt = none ∧ at_ ≤ t.vt ∧ t.bootRec.trial = 1 ∧
      t.bootRec.bootBank = s.idleBank ∧ t.dev = .standby ∧ t.ao.booting = true ∧ t.otp = s.otp)

/-- Underpass is configured and powered, and PLK has its link. -/
abbrev UxRuns (s : State) : Prop := s.uxOn = true ∧ s.linkUp 22 = true
/-- The failure recorded in UX_ERR: its code, window, twin address, and the number of a posted write (R444, R445). -/
abbrev UxRecord (s t : State) (code win addr : Nat) (seq : Option Nat) : Prop :=
  t.flag Fd.UX_ERR_VALID = true ∧ t.flag Fd.UX_ERR_OVERWRITE = s.flag Fd.UX_ERR_VALID ∧ t.flag Fd.UX_ERR_POSTED = seq.isSome ∧
  t.rd Fd.UX_ERR_WINDOW = win % 8 ∧ t.rd Fd.UX_ERR_CODE = code % 65536 ∧ (t.reg Rg.UX_ERR_ADDR).toNat = addr % 2 ^ 32 ∧
  t.rd Fd.UX_ERR_INFO_ADDR_HI = addr / 2 ^ 32 % 4 ∧ t.rd Fd.UX_ERR_INFO_SEQ = seq.getD 0 % 65536
/-- `a` is a register of that record, the counter `k` or its saturation register. -/
abbrev UxErrReg (k a : Nat) : Prop :=
  a = Rg.UX_ERR ∨ a = Rg.UX_ERR_ADDR ∨ a = Rg.UX_ERR_INFO ∨ a = Rg.UX_EVENT k ∨ a = Rg.UX_EVENT_SAT
/-- `a` is UX_TWIN or UX_STATUS. -/
abbrev TwinReg (a : Nat) : Prop := a = Rg.UX_TWIN ∨ a = Rg.UX_STATUS
/-- A whole word of aperture `w`, enabled, that the district may use, and an access that can be issued and waits behind no gate (R329, R442, R444). -/
abbrev Aims (s : State) (who : Who) (a w : Nat) : Prop :=
  s.dev = .active ∧ 0x200F8000 ≤ a ∧ a < 0x200FC000 ∧ a % 4 = 0 ∧ apertureWin a = w ∧ s.mayAperture who w = true ∧ s.uxOn = true ∧
  s.flag (Fd.UX_OUT_WIN_LO_EN w) = true ∧
  s.gateWait who = false ∧ s.toGate who a = false
/-- The operation writes one word. -/
def isWordWrite (o : UxOp) : Bool := match o with | .write _ => true | _ => false
/-- Access `k` in flight is `x`, the first of its initiator. -/
abbrev InFlight (s : State) (k : Nat) (x : NpAcc) : Prop := s.ux.np[k]? = some x ∧ s.npFirst k x = true
/-- Nothing of Underpass changes but its list of accesses in flight. -/
abbrev OnlyFlight (s t : State) : Prop := t.ux = { s.ux with np := t.ux.np }
/-- Nothing of Underpass changes but its semaphores. -/
abbrev OnlySems (s t : State) : Prop := t.ux = { s.ux with sems := t.ux.sems }
/-- The district may use the semaphore's register, in a word access. -/
abbrev SemOpen (s : State) (who : Who) (a : Nat) : Prop :=
  s.reaches who a = true ∧ s.gated (pageBlock a) = false ∧ s.uxOn = true ∧ s.mayRead who ⟨0, [], .group 9, []⟩ a = true ∧
  (RegMap.at a).map (fun p => s.mayRead who p.1 a) = some true

/-- With Underpass configured: a heartbeat with the unit's ROLE and PRIMARY leaves 1 ms after the last. A valid one from the other role,
with the other PRIMARY and no strap fault, clears CONFLICT and makes the twin ACTIVE, ASLEEP or in SUPPLY_LOSS as it says; any other sets
CONFLICT and counts HB_BAD, and the twin's state stays. 3 ms without one make a twin that was not going to sleep LOST, counted. A poll leaves 50 µs
after the last; its answer from a twin that is ACTIVE shows FAULT_OUT and the lines, and ends the posted writes it acknowledges. A decided
takeover of a channel in STANDBY commits as TAKEN with its cause and the primary's state, counted; a hand-back switches the channel off
and returns it to STANDBY.
Where the spec's words end it goes by the model's choices of assumptions 154, 155 and 157.
Completing with their own effect: heartbeatSend, heartbeatReceived, twinLost, sidebandPoll, pollAnswer, takeoverCommit, handback. -/
def Obligations.TwinWatch : Prop :=
  (∀ (s : State), s.uxOn = true → s.gated 8 = false →
    ∃ t, exec .heartbeatSend s = .next t ∧
      t.ux.hbOut = some ⟨s.flag Fd.UX_STATUS_ROLE, s.flag Fd.UX_STATUS_PRIMARY, false, false, decide (2 ≤ s.rd Fd.SYS_X_STATUS_STRAP)⟩ ∧
      s.ux.hbSentAt + 1000000 ≤ t.now ∧ t.ux.hbSentAt = t.now ∧ t.ux.hbAt = s.ux.hbAt ∧ t.ux.np = s.ux.np ∧
      Frame s t [.ux, .now, .vt, .ptp] (fun _ => False)) ∧
  (∀ (s : State) (h : Heartbeat), UxRuns s → h.role ≠ s.flag Fd.UX_STATUS_ROLE → h.primary ≠ s.flag Fd.UX_STATUS_PRIMARY →
    h.strapFault = false → s.rd Fd.SYS_X_STATUS_STRAP < 2 → h.supplyLoss = false → h.sleep = false →
    ∃ t, exec (.heartbeatReceived h) s = .next t ∧ t.rd Fd.UX_TWIN_STATE = 1 ∧ t.flag Fd.UX_TWIN_CONFLICT = false ∧
      t.flag Fd.UX_TWIN_TWIN_ROLE = h.role ∧ t.flag Fd.UX_STATUS_CHG = (s.flag Fd.UX_STATUS_CHG || decide (s.rd Fd.UX_TWIN_STATE ≠ 1)) ∧
      t.ux = { s.ux with hbAt := s.now, alive := true, hbSleep := false } ∧ Frame s t [.ux, .regs, .ic] TwinReg) ∧
  (∀ (s : State) (h : Heartbeat), UxRuns s → h.role ≠ s.flag Fd.UX_STATUS_ROLE → h.primary ≠ s.flag Fd.UX_STATUS_PRIMARY →
    h.strapFault = false → s.rd Fd.SYS_X_STATUS_STRAP < 2 → h.supplyLoss = false → h.sleep = true → s.rd Fd.UX_TWIN_STATE ≠ 2 →
    ∃ t, exec (.heartbeatReceived h) s = .next t ∧ t.rd Fd.UX_TWIN_STATE = 2 ∧ t.flag Fd.UX_STATUS_CHG = true ∧ t.ux.hbSleep = true ∧
      t.ux.np = [] ∧ t.ux.posted = [] ∧ t.rd Fd.UX_TWIN_LINES = 0 ∧ t.ux.takes = s.ux.takes ∧
      Frame s t [.ux, .regs, .ic, .wg, .resp] (fun a => TwinReg a ∨ UxErrReg 2 a ∨ a = Rg.UX_EVENT 4)) ∧
  (∀ (s : State) (h : Heartbeat), UxRuns s → h.role = s.flag Fd.UX_STATUS_ROLE ∨ h.primary = s.flag Fd.UX_STATUS_PRIMARY ∨
      h.strapFault = true ∨ 2 ≤ s.rd Fd.SYS_X_STATUS_STRAP →
    ∃ t, exec (.heartbeatReceived h) s = .next t ∧ t.flag Fd.UX_TWIN_CONFLICT = true ∧ t.rd Fd.UX_TWIN_STATE = s.rd Fd.UX_TWIN_STATE ∧
      Counted s t (Rg.UX_EVENT 1) ∧ Frame s t [.regs] (fun a => a = Rg.UX_TWIN ∨ a = Rg.UX_EVENT 1 ∨ a = Rg.UX_EVENT_SAT)) ∧
  (∀ (s : State), s.uxOn = true → s.ux.alive = true → s.ux.hbSleep = false → s.rd Fd.UX_TWIN_STATE ≠ 0 →
    ∃ t, exec .twinLost s = .next t ∧ t.rd Fd.UX_TWIN_STATE = 0 ∧ t.flag Fd.UX_STATUS_CHG = true ∧ s.ux.hbAt + 3000000 ≤ t.now ∧
      t.ux.alive = false ∧ t.ux.np = [] ∧ t.ux.posted = [] ∧ t.rd Fd.UX_TWIN_LINES = 0 ∧ Counted s t (Rg.UX_EVENT 0) ∧
      (∀ n ∈ s.waitingSecond, s.conflict = false → (tget (fun _ => none) t.ux.takes n).map (·.cause) = some 1) ∧
      Frame s t [.ux, .regs, .ic, .wg, .resp, .now, .vt, .ptp] (fun a => TwinReg a ∨ UxErrReg 2 a ∨ a = Rg.UX_EVENT 4 ∨ a = Rg.UX_EVENT 0)) ∧
  (∀ (s : State), s.uxOn = true →
    ∃ t, exec .sidebandPoll s = .next t ∧ s.ux.pollAt + 50000 ≤ t.now ∧ t.ux = { s.ux with pollAt := t.now } ∧
      Frame s t [.ux, .now, .vt, .ptp] (fun _ => False)) ∧
  (∀ (s : State) (r : PollReply), UxRuns s → s.rd Fd.UX_TWIN_STATE = 1 → r.supplyLoss = false → (∀ c ∈ r.chans, c.layby = false) →
    ∃ t, exec (.pollAnswer r) s = .next t ∧ t.flag Fd.UX_TWIN_FAULT_OUT = r.faultOut ∧ t.rd Fd.UX_TWIN_LINES = r.lines.toNat ∧
      t.flag Fd.UX_STATUS_CHG = (s.flag Fd.UX_STATUS_CHG || decide (s.flag Fd.UX_TWIN_FAULT_OUT ≠ r.faultOut)) ∧
      (∀ q ∈ t.ux.posted, q ∈ s.ux.posted ∧ (r.acked.isSome = true → later q.seq (r.acked.getD 0).toNat = true)) ∧ t.ux.twinDev = r.state.toNat ∧
      t.ux.takes = s.ux.takes ∧ t.ux.np = s.ux.np ∧ Frame s t [.ux, .regs, .ic] TwinReg) ∧
  (∀ (s : State) (n : Fin 48) (x : Takeover), tget (fun _ => none) s.ux.takes n.val = some x → s.uxOn = true → s.conflict = false →
    s.rd (Fd.UX_TAKEOVER_STATE n.val) = 2 → s.kb.up = true → x.last.on = false → x.cause ≤ 3 →
    ∃ t, exec (.takeoverCommit n) s = .next t ∧ t.rd (Fd.UX_TAKEOVER_STATE n.val) = 3 ∧ t.rd (Fd.UX_TAKEOVER_CAUSE n.val) = x.cause ∧
      (s.out n.val = true → ∀ m ∈ s.members n.val, t.out m = false) ∧ (∀ m ∈ s.members n.val, t.cmdOn m = false) ∧
      Counted s t (Rg.UX_EVENT 7) ∧ tget (fun _ => none) t.ux.takes n.val = none ∧
      Frame s t [.ux, .kb, .regs, .ic] (fun a => OfChan s n.val a ∨ a = Rg.UX_TAKEOVER n.val ∨ a = Rg.UX_EVENT 7 ∨ a = Rg.UX_EVENT_SAT)) ∧
  (∀ (s : State) (n : Fin 48) (x : Takeover), tget (fun _ => none) s.ux.takes n.val = some x → s.uxOn = true → s.conflict = false →
    s.rd (Fd.UX_TAKEOVER_STATE n.val) = 2 → s.kb.up = true → x.last.on = true → x.cause ≤ 3 → s.latched n.val = false →
    s.cooling n.val = false → s.shedRefuses n.val = false → s.suspended (s.chFeed n.val) = false → s.out n.val = false →
    ∃ t, exec (.takeoverCommit n) s = .next t ∧ t.rd (Fd.UX_TAKEOVER_STATE n.val) = 3 ∧ t.rd (Fd.UX_TAKEOVER_CAUSE n.val) = x.cause ∧
      (∀ m ∈ s.members n.val, t.out m = true) ∧ (∀ m ∈ s.members n.val, t.cmdOn m = true) ∧ (t.chan n.val).duty = x.last.duty.toNat ∧
      Counted s t (Rg.UX_EVENT 7) ∧ tget (fun _ => none) t.ux.takes n.val = none ∧
      Frame s t [.ux, .kb, .regs, .ic] (fun a => OfChan s n.val a ∨ a = Rg.UX_TAKEOVER n.val ∨ a = Rg.UX_EVENT 7 ∨ a = Rg.UX_EVENT_SAT)) ∧
  (∀ (s : State) (who : Who) (n : Fin 48), s.passesChecks (s.issuer who) 4 (Rg.UX_TAKEOVER n.val) 0x80000000 false false = true → s.uxOn = true →
    s.rd Fd.UX_TWIN_STATE = 1 → s.primaryLayby n.val = false → s.rd (Fd.UX_TAKEOVER_STATE n.val) = 3 →
    ∃ t, exec (.handback who n) s = .next t ∧ t.rd (Fd.UX_TAKEOVER_STATE n.val) = 2 ∧ t.rd (Fd.UX_TAKEOVER_CAUSE n.val) = 0 ∧
      (s.out n.val = true → ∀ m ∈ s.members n.val, t.out m = false) ∧ (∀ m ∈ s.members n.val, t.cmdOn m = false) ∧ t.resp = .done ∧
      Frame s t [.kb, .regs, .ic, .resp] (fun a => OfChan s n.val a ∨ a = Rg.UX_TAKEOVER n.val))

/-- A word access of an enabled aperture that the district may use is issued to REMOTE + o: as a posted write it completes at once with the
next sequence number, otherwise it joins the accesses in flight; to a twin that is lost, asleep or unreachable it is a bus error recorded as
LINK_DOWN, or a posted write dropped and counted. A district without the aperture gets a bus error, NOT_OWNER in UX_LAST_REJECT. The answer within 4 µs
completes the first access of an initiator with its word, or fails it with its code; a held semaphore leaves it for a retry 1 µs on. 4 µs after the issue it
ends with LINK_LOST, or TIMEOUT. An error message for a posted write records it, counted.
Where the spec's words end it goes by the model's choices of assumptions 155, 156, 159, 160 and 161.
Completing with their own effect: apertureAccess, nonPostedAnswer, nonPostedTimeout, atomicRetry, postedErrorReceived. -/
def Obligations.TwinAccess : Prop :=
  (∀ (s : State) (who : Who) (o : UxOp) (a : BitVec 34) (w : Nat), Aims s (s.issuer who) a.toNat w →
    (∀ k : Fin 32, o ≠ .sem k ∧ o ≠ .release k) → (isWordWrite o && s.flag (Fd.UX_OUT_WIN_LO_POSTED w)) = false →
    s.issueCode = Code.DONE → s.ux.np.length < 16 →
    ∃ t, exec (.apertureAccess who 4 o a) s = .next t ∧
      t.ux.np = s.ux.np ++ [⟨(s.issuer who), w, o, s.rd (Fd.UX_OUT_WIN_LO_REMOTE w) * 2048 + 2 ^ 32 * s.rd (Fd.UX_OUT_WIN_HI_REMOTE_HI w) + a.toNat % 2048, s.now, s.now, false⟩] ∧
      OnlyFlight s t ∧ Frame s t [.ux] (fun _ => False)) ∧
  (∀ (s : State) (who : Who) (o : UxOp) (a : BitVec 34) (w : Nat), Aims s (s.issuer who) a.toNat w →
    (∀ k : Fin 32, o ≠ .sem k ∧ o ≠ .release k) → (isWordWrite o && s.flag (Fd.UX_OUT_WIN_LO_POSTED w)) = false →
    s.conflict = false → s.rd Fd.UX_TWIN_STATE = 0 ∨ s.rd Fd.UX_TWIN_STATE = 2 ∨ s.linkUp 22 = false →
    ∃ t, exec (.apertureAccess who 4 o a) s = .next t ∧
      UxRecord s t Code.LINK_DOWN w (s.rd (Fd.UX_OUT_WIN_LO_REMOTE w) * 2048 + 2 ^ 32 * s.rd (Fd.UX_OUT_WIN_HI_REMOTE_HI w) + a.toNat % 2048) none ∧
      Counted s t (Rg.UX_EVENT 2) ∧ t.resp = .busError ∧ t.ux = s.ux ∧ Frame s t [.regs, .ic, .wg, .resp] (UxErrReg 2)) ∧
  (∀ (s : State) (who : Who) (v : Word) (a : BitVec 34) (w : Nat), Aims s (s.issuer who) a.toNat w → s.flag (Fd.UX_OUT_WIN_LO_POSTED w) = true →
    s.conflict = false → s.rd Fd.UX_TWIN_STATE = 1 ∨ s.rd Fd.UX_TWIN_STATE = 3 →
    ∃ t, exec (.apertureAccess who 4 (.write v) a) s = .next t ∧ t.resp = .done ∧ t.ux.postSeq = (s.ux.postSeq + 1) % 65536 ∧
      t.ux.posted = s.ux.posted ++ [⟨s.ux.postSeq, w, s.rd (Fd.UX_OUT_WIN_LO_REMOTE w) * 2048 + 2 ^ 32 * s.rd (Fd.UX_OUT_WIN_HI_REMOTE_HI w) + a.toNat % 2048⟩] ∧
      t.ux.np = s.ux.np ∧ Frame s t [.ux, .resp] (fun _ => False)) ∧
  (∀ (s : State) (who : Who) (v : Word) (a : BitVec 34) (w : Nat), Aims s (s.issuer who) a.toNat w → s.flag (Fd.UX_OUT_WIN_LO_POSTED w) = true →
    s.conflict = false → s.rd Fd.UX_TWIN_STATE = 0 ∨ s.rd Fd.UX_TWIN_STATE = 2 →
    ∃ t, exec (.apertureAccess who 4 (.write v) a) s = .next t ∧ t.resp = .done ∧ t.ux = { s.ux with postSeq := (s.ux.postSeq + 1) % 65536 } ∧
      UxRecord s t Code.LINK_DOWN w (s.rd (Fd.UX_OUT_WIN_LO_REMOTE w) * 2048 + 2 ^ 32 * s.rd (Fd.UX_OUT_WIN_HI_REMOTE_HI w) + a.toNat % 2048) (some s.ux.postSeq) ∧
      Counted s t (Rg.UX_EVENT 4) ∧ Frame s t [.ux, .resp, .regs, .ic] (UxErrReg 4)) ∧
  (∀ (s : State) (who : Who) (o : UxOp) (a : BitVec 34), s.dev = .active → 0x200F8000 ≤ a.toNat → a.toNat < 0x200FC000 → a.toNat % 4 = 0 →
    s.mayAperture (s.issuer who) (apertureWin a.toNat) = false → s.gated 15 = false → s.gateWait (s.issuer who) = false → s.toGate (s.issuer who) a.toNat = false →
    ∃ t, exec (.apertureAccess who 4 o a) s = .next t ∧ t.resp = .busError ∧ t.rd (Fd.LAST_REJECT_CODE 15) = Code.NOT_OWNER ∧
      (t.reg (Rg.LAST_REJECT_ADDR 15)).toNat = a.toNat ∧ t.ux = s.ux ∧
      Frame s t [.regs, .ic, .wg, .resp] (fun a => a = Rg.LAST_REJECT 15 ∨ a = Rg.LAST_REJECT_ADDR 15)) ∧
  (∀ (s : State) (k : Fin 16) (w : Word) (x : NpAcc), InFlight s k.val x → s.now ≤ x.at_ + 4000 → x.again = false →
    ∃ t, exec (.nonPostedAnswer k (.word w)) s = .next t ∧ t.ux.np = s.ux.np.eraseIdx k.val ∧
      (x.op = .read → t.resp = .data w.toNat) ∧ (isWordWrite x.op = true → t.resp = .done) ∧ OnlyFlight s t ∧
      Frame s t [.ux, .resp] (fun _ => False)) ∧
  (∀ (s : State) (k : Fin 16) (code : BitVec 16) (x : NpAcc), InFlight s k.val x → s.now ≤ x.at_ + 4000 → x.again = false →
    ∃ t, exec (.nonPostedAnswer k (.fail code)) s = .next t ∧ t.ux.np = s.ux.np.eraseIdx k.val ∧ t.resp = .busError ∧
      UxRecord s t code.toNat x.win x.addr none ∧ Counted s t (Rg.UX_EVENT 2) ∧ OnlyFlight s t ∧
      Frame s t [.ux, .regs, .ic, .wg, .resp] (UxErrReg 2)) ∧
  (∀ (s : State) (k : Fin 16) (x : NpAcc), InFlight s k.val x → s.now ≤ x.at_ + 4000 → x.again = false → x.op.atomic = true →
    ∃ t, exec (.nonPostedAnswer k .held) s = .next t ∧ t.ux.np = s.ux.np.set k.val { x with again := true, tryAt := s.now } ∧
      OnlyFlight s t ∧ Frame s t [.ux] (fun _ => False)) ∧
  (∀ (s : State) (k : Fin 16) (x : NpAcc), s.ux.np[k.val]? = some x →
    ∃ t, exec (.nonPostedTimeout k) s = .next t ∧ t.ux.np = s.ux.np.eraseIdx k.val ∧ t.resp = .busError ∧ x.at_ + 4000 ≤ t.now ∧
      UxRecord s t (if x.again then Code.TIMEOUT else Code.LINK_LOST) x.win x.addr none ∧ Counted s t (Rg.UX_EVENT 2) ∧ OnlyFlight s t ∧
      Frame s t [.ux, .regs, .ic, .wg, .resp, .now, .vt, .ptp] (UxErrReg 2)) ∧
  (∀ (s : State) (k : Fin 16) (x : NpAcc), s.ux.np[k.val]? = some x → x.again = true → x.tryAt + 1000 < x.at_ + 4000 → s.now < x.at_ + 4000 →
    ∃ t, exec (.atomicRetry k) s = .next t ∧ x.tryAt + 1000 ≤ t.now ∧ t.ux.np = s.ux.np.set k.val { x with again := false, tryAt := t.now } ∧
      OnlyFlight s t ∧ Frame s t [.ux, .now, .vt, .ptp] (fun _ => False)) ∧
  (∀ (s : State) (seq code : BitVec 16) (p : Posted), s.uxOn = true → s.ux.posted.find? (fun p => p.seq == seq.toNat) = some p →
    ∃ t, exec (.postedErrorReceived seq code) s = .next t ∧ UxRecord s t code.toNat p.win p.addr (some seq.toNat) ∧
      Counted s t (Rg.UX_EVENT 3) ∧ (∀ q ∈ t.ux.posted, q ∈ s.ux.posted ∧ q.seq ≠ seq.toNat) ∧ t.ux.np = s.ux.np ∧
      Frame s t [.ux, .regs, .ic] (UxErrReg 3))

/-- A read of a free UX_SEM takes it for the district with DONE; one that another holds gives BUSY and leaves it; where the twin asks in the same
clock, unit A wins and unit B reads RETRY, counted. A read or release of UX_TSEM is an access to the twin. The holder's release frees a
semaphore; another's changes nothing and is NOT_OWNER. An LR hold ends 10 µs after the LR. Of the twin's requests, one in a conflict or without a
permit is denied and counted, with the code in its answer, a posted one in UX_IN_ERR as well; a semaphore request needs no permit; a
permitted read is answered with the word of memory.
Where the spec's words end it goes by the model's choices of assumptions 158, 159 and 160.
Completing with their own effect: semRequest, twinSemRequest, semRelease, lrHoldExpiry, inboundTimeout, inboundRequest. -/
def Obligations.TwinSemaphores : Prop :=
  (∀ (s : State) (who : Who) (k : Fin 32), SemOpen s (s.issuer who) (Rg.UX_SEM k.val) → s.sem k.val = none →
    ∃ t, exec (.semRequest who k none) s = .next t ∧ t.sem k.val = some ⟨false, (s.issuer who).district.toNat, none⟩ ∧
      t.resp = .data (Code.DONE * 65536 + 0x8000 + (if s.unitB then 0x4000 else 0) + (s.issuer who).district.toNat * 256) ∧
      (∀ j : Fin 32, j ≠ k → t.sem j.val = s.sem j.val) ∧ OnlySems s t ∧ Frame s t [.ux, .resp] (fun _ => False)) ∧
  (∀ (s : State) (who : Who) (k : Fin 32) (x : Sem), SemOpen s (s.issuer who) (Rg.UX_SEM k.val) → s.sem k.val = some x →
    x.twin = true ∨ x.district ≠ (s.issuer who).district.toNat →
    ∃ t, exec (.semRequest who k none) s = .next t ∧ t.ux = s.ux ∧
      t.resp = .data (Code.BUSY * 65536 + 0x8000 + (if s.unitB != x.twin then 0x4000 else 0) + x.district * 256) ∧
      Frame s t [.resp] (fun _ => False)) ∧
  (∀ (s : State) (who : Who) (k : Fin 32) (r : BitVec 6), SemOpen s (s.issuer who) (Rg.UX_SEM k.val) → s.sem k.val = none →
    ∃ t, exec (.semRequest who k (some r)) s = .next t ∧
      t.sem k.val = some (if s.unitB then ⟨true, r.toNat, none⟩ else ⟨false, (s.issuer who).district.toNat, none⟩) ∧
      t.resp = .data ((if s.unitB then Code.RETRY * 65536 + 0x8000 + r.toNat * 256 else Code.DONE * 65536 + 0x8000 + (s.issuer who).district.toNat * 256)) ∧
      Counted s t (Rg.UX_EVENT 6) ∧ OnlySems s t ∧ Frame s t [.ux, .resp, .regs] (fun a => a = Rg.UX_EVENT 6 ∨ a = Rg.UX_EVENT_SAT)) ∧
  (∀ (s : State) (who : Who) (k : Fin 32), s.uxOn = true → s.mayRead (s.issuer who) ⟨0, [], .group 9, []⟩ (Rg.UX_TSEM k.val) = true → s.gateWait (s.issuer who) = false →
    s.issueCode = Code.DONE → s.ux.np.length < 16 →
    ∃ t, exec (.twinSemRequest who k) s = .next t ∧
      t.ux.np = s.ux.np ++ [⟨(s.issuer who), 0, .sem k, Rg.UX_SEM k.val, s.now, s.now, false⟩] ∧ OnlyFlight s t ∧ Frame s t [.ux] (fun _ => False)) ∧
  (∀ (s : State) (who : Who) (k : Fin 32), s.passesChecks (s.issuer who) 4 (Rg.UX_SEM k.val) 1 false false = true → s.uxOn = true →
    s.holdsSem k.val (s.issuer who).district.toNat false = true →
    ∃ t, exec (.semRelease who k false) s = .next t ∧ t.sem k.val = none ∧ (∀ j : Fin 32, j ≠ k → t.sem j.val = s.sem j.val) ∧
      t.resp = .done ∧ OnlySems s t ∧ Frame s t [.ux, .resp, .regs] (fun a => a = Rg.UX_SEM k.val)) ∧
  (∀ (s : State) (who : Who) (k : Fin 32), s.passesChecks (s.issuer who) 4 (Rg.UX_SEM k.val) 1 false false = true → s.uxOn = true →
    s.holdsSem k.val (s.issuer who).district.toNat false = false →
    ∃ t, exec (.semRelease who k false) s = .next t ∧ t.ux = s.ux ∧ t.rd (Fd.LAST_REJECT_CODE 15) = Code.NOT_OWNER ∧ t.resp = .done ∧
      Frame s t [.resp, .regs, .ic] (fun a => a = Rg.LAST_REJECT 15 ∨ a = Rg.LAST_REJECT_ADDR 15)) ∧
  (∀ (s : State) (who : Who) (k : Fin 32), s.passesChecks (s.issuer who) 4 (Rg.UX_TSEM k.val) 1 false false = true → s.uxOn = true →
    s.issueCode = Code.DONE → s.ux.np.length < 16 →
    ∃ t, exec (.semRelease who k true) s = .next t ∧
      t.ux.np = s.ux.np ++ [⟨(s.issuer who), 0, .release k, Rg.UX_SEM k.val, s.now, s.now, false⟩] ∧ OnlyFlight s t ∧ Frame s t [.ux] (fun _ => False)) ∧
  (∀ (s : State) (k : Fin 32) (x : Sem) (h : LrHold), s.sem k.val = some x → x.lr = some h →
    ∃ t, exec (.lrHoldExpiry k) s = .next t ∧ t.sem k.val = none ∧ h.fin ≤ t.now ∧ (∀ j : Fin 32, j ≠ k → t.sem j.val = s.sem j.val) ∧
      OnlySems s t ∧ Frame s t [.ux, .now, .vt, .ptp] (fun _ => False)) ∧
  (∀ (s : State) (p : Option (BitVec 16)), s.uxOn = true →
    ∃ t, exec (.inboundTimeout p) s = .next t ∧ Counted s t (Rg.UX_EVENT 5) ∧
      t.ux = { s.ux with reply := some (match p with | none => .answer (.fail (BitVec.ofNat 16 Code.TIMEOUT)) | some q => .error q.toNat Code.TIMEOUT) } ∧
      (p.isSome = true → t.rd Fd.UX_IN_ERR_SEQ = (p.getD 0).toNat ∧ t.rd Fd.UX_IN_ERR_CODE = Code.TIMEOUT ∧ t.flag Fd.UX_STATUS_INERR = true) ∧
      Frame s t [.ux, .regs] (fun a => a = Rg.UX_EVENT 5 ∨ a = Rg.UX_EVENT_SAT ∨ a = Rg.UX_IN_ERR ∨ a = Rg.UX_STATUS)) ∧
  (∀ (s : State) (d : BitVec 6) (o : UxOp) (a : BitVec 34) (p : Option (BitVec 16)), UxRuns s → s.conflict = false →
    (∀ k : Fin 32, o ≠ .sem k ∧ o ≠ .release k) → s.permitOf d.toNat o a.toNat = none →
    ∃ t, exec (.inboundRequest d o a p) s = .next t ∧ Counted s t (Rg.UX_EVENT 5) ∧
      t.ux = { s.ux with reply := some (match p with | none => .answer (.fail (BitVec.ofNat 16 Code.NO_PERMIT)) | some q => .error q.toNat Code.NO_PERMIT) } ∧
      Frame s t [.ux, .regs] (fun a => a = Rg.UX_EVENT 5 ∨ a = Rg.UX_EVENT_SAT ∨ a = Rg.UX_IN_ERR ∨ a = Rg.UX_STATUS)) ∧
  (∀ (s : State) (d : BitVec 6) (k : Fin 32) (a : BitVec 34), UxRuns s → s.conflict = false → s.sem k.val = none →
    ∃ t, exec (.inboundRequest d (.sem k) a none) s = .next t ∧ t.sem k.val = some ⟨true, d.toNat, none⟩ ∧
      t.ux.reply = some (.answer (.word (BitVec.ofNat 32 (Code.DONE * 65536 + 0x8000 + (if s.unitB then 0 else 0x4000) + d.toNat * 256)))) ∧
      Frame s t [.ux] (fun _ => False)) ∧
  (∀ (s : State) (d : BitVec 6) (a : BitVec 34) (k : Nat), UxRuns s → s.conflict = false → s.permitOf d.toNat .read a.toNat = some k →
    s.passes ⟨0xF, BitVec.ofNat 6 (s.rd (Fd.UX_IN_WIN_ATTR_DISTRICT k)), 0⟩ (.read 4) 0 a.toNat 4 = true → placeOf a.toNat = .dram →
    s.poisoned a.toNat 4 = false → a.toNat % 4 = 0 → s.wg.single = [] →
    ∃ t, exec (.inboundRequest d .read a none) s = .next t ∧
      t.ux.reply = some (.answer (.word (BitVec.ofNat 32 (leNat (s.bytes a.toNat 4))))) ∧ t.ux.np = s.ux.np ∧ t.ux.sems = s.ux.sems ∧
      t.resp = s.resp ∧ (∀ b, t.byte b = s.byte b))

/-- Line `i` shows report `c`, 0 none, 1 OPEN, 2 SHORT_GND, 3 SHORT_BAT; a new fault sets its STICKY bit, and the other bits stay (R469). -/
abbrev LineShows (s t : State) (i c : Nat) : Prop :=
  t.rd (Fd.SYS_XDIAG_STATE i) = c ∧
  t.rd (Fd.SYS_XDIAG_STICKY i) =
    (if c = 0 ∨ s.rd (Fd.SYS_XDIAG_STATE i) = c then s.rd (Fd.SYS_XDIAG_STICKY i) else setBit (s.rd (Fd.SYS_XDIAG_STICKY i)) (c - 1))

/-- A line that has shown these values for its stated time reports the fault that its table gives, or clears its report in the normal band; a new
fault sets its STICKY bit, and no other report changes. An H25 pair with 5 A or more and one pin below 30 % of it is OPEN. IGN is active above 10.0 V
and inactive below 5.0 V; below 0.05 V it is SHORT_GND, from 5.5 V to 8.0 V OPEN. PAIR_ROLE reports its class. A conducting FAULT_OUT below 1 mA is
OPEN; above 40 mA it opens and is SHORT_BAT until 1 s later; an open one below 1 V is SHORT_GND. A display line reports the second class in a row. An
Ethernet wire below 0.5 V or above 6.0 V is a short, and a cable test of a link that is down finds OPEN. A CAN wire is classed likewise.
Where the spec's words end it goes by the model's choices of assumptions 162, 163, 164, 165, 166 and 167.
Completing with their own effect: h25PinImbalance, ignLineDiag, pairRoleMonitor, faultOutLineDiag, faultOutShortRetry, displayLineClassify, ethWireDiag, ethCableTest, canWireDiag. -/
def Obligations.LineReports : Prop :=
  (∀ (s : State) (k : Fin 8) (a b : BitVec 16), s.dev = .active → s.kb.up = true → 5000 ≤ a.toNat + b.toNat →
    ∃ t, exec (.h25PinImbalance k a b) s = .next t ∧
      LineShows s t (40 + k.val) (if 10 * a.toNat < 3 * (a.toNat + b.toNat) ∨ 10 * b.toNat < 3 * (a.toNat + b.toNat) then 1 else 0) ∧
      Frame s t [.regs] (fun a => a = Rg.SYS_XDIAG (40 + k.val))) ∧
  (∀ (s : State) (mv : Int), s.dev = .active →
    ∃ t, exec (.ignLineDiag mv) s = .next t ∧ LineShows s t 10 (if mv < 50 then 2 else if 5500 ≤ mv ∧ mv ≤ 8000 then 1 else 0) ∧
      t.flag Fd.SYS_X_STATUS_IGN = (if 10000 < mv then true else if mv < 5000 then false else s.flag Fd.SYS_X_STATUS_IGN) ∧
      t.rd Fd.SYS_X_STATUS_STRAP = s.rd Fd.SYS_X_STATUS_STRAP ∧ Frame s t [.regs] (fun a => a = Rg.SYS_XDIAG 10 ∨ a = Rg.SYS_X_STATUS)) ∧
  (∀ (s : State) (mv : Int), s.dev = .active → strapClass mv ≠ .outOfBand →
    ∃ t, exec (.pairRoleMonitor mv) s = .next t ∧
      LineShows s t 11 (if mv < 1000 then 2 else if 12000 < mv then 3 else if 9000 ≤ mv ∧ mv ≤ 11000 then 1 else 0) ∧ Frame s t [.regs] (fun a => a = Rg.SYS_XDIAG 11)) ∧
  (∀ (s : State) (ua : BitVec 32) (mv : Int), s.dev = .active → s.flag Fd.CP_FAULT_OUT_PIN = false → s.ao.foShort = none → ua.toNat ≤ 40000 →
    ∃ t, exec (.faultOutLineDiag ua mv) s = .next t ∧ LineShows s t 12 (if ua.toNat < 1000 then 1 else 0) ∧ Frame s t [.regs] (fun a => a = Rg.SYS_XDIAG 12)) ∧
  (∀ (s : State) (ua : BitVec 32) (mv : Int), s.dev = .active → s.flag Fd.CP_FAULT_OUT_PIN = false → s.ao.foShort = none → 40000 < ua.toNat →
    ∃ t, exec (.faultOutLineDiag ua mv) s = .next t ∧ LineShows s t 12 3 ∧ t.ao = { s.ao with foShort := some s.now } ∧
      Frame s t [.regs, .ao] (fun a => a = Rg.SYS_XDIAG 12)) ∧
  (∀ (s : State) (ua : BitVec 32) (mv : Int), s.dev = .active → s.flag Fd.CP_FAULT_OUT_PIN = true → s.ao.foShort = none →
    ∃ t, exec (.faultOutLineDiag ua mv) s = .next t ∧ LineShows s t 12 (if mv < 1000 then 2 else 0) ∧ Frame s t [.regs] (fun a => a = Rg.SYS_XDIAG 12)) ∧
  (∀ (s : State) (e : Nat), s.ao.foShort = some e →
    ∃ t, exec .faultOutShortRetry s = .next t ∧ t.ao = { s.ao with foShort := none } ∧ e + 1000000000 ≤ t.now ∧
      Frame s t [.ao, .now, .vt, .ptp] (fun _ => False)) ∧
  (∀ (s : State) (d : Fin 2) (mv : Int), s.mirrorOn = true → dspLineClass mv ≠ 4 → tget (fun _ => 5) s.ao.dspLine d.val = dspLineClass mv →
    ∃ t, exec (.displayLineClassify d mv) s = .next t ∧
      LineShows s t (8 + d.val) (if mv < 200 then 2 else if 700 ≤ mv ∧ mv ≤ 1300 then 0 else if 14000 < mv then 3 else 1) ∧
      Frame s t [.regs, .ao] (fun a => a = Rg.SYS_XDIAG (8 + d.val))) ∧
  (∀ (s : State) (d : Fin 2) (mv : Int), s.mirrorOn = true → tget (fun _ => 5) s.ao.dspLine d.val ≠ dspLineClass mv →
    ∃ t, exec (.displayLineClassify d mv) s = .next t ∧ tget (fun _ => 5) t.ao.dspLine d.val = dspLineClass mv ∧
      Frame s t [.ao] (fun _ => False)) ∧
  (∀ (s : State) (p : Fin 24) (a b : Int) (i : Nat), ethLine p.val = some i → s.mayLink p.val = true → ethWire a = 0 ∨ ethWire b = 0 →
    ∃ t, exec (.ethWireDiag p a b) s = .next t ∧
      LineShows s t i (if a < 500 ∨ b < 500 then 2 else if 6000 < a ∨ 6000 < b then 3
        else if s.rd (Fd.SYS_XDIAG_STATE i) = 1 ∧ s.linkUp p.val = false then 1 else 0) ∧ Frame s t [.regs] (fun a => a = Rg.SYS_XDIAG i)) ∧
  (∀ (s : State) (p : Fin 24) (o : Bool) (i : Nat), ethLine p.val = some i → s.mayLink p.val = true → s.linkUp p.val = false →
    ∃ t, exec (.ethCableTest p o) s = .next t ∧
      LineShows s t i (if o then 1 else if s.rd (Fd.SYS_XDIAG_STATE i) = 1 then 0 else s.rd (Fd.SYS_XDIAG_STATE i)) ∧
      Frame s t [.regs] (fun a => a = Rg.SYS_XDIAG i)) ∧
  (∀ (s : State) (k : Fin 8) (high low : Int) (o : Bool), s.dev = .active → s.gated 0xC = false → s.trxUp k.val = true →
    (canWire high = 0 ∧ canWire low = 0) ∨ (canWire high = 0 ∧ o = false) ∨ (canWire low = 0 ∧ o = false) →
    ∃ t, exec (.canWireDiag k high low o) s = .next t ∧
      LineShows s t k.val (if high < 1000 ∨ low < 1000 then 2 else if 16000 < high ∨ 16000 < low then 3 else if o then 1 else 0) ∧
      Frame s t [.regs] (fun a => a = Rg.SYS_XDIAG k.val))

/-- Every part of the state. -/
def allPieces : List Piece :=
  [.dev, .now, .vt, .regs, .mem, .resp, .fresh, .shadows, .plan, .ao, .ep, .wg, .ic, .kb, .pn, .can, .sw, .ptp, .nm, .sf, .cp, .otp, .ks, .up,
    .ux]
/-- The parts of the state that a command may change, whatever its operands and the state it meets. -/
def touches (c : Instr) : List Piece :=
  match c with
  | .powerOnStart .. => [.dev, .vt, .regs, .mem, .shadows, .plan, .ao, .ep, .wg, .ic, .kb, .pn, .can, .sw, .ptp, .nm, .sf, .cp, .ks, .up, .ux]
  | .brownOutReset .. => [.dev, .vt, .regs, .mem, .shadows, .plan, .ao, .ep, .wg, .ic, .kb, .pn, .can, .sw, .ptp, .nm, .sf, .cp, .ks, .up, .ux]
  | .reducedFunctionEnter .. => [.regs, .mem, .ep, .wg, .ic, .sw, .sf]
  | .reducedFunctionExit .. => [.regs, .ic, .sw, .sf]
  | .supplyLossSequence .. => [.dev, .regs, .mem, .fresh, .shadows, .ao, .ep, .wg, .ic, .kb, .pn, .can, .sw, .ptp, .nm, .sf, .cp, .ks, .up, .ux]
  | .supplyReturn .. => [.regs, .ao, .ic]
  | .wakeQualified .. => [.now, .vt, .regs, .mem, .ao, .ep, .wg, .ic, .can, .ptp, .nm]
  | .wakeTimerExpiry .. => [.now, .vt, .regs, .ao, .ic, .ptp]
  | .lpCrystalSettled .. => [.regs]
  | .boot .. => [.dev, .vt, .regs, .mem, .fresh, .plan, .ao, .ep, .wg, .ic, .kb, .pn, .can, .sw, .ptp, .nm, .sf, .cp, .otp, .ks, .up]
  | .sleepRequest .. => [.regs, .resp, .ao, .wg, .ic, .cp]
  | .sleepCommit .. => [.dev, .regs, .mem, .shadows, .ao, .ep, .wg, .ic, .kb, .pn, .can, .sw, .ptp, .nm, .sf, .cp, .ks, .up, .ux]
  | .sleepDrainTimeout .. => [.now, .vt, .regs, .ao, .ptp]
  | .watchdogKick .. => [.dev, .regs, .mem, .resp, .fresh, .shadows, .ao, .ep, .wg, .ic, .kb, .pn, .can, .sw, .ptp, .nm, .sf, .cp, .ks, .up, .ux]
  | .watchdogExpiry .. => [.dev, .now, .vt, .regs, .mem, .fresh, .shadows, .ao, .ep, .wg, .ic, .kb, .pn, .can, .sw, .ptp, .nm, .sf, .cp, .ks, .up, .ux]
  | .softwareDeviceReset .. => [.dev, .regs, .mem, .resp, .fresh, .shadows, .ao, .ep, .wg, .ic, .kb, .pn, .can, .sw, .ptp, .nm, .sf, .cp, .ks, .up, .ux]
  | .blockPowerRequest .. => [.regs, .mem, .resp, .ao, .ep, .wg, .ic, .kb, .pn, .can, .sw, .nm, .sf, .cp, .ux]
  | .logAppend .. => [.regs, .resp, .ao, .wg, .ic, .cp]
  | .logCommit .. => [.ao]
  | .mramDataRead .. => [.regs, .resp, .wg, .ic]
  | .registerWrite .. => allPieces
  | .rcFieldRead .. => [.regs, .mem, .resp, .shadows, .wg, .ic, .can, .cp, .ux]
  | .counterLoRead .. => [.regs, .mem, .resp, .shadows, .wg, .ic, .can, .cp, .ux]
  | .dbSqWrite .. => [.regs, .mem, .resp, .ep, .wg, .ic, .cp]
  | .dbCqWrite .. => [.regs, .mem, .resp, .ep, .wg, .ic, .cp]
  | .dbAbortWrite .. => [.regs, .mem, .resp, .ep, .wg, .ic, .cp]
  | .abortDecision .. => [.regs, .mem, .fresh, .ep, .wg, .ic, .pn, .can, .sw, .sf, .ks]
  | .descriptorFetch .. => [.regs, .mem, .ep, .wg, .ic]
  | .orderedRelease .. => [.ep]
  | .timedExecute .. => [.now, .vt, .regs, .mem, .ep, .wg, .ic, .kb, .pn, .can, .ptp]
  | .pageIn .. => [.regs, .mem, .fresh, .ep, .wg, .ic, .pn, .can, .sw, .sf, .ks]
  | .mbRing .. => [.regs, .mem, .resp, .ep, .wg, .ic, .cp]
  | .mailboxRequest .. => [.regs, .mem, .fresh, .ep, .wg, .ic, .kb, .pn, .can, .sw, .sf, .ks]
  | .createEp .. => [.regs, .mem, .fresh, .ep, .wg, .ic, .kb, .pn, .can, .sw, .sf, .ks]
  | .destroyEp .. => [.regs, .mem, .fresh, .ep, .wg, .ic, .kb, .pn, .can, .sw, .sf, .ks]
  | .destroyEpResponse .. => [.regs, .mem, .fresh, .ep, .wg, .ic, .pn, .can, .sw, .sf, .ks]
  | .resize .. => [.regs, .mem, .fresh, .ep, .wg, .ic, .kb, .pn, .can, .sw, .sf, .ks]
  | .resizeComplete .. => [.regs, .mem, .ep, .wg, .ic]
  | .query .. => [.regs, .mem, .fresh, .ep, .wg, .ic, .kb, .pn, .can, .sw, .sf, .ks]
  | .pinResident .. => [.regs, .mem, .fresh, .ep, .wg, .ic, .kb, .pn, .can, .sw, .sf, .ks]
  | .districtRestart .. => [.regs, .mem, .fresh, .ep, .wg, .ic, .kb, .pn, .can, .sw, .sf, .ks]
  | .ep0RingsWrite .. => [.regs, .resp, .ep, .wg, .ic, .cp]
  | .netTx .. => [.regs, .mem, .ep, .wg, .ic, .sw]
  | .rxPost .. => [.ep]
  | .epeDelivery .. => [.regs, .mem, .ep, .wg, .ic, .sw]
  | .timerArm .. => [.mem, .ep, .wg, .ic]
  | .timerExpiry .. => [.now, .vt, .mem, .ep, .wg, .ic, .ptp]
  | .forwardingDecision .. => [.regs, .ep, .ic, .sw]
  | .frameEndReceived .. => [.regs, .ep, .ic, .sw]
  | .roundaboutMatch .. => [.now, .vt, .regs, .mem, .ep, .wg, .ic, .sw, .ptp]
  | .egressTxStart .. => [.regs, .ep, .ic, .sw]
  | .fdbAgeOut .. => [.now, .vt, .sw, .ptp]
  | .portLinkDown .. => [.regs, .ep, .ic, .sw]
  | .linkDownFlushEnd .. => [.regs, .ep, .ic, .sw]
  | .portLinkUp .. => [.regs, .sw]
  | .hashMemberRejoin .. => [.now, .vt, .regs, .ptp]
  | .fdbLookup .. => [.regs, .resp, .wg, .ic, .sw, .cp]
  | .fdbDelete .. => [.regs, .resp, .wg, .ic, .sw, .cp]
  | .fdbFlushPort .. => [.regs, .resp, .wg, .ic, .sw, .cp]
  | .fdbFlushAll .. => [.regs, .resp, .wg, .ic, .sw, .cp]
  | .macsecSaLoad .. => [.regs, .resp, .wg, .ic, .sw, .cp]
  | .macsecTxAnChange .. => [.regs, .resp, .wg, .ic, .cp]
  | .ageSweep .. => [.regs, .ep, .ic, .sw]
  | .gateEntryChange .. => [.now, .vt, .sw, .ptp]
  | .frerRecoveryReset .. => [.now, .vt, .ic, .sw, .ptp]
  | .syncReceived .. => [.vt, .regs, .ic, .can, .sw, .ptp, .sf]
  | .syncTimeout .. => [.now, .vt, .regs, .ptp]
  | .asSyncSend .. => [.now, .vt, .regs, .ic, .ptp]
  | .pdelayMeasure .. => [.regs, .ic, .ptp]
  | .gwyHoldExpiry .. => [.now, .vt, .regs, .ep, .ic, .sw, .ptp]
  | .gwyNtscfReceive .. => [.regs, .ep, .ic, .can, .sw]
  | .streamSelect .. => [.regs, .resp, .wg, .ic, .cp]
  | .cameraTrigger .. => [.now, .vt, .regs, .ptp, .sf]
  | .csi2FrameStart .. => [.regs, .ic, .sf]
  | .cameraLineReceived .. => [.now, .vt, .regs, .mem, .resp, .wg, .ic, .ptp, .sf, .cp]
  | .cameraLockTimeout .. => [.now, .vt, .regs, .ic, .ptp, .sf]
  | .cameraLinkDown .. => [.regs, .ic, .sf]
  | .displayFrameStart .. => [.now, .vt, .regs, .mem, .resp, .ep, .wg, .ic, .ptp, .sf, .cp]
  | .sliceCompute .. => [.now, .vt, .regs, .mem, .resp, .ep, .wg, .ic, .sw, .ptp, .sf, .cp]
  | .cameraRunWrite .. => [.regs, .resp, .wg, .ic, .sf, .cp]
  | .camI2cStart .. => [.regs, .resp, .wg, .ic, .sf, .cp]
  | .i2cComplete .. => [.now, .vt, .regs, .ptp]
  | .pan .. => [.regs, .mem, .ep, .wg, .ic, .sf]
  | .mapSwap .. => [.regs, .mem, .ep, .wg, .ic, .sf]
  | .mapSwapFetched .. => [.regs, .mem, .resp, .ep, .wg, .ic, .sf, .cp]
  | .ovlSet .. => [.regs, .mem, .resp, .ep, .wg, .ic, .sf, .cp]
  | .tap .. => [.mem, .ep, .wg, .ic, .sf]
  | .ovlBaseWrite .. => [.regs, .mem, .resp, .ep, .wg, .ic, .sf, .cp]
  | .tapCfgWrite .. => [.regs, .mem, .resp, .ep, .wg, .ic, .sf, .cp]
  | .displayEchoReceived .. => [.now, .vt, .regs, .ic, .ptp, .sf]
  | .echoMissing .. => [.now, .vt, .regs, .ic, .ptp, .sf]
  | .clearLatch .. => [.regs, .resp, .wg, .ic, .sf, .cp]
  | .pocOnWrite .. => [.regs, .resp, .wg, .ic, .sf, .cp]
  | .pocShort .. => [.regs, .ic, .sf]
  | .pocRetry .. => [.now, .vt, .regs, .ptp]
  | .pocExternal .. => [.regs, .ic, .sf]
  | .pocExternalClear .. => [.regs, .sf]
  | .pocOpen .. => [.regs, .ic, .sf]
  | .monitorHeartbeat .. => [.regs, .resp, .wg, .ic, .sf, .cp]
  | .monitorAbsent .. => [.now, .vt, .regs, .ic, .ptp, .sf]
  | .pwrOn .. => [.regs, .mem, .ep, .wg, .ic, .kb]
  | .pwrOff .. => [.regs, .mem, .ep, .wg, .ic, .kb]
  | .pwrDrive .. => [.regs, .mem, .ep, .wg, .ic, .kb]
  | .pwrRead .. => [.mem, .ep, .wg, .ic]
  | .waitEvent .. => [.mem, .ep, .wg, .ic]
  | .chCtrlWrite .. => [.regs, .resp, .wg, .ic, .kb, .cp]
  | .pwmPeriodCommit .. => [.now, .vt, .regs, .mem, .ep, .wg, .ic, .kb, .ptp]
  | .inrushWindowEnd .. => [.now, .vt, .regs, .mem, .ep, .wg, .ic, .kb, .ptp]
  | .bridgeBrakeEnd .. => [.now, .vt, .regs, .kb, .ptp]
  | .shortCut .. => [.regs, .mem, .ep, .wg, .ic, .kb]
  | .wireModelStep .. => [.now, .vt, .regs, .mem, .ep, .wg, .ic, .kb, .ptp]
  | .retried .. => [.now, .vt, .regs, .mem, .ep, .wg, .ic, .kb, .ptp]
  | .retryCountReset .. => [.now, .vt, .regs, .ptp]
  | .currentSample .. => [.now, .vt, .regs, .ic, .kb, .ptp]
  | .housingModelStep .. => [.now, .vt, .regs, .ic, .kb, .ptp]
  | .shedCheck .. => [.now, .vt, .regs, .mem, .ep, .wg, .ic, .kb, .ptp]
  | .pwrPowerUp .. => [.regs, .mem, .ep, .wg, .ic, .kb, .pn]
  | .holdTrip .. => [.now, .vt, .regs, .mem, .ep, .wg, .ic, .kb, .ptp]
  | .openLoadOnWindow .. => [.regs, .mem, .ep, .wg, .ic, .kb]
  | .offStateTest .. => [.now, .vt, .regs, .mem, .ep, .wg, .ic, .kb, .ptp]
  | .reverseCurrent .. => [.regs, .mem, .ep, .wg, .ic, .kb]
  | .overTemp .. => [.regs, .mem, .ep, .wg, .ic, .kb]
  | .junctionCooled .. => [.regs, .kb]
  | .feedFault .. => [.regs, .mem, .ep, .wg, .ic, .kb]
  | .feedReturn .. => [.regs, .kb]
  | .feedReturnSwitchOn .. => [.now, .vt, .regs, .kb, .ptp]
  | .laybyEnterDistrict .. => [.regs, .mem, .resp, .ep, .wg, .ic, .kb, .pn, .cp]
  | .laybyEnterAll .. => [.regs, .mem, .resp, .ep, .wg, .ic, .kb, .pn, .cp]
  | .laybyReleaseDistrict .. => [.regs, .mem, .resp, .ep, .wg, .ic, .kb, .pn, .cp]
  | .laybyReleaseAll .. => [.regs, .mem, .resp, .ep, .wg, .ic, .kb, .pn, .cp]
  | .canFrameReceived .. => [.regs, .mem, .fresh, .ep, .wg, .ic, .can, .sw, .nm]
  | .mbWindowRead .. => [.regs, .resp, .wg, .ic, .can]
  | .lockTimeout .. => [.now, .vt, .regs, .ic, .can, .ptp]
  | .mbSelect .. => [.regs, .resp, .wg, .ic, .can, .cp]
  | .canTxOffer .. => [.now, .vt, .can, .ptp]
  | .canTxCommit .. => [.now, .vt, .regs, .ep, .can, .ptp]
  | .canArbLost .. => [.now, .vt, .regs, .mem, .ep, .wg, .ic, .can, .ptp]
  | .canTxEnd .. => [.now, .vt, .regs, .mem, .ep, .wg, .ic, .can, .ptp, .nm]
  | .busOffRecovery .. => [.now, .vt, .regs, .ic, .can, .ptp]
  | .canModeWrite .. => [.regs, .resp, .wg, .ic, .cp]
  | .canModeChange .. => [.now, .vt, .regs, .mem, .ep, .wg, .ic, .can, .ptp, .nm]
  | .mbTxRequest .. => [.regs, .mem, .resp, .ep, .wg, .ic, .can, .cp]
  | .mbCancel .. => [.regs, .mem, .resp, .ep, .wg, .ic, .can, .cp]
  | .ttEnable .. => [.regs, .resp, .wg, .ic, .can, .cp]
  | .ttWindowStart .. => [.now, .vt, .regs, .ic, .can, .ptp]
  | .ttWindowMissed .. => [.now, .vt, .regs, .ic, .can, .ptp]
  | .refLost .. => [.now, .vt, .regs, .ic, .can, .ptp]
  | .canSetup .. => [.regs, .mem, .ep, .wg, .ic, .can]
  | .canTx .. => [.regs, .mem, .ep, .wg, .ic, .can]
  | .canRx .. => [.regs, .mem, .ep, .wg, .ic]
  | .canState .. => [.mem, .ep, .wg, .ic]
  | .transceiverFailsafe .. => [.now, .vt, .regs, .mem, .ep, .wg, .ic, .can, .ptp, .nm]
  | .trxSleepWrite .. => [.regs, .mem, .resp, .ep, .wg, .ic, .can, .nm, .cp]
  | .canWake .. => [.regs, .ao, .ic, .can, .nm]
  | .t1sWake .. => [.regs, .ao, .ic, .can, .nm]
  | .curfewFrameReceived .. => [.now, .vt, .regs, .mem, .ep, .wg, .ic, .can, .ptp, .nm]
  | .curfewRingTimer .. => [.now, .vt, .regs, .ptp, .nm]
  | .curfewSkipTimeout .. => [.now, .vt, .regs, .ic, .ptp, .nm]
  | .curfewRingLost .. => [.now, .vt, .regs, .ic, .can, .ptp, .nm]
  | .curfewSendFail .. => [.now, .vt, .regs, .ic, .can, .ptp, .nm]
  | .curfewFrameSent .. => [.now, .vt, .regs, .ic, .can, .ptp, .nm]
  | .curfewLimpSend .. => [.now, .vt, .ptp, .nm]
  | .curfewLimpSleep .. => [.now, .vt, .regs, .can, .ptp, .nm]
  | .consentWrite .. => [.now, .vt, .regs, .mem, .resp, .ep, .wg, .ic, .can, .ptp, .nm, .cp]
  | .curfewCommit .. => [.now, .vt, .regs, .mem, .ep, .wg, .ic, .can, .ptp, .nm]
  | .ethSleepRequest .. => [.regs, .resp, .wg, .ic, .nm, .cp]
  | .ethWakeRequest .. => [.regs, .resp, .wg, .ic, .nm, .cp]
  | .ethLowPowerEntry .. => [.regs, .ep, .ic, .sw]
  | .ethSleepTimeout .. => [.now, .vt, .regs, .ptp]
  | .ethRemoteSleep .. => [.regs, .nm]
  | .ethWakeDetect .. => [.regs, .ic, .nm]
  | .ethWakeNoLink .. => [.now, .vt, .regs, .ptp]
  | .switchInputSample .. => [.regs, .mem, .ep, .wg, .ic, .pn]
  | .analogUpdate .. => [.regs, .mem, .ep, .wg, .ic, .pn]
  | .analogOpenTest .. => [.regs, .mem, .ep, .wg, .ic, .pn]
  | .freqEdge .. => [.regs, .mem, .ep, .wg, .ic, .pn]
  | .freqTimeout .. => [.now, .vt, .regs, .mem, .ep, .wg, .ic, .pn, .ptp]
  | .freqLineTest .. => [.regs, .mem, .ep, .wg, .ic]
  | .pinOvercurrent .. => [.regs, .mem, .ep, .wg, .ic, .pn]
  | .pinOvertemp .. => [.regs, .mem, .ep, .wg, .ic, .pn]
  | .outputLineTest .. => [.now, .vt, .regs, .mem, .ep, .wg, .ic, .pn, .ptp]
  | .outputOpenLoad .. => [.now, .vt, .regs, .mem, .ep, .wg, .ic, .ptp]
  | .pinOutWrite .. => [.now, .vt, .regs, .mem, .resp, .ep, .wg, .ic, .pn, .ptp, .cp]
  | .pinSet .. => [.now, .vt, .regs, .mem, .ep, .wg, .ic, .pn, .ptp]
  | .pinRead .. => [.mem, .ep, .wg, .ic]
  | .waitChange .. => [.mem, .ep, .wg, .ic]
  | .linStart .. => [.regs, .mem, .ep, .wg, .ic, .pn]
  | .linStop .. => [.regs, .mem, .ep, .wg, .ic, .pn]
  | .linSleep .. => [.regs, .mem, .ep, .wg, .ic, .pn]
  | .linWake .. => [.regs, .mem, .ep, .wg, .ic, .pn]
  | .linPut .. => [.regs, .mem, .ep, .wg, .ic]
  | .linGet .. => [.mem, .ep, .wg, .ic]
  | .linSlotStart .. => [.now, .vt, .regs, .mem, .ep, .wg, .ic, .pn, .ptp]
  | .linResponseReceived .. => [.regs, .mem, .ep, .wg, .ic, .pn]
  | .linFrameTimeout .. => [.now, .vt, .regs, .mem, .ep, .wg, .ic, .pn, .ptp]
  | .linWakeSeen .. => [.regs, .ic, .pn]
  | .linWakeRestart .. => [.now, .vt, .regs, .pn, .ptp]
  | .gatedStore .. => [.regs, .resp, .wg, .ic, .cp]
  | .windowClose .. => allPieces
  | .delayParity .. => [.regs, .mem, .fresh, .ep, .wg, .ic, .kb, .pn, .can, .sw, .sf, .cp, .ks]
  | .bollardSelfTest .. => [.now, .vt, .regs, .mem, .fresh, .ep, .wg, .ic, .kb, .pn, .can, .sw, .ptp, .sf, .cp, .ks]
  | .split .. => [.regs, .resp, .wg, .ic, .cp]
  | .splitDone .. => [.regs, .wg, .ic, .cp]
  | .lock .. => [.regs, .resp, .wg, .ic, .cp]
  | .lockDone .. => [.regs, .wg, .ic, .cp]
  | .pairRestart .. => [.regs, .resp, .wg, .ic, .cp]
  | .pairRestartDone .. => [.regs, .wg, .ic]
  | .bist .. => [.regs, .resp, .wg, .ic, .cp]
  | .bistDone .. => [.regs]
  | .faultOutAssert .. => [.regs, .resp, .wg, .ic, .cp]
  | .faultOutRelease .. => [.regs, .resp, .wg, .ic, .cp]
  | .gateCall .. => [.regs, .mem, .resp, .fresh, .ep, .wg, .ic, .kb, .pn, .can, .sw, .sf, .cp, .ks]
  | .gateRet .. => [.regs, .mem, .fresh, .ep, .wg, .ic, .kb, .pn, .can, .sw, .sf, .ks]
  | .courtyardBudgetExpiry .. => [.now, .vt, .regs, .mem, .fresh, .ep, .wg, .ic, .kb, .pn, .can, .sw, .ptp, .sf, .ks]
  | .courtyardException .. => [.regs, .mem, .fresh, .ep, .wg, .ic, .kb, .pn, .can, .sw, .sf, .ks]
  | .memoryAccess .. => allPieces
  | .patrolScrub .. => [.regs, .wg, .ic]
  | .bankPowerWrite .. => [.regs, .mem, .resp, .wg, .ic, .cp]
  | .reserve .. => [.regs, .resp, .wg, .ic, .cp]
  | .reservationRelease .. => [.regs, .resp, .wg, .ic, .cp]
  | .coalesceTimeout .. => [.now, .vt, .ic, .ptp]
  | .sourceLevelFall .. => [.ic]
  | .claim .. => [.regs, .resp, .wg, .ic]
  | .complete .. => [.regs, .resp, .wg, .ic, .cp]
  | .srcCfgWrite .. => [.regs, .resp, .wg, .ic, .cp]
  | .targetCtrlWrite .. => [.regs, .resp, .wg, .ic, .cp]
  | .enc .. => [.regs, .mem, .fresh, .ep, .wg, .ic, .ks]
  | .dec .. => [.regs, .mem, .fresh, .ep, .wg, .ic, .ks]
  | .macGen .. => [.regs, .mem, .fresh, .ep, .wg, .ic, .ks]
  | .macVerify .. => [.regs, .mem, .fresh, .ep, .wg, .ic, .ks]
  | .sign .. => [.regs, .mem, .fresh, .ep, .wg, .ic, .ks]
  | .verify .. => [.regs, .mem, .fresh, .ep, .wg, .ic, .ks]
  | .derive .. => [.regs, .mem, .fresh, .ep, .wg, .ic, .ks]
  | .wrap .. => [.regs, .mem, .fresh, .ep, .wg, .ic, .ks]
  | .unwrap .. => [.regs, .mem, .fresh, .ep, .wg, .ic, .ks]
  | .attest .. => [.regs, .mem, .fresh, .ep, .wg, .ic, .ks]
  | .unlock .. => [.regs, .mem, .fresh, .ep, .wg, .ic, .ks]
  | .provision .. => [.regs, .mem, .fresh, .ep, .wg, .ic, .ks]
  | .keyOpComplete .. => [.regs, .mem, .fresh, .ep, .wg, .ic, .ks]
  | .slotReplaceCommit .. => [.regs, .mem, .fresh, .ep, .wg, .ic, .ks]
  | .workingKeyCheck .. => [.regs, .ic, .ks]
  | .tamperEvent .. => [.regs, .mem, .fresh, .ep, .wg, .ic, .sw, .ks]
  | .sleepTamperLatch .. => [.regs, .ao, .ic, .ks]
  | .tamperRecordWrite .. => [.mem, .wg, .ks]
  | .provLock .. => [.regs, .resp, .wg, .ic, .cp, .otp]
  | .apply .. => [.regs, .mem, .resp, .fresh, .wg, .ic, .cp, .otp, .up]
  | .applyCommit .. => [.regs, .mem, .wg, .ic, .up]
  | .updateAbort .. => [.regs, .mem, .resp, .fresh, .wg, .ic, .cp, .otp, .up]
  | .activateNow .. => allPieces
  | .activateAt .. => [.regs, .mem, .resp, .fresh, .wg, .ic, .cp, .otp, .up]
  | .activateAtCommit .. => allPieces
  | .confirm .. => [.regs, .mem, .resp, .fresh, .wg, .ic, .cp, .otp, .up]
  | .heartbeatSend .. => [.now, .vt, .ptp, .ux]
  | .heartbeatReceived .. => [.regs, .resp, .wg, .ic, .ux]
  | .twinLost .. => [.now, .vt, .regs, .resp, .wg, .ic, .ptp, .ux]
  | .sidebandPoll .. => [.now, .vt, .ptp, .ux]
  | .pollAnswer .. => [.regs, .resp, .wg, .ic, .ux]
  | .apertureAccess .. => [.regs, .resp, .wg, .ic, .cp, .ux]
  | .nonPostedAnswer .. => [.regs, .resp, .wg, .ic, .ux]
  | .nonPostedTimeout .. => [.now, .vt, .regs, .resp, .wg, .ic, .ptp, .ux]
  | .inboundRequest .. => allPieces
  | .inboundTimeout .. => [.regs, .ux]
  | .postedErrorReceived .. => [.regs, .ic, .ux]
  | .semRequest .. => [.regs, .resp, .wg, .ic, .ux]
  | .twinSemRequest .. => [.regs, .resp, .wg, .ic, .ux]
  | .semRelease .. => [.regs, .resp, .wg, .ic, .cp, .ux]
  | .lrHoldExpiry .. => [.now, .vt, .ptp, .ux]
  | .atomicRetry .. => [.now, .vt, .ptp, .ux]
  | .takeoverCommit .. => [.regs, .ic, .kb, .ux]
  | .handback .. => [.regs, .resp, .wg, .ic, .kb, .cp]
  | .h25PinImbalance .. => [.regs]
  | .ignLineDiag .. => [.regs]
  | .pairRoleMonitor .. => [.regs]
  | .faultOutLineDiag .. => [.regs, .ao]
  | .faultOutShortRetry .. => [.now, .vt, .ao, .ptp]
  | .displayLineClassify .. => [.regs, .ao]
  | .ethWireDiag .. => [.regs]
  | .ethCableTest .. => [.regs]
  | .canWireDiag .. => [.regs]
  | .canReceiveError .. => [.regs, .ic, .can, .nm]
  | .drbgHealthChange .. => [.regs, .ks]
  | .applyFailure .. => [.regs, .ic, .up]
  | .egressTxEnd .. => [.now, .vt, .regs, .ep, .ic, .sw, .ptp]
  | .macsecSaLoadDone .. => [.regs, .ic, .sw]
  | .cameraLinkUp .. => [.regs]
  | .displayLinkDown .. => [.regs]
  | .displayLinkUp .. => [.regs]
  | .selectiveWakeFrame .. => [.nm]

/-- The rejection of an access by `who` to the register at `a` is recorded for its block, and is all that changes but the answer (R44, R47). -/
abbrev RejectShown (s t : State) (who : Who) (write : Bool) (a code : Nat) : Prop :=
  t.flag (Fd.LAST_REJECT_VALID (pageBlock a)) = true ∧
  t.flag (Fd.LAST_REJECT_OVERWRITE (pageBlock a)) = s.flag (Fd.LAST_REJECT_VALID (pageBlock a)) ∧
  t.rd (Fd.LAST_REJECT_CODE (pageBlock a)) = code ∧ t.rd (Fd.LAST_REJECT_DISTRICT (pageBlock a)) = who.district.toNat ∧
  t.rd (Fd.LAST_REJECT_INITIATOR (pageBlock a)) = who.initiator.toNat ∧ t.flag (Fd.LAST_REJECT_WRITE (pageBlock a)) = write ∧
  (t.reg (Rg.LAST_REJECT_ADDR (pageBlock a))).toNat = a
/-- `b` is one of the two registers of that record. -/
abbrev RejectReg (a b : Nat) : Prop := b = Rg.LAST_REJECT (pageBlock a) ∨ b = Rg.LAST_REJECT_ADDR (pageBlock a)
/-- What OTP holds is never taken back: a Cornerstone area that is burned, even in part, stays as it is, the provisioning lock stays burned,
and no anti-rollback position is unburned. -/
def OtpGrows (s t : State) : Prop :=
  (s.otp.cs0.st ≠ 0 → t.otp.cs0 = s.otp.cs0) ∧ (s.otp.cs1.st ≠ 0 → t.otp.cs1 = s.otp.cs1) ∧
  (s.otp.provLocked = true → t.otp.provLocked = true) ∧ s.otp.floor ≤ t.otp.floor

/-- For every command and every state: a step of the state with the command at the front of its queue is exec of that command on the state
with the rest of the queue. That commands wait in a queue is the model's choice (assumption 1). -/
def Obligations.StepRunsFront : Prop :=
  ∀ (c : Instr) (rest : List Instr) (s : State), step { s with pending := c :: rest } = exec c { s with pending := rest }

/-- With no command waiting a step answers the state one nanosecond later: local time is one on, vehicle time and its slew move, and every
register and every other part stays. That an idle step is a nanosecond is the model's choice (assumption 2). -/
def Obligations.IdleStep : Prop :=
  (∀ (s : State), s.pending = [] → ∃ t, step s = .next t ∧ t.now = s.now + 1 ∧ Frame s t [.now, .vt, .ptp] (fun _ => False))

/-- No command ends the run: whatever it meets, exec answers a next state, never a fault and never a refusal. What the device refuses, it
refuses by a code or a bus error in that state.
Where the spec's words end it goes by the model's choices of assumptions 4 and 5. -/
def Obligations.EveryCommandCompletes : Prop :=
  ∀ (c : Instr) (s : State), ∃ t, exec c s = .next t

/-- After reset the queue is empty, the device is off, memory lists nothing, and these registers of different blocks hold the reset values of
their tables: AO_WDT 0x3E8 (R93), SW_CTRL 0x12C003 (R118), SQ_GATE_STATUS[0] 0xFF (R143), SYS_EP_CFG 0x4 (R169), SF_CAM_TIMING[3] 0x3A9803E8 (R196), SF_INTEG_CFG[1] 0x1E31 (R215), PD_DIAG_CFG[51] 0x7 (R258), CAN_TT_CFG[7] 0x3E8 (R282), NM_TRX_CTRL[9] 0x140280 (R302), WG_BANK_PWR 0xFFFFFFFF (R376), IC_TARGET_CTRL[8] 0x80000000 (R390), UP_MODE 0x1 (R433). -/
def Obligations.ResetValues : Prop :=
  State.reset.pending = [] ∧ State.reset.dev = .off ∧ State.reset.mem = [] ∧
  State.reset.reg Rg.AO_WDT = 1000 ∧
  State.reset.reg Rg.SW_CTRL = 1228803 ∧
  State.reset.reg (Rg.SQ_GATE_STATUS 0) = 255 ∧
  State.reset.reg Rg.SYS_EP_CFG = 4 ∧
  State.reset.reg (Rg.SF_CAM_TIMING 3) = 0x3A9803E8 ∧
  State.reset.reg (Rg.SF_INTEG_CFG 1) = 7729 ∧
  State.reset.reg (Rg.PD_DIAG_CFG 51) = 7 ∧
  State.reset.reg (Rg.CAN_TT_CFG 7) = 1000 ∧
  State.reset.reg (Rg.NM_TRX_CTRL 9) = 1311360 ∧
  State.reset.reg Rg.WG_BANK_PWR = 0xFFFFFFFF ∧
  State.reset.reg (Rg.IC_TARGET_CTRL 8) = 0x80000000 ∧
  State.reset.reg Rg.UP_MODE = 1

/-- State.reset is canonical: no memory cell and no register is listed out of order, twice, or with the value that an unlisted one reads as. The
form is the model's, not the spec's.
Where the spec's words end it goes by the model's choices of assumptions 7 and 11. -/
def Obligations.ResetCanonical : Prop := State.reset.canonical = true

/-- From every state whose memory and register file are in canonical form, whether or not a run reaches it, a step of any command, or an idle
step, leads to one in canonical form: addresses strictly rise and no entry equals what an unlisted address reads as. Equal memories and equal
register files are therefore equal data in every run. The form is the model's, not the spec's.
Where the spec's words end it goes by the model's choices of assumptions 7 and 11. -/
def Obligations.StepKeepsCanonical : Prop :=
  ∀ (s t : State), s.canonical = true → step s = .next t → t.canonical = true

/-- From every state, a step of any command leaves a burned Cornerstone area with its key, the burned provisioning lock, and every burned
anti-rollback position: the markers and the lock are never unburned and the floor never falls, through boots, resets, updates and power
losses.
Where the spec's words end it goes by the model's choices of assumption 9. -/
def Obligations.OtpOnlyGrows : Prop :=
  ∀ (s t : State), step s = .next t → OtpGrows s t

/-- Whatever its operands and whatever the state, a command changes no part of the state but those that `touches` lists for it, and never the
queue. Only power, sleep, boot, watchdog, restart and update commands, the provisioning lock, and the commands that can reach a register
which starts one (a general access, a window whose gated write leaves, a request of the twin) change the device's state, the plan, the boot
record or OTP; a diagnosis of an Ethernet or a CAN wire changes registers alone.
Where the spec's words end it goes by the model's choices of assumptions 4 and 11. -/
def Obligations.FrameOfEveryCommand : Prop :=
  ∀ (c : Instr) (s t : State), exec c s = .next t → t.pending = s.pending ∧ ∀ p, p ∉ touches c → p.same s t

/-- A write or a read of a register page, of a powered block and outside the apertures and the rejection registers, whose size is not 4 bytes
or whose address is not aligned, and which no release gate takes or holds back (R329), answers a bus error; BAD_SIZE is recorded in the block's LAST_REJECT; a core's hart takes a store or a load
access fault; no other register and no other part of the state changes. -/
def Obligations.UnalignedAccess : Prop :=
  (∀ (s : State) (who : Who) (bytes : Fin 9) (a : BitVec 34) (w : Word), placeOf a.toNat = .registers → s.reaches (s.issuer who) a.toNat = true →
    s.gated (pageBlock a.toNat) = false → isRejectReg a.toNat = false → a.toNat < 0x200F8000 ∨ 0x200FC000 ≤ a.toNat →
    bytes.val ≠ 4 ∨ a.toNat % 4 ≠ 0 → s.toGate (s.issuer who) a.toNat = false → s.gateWait (s.issuer who) = false →
    ∃ t, exec (.registerWrite who bytes.val a w) s = .next t ∧ t.resp = .busError ∧ RejectShown s t (s.issuer who) true a.toNat Code.BAD_SIZE ∧
      ((s.issuer who).initiator.toNat < 8 → (t.hart (s.leader (s.issuer who).initiator.toNat)).excCause = 7) ∧
      Frame s t [.regs, .ic, .wg, .resp] (RejectReg a.toNat)) ∧
  (∀ (s : State) (who : Who) (bytes : Nat) (a : BitVec 34), placeOf a.toNat = .registers → s.reaches (s.issuer who) a.toNat = true →
    s.gated (pageBlock a.toNat) = false → isRejectReg a.toNat = false → a.toNat < 0x200F8000 ∨ 0x200FC000 ≤ a.toNat →
    bytes ≠ 4 ∨ a.toNat % 4 ≠ 0 → s.gateWait (s.issuer who) = false →
    ∃ t, exec (.rcFieldRead who bytes a) s = .next t ∧ t.resp = .busError ∧ RejectShown s t (s.issuer who) false a.toNat Code.BAD_SIZE ∧
      ((s.issuer who).initiator.toNat < 8 → (t.hart (s.leader (s.issuer who).initiator.toNat)).excCause = 5) ∧
      Frame s t [.regs, .ic, .wg, .resp] (RejectReg a.toNat))

/-- An aligned word written to a register page of a powered block, outside the rejection registers, which no release gate takes or holds back (R329): where no register decodes (step 2), where the
register's checks fail whatever its block adds (steps 3 to 7), where a register without a row of its own fails a check or is refused (steps 3
to 8), and through every checked register write that the rows of the table share, with any check of its block: the write completes, no field of any register
changes, and LAST_REJECT holds the code, the address, the district and the initiator. -/
def Obligations.RejectedWrite : Prop :=
  (∀ (s : State) (who : Who) (a : BitVec 34) (w : Word), placeOf a.toNat = .registers → s.reaches (s.issuer who) a.toNat = true → a.toNat % 4 = 0 →
    s.gated (pageBlock a.toNat) = false → RegMap.at a.toNat = none → isRejectReg a.toNat = false → a.toNat < 0x200F8000 ∨ 0x200FC000 ≤ a.toNat →
    s.toGate (s.issuer who) a.toNat = false → s.gateWait (s.issuer who) = false →
    ∃ t, exec (.registerWrite who 4 a w) s = .next t ∧ t.resp = .done ∧ RejectShown s t (s.issuer who) true a.toNat Code.RESERVED_ADDRESS ∧
      Frame s t [.regs, .ic, .resp] (RejectReg a.toNat)) ∧
  (∀ (s : State) (who : Who) (a : BitVec 34) (w : Word) (r : RegRow) (x : List Nat) (code : Nat), placeOf a.toNat = .registers →
    s.reaches (s.issuer who) a.toNat = true → a.toNat % 4 = 0 → s.gated (pageBlock a.toNat) = false → RegMap.at a.toNat = some (r, x) →
    (∀ held bad : Bool, s.checkFields (s.issuer who) r a.toNat w.toNat held bad = code) → code ≠ Code.DONE → isRejectReg a.toNat = false → s.toGate (s.issuer who) a.toNat = false → s.gateWait (s.issuer who) = false →
    ∃ t, exec (.registerWrite who 4 a w) s = .next t ∧ t.resp = .done ∧ RejectShown s t (s.issuer who) true a.toNat code ∧
      Frame s t [.regs, .ic, .resp] (RejectReg a.toNat)) ∧
  (∀ (s : State) (who : Who) (a : BitVec 34) (w : Word) (r : RegRow) (x : List Nat), placeOf a.toNat = .registers →
    s.reaches (s.issuer who) a.toNat = true → a.toNat % 4 = 0 → s.gated (pageBlock a.toNat) = false → RegMap.at a.toNat = some (r, x) →
    (s.ownWrite (s.issuer who) 4 a.toNat w State.activateOpen).isNone = true →
    s.checkFields (s.issuer who) r a.toNat w.toNat (s.plainHeld a.toNat) (s.plainBad a.toNat w.toNat) ≠ Code.DONE → isRejectReg a.toNat = false → s.toGate (s.issuer who) a.toNat = false → s.gateWait (s.issuer who) = false →
    ∃ t, exec (.registerWrite who 4 a w) s = .next t ∧ t.resp = .done ∧
      RejectShown s t (s.issuer who) true a.toNat (s.checkFields (s.issuer who) r a.toNat w.toNat (s.plainHeld a.toNat) (s.plainBad a.toNat w.toNat)) ∧
      Frame s t [.regs, .ic, .resp] (RejectReg a.toNat)) ∧
  (∀ (s : State) (who : Who) (a : Nat) (w : Word) (held bad : Bool) (refuse : Nat) (effect : State → State) (r : RegRow) (x : List Nat),
    0x20000000 ≤ a → a < 0x20100000 → s.reaches (s.issuer who) a = true → a % 4 = 0 → s.gated (pageBlock a) = false → RegMap.at a = some (r, x) →
    isRejectReg a = false → refuse < 65536 → s.toGate (s.issuer who) a = false → s.gateWait (s.issuer who) = false →
    (s.checkFields (s.issuer who) r a w.toNat held bad ≠ Code.DONE ∨ refuse ≠ Code.DONE) →
    (s.regWrite who 4 a w held bad refuse effect).resp = .done ∧
    RejectShown s (s.regWrite who 4 a w held bad refuse effect) (s.issuer who) true a
      (if s.checkFields (s.issuer who) r a w.toNat held bad ≠ Code.DONE then s.checkFields (s.issuer who) r a w.toNat held bad else refuse) ∧
    Frame s (s.regWrite who 4 a w held bad refuse effect) [.regs, .ic, .resp] (RejectReg a))

/-- An aligned word read of a register page of a powered block, which no release gate holds back (R329): from a reserved address it returns 0 and changes nothing; from a register that
the district may not read it returns 0, changes nothing and records NOT_OWNER; from a rejection register a district other than 0 reads 0 and
nothing is recorded. The claim registers, semaphores and apertures, which have their own readers, are apart. -/
def Obligations.RefusedRead : Prop :=
  (∀ (s : State) (who : Who) (a : BitVec 34), placeOf a.toNat = .registers → s.reaches (s.issuer who) a.toNat = true → a.toNat % 4 = 0 →
    s.gated (pageBlock a.toNat) = false → RegMap.at a.toNat = none → a.toNat < 0x200F8000 ∨ 0x200FC000 ≤ a.toNat → s.gateWait (s.issuer who) = false →
    ∃ t, exec (.rcFieldRead who 4 a) s = .next t ∧ t.resp = .data 0 ∧ Frame s t [.resp] (fun _ => False)) ∧
  (∀ (s : State) (who : Who) (a : BitVec 34) (r : RegRow) (x : List Nat), placeOf a.toNat = .registers → s.reaches (s.issuer who) a.toNat = true →
    a.toNat % 4 = 0 → s.gated (pageBlock a.toNat) = false → RegMap.at a.toNat = some (r, x) → s.mayRead (s.issuer who) r a.toNat = false →
    isRejectReg a.toNat = false → readsPlainly a.toNat = true → s.gateWait (s.issuer who) = false →
    ∃ t, exec (.rcFieldRead who 4 a) s = .next t ∧ t.resp = .data 0 ∧ RejectShown s t (s.issuer who) false a.toNat Code.NOT_OWNER ∧
      Frame s t [.regs, .ic, .resp] (RejectReg a.toNat)) ∧
  (∀ (s : State) (who : Who) (a : BitVec 34), placeOf a.toNat = .registers → s.reaches (s.issuer who) a.toNat = true → a.toNat % 4 = 0 →
    s.gated (pageBlock a.toNat) = false → isRejectReg a.toNat = true → (s.issuer who).district ≠ 0 → s.gateWait (s.issuer who) = false →
    ∃ t, exec (.rcFieldRead who 4 a) s = .next t ∧ t.resp = .data 0 ∧ Frame s t [.resp] (fun _ => False))

/-- In Active, a MEMORY_ACCESS of one memory behind a guard that the guards do not pass ends in a bus error: no byte of memory, no cache line
and no semaphore changes where no release gate takes a store or holds it back (R329), the denial is recorded in WG_FAULT, with address 0 for a Courtyard's access, and counted, and a core takes the
access fault of its kind. An access passes only by a region that covers every byte with the district, the Courtyard and the permission of
the access, or as district 0 under R357.
Where the spec's words end it goes by the model's choices of assumptions 16, 17, 20 and 22. -/
def Obligations.DeniedAccess : Prop :=
  (∀ (s : State) (who : Who) (k : AccessKind) (a : BitVec 64) (data : List Byte) (target : Nat), s.dev = .active → 0 < k.size data →
    guardTarget (placeOf a.toNat) = some target → (placeOf a.toNat = .flash → k.writes = false) →
    placeOf (a.toNat + k.size data - 1) = placeOf a.toNat →
    (k.writes = true → s.toGate (s.issuer who) a.toNat = false ∧ s.gateWait (s.issuer who) = false) → s.passes (s.issuer who) k target a.toNat (k.size data) = false →
    ∃ t, exec (.memoryAccess who k a ⟨data, .none⟩) s = .next t ∧ t.resp = .busError ∧ t.mem = s.mem ∧ t.wg.l1 = s.wg.l1 ∧ t.wg.l2 = s.wg.l2 ∧
      t.wg.poison = s.wg.poison ∧ Counted s t (Rg.WG_EVENT 0) ∧ t.flag Fd.WG_FAULT_VALID = true ∧
      t.flag Fd.WG_FAULT_OVERWRITE = s.flag Fd.WG_FAULT_VALID ∧ t.rd Fd.WG_FAULT_DISTRICT = (s.issuer who).district.toNat ∧
      t.rd Fd.WG_FAULT_INITIATOR = (s.issuer who).initiator.toNat ∧ t.rd Fd.WG_FAULT_KIND = k.code ∧
      (t.reg Rg.WG_FAULT_ADDR_LO).toNat = (if (s.issuer who).courtyard = 0 then a.toNat % 2 ^ 32 else 0) ∧
      ((s.issuer who).initiator.toNat < 8 → (t.hart (s.leader (s.issuer who).initiator.toNat)).excCause = k.cause) ∧
      Frame s t [.regs, .ic, .wg, .resp] (fun b => b = Rg.WG_FAULT ∨ b = Rg.WG_FAULT_ADDR_LO ∨ b = Rg.WG_FAULT_ADDR_HI ∨ b = Rg.WG_EVENT 0 ∨
        b = Rg.WG_EVENT_SAT)) ∧
  (∀ (s : State) (who : Who) (k : AccessKind) (target a n : Nat), s.passes who k target a n = true → guardedInitiator who.initiator.toNat = true →
    (target = 0 → s.inCtx a n = false ∧ s.inMbox a n = false) →
    ∃ i ∈ s.items 0x0401, i.rgnTarget = target ∧ i.rgnBase ≤ a ∧ a + n ≤ i.rgnBase + i.rgnSize ∧
      ((i.rgnDistrict = who.district.toNat ∧ (i.rgnCourtyard = 0 ∨ i.rgnCourtyard = who.courtyard.toNat) ∧ i.rgnPerm &&& k.need = k.need) ∨
        (who.district = 0 ∧ who.courtyard = 0 ∧ i.rgnCourtyard = 0 ∧ k.isFetch = false)))
end

