-- ==== Sys2Proof/Laws/Tbl.lean ====
section
/-! SUPPORT. Sparse tables: a read after a write, and the canonical form that every write and every filter keeps. -/

namespace Sys2Proof.Machine

theorem tget_terase_same {α : Type} (d : Nat → α) (t : Tbl α) (k : Nat) : tget d (terase t k) k = d k := by
  induction t with
  | nil => rfl
  | cons p rest ih =>
    obtain ⟨j, v⟩ := p
    by_cases h : j = k
    · simpa [terase, h] using ih
    · simpa [terase, tget, h] using ih

theorem tget_terase_ne {α : Type} (d : Nat → α) (t : Tbl α) (k j : Nat) (h : j ≠ k) : tget d (terase t k) j = tget d t j := by
  induction t with
  | nil => rfl
  | cons p rest ih =>
    obtain ⟨i, v⟩ := p
    by_cases hi : i = k
    · simp only [terase, hi, if_true, ih, tget, if_neg (Ne.symm h)]
    · simp only [terase, if_neg hi, tget, ih]

theorem tget_tinsert_same {α : Type} (d : Nat → α) (t : Tbl α) (k : Nat) (x : α) (h : ∀ p ∈ t, p.1 ≠ k) :
    tget d (tinsert t k x) k = x := by
  induction t with
  | nil => simp [tinsert, tget]
  | cons p rest ih =>
    obtain ⟨i, v⟩ := p
    have hi : i ≠ k := h (i, v) (by simp)
    by_cases hk : k < i
    · simp [tinsert, hk, tget]
    · simp only [tinsert, if_neg hk, tget, if_neg hi]
      exact ih (fun p hp => h p (by simp [hp]))

theorem tget_tinsert_ne {α : Type} (d : Nat → α) (t : Tbl α) (k j : Nat) (x : α) (h : j ≠ k) :
    tget d (tinsert t k x) j = tget d t j := by
  induction t with
  | nil => simp [tinsert, tget, Ne.symm h]
  | cons p rest ih =>
    obtain ⟨i, v⟩ := p
    by_cases hk : k < i
    · simp [tinsert, hk, tget, Ne.symm h]
    · simp only [tinsert, if_neg hk, tget, ih]

theorem terase_ne {α : Type} (t : Tbl α) (k : Nat) : ∀ p ∈ terase t k, p.1 ≠ k := by
  induction t with
  | nil => simp [terase]
  | cons p rest ih =>
    obtain ⟨i, v⟩ := p
    by_cases hi : i = k
    · simpa [terase, hi] using ih
    · simpa [terase, hi] using ih

/-- A read of the key just set. -/
theorem tget_tset_same {α : Type} [DecidableEq α] (d : Nat → α) (t : Tbl α) (k : Nat) (x : α) : tget d (tset d t k x) k = x := by
  unfold tset
  split
  · rw [tget_terase_same]; exact Eq.symm ‹_›
  · exact tget_tinsert_same d _ k x (terase_ne t k)

/-- A read of another key. -/
theorem tget_tset_ne {α : Type} [DecidableEq α] (d : Nat → α) (t : Tbl α) (k j : Nat) (x : α) (h : j ≠ k) :
    tget d (tset d t k x) j = tget d t j := by
  unfold tset
  split
  · exact tget_terase_ne d t k j h
  · rw [tget_tinsert_ne d _ k j x h, tget_terase_ne d t k j h]

/-- A read after a write, whichever the key. -/
theorem tget_tset {α : Type} [DecidableEq α] (d : Nat → α) (t : Tbl α) (k j : Nat) (x : α) :
    tget d (tset d t k x) j = if j = k then x else tget d t j := by
  split
  · next h => rw [h, tget_tset_same]
  · next h => exact tget_tset_ne d t k j x h

/-! ### The canonical form -/

theorem tabove_iff {α : Type} (t : Tbl α) (k : Nat) : tabove t k = true ↔ ∀ p ∈ t, k < p.1 := by
  induction t with
  | nil => simp [tabove]
  | cons p rest ih => obtain ⟨i, v⟩ := p; simp [tabove, ih]

theorem tabove_terase {α : Type} (t : Tbl α) (j k : Nat) (h : tabove t j = true) : tabove (terase t k) j = true := by
  induction t with
  | nil => simp [terase, tabove]
  | cons p rest ih =>
    obtain ⟨i, v⟩ := p
    simp only [tabove, Bool.and_eq_true, decide_eq_true_eq] at h
    by_cases hi : i = k
    · simpa [terase, hi] using ih h.2
    · simp [terase, hi, tabove, h.1, ih h.2]

theorem twf_terase {α : Type} [DecidableEq α] (d : Nat → α) (t : Tbl α) (k : Nat) (h : twf d t = true) : twf d (terase t k) = true := by
  induction t with
  | nil => simp [terase, twf]
  | cons p rest ih =>
    obtain ⟨i, v⟩ := p
    simp only [twf, Bool.and_eq_true, decide_eq_true_eq] at h
    by_cases hi : i = k
    · simpa [terase, hi] using ih h.2
    · simp only [terase, if_neg hi, twf, Bool.and_eq_true, decide_eq_true_eq]
      exact ⟨⟨h.1.1, tabove_terase rest i k h.1.2⟩, ih h.2⟩

theorem tabove_tinsert {α : Type} (t : Tbl α) (j k : Nat) (x : α) (hj : j < k) (h : tabove t j = true) :
    tabove (tinsert t k x) j = true := by
  induction t with
  | nil => simp [tinsert, tabove, hj]
  | cons p rest ih =>
    obtain ⟨i, v⟩ := p
    have h' := h
    simp only [tabove, Bool.and_eq_true, decide_eq_true_eq] at h
    by_cases hk : k < i
    · simp [tinsert, hk, tabove, hj, h.1, h.2]
    · simp [tinsert, hk, tabove, h.1, ih h.2]

theorem twf_tinsert {α : Type} [DecidableEq α] (d : Nat → α) (t : Tbl α) (k : Nat) (x : α) (hx : x ≠ d k) (hk : ∀ p ∈ t, p.1 ≠ k)
    (h : twf d t = true) : twf d (tinsert t k x) = true := by
  induction t with
  | nil => simp [tinsert, twf, tabove, hx]
  | cons p rest ih =>
    obtain ⟨i, v⟩ := p
    have hi : i ≠ k := hk (i, v) (by simp)
    have h' := h
    simp only [twf, Bool.and_eq_true, decide_eq_true_eq] at h
    by_cases hki : k < i
    · simp only [tinsert, if_pos hki, twf, Bool.and_eq_true, decide_eq_true_eq]
      refine ⟨⟨hx, ?_⟩, h⟩
      simp only [tabove, Bool.and_eq_true, decide_eq_true_eq]
      refine ⟨hki, (tabove_iff rest k).2 fun p hp => ?_⟩
      exact Nat.lt_trans hki ((tabove_iff rest i).1 h.1.2 p hp)
    · simp only [tinsert, if_neg hki, twf, Bool.and_eq_true, decide_eq_true_eq]
      exact ⟨⟨h.1.1, tabove_tinsert rest i k x (by omega) h.1.2⟩, ih (fun p hp => hk p (by simp [hp])) h.2⟩

/-- A write keeps the canonical form. -/
theorem twf_tset {α : Type} [DecidableEq α] (d : Nat → α) (t : Tbl α) (k : Nat) (x : α) (h : twf d t = true) : twf d (tset d t k x) = true := by
  unfold tset
  split
  · exact twf_terase d t k h
  · next hx => exact twf_tinsert d _ k x hx (terase_ne t k) (twf_terase d t k h)

/-- A filter keeps the canonical form. -/
theorem twf_filter {α : Type} [DecidableEq α] (d : Nat → α) (t : Tbl α) (f : Nat × α → Bool) (h : twf d t = true) :
    twf d (t.filter f) = true := by
  induction t with
  | nil => rfl
  | cons p rest ih =>
    obtain ⟨i, v⟩ := p
    simp only [twf, Bool.and_eq_true, decide_eq_true_eq] at h
    by_cases hf : f (i, v) = true
    · rw [List.filter_cons_of_pos hf]
      simp only [twf, Bool.and_eq_true, decide_eq_true_eq]
      refine ⟨⟨h.1.1, (tabove_iff _ i).2 fun p hp => ?_⟩, ih h.2⟩
      exact (tabove_iff rest i).1 h.1.2 p (List.mem_filter.1 hp).1
    · rw [List.filter_cons_of_neg hf]; exact ih h.2

/-- A read of a table from which a condition on keys has removed entries. -/
theorem tget_filter {α : Type} (d : Nat → α) (t : Tbl α) (f : Nat → Bool) (k : Nat) :
    tget d (t.filter (fun p => f p.1)) k = if f k then tget d t k else d k := by
  induction t with
  | nil => simp [tget]
  | cons p rest ih =>
    obtain ⟨i, v⟩ := p
    by_cases hi : i = k
    · subst hi
      by_cases hf : f i = true
      · simp [List.filter_cons_of_pos, hf, tget]
      · have hf' : f i = false := by simpa using hf
        rw [List.filter_cons_of_neg (by simp [hf'])]
        simp [ih, hf']
    · by_cases hf : f i = true
      · rw [List.filter_cons_of_pos (by simp [hf])]
        simp only [tget, if_neg hi, ih]
      · rw [List.filter_cons_of_neg (by simp [hf])]
        simp only [tget, if_neg hi, ih]

end Sys2Proof.Machine
end

