-- ==== Sys2Proof/Laws/Fields.lean ====
section
/-! SUPPORT. Registers and fields: a read after a write of the same field, of another field, of another register. -/

namespace Sys2Proof.Machine

theorem getBits_testBit (w hi lo k : Nat) : (getBits w hi lo).testBit k = (decide (k < hi + 1 - lo) && w.testBit (lo + k)) := by
  unfold getBits
  rw [Nat.testBit_mod_two_pow, Nat.testBit_shiftRight]

theorem putBits_testBit (w hi lo v k : Nat) (h : lo ≤ hi) :
    (putBits w hi lo v).testBit k = if k < lo then w.testBit k else if k ≤ hi then v.testBit (k - lo) else w.testBit k := by
  unfold putBits
  rw [Nat.add_comm, Nat.shiftLeft_eq, Nat.mul_comm]
  rw [Nat.testBit_two_pow_mul_add _ (Nat.mod_lt _ (Nat.two_pow_pos lo))]
  split
  · rename_i hk; rw [Nat.testBit_mod_two_pow]; simp [hk]
  · rename_i hk
    rw [Nat.add_comm (v % _), Nat.shiftLeft_eq, Nat.mul_comm (w >>> _)]
    rw [Nat.testBit_two_pow_mul_add _ (Nat.mod_lt _ (Nat.two_pow_pos _))]
    split
    · rename_i h2
      rw [Nat.testBit_mod_two_pow, if_pos (by omega)]; simp [h2]
    · rename_i h2
      rw [if_neg (by omega), Nat.testBit_shiftRight]
      congr 1; omega

theorem getBits_putBits (w hi lo v : Nat) (h : lo ≤ hi) : getBits (putBits w hi lo v) hi lo = v % 2 ^ (hi + 1 - lo) := by
  apply Nat.eq_of_testBit_eq
  intro k
  rw [getBits_testBit, putBits_testBit _ _ _ _ _ h, Nat.testBit_mod_two_pow]
  by_cases hk : k < hi + 1 - lo
  · rw [if_neg (by omega), if_pos (by omega)]; simp [hk]
  · simp [hk]

theorem getBits_putBits_ne (w hi lo v h l : Nat) (hl : lo ≤ hi) (hd : h < lo ∨ hi < l) : getBits (putBits w hi lo v) h l = getBits w h l := by
  apply Nat.eq_of_testBit_eq
  intro k
  rw [getBits_testBit, getBits_testBit, putBits_testBit _ _ _ _ _ hl]
  by_cases hk : k < h + 1 - l
  · rcases hd with hd | hd
    · rw [if_pos (by omega)]
    · rw [if_neg (by omega), if_neg (by omega)]
  · simp [hk]

theorem putBits_lt (w hi lo v n : Nat) (h : lo ≤ hi) (hn : hi < n) (hw : w < 2 ^ n) : putBits w hi lo v < 2 ^ n := by
  apply Nat.lt_pow_two_of_testBit
  intro k hk
  rw [putBits_testBit _ _ _ _ _ h, if_neg (by omega), if_neg (by omega)]
  exact Nat.testBit_lt_two_pow (Nat.lt_of_lt_of_le hw (Nat.pow_le_pow_right (by omega) hk))

/-! ### Registers -/

theorem reg_setReg_same (s : State) (a : Nat) (w : Word) : (s.setReg a w).reg a = w := tget_tset_same _ _ _ _
theorem reg_setReg_ne (s : State) (a b : Nat) (w : Word) (h : b ≠ a) : (s.setReg a w).reg b = s.reg b := tget_tset_ne _ _ _ _ _ h
theorem reg_wr_ne (s : State) (f : Fld) (v b : Nat) (h : b ≠ f.addr) : (s.wr f v).reg b = s.reg b := reg_setReg_ne _ _ _ _ h
theorem reg_setFlag_ne (s : State) (f : Fld) (v : Bool) (b : Nat) (h : b ≠ f.addr) : (s.setFlag f v).reg b = s.reg b := reg_wr_ne _ _ _ _ h

theorem reg_wr_same (s : State) (f : Fld) (v : Nat) (h : f.lo ≤ f.hi) (h31 : f.hi ≤ 31) :
    ((s.wr f v).reg f.addr).toNat = putBits (s.reg f.addr).toNat f.hi f.lo v := by
  unfold State.wr
  rw [reg_setReg_same, BitVec.toNat_ofNat]
  exact Nat.mod_eq_of_lt (putBits_lt _ _ _ _ _ h (by omega) (s.reg f.addr).isLt)

/-- A field just written reads as the value, cut to its width. -/
theorem rd_wr_same (s : State) (f : Fld) (v : Nat) (h : f.lo ≤ f.hi) (h31 : f.hi ≤ 31) : (s.wr f v).rd f = v % 2 ^ (f.hi + 1 - f.lo) := by
  unfold State.rd
  rw [reg_wr_same s f v h h31, getBits_putBits _ _ _ _ h]

/-- A field of another register. -/
theorem rd_setReg_ne (s : State) (a : Nat) (w : Word) (g : Fld) (h : g.addr ≠ a) : (s.setReg a w).rd g = s.rd g := by
  unfold State.rd; rw [reg_setReg_ne _ _ _ _ h]
theorem rd_wr_ne (s : State) (f g : Fld) (v : Nat) (h : g.addr ≠ f.addr) : (s.wr f v).rd g = s.rd g := rd_setReg_ne _ _ _ _ h

/-- A field of the same register that shares no bit with the field written. -/
theorem rd_wr_apart (s : State) (f g : Fld) (v : Nat) (ha : g.addr = f.addr) (h : f.lo ≤ f.hi) (h31 : f.hi ≤ 31)
    (hd : g.hi < f.lo ∨ f.hi < g.lo) : (s.wr f v).rd g = s.rd g := by
  unfold State.rd
  rw [ha, reg_wr_same s f v h h31, getBits_putBits_ne _ _ _ _ _ _ h hd]

theorem flag_wr_one (s : State) (f : Fld) (h : f.lo = f.hi) (h31 : f.hi ≤ 31) : (s.wr f 1).flag f = true := by
  unfold State.flag; rw [rd_wr_same s f 1 (by omega) h31]; simp [h]
theorem flag_wr_zero (s : State) (f : Fld) (h : f.lo ≤ f.hi) (h31 : f.hi ≤ 31) : (s.wr f 0).flag f = false := by
  unfold State.flag; rw [rd_wr_same s f 0 h h31]; simp
theorem flag_setFlag (s : State) (f : Fld) (b : Bool) (h : f.lo = f.hi) (h31 : f.hi ≤ 31) : (s.setFlag f b).flag f = b := by
  unfold State.setFlag
  cases b
  · simpa using flag_wr_zero s f (by omega) h31
  · simpa using flag_wr_one s f h h31

theorem reg_resetRegs (s : State) (lo hi a : Nat) : (s.resetRegs lo hi).reg a = if lo ≤ a ∧ a < hi then regReset a else s.reg a := by
  unfold State.resetRegs State.reg
  rw [show (fun (p : Nat × Word) => decide (p.1 < lo) || decide (hi ≤ p.1)) = (fun p => (fun k => decide (k < lo) || decide (hi ≤ k)) p.1) from rfl,
    tget_filter regReset s.regs (fun k => decide (k < lo) || decide (hi ≤ k)) a]
  by_cases h : lo ≤ a ∧ a < hi
  · rw [if_neg (by simp; omega), if_pos h]
  · rw [if_pos (by simp; omega), if_neg h]
end Sys2Proof.Machine
end

