-- ==== Sys2Proof/Laws/State.lean ====
section
/-! SUPPORT. What each basic update of the state leaves alone, field by field, and what it puts. -/

namespace Sys2Proof.Machine

/-! ### setReg -/

@[simp] theorem State.setReg_pending (s : State) (a : Nat) (w : Word) : (State.setReg s a w).pending = s.pending := rfl
@[simp] theorem State.setReg_dev (s : State) (a : Nat) (w : Word) : (State.setReg s a w).dev = s.dev := rfl
@[simp] theorem State.setReg_now (s : State) (a : Nat) (w : Word) : (State.setReg s a w).now = s.now := rfl
@[simp] theorem State.setReg_vt (s : State) (a : Nat) (w : Word) : (State.setReg s a w).vt = s.vt := rfl
@[simp] theorem State.setReg_mem (s : State) (a : Nat) (w : Word) : (State.setReg s a w).mem = s.mem := rfl
@[simp] theorem State.setReg_resp (s : State) (a : Nat) (w : Word) : (State.setReg s a w).resp = s.resp := rfl
@[simp] theorem State.setReg_fresh (s : State) (a : Nat) (w : Word) : (State.setReg s a w).fresh = s.fresh := rfl
@[simp] theorem State.setReg_shadows (s : State) (a : Nat) (w : Word) : (State.setReg s a w).shadows = s.shadows := rfl
@[simp] theorem State.setReg_plan (s : State) (a : Nat) (w : Word) : (State.setReg s a w).plan = s.plan := rfl
@[simp] theorem State.setReg_ao (s : State) (a : Nat) (w : Word) : (State.setReg s a w).ao = s.ao := rfl
@[simp] theorem State.setReg_ep (s : State) (a : Nat) (w : Word) : (State.setReg s a w).ep = s.ep := rfl
@[simp] theorem State.setReg_wg (s : State) (a : Nat) (w : Word) : (State.setReg s a w).wg = s.wg := rfl
@[simp] theorem State.setReg_ic (s : State) (a : Nat) (w : Word) : (State.setReg s a w).ic = s.ic := rfl
@[simp] theorem State.setReg_kb (s : State) (a : Nat) (w : Word) : (State.setReg s a w).kb = s.kb := rfl
@[simp] theorem State.setReg_pn (s : State) (a : Nat) (w : Word) : (State.setReg s a w).pn = s.pn := rfl
@[simp] theorem State.setReg_can (s : State) (a : Nat) (w : Word) : (State.setReg s a w).can = s.can := rfl
@[simp] theorem State.setReg_sw (s : State) (a : Nat) (w : Word) : (State.setReg s a w).sw = s.sw := rfl
@[simp] theorem State.setReg_ptp (s : State) (a : Nat) (w : Word) : (State.setReg s a w).ptp = s.ptp := rfl
@[simp] theorem State.setReg_nm (s : State) (a : Nat) (w : Word) : (State.setReg s a w).nm = s.nm := rfl
@[simp] theorem State.setReg_sf (s : State) (a : Nat) (w : Word) : (State.setReg s a w).sf = s.sf := rfl
@[simp] theorem State.setReg_cp (s : State) (a : Nat) (w : Word) : (State.setReg s a w).cp = s.cp := rfl
@[simp] theorem State.setReg_otp (s : State) (a : Nat) (w : Word) : (State.setReg s a w).otp = s.otp := rfl
@[simp] theorem State.setReg_ks (s : State) (a : Nat) (w : Word) : (State.setReg s a w).ks = s.ks := rfl
@[simp] theorem State.setReg_up (s : State) (a : Nat) (w : Word) : (State.setReg s a w).up = s.up := rfl
@[simp] theorem State.setReg_ux (s : State) (a : Nat) (w : Word) : (State.setReg s a w).ux = s.ux := rfl
@[simp] theorem State.setReg_byte (s : State) (a : Nat) (w : Word) (r : Nat) : (State.setReg s a w).byte r = s.byte r := rfl

/-! ### wr -/

@[simp] theorem State.wr_pending (s : State) (f : Fld) (v : Nat) : (State.wr s f v).pending = s.pending := rfl
@[simp] theorem State.wr_dev (s : State) (f : Fld) (v : Nat) : (State.wr s f v).dev = s.dev := rfl
@[simp] theorem State.wr_now (s : State) (f : Fld) (v : Nat) : (State.wr s f v).now = s.now := rfl
@[simp] theorem State.wr_vt (s : State) (f : Fld) (v : Nat) : (State.wr s f v).vt = s.vt := rfl
@[simp] theorem State.wr_mem (s : State) (f : Fld) (v : Nat) : (State.wr s f v).mem = s.mem := rfl
@[simp] theorem State.wr_resp (s : State) (f : Fld) (v : Nat) : (State.wr s f v).resp = s.resp := rfl
@[simp] theorem State.wr_fresh (s : State) (f : Fld) (v : Nat) : (State.wr s f v).fresh = s.fresh := rfl
@[simp] theorem State.wr_shadows (s : State) (f : Fld) (v : Nat) : (State.wr s f v).shadows = s.shadows := rfl
@[simp] theorem State.wr_plan (s : State) (f : Fld) (v : Nat) : (State.wr s f v).plan = s.plan := rfl
@[simp] theorem State.wr_ao (s : State) (f : Fld) (v : Nat) : (State.wr s f v).ao = s.ao := rfl
@[simp] theorem State.wr_ep (s : State) (f : Fld) (v : Nat) : (State.wr s f v).ep = s.ep := rfl
@[simp] theorem State.wr_wg (s : State) (f : Fld) (v : Nat) : (State.wr s f v).wg = s.wg := rfl
@[simp] theorem State.wr_ic (s : State) (f : Fld) (v : Nat) : (State.wr s f v).ic = s.ic := rfl
@[simp] theorem State.wr_kb (s : State) (f : Fld) (v : Nat) : (State.wr s f v).kb = s.kb := rfl
@[simp] theorem State.wr_pn (s : State) (f : Fld) (v : Nat) : (State.wr s f v).pn = s.pn := rfl
@[simp] theorem State.wr_can (s : State) (f : Fld) (v : Nat) : (State.wr s f v).can = s.can := rfl
@[simp] theorem State.wr_sw (s : State) (f : Fld) (v : Nat) : (State.wr s f v).sw = s.sw := rfl
@[simp] theorem State.wr_ptp (s : State) (f : Fld) (v : Nat) : (State.wr s f v).ptp = s.ptp := rfl
@[simp] theorem State.wr_nm (s : State) (f : Fld) (v : Nat) : (State.wr s f v).nm = s.nm := rfl
@[simp] theorem State.wr_sf (s : State) (f : Fld) (v : Nat) : (State.wr s f v).sf = s.sf := rfl
@[simp] theorem State.wr_cp (s : State) (f : Fld) (v : Nat) : (State.wr s f v).cp = s.cp := rfl
@[simp] theorem State.wr_otp (s : State) (f : Fld) (v : Nat) : (State.wr s f v).otp = s.otp := rfl
@[simp] theorem State.wr_ks (s : State) (f : Fld) (v : Nat) : (State.wr s f v).ks = s.ks := rfl
@[simp] theorem State.wr_up (s : State) (f : Fld) (v : Nat) : (State.wr s f v).up = s.up := rfl
@[simp] theorem State.wr_ux (s : State) (f : Fld) (v : Nat) : (State.wr s f v).ux = s.ux := rfl
@[simp] theorem State.wr_byte (s : State) (f : Fld) (v : Nat) (r : Nat) : (State.wr s f v).byte r = s.byte r := rfl

/-! ### setFlag -/

@[simp] theorem State.setFlag_pending (s : State) (f : Fld) (b : Bool) : (State.setFlag s f b).pending = s.pending := rfl
@[simp] theorem State.setFlag_dev (s : State) (f : Fld) (b : Bool) : (State.setFlag s f b).dev = s.dev := rfl
@[simp] theorem State.setFlag_now (s : State) (f : Fld) (b : Bool) : (State.setFlag s f b).now = s.now := rfl
@[simp] theorem State.setFlag_vt (s : State) (f : Fld) (b : Bool) : (State.setFlag s f b).vt = s.vt := rfl
@[simp] theorem State.setFlag_mem (s : State) (f : Fld) (b : Bool) : (State.setFlag s f b).mem = s.mem := rfl
@[simp] theorem State.setFlag_resp (s : State) (f : Fld) (b : Bool) : (State.setFlag s f b).resp = s.resp := rfl
@[simp] theorem State.setFlag_fresh (s : State) (f : Fld) (b : Bool) : (State.setFlag s f b).fresh = s.fresh := rfl
@[simp] theorem State.setFlag_shadows (s : State) (f : Fld) (b : Bool) : (State.setFlag s f b).shadows = s.shadows := rfl
@[simp] theorem State.setFlag_plan (s : State) (f : Fld) (b : Bool) : (State.setFlag s f b).plan = s.plan := rfl
@[simp] theorem State.setFlag_ao (s : State) (f : Fld) (b : Bool) : (State.setFlag s f b).ao = s.ao := rfl
@[simp] theorem State.setFlag_ep (s : State) (f : Fld) (b : Bool) : (State.setFlag s f b).ep = s.ep := rfl
@[simp] theorem State.setFlag_wg (s : State) (f : Fld) (b : Bool) : (State.setFlag s f b).wg = s.wg := rfl
@[simp] theorem State.setFlag_ic (s : State) (f : Fld) (b : Bool) : (State.setFlag s f b).ic = s.ic := rfl
@[simp] theorem State.setFlag_kb (s : State) (f : Fld) (b : Bool) : (State.setFlag s f b).kb = s.kb := rfl
@[simp] theorem State.setFlag_pn (s : State) (f : Fld) (b : Bool) : (State.setFlag s f b).pn = s.pn := rfl
@[simp] theorem State.setFlag_can (s : State) (f : Fld) (b : Bool) : (State.setFlag s f b).can = s.can := rfl
@[simp] theorem State.setFlag_sw (s : State) (f : Fld) (b : Bool) : (State.setFlag s f b).sw = s.sw := rfl
@[simp] theorem State.setFlag_ptp (s : State) (f : Fld) (b : Bool) : (State.setFlag s f b).ptp = s.ptp := rfl
@[simp] theorem State.setFlag_nm (s : State) (f : Fld) (b : Bool) : (State.setFlag s f b).nm = s.nm := rfl
@[simp] theorem State.setFlag_sf (s : State) (f : Fld) (b : Bool) : (State.setFlag s f b).sf = s.sf := rfl
@[simp] theorem State.setFlag_cp (s : State) (f : Fld) (b : Bool) : (State.setFlag s f b).cp = s.cp := rfl
@[simp] theorem State.setFlag_otp (s : State) (f : Fld) (b : Bool) : (State.setFlag s f b).otp = s.otp := rfl
@[simp] theorem State.setFlag_ks (s : State) (f : Fld) (b : Bool) : (State.setFlag s f b).ks = s.ks := rfl
@[simp] theorem State.setFlag_up (s : State) (f : Fld) (b : Bool) : (State.setFlag s f b).up = s.up := rfl
@[simp] theorem State.setFlag_ux (s : State) (f : Fld) (b : Bool) : (State.setFlag s f b).ux = s.ux := rfl
@[simp] theorem State.setFlag_byte (s : State) (f : Fld) (b : Bool) (r : Nat) : (State.setFlag s f b).byte r = s.byte r := rfl

/-! ### store -/

@[simp] theorem State.store_pending (s : State) (a : Nat) (bs : List Byte) : (State.store s a bs).pending = s.pending := rfl
@[simp] theorem State.store_dev (s : State) (a : Nat) (bs : List Byte) : (State.store s a bs).dev = s.dev := rfl
@[simp] theorem State.store_now (s : State) (a : Nat) (bs : List Byte) : (State.store s a bs).now = s.now := rfl
@[simp] theorem State.store_vt (s : State) (a : Nat) (bs : List Byte) : (State.store s a bs).vt = s.vt := rfl
@[simp] theorem State.store_regs (s : State) (a : Nat) (bs : List Byte) : (State.store s a bs).regs = s.regs := rfl
@[simp] theorem State.store_resp (s : State) (a : Nat) (bs : List Byte) : (State.store s a bs).resp = s.resp := rfl
@[simp] theorem State.store_fresh (s : State) (a : Nat) (bs : List Byte) : (State.store s a bs).fresh = s.fresh := rfl
@[simp] theorem State.store_shadows (s : State) (a : Nat) (bs : List Byte) : (State.store s a bs).shadows = s.shadows := rfl
@[simp] theorem State.store_plan (s : State) (a : Nat) (bs : List Byte) : (State.store s a bs).plan = s.plan := rfl
@[simp] theorem State.store_ao (s : State) (a : Nat) (bs : List Byte) : (State.store s a bs).ao = s.ao := rfl
@[simp] theorem State.store_ep (s : State) (a : Nat) (bs : List Byte) : (State.store s a bs).ep = s.ep := rfl
@[simp] theorem State.store_ic (s : State) (a : Nat) (bs : List Byte) : (State.store s a bs).ic = s.ic := rfl
@[simp] theorem State.store_kb (s : State) (a : Nat) (bs : List Byte) : (State.store s a bs).kb = s.kb := rfl
@[simp] theorem State.store_pn (s : State) (a : Nat) (bs : List Byte) : (State.store s a bs).pn = s.pn := rfl
@[simp] theorem State.store_can (s : State) (a : Nat) (bs : List Byte) : (State.store s a bs).can = s.can := rfl
@[simp] theorem State.store_sw (s : State) (a : Nat) (bs : List Byte) : (State.store s a bs).sw = s.sw := rfl
@[simp] theorem State.store_ptp (s : State) (a : Nat) (bs : List Byte) : (State.store s a bs).ptp = s.ptp := rfl
@[simp] theorem State.store_nm (s : State) (a : Nat) (bs : List Byte) : (State.store s a bs).nm = s.nm := rfl
@[simp] theorem State.store_sf (s : State) (a : Nat) (bs : List Byte) : (State.store s a bs).sf = s.sf := rfl
@[simp] theorem State.store_cp (s : State) (a : Nat) (bs : List Byte) : (State.store s a bs).cp = s.cp := rfl
@[simp] theorem State.store_otp (s : State) (a : Nat) (bs : List Byte) : (State.store s a bs).otp = s.otp := rfl
@[simp] theorem State.store_ks (s : State) (a : Nat) (bs : List Byte) : (State.store s a bs).ks = s.ks := rfl
@[simp] theorem State.store_up (s : State) (a : Nat) (bs : List Byte) : (State.store s a bs).up = s.up := rfl
@[simp] theorem State.store_ux (s : State) (a : Nat) (bs : List Byte) : (State.store s a bs).ux = s.ux := rfl
@[simp] theorem State.store_reg (s : State) (a : Nat) (bs : List Byte) (r : Nat) : (State.store s a bs).reg r = s.reg r := rfl
@[simp] theorem State.store_rd (s : State) (a : Nat) (bs : List Byte) (g : Fld) : (State.store s a bs).rd g = s.rd g := rfl
@[simp] theorem State.store_flag (s : State) (a : Nat) (bs : List Byte) (g : Fld) : (State.store s a bs).flag g = s.flag g := rfl

/-! ### pass -/

@[simp] theorem State.pass_pending (s : State) (d : Nat) : (State.pass s d).pending = s.pending := rfl
@[simp] theorem State.pass_dev (s : State) (d : Nat) : (State.pass s d).dev = s.dev := rfl
@[simp] theorem State.pass_regs (s : State) (d : Nat) : (State.pass s d).regs = s.regs := rfl
@[simp] theorem State.pass_mem (s : State) (d : Nat) : (State.pass s d).mem = s.mem := rfl
@[simp] theorem State.pass_resp (s : State) (d : Nat) : (State.pass s d).resp = s.resp := rfl
@[simp] theorem State.pass_fresh (s : State) (d : Nat) : (State.pass s d).fresh = s.fresh := rfl
@[simp] theorem State.pass_shadows (s : State) (d : Nat) : (State.pass s d).shadows = s.shadows := rfl
@[simp] theorem State.pass_plan (s : State) (d : Nat) : (State.pass s d).plan = s.plan := rfl
@[simp] theorem State.pass_ao (s : State) (d : Nat) : (State.pass s d).ao = s.ao := rfl
@[simp] theorem State.pass_ep (s : State) (d : Nat) : (State.pass s d).ep = s.ep := rfl
@[simp] theorem State.pass_wg (s : State) (d : Nat) : (State.pass s d).wg = s.wg := rfl
@[simp] theorem State.pass_ic (s : State) (d : Nat) : (State.pass s d).ic = s.ic := rfl
@[simp] theorem State.pass_kb (s : State) (d : Nat) : (State.pass s d).kb = s.kb := rfl
@[simp] theorem State.pass_pn (s : State) (d : Nat) : (State.pass s d).pn = s.pn := rfl
@[simp] theorem State.pass_can (s : State) (d : Nat) : (State.pass s d).can = s.can := rfl
@[simp] theorem State.pass_sw (s : State) (d : Nat) : (State.pass s d).sw = s.sw := rfl
@[simp] theorem State.pass_nm (s : State) (d : Nat) : (State.pass s d).nm = s.nm := rfl
@[simp] theorem State.pass_sf (s : State) (d : Nat) : (State.pass s d).sf = s.sf := rfl
@[simp] theorem State.pass_cp (s : State) (d : Nat) : (State.pass s d).cp = s.cp := rfl
@[simp] theorem State.pass_otp (s : State) (d : Nat) : (State.pass s d).otp = s.otp := rfl
@[simp] theorem State.pass_ks (s : State) (d : Nat) : (State.pass s d).ks = s.ks := rfl
@[simp] theorem State.pass_up (s : State) (d : Nat) : (State.pass s d).up = s.up := rfl
@[simp] theorem State.pass_ux (s : State) (d : Nat) : (State.pass s d).ux = s.ux := rfl
@[simp] theorem State.pass_reg (s : State) (d : Nat) (r : Nat) : (State.pass s d).reg r = s.reg r := rfl
@[simp] theorem State.pass_rd (s : State) (d : Nat) (g : Fld) : (State.pass s d).rd g = s.rd g := rfl
@[simp] theorem State.pass_flag (s : State) (d : Nat) (g : Fld) : (State.pass s d).flag g = s.flag g := rfl
@[simp] theorem State.pass_byte (s : State) (d : Nat) (r : Nat) : (State.pass s d).byte r = s.byte r := rfl

/-! ### draw -/

@[simp] theorem State.draw_pending (s : State)  : (State.draw s).pending = s.pending := rfl
@[simp] theorem State.draw_dev (s : State)  : (State.draw s).dev = s.dev := rfl
@[simp] theorem State.draw_now (s : State)  : (State.draw s).now = s.now := rfl
@[simp] theorem State.draw_vt (s : State)  : (State.draw s).vt = s.vt := rfl
@[simp] theorem State.draw_regs (s : State)  : (State.draw s).regs = s.regs := rfl
@[simp] theorem State.draw_mem (s : State)  : (State.draw s).mem = s.mem := rfl
@[simp] theorem State.draw_resp (s : State)  : (State.draw s).resp = s.resp := rfl
@[simp] theorem State.draw_shadows (s : State)  : (State.draw s).shadows = s.shadows := rfl
@[simp] theorem State.draw_plan (s : State)  : (State.draw s).plan = s.plan := rfl
@[simp] theorem State.draw_ao (s : State)  : (State.draw s).ao = s.ao := rfl
@[simp] theorem State.draw_ep (s : State)  : (State.draw s).ep = s.ep := rfl
@[simp] theorem State.draw_wg (s : State)  : (State.draw s).wg = s.wg := rfl
@[simp] theorem State.draw_ic (s : State)  : (State.draw s).ic = s.ic := rfl
@[simp] theorem State.draw_kb (s : State)  : (State.draw s).kb = s.kb := rfl
@[simp] theorem State.draw_pn (s : State)  : (State.draw s).pn = s.pn := rfl
@[simp] theorem State.draw_can (s : State)  : (State.draw s).can = s.can := rfl
@[simp] theorem State.draw_sw (s : State)  : (State.draw s).sw = s.sw := rfl
@[simp] theorem State.draw_ptp (s : State)  : (State.draw s).ptp = s.ptp := rfl
@[simp] theorem State.draw_nm (s : State)  : (State.draw s).nm = s.nm := rfl
@[simp] theorem State.draw_sf (s : State)  : (State.draw s).sf = s.sf := rfl
@[simp] theorem State.draw_cp (s : State)  : (State.draw s).cp = s.cp := rfl
@[simp] theorem State.draw_otp (s : State)  : (State.draw s).otp = s.otp := rfl
@[simp] theorem State.draw_ks (s : State)  : (State.draw s).ks = s.ks := rfl
@[simp] theorem State.draw_up (s : State)  : (State.draw s).up = s.up := rfl
@[simp] theorem State.draw_ux (s : State)  : (State.draw s).ux = s.ux := rfl
@[simp] theorem State.draw_reg (s : State)  (r : Nat) : (State.draw s).reg r = s.reg r := rfl
@[simp] theorem State.draw_rd (s : State)  (g : Fld) : (State.draw s).rd g = s.rd g := rfl
@[simp] theorem State.draw_flag (s : State)  (g : Fld) : (State.draw s).flag g = s.flag g := rfl
@[simp] theorem State.draw_byte (s : State)  (r : Nat) : (State.draw s).byte r = s.byte r := rfl

/-! ### setEp -/

@[simp] theorem State.setEp_pending (s : State) (e : Nat) (x : Ep) : (State.setEp s e x).pending = s.pending := rfl
@[simp] theorem State.setEp_dev (s : State) (e : Nat) (x : Ep) : (State.setEp s e x).dev = s.dev := rfl
@[simp] theorem State.setEp_now (s : State) (e : Nat) (x : Ep) : (State.setEp s e x).now = s.now := rfl
@[simp] theorem State.setEp_vt (s : State) (e : Nat) (x : Ep) : (State.setEp s e x).vt = s.vt := rfl
@[simp] theorem State.setEp_regs (s : State) (e : Nat) (x : Ep) : (State.setEp s e x).regs = s.regs := rfl
@[simp] theorem State.setEp_mem (s : State) (e : Nat) (x : Ep) : (State.setEp s e x).mem = s.mem := rfl
@[simp] theorem State.setEp_resp (s : State) (e : Nat) (x : Ep) : (State.setEp s e x).resp = s.resp := rfl
@[simp] theorem State.setEp_fresh (s : State) (e : Nat) (x : Ep) : (State.setEp s e x).fresh = s.fresh := rfl
@[simp] theorem State.setEp_shadows (s : State) (e : Nat) (x : Ep) : (State.setEp s e x).shadows = s.shadows := rfl
@[simp] theorem State.setEp_plan (s : State) (e : Nat) (x : Ep) : (State.setEp s e x).plan = s.plan := rfl
@[simp] theorem State.setEp_ao (s : State) (e : Nat) (x : Ep) : (State.setEp s e x).ao = s.ao := rfl
@[simp] theorem State.setEp_wg (s : State) (e : Nat) (x : Ep) : (State.setEp s e x).wg = s.wg := rfl
@[simp] theorem State.setEp_ic (s : State) (e : Nat) (x : Ep) : (State.setEp s e x).ic = s.ic := rfl
@[simp] theorem State.setEp_kb (s : State) (e : Nat) (x : Ep) : (State.setEp s e x).kb = s.kb := rfl
@[simp] theorem State.setEp_pn (s : State) (e : Nat) (x : Ep) : (State.setEp s e x).pn = s.pn := rfl
@[simp] theorem State.setEp_can (s : State) (e : Nat) (x : Ep) : (State.setEp s e x).can = s.can := rfl
@[simp] theorem State.setEp_sw (s : State) (e : Nat) (x : Ep) : (State.setEp s e x).sw = s.sw := rfl
@[simp] theorem State.setEp_ptp (s : State) (e : Nat) (x : Ep) : (State.setEp s e x).ptp = s.ptp := rfl
@[simp] theorem State.setEp_nm (s : State) (e : Nat) (x : Ep) : (State.setEp s e x).nm = s.nm := rfl
@[simp] theorem State.setEp_sf (s : State) (e : Nat) (x : Ep) : (State.setEp s e x).sf = s.sf := rfl
@[simp] theorem State.setEp_cp (s : State) (e : Nat) (x : Ep) : (State.setEp s e x).cp = s.cp := rfl
@[simp] theorem State.setEp_otp (s : State) (e : Nat) (x : Ep) : (State.setEp s e x).otp = s.otp := rfl
@[simp] theorem State.setEp_ks (s : State) (e : Nat) (x : Ep) : (State.setEp s e x).ks = s.ks := rfl
@[simp] theorem State.setEp_up (s : State) (e : Nat) (x : Ep) : (State.setEp s e x).up = s.up := rfl
@[simp] theorem State.setEp_ux (s : State) (e : Nat) (x : Ep) : (State.setEp s e x).ux = s.ux := rfl
@[simp] theorem State.setEp_reg (s : State) (e : Nat) (x : Ep) (r : Nat) : (State.setEp s e x).reg r = s.reg r := rfl
@[simp] theorem State.setEp_rd (s : State) (e : Nat) (x : Ep) (g : Fld) : (State.setEp s e x).rd g = s.rd g := rfl
@[simp] theorem State.setEp_flag (s : State) (e : Nat) (x : Ep) (g : Fld) : (State.setEp s e x).flag g = s.flag g := rfl
@[simp] theorem State.setEp_byte (s : State) (e : Nat) (x : Ep) (r : Nat) : (State.setEp s e x).byte r = s.byte r := rfl
@[simp] theorem State.setEp_epAt_same (s : State) (e : Nat) (x : Ep) : (State.setEp s e x).epAt e = x := tget_tset_same _ _ _ _
theorem State.setEp_epAt_ne (s : State) (e : Nat) (x : Ep) (j : Nat) (h : j ≠ e) : (State.setEp s e x).epAt j = s.epAt j := tget_tset_ne _ _ _ _ _ h

/-! ### setSrc -/

@[simp] theorem State.setSrc_pending (s : State) (n : Nat) (x : Src) : (State.setSrc s n x).pending = s.pending := rfl
@[simp] theorem State.setSrc_dev (s : State) (n : Nat) (x : Src) : (State.setSrc s n x).dev = s.dev := rfl
@[simp] theorem State.setSrc_now (s : State) (n : Nat) (x : Src) : (State.setSrc s n x).now = s.now := rfl
@[simp] theorem State.setSrc_vt (s : State) (n : Nat) (x : Src) : (State.setSrc s n x).vt = s.vt := rfl
@[simp] theorem State.setSrc_regs (s : State) (n : Nat) (x : Src) : (State.setSrc s n x).regs = s.regs := rfl
@[simp] theorem State.setSrc_mem (s : State) (n : Nat) (x : Src) : (State.setSrc s n x).mem = s.mem := rfl
@[simp] theorem State.setSrc_resp (s : State) (n : Nat) (x : Src) : (State.setSrc s n x).resp = s.resp := rfl
@[simp] theorem State.setSrc_fresh (s : State) (n : Nat) (x : Src) : (State.setSrc s n x).fresh = s.fresh := rfl
@[simp] theorem State.setSrc_shadows (s : State) (n : Nat) (x : Src) : (State.setSrc s n x).shadows = s.shadows := rfl
@[simp] theorem State.setSrc_plan (s : State) (n : Nat) (x : Src) : (State.setSrc s n x).plan = s.plan := rfl
@[simp] theorem State.setSrc_ao (s : State) (n : Nat) (x : Src) : (State.setSrc s n x).ao = s.ao := rfl
@[simp] theorem State.setSrc_ep (s : State) (n : Nat) (x : Src) : (State.setSrc s n x).ep = s.ep := rfl
@[simp] theorem State.setSrc_wg (s : State) (n : Nat) (x : Src) : (State.setSrc s n x).wg = s.wg := rfl
@[simp] theorem State.setSrc_kb (s : State) (n : Nat) (x : Src) : (State.setSrc s n x).kb = s.kb := rfl
@[simp] theorem State.setSrc_pn (s : State) (n : Nat) (x : Src) : (State.setSrc s n x).pn = s.pn := rfl
@[simp] theorem State.setSrc_can (s : State) (n : Nat) (x : Src) : (State.setSrc s n x).can = s.can := rfl
@[simp] theorem State.setSrc_sw (s : State) (n : Nat) (x : Src) : (State.setSrc s n x).sw = s.sw := rfl
@[simp] theorem State.setSrc_ptp (s : State) (n : Nat) (x : Src) : (State.setSrc s n x).ptp = s.ptp := rfl
@[simp] theorem State.setSrc_nm (s : State) (n : Nat) (x : Src) : (State.setSrc s n x).nm = s.nm := rfl
@[simp] theorem State.setSrc_sf (s : State) (n : Nat) (x : Src) : (State.setSrc s n x).sf = s.sf := rfl
@[simp] theorem State.setSrc_cp (s : State) (n : Nat) (x : Src) : (State.setSrc s n x).cp = s.cp := rfl
@[simp] theorem State.setSrc_otp (s : State) (n : Nat) (x : Src) : (State.setSrc s n x).otp = s.otp := rfl
@[simp] theorem State.setSrc_ks (s : State) (n : Nat) (x : Src) : (State.setSrc s n x).ks = s.ks := rfl
@[simp] theorem State.setSrc_up (s : State) (n : Nat) (x : Src) : (State.setSrc s n x).up = s.up := rfl
@[simp] theorem State.setSrc_ux (s : State) (n : Nat) (x : Src) : (State.setSrc s n x).ux = s.ux := rfl
@[simp] theorem State.setSrc_reg (s : State) (n : Nat) (x : Src) (r : Nat) : (State.setSrc s n x).reg r = s.reg r := rfl
@[simp] theorem State.setSrc_rd (s : State) (n : Nat) (x : Src) (g : Fld) : (State.setSrc s n x).rd g = s.rd g := rfl
@[simp] theorem State.setSrc_flag (s : State) (n : Nat) (x : Src) (g : Fld) : (State.setSrc s n x).flag g = s.flag g := rfl
@[simp] theorem State.setSrc_byte (s : State) (n : Nat) (x : Src) (r : Nat) : (State.setSrc s n x).byte r = s.byte r := rfl
@[simp] theorem State.setSrc_src_same (s : State) (n : Nat) (x : Src) : (State.setSrc s n x).src n = x := tget_tset_same _ _ _ _
theorem State.setSrc_src_ne (s : State) (n : Nat) (x : Src) (j : Nat) (h : j ≠ n) : (State.setSrc s n x).src j = s.src j := tget_tset_ne _ _ _ _ _ h
@[simp] theorem State.setSrc_tgt (s : State) (n : Nat) (x : Src) (j : Nat) : (State.setSrc s n x).tgt j = s.tgt j := rfl

/-! ### setTgt -/

@[simp] theorem State.setTgt_pending (s : State) (n : Nat) (x : Tgt) : (State.setTgt s n x).pending = s.pending := rfl
@[simp] theorem State.setTgt_dev (s : State) (n : Nat) (x : Tgt) : (State.setTgt s n x).dev = s.dev := rfl
@[simp] theorem State.setTgt_now (s : State) (n : Nat) (x : Tgt) : (State.setTgt s n x).now = s.now := rfl
@[simp] theorem State.setTgt_vt (s : State) (n : Nat) (x : Tgt) : (State.setTgt s n x).vt = s.vt := rfl
@[simp] theorem State.setTgt_regs (s : State) (n : Nat) (x : Tgt) : (State.setTgt s n x).regs = s.regs := rfl
@[simp] theorem State.setTgt_mem (s : State) (n : Nat) (x : Tgt) : (State.setTgt s n x).mem = s.mem := rfl
@[simp] theorem State.setTgt_resp (s : State) (n : Nat) (x : Tgt) : (State.setTgt s n x).resp = s.resp := rfl
@[simp] theorem State.setTgt_fresh (s : State) (n : Nat) (x : Tgt) : (State.setTgt s n x).fresh = s.fresh := rfl
@[simp] theorem State.setTgt_shadows (s : State) (n : Nat) (x : Tgt) : (State.setTgt s n x).shadows = s.shadows := rfl
@[simp] theorem State.setTgt_plan (s : State) (n : Nat) (x : Tgt) : (State.setTgt s n x).plan = s.plan := rfl
@[simp] theorem State.setTgt_ao (s : State) (n : Nat) (x : Tgt) : (State.setTgt s n x).ao = s.ao := rfl
@[simp] theorem State.setTgt_ep (s : State) (n : Nat) (x : Tgt) : (State.setTgt s n x).ep = s.ep := rfl
@[simp] theorem State.setTgt_wg (s : State) (n : Nat) (x : Tgt) : (State.setTgt s n x).wg = s.wg := rfl
@[simp] theorem State.setTgt_kb (s : State) (n : Nat) (x : Tgt) : (State.setTgt s n x).kb = s.kb := rfl
@[simp] theorem State.setTgt_pn (s : State) (n : Nat) (x : Tgt) : (State.setTgt s n x).pn = s.pn := rfl
@[simp] theorem State.setTgt_can (s : State) (n : Nat) (x : Tgt) : (State.setTgt s n x).can = s.can := rfl
@[simp] theorem State.setTgt_sw (s : State) (n : Nat) (x : Tgt) : (State.setTgt s n x).sw = s.sw := rfl
@[simp] theorem State.setTgt_ptp (s : State) (n : Nat) (x : Tgt) : (State.setTgt s n x).ptp = s.ptp := rfl
@[simp] theorem State.setTgt_nm (s : State) (n : Nat) (x : Tgt) : (State.setTgt s n x).nm = s.nm := rfl
@[simp] theorem State.setTgt_sf (s : State) (n : Nat) (x : Tgt) : (State.setTgt s n x).sf = s.sf := rfl
@[simp] theorem State.setTgt_cp (s : State) (n : Nat) (x : Tgt) : (State.setTgt s n x).cp = s.cp := rfl
@[simp] theorem State.setTgt_otp (s : State) (n : Nat) (x : Tgt) : (State.setTgt s n x).otp = s.otp := rfl
@[simp] theorem State.setTgt_ks (s : State) (n : Nat) (x : Tgt) : (State.setTgt s n x).ks = s.ks := rfl
@[simp] theorem State.setTgt_up (s : State) (n : Nat) (x : Tgt) : (State.setTgt s n x).up = s.up := rfl
@[simp] theorem State.setTgt_ux (s : State) (n : Nat) (x : Tgt) : (State.setTgt s n x).ux = s.ux := rfl
@[simp] theorem State.setTgt_reg (s : State) (n : Nat) (x : Tgt) (r : Nat) : (State.setTgt s n x).reg r = s.reg r := rfl
@[simp] theorem State.setTgt_rd (s : State) (n : Nat) (x : Tgt) (g : Fld) : (State.setTgt s n x).rd g = s.rd g := rfl
@[simp] theorem State.setTgt_flag (s : State) (n : Nat) (x : Tgt) (g : Fld) : (State.setTgt s n x).flag g = s.flag g := rfl
@[simp] theorem State.setTgt_byte (s : State) (n : Nat) (x : Tgt) (r : Nat) : (State.setTgt s n x).byte r = s.byte r := rfl
@[simp] theorem State.setTgt_tgt_same (s : State) (n : Nat) (x : Tgt) : (State.setTgt s n x).tgt n = x := tget_tset_same _ _ _ _
theorem State.setTgt_tgt_ne (s : State) (n : Nat) (x : Tgt) (j : Nat) (h : j ≠ n) : (State.setTgt s n x).tgt j = s.tgt j := tget_tset_ne _ _ _ _ _ h
@[simp] theorem State.setTgt_src (s : State) (n : Nat) (x : Tgt) (j : Nat) : (State.setTgt s n x).src j = s.src j := rfl

/-! ### setHart -/

@[simp] theorem State.setHart_pending (s : State) (n : Nat) (x : Hart) : (State.setHart s n x).pending = s.pending := rfl
@[simp] theorem State.setHart_dev (s : State) (n : Nat) (x : Hart) : (State.setHart s n x).dev = s.dev := rfl
@[simp] theorem State.setHart_now (s : State) (n : Nat) (x : Hart) : (State.setHart s n x).now = s.now := rfl
@[simp] theorem State.setHart_vt (s : State) (n : Nat) (x : Hart) : (State.setHart s n x).vt = s.vt := rfl
@[simp] theorem State.setHart_regs (s : State) (n : Nat) (x : Hart) : (State.setHart s n x).regs = s.regs := rfl
@[simp] theorem State.setHart_mem (s : State) (n : Nat) (x : Hart) : (State.setHart s n x).mem = s.mem := rfl
@[simp] theorem State.setHart_resp (s : State) (n : Nat) (x : Hart) : (State.setHart s n x).resp = s.resp := rfl
@[simp] theorem State.setHart_fresh (s : State) (n : Nat) (x : Hart) : (State.setHart s n x).fresh = s.fresh := rfl
@[simp] theorem State.setHart_shadows (s : State) (n : Nat) (x : Hart) : (State.setHart s n x).shadows = s.shadows := rfl
@[simp] theorem State.setHart_plan (s : State) (n : Nat) (x : Hart) : (State.setHart s n x).plan = s.plan := rfl
@[simp] theorem State.setHart_ao (s : State) (n : Nat) (x : Hart) : (State.setHart s n x).ao = s.ao := rfl
@[simp] theorem State.setHart_ep (s : State) (n : Nat) (x : Hart) : (State.setHart s n x).ep = s.ep := rfl
@[simp] theorem State.setHart_ic (s : State) (n : Nat) (x : Hart) : (State.setHart s n x).ic = s.ic := rfl
@[simp] theorem State.setHart_kb (s : State) (n : Nat) (x : Hart) : (State.setHart s n x).kb = s.kb := rfl
@[simp] theorem State.setHart_pn (s : State) (n : Nat) (x : Hart) : (State.setHart s n x).pn = s.pn := rfl
@[simp] theorem State.setHart_can (s : State) (n : Nat) (x : Hart) : (State.setHart s n x).can = s.can := rfl
@[simp] theorem State.setHart_sw (s : State) (n : Nat) (x : Hart) : (State.setHart s n x).sw = s.sw := rfl
@[simp] theorem State.setHart_ptp (s : State) (n : Nat) (x : Hart) : (State.setHart s n x).ptp = s.ptp := rfl
@[simp] theorem State.setHart_nm (s : State) (n : Nat) (x : Hart) : (State.setHart s n x).nm = s.nm := rfl
@[simp] theorem State.setHart_sf (s : State) (n : Nat) (x : Hart) : (State.setHart s n x).sf = s.sf := rfl
@[simp] theorem State.setHart_cp (s : State) (n : Nat) (x : Hart) : (State.setHart s n x).cp = s.cp := rfl
@[simp] theorem State.setHart_otp (s : State) (n : Nat) (x : Hart) : (State.setHart s n x).otp = s.otp := rfl
@[simp] theorem State.setHart_ks (s : State) (n : Nat) (x : Hart) : (State.setHart s n x).ks = s.ks := rfl
@[simp] theorem State.setHart_up (s : State) (n : Nat) (x : Hart) : (State.setHart s n x).up = s.up := rfl
@[simp] theorem State.setHart_ux (s : State) (n : Nat) (x : Hart) : (State.setHart s n x).ux = s.ux := rfl
@[simp] theorem State.setHart_reg (s : State) (n : Nat) (x : Hart) (r : Nat) : (State.setHart s n x).reg r = s.reg r := rfl
@[simp] theorem State.setHart_rd (s : State) (n : Nat) (x : Hart) (g : Fld) : (State.setHart s n x).rd g = s.rd g := rfl
@[simp] theorem State.setHart_flag (s : State) (n : Nat) (x : Hart) (g : Fld) : (State.setHart s n x).flag g = s.flag g := rfl
@[simp] theorem State.setHart_byte (s : State) (n : Nat) (x : Hart) (r : Nat) : (State.setHart s n x).byte r = s.byte r := rfl
@[simp] theorem State.setHart_hart_same (s : State) (n : Nat) (x : Hart) : (State.setHart s n x).hart n = x := tget_tset_same _ _ _ _
theorem State.setHart_hart_ne (s : State) (n : Nat) (x : Hart) (j : Nat) (h : j ≠ n) : (State.setHart s n x).hart j = s.hart j := tget_tset_ne _ _ _ _ _ h

/-! ### setPair -/

@[simp] theorem State.setPair_pending (s : State) (n : Nat) (x : PairSt) : (State.setPair s n x).pending = s.pending := rfl
@[simp] theorem State.setPair_dev (s : State) (n : Nat) (x : PairSt) : (State.setPair s n x).dev = s.dev := rfl
@[simp] theorem State.setPair_now (s : State) (n : Nat) (x : PairSt) : (State.setPair s n x).now = s.now := rfl
@[simp] theorem State.setPair_vt (s : State) (n : Nat) (x : PairSt) : (State.setPair s n x).vt = s.vt := rfl
@[simp] theorem State.setPair_regs (s : State) (n : Nat) (x : PairSt) : (State.setPair s n x).regs = s.regs := rfl
@[simp] theorem State.setPair_mem (s : State) (n : Nat) (x : PairSt) : (State.setPair s n x).mem = s.mem := rfl
@[simp] theorem State.setPair_resp (s : State) (n : Nat) (x : PairSt) : (State.setPair s n x).resp = s.resp := rfl
@[simp] theorem State.setPair_fresh (s : State) (n : Nat) (x : PairSt) : (State.setPair s n x).fresh = s.fresh := rfl
@[simp] theorem State.setPair_shadows (s : State) (n : Nat) (x : PairSt) : (State.setPair s n x).shadows = s.shadows := rfl
@[simp] theorem State.setPair_plan (s : State) (n : Nat) (x : PairSt) : (State.setPair s n x).plan = s.plan := rfl
@[simp] theorem State.setPair_ao (s : State) (n : Nat) (x : PairSt) : (State.setPair s n x).ao = s.ao := rfl
@[simp] theorem State.setPair_ep (s : State) (n : Nat) (x : PairSt) : (State.setPair s n x).ep = s.ep := rfl
@[simp] theorem State.setPair_wg (s : State) (n : Nat) (x : PairSt) : (State.setPair s n x).wg = s.wg := rfl
@[simp] theorem State.setPair_ic (s : State) (n : Nat) (x : PairSt) : (State.setPair s n x).ic = s.ic := rfl
@[simp] theorem State.setPair_kb (s : State) (n : Nat) (x : PairSt) : (State.setPair s n x).kb = s.kb := rfl
@[simp] theorem State.setPair_pn (s : State) (n : Nat) (x : PairSt) : (State.setPair s n x).pn = s.pn := rfl
@[simp] theorem State.setPair_can (s : State) (n : Nat) (x : PairSt) : (State.setPair s n x).can = s.can := rfl
@[simp] theorem State.setPair_sw (s : State) (n : Nat) (x : PairSt) : (State.setPair s n x).sw = s.sw := rfl
@[simp] theorem State.setPair_ptp (s : State) (n : Nat) (x : PairSt) : (State.setPair s n x).ptp = s.ptp := rfl
@[simp] theorem State.setPair_nm (s : State) (n : Nat) (x : PairSt) : (State.setPair s n x).nm = s.nm := rfl
@[simp] theorem State.setPair_sf (s : State) (n : Nat) (x : PairSt) : (State.setPair s n x).sf = s.sf := rfl
@[simp] theorem State.setPair_otp (s : State) (n : Nat) (x : PairSt) : (State.setPair s n x).otp = s.otp := rfl
@[simp] theorem State.setPair_ks (s : State) (n : Nat) (x : PairSt) : (State.setPair s n x).ks = s.ks := rfl
@[simp] theorem State.setPair_up (s : State) (n : Nat) (x : PairSt) : (State.setPair s n x).up = s.up := rfl
@[simp] theorem State.setPair_ux (s : State) (n : Nat) (x : PairSt) : (State.setPair s n x).ux = s.ux := rfl
@[simp] theorem State.setPair_reg (s : State) (n : Nat) (x : PairSt) (r : Nat) : (State.setPair s n x).reg r = s.reg r := rfl
@[simp] theorem State.setPair_rd (s : State) (n : Nat) (x : PairSt) (g : Fld) : (State.setPair s n x).rd g = s.rd g := rfl
@[simp] theorem State.setPair_flag (s : State) (n : Nat) (x : PairSt) (g : Fld) : (State.setPair s n x).flag g = s.flag g := rfl
@[simp] theorem State.setPair_byte (s : State) (n : Nat) (x : PairSt) (r : Nat) : (State.setPair s n x).byte r = s.byte r := rfl
@[simp] theorem State.setPair_pair_same (s : State) (n : Nat) (x : PairSt) : (State.setPair s n x).pair n = x := tget_tset_same _ _ _ _
theorem State.setPair_pair_ne (s : State) (n : Nat) (x : PairSt) (j : Nat) (h : j ≠ n) : (State.setPair s n x).pair j = s.pair j := tget_tset_ne _ _ _ _ _ h

/-! ### setSlot -/

@[simp] theorem State.setSlot_pending (s : State) (n : Nat) (x : KeySlot) : (State.setSlot s n x).pending = s.pending := rfl
@[simp] theorem State.setSlot_dev (s : State) (n : Nat) (x : KeySlot) : (State.setSlot s n x).dev = s.dev := rfl
@[simp] theorem State.setSlot_now (s : State) (n : Nat) (x : KeySlot) : (State.setSlot s n x).now = s.now := rfl
@[simp] theorem State.setSlot_vt (s : State) (n : Nat) (x : KeySlot) : (State.setSlot s n x).vt = s.vt := rfl
@[simp] theorem State.setSlot_regs (s : State) (n : Nat) (x : KeySlot) : (State.setSlot s n x).regs = s.regs := rfl
@[simp] theorem State.setSlot_mem (s : State) (n : Nat) (x : KeySlot) : (State.setSlot s n x).mem = s.mem := rfl
@[simp] theorem State.setSlot_resp (s : State) (n : Nat) (x : KeySlot) : (State.setSlot s n x).resp = s.resp := rfl
@[simp] theorem State.setSlot_fresh (s : State) (n : Nat) (x : KeySlot) : (State.setSlot s n x).fresh = s.fresh := rfl
@[simp] theorem State.setSlot_shadows (s : State) (n : Nat) (x : KeySlot) : (State.setSlot s n x).shadows = s.shadows := rfl
@[simp] theorem State.setSlot_plan (s : State) (n : Nat) (x : KeySlot) : (State.setSlot s n x).plan = s.plan := rfl
@[simp] theorem State.setSlot_ao (s : State) (n : Nat) (x : KeySlot) : (State.setSlot s n x).ao = s.ao := rfl
@[simp] theorem State.setSlot_ep (s : State) (n : Nat) (x : KeySlot) : (State.setSlot s n x).ep = s.ep := rfl
@[simp] theorem State.setSlot_wg (s : State) (n : Nat) (x : KeySlot) : (State.setSlot s n x).wg = s.wg := rfl
@[simp] theorem State.setSlot_ic (s : State) (n : Nat) (x : KeySlot) : (State.setSlot s n x).ic = s.ic := rfl
@[simp] theorem State.setSlot_kb (s : State) (n : Nat) (x : KeySlot) : (State.setSlot s n x).kb = s.kb := rfl
@[simp] theorem State.setSlot_pn (s : State) (n : Nat) (x : KeySlot) : (State.setSlot s n x).pn = s.pn := rfl
@[simp] theorem State.setSlot_can (s : State) (n : Nat) (x : KeySlot) : (State.setSlot s n x).can = s.can := rfl
@[simp] theorem State.setSlot_sw (s : State) (n : Nat) (x : KeySlot) : (State.setSlot s n x).sw = s.sw := rfl
@[simp] theorem State.setSlot_ptp (s : State) (n : Nat) (x : KeySlot) : (State.setSlot s n x).ptp = s.ptp := rfl
@[simp] theorem State.setSlot_nm (s : State) (n : Nat) (x : KeySlot) : (State.setSlot s n x).nm = s.nm := rfl
@[simp] theorem State.setSlot_sf (s : State) (n : Nat) (x : KeySlot) : (State.setSlot s n x).sf = s.sf := rfl
@[simp] theorem State.setSlot_cp (s : State) (n : Nat) (x : KeySlot) : (State.setSlot s n x).cp = s.cp := rfl
@[simp] theorem State.setSlot_otp (s : State) (n : Nat) (x : KeySlot) : (State.setSlot s n x).otp = s.otp := rfl
@[simp] theorem State.setSlot_up (s : State) (n : Nat) (x : KeySlot) : (State.setSlot s n x).up = s.up := rfl
@[simp] theorem State.setSlot_ux (s : State) (n : Nat) (x : KeySlot) : (State.setSlot s n x).ux = s.ux := rfl
@[simp] theorem State.setSlot_reg (s : State) (n : Nat) (x : KeySlot) (r : Nat) : (State.setSlot s n x).reg r = s.reg r := rfl
@[simp] theorem State.setSlot_rd (s : State) (n : Nat) (x : KeySlot) (g : Fld) : (State.setSlot s n x).rd g = s.rd g := rfl
@[simp] theorem State.setSlot_flag (s : State) (n : Nat) (x : KeySlot) (g : Fld) : (State.setSlot s n x).flag g = s.flag g := rfl
@[simp] theorem State.setSlot_byte (s : State) (n : Nat) (x : KeySlot) (r : Nat) : (State.setSlot s n x).byte r = s.byte r := rfl
@[simp] theorem State.setSlot_slot_same (s : State) (n : Nat) (x : KeySlot) : (State.setSlot s n x).slot n = x := tget_tset_same _ _ _ _
theorem State.setSlot_slot_ne (s : State) (n : Nat) (x : KeySlot) (j : Nat) (h : j ≠ n) : (State.setSlot s n x).slot j = s.slot j := tget_tset_ne _ _ _ _ _ h

/-! ### setChan -/

@[simp] theorem State.setChan_pending (s : State) (n : Nat) (x : Chan) : (State.setChan s n x).pending = s.pending := rfl
@[simp] theorem State.setChan_dev (s : State) (n : Nat) (x : Chan) : (State.setChan s n x).dev = s.dev := rfl
@[simp] theorem State.setChan_now (s : State) (n : Nat) (x : Chan) : (State.setChan s n x).now = s.now := rfl
@[simp] theorem State.setChan_vt (s : State) (n : Nat) (x : Chan) : (State.setChan s n x).vt = s.vt := rfl
@[simp] theorem State.setChan_regs (s : State) (n : Nat) (x : Chan) : (State.setChan s n x).regs = s.regs := rfl
@[simp] theorem State.setChan_mem (s : State) (n : Nat) (x : Chan) : (State.setChan s n x).mem = s.mem := rfl
@[simp] theorem State.setChan_resp (s : State) (n : Nat) (x : Chan) : (State.setChan s n x).resp = s.resp := rfl
@[simp] theorem State.setChan_fresh (s : State) (n : Nat) (x : Chan) : (State.setChan s n x).fresh = s.fresh := rfl
@[simp] theorem State.setChan_shadows (s : State) (n : Nat) (x : Chan) : (State.setChan s n x).shadows = s.shadows := rfl
@[simp] theorem State.setChan_plan (s : State) (n : Nat) (x : Chan) : (State.setChan s n x).plan = s.plan := rfl
@[simp] theorem State.setChan_ao (s : State) (n : Nat) (x : Chan) : (State.setChan s n x).ao = s.ao := rfl
@[simp] theorem State.setChan_ep (s : State) (n : Nat) (x : Chan) : (State.setChan s n x).ep = s.ep := rfl
@[simp] theorem State.setChan_wg (s : State) (n : Nat) (x : Chan) : (State.setChan s n x).wg = s.wg := rfl
@[simp] theorem State.setChan_ic (s : State) (n : Nat) (x : Chan) : (State.setChan s n x).ic = s.ic := rfl
@[simp] theorem State.setChan_pn (s : State) (n : Nat) (x : Chan) : (State.setChan s n x).pn = s.pn := rfl
@[simp] theorem State.setChan_can (s : State) (n : Nat) (x : Chan) : (State.setChan s n x).can = s.can := rfl
@[simp] theorem State.setChan_sw (s : State) (n : Nat) (x : Chan) : (State.setChan s n x).sw = s.sw := rfl
@[simp] theorem State.setChan_ptp (s : State) (n : Nat) (x : Chan) : (State.setChan s n x).ptp = s.ptp := rfl
@[simp] theorem State.setChan_nm (s : State) (n : Nat) (x : Chan) : (State.setChan s n x).nm = s.nm := rfl
@[simp] theorem State.setChan_sf (s : State) (n : Nat) (x : Chan) : (State.setChan s n x).sf = s.sf := rfl
@[simp] theorem State.setChan_cp (s : State) (n : Nat) (x : Chan) : (State.setChan s n x).cp = s.cp := rfl
@[simp] theorem State.setChan_otp (s : State) (n : Nat) (x : Chan) : (State.setChan s n x).otp = s.otp := rfl
@[simp] theorem State.setChan_ks (s : State) (n : Nat) (x : Chan) : (State.setChan s n x).ks = s.ks := rfl
@[simp] theorem State.setChan_up (s : State) (n : Nat) (x : Chan) : (State.setChan s n x).up = s.up := rfl
@[simp] theorem State.setChan_ux (s : State) (n : Nat) (x : Chan) : (State.setChan s n x).ux = s.ux := rfl
@[simp] theorem State.setChan_reg (s : State) (n : Nat) (x : Chan) (r : Nat) : (State.setChan s n x).reg r = s.reg r := rfl
@[simp] theorem State.setChan_rd (s : State) (n : Nat) (x : Chan) (g : Fld) : (State.setChan s n x).rd g = s.rd g := rfl
@[simp] theorem State.setChan_flag (s : State) (n : Nat) (x : Chan) (g : Fld) : (State.setChan s n x).flag g = s.flag g := rfl
@[simp] theorem State.setChan_byte (s : State) (n : Nat) (x : Chan) (r : Nat) : (State.setChan s n x).byte r = s.byte r := rfl
@[simp] theorem State.setChan_chan_same (s : State) (n : Nat) (x : Chan) : (State.setChan s n x).chan n = x := tget_tset_same _ _ _ _
theorem State.setChan_chan_ne (s : State) (n : Nat) (x : Chan) (j : Nat) (h : j ≠ n) : (State.setChan s n x).chan j = s.chan j := tget_tset_ne _ _ _ _ _ h

/-! ### setFeed -/

@[simp] theorem State.setFeed_pending (s : State) (n : Nat) (x : Feed) : (State.setFeed s n x).pending = s.pending := rfl
@[simp] theorem State.setFeed_dev (s : State) (n : Nat) (x : Feed) : (State.setFeed s n x).dev = s.dev := rfl
@[simp] theorem State.setFeed_now (s : State) (n : Nat) (x : Feed) : (State.setFeed s n x).now = s.now := rfl
@[simp] theorem State.setFeed_vt (s : State) (n : Nat) (x : Feed) : (State.setFeed s n x).vt = s.vt := rfl
@[simp] theorem State.setFeed_regs (s : State) (n : Nat) (x : Feed) : (State.setFeed s n x).regs = s.regs := rfl
@[simp] theorem State.setFeed_mem (s : State) (n : Nat) (x : Feed) : (State.setFeed s n x).mem = s.mem := rfl
@[simp] theorem State.setFeed_resp (s : State) (n : Nat) (x : Feed) : (State.setFeed s n x).resp = s.resp := rfl
@[simp] theorem State.setFeed_fresh (s : State) (n : Nat) (x : Feed) : (State.setFeed s n x).fresh = s.fresh := rfl
@[simp] theorem State.setFeed_shadows (s : State) (n : Nat) (x : Feed) : (State.setFeed s n x).shadows = s.shadows := rfl
@[simp] theorem State.setFeed_plan (s : State) (n : Nat) (x : Feed) : (State.setFeed s n x).plan = s.plan := rfl
@[simp] theorem State.setFeed_ao (s : State) (n : Nat) (x : Feed) : (State.setFeed s n x).ao = s.ao := rfl
@[simp] theorem State.setFeed_ep (s : State) (n : Nat) (x : Feed) : (State.setFeed s n x).ep = s.ep := rfl
@[simp] theorem State.setFeed_wg (s : State) (n : Nat) (x : Feed) : (State.setFeed s n x).wg = s.wg := rfl
@[simp] theorem State.setFeed_ic (s : State) (n : Nat) (x : Feed) : (State.setFeed s n x).ic = s.ic := rfl
@[simp] theorem State.setFeed_pn (s : State) (n : Nat) (x : Feed) : (State.setFeed s n x).pn = s.pn := rfl
@[simp] theorem State.setFeed_can (s : State) (n : Nat) (x : Feed) : (State.setFeed s n x).can = s.can := rfl
@[simp] theorem State.setFeed_sw (s : State) (n : Nat) (x : Feed) : (State.setFeed s n x).sw = s.sw := rfl
@[simp] theorem State.setFeed_ptp (s : State) (n : Nat) (x : Feed) : (State.setFeed s n x).ptp = s.ptp := rfl
@[simp] theorem State.setFeed_nm (s : State) (n : Nat) (x : Feed) : (State.setFeed s n x).nm = s.nm := rfl
@[simp] theorem State.setFeed_sf (s : State) (n : Nat) (x : Feed) : (State.setFeed s n x).sf = s.sf := rfl
@[simp] theorem State.setFeed_cp (s : State) (n : Nat) (x : Feed) : (State.setFeed s n x).cp = s.cp := rfl
@[simp] theorem State.setFeed_otp (s : State) (n : Nat) (x : Feed) : (State.setFeed s n x).otp = s.otp := rfl
@[simp] theorem State.setFeed_ks (s : State) (n : Nat) (x : Feed) : (State.setFeed s n x).ks = s.ks := rfl
@[simp] theorem State.setFeed_up (s : State) (n : Nat) (x : Feed) : (State.setFeed s n x).up = s.up := rfl
@[simp] theorem State.setFeed_ux (s : State) (n : Nat) (x : Feed) : (State.setFeed s n x).ux = s.ux := rfl
@[simp] theorem State.setFeed_reg (s : State) (n : Nat) (x : Feed) (r : Nat) : (State.setFeed s n x).reg r = s.reg r := rfl
@[simp] theorem State.setFeed_rd (s : State) (n : Nat) (x : Feed) (g : Fld) : (State.setFeed s n x).rd g = s.rd g := rfl
@[simp] theorem State.setFeed_flag (s : State) (n : Nat) (x : Feed) (g : Fld) : (State.setFeed s n x).flag g = s.flag g := rfl
@[simp] theorem State.setFeed_byte (s : State) (n : Nat) (x : Feed) (r : Nat) : (State.setFeed s n x).byte r = s.byte r := rfl

/-! ### setPin -/

@[simp] theorem State.setPin_pending (s : State) (n : Nat) (x : Pin) : (State.setPin s n x).pending = s.pending := rfl
@[simp] theorem State.setPin_dev (s : State) (n : Nat) (x : Pin) : (State.setPin s n x).dev = s.dev := rfl
@[simp] theorem State.setPin_now (s : State) (n : Nat) (x : Pin) : (State.setPin s n x).now = s.now := rfl
@[simp] theorem State.setPin_vt (s : State) (n : Nat) (x : Pin) : (State.setPin s n x).vt = s.vt := rfl
@[simp] theorem State.setPin_regs (s : State) (n : Nat) (x : Pin) : (State.setPin s n x).regs = s.regs := rfl
@[simp] theorem State.setPin_mem (s : State) (n : Nat) (x : Pin) : (State.setPin s n x).mem = s.mem := rfl
@[simp] theorem State.setPin_resp (s : State) (n : Nat) (x : Pin) : (State.setPin s n x).resp = s.resp := rfl
@[simp] theorem State.setPin_fresh (s : State) (n : Nat) (x : Pin) : (State.setPin s n x).fresh = s.fresh := rfl
@[simp] theorem State.setPin_shadows (s : State) (n : Nat) (x : Pin) : (State.setPin s n x).shadows = s.shadows := rfl
@[simp] theorem State.setPin_plan (s : State) (n : Nat) (x : Pin) : (State.setPin s n x).plan = s.plan := rfl
@[simp] theorem State.setPin_ao (s : State) (n : Nat) (x : Pin) : (State.setPin s n x).ao = s.ao := rfl
@[simp] theorem State.setPin_ep (s : State) (n : Nat) (x : Pin) : (State.setPin s n x).ep = s.ep := rfl
@[simp] theorem State.setPin_wg (s : State) (n : Nat) (x : Pin) : (State.setPin s n x).wg = s.wg := rfl
@[simp] theorem State.setPin_ic (s : State) (n : Nat) (x : Pin) : (State.setPin s n x).ic = s.ic := rfl
@[simp] theorem State.setPin_kb (s : State) (n : Nat) (x : Pin) : (State.setPin s n x).kb = s.kb := rfl
@[simp] theorem State.setPin_can (s : State) (n : Nat) (x : Pin) : (State.setPin s n x).can = s.can := rfl
@[simp] theorem State.setPin_sw (s : State) (n : Nat) (x : Pin) : (State.setPin s n x).sw = s.sw := rfl
@[simp] theorem State.setPin_ptp (s : State) (n : Nat) (x : Pin) : (State.setPin s n x).ptp = s.ptp := rfl
@[simp] theorem State.setPin_nm (s : State) (n : Nat) (x : Pin) : (State.setPin s n x).nm = s.nm := rfl
@[simp] theorem State.setPin_sf (s : State) (n : Nat) (x : Pin) : (State.setPin s n x).sf = s.sf := rfl
@[simp] theorem State.setPin_cp (s : State) (n : Nat) (x : Pin) : (State.setPin s n x).cp = s.cp := rfl
@[simp] theorem State.setPin_otp (s : State) (n : Nat) (x : Pin) : (State.setPin s n x).otp = s.otp := rfl
@[simp] theorem State.setPin_ks (s : State) (n : Nat) (x : Pin) : (State.setPin s n x).ks = s.ks := rfl
@[simp] theorem State.setPin_up (s : State) (n : Nat) (x : Pin) : (State.setPin s n x).up = s.up := rfl
@[simp] theorem State.setPin_ux (s : State) (n : Nat) (x : Pin) : (State.setPin s n x).ux = s.ux := rfl
@[simp] theorem State.setPin_reg (s : State) (n : Nat) (x : Pin) (r : Nat) : (State.setPin s n x).reg r = s.reg r := rfl
@[simp] theorem State.setPin_rd (s : State) (n : Nat) (x : Pin) (g : Fld) : (State.setPin s n x).rd g = s.rd g := rfl
@[simp] theorem State.setPin_flag (s : State) (n : Nat) (x : Pin) (g : Fld) : (State.setPin s n x).flag g = s.flag g := rfl
@[simp] theorem State.setPin_byte (s : State) (n : Nat) (x : Pin) (r : Nat) : (State.setPin s n x).byte r = s.byte r := rfl
@[simp] theorem State.setPin_pinAt_same (s : State) (n : Nat) (x : Pin) : (State.setPin s n x).pinAt n = x := tget_tset_same _ _ _ _
theorem State.setPin_pinAt_ne (s : State) (n : Nat) (x : Pin) (j : Nat) (h : j ≠ n) : (State.setPin s n x).pinAt j = s.pinAt j := tget_tset_ne _ _ _ _ _ h
@[simp] theorem State.setPin_linAt (s : State) (n : Nat) (x : Pin) (j : Nat) : (State.setPin s n x).linAt j = s.linAt j := rfl

/-! ### setLin -/

@[simp] theorem State.setLin_pending (s : State) (n : Nat) (x : Lin) : (State.setLin s n x).pending = s.pending := rfl
@[simp] theorem State.setLin_dev (s : State) (n : Nat) (x : Lin) : (State.setLin s n x).dev = s.dev := rfl
@[simp] theorem State.setLin_now (s : State) (n : Nat) (x : Lin) : (State.setLin s n x).now = s.now := rfl
@[simp] theorem State.setLin_vt (s : State) (n : Nat) (x : Lin) : (State.setLin s n x).vt = s.vt := rfl
@[simp] theorem State.setLin_regs (s : State) (n : Nat) (x : Lin) : (State.setLin s n x).regs = s.regs := rfl
@[simp] theorem State.setLin_mem (s : State) (n : Nat) (x : Lin) : (State.setLin s n x).mem = s.mem := rfl
@[simp] theorem State.setLin_resp (s : State) (n : Nat) (x : Lin) : (State.setLin s n x).resp = s.resp := rfl
@[simp] theorem State.setLin_fresh (s : State) (n : Nat) (x : Lin) : (State.setLin s n x).fresh = s.fresh := rfl
@[simp] theorem State.setLin_shadows (s : State) (n : Nat) (x : Lin) : (State.setLin s n x).shadows = s.shadows := rfl
@[simp] theorem State.setLin_plan (s : State) (n : Nat) (x : Lin) : (State.setLin s n x).plan = s.plan := rfl
@[simp] theorem State.setLin_ao (s : State) (n : Nat) (x : Lin) : (State.setLin s n x).ao = s.ao := rfl
@[simp] theorem State.setLin_ep (s : State) (n : Nat) (x : Lin) : (State.setLin s n x).ep = s.ep := rfl
@[simp] theorem State.setLin_wg (s : State) (n : Nat) (x : Lin) : (State.setLin s n x).wg = s.wg := rfl
@[simp] theorem State.setLin_ic (s : State) (n : Nat) (x : Lin) : (State.setLin s n x).ic = s.ic := rfl
@[simp] theorem State.setLin_kb (s : State) (n : Nat) (x : Lin) : (State.setLin s n x).kb = s.kb := rfl
@[simp] theorem State.setLin_can (s : State) (n : Nat) (x : Lin) : (State.setLin s n x).can = s.can := rfl
@[simp] theorem State.setLin_sw (s : State) (n : Nat) (x : Lin) : (State.setLin s n x).sw = s.sw := rfl
@[simp] theorem State.setLin_ptp (s : State) (n : Nat) (x : Lin) : (State.setLin s n x).ptp = s.ptp := rfl
@[simp] theorem State.setLin_nm (s : State) (n : Nat) (x : Lin) : (State.setLin s n x).nm = s.nm := rfl
@[simp] theorem State.setLin_sf (s : State) (n : Nat) (x : Lin) : (State.setLin s n x).sf = s.sf := rfl
@[simp] theorem State.setLin_cp (s : State) (n : Nat) (x : Lin) : (State.setLin s n x).cp = s.cp := rfl
@[simp] theorem State.setLin_otp (s : State) (n : Nat) (x : Lin) : (State.setLin s n x).otp = s.otp := rfl
@[simp] theorem State.setLin_ks (s : State) (n : Nat) (x : Lin) : (State.setLin s n x).ks = s.ks := rfl
@[simp] theorem State.setLin_up (s : State) (n : Nat) (x : Lin) : (State.setLin s n x).up = s.up := rfl
@[simp] theorem State.setLin_ux (s : State) (n : Nat) (x : Lin) : (State.setLin s n x).ux = s.ux := rfl
@[simp] theorem State.setLin_reg (s : State) (n : Nat) (x : Lin) (r : Nat) : (State.setLin s n x).reg r = s.reg r := rfl
@[simp] theorem State.setLin_rd (s : State) (n : Nat) (x : Lin) (g : Fld) : (State.setLin s n x).rd g = s.rd g := rfl
@[simp] theorem State.setLin_flag (s : State) (n : Nat) (x : Lin) (g : Fld) : (State.setLin s n x).flag g = s.flag g := rfl
@[simp] theorem State.setLin_byte (s : State) (n : Nat) (x : Lin) (r : Nat) : (State.setLin s n x).byte r = s.byte r := rfl
@[simp] theorem State.setLin_linAt_same (s : State) (n : Nat) (x : Lin) : (State.setLin s n x).linAt n = x := tget_tset_same _ _ _ _
theorem State.setLin_linAt_ne (s : State) (n : Nat) (x : Lin) (j : Nat) (h : j ≠ n) : (State.setLin s n x).linAt j = s.linAt j := tget_tset_ne _ _ _ _ _ h
@[simp] theorem State.setLin_pinAt (s : State) (n : Nat) (x : Lin) (j : Nat) : (State.setLin s n x).pinAt j = s.pinAt j := rfl

/-! ### setCan -/

@[simp] theorem State.setCan_pending (s : State) (n : Nat) (x : Can) : (State.setCan s n x).pending = s.pending := rfl
@[simp] theorem State.setCan_dev (s : State) (n : Nat) (x : Can) : (State.setCan s n x).dev = s.dev := rfl
@[simp] theorem State.setCan_now (s : State) (n : Nat) (x : Can) : (State.setCan s n x).now = s.now := rfl
@[simp] theorem State.setCan_vt (s : State) (n : Nat) (x : Can) : (State.setCan s n x).vt = s.vt := rfl
@[simp] theorem State.setCan_regs (s : State) (n : Nat) (x : Can) : (State.setCan s n x).regs = s.regs := rfl
@[simp] theorem State.setCan_mem (s : State) (n : Nat) (x : Can) : (State.setCan s n x).mem = s.mem := rfl
@[simp] theorem State.setCan_resp (s : State) (n : Nat) (x : Can) : (State.setCan s n x).resp = s.resp := rfl
@[simp] theorem State.setCan_fresh (s : State) (n : Nat) (x : Can) : (State.setCan s n x).fresh = s.fresh := rfl
@[simp] theorem State.setCan_shadows (s : State) (n : Nat) (x : Can) : (State.setCan s n x).shadows = s.shadows := rfl
@[simp] theorem State.setCan_plan (s : State) (n : Nat) (x : Can) : (State.setCan s n x).plan = s.plan := rfl
@[simp] theorem State.setCan_ao (s : State) (n : Nat) (x : Can) : (State.setCan s n x).ao = s.ao := rfl
@[simp] theorem State.setCan_ep (s : State) (n : Nat) (x : Can) : (State.setCan s n x).ep = s.ep := rfl
@[simp] theorem State.setCan_wg (s : State) (n : Nat) (x : Can) : (State.setCan s n x).wg = s.wg := rfl
@[simp] theorem State.setCan_ic (s : State) (n : Nat) (x : Can) : (State.setCan s n x).ic = s.ic := rfl
@[simp] theorem State.setCan_kb (s : State) (n : Nat) (x : Can) : (State.setCan s n x).kb = s.kb := rfl
@[simp] theorem State.setCan_pn (s : State) (n : Nat) (x : Can) : (State.setCan s n x).pn = s.pn := rfl
@[simp] theorem State.setCan_sw (s : State) (n : Nat) (x : Can) : (State.setCan s n x).sw = s.sw := rfl
@[simp] theorem State.setCan_ptp (s : State) (n : Nat) (x : Can) : (State.setCan s n x).ptp = s.ptp := rfl
@[simp] theorem State.setCan_nm (s : State) (n : Nat) (x : Can) : (State.setCan s n x).nm = s.nm := rfl
@[simp] theorem State.setCan_sf (s : State) (n : Nat) (x : Can) : (State.setCan s n x).sf = s.sf := rfl
@[simp] theorem State.setCan_cp (s : State) (n : Nat) (x : Can) : (State.setCan s n x).cp = s.cp := rfl
@[simp] theorem State.setCan_otp (s : State) (n : Nat) (x : Can) : (State.setCan s n x).otp = s.otp := rfl
@[simp] theorem State.setCan_ks (s : State) (n : Nat) (x : Can) : (State.setCan s n x).ks = s.ks := rfl
@[simp] theorem State.setCan_up (s : State) (n : Nat) (x : Can) : (State.setCan s n x).up = s.up := rfl
@[simp] theorem State.setCan_ux (s : State) (n : Nat) (x : Can) : (State.setCan s n x).ux = s.ux := rfl
@[simp] theorem State.setCan_reg (s : State) (n : Nat) (x : Can) (r : Nat) : (State.setCan s n x).reg r = s.reg r := rfl
@[simp] theorem State.setCan_rd (s : State) (n : Nat) (x : Can) (g : Fld) : (State.setCan s n x).rd g = s.rd g := rfl
@[simp] theorem State.setCan_flag (s : State) (n : Nat) (x : Can) (g : Fld) : (State.setCan s n x).flag g = s.flag g := rfl
@[simp] theorem State.setCan_byte (s : State) (n : Nat) (x : Can) (r : Nat) : (State.setCan s n x).byte r = s.byte r := rfl
@[simp] theorem State.setCan_canAt_same (s : State) (n : Nat) (x : Can) : (State.setCan s n x).canAt n = x := tget_tset_same _ _ _ _
theorem State.setCan_canAt_ne (s : State) (n : Nat) (x : Can) (j : Nat) (h : j ≠ n) : (State.setCan s n x).canAt j = s.canAt j := tget_tset_ne _ _ _ _ _ h

/-! ### setMedium -/

@[simp] theorem State.setMedium_pending (s : State) (n : Nat) (x : Medium) : (State.setMedium s n x).pending = s.pending := rfl
@[simp] theorem State.setMedium_dev (s : State) (n : Nat) (x : Medium) : (State.setMedium s n x).dev = s.dev := rfl
@[simp] theorem State.setMedium_now (s : State) (n : Nat) (x : Medium) : (State.setMedium s n x).now = s.now := rfl
@[simp] theorem State.setMedium_vt (s : State) (n : Nat) (x : Medium) : (State.setMedium s n x).vt = s.vt := rfl
@[simp] theorem State.setMedium_regs (s : State) (n : Nat) (x : Medium) : (State.setMedium s n x).regs = s.regs := rfl
@[simp] theorem State.setMedium_mem (s : State) (n : Nat) (x : Medium) : (State.setMedium s n x).mem = s.mem := rfl
@[simp] theorem State.setMedium_resp (s : State) (n : Nat) (x : Medium) : (State.setMedium s n x).resp = s.resp := rfl
@[simp] theorem State.setMedium_fresh (s : State) (n : Nat) (x : Medium) : (State.setMedium s n x).fresh = s.fresh := rfl
@[simp] theorem State.setMedium_shadows (s : State) (n : Nat) (x : Medium) : (State.setMedium s n x).shadows = s.shadows := rfl
@[simp] theorem State.setMedium_plan (s : State) (n : Nat) (x : Medium) : (State.setMedium s n x).plan = s.plan := rfl
@[simp] theorem State.setMedium_ao (s : State) (n : Nat) (x : Medium) : (State.setMedium s n x).ao = s.ao := rfl
@[simp] theorem State.setMedium_ep (s : State) (n : Nat) (x : Medium) : (State.setMedium s n x).ep = s.ep := rfl
@[simp] theorem State.setMedium_wg (s : State) (n : Nat) (x : Medium) : (State.setMedium s n x).wg = s.wg := rfl
@[simp] theorem State.setMedium_ic (s : State) (n : Nat) (x : Medium) : (State.setMedium s n x).ic = s.ic := rfl
@[simp] theorem State.setMedium_kb (s : State) (n : Nat) (x : Medium) : (State.setMedium s n x).kb = s.kb := rfl
@[simp] theorem State.setMedium_pn (s : State) (n : Nat) (x : Medium) : (State.setMedium s n x).pn = s.pn := rfl
@[simp] theorem State.setMedium_can (s : State) (n : Nat) (x : Medium) : (State.setMedium s n x).can = s.can := rfl
@[simp] theorem State.setMedium_sw (s : State) (n : Nat) (x : Medium) : (State.setMedium s n x).sw = s.sw := rfl
@[simp] theorem State.setMedium_ptp (s : State) (n : Nat) (x : Medium) : (State.setMedium s n x).ptp = s.ptp := rfl
@[simp] theorem State.setMedium_sf (s : State) (n : Nat) (x : Medium) : (State.setMedium s n x).sf = s.sf := rfl
@[simp] theorem State.setMedium_cp (s : State) (n : Nat) (x : Medium) : (State.setMedium s n x).cp = s.cp := rfl
@[simp] theorem State.setMedium_otp (s : State) (n : Nat) (x : Medium) : (State.setMedium s n x).otp = s.otp := rfl
@[simp] theorem State.setMedium_ks (s : State) (n : Nat) (x : Medium) : (State.setMedium s n x).ks = s.ks := rfl
@[simp] theorem State.setMedium_up (s : State) (n : Nat) (x : Medium) : (State.setMedium s n x).up = s.up := rfl
@[simp] theorem State.setMedium_ux (s : State) (n : Nat) (x : Medium) : (State.setMedium s n x).ux = s.ux := rfl
@[simp] theorem State.setMedium_reg (s : State) (n : Nat) (x : Medium) (r : Nat) : (State.setMedium s n x).reg r = s.reg r := rfl
@[simp] theorem State.setMedium_rd (s : State) (n : Nat) (x : Medium) (g : Fld) : (State.setMedium s n x).rd g = s.rd g := rfl
@[simp] theorem State.setMedium_flag (s : State) (n : Nat) (x : Medium) (g : Fld) : (State.setMedium s n x).flag g = s.flag g := rfl
@[simp] theorem State.setMedium_byte (s : State) (n : Nat) (x : Medium) (r : Nat) : (State.setMedium s n x).byte r = s.byte r := rfl
@[simp] theorem State.setMedium_medium_same (s : State) (n : Nat) (x : Medium) : (State.setMedium s n x).medium n = x := tget_tset_same _ _ _ _
theorem State.setMedium_medium_ne (s : State) (n : Nat) (x : Medium) (j : Nat) (h : j ≠ n) : (State.setMedium s n x).medium j = s.medium j := tget_tset_ne _ _ _ _ _ h
@[simp] theorem State.setMedium_trx (s : State) (n : Nat) (x : Medium) (j : Nat) : (State.setMedium s n x).trx j = s.trx j := rfl

/-! ### setTrx -/

@[simp] theorem State.setTrx_pending (s : State) (n : Nat) (x : Trx) : (State.setTrx s n x).pending = s.pending := rfl
@[simp] theorem State.setTrx_dev (s : State) (n : Nat) (x : Trx) : (State.setTrx s n x).dev = s.dev := rfl
@[simp] theorem State.setTrx_now (s : State) (n : Nat) (x : Trx) : (State.setTrx s n x).now = s.now := rfl
@[simp] theorem State.setTrx_vt (s : State) (n : Nat) (x : Trx) : (State.setTrx s n x).vt = s.vt := rfl
@[simp] theorem State.setTrx_regs (s : State) (n : Nat) (x : Trx) : (State.setTrx s n x).regs = s.regs := rfl
@[simp] theorem State.setTrx_mem (s : State) (n : Nat) (x : Trx) : (State.setTrx s n x).mem = s.mem := rfl
@[simp] theorem State.setTrx_resp (s : State) (n : Nat) (x : Trx) : (State.setTrx s n x).resp = s.resp := rfl
@[simp] theorem State.setTrx_fresh (s : State) (n : Nat) (x : Trx) : (State.setTrx s n x).fresh = s.fresh := rfl
@[simp] theorem State.setTrx_shadows (s : State) (n : Nat) (x : Trx) : (State.setTrx s n x).shadows = s.shadows := rfl
@[simp] theorem State.setTrx_plan (s : State) (n : Nat) (x : Trx) : (State.setTrx s n x).plan = s.plan := rfl
@[simp] theorem State.setTrx_ao (s : State) (n : Nat) (x : Trx) : (State.setTrx s n x).ao = s.ao := rfl
@[simp] theorem State.setTrx_ep (s : State) (n : Nat) (x : Trx) : (State.setTrx s n x).ep = s.ep := rfl
@[simp] theorem State.setTrx_wg (s : State) (n : Nat) (x : Trx) : (State.setTrx s n x).wg = s.wg := rfl
@[simp] theorem State.setTrx_ic (s : State) (n : Nat) (x : Trx) : (State.setTrx s n x).ic = s.ic := rfl
@[simp] theorem State.setTrx_kb (s : State) (n : Nat) (x : Trx) : (State.setTrx s n x).kb = s.kb := rfl
@[simp] theorem State.setTrx_pn (s : State) (n : Nat) (x : Trx) : (State.setTrx s n x).pn = s.pn := rfl
@[simp] theorem State.setTrx_can (s : State) (n : Nat) (x : Trx) : (State.setTrx s n x).can = s.can := rfl
@[simp] theorem State.setTrx_sw (s : State) (n : Nat) (x : Trx) : (State.setTrx s n x).sw = s.sw := rfl
@[simp] theorem State.setTrx_ptp (s : State) (n : Nat) (x : Trx) : (State.setTrx s n x).ptp = s.ptp := rfl
@[simp] theorem State.setTrx_sf (s : State) (n : Nat) (x : Trx) : (State.setTrx s n x).sf = s.sf := rfl
@[simp] theorem State.setTrx_cp (s : State) (n : Nat) (x : Trx) : (State.setTrx s n x).cp = s.cp := rfl
@[simp] theorem State.setTrx_otp (s : State) (n : Nat) (x : Trx) : (State.setTrx s n x).otp = s.otp := rfl
@[simp] theorem State.setTrx_ks (s : State) (n : Nat) (x : Trx) : (State.setTrx s n x).ks = s.ks := rfl
@[simp] theorem State.setTrx_up (s : State) (n : Nat) (x : Trx) : (State.setTrx s n x).up = s.up := rfl
@[simp] theorem State.setTrx_ux (s : State) (n : Nat) (x : Trx) : (State.setTrx s n x).ux = s.ux := rfl
@[simp] theorem State.setTrx_reg (s : State) (n : Nat) (x : Trx) (r : Nat) : (State.setTrx s n x).reg r = s.reg r := rfl
@[simp] theorem State.setTrx_rd (s : State) (n : Nat) (x : Trx) (g : Fld) : (State.setTrx s n x).rd g = s.rd g := rfl
@[simp] theorem State.setTrx_flag (s : State) (n : Nat) (x : Trx) (g : Fld) : (State.setTrx s n x).flag g = s.flag g := rfl
@[simp] theorem State.setTrx_byte (s : State) (n : Nat) (x : Trx) (r : Nat) : (State.setTrx s n x).byte r = s.byte r := rfl
@[simp] theorem State.setTrx_trx_same (s : State) (n : Nat) (x : Trx) : (State.setTrx s n x).trx n = x := tget_tset_same _ _ _ _
theorem State.setTrx_trx_ne (s : State) (n : Nat) (x : Trx) (j : Nat) (h : j ≠ n) : (State.setTrx s n x).trx j = s.trx j := tget_tset_ne _ _ _ _ _ h
@[simp] theorem State.setTrx_medium (s : State) (n : Nat) (x : Trx) (j : Nat) : (State.setTrx s n x).medium j = s.medium j := rfl

/-! ### setCam -/

@[simp] theorem State.setCam_pending (s : State) (n : Nat) (x : Cam) : (State.setCam s n x).pending = s.pending := rfl
@[simp] theorem State.setCam_dev (s : State) (n : Nat) (x : Cam) : (State.setCam s n x).dev = s.dev := rfl
@[simp] theorem State.setCam_now (s : State) (n : Nat) (x : Cam) : (State.setCam s n x).now = s.now := rfl
@[simp] theorem State.setCam_vt (s : State) (n : Nat) (x : Cam) : (State.setCam s n x).vt = s.vt := rfl
@[simp] theorem State.setCam_regs (s : State) (n : Nat) (x : Cam) : (State.setCam s n x).regs = s.regs := rfl
@[simp] theorem State.setCam_mem (s : State) (n : Nat) (x : Cam) : (State.setCam s n x).mem = s.mem := rfl
@[simp] theorem State.setCam_resp (s : State) (n : Nat) (x : Cam) : (State.setCam s n x).resp = s.resp := rfl
@[simp] theorem State.setCam_fresh (s : State) (n : Nat) (x : Cam) : (State.setCam s n x).fresh = s.fresh := rfl
@[simp] theorem State.setCam_shadows (s : State) (n : Nat) (x : Cam) : (State.setCam s n x).shadows = s.shadows := rfl
@[simp] theorem State.setCam_plan (s : State) (n : Nat) (x : Cam) : (State.setCam s n x).plan = s.plan := rfl
@[simp] theorem State.setCam_ao (s : State) (n : Nat) (x : Cam) : (State.setCam s n x).ao = s.ao := rfl
@[simp] theorem State.setCam_ep (s : State) (n : Nat) (x : Cam) : (State.setCam s n x).ep = s.ep := rfl
@[simp] theorem State.setCam_wg (s : State) (n : Nat) (x : Cam) : (State.setCam s n x).wg = s.wg := rfl
@[simp] theorem State.setCam_ic (s : State) (n : Nat) (x : Cam) : (State.setCam s n x).ic = s.ic := rfl
@[simp] theorem State.setCam_kb (s : State) (n : Nat) (x : Cam) : (State.setCam s n x).kb = s.kb := rfl
@[simp] theorem State.setCam_pn (s : State) (n : Nat) (x : Cam) : (State.setCam s n x).pn = s.pn := rfl
@[simp] theorem State.setCam_can (s : State) (n : Nat) (x : Cam) : (State.setCam s n x).can = s.can := rfl
@[simp] theorem State.setCam_sw (s : State) (n : Nat) (x : Cam) : (State.setCam s n x).sw = s.sw := rfl
@[simp] theorem State.setCam_ptp (s : State) (n : Nat) (x : Cam) : (State.setCam s n x).ptp = s.ptp := rfl
@[simp] theorem State.setCam_nm (s : State) (n : Nat) (x : Cam) : (State.setCam s n x).nm = s.nm := rfl
@[simp] theorem State.setCam_cp (s : State) (n : Nat) (x : Cam) : (State.setCam s n x).cp = s.cp := rfl
@[simp] theorem State.setCam_otp (s : State) (n : Nat) (x : Cam) : (State.setCam s n x).otp = s.otp := rfl
@[simp] theorem State.setCam_ks (s : State) (n : Nat) (x : Cam) : (State.setCam s n x).ks = s.ks := rfl
@[simp] theorem State.setCam_up (s : State) (n : Nat) (x : Cam) : (State.setCam s n x).up = s.up := rfl
@[simp] theorem State.setCam_ux (s : State) (n : Nat) (x : Cam) : (State.setCam s n x).ux = s.ux := rfl
@[simp] theorem State.setCam_reg (s : State) (n : Nat) (x : Cam) (r : Nat) : (State.setCam s n x).reg r = s.reg r := rfl
@[simp] theorem State.setCam_rd (s : State) (n : Nat) (x : Cam) (g : Fld) : (State.setCam s n x).rd g = s.rd g := rfl
@[simp] theorem State.setCam_flag (s : State) (n : Nat) (x : Cam) (g : Fld) : (State.setCam s n x).flag g = s.flag g := rfl
@[simp] theorem State.setCam_byte (s : State) (n : Nat) (x : Cam) (r : Nat) : (State.setCam s n x).byte r = s.byte r := rfl
@[simp] theorem State.setCam_camera_same (s : State) (n : Nat) (x : Cam) : (State.setCam s n x).camera n = x := tget_tset_same _ _ _ _
theorem State.setCam_camera_ne (s : State) (n : Nat) (x : Cam) (j : Nat) (h : j ≠ n) : (State.setCam s n x).camera j = s.camera j := tget_tset_ne _ _ _ _ _ h
@[simp] theorem State.setCam_view (s : State) (n : Nat) (x : Cam) (j : Nat) : (State.setCam s n x).view j = s.view j := rfl
@[simp] theorem State.setCam_plane (s : State) (n : Nat) (x : Cam) (j : Nat) : (State.setCam s n x).plane j = s.plane j := rfl
@[simp] theorem State.setCam_dsp (s : State) (n : Nat) (x : Cam) (j : Nat) : (State.setCam s n x).dsp j = s.dsp j := rfl

/-! ### setView -/

@[simp] theorem State.setView_pending (s : State) (n : Nat) (x : SView) : (State.setView s n x).pending = s.pending := rfl
@[simp] theorem State.setView_dev (s : State) (n : Nat) (x : SView) : (State.setView s n x).dev = s.dev := rfl
@[simp] theorem State.setView_now (s : State) (n : Nat) (x : SView) : (State.setView s n x).now = s.now := rfl
@[simp] theorem State.setView_vt (s : State) (n : Nat) (x : SView) : (State.setView s n x).vt = s.vt := rfl
@[simp] theorem State.setView_regs (s : State) (n : Nat) (x : SView) : (State.setView s n x).regs = s.regs := rfl
@[simp] theorem State.setView_mem (s : State) (n : Nat) (x : SView) : (State.setView s n x).mem = s.mem := rfl
@[simp] theorem State.setView_resp (s : State) (n : Nat) (x : SView) : (State.setView s n x).resp = s.resp := rfl
@[simp] theorem State.setView_fresh (s : State) (n : Nat) (x : SView) : (State.setView s n x).fresh = s.fresh := rfl
@[simp] theorem State.setView_shadows (s : State) (n : Nat) (x : SView) : (State.setView s n x).shadows = s.shadows := rfl
@[simp] theorem State.setView_plan (s : State) (n : Nat) (x : SView) : (State.setView s n x).plan = s.plan := rfl
@[simp] theorem State.setView_ao (s : State) (n : Nat) (x : SView) : (State.setView s n x).ao = s.ao := rfl
@[simp] theorem State.setView_ep (s : State) (n : Nat) (x : SView) : (State.setView s n x).ep = s.ep := rfl
@[simp] theorem State.setView_wg (s : State) (n : Nat) (x : SView) : (State.setView s n x).wg = s.wg := rfl
@[simp] theorem State.setView_ic (s : State) (n : Nat) (x : SView) : (State.setView s n x).ic = s.ic := rfl
@[simp] theorem State.setView_kb (s : State) (n : Nat) (x : SView) : (State.setView s n x).kb = s.kb := rfl
@[simp] theorem State.setView_pn (s : State) (n : Nat) (x : SView) : (State.setView s n x).pn = s.pn := rfl
@[simp] theorem State.setView_can (s : State) (n : Nat) (x : SView) : (State.setView s n x).can = s.can := rfl
@[simp] theorem State.setView_sw (s : State) (n : Nat) (x : SView) : (State.setView s n x).sw = s.sw := rfl
@[simp] theorem State.setView_ptp (s : State) (n : Nat) (x : SView) : (State.setView s n x).ptp = s.ptp := rfl
@[simp] theorem State.setView_nm (s : State) (n : Nat) (x : SView) : (State.setView s n x).nm = s.nm := rfl
@[simp] theorem State.setView_cp (s : State) (n : Nat) (x : SView) : (State.setView s n x).cp = s.cp := rfl
@[simp] theorem State.setView_otp (s : State) (n : Nat) (x : SView) : (State.setView s n x).otp = s.otp := rfl
@[simp] theorem State.setView_ks (s : State) (n : Nat) (x : SView) : (State.setView s n x).ks = s.ks := rfl
@[simp] theorem State.setView_up (s : State) (n : Nat) (x : SView) : (State.setView s n x).up = s.up := rfl
@[simp] theorem State.setView_ux (s : State) (n : Nat) (x : SView) : (State.setView s n x).ux = s.ux := rfl
@[simp] theorem State.setView_reg (s : State) (n : Nat) (x : SView) (r : Nat) : (State.setView s n x).reg r = s.reg r := rfl
@[simp] theorem State.setView_rd (s : State) (n : Nat) (x : SView) (g : Fld) : (State.setView s n x).rd g = s.rd g := rfl
@[simp] theorem State.setView_flag (s : State) (n : Nat) (x : SView) (g : Fld) : (State.setView s n x).flag g = s.flag g := rfl
@[simp] theorem State.setView_byte (s : State) (n : Nat) (x : SView) (r : Nat) : (State.setView s n x).byte r = s.byte r := rfl
@[simp] theorem State.setView_view_same (s : State) (n : Nat) (x : SView) : (State.setView s n x).view n = x := tget_tset_same _ _ _ _
theorem State.setView_view_ne (s : State) (n : Nat) (x : SView) (j : Nat) (h : j ≠ n) : (State.setView s n x).view j = s.view j := tget_tset_ne _ _ _ _ _ h
@[simp] theorem State.setView_camera (s : State) (n : Nat) (x : SView) (j : Nat) : (State.setView s n x).camera j = s.camera j := rfl
@[simp] theorem State.setView_plane (s : State) (n : Nat) (x : SView) (j : Nat) : (State.setView s n x).plane j = s.plane j := rfl
@[simp] theorem State.setView_dsp (s : State) (n : Nat) (x : SView) (j : Nat) : (State.setView s n x).dsp j = s.dsp j := rfl

/-! ### setPlane -/

@[simp] theorem State.setPlane_pending (s : State) (n : Nat) (x : Plane) : (State.setPlane s n x).pending = s.pending := rfl
@[simp] theorem State.setPlane_dev (s : State) (n : Nat) (x : Plane) : (State.setPlane s n x).dev = s.dev := rfl
@[simp] theorem State.setPlane_now (s : State) (n : Nat) (x : Plane) : (State.setPlane s n x).now = s.now := rfl
@[simp] theorem State.setPlane_vt (s : State) (n : Nat) (x : Plane) : (State.setPlane s n x).vt = s.vt := rfl
@[simp] theorem State.setPlane_regs (s : State) (n : Nat) (x : Plane) : (State.setPlane s n x).regs = s.regs := rfl
@[simp] theorem State.setPlane_mem (s : State) (n : Nat) (x : Plane) : (State.setPlane s n x).mem = s.mem := rfl
@[simp] theorem State.setPlane_resp (s : State) (n : Nat) (x : Plane) : (State.setPlane s n x).resp = s.resp := rfl
@[simp] theorem State.setPlane_fresh (s : State) (n : Nat) (x : Plane) : (State.setPlane s n x).fresh = s.fresh := rfl
@[simp] theorem State.setPlane_shadows (s : State) (n : Nat) (x : Plane) : (State.setPlane s n x).shadows = s.shadows := rfl
@[simp] theorem State.setPlane_plan (s : State) (n : Nat) (x : Plane) : (State.setPlane s n x).plan = s.plan := rfl
@[simp] theorem State.setPlane_ao (s : State) (n : Nat) (x : Plane) : (State.setPlane s n x).ao = s.ao := rfl
@[simp] theorem State.setPlane_ep (s : State) (n : Nat) (x : Plane) : (State.setPlane s n x).ep = s.ep := rfl
@[simp] theorem State.setPlane_wg (s : State) (n : Nat) (x : Plane) : (State.setPlane s n x).wg = s.wg := rfl
@[simp] theorem State.setPlane_ic (s : State) (n : Nat) (x : Plane) : (State.setPlane s n x).ic = s.ic := rfl
@[simp] theorem State.setPlane_kb (s : State) (n : Nat) (x : Plane) : (State.setPlane s n x).kb = s.kb := rfl
@[simp] theorem State.setPlane_pn (s : State) (n : Nat) (x : Plane) : (State.setPlane s n x).pn = s.pn := rfl
@[simp] theorem State.setPlane_can (s : State) (n : Nat) (x : Plane) : (State.setPlane s n x).can = s.can := rfl
@[simp] theorem State.setPlane_sw (s : State) (n : Nat) (x : Plane) : (State.setPlane s n x).sw = s.sw := rfl
@[simp] theorem State.setPlane_ptp (s : State) (n : Nat) (x : Plane) : (State.setPlane s n x).ptp = s.ptp := rfl
@[simp] theorem State.setPlane_nm (s : State) (n : Nat) (x : Plane) : (State.setPlane s n x).nm = s.nm := rfl
@[simp] theorem State.setPlane_cp (s : State) (n : Nat) (x : Plane) : (State.setPlane s n x).cp = s.cp := rfl
@[simp] theorem State.setPlane_otp (s : State) (n : Nat) (x : Plane) : (State.setPlane s n x).otp = s.otp := rfl
@[simp] theorem State.setPlane_ks (s : State) (n : Nat) (x : Plane) : (State.setPlane s n x).ks = s.ks := rfl
@[simp] theorem State.setPlane_up (s : State) (n : Nat) (x : Plane) : (State.setPlane s n x).up = s.up := rfl
@[simp] theorem State.setPlane_ux (s : State) (n : Nat) (x : Plane) : (State.setPlane s n x).ux = s.ux := rfl
@[simp] theorem State.setPlane_reg (s : State) (n : Nat) (x : Plane) (r : Nat) : (State.setPlane s n x).reg r = s.reg r := rfl
@[simp] theorem State.setPlane_rd (s : State) (n : Nat) (x : Plane) (g : Fld) : (State.setPlane s n x).rd g = s.rd g := rfl
@[simp] theorem State.setPlane_flag (s : State) (n : Nat) (x : Plane) (g : Fld) : (State.setPlane s n x).flag g = s.flag g := rfl
@[simp] theorem State.setPlane_byte (s : State) (n : Nat) (x : Plane) (r : Nat) : (State.setPlane s n x).byte r = s.byte r := rfl
@[simp] theorem State.setPlane_plane_same (s : State) (n : Nat) (x : Plane) : (State.setPlane s n x).plane n = x := tget_tset_same _ _ _ _
theorem State.setPlane_plane_ne (s : State) (n : Nat) (x : Plane) (j : Nat) (h : j ≠ n) : (State.setPlane s n x).plane j = s.plane j := tget_tset_ne _ _ _ _ _ h
@[simp] theorem State.setPlane_camera (s : State) (n : Nat) (x : Plane) (j : Nat) : (State.setPlane s n x).camera j = s.camera j := rfl
@[simp] theorem State.setPlane_view (s : State) (n : Nat) (x : Plane) (j : Nat) : (State.setPlane s n x).view j = s.view j := rfl
@[simp] theorem State.setPlane_dsp (s : State) (n : Nat) (x : Plane) (j : Nat) : (State.setPlane s n x).dsp j = s.dsp j := rfl

/-! ### setDsp -/

@[simp] theorem State.setDsp_pending (s : State) (n : Nat) (x : Dsp) : (State.setDsp s n x).pending = s.pending := rfl
@[simp] theorem State.setDsp_dev (s : State) (n : Nat) (x : Dsp) : (State.setDsp s n x).dev = s.dev := rfl
@[simp] theorem State.setDsp_now (s : State) (n : Nat) (x : Dsp) : (State.setDsp s n x).now = s.now := rfl
@[simp] theorem State.setDsp_vt (s : State) (n : Nat) (x : Dsp) : (State.setDsp s n x).vt = s.vt := rfl
@[simp] theorem State.setDsp_regs (s : State) (n : Nat) (x : Dsp) : (State.setDsp s n x).regs = s.regs := rfl
@[simp] theorem State.setDsp_mem (s : State) (n : Nat) (x : Dsp) : (State.setDsp s n x).mem = s.mem := rfl
@[simp] theorem State.setDsp_resp (s : State) (n : Nat) (x : Dsp) : (State.setDsp s n x).resp = s.resp := rfl
@[simp] theorem State.setDsp_fresh (s : State) (n : Nat) (x : Dsp) : (State.setDsp s n x).fresh = s.fresh := rfl
@[simp] theorem State.setDsp_shadows (s : State) (n : Nat) (x : Dsp) : (State.setDsp s n x).shadows = s.shadows := rfl
@[simp] theorem State.setDsp_plan (s : State) (n : Nat) (x : Dsp) : (State.setDsp s n x).plan = s.plan := rfl
@[simp] theorem State.setDsp_ao (s : State) (n : Nat) (x : Dsp) : (State.setDsp s n x).ao = s.ao := rfl
@[simp] theorem State.setDsp_ep (s : State) (n : Nat) (x : Dsp) : (State.setDsp s n x).ep = s.ep := rfl
@[simp] theorem State.setDsp_wg (s : State) (n : Nat) (x : Dsp) : (State.setDsp s n x).wg = s.wg := rfl
@[simp] theorem State.setDsp_ic (s : State) (n : Nat) (x : Dsp) : (State.setDsp s n x).ic = s.ic := rfl
@[simp] theorem State.setDsp_kb (s : State) (n : Nat) (x : Dsp) : (State.setDsp s n x).kb = s.kb := rfl
@[simp] theorem State.setDsp_pn (s : State) (n : Nat) (x : Dsp) : (State.setDsp s n x).pn = s.pn := rfl
@[simp] theorem State.setDsp_can (s : State) (n : Nat) (x : Dsp) : (State.setDsp s n x).can = s.can := rfl
@[simp] theorem State.setDsp_sw (s : State) (n : Nat) (x : Dsp) : (State.setDsp s n x).sw = s.sw := rfl
@[simp] theorem State.setDsp_ptp (s : State) (n : Nat) (x : Dsp) : (State.setDsp s n x).ptp = s.ptp := rfl
@[simp] theorem State.setDsp_nm (s : State) (n : Nat) (x : Dsp) : (State.setDsp s n x).nm = s.nm := rfl
@[simp] theorem State.setDsp_cp (s : State) (n : Nat) (x : Dsp) : (State.setDsp s n x).cp = s.cp := rfl
@[simp] theorem State.setDsp_otp (s : State) (n : Nat) (x : Dsp) : (State.setDsp s n x).otp = s.otp := rfl
@[simp] theorem State.setDsp_ks (s : State) (n : Nat) (x : Dsp) : (State.setDsp s n x).ks = s.ks := rfl
@[simp] theorem State.setDsp_up (s : State) (n : Nat) (x : Dsp) : (State.setDsp s n x).up = s.up := rfl
@[simp] theorem State.setDsp_ux (s : State) (n : Nat) (x : Dsp) : (State.setDsp s n x).ux = s.ux := rfl
@[simp] theorem State.setDsp_reg (s : State) (n : Nat) (x : Dsp) (r : Nat) : (State.setDsp s n x).reg r = s.reg r := rfl
@[simp] theorem State.setDsp_rd (s : State) (n : Nat) (x : Dsp) (g : Fld) : (State.setDsp s n x).rd g = s.rd g := rfl
@[simp] theorem State.setDsp_flag (s : State) (n : Nat) (x : Dsp) (g : Fld) : (State.setDsp s n x).flag g = s.flag g := rfl
@[simp] theorem State.setDsp_byte (s : State) (n : Nat) (x : Dsp) (r : Nat) : (State.setDsp s n x).byte r = s.byte r := rfl
@[simp] theorem State.setDsp_dsp_same (s : State) (n : Nat) (x : Dsp) : (State.setDsp s n x).dsp n = x := tget_tset_same _ _ _ _
theorem State.setDsp_dsp_ne (s : State) (n : Nat) (x : Dsp) (j : Nat) (h : j ≠ n) : (State.setDsp s n x).dsp j = s.dsp j := tget_tset_ne _ _ _ _ _ h
@[simp] theorem State.setDsp_camera (s : State) (n : Nat) (x : Dsp) (j : Nat) : (State.setDsp s n x).camera j = s.camera j := rfl
@[simp] theorem State.setDsp_view (s : State) (n : Nat) (x : Dsp) (j : Nat) : (State.setDsp s n x).view j = s.view j := rfl
@[simp] theorem State.setDsp_plane (s : State) (n : Nat) (x : Dsp) (j : Nat) : (State.setDsp s n x).plane j = s.plane j := rfl

end Sys2Proof.Machine
end

