-- ==== Sys2Proof/Laws/Access.lean ====
section
/-! SUPPORT. What a checked register access does, case by case (R42 to R45, Table 03-2): the lemmas that stand for its unfolding. -/

namespace Sys2Proof.Machine

/-- What the checks of a write give: an aligned word in reach, behind no release gate, its block ungated, a register there, and steps 3 to 7 passed. -/
theorem State.passesChecks_iff (s : State) (who : Who) (bytes a : Nat) (w : Word) (held bad : Bool) :
    s.passesChecks who bytes a w held bad = true ↔
      s.reaches who a = true ∧ s.toGate who a = false ∧ s.gateWait who = false ∧ bytes = 4 ∧ a % 4 = 0 ∧ s.gated (pageBlock a) = false ∧
        ∃ r x, RegMap.at a = some (r, x) ∧ s.checkFields who r a w.toNat held bad = Code.DONE := by
  unfold State.passesChecks
  cases hm : RegMap.at a with
  | none => simp
  | some p =>
    obtain ⟨r, x⟩ := p
    simp [and_assoc]

/-- A write that passes takes its fields, then has its effect. -/
theorem State.regWrite_ok (s : State) (who : Who) (bytes a : Nat) (w : Word) (held bad : Bool) (refuse : Nat) (effect : State → State)
    (h : s.passesChecks who bytes a w held bad = true) (hr : refuse = Code.DONE) :
    ∃ r x, RegMap.at a = some (r, x) ∧ s.regWrite who bytes a w held bad refuse effect =
      { effect (s.setReg a (BitVec.ofNat 32 (writeFields r.fields (s.reg a).toNat w.toNat))) with resp := .done } := by
  obtain ⟨h1, hg, hw, h2, h3, h4, r, x, hm, h5⟩ := (State.passesChecks_iff s who bytes a w held bad).mp h
  refine ⟨r, x, hm, ?_⟩
  unfold State.regWrite
  simp [h1, hg, hw, h2, h3, h4, hm, h5, hr]

/-- A write that passes and that the block refuses in its present state is recorded and changes no field. -/
theorem State.regWrite_refused (s : State) (who : Who) (bytes a : Nat) (w : Word) (held bad : Bool) (refuse : Nat) (effect : State → State)
    (h : s.passesChecks who bytes a w held bad = true) (hr : refuse ≠ Code.DONE) :
    s.regWrite who bytes a w held bad refuse effect = s.refuseWrite (pageBlock a) refuse who a := by
  obtain ⟨h1, hg, hw, h2, h3, h4, r, x, hm, h5⟩ := (State.passesChecks_iff s who bytes a w held bad).mp h
  unfold State.regWrite
  simp [h1, hg, hw, h2, h3, h4, hm, h5, hr]

/-- A write that fails one of steps 3 to 7 is recorded with its code and changes no field. -/
theorem State.regWrite_failed (s : State) (who : Who) (a : Nat) (w : Word) (held bad : Bool) (refuse : Nat) (effect : State → State)
    (h1 : s.reaches who a = true) (hg : s.toGate who a = false) (hw : s.gateWait who = false)
    (h3 : a % 4 = 0) (h4 : s.gated (pageBlock a) = false) {r : RegRow} {x : List Nat}
    (hm : RegMap.at a = some (r, x)) (h5 : s.checkFields who r a w.toNat held bad ≠ Code.DONE) :
    s.regWrite who 4 a w held bad refuse effect = s.refuseWrite (pageBlock a) (s.checkFields who r a w.toNat held bad) who a := by
  unfold State.regWrite
  simp [h1, hg, hw, h3, h4, hm, h5]

/-- A write to a reserved address is recorded and changes nothing. -/
theorem State.regWrite_reserved (s : State) (who : Who) (a : Nat) (w : Word) (held bad : Bool) (refuse : Nat) (effect : State → State)
    (h1 : s.reaches who a = true) (hg : s.toGate who a = false) (hw : s.gateWait who = false)
    (h3 : a % 4 = 0) (h4 : s.gated (pageBlock a) = false) (hm : RegMap.at a = none) :
    s.regWrite who 4 a w held bad refuse effect = s.refuseWrite (pageBlock a) Code.RESERVED_ADDRESS who a := by
  unfold State.regWrite
  simp [h1, hg, hw, h3, h4, hm]

/-- A write to a gated block is recorded by block 0. -/
theorem State.regWrite_gated (s : State) (who : Who) (a : Nat) (w : Word) (held bad : Bool) (refuse : Nat) (effect : State → State)
    (h1 : s.reaches who a = true) (hg : s.toGate who a = false) (hw : s.gateWait who = false)
    (h3 : a % 4 = 0) (h4 : s.gated (pageBlock a) = true) :
    s.regWrite who 4 a w held bad refuse effect = { s.reject 0 Code.WRONG_STATE who true a with resp := .done } := by
  unfold State.regWrite
  simp [h1, hg, hw, h3, h4]

/-- An access that does not reach the register pages does nothing. -/
theorem State.regWrite_far (s : State) (who : Who) (bytes a : Nat) (w : Word) (held bad : Bool) (refuse : Nat) (effect : State → State)
    (h1 : s.reaches who a = false) : s.regWrite who bytes a w held bad refuse effect = s := by
  unfold State.regWrite
  simp [h1]

/-- A refused write answers done. -/
@[simp] theorem State.refuseWrite_resp (s : State) (n code : Nat) (who : Who) (a : Nat) : (s.refuseWrite n code who a).resp = .done := rfl

/-- A read that is allowed answers the word and has its effect. -/
theorem State.regRead_ok (s : State) (who : Who) (a v : Nat) (effect : State → State) (h1 : s.reaches who a = true) (hw : s.gateWait who = false)
    (h3 : a % 4 = 0)
    (h4 : s.gated (pageBlock a) = false) {r : RegRow} {x : List Nat} (hm : RegMap.at a = some (r, x)) (hr : isRejectReg a = false)
    (h5 : s.mayRead who r a = true) : s.regRead who 4 a none v effect = { effect s with resp := .data v } := by
  unfold State.regRead
  simp [h1, hw, h3, h4, hm, hr, h5]

/-- A read that is not allowed answers 0 and is recorded. -/
theorem State.regRead_refused (s : State) (who : Who) (a v : Nat) (effect : State → State) (h1 : s.reaches who a = true) (hw : s.gateWait who = false)
    (h3 : a % 4 = 0)
    (h4 : s.gated (pageBlock a) = false) {r : RegRow} {x : List Nat} (hm : RegMap.at a = some (r, x)) (hr : isRejectReg a = false)
    (h5 : s.mayRead who r a = false) :
    s.regRead who 4 a none v effect = { s.reject (pageBlock a) Code.NOT_OWNER who false a with resp := .data 0 } := by
  unfold State.regRead
  simp [h1, hw, h3, h4, hm, hr, h5]

/-- A read of a reserved address answers 0 and changes nothing else. -/
theorem State.regRead_reserved (s : State) (who : Who) (a v : Nat) (own : Option Bool) (effect : State → State)
    (h1 : s.reaches who a = true) (hw : s.gateWait who = false)
    (h3 : a % 4 = 0) (h4 : s.gated (pageBlock a) = false) (hm : RegMap.at a = none) :
    s.regRead who 4 a own v effect = { s with resp := .data 0 } := by
  unfold State.regRead
  simp [h1, hw, h3, h4, hm]

/-- A flag is a field that reads 1. -/
theorem State.flag_iff (s : State) (f : Fld) : s.flag f = true ↔ s.rd f = 1 := by
  simp [State.flag]

end Sys2Proof.Machine
end

