-- ==== Sys2Proof/Laws/Memory.lean ====
section
/-! SUPPORT. Memory after a store, and the canonical form of memory and register file under every basic update. -/

namespace Sys2Proof.Machine

theorem tget_memPut_out (m : List Host.Cell) (a : Nat) (bs : List Byte) (j : Nat) (h : j < a ∨ a + bs.length ≤ j) :
    tget memReset (memPut m a bs) j = tget memReset m j := by
  induction bs generalizing m a with
  | nil => rfl
  | cons b rest ih =>
    simp only [memPut]
    simp only [List.length_cons] at h
    rw [ih _ _ (by omega), tget_tset_ne _ _ _ _ _ (by omega)]

theorem tget_memPut_in (m : List Host.Cell) (a : Nat) (bs : List Byte) (i : Nat) (h : i < bs.length) :
    tget memReset (memPut m a bs) (a + i) = bs[i] := by
  induction bs generalizing m a i with
  | nil => simp at h
  | cons b rest ih =>
    simp only [memPut]
    cases i with
    | zero => rw [tget_memPut_out _ _ _ _ (by omega)]; simpa using tget_tset_same _ _ _ _
    | succ i =>
      have := ih (tset memReset m a b) (a + 1) i (by simpa using h)
      rw [show a + (i + 1) = a + 1 + i by omega, this]
      rfl

/-- A byte outside a store reads as before. -/
theorem State.byte_store_out (s : State) (a : Nat) (bs : List Byte) (j : Nat) (h : j < a ∨ a + bs.length ≤ j) :
    (s.store a bs).byte j = s.byte j := tget_memPut_out _ _ _ _ h

/-- A byte of a store reads as stored. -/
theorem State.byte_store_in (s : State) (a : Nat) (bs : List Byte) (i : Nat) (h : i < bs.length) :
    (s.store a bs).byte (a + i) = bs[i] := tget_memPut_in _ _ _ _ h

theorem State.bytes_length (s : State) (a n : Nat) : (s.bytes a n).length = n := by
  induction n generalizing a with
  | zero => rfl
  | succ n ih => simp [State.bytes, ih]

/-- Bytes that a store does not touch read as before. -/
theorem State.bytes_store_out (s : State) (a : Nat) (bs : List Byte) (j n : Nat) (h : j + n ≤ a ∨ a + bs.length ≤ j) :
    (s.store a bs).bytes j n = s.bytes j n := by
  induction n generalizing j with
  | zero => rfl
  | succ n ih =>
    simp only [State.bytes]
    rw [ih _ (by omega), State.byte_store_out _ _ _ _ (by omega)]

/-- What was stored is read back. -/
theorem State.bytes_store_same (s : State) (a : Nat) (bs : List Byte) : (s.store a bs).bytes a bs.length = bs := by
  have gen : ∀ (u : State) (l : List Byte) (k : Nat), (∀ i (h : i < l.length), u.byte (k + i) = l[i]) → u.bytes k l.length = l := by
    intro u l
    induction l with
    | nil => intro k _; rfl
    | cons b rest ih =>
      intro k h
      simp only [List.length_cons, State.bytes]
      have h0 := h 0 (by simp)
      simp only [Nat.add_zero, List.getElem_cons_zero] at h0
      rw [h0, ih (k + 1) (fun i hi => by
        have := h (i + 1) (by simpa using hi)
        rw [show k + 1 + i = k + (i + 1) by omega, this]; rfl)]
  exact gen _ _ _ (fun i h => State.byte_store_in s a bs i h)

theorem twf_memPut (m : List Host.Cell) (a : Nat) (bs : List Byte) (h : twf memReset m = true) : twf memReset (memPut m a bs) = true := by
  induction bs generalizing m a with
  | nil => exact h
  | cons b rest ih => exact ih _ _ (twf_tset _ _ _ _ h)

theorem State.canonical_iff (s : State) : s.canonical = true ↔ twf memReset s.mem = true ∧ twf regReset s.regs = true := by
  simp [State.canonical]

/-- A state with the memory and the registers of a canonical one is canonical. -/
theorem State.canonical_of_same {s t : State} (h : s.canonical = true) (hm : t.mem = s.mem) (hr : t.regs = s.regs) : t.canonical = true := by
  rw [State.canonical_iff] at h ⊢
  rw [hm, hr]
  exact h

theorem State.canonical_store (s : State) (a : Nat) (bs : List Byte) (h : s.canonical = true) : (s.store a bs).canonical = true := by
  rw [State.canonical_iff] at h ⊢
  exact ⟨twf_memPut _ _ _ h.1, h.2⟩

theorem State.canonical_setReg (s : State) (a : Nat) (w : Word) (h : s.canonical = true) : (s.setReg a w).canonical = true := by
  rw [State.canonical_iff] at h ⊢
  exact ⟨h.1, twf_tset _ _ _ _ h.2⟩

theorem State.canonical_wr (s : State) (f : Fld) (v : Nat) (h : s.canonical = true) : (s.wr f v).canonical = true :=
  s.canonical_setReg _ _ h

theorem State.canonical_setFlag (s : State) (f : Fld) (b : Bool) (h : s.canonical = true) : (s.setFlag f b).canonical = true :=
  s.canonical_wr _ _ h

theorem State.canonical_resetRegs (s : State) (lo hi : Nat) (h : s.canonical = true) : (s.resetRegs lo hi).canonical = true := by
  rw [State.canonical_iff] at h ⊢
  exact ⟨h.1, twf_filter _ _ _ h.2⟩

theorem State.canonical_pass (s : State) (d : Nat) (h : s.canonical = true) : (s.pass d).canonical = true :=
  State.canonical_of_same h rfl rfl

/-- A loop whose body keeps a property of the state keeps it. -/
theorem forAll_keeps {α : Type} (P : State → Prop) (l : List α) (f : State → α → State) (hf : ∀ s x, P s → P (f s x)) (s : State)
    (h : P s) : P (forAll l f s) := by
  induction l generalizing s with
  | nil => exact h
  | cons x rest ih => exact ih _ (hf _ _ h)

end Sys2Proof.Machine
end

