-- ==== Sys2Proof/Laws/Frames.lean ====
section
/-! SUPPORT. The parts of the state that each function may change, for all parts at once: a function changes no part outside its list. -/

set_option linter.unusedSimpArgs false
set_option linter.unnecessarySeqFocus false
set_option linter.unreachableTactic false
set_option linter.unusedTactic false

namespace Sys2Proof.Machine

/-- The state with the parts of `L` blotted out. -/
def blot (L : Piece → Bool) (s : State) : State :=
  { pending := s.pending
    dev := if L .dev then State.reset.dev else s.dev
    now := if L .now then State.reset.now else s.now
    vt := if L .vt then State.reset.vt else s.vt
    regs := if L .regs then State.reset.regs else s.regs
    mem := if L .mem then State.reset.mem else s.mem
    resp := if L .resp then State.reset.resp else s.resp
    fresh := if L .fresh then State.reset.fresh else s.fresh
    shadows := if L .shadows then State.reset.shadows else s.shadows
    plan := if L .plan then State.reset.plan else s.plan
    ao := if L .ao then State.reset.ao else s.ao
    ep := if L .ep then State.reset.ep else s.ep
    wg := if L .wg then State.reset.wg else s.wg
    ic := if L .ic then State.reset.ic else s.ic
    kb := if L .kb then State.reset.kb else s.kb
    pn := if L .pn then State.reset.pn else s.pn
    can := if L .can then State.reset.can else s.can
    sw := if L .sw then State.reset.sw else s.sw
    ptp := if L .ptp then State.reset.ptp else s.ptp
    nm := if L .nm then State.reset.nm else s.nm
    sf := if L .sf then State.reset.sf else s.sf
    cp := if L .cp then State.reset.cp else s.cp
    otp := if L .otp then State.reset.otp else s.otp
    ks := if L .ks then State.reset.ks else s.ks
    up := if L .up then State.reset.up else s.up
    ux := if L .ux then State.reset.ux else s.ux
  }

/-- A choice whose condition no proof looks at. -/
def pick {α : Type} (c : Prop) [Decidable c] (x y : α) : α := if c then x else y
@[congr] theorem pick_congr {α : Type} (c : Prop) [Decidable c] {x y x' y' : α} (h : x = x') (k : y = y') : pick c x y = pick c x' y' := by
  rw [h, k]
@[simp ↓] theorem pick_same {α : Type} (c : Prop) [Decidable c] (x : α) : pick c x x = x := by unfold pick; split <;> rfl
theorem pick_eq {α : Type} (c : Prop) [Decidable c] {x y v : α} (h : x = v) (k : y = v) : pick c x y = v := by rw [h, k, pick_same]
@[simp ↓] theorem blot_ite (L : Piece → Bool) (c : Prop) [Decidable c] (a b : State) :
    blot L (if c then a else b) = pick c (blot L a) (blot L b) := by unfold pick; split <;> rfl
@[simp ↓] theorem blot_ite1 {α : Type} (L : Piece → Bool) (c : Prop) [Decidable c] (a b : State × α) :
    blot L (if c then a else b).1 = pick c (blot L a.1) (blot L b.1) := by unfold pick; split <;> rfl
@[simp ↓] theorem blot_ite2 {α : Type} (L : Piece → Bool) (c : Prop) [Decidable c] (a b : α × State) :
    blot L (if c then a else b).2 = pick c (blot L a.2) (blot L b.2) := by unfold pick; split <;> rfl
@[simp ↓] theorem foldl_blot (L : Piece → Bool) {α : Type} (l : List α) (f : State → α → State) (s : State)
    (hf : ∀ x0 x1, blot L (f x0 x1) = blot L x0) : blot L (l.foldl f s) = blot L s := by
  induction l generalizing s with
  | nil => rfl
  | cons x rest ih => rw [List.foldl_cons, ih, hf]

@[simp ↓] theorem blot_upd_ao (L : Piece → Bool) (u : State) (x_ao : AoState) (h_ao : L .ao = true) :
    blot L { u with ao := x_ao } = blot L u := by
  simp only [blot, h_ao, if_true]
@[simp ↓] theorem blot_upd_can (L : Piece → Bool) (u : State) (x_can : CanState) (h_can : L .can = true) :
    blot L { u with can := x_can } = blot L u := by
  simp only [blot, h_can, if_true]
@[simp ↓] theorem blot_upd_cp (L : Piece → Bool) (u : State) (x_cp : CpState) (h_cp : L .cp = true) :
    blot L { u with cp := x_cp } = blot L u := by
  simp only [blot, h_cp, if_true]
@[simp ↓] theorem blot_upd_dev (L : Piece → Bool) (u : State) (x_dev : DevState) (h_dev : L .dev = true) :
    blot L { u with dev := x_dev } = blot L u := by
  simp only [blot, h_dev, if_true]
@[simp ↓] theorem blot_upd_dev_vt_ao_ptp (L : Piece → Bool) (u : State) (x_dev : DevState) (x_vt : Nat) (x_ao : AoState) (x_ptp : TimeState) (h_dev : L .dev = true) (h_vt : L .vt = true) (h_ao : L .ao = true) (h_ptp : L .ptp = true) :
    blot L { u with dev := x_dev, vt := x_vt, ao := x_ao, ptp := x_ptp } = blot L u := by
  simp only [blot, h_dev, h_vt, h_ao, h_ptp, if_true]
@[simp ↓] theorem blot_upd_ep (L : Piece → Bool) (u : State) (x_ep : EpState) (h_ep : L .ep = true) :
    blot L { u with ep := x_ep } = blot L u := by
  simp only [blot, h_ep, if_true]
@[simp ↓] theorem blot_upd_fresh (L : Piece → Bool) (u : State) (x_fresh : Nat) (h_fresh : L .fresh = true) :
    blot L { u with fresh := x_fresh } = blot L u := by
  simp only [blot, h_fresh, if_true]
@[simp ↓] theorem blot_upd_ic (L : Piece → Bool) (u : State) (x_ic : IcState) (h_ic : L .ic = true) :
    blot L { u with ic := x_ic } = blot L u := by
  simp only [blot, h_ic, if_true]
@[simp ↓] theorem blot_upd_kb (L : Piece → Bool) (u : State) (x_kb : KbState) (h_kb : L .kb = true) :
    blot L { u with kb := x_kb } = blot L u := by
  simp only [blot, h_kb, if_true]
@[simp ↓] theorem blot_upd_ks (L : Piece → Bool) (u : State) (x_ks : KsState) (h_ks : L .ks = true) :
    blot L { u with ks := x_ks } = blot L u := by
  simp only [blot, h_ks, if_true]
@[simp ↓] theorem blot_upd_mem (L : Piece → Bool) (u : State) (x_mem : (List Host.Cell)) (h_mem : L .mem = true) :
    blot L { u with mem := x_mem } = blot L u := by
  simp only [blot, h_mem, if_true]
@[simp ↓] theorem blot_upd_mem_ao_wg_ks_up (L : Piece → Bool) (u : State) (x_mem : (List Host.Cell)) (x_ao : AoState) (x_wg : WgState) (x_ks : KsState) (x_up : UpState) (h_mem : L .mem = true) (h_ao : L .ao = true) (h_wg : L .wg = true) (h_ks : L .ks = true) (h_up : L .up = true) :
    blot L { u with mem := x_mem, ao := x_ao, wg := x_wg, ks := x_ks, up := x_up } = blot L u := by
  simp only [blot, h_mem, h_ao, h_wg, h_ks, h_up, if_true]
@[simp ↓] theorem blot_upd_mem_wg (L : Piece → Bool) (u : State) (x_mem : (List Host.Cell)) (x_wg : WgState) (h_mem : L .mem = true) (h_wg : L .wg = true) :
    blot L { u with mem := x_mem, wg := x_wg } = blot L u := by
  simp only [blot, h_mem, h_wg, if_true]
@[simp ↓] theorem blot_upd_nm (L : Piece → Bool) (u : State) (x_nm : NmState) (h_nm : L .nm = true) :
    blot L { u with nm := x_nm } = blot L u := by
  simp only [blot, h_nm, if_true]
@[simp ↓] theorem blot_upd_now_vt (L : Piece → Bool) (u : State) (x_now : Nat) (x_vt : Nat) (h_now : L .now = true) (h_vt : L .vt = true) :
    blot L { u with now := x_now, vt := x_vt } = blot L u := by
  simp only [blot, h_now, h_vt, if_true]
@[simp ↓] theorem blot_upd_now_vt_ptp (L : Piece → Bool) (u : State) (x_now : Nat) (x_vt : Nat) (x_ptp : TimeState) (h_now : L .now = true) (h_vt : L .vt = true) (h_ptp : L .ptp = true) :
    blot L { u with now := x_now, vt := x_vt, ptp := x_ptp } = blot L u := by
  simp only [blot, h_now, h_vt, h_ptp, if_true]
@[simp ↓] theorem blot_upd_otp (L : Piece → Bool) (u : State) (x_otp : OtpState) (h_otp : L .otp = true) :
    blot L { u with otp := x_otp } = blot L u := by
  simp only [blot, h_otp, if_true]
@[simp ↓] theorem blot_upd_plan_ao_up (L : Piece → Bool) (u : State) (x_plan : (List Item)) (x_ao : AoState) (x_up : UpState) (h_plan : L .plan = true) (h_ao : L .ao = true) (h_up : L .up = true) :
    blot L { u with plan := x_plan, ao := x_ao, up := x_up } = blot L u := by
  simp only [blot, h_plan, h_ao, h_up, if_true]
@[simp ↓] theorem blot_upd_plan_up (L : Piece → Bool) (u : State) (x_plan : (List Item)) (x_up : UpState) (h_plan : L .plan = true) (h_up : L .up = true) :
    blot L { u with plan := x_plan, up := x_up } = blot L u := by
  simp only [blot, h_plan, h_up, if_true]
@[simp ↓] theorem blot_upd_pn (L : Piece → Bool) (u : State) (x_pn : PinState) (h_pn : L .pn = true) :
    blot L { u with pn := x_pn } = blot L u := by
  simp only [blot, h_pn, if_true]
@[simp ↓] theorem blot_upd_ptp (L : Piece → Bool) (u : State) (x_ptp : TimeState) (h_ptp : L .ptp = true) :
    blot L { u with ptp := x_ptp } = blot L u := by
  simp only [blot, h_ptp, if_true]
@[simp ↓] theorem blot_upd_regs (L : Piece → Bool) (u : State) (x_regs : (Tbl Word)) (h_regs : L .regs = true) :
    blot L { u with regs := x_regs } = blot L u := by
  simp only [blot, h_regs, if_true]
@[simp ↓] theorem blot_upd_regs_sf (L : Piece → Bool) (u : State) (x_regs : (Tbl Word)) (x_sf : SfState) (h_regs : L .regs = true) (h_sf : L .sf = true) :
    blot L { u with regs := x_regs, sf := x_sf } = blot L u := by
  simp only [blot, h_regs, h_sf, if_true]
@[simp ↓] theorem blot_upd_resp (L : Piece → Bool) (u : State) (x_resp : Resp) (h_resp : L .resp = true) :
    blot L { u with resp := x_resp } = blot L u := by
  simp only [blot, h_resp, if_true]
@[simp ↓] theorem blot_upd_resp_ux (L : Piece → Bool) (u : State) (x_resp : Resp) (x_ux : UxState) (h_resp : L .resp = true) (h_ux : L .ux = true) :
    blot L { u with resp := x_resp, ux := x_ux } = blot L u := by
  simp only [blot, h_resp, h_ux, if_true]
@[simp ↓] theorem blot_upd_sf (L : Piece → Bool) (u : State) (x_sf : SfState) (h_sf : L .sf = true) :
    blot L { u with sf := x_sf } = blot L u := by
  simp only [blot, h_sf, if_true]
@[simp ↓] theorem blot_upd_shadows (L : Piece → Bool) (u : State) (x_shadows : (List (Nat × Nat × Nat))) (h_shadows : L .shadows = true) :
    blot L { u with shadows := x_shadows } = blot L u := by
  simp only [blot, h_shadows, if_true]
@[simp ↓] theorem blot_upd_shadows_ao_ep_wg_ic_pn_can_sw_ptp_cp_up_ux (L : Piece → Bool) (u : State) (x_shadows : (List (Nat × Nat × Nat))) (x_ao : AoState) (x_ep : EpState) (x_wg : WgState) (x_ic : IcState) (x_pn : PinState) (x_can : CanState) (x_sw : SwState) (x_ptp : TimeState) (x_cp : CpState) (x_up : UpState) (x_ux : UxState) (h_shadows : L .shadows = true) (h_ao : L .ao = true) (h_ep : L .ep = true) (h_wg : L .wg = true) (h_ic : L .ic = true) (h_pn : L .pn = true) (h_can : L .can = true) (h_sw : L .sw = true) (h_ptp : L .ptp = true) (h_cp : L .cp = true) (h_up : L .up = true) (h_ux : L .ux = true) :
    blot L { u with shadows := x_shadows, ao := x_ao, ep := x_ep, wg := x_wg, ic := x_ic, pn := x_pn, can := x_can, sw := x_sw, ptp := x_ptp, cp := x_cp, up := x_up, ux := x_ux } = blot L u := by
  simp only [blot, h_shadows, h_ao, h_ep, h_wg, h_ic, h_pn, h_can, h_sw, h_ptp, h_cp, h_up, h_ux, if_true]
@[simp ↓] theorem blot_upd_sw (L : Piece → Bool) (u : State) (x_sw : SwState) (h_sw : L .sw = true) :
    blot L { u with sw := x_sw } = blot L u := by
  simp only [blot, h_sw, if_true]
@[simp ↓] theorem blot_upd_up (L : Piece → Bool) (u : State) (x_up : UpState) (h_up : L .up = true) :
    blot L { u with up := x_up } = blot L u := by
  simp only [blot, h_up, if_true]
@[simp ↓] theorem blot_upd_ux (L : Piece → Bool) (u : State) (x_ux : UxState) (h_ux : L .ux = true) :
    blot L { u with ux := x_ux } = blot L u := by
  simp only [blot, h_ux, if_true]
@[simp ↓] theorem blot_upd_vt_ptp (L : Piece → Bool) (u : State) (x_vt : Nat) (x_ptp : TimeState) (h_vt : L .vt = true) (h_ptp : L .ptp = true) :
    blot L { u with vt := x_vt, ptp := x_ptp } = blot L u := by
  simp only [blot, h_vt, h_ptp, if_true]
@[simp ↓] theorem blot_upd_wg (L : Piece → Bool) (u : State) (x_wg : WgState) (h_wg : L .wg = true) :
    blot L { u with wg := x_wg } = blot L u := by
  simp only [blot, h_wg, if_true]
@[simp ↓] theorem State.putCmd_blot (L : Piece → Bool) (s : State) (c : Cmd) (h_ep : L .ep = true)  :
    blot L (State.putCmd s c) = blot L s := by
  unfold State.putCmd
  (try simp [h_ep]) <;> repeat' (first | with_reducible rfl | (apply pick_eq) | split | (simp [h_ep]))
@[simp ↓] theorem State.setCan_blot (L : Piece → Bool) (s : State) (k : Nat) (x : Can) (h_can : L .can = true)  :
    blot L (State.setCan s k x) = blot L s := by
  unfold State.setCan
  (try simp [h_can]) <;> repeat' (first | with_reducible rfl | (apply pick_eq) | split | (simp [h_can]))
@[simp ↓] theorem State.setBuf_blot (L : Piece → Bool) (s : State) (k : Nat) (b : Nat) (x : CanBuf) (h_can : L .can = true)  :
    blot L (State.setBuf s k b x) = blot L s := by
  unfold State.setBuf
  (try simp [h_can]) <;> repeat' (first | with_reducible rfl | (apply pick_eq) | split | (simp [h_can]))
@[simp ↓] theorem State.setReg_blot (L : Piece → Bool) (s : State) (a : Nat) (w : Word) (h_regs : L .regs = true)  :
    blot L (State.setReg s a w) = blot L s := by
  unfold State.setReg
  (try simp [h_regs]) <;> repeat' (first | with_reducible rfl | (apply pick_eq) | split | (simp [h_regs]))
@[simp ↓] theorem State.wr_blot (L : Piece → Bool) (s : State) (f : Fld) (v : Nat) (h_regs : L .regs = true)  :
    blot L (State.wr s f v) = blot L s := by
  unfold State.wr
  (try simp [h_regs]) <;> repeat' (first | with_reducible rfl | (apply pick_eq) | split | (simp [h_regs]))
@[simp ↓] theorem State.setEp_blot (L : Piece → Bool) (s : State) (e : Nat) (x : Ep) (h_ep : L .ep = true)  :
    blot L (State.setEp s e x) = blot L s := by
  unfold State.setEp
  (try simp [h_ep]) <;> repeat' (first | with_reducible rfl | (apply pick_eq) | split | (simp [h_ep]))
@[simp ↓] theorem State.abortDecided_blot (L : Piece → Bool) (s : State) (e : Nat) (tag : Nat) (code : Nat) (h_ep : L .ep = true)  :
    blot L (State.abortDecided s e tag code) = blot L s := by
  unfold State.abortDecided
  (try simp [h_ep]) <;> repeat' (first | with_reducible rfl | (apply pick_eq) | split | (simp [h_ep]))
@[simp ↓] theorem State.dropCmd_blot (L : Piece → Bool) (s : State) (e : Nat) (tag : Nat) (h_ep : L .ep = true)  :
    blot L (State.dropCmd s e tag) = blot L s := by
  unfold State.dropCmd
  (try simp [h_ep]) <;> repeat' (first | with_reducible rfl | (apply pick_eq) | split | (simp [h_ep]))
@[simp ↓] theorem State.store_blot (L : Piece → Bool) (s : State) (a : Nat) (bs : List Byte) (h_mem : L .mem = true) (h_wg : L .wg = true)  :
    blot L (State.store s a bs) = blot L s := by
  unfold State.store
  (try simp [h_mem, h_wg]) <;> repeat' (first | with_reducible rfl | (apply pick_eq) | split | (simp [h_mem, h_wg]))
@[simp ↓] theorem State.setSrc_blot (L : Piece → Bool) (s : State) (n : Nat) (x : Src) (h_ic : L .ic = true)  :
    blot L (State.setSrc s n x) = blot L s := by
  unfold State.setSrc
  (try simp [h_ic]) <;> repeat' (first | with_reducible rfl | (apply pick_eq) | split | (simp [h_ic]))
@[simp ↓] theorem State.takeOffers_blot (L : Piece → Bool) (s : State) (t : Nat) (h_ic : L .ic = true)  :
    blot L (State.takeOffers s t) = blot L s := by
  unfold State.takeOffers
  (try simp [h_ic]) <;> repeat' (first | with_reducible rfl | (apply pick_eq) | split | (simp [h_ic]))
@[simp ↓] theorem State.setTgt_blot (L : Piece → Bool) (s : State) (t : Nat) (x : Tgt) (h_ic : L .ic = true)  :
    blot L (State.setTgt s t x) = blot L s := by
  unfold State.setTgt
  (try simp [h_ic]) <;> repeat' (first | with_reducible rfl | (apply pick_eq) | split | (simp [h_ic]))
@[simp ↓] theorem State.offer_blot (L : Piece → Bool) (s : State) (n : Nat) (h_ic : L .ic = true)  :
    blot L (State.offer s n) = blot L s := by
  unfold State.offer
  (try simp [h_ic]) <;> repeat' (first | with_reducible rfl | (apply pick_eq) | split | (simp [h_ic]))
@[simp ↓] theorem State.makePending_blot (L : Piece → Bool) (s : State) (n : Nat) (h_ic : L .ic = true)  :
    blot L (State.makePending s n) = blot L s := by
  unfold State.makePending
  (try simp [h_ic]) <;> repeat' (first | with_reducible rfl | (apply pick_eq) | split | (simp [h_ic]))
@[simp ↓] theorem State.srcEvent_blot (L : Piece → Bool) (s : State) (n : Nat) (h_ic : L .ic = true)  :
    blot L (State.srcEvent s n) = blot L s := by
  unfold State.srcEvent
  (try simp [h_ic]) <;> repeat' (first | with_reducible rfl | (apply pick_eq) | split | (simp [h_ic]))
@[simp ↓] theorem State.level_blot (L : Piece → Bool) (s : State) (n : Nat) (b : Bool) (h_ic : L .ic = true)  :
    blot L (State.level s n b) = blot L s := by
  unfold State.level
  (try simp [h_ic]) <;> repeat' (first | with_reducible rfl | (apply pick_eq) | split | (simp [h_ic]))
@[simp ↓] theorem State.noticeEvent_blot (L : Piece → Bool) (s : State) (g : Nat) (was : Bool) (h_ic : L .ic = true)  :
    blot L (State.noticeEvent s g was) = blot L s := by
  unfold State.noticeEvent
  (try simp [h_ic]) <;> repeat' (first | with_reducible rfl | (apply pick_eq) | split | (simp [h_ic]))
@[simp ↓] theorem State.setNotice_blot (L : Piece → Bool) (s : State) (e : Nat) (h_ep : L .ep = true) (h_ic : L .ic = true)  :
    blot L (State.setNotice s e) = blot L s := by
  unfold State.setNotice
  (try simp [h_ep, h_ic]) <;> repeat' (first | with_reducible rfl | (apply pick_eq) | split | (simp [h_ep, h_ic]))
@[simp ↓] theorem State.record_blot (L : Piece → Bool) (s : State) (e : Nat) (tag : Nat) (code : Nat) (op : Nat) (detail : Nat) (time : Nat) (abortSeen : Bool) (late : Bool) (dup : Bool) (notify : Bool) (h_mem : L .mem = true) (h_ep : L .ep = true) (h_wg : L .wg = true) (h_ic : L .ic = true)  :
    blot L (State.record s e tag code op detail time abortSeen late dup notify) = blot L s := by
  unfold State.record
  (try simp [h_mem, h_ep, h_wg, h_ic]) <;> repeat' (first | with_reducible rfl | (apply pick_eq) | split | (simp [h_mem, h_ep, h_wg, h_ic]))
@[simp ↓] theorem State.complete_blot (L : Piece → Bool) (s : State) (c : Cmd) (code : Nat) (detail : Nat) (time : Nat) (h_mem : L .mem = true) (h_ep : L .ep = true) (h_wg : L .wg = true) (h_ic : L .ic = true)  :
    blot L (State.complete s c code detail time) = blot L s := by
  unfold State.complete
  (try simp [h_mem, h_ep, h_wg, h_ic]) <;> repeat' (first | with_reducible rfl | (apply pick_eq) | split | (simp [h_mem, h_ep, h_wg, h_ic]))
@[simp ↓] theorem State.txEnd_blot (L : Piece → Bool) (s : State) (k : Nat) (b : Nat) (code : Nat) (time : Nat) (h_regs : L .regs = true) (h_mem : L .mem = true) (h_ep : L .ep = true) (h_wg : L .wg = true) (h_ic : L .ic = true) (h_can : L .can = true)  :
    blot L (State.txEnd s k b code time) = blot L s := by
  unfold State.txEnd
  (try simp [h_regs, h_mem, h_ep, h_wg, h_ic, h_can]) <;> repeat' (first | with_reducible rfl | (apply pick_eq) | split | (simp [h_regs, h_mem, h_ep, h_wg, h_ic, h_can]))
@[simp ↓] theorem State.txAbort_blot (L : Piece → Bool) (s : State) (k : Nat) (b : Nat) (h_regs : L .regs = true) (h_mem : L .mem = true) (h_ep : L .ep = true) (h_wg : L .wg = true) (h_ic : L .ic = true) (h_can : L .can = true)  :
    blot L (State.txAbort s k b) = blot L s := by
  unfold State.txAbort
  (try simp [h_regs, h_mem, h_ep, h_wg, h_ic, h_can]) <;> repeat' (first | with_reducible rfl | (apply pick_eq) | split | (simp [h_regs, h_mem, h_ep, h_wg, h_ic, h_can]))
@[simp ↓] theorem State.finish_blot (L : Piece → Bool) (s : State) (c : Cmd) (code : Nat) (h_mem : L .mem = true) (h_ep : L .ep = true) (h_wg : L .wg = true) (h_ic : L .ic = true)  :
    blot L (State.finish s c code) = blot L s := by
  unfold State.finish
  (try simp [h_mem, h_ep, h_wg, h_ic]) <;> repeat' (first | with_reducible rfl | (apply pick_eq) | split | (simp [h_mem, h_ep, h_wg, h_ic]))
@[simp ↓] theorem State.setLin_blot (L : Piece → Bool) (s : State) (l : Nat) (x : Lin) (h_pn : L .pn = true)  :
    blot L (State.setLin s l x) = blot L s := by
  unfold State.setLin
  (try simp [h_pn]) <;> repeat' (first | with_reducible rfl | (apply pick_eq) | split | (simp [h_pn]))
@[simp ↓] theorem State.dropKeyOp_blot (L : Piece → Bool) (s : State) (e : Nat) (tag : Nat) (h_ks : L .ks = true)  :
    blot L (State.dropKeyOp s e tag) = blot L s := by
  unfold State.dropKeyOp
  (try simp [h_ks]) <;> repeat' (first | with_reducible rfl | (apply pick_eq) | split | (simp [h_ks]))
@[simp ↓] theorem State.putKeyOp_blot (L : Piece → Bool) (s : State) (x : KeyOp) (h_ks : L .ks = true)  :
    blot L (State.putKeyOp s x) = blot L s := by
  unfold State.putKeyOp
  (try simp [h_ks]) <;> repeat' (first | with_reducible rfl | (apply pick_eq) | split | (simp [h_ks]))
@[simp ↓] theorem forAll_blot (L : Piece → Bool) {α : Type} (l : List α) (f : State → α → State) (s : State)
    (hf : ∀ x0 x1, blot L (f x0 x1) = blot L x0) : blot L (forAll l f s) = blot L s := by
  induction l generalizing s with
  | nil => rfl
  | cons x rest ih => rw [forAll, ih, hf]
@[simp ↓] theorem State.wgLevels_blot (L : Piece → Bool) (s : State) (h_ic : L .ic = true)  :
    blot L (State.wgLevels s) = blot L s := by
  unfold State.wgLevels
  (try simp [h_ic]) <;> repeat' (first | with_reducible rfl | (apply pick_eq) | split | (simp [h_ic]))
@[simp ↓] theorem State.count_blot (L : Piece → Bool) (s : State) (a : Nat) (sat : Nat) (b : Nat) (h_regs : L .regs = true)  :
    blot L (State.count s a sat b) = blot L s := by
  unfold State.count
  (try simp [h_regs]) <;> repeat' (first | with_reducible rfl | (apply pick_eq) | split | (simp [h_regs]))
@[simp ↓] theorem State.wgEvent_blot (L : Piece → Bool) (s : State) (c : Nat) (h_regs : L .regs = true) (h_ic : L .ic = true)  :
    blot L (State.wgEvent s c) = blot L s := by
  unfold State.wgEvent
  (try simp [h_regs, h_ic]) <;> repeat' (first | with_reducible rfl | (apply pick_eq) | split | (simp [h_regs, h_ic]))
@[simp ↓] theorem State.eccBad_blot (L : Piece → Bool) (s : State) (w : Nat) (h_regs : L .regs = true) (h_ic : L .ic = true)  :
    blot L (State.eccBad s w) = blot L s := by
  unfold State.eccBad
  (try simp [h_regs, h_ic]) <;> repeat' (first | with_reducible rfl | (apply pick_eq) | split | (simp [h_regs, h_ic]))
@[simp ↓] theorem State.eccFix_blot (L : Piece → Bool) (s : State) (w : Nat) (h_regs : L .regs = true) (h_wg : L .wg = true) (h_ic : L .ic = true)  :
    blot L (State.eccFix s w) = blot L s := by
  unfold State.eccFix
  (try simp [h_regs, h_wg, h_ic]) <;> repeat' (first | with_reducible rfl | (apply pick_eq) | split | (simp [h_regs, h_wg, h_ic]))
@[simp ↓] theorem State.readEcc_blot (L : Piece → Bool) (s : State) (a : Nat) (n : Nat) (h_regs : L .regs = true) (h_wg : L .wg = true) (h_ic : L .ic = true)  :
    blot L (State.readEcc s a n) = blot L s := by
  unfold State.readEcc
  (try simp [h_regs, h_wg, h_ic]) <;> repeat' (first | with_reducible rfl | (apply pick_eq) | split | (simp [h_regs, h_wg, h_ic]))
@[simp ↓] theorem State.clearMem_blot (L : Piece → Bool) (s : State) (lo : Nat) (hi : Nat) (h_mem : L .mem = true) (h_wg : L .wg = true)  :
    blot L (State.clearMem s lo hi) = blot L s := by
  unfold State.clearMem
  (try simp [h_mem, h_wg]) <;> repeat' (first | with_reducible rfl | (apply pick_eq) | split | (simp [h_mem, h_wg]))
@[simp ↓] theorem State.program_blot (L : Piece → Bool) (s : State) (a : Nat) (bs : List Byte) (h_mem : L .mem = true) (h_wg : L .wg = true)  :
    blot L (State.program s a bs) = blot L s := by
  unfold State.program
  (try simp [h_mem, h_wg]) <;> repeat' (first | with_reducible rfl | (apply pick_eq) | split | (simp [h_mem, h_wg]))
@[simp ↓] theorem State.draw_blot (L : Piece → Bool) (s : State) (h_fresh : L .fresh = true)  :
    blot L (State.draw s) = blot L s := by
  unfold State.draw
  (try simp [h_fresh]) <;> repeat' (first | with_reducible rfl | (apply pick_eq) | split | (simp [h_fresh]))
@[simp ↓] theorem State.startKeyOp_blot (L : Piece → Bool) (s : State) (k : KeyOp) (c : Cmd) (h_regs : L .regs = true) (h_mem : L .mem = true) (h_fresh : L .fresh = true) (h_ep : L .ep = true) (h_wg : L .wg = true) (h_ic : L .ic = true) (h_ks : L .ks = true)  :
    blot L (State.startKeyOp s k c) = blot L s := by
  unfold State.startKeyOp
  (try simp [h_regs, h_mem, h_fresh, h_ep, h_wg, h_ic, h_ks]) <;> repeat' (first | with_reducible rfl | (apply pick_eq) | split | (simp [h_regs, h_mem, h_fresh, h_ep, h_wg, h_ic, h_ks]))
@[simp ↓] theorem State.startKeys_blot (L : Piece → Bool) (s : State) (fuel : Nat) (h_regs : L .regs = true) (h_mem : L .mem = true) (h_fresh : L .fresh = true) (h_ep : L .ep = true) (h_wg : L .wg = true) (h_ic : L .ic = true) (h_ks : L .ks = true)  :
    blot L (State.startKeys s fuel) = blot L s := by
  induction fuel generalizing s with
  | zero => unfold State.startKeys; rfl
  | succ m ih => unfold State.startKeys; (repeat' split) <;> (try simp [h_regs, h_mem, h_fresh, h_ep, h_wg, h_ic, h_ks, ih])
@[simp ↓] theorem State.startAllKeys_blot (L : Piece → Bool) (s : State) (h_regs : L .regs = true) (h_mem : L .mem = true) (h_fresh : L .fresh = true) (h_ep : L .ep = true) (h_wg : L .wg = true) (h_ic : L .ic = true) (h_ks : L .ks = true)  :
    blot L (State.startAllKeys s) = blot L s := by
  unfold State.startAllKeys
  (try simp [h_regs, h_mem, h_fresh, h_ep, h_wg, h_ic, h_ks]) <;> repeat' (first | with_reducible rfl | (apply pick_eq) | split | (simp [h_regs, h_mem, h_fresh, h_ep, h_wg, h_ic, h_ks]))
@[simp ↓] theorem State.keyCancel_blot (L : Piece → Bool) (s : State) (c : Cmd) (h_regs : L .regs = true) (h_mem : L .mem = true) (h_fresh : L .fresh = true) (h_ep : L .ep = true) (h_wg : L .wg = true) (h_ic : L .ic = true) (h_ks : L .ks = true)  :
    blot L (State.keyCancel s c) = blot L s := by
  unfold State.keyCancel
  (try simp [h_regs, h_mem, h_fresh, h_ep, h_wg, h_ic, h_ks]) <;> repeat' (first | with_reducible rfl | (apply pick_eq) | split | (simp [h_regs, h_mem, h_fresh, h_ep, h_wg, h_ic, h_ks]))
@[simp ↓] theorem State.setView_blot (L : Piece → Bool) (s : State) (i : Nat) (x : SView) (h_sf : L .sf = true)  :
    blot L (State.setView s i x) = blot L s := by
  unfold State.setView
  (try simp [h_sf]) <;> repeat' (first | with_reducible rfl | (apply pick_eq) | split | (simp [h_sf]))
@[simp ↓] theorem State.setPlane_blot (L : Piece → Bool) (s : State) (j : Nat) (x : Plane) (h_sf : L .sf = true)  :
    blot L (State.setPlane s j x) = blot L s := by
  unfold State.setPlane
  (try simp [h_sf]) <;> repeat' (first | with_reducible rfl | (apply pick_eq) | split | (simp [h_sf]))
@[simp ↓] theorem State.viewCancel_blot (L : Piece → Bool) (s : State) (c : Cmd) (h_regs : L .regs = true) (h_sf : L .sf = true)  :
    blot L (State.viewCancel s c) = blot L s := by
  unfold State.viewCancel
  (try simp [h_regs, h_sf]) <;> repeat' (first | with_reducible rfl | (apply pick_eq) | split | (simp [h_regs, h_sf]))
@[simp ↓] theorem State.targetCancel_blot (L : Piece → Bool) (s : State) (c : Cmd) (h_regs : L .regs = true) (h_mem : L .mem = true) (h_fresh : L .fresh = true) (h_ep : L .ep = true) (h_wg : L .wg = true) (h_ic : L .ic = true) (h_pn : L .pn = true) (h_sw : L .sw = true) (h_sf : L .sf = true) (h_ks : L .ks = true)  :
    blot L (State.targetCancel s c) = blot L s := by
  unfold State.targetCancel
  (try simp [h_regs, h_mem, h_fresh, h_ep, h_wg, h_ic, h_pn, h_sw, h_sf, h_ks]) <;> repeat' (first | with_reducible rfl | (apply pick_eq) | split | (simp [h_regs, h_mem, h_fresh, h_ep, h_wg, h_ic, h_pn, h_sw, h_sf, h_ks]))
@[simp ↓] theorem State.abortCmd_blot (L : Piece → Bool) (s : State) (c : Cmd) (h_regs : L .regs = true) (h_mem : L .mem = true) (h_fresh : L .fresh = true) (h_ep : L .ep = true) (h_wg : L .wg = true) (h_ic : L .ic = true) (h_pn : L .pn = true) (h_can : L .can = true) (h_sw : L .sw = true) (h_sf : L .sf = true) (h_ks : L .ks = true)  :
    blot L (State.abortCmd s c).1 = blot L s := by
  unfold State.abortCmd
  (try simp [h_regs, h_mem, h_fresh, h_ep, h_wg, h_ic, h_pn, h_can, h_sw, h_sf, h_ks]) <;> repeat' (first | with_reducible rfl | (apply pick_eq) | split | (simp [h_regs, h_mem, h_fresh, h_ep, h_wg, h_ic, h_pn, h_can, h_sw, h_sf, h_ks]))
@[simp ↓] theorem State.touch_blot (L : Piece → Bool) (s : State) (e : Nat) (h_ep : L .ep = true)  :
    blot L (State.touch s e) = blot L s := by
  unfold State.touch
  (try simp [h_ep]) <;> repeat' (first | with_reducible rfl | (apply pick_eq) | split | (simp [h_ep]))
@[simp ↓] theorem State.takeHead_blot (L : Piece → Bool) (s : State) (e : Nat) (h_ep : L .ep = true)  :
    blot L (State.takeHead s e) = blot L s := by
  unfold State.takeHead
  (try simp [h_ep]) <;> repeat' (first | with_reducible rfl | (apply pick_eq) | split | (simp [h_ep]))
@[simp ↓] theorem State.fetchOne_blot (L : Piece → Bool) (s : State) (e : Nat) (h_regs : L .regs = true) (h_mem : L .mem = true) (h_ep : L .ep = true) (h_wg : L .wg = true) (h_ic : L .ic = true)  :
    blot L (State.fetchOne s e) = blot L s := by
  unfold State.fetchOne
  (try simp [h_regs, h_mem, h_ep, h_wg, h_ic]) <;> repeat' (first | with_reducible rfl | (apply pick_eq) | split | (simp [h_regs, h_mem, h_ep, h_wg, h_ic]))
@[simp ↓] theorem State.fetchTo_blot (L : Piece → Bool) (s : State) (e : Nat) (tail : Nat) (fuel : Nat) (h_regs : L .regs = true) (h_mem : L .mem = true) (h_ep : L .ep = true) (h_wg : L .wg = true) (h_ic : L .ic = true)  :
    blot L (State.fetchTo s e tail fuel) = blot L s := by
  induction fuel generalizing s with
  | zero => unfold State.fetchTo; rfl
  | succ m ih => unfold State.fetchTo; (repeat' split) <;> (try simp [h_regs, h_mem, h_ep, h_wg, h_ic, ih])
@[simp ↓] theorem State.abortDecide_blot (L : Piece → Bool) (s : State) (e : Nat) (h_regs : L .regs = true) (h_mem : L .mem = true) (h_fresh : L .fresh = true) (h_ep : L .ep = true) (h_wg : L .wg = true) (h_ic : L .ic = true) (h_pn : L .pn = true) (h_can : L .can = true) (h_sw : L .sw = true) (h_sf : L .sf = true) (h_ks : L .ks = true)  :
    blot L (State.abortDecide s e) = blot L s := by
  unfold State.abortDecide
  (try simp [h_regs, h_mem, h_fresh, h_ep, h_wg, h_ic, h_pn, h_can, h_sw, h_sf, h_ks]) <;> repeat' (first | with_reducible rfl | (apply pick_eq) | split | (simp [h_regs, h_mem, h_fresh, h_ep, h_wg, h_ic, h_pn, h_can, h_sw, h_sf, h_ks]))
@[simp ↓] theorem State.eachMember_blot (L : Piece → Bool) (s : State) (n : Nat) (f : State → Nat → State)  (hf : ∀ x0 x1, blot L (f x0 x1) = blot L x0) :
    blot L (State.eachMember s n f) = blot L s := by
  unfold State.eachMember
  (try simp [hf]) <;> repeat' (first | with_reducible rfl | (apply pick_eq) | split | (simp [hf]))
@[simp ↓] theorem State.setFlag_blot (L : Piece → Bool) (s : State) (f : Fld) (b : Bool) (h_regs : L .regs = true)  :
    blot L (State.setFlag s f b) = blot L s := by
  unfold State.setFlag
  (try simp [h_regs]) <;> repeat' (first | with_reducible rfl | (apply pick_eq) | split | (simp [h_regs]))
@[simp ↓] theorem State.setCmd_blot (L : Piece → Bool) (s : State) (n : Nat) (b : Bool) (h_regs : L .regs = true)  :
    blot L (State.setCmd s n b) = blot L s := by
  unfold State.setCmd
  (try simp [h_regs]) <;> repeat' (first | with_reducible rfl | (apply pick_eq) | split | (simp [h_regs]))
@[simp ↓] theorem State.setChan_blot (L : Piece → Bool) (s : State) (n : Nat) (c : Chan) (h_kb : L .kb = true)  :
    blot L (State.setChan s n c) = blot L s := by
  unfold State.setChan
  (try simp [h_kb]) <;> repeat' (first | with_reducible rfl | (apply pick_eq) | split | (simp [h_kb]))
@[simp ↓] theorem State.closeInrush_blot (L : Piece → Bool) (s : State) (n : Nat) (h_regs : L .regs = true) (h_kb : L .kb = true)  :
    blot L (State.closeInrush s n) = blot L s := by
  unfold State.closeInrush
  (try simp [h_regs, h_kb]) <;> repeat' (first | with_reducible rfl | (apply pick_eq) | split | (simp [h_regs, h_kb]))
@[simp ↓] theorem State.openInrush_blot (L : Piece → Bool) (s : State) (n : Nat) (h_regs : L .regs = true) (h_kb : L .kb = true)  :
    blot L (State.openInrush s n) = blot L s := by
  unfold State.openInrush
  (try simp [h_regs, h_kb]) <;> repeat' (first | with_reducible rfl | (apply pick_eq) | split | (simp [h_regs, h_kb]))
@[simp ↓] theorem State.outOn_blot (L : Piece → Bool) (s : State) (n : Nat) (window : Bool) (h_regs : L .regs = true) (h_kb : L .kb = true)  :
    blot L (State.outOn s n window) = blot L s := by
  unfold State.outOn
  (try simp [h_regs, h_kb]) <;> repeat' (first | with_reducible rfl | (apply pick_eq) | split | (simp [h_regs, h_kb]))
@[simp ↓] theorem State.drive_blot (L : Piece → Bool) (s : State) (n : Nat) (duty : Nat) (hz : Nat) (mode : Nat) (h_regs : L .regs = true) (h_kb : L .kb = true)  :
    blot L (State.drive s n duty hz mode) = blot L s := by
  unfold State.drive
  (try simp [h_regs, h_kb]) <;> repeat' (first | with_reducible rfl | (apply pick_eq) | split | (simp [h_regs, h_kb]))
@[simp ↓] theorem State.acceptOn_blot (L : Piece → Bool) (s : State) (n : Nat) (duty : Nat) (hz : Nat) (mode : Nat) (h_regs : L .regs = true) (h_kb : L .kb = true)  :
    blot L (State.acceptOn s n duty hz mode) = blot L s := by
  unfold State.acceptOn
  (try simp [h_regs, h_kb]) <;> repeat' (first | with_reducible rfl | (apply pick_eq) | split | (simp [h_regs, h_kb]))
@[simp ↓] theorem State.writeRec_blot (L : Piece → Bool) (s : State) (lastGood : Nat) (bootBank : Nat) (trial : Nat) (h_fresh : L .fresh = true) (h_up : L .up = true)  :
    blot L (State.writeRec s lastGood bootBank trial) = blot L s := by
  unfold State.writeRec
  (try simp [h_fresh, h_up]) <;> repeat' (first | with_reducible rfl | (apply pick_eq) | split | (simp [h_fresh, h_up]))
@[simp ↓] theorem State.outStop_blot (L : Piece → Bool) (s : State) (n : Nat) (slew : Nat) (h_regs : L .regs = true) (h_kb : L .kb = true)  :
    blot L (State.outStop s n slew) = blot L s := by
  unfold State.outStop
  (try simp [h_regs, h_kb]) <;> repeat' (first | with_reducible rfl | (apply pick_eq) | split | (simp [h_regs, h_kb]))
@[simp ↓] theorem State.outOff_blot (L : Piece → Bool) (s : State) (n : Nat) (h_regs : L .regs = true) (h_kb : L .kb = true)  :
    blot L (State.outOff s n) = blot L s := by
  unfold State.outOff
  (try simp [h_regs, h_kb]) <;> repeat' (first | with_reducible rfl | (apply pick_eq) | split | (simp [h_regs, h_kb]))
@[simp ↓] theorem State.kerbDown_blot (L : Piece → Bool) (s : State) (mode : Nat) (h_regs : L .regs = true) (h_kb : L .kb = true)  :
    blot L (State.kerbDown s mode) = blot L s := by
  unfold State.kerbDown
  (try simp [h_regs, h_kb]) <;> repeat' (first | with_reducible rfl | (apply pick_eq) | split | (simp [h_regs, h_kb]))
@[simp ↓] theorem State.setPin_blot (L : Piece → Bool) (s : State) (n : Nat) (p : Pin) (h_pn : L .pn = true)  :
    blot L (State.setPin s n p) = blot L s := by
  unfold State.setPin
  (try simp [h_pn]) <;> repeat' (first | with_reducible rfl | (apply pick_eq) | split | (simp [h_pn]))
@[simp ↓] theorem State.pinChange_blot (L : Piece → Bool) (s : State) (n : Nat) (code : Nat) (h_mem : L .mem = true) (h_ep : L .ep = true) (h_wg : L .wg = true) (h_ic : L .ic = true)  :
    blot L (State.pinChange s n code) = blot L s := by
  unfold State.pinChange
  (try simp [h_mem, h_ep, h_wg, h_ic]) <;> repeat' (first | with_reducible rfl | (apply pick_eq) | split | (simp [h_mem, h_ep, h_wg, h_ic]))
@[simp ↓] theorem State.setValue_blot (L : Piece → Bool) (s : State) (n : Nat) (v : Nat) (h_regs : L .regs = true) (h_mem : L .mem = true) (h_ep : L .ep = true) (h_wg : L .wg = true) (h_ic : L .ic = true)  :
    blot L (State.setValue s n v) = blot L s := by
  unfold State.setValue
  (try simp [h_regs, h_mem, h_ep, h_wg, h_ic]) <;> repeat' (first | with_reducible rfl | (apply pick_eq) | split | (simp [h_regs, h_mem, h_ep, h_wg, h_ic]))
@[simp ↓] theorem State.pinDrive_blot (L : Piece → Bool) (s : State) (n : Nat) (v : Nat) (h_regs : L .regs = true) (h_mem : L .mem = true) (h_ep : L .ep = true) (h_wg : L .wg = true) (h_ic : L .ic = true) (h_pn : L .pn = true)  :
    blot L (State.pinDrive s n v) = blot L s := by
  unfold State.pinDrive
  (try simp [h_regs, h_mem, h_ep, h_wg, h_ic, h_pn]) <;> repeat' (first | with_reducible rfl | (apply pick_eq) | split | (simp [h_regs, h_mem, h_ep, h_wg, h_ic, h_pn]))
@[simp ↓] theorem State.pinLaybyOne_blot (L : Piece → Bool) (s : State) (cause : Nat) (n : Nat) (h_regs : L .regs = true) (h_mem : L .mem = true) (h_ep : L .ep = true) (h_wg : L .wg = true) (h_ic : L .ic = true) (h_pn : L .pn = true)  :
    blot L (State.pinLaybyOne s cause n) = blot L s := by
  unfold State.pinLaybyOne
  (try simp [h_regs, h_mem, h_ep, h_wg, h_ic, h_pn]) <;> repeat' (first | with_reducible rfl | (apply pick_eq) | split | (simp [h_regs, h_mem, h_ep, h_wg, h_ic, h_pn]))
@[simp ↓] theorem State.pinsToLayby_blot (L : Piece → Bool) (s : State) (cause : Nat) (ds : Nat → Bool) (h_regs : L .regs = true) (h_mem : L .mem = true) (h_ep : L .ep = true) (h_wg : L .wg = true) (h_ic : L .ic = true) (h_pn : L .pn = true)  :
    blot L (State.pinsToLayby s cause ds) = blot L s := by
  unfold State.pinsToLayby
  (try simp [h_regs, h_mem, h_ep, h_wg, h_ic, h_pn]) <;> repeat' (first | with_reducible rfl | (apply pick_eq) | split | (simp [h_regs, h_mem, h_ep, h_wg, h_ic, h_pn]))
@[simp ↓] theorem State.faultRec_blot (L : Piece → Bool) (s : State) (n : Nat) (code : Nat) (h_regs : L .regs = true)  :
    blot L (State.faultRec s n code) = blot L s := by
  unfold State.faultRec
  (try simp [h_regs]) <;> repeat' (first | with_reducible rfl | (apply pick_eq) | split | (simp [h_regs]))
@[simp ↓] theorem State.kbLevels_blot (L : Piece → Bool) (s : State) (h_ic : L .ic = true)  :
    blot L (State.kbLevels s) = blot L s := by
  unfold State.kbLevels
  (try simp [h_ic]) <;> repeat' (first | with_reducible rfl | (apply pick_eq) | split | (simp [h_ic]))
@[simp ↓] theorem State.chEvent_blot (L : Piece → Bool) (s : State) (n : Nat) (code : Nat) (detail : Nat) (h_mem : L .mem = true) (h_ep : L .ep = true) (h_wg : L .wg = true) (h_ic : L .ic = true)  :
    blot L (State.chEvent s n code detail) = blot L s := by
  unfold State.chEvent
  (try simp [h_mem, h_ep, h_wg, h_ic]) <;> repeat' (first | with_reducible rfl | (apply pick_eq) | split | (simp [h_mem, h_ep, h_wg, h_ic]))
@[simp ↓] theorem State.diagEvent_blot (L : Piece → Bool) (s : State) (n : Nat) (code : Nat) (sticky : Option Nat) (h_regs : L .regs = true) (h_mem : L .mem = true) (h_ep : L .ep = true) (h_wg : L .wg = true) (h_ic : L .ic = true)  :
    blot L (State.diagEvent s n code sticky) = blot L s := by
  unfold State.diagEvent
  (try simp [h_regs, h_mem, h_ep, h_wg, h_ic]) <;> repeat' (first | with_reducible rfl | (apply pick_eq) | split | (simp [h_regs, h_mem, h_ep, h_wg, h_ic]))
@[simp ↓] theorem State.refused_blot (L : Piece → Bool) (s : State) (c : Cmd) (n : Nat) (code : Nat) (h_regs : L .regs = true) (h_mem : L .mem = true) (h_ep : L .ep = true) (h_wg : L .wg = true) (h_ic : L .ic = true)  :
    blot L (State.refused s c n code) = blot L s := by
  unfold State.refused
  (try simp [h_regs, h_mem, h_ep, h_wg, h_ic]) <;> repeat' (first | with_reducible rfl | (apply pick_eq) | split | (simp [h_regs, h_mem, h_ep, h_wg, h_ic]))
@[simp ↓] theorem State.laybyTimed_blot (L : Piece → Bool) (s : State) (n : Nat) (h_regs : L .regs = true) (h_mem : L .mem = true) (h_ep : L .ep = true) (h_wg : L .wg = true) (h_ic : L .ic = true)  :
    blot L (State.laybyTimed s n) = blot L s := by
  unfold State.laybyTimed
  (try simp [h_regs, h_mem, h_ep, h_wg, h_ic]) <;> repeat' (first | with_reducible rfl | (apply pick_eq) | split | (simp [h_regs, h_mem, h_ep, h_wg, h_ic]))
@[simp ↓] theorem State.applyOff_blot (L : Piece → Bool) (s : State) (n : Nat) (h_regs : L .regs = true) (h_kb : L .kb = true)  :
    blot L (State.applyOff s n) = blot L s := by
  unfold State.applyOff
  (try simp [h_regs, h_kb]) <;> repeat' (first | with_reducible rfl | (apply pick_eq) | split | (simp [h_regs, h_kb]))
@[simp ↓] theorem State.applyOn_blot (L : Piece → Bool) (s : State) (n : Nat) (duty : Nat) (hz : Nat) (mode : Nat) (h_regs : L .regs = true) (h_kb : L .kb = true)  :
    blot L (State.applyOn s n duty hz mode).2 = blot L s := by
  unfold State.applyOn
  (try simp [h_regs, h_kb]) <;> repeat' (first | with_reducible rfl | (apply pick_eq) | split | (simp [h_regs, h_kb]))
@[simp ↓] theorem State.laybyAction_blot (L : Piece → Bool) (s : State) (n : Nat) (h_regs : L .regs = true) (h_kb : L .kb = true)  :
    blot L (State.laybyAction s n) = blot L s := by
  unfold State.laybyAction
  (try simp [h_regs, h_kb]) <;> repeat' (first | with_reducible rfl | (apply pick_eq) | split | (simp [h_regs, h_kb]))
@[simp ↓] theorem State.enterLayby_blot (L : Piece → Bool) (s : State) (cause : Nat) (n : Nat) (h_regs : L .regs = true) (h_mem : L .mem = true) (h_ep : L .ep = true) (h_wg : L .wg = true) (h_ic : L .ic = true) (h_kb : L .kb = true)  :
    blot L (State.enterLayby s cause n) = blot L s := by
  unfold State.enterLayby
  (try simp [h_regs, h_mem, h_ep, h_wg, h_ic, h_kb]) <;> repeat' (first | with_reducible rfl | (apply pick_eq) | split | (simp [h_regs, h_mem, h_ep, h_wg, h_ic, h_kb]))
@[simp ↓] theorem State.channelsToLayby_blot (L : Piece → Bool) (s : State) (cause : Nat) (l : List Nat) (h_regs : L .regs = true) (h_mem : L .mem = true) (h_ep : L .ep = true) (h_wg : L .wg = true) (h_ic : L .ic = true) (h_kb : L .kb = true)  :
    blot L (State.channelsToLayby s cause l) = blot L s := by
  unfold State.channelsToLayby
  (try simp [h_regs, h_mem, h_ep, h_wg, h_ic, h_kb]) <;> repeat' (first | with_reducible rfl | (apply pick_eq) | split | (simp [h_regs, h_mem, h_ep, h_wg, h_ic, h_kb]))
@[simp ↓] theorem State.laybyAll_blot (L : Piece → Bool) (s : State) (cause : Nat) (h_regs : L .regs = true) (h_mem : L .mem = true) (h_ep : L .ep = true) (h_wg : L .wg = true) (h_ic : L .ic = true) (h_kb : L .kb = true) (h_pn : L .pn = true)  :
    blot L (State.laybyAll s cause) = blot L s := by
  unfold State.laybyAll
  (try simp [h_regs, h_mem, h_ep, h_wg, h_ic, h_kb, h_pn]) <;> repeat' (first | with_reducible rfl | (apply pick_eq) | split | (simp [h_regs, h_mem, h_ep, h_wg, h_ic, h_kb, h_pn]))
@[simp ↓] theorem State.lastWords_blot (L : Piece → Bool) (s : State) (trigger : Nat) (feedA : Nat) (feedB : Nat) (time : Nat) (h_fresh : L .fresh = true) (h_ao : L .ao = true)  :
    blot L (State.lastWords s trigger feedA feedB time) = blot L s := by
  unfold State.lastWords
  (try simp [h_fresh, h_ao]) <;> repeat' (first | with_reducible rfl | (apply pick_eq) | split | (simp [h_fresh, h_ao]))
@[simp ↓] theorem State.setTrx_blot (L : Piece → Bool) (s : State) (k : Nat) (x : Trx) (h_nm : L .nm = true)  :
    blot L (State.setTrx s k x) = blot L s := by
  unfold State.setTrx
  (try simp [h_nm]) <;> repeat' (first | with_reducible rfl | (apply pick_eq) | split | (simp [h_nm]))
@[simp ↓] theorem State.beatsStop_blot (L : Piece → Bool) (s : State) (h_nm : L .nm = true)  :
    blot L (State.beatsStop s) = blot L s := by
  unfold State.beatsStop
  (try simp [h_nm]) <;> repeat' (first | with_reducible rfl | (apply pick_eq) | split | (simp [h_nm]))
@[simp ↓] theorem State.ksDown_blot (L : Piece → Bool) (s : State) (h_ks : L .ks = true)  :
    blot L (State.ksDown s) = blot L s := by
  unfold State.ksDown
  (try simp [h_ks]) <;> repeat' (first | with_reducible rfl | (apply pick_eq) | split | (simp [h_ks]))
@[simp ↓] theorem State.setDsp_blot (L : Piece → Bool) (s : State) (d : Nat) (x : Dsp) (h_sf : L .sf = true)  :
    blot L (State.setDsp s d x) = blot L s := by
  unfold State.setDsp
  (try simp [h_sf]) <;> repeat' (first | with_reducible rfl | (apply pick_eq) | split | (simp [h_sf]))
@[simp ↓] theorem State.mainShop_blot (L : Piece → Bool) (s : State) (h_regs : L .regs = true) (h_sf : L .sf = true)  :
    blot L (State.mainShop s) = blot L s := by
  unfold State.mainShop
  (try simp [h_regs, h_sf]) <;> repeat' (first | with_reducible rfl | (apply pick_eq) | split | (simp [h_regs, h_sf]))
@[simp ↓] theorem State.mainOff_blot (L : Piece → Bool) (s : State) (h_regs : L .regs = true) (h_mem : L .mem = true) (h_shadows : L .shadows = true) (h_ao : L .ao = true) (h_ep : L .ep = true) (h_wg : L .wg = true) (h_ic : L .ic = true) (h_pn : L .pn = true) (h_can : L .can = true) (h_sw : L .sw = true) (h_ptp : L .ptp = true) (h_nm : L .nm = true) (h_sf : L .sf = true) (h_cp : L .cp = true) (h_ks : L .ks = true) (h_up : L .up = true) (h_ux : L .ux = true)  :
    blot L (State.mainOff s) = blot L s := by
  unfold State.mainOff
  (try simp [h_regs, h_mem, h_shadows, h_ao, h_ep, h_wg, h_ic, h_pn, h_can, h_sw, h_ptp, h_nm, h_sf, h_cp, h_ks, h_up, h_ux]) <;> repeat' (first | with_reducible rfl | (apply pick_eq) | split | (simp [h_regs, h_mem, h_shadows, h_ao, h_ep, h_wg, h_ic, h_pn, h_can, h_sw, h_ptp, h_nm, h_sf, h_cp, h_ks, h_up, h_ux]))
@[simp ↓] theorem State.bootsWith_blot (L : Piece → Bool) (s : State) (b : Nat) (h_ao : L .ao = true)  :
    blot L (State.bootsWith s b) = blot L s := by
  unfold State.bootsWith
  (try simp [h_ao]) <;> repeat' (first | with_reducible rfl | (apply pick_eq) | split | (simp [h_ao]))
@[simp ↓] theorem State.deviceRestart_blot (L : Piece → Bool) (s : State) (bit : Nat) (trigger : Option Nat) (h_dev : L .dev = true) (h_regs : L .regs = true) (h_mem : L .mem = true) (h_fresh : L .fresh = true) (h_shadows : L .shadows = true) (h_ao : L .ao = true) (h_ep : L .ep = true) (h_wg : L .wg = true) (h_ic : L .ic = true) (h_kb : L .kb = true) (h_pn : L .pn = true) (h_can : L .can = true) (h_sw : L .sw = true) (h_ptp : L .ptp = true) (h_nm : L .nm = true) (h_sf : L .sf = true) (h_cp : L .cp = true) (h_ks : L .ks = true) (h_up : L .up = true) (h_ux : L .ux = true)  :
    blot L (State.deviceRestart s bit trigger) = blot L s := by
  unfold State.deviceRestart
  (try simp [h_dev, h_regs, h_mem, h_fresh, h_shadows, h_ao, h_ep, h_wg, h_ic, h_kb, h_pn, h_can, h_sw, h_ptp, h_nm, h_sf, h_cp, h_ks, h_up, h_ux]) <;> repeat' (first | with_reducible rfl | (apply pick_eq) | split | (simp [h_dev, h_regs, h_mem, h_fresh, h_shadows, h_ao, h_ep, h_wg, h_ic, h_kb, h_pn, h_can, h_sw, h_ptp, h_nm, h_sf, h_cp, h_ks, h_up, h_ux]))
@[simp ↓] theorem State.dropLine_blot (L : Piece → Bool) (s : State) (l : L1Line) (h_mem : L .mem = true) (h_fresh : L .fresh = true)  :
    blot L (State.dropLine s l) = blot L s := by
  unfold State.dropLine
  (try simp [h_mem, h_fresh]) <;> repeat' (first | with_reducible rfl | (apply pick_eq) | split | (simp [h_mem, h_fresh]))
@[simp ↓] theorem State.flushL1_blot (L : Piece → Bool) (s : State) (core : Nat) (h_wg : L .wg = true)  :
    blot L (State.flushL1 s core) = blot L s := by
  unfold State.flushL1
  (try simp [h_wg]) <;> repeat' (first | with_reducible rfl | (apply pick_eq) | split | (simp [h_wg]))
@[simp ↓] theorem State.dropCaches_blot (L : Piece → Bool) (s : State) (p : Nat) (h_mem : L .mem = true) (h_fresh : L .fresh = true) (h_wg : L .wg = true)  :
    blot L (State.dropCaches s p) = blot L s := by
  unfold State.dropCaches
  (try simp [h_mem, h_fresh, h_wg]) <;> repeat' (first | with_reducible rfl | (apply pick_eq) | split | (simp [h_mem, h_fresh, h_wg]))
@[simp ↓] theorem State.laybyRestart_blot (L : Piece → Bool) (s : State) (d : Nat) (h_regs : L .regs = true) (h_mem : L .mem = true) (h_ep : L .ep = true) (h_wg : L .wg = true) (h_ic : L .ic = true) (h_kb : L .kb = true) (h_pn : L .pn = true)  :
    blot L (State.laybyRestart s d) = blot L s := by
  unfold State.laybyRestart
  (try simp [h_regs, h_mem, h_ep, h_wg, h_ic, h_kb, h_pn]) <;> repeat' (first | with_reducible rfl | (apply pick_eq) | split | (simp [h_regs, h_mem, h_ep, h_wg, h_ic, h_kb, h_pn]))
@[simp ↓] theorem State.dropMail_blot (L : Piece → Bool) (s : State) (d : Nat) (h_regs : L .regs = true) (h_ep : L .ep = true)  :
    blot L (State.dropMail s d) = blot L s := by
  unfold State.dropMail
  (try simp [h_regs, h_ep]) <;> repeat' (first | with_reducible rfl | (apply pick_eq) | split | (simp [h_regs, h_ep]))
@[simp ↓] theorem State.needPage_blot (L : Piece → Bool) (s : State) (e : Nat) (h_ep : L .ep = true)  :
    blot L (State.needPage s e) = blot L s := by
  unfold State.needPage
  (try simp [h_ep]) <;> repeat' (first | with_reducible rfl | (apply pick_eq) | split | (simp [h_ep]))
@[simp ↓] theorem State.epLevels_blot (L : Piece → Bool) (s : State) (h_ic : L .ic = true)  :
    blot L (State.epLevels s) = blot L s := by
  unfold State.epLevels
  (try simp [h_ic]) <;> repeat' (first | with_reducible rfl | (apply pick_eq) | split | (simp [h_ic]))
@[simp ↓] theorem State.epCount_blot (L : Piece → Bool) (s : State) (c : Nat) (h_regs : L .regs = true) (h_ic : L .ic = true)  :
    blot L (State.epCount s c) = blot L s := by
  unfold State.epCount
  (try simp [h_regs, h_ic]) <;> repeat' (first | with_reducible rfl | (apply pick_eq) | split | (simp [h_regs, h_ic]))
@[simp ↓] theorem State.seat_blot (L : Piece → Bool) (s : State) (e : Nat) (k : Nat) (h_regs : L .regs = true) (h_ep : L .ep = true) (h_ic : L .ic = true)  :
    blot L (State.seat s e k) = blot L s := by
  unfold State.seat
  (try simp [h_regs, h_ep, h_ic]) <;> repeat' (first | with_reducible rfl | (apply pick_eq) | split | (simp [h_regs, h_ep, h_ic]))
@[simp ↓] theorem State.unseat_blot (L : Piece → Bool) (s : State) (e : Nat) (h_ep : L .ep = true)  :
    blot L (State.unseat s e) = blot L s := by
  unfold State.unseat
  (try simp [h_ep]) <;> repeat' (first | with_reducible rfl | (apply pick_eq) | split | (simp [h_ep]))
@[simp ↓] theorem State.pageWait_blot (L : Piece → Bool) (s : State) (h_regs : L .regs = true) (h_ep : L .ep = true) (h_ic : L .ic = true)  :
    blot L (State.pageWait s) = blot L s := by
  unfold State.pageWait
  (try simp [h_regs, h_ep, h_ic]) <;> repeat' (first | with_reducible rfl | (apply pick_eq) | split | (simp [h_regs, h_ep, h_ic]))
@[simp ↓] theorem State.pageIn_blot (L : Piece → Bool) (s : State) (e : Nat) (h_regs : L .regs = true) (h_ep : L .ep = true) (h_ic : L .ic = true)  :
    blot L (State.pageIn s e) = blot L s := by
  unfold State.pageIn
  (try simp [h_regs, h_ep, h_ic]) <;> repeat' (first | with_reducible rfl | (apply pick_eq) | split | (simp [h_regs, h_ep, h_ic]))
@[simp ↓] theorem State.servePage_blot (L : Piece → Bool) (s : State) (h_regs : L .regs = true) (h_ep : L .ep = true) (h_ic : L .ic = true)  :
    blot L (State.servePage s) = blot L s := by
  unfold State.servePage
  (try simp [h_regs, h_ep, h_ic]) <;> repeat' (first | with_reducible rfl | (apply pick_eq) | split | (simp [h_regs, h_ep, h_ic]))
@[simp ↓] theorem State.resident_blot (L : Piece → Bool) (s : State) (e : Nat) (h_regs : L .regs = true) (h_ep : L .ep = true) (h_ic : L .ic = true)  :
    blot L (State.resident s e) = blot L s := by
  unfold State.resident
  (try simp [h_regs, h_ep, h_ic]) <;> repeat' (first | with_reducible rfl | (apply pick_eq) | split | (simp [h_regs, h_ep, h_ic]))
@[simp ↓] theorem State.setPools_blot (L : Piece → Bool) (s : State) (credits : Nat) (timers : Nat) (cells : Nat) (can : Nat) (h_regs : L .regs = true)  :
    blot L (State.setPools s credits timers cells can) = blot L s := by
  unfold State.setPools
  (try simp [h_regs]) <;> repeat' (first | with_reducible rfl | (apply pick_eq) | split | (simp [h_regs]))
@[simp ↓] theorem State.destroyEnd_blot (L : Piece → Bool) (s : State) (e : Nat) (h_regs : L .regs = true) (h_ep : L .ep = true)  :
    blot L (State.destroyEnd s e) = blot L s := by
  unfold State.destroyEnd
  (try simp [h_regs, h_ep]) <;> repeat' (first | with_reducible rfl | (apply pick_eq) | split | (simp [h_regs, h_ep]))
@[simp ↓] theorem State.setResult_blot (L : Piece → Bool) (s : State) (payload : List Byte) (h_regs : L .regs = true)  :
    blot L (State.setResult s payload) = blot L s := by
  unfold State.setResult
  (try simp [h_regs]) <;> repeat' (first | with_reducible rfl | (apply pick_eq) | split | (simp [h_regs]))
@[simp ↓] theorem State.respond_blot (L : Piece → Bool) (s : State) (d : Nat) (seq : Nat) (msg : Nat) (code : Nat) (no : Nat) (payload : List Byte) (h_mem : L .mem = true) (h_ep : L .ep = true) (h_wg : L .wg = true)  :
    blot L (State.respond s d seq msg code no payload) = blot L s := by
  unfold State.respond
  (try simp [h_mem, h_ep, h_wg]) <;> repeat' (first | with_reducible rfl | (apply pick_eq) | split | (simp [h_mem, h_ep, h_wg]))
@[simp ↓] theorem State.opEnd_blot (L : Piece → Bool) (s : State) (o : EpOp) (code : Nat) (no : Nat) (payload : List Byte) (h_regs : L .regs = true) (h_mem : L .mem = true) (h_ep : L .ep = true) (h_wg : L .wg = true)  :
    blot L (State.opEnd s o code no payload) = blot L s := by
  unfold State.opEnd
  (try simp [h_regs, h_mem, h_ep, h_wg]) <;> repeat' (first | with_reducible rfl | (apply pick_eq) | split | (simp [h_regs, h_mem, h_ep, h_wg]))
@[simp ↓] theorem State.destroyResponse_blot (L : Piece → Bool) (s : State) (e : Nat) (h_regs : L .regs = true) (h_mem : L .mem = true) (h_ep : L .ep = true) (h_wg : L .wg = true)  :
    blot L (State.destroyResponse s e) = blot L s := by
  unfold State.destroyResponse
  (try simp [h_regs, h_mem, h_ep, h_wg]) <;> repeat' (first | with_reducible rfl | (apply pick_eq) | split | (simp [h_regs, h_mem, h_ep, h_wg]))
@[simp ↓] theorem State.setOcc_blot (L : Piece → Bool) (s : State) (p : Nat) (tc : Nat) (n : Nat) (h_regs : L .regs = true)  :
    blot L (State.setOcc s p tc n) = blot L s := by
  unfold State.setOcc
  (try simp [h_regs]) <;> repeat' (first | with_reducible rfl | (apply pick_eq) | split | (simp [h_regs]))
@[simp ↓] theorem State.release_blot (L : Piece → Bool) (s : State) (p : Nat) (tc : Nat) (n : Nat) (h_regs : L .regs = true)  :
    blot L (State.release s p tc n) = blot L s := by
  unfold State.release
  (try simp [h_regs]) <;> repeat' (first | with_reducible rfl | (apply pick_eq) | split | (simp [h_regs]))
@[simp ↓] theorem State.epOcc_blot (L : Piece → Bool) (s : State) (e : Nat) (n : Nat) (h_ep : L .ep = true)  :
    blot L (State.epOcc s e n) = blot L s := by
  unfold State.epOcc
  (try simp [h_ep]) <;> repeat' (first | with_reducible rfl | (apply pick_eq) | split | (simp [h_ep]))
@[simp ↓] theorem State.setCopies_blot (L : Piece → Bool) (s : State) (l : List SwCopy) (h_sw : L .sw = true)  :
    blot L (State.setCopies s l) = blot L s := by
  unfold State.setCopies
  (try simp [h_sw]) <;> repeat' (first | with_reducible rfl | (apply pick_eq) | split | (simp [h_sw]))
@[simp ↓] theorem State.putCopy_blot (L : Piece → Bool) (s : State) (c : SwCopy) (h_sw : L .sw = true)  :
    blot L (State.putCopy s c) = blot L s := by
  unfold State.putCopy
  (try simp [h_sw]) <;> repeat' (first | with_reducible rfl | (apply pick_eq) | split | (simp [h_sw]))
@[simp ↓] theorem State.releaseCopy_blot (L : Piece → Bool) (s : State) (c : SwCopy) (h_regs : L .regs = true) (h_ep : L .ep = true) (h_sw : L .sw = true)  :
    blot L (State.releaseCopy s c) = blot L s := by
  unfold State.releaseCopy
  (try simp [h_regs, h_ep, h_sw]) <;> repeat' (first | with_reducible rfl | (apply pick_eq) | split | (simp [h_regs, h_ep, h_sw]))
@[simp ↓] theorem State.dropCopy_blot (L : Piece → Bool) (s : State) (c : SwCopy) (h_regs : L .regs = true) (h_ep : L .ep = true) (h_sw : L .sw = true)  :
    blot L (State.dropCopy s c) = blot L s := by
  unfold State.dropCopy
  (try simp [h_regs, h_ep, h_sw]) <;> repeat' (first | with_reducible rfl | (apply pick_eq) | split | (simp [h_regs, h_ep, h_sw]))
@[simp ↓] theorem State.setFrames_blot (L : Piece → Bool) (s : State) (l : List SwFrame) (h_sw : L .sw = true)  :
    blot L (State.setFrames s l) = blot L s := by
  unfold State.setFrames
  (try simp [h_sw]) <;> repeat' (first | with_reducible rfl | (apply pick_eq) | split | (simp [h_sw]))
@[simp ↓] theorem State.sweepFrames_blot (L : Piece → Bool) (s : State) (h_sw : L .sw = true)  :
    blot L (State.sweepFrames s) = blot L s := by
  unfold State.sweepFrames
  (try simp [h_sw]) <;> repeat' (first | with_reducible rfl | (apply pick_eq) | split | (simp [h_sw]))
@[simp ↓] theorem State.freeToPool_blot (L : Piece → Bool) (s : State) (kind : Nat) (n : Nat) (h_regs : L .regs = true)  :
    blot L (State.freeToPool s kind n) = blot L s := by
  unfold State.freeToPool
  (try simp [h_regs]) <;> repeat' (first | with_reducible rfl | (apply pick_eq) | split | (simp [h_regs]))
@[simp ↓] theorem State.answerResize_blot (L : Piece → Bool) (s : State) (e : Nat) (z : Resize) (h_mem : L .mem = true) (h_ep : L .ep = true) (h_wg : L .wg = true)  :
    blot L (State.answerResize s e z) = blot L s := by
  unfold State.answerResize
  (try simp [h_mem, h_ep, h_wg]) <;> repeat' (first | with_reducible rfl | (apply pick_eq) | split | (simp [h_mem, h_ep, h_wg]))
@[simp ↓] theorem State.destroyQueues_blot (L : Piece → Bool) (s : State) (e : Nat) (h_regs : L .regs = true) (h_mem : L .mem = true) (h_ep : L .ep = true) (h_wg : L .wg = true) (h_sw : L .sw = true)  :
    blot L (State.destroyQueues s e) = blot L s := by
  unfold State.destroyQueues
  (try simp [h_regs, h_mem, h_ep, h_wg, h_sw]) <;> repeat' (first | with_reducible rfl | (apply pick_eq) | split | (simp [h_regs, h_mem, h_ep, h_wg, h_sw]))
@[simp ↓] theorem State.destroyCommit_blot (L : Piece → Bool) (s : State) (e : Nat) (h_regs : L .regs = true) (h_mem : L .mem = true) (h_fresh : L .fresh = true) (h_ep : L .ep = true) (h_wg : L .wg = true) (h_ic : L .ic = true) (h_pn : L .pn = true) (h_can : L .can = true) (h_sw : L .sw = true) (h_sf : L .sf = true) (h_ks : L .ks = true)  :
    blot L (State.destroyCommit s e) = blot L s := by
  unfold State.destroyCommit
  (try simp [h_regs, h_mem, h_fresh, h_ep, h_wg, h_ic, h_pn, h_can, h_sw, h_sf, h_ks]) <;> repeat' (first | with_reducible rfl | (apply pick_eq) | split | (simp [h_regs, h_mem, h_fresh, h_ep, h_wg, h_ic, h_pn, h_can, h_sw, h_sf, h_ks]))
@[simp ↓] theorem State.restartEp_blot (L : Piece → Bool) (s : State) (e : Nat) (h_regs : L .regs = true) (h_mem : L .mem = true) (h_fresh : L .fresh = true) (h_ep : L .ep = true) (h_wg : L .wg = true) (h_ic : L .ic = true) (h_pn : L .pn = true) (h_can : L .can = true) (h_sw : L .sw = true) (h_sf : L .sf = true) (h_ks : L .ks = true)  :
    blot L (State.restartEp s e) = blot L s := by
  unfold State.restartEp
  (try simp [h_regs, h_mem, h_fresh, h_ep, h_wg, h_ic, h_pn, h_can, h_sw, h_sf, h_ks]) <;> repeat' (first | with_reducible rfl | (apply pick_eq) | split | (simp [h_regs, h_mem, h_fresh, h_ep, h_wg, h_ic, h_pn, h_can, h_sw, h_sf, h_ks]))
@[simp ↓] theorem State.mboxInit_blot (L : Piece → Bool) (s : State) (d : Nat) (h_mem : L .mem = true) (h_wg : L .wg = true)  :
    blot L (State.mboxInit s d) = blot L s := by
  unfold State.mboxInit
  (try simp [h_mem, h_wg]) <;> repeat' (first | with_reducible rfl | (apply pick_eq) | split | (simp [h_mem, h_wg]))
@[simp ↓] theorem State.startDistrict_blot (L : Piece → Bool) (s : State) (d : Nat) (h_mem : L .mem = true) (h_ep : L .ep = true) (h_wg : L .wg = true)  :
    blot L (State.startDistrict s d) = blot L s := by
  unfold State.startDistrict
  (try simp [h_mem, h_ep, h_wg]) <;> repeat' (first | with_reducible rfl | (apply pick_eq) | split | (simp [h_mem, h_ep, h_wg]))
@[simp ↓] theorem State.tryDistrict_blot (L : Piece → Bool) (s : State) (d : Nat) (h_mem : L .mem = true) (h_ep : L .ep = true) (h_wg : L .wg = true)  :
    blot L (State.tryDistrict s d) = blot L s := by
  unfold State.tryDistrict
  (try simp [h_mem, h_ep, h_wg]) <;> repeat' (first | with_reducible rfl | (apply pick_eq) | split | (simp [h_mem, h_ep, h_wg]))
@[simp ↓] theorem State.restartGoesOn_blot (L : Piece → Bool) (s : State) (d : Nat) (h_regs : L .regs = true) (h_mem : L .mem = true) (h_fresh : L .fresh = true) (h_ep : L .ep = true) (h_wg : L .wg = true) (h_ic : L .ic = true) (h_pn : L .pn = true) (h_can : L .can = true) (h_sw : L .sw = true) (h_sf : L .sf = true) (h_ks : L .ks = true)  :
    blot L (State.restartGoesOn s d) = blot L s := by
  unfold State.restartGoesOn
  (try simp [h_regs, h_mem, h_fresh, h_ep, h_wg, h_ic, h_pn, h_can, h_sw, h_sf, h_ks]) <;> repeat' (first | with_reducible rfl | (apply pick_eq) | split | (simp [h_regs, h_mem, h_fresh, h_ep, h_wg, h_ic, h_pn, h_can, h_sw, h_sf, h_ks]))
@[simp ↓] theorem State.restartDistrict_blot (L : Piece → Bool) (s : State) (d : Nat) (h_regs : L .regs = true) (h_mem : L .mem = true) (h_fresh : L .fresh = true) (h_ep : L .ep = true) (h_wg : L .wg = true) (h_ic : L .ic = true) (h_kb : L .kb = true) (h_pn : L .pn = true) (h_can : L .can = true) (h_sw : L .sw = true) (h_sf : L .sf = true) (h_ks : L .ks = true)  :
    blot L (State.restartDistrict s d) = blot L s := by
  unfold State.restartDistrict
  (try simp [h_regs, h_mem, h_fresh, h_ep, h_wg, h_ic, h_kb, h_pn, h_can, h_sw, h_sf, h_ks]) <;> repeat' (first | with_reducible rfl | (apply pick_eq) | split | (simp [h_regs, h_mem, h_fresh, h_ep, h_wg, h_ic, h_kb, h_pn, h_can, h_sw, h_sf, h_ks]))
@[simp ↓] theorem State.lateRestarts_blot (L : Piece → Bool) (s : State) (h_regs : L .regs = true) (h_mem : L .mem = true) (h_fresh : L .fresh = true) (h_ep : L .ep = true) (h_wg : L .wg = true) (h_ic : L .ic = true) (h_kb : L .kb = true) (h_pn : L .pn = true) (h_can : L .can = true) (h_sw : L .sw = true) (h_sf : L .sf = true) (h_ks : L .ks = true)  :
    blot L (State.lateRestarts s) = blot L s := by
  unfold State.lateRestarts
  (try simp [h_regs, h_mem, h_fresh, h_ep, h_wg, h_ic, h_kb, h_pn, h_can, h_sw, h_sf, h_ks]) <;> repeat' (first | with_reducible rfl | (apply pick_eq) | split | (simp [h_regs, h_mem, h_fresh, h_ep, h_wg, h_ic, h_kb, h_pn, h_can, h_sw, h_sf, h_ks]))
@[simp ↓] theorem State.latchLevels_blot (L : Piece → Bool) (s : State) (h_ic : L .ic = true)  :
    blot L (State.latchLevels s) = blot L s := by
  unfold State.latchLevels
  (try simp [h_ic]) <;> repeat' (first | with_reducible rfl | (apply pick_eq) | split | (simp [h_ic]))
@[simp ↓] theorem State.cyFailed_blot (L : Piece → Bool) (s : State) (c : Nat) (code : Nat) (h_regs : L .regs = true) (h_wg : L .wg = true) (h_ic : L .ic = true)  :
    blot L (State.cyFailed s c code) = blot L s := by
  unfold State.cyFailed
  (try simp [h_regs, h_wg, h_ic]) <;> repeat' (first | with_reducible rfl | (apply pick_eq) | split | (simp [h_regs, h_wg, h_ic]))
@[simp ↓] theorem State.setHart_blot (L : Piece → Bool) (s : State) (c : Nat) (x : Hart) (h_wg : L .wg = true)  :
    blot L (State.setHart s c x) = blot L s := by
  unfold State.setHart
  (try simp [h_wg]) <;> repeat' (first | with_reducible rfl | (apply pick_eq) | split | (simp [h_wg]))
@[simp ↓] theorem State.faultedCall_blot (L : Piece → Bool) (s : State) (core : Nat) (h_regs : L .regs = true) (h_mem : L .mem = true) (h_fresh : L .fresh = true) (h_ep : L .ep = true) (h_wg : L .wg = true) (h_ic : L .ic = true) (h_kb : L .kb = true) (h_pn : L .pn = true) (h_can : L .can = true) (h_sw : L .sw = true) (h_sf : L .sf = true) (h_ks : L .ks = true)  :
    blot L (State.faultedCall s core) = blot L s := by
  unfold State.faultedCall
  (try simp [h_regs, h_mem, h_fresh, h_ep, h_wg, h_ic, h_kb, h_pn, h_can, h_sw, h_sf, h_ks]) <;> repeat' (first | with_reducible rfl | (apply pick_eq) | split | (simp [h_regs, h_mem, h_fresh, h_ep, h_wg, h_ic, h_kb, h_pn, h_can, h_sw, h_sf, h_ks]))
@[simp ↓] theorem State.haltPair_blot (L : Piece → Bool) (s : State) (p : Nat) (h_regs : L .regs = true) (h_mem : L .mem = true) (h_fresh : L .fresh = true) (h_ep : L .ep = true) (h_wg : L .wg = true) (h_ic : L .ic = true) (h_kb : L .kb = true) (h_pn : L .pn = true) (h_can : L .can = true) (h_sw : L .sw = true) (h_sf : L .sf = true) (h_ks : L .ks = true)  :
    blot L (State.haltPair s p) = blot L s := by
  unfold State.haltPair
  (try simp [h_regs, h_mem, h_fresh, h_ep, h_wg, h_ic, h_kb, h_pn, h_can, h_sw, h_sf, h_ks]) <;> repeat' (first | with_reducible rfl | (apply pick_eq) | split | (simp [h_regs, h_mem, h_fresh, h_ep, h_wg, h_ic, h_kb, h_pn, h_can, h_sw, h_sf, h_ks]))
@[simp ↓] theorem State.setPair_blot (L : Piece → Bool) (s : State) (p : Nat) (x : PairSt) (h_cp : L .cp = true)  :
    blot L (State.setPair s p x) = blot L s := by
  unfold State.setPair
  (try simp [h_cp]) <;> repeat' (first | with_reducible rfl | (apply pick_eq) | split | (simp [h_cp]))
@[simp ↓] theorem State.setGate_blot (L : Piece → Bool) (s : State) (p : Nat) (g : List GateEnt) (h_regs : L .regs = true) (h_cp : L .cp = true)  :
    blot L (State.setGate s p g) = blot L s := by
  unfold State.setGate
  (try simp [h_regs, h_cp]) <;> repeat' (first | with_reducible rfl | (apply pick_eq) | split | (simp [h_regs, h_cp]))
@[simp ↓] theorem State.cpLevels_blot (L : Piece → Bool) (s : State) (h_ic : L .ic = true)  :
    blot L (State.cpLevels s) = blot L s := by
  unfold State.cpLevels
  (try simp [h_ic]) <;> repeat' (first | with_reducible rfl | (apply pick_eq) | split | (simp [h_ic]))
@[simp ↓] theorem State.cpEvent_blot (L : Piece → Bool) (s : State) (p : Nat) (c : Nat) (h_regs : L .regs = true) (h_ic : L .ic = true)  :
    blot L (State.cpEvent s p c) = blot L s := by
  unfold State.cpEvent
  (try simp [h_regs, h_ic]) <;> repeat' (first | with_reducible rfl | (apply pick_eq) | split | (simp [h_regs, h_ic]))
@[simp ↓] theorem State.discardGate_blot (L : Piece → Bool) (s : State) (p : Nat) (h_regs : L .regs = true) (h_ic : L .ic = true) (h_cp : L .cp = true)  :
    blot L (State.discardGate s p) = blot L s := by
  unfold State.discardGate
  (try simp [h_regs, h_ic, h_cp]) <;> repeat' (first | with_reducible rfl | (apply pick_eq) | split | (simp [h_regs, h_ic, h_cp]))
@[simp ↓] theorem State.rechoose_blot (L : Piece → Bool) (s : State) (n : Nat) (h_ic : L .ic = true)  :
    blot L (State.rechoose s n) = blot L s := by
  unfold State.rechoose
  (try simp [h_ic]) <;> repeat' (first | with_reducible rfl | (apply pick_eq) | split | (simp [h_ic]))
@[simp ↓] theorem State.rechooseAll_blot (L : Piece → Bool) (s : State) (h_ic : L .ic = true)  :
    blot L (State.rechooseAll s) = blot L s := by
  unfold State.rechooseAll
  (try simp [h_ic]) <;> repeat' (first | with_reducible rfl | (apply pick_eq) | split | (simp [h_ic]))
@[simp ↓] theorem State.setPairState_blot (L : Piece → Bool) (s : State) (p : Nat) (st : Nat) (h_regs : L .regs = true) (h_ic : L .ic = true)  :
    blot L (State.setPairState s p st) = blot L s := by
  unfold State.setPairState
  (try simp [h_regs, h_ic]) <;> repeat' (first | with_reducible rfl | (apply pick_eq) | split | (simp [h_regs, h_ic]))
@[simp ↓] theorem State.faultOut_blot (L : Piece → Bool) (s : State) (pair : Bool) (checker : Bool) (h_regs : L .regs = true) (h_ic : L .ic = true)  :
    blot L (State.faultOut s pair checker) = blot L s := by
  unfold State.faultOut
  (try simp [h_regs, h_ic]) <;> repeat' (first | with_reducible rfl | (apply pick_eq) | split | (simp [h_regs, h_ic]))
@[simp ↓] theorem State.laybyPair_blot (L : Piece → Bool) (s : State) (p : Nat) (h_regs : L .regs = true) (h_mem : L .mem = true) (h_ep : L .ep = true) (h_wg : L .wg = true) (h_ic : L .ic = true) (h_kb : L .kb = true) (h_pn : L .pn = true)  :
    blot L (State.laybyPair s p) = blot L s := by
  unfold State.laybyPair
  (try simp [h_regs, h_mem, h_ep, h_wg, h_ic, h_kb, h_pn]) <;> repeat' (first | with_reducible rfl | (apply pick_eq) | split | (simp [h_regs, h_mem, h_ep, h_wg, h_ic, h_kb, h_pn]))
@[simp ↓] theorem State.pairFault_blot (L : Piece → Bool) (s : State) (p : Nat) (fault : Nat) (h_regs : L .regs = true) (h_mem : L .mem = true) (h_fresh : L .fresh = true) (h_ep : L .ep = true) (h_wg : L .wg = true) (h_ic : L .ic = true) (h_kb : L .kb = true) (h_pn : L .pn = true) (h_can : L .can = true) (h_sw : L .sw = true) (h_sf : L .sf = true) (h_cp : L .cp = true) (h_ks : L .ks = true)  :
    blot L (State.pairFault s p fault) = blot L s := by
  unfold State.pairFault
  (try simp [h_regs, h_mem, h_fresh, h_ep, h_wg, h_ic, h_kb, h_pn, h_can, h_sw, h_sf, h_cp, h_ks]) <;> repeat' (first | with_reducible rfl | (apply pick_eq) | split | (simp [h_regs, h_mem, h_fresh, h_ep, h_wg, h_ic, h_kb, h_pn, h_can, h_sw, h_sf, h_cp, h_ks]))
@[simp ↓] theorem State.coreFault_blot (L : Piece → Bool) (s : State) (who : Who) (cause : Nat) (h_wg : L .wg = true)  :
    blot L (State.coreFault s who cause) = blot L s := by
  unfold State.coreFault
  (try simp [h_wg]) <;> repeat' (first | with_reducible rfl | (apply pick_eq) | split | (simp [h_wg]))
@[simp ↓] theorem State.reject_blot (L : Piece → Bool) (s : State) (n : Nat) (code : Nat) (who : Who) (write : Bool) (addr : Nat) (h_regs : L .regs = true) (h_ic : L .ic = true)  :
    blot L (State.reject s n code who write addr) = blot L s := by
  unfold State.reject
  (try simp [h_regs, h_ic]) <;> repeat' (first | with_reducible rfl | (apply pick_eq) | split | (simp [h_regs, h_ic]))
@[simp ↓] theorem State.storeFault_blot (L : Piece → Bool) (s : State) (who : Who) (code : Nat) (a : Nat) (h_regs : L .regs = true) (h_wg : L .wg = true) (h_ic : L .ic = true)  :
    blot L (State.storeFault s who code a) = blot L s := by
  unfold State.storeFault
  (try simp [h_regs, h_wg, h_ic]) <;> repeat' (first | with_reducible rfl | (apply pick_eq) | split | (simp [h_regs, h_wg, h_ic]))
@[simp ↓] theorem State.gatePush_blot (L : Piece → Bool) (s : State) (p : Nat) (who : Who) (a : Nat) (data : List Byte) (h_regs : L .regs = true) (h_resp : L .resp = true) (h_cp : L .cp = true)  :
    blot L (State.gatePush s p who a data) = blot L s := by
  unfold State.gatePush
  (try simp [h_regs, h_resp, h_cp]) <;> repeat' (first | with_reducible rfl | (apply pick_eq) | split | (simp [h_regs, h_resp, h_cp]))
@[simp ↓] theorem State.gatedStore_blot (L : Piece → Bool) (s : State) (who : Who) (a : Nat) (data : List Byte) (amo : Bool) (h_regs : L .regs = true) (h_resp : L .resp = true) (h_wg : L .wg = true) (h_ic : L .ic = true) (h_cp : L .cp = true)  :
    blot L (State.gatedStore s who a data amo) = blot L s := by
  unfold State.gatedStore
  (try simp [h_regs, h_resp, h_wg, h_ic, h_cp]) <;> repeat' (first | with_reducible rfl | (apply pick_eq) | split | (simp [h_regs, h_resp, h_wg, h_ic, h_cp]))
@[simp ↓] theorem State.refuseWrite_blot (L : Piece → Bool) (s : State) (n : Nat) (code : Nat) (who : Who) (a : Nat) (h_regs : L .regs = true) (h_resp : L .resp = true) (h_ic : L .ic = true)  :
    blot L (State.refuseWrite s n code who a) = blot L s := by
  unfold State.refuseWrite
  (try simp [h_regs, h_resp, h_ic]) <;> repeat' (first | with_reducible rfl | (apply pick_eq) | split | (simp [h_regs, h_resp, h_ic]))
@[simp ↓] theorem State.regWrite_blot (L : Piece → Bool) (s : State) (who : Who) (bytes : Nat) (a : Nat) (w : Word) (held : Bool) (bad : Bool) (refuse : Nat) (effect : State → State) (h_regs : L .regs = true) (h_resp : L .resp = true) (h_wg : L .wg = true) (h_ic : L .ic = true) (h_cp : L .cp = true) (heffect : ∀ x0, blot L (effect x0) = blot L x0) :
    blot L (State.regWrite s who bytes a w held bad refuse effect) = blot L s := by
  unfold State.regWrite
  (try simp [h_regs, h_resp, h_wg, h_ic, h_cp, heffect]) <;> repeat' (first | with_reducible rfl | (apply pick_eq) | split | (simp [h_regs, h_resp, h_wg, h_ic, h_cp, heffect]))
@[simp ↓] theorem State.epCmdWrite_blot (L : Piece → Bool) (s : State) (who : Who) (bytes : Nat) (w : Word) (h_regs : L .regs = true) (h_resp : L .resp = true) (h_ep : L .ep = true) (h_wg : L .wg = true) (h_ic : L .ic = true) (h_cp : L .cp = true)  :
    blot L (State.epCmdWrite s who bytes w) = blot L s := by
  unfold State.epCmdWrite
  (try simp [h_regs, h_resp, h_ep, h_wg, h_ic, h_cp]) <;> repeat' (first | with_reducible rfl | (apply pick_eq) | split | (simp [h_regs, h_resp, h_ep, h_wg, h_ic, h_cp]))
@[simp ↓] theorem State.clearNotice_blot (L : Piece → Bool) (s : State) (e : Nat) (h_ep : L .ep = true) (h_ic : L .ic = true)  :
    blot L (State.clearNotice s e) = blot L s := by
  unfold State.clearNotice
  (try simp [h_ep, h_ic]) <;> repeat' (first | with_reducible rfl | (apply pick_eq) | split | (simp [h_ep, h_ic]))
@[simp ↓] theorem State.ep0Rings_blot (L : Piece → Bool) (s : State) (h_ep : L .ep = true) (h_ic : L .ic = true)  :
    blot L (State.ep0Rings s) = blot L s := by
  unfold State.ep0Rings
  (try simp [h_ep, h_ic]) <;> repeat' (first | with_reducible rfl | (apply pick_eq) | split | (simp [h_ep, h_ic]))
@[simp ↓] theorem State.ep0Write_blot (L : Piece → Bool) (s : State) (who : Who) (bytes : Nat) (high : Bool) (w : Word) (h_regs : L .regs = true) (h_resp : L .resp = true) (h_ep : L .ep = true) (h_wg : L .wg = true) (h_ic : L .ic = true) (h_cp : L .cp = true)  :
    blot L (State.ep0Write s who bytes high w) = blot L s := by
  unfold State.ep0Write
  (try simp [h_regs, h_resp, h_ep, h_wg, h_ic, h_cp]) <;> repeat' (first | with_reducible rfl | (apply pick_eq) | split | (simp [h_regs, h_resp, h_ep, h_wg, h_ic, h_cp]))
@[simp ↓] theorem State.devResetWrite_blot (L : Piece → Bool) (s : State) (who : Who) (bytes : Nat) (w : Word) (h_dev : L .dev = true) (h_regs : L .regs = true) (h_mem : L .mem = true) (h_resp : L .resp = true) (h_fresh : L .fresh = true) (h_shadows : L .shadows = true) (h_ao : L .ao = true) (h_ep : L .ep = true) (h_wg : L .wg = true) (h_ic : L .ic = true) (h_kb : L .kb = true) (h_pn : L .pn = true) (h_can : L .can = true) (h_sw : L .sw = true) (h_ptp : L .ptp = true) (h_nm : L .nm = true) (h_sf : L .sf = true) (h_cp : L .cp = true) (h_ks : L .ks = true) (h_up : L .up = true) (h_ux : L .ux = true)  :
    blot L (State.devResetWrite s who bytes w) = blot L s := by
  unfold State.devResetWrite
  (try simp [h_dev, h_regs, h_mem, h_resp, h_fresh, h_shadows, h_ao, h_ep, h_wg, h_ic, h_kb, h_pn, h_can, h_sw, h_ptp, h_nm, h_sf, h_cp, h_ks, h_up, h_ux]) <;> repeat' (first | with_reducible rfl | (apply pick_eq) | split | (simp [h_dev, h_regs, h_mem, h_resp, h_fresh, h_shadows, h_ao, h_ep, h_wg, h_ic, h_kb, h_pn, h_can, h_sw, h_ptp, h_nm, h_sf, h_cp, h_ks, h_up, h_ux]))
@[simp ↓] theorem State.sleepStart_blot (L : Piece → Bool) (s : State) (target : Nat) (drain : Nat) (h_regs : L .regs = true) (h_ao : L .ao = true)  :
    blot L (State.sleepStart s target drain) = blot L s := by
  unfold State.sleepStart
  (try simp [h_regs, h_ao]) <;> repeat' (first | with_reducible rfl | (apply pick_eq) | split | (simp [h_regs, h_ao]))
@[simp ↓] theorem State.sleepWrite_blot (L : Piece → Bool) (s : State) (who : Who) (bytes : Nat) (w : Word) (h_regs : L .regs = true) (h_resp : L .resp = true) (h_ao : L .ao = true) (h_wg : L .wg = true) (h_ic : L .ic = true) (h_cp : L .cp = true)  :
    blot L (State.sleepWrite s who bytes w) = blot L s := by
  unfold State.sleepWrite
  (try simp [h_regs, h_resp, h_ao, h_wg, h_ic, h_cp]) <;> repeat' (first | with_reducible rfl | (apply pick_eq) | split | (simp [h_regs, h_resp, h_ao, h_wg, h_ic, h_cp]))
@[simp ↓] theorem State.lpSend_blot (L : Piece → Bool) (s : State) (w : Nat) (h_fresh : L .fresh = true) (h_ao : L .ao = true)  :
    blot L (State.lpSend s w) = blot L s := by
  unfold State.lpSend
  (try simp [h_fresh, h_ao]) <;> repeat' (first | with_reducible rfl | (apply pick_eq) | split | (simp [h_fresh, h_ao]))
@[simp ↓] theorem State.lpArrive_blot (L : Piece → Bool) (s : State) (t : Nat) (ack : Nat) (w : Nat) (h_regs : L .regs = true) (h_ao : L .ao = true)  :
    blot L (State.lpArrive s t ack w) = blot L s := by
  unfold State.lpArrive
  (try simp [h_regs, h_ao]) <;> repeat' (first | with_reducible rfl | (apply pick_eq) | split | (simp [h_regs, h_ao]))
@[simp ↓] theorem State.lpSettle_blot (L : Piece → Bool) (s : State) (h_regs : L .regs = true) (h_ao : L .ao = true)  :
    blot L (State.lpSettle s) = blot L s := by
  unfold State.lpSettle
  (try simp [h_regs, h_ao]) <;> repeat' (first | with_reducible rfl | (apply pick_eq) | split | (simp [h_regs, h_ao]))
@[simp ↓] theorem State.pass_blot (L : Piece → Bool) (s : State) (d : Nat) (h_now : L .now = true) (h_vt : L .vt = true) (h_ptp : L .ptp = true)  :
    blot L (State.pass s d) = blot L s := by
  unfold State.pass
  (try simp [h_now, h_vt, h_ptp]) <;> repeat' (first | with_reducible rfl | (apply pick_eq) | split | (simp [h_now, h_vt, h_ptp]))
@[simp ↓] theorem State.reach_blot (L : Piece → Bool) (s : State) (t : Nat) (h_now : L .now = true) (h_vt : L .vt = true) (h_ptp : L .ptp = true)  :
    blot L (State.reach s t) = blot L s := by
  unfold State.reach
  (try simp [h_now, h_vt, h_ptp]) <;> repeat' (first | with_reducible rfl | (apply pick_eq) | split | (simp [h_now, h_vt, h_ptp]))
@[simp ↓] theorem State.lpStall_blot (L : Piece → Bool) (s : State) (h_now : L .now = true) (h_vt : L .vt = true) (h_regs : L .regs = true) (h_ao : L .ao = true) (h_ptp : L .ptp = true)  :
    blot L (State.lpStall s) = blot L s := by
  unfold State.lpStall
  (try simp [h_now, h_vt, h_regs, h_ao, h_ptp]) <;> repeat' (first | with_reducible rfl | (apply pick_eq) | split | (simp [h_now, h_vt, h_regs, h_ao, h_ptp]))
@[simp ↓] theorem State.wakeTimerWrite_blot (L : Piece → Bool) (s : State) (who : Who) (bytes : Nat) (w : Word) (h_now : L .now = true) (h_vt : L .vt = true) (h_regs : L .regs = true) (h_resp : L .resp = true) (h_fresh : L .fresh = true) (h_ao : L .ao = true) (h_wg : L .wg = true) (h_ic : L .ic = true) (h_ptp : L .ptp = true) (h_cp : L .cp = true)  :
    blot L (State.wakeTimerWrite s who bytes w) = blot L s := by
  unfold State.wakeTimerWrite
  (try simp [h_now, h_vt, h_regs, h_resp, h_fresh, h_ao, h_wg, h_ic, h_ptp, h_cp]) <;> repeat' (first | with_reducible rfl | (apply pick_eq) | split | (simp [h_now, h_vt, h_regs, h_resp, h_fresh, h_ao, h_wg, h_ic, h_ptp, h_cp]))
@[simp ↓] theorem State.setToken_blot (L : Piece → Bool) (s : State) (m : Nat) (b : Bool) (h_regs : L .regs = true)  :
    blot L (State.setToken s m b) = blot L s := by
  unfold State.setToken
  (try simp [h_regs]) <;> repeat' (first | with_reducible rfl | (apply pick_eq) | split | (simp [h_regs]))
@[simp ↓] theorem State.canReady_blot (L : Piece → Bool) (s : State) (k : Nat) (h_can : L .can = true)  :
    blot L (State.canReady s k) = blot L s := by
  unfold State.canReady
  (try simp [h_can]) <;> repeat' (first | with_reducible rfl | (apply pick_eq) | split | (simp [h_can]))
@[simp ↓] theorem State.setMed_blot (L : Piece → Bool) (s : State) (m : Nat) (v : Nat) (h_regs : L .regs = true) (h_can : L .can = true)  :
    blot L (State.setMed s m v) = blot L s := by
  unfold State.setMed
  (try simp [h_regs, h_can]) <;> repeat' (first | with_reducible rfl | (apply pick_eq) | split | (simp [h_regs, h_can]))
@[simp ↓] theorem State.setMedium_blot (L : Piece → Bool) (s : State) (m : Nat) (x : Medium) (h_nm : L .nm = true)  :
    blot L (State.setMedium s m x) = blot L s := by
  unfold State.setMedium
  (try simp [h_nm]) <;> repeat' (first | with_reducible rfl | (apply pick_eq) | split | (simp [h_nm]))
@[simp ↓] theorem State.medSend_blot (L : Piece → Bool) (s : State) (m : Nat) (next : Nat) (flags : Nat) (start : Bool) (h_nm : L .nm = true)  :
    blot L (State.medSend s m next flags start) = blot L s := by
  unfold State.medSend
  (try simp [h_nm]) <;> repeat' (first | with_reducible rfl | (apply pick_eq) | split | (simp [h_nm]))
@[simp ↓] theorem State.sendWake_blot (L : Piece → Bool) (s : State) (m : Nat) (start : Bool) (h_nm : L .nm = true)  :
    blot L (State.sendWake s m start) = blot L s := by
  unfold State.sendWake
  (try simp [h_nm]) <;> repeat' (first | with_reducible rfl | (apply pick_eq) | split | (simp [h_nm]))
@[simp ↓] theorem State.medStart_blot (L : Piece → Bool) (s : State) (m : Nat) (h_regs : L .regs = true) (h_can : L .can = true) (h_nm : L .nm = true)  :
    blot L (State.medStart s m) = blot L s := by
  unfold State.medStart
  (try simp [h_regs, h_can, h_nm]) <;> repeat' (first | with_reducible rfl | (apply pick_eq) | split | (simp [h_regs, h_can, h_nm]))
@[simp ↓] theorem State.setReady_blot (L : Piece → Bool) (s : State) (m : Nat) (v : Nat) (h_regs : L .regs = true)  :
    blot L (State.setReady s m v) = blot L s := by
  unfold State.setReady
  (try simp [h_regs]) <;> repeat' (first | with_reducible rfl | (apply pick_eq) | split | (simp [h_regs]))
@[simp ↓] theorem State.setPresent_blot (L : Piece → Bool) (s : State) (m : Nat) (v : Nat) (h_regs : L .regs = true)  :
    blot L (State.setPresent s m v) = blot L s := by
  unfold State.setPresent
  (try simp [h_regs]) <;> repeat' (first | with_reducible rfl | (apply pick_eq) | split | (simp [h_regs]))
@[simp ↓] theorem State.curfewStart_blot (L : Piece → Bool) (s : State) (m : Nat) (h_regs : L .regs = true) (h_can : L .can = true) (h_nm : L .nm = true)  :
    blot L (State.curfewStart s m) = blot L s := by
  unfold State.curfewStart
  (try simp [h_regs, h_can, h_nm]) <;> repeat' (first | with_reducible rfl | (apply pick_eq) | split | (simp [h_regs, h_can, h_nm]))
@[simp ↓] theorem State.planCut_blot (L : Piece → Bool) (s : State) (i : Item) (h_regs : L .regs = true)  :
    blot L (State.planCut s i) = blot L s := by
  unfold State.planCut
  (try simp [h_regs]) <;> repeat' (first | with_reducible rfl | (apply pick_eq) | split | (simp [h_regs]))
@[simp ↓] theorem State.planPort_blot (L : Piece → Bool) (s : State) (i : Item) (h_regs : L .regs = true)  :
    blot L (State.planPort s i) = blot L s := by
  unfold State.planPort
  (try simp [h_regs]) <;> repeat' (first | with_reducible rfl | (apply pick_eq) | split | (simp [h_regs]))
@[simp ↓] theorem State.setLinkUp_blot (L : Piece → Bool) (s : State) (p : Nat) (h_regs : L .regs = true) (h_sw : L .sw = true)  :
    blot L (State.setLinkUp s p) = blot L s := by
  unfold State.setLinkUp
  (try simp [h_regs, h_sw]) <;> repeat' (first | with_reducible rfl | (apply pick_eq) | split | (simp [h_regs, h_sw]))
@[simp ↓] theorem State.linkRises_blot (L : Piece → Bool) (s : State) (p : Nat) (h_regs : L .regs = true) (h_sw : L .sw = true)  :
    blot L (State.linkRises s p) = blot L s := by
  unfold State.linkRises
  (try simp [h_regs, h_sw]) <;> repeat' (first | with_reducible rfl | (apply pick_eq) | split | (simp [h_regs, h_sw]))
@[simp ↓] theorem State.linkComesUp_blot (L : Piece → Bool) (s : State) (p : Nat) (h_regs : L .regs = true) (h_sw : L .sw = true)  :
    blot L (State.linkComesUp s p) = blot L s := by
  unfold State.linkComesUp
  (try simp [h_regs, h_sw]) <;> repeat' (first | with_reducible rfl | (apply pick_eq) | split | (simp [h_regs, h_sw]))
@[simp ↓] theorem State.innerLinks_blot (L : Piece → Bool) (s : State) (h_regs : L .regs = true) (h_sw : L .sw = true)  :
    blot L (State.innerLinks s) = blot L s := by
  unfold State.innerLinks
  (try simp [h_regs, h_sw]) <;> repeat' (first | with_reducible rfl | (apply pick_eq) | split | (simp [h_regs, h_sw]))
@[simp ↓] theorem State.planSwitch_blot (L : Piece → Bool) (s : State) (h_regs : L .regs = true) (h_sw : L .sw = true)  :
    blot L (State.planSwitch s) = blot L s := by
  unfold State.planSwitch
  (try simp [h_regs, h_sw]) <;> repeat' (first | with_reducible rfl | (apply pick_eq) | split | (simp [h_regs, h_sw]))
@[simp ↓] theorem State.setPoc_blot (L : Piece → Bool) (s : State) (c : Nat) (st : Nat) (h_regs : L .regs = true)  :
    blot L (State.setPoc s c st) = blot L s := by
  unfold State.setPoc
  (try simp [h_regs]) <;> repeat' (first | with_reducible rfl | (apply pick_eq) | split | (simp [h_regs]))
@[simp ↓] theorem State.setCam_blot (L : Piece → Bool) (s : State) (c : Nat) (x : Cam) (h_sf : L .sf = true)  :
    blot L (State.setCam s c x) = blot L s := by
  unfold State.setCam
  (try simp [h_sf]) <;> repeat' (first | with_reducible rfl | (apply pick_eq) | split | (simp [h_sf]))
@[simp ↓] theorem State.loadFail_blot (L : Piece → Bool) (s : State) (code : Nat) (slice : Nat) (overlay : Bool) (i : Nat) (h_regs : L .regs = true)  :
    blot L (State.loadFail s code slice overlay i) = blot L s := by
  unfold State.loadFail
  (try simp [h_regs]) <;> repeat' (first | with_reducible rfl | (apply pick_eq) | split | (simp [h_regs]))
@[simp ↓] theorem State.startView_blot (L : Piece → Bool) (s : State) (i : Nat) (h_regs : L .regs = true) (h_sf : L .sf = true)  :
    blot L (State.startView s i) = blot L s := by
  unfold State.startView
  (try simp [h_regs, h_sf]) <;> repeat' (first | with_reducible rfl | (apply pick_eq) | split | (simp [h_regs, h_sf]))
@[simp ↓] theorem State.camLevel_blot (L : Piece → Bool) (s : State) (c : Nat) (h_ic : L .ic = true)  :
    blot L (State.camLevel s c) = blot L s := by
  unfold State.camLevel
  (try simp [h_ic]) <;> repeat' (first | with_reducible rfl | (apply pick_eq) | split | (simp [h_ic]))
@[simp ↓] theorem State.camFault_blot (L : Piece → Bool) (s : State) (c : Nat) (bit : Nat) (code : Nat) (h_regs : L .regs = true) (h_ic : L .ic = true) (h_sf : L .sf = true)  :
    blot L (State.camFault s c bit code) = blot L s := by
  unfold State.camFault
  (try simp [h_regs, h_ic, h_sf]) <;> repeat' (first | with_reducible rfl | (apply pick_eq) | split | (simp [h_regs, h_ic, h_sf]))
@[simp ↓] theorem State.camStart_blot (L : Piece → Bool) (s : State) (c : Nat) (h_regs : L .regs = true) (h_ic : L .ic = true) (h_sf : L .sf = true)  :
    blot L (State.camStart s c) = blot L s := by
  unfold State.camStart
  (try simp [h_regs, h_ic, h_sf]) <;> repeat' (first | with_reducible rfl | (apply pick_eq) | split | (simp [h_regs, h_ic, h_sf]))
@[simp ↓] theorem State.setViewSt_blot (L : Piece → Bool) (s : State) (i : Nat) (v : Nat) (h_regs : L .regs = true)  :
    blot L (State.setViewSt s i v) = blot L s := by
  unfold State.setViewSt
  (try simp [h_regs]) <;> repeat' (first | with_reducible rfl | (apply pick_eq) | split | (simp [h_regs]))
@[simp ↓] theorem State.viewBoundary_blot (L : Piece → Bool) (s : State) (i : Nat) (h_regs : L .regs = true)  :
    blot L (State.viewBoundary s i) = blot L s := by
  unfold State.viewBoundary
  (try simp [h_regs]) <;> repeat' (first | with_reducible rfl | (apply pick_eq) | split | (simp [h_regs]))
@[simp ↓] theorem State.mirrorUp_blot (L : Piece → Bool) (s : State) (h_regs : L .regs = true) (h_ic : L .ic = true) (h_sf : L .sf = true)  :
    blot L (State.mirrorUp s) = blot L s := by
  unfold State.mirrorUp
  (try simp [h_regs, h_ic, h_sf]) <;> repeat' (first | with_reducible rfl | (apply pick_eq) | split | (simp [h_regs, h_ic, h_sf]))
@[simp ↓] theorem State.planTiming_blot (L : Piece → Bool) (s : State) (i : Item) (h_regs : L .regs = true)  :
    blot L (State.planTiming s i) = blot L s := by
  unfold State.planTiming
  (try simp [h_regs]) <;> repeat' (first | with_reducible rfl | (apply pick_eq) | split | (simp [h_regs]))
@[simp ↓] theorem State.canLevels_blot (L : Piece → Bool) (s : State) (k : Nat) (h_ic : L .ic = true)  :
    blot L (State.canLevels s k) = blot L s := by
  unfold State.canLevels
  (try simp [h_ic]) <;> repeat' (first | with_reducible rfl | (apply pick_eq) | split | (simp [h_ic]))
@[simp ↓] theorem State.planCan_blot (L : Piece → Bool) (s : State) (i : Item) (h_regs : L .regs = true) (h_ic : L .ic = true) (h_can : L .can = true) (h_nm : L .nm = true)  :
    blot L (State.planCan s i) = blot L s := by
  unfold State.planCan
  (try simp [h_regs, h_ic, h_can, h_nm]) <;> repeat' (first | with_reducible rfl | (apply pick_eq) | split | (simp [h_regs, h_ic, h_can, h_nm]))
@[simp ↓] theorem State.planRing_blot (L : Piece → Bool) (s : State) (i : Item) (h_regs : L .regs = true) (h_can : L .can = true) (h_nm : L .nm = true)  :
    blot L (State.planRing s i) = blot L s := by
  unfold State.planRing
  (try simp [h_regs, h_can, h_nm]) <;> repeat' (first | with_reducible rfl | (apply pick_eq) | split | (simp [h_regs, h_can, h_nm]))
@[simp ↓] theorem State.planLin_blot (L : Piece → Bool) (s : State) (i : Item) (h_regs : L .regs = true)  :
    blot L (State.planLin s i) = blot L s := by
  unfold State.planLin
  (try simp [h_regs]) <;> repeat' (first | with_reducible rfl | (apply pick_eq) | split | (simp [h_regs]))
@[simp ↓] theorem State.planPin_blot (L : Piece → Bool) (s : State) (i : Item) (h_regs : L .regs = true) (h_pn : L .pn = true)  :
    blot L (State.planPin s i) = blot L s := by
  unfold State.planPin
  (try simp [h_regs, h_pn]) <;> repeat' (first | with_reducible rfl | (apply pick_eq) | split | (simp [h_regs, h_pn]))
@[simp ↓] theorem State.planTakeover_blot (L : Piece → Bool) (s : State) (i : Item) (h_regs : L .regs = true)  :
    blot L (State.planTakeover s i) = blot L s := by
  unfold State.planTakeover
  (try simp [h_regs]) <;> repeat' (first | with_reducible rfl | (apply pick_eq) | split | (simp [h_regs]))
@[simp ↓] theorem State.planTwin_blot (L : Piece → Bool) (s : State) (h_regs : L .regs = true)  :
    blot L (State.planTwin s) = blot L s := by
  unfold State.planTwin
  (try simp [h_regs]) <;> repeat' (first | with_reducible rfl | (apply pick_eq) | split | (simp [h_regs]))
@[simp ↓] theorem State.blockOn_blot (L : Piece → Bool) (s : State) (n : Nat) (h_regs : L .regs = true) (h_ic : L .ic = true) (h_pn : L .pn = true) (h_can : L .can = true) (h_sw : L .sw = true) (h_nm : L .nm = true) (h_sf : L .sf = true)  :
    blot L (State.blockOn s n) = blot L s := by
  unfold State.blockOn
  (repeat' split) <;> (try with_reducible rfl) <;> (try simp [h_regs, h_ic, h_pn, h_can, h_sw, h_nm, h_sf]) <;> (repeat' (first | with_reducible rfl | (apply pick_eq) | split | (simp [h_regs, h_ic, h_pn, h_can, h_sw, h_nm, h_sf])))
@[simp ↓] theorem State.beatsStart_blot (L : Piece → Bool) (s : State) (h_nm : L .nm = true)  :
    blot L (State.beatsStart s) = blot L s := by
  unfold State.beatsStart
  (try simp [h_nm]) <;> repeat' (first | with_reducible rfl | (apply pick_eq) | split | (simp [h_nm]))
@[simp ↓] theorem State.kerbRelease_blot (L : Piece → Bool) (s : State) (n : Nat) (h_regs : L .regs = true) (h_kb : L .kb = true)  :
    blot L (State.kerbRelease s n) = blot L s := by
  unfold State.kerbRelease
  (try simp [h_regs, h_kb]) <;> repeat' (first | with_reducible rfl | (apply pick_eq) | split | (simp [h_regs, h_kb]))
@[simp ↓] theorem State.showTemp_blot (L : Piece → Bool) (s : State) (n : Nat) (h_regs : L .regs = true)  :
    blot L (State.showTemp s n) = blot L s := by
  unfold State.showTemp
  (try simp [h_regs]) <;> repeat' (first | with_reducible rfl | (apply pick_eq) | split | (simp [h_regs]))
@[simp ↓] theorem State.wireStart_blot (L : Piece → Bool) (s : State) (since : Option Nat) (n : Nat) (h_regs : L .regs = true) (h_kb : L .kb = true)  :
    blot L (State.wireStart s since n) = blot L s := by
  unfold State.wireStart
  (try simp [h_regs, h_kb]) <;> repeat' (first | with_reducible rfl | (apply pick_eq) | split | (simp [h_regs, h_kb]))
@[simp ↓] theorem State.kerbResume_blot (L : Piece → Bool) (s : State) (h_regs : L .regs = true) (h_kb : L .kb = true)  :
    blot L (State.kerbResume s) = blot L s := by
  unfold State.kerbResume
  (try simp [h_regs, h_kb]) <;> repeat' (first | with_reducible rfl | (apply pick_eq) | split | (simp [h_regs, h_kb]))
@[simp ↓] theorem State.rejectRelevel_blot (L : Piece → Bool) (s : State) (n : Nat) (h_ic : L .ic = true)  :
    blot L (State.rejectRelevel s n) = blot L s := by
  unfold State.rejectRelevel
  (try simp [h_ic]) <;> repeat' (first | with_reducible rfl | (apply pick_eq) | split | (simp [h_ic]))
@[simp ↓] theorem State.wakeLevel_blot (L : Piece → Bool) (s : State) (h_ic : L .ic = true)  :
    blot L (State.wakeLevel s) = blot L s := by
  unfold State.wakeLevel
  (try simp [h_ic]) <;> repeat' (first | with_reducible rfl | (apply pick_eq) | split | (simp [h_ic]))
@[simp ↓] theorem State.spurLevel_blot (L : Piece → Bool) (s : State) (h_ic : L .ic = true)  :
    blot L (State.spurLevel s) = blot L s := by
  unfold State.spurLevel
  (try simp [h_ic]) <;> repeat' (first | with_reducible rfl | (apply pick_eq) | split | (simp [h_ic]))
@[simp ↓] theorem State.noticeRelevel_blot (L : Piece → Bool) (s : State) (g : Nat) (h_ic : L .ic = true)  :
    blot L (State.noticeRelevel s g) = blot L s := by
  unfold State.noticeRelevel
  (try simp [h_ic]) <;> repeat' (first | with_reducible rfl | (apply pick_eq) | split | (simp [h_ic]))
@[simp ↓] theorem State.relevelLow_blot (L : Piece → Bool) (s : State) (n : Nat) (h_ic : L .ic = true)  :
    blot L (State.relevelLow s n) = blot L s := by
  unfold State.relevelLow
  (repeat' split) <;> (try with_reducible rfl) <;> (try simp [h_ic]) <;> (repeat' (first | with_reducible rfl | (apply pick_eq) | split | (simp [h_ic])))
@[simp ↓] theorem State.ksLevels_blot (L : Piece → Bool) (s : State) (h_ic : L .ic = true)  :
    blot L (State.ksLevels s) = blot L s := by
  unfold State.ksLevels
  (try simp [h_ic]) <;> repeat' (first | with_reducible rfl | (apply pick_eq) | split | (simp [h_ic]))
@[simp ↓] theorem State.upLevels_blot (L : Piece → Bool) (s : State) (h_ic : L .ic = true)  :
    blot L (State.upLevels s) = blot L s := by
  unfold State.upLevels
  (try simp [h_ic]) <;> repeat' (first | with_reducible rfl | (apply pick_eq) | split | (simp [h_ic]))
@[simp ↓] theorem State.swLevel_blot (L : Piece → Bool) (s : State) (p : Nat) (h_ic : L .ic = true)  :
    blot L (State.swLevel s p) = blot L s := by
  unfold State.swLevel
  (try simp [h_ic]) <;> repeat' (first | with_reducible rfl | (apply pick_eq) | split | (simp [h_ic]))
@[simp ↓] theorem State.pnLevel_blot (L : Piece → Bool) (s : State) (p : Nat) (h_ic : L .ic = true)  :
    blot L (State.pnLevel s p) = blot L s := by
  unfold State.pnLevel
  (try simp [h_ic]) <;> repeat' (first | with_reducible rfl | (apply pick_eq) | split | (simp [h_ic]))
@[simp ↓] theorem State.streamLevel_blot (L : Piece → Bool) (s : State) (h_ic : L .ic = true)  :
    blot L (State.streamLevel s) = blot L s := by
  unfold State.streamLevel
  (try simp [h_ic]) <;> repeat' (first | with_reducible rfl | (apply pick_eq) | split | (simp [h_ic]))
@[simp ↓] theorem State.relevelMid_blot (L : Piece → Bool) (s : State) (n : Nat) (h_ic : L .ic = true)  :
    blot L (State.relevelMid s n) = blot L s := by
  unfold State.relevelMid
  (repeat' split) <;> (try with_reducible rfl) <;> (try simp [h_ic]) <;> (repeat' (first | with_reducible rfl | (apply pick_eq) | split | (simp [h_ic])))
@[simp ↓] theorem State.dspLevel_blot (L : Piece → Bool) (s : State) (d : Nat) (h_ic : L .ic = true)  :
    blot L (State.dspLevel s d) = blot L s := by
  unfold State.dspLevel
  (try simp [h_ic]) <;> repeat' (first | with_reducible rfl | (apply pick_eq) | split | (simp [h_ic]))
@[simp ↓] theorem State.sfLevel_blot (L : Piece → Bool) (s : State) (h_ic : L .ic = true)  :
    blot L (State.sfLevel s) = blot L s := by
  unfold State.sfLevel
  (try simp [h_ic]) <;> repeat' (first | with_reducible rfl | (apply pick_eq) | split | (simp [h_ic]))
@[simp ↓] theorem State.gwyLevel_blot (L : Piece → Bool) (s : State) (h_ic : L .ic = true)  :
    blot L (State.gwyLevel s) = blot L s := by
  unfold State.gwyLevel
  (try simp [h_ic]) <;> repeat' (first | with_reducible rfl | (apply pick_eq) | split | (simp [h_ic]))
@[simp ↓] theorem State.nmLevels_blot (L : Piece → Bool) (s : State) (h_ic : L .ic = true)  :
    blot L (State.nmLevels s) = blot L s := by
  unfold State.nmLevels
  (try simp [h_ic]) <;> repeat' (first | with_reducible rfl | (apply pick_eq) | split | (simp [h_ic]))
@[simp ↓] theorem State.linLevel_blot (L : Piece → Bool) (s : State) (h_ic : L .ic = true)  :
    blot L (State.linLevel s) = blot L s := by
  unfold State.linLevel
  (try simp [h_ic]) <;> repeat' (first | with_reducible rfl | (apply pick_eq) | split | (simp [h_ic]))
@[simp ↓] theorem State.pinLevel_blot (L : Piece → Bool) (s : State) (h_ic : L .ic = true)  :
    blot L (State.pinLevel s) = blot L s := by
  unfold State.pinLevel
  (try simp [h_ic]) <;> repeat' (first | with_reducible rfl | (apply pick_eq) | split | (simp [h_ic]))
@[simp ↓] theorem State.uxLevels_blot (L : Piece → Bool) (s : State) (h_ic : L .ic = true)  :
    blot L (State.uxLevels s) = blot L s := by
  unfold State.uxLevels
  (try simp [h_ic]) <;> repeat' (first | with_reducible rfl | (apply pick_eq) | split | (simp [h_ic]))
@[simp ↓] theorem State.relevelHigh_blot (L : Piece → Bool) (s : State) (n : Nat) (h_ic : L .ic = true)  :
    blot L (State.relevelHigh s n) = blot L s := by
  unfold State.relevelHigh
  (repeat' split) <;> (try with_reducible rfl) <;> (try simp [h_ic]) <;> (repeat' (first | with_reducible rfl | (apply pick_eq) | split | (simp [h_ic])))
@[simp ↓] theorem State.relevel_blot (L : Piece → Bool) (s : State) (n : Nat) (h_ic : L .ic = true)  :
    blot L (State.relevel s n) = blot L s := by
  unfold State.relevel
  (try simp [h_ic]) <;> repeat' (first | with_reducible rfl | (apply pick_eq) | split | (simp [h_ic]))
@[simp ↓] theorem State.ungate_blot (L : Piece → Bool) (s : State) (n : Nat) (h_regs : L .regs = true) (h_ao : L .ao = true) (h_ic : L .ic = true) (h_kb : L .kb = true) (h_pn : L .pn = true) (h_can : L .can = true) (h_sw : L .sw = true) (h_nm : L .nm = true) (h_sf : L .sf = true)  :
    blot L (State.ungate s n) = blot L s := by
  unfold State.ungate
  (try simp [h_regs, h_ao, h_ic, h_kb, h_pn, h_can, h_sw, h_nm, h_sf]) <;> repeat' (first | with_reducible rfl | (apply pick_eq) | split | (simp [h_regs, h_ao, h_ic, h_kb, h_pn, h_can, h_sw, h_nm, h_sf]))
@[simp ↓] theorem State.mirrorDown_blot (L : Piece → Bool) (s : State) (h_regs : L .regs = true) (h_mem : L .mem = true) (h_ep : L .ep = true) (h_wg : L .wg = true) (h_ic : L .ic = true) (h_sf : L .sf = true)  :
    blot L (State.mirrorDown s) = blot L s := by
  unfold State.mirrorDown
  (try simp [h_regs, h_mem, h_ep, h_wg, h_ic, h_sf]) <;> repeat' (first | with_reducible rfl | (apply pick_eq) | split | (simp [h_regs, h_mem, h_ep, h_wg, h_ic, h_sf]))
@[simp ↓] theorem State.kerbStop_blot (L : Piece → Bool) (s : State) (h_regs : L .regs = true) (h_kb : L .kb = true)  :
    blot L (State.kerbStop s) = blot L s := by
  unfold State.kerbStop
  (try simp [h_regs, h_kb]) <;> repeat' (first | with_reducible rfl | (apply pick_eq) | split | (simp [h_regs, h_kb]))
@[simp ↓] theorem State.gateClock_blot (L : Piece → Bool) (s : State) (n : Nat) (h_regs : L .regs = true) (h_mem : L .mem = true) (h_ao : L .ao = true) (h_ep : L .ep = true) (h_wg : L .wg = true) (h_ic : L .ic = true) (h_kb : L .kb = true) (h_nm : L .nm = true) (h_sf : L .sf = true)  :
    blot L (State.gateClock s n) = blot L s := by
  unfold State.gateClock
  (try simp [h_regs, h_mem, h_ao, h_ep, h_wg, h_ic, h_kb, h_nm, h_sf]) <;> repeat' (first | with_reducible rfl | (apply pick_eq) | split | (simp [h_regs, h_mem, h_ao, h_ep, h_wg, h_ic, h_kb, h_nm, h_sf]))
@[simp ↓] theorem State.medStop_blot (L : Piece → Bool) (s : State) (m : Nat) (h_regs : L .regs = true) (h_nm : L .nm = true)  :
    blot L (State.medStop s m) = blot L s := by
  unfold State.medStop
  (try simp [h_regs, h_nm]) <;> repeat' (first | with_reducible rfl | (apply pick_eq) | split | (simp [h_regs, h_nm]))
@[simp ↓] theorem State.medOff_blot (L : Piece → Bool) (s : State) (m : Nat) (h_regs : L .regs = true) (h_can : L .can = true) (h_nm : L .nm = true)  :
    blot L (State.medOff s m) = blot L s := by
  unfold State.medOff
  (try simp [h_regs, h_can, h_nm]) <;> repeat' (first | with_reducible rfl | (apply pick_eq) | split | (simp [h_regs, h_can, h_nm]))
@[simp ↓] theorem State.setShaper_blot (L : Piece → Bool) (s : State) (p : Nat) (tc : Nat) (x : Shaper) (h_sw : L .sw = true)  :
    blot L (State.setShaper s p tc x) = blot L s := by
  unfold State.setShaper
  (try simp [h_sw]) <;> repeat' (first | with_reducible rfl | (apply pick_eq) | split | (simp [h_sw]))
@[simp ↓] theorem State.shaperSync_blot (L : Piece → Bool) (s : State) (i : Item) (h_sw : L .sw = true)  :
    blot L (State.shaperSync s i) = blot L s := by
  unfold State.shaperSync
  (try simp [h_sw]) <;> repeat' (first | with_reducible rfl | (apply pick_eq) | split | (simp [h_sw]))
@[simp ↓] theorem State.shapersSync_blot (L : Piece → Bool) (s : State) (h_sw : L .sw = true)  :
    blot L (State.shapersSync s) = blot L s := by
  unfold State.shapersSync
  (try simp [h_sw]) <;> repeat' (first | with_reducible rfl | (apply pick_eq) | split | (simp [h_sw]))
@[simp ↓] theorem State.qEvent_blot (L : Piece → Bool) (s : State) (p : Nat) (tc : Nat) (c : Nat) (h_regs : L .regs = true) (h_ic : L .ic = true)  :
    blot L (State.qEvent s p tc c) = blot L s := by
  unfold State.qEvent
  (try simp [h_regs, h_ic]) <;> repeat' (first | with_reducible rfl | (apply pick_eq) | split | (simp [h_regs, h_ic]))
@[simp ↓] theorem State.flushEnd_blot (L : Piece → Bool) (s : State) (p : Nat) (h_regs : L .regs = true) (h_ep : L .ep = true) (h_ic : L .ic = true) (h_sw : L .sw = true)  :
    blot L (State.flushEnd s p) = blot L s := by
  unfold State.flushEnd
  (try simp [h_regs, h_ep, h_ic, h_sw]) <;> repeat' (first | with_reducible rfl | (apply pick_eq) | split | (simp [h_regs, h_ep, h_ic, h_sw]))
@[simp ↓] theorem State.setRx_blot (L : Piece → Bool) (s : State) (p : Nat) (x : Option RxFrame) (h_sw : L .sw = true)  :
    blot L (State.setRx s p x) = blot L s := by
  unfold State.setRx
  (try simp [h_sw]) <;> repeat' (first | with_reducible rfl | (apply pick_eq) | split | (simp [h_sw]))
@[simp ↓] theorem State.setStrm_blot (L : Piece → Bool) (s : State) (h : Nat) (x : Strm) (h_sw : L .sw = true)  :
    blot L (State.setStrm s h x) = blot L s := by
  unfold State.setStrm
  (try simp [h_sw]) <;> repeat' (first | with_reducible rfl | (apply pick_eq) | split | (simp [h_sw]))
@[simp ↓] theorem State.refill_blot (L : Piece → Bool) (s : State) (i : Item) (h_sw : L .sw = true)  :
    blot L (State.refill s i) = blot L s := by
  unfold State.refill
  (try simp [h_sw]) <;> repeat' (first | with_reducible rfl | (apply pick_eq) | split | (simp [h_sw]))
@[simp ↓] theorem State.refund_blot (L : Piece → Bool) (s : State) (h : Nat) (len : Nat) (h_sw : L .sw = true)  :
    blot L (State.refund s h len) = blot L s := by
  unfold State.refund
  (try simp [h_sw]) <;> repeat' (first | with_reducible rfl | (apply pick_eq) | split | (simp [h_sw]))
@[simp ↓] theorem State.meterEnd_blot (L : Piece → Bool) (s : State) (m : Option (Nat × Nat)) (len : Nat) (h_sw : L .sw = true)  :
    blot L (State.meterEnd s m len) = blot L s := by
  unfold State.meterEnd
  (try simp [h_sw]) <;> repeat' (first | with_reducible rfl | (apply pick_eq) | split | (simp [h_sw]))
@[simp ↓] theorem State.putFrame_blot (L : Piece → Bool) (s : State) (f : SwFrame) (h_sw : L .sw = true)  :
    blot L (State.putFrame s f) = blot L s := by
  unfold State.putFrame
  (try simp [h_sw]) <;> repeat' (first | with_reducible rfl | (apply pick_eq) | split | (simp [h_sw]))
@[simp ↓] theorem State.unrecover_blot (L : Piece → Bool) (s : State) (h : Nat) (seq : Nat) (h_sw : L .sw = true)  :
    blot L (State.unrecover s h seq) = blot L s := by
  unfold State.unrecover
  (try simp [h_sw]) <;> repeat' (first | with_reducible rfl | (apply pick_eq) | split | (simp [h_sw]))
@[simp ↓] theorem State.swEvent_blot (L : Piece → Bool) (s : State) (p : Nat) (c : Nat) (h_regs : L .regs = true) (h_ic : L .ic = true)  :
    blot L (State.swEvent s p c) = blot L s := by
  unfold State.swEvent
  (try simp [h_regs, h_ic]) <;> repeat' (first | with_reducible rfl | (apply pick_eq) | split | (simp [h_regs, h_ic]))
@[simp ↓] theorem State.badFrame_blot (L : Piece → Bool) (s : State) (f : SwFrame) (h_regs : L .regs = true) (h_ep : L .ep = true) (h_ic : L .ic = true) (h_sw : L .sw = true)  :
    blot L (State.badFrame s f) = blot L s := by
  unfold State.badFrame
  (try simp [h_regs, h_ep, h_ic, h_sw]) <;> repeat' (first | with_reducible rfl | (apply pick_eq) | split | (simp [h_regs, h_ep, h_ic, h_sw]))
@[simp ↓] theorem State.rxAbort_blot (L : Piece → Bool) (s : State) (p : Nat) (h_regs : L .regs = true) (h_ep : L .ep = true) (h_ic : L .ic = true) (h_sw : L .sw = true)  :
    blot L (State.rxAbort s p) = blot L s := by
  unfold State.rxAbort
  (try simp [h_regs, h_ep, h_ic, h_sw]) <;> repeat' (first | with_reducible rfl | (apply pick_eq) | split | (simp [h_regs, h_ep, h_ic, h_sw]))
@[simp ↓] theorem State.linkDown_blot (L : Piece → Bool) (s : State) (p : Nat) (h_regs : L .regs = true) (h_ep : L .ep = true) (h_ic : L .ic = true) (h_sw : L .sw = true)  :
    blot L (State.linkDown s p) = blot L s := by
  unfold State.linkDown
  (try simp [h_regs, h_ep, h_ic, h_sw]) <;> repeat' (first | with_reducible rfl | (apply pick_eq) | split | (simp [h_regs, h_ep, h_ic, h_sw]))
@[simp ↓] theorem State.netDown_blot (L : Piece → Bool) (s : State) (h_regs : L .regs = true) (h_ep : L .ep = true) (h_ic : L .ic = true) (h_sw : L .sw = true)  :
    blot L (State.netDown s) = blot L s := by
  unfold State.netDown
  (try simp [h_regs, h_ep, h_ic, h_sw]) <;> repeat' (first | with_reducible rfl | (apply pick_eq) | split | (simp [h_regs, h_ep, h_ic, h_sw]))
@[simp ↓] theorem State.pinsDown_blot (L : Piece → Bool) (s : State) (h_pn : L .pn = true)  :
    blot L (State.pinsDown s) = blot L s := by
  unfold State.pinsDown
  (try simp [h_pn]) <;> repeat' (first | with_reducible rfl | (apply pick_eq) | split | (simp [h_pn]))
@[simp ↓] theorem State.resetRegs_blot (L : Piece → Bool) (s : State) (lo : Nat) (hi : Nat) (h_regs : L .regs = true)  :
    blot L (State.resetRegs s lo hi) = blot L s := by
  unfold State.resetRegs
  (try simp [h_regs]) <;> repeat' (first | with_reducible rfl | (apply pick_eq) | split | (simp [h_regs]))
@[simp ↓] theorem State.blockOff_blot (L : Piece → Bool) (s : State) (n : Nat) (h_regs : L .regs = true) (h_mem : L .mem = true) (h_ao : L .ao = true) (h_ep : L .ep = true) (h_wg : L .wg = true) (h_ic : L .ic = true) (h_kb : L .kb = true) (h_pn : L .pn = true) (h_can : L .can = true) (h_sw : L .sw = true) (h_nm : L .nm = true) (h_sf : L .sf = true) (h_ux : L .ux = true)  :
    blot L (State.blockOff s n) = blot L s := by
  unfold State.blockOff
  (repeat' split) <;> (try with_reducible rfl) <;> (try simp [h_regs, h_mem, h_ao, h_ep, h_wg, h_ic, h_kb, h_pn, h_can, h_sw, h_nm, h_sf, h_ux]) <;> (repeat' (first | with_reducible rfl | (apply pick_eq) | split | (simp [h_regs, h_mem, h_ao, h_ep, h_wg, h_ic, h_kb, h_pn, h_can, h_sw, h_nm, h_sf, h_ux])))
@[simp ↓] theorem State.powerOp_blot (L : Piece → Bool) (s : State) (n : Nat) (action : Nat) (h_regs : L .regs = true) (h_mem : L .mem = true) (h_ao : L .ao = true) (h_ep : L .ep = true) (h_wg : L .wg = true) (h_ic : L .ic = true) (h_kb : L .kb = true) (h_pn : L .pn = true) (h_can : L .can = true) (h_sw : L .sw = true) (h_nm : L .nm = true) (h_sf : L .sf = true) (h_ux : L .ux = true)  :
    blot L (State.powerOp s n action) = blot L s := by
  unfold State.powerOp
  (try simp [h_regs, h_mem, h_ao, h_ep, h_wg, h_ic, h_kb, h_pn, h_can, h_sw, h_nm, h_sf, h_ux]) <;> repeat' (first | with_reducible rfl | (apply pick_eq) | split | (simp [h_regs, h_mem, h_ao, h_ep, h_wg, h_ic, h_kb, h_pn, h_can, h_sw, h_nm, h_sf, h_ux]))
@[simp ↓] theorem State.powerReq_blot (L : Piece → Bool) (s : State) (w : Nat) (h_regs : L .regs = true) (h_mem : L .mem = true) (h_ao : L .ao = true) (h_ep : L .ep = true) (h_wg : L .wg = true) (h_ic : L .ic = true) (h_kb : L .kb = true) (h_pn : L .pn = true) (h_can : L .can = true) (h_sw : L .sw = true) (h_nm : L .nm = true) (h_sf : L .sf = true) (h_ux : L .ux = true)  :
    blot L (State.powerReq s w) = blot L s := by
  unfold State.powerReq
  (try simp [h_regs, h_mem, h_ao, h_ep, h_wg, h_ic, h_kb, h_pn, h_can, h_sw, h_nm, h_sf, h_ux]) <;> repeat' (first | with_reducible rfl | (apply pick_eq) | split | (simp [h_regs, h_mem, h_ao, h_ep, h_wg, h_ic, h_kb, h_pn, h_can, h_sw, h_nm, h_sf, h_ux]))
@[simp ↓] theorem State.powerWrite_blot (L : Piece → Bool) (s : State) (who : Who) (bytes : Nat) (w : Word) (h_regs : L .regs = true) (h_mem : L .mem = true) (h_resp : L .resp = true) (h_ao : L .ao = true) (h_ep : L .ep = true) (h_wg : L .wg = true) (h_ic : L .ic = true) (h_kb : L .kb = true) (h_pn : L .pn = true) (h_can : L .can = true) (h_sw : L .sw = true) (h_nm : L .nm = true) (h_sf : L .sf = true) (h_cp : L .cp = true) (h_ux : L .ux = true)  :
    blot L (State.powerWrite s who bytes w) = blot L s := by
  unfold State.powerWrite
  (try simp [h_regs, h_mem, h_resp, h_ao, h_ep, h_wg, h_ic, h_kb, h_pn, h_can, h_sw, h_nm, h_sf, h_cp, h_ux]) <;> repeat' (first | with_reducible rfl | (apply pick_eq) | split | (simp [h_regs, h_mem, h_resp, h_ao, h_ep, h_wg, h_ic, h_kb, h_pn, h_can, h_sw, h_nm, h_sf, h_cp, h_ux]))
@[simp ↓] theorem State.stageEffect_blot (L : Piece → Bool) (s : State) (k : Nat) (w : Word) (h_regs : L .regs = true) (h_ao : L .ao = true)  :
    blot L (State.stageEffect s k w) = blot L s := by
  unfold State.stageEffect
  (try simp [h_regs, h_ao]) <;> repeat' (first | with_reducible rfl | (apply pick_eq) | split | (simp [h_regs, h_ao]))
@[simp ↓] theorem State.logStageWrite_blot (L : Piece → Bool) (s : State) (who : Who) (bytes : Nat) (k : Nat) (w : Word) (h_regs : L .regs = true) (h_resp : L .resp = true) (h_ao : L .ao = true) (h_wg : L .wg = true) (h_ic : L .ic = true) (h_cp : L .cp = true)  :
    blot L (State.logStageWrite s who bytes k w) = blot L s := by
  unfold State.logStageWrite
  (try simp [h_regs, h_resp, h_ao, h_wg, h_ic, h_cp]) <;> repeat' (first | with_reducible rfl | (apply pick_eq) | split | (simp [h_regs, h_resp, h_ao, h_wg, h_ic, h_cp]))
@[simp ↓] theorem State.srcCfgWrite_blot (L : Piece → Bool) (s : State) (who : Who) (bytes : Nat) (n : Nat) (w : Word) (h_regs : L .regs = true) (h_resp : L .resp = true) (h_wg : L .wg = true) (h_ic : L .ic = true) (h_cp : L .cp = true)  :
    blot L (State.srcCfgWrite s who bytes n w) = blot L s := by
  unfold State.srcCfgWrite
  (try simp [h_regs, h_resp, h_wg, h_ic, h_cp]) <;> repeat' (first | with_reducible rfl | (apply pick_eq) | split | (simp [h_regs, h_resp, h_wg, h_ic, h_cp]))
@[simp ↓] theorem State.targetCtrlWrite_blot (L : Piece → Bool) (s : State) (who : Who) (bytes : Nat) (t : Nat) (w : Word) (h_regs : L .regs = true) (h_resp : L .resp = true) (h_wg : L .wg = true) (h_ic : L .ic = true) (h_cp : L .cp = true)  :
    blot L (State.targetCtrlWrite s who bytes t w) = blot L s := by
  unfold State.targetCtrlWrite
  (try simp [h_regs, h_resp, h_wg, h_ic, h_cp]) <;> repeat' (first | with_reducible rfl | (apply pick_eq) | split | (simp [h_regs, h_resp, h_wg, h_ic, h_cp]))
@[simp ↓] theorem State.claimWrite_blot (L : Piece → Bool) (s : State) (who : Who) (bytes : Nat) (t : Nat) (w : Word) (h_regs : L .regs = true) (h_resp : L .resp = true) (h_wg : L .wg = true) (h_ic : L .ic = true) (h_cp : L .cp = true)  :
    blot L (State.claimWrite s who bytes t w) = blot L s := by
  unfold State.claimWrite
  (try simp [h_regs, h_resp, h_wg, h_ic, h_cp]) <;> repeat' (first | with_reducible rfl | (apply pick_eq) | split | (simp [h_regs, h_resp, h_wg, h_ic, h_cp]))
@[simp ↓] theorem State.endClaim_blot (L : Piece → Bool) (s : State) (n : Nat) (h_ic : L .ic = true)  :
    blot L (State.endClaim s n) = blot L s := by
  unfold State.endClaim
  (try simp [h_ic]) <;> repeat' (first | with_reducible rfl | (apply pick_eq) | split | (simp [h_ic]))
@[simp ↓] theorem State.completeWrite_blot (L : Piece → Bool) (s : State) (who : Who) (bytes : Nat) (t : Nat) (w : Word) (h_regs : L .regs = true) (h_resp : L .resp = true) (h_wg : L .wg = true) (h_ic : L .ic = true) (h_cp : L .cp = true)  :
    blot L (State.completeWrite s who bytes t w) = blot L s := by
  unfold State.completeWrite
  (try simp [h_regs, h_resp, h_wg, h_ic, h_cp]) <;> repeat' (first | with_reducible rfl | (apply pick_eq) | split | (simp [h_regs, h_resp, h_wg, h_ic, h_cp]))
@[simp ↓] theorem State.camTimingWrite_blot (L : Piece → Bool) (s : State) (who : Who) (bytes : Nat) (c : Nat) (w : Word) (h_regs : L .regs = true) (h_resp : L .resp = true) (h_wg : L .wg = true) (h_ic : L .ic = true) (h_cp : L .cp = true)  :
    blot L (State.camTimingWrite s who bytes c w) = blot L s := by
  unfold State.camTimingWrite
  (try simp [h_regs, h_resp, h_wg, h_ic, h_cp]) <;> repeat' (first | with_reducible rfl | (apply pick_eq) | split | (simp [h_regs, h_resp, h_wg, h_ic, h_cp]))
@[simp ↓] theorem State.camStop_blot (L : Piece → Bool) (s : State) (c : Nat) (h_regs : L .regs = true) (h_sf : L .sf = true)  :
    blot L (State.camStop s c) = blot L s := by
  unfold State.camStop
  (try simp [h_regs, h_sf]) <;> repeat' (first | with_reducible rfl | (apply pick_eq) | split | (simp [h_regs, h_sf]))
@[simp ↓] theorem State.camCtrlWrite_blot (L : Piece → Bool) (s : State) (who : Who) (bytes : Nat) (c : Nat) (w : Word) (h_regs : L .regs = true) (h_resp : L .resp = true) (h_wg : L .wg = true) (h_ic : L .ic = true) (h_sf : L .sf = true) (h_cp : L .cp = true)  :
    blot L (State.camCtrlWrite s who bytes c w) = blot L s := by
  unfold State.camCtrlWrite
  (try simp [h_regs, h_resp, h_wg, h_ic, h_sf, h_cp]) <;> repeat' (first | with_reducible rfl | (apply pick_eq) | split | (simp [h_regs, h_resp, h_wg, h_ic, h_sf, h_cp]))
@[simp ↓] theorem State.i2cWrite_blot (L : Piece → Bool) (s : State) (who : Who) (bytes : Nat) (c : Nat) (w : Word) (h_regs : L .regs = true) (h_resp : L .resp = true) (h_wg : L .wg = true) (h_ic : L .ic = true) (h_sf : L .sf = true) (h_cp : L .cp = true)  :
    blot L (State.i2cWrite s who bytes c w) = blot L s := by
  unfold State.i2cWrite
  (try simp [h_regs, h_resp, h_wg, h_ic, h_sf, h_cp]) <;> repeat' (first | with_reducible rfl | (apply pick_eq) | split | (simp [h_regs, h_resp, h_wg, h_ic, h_sf, h_cp]))
@[simp ↓] theorem State.endCmd_blot (L : Piece → Bool) (s : State) (id : CmdId) (code : Nat) (detail : Nat) (h_mem : L .mem = true) (h_ep : L .ep = true) (h_wg : L .wg = true) (h_ic : L .ic = true)  :
    blot L (State.endCmd s id code detail) = blot L s := by
  unfold State.endCmd
  (try simp [h_mem, h_ep, h_wg, h_ic]) <;> repeat' (first | with_reducible rfl | (apply pick_eq) | split | (simp [h_mem, h_ep, h_wg, h_ic]))
@[simp ↓] theorem State.endReq_blot (L : Piece → Bool) (s : State) (id : Option CmdId) (code : Nat) (h_mem : L .mem = true) (h_ep : L .ep = true) (h_wg : L .wg = true) (h_ic : L .ic = true)  :
    blot L (State.endReq s id code) = blot L s := by
  unfold State.endReq
  (try simp [h_mem, h_ep, h_wg, h_ic]) <;> repeat' (first | with_reducible rfl | (apply pick_eq) | split | (simp [h_mem, h_ep, h_wg, h_ic]))
@[simp ↓] theorem State.superseded_blot (L : Piece → Bool) (s : State) (id : Option CmdId) (h_mem : L .mem = true) (h_ep : L .ep = true) (h_wg : L .wg = true) (h_ic : L .ic = true)  :
    blot L (State.superseded s id) = blot L s := by
  unfold State.superseded
  (try simp [h_mem, h_ep, h_wg, h_ic]) <;> repeat' (first | with_reducible rfl | (apply pick_eq) | split | (simp [h_mem, h_ep, h_wg, h_ic]))
@[simp ↓] theorem State.ovlRequest_blot (L : Piece → Bool) (s : State) (j : Nat) (id : Option CmdId) (addr : Nat) (h_mem : L .mem = true) (h_ep : L .ep = true) (h_wg : L .wg = true) (h_ic : L .ic = true) (h_sf : L .sf = true)  :
    blot L (State.ovlRequest s j id addr) = blot L s := by
  unfold State.ovlRequest
  (try simp [h_mem, h_ep, h_wg, h_ic, h_sf]) <;> repeat' (first | with_reducible rfl | (apply pick_eq) | split | (simp [h_mem, h_ep, h_wg, h_ic, h_sf]))
@[simp ↓] theorem State.ovlLoWrite_blot (L : Piece → Bool) (s : State) (who : Who) (bytes : Nat) (j : Nat) (w : Word) (h_regs : L .regs = true) (h_mem : L .mem = true) (h_resp : L .resp = true) (h_ep : L .ep = true) (h_wg : L .wg = true) (h_ic : L .ic = true) (h_sf : L .sf = true) (h_cp : L .cp = true)  :
    blot L (State.ovlLoWrite s who bytes j w) = blot L s := by
  unfold State.ovlLoWrite
  (try simp [h_regs, h_mem, h_resp, h_ep, h_wg, h_ic, h_sf, h_cp]) <;> repeat' (first | with_reducible rfl | (apply pick_eq) | split | (simp [h_regs, h_mem, h_resp, h_ep, h_wg, h_ic, h_sf, h_cp]))
@[simp ↓] theorem State.ovlHiWrite_blot (L : Piece → Bool) (s : State) (who : Who) (bytes : Nat) (j : Nat) (w : Word) (h_regs : L .regs = true) (h_resp : L .resp = true) (h_wg : L .wg = true) (h_ic : L .ic = true) (h_sf : L .sf = true) (h_cp : L .cp = true)  :
    blot L (State.ovlHiWrite s who bytes j w) = blot L s := by
  unfold State.ovlHiWrite
  (try simp [h_regs, h_resp, h_wg, h_ic, h_sf, h_cp]) <;> repeat' (first | with_reducible rfl | (apply pick_eq) | split | (simp [h_regs, h_resp, h_wg, h_ic, h_sf, h_cp]))
@[simp ↓] theorem State.tapRequest_blot (L : Piece → Bool) (s : State) (i : Nat) (id : Option CmdId) (on : Bool) (h_mem : L .mem = true) (h_ep : L .ep = true) (h_wg : L .wg = true) (h_ic : L .ic = true) (h_sf : L .sf = true)  :
    blot L (State.tapRequest s i id on) = blot L s := by
  unfold State.tapRequest
  (try simp [h_mem, h_ep, h_wg, h_ic, h_sf]) <;> repeat' (first | with_reducible rfl | (apply pick_eq) | split | (simp [h_mem, h_ep, h_wg, h_ic, h_sf]))
@[simp ↓] theorem State.tapCfgWrite_blot (L : Piece → Bool) (s : State) (who : Who) (bytes : Nat) (i : Nat) (w : Word) (h_regs : L .regs = true) (h_mem : L .mem = true) (h_resp : L .resp = true) (h_ep : L .ep = true) (h_wg : L .wg = true) (h_ic : L .ic = true) (h_sf : L .sf = true) (h_cp : L .cp = true)  :
    blot L (State.tapCfgWrite s who bytes i w) = blot L s := by
  unfold State.tapCfgWrite
  (try simp [h_regs, h_mem, h_resp, h_ep, h_wg, h_ic, h_sf, h_cp]) <;> repeat' (first | with_reducible rfl | (apply pick_eq) | split | (simp [h_regs, h_mem, h_resp, h_ep, h_wg, h_ic, h_sf, h_cp]))
@[simp ↓] theorem State.integStateWrite_blot (L : Piece → Bool) (s : State) (who : Who) (bytes : Nat) (d : Nat) (w : Word) (h_regs : L .regs = true) (h_resp : L .resp = true) (h_wg : L .wg = true) (h_ic : L .ic = true) (h_sf : L .sf = true) (h_cp : L .cp = true)  :
    blot L (State.integStateWrite s who bytes d w) = blot L s := by
  unfold State.integStateWrite
  (try simp [h_regs, h_resp, h_wg, h_ic, h_sf, h_cp]) <;> repeat' (first | with_reducible rfl | (apply pick_eq) | split | (simp [h_regs, h_resp, h_wg, h_ic, h_sf, h_cp]))
@[simp ↓] theorem State.pocWrite_blot (L : Piece → Bool) (s : State) (who : Who) (bytes : Nat) (c : Nat) (w : Word) (h_regs : L .regs = true) (h_resp : L .resp = true) (h_wg : L .wg = true) (h_ic : L .ic = true) (h_sf : L .sf = true) (h_cp : L .cp = true)  :
    blot L (State.pocWrite s who bytes c w) = blot L s := by
  unfold State.pocWrite
  (try simp [h_regs, h_resp, h_wg, h_ic, h_sf, h_cp]) <;> repeat' (first | with_reducible rfl | (apply pick_eq) | split | (simp [h_regs, h_resp, h_wg, h_ic, h_sf, h_cp]))
@[simp ↓] theorem State.heartbeatWrite_blot (L : Piece → Bool) (s : State) (who : Who) (bytes : Nat) (w : Word) (h_regs : L .regs = true) (h_resp : L .resp = true) (h_wg : L .wg = true) (h_ic : L .ic = true) (h_sf : L .sf = true) (h_cp : L .cp = true)  :
    blot L (State.heartbeatWrite s who bytes w) = blot L s := by
  unfold State.heartbeatWrite
  (try simp [h_regs, h_resp, h_wg, h_ic, h_sf, h_cp]) <;> repeat' (first | with_reducible rfl | (apply pick_eq) | split | (simp [h_regs, h_resp, h_wg, h_ic, h_sf, h_cp]))
@[simp ↓] theorem State.leaveLayby_blot (L : Piece → Bool) (s : State) (n : Nat) (h_regs : L .regs = true) (h_kb : L .kb = true)  :
    blot L (State.leaveLayby s n) = blot L s := by
  unfold State.leaveLayby
  (try simp [h_regs, h_kb]) <;> repeat' (first | with_reducible rfl | (apply pick_eq) | split | (simp [h_regs, h_kb]))
@[simp ↓] theorem State.ctrlFirst_blot (L : Piece → Bool) (s : State) (n : Nat) (w : Nat) (h_regs : L .regs = true) (h_kb : L .kb = true)  :
    blot L (State.ctrlFirst s n w) = blot L s := by
  unfold State.ctrlFirst
  (try simp [h_regs, h_kb]) <;> repeat' (first | with_reducible rfl | (apply pick_eq) | split | (simp [h_regs, h_kb]))
@[simp ↓] theorem State.awaitPeriod_blot (L : Piece → Bool) (s : State) (n : Nat) (h_kb : L .kb = true)  :
    blot L (State.awaitPeriod s n) = blot L s := by
  unfold State.awaitPeriod
  (try simp [h_kb]) <;> repeat' (first | with_reducible rfl | (apply pick_eq) | split | (simp [h_kb]))
@[simp ↓] theorem State.applySwitch_blot (L : Piece → Bool) (s : State) (n : Nat) (on : Bool) (duty : Nat) (hz : Nat) (mode : Nat) (h_regs : L .regs = true) (h_kb : L .kb = true)  :
    blot L (State.applySwitch s n on duty hz mode).2 = blot L s := by
  unfold State.applySwitch
  (try simp [h_regs, h_kb]) <;> repeat' (first | with_reducible rfl | (apply pick_eq) | split | (simp [h_regs, h_kb]))
@[simp ↓] theorem State.ctrlCommits_blot (L : Piece → Bool) (s : State) (n : Nat) (w : Nat) (h_regs : L .regs = true) (h_ic : L .ic = true) (h_kb : L .kb = true)  :
    blot L (State.ctrlCommits s n w) = blot L s := by
  unfold State.ctrlCommits
  (try simp [h_regs, h_ic, h_kb]) <;> repeat' (first | with_reducible rfl | (apply pick_eq) | split | (simp [h_regs, h_ic, h_kb]))
@[simp ↓] theorem State.chCtrlWrite_blot (L : Piece → Bool) (s : State) (who : Who) (bytes : Nat) (n : Nat) (w : Word) (h_regs : L .regs = true) (h_resp : L .resp = true) (h_wg : L .wg = true) (h_ic : L .ic = true) (h_kb : L .kb = true) (h_cp : L .cp = true)  :
    blot L (State.chCtrlWrite s who bytes n w) = blot L s := by
  unfold State.chCtrlWrite
  (try simp [h_regs, h_resp, h_wg, h_ic, h_kb, h_cp]) <;> repeat' (first | with_reducible rfl | (apply pick_eq) | split | (simp [h_regs, h_resp, h_wg, h_ic, h_kb, h_cp]))
@[simp ↓] theorem State.laybyDistrict_blot (L : Piece → Bool) (s : State) (cause : Nat) (d : Nat) (h_regs : L .regs = true) (h_mem : L .mem = true) (h_ep : L .ep = true) (h_wg : L .wg = true) (h_ic : L .ic = true) (h_kb : L .kb = true) (h_pn : L .pn = true)  :
    blot L (State.laybyDistrict s cause d) = blot L s := by
  unfold State.laybyDistrict
  (try simp [h_regs, h_mem, h_ep, h_wg, h_ic, h_kb, h_pn]) <;> repeat' (first | with_reducible rfl | (apply pick_eq) | split | (simp [h_regs, h_mem, h_ep, h_wg, h_ic, h_kb, h_pn]))
@[simp ↓] theorem State.pinsRelease_blot (L : Piece → Bool) (s : State) (ds : Nat → Bool) (h_pn : L .pn = true)  :
    blot L (State.pinsRelease s ds) = blot L s := by
  unfold State.pinsRelease
  (try simp [h_pn]) <;> repeat' (first | with_reducible rfl | (apply pick_eq) | split | (simp [h_pn]))
@[simp ↓] theorem State.releaseLayby_blot (L : Piece → Bool) (s : State) (l : List Nat) (h_regs : L .regs = true) (h_kb : L .kb = true)  :
    blot L (State.releaseLayby s l) = blot L s := by
  unfold State.releaseLayby
  (try simp [h_regs, h_kb]) <;> repeat' (first | with_reducible rfl | (apply pick_eq) | split | (simp [h_regs, h_kb]))
@[simp ↓] theorem State.laybyOp_blot (L : Piece → Bool) (s : State) (op : Nat) (d : Nat) (h_regs : L .regs = true) (h_mem : L .mem = true) (h_ep : L .ep = true) (h_wg : L .wg = true) (h_ic : L .ic = true) (h_kb : L .kb = true) (h_pn : L .pn = true)  :
    blot L (State.laybyOp s op d) = blot L s := by
  unfold State.laybyOp
  (try simp [h_regs, h_mem, h_ep, h_wg, h_ic, h_kb, h_pn]) <;> repeat' (first | with_reducible rfl | (apply pick_eq) | split | (simp [h_regs, h_mem, h_ep, h_wg, h_ic, h_kb, h_pn]))
@[simp ↓] theorem State.laybyCtrlWrite_blot (L : Piece → Bool) (s : State) (who : Who) (bytes : Nat) (w : Word) (h_regs : L .regs = true) (h_mem : L .mem = true) (h_resp : L .resp = true) (h_ep : L .ep = true) (h_wg : L .wg = true) (h_ic : L .ic = true) (h_kb : L .kb = true) (h_pn : L .pn = true) (h_cp : L .cp = true)  :
    blot L (State.laybyCtrlWrite s who bytes w) = blot L s := by
  unfold State.laybyCtrlWrite
  (try simp [h_regs, h_mem, h_resp, h_ep, h_wg, h_ic, h_kb, h_pn, h_cp]) <;> repeat' (first | with_reducible rfl | (apply pick_eq) | split | (simp [h_regs, h_mem, h_resp, h_ep, h_wg, h_ic, h_kb, h_pn, h_cp]))
@[simp ↓] theorem State.canModeWrite_blot (L : Piece → Bool) (s : State) (who : Who) (bytes : Nat) (k : Nat) (w : Word) (h_regs : L .regs = true) (h_resp : L .resp = true) (h_wg : L .wg = true) (h_ic : L .ic = true) (h_cp : L .cp = true)  :
    blot L (State.canModeWrite s who bytes k w) = blot L s := by
  unfold State.canModeWrite
  (try simp [h_regs, h_resp, h_wg, h_ic, h_cp]) <;> repeat' (first | with_reducible rfl | (apply pick_eq) | split | (simp [h_regs, h_resp, h_wg, h_ic, h_cp]))
@[simp ↓] theorem State.canEvent_blot (L : Piece → Bool) (s : State) (k : Nat) (c : Nat) (h_regs : L .regs = true)  :
    blot L (State.canEvent s k c) = blot L s := by
  unfold State.canEvent
  (try simp [h_regs]) <;> repeat' (first | with_reducible rfl | (apply pick_eq) | split | (simp [h_regs]))
@[simp ↓] theorem State.ttClose_blot (L : Piece → Bool) (s : State) (k : Nat) (h_regs : L .regs = true) (h_ic : L .ic = true) (h_can : L .can = true)  :
    blot L (State.ttClose s k) = blot L s := by
  unfold State.ttClose
  (try simp [h_regs, h_ic, h_can]) <;> repeat' (first | with_reducible rfl | (apply pick_eq) | split | (simp [h_regs, h_ic, h_can]))
@[simp ↓] theorem State.ttRefWrite_blot (L : Piece → Bool) (s : State) (who : Who) (bytes : Nat) (k : Nat) (w : Word) (h_regs : L .regs = true) (h_resp : L .resp = true) (h_wg : L .wg = true) (h_ic : L .ic = true) (h_cp : L .cp = true)  :
    blot L (State.ttRefWrite s who bytes k w) = blot L s := by
  unfold State.ttRefWrite
  (try simp [h_regs, h_resp, h_wg, h_ic, h_cp]) <;> repeat' (first | with_reducible rfl | (apply pick_eq) | split | (simp [h_regs, h_resp, h_wg, h_ic, h_cp]))
@[simp ↓] theorem State.consume_blot (L : Piece → Bool) (s : State) (k : Nat) (b : Nat) (h_regs : L .regs = true)  :
    blot L (State.consume s k b) = blot L s := by
  unfold State.consume
  (try simp [h_regs]) <;> repeat' (first | with_reducible rfl | (apply pick_eq) | split | (simp [h_regs]))
@[simp ↓] theorem State.mbWindowWrite_blot (L : Piece → Bool) (s : State) (who : Who) (bytes : Nat) (k : Nat) (w : Nat) (v : Word) (h_regs : L .regs = true) (h_resp : L .resp = true) (h_wg : L .wg = true) (h_ic : L .ic = true) (h_can : L .can = true) (h_cp : L .cp = true)  :
    blot L (State.mbWindowWrite s who bytes k w v) = blot L s := by
  unfold State.mbWindowWrite
  (try simp [h_regs, h_resp, h_wg, h_ic, h_can, h_cp]) <;> repeat' (first | with_reducible rfl | (apply pick_eq) | split | (simp [h_regs, h_resp, h_wg, h_ic, h_can, h_cp]))
@[simp ↓] theorem State.mbCfgWrite_blot (L : Piece → Bool) (s : State) (who : Who) (bytes : Nat) (k : Nat) (b : Nat) (w : Word) (h_regs : L .regs = true) (h_resp : L .resp = true) (h_wg : L .wg = true) (h_ic : L .ic = true) (h_can : L .can = true) (h_cp : L .cp = true)  :
    blot L (State.mbCfgWrite s who bytes k b w) = blot L s := by
  unfold State.mbCfgWrite
  (try simp [h_regs, h_resp, h_wg, h_ic, h_can, h_cp]) <;> repeat' (first | with_reducible rfl | (apply pick_eq) | split | (simp [h_regs, h_resp, h_wg, h_ic, h_can, h_cp]))
@[simp ↓] theorem State.txRequest_blot (L : Piece → Bool) (s : State) (k : Nat) (b : Nat) (h_regs : L .regs = true) (h_can : L .can = true)  :
    blot L (State.txRequest s k b) = blot L s := by
  unfold State.txRequest
  (try simp [h_regs, h_can]) <;> repeat' (first | with_reducible rfl | (apply pick_eq) | split | (simp [h_regs, h_can]))
@[simp ↓] theorem State.mbCtrlWrite_blot (L : Piece → Bool) (s : State) (who : Who) (bytes : Nat) (k : Nat) (b : Nat) (w : Word) (h_regs : L .regs = true) (h_mem : L .mem = true) (h_resp : L .resp = true) (h_ep : L .ep = true) (h_wg : L .wg = true) (h_ic : L .ic = true) (h_can : L .can = true) (h_cp : L .cp = true)  :
    blot L (State.mbCtrlWrite s who bytes k b w) = blot L s := by
  unfold State.mbCtrlWrite
  (try simp [h_regs, h_mem, h_resp, h_ep, h_wg, h_ic, h_can, h_cp]) <;> repeat' (first | with_reducible rfl | (apply pick_eq) | split | (simp [h_regs, h_mem, h_resp, h_ep, h_wg, h_ic, h_can, h_cp]))
@[simp ↓] theorem State.tryDropped_blot (L : Piece → Bool) (s : State) (k : Nat) (h_regs : L .regs = true) (h_mem : L .mem = true) (h_ep : L .ep = true) (h_wg : L .wg = true) (h_ic : L .ic = true) (h_can : L .can = true)  :
    blot L (State.tryDropped s k) = blot L s := by
  unfold State.tryDropped
  (try simp [h_regs, h_mem, h_ep, h_wg, h_ic, h_can]) <;> repeat' (first | with_reducible rfl | (apply pick_eq) | split | (simp [h_regs, h_mem, h_ep, h_wg, h_ic, h_can]))
@[simp ↓] theorem State.trxSleep_blot (L : Piece → Bool) (s : State) (k : Nat) (h_regs : L .regs = true) (h_mem : L .mem = true) (h_ep : L .ep = true) (h_wg : L .wg = true) (h_ic : L .ic = true) (h_can : L .can = true) (h_nm : L .nm = true)  :
    blot L (State.trxSleep s k) = blot L s := by
  unfold State.trxSleep
  (try simp [h_regs, h_mem, h_ep, h_wg, h_ic, h_can, h_nm]) <;> repeat' (first | with_reducible rfl | (apply pick_eq) | split | (simp [h_regs, h_mem, h_ep, h_wg, h_ic, h_can, h_nm]))
@[simp ↓] theorem State.trxNormal_blot (L : Piece → Bool) (s : State) (k : Nat) (h_regs : L .regs = true) (h_can : L .can = true) (h_nm : L .nm = true)  :
    blot L (State.trxNormal s k) = blot L s := by
  unfold State.trxNormal
  (try simp [h_regs, h_can, h_nm]) <;> repeat' (first | with_reducible rfl | (apply pick_eq) | split | (simp [h_regs, h_can, h_nm]))
@[simp ↓] theorem State.trxCtrlWrite_blot (L : Piece → Bool) (s : State) (who : Who) (bytes : Nat) (k : Nat) (w : Word) (h_regs : L .regs = true) (h_mem : L .mem = true) (h_resp : L .resp = true) (h_ep : L .ep = true) (h_wg : L .wg = true) (h_ic : L .ic = true) (h_can : L .can = true) (h_nm : L .nm = true) (h_cp : L .cp = true)  :
    blot L (State.trxCtrlWrite s who bytes k w) = blot L s := by
  unfold State.trxCtrlWrite
  (try simp [h_regs, h_mem, h_resp, h_ep, h_wg, h_ic, h_can, h_nm, h_cp]) <;> repeat' (first | with_reducible rfl | (apply pick_eq) | split | (simp [h_regs, h_mem, h_resp, h_ep, h_wg, h_ic, h_can, h_nm, h_cp]))
@[simp ↓] theorem State.swkWrite_blot (L : Piece → Bool) (s : State) (who : Who) (bytes : Nat) (k : Nat) (a : Nat) (w : Word) (h_regs : L .regs = true) (h_resp : L .resp = true) (h_wg : L .wg = true) (h_ic : L .ic = true) (h_cp : L .cp = true)  :
    blot L (State.swkWrite s who bytes k a w) = blot L s := by
  unfold State.swkWrite
  (try simp [h_regs, h_resp, h_wg, h_ic, h_cp]) <;> repeat' (first | with_reducible rfl | (apply pick_eq) | split | (simp [h_regs, h_resp, h_wg, h_ic, h_cp]))
@[simp ↓] theorem State.curfewCommit_blot (L : Piece → Bool) (s : State) (m : Nat) (h_now : L .now = true) (h_vt : L .vt = true) (h_regs : L .regs = true) (h_mem : L .mem = true) (h_ep : L .ep = true) (h_wg : L .wg = true) (h_ic : L .ic = true) (h_can : L .can = true) (h_ptp : L .ptp = true) (h_nm : L .nm = true)  :
    blot L (State.curfewCommit s m) = blot L s := by
  unfold State.curfewCommit
  (try simp [h_now, h_vt, h_regs, h_mem, h_ep, h_wg, h_ic, h_can, h_ptp, h_nm]) <;> repeat' (first | with_reducible rfl | (apply pick_eq) | split | (simp [h_now, h_vt, h_regs, h_mem, h_ep, h_wg, h_ic, h_can, h_ptp, h_nm]))
@[simp ↓] theorem State.duePast_blot (L : Piece → Bool) (s : State) (m : Nat) (h_now : L .now = true) (h_vt : L .vt = true) (h_regs : L .regs = true) (h_mem : L .mem = true) (h_ep : L .ep = true) (h_wg : L .wg = true) (h_ic : L .ic = true) (h_can : L .can = true) (h_ptp : L .ptp = true) (h_nm : L .nm = true)  :
    blot L (State.duePast s m) = blot L s := by
  unfold State.duePast
  (try simp [h_now, h_vt, h_regs, h_mem, h_ep, h_wg, h_ic, h_can, h_ptp, h_nm]) <;> repeat' (first | with_reducible rfl | (apply pick_eq) | split | (simp [h_now, h_vt, h_regs, h_mem, h_ep, h_wg, h_ic, h_can, h_ptp, h_nm]))
@[simp ↓] theorem State.medEvent_blot (L : Piece → Bool) (s : State) (m : Nat) (c : Nat) (h_regs : L .regs = true) (h_ic : L .ic = true)  :
    blot L (State.medEvent s m c) = blot L s := by
  unfold State.medEvent
  (try simp [h_regs, h_ic]) <;> repeat' (first | with_reducible rfl | (apply pick_eq) | split | (simp [h_regs, h_ic]))
@[simp ↓] theorem State.wakePattern_blot (L : Piece → Bool) (s : State) (m : Nat) (h_nm : L .nm = true)  :
    blot L (State.wakePattern s m) = blot L s := by
  unfold State.wakePattern
  (try simp [h_nm]) <;> repeat' (first | with_reducible rfl | (apply pick_eq) | split | (simp [h_nm]))
@[simp ↓] theorem State.mediumWakes_blot (L : Piece → Bool) (s : State) (m : Nat) (h_regs : L .regs = true) (h_can : L .can = true) (h_nm : L .nm = true)  :
    blot L (State.mediumWakes s m) = blot L s := by
  unfold State.mediumWakes
  (try simp [h_regs, h_can, h_nm]) <;> repeat' (first | with_reducible rfl | (apply pick_eq) | split | (simp [h_regs, h_can, h_nm]))
@[simp ↓] theorem State.ethStamp_blot (L : Piece → Bool) (s : State) (p : Nat) (h_nm : L .nm = true)  :
    blot L (State.ethStamp s p) = blot L s := by
  unfold State.ethStamp
  (try simp [h_nm]) <;> repeat' (first | with_reducible rfl | (apply pick_eq) | split | (simp [h_nm]))
@[simp ↓] theorem State.ethResult_blot (L : Piece → Bool) (s : State) (p : Nat) (c : Nat) (h_regs : L .regs = true)  :
    blot L (State.ethResult s p c) = blot L s := by
  unfold State.ethResult
  (try simp [h_regs]) <;> repeat' (first | with_reducible rfl | (apply pick_eq) | split | (simp [h_regs]))
@[simp ↓] theorem State.setEth_blot (L : Piece → Bool) (s : State) (p : Nat) (v : Nat) (h_regs : L .regs = true)  :
    blot L (State.setEth s p v) = blot L s := by
  unfold State.setEth
  (try simp [h_regs]) <;> repeat' (first | with_reducible rfl | (apply pick_eq) | split | (simp [h_regs]))
@[simp ↓] theorem State.ethWakes_blot (L : Piece → Bool) (s : State) (p : Nat) (h_regs : L .regs = true) (h_nm : L .nm = true)  :
    blot L (State.ethWakes s p) = blot L s := by
  unfold State.ethWakes
  (try simp [h_regs, h_nm]) <;> repeat' (first | with_reducible rfl | (apply pick_eq) | split | (simp [h_regs, h_nm]))
@[simp ↓] theorem State.ethTakes_blot (L : Piece → Bool) (s : State) (q : Nat) (h_regs : L .regs = true) (h_nm : L .nm = true)  :
    blot L (State.ethTakes s q) = blot L s := by
  unfold State.ethTakes
  (try simp [h_regs, h_nm]) <;> repeat' (first | with_reducible rfl | (apply pick_eq) | split | (simp [h_regs, h_nm]))
@[simp ↓] theorem State.ethForward_blot (L : Piece → Bool) (s : State) (p : Nat) (h_regs : L .regs = true) (h_nm : L .nm = true)  :
    blot L (State.ethForward s p) = blot L s := by
  unfold State.ethForward
  (try simp [h_regs, h_nm]) <;> repeat' (first | with_reducible rfl | (apply pick_eq) | split | (simp [h_regs, h_nm]))
@[simp ↓] theorem State.ethCtrlWrite_blot (L : Piece → Bool) (s : State) (who : Who) (bytes : Nat) (p : Nat) (w : Word) (h_regs : L .regs = true) (h_resp : L .resp = true) (h_wg : L .wg = true) (h_ic : L .ic = true) (h_nm : L .nm = true) (h_cp : L .cp = true)  :
    blot L (State.ethCtrlWrite s who bytes p w) = blot L s := by
  unfold State.ethCtrlWrite
  (try simp [h_regs, h_resp, h_wg, h_ic, h_nm, h_cp]) <;> repeat' (first | with_reducible rfl | (apply pick_eq) | split | (simp [h_regs, h_resp, h_wg, h_ic, h_nm, h_cp]))
@[simp ↓] theorem State.pinPeriod_blot (L : Piece → Bool) (s : State) (n : Nat) (v : Nat) (h_now : L .now = true) (h_vt : L .vt = true) (h_ptp : L .ptp = true)  :
    blot L (State.pinPeriod s n v) = blot L s := by
  unfold State.pinPeriod
  (try simp [h_now, h_vt, h_ptp]) <;> repeat' (first | with_reducible rfl | (apply pick_eq) | split | (simp [h_now, h_vt, h_ptp]))
@[simp ↓] theorem State.pinOutWrite_blot (L : Piece → Bool) (s : State) (who : Who) (bytes : Nat) (n : Nat) (w : Word) (h_now : L .now = true) (h_vt : L .vt = true) (h_regs : L .regs = true) (h_mem : L .mem = true) (h_resp : L .resp = true) (h_ep : L .ep = true) (h_wg : L .wg = true) (h_ic : L .ic = true) (h_pn : L .pn = true) (h_ptp : L .ptp = true) (h_cp : L .cp = true)  :
    blot L (State.pinOutWrite s who bytes n w) = blot L s := by
  unfold State.pinOutWrite
  (try simp [h_now, h_vt, h_regs, h_mem, h_resp, h_ep, h_wg, h_ic, h_pn, h_ptp, h_cp]) <;> repeat' (first | with_reducible rfl | (apply pick_eq) | split | (simp [h_now, h_vt, h_regs, h_mem, h_resp, h_ep, h_wg, h_ic, h_pn, h_ptp, h_cp]))
@[simp ↓] theorem State.linEnd_blot (L : Piece → Bool) (s : State) (l : Nat) (o : LinFrom) (code : Nat) (detail : Nat) (h_regs : L .regs = true) (h_mem : L .mem = true) (h_ep : L .ep = true) (h_wg : L .wg = true) (h_ic : L .ic = true)  :
    blot L (State.linEnd s l o code detail) = blot L s := by
  unfold State.linEnd
  (try simp [h_regs, h_mem, h_ep, h_wg, h_ic]) <;> repeat' (first | with_reducible rfl | (apply pick_eq) | split | (simp [h_regs, h_mem, h_ep, h_wg, h_ic]))
@[simp ↓] theorem State.linRun_blot (L : Piece → Bool) (s : State) (l : Nat) (t : Nat) (at_ : Nat) (h_regs : L .regs = true) (h_pn : L .pn = true)  :
    blot L (State.linRun s l t at_) = blot L s := by
  unfold State.linRun
  (try simp [h_regs, h_pn]) <;> repeat' (first | with_reducible rfl | (apply pick_eq) | split | (simp [h_regs, h_pn]))
@[simp ↓] theorem State.linHold_blot (L : Piece → Bool) (s : State) (l : Nat) (op : Nat) (t : Nat) (o : LinFrom) (h_regs : L .regs = true) (h_ep : L .ep = true) (h_pn : L .pn = true)  :
    blot L (State.linHold s l op t o) = blot L s := by
  unfold State.linHold
  (try simp [h_regs, h_ep, h_pn]) <;> repeat' (first | with_reducible rfl | (apply pick_eq) | split | (simp [h_regs, h_ep, h_pn]))
@[simp ↓] theorem State.linStartOp_blot (L : Piece → Bool) (s : State) (l : Nat) (t : Nat) (o : LinFrom) (h_regs : L .regs = true) (h_mem : L .mem = true) (h_ep : L .ep = true) (h_wg : L .wg = true) (h_ic : L .ic = true) (h_pn : L .pn = true)  :
    blot L (State.linStartOp s l t o) = blot L s := by
  unfold State.linStartOp
  (try simp [h_regs, h_mem, h_ep, h_wg, h_ic, h_pn]) <;> repeat' (first | with_reducible rfl | (apply pick_eq) | split | (simp [h_regs, h_mem, h_ep, h_wg, h_ic, h_pn]))
@[simp ↓] theorem State.linAtSlot_blot (L : Piece → Bool) (s : State) (l : Nat) (op : Nat) (o : LinFrom) (h_regs : L .regs = true) (h_mem : L .mem = true) (h_ep : L .ep = true) (h_wg : L .wg = true) (h_ic : L .ic = true) (h_pn : L .pn = true)  :
    blot L (State.linAtSlot s l op o) = blot L s := by
  unfold State.linAtSlot
  (try simp [h_regs, h_mem, h_ep, h_wg, h_ic, h_pn]) <;> repeat' (first | with_reducible rfl | (apply pick_eq) | split | (simp [h_regs, h_mem, h_ep, h_wg, h_ic, h_pn]))
@[simp ↓] theorem State.linWakeOp_blot (L : Piece → Bool) (s : State) (l : Nat) (o : LinFrom) (h_regs : L .regs = true) (h_mem : L .mem = true) (h_ep : L .ep = true) (h_wg : L .wg = true) (h_ic : L .ic = true) (h_pn : L .pn = true)  :
    blot L (State.linWakeOp s l o) = blot L s := by
  unfold State.linWakeOp
  (try simp [h_regs, h_mem, h_ep, h_wg, h_ic, h_pn]) <;> repeat' (first | with_reducible rfl | (apply pick_eq) | split | (simp [h_regs, h_mem, h_ep, h_wg, h_ic, h_pn]))
@[simp ↓] theorem State.linSched_blot (L : Piece → Bool) (s : State) (l : Nat) (op : Nat) (t : Nat) (o : LinFrom) (h_regs : L .regs = true) (h_mem : L .mem = true) (h_ep : L .ep = true) (h_wg : L .wg = true) (h_ic : L .ic = true) (h_pn : L .pn = true)  :
    blot L (State.linSched s l op t o) = blot L s := by
  unfold State.linSched
  (try simp [h_regs, h_mem, h_ep, h_wg, h_ic, h_pn]) <;> repeat' (first | with_reducible rfl | (apply pick_eq) | split | (simp [h_regs, h_mem, h_ep, h_wg, h_ic, h_pn]))
@[simp ↓] theorem State.linCtrlWrite_blot (L : Piece → Bool) (s : State) (who : Who) (bytes : Nat) (l : Nat) (w : Word) (h_regs : L .regs = true) (h_mem : L .mem = true) (h_resp : L .resp = true) (h_ep : L .ep = true) (h_wg : L .wg = true) (h_ic : L .ic = true) (h_pn : L .pn = true) (h_cp : L .cp = true)  :
    blot L (State.linCtrlWrite s who bytes l w) = blot L s := by
  unfold State.linCtrlWrite
  (try simp [h_regs, h_mem, h_resp, h_ep, h_wg, h_ic, h_pn, h_cp]) <;> repeat' (first | with_reducible rfl | (apply pick_eq) | split | (simp [h_regs, h_mem, h_resp, h_ep, h_wg, h_ic, h_pn, h_cp]))
@[simp ↓] theorem State.linFrameCfgWrite_blot (L : Piece → Bool) (s : State) (who : Who) (bytes : Nat) (l : Nat) (id : Nat) (w : Word) (h_regs : L .regs = true) (h_resp : L .resp = true) (h_wg : L .wg = true) (h_ic : L .ic = true) (h_cp : L .cp = true)  :
    blot L (State.linFrameCfgWrite s who bytes l id w) = blot L s := by
  unfold State.linFrameCfgWrite
  (try simp [h_regs, h_resp, h_wg, h_ic, h_cp]) <;> repeat' (first | with_reducible rfl | (apply pick_eq) | split | (simp [h_regs, h_resp, h_wg, h_ic, h_cp]))
@[simp ↓] theorem State.linDataWrite_blot (L : Piece → Bool) (s : State) (who : Who) (bytes : Nat) (a : Nat) (l : Nat) (id : Nat) (w : Word) (h_regs : L .regs = true) (h_resp : L .resp = true) (h_wg : L .wg = true) (h_ic : L .ic = true) (h_cp : L .cp = true)  :
    blot L (State.linDataWrite s who bytes a l id w) = blot L s := by
  unfold State.linDataWrite
  (try simp [h_regs, h_resp, h_wg, h_ic, h_cp]) <;> repeat' (first | with_reducible rfl | (apply pick_eq) | split | (simp [h_regs, h_resp, h_wg, h_ic, h_cp]))
@[simp ↓] theorem State.outWinWrite_blot (L : Piece → Bool) (s : State) (who : Who) (bytes : Nat) (w : Nat) (high : Bool) (v : Word) (h_regs : L .regs = true) (h_resp : L .resp = true) (h_wg : L .wg = true) (h_ic : L .ic = true) (h_cp : L .cp = true)  :
    blot L (State.outWinWrite s who bytes w high v) = blot L s := by
  unfold State.outWinWrite
  (try simp [h_regs, h_resp, h_wg, h_ic, h_cp]) <;> repeat' (first | with_reducible rfl | (apply pick_eq) | split | (simp [h_regs, h_resp, h_wg, h_ic, h_cp]))
@[simp ↓] theorem State.inWinWrite_blot (L : Piece → Bool) (s : State) (who : Who) (bytes : Nat) (k : Nat) (part : Nat) (w : Word) (h_regs : L .regs = true) (h_resp : L .resp = true) (h_wg : L .wg = true) (h_ic : L .ic = true) (h_cp : L .cp = true)  :
    blot L (State.inWinWrite s who bytes k part w) = blot L s := by
  unfold State.inWinWrite
  (try simp [h_regs, h_resp, h_wg, h_ic, h_cp]) <;> repeat' (first | with_reducible rfl | (apply pick_eq) | split | (simp [h_regs, h_resp, h_wg, h_ic, h_cp]))
@[simp ↓] theorem State.setSem_blot (L : Piece → Bool) (s : State) (k : Nat) (x : Option Sem) (h_ux : L .ux = true)  :
    blot L (State.setSem s k x) = blot L s := by
  unfold State.setSem
  (try simp [h_ux]) <;> repeat' (first | with_reducible rfl | (apply pick_eq) | split | (simp [h_ux]))
@[simp ↓] theorem State.semWrite_blot (L : Piece → Bool) (s : State) (who : Who) (bytes : Nat) (k : Nat) (w : Word) (h_regs : L .regs = true) (h_resp : L .resp = true) (h_wg : L .wg = true) (h_ic : L .ic = true) (h_cp : L .cp = true) (h_ux : L .ux = true)  :
    blot L (State.semWrite s who bytes k w) = blot L s := by
  unfold State.semWrite
  (try simp [h_regs, h_resp, h_wg, h_ic, h_cp, h_ux]) <;> repeat' (first | with_reducible rfl | (apply pick_eq) | split | (simp [h_regs, h_resp, h_wg, h_ic, h_cp, h_ux]))
@[simp ↓] theorem State.uxBusErr_blot (L : Piece → Bool) (s : State) (who : Who) (o : UxOp) (h_resp : L .resp = true) (h_wg : L .wg = true)  :
    blot L (State.uxBusErr s who o) = blot L s := by
  unfold State.uxBusErr
  (try simp [h_resp, h_wg]) <;> repeat' (first | with_reducible rfl | (apply pick_eq) | split | (simp [h_resp, h_wg]))
@[simp ↓] theorem State.uxEvent_blot (L : Piece → Bool) (s : State) (c : Nat) (h_regs : L .regs = true)  :
    blot L (State.uxEvent s c) = blot L s := by
  unfold State.uxEvent
  (try simp [h_regs]) <;> repeat' (first | with_reducible rfl | (apply pick_eq) | split | (simp [h_regs]))
@[simp ↓] theorem State.uxErr_blot (L : Piece → Bool) (s : State) (code : Nat) (win : Nat) (addr : Nat) (seq : Option Nat) (h_regs : L .regs = true) (h_ic : L .ic = true)  :
    blot L (State.uxErr s code win addr seq) = blot L s := by
  unfold State.uxErr
  (try simp [h_regs, h_ic]) <;> repeat' (first | with_reducible rfl | (apply pick_eq) | split | (simp [h_regs, h_ic]))
@[simp ↓] theorem State.npFail_blot (L : Piece → Bool) (s : State) (x : NpAcc) (code : Nat) (h_regs : L .regs = true) (h_resp : L .resp = true) (h_wg : L .wg = true) (h_ic : L .ic = true)  :
    blot L (State.npFail s x code) = blot L s := by
  unfold State.npFail
  (try simp [h_regs, h_resp, h_wg, h_ic]) <;> repeat' (first | with_reducible rfl | (apply pick_eq) | split | (simp [h_regs, h_resp, h_wg, h_ic]))
@[simp ↓] theorem State.npIssue_blot (L : Piece → Bool) (s : State) (x : NpAcc) (h_regs : L .regs = true) (h_resp : L .resp = true) (h_wg : L .wg = true) (h_ic : L .ic = true) (h_ux : L .ux = true)  :
    blot L (State.npIssue s x) = blot L s := by
  unfold State.npIssue
  (try simp [h_regs, h_resp, h_wg, h_ic, h_ux]) <;> repeat' (first | with_reducible rfl | (apply pick_eq) | split | (simp [h_regs, h_resp, h_wg, h_ic, h_ux]))
@[simp ↓] theorem State.twinSemWrite_blot (L : Piece → Bool) (s : State) (who : Who) (bytes : Nat) (k : Fin 32) (w : Word) (h_regs : L .regs = true) (h_resp : L .resp = true) (h_wg : L .wg = true) (h_ic : L .ic = true) (h_cp : L .cp = true) (h_ux : L .ux = true)  :
    blot L (State.twinSemWrite s who bytes k w) = blot L s := by
  unfold State.twinSemWrite
  (try simp [h_regs, h_resp, h_wg, h_ic, h_cp, h_ux]) <;> repeat' (first | with_reducible rfl | (apply pick_eq) | split | (simp [h_regs, h_resp, h_wg, h_ic, h_cp, h_ux]))
@[simp ↓] theorem State.semGranWrite_blot (L : Piece → Bool) (s : State) (who : Who) (bytes : Nat) (k : Nat) (w : Word) (h_regs : L .regs = true) (h_resp : L .resp = true) (h_wg : L .wg = true) (h_ic : L .ic = true) (h_cp : L .cp = true)  :
    blot L (State.semGranWrite s who bytes k w) = blot L s := by
  unfold State.semGranWrite
  (try simp [h_regs, h_resp, h_wg, h_ic, h_cp]) <;> repeat' (first | with_reducible rfl | (apply pick_eq) | split | (simp [h_regs, h_resp, h_wg, h_ic, h_cp]))
@[simp ↓] theorem State.takeoverWrite_blot (L : Piece → Bool) (s : State) (who : Who) (bytes : Nat) (n : Nat) (w : Word) (h_regs : L .regs = true) (h_resp : L .resp = true) (h_wg : L .wg = true) (h_ic : L .ic = true) (h_kb : L .kb = true) (h_cp : L .cp = true)  :
    blot L (State.takeoverWrite s who bytes n w) = blot L s := by
  unfold State.takeoverWrite
  (try simp [h_regs, h_resp, h_wg, h_ic, h_kb, h_cp]) <;> repeat' (first | with_reducible rfl | (apply pick_eq) | split | (simp [h_regs, h_resp, h_wg, h_ic, h_kb, h_cp]))
@[simp ↓] theorem State.apertureGated_blot (L : Piece → Bool) (s : State) (who : Who) (bytes : Nat) (o : UxOp) (a : Nat) (h_regs : L .regs = true) (h_resp : L .resp = true) (h_wg : L .wg = true) (h_ic : L .ic = true)  :
    blot L (State.apertureGated s who bytes o a) = blot L s := by
  unfold State.apertureGated
  (try simp [h_regs, h_resp, h_wg, h_ic]) <;> repeat' (first | with_reducible rfl | (apply pick_eq) | split | (simp [h_regs, h_resp, h_wg, h_ic]))
@[simp ↓] theorem State.apertureFail_blot (L : Piece → Bool) (s : State) (who : Who) (o : UxOp) (code : Nat) (a : Nat) (h_regs : L .regs = true) (h_resp : L .resp = true) (h_wg : L .wg = true) (h_ic : L .ic = true)  :
    blot L (State.apertureFail s who o code a) = blot L s := by
  unfold State.apertureFail
  (try simp [h_regs, h_resp, h_wg, h_ic]) <;> repeat' (first | with_reducible rfl | (apply pick_eq) | split | (simp [h_regs, h_resp, h_wg, h_ic]))
@[simp ↓] theorem State.postedWrite_blot (L : Piece → Bool) (s : State) (who : Who) (o : UxOp) (w : Nat) (addr : Nat) (h_regs : L .regs = true) (h_resp : L .resp = true) (h_wg : L .wg = true) (h_ic : L .ic = true) (h_ux : L .ux = true)  :
    blot L (State.postedWrite s who o w addr) = blot L s := by
  unfold State.postedWrite
  (try simp [h_regs, h_resp, h_wg, h_ic, h_ux]) <;> repeat' (first | with_reducible rfl | (apply pick_eq) | split | (simp [h_regs, h_resp, h_wg, h_ic, h_ux]))
@[simp ↓] theorem State.aperture_blot (L : Piece → Bool) (s : State) (who : Who) (bytes : Nat) (o : UxOp) (a : Nat) (h_regs : L .regs = true) (h_resp : L .resp = true) (h_wg : L .wg = true) (h_ic : L .ic = true) (h_cp : L .cp = true) (h_ux : L .ux = true)  :
    blot L (State.aperture s who bytes o a) = blot L s := by
  unfold State.aperture
  (try simp [h_regs, h_resp, h_wg, h_ic, h_cp, h_ux]) <;> repeat' (first | with_reducible rfl | (apply pick_eq) | split | (simp [h_regs, h_resp, h_wg, h_ic, h_cp, h_ux]))
@[simp ↓] theorem State.completeCore_blot (L : Piece → Bool) (s : State) (t : Nat) (h_ic : L .ic = true)  :
    blot L (State.completeCore s t) = blot L s := by
  unfold State.completeCore
  (try simp [h_ic]) <;> repeat' (first | with_reducible rfl | (apply pick_eq) | split | (simp [h_ic]))
@[simp ↓] theorem State.startPairOp_blot (L : Piece → Bool) (s : State) (p : Nat) (op : Nat) (h_regs : L .regs = true) (h_ic : L .ic = true) (h_cp : L .cp = true)  :
    blot L (State.startPairOp s p op) = blot L s := by
  unfold State.startPairOp
  (repeat' split) <;> (try with_reducible rfl) <;> (try simp [h_regs, h_ic, h_cp]) <;> (repeat' (first | with_reducible rfl | (apply pick_eq) | split | (simp [h_regs, h_ic, h_cp])))
@[simp ↓] theorem State.pairOp_blot (L : Piece → Bool) (s : State) (p : Nat) (op : Nat) (h_regs : L .regs = true) (h_ic : L .ic = true) (h_cp : L .cp = true)  :
    blot L (State.pairOp s p op) = blot L s := by
  unfold State.pairOp
  (try simp [h_regs, h_ic, h_cp]) <;> repeat' (first | with_reducible rfl | (apply pick_eq) | split | (simp [h_regs, h_ic, h_cp]))
@[simp ↓] theorem State.pairCtrlWrite_blot (L : Piece → Bool) (s : State) (who : Who) (bytes : Nat) (p : Nat) (w : Word) (h_regs : L .regs = true) (h_resp : L .resp = true) (h_wg : L .wg = true) (h_ic : L .ic = true) (h_cp : L .cp = true)  :
    blot L (State.pairCtrlWrite s who bytes p w) = blot L s := by
  unfold State.pairCtrlWrite
  (try simp [h_regs, h_resp, h_wg, h_ic, h_cp]) <;> repeat' (first | with_reducible rfl | (apply pick_eq) | split | (simp [h_regs, h_resp, h_wg, h_ic, h_cp]))
@[simp ↓] theorem State.cpEntryWrite_blot (L : Piece → Bool) (s : State) (who : Who) (bytes : Nat) (p : Nat) (high : Bool) (w : Word) (h_regs : L .regs = true) (h_resp : L .resp = true) (h_wg : L .wg = true) (h_ic : L .ic = true) (h_cp : L .cp = true)  :
    blot L (State.cpEntryWrite s who bytes p high w) = blot L s := by
  unfold State.cpEntryWrite
  (try simp [h_regs, h_resp, h_wg, h_ic, h_cp]) <;> repeat' (first | with_reducible rfl | (apply pick_eq) | split | (simp [h_regs, h_resp, h_wg, h_ic, h_cp]))
@[simp ↓] theorem State.faultOutEffect_blot (L : Piece → Bool) (s : State) (w : Nat) (h_regs : L .regs = true) (h_ic : L .ic = true)  :
    blot L (State.faultOutEffect s w) = blot L s := by
  unfold State.faultOutEffect
  (try simp [h_regs, h_ic]) <;> repeat' (first | with_reducible rfl | (apply pick_eq) | split | (simp [h_regs, h_ic]))
@[simp ↓] theorem State.faultOutWrite_blot (L : Piece → Bool) (s : State) (who : Who) (bytes : Nat) (w : Word) (h_regs : L .regs = true) (h_resp : L .resp = true) (h_wg : L .wg = true) (h_ic : L .ic = true) (h_cp : L .cp = true)  :
    blot L (State.faultOutWrite s who bytes w) = blot L s := by
  unfold State.faultOutWrite
  (try simp [h_regs, h_resp, h_wg, h_ic, h_cp]) <;> repeat' (first | with_reducible rfl | (apply pick_eq) | split | (simp [h_regs, h_resp, h_wg, h_ic, h_cp]))
@[simp ↓] theorem State.bankWrite_blot (L : Piece → Bool) (s : State) (who : Who) (bytes : Nat) (w : Word) (h_regs : L .regs = true) (h_mem : L .mem = true) (h_resp : L .resp = true) (h_wg : L .wg = true) (h_ic : L .ic = true) (h_cp : L .cp = true)  :
    blot L (State.bankWrite s who bytes w) = blot L s := by
  unfold State.bankWrite
  apply State.regWrite_blot <;> first | assumption | (intro x; first | (simp [h_regs, h_mem, h_resp, h_wg, h_ic, h_cp]; done) | ((try simp [h_regs, h_mem, h_resp, h_wg, h_ic, h_cp]) <;> (repeat' (first | with_reducible rfl | (apply pick_eq) | split | (simp [h_regs, h_mem, h_resp, h_wg, h_ic, h_cp])))))
@[simp ↓] theorem State.unreserve_blot (L : Piece → Bool) (s : State) (c : Nat) (n : Nat) (h_wg : L .wg = true)  :
    blot L (State.unreserve s c n) = blot L s := by
  unfold State.unreserve
  (try simp [h_wg]) <;> repeat' (first | with_reducible rfl | (apply pick_eq) | split | (simp [h_wg]))
@[simp ↓] theorem State.reserveWrite_blot (L : Piece → Bool) (s : State) (who : Who) (bytes : Nat) (w : Word) (h_regs : L .regs = true) (h_resp : L .resp = true) (h_wg : L .wg = true) (h_ic : L .ic = true) (h_cp : L .cp = true)  :
    blot L (State.reserveWrite s who bytes w) = blot L s := by
  unfold State.reserveWrite
  (try simp [h_regs, h_resp, h_wg, h_ic, h_cp]) <;> repeat' (first | with_reducible rfl | (apply pick_eq) | split | (simp [h_regs, h_resp, h_wg, h_ic, h_cp]))
@[simp ↓] theorem State.provLockWrite_blot (L : Piece → Bool) (s : State) (who : Who) (bytes : Nat) (w : Word) (h_regs : L .regs = true) (h_resp : L .resp = true) (h_wg : L .wg = true) (h_ic : L .ic = true) (h_cp : L .cp = true) (h_otp : L .otp = true)  :
    blot L (State.provLockWrite s who bytes w) = blot L s := by
  unfold State.provLockWrite
  (try simp [h_regs, h_resp, h_wg, h_ic, h_cp, h_otp]) <;> repeat' (first | with_reducible rfl | (apply pick_eq) | split | (simp [h_regs, h_resp, h_wg, h_ic, h_cp, h_otp]))
@[simp ↓] theorem State.upEnd_blot (L : Piece → Bool) (s : State) (code : Nat) (h_regs : L .regs = true) (h_ic : L .ic = true)  :
    blot L (State.upEnd s code) = blot L s := by
  unfold State.upEnd
  (try simp [h_regs, h_ic]) <;> repeat' (first | with_reducible rfl | (apply pick_eq) | split | (simp [h_regs, h_ic]))
@[simp ↓] theorem State.setBank_blot (L : Piece → Bool) (s : State) (b : Nat) (st : Nat) (h_regs : L .regs = true) (h_up : L .up = true)  :
    blot L (State.setBank s b st) = blot L s := by
  unfold State.setBank
  (try simp [h_regs, h_up]) <;> repeat' (first | with_reducible rfl | (apply pick_eq) | split | (simp [h_regs, h_up]))
@[simp ↓] theorem State.invalidate_blot (L : Piece → Bool) (s : State) (b : Nat) (h_regs : L .regs = true) (h_up : L .up = true)  :
    blot L (State.invalidate s b) = blot L s := by
  unfold State.invalidate
  (try simp [h_regs, h_up]) <;> repeat' (first | with_reducible rfl | (apply pick_eq) | split | (simp [h_regs, h_up]))
@[simp ↓] theorem State.applyFailed_blot (L : Piece → Bool) (s : State) (x : Apply) (h_regs : L .regs = true) (h_ic : L .ic = true) (h_up : L .up = true)  :
    blot L (State.applyFailed s x) = blot L s := by
  unfold State.applyFailed
  (try simp [h_regs, h_ic, h_up]) <;> repeat' (first | with_reducible rfl | (apply pick_eq) | split | (simp [h_regs, h_ic, h_up]))
@[simp ↓] theorem State.writeTarget_blot (L : Piece → Bool) (s : State) (cursor : Nat) (out : List Byte) (h_mem : L .mem = true) (h_wg : L .wg = true)  :
    blot L (State.writeTarget s cursor out) = blot L s := by
  unfold State.writeTarget
  (try simp [h_mem, h_wg]) <;> repeat' (first | with_reducible rfl | (apply pick_eq) | split | (simp [h_mem, h_wg]))
@[simp ↓] theorem State.dropOld_blot (L : Piece → Bool) (s : State) (h_regs : L .regs = true) (h_up : L .up = true)  :
    blot L (State.dropOld s) = blot L s := by
  unfold State.dropOld
  (try simp [h_regs, h_up]) <;> repeat' (first | with_reducible rfl | (apply pick_eq) | split | (simp [h_regs, h_up]))
@[simp ↓] theorem State.setFloor_blot (L : Piece → Bool) (s : State) (n : Nat) (h_regs : L .regs = true) (h_otp : L .otp = true)  :
    blot L (State.setFloor s n) = blot L s := by
  unfold State.setFloor
  (try simp [h_regs, h_otp]) <;> repeat' (first | with_reducible rfl | (apply pick_eq) | split | (simp [h_regs, h_otp]))
@[simp ↓] theorem State.burn_blot (L : Piece → Bool) (s : State) (h_regs : L .regs = true) (h_otp : L .otp = true)  :
    blot L (State.burn s) = blot L s := by
  unfold State.burn
  (try simp [h_regs, h_otp]) <;> repeat' (first | with_reducible rfl | (apply pick_eq) | split | (simp [h_regs, h_otp]))
@[simp ↓] theorem State.confirm_blot (L : Piece → Bool) (s : State) (h_regs : L .regs = true) (h_fresh : L .fresh = true) (h_ic : L .ic = true) (h_otp : L .otp = true) (h_up : L .up = true)  :
    blot L (State.confirm s) = blot L s := by
  unfold State.confirm
  (try simp [h_regs, h_fresh, h_ic, h_otp, h_up]) <;> repeat' (first | with_reducible rfl | (apply pick_eq) | split | (simp [h_regs, h_fresh, h_ic, h_otp, h_up]))
@[simp ↓] theorem State.updateAbort_blot (L : Piece → Bool) (s : State) (h_regs : L .regs = true) (h_ic : L .ic = true) (h_up : L .up = true)  :
    blot L (State.updateAbort s) = blot L s := by
  unfold State.updateAbort
  (try simp [h_regs, h_ic, h_up]) <;> repeat' (first | with_reducible rfl | (apply pick_eq) | split | (simp [h_regs, h_ic, h_up]))
@[simp ↓] theorem State.upSrcWrite_blot (L : Piece → Bool) (s : State) (who : Who) (bytes : Nat) (k : Nat) (w : Word) (h_regs : L .regs = true) (h_resp : L .resp = true) (h_wg : L .wg = true) (h_ic : L .ic = true) (h_cp : L .cp = true)  :
    blot L (State.upSrcWrite s who bytes k w) = blot L s := by
  unfold State.upSrcWrite
  (try simp [h_regs, h_resp, h_wg, h_ic, h_cp]) <;> repeat' (first | with_reducible rfl | (apply pick_eq) | split | (simp [h_regs, h_resp, h_wg, h_ic, h_cp]))
@[simp ↓] theorem State.upTimeWrite_blot (L : Piece → Bool) (s : State) (who : Who) (bytes : Nat) (high : Bool) (w : Word) (h_regs : L .regs = true) (h_resp : L .resp = true) (h_wg : L .wg = true) (h_ic : L .ic = true) (h_cp : L .cp = true)  :
    blot L (State.upTimeWrite s who bytes high w) = blot L s := by
  unfold State.upTimeWrite
  (try simp [h_regs, h_resp, h_wg, h_ic, h_cp]) <;> repeat' (first | with_reducible rfl | (apply pick_eq) | split | (simp [h_regs, h_resp, h_wg, h_ic, h_cp]))
@[simp ↓] theorem State.upModeWrite_blot (L : Piece → Bool) (s : State) (who : Who) (bytes : Nat) (w : Word) (h_regs : L .regs = true) (h_resp : L .resp = true) (h_wg : L .wg = true) (h_ic : L .ic = true) (h_cp : L .cp = true) (h_up : L .up = true)  :
    blot L (State.upModeWrite s who bytes w) = blot L s := by
  unfold State.upModeWrite
  (try simp [h_regs, h_resp, h_wg, h_ic, h_cp, h_up]) <;> repeat' (first | with_reducible rfl | (apply pick_eq) | split | (simp [h_regs, h_resp, h_wg, h_ic, h_cp, h_up]))
@[simp ↓] theorem State.fdbLookup_blot (L : Piece → Bool) (s : State) (h_regs : L .regs = true)  :
    blot L (State.fdbLookup s) = blot L s := by
  unfold State.fdbLookup
  (try simp [h_regs]) <;> repeat' (first | with_reducible rfl | (apply pick_eq) | split | (simp [h_regs]))
@[simp ↓] theorem State.setFdb_blot (L : Piece → Bool) (s : State) (l : List FdbEnt) (h_sw : L .sw = true)  :
    blot L (State.setFdb s l) = blot L s := by
  unfold State.setFdb
  (try simp [h_sw]) <;> repeat' (first | with_reducible rfl | (apply pick_eq) | split | (simp [h_sw]))
@[simp ↓] theorem State.fdbDelete_blot (L : Piece → Bool) (s : State) (h_regs : L .regs = true) (h_sw : L .sw = true)  :
    blot L (State.fdbDelete s) = blot L s := by
  unfold State.fdbDelete
  (try simp [h_regs, h_sw]) <;> repeat' (first | with_reducible rfl | (apply pick_eq) | split | (simp [h_regs, h_sw]))
@[simp ↓] theorem State.fdbFlushPort_blot (L : Piece → Bool) (s : State) (p : Nat) (h_regs : L .regs = true) (h_sw : L .sw = true)  :
    blot L (State.fdbFlushPort s p) = blot L s := by
  unfold State.fdbFlushPort
  (try simp [h_regs, h_sw]) <;> repeat' (first | with_reducible rfl | (apply pick_eq) | split | (simp [h_regs, h_sw]))
@[simp ↓] theorem State.fdbFlushAll_blot (L : Piece → Bool) (s : State) (h_regs : L .regs = true) (h_sw : L .sw = true)  :
    blot L (State.fdbFlushAll s) = blot L s := by
  unfold State.fdbFlushAll
  (try simp [h_regs, h_sw]) <;> repeat' (first | with_reducible rfl | (apply pick_eq) | split | (simp [h_regs, h_sw]))
@[simp ↓] theorem State.fdbCmdWrite_blot (L : Piece → Bool) (s : State) (who : Who) (bytes : Nat) (w : Word) (h_regs : L .regs = true) (h_resp : L .resp = true) (h_wg : L .wg = true) (h_ic : L .ic = true) (h_sw : L .sw = true) (h_cp : L .cp = true)  :
    blot L (State.fdbCmdWrite s who bytes w) = blot L s := by
  unfold State.fdbCmdWrite
  (try simp [h_regs, h_resp, h_wg, h_ic, h_sw, h_cp]) <;> repeat' (first | with_reducible rfl | (apply pick_eq) | split | (simp [h_regs, h_resp, h_wg, h_ic, h_sw, h_cp]))
@[simp ↓] theorem State.msCtrlWrite_blot (L : Piece → Bool) (s : State) (who : Who) (bytes : Nat) (m : Nat) (w : Word) (h_regs : L .regs = true) (h_resp : L .resp = true) (h_wg : L .wg = true) (h_ic : L .ic = true) (h_cp : L .cp = true)  :
    blot L (State.msCtrlWrite s who bytes m w) = blot L s := by
  unfold State.msCtrlWrite
  (try simp [h_regs, h_resp, h_wg, h_ic, h_cp]) <;> repeat' (first | with_reducible rfl | (apply pick_eq) | split | (simp [h_regs, h_resp, h_wg, h_ic, h_cp]))
@[simp ↓] theorem State.saLoadStart_blot (L : Piece → Bool) (s : State) (m : Nat) (w : Nat) (h_regs : L .regs = true) (h_sw : L .sw = true)  :
    blot L (State.saLoadStart s m w) = blot L s := by
  unfold State.saLoadStart
  (try simp [h_regs, h_sw]) <;> repeat' (first | with_reducible rfl | (apply pick_eq) | split | (simp [h_regs, h_sw]))
@[simp ↓] theorem State.saLoadWrite_blot (L : Piece → Bool) (s : State) (who : Who) (bytes : Nat) (m : Nat) (w : Word) (h_regs : L .regs = true) (h_resp : L .resp = true) (h_wg : L .wg = true) (h_ic : L .ic = true) (h_sw : L .sw = true) (h_cp : L .cp = true)  :
    blot L (State.saLoadWrite s who bytes m w) = blot L s := by
  unfold State.saLoadWrite
  (try simp [h_regs, h_resp, h_wg, h_ic, h_sw, h_cp]) <;> repeat' (first | with_reducible rfl | (apply pick_eq) | split | (simp [h_regs, h_resp, h_wg, h_ic, h_sw, h_cp]))
@[simp ↓] theorem State.asCfgWrite_blot (L : Piece → Bool) (s : State) (who : Who) (bytes : Nat) (p : Nat) (w : Word) (h_regs : L .regs = true) (h_resp : L .resp = true) (h_wg : L .wg = true) (h_ic : L .ic = true) (h_cp : L .cp = true)  :
    blot L (State.asCfgWrite s who bytes p w) = blot L s := by
  unfold State.asCfgWrite
  apply State.regWrite_blot <;> first | assumption | (intro x; first | (simp [h_regs, h_resp, h_wg, h_ic, h_cp]; done) | ((try simp [h_regs, h_resp, h_wg, h_ic, h_cp]) <;> (repeat' (first | with_reducible rfl | (apply pick_eq) | split | (simp [h_regs, h_resp, h_wg, h_ic, h_cp])))))
@[simp ↓] theorem State.streamSelWrite_blot (L : Piece → Bool) (s : State) (who : Who) (bytes : Nat) (w : Word) (h_regs : L .regs = true) (h_resp : L .resp = true) (h_wg : L .wg = true) (h_ic : L .ic = true) (h_cp : L .cp = true)  :
    blot L (State.streamSelWrite s who bytes w) = blot L s := by
  unfold State.streamSelWrite
  (try simp [h_regs, h_resp, h_wg, h_ic, h_cp]) <;> repeat' (first | with_reducible rfl | (apply pick_eq) | split | (simp [h_regs, h_resp, h_wg, h_ic, h_cp]))
@[simp ↓] theorem State.clearCount_blot (L : Piece → Bool) (s : State) (a : Nat) (sat : Nat) (b : Nat) (h_regs : L .regs = true)  :
    blot L (State.clearCount s a sat b) = blot L s := by
  unfold State.clearCount
  (try simp [h_regs]) <;> repeat' (first | with_reducible rfl | (apply pick_eq) | split | (simp [h_regs]))
@[simp ↓] theorem State.clearCount64_blot (L : Piece → Bool) (s : State) (a : Nat) (sat : Nat) (b : Nat) (h_regs : L .regs = true)  :
    blot L (State.clearCount64 s a sat b) = blot L s := by
  unfold State.clearCount64
  (try simp [h_regs]) <;> repeat' (first | with_reducible rfl | (apply pick_eq) | split | (simp [h_regs]))
@[simp ↓] theorem State.clearStream_blot (L : Piece → Bool) (s : State) (c : Nat) (h_sw : L .sw = true)  :
    blot L (State.clearStream s c) = blot L s := by
  unfold State.clearStream
  (try simp [h_sw]) <;> repeat' (first | with_reducible rfl | (apply pick_eq) | split | (simp [h_sw]))
@[simp ↓] theorem State.streamSatEffect_blot (L : Piece → Bool) (s : State) (w : Nat) (h_regs : L .regs = true) (h_sw : L .sw = true)  :
    blot L (State.streamSatEffect s w) = blot L s := by
  unfold State.streamSatEffect
  (try simp [h_regs, h_sw]) <;> repeat' (first | with_reducible rfl | (apply pick_eq) | split | (simp [h_regs, h_sw]))
@[simp ↓] theorem State.mboxBaseEffect_blot (L : Piece → Bool) (s : State) (high : Bool) (h_mem : L .mem = true) (h_ep : L .ep = true) (h_wg : L .wg = true)  :
    blot L (State.mboxBaseEffect s high) = blot L s := by
  unfold State.mboxBaseEffect
  (try simp [h_mem, h_ep, h_wg]) <;> repeat' (first | with_reducible rfl | (apply pick_eq) | split | (simp [h_mem, h_ep, h_wg]))
@[simp ↓] theorem State.clearRecord_blot (L : Piece → Bool) (s : State) (a : Nat) (h_regs : L .regs = true)  :
    blot L (State.clearRecord s a) = blot L s := by
  unfold State.clearRecord
  (try simp [h_regs]) <;> repeat' (first | with_reducible rfl | (apply pick_eq) | split | (simp [h_regs]))
@[simp ↓] theorem State.noticeEffect_blot (L : Piece → Bool) (old : Nat) (s : State) (g : Nat) (h_ic : L .ic = true)  :
    blot L (State.noticeEffect old s g) = blot L s := by
  unfold State.noticeEffect
  (try simp [h_ic]) <;> repeat' (first | with_reducible rfl | (apply pick_eq) | split | (simp [h_ic]))
@[simp ↓] theorem State.plainEffect_blot (L : Piece → Bool) (old : Nat) (a : Nat) (w : Nat) (s : State) (h_regs : L .regs = true) (h_mem : L .mem = true) (h_ep : L .ep = true) (h_wg : L .wg = true) (h_ic : L .ic = true) (h_kb : L .kb = true) (h_sw : L .sw = true)  :
    blot L (State.plainEffect old a w s) = blot L s := by
  unfold State.plainEffect
  (try simp [h_regs, h_mem, h_ep, h_wg, h_ic, h_kb, h_sw]) <;> repeat' (first | with_reducible rfl | (apply pick_eq) | split | (simp [h_regs, h_mem, h_ep, h_wg, h_ic, h_kb, h_sw]))
@[simp ↓] theorem State.plainWrite_blot (L : Piece → Bool) (s : State) (who : Who) (bytes : Nat) (a : Nat) (w : Word) (h_regs : L .regs = true) (h_mem : L .mem = true) (h_resp : L .resp = true) (h_ep : L .ep = true) (h_wg : L .wg = true) (h_ic : L .ic = true) (h_kb : L .kb = true) (h_sw : L .sw = true) (h_cp : L .cp = true)  :
    blot L (State.plainWrite s who bytes a w) = blot L s := by
  unfold State.plainWrite
  (try simp [h_regs, h_mem, h_resp, h_ep, h_wg, h_ic, h_kb, h_sw, h_cp]) <;> repeat' (first | with_reducible rfl | (apply pick_eq) | split | (simp [h_regs, h_mem, h_resp, h_ep, h_wg, h_ic, h_kb, h_sw, h_cp]))
@[simp ↓] theorem State.dbRefuse_blot (L : Piece → Bool) (s : State) (who : Who) (e : Nat) (off : Nat) (code : Nat) (write : Bool) (r : Resp) (h_regs : L .regs = true) (h_resp : L .resp = true) (h_ic : L .ic = true)  :
    blot L (State.dbRefuse s who e off code write r) = blot L s := by
  unfold State.dbRefuse
  (try simp [h_regs, h_resp, h_ic]) <;> repeat' (first | with_reducible rfl | (apply pick_eq) | split | (simp [h_regs, h_resp, h_ic]))
@[simp ↓] theorem State.dbSqWrite_blot (L : Piece → Bool) (s : State) (who : Who) (e : Nat) (w : Nat) (h_regs : L .regs = true) (h_resp : L .resp = true) (h_ep : L .ep = true) (h_ic : L .ic = true)  :
    blot L (State.dbSqWrite s who e w) = blot L s := by
  unfold State.dbSqWrite
  (try simp [h_regs, h_resp, h_ep, h_ic]) <;> repeat' (first | with_reducible rfl | (apply pick_eq) | split | (simp [h_regs, h_resp, h_ep, h_ic]))
@[simp ↓] theorem State.dbCqWrite_blot (L : Piece → Bool) (s : State) (who : Who) (e : Nat) (w : Nat) (h_regs : L .regs = true) (h_resp : L .resp = true) (h_ep : L .ep = true) (h_ic : L .ic = true)  :
    blot L (State.dbCqWrite s who e w) = blot L s := by
  unfold State.dbCqWrite
  (try simp [h_regs, h_resp, h_ep, h_ic]) <;> repeat' (first | with_reducible rfl | (apply pick_eq) | split | (simp [h_regs, h_resp, h_ep, h_ic]))
@[simp ↓] theorem State.dbAbortWrite_blot (L : Piece → Bool) (s : State) (who : Who) (e : Nat) (w : Nat) (h_regs : L .regs = true) (h_mem : L .mem = true) (h_resp : L .resp = true) (h_ep : L .ep = true) (h_wg : L .wg = true) (h_ic : L .ic = true)  :
    blot L (State.dbAbortWrite s who e w) = blot L s := by
  unfold State.dbAbortWrite
  (try simp [h_regs, h_mem, h_resp, h_ep, h_wg, h_ic]) <;> repeat' (first | with_reducible rfl | (apply pick_eq) | split | (simp [h_regs, h_mem, h_resp, h_ep, h_wg, h_ic]))
@[simp ↓] theorem State.mbRing_blot (L : Piece → Bool) (s : State) (who : Who) (h_regs : L .regs = true) (h_ep : L .ep = true) (h_ic : L .ic = true)  :
    blot L (State.mbRing s who) = blot L s := by
  unfold State.mbRing
  (try simp [h_regs, h_ep, h_ic]) <;> repeat' (first | with_reducible rfl | (apply pick_eq) | split | (simp [h_regs, h_ep, h_ic]))
@[simp ↓] theorem State.dbEffect_blot (L : Piece → Bool) (s : State) (who : Who) (e : Nat) (off : Nat) (w : Nat) (h_regs : L .regs = true) (h_mem : L .mem = true) (h_resp : L .resp = true) (h_ep : L .ep = true) (h_wg : L .wg = true) (h_ic : L .ic = true)  :
    blot L (State.dbEffect s who e off w) = blot L s := by
  unfold State.dbEffect
  (try simp [h_regs, h_mem, h_resp, h_ep, h_wg, h_ic]) <;> repeat' (first | with_reducible rfl | (apply pick_eq) | split | (simp [h_regs, h_mem, h_resp, h_ep, h_wg, h_ic]))
@[simp ↓] theorem State.dbWrite_blot (L : Piece → Bool) (s : State) (who : Who) (bytes : Nat) (e : Nat) (off : Nat) (w : Word) (h_regs : L .regs = true) (h_mem : L .mem = true) (h_resp : L .resp = true) (h_ep : L .ep = true) (h_wg : L .wg = true) (h_ic : L .ic = true) (h_cp : L .cp = true)  :
    blot L (State.dbWrite s who bytes e off w) = blot L s := by
  unfold State.dbWrite
  (try simp [h_regs, h_mem, h_resp, h_ep, h_wg, h_ic, h_cp]) <;> repeat' (first | with_reducible rfl | (apply pick_eq) | split | (simp [h_regs, h_mem, h_resp, h_ep, h_wg, h_ic, h_cp]))
@[simp ↓] theorem State.busErr_blot (L : Piece → Bool) (s : State) (who : Who) (k : AccessKind) (h_resp : L .resp = true) (h_wg : L .wg = true)  :
    blot L (State.busErr s who k) = blot L s := by
  unfold State.busErr
  (try simp [h_resp, h_wg]) <;> repeat' (first | with_reducible rfl | (apply pick_eq) | split | (simp [h_resp, h_wg]))
@[simp ↓] theorem State.fillLine_blot (L : Piece → Bool) (s : State) (core : Nat) (who : Who) (line : Nat) (write : Bool) (h_wg : L .wg = true)  :
    blot L (State.fillLine s core who line write) = blot L s := by
  unfold State.fillLine
  (try simp [h_wg]) <;> repeat' (first | with_reducible rfl | (apply pick_eq) | split | (simp [h_wg]))
@[simp ↓] theorem State.snoopLine_blot (L : Piece → Bool) (s : State) (line : Nat) (write : Bool) (h_wg : L .wg = true)  :
    blot L (State.snoopLine s line write) = blot L s := by
  unfold State.snoopLine
  (try simp [h_wg]) <;> repeat' (first | with_reducible rfl | (apply pick_eq) | split | (simp [h_wg]))
@[simp ↓] theorem State.fillL2_blot (L : Piece → Bool) (s : State) (cy : Nat) (line : Nat) (h_wg : L .wg = true)  :
    blot L (State.fillL2 s cy line) = blot L s := by
  unfold State.fillL2
  (try simp [h_wg]) <;> repeat' (first | with_reducible rfl | (apply pick_eq) | split | (simp [h_wg]))
@[simp ↓] theorem State.cacheAccess_blot (L : Piece → Bool) (s : State) (who : Who) (a : Nat) (n : Nat) (write : Bool) (h_wg : L .wg = true)  :
    blot L (State.cacheAccess s who a n write) = blot L s := by
  unfold State.cacheAccess
  (try simp [h_wg]) <;> repeat' (first | with_reducible rfl | (apply pick_eq) | split | (simp [h_wg]))
@[simp ↓] theorem State.guardRecord_blot (L : Piece → Bool) (s : State) (who : Who) (kind : Nat) (target : Nat) (a : Nat) (bankOff : Bool) (h_regs : L .regs = true) (h_ic : L .ic = true)  :
    blot L (State.guardRecord s who kind target a bankOff) = blot L s := by
  unfold State.guardRecord
  (try simp [h_regs, h_ic]) <;> repeat' (first | with_reducible rfl | (apply pick_eq) | split | (simp [h_regs, h_ic]))
@[simp ↓] theorem State.serve_blot (L : Piece → Bool) (s : State) (who : Who) (k : AccessKind) (a : Nat) (n : Nat) (data : List Byte) (cached : Bool) (h_regs : L .regs = true) (h_mem : L .mem = true) (h_resp : L .resp = true) (h_wg : L .wg = true) (h_ic : L .ic = true)  :
    blot L (State.serve s who k a n data cached) = blot L s := by
  unfold State.serve
  (try simp [h_regs, h_mem, h_resp, h_wg, h_ic]) <;> repeat' (first | with_reducible rfl | (apply pick_eq) | split | (simp [h_regs, h_mem, h_resp, h_wg, h_ic]))
@[simp ↓] theorem State.guardedAccess_blot (L : Piece → Bool) (s : State) (who : Who) (k : AccessKind) (place : Place) (target : Nat) (a : Nat) (n : Nat) (data : List Byte) (h_regs : L .regs = true) (h_mem : L .mem = true) (h_resp : L .resp = true) (h_wg : L .wg = true) (h_ic : L .ic = true)  :
    blot L (State.guardedAccess s who k place target a n data) = blot L s := by
  unfold State.guardedAccess
  (try simp [h_regs, h_mem, h_resp, h_wg, h_ic]) <;> repeat' (first | with_reducible rfl | (apply pick_eq) | split | (simp [h_regs, h_mem, h_resp, h_wg, h_ic]))
@[simp ↓] theorem State.memAccess_blot (L : Piece → Bool) (s : State) (who : Who) (k : AccessKind) (a : Nat) (data : List Byte) (h_regs : L .regs = true) (h_mem : L .mem = true) (h_resp : L .resp = true) (h_wg : L .wg = true) (h_ic : L .ic = true) (h_cp : L .cp = true)  :
    blot L (State.memAccess s who k a data) = blot L s := by
  unfold State.memAccess
  (try simp [h_regs, h_mem, h_resp, h_wg, h_ic, h_cp]) <;> repeat' (first | with_reducible rfl | (apply pick_eq) | split | (simp [h_regs, h_mem, h_resp, h_wg, h_ic, h_cp]))
@[simp ↓] theorem State.setSlot_blot (L : Piece → Bool) (s : State) (n : Nat) (k : KeySlot) (h_ks : L .ks = true)  :
    blot L (State.setSlot s n k) = blot L s := by
  unfold State.setSlot
  (try simp [h_ks]) <;> repeat' (first | with_reducible rfl | (apply pick_eq) | split | (simp [h_ks]))
@[simp ↓] theorem State.ksCount_blot (L : Piece → Bool) (s : State) (c : Nat) (h_regs : L .regs = true)  :
    blot L (State.ksCount s c) = blot L s := by
  unfold State.ksCount
  (try simp [h_regs]) <;> repeat' (first | with_reducible rfl | (apply pick_eq) | split | (simp [h_regs]))
@[simp ↓] theorem State.turnBad_blot (L : Piece → Bool) (s : State) (n : Nat) (h_regs : L .regs = true) (h_ic : L .ic = true) (h_ks : L .ks = true)  :
    blot L (State.turnBad s n) = blot L s := by
  unfold State.turnBad
  (try simp [h_regs, h_ic, h_ks]) <;> repeat' (first | with_reducible rfl | (apply pick_eq) | split | (simp [h_regs, h_ic, h_ks]))
@[simp ↓] theorem State.loadSlot_blot (L : Piece → Bool) (s : State) (n : Nat) (h_regs : L .regs = true) (h_ic : L .ic = true) (h_ks : L .ks = true)  :
    blot L (State.loadSlot s n) = blot L s := by
  unfold State.loadSlot
  (repeat' split) <;> (try with_reducible rfl) <;> (try simp [h_regs, h_ic, h_ks]) <;> (repeat' (first | with_reducible rfl | (apply pick_eq) | split | (simp [h_regs, h_ic, h_ks])))
@[simp ↓] theorem State.loadBankKey_blot (L : Piece → Bool) (s : State) (b : Nat) (h_regs : L .regs = true) (h_ic : L .ic = true) (h_ks : L .ks = true)  :
    blot L (State.loadBankKey s b) = blot L s := by
  unfold State.loadBankKey
  (try simp [h_regs, h_ic, h_ks]) <;> repeat' (first | with_reducible rfl | (apply pick_eq) | split | (simp [h_regs, h_ic, h_ks]))
@[simp ↓] theorem State.checkBank_blot (L : Piece → Bool) (s : State) (b : Nat) (h_regs : L .regs = true) (h_ic : L .ic = true) (h_ks : L .ks = true)  :
    blot L (State.checkBank s b).1 = blot L s := by
  unfold State.checkBank
  (try simp [h_regs, h_ic, h_ks]) <;> repeat' (first | with_reducible rfl | (apply pick_eq) | split | (simp [h_regs, h_ic, h_ks]))
@[simp ↓] theorem State.tryBanks_blot (L : Piece → Bool) (s : State) (b : Nat) (trial : Nat) (code : Nat) (h_regs : L .regs = true) (h_fresh : L .fresh = true) (h_ic : L .ic = true) (h_ks : L .ks = true) (h_up : L .up = true)  :
    blot L (State.tryBanks s b trial code).1 = blot L s := by
  unfold State.tryBanks
  (try simp [h_regs, h_fresh, h_ic, h_ks, h_up]) <;> repeat' (first | with_reducible rfl | (apply pick_eq) | split | (simp [h_regs, h_fresh, h_ic, h_ks, h_up]))
@[simp ↓] theorem State.chooseBank_blot (L : Piece → Bool) (s : State) (h_regs : L .regs = true) (h_fresh : L .fresh = true) (h_ic : L .ic = true) (h_ks : L .ks = true) (h_up : L .up = true)  :
    blot L (State.chooseBank s).1 = blot L s := by
  unfold State.chooseBank
  (try simp [h_regs, h_fresh, h_ic, h_ks, h_up]) <;> repeat' (first | with_reducible rfl | (apply pick_eq) | split | (simp [h_regs, h_fresh, h_ic, h_ks, h_up]))
@[simp ↓] theorem State.loadPlanKey_blot (L : Piece → Bool) (s : State) (p : List Byte) (h_regs : L .regs = true) (h_ic : L .ic = true) (h_ks : L .ks = true)  :
    blot L (State.loadPlanKey s p) = blot L s := by
  unfold State.loadPlanKey
  (try simp [h_regs, h_ic, h_ks]) <;> repeat' (first | with_reducible rfl | (apply pick_eq) | split | (simp [h_regs, h_ic, h_ks]))
@[simp ↓] theorem State.tryPlan_blot (L : Piece → Bool) (s : State) (b : Nat) (hwrev : Nat) (h_regs : L .regs = true) (h_ic : L .ic = true) (h_ks : L .ks = true)  :
    blot L (State.tryPlan s b hwrev).1 = blot L s := by
  unfold State.tryPlan
  (try simp [h_regs, h_ic, h_ks]) <;> repeat' (first | with_reducible rfl | (apply pick_eq) | split | (simp [h_regs, h_ic, h_ks]))
@[simp ↓] theorem State.takePlan_blot (L : Piece → Bool) (s : State) (b : Nat) (f : Framed) (h_regs : L .regs = true) (h_plan : L .plan = true) (h_up : L .up = true)  :
    blot L (State.takePlan s b f) = blot L s := by
  unfold State.takePlan
  (try simp [h_regs, h_plan, h_up]) <;> repeat' (first | with_reducible rfl | (apply pick_eq) | split | (simp [h_regs, h_plan, h_up]))
@[simp ↓] theorem State.planRejected_blot (L : Piece → Bool) (s : State) (b : Nat) (e : PlanFail) (h_regs : L .regs = true)  :
    blot L (State.planRejected s b e) = blot L s := by
  unfold State.planRejected
  (try simp [h_regs]) <;> repeat' (first | with_reducible rfl | (apply pick_eq) | split | (simp [h_regs]))
@[simp ↓] theorem State.trialRejected_blot (L : Piece → Bool) (s : State) (b : Nat) (old : Nat) (e : PlanFail) (st : Nat) (h_regs : L .regs = true) (h_fresh : L .fresh = true) (h_ic : L .ic = true) (h_ks : L .ks = true) (h_up : L .up = true)  :
    blot L (State.trialRejected s b old e st).1 = blot L s := by
  unfold State.trialRejected
  (try simp [h_regs, h_fresh, h_ic, h_ks, h_up]) <;> repeat' (first | with_reducible rfl | (apply pick_eq) | split | (simp [h_regs, h_fresh, h_ic, h_ks, h_up]))
@[simp ↓] theorem State.startCore_blot (L : Piece → Bool) (s : State) (core : Nat) (pc : Nat) (h_wg : L .wg = true)  :
    blot L (State.startCore s core pc) = blot L s := by
  unfold State.startCore
  (try simp [h_wg]) <;> repeat' (first | with_reducible rfl | (apply pick_eq) | split | (simp [h_wg]))
@[simp ↓] theorem State.resetCores_blot (L : Piece → Bool) (s : State) (h_wg : L .wg = true) (h_ic : L .ic = true)  :
    blot L (State.resetCores s) = blot L s := by
  unfold State.resetCores
  (try simp [h_wg, h_ic]) <;> repeat' (first | with_reducible rfl | (apply pick_eq) | split | (simp [h_wg, h_ic]))
@[simp ↓] theorem State.showDigest_blot (L : Piece → Bool) (s : State) (reg : Nat → Nat) (d : List Byte) (h_regs : L .regs = true)  :
    blot L (State.showDigest s reg d) = blot L s := by
  unfold State.showDigest
  (try simp [h_regs]) <;> repeat' (first | with_reducible rfl | (apply pick_eq) | split | (simp [h_regs]))
@[simp ↓] theorem State.showPlan_blot (L : Piece → Bool) (s : State) (version : Nat) (epoch : Nat) (digest : List Byte) (h_regs : L .regs = true)  :
    blot L (State.showPlan s version epoch digest) = blot L s := by
  unfold State.showPlan
  (try simp [h_regs]) <;> repeat' (first | with_reducible rfl | (apply pick_eq) | split | (simp [h_regs]))
@[simp ↓] theorem State.showTp_blot (L : Piece → Bool) (s : State) (x : Boot) (h_regs : L .regs = true)  :
    blot L (State.showTp s x) = blot L s := by
  unfold State.showTp
  (repeat' split) <;> (try with_reducible rfl) <;> (try simp [h_regs]) <;> (repeat' (first | with_reducible rfl | (apply pick_eq) | split | (simp [h_regs])))
@[simp ↓] theorem State.noteGood_blot (L : Piece → Bool) (s : State) (b : Nat) (h_fresh : L .fresh = true) (h_up : L .up = true)  :
    blot L (State.noteGood s b) = blot L s := by
  unfold State.noteGood
  (try simp [h_fresh, h_up]) <;> repeat' (first | with_reducible rfl | (apply pick_eq) | split | (simp [h_fresh, h_up]))
@[simp ↓] theorem State.runBank_blot (L : Piece → Bool) (s : State) (b : Nat) (h_regs : L .regs = true)  :
    blot L (State.runBank s b) = blot L s := by
  unfold State.runBank
  (try simp [h_regs]) <;> repeat' (first | with_reducible rfl | (apply pick_eq) | split | (simp [h_regs]))
@[simp ↓] theorem State.showBoot_blot (L : Piece → Bool) (s : State) (outcome : Nat) (code : Nat) (h_regs : L .regs = true) (h_ic : L .ic = true)  :
    blot L (State.showBoot s outcome code) = blot L s := by
  unfold State.showBoot
  (try simp [h_regs, h_ic]) <;> repeat' (first | with_reducible rfl | (apply pick_eq) | split | (simp [h_regs, h_ic]))
@[simp ↓] theorem State.showBanks_blot (L : Piece → Bool) (s : State) (b : Nat) (running : Bool) (trial : Bool) (h_regs : L .regs = true) (h_up : L .up = true)  :
    blot L (State.showBanks s b running trial) = blot L s := by
  unfold State.showBanks
  (try simp [h_regs, h_up]) <;> repeat' (first | with_reducible rfl | (apply pick_eq) | split | (simp [h_regs, h_up]))
@[simp ↓] theorem State.showUp_blot (L : Piece → Bool) (s : State) (x : Boot) (h_regs : L .regs = true) (h_ic : L .ic = true) (h_otp : L .otp = true) (h_up : L .up = true)  :
    blot L (State.showUp s x) = blot L s := by
  unfold State.showUp
  (try simp [h_regs, h_ic, h_otp, h_up]) <;> repeat' (first | with_reducible rfl | (apply pick_eq) | split | (simp [h_regs, h_ic, h_otp, h_up]))
@[simp ↓] theorem State.showRestart_blot (L : Piece → Bool) (s : State) (x : Boot) (h_regs : L .regs = true) (h_fresh : L .fresh = true) (h_ic : L .ic = true) (h_otp : L .otp = true) (h_up : L .up = true)  :
    blot L (State.showRestart s x) = blot L s := by
  unfold State.showRestart
  (try simp [h_regs, h_fresh, h_ic, h_otp, h_up]) <;> repeat' (first | with_reducible rfl | (apply pick_eq) | split | (simp [h_regs, h_fresh, h_ic, h_otp, h_up]))
@[simp ↓] theorem State.clearRegion_blot (L : Piece → Bool) (s : State) (i : Item) (h_mem : L .mem = true) (h_wg : L .wg = true)  :
    blot L (State.clearRegion s i) = blot L s := by
  unfold State.clearRegion
  (try simp [h_mem, h_wg]) <;> repeat' (first | with_reducible rfl | (apply pick_eq) | split | (simp [h_mem, h_wg]))
@[simp ↓] theorem State.loadCourtyard_blot (L : Piece → Bool) (s : State) (bank : Option Nat) (i : Item) (h_regs : L .regs = true) (h_mem : L .mem = true) (h_wg : L .wg = true)  :
    blot L (State.loadCourtyard s bank i) = blot L s := by
  unfold State.loadCourtyard
  (try simp [h_regs, h_mem, h_wg]) <;> repeat' (first | with_reducible rfl | (apply pick_eq) | split | (simp [h_regs, h_mem, h_wg]))
@[simp ↓] theorem State.loadCourtyards_blot (L : Piece → Bool) (s : State) (bank : Option Nat) (h_regs : L .regs = true) (h_mem : L .mem = true) (h_wg : L .wg = true)  :
    blot L (State.loadCourtyards s bank) = blot L s := by
  unfold State.loadCourtyards
  (try simp [h_regs, h_mem, h_wg]) <;> repeat' (first | with_reducible rfl | (apply pick_eq) | split | (simp [h_regs, h_mem, h_wg]))
@[simp ↓] theorem State.startCores_blot (L : Piece → Bool) (s : State) (bank : Option Nat) (h_wg : L .wg = true)  :
    blot L (State.startCores s bank) = blot L s := by
  unfold State.startCores
  (try simp [h_wg]) <;> repeat' (first | with_reducible rfl | (apply pick_eq) | split | (simp [h_wg]))
@[simp ↓] theorem State.initPair_blot (L : Piece → Bool) (s : State) (p : Nat) (h_regs : L .regs = true) (h_ic : L .ic = true) (h_cp : L .cp = true)  :
    blot L (State.initPair s p) = blot L s := by
  unfold State.initPair
  (try simp [h_regs, h_ic, h_cp]) <;> repeat' (first | with_reducible rfl | (apply pick_eq) | split | (simp [h_regs, h_ic, h_cp]))
@[simp ↓] theorem State.relevelAll_blot (L : Piece → Bool) (s : State) (h_ic : L .ic = true)  :
    blot L (State.relevelAll s) = blot L s := by
  unfold State.relevelAll
  (try simp [h_ic]) <;> repeat' (first | with_reducible rfl | (apply pick_eq) | split | (simp [h_ic]))
@[simp ↓] theorem State.planDistrict_blot (L : Piece → Bool) (s : State) (i : Item) (h_mem : L .mem = true) (h_ep : L .ep = true) (h_wg : L .wg = true)  :
    blot L (State.planDistrict s i) = blot L s := by
  unfold State.planDistrict
  (try simp [h_mem, h_ep, h_wg]) <;> repeat' (first | with_reducible rfl | (apply pick_eq) | split | (simp [h_mem, h_ep, h_wg]))
@[simp ↓] theorem State.restartTowns_blot (L : Piece → Bool) (s : State) (h_regs : L .regs = true) (h_mem : L .mem = true) (h_ep : L .ep = true) (h_wg : L .wg = true)  :
    blot L (State.restartTowns s) = blot L s := by
  unfold State.restartTowns
  (try simp [h_regs, h_mem, h_ep, h_wg]) <;> repeat' (first | with_reducible rfl | (apply pick_eq) | split | (simp [h_regs, h_mem, h_ep, h_wg]))
@[simp ↓] theorem State.kerbAbsent_blot (L : Piece → Bool) (s : State) (h_regs : L .regs = true) (h_kb : L .kb = true)  :
    blot L (State.kerbAbsent s) = blot L s := by
  unfold State.kerbAbsent
  (try simp [h_regs, h_kb]) <;> repeat' (first | with_reducible rfl | (apply pick_eq) | split | (simp [h_regs, h_kb]))
@[simp ↓] theorem State.planRoute_blot (L : Piece → Bool) (s : State) (i : Item) (h_ic : L .ic = true)  :
    blot L (State.planRoute s i) = blot L s := by
  unfold State.planRoute
  (try simp [h_ic]) <;> repeat' (first | with_reducible rfl | (apply pick_eq) | split | (simp [h_ic]))
@[simp ↓] theorem State.planPair_blot (L : Piece → Bool) (s : State) (i : Item) (h_regs : L .regs = true) (h_ic : L .ic = true)  :
    blot L (State.planPair s i) = blot L s := by
  unfold State.planPair
  (try simp [h_regs, h_ic]) <;> repeat' (first | with_reducible rfl | (apply pick_eq) | split | (simp [h_regs, h_ic]))
@[simp ↓] theorem State.endpoint0_blot (L : Piece → Bool) (s : State) (h_ep : L .ep = true)  :
    blot L (State.endpoint0 s) = blot L s := by
  unfold State.endpoint0
  (try simp [h_ep]) <;> repeat' (first | with_reducible rfl | (apply pick_eq) | split | (simp [h_ep]))
@[simp ↓] theorem State.planPools_blot (L : Piece → Bool) (s : State) (h_regs : L .regs = true) (h_ep : L .ep = true)  :
    blot L (State.planPools s) = blot L s := by
  unfold State.planPools
  (try simp [h_regs, h_ep]) <;> repeat' (first | with_reducible rfl | (apply pick_eq) | split | (simp [h_regs, h_ep]))
@[simp ↓] theorem State.activatePlan_blot (L : Piece → Bool) (s : State) (items : List Item) (secs : List Nat) (h_regs : L .regs = true) (h_plan : L .plan = true) (h_ao : L .ao = true) (h_ep : L .ep = true) (h_ic : L .ic = true) (h_kb : L .kb = true) (h_pn : L .pn = true) (h_can : L .can = true) (h_sw : L .sw = true) (h_nm : L .nm = true) (h_up : L .up = true)  :
    blot L (State.activatePlan s items secs) = blot L s := by
  unfold State.activatePlan
  (try simp [h_regs, h_plan, h_ao, h_ep, h_ic, h_kb, h_pn, h_can, h_sw, h_nm, h_up]) <;> repeat' (first | with_reducible rfl | (apply pick_eq) | split | (simp [h_regs, h_plan, h_ao, h_ep, h_ic, h_kb, h_pn, h_can, h_sw, h_nm, h_up]))
@[simp ↓] theorem State.medWait_blot (L : Piece → Bool) (s : State) (m : Nat) (h_regs : L .regs = true) (h_can : L .can = true) (h_nm : L .nm = true)  :
    blot L (State.medWait s m) = blot L s := by
  unfold State.medWait
  (try simp [h_regs, h_can, h_nm]) <;> repeat' (first | with_reducible rfl | (apply pick_eq) | split | (simp [h_regs, h_can, h_nm]))
@[simp ↓] theorem State.afterSent_blot (L : Piece → Bool) (s : State) (m : Nat) (f : MedFrame) (h_regs : L .regs = true) (h_ic : L .ic = true) (h_can : L .can = true) (h_nm : L .nm = true)  :
    blot L (State.afterSent s m f) = blot L s := by
  unfold State.afterSent
  (repeat' split) <;> (try with_reducible rfl) <;> (try simp [h_regs, h_ic, h_can, h_nm]) <;> (repeat' (first | with_reducible rfl | (apply pick_eq) | split | (simp [h_regs, h_ic, h_can, h_nm])))
@[simp ↓] theorem State.integEvent_blot (L : Piece → Bool) (s : State) (k : Nat) (h_regs : L .regs = true) (h_ic : L .ic = true)  :
    blot L (State.integEvent s k) = blot L s := by
  unfold State.integEvent
  (try simp [h_regs, h_ic]) <;> repeat' (first | with_reducible rfl | (apply pick_eq) | split | (simp [h_regs, h_ic]))
@[simp ↓] theorem State.ageDecision_blot (L : Piece → Bool) (s : State) (i : Nat) (h_regs : L .regs = true) (h_ic : L .ic = true) (h_sf : L .sf = true)  :
    blot L (State.ageDecision s i) = blot L s := by
  unfold State.ageDecision
  (try simp [h_regs, h_ic, h_sf]) <;> repeat' (first | with_reducible rfl | (apply pick_eq) | split | (simp [h_regs, h_ic, h_sf]))
@[simp ↓] theorem State.ageHeads_blot (L : Piece → Bool) (s : State) (fuel : Nat) (h_regs : L .regs = true) (h_ep : L .ep = true) (h_ic : L .ic = true) (h_sw : L .sw = true)  :
    blot L (State.ageHeads s fuel) = blot L s := by
  induction fuel generalizing s with
  | zero => unfold State.ageHeads; rfl
  | succ m ih => unfold State.ageHeads; (repeat' split) <;> (try simp [h_regs, h_ep, h_ic, h_sw, ih])
@[simp ↓] theorem State.allOff_blot (L : Piece → Bool) (s : State) (h_regs : L .regs = true) (h_kb : L .kb = true)  :
    blot L (State.allOff s) = blot L s := by
  unfold State.allOff
  (try simp [h_regs, h_kb]) <;> repeat' (first | with_reducible rfl | (apply pick_eq) | split | (simp [h_regs, h_kb]))
@[simp ↓] theorem State.setDiag_blot (L : Piece → Bool) (s : State) (n : Nat) (d : Nat) (h_regs : L .regs = true) (h_mem : L .mem = true) (h_ep : L .ep = true) (h_wg : L .wg = true) (h_ic : L .ic = true)  :
    blot L (State.setDiag s n d) = blot L s := by
  unfold State.setDiag
  (try simp [h_regs, h_mem, h_ep, h_wg, h_ic]) <;> repeat' (first | with_reducible rfl | (apply pick_eq) | split | (simp [h_regs, h_mem, h_ep, h_wg, h_ic]))
@[simp ↓] theorem State.analogBand_blot (L : Piece → Bool) (s : State) (n : Nat) (v : Nat) (h_regs : L .regs = true) (h_mem : L .mem = true) (h_ep : L .ep = true) (h_wg : L .wg = true) (h_ic : L .ic = true) (h_pn : L .pn = true)  :
    blot L (State.analogBand s n v) = blot L s := by
  unfold State.analogBand
  (try simp [h_regs, h_mem, h_ep, h_wg, h_ic, h_pn]) <;> repeat' (first | with_reducible rfl | (apply pick_eq) | split | (simp [h_regs, h_mem, h_ep, h_wg, h_ic, h_pn]))
@[simp ↓] theorem State.applyCommit_blot (L : Piece → Bool) (s : State) (x : Apply) (h_regs : L .regs = true) (h_mem : L .mem = true) (h_wg : L .wg = true) (h_ic : L .ic = true) (h_up : L .up = true)  :
    blot L (State.applyCommit s x) = blot L s := by
  unfold State.applyCommit
  (try simp [h_regs, h_mem, h_wg, h_ic, h_up]) <;> repeat' (first | with_reducible rfl | (apply pick_eq) | split | (simp [h_regs, h_mem, h_wg, h_ic, h_up]))
@[simp ↓] theorem State.repeatTried_blot (L : Piece → Bool) (s : State) (k : Nat) (b : Nat) (code : Nat) (h_mem : L .mem = true) (h_ep : L .ep = true) (h_wg : L .wg = true) (h_ic : L .ic = true)  :
    blot L (State.repeatTried s k b code) = blot L s := by
  unfold State.repeatTried
  (try simp [h_mem, h_ep, h_wg, h_ic]) <;> repeat' (first | with_reducible rfl | (apply pick_eq) | split | (simp [h_mem, h_ep, h_wg, h_ic]))
@[simp ↓] theorem State.arbLost_blot (L : Piece → Bool) (s : State) (k : Nat) (h_now : L .now = true) (h_vt : L .vt = true) (h_regs : L .regs = true) (h_mem : L .mem = true) (h_ep : L .ep = true) (h_wg : L .wg = true) (h_ic : L .ic = true) (h_can : L .can = true) (h_ptp : L .ptp = true)  :
    blot L (State.arbLost s k) = blot L s := by
  unfold State.arbLost
  (repeat' split) <;> (try with_reducible rfl) <;> (try simp [h_now, h_vt, h_regs, h_mem, h_ep, h_wg, h_ic, h_can, h_ptp]) <;> (repeat' (first | with_reducible rfl | (apply pick_eq) | split | (simp [h_now, h_vt, h_regs, h_mem, h_ep, h_wg, h_ic, h_can, h_ptp])))
@[simp ↓] theorem State.setPtp_blot (L : Piece → Bool) (s : State) (x : TimeState) (h_ptp : L .ptp = true)  :
    blot L (State.setPtp s x) = blot L s := by
  unfold State.setPtp
  (try simp [h_ptp]) <;> repeat' (first | with_reducible rfl | (apply pick_eq) | split | (simp [h_ptp]))
@[simp ↓] theorem State.count64_blot (L : Piece → Bool) (s : State) (a : Nat) (sat : Nat) (b : Nat) (n : Nat) (h_regs : L .regs = true)  :
    blot L (State.count64 s a sat b n) = blot L s := by
  unfold State.count64
  (try simp [h_regs]) <;> repeat' (first | with_reducible rfl | (apply pick_eq) | split | (simp [h_regs]))
@[simp ↓] theorem State.traffic_blot (L : Piece → Bool) (s : State) (p : Nat) (k : Nat) (len : Nat) (h_regs : L .regs = true) (h_ic : L .ic = true)  :
    blot L (State.traffic s p k len) = blot L s := by
  unfold State.traffic
  (try simp [h_regs, h_ic]) <;> repeat' (first | with_reducible rfl | (apply pick_eq) | split | (simp [h_regs, h_ic]))
@[simp ↓] theorem State.asSend_blot (L : Piece → Bool) (s : State) (p : Nat) (h_now : L .now = true) (h_vt : L .vt = true) (h_regs : L .regs = true) (h_ic : L .ic = true) (h_ptp : L .ptp = true)  :
    blot L (State.asSend s p) = blot L s := by
  unfold State.asSend
  (try simp [h_now, h_vt, h_regs, h_ic, h_ptp]) <;> repeat' (first | with_reducible rfl | (apply pick_eq) | split | (simp [h_now, h_vt, h_regs, h_ic, h_ptp]))
@[simp ↓] theorem State.atTime_blot (L : Piece → Bool) (s : State) (c : Cmd) (run : State → Cmd → State) (h_mem : L .mem = true) (h_ep : L .ep = true) (h_wg : L .wg = true) (h_ic : L .ic = true) (hrun : ∀ x0 x1, blot L (run x0 x1) = blot L x0) :
    blot L (State.atTime s c run) = blot L s := by
  unfold State.atTime
  (try simp [h_mem, h_ep, h_wg, h_ic, hrun]) <;> repeat' (first | with_reducible rfl | (apply pick_eq) | split | (simp [h_mem, h_ep, h_wg, h_ic, hrun]))
@[simp ↓] theorem State.atomicRetry_blot (L : Piece → Bool) (s : State) (k : Nat) (h_now : L .now = true) (h_vt : L .vt = true) (h_ptp : L .ptp = true) (h_ux : L .ux = true)  :
    blot L (State.atomicRetry s k) = blot L s := by
  unfold State.atomicRetry
  (try simp [h_now, h_vt, h_ptp, h_ux]) <;> repeat' (first | with_reducible rfl | (apply pick_eq) | split | (simp [h_now, h_vt, h_ptp, h_ux]))
@[simp ↓] theorem State.bistDone_blot (L : Piece → Bool) (s : State) (p : Nat) (delay : Bool) (h_regs : L .regs = true)  :
    blot L (State.bistDone s p delay) = blot L s := by
  unfold State.bistDone
  (try simp [h_regs]) <;> repeat' (first | with_reducible rfl | (apply pick_eq) | split | (simp [h_regs]))
@[simp ↓] theorem State.renewChallenge_blot (L : Piece → Bool) (s : State) (h_regs : L .regs = true) (h_fresh : L .fresh = true)  :
    blot L (State.renewChallenge s) = blot L s := by
  unfold State.renewChallenge
  (try simp [h_regs, h_fresh]) <;> repeat' (first | with_reducible rfl | (apply pick_eq) | split | (simp [h_regs, h_fresh]))
@[simp ↓] theorem State.csBurn_blot (L : Piece → Bool) (s : State) (st : Nat) (h_fresh : L .fresh = true) (h_otp : L .otp = true)  :
    blot L (State.csBurn s st) = blot L s := by
  unfold State.csBurn
  (try simp [h_fresh, h_otp]) <;> repeat' (first | with_reducible rfl | (apply pick_eq) | split | (simp [h_fresh, h_otp]))
@[simp ↓] theorem State.cornerstoneBoot_blot (L : Piece → Bool) (s : State) (gen : CsGen) (h_regs : L .regs = true) (h_fresh : L .fresh = true) (h_otp : L .otp = true)  :
    blot L (State.cornerstoneBoot s gen) = blot L s := by
  unfold State.cornerstoneBoot
  (try simp [h_regs, h_fresh, h_otp]) <;> repeat' (first | with_reducible rfl | (apply pick_eq) | split | (simp [h_regs, h_fresh, h_otp]))
@[simp ↓] theorem State.ksStart_blot (L : Piece → Bool) (s : State) (gen : CsGen) (h_regs : L .regs = true) (h_fresh : L .fresh = true) (h_otp : L .otp = true)  :
    blot L (State.ksStart s gen) = blot L s := by
  unfold State.ksStart
  (try simp [h_regs, h_fresh, h_otp]) <;> repeat' (first | with_reducible rfl | (apply pick_eq) | split | (simp [h_regs, h_fresh, h_otp]))
@[simp ↓] theorem State.nmBoot_blot (L : Piece → Bool) (s : State) (h_regs : L .regs = true) (h_nm : L .nm = true)  :
    blot L (State.nmBoot s) = blot L s := by
  unfold State.nmBoot
  (try simp [h_regs, h_nm]) <;> repeat' (first | with_reducible rfl | (apply pick_eq) | split | (simp [h_regs, h_nm]))
@[simp ↓] theorem State.mainUp_blot (L : Piece → Bool) (s : State) (h_dev : L .dev = true) (h_vt : L .vt = true) (h_regs : L .regs = true) (h_ao : L .ao = true) (h_ptp : L .ptp = true) (h_nm : L .nm = true) (h_otp : L .otp = true)  :
    blot L (State.mainUp s) = blot L s := by
  unfold State.mainUp
  (try simp [h_dev, h_vt, h_regs, h_ao, h_ptp, h_nm, h_otp]) <;> repeat' (first | with_reducible rfl | (apply pick_eq) | split | (simp [h_dev, h_vt, h_regs, h_ao, h_ptp, h_nm, h_otp]))
@[simp ↓] theorem State.haltAll_blot (L : Piece → Bool) (s : State) (h_wg : L .wg = true)  :
    blot L (State.haltAll s) = blot L s := by
  unfold State.haltAll
  (try simp [h_wg]) <;> repeat' (first | with_reducible rfl | (apply pick_eq) | split | (simp [h_wg]))
@[simp ↓] theorem State.wipeSlots_blot (L : Piece → Bool) (s : State) (h_ks : L .ks = true)  :
    blot L (State.wipeSlots s) = blot L s := by
  unfold State.wipeSlots
  (try simp [h_ks]) <;> repeat' (first | with_reducible rfl | (apply pick_eq) | split | (simp [h_ks]))
@[simp ↓] theorem State.tamperNote_blot (L : Piece → Bool) (s : State) (mask : Nat) (full : Bool) (phase : Nat) (time : Nat) (h_regs : L .regs = true) (h_fresh : L .fresh = true) (h_ic : L .ic = true) (h_ks : L .ks = true)  :
    blot L (State.tamperNote s mask full phase time) = blot L s := by
  unfold State.tamperNote
  (try simp [h_regs, h_fresh, h_ic, h_ks]) <;> repeat' (first | with_reducible rfl | (apply pick_eq) | split | (simp [h_regs, h_fresh, h_ic, h_ks]))
@[simp ↓] theorem State.tamperWrite_blot (L : Piece → Bool) (s : State) (h_mem : L .mem = true) (h_wg : L .wg = true) (h_ks : L .ks = true)  :
    blot L (State.tamperWrite s) = blot L s := by
  unfold State.tamperWrite
  (try simp [h_mem, h_wg, h_ks]) <;> repeat' (first | with_reducible rfl | (apply pick_eq) | split | (simp [h_mem, h_wg, h_ks]))
@[simp ↓] theorem State.tamperHalt_blot (L : Piece → Bool) (s : State) (src : Nat) (h_regs : L .regs = true) (h_mem : L .mem = true) (h_fresh : L .fresh = true) (h_ao : L .ao = true) (h_wg : L .wg = true) (h_ic : L .ic = true) (h_ks : L .ks = true)  :
    blot L (State.tamperHalt s src) = blot L s := by
  unfold State.tamperHalt
  (try simp [h_regs, h_mem, h_fresh, h_ao, h_wg, h_ic, h_ks]) <;> repeat' (first | with_reducible rfl | (apply pick_eq) | split | (simp [h_regs, h_mem, h_fresh, h_ao, h_wg, h_ic, h_ks]))
@[simp ↓] theorem State.runPlan_blot (L : Piece → Bool) (s : State) (x : Boot) (h_regs : L .regs = true) (h_fresh : L .fresh = true) (h_plan : L .plan = true) (h_ao : L .ao = true) (h_ep : L .ep = true) (h_ic : L .ic = true) (h_kb : L .kb = true) (h_pn : L .pn = true) (h_can : L .can = true) (h_sw : L .sw = true) (h_nm : L .nm = true) (h_otp : L .otp = true) (h_up : L .up = true)  :
    blot L (State.runPlan s x) = blot L s := by
  unfold State.runPlan
  (try simp [h_regs, h_fresh, h_plan, h_ao, h_ep, h_ic, h_kb, h_pn, h_can, h_sw, h_nm, h_otp, h_up]) <;> repeat' (first | with_reducible rfl | (apply pick_eq) | split | (simp [h_regs, h_fresh, h_plan, h_ao, h_ep, h_ic, h_kb, h_pn, h_can, h_sw, h_nm, h_otp, h_up]))
@[simp ↓] theorem State.startTowns_blot (L : Piece → Bool) (s : State) (bank : Option Nat) (h_regs : L .regs = true) (h_mem : L .mem = true) (h_ep : L .ep = true) (h_wg : L .wg = true)  :
    blot L (State.startTowns s bank) = blot L s := by
  unfold State.startTowns
  (try simp [h_regs, h_mem, h_ep, h_wg]) <;> repeat' (first | with_reducible rfl | (apply pick_eq) | split | (simp [h_regs, h_mem, h_ep, h_wg]))
@[simp ↓] theorem State.checkerFault_blot (L : Piece → Bool) (s : State) (h_regs : L .regs = true) (h_mem : L .mem = true) (h_fresh : L .fresh = true) (h_ep : L .ep = true) (h_wg : L .wg = true) (h_ic : L .ic = true) (h_kb : L .kb = true) (h_pn : L .pn = true) (h_can : L .can = true) (h_sw : L .sw = true) (h_sf : L .sf = true) (h_cp : L .cp = true) (h_ks : L .ks = true)  :
    blot L (State.checkerFault s) = blot L s := by
  unfold State.checkerFault
  (try simp [h_regs, h_mem, h_fresh, h_ep, h_wg, h_ic, h_kb, h_pn, h_can, h_sw, h_sf, h_cp, h_ks]) <;> repeat' (first | with_reducible rfl | (apply pick_eq) | split | (simp [h_regs, h_mem, h_fresh, h_ep, h_wg, h_ic, h_kb, h_pn, h_can, h_sw, h_sf, h_cp, h_ks]))
@[simp ↓] theorem State.selfTest_blot (L : Piece → Bool) (s : State) (aWrong : Bool) (bWrong : Bool) (h_regs : L .regs = true) (h_mem : L .mem = true) (h_fresh : L .fresh = true) (h_ep : L .ep = true) (h_wg : L .wg = true) (h_ic : L .ic = true) (h_kb : L .kb = true) (h_pn : L .pn = true) (h_can : L .can = true) (h_sw : L .sw = true) (h_sf : L .sf = true) (h_cp : L .cp = true) (h_ks : L .ks = true)  :
    blot L (State.selfTest s aWrong bWrong) = blot L s := by
  unfold State.selfTest
  (try simp [h_regs, h_mem, h_fresh, h_ep, h_wg, h_ic, h_kb, h_pn, h_can, h_sw, h_sf, h_cp, h_ks]) <;> repeat' (first | with_reducible rfl | (apply pick_eq) | split | (simp [h_regs, h_mem, h_fresh, h_ep, h_wg, h_ic, h_kb, h_pn, h_can, h_sw, h_sf, h_cp, h_ks]))
@[simp ↓] theorem State.startTown_blot (L : Piece → Bool) (s : State) (x : Boot) (h_regs : L .regs = true) (h_mem : L .mem = true) (h_fresh : L .fresh = true) (h_ep : L .ep = true) (h_wg : L .wg = true) (h_ic : L .ic = true) (h_kb : L .kb = true) (h_pn : L .pn = true) (h_can : L .can = true) (h_sw : L .sw = true) (h_sf : L .sf = true) (h_cp : L .cp = true) (h_ks : L .ks = true)  :
    blot L (State.startTown s x) = blot L s := by
  unfold State.startTown
  (try simp [h_regs, h_mem, h_fresh, h_ep, h_wg, h_ic, h_kb, h_pn, h_can, h_sw, h_sf, h_cp, h_ks]) <;> repeat' (first | with_reducible rfl | (apply pick_eq) | split | (simp [h_regs, h_mem, h_fresh, h_ep, h_wg, h_ic, h_kb, h_pn, h_can, h_sw, h_sf, h_cp, h_ks]))
@[simp ↓] theorem State.ksPending_blot (L : Piece → Bool) (s : State) (h_regs : L .regs = true) (h_fresh : L .fresh = true) (h_ic : L .ic = true) (h_ks : L .ks = true)  :
    blot L (State.ksPending s) = blot L s := by
  unfold State.ksPending
  (try simp [h_regs, h_fresh, h_ic, h_ks]) <;> repeat' (first | with_reducible rfl | (apply pick_eq) | split | (simp [h_regs, h_fresh, h_ic, h_ks]))
@[simp ↓] theorem State.loadSlots_blot (L : Piece → Bool) (s : State) (h_regs : L .regs = true) (h_ic : L .ic = true) (h_ks : L .ks = true)  :
    blot L (State.loadSlots s) = blot L s := by
  unfold State.loadSlots
  (try simp [h_regs, h_ic, h_ks]) <;> repeat' (first | with_reducible rfl | (apply pick_eq) | split | (simp [h_regs, h_ic, h_ks]))
@[simp ↓] theorem State.ksLoad_blot (L : Piece → Bool) (s : State) (h_regs : L .regs = true) (h_fresh : L .fresh = true) (h_ic : L .ic = true) (h_ks : L .ks = true)  :
    blot L (State.ksLoad s) = blot L s := by
  unfold State.ksLoad
  (try simp [h_regs, h_fresh, h_ic, h_ks]) <;> repeat' (first | with_reducible rfl | (apply pick_eq) | split | (simp [h_regs, h_fresh, h_ic, h_ks]))
@[simp ↓] theorem State.boots_blot (L : Piece → Bool) (s : State) (b : Nat) (h_ao : L .ao = true)  :
    blot L (State.boots s b) = blot L s := by
  unfold State.boots
  (try simp [h_ao]) <;> repeat' (first | with_reducible rfl | (apply pick_eq) | split | (simp [h_ao]))
@[simp ↓] theorem State.bufCommits_blot (L : Piece → Bool) (s : State) (k : Nat) (b : Nat) (h_regs : L .regs = true) (h_ep : L .ep = true) (h_can : L .can = true)  :
    blot L (State.bufCommits s k b) = blot L s := by
  unfold State.bufCommits
  (try simp [h_regs, h_ep, h_can]) <;> repeat' (first | with_reducible rfl | (apply pick_eq) | split | (simp [h_regs, h_ep, h_can]))
@[simp ↓] theorem State.bufFailed_blot (L : Piece → Bool) (s : State) (k : Nat) (b : Nat) (h_regs : L .regs = true) (h_mem : L .mem = true) (h_ep : L .ep = true) (h_wg : L .wg = true) (h_ic : L .ic = true) (h_can : L .can = true)  :
    blot L (State.bufFailed s k b) = blot L s := by
  unfold State.bufFailed
  (try simp [h_regs, h_mem, h_ep, h_wg, h_ic, h_can]) <;> repeat' (first | with_reducible rfl | (apply pick_eq) | split | (simp [h_regs, h_mem, h_ep, h_wg, h_ic, h_can]))
@[simp ↓] theorem State.bufWrite_blot (L : Piece → Bool) (s : State) (k : Nat) (b : Nat) (words : Tbl Word) (time : Nat) (h_regs : L .regs = true) (h_can : L .can = true)  :
    blot L (State.bufWrite s k b words time) = blot L s := by
  unfold State.bufWrite
  (try simp [h_regs, h_can]) <;> repeat' (first | with_reducible rfl | (apply pick_eq) | split | (simp [h_regs, h_can]))
@[simp ↓] theorem State.bufReceive_blot (L : Piece → Bool) (s : State) (k : Nat) (b : Nat) (w0 : Nat) (w1 : Nat) (data : List Byte) (time : Nat) (h_regs : L .regs = true) (h_can : L .can = true)  :
    blot L (State.bufReceive s k b w0 w1 data time) = blot L s := by
  unfold State.bufReceive
  (try simp [h_regs, h_can]) <;> repeat' (first | with_reducible rfl | (apply pick_eq) | split | (simp [h_regs, h_can]))
@[simp ↓] theorem State.bufSent_blot (L : Piece → Bool) (s : State) (k : Nat) (b : Nat) (commit : Nat) (h_regs : L .regs = true) (h_mem : L .mem = true) (h_ep : L .ep = true) (h_wg : L .wg = true) (h_ic : L .ic = true) (h_can : L .can = true)  :
    blot L (State.bufSent s k b commit) = blot L s := by
  unfold State.bufSent
  (try simp [h_regs, h_mem, h_ep, h_wg, h_ic, h_can]) <;> repeat' (first | with_reducible rfl | (apply pick_eq) | split | (simp [h_regs, h_mem, h_ep, h_wg, h_ic, h_can]))
@[simp ↓] theorem State.regRead_blot (L : Piece → Bool) (s : State) (who : Who) (bytes : Nat) (a : Nat) (own : Option Bool) (v : Nat) (effect : State → State) (h_regs : L .regs = true) (h_resp : L .resp = true) (h_wg : L .wg = true) (h_ic : L .ic = true) (heffect : ∀ x0, blot L (effect x0) = blot L x0) :
    blot L (State.regRead s who bytes a own v effect) = blot L s := by
  unfold State.regRead
  (try simp [h_regs, h_resp, h_wg, h_ic, heffect]) <;> repeat' (first | with_reducible rfl | (apply pick_eq) | split | (simp [h_regs, h_resp, h_wg, h_ic, heffect]))
@[simp ↓] theorem State.claimSrc_blot (L : Piece → Bool) (s : State) (n : Nat) (t : Nat) (h_ic : L .ic = true)  :
    blot L (State.claimSrc s n t) = blot L s := by
  unfold State.claimSrc
  (try simp [h_ic]) <;> repeat' (first | with_reducible rfl | (apply pick_eq) | split | (simp [h_ic]))
@[simp ↓] theorem State.claimRead_blot (L : Piece → Bool) (s : State) (who : Who) (bytes : Nat) (t : Nat) (h_regs : L .regs = true) (h_resp : L .resp = true) (h_wg : L .wg = true) (h_ic : L .ic = true)  :
    blot L (State.claimRead s who bytes t) = blot L s := by
  unfold State.claimRead
  (try simp [h_regs, h_resp, h_wg, h_ic]) <;> repeat' (first | with_reducible rfl | (apply pick_eq) | split | (simp [h_regs, h_resp, h_wg, h_ic]))
@[simp ↓] theorem State.mramRead_blot (L : Piece → Bool) (s : State) (who : Who) (bytes : Nat) (h_regs : L .regs = true) (h_resp : L .resp = true) (h_wg : L .wg = true) (h_ic : L .ic = true)  :
    blot L (State.mramRead s who bytes) = blot L s := by
  unfold State.mramRead
  (try simp [h_regs, h_resp, h_wg, h_ic]) <;> repeat' (first | with_reducible rfl | (apply pick_eq) | split | (simp [h_regs, h_resp, h_wg, h_ic]))
@[simp ↓] theorem State.semTake_blot (L : Piece → Bool) (s : State) (k : Nat) (district : Nat) (twin : Bool) (h_ux : L .ux = true)  :
    blot L (State.semTake s k district twin).1 = blot L s := by
  unfold State.semTake
  (try simp [h_ux]) <;> repeat' (first | with_reducible rfl | (apply pick_eq) | split | (simp [h_ux]))
@[simp ↓] theorem State.twinSemRequest_blot (L : Piece → Bool) (s : State) (who : Who) (bytes : Nat) (k : Fin 32) (h_regs : L .regs = true) (h_resp : L .resp = true) (h_wg : L .wg = true) (h_ic : L .ic = true) (h_ux : L .ux = true)  :
    blot L (State.twinSemRequest s who bytes k) = blot L s := by
  unfold State.twinSemRequest
  (try simp [h_regs, h_resp, h_wg, h_ic, h_ux]) <;> repeat' (first | with_reducible rfl | (apply pick_eq) | split | (simp [h_regs, h_resp, h_wg, h_ic, h_ux]))
@[simp ↓] theorem State.dropShadow_blot (L : Piece → Bool) (s : State) (init : Nat) (a : Nat) (h_shadows : L .shadows = true)  :
    blot L (State.dropShadow s init a) = blot L s := by
  unfold State.dropShadow
  (try simp [h_shadows]) <;> repeat' (first | with_reducible rfl | (apply pick_eq) | split | (simp [h_shadows]))
@[simp ↓] theorem State.latch_blot (L : Piece → Bool) (s : State) (who : Who) (a : Nat) (h_shadows : L .shadows = true)  :
    blot L (State.latch s who a) = blot L s := by
  unfold State.latch
  (try simp [h_shadows]) <;> repeat' (first | with_reducible rfl | (apply pick_eq) | split | (simp [h_shadows]))
@[simp ↓] theorem State.clearRc_blot (L : Piece → Bool) (s : State) (a : Nat) (h_regs : L .regs = true)  :
    blot L (State.clearRc s a) = blot L s := by
  unfold State.clearRc
  (try simp [h_regs]) <;> repeat' (first | with_reducible rfl | (apply pick_eq) | split | (simp [h_regs]))
@[simp ↓] theorem State.plainRead_blot (L : Piece → Bool) (s : State) (who : Who) (bytes : Nat) (a : Nat) (h_regs : L .regs = true) (h_resp : L .resp = true) (h_shadows : L .shadows = true) (h_wg : L .wg = true) (h_ic : L .ic = true)  :
    blot L (State.plainRead s who bytes a) = blot L s := by
  unfold State.plainRead
  (try simp [h_regs, h_resp, h_shadows, h_wg, h_ic]) <;> repeat' (first | with_reducible rfl | (apply pick_eq) | split | (simp [h_regs, h_resp, h_shadows, h_wg, h_ic]))
@[simp ↓] theorem State.dbRead_blot (L : Piece → Bool) (s : State) (who : Who) (bytes : Nat) (e : Nat) (off : Nat) (h_regs : L .regs = true) (h_resp : L .resp = true) (h_wg : L .wg = true) (h_ic : L .ic = true)  :
    blot L (State.dbRead s who bytes e off) = blot L s := by
  unfold State.dbRead
  (try simp [h_regs, h_resp, h_wg, h_ic]) <;> repeat' (first | with_reducible rfl | (apply pick_eq) | split | (simp [h_regs, h_resp, h_wg, h_ic]))
@[simp ↓] theorem State.busOffEnds_blot (L : Piece → Bool) (s : State) (k : Nat) (h_now : L .now = true) (h_vt : L .vt = true) (h_regs : L .regs = true) (h_ic : L .ic = true) (h_can : L .can = true) (h_ptp : L .ptp = true)  :
    blot L (State.busOffEnds s k) = blot L s := by
  unfold State.busOffEnds
  (try simp [h_now, h_vt, h_regs, h_ic, h_can, h_ptp]) <;> repeat' (first | with_reducible rfl | (apply pick_eq) | split | (simp [h_now, h_vt, h_regs, h_ic, h_can, h_ptp]))
@[simp ↓] theorem State.lineFault_blot (L : Piece → Bool) (s : State) (i : Nat) (code : Nat) (h_regs : L .regs = true)  :
    blot L (State.lineFault s i code) = blot L s := by
  unfold State.lineFault
  (try simp [h_regs]) <;> repeat' (first | with_reducible rfl | (apply pick_eq) | split | (simp [h_regs]))
@[simp ↓] theorem State.lineClear_blot (L : Piece → Bool) (s : State) (i : Nat) (h_regs : L .regs = true)  :
    blot L (State.lineClear s i) = blot L s := by
  unfold State.lineClear
  (try simp [h_regs]) <;> repeat' (first | with_reducible rfl | (apply pick_eq) | split | (simp [h_regs]))
@[simp ↓] theorem State.cableTest_blot (L : Piece → Bool) (s : State) (p : Nat) (openLine : Bool) (h_regs : L .regs = true)  :
    blot L (State.cableTest s p openLine) = blot L s := by
  unfold State.cableTest
  (try simp [h_regs]) <;> repeat' (first | with_reducible rfl | (apply pick_eq) | split | (simp [h_regs]))
@[simp ↓] theorem State.camLinkDown_blot (L : Piece → Bool) (s : State) (c : Nat) (h_regs : L .regs = true) (h_ic : L .ic = true) (h_sf : L .sf = true)  :
    blot L (State.camLinkDown s c) = blot L s := by
  unfold State.camLinkDown
  (try simp [h_regs, h_ic, h_sf]) <;> repeat' (first | with_reducible rfl | (apply pick_eq) | split | (simp [h_regs, h_ic, h_sf]))
@[simp ↓] theorem State.camStep_blot (L : Piece → Bool) (s : State) (delta : Int) (c : Nat) (h_sf : L .sf = true)  :
    blot L (State.camStep s delta c) = blot L s := by
  unfold State.camStep
  (try simp [h_sf]) <;> repeat' (first | with_reducible rfl | (apply pick_eq) | split | (simp [h_sf]))
@[simp ↓] theorem State.towardsVt_blot (L : Piece → Bool) (s : State) (t : Nat) (h_now : L .now = true) (h_vt : L .vt = true) (h_ptp : L .ptp = true)  :
    blot L (State.towardsVt s t) = blot L s := by
  unfold State.towardsVt
  (try simp [h_now, h_vt, h_ptp]) <;> repeat' (first | with_reducible rfl | (apply pick_eq) | split | (simp [h_now, h_vt, h_ptp]))
@[simp ↓] theorem State.reachVt_blot (L : Piece → Bool) (s : State) (t : Nat) (h_now : L .now = true) (h_vt : L .vt = true) (h_ptp : L .ptp = true)  :
    blot L (State.reachVt s t) = blot L s := by
  unfold State.reachVt
  (try simp [h_now, h_vt, h_ptp]) <;> repeat' (first | with_reducible rfl | (apply pick_eq) | split | (simp [h_now, h_vt, h_ptp]))
@[simp ↓] theorem State.camTrigger_blot (L : Piece → Bool) (s : State) (c : Nat) (h_now : L .now = true) (h_vt : L .vt = true) (h_regs : L .regs = true) (h_ptp : L .ptp = true) (h_sf : L .sf = true)  :
    blot L (State.camTrigger s c) = blot L s := by
  unfold State.camTrigger
  (try simp [h_now, h_vt, h_regs, h_ptp, h_sf]) <;> repeat' (first | with_reducible rfl | (apply pick_eq) | split | (simp [h_now, h_vt, h_regs, h_ptp, h_sf]))
@[simp ↓] theorem State.canDiag_blot (L : Piece → Bool) (s : State) (k : Nat) (high : Int) (low : Int) (openLoad : Bool) (h_regs : L .regs = true)  :
    blot L (State.canDiag s k high low openLoad) = blot L s := by
  unfold State.canDiag
  (try simp [h_regs]) <;> repeat' (first | with_reducible rfl | (apply pick_eq) | split | (simp [h_regs]))
@[simp ↓] theorem State.canEvents_blot (L : Piece → Bool) (s : State) (k : Nat) (c : Nat) (n : Nat) (h_regs : L .regs = true)  :
    blot L (State.canEvents s k c n) = blot L s := by
  unfold State.canEvents
  (try simp [h_regs]) <;> repeat' (first | with_reducible rfl | (apply pick_eq) | split | (simp [h_regs]))
@[simp ↓] theorem State.setGwy_blot (L : Piece → Bool) (s : State) (k : Nat) (l : List GwyMsg) (h_regs : L .regs = true) (h_can : L .can = true)  :
    blot L (State.setGwy s k l) = blot L s := by
  unfold State.setGwy
  (try simp [h_regs, h_can]) <;> repeat' (first | with_reducible rfl | (apply pick_eq) | split | (simp [h_regs, h_can]))
@[simp ↓] theorem State.canEnterOff_blot (L : Piece → Bool) (s : State) (k : Nat) (h_regs : L .regs = true) (h_mem : L .mem = true) (h_ep : L .ep = true) (h_wg : L .wg = true) (h_ic : L .ic = true) (h_can : L .can = true)  :
    blot L (State.canEnterOff s k) = blot L s := by
  unfold State.canEnterOff
  (try simp [h_regs, h_mem, h_ep, h_wg, h_ic, h_can]) <;> repeat' (first | with_reducible rfl | (apply pick_eq) | split | (simp [h_regs, h_mem, h_ep, h_wg, h_ic, h_can]))
@[simp ↓] theorem State.medMark_blot (L : Piece → Bool) (s : State) (m : Nat) (st : Nat) (h_nm : L .nm = true)  :
    blot L (State.medMark s m st) = blot L s := by
  unfold State.medMark
  (try simp [h_nm]) <;> repeat' (first | with_reducible rfl | (apply pick_eq) | split | (simp [h_nm]))
@[simp ↓] theorem State.canErrState_blot (L : Piece → Bool) (s : State) (k : Nat) (h_regs : L .regs = true) (h_ic : L .ic = true) (h_can : L .can = true) (h_nm : L .nm = true)  :
    blot L (State.canErrState s k) = blot L s := by
  unfold State.canErrState
  (try simp [h_regs, h_ic, h_can, h_nm]) <;> repeat' (first | with_reducible rfl | (apply pick_eq) | split | (simp [h_regs, h_ic, h_can, h_nm]))
@[simp ↓] theorem State.canFreeIn_blot (L : Piece → Bool) (s : State) (k : Nat) (n : Nat) (sent : Bool) (h_can : L .can = true)  :
    blot L (State.canFreeIn s k n sent) = blot L s := by
  unfold State.canFreeIn
  (try simp [h_can]) <;> repeat' (first | with_reducible rfl | (apply pick_eq) | split | (simp [h_can]))
@[simp ↓] theorem State.canModeTakes_blot (L : Piece → Bool) (s : State) (k : Nat) (h_now : L .now = true) (h_vt : L .vt = true) (h_regs : L .regs = true) (h_mem : L .mem = true) (h_ep : L .ep = true) (h_wg : L .wg = true) (h_ic : L .ic = true) (h_can : L .can = true) (h_ptp : L .ptp = true)  :
    blot L (State.canModeTakes s k) = blot L s := by
  unfold State.canModeTakes
  (try simp [h_now, h_vt, h_regs, h_mem, h_ep, h_wg, h_ic, h_can, h_ptp]) <;> repeat' (first | with_reducible rfl | (apply pick_eq) | split | (simp [h_now, h_vt, h_regs, h_mem, h_ep, h_wg, h_ic, h_can, h_ptp]))
@[simp ↓] theorem State.canModeChange_blot (L : Piece → Bool) (s : State) (k : Nat) (h_now : L .now = true) (h_vt : L .vt = true) (h_regs : L .regs = true) (h_mem : L .mem = true) (h_ep : L .ep = true) (h_wg : L .wg = true) (h_ic : L .ic = true) (h_can : L .can = true) (h_ptp : L .ptp = true) (h_nm : L .nm = true)  :
    blot L (State.canModeChange s k) = blot L s := by
  unfold State.canModeChange
  (try simp [h_now, h_vt, h_regs, h_mem, h_ep, h_wg, h_ic, h_can, h_ptp, h_nm]) <;> repeat' (first | with_reducible rfl | (apply pick_eq) | split | (simp [h_now, h_vt, h_regs, h_mem, h_ep, h_wg, h_ic, h_can, h_ptp, h_nm]))
@[simp ↓] theorem State.recDown_blot (L : Piece → Bool) (s : State) (k : Nat) (h_regs : L .regs = true) (h_fresh : L .fresh = true)  :
    blot L (State.recDown s k) = blot L s := by
  unfold State.recDown
  (try simp [h_regs, h_fresh]) <;> repeat' (first | with_reducible rfl | (apply pick_eq) | split | (simp [h_regs, h_fresh]))
@[simp ↓] theorem State.canRxComplete_blot (L : Piece → Bool) (s : State) (k : Nat) (b : Nat) (h_regs : L .regs = true) (h_mem : L .mem = true) (h_ep : L .ep = true) (h_wg : L .wg = true) (h_ic : L .ic = true)  :
    blot L (State.canRxComplete s k b) = blot L s := by
  unfold State.canRxComplete
  (try simp [h_regs, h_mem, h_ep, h_wg, h_ic]) <;> repeat' (first | with_reducible rfl | (apply pick_eq) | split | (simp [h_regs, h_mem, h_ep, h_wg, h_ic]))
@[simp ↓] theorem State.fdbHit_blot (L : Piece → Bool) (s : State) (mac : Nat) (vid : Nat) (h_sw : L .sw = true)  :
    blot L (State.fdbHit s mac vid) = blot L s := by
  unfold State.fdbHit
  (try simp [h_sw]) <;> repeat' (first | with_reducible rfl | (apply pick_eq) | split | (simp [h_sw]))
@[simp ↓] theorem State.fdbStat_blot (L : Piece → Bool) (s : State) (f : Fld) (h_regs : L .regs = true)  :
    blot L (State.fdbStat s f) = blot L s := by
  unfold State.fdbStat
  (try simp [h_regs]) <;> repeat' (first | with_reducible rfl | (apply pick_eq) | split | (simp [h_regs]))
@[simp ↓] theorem State.fdbPut_blot (L : Piece → Bool) (s : State) (e : FdbEnt) (h_sw : L .sw = true)  :
    blot L (State.fdbPut s e) = blot L s := by
  unfold State.fdbPut
  (try simp [h_sw]) <;> repeat' (first | with_reducible rfl | (apply pick_eq) | split | (simp [h_sw]))
@[simp ↓] theorem State.learn_blot (L : Piece → Bool) (s : State) (mac : Nat) (vid : Nat) (p : Nat) (h_regs : L .regs = true) (h_ic : L .ic = true) (h_sw : L .sw = true)  :
    blot L (State.learn s mac vid p) = blot L s := by
  unfold State.learn
  (try simp [h_regs, h_ic, h_sw]) <;> repeat' (first | with_reducible rfl | (apply pick_eq) | split | (simp [h_regs, h_ic, h_sw]))
@[simp ↓] theorem State.charge_blot (L : Piece → Bool) (s : State) (p : Nat) (tc : Nat) (n : Nat) (h_regs : L .regs = true)  :
    blot L (State.charge s p tc n) = blot L s := by
  unfold State.charge
  (try simp [h_regs]) <;> repeat' (first | with_reducible rfl | (apply pick_eq) | split | (simp [h_regs]))
@[simp ↓] theorem State.enterCopy_blot (L : Piece → Bool) (s : State) (f : SwFrame) (o : Nat) (e : Nat) (h_regs : L .regs = true) (h_ep : L .ep = true) (h_ic : L .ic = true) (h_sw : L .sw = true)  :
    blot L (State.enterCopy s f o e).1 = blot L s := by
  unfold State.enterCopy
  (try simp [h_regs, h_ep, h_ic, h_sw]) <;> repeat' (first | with_reducible rfl | (apply pick_eq) | split | (simp [h_regs, h_ep, h_ic, h_sw]))
@[simp ↓] theorem State.strmCount_blot (L : Piece → Bool) (s : State) (h : Nat) (c : Nat) (h_ic : L .ic = true) (h_sw : L .sw = true)  :
    blot L (State.strmCount s h c) = blot L s := by
  unfold State.strmCount
  (try simp [h_ic, h_sw]) <;> repeat' (first | with_reducible rfl | (apply pick_eq) | split | (simp [h_ic, h_sw]))
@[simp ↓] theorem State.noteMeter_blot (L : Piece → Bool) (s : State) (p : Nat) (m : Option (Nat × Nat)) (h_sw : L .sw = true)  :
    blot L (State.noteMeter s p m) = blot L s := by
  unfold State.noteMeter
  (try simp [h_sw]) <;> repeat' (first | with_reducible rfl | (apply pick_eq) | split | (simp [h_sw]))
@[simp ↓] theorem State.recover_blot (L : Piece → Bool) (s : State) (h : Nat) (seq : Nat) (h_ic : L .ic = true) (h_sw : L .sw = true)  :
    blot L (State.recover s h seq).2 = blot L s := by
  unfold State.recover
  (try simp [h_ic, h_sw]) <;> repeat' (first | with_reducible rfl | (apply pick_eq) | split | (simp [h_ic, h_sw]))
@[simp ↓] theorem State.streamReplicate_blot (L : Piece → Bool) (s : State) (i : Item) (f : SwFrame) (h_sw : L .sw = true)  :
    blot L (State.streamReplicate s i f).1 = blot L s := by
  unfold State.streamReplicate
  (try simp [h_sw]) <;> repeat' (first | with_reducible rfl | (apply pick_eq) | split | (simp [h_sw]))
@[simp ↓] theorem State.ttReference_blot (L : Piece → Bool) (s : State) (k : Nat) (w0 : Nat) (data : List Byte) (ago : Nat) (h_regs : L .regs = true) (h_can : L .can = true)  :
    blot L (State.ttReference s k w0 data ago) = blot L s := by
  unfold State.ttReference
  (try simp [h_regs, h_can]) <;> repeat' (first | with_reducible rfl | (apply pick_eq) | split | (simp [h_regs, h_can]))
@[simp ↓] theorem State.ttPassed_blot (L : Piece → Bool) (s : State) (k : Nat) (old : Nat) (new : Nat) (h_regs : L .regs = true) (h_can : L .can = true)  :
    blot L (State.ttPassed s k old new) = blot L s := by
  unfold State.ttPassed
  (try simp [h_regs, h_can]) <;> repeat' (first | with_reducible rfl | (apply pick_eq) | split | (simp [h_regs, h_can]))
@[simp ↓] theorem State.ttOpen_blot (L : Piece → Bool) (s : State) (k : Nat) (i : Item) (left : Nat) (h_regs : L .regs = true) (h_ic : L .ic = true) (h_can : L .can = true)  :
    blot L (State.ttOpen s k i left) = blot L s := by
  unfold State.ttOpen
  (try simp [h_regs, h_ic, h_can]) <;> repeat' (first | with_reducible rfl | (apply pick_eq) | split | (simp [h_regs, h_ic, h_can]))
@[simp ↓] theorem State.ttResume_blot (L : Piece → Bool) (s : State) (k : Nat) (h_regs : L .regs = true) (h_ic : L .ic = true) (h_can : L .can = true)  :
    blot L (State.ttResume s k) = blot L s := by
  unfold State.ttResume
  (try simp [h_regs, h_ic, h_can]) <;> repeat' (first | with_reducible rfl | (apply pick_eq) | split | (simp [h_regs, h_ic, h_can]))
@[simp ↓] theorem State.ttStepWin_blot (L : Piece → Bool) (s : State) (k : Nat) (old : Nat) (new : Nat) (h_regs : L .regs = true) (h_ic : L .ic = true) (h_can : L .can = true)  :
    blot L (State.ttStepWin s k old new) = blot L s := by
  unfold State.ttStepWin
  (try simp [h_regs, h_ic, h_can]) <;> repeat' (first | with_reducible rfl | (apply pick_eq) | split | (simp [h_regs, h_ic, h_can]))
@[simp ↓] theorem State.canStep_blot (L : Piece → Bool) (s : State) (k : Nat) (old : Nat) (new : Nat) (h_regs : L .regs = true) (h_ic : L .ic = true) (h_can : L .can = true)  :
    blot L (State.canStep s k old new) = blot L s := by
  unfold State.canStep
  (try simp [h_regs, h_ic, h_can]) <;> repeat' (first | with_reducible rfl | (apply pick_eq) | split | (simp [h_regs, h_ic, h_can]))
@[simp ↓] theorem State.canTakes_blot (L : Piece → Bool) (s : State) (ep : Nat) (tag : Nat) (op : Nat) (run : State → Cmd → State)  (hrun : ∀ x0 x1, blot L (run x0 x1) = blot L x0) :
    blot L (State.canTakes s ep tag op run) = blot L s := by
  unfold State.canTakes
  (try simp [hrun]) <;> repeat' (first | with_reducible rfl | (apply pick_eq) | split | (simp [hrun]))
@[simp ↓] theorem State.canTxDue_blot (L : Piece → Bool) (s : State) (c : Cmd) (h_regs : L .regs = true) (h_mem : L .mem = true) (h_ep : L .ep = true) (h_wg : L .wg = true) (h_ic : L .ic = true) (h_can : L .can = true)  :
    blot L (State.canTxDue s c) = blot L s := by
  unfold State.canTxDue
  (try simp [h_regs, h_mem, h_ep, h_wg, h_ic, h_can]) <;> repeat' (first | with_reducible rfl | (apply pick_eq) | split | (simp [h_regs, h_mem, h_ep, h_wg, h_ic, h_can]))
@[simp ↓] theorem State.cellError_blot (L : Piece → Bool) (s : State) (i : Nat) (h_regs : L .regs = true) (h_ep : L .ep = true) (h_ic : L .ic = true) (h_sw : L .sw = true)  :
    blot L (State.cellError s i) = blot L s := by
  unfold State.cellError
  (try simp [h_regs, h_ep, h_ic, h_sw]) <;> repeat' (first | with_reducible rfl | (apply pick_eq) | split | (simp [h_regs, h_ep, h_ic, h_sw]))
@[simp ↓] theorem State.closeNext_blot (L : Piece → Bool) (s : State) (p : Nat) (records : Nat) (h_now : L .now = true) (h_vt : L .vt = true) (h_ptp : L .ptp = true) (h_cp : L .cp = true)  :
    blot L (State.closeNext s p records) = blot L s := by
  unfold State.closeNext
  (try simp [h_now, h_vt, h_ptp, h_cp]) <;> repeat' (first | with_reducible rfl | (apply pick_eq) | split | (simp [h_now, h_vt, h_ptp, h_cp]))
@[simp ↓] theorem State.coalesce_blot (L : Piece → Bool) (s : State) (n : Nat) (h_now : L .now = true) (h_vt : L .vt = true) (h_ic : L .ic = true) (h_ptp : L .ptp = true)  :
    blot L (State.coalesce s n) = blot L s := by
  unfold State.coalesce
  (try simp [h_now, h_vt, h_ic, h_ptp]) <;> repeat' (first | with_reducible rfl | (apply pick_eq) | split | (simp [h_now, h_vt, h_ic, h_ptp]))
@[simp ↓] theorem State.commitSwitch_blot (L : Piece → Bool) (s : State) (c : Cmd) (n : Nat) (on : Bool) (duty : Nat) (hz : Nat) (mode : Nat) (h_regs : L .regs = true) (h_mem : L .mem = true) (h_ep : L .ep = true) (h_wg : L .wg = true) (h_ic : L .ic = true) (h_kb : L .kb = true)  :
    blot L (State.commitSwitch s c n on duty hz mode) = blot L s := by
  unfold State.commitSwitch
  (try simp [h_regs, h_mem, h_ep, h_wg, h_ic, h_kb]) <;> repeat' (first | with_reducible rfl | (apply pick_eq) | split | (simp [h_regs, h_mem, h_ep, h_wg, h_ic, h_kb]))
@[simp ↓] theorem State.createEp_blot (L : Piece → Bool) (s : State) (d : Nat) (e : Nat) (h_regs : L .regs = true) (h_ep : L .ep = true) (h_kb : L .kb = true) (h_pn : L .pn = true)  :
    blot L (State.createEp s d e) = blot L s := by
  unfold State.createEp
  (try simp [h_regs, h_ep, h_kb, h_pn]) <;> repeat' (first | with_reducible rfl | (apply pick_eq) | split | (simp [h_regs, h_ep, h_kb, h_pn]))
@[simp ↓] theorem State.curfewFailed_blot (L : Piece → Bool) (s : State) (k : Nat) (h_nm : L .nm = true)  :
    blot L (State.curfewFailed s k) = blot L s := by
  unfold State.curfewFailed
  (try simp [h_nm]) <;> repeat' (first | with_reducible rfl | (apply pick_eq) | split | (simp [h_nm]))
@[simp ↓] theorem State.returnCache_blot (L : Piece → Bool) (s : State) (c : Nat) (core : Nat) (h_wg : L .wg = true)  :
    blot L (State.returnCache s c core) = blot L s := by
  unfold State.returnCache
  (try simp [h_wg]) <;> repeat' (first | with_reducible rfl | (apply pick_eq) | split | (simp [h_wg]))
@[simp ↓] theorem State.leaveCall_blot (L : Piece → Bool) (s : State) (core : Nat) (a0 : BitVec 64) (a1 : BitVec 64) (h_wg : L .wg = true)  :
    blot L (State.leaveCall s core a0 a1) = blot L s := by
  unfold State.leaveCall
  (try simp [h_wg]) <;> repeat' (first | with_reducible rfl | (apply pick_eq) | split | (simp [h_wg]))
@[simp ↓] theorem State.forcedEnd_blot (L : Piece → Bool) (s : State) (core : Nat) (code : Nat) (h_regs : L .regs = true) (h_mem : L .mem = true) (h_fresh : L .fresh = true) (h_ep : L .ep = true) (h_wg : L .wg = true) (h_ic : L .ic = true) (h_kb : L .kb = true) (h_pn : L .pn = true) (h_can : L .can = true) (h_sw : L .sw = true) (h_sf : L .sf = true) (h_ks : L .ks = true)  :
    blot L (State.forcedEnd s core code) = blot L s := by
  unfold State.forcedEnd
  (try simp [h_regs, h_mem, h_fresh, h_ep, h_wg, h_ic, h_kb, h_pn, h_can, h_sw, h_sf, h_ks]) <;> repeat' (first | with_reducible rfl | (apply pick_eq) | split | (simp [h_regs, h_mem, h_fresh, h_ep, h_wg, h_ic, h_kb, h_pn, h_can, h_sw, h_sf, h_ks]))
@[simp ↓] theorem State.exception_blot (L : Piece → Bool) (s : State) (core : Nat) (cause : Nat) (h_wg : L .wg = true)  :
    blot L (State.exception s core cause) = blot L s := by
  unfold State.exception
  (try simp [h_wg]) <;> repeat' (first | with_reducible rfl | (apply pick_eq) | split | (simp [h_wg]))
@[simp ↓] theorem State.readyEnd_blot (L : Piece → Bool) (s : State) (core : Nat) (a0 : BitVec 64) (a1 : BitVec 64) (h_regs : L .regs = true) (h_mem : L .mem = true) (h_fresh : L .fresh = true) (h_ep : L .ep = true) (h_wg : L .wg = true) (h_ic : L .ic = true) (h_kb : L .kb = true) (h_pn : L .pn = true) (h_can : L .can = true) (h_sw : L .sw = true) (h_sf : L .sf = true) (h_ks : L .ks = true)  :
    blot L (State.readyEnd s core a0 a1) = blot L s := by
  unfold State.readyEnd
  (try simp [h_regs, h_mem, h_fresh, h_ep, h_wg, h_ic, h_kb, h_pn, h_can, h_sw, h_sf, h_ks]) <;> repeat' (first | with_reducible rfl | (apply pick_eq) | split | (simp [h_regs, h_mem, h_fresh, h_ep, h_wg, h_ic, h_kb, h_pn, h_can, h_sw, h_sf, h_ks]))
@[simp ↓] theorem State.gateLand_blot (L : Piece → Bool) (s : State) (core : Nat) (ctx : HartCtx) (h_wg : L .wg = true)  :
    blot L (State.gateLand s core ctx) = blot L s := by
  unfold State.gateLand
  (try simp [h_wg]) <;> repeat' (first | with_reducible rfl | (apply pick_eq) | split | (simp [h_wg]))
@[simp ↓] theorem State.gateRet_blot (L : Piece → Bool) (s : State) (core : Nat) (a0 : BitVec 64) (a1 : BitVec 64) (h_regs : L .regs = true) (h_mem : L .mem = true) (h_fresh : L .fresh = true) (h_ep : L .ep = true) (h_wg : L .wg = true) (h_ic : L .ic = true) (h_kb : L .kb = true) (h_pn : L .pn = true) (h_can : L .can = true) (h_sw : L .sw = true) (h_sf : L .sf = true) (h_ks : L .ks = true)  :
    blot L (State.gateRet s core a0 a1) = blot L s := by
  unfold State.gateRet
  (try simp [h_regs, h_mem, h_fresh, h_ep, h_wg, h_ic, h_kb, h_pn, h_can, h_sw, h_sf, h_ks]) <;> repeat' (first | with_reducible rfl | (apply pick_eq) | split | (simp [h_regs, h_mem, h_fresh, h_ep, h_wg, h_ic, h_kb, h_pn, h_can, h_sw, h_sf, h_ks]))
@[simp ↓] theorem State.illegalInsn_blot (L : Piece → Bool) (s : State) (core : Nat) (ctx : HartCtx) (h_regs : L .regs = true) (h_mem : L .mem = true) (h_fresh : L .fresh = true) (h_ep : L .ep = true) (h_wg : L .wg = true) (h_ic : L .ic = true) (h_kb : L .kb = true) (h_pn : L .pn = true) (h_can : L .can = true) (h_sw : L .sw = true) (h_sf : L .sf = true) (h_ks : L .ks = true)  :
    blot L (State.illegalInsn s core ctx) = blot L s := by
  unfold State.illegalInsn
  (try simp [h_regs, h_mem, h_fresh, h_ep, h_wg, h_ic, h_kb, h_pn, h_can, h_sw, h_sf, h_ks]) <;> repeat' (first | with_reducible rfl | (apply pick_eq) | split | (simp [h_regs, h_mem, h_fresh, h_ep, h_wg, h_ic, h_kb, h_pn, h_can, h_sw, h_sf, h_ks]))
@[simp ↓] theorem State.cutOff_blot (L : Piece → Bool) (s : State) (n : Nat) (h_regs : L .regs = true) (h_kb : L .kb = true)  :
    blot L (State.cutOff s n) = blot L s := by
  unfold State.cutOff
  (try simp [h_regs, h_kb]) <;> repeat' (first | with_reducible rfl | (apply pick_eq) | split | (simp [h_regs, h_kb]))
@[simp ↓] theorem State.cyException_blot (L : Piece → Bool) (s : State) (core : Nat) (why : CyEvent) (h_regs : L .regs = true) (h_mem : L .mem = true) (h_fresh : L .fresh = true) (h_ep : L .ep = true) (h_wg : L .wg = true) (h_ic : L .ic = true) (h_kb : L .kb = true) (h_pn : L .pn = true) (h_can : L .can = true) (h_sw : L .sw = true) (h_sf : L .sf = true) (h_ks : L .ks = true)  :
    blot L (State.cyException s core why) = blot L s := by
  unfold State.cyException
  (repeat' split) <;> (try with_reducible rfl) <;> (try simp [h_regs, h_mem, h_fresh, h_ep, h_wg, h_ic, h_kb, h_pn, h_can, h_sw, h_sf, h_ks]) <;> (repeat' (first | with_reducible rfl | (apply pick_eq) | split | (simp [h_regs, h_mem, h_fresh, h_ep, h_wg, h_ic, h_kb, h_pn, h_can, h_sw, h_sf, h_ks])))
@[simp ↓] theorem State.decideTake_blot (L : Piece → Bool) (s : State) (cause : Nat) (n : Nat) (last : Option TwinChan) (h_ux : L .ux = true)  :
    blot L (State.decideTake s cause n last) = blot L s := by
  unfold State.decideTake
  (try simp [h_ux]) <;> repeat' (first | with_reducible rfl | (apply pick_eq) | split | (simp [h_ux]))
@[simp ↓] theorem State.decideAll_blot (L : Piece → Bool) (s : State) (cause : Nat) (h_ux : L .ux = true)  :
    blot L (State.decideAll s cause) = blot L s := by
  unfold State.decideAll
  (try simp [h_ux]) <;> repeat' (first | with_reducible rfl | (apply pick_eq) | split | (simp [h_ux]))
@[simp ↓] theorem State.delayParity_blot (L : Piece → Bool) (s : State) (p : Nat) (h_regs : L .regs = true) (h_mem : L .mem = true) (h_fresh : L .fresh = true) (h_ep : L .ep = true) (h_wg : L .wg = true) (h_ic : L .ic = true) (h_kb : L .kb = true) (h_pn : L .pn = true) (h_can : L .can = true) (h_sw : L .sw = true) (h_sf : L .sf = true) (h_cp : L .cp = true) (h_ks : L .ks = true)  :
    blot L (State.delayParity s p) = blot L s := by
  unfold State.delayParity
  (try simp [h_regs, h_mem, h_fresh, h_ep, h_wg, h_ic, h_kb, h_pn, h_can, h_sw, h_sf, h_cp, h_ks]) <;> repeat' (first | with_reducible rfl | (apply pick_eq) | split | (simp [h_regs, h_mem, h_fresh, h_ep, h_wg, h_ic, h_kb, h_pn, h_can, h_sw, h_sf, h_cp, h_ks]))
@[simp ↓] theorem State.deliver_blot (L : Piece → Bool) (s : State) (c : Cmd) (k : SwCopy) (f : SwFrame) (h_regs : L .regs = true) (h_mem : L .mem = true) (h_ep : L .ep = true) (h_wg : L .wg = true) (h_ic : L .ic = true) (h_sw : L .sw = true)  :
    blot L (State.deliver s c k f) = blot L s := by
  unfold State.deliver
  (try simp [h_regs, h_mem, h_ep, h_wg, h_ic, h_sw]) <;> repeat' (first | with_reducible rfl | (apply pick_eq) | split | (simp [h_regs, h_mem, h_ep, h_wg, h_ic, h_sw]))
@[simp ↓] theorem State.diagFault_blot (L : Piece → Bool) (s : State) (n : Nat) (code : Nat) (sticky : Nat) (h_regs : L .regs = true) (h_mem : L .mem = true) (h_ep : L .ep = true) (h_wg : L .wg = true) (h_ic : L .ic = true) (h_kb : L .kb = true)  :
    blot L (State.diagFault s n code sticky) = blot L s := by
  unfold State.diagFault
  (try simp [h_regs, h_mem, h_ep, h_wg, h_ic, h_kb]) <;> repeat' (first | with_reducible rfl | (apply pick_eq) | split | (simp [h_regs, h_mem, h_ep, h_wg, h_ic, h_kb]))
@[simp ↓] theorem State.districtRestart_blot (L : Piece → Bool) (s : State) (d : Nat) (h_regs : L .regs = true) (h_mem : L .mem = true) (h_fresh : L .fresh = true) (h_ep : L .ep = true) (h_wg : L .wg = true) (h_ic : L .ic = true) (h_kb : L .kb = true) (h_pn : L .pn = true) (h_can : L .can = true) (h_sw : L .sw = true) (h_sf : L .sf = true) (h_ks : L .ks = true)  :
    blot L (State.districtRestart s d) = blot L s := by
  unfold State.districtRestart
  (try simp [h_regs, h_mem, h_fresh, h_ep, h_wg, h_ic, h_kb, h_pn, h_can, h_sw, h_sf, h_ks]) <;> repeat' (first | with_reducible rfl | (apply pick_eq) | split | (simp [h_regs, h_mem, h_fresh, h_ep, h_wg, h_ic, h_kb, h_pn, h_can, h_sw, h_sf, h_ks]))
@[simp ↓] theorem State.dmaQueue_blot (L : Piece → Bool) (s : State) (p : Nat) (set : Nat) (data : List Byte) (stamp : Nat) (h_sw : L .sw = true)  :
    blot L (State.dmaQueue s p set data stamp) = blot L s := by
  unfold State.dmaQueue
  (try simp [h_sw]) <;> repeat' (first | with_reducible rfl | (apply pick_eq) | split | (simp [h_sw]))
@[simp ↓] theorem State.escalate_blot (L : Piece → Bool) (s : State) (d : Nat) (h_sf : L .sf = true)  :
    blot L (State.escalate s d) = blot L s := by
  unfold State.escalate
  (try simp [h_sf]) <;> repeat' (first | with_reducible rfl | (apply pick_eq) | split | (simp [h_sf]))
@[simp ↓] theorem State.outcome_blot (L : Piece → Bool) (s : State) (d : Nat) (k : Nat) (out : Nat) (h_regs : L .regs = true) (h_ic : L .ic = true) (h_sf : L .sf = true)  :
    blot L (State.outcome s d k out) = blot L s := by
  unfold State.outcome
  (try simp [h_regs, h_ic, h_sf]) <;> repeat' (first | with_reducible rfl | (apply pick_eq) | split | (simp [h_regs, h_ic, h_sf]))
@[simp ↓] theorem State.sleepBusy_blot (L : Piece → Bool) (s : State) (h_regs : L .regs = true) (h_ao : L .ao = true)  :
    blot L (State.sleepBusy s) = blot L s := by
  unfold State.sleepBusy
  (try simp [h_regs, h_ao]) <;> repeat' (first | with_reducible rfl | (apply pick_eq) | split | (simp [h_regs, h_ao]))
@[simp ↓] theorem State.drainTimeout_blot (L : Piece → Bool) (s : State) (h_now : L .now = true) (h_vt : L .vt = true) (h_regs : L .regs = true) (h_ao : L .ao = true) (h_ptp : L .ptp = true)  :
    blot L (State.drainTimeout s) = blot L s := by
  unfold State.drainTimeout
  (try simp [h_now, h_vt, h_regs, h_ao, h_ptp]) <;> repeat' (first | with_reducible rfl | (apply pick_eq) | split | (simp [h_now, h_vt, h_regs, h_ao, h_ptp]))
@[simp ↓] theorem State.dropFrame_blot (L : Piece → Bool) (s : State) (f : SwFrame) (h_regs : L .regs = true) (h_ep : L .ep = true) (h_sw : L .sw = true)  :
    blot L (State.dropFrame s f) = blot L s := by
  unfold State.dropFrame
  (try simp [h_regs, h_ep, h_sw]) <;> repeat' (first | with_reducible rfl | (apply pick_eq) | split | (simp [h_regs, h_ep, h_sw]))
@[simp ↓] theorem State.dropNp_blot (L : Piece → Bool) (s : State) (k : Nat) (h_ux : L .ux = true)  :
    blot L (State.dropNp s k) = blot L s := by
  unfold State.dropNp
  (try simp [h_ux]) <;> repeat' (first | with_reducible rfl | (apply pick_eq) | split | (simp [h_ux]))
@[simp ↓] theorem State.dropOversize_blot (L : Piece → Bool) (s : State) (fuel : Nat) (h_regs : L .regs = true) (h_ep : L .ep = true) (h_ic : L .ic = true) (h_sw : L .sw = true)  :
    blot L (State.dropOversize s fuel) = blot L s := by
  induction fuel generalizing s with
  | zero => unfold State.dropOversize; rfl
  | succ m ih => unfold State.dropOversize; (repeat' split) <;> (try simp [h_regs, h_ep, h_ic, h_sw, ih])
@[simp ↓] theorem State.setDeficit_blot (L : Piece → Bool) (s : State) (p : Nat) (e : Nat) (n : Nat) (h_ep : L .ep = true) (h_sw : L .sw = true)  :
    blot L (State.setDeficit s p e n) = blot L s := by
  unfold State.setDeficit
  (try simp [h_ep, h_sw]) <;> repeat' (first | with_reducible rfl | (apply pick_eq) | split | (simp [h_ep, h_sw]))
@[simp ↓] theorem State.lineClass_blot (L : Piece → Bool) (s : State) (i : Nat) (c : Option Nat) (h_regs : L .regs = true)  :
    blot L (State.lineClass s i c) = blot L s := by
  unfold State.lineClass
  (try simp [h_regs]) <;> repeat' (first | with_reducible rfl | (apply pick_eq) | split | (simp [h_regs]))
@[simp ↓] theorem State.dspClassify_blot (L : Piece → Bool) (s : State) (d : Nat) (mv : Int) (h_regs : L .regs = true) (h_ao : L .ao = true)  :
    blot L (State.dspClassify s d mv) = blot L s := by
  unfold State.dspClassify
  (try simp [h_regs, h_ao]) <;> repeat' (first | with_reducible rfl | (apply pick_eq) | split | (simp [h_regs, h_ao]))
@[simp ↓] theorem State.dspEvent_blot (L : Piece → Bool) (s : State) (d : Nat) (c : Nat) (h_regs : L .regs = true) (h_ic : L .ic = true)  :
    blot L (State.dspEvent s d c) = blot L s := by
  unfold State.dspEvent
  (try simp [h_regs, h_ic]) <;> repeat' (first | with_reducible rfl | (apply pick_eq) | split | (simp [h_regs, h_ic]))
@[simp ↓] theorem State.dspLink_blot (L : Piece → Bool) (s : State) (d : Nat) (up : Bool) (h_regs : L .regs = true)  :
    blot L (State.dspLink s d up) = blot L s := by
  unfold State.dspLink
  (try simp [h_regs]) <;> repeat' (first | with_reducible rfl | (apply pick_eq) | split | (simp [h_regs]))
@[simp ↓] theorem State.dspStep_blot (L : Piece → Bool) (s : State) (d : Nat) (h_sf : L .sf = true)  :
    blot L (State.dspStep s d) = blot L s := by
  unfold State.dspStep
  (try simp [h_sf]) <;> repeat' (first | with_reducible rfl | (apply pick_eq) | split | (simp [h_sf]))
@[simp ↓] theorem State.goodEnd_blot (L : Piece → Bool) (s : State) (f : SwFrame) (h_regs : L .regs = true) (h_ep : L .ep = true) (h_ic : L .ic = true) (h_sw : L .sw = true)  :
    blot L (State.goodEnd s f) = blot L s := by
  unfold State.goodEnd
  (try simp [h_regs, h_ep, h_ic, h_sw]) <;> repeat' (first | with_reducible rfl | (apply pick_eq) | split | (simp [h_regs, h_ep, h_ic, h_sw]))
@[simp ↓] theorem State.sendSlice_blot (L : Piece → Bool) (s : State) (d : Nat) (h_sf : L .sf = true)  :
    blot L (State.sendSlice s d) = blot L s := by
  unfold State.sendSlice
  (try simp [h_sf]) <;> repeat' (first | with_reducible rfl | (apply pick_eq) | split | (simp [h_sf]))
@[simp ↓] theorem State.finishFrame_blot (L : Piece → Bool) (s : State) (d : Nat) (h_regs : L .regs = true) (h_sf : L .sf = true)  :
    blot L (State.finishFrame s d) = blot L s := by
  unfold State.finishFrame
  (try simp [h_regs, h_sf]) <;> repeat' (first | with_reducible rfl | (apply pick_eq) | split | (simp [h_regs, h_sf]))
@[simp ↓] theorem State.endFrame_blot (L : Piece → Bool) (s : State) (c : Nat) (h_regs : L .regs = true) (h_sf : L .sf = true)  :
    blot L (State.endFrame s c) = blot L s := by
  unfold State.endFrame
  (try simp [h_regs, h_sf]) <;> repeat' (first | with_reducible rfl | (apply pick_eq) | split | (simp [h_regs, h_sf]))
@[simp ↓] theorem State.endpointGone_blot (L : Piece → Bool) (s : State) (e : Nat) (h_regs : L .regs = true) (h_mem : L .mem = true) (h_fresh : L .fresh = true) (h_ep : L .ep = true) (h_wg : L .wg = true) (h_ic : L .ic = true) (h_pn : L .pn = true) (h_can : L .can = true) (h_sw : L .sw = true) (h_sf : L .sf = true) (h_ks : L .ks = true)  :
    blot L (State.endpointGone s e) = blot L s := by
  unfold State.endpointGone
  (try simp [h_regs, h_mem, h_fresh, h_ep, h_wg, h_ic, h_pn, h_can, h_sw, h_sf, h_ks]) <;> repeat' (first | with_reducible rfl | (apply pick_eq) | split | (simp [h_regs, h_mem, h_fresh, h_ep, h_wg, h_ic, h_pn, h_can, h_sw, h_sf, h_ks]))
@[simp ↓] theorem State.ethDetected_blot (L : Piece → Bool) (s : State) (p : Nat) (h_regs : L .regs = true) (h_ic : L .ic = true) (h_nm : L .nm = true)  :
    blot L (State.ethDetected s p) = blot L s := by
  unfold State.ethDetected
  (try simp [h_regs, h_ic, h_nm]) <;> repeat' (first | with_reducible rfl | (apply pick_eq) | split | (simp [h_regs, h_ic, h_nm]))
@[simp ↓] theorem State.ethDiag_blot (L : Piece → Bool) (s : State) (p : Nat) (a : Int) (b : Int) (h_regs : L .regs = true)  :
    blot L (State.ethDiag s p a b) = blot L s := by
  unfold State.ethDiag
  (try simp [h_regs]) <;> repeat' (first | with_reducible rfl | (apply pick_eq) | split | (simp [h_regs]))
@[simp ↓] theorem State.ethEnters_blot (L : Piece → Bool) (s : State) (p : Nat) (h_regs : L .regs = true) (h_ep : L .ep = true) (h_ic : L .ic = true) (h_sw : L .sw = true)  :
    blot L (State.ethEnters s p) = blot L s := by
  unfold State.ethEnters
  (try simp [h_regs, h_ep, h_ic, h_sw]) <;> repeat' (first | with_reducible rfl | (apply pick_eq) | split | (simp [h_regs, h_ep, h_ic, h_sw]))
@[simp ↓] theorem State.ethRefused_blot (L : Piece → Bool) (s : State) (p : Nat) (h_now : L .now = true) (h_vt : L .vt = true) (h_regs : L .regs = true) (h_ptp : L .ptp = true)  :
    blot L (State.ethRefused s p) = blot L s := by
  unfold State.ethRefused
  (try simp [h_now, h_vt, h_regs, h_ptp]) <;> repeat' (first | with_reducible rfl | (apply pick_eq) | split | (simp [h_now, h_vt, h_regs, h_ptp]))
@[simp ↓] theorem State.faultBoundary_blot (L : Piece → Bool) (s : State) (c : Nat) (h_regs : L .regs = true) (h_ic : L .ic = true) (h_sf : L .sf = true)  :
    blot L (State.faultBoundary s c) = blot L s := by
  unfold State.faultBoundary
  (try simp [h_regs, h_ic, h_sf]) <;> repeat' (first | with_reducible rfl | (apply pick_eq) | split | (simp [h_regs, h_ic, h_sf]))
@[simp ↓] theorem State.faultOutDiag_blot (L : Piece → Bool) (s : State) (ua : Nat) (mv : Int) (h_regs : L .regs = true) (h_ao : L .ao = true)  :
    blot L (State.faultOutDiag s ua mv) = blot L s := by
  unfold State.faultOutDiag
  (try simp [h_regs, h_ao]) <;> repeat' (first | with_reducible rfl | (apply pick_eq) | split | (simp [h_regs, h_ao]))
@[simp ↓] theorem State.fdbAge_blot (L : Piece → Bool) (s : State) (mac : Nat) (vid : Nat) (h_now : L .now = true) (h_vt : L .vt = true) (h_sw : L .sw = true) (h_ptp : L .ptp = true)  :
    blot L (State.fdbAge s mac vid) = blot L s := by
  unfold State.fdbAge
  (try simp [h_now, h_vt, h_sw, h_ptp]) <;> repeat' (first | with_reducible rfl | (apply pick_eq) | split | (simp [h_now, h_vt, h_sw, h_ptp]))
@[simp ↓] theorem State.fillView_blot (L : Piece → Bool) (s : State) (i : Nat) (h_sf : L .sf = true)  :
    blot L (State.fillView s i) = blot L s := by
  unfold State.fillView
  (try simp [h_sf]) <;> repeat' (first | with_reducible rfl | (apply pick_eq) | split | (simp [h_sf]))
@[simp ↓] theorem State.setAbsent_blot (L : Piece → Bool) (s : State) (absent : Bool) (h_regs : L .regs = true) (h_ic : L .ic = true) (h_sf : L .sf = true)  :
    blot L (State.setAbsent s absent) = blot L s := by
  unfold State.setAbsent
  (try simp [h_regs, h_ic, h_sf]) <;> repeat' (first | with_reducible rfl | (apply pick_eq) | split | (simp [h_regs, h_ic, h_sf]))
@[simp ↓] theorem State.forceBoundary_blot (L : Piece → Bool) (s : State) (d : Nat) (h_regs : L .regs = true) (h_ic : L .ic = true) (h_sf : L .sf = true)  :
    blot L (State.forceBoundary s d) = blot L s := by
  unfold State.forceBoundary
  (try simp [h_regs, h_ic, h_sf]) <;> repeat' (first | with_reducible rfl | (apply pick_eq) | split | (simp [h_regs, h_ic, h_sf]))
@[simp ↓] theorem State.tapCommit_blot (L : Piece → Bool) (s : State) (i : Nat) (k : Nat) (h_regs : L .regs = true) (h_mem : L .mem = true) (h_ep : L .ep = true) (h_wg : L .wg = true) (h_ic : L .ic = true) (h_sf : L .sf = true)  :
    blot L (State.tapCommit s i k) = blot L s := by
  unfold State.tapCommit
  (try simp [h_regs, h_mem, h_ep, h_wg, h_ic, h_sf]) <;> repeat' (first | with_reducible rfl | (apply pick_eq) | split | (simp [h_regs, h_mem, h_ep, h_wg, h_ic, h_sf]))
@[simp ↓] theorem State.swapCommit_blot (L : Piece → Bool) (s : State) (i : Nat) (h_regs : L .regs = true) (h_mem : L .mem = true) (h_ep : L .ep = true) (h_wg : L .wg = true) (h_ic : L .ic = true) (h_sf : L .sf = true)  :
    blot L (State.swapCommit s i) = blot L s := by
  unfold State.swapCommit
  (try simp [h_regs, h_mem, h_ep, h_wg, h_ic, h_sf]) <;> repeat' (first | with_reducible rfl | (apply pick_eq) | split | (simp [h_regs, h_mem, h_ep, h_wg, h_ic, h_sf]))
@[simp ↓] theorem State.shopFetch_blot (L : Piece → Bool) (s : State) (a : Nat) (n : Nat) (h_regs : L .regs = true) (h_mem : L .mem = true) (h_resp : L .resp = true) (h_wg : L .wg = true) (h_ic : L .ic = true) (h_cp : L .cp = true)  :
    blot L (State.shopFetch s a n).1 = blot L s := by
  unfold State.shopFetch
  (try simp [h_regs, h_mem, h_resp, h_wg, h_ic, h_cp]) <;> repeat' (first | with_reducible rfl | (apply pick_eq) | split | (simp [h_regs, h_mem, h_resp, h_wg, h_ic, h_cp]))
@[simp ↓] theorem State.ovlHeader_blot (L : Piece → Bool) (s : State) (j : Nat) (h_regs : L .regs = true) (h_mem : L .mem = true) (h_resp : L .resp = true) (h_wg : L .wg = true) (h_ic : L .ic = true) (h_sf : L .sf = true) (h_cp : L .cp = true)  :
    blot L (State.ovlHeader s j) = blot L s := by
  unfold State.ovlHeader
  (try simp [h_regs, h_mem, h_resp, h_wg, h_ic, h_sf, h_cp]) <;> repeat' (first | with_reducible rfl | (apply pick_eq) | split | (simp [h_regs, h_mem, h_resp, h_wg, h_ic, h_sf, h_cp]))
@[simp ↓] theorem State.ovlCommit_blot (L : Piece → Bool) (s : State) (j : Nat) (h_regs : L .regs = true) (h_mem : L .mem = true) (h_ep : L .ep = true) (h_wg : L .wg = true) (h_ic : L .ic = true) (h_sf : L .sf = true)  :
    blot L (State.ovlCommit s j) = blot L s := by
  unfold State.ovlCommit
  (try simp [h_regs, h_mem, h_ep, h_wg, h_ic, h_sf]) <;> repeat' (first | with_reducible rfl | (apply pick_eq) | split | (simp [h_regs, h_mem, h_ep, h_wg, h_ic, h_sf]))
@[simp ↓] theorem State.setRxSa_blot (L : Piece → Bool) (s : State) (p : Nat) (sc : Nat) (an : Nat) (x : Option MsSa) (h_sw : L .sw = true)  :
    blot L (State.setRxSa s p sc an x) = blot L s := by
  unfold State.setRxSa
  (try simp [h_sw]) <;> repeat' (first | with_reducible rfl | (apply pick_eq) | split | (simp [h_sw]))
@[simp ↓] theorem State.msValidate_blot (L : Piece → Bool) (s : State) (p : Nat) (bs : List Byte) (h_sw : L .sw = true)  :
    blot L (State.msValidate s p bs).2 = blot L s := by
  unfold State.msValidate
  (try simp [h_sw]) <;> repeat' (first | with_reducible rfl | (apply pick_eq) | split | (simp [h_sw]))
@[simp ↓] theorem State.lockLost_blot (L : Piece → Bool) (s : State) (c : Nat) (h_regs : L .regs = true) (h_ic : L .ic = true) (h_sf : L .sf = true)  :
    blot L (State.lockLost s c) = blot L s := by
  unfold State.lockLost
  (try simp [h_regs, h_ic, h_sf]) <;> repeat' (first | with_reducible rfl | (apply pick_eq) | split | (simp [h_regs, h_ic, h_sf]))
@[simp ↓] theorem State.frameEndPacket_blot (L : Piece → Bool) (s : State) (c : Nat) (h_regs : L .regs = true) (h_ic : L .ic = true) (h_sf : L .sf = true)  :
    blot L (State.frameEndPacket s c) = blot L s := by
  unfold State.frameEndPacket
  (try simp [h_regs, h_ic, h_sf]) <;> repeat' (first | with_reducible rfl | (apply pick_eq) | split | (simp [h_regs, h_ic, h_sf]))
@[simp ↓] theorem State.frameSent_blot (L : Piece → Bool) (s : State) (m : Nat) (h_now : L .now = true) (h_vt : L .vt = true) (h_regs : L .regs = true) (h_ic : L .ic = true) (h_can : L .can = true) (h_ptp : L .ptp = true) (h_nm : L .nm = true)  :
    blot L (State.frameSent s m) = blot L s := by
  unfold State.frameSent
  (try simp [h_now, h_vt, h_regs, h_ic, h_can, h_ptp, h_nm]) <;> repeat' (first | with_reducible rfl | (apply pick_eq) | split | (simp [h_now, h_vt, h_regs, h_ic, h_can, h_ptp, h_nm]))
@[simp ↓] theorem State.frerReset_blot (L : Piece → Bool) (s : State) (h : Nat) (h_now : L .now = true) (h_vt : L .vt = true) (h_ic : L .ic = true) (h_sw : L .sw = true) (h_ptp : L .ptp = true)  :
    blot L (State.frerReset s h) = blot L s := by
  unfold State.frerReset
  (try simp [h_now, h_vt, h_ic, h_sw, h_ptp]) <;> repeat' (first | with_reducible rfl | (apply pick_eq) | split | (simp [h_now, h_vt, h_ic, h_sw, h_ptp]))
@[simp ↓] theorem State.gwyEvent_blot (L : Piece → Bool) (s : State) (c : Nat) (h_regs : L .regs = true) (h_ic : L .ic = true)  :
    blot L (State.gwyEvent s c) = blot L s := by
  unfold State.gwyEvent
  (try simp [h_regs, h_ic]) <;> repeat' (first | with_reducible rfl | (apply pick_eq) | split | (simp [h_regs, h_ic]))
@[simp ↓] theorem State.gwyFailed_blot (L : Piece → Bool) (s : State) (k : Nat) (h_regs : L .regs = true) (h_can : L .can = true)  :
    blot L (State.gwyFailed s k) = blot L s := by
  unfold State.gwyFailed
  (try simp [h_regs, h_can]) <;> repeat' (first | with_reducible rfl | (apply pick_eq) | split | (simp [h_regs, h_can]))
@[simp ↓] theorem State.gwyPush_blot (L : Piece → Bool) (s : State) (k : Nat) (m : GwyMsg) (h_regs : L .regs = true) (h_ic : L .ic = true) (h_can : L .can = true)  :
    blot L (State.gwyPush s k m) = blot L s := by
  unfold State.gwyPush
  (try simp [h_regs, h_ic, h_can]) <;> repeat' (first | with_reducible rfl | (apply pick_eq) | split | (simp [h_regs, h_ic, h_can]))
@[simp ↓] theorem State.gwyMessage_blot (L : Piece → Bool) (s : State) (stream : Nat) (m : List Byte) (h_regs : L .regs = true) (h_ic : L .ic = true) (h_can : L .can = true)  :
    blot L (State.gwyMessage s stream m) = blot L s := by
  unfold State.gwyMessage
  (try simp [h_regs, h_ic, h_can]) <;> repeat' (first | with_reducible rfl | (apply pick_eq) | split | (simp [h_regs, h_ic, h_can]))
@[simp ↓] theorem State.twinGone_blot (L : Piece → Bool) (s : State) (h_regs : L .regs = true) (h_resp : L .resp = true) (h_wg : L .wg = true) (h_ic : L .ic = true) (h_ux : L .ux = true)  :
    blot L (State.twinGone s) = blot L s := by
  unfold State.twinGone
  (try simp [h_regs, h_resp, h_wg, h_ic, h_ux]) <;> repeat' (first | with_reducible rfl | (apply pick_eq) | split | (simp [h_regs, h_resp, h_wg, h_ic, h_ux]))
@[simp ↓] theorem State.setTwin_blot (L : Piece → Bool) (s : State) (st : Nat) (h_regs : L .regs = true) (h_resp : L .resp = true) (h_wg : L .wg = true) (h_ic : L .ic = true) (h_ux : L .ux = true)  :
    blot L (State.setTwin s st) = blot L s := by
  unfold State.setTwin
  (repeat' split) <;> (try with_reducible rfl) <;> (try simp [h_regs, h_resp, h_wg, h_ic, h_ux]) <;> (repeat' (first | with_reducible rfl | (apply pick_eq) | split | (simp [h_regs, h_resp, h_wg, h_ic, h_ux])))
@[simp ↓] theorem State.heartbeatTaken_blot (L : Piece → Bool) (s : State) (h : Heartbeat) (h_regs : L .regs = true) (h_resp : L .resp = true) (h_wg : L .wg = true) (h_ic : L .ic = true) (h_ux : L .ux = true)  :
    blot L (State.heartbeatTaken s h) = blot L s := by
  unfold State.heartbeatTaken
  (try simp [h_regs, h_resp, h_wg, h_ic, h_ux]) <;> repeat' (first | with_reducible rfl | (apply pick_eq) | split | (simp [h_regs, h_resp, h_wg, h_ic, h_ux]))
@[simp ↓] theorem State.heartbeatReceived_blot (L : Piece → Bool) (s : State) (h : Heartbeat) (h_regs : L .regs = true) (h_resp : L .resp = true) (h_wg : L .wg = true) (h_ic : L .ic = true) (h_ux : L .ux = true)  :
    blot L (State.heartbeatReceived s h) = blot L s := by
  unfold State.heartbeatReceived
  (try simp [h_regs, h_resp, h_wg, h_ic, h_ux]) <;> repeat' (first | with_reducible rfl | (apply pick_eq) | split | (simp [h_regs, h_resp, h_wg, h_ic, h_ux]))
@[simp ↓] theorem State.heartbeatSend_blot (L : Piece → Bool) (s : State) (h_now : L .now = true) (h_vt : L .vt = true) (h_ptp : L .ptp = true) (h_ux : L .ux = true)  :
    blot L (State.heartbeatSend s) = blot L s := by
  unfold State.heartbeatSend
  (try simp [h_now, h_vt, h_ptp, h_ux]) <;> repeat' (first | with_reducible rfl | (apply pick_eq) | split | (simp [h_now, h_vt, h_ptp, h_ux]))
@[simp ↓] theorem State.i2cDone_blot (L : Piece → Bool) (s : State) (c : Nat) (result : Nat) (data : Nat) (h_now : L .now = true) (h_vt : L .vt = true) (h_regs : L .regs = true) (h_ptp : L .ptp = true)  :
    blot L (State.i2cDone s c result data) = blot L s := by
  unfold State.i2cDone
  (try simp [h_now, h_vt, h_regs, h_ptp]) <;> repeat' (first | with_reducible rfl | (apply pick_eq) | split | (simp [h_now, h_vt, h_regs, h_ptp]))
@[simp ↓] theorem State.ignLevel_blot (L : Piece → Bool) (s : State) (mv : Int) (h_regs : L .regs = true)  :
    blot L (State.ignLevel s mv) = blot L s := by
  unfold State.ignLevel
  (try simp [h_regs]) <;> repeat' (first | with_reducible rfl | (apply pick_eq) | split | (simp [h_regs]))
@[simp ↓] theorem State.ignDiag_blot (L : Piece → Bool) (s : State) (mv : Int) (h_regs : L .regs = true)  :
    blot L (State.ignDiag s mv) = blot L s := by
  unfold State.ignDiag
  (try simp [h_regs]) <;> repeat' (first | with_reducible rfl | (apply pick_eq) | split | (simp [h_regs]))
@[simp ↓] theorem State.setWakeIn_blot (L : Piece → Bool) (s : State) (k : Nat) (w : WakeIn) (h_ao : L .ao = true)  :
    blot L (State.setWakeIn s k w) = blot L s := by
  unfold State.setWakeIn
  (try simp [h_ao]) <;> repeat' (first | with_reducible rfl | (apply pick_eq) | split | (simp [h_ao]))
@[simp ↓] theorem State.inAnswer_blot (L : Piece → Bool) (s : State) (w : Nat) (posted : Option Nat) (h_ux : L .ux = true)  :
    blot L (State.inAnswer s w posted) = blot L s := by
  unfold State.inAnswer
  (try simp [h_ux]) <;> repeat' (first | with_reducible rfl | (apply pick_eq) | split | (simp [h_ux]))
@[simp ↓] theorem State.inDenied_blot (L : Piece → Bool) (s : State) (code : Nat) (posted : Option Nat) (h_regs : L .regs = true) (h_ux : L .ux = true)  :
    blot L (State.inDenied s code posted) = blot L s := by
  unfold State.inDenied
  (repeat' split) <;> (try with_reducible rfl) <;> (try simp [h_regs, h_ux]) <;> (repeat' (first | with_reducible rfl | (apply pick_eq) | split | (simp [h_regs, h_ux])))
@[simp ↓] theorem State.inRelease_blot (L : Piece → Bool) (s : State) (k : Nat) (district : Nat) (h_regs : L .regs = true) (h_ic : L .ic = true) (h_ux : L .ux = true)  :
    blot L (State.inRelease s k district) = blot L s := by
  unfold State.inRelease
  (try simp [h_regs, h_ic, h_ux]) <;> repeat' (first | with_reducible rfl | (apply pick_eq) | split | (simp [h_regs, h_ic, h_ux]))
@[simp ↓] theorem State.inSem_blot (L : Piece → Bool) (s : State) (k : Nat) (district : Nat) (h_ux : L .ux = true)  :
    blot L (State.inSem s k district) = blot L s := by
  unfold State.inSem
  (try simp [h_ux]) <;> repeat' (first | with_reducible rfl | (apply pick_eq) | split | (simp [h_ux]))
@[simp ↓] theorem State.txDecided_blot (L : Piece → Bool) (s : State) (f : InjFrame) (n : Nat) (h_regs : L .regs = true) (h_mem : L .mem = true) (h_ep : L .ep = true) (h_wg : L .wg = true) (h_ic : L .ic = true)  :
    blot L (State.txDecided s f n) = blot L s := by
  unfold State.txDecided
  (try simp [h_regs, h_mem, h_ep, h_wg, h_ic]) <;> repeat' (first | with_reducible rfl | (apply pick_eq) | split | (simp [h_regs, h_mem, h_ep, h_wg, h_ic]))
@[simp ↓] theorem State.matched_blot (L : Piece → Bool) (s : State) (first : Bool) (r : Req) (h_regs : L .regs = true) (h_ep : L .ep = true) (h_ic : L .ic = true) (h_sw : L .sw = true)  :
    blot L (State.matched s first r) = blot L s := by
  unfold State.matched
  (try simp [h_regs, h_ep, h_ic, h_sw]) <;> repeat' (first | with_reducible rfl | (apply pick_eq) | split | (simp [h_regs, h_ep, h_ic, h_sw]))
@[simp ↓] theorem State.iterate_blot (L : Piece → Bool) (s : State) (first : Bool) (h_regs : L .regs = true) (h_ep : L .ep = true) (h_ic : L .ic = true) (h_sw : L .sw = true)  :
    blot L (State.iterate s first) = blot L s := by
  unfold State.iterate
  (try simp [h_regs, h_ep, h_ic, h_sw]) <;> repeat' (first | with_reducible rfl | (apply pick_eq) | split | (simp [h_regs, h_ep, h_ic, h_sw]))
@[simp ↓] theorem State.setAs_blot (L : Piece → Bool) (s : State) (v : Nat) (h_regs : L .regs = true)  :
    blot L (State.setAs s v) = blot L s := by
  unfold State.setAs
  (try simp [h_regs]) <;> repeat' (first | with_reducible rfl | (apply pick_eq) | split | (simp [h_regs]))
@[simp ↓] theorem State.judgeOffset_blot (L : Piece → Bool) (s : State) (o : Int) (h_regs : L .regs = true) (h_ptp : L .ptp = true)  :
    blot L (State.judgeOffset s o) = blot L s := by
  unfold State.judgeOffset
  (try simp [h_regs, h_ptp]) <;> repeat' (first | with_reducible rfl | (apply pick_eq) | split | (simp [h_regs, h_ptp]))
@[simp ↓] theorem State.kerbLost_blot (L : Piece → Bool) (s : State) (h_kb : L .kb = true)  :
    blot L (State.kerbLost s) = blot L s := by
  unfold State.kerbLost
  (try simp [h_kb]) <;> repeat' (first | with_reducible rfl | (apply pick_eq) | split | (simp [h_kb]))
@[simp ↓] theorem State.kerbTakes_blot (L : Piece → Bool) (s : State) (ep : Nat) (tag : Nat) (op : Nat) (run : State → Cmd → State) (h_mem : L .mem = true) (h_ep : L .ep = true) (h_wg : L .wg = true) (h_ic : L .ic = true) (hrun : ∀ x0 x1, blot L (run x0 x1) = blot L x0) :
    blot L (State.kerbTakes s ep tag op run) = blot L s := by
  unfold State.kerbTakes
  (try simp [h_mem, h_ep, h_wg, h_ic, hrun]) <;> repeat' (first | with_reducible rfl | (apply pick_eq) | split | (simp [h_mem, h_ep, h_wg, h_ic, hrun]))
@[simp ↓] theorem State.restoreHeld_blot (L : Piece → Bool) (s : State) (outs : List Nat) (n : Nat) (h_regs : L .regs = true) (h_kb : L .kb = true)  :
    blot L (State.restoreHeld s outs n) = blot L s := by
  unfold State.restoreHeld
  (try simp [h_regs, h_kb]) <;> repeat' (first | with_reducible rfl | (apply pick_eq) | split | (simp [h_regs, h_kb]))
@[simp ↓] theorem State.showHousing_blot (L : Piece → Bool) (s : State) (h_regs : L .regs = true)  :
    blot L (State.showHousing s) = blot L s := by
  unfold State.showHousing
  (try simp [h_regs]) <;> repeat' (first | with_reducible rfl | (apply pick_eq) | split | (simp [h_regs]))
@[simp ↓] theorem State.kerbUp_blot (L : Piece → Bool) (s : State) (ambient : Nat) (pElec : Nat) (h_regs : L .regs = true) (h_ic : L .ic = true) (h_kb : L .kb = true)  :
    blot L (State.kerbUp s ambient pElec) = blot L s := by
  unfold State.kerbUp
  (try simp [h_regs, h_ic, h_kb]) <;> repeat' (first | with_reducible rfl | (apply pick_eq) | split | (simp [h_regs, h_ic, h_kb]))
@[simp ↓] theorem State.keyEnd_blot (L : Piece → Bool) (s : State) (c : Cmd) (code : Nat) (detail : Nat) (h_regs : L .regs = true) (h_mem : L .mem = true) (h_fresh : L .fresh = true) (h_ep : L .ep = true) (h_wg : L .wg = true) (h_ic : L .ic = true) (h_ks : L .ks = true)  :
    blot L (State.keyEnd s c code detail) = blot L s := by
  unfold State.keyEnd
  (try simp [h_regs, h_mem, h_fresh, h_ep, h_wg, h_ic, h_ks]) <;> repeat' (first | with_reducible rfl | (apply pick_eq) | split | (simp [h_regs, h_mem, h_fresh, h_ep, h_wg, h_ic, h_ks]))
@[simp ↓] theorem State.unlocked_blot (L : Piece → Bool) (s : State) (h_regs : L .regs = true) (h_mem : L .mem = true) (h_wg : L .wg = true) (h_ic : L .ic = true) (h_ks : L .ks = true)  :
    blot L (State.unlocked s) = blot L s := by
  unfold State.unlocked
  (try simp [h_regs, h_mem, h_wg, h_ic, h_ks]) <;> repeat' (first | with_reducible rfl | (apply pick_eq) | split | (simp [h_regs, h_mem, h_wg, h_ic, h_ks]))
@[simp ↓] theorem State.unlockOp_blot (L : Piece → Bool) (s : State) (c : Cmd) (token : List Byte) (h_regs : L .regs = true) (h_mem : L .mem = true) (h_fresh : L .fresh = true) (h_ep : L .ep = true) (h_wg : L .wg = true) (h_ic : L .ic = true) (h_ks : L .ks = true)  :
    blot L (State.unlockOp s c token) = blot L s := by
  unfold State.unlockOp
  (try simp [h_regs, h_mem, h_fresh, h_ep, h_wg, h_ic, h_ks]) <;> repeat' (first | with_reducible rfl | (apply pick_eq) | split | (simp [h_regs, h_mem, h_fresh, h_ep, h_wg, h_ic, h_ks]))
@[simp ↓] theorem State.keyResult_blot (L : Piece → Bool) (s : State) (k : KeyOp) (c : Cmd) (h_regs : L .regs = true) (h_mem : L .mem = true) (h_fresh : L .fresh = true) (h_ep : L .ep = true) (h_wg : L .wg = true) (h_ic : L .ic = true) (h_ks : L .ks = true)  :
    blot L (State.keyResult s k c) = blot L s := by
  unfold State.keyResult
  (try simp [h_regs, h_mem, h_fresh, h_ep, h_wg, h_ic, h_ks]) <;> repeat' (first | with_reducible rfl | (apply pick_eq) | split | (simp [h_regs, h_mem, h_fresh, h_ep, h_wg, h_ic, h_ks]))
@[simp ↓] theorem State.keyTakes_blot (L : Piece → Bool) (s : State) (ep : Nat) (tag : Nat) (op : Nat) (h_regs : L .regs = true) (h_mem : L .mem = true) (h_fresh : L .fresh = true) (h_ep : L .ep = true) (h_wg : L .wg = true) (h_ic : L .ic = true) (h_ks : L .ks = true)  :
    blot L (State.keyTakes s ep tag op) = blot L s := by
  unfold State.keyTakes
  (try simp [h_regs, h_mem, h_fresh, h_ep, h_wg, h_ic, h_ks]) <;> repeat' (first | with_reducible rfl | (apply pick_eq) | split | (simp [h_regs, h_mem, h_fresh, h_ep, h_wg, h_ic, h_ks]))
@[simp ↓] theorem State.ksSleep_blot (L : Piece → Bool) (s : State) (h_ks : L .ks = true)  :
    blot L (State.ksSleep s) = blot L s := by
  unfold State.ksSleep
  (try simp [h_ks]) <;> repeat' (first | with_reducible rfl | (apply pick_eq) | split | (simp [h_ks]))
@[simp ↓] theorem State.limpSend_blot (L : Piece → Bool) (s : State) (m : Nat) (h_now : L .now = true) (h_vt : L .vt = true) (h_ptp : L .ptp = true) (h_nm : L .nm = true)  :
    blot L (State.limpSend s m) = blot L s := by
  unfold State.limpSend
  (try simp [h_now, h_vt, h_ptp, h_nm]) <;> repeat' (first | with_reducible rfl | (apply pick_eq) | split | (simp [h_now, h_vt, h_ptp, h_nm]))
@[simp ↓] theorem State.linCount_blot (L : Piece → Bool) (s : State) (l : Nat) (c : Nat) (h_regs : L .regs = true) (h_ic : L .ic = true)  :
    blot L (State.linCount s l c) = blot L s := by
  unfold State.linCount
  (try simp [h_regs, h_ic]) <;> repeat' (first | with_reducible rfl | (apply pick_eq) | split | (simp [h_regs, h_ic]))
@[simp ↓] theorem State.linBitError_blot (L : Piece → Bool) (s : State) (l : Nat) (h_regs : L .regs = true) (h_ic : L .ic = true) (h_pn : L .pn = true)  :
    blot L (State.linBitError s l) = blot L s := by
  unfold State.linBitError
  (try simp [h_regs, h_ic, h_pn]) <;> repeat' (first | with_reducible rfl | (apply pick_eq) | split | (simp [h_regs, h_ic, h_pn]))
@[simp ↓] theorem State.linCommit_blot (L : Piece → Bool) (s : State) (l : Nat) (p : Nat × Nat × LinFrom) (h_regs : L .regs = true) (h_mem : L .mem = true) (h_ep : L .ep = true) (h_wg : L .wg = true) (h_ic : L .ic = true) (h_pn : L .pn = true)  :
    blot L (State.linCommit s l p) = blot L s := by
  unfold State.linCommit
  (try simp [h_regs, h_mem, h_ep, h_wg, h_ic, h_pn]) <;> repeat' (first | with_reducible rfl | (apply pick_eq) | split | (simp [h_regs, h_mem, h_ep, h_wg, h_ic, h_pn]))
@[simp ↓] theorem State.linGot_blot (L : Piece → Bool) (s : State) (l : Nat) (id : Nat) (c : Cmd) (h_mem : L .mem = true) (h_ep : L .ep = true) (h_wg : L .wg = true) (h_ic : L .ic = true)  :
    blot L (State.linGot s l id c) = blot L s := by
  unfold State.linGot
  (try simp [h_mem, h_ep, h_wg, h_ic]) <;> repeat' (first | with_reducible rfl | (apply pick_eq) | split | (simp [h_mem, h_ep, h_wg, h_ic]))
@[simp ↓] theorem State.linHeader_blot (L : Piece → Bool) (s : State) (l : Nat) (h_regs : L .regs = true) (h_pn : L .pn = true)  :
    blot L (State.linHeader s l) = blot L s := by
  unfold State.linHeader
  (try simp [h_regs, h_pn]) <;> repeat' (first | with_reducible rfl | (apply pick_eq) | split | (simp [h_regs, h_pn]))
@[simp ↓] theorem State.linTimedOut_blot (L : Piece → Bool) (s : State) (l : Nat) (h_regs : L .regs = true) (h_mem : L .mem = true) (h_ep : L .ep = true) (h_wg : L .wg = true) (h_ic : L .ic = true) (h_pn : L .pn = true)  :
    blot L (State.linTimedOut s l) = blot L s := by
  unfold State.linTimedOut
  (try simp [h_regs, h_mem, h_ep, h_wg, h_ic, h_pn]) <;> repeat' (first | with_reducible rfl | (apply pick_eq) | split | (simp [h_regs, h_mem, h_ep, h_wg, h_ic, h_pn]))
@[simp ↓] theorem State.setLinData_blot (L : Piece → Bool) (s : State) (l : Nat) (id : Nat) (v : Nat) (h_regs : L .regs = true)  :
    blot L (State.setLinData s l id v) = blot L s := by
  unfold State.setLinData
  (try simp [h_regs]) <;> repeat' (first | with_reducible rfl | (apply pick_eq) | split | (simp [h_regs]))
@[simp ↓] theorem State.linResponse_blot (L : Piece → Bool) (s : State) (l : Nat) (data : Nat) (sum : Nat) (h_regs : L .regs = true) (h_mem : L .mem = true) (h_ep : L .ep = true) (h_wg : L .wg = true) (h_ic : L .ic = true) (h_pn : L .pn = true)  :
    blot L (State.linResponse s l data sum) = blot L s := by
  unfold State.linResponse
  (try simp [h_regs, h_mem, h_ep, h_wg, h_ic, h_pn]) <;> repeat' (first | with_reducible rfl | (apply pick_eq) | split | (simp [h_regs, h_mem, h_ep, h_wg, h_ic, h_pn]))
@[simp ↓] theorem State.linSchedTakes_blot (L : Piece → Bool) (s : State) (ep : Nat) (tag : Nat) (op : Nat) (h_regs : L .regs = true) (h_mem : L .mem = true) (h_ep : L .ep = true) (h_wg : L .wg = true) (h_ic : L .ic = true) (h_pn : L .pn = true)  :
    blot L (State.linSchedTakes s ep tag op) = blot L s := by
  unfold State.linSchedTakes
  (try simp [h_regs, h_mem, h_ep, h_wg, h_ic, h_pn]) <;> repeat' (first | with_reducible rfl | (apply pick_eq) | split | (simp [h_regs, h_mem, h_ep, h_wg, h_ic, h_pn]))
@[simp ↓] theorem State.lineCrc_blot (L : Piece → Bool) (s : State) (c : Nat) (crc : Bool) (h_regs : L .regs = true) (h_ic : L .ic = true) (h_sf : L .sf = true)  :
    blot L (State.lineCrc s c crc) = blot L s := by
  unfold State.lineCrc
  (try simp [h_regs, h_ic, h_sf]) <;> repeat' (first | with_reducible rfl | (apply pick_eq) | split | (simp [h_regs, h_ic, h_sf]))
@[simp ↓] theorem State.setLine_blot (L : Piece → Bool) (s : State) (key : Nat) (l : CamLine) (h_sf : L .sf = true)  :
    blot L (State.setLine s key l) = blot L s := by
  unfold State.setLine
  (try simp [h_sf]) <;> repeat' (first | with_reducible rfl | (apply pick_eq) | split | (simp [h_sf]))
@[simp ↓] theorem State.viewEvent_blot (L : Piece → Bool) (s : State) (i : Nat) (c : Nat) (h_regs : L .regs = true) (h_ic : L .ic = true)  :
    blot L (State.viewEvent s i c) = blot L s := by
  unfold State.viewEvent
  (try simp [h_regs, h_ic]) <;> repeat' (first | with_reducible rfl | (apply pick_eq) | split | (simp [h_regs, h_ic]))
@[simp ↓] theorem State.lineTest_blot (L : Piece → Bool) (s : State) (n : Nat) (opened : Bool) (gnd : Bool) (pass : Bool) (h_regs : L .regs = true) (h_mem : L .mem = true) (h_ep : L .ep = true) (h_wg : L .wg = true) (h_ic : L .ic = true) (h_pn : L .pn = true)  :
    blot L (State.lineTest s n opened gnd pass) = blot L s := by
  unfold State.lineTest
  (try simp [h_regs, h_mem, h_ep, h_wg, h_ic, h_pn]) <;> repeat' (first | with_reducible rfl | (apply pick_eq) | split | (simp [h_regs, h_mem, h_ep, h_wg, h_ic, h_pn]))
@[simp ↓] theorem State.pairDone_blot (L : Piece → Bool) (s : State) (p : Nat) (c : Nat) (h_regs : L .regs = true) (h_ic : L .ic = true)  :
    blot L (State.pairDone s p c) = blot L s := by
  unfold State.pairDone
  (try simp [h_regs, h_ic]) <;> repeat' (first | with_reducible rfl | (apply pick_eq) | split | (simp [h_regs, h_ic]))
@[simp ↓] theorem State.lockDone_blot (L : Piece → Bool) (s : State) (p : Nat) (h_regs : L .regs = true) (h_wg : L .wg = true) (h_ic : L .ic = true) (h_cp : L .cp = true)  :
    blot L (State.lockDone s p) = blot L s := by
  unfold State.lockDone
  (try simp [h_regs, h_wg, h_ic, h_cp]) <;> repeat' (first | with_reducible rfl | (apply pick_eq) | split | (simp [h_regs, h_wg, h_ic, h_cp]))
@[simp ↓] theorem State.lrExpiry_blot (L : Piece → Bool) (s : State) (k : Nat) (h_now : L .now = true) (h_vt : L .vt = true) (h_ptp : L .ptp = true) (h_ux : L .ux = true)  :
    blot L (State.lrExpiry s k) = blot L s := by
  unfold State.lrExpiry
  (try simp [h_now, h_vt, h_ptp, h_ux]) <;> repeat' (first | with_reducible rfl | (apply pick_eq) | split | (simp [h_now, h_vt, h_ptp, h_ux]))
@[simp ↓] theorem State.runCreate_blot (L : Piece → Bool) (s : State) (o : EpOp) (h_regs : L .regs = true) (h_mem : L .mem = true) (h_ep : L .ep = true) (h_wg : L .wg = true) (h_kb : L .kb = true) (h_pn : L .pn = true)  :
    blot L (State.runCreate s o) = blot L s := by
  unfold State.runCreate
  (try simp [h_regs, h_mem, h_ep, h_wg, h_kb, h_pn]) <;> repeat' (first | with_reducible rfl | (apply pick_eq) | split | (simp [h_regs, h_mem, h_ep, h_wg, h_kb, h_pn]))
@[simp ↓] theorem State.runDestroy_blot (L : Piece → Bool) (s : State) (o : EpOp) (h_regs : L .regs = true) (h_mem : L .mem = true) (h_fresh : L .fresh = true) (h_ep : L .ep = true) (h_wg : L .wg = true) (h_ic : L .ic = true) (h_pn : L .pn = true) (h_can : L .can = true) (h_sw : L .sw = true) (h_sf : L .sf = true) (h_ks : L .ks = true)  :
    blot L (State.runDestroy s o) = blot L s := by
  unfold State.runDestroy
  (try simp [h_regs, h_mem, h_fresh, h_ep, h_wg, h_ic, h_pn, h_can, h_sw, h_sf, h_ks]) <;> repeat' (first | with_reducible rfl | (apply pick_eq) | split | (simp [h_regs, h_mem, h_fresh, h_ep, h_wg, h_ic, h_pn, h_can, h_sw, h_sf, h_ks]))
@[simp ↓] theorem State.trimCredits_blot (L : Piece → Bool) (s : State) (l : List Cmd) (h_regs : L .regs = true) (h_mem : L .mem = true) (h_fresh : L .fresh = true) (h_ep : L .ep = true) (h_wg : L .wg = true) (h_ic : L .ic = true) (h_pn : L .pn = true) (h_can : L .can = true) (h_sw : L .sw = true) (h_sf : L .sf = true) (h_ks : L .ks = true)  :
    blot L (State.trimCredits s l).1 = blot L s := by
  induction l generalizing s with
  | nil => unfold State.trimCredits; rfl
  | cons x rest ih => unfold State.trimCredits; (repeat' split) <;> (try simp [h_regs, h_mem, h_fresh, h_ep, h_wg, h_ic, h_pn, h_can, h_sw, h_sf, h_ks, ih])
@[simp ↓] theorem State.runQuery_blot (L : Piece → Bool) (s : State) (o : EpOp) (h_regs : L .regs = true) (h_mem : L .mem = true) (h_ep : L .ep = true) (h_wg : L .wg = true)  :
    blot L (State.runQuery s o) = blot L s := by
  unfold State.runQuery
  (try simp [h_regs, h_mem, h_ep, h_wg]) <;> repeat' (first | with_reducible rfl | (apply pick_eq) | split | (simp [h_regs, h_mem, h_ep, h_wg]))
@[simp ↓] theorem State.runPinResident_blot (L : Piece → Bool) (s : State) (o : EpOp) (h_regs : L .regs = true) (h_mem : L .mem = true) (h_ep : L .ep = true) (h_wg : L .wg = true) (h_ic : L .ic = true)  :
    blot L (State.runPinResident s o) = blot L s := by
  unfold State.runPinResident
  (try simp [h_regs, h_mem, h_ep, h_wg, h_ic]) <;> repeat' (first | with_reducible rfl | (apply pick_eq) | split | (simp [h_regs, h_mem, h_ep, h_wg, h_ic]))
@[simp ↓] theorem State.stage_blot (L : Piece → Bool) (s : State) (bs : List Byte) (h_regs : L .regs = true)  :
    blot L (State.stage s bs) = blot L s := by
  unfold State.stage
  (try simp [h_regs]) <;> repeat' (first | with_reducible rfl | (apply pick_eq) | split | (simp [h_regs]))
@[simp ↓] theorem State.memErr_blot (L : Piece → Bool) (s : State) (who : Who) (k : AccessKind) (a : Nat) (err : MemErr) (h_regs : L .regs = true) (h_wg : L .wg = true) (h_ic : L .ic = true)  :
    blot L (State.memErr s who k a err) = blot L s := by
  unfold State.memErr
  (try simp [h_regs, h_wg, h_ic]) <;> repeat' (first | with_reducible rfl | (apply pick_eq) | split | (simp [h_regs, h_wg, h_ic]))
@[simp ↓] theorem State.stampStep_blot (L : Piece → Bool) (s : State) (delta : Int) (h_sf : L .sf = true)  :
    blot L (State.stampStep s delta) = blot L s := by
  unfold State.stampStep
  (try simp [h_sf]) <;> repeat' (first | with_reducible rfl | (apply pick_eq) | split | (simp [h_sf]))
@[simp ↓] theorem State.mirrorStep_blot (L : Piece → Bool) (s : State) (delta : Int) (h_sf : L .sf = true)  :
    blot L (State.mirrorStep s delta) = blot L s := by
  unfold State.mirrorStep
  (try simp [h_sf]) <;> repeat' (first | with_reducible rfl | (apply pick_eq) | split | (simp [h_sf]))
@[simp ↓] theorem State.monitorAbsent_blot (L : Piece → Bool) (s : State) (h_now : L .now = true) (h_vt : L .vt = true) (h_regs : L .regs = true) (h_ic : L .ic = true) (h_ptp : L .ptp = true) (h_sf : L .sf = true)  :
    blot L (State.monitorAbsent s) = blot L s := by
  unfold State.monitorAbsent
  (try simp [h_now, h_vt, h_regs, h_ic, h_ptp, h_sf]) <;> repeat' (first | with_reducible rfl | (apply pick_eq) | split | (simp [h_now, h_vt, h_regs, h_ic, h_ptp, h_sf]))
@[simp ↓] theorem State.moveCell_blot (L : Piece → Bool) (s : State) (k : Nat × Nat) (h_regs : L .regs = true) (h_ep : L .ep = true) (h_ic : L .ic = true) (h_sw : L .sw = true)  :
    blot L (State.moveCell s k) = blot L s := by
  unfold State.moveCell
  (try simp [h_regs, h_ep, h_ic, h_sw]) <;> repeat' (first | with_reducible rfl | (apply pick_eq) | split | (simp [h_regs, h_ep, h_ic, h_sw]))
@[simp ↓] theorem State.netTx_blot (L : Piece → Bool) (s : State) (c : Cmd) (h_regs : L .regs = true) (h_mem : L .mem = true) (h_ep : L .ep = true) (h_wg : L .wg = true) (h_ic : L .ic = true) (h_sw : L .sw = true)  :
    blot L (State.netTx s c) = blot L s := by
  unfold State.netTx
  (try simp [h_regs, h_mem, h_ep, h_wg, h_ic, h_sw]) <;> repeat' (first | with_reducible rfl | (apply pick_eq) | split | (simp [h_regs, h_mem, h_ep, h_wg, h_ic, h_sw]))
@[simp ↓] theorem State.npAnswer_blot (L : Piece → Bool) (s : State) (k : Nat) (ans : NpAnswer) (h_regs : L .regs = true) (h_resp : L .resp = true) (h_wg : L .wg = true) (h_ic : L .ic = true) (h_ux : L .ux = true)  :
    blot L (State.npAnswer s k ans) = blot L s := by
  unfold State.npAnswer
  (try simp [h_regs, h_resp, h_wg, h_ic, h_ux]) <;> repeat' (first | with_reducible rfl | (apply pick_eq) | split | (simp [h_regs, h_resp, h_wg, h_ic, h_ux]))
@[simp ↓] theorem State.npTimeout_blot (L : Piece → Bool) (s : State) (k : Nat) (h_now : L .now = true) (h_vt : L .vt = true) (h_regs : L .regs = true) (h_resp : L .resp = true) (h_wg : L .wg = true) (h_ic : L .ic = true) (h_ptp : L .ptp = true) (h_ux : L .ux = true)  :
    blot L (State.npTimeout s k) = blot L s := by
  unfold State.npTimeout
  (try simp [h_now, h_vt, h_regs, h_resp, h_wg, h_ic, h_ptp, h_ux]) <;> repeat' (first | with_reducible rfl | (apply pick_eq) | split | (simp [h_now, h_vt, h_regs, h_resp, h_wg, h_ic, h_ptp, h_ux]))
@[simp ↓] theorem State.report_blot (L : Piece → Bool) (s : State) (n : Nat) (f : Fld) (b : Bool) (code : Nat) (sticky : Nat) (h_regs : L .regs = true) (h_mem : L .mem = true) (h_ep : L .ep = true) (h_wg : L .wg = true) (h_ic : L .ic = true)  :
    blot L (State.report s n f b code sticky) = blot L s := by
  unfold State.report
  (try simp [h_regs, h_mem, h_ep, h_wg, h_ic]) <;> repeat' (first | with_reducible rfl | (apply pick_eq) | split | (simp [h_regs, h_mem, h_ep, h_wg, h_ic]))
@[simp ↓] theorem State.testResult_blot (L : Piece → Bool) (s : State) (n : Nat) (fail : Bool) (f : Fld) (code : Nat) (sticky : Nat) (fails : Nat) (passes : Nat) (h_regs : L .regs = true) (h_mem : L .mem = true) (h_ep : L .ep = true) (h_wg : L .wg = true) (h_ic : L .ic = true)  :
    blot L (State.testResult s n fail f code sticky fails passes) = blot L s := by
  unfold State.testResult
  (try simp [h_regs, h_mem, h_ep, h_wg, h_ic]) <;> repeat' (first | with_reducible rfl | (apply pick_eq) | split | (simp [h_regs, h_mem, h_ep, h_wg, h_ic]))
@[simp ↓] theorem State.offTest_blot (L : Piece → Bool) (s : State) (n : Nat) (p1a : Nat) (p1b : Nat) (p2 : Nat) (h_regs : L .regs = true) (h_mem : L .mem = true) (h_ep : L .ep = true) (h_wg : L .wg = true) (h_ic : L .ic = true) (h_kb : L .kb = true)  :
    blot L (State.offTest s n p1a p1b p2) = blot L s := by
  unfold State.offTest
  (try simp [h_regs, h_mem, h_ep, h_wg, h_ic, h_kb]) <;> repeat' (first | with_reducible rfl | (apply pick_eq) | split | (simp [h_regs, h_mem, h_ep, h_wg, h_ic, h_kb]))
@[simp ↓] theorem State.parkedKeeps_blot (L : Piece → Bool) (s : State) (h_regs : L .regs = true) (h_ao : L .ao = true)  :
    blot L (State.parkedKeeps s) = blot L s := by
  unfold State.parkedKeeps
  (try simp [h_regs, h_ao]) <;> repeat' (first | with_reducible rfl | (apply pick_eq) | split | (simp [h_regs, h_ao]))
@[simp ↓] theorem State.pdelay_blot (L : Piece → Bool) (s : State) (p : Nat) (d : Nat) (h_regs : L .regs = true) (h_ic : L .ic = true) (h_ptp : L .ptp = true)  :
    blot L (State.pdelay s p d) = blot L s := by
  unfold State.pdelay
  (try simp [h_regs, h_ic, h_ptp]) <;> repeat' (first | with_reducible rfl | (apply pick_eq) | split | (simp [h_regs, h_ic, h_ptp]))
@[simp ↓] theorem State.periodCommit_blot (L : Piece → Bool) (s : State) (n : Nat) (h_now : L .now = true) (h_vt : L .vt = true) (h_regs : L .regs = true) (h_mem : L .mem = true) (h_ep : L .ep = true) (h_wg : L .wg = true) (h_ic : L .ic = true) (h_kb : L .kb = true) (h_ptp : L .ptp = true)  :
    blot L (State.periodCommit s n) = blot L s := by
  unfold State.periodCommit
  (try simp [h_now, h_vt, h_regs, h_mem, h_ep, h_wg, h_ic, h_kb, h_ptp]) <;> repeat' (first | with_reducible rfl | (apply pick_eq) | split | (simp [h_now, h_vt, h_regs, h_mem, h_ep, h_wg, h_ic, h_kb, h_ptp]))
@[simp ↓] theorem State.pinTakes_blot (L : Piece → Bool) (s : State) (ep : Nat) (tag : Nat) (op : Nat) (run : State → Cmd → State) (h_mem : L .mem = true) (h_ep : L .ep = true) (h_wg : L .wg = true) (h_ic : L .ic = true) (hrun : ∀ x0 x1, blot L (run x0 x1) = blot L x0) :
    blot L (State.pinTakes s ep tag op run) = blot L s := by
  unfold State.pinTakes
  (try simp [h_mem, h_ep, h_wg, h_ic, hrun]) <;> repeat' (first | with_reducible rfl | (apply pick_eq) | split | (simp [h_mem, h_ep, h_wg, h_ic, hrun]))
@[simp ↓] theorem State.pinTrip_blot (L : Piece → Bool) (s : State) (n : Nat) (bit : Nat) (code : Nat) (h_regs : L .regs = true) (h_mem : L .mem = true) (h_ep : L .ep = true) (h_wg : L .wg = true) (h_ic : L .ic = true) (h_pn : L .pn = true)  :
    blot L (State.pinTrip s n bit code) = blot L s := by
  unfold State.pinTrip
  (try simp [h_regs, h_mem, h_ep, h_wg, h_ic, h_pn]) <;> repeat' (first | with_reducible rfl | (apply pick_eq) | split | (simp [h_regs, h_mem, h_ep, h_wg, h_ic, h_pn]))
@[simp ↓] theorem State.pocDetected_blot (L : Piece → Bool) (s : State) (c : Nat) (code : Nat) (h_regs : L .regs = true) (h_ic : L .ic = true) (h_sf : L .sf = true)  :
    blot L (State.pocDetected s c code) = blot L s := by
  unfold State.pocDetected
  (try simp [h_regs, h_ic, h_sf]) <;> repeat' (first | with_reducible rfl | (apply pick_eq) | split | (simp [h_regs, h_ic, h_sf]))
@[simp ↓] theorem State.pocExternal_blot (L : Piece → Bool) (s : State) (c : Nat) (h_regs : L .regs = true) (h_ic : L .ic = true) (h_sf : L .sf = true)  :
    blot L (State.pocExternal s c) = blot L s := by
  unfold State.pocExternal
  (try simp [h_regs, h_ic, h_sf]) <;> repeat' (first | with_reducible rfl | (apply pick_eq) | split | (simp [h_regs, h_ic, h_sf]))
@[simp ↓] theorem State.pocExternalClear_blot (L : Piece → Bool) (s : State) (c : Nat) (h_regs : L .regs = true) (h_sf : L .sf = true)  :
    blot L (State.pocExternalClear s c) = blot L s := by
  unfold State.pocExternalClear
  (try simp [h_regs, h_sf]) <;> repeat' (first | with_reducible rfl | (apply pick_eq) | split | (simp [h_regs, h_sf]))
@[simp ↓] theorem State.pocOpen_blot (L : Piece → Bool) (s : State) (c : Nat) (ma : Nat) (h_regs : L .regs = true) (h_ic : L .ic = true) (h_sf : L .sf = true)  :
    blot L (State.pocOpen s c ma) = blot L s := by
  unfold State.pocOpen
  (try simp [h_regs, h_ic, h_sf]) <;> repeat' (first | with_reducible rfl | (apply pick_eq) | split | (simp [h_regs, h_ic, h_sf]))
@[simp ↓] theorem State.pocRetry_blot (L : Piece → Bool) (s : State) (c : Nat) (h_now : L .now = true) (h_vt : L .vt = true) (h_regs : L .regs = true) (h_ptp : L .ptp = true)  :
    blot L (State.pocRetry s c) = blot L s := by
  unfold State.pocRetry
  (try simp [h_now, h_vt, h_regs, h_ptp]) <;> repeat' (first | with_reducible rfl | (apply pick_eq) | split | (simp [h_now, h_vt, h_regs, h_ptp]))
@[simp ↓] theorem State.pocShort_blot (L : Piece → Bool) (s : State) (c : Nat) (h_regs : L .regs = true) (h_ic : L .ic = true) (h_sf : L .sf = true)  :
    blot L (State.pocShort s c) = blot L s := by
  unfold State.pocShort
  (try simp [h_regs, h_ic, h_sf]) <;> repeat' (first | with_reducible rfl | (apply pick_eq) | split | (simp [h_regs, h_ic, h_sf]))
@[simp ↓] theorem State.pollChans_blot (L : Piece → Bool) (s : State) (l : List TwinChan) (h_ux : L .ux = true)  :
    blot L (State.pollChans s l) = blot L s := by
  unfold State.pollChans
  (try simp [h_ux]) <;> repeat' (first | with_reducible rfl | (apply pick_eq) | split | (simp [h_ux]))
@[simp ↓] theorem State.pollLayby_blot (L : Piece → Bool) (s : State) (l : List TwinChan) (h_ux : L .ux = true)  :
    blot L (State.pollLayby s l) = blot L s := by
  unfold State.pollLayby
  (try simp [h_ux]) <;> repeat' (first | with_reducible rfl | (apply pick_eq) | split | (simp [h_ux]))
@[simp ↓] theorem State.pollAnswer_blot (L : Piece → Bool) (s : State) (r : PollReply) (h_regs : L .regs = true) (h_resp : L .resp = true) (h_wg : L .wg = true) (h_ic : L .ic = true) (h_ux : L .ux = true)  :
    blot L (State.pollAnswer s r) = blot L s := by
  unfold State.pollAnswer
  (try simp [h_regs, h_resp, h_wg, h_ic, h_ux]) <;> repeat' (first | with_reducible rfl | (apply pick_eq) | split | (simp [h_regs, h_resp, h_wg, h_ic, h_ux]))
@[simp ↓] theorem State.postedError_blot (L : Piece → Bool) (s : State) (seq : Nat) (code : Nat) (h_regs : L .regs = true) (h_ic : L .ic = true) (h_ux : L .ux = true)  :
    blot L (State.postedError s seq code) = blot L s := by
  unfold State.postedError
  (try simp [h_regs, h_ic, h_ux]) <;> repeat' (first | with_reducible rfl | (apply pick_eq) | split | (simp [h_regs, h_ic, h_ux]))
@[simp ↓] theorem State.pwrUp_blot (L : Piece → Bool) (s : State) (ambient : Nat) (pElec : Nat) (h_regs : L .regs = true) (h_mem : L .mem = true) (h_ep : L .ep = true) (h_wg : L .wg = true) (h_ic : L .ic = true) (h_kb : L .kb = true) (h_pn : L .pn = true)  :
    blot L (State.pwrUp s ambient pElec) = blot L s := by
  unfold State.pwrUp
  (try simp [h_regs, h_mem, h_ep, h_wg, h_ic, h_kb, h_pn]) <;> repeat' (first | with_reducible rfl | (apply pick_eq) | split | (simp [h_regs, h_mem, h_ep, h_wg, h_ic, h_kb, h_pn]))
@[simp ↓] theorem State.recUp_blot (L : Piece → Bool) (s : State) (k : Nat) (n : Nat) (h_regs : L .regs = true)  :
    blot L (State.recUp s k n) = blot L s := by
  unfold State.recUp
  (try simp [h_regs]) <;> repeat' (first | with_reducible rfl | (apply pick_eq) | split | (simp [h_regs]))
@[simp ↓] theorem State.reduce_blot (L : Piece → Bool) (s : State) (h_regs : L .regs = true) (h_mem : L .mem = true) (h_ep : L .ep = true) (h_wg : L .wg = true) (h_ic : L .ic = true) (h_sw : L .sw = true) (h_sf : L .sf = true)  :
    blot L (State.reduce s) = blot L s := by
  unfold State.reduce
  (try simp [h_regs, h_mem, h_ep, h_wg, h_ic, h_sw, h_sf]) <;> repeat' (first | with_reducible rfl | (apply pick_eq) | split | (simp [h_regs, h_mem, h_ep, h_wg, h_ic, h_sw, h_sf]))
@[simp ↓] theorem State.refLost_blot (L : Piece → Bool) (s : State) (k : Nat) (h_now : L .now = true) (h_vt : L .vt = true) (h_regs : L .regs = true) (h_ic : L .ic = true) (h_can : L .can = true) (h_ptp : L .ptp = true)  :
    blot L (State.refLost s k) = blot L s := by
  unfold State.refLost
  (try simp [h_now, h_vt, h_regs, h_ic, h_can, h_ptp]) <;> repeat' (first | with_reducible rfl | (apply pick_eq) | split | (simp [h_now, h_vt, h_regs, h_ic, h_can, h_ptp]))
@[simp ↓] theorem State.rejoin_blot (L : Piece → Bool) (s : State) (p : Nat) (h_now : L .now = true) (h_vt : L .vt = true) (h_regs : L .regs = true) (h_ptp : L .ptp = true)  :
    blot L (State.rejoin s p) = blot L s := by
  unfold State.rejoin
  (try simp [h_now, h_vt, h_regs, h_ptp]) <;> repeat' (first | with_reducible rfl | (apply pick_eq) | split | (simp [h_now, h_vt, h_regs, h_ptp]))
@[simp ↓] theorem State.relevelOne_blot (L : Piece → Bool) (s : State) (n : Nat) (h_ic : L .ic = true)  :
    blot L (State.relevelOne s n) = blot L s := by
  unfold State.relevelOne
  (try simp [h_ic]) <;> repeat' (first | with_reducible rfl | (apply pick_eq) | split | (simp [h_ic]))
@[simp ↓] theorem State.replaceCommit_blot (L : Piece → Bool) (s : State) (k : KeyOp) (c : Cmd) (n : Nat) (bad : Bool) (h_regs : L .regs = true) (h_mem : L .mem = true) (h_fresh : L .fresh = true) (h_ep : L .ep = true) (h_wg : L .wg = true) (h_ic : L .ic = true) (h_ks : L .ks = true)  :
    blot L (State.replaceCommit s k c n bad) = blot L s := by
  unfold State.replaceCommit
  (try simp [h_regs, h_mem, h_fresh, h_ep, h_wg, h_ic, h_ks]) <;> repeat' (first | with_reducible rfl | (apply pick_eq) | split | (simp [h_regs, h_mem, h_fresh, h_ep, h_wg, h_ic, h_ks]))
@[simp ↓] theorem State.resizeComplete_blot (L : Piece → Bool) (s : State) (e : Nat) (h_regs : L .regs = true) (h_mem : L .mem = true) (h_ep : L .ep = true) (h_wg : L .wg = true) (h_ic : L .ic = true)  :
    blot L (State.resizeComplete s e) = blot L s := by
  unfold State.resizeComplete
  (try simp [h_regs, h_mem, h_ep, h_wg, h_ic]) <;> repeat' (first | with_reducible rfl | (apply pick_eq) | split | (simp [h_regs, h_mem, h_ep, h_wg, h_ic]))
@[simp ↓] theorem State.restartDone_blot (L : Piece → Bool) (s : State) (p : Nat) (h_regs : L .regs = true) (h_wg : L .wg = true) (h_ic : L .ic = true)  :
    blot L (State.restartDone s p) = blot L s := by
  unfold State.restartDone
  (try simp [h_regs, h_wg, h_ic]) <;> repeat' (first | with_reducible rfl | (apply pick_eq) | split | (simp [h_regs, h_wg, h_ic]))
@[simp ↓] theorem State.restore_blot (L : Piece → Bool) (s : State) (h_regs : L .regs = true) (h_ic : L .ic = true) (h_sw : L .sw = true) (h_sf : L .sf = true)  :
    blot L (State.restore s) = blot L s := by
  unfold State.restore
  (try simp [h_regs, h_ic, h_sw, h_sf]) <;> repeat' (first | with_reducible rfl | (apply pick_eq) | split | (simp [h_regs, h_ic, h_sw, h_sf]))
@[simp ↓] theorem State.sendRing_blot (L : Piece → Bool) (s : State) (m : Nat) (h_nm : L .nm = true)  :
    blot L (State.sendRing s m) = blot L s := by
  unfold State.sendRing
  (try simp [h_nm]) <;> repeat' (first | with_reducible rfl | (apply pick_eq) | split | (simp [h_nm]))
@[simp ↓] theorem State.ringTimer_blot (L : Piece → Bool) (s : State) (m : Nat) (h_now : L .now = true) (h_vt : L .vt = true) (h_regs : L .regs = true) (h_ptp : L .ptp = true) (h_nm : L .nm = true)  :
    blot L (State.ringTimer s m) = blot L s := by
  unfold State.ringTimer
  (try simp [h_now, h_vt, h_regs, h_ptp, h_nm]) <;> repeat' (first | with_reducible rfl | (apply pick_eq) | split | (simp [h_now, h_vt, h_regs, h_ptp, h_nm]))
@[simp ↓] theorem State.runCanSetup_blot (L : Piece → Bool) (s : State) (c : Cmd) (h_regs : L .regs = true) (h_mem : L .mem = true) (h_ep : L .ep = true) (h_wg : L .wg = true) (h_ic : L .ic = true) (h_can : L .can = true)  :
    blot L (State.runCanSetup s c) = blot L s := by
  unfold State.runCanSetup
  (try simp [h_regs, h_mem, h_ep, h_wg, h_ic, h_can]) <;> repeat' (first | with_reducible rfl | (apply pick_eq) | split | (simp [h_regs, h_mem, h_ep, h_wg, h_ic, h_can]))
@[simp ↓] theorem State.runCanTx_blot (L : Piece → Bool) (s : State) (c : Cmd) (h_regs : L .regs = true) (h_mem : L .mem = true) (h_ep : L .ep = true) (h_wg : L .wg = true) (h_ic : L .ic = true) (h_can : L .can = true)  :
    blot L (State.runCanTx s c) = blot L s := by
  unfold State.runCanTx
  (try simp [h_regs, h_mem, h_ep, h_wg, h_ic, h_can]) <;> repeat' (first | with_reducible rfl | (apply pick_eq) | split | (simp [h_regs, h_mem, h_ep, h_wg, h_ic, h_can]))
@[simp ↓] theorem State.runCanRx_blot (L : Piece → Bool) (s : State) (c : Cmd) (h_regs : L .regs = true) (h_mem : L .mem = true) (h_ep : L .ep = true) (h_wg : L .wg = true) (h_ic : L .ic = true)  :
    blot L (State.runCanRx s c) = blot L s := by
  unfold State.runCanRx
  (try simp [h_regs, h_mem, h_ep, h_wg, h_ic]) <;> repeat' (first | with_reducible rfl | (apply pick_eq) | split | (simp [h_regs, h_mem, h_ep, h_wg, h_ic]))
@[simp ↓] theorem State.runCanState_blot (L : Piece → Bool) (s : State) (c : Cmd) (h_mem : L .mem = true) (h_ep : L .ep = true) (h_wg : L .wg = true) (h_ic : L .ic = true)  :
    blot L (State.runCanState s c) = blot L s := by
  unfold State.runCanState
  (try simp [h_mem, h_ep, h_wg, h_ic]) <;> repeat' (first | with_reducible rfl | (apply pick_eq) | split | (simp [h_mem, h_ep, h_wg, h_ic]))
@[simp ↓] theorem State.runCan_blot (L : Piece → Bool) (s : State) (c : Cmd) (h_regs : L .regs = true) (h_mem : L .mem = true) (h_ep : L .ep = true) (h_wg : L .wg = true) (h_ic : L .ic = true) (h_can : L .can = true)  :
    blot L (State.runCan s c) = blot L s := by
  unfold State.runCan
  (try simp [h_regs, h_mem, h_ep, h_wg, h_ic, h_can]) <;> repeat' (first | with_reducible rfl | (apply pick_eq) | split | (simp [h_regs, h_mem, h_ep, h_wg, h_ic, h_can]))
@[simp ↓] theorem State.runDrive_blot (L : Piece → Bool) (s : State) (c : Cmd) (h_regs : L .regs = true) (h_mem : L .mem = true) (h_ep : L .ep = true) (h_wg : L .wg = true) (h_ic : L .ic = true) (h_kb : L .kb = true)  :
    blot L (State.runDrive s c) = blot L s := by
  unfold State.runDrive
  (try simp [h_regs, h_mem, h_ep, h_wg, h_ic, h_kb]) <;> repeat' (first | with_reducible rfl | (apply pick_eq) | split | (simp [h_regs, h_mem, h_ep, h_wg, h_ic, h_kb]))
@[simp ↓] theorem State.runLinGet_blot (L : Piece → Bool) (s : State) (c : Cmd) (h_ep : L .ep = true)  :
    blot L (State.runLinGet s c) = blot L s := by
  unfold State.runLinGet
  (try simp [h_ep]) <;> repeat' (first | with_reducible rfl | (apply pick_eq) | split | (simp [h_ep]))
@[simp ↓] theorem State.runLinPut_blot (L : Piece → Bool) (s : State) (c : Cmd) (h_regs : L .regs = true) (h_mem : L .mem = true) (h_ep : L .ep = true) (h_wg : L .wg = true) (h_ic : L .ic = true)  :
    blot L (State.runLinPut s c) = blot L s := by
  unfold State.runLinPut
  (try simp [h_regs, h_mem, h_ep, h_wg, h_ic]) <;> repeat' (first | with_reducible rfl | (apply pick_eq) | split | (simp [h_regs, h_mem, h_ep, h_wg, h_ic]))
@[simp ↓] theorem State.waits_blot (L : Piece → Bool) (s : State) (c : Cmd) (h_ep : L .ep = true)  :
    blot L (State.waits s c) = blot L s := by
  unfold State.waits
  (try simp [h_ep]) <;> repeat' (first | with_reducible rfl | (apply pick_eq) | split | (simp [h_ep]))
@[simp ↓] theorem State.runMapSwap_blot (L : Piece → Bool) (s : State) (c : Cmd) (h_regs : L .regs = true) (h_mem : L .mem = true) (h_ep : L .ep = true) (h_wg : L .wg = true) (h_ic : L .ic = true) (h_sf : L .sf = true)  :
    blot L (State.runMapSwap s c) = blot L s := by
  unfold State.runMapSwap
  (try simp [h_regs, h_mem, h_ep, h_wg, h_ic, h_sf]) <;> repeat' (first | with_reducible rfl | (apply pick_eq) | split | (simp [h_regs, h_mem, h_ep, h_wg, h_ic, h_sf]))
@[simp ↓] theorem State.runOff_blot (L : Piece → Bool) (s : State) (c : Cmd) (h_regs : L .regs = true) (h_mem : L .mem = true) (h_ep : L .ep = true) (h_wg : L .wg = true) (h_ic : L .ic = true) (h_kb : L .kb = true)  :
    blot L (State.runOff s c) = blot L s := by
  unfold State.runOff
  (try simp [h_regs, h_mem, h_ep, h_wg, h_ic, h_kb]) <;> repeat' (first | with_reducible rfl | (apply pick_eq) | split | (simp [h_regs, h_mem, h_ep, h_wg, h_ic, h_kb]))
@[simp ↓] theorem State.runOn_blot (L : Piece → Bool) (s : State) (c : Cmd) (h_regs : L .regs = true) (h_mem : L .mem = true) (h_ep : L .ep = true) (h_wg : L .wg = true) (h_ic : L .ic = true) (h_kb : L .kb = true)  :
    blot L (State.runOn s c) = blot L s := by
  unfold State.runOn
  (try simp [h_regs, h_mem, h_ep, h_wg, h_ic, h_kb]) <;> repeat' (first | with_reducible rfl | (apply pick_eq) | split | (simp [h_regs, h_mem, h_ep, h_wg, h_ic, h_kb]))
@[simp ↓] theorem State.runOvlSet_blot (L : Piece → Bool) (s : State) (c : Cmd) (h_regs : L .regs = true) (h_mem : L .mem = true) (h_resp : L .resp = true) (h_ep : L .ep = true) (h_wg : L .wg = true) (h_ic : L .ic = true) (h_sf : L .sf = true) (h_cp : L .cp = true)  :
    blot L (State.runOvlSet s c) = blot L s := by
  unfold State.runOvlSet
  (try simp [h_regs, h_mem, h_resp, h_ep, h_wg, h_ic, h_sf, h_cp]) <;> repeat' (first | with_reducible rfl | (apply pick_eq) | split | (simp [h_regs, h_mem, h_resp, h_ep, h_wg, h_ic, h_sf, h_cp]))
@[simp ↓] theorem State.runPan_blot (L : Piece → Bool) (s : State) (c : Cmd) (h_regs : L .regs = true) (h_mem : L .mem = true) (h_ep : L .ep = true) (h_wg : L .wg = true) (h_ic : L .ic = true) (h_sf : L .sf = true)  :
    blot L (State.runPan s c) = blot L s := by
  unfold State.runPan
  (try simp [h_regs, h_mem, h_ep, h_wg, h_ic, h_sf]) <;> repeat' (first | with_reducible rfl | (apply pick_eq) | split | (simp [h_regs, h_mem, h_ep, h_wg, h_ic, h_sf]))
@[simp ↓] theorem State.runPinSet_blot (L : Piece → Bool) (s : State) (c : Cmd) (h_now : L .now = true) (h_vt : L .vt = true) (h_regs : L .regs = true) (h_mem : L .mem = true) (h_ep : L .ep = true) (h_wg : L .wg = true) (h_ic : L .ic = true) (h_pn : L .pn = true) (h_ptp : L .ptp = true)  :
    blot L (State.runPinSet s c) = blot L s := by
  unfold State.runPinSet
  (try simp [h_now, h_vt, h_regs, h_mem, h_ep, h_wg, h_ic, h_pn, h_ptp]) <;> repeat' (first | with_reducible rfl | (apply pick_eq) | split | (simp [h_now, h_vt, h_regs, h_mem, h_ep, h_wg, h_ic, h_pn, h_ptp]))
@[simp ↓] theorem State.runPinRead_blot (L : Piece → Bool) (s : State) (c : Cmd) (h_mem : L .mem = true) (h_ep : L .ep = true) (h_wg : L .wg = true) (h_ic : L .ic = true)  :
    blot L (State.runPinRead s c) = blot L s := by
  unfold State.runPinRead
  (try simp [h_mem, h_ep, h_wg, h_ic]) <;> repeat' (first | with_reducible rfl | (apply pick_eq) | split | (simp [h_mem, h_ep, h_wg, h_ic]))
@[simp ↓] theorem State.runWaitChange_blot (L : Piece → Bool) (s : State) (c : Cmd) (h_mem : L .mem = true) (h_ep : L .ep = true) (h_wg : L .wg = true) (h_ic : L .ic = true)  :
    blot L (State.runWaitChange s c) = blot L s := by
  unfold State.runWaitChange
  (try simp [h_mem, h_ep, h_wg, h_ic]) <;> repeat' (first | with_reducible rfl | (apply pick_eq) | split | (simp [h_mem, h_ep, h_wg, h_ic]))
@[simp ↓] theorem State.runPin_blot (L : Piece → Bool) (s : State) (c : Cmd) (h_now : L .now = true) (h_vt : L .vt = true) (h_regs : L .regs = true) (h_mem : L .mem = true) (h_ep : L .ep = true) (h_wg : L .wg = true) (h_ic : L .ic = true) (h_pn : L .pn = true) (h_ptp : L .ptp = true)  :
    blot L (State.runPin s c) = blot L s := by
  unfold State.runPin
  (try simp [h_now, h_vt, h_regs, h_mem, h_ep, h_wg, h_ic, h_pn, h_ptp]) <;> repeat' (first | with_reducible rfl | (apply pick_eq) | split | (simp [h_now, h_vt, h_regs, h_mem, h_ep, h_wg, h_ic, h_pn, h_ptp]))
@[simp ↓] theorem State.runRead_blot (L : Piece → Bool) (s : State) (c : Cmd) (h_mem : L .mem = true) (h_ep : L .ep = true) (h_wg : L .wg = true) (h_ic : L .ic = true)  :
    blot L (State.runRead s c) = blot L s := by
  unfold State.runRead
  (try simp [h_mem, h_ep, h_wg, h_ic]) <;> repeat' (first | with_reducible rfl | (apply pick_eq) | split | (simp [h_mem, h_ep, h_wg, h_ic]))
@[simp ↓] theorem State.runWaitEvent_blot (L : Piece → Bool) (s : State) (c : Cmd) (h_mem : L .mem = true) (h_ep : L .ep = true) (h_wg : L .wg = true) (h_ic : L .ic = true)  :
    blot L (State.runWaitEvent s c) = blot L s := by
  unfold State.runWaitEvent
  (try simp [h_mem, h_ep, h_wg, h_ic]) <;> repeat' (first | with_reducible rfl | (apply pick_eq) | split | (simp [h_mem, h_ep, h_wg, h_ic]))
@[simp ↓] theorem State.runPwr_blot (L : Piece → Bool) (s : State) (c : Cmd) (h_regs : L .regs = true) (h_mem : L .mem = true) (h_ep : L .ep = true) (h_wg : L .wg = true) (h_ic : L .ic = true) (h_kb : L .kb = true)  :
    blot L (State.runPwr s c) = blot L s := by
  unfold State.runPwr
  (try simp [h_regs, h_mem, h_ep, h_wg, h_ic, h_kb]) <;> repeat' (first | with_reducible rfl | (apply pick_eq) | split | (simp [h_regs, h_mem, h_ep, h_wg, h_ic, h_kb]))
@[simp ↓] theorem State.runTap_blot (L : Piece → Bool) (s : State) (c : Cmd) (h_mem : L .mem = true) (h_ep : L .ep = true) (h_wg : L .wg = true) (h_ic : L .ic = true) (h_sf : L .sf = true)  :
    blot L (State.runTap s c) = blot L s := by
  unfold State.runTap
  (try simp [h_mem, h_ep, h_wg, h_ic, h_sf]) <;> repeat' (first | with_reducible rfl | (apply pick_eq) | split | (simp [h_mem, h_ep, h_wg, h_ic, h_sf]))
@[simp ↓] theorem State.runTimed_blot (L : Piece → Bool) (s : State) (c : Cmd) (h_now : L .now = true) (h_vt : L .vt = true) (h_regs : L .regs = true) (h_mem : L .mem = true) (h_ep : L .ep = true) (h_wg : L .wg = true) (h_ic : L .ic = true) (h_kb : L .kb = true) (h_pn : L .pn = true) (h_can : L .can = true) (h_ptp : L .ptp = true)  :
    blot L (State.runTimed s c) = blot L s := by
  unfold State.runTimed
  (try simp [h_now, h_vt, h_regs, h_mem, h_ep, h_wg, h_ic, h_kb, h_pn, h_can, h_ptp]) <;> repeat' (first | with_reducible rfl | (apply pick_eq) | split | (simp [h_now, h_vt, h_regs, h_mem, h_ep, h_wg, h_ic, h_kb, h_pn, h_can, h_ptp]))
@[simp ↓] theorem State.rxError_blot (L : Piece → Bool) (s : State) (k : Nat) (e : Nat) (eight : Bool) (h_regs : L .regs = true) (h_ic : L .ic = true) (h_can : L .can = true) (h_nm : L .nm = true)  :
    blot L (State.rxError s k e eight) = blot L s := by
  unfold State.rxError
  (try simp [h_regs, h_ic, h_can, h_nm]) <;> repeat' (first | with_reducible rfl | (apply pick_eq) | split | (simp [h_regs, h_ic, h_can, h_nm]))
@[simp ↓] theorem State.sampleChan_blot (L : Piece → Bool) (s : State) (n : Nat) (raw : Nat) (h_regs : L .regs = true) (h_kb : L .kb = true)  :
    blot L (State.sampleChan s n raw) = blot L s := by
  unfold State.sampleChan
  (try simp [h_regs, h_kb]) <;> repeat' (first | with_reducible rfl | (apply pick_eq) | split | (simp [h_regs, h_kb]))
@[simp ↓] theorem State.setFeed_blot (L : Piece → Bool) (s : State) (f : Nat) (x : Feed) (h_kb : L .kb = true)  :
    blot L (State.setFeed s f x) = blot L s := by
  unfold State.setFeed
  (try simp [h_kb]) <;> repeat' (first | with_reducible rfl | (apply pick_eq) | split | (simp [h_kb]))
@[simp ↓] theorem State.sampleFeed_blot (L : Piece → Bool) (s : State) (f : Nat) (mv : Nat) (raw : Nat) (h_regs : L .regs = true) (h_kb : L .kb = true)  :
    blot L (State.sampleFeed s f mv raw) = blot L s := by
  unfold State.sampleFeed
  (try simp [h_regs, h_kb]) <;> repeat' (first | with_reducible rfl | (apply pick_eq) | split | (simp [h_regs, h_kb]))
@[simp ↓] theorem State.sampleLead_blot (L : Piece → Bool) (s : State) (n : Nat) (h_regs : L .regs = true) (h_kb : L .kb = true)  :
    blot L (State.sampleLead s n) = blot L s := by
  unfold State.sampleLead
  (try simp [h_regs, h_kb]) <;> repeat' (first | with_reducible rfl | (apply pick_eq) | split | (simp [h_regs, h_kb]))
@[simp ↓] theorem State.sayLast_blot (L : Piece → Bool) (s : State) (sleep : Bool) (supplyLoss : Bool) (h_ux : L .ux = true)  :
    blot L (State.sayLast s sleep supplyLoss) = blot L s := by
  unfold State.sayLast
  (try simp [h_ux]) <;> repeat' (first | with_reducible rfl | (apply pick_eq) | split | (simp [h_ux]))
@[simp ↓] theorem State.scrub_blot (L : Piece → Bool) (s : State) (a : Nat) (err : Nat) (h_regs : L .regs = true) (h_wg : L .wg = true) (h_ic : L .ic = true)  :
    blot L (State.scrub s a err) = blot L s := by
  unfold State.scrub
  (try simp [h_regs, h_wg, h_ic]) <;> repeat' (first | with_reducible rfl | (apply pick_eq) | split | (simp [h_regs, h_wg, h_ic]))
@[simp ↓] theorem State.setOffset_blot (L : Piece → Bool) (s : State) (o : Int) (h_regs : L .regs = true)  :
    blot L (State.setOffset s o) = blot L s := by
  unfold State.setOffset
  (try simp [h_regs]) <;> repeat' (first | with_reducible rfl | (apply pick_eq) | split | (simp [h_regs]))
@[simp ↓] theorem State.setSent_blot (L : Piece → Bool) (s : State) (p : Nat) (bs : List Byte) (bad : Bool) (h_sw : L .sw = true)  :
    blot L (State.setSent s p bs bad) = blot L s := by
  unfold State.setSent
  (try simp [h_sw]) <;> repeat' (first | with_reducible rfl | (apply pick_eq) | split | (simp [h_sw]))
@[simp ↓] theorem State.setTxSa_blot (L : Piece → Bool) (s : State) (p : Nat) (an : Nat) (x : Option MsSa) (h_sw : L .sw = true)  :
    blot L (State.setTxSa s p an x) = blot L s := by
  unfold State.setTxSa
  (try simp [h_sw]) <;> repeat' (first | with_reducible rfl | (apply pick_eq) | split | (simp [h_sw]))
@[simp ↓] theorem State.setVt_blot (L : Piece → Bool) (s : State) (t : Nat) (h_vt : L .vt = true) (h_regs : L .regs = true) (h_ic : L .ic = true) (h_can : L .can = true) (h_sw : L .sw = true) (h_ptp : L .ptp = true) (h_sf : L .sf = true)  :
    blot L (State.setVt s t) = blot L s := by
  unfold State.setVt
  (try simp [h_vt, h_regs, h_ic, h_can, h_sw, h_ptp, h_sf]) <;> repeat' (first | with_reducible rfl | (apply pick_eq) | split | (simp [h_vt, h_regs, h_ic, h_can, h_sw, h_ptp, h_sf]))
@[simp ↓] theorem State.shedChan_blot (L : Piece → Bool) (s : State) (n : Nat) (h_regs : L .regs = true) (h_mem : L .mem = true) (h_ep : L .ep = true) (h_wg : L .wg = true) (h_ic : L .ic = true) (h_kb : L .kb = true)  :
    blot L (State.shedChan s n) = blot L s := by
  unfold State.shedChan
  (try simp [h_regs, h_mem, h_ep, h_wg, h_ic, h_kb]) <;> repeat' (first | with_reducible rfl | (apply pick_eq) | split | (simp [h_regs, h_mem, h_ep, h_wg, h_ic, h_kb]))
@[simp ↓] theorem State.shedFor_blot (L : Piece → Bool) (s : State) (t : Nat) (h_regs : L .regs = true) (h_mem : L .mem = true) (h_ep : L .ep = true) (h_wg : L .wg = true) (h_ic : L .ic = true) (h_kb : L .kb = true)  :
    blot L (State.shedFor s t) = blot L s := by
  unfold State.shedFor
  (try simp [h_regs, h_mem, h_ep, h_wg, h_ic, h_kb]) <;> repeat' (first | with_reducible rfl | (apply pick_eq) | split | (simp [h_regs, h_mem, h_ep, h_wg, h_ic, h_kb]))
@[simp ↓] theorem State.sidebandPoll_blot (L : Piece → Bool) (s : State) (h_now : L .now = true) (h_vt : L .vt = true) (h_ptp : L .ptp = true) (h_ux : L .ux = true)  :
    blot L (State.sidebandPoll s) = blot L s := by
  unfold State.sidebandPoll
  (try simp [h_now, h_vt, h_ptp, h_ux]) <;> repeat' (first | with_reducible rfl | (apply pick_eq) | split | (simp [h_now, h_vt, h_ptp, h_ux]))
@[simp ↓] theorem State.skipTimeout_blot (L : Piece → Bool) (s : State) (m : Nat) (h_now : L .now = true) (h_vt : L .vt = true) (h_regs : L .regs = true) (h_ic : L .ic = true) (h_ptp : L .ptp = true) (h_nm : L .nm = true)  :
    blot L (State.skipTimeout s m) = blot L s := by
  unfold State.skipTimeout
  (repeat' split) <;> (try with_reducible rfl) <;> (try simp [h_now, h_vt, h_regs, h_ic, h_ptp, h_nm]) <;> (repeat' (first | with_reducible rfl | (apply pick_eq) | split | (simp [h_now, h_vt, h_regs, h_ic, h_ptp, h_nm])))
@[simp ↓] theorem State.sleepCommit_blot (L : Piece → Bool) (s : State) (h_dev : L .dev = true) (h_regs : L .regs = true) (h_mem : L .mem = true) (h_shadows : L .shadows = true) (h_ao : L .ao = true) (h_ep : L .ep = true) (h_wg : L .wg = true) (h_ic : L .ic = true) (h_kb : L .kb = true) (h_pn : L .pn = true) (h_can : L .can = true) (h_sw : L .sw = true) (h_ptp : L .ptp = true) (h_nm : L .nm = true) (h_sf : L .sf = true) (h_cp : L .cp = true) (h_ks : L .ks = true) (h_up : L .up = true) (h_ux : L .ux = true)  :
    blot L (State.sleepCommit s) = blot L s := by
  unfold State.sleepCommit
  (try simp [h_dev, h_regs, h_mem, h_shadows, h_ao, h_ep, h_wg, h_ic, h_kb, h_pn, h_can, h_sw, h_ptp, h_nm, h_sf, h_cp, h_ks, h_up, h_ux]) <;> repeat' (first | with_reducible rfl | (apply pick_eq) | split | (simp [h_dev, h_regs, h_mem, h_shadows, h_ao, h_ep, h_wg, h_ic, h_kb, h_pn, h_can, h_sw, h_ptp, h_nm, h_sf, h_cp, h_ks, h_up, h_ux]))
@[simp ↓] theorem State.slicePart_blot (L : Piece → Bool) (s : State) (i : Nat) (k : Nat) (a : Nat) (b : Nat) (h_regs : L .regs = true) (h_ic : L .ic = true) (h_sf : L .sf = true)  :
    blot L (State.slicePart s i k a b) = blot L s := by
  unfold State.slicePart
  (try simp [h_regs, h_ic, h_sf]) <;> repeat' (first | with_reducible rfl | (apply pick_eq) | split | (simp [h_regs, h_ic, h_sf]))
@[simp ↓] theorem State.sliceView_blot (L : Piece → Bool) (s : State) (i : Nat) (k : Nat) (fin : Nat) (h_regs : L .regs = true) (h_ic : L .ic = true) (h_sf : L .sf = true)  :
    blot L (State.sliceView s i k fin) = blot L s := by
  unfold State.sliceView
  (try simp [h_regs, h_ic, h_sf]) <;> repeat' (first | with_reducible rfl | (apply pick_eq) | split | (simp [h_regs, h_ic, h_sf]))
@[simp ↓] theorem State.splitDone_blot (L : Piece → Bool) (s : State) (p : Nat) (h_regs : L .regs = true) (h_wg : L .wg = true) (h_ic : L .ic = true) (h_cp : L .cp = true)  :
    blot L (State.splitDone s p) = blot L s := by
  unfold State.splitDone
  (try simp [h_regs, h_wg, h_ic, h_cp]) <;> repeat' (first | with_reducible rfl | (apply pick_eq) | split | (simp [h_regs, h_wg, h_ic, h_cp]))
@[simp ↓] theorem State.supplyLoss_blot (L : Piece → Bool) (s : State) (feedA : Nat) (feedB : Nat) (supply : SupplyBack) (h_dev : L .dev = true) (h_regs : L .regs = true) (h_mem : L .mem = true) (h_fresh : L .fresh = true) (h_shadows : L .shadows = true) (h_ao : L .ao = true) (h_ep : L .ep = true) (h_wg : L .wg = true) (h_ic : L .ic = true) (h_kb : L .kb = true) (h_pn : L .pn = true) (h_can : L .can = true) (h_sw : L .sw = true) (h_ptp : L .ptp = true) (h_nm : L .nm = true) (h_sf : L .sf = true) (h_cp : L .cp = true) (h_ks : L .ks = true) (h_up : L .up = true) (h_ux : L .ux = true)  :
    blot L (State.supplyLoss s feedA feedB supply) = blot L s := by
  unfold State.supplyLoss
  (repeat' split) <;> (try with_reducible rfl) <;> (try simp [h_dev, h_regs, h_mem, h_fresh, h_shadows, h_ao, h_ep, h_wg, h_ic, h_kb, h_pn, h_can, h_sw, h_ptp, h_nm, h_sf, h_cp, h_ks, h_up, h_ux]) <;> (repeat' (first | with_reducible rfl | (apply pick_eq) | split | (simp [h_dev, h_regs, h_mem, h_fresh, h_shadows, h_ao, h_ep, h_wg, h_ic, h_kb, h_pn, h_can, h_sw, h_ptp, h_nm, h_sf, h_cp, h_ks, h_up, h_ux])))
@[simp ↓] theorem State.supplyReturn_blot (L : Piece → Bool) (s : State) (h_regs : L .regs = true) (h_ao : L .ao = true) (h_ic : L .ic = true)  :
    blot L (State.supplyReturn s) = blot L s := by
  unfold State.supplyReturn
  (try simp [h_regs, h_ao, h_ic]) <;> repeat' (first | with_reducible rfl | (apply pick_eq) | split | (simp [h_regs, h_ao, h_ic]))
@[simp ↓] theorem State.swapFails_blot (L : Piece → Bool) (s : State) (i : Nat) (r : SwapReq) (code : Nat) (detail : Nat) (h_regs : L .regs = true) (h_mem : L .mem = true) (h_ep : L .ep = true) (h_wg : L .wg = true) (h_ic : L .ic = true) (h_sf : L .sf = true)  :
    blot L (State.swapFails s i r code detail) = blot L s := by
  unfold State.swapFails
  (try simp [h_regs, h_mem, h_ep, h_wg, h_ic, h_sf]) <;> repeat' (first | with_reducible rfl | (apply pick_eq) | split | (simp [h_regs, h_mem, h_ep, h_wg, h_ic, h_sf]))
@[simp ↓] theorem State.swapFetched_blot (L : Piece → Bool) (s : State) (i : Nat) (h_regs : L .regs = true) (h_mem : L .mem = true) (h_resp : L .resp = true) (h_ep : L .ep = true) (h_wg : L .wg = true) (h_ic : L .ic = true) (h_sf : L .sf = true) (h_cp : L .cp = true)  :
    blot L (State.swapFetched s i) = blot L s := by
  unfold State.swapFetched
  (try simp [h_regs, h_mem, h_resp, h_ep, h_wg, h_ic, h_sf, h_cp]) <;> repeat' (first | with_reducible rfl | (apply pick_eq) | split | (simp [h_regs, h_mem, h_resp, h_ep, h_wg, h_ic, h_sf, h_cp]))
@[simp ↓] theorem State.switchSample_blot (L : Piece → Bool) (s : State) (n : Nat) (mv : Nat) (h_regs : L .regs = true) (h_mem : L .mem = true) (h_ep : L .ep = true) (h_wg : L .wg = true) (h_ic : L .ic = true) (h_pn : L .pn = true)  :
    blot L (State.switchSample s n mv) = blot L s := by
  unfold State.switchSample
  (try simp [h_regs, h_mem, h_ep, h_wg, h_ic, h_pn]) <;> repeat' (first | with_reducible rfl | (apply pick_eq) | split | (simp [h_regs, h_mem, h_ep, h_wg, h_ic, h_pn]))
@[simp ↓] theorem State.swkFrame_blot (L : Piece → Bool) (s : State) (k : Nat) (err : Bool) (h_nm : L .nm = true)  :
    blot L (State.swkFrame s k err) = blot L s := by
  unfold State.swkFrame
  (try simp [h_nm]) <;> repeat' (first | with_reducible rfl | (apply pick_eq) | split | (simp [h_nm]))
@[simp ↓] theorem State.sync_blot (L : Piece → Bool) (s : State) (gm : Nat) (h_vt : L .vt = true) (h_regs : L .regs = true) (h_ic : L .ic = true) (h_can : L .can = true) (h_sw : L .sw = true) (h_ptp : L .ptp = true) (h_sf : L .sf = true)  :
    blot L (State.sync s gm) = blot L s := by
  unfold State.sync
  (try simp [h_vt, h_regs, h_ic, h_can, h_sw, h_ptp, h_sf]) <;> repeat' (first | with_reducible rfl | (apply pick_eq) | split | (simp [h_vt, h_regs, h_ic, h_can, h_sw, h_ptp, h_sf]))
@[simp ↓] theorem State.syncTimeout_blot (L : Piece → Bool) (s : State) (h_now : L .now = true) (h_vt : L .vt = true) (h_regs : L .regs = true) (h_ptp : L .ptp = true)  :
    blot L (State.syncTimeout s) = blot L s := by
  unfold State.syncTimeout
  (try simp [h_now, h_vt, h_regs, h_ptp]) <;> repeat' (first | with_reducible rfl | (apply pick_eq) | split | (simp [h_now, h_vt, h_regs, h_ptp]))
@[simp ↓] theorem State.takeState_blot (L : Piece → Bool) (s : State) (n : Nat) (c : TwinChan) (h_regs : L .regs = true) (h_ic : L .ic = true) (h_kb : L .kb = true)  :
    blot L (State.takeState s n c) = blot L s := by
  unfold State.takeState
  (try simp [h_regs, h_ic, h_kb]) <;> repeat' (first | with_reducible rfl | (apply pick_eq) | split | (simp [h_regs, h_ic, h_kb]))
@[simp ↓] theorem State.takeover_blot (L : Piece → Bool) (s : State) (n : Nat) (h_regs : L .regs = true) (h_ic : L .ic = true) (h_kb : L .kb = true) (h_ux : L .ux = true)  :
    blot L (State.takeover s n) = blot L s := by
  unfold State.takeover
  (try simp [h_regs, h_ic, h_kb, h_ux]) <;> repeat' (first | with_reducible rfl | (apply pick_eq) | split | (simp [h_regs, h_ic, h_kb, h_ux]))
@[simp ↓] theorem State.tdcMeasure_blot (L : Piece → Bool) (s : State) (k : Nat) (a : CanTry) (half : Nat) (tdc : Nat) (h_regs : L .regs = true)  :
    blot L (State.tdcMeasure s k a half tdc) = blot L s := by
  unfold State.tdcMeasure
  (try simp [h_regs]) <;> repeat' (first | with_reducible rfl | (apply pick_eq) | split | (simp [h_regs]))
@[simp ↓] theorem State.tecDown_blot (L : Piece → Bool) (s : State) (k : Nat) (h_regs : L .regs = true)  :
    blot L (State.tecDown s k) = blot L s := by
  unfold State.tecDown
  (try simp [h_regs]) <;> repeat' (first | with_reducible rfl | (apply pick_eq) | split | (simp [h_regs]))
@[simp ↓] theorem State.tecUp_blot (L : Piece → Bool) (s : State) (k : Nat) (h_regs : L .regs = true)  :
    blot L (State.tecUp s k) = blot L s := by
  unfold State.tecUp
  (try simp [h_regs]) <;> repeat' (first | with_reducible rfl | (apply pick_eq) | split | (simp [h_regs]))
@[simp ↓] theorem State.timedExecute_blot (L : Piece → Bool) (s : State) (c : Cmd) (h_now : L .now = true) (h_vt : L .vt = true) (h_regs : L .regs = true) (h_mem : L .mem = true) (h_ep : L .ep = true) (h_wg : L .wg = true) (h_ic : L .ic = true) (h_kb : L .kb = true) (h_pn : L .pn = true) (h_can : L .can = true) (h_ptp : L .ptp = true)  :
    blot L (State.timedExecute s c) = blot L s := by
  unfold State.timedExecute
  (try simp [h_now, h_vt, h_regs, h_mem, h_ep, h_wg, h_ic, h_kb, h_pn, h_can, h_ptp]) <;> repeat' (first | with_reducible rfl | (apply pick_eq) | split | (simp [h_now, h_vt, h_regs, h_mem, h_ep, h_wg, h_ic, h_kb, h_pn, h_can, h_ptp]))
@[simp ↓] theorem State.timerArm_blot (L : Piece → Bool) (s : State) (c : Cmd) (h_mem : L .mem = true) (h_ep : L .ep = true) (h_wg : L .wg = true) (h_ic : L .ic = true)  :
    blot L (State.timerArm s c) = blot L s := by
  unfold State.timerArm
  (try simp [h_mem, h_ep, h_wg, h_ic]) <;> repeat' (first | with_reducible rfl | (apply pick_eq) | split | (simp [h_mem, h_ep, h_wg, h_ic]))
@[simp ↓] theorem State.timerExpiry_blot (L : Piece → Bool) (s : State) (c : Cmd) (h_now : L .now = true) (h_vt : L .vt = true) (h_mem : L .mem = true) (h_ep : L .ep = true) (h_wg : L .wg = true) (h_ic : L .ic = true) (h_ptp : L .ptp = true)  :
    blot L (State.timerExpiry s c) = blot L s := by
  unfold State.timerExpiry
  (try simp [h_now, h_vt, h_mem, h_ep, h_wg, h_ic, h_ptp]) <;> repeat' (first | with_reducible rfl | (apply pick_eq) | split | (simp [h_now, h_vt, h_mem, h_ep, h_wg, h_ic, h_ptp]))
@[simp ↓] theorem State.trip_blot (L : Piece → Bool) (s : State) (n : Nat) (code : Nat) (k : Nat) (h_regs : L .regs = true) (h_mem : L .mem = true) (h_ep : L .ep = true) (h_wg : L .wg = true) (h_ic : L .ic = true) (h_kb : L .kb = true)  :
    blot L (State.trip s n code k) = blot L s := by
  unfold State.trip
  (try simp [h_regs, h_mem, h_ep, h_wg, h_ic, h_kb]) <;> repeat' (first | with_reducible rfl | (apply pick_eq) | split | (simp [h_regs, h_mem, h_ep, h_wg, h_ic, h_kb]))
@[simp ↓] theorem State.trxFails_blot (L : Piece → Bool) (s : State) (k : Nat) (h_now : L .now = true) (h_vt : L .vt = true) (h_regs : L .regs = true) (h_mem : L .mem = true) (h_ep : L .ep = true) (h_wg : L .wg = true) (h_ic : L .ic = true) (h_can : L .can = true) (h_ptp : L .ptp = true) (h_nm : L .nm = true)  :
    blot L (State.trxFails s k) = blot L s := by
  unfold State.trxFails
  (try simp [h_now, h_vt, h_regs, h_mem, h_ep, h_wg, h_ic, h_can, h_ptp, h_nm]) <;> repeat' (first | with_reducible rfl | (apply pick_eq) | split | (simp [h_now, h_vt, h_regs, h_mem, h_ep, h_wg, h_ic, h_can, h_ptp, h_nm]))
@[simp ↓] theorem State.tryOk_blot (L : Piece → Bool) (s : State) (k : Nat) (a : CanTry) (commit : Nat) (h_regs : L .regs = true) (h_mem : L .mem = true) (h_ep : L .ep = true) (h_wg : L .wg = true) (h_ic : L .ic = true) (h_can : L .can = true) (h_nm : L .nm = true)  :
    blot L (State.tryOk s k a commit) = blot L s := by
  unfold State.tryOk
  (repeat' split) <;> (try with_reducible rfl) <;> (try simp [h_regs, h_mem, h_ep, h_wg, h_ic, h_can, h_nm]) <;> (repeat' (first | with_reducible rfl | (apply pick_eq) | split | (simp [h_regs, h_mem, h_ep, h_wg, h_ic, h_can, h_nm])))
@[simp ↓] theorem State.tryError_blot (L : Piece → Bool) (s : State) (k : Nat) (a : CanTry) (e : Nat) (h_regs : L .regs = true) (h_mem : L .mem = true) (h_ep : L .ep = true) (h_wg : L .wg = true) (h_ic : L .ic = true) (h_can : L .can = true) (h_nm : L .nm = true)  :
    blot L (State.tryError s k a e) = blot L s := by
  unfold State.tryError
  (repeat' split) <;> (try with_reducible rfl) <;> (try simp [h_regs, h_mem, h_ep, h_wg, h_ic, h_can, h_nm]) <;> (repeat' (first | with_reducible rfl | (apply pick_eq) | split | (simp [h_regs, h_mem, h_ep, h_wg, h_ic, h_can, h_nm])))
@[simp ↓] theorem State.tryEnds_blot (L : Piece → Bool) (s : State) (k : Nat) (result : Nat) (ns : Nat) (tdc : Nat) (h_now : L .now = true) (h_vt : L .vt = true) (h_regs : L .regs = true) (h_mem : L .mem = true) (h_ep : L .ep = true) (h_wg : L .wg = true) (h_ic : L .ic = true) (h_can : L .can = true) (h_ptp : L .ptp = true) (h_nm : L .nm = true)  :
    blot L (State.tryEnds s k result ns tdc) = blot L s := by
  unfold State.tryEnds
  (repeat' split) <;> (try with_reducible rfl) <;> (try simp [h_now, h_vt, h_regs, h_mem, h_ep, h_wg, h_ic, h_can, h_ptp, h_nm]) <;> (repeat' (first | with_reducible rfl | (apply pick_eq) | split | (simp [h_now, h_vt, h_regs, h_mem, h_ep, h_wg, h_ic, h_can, h_ptp, h_nm])))
@[simp ↓] theorem State.ttMisses_blot (L : Piece → Bool) (s : State) (k : Nat) (c : Nat) (w : Nat) (h_now : L .now = true) (h_vt : L .vt = true) (h_regs : L .regs = true) (h_ic : L .ic = true) (h_can : L .can = true) (h_ptp : L .ptp = true)  :
    blot L (State.ttMisses s k c w) = blot L s := by
  unfold State.ttMisses
  (try simp [h_now, h_vt, h_regs, h_ic, h_can, h_ptp]) <;> repeat' (first | with_reducible rfl | (apply pick_eq) | split | (simp [h_now, h_vt, h_regs, h_ic, h_can, h_ptp]))
@[simp ↓] theorem State.ttStarts_blot (L : Piece → Bool) (s : State) (k : Nat) (c : Nat) (w : Nat) (h_now : L .now = true) (h_vt : L .vt = true) (h_regs : L .regs = true) (h_ic : L .ic = true) (h_can : L .can = true) (h_ptp : L .ptp = true)  :
    blot L (State.ttStarts s k c w) = blot L s := by
  unfold State.ttStarts
  (try simp [h_now, h_vt, h_regs, h_ic, h_can, h_ptp]) <;> repeat' (first | with_reducible rfl | (apply pick_eq) | split | (simp [h_now, h_vt, h_regs, h_ic, h_can, h_ptp]))
@[simp ↓] theorem State.twinLost_blot (L : Piece → Bool) (s : State) (h_now : L .now = true) (h_vt : L .vt = true) (h_regs : L .regs = true) (h_resp : L .resp = true) (h_wg : L .wg = true) (h_ic : L .ic = true) (h_ptp : L .ptp = true) (h_ux : L .ux = true)  :
    blot L (State.twinLost s) = blot L s := by
  unfold State.twinLost
  (try simp [h_now, h_vt, h_regs, h_resp, h_wg, h_ic, h_ptp, h_ux]) <;> repeat' (first | with_reducible rfl | (apply pick_eq) | split | (simp [h_now, h_vt, h_regs, h_resp, h_wg, h_ic, h_ptp, h_ux]))
@[simp ↓] theorem State.txCommit_blot (L : Piece → Bool) (s : State) (k : Nat) (h_now : L .now = true) (h_vt : L .vt = true) (h_regs : L .regs = true) (h_ep : L .ep = true) (h_can : L .can = true) (h_ptp : L .ptp = true)  :
    blot L (State.txCommit s k) = blot L s := by
  unfold State.txCommit
  (try simp [h_now, h_vt, h_regs, h_ep, h_can, h_ptp]) <;> repeat' (first | with_reducible rfl | (apply pick_eq) | split | (simp [h_now, h_vt, h_regs, h_ep, h_can, h_ptp]))
@[simp ↓] theorem State.txFinish_blot (L : Piece → Bool) (s : State) (p : Nat) (h_now : L .now = true) (h_vt : L .vt = true) (h_regs : L .regs = true) (h_ep : L .ep = true) (h_ic : L .ic = true) (h_sw : L .sw = true) (h_ptp : L .ptp = true)  :
    blot L (State.txFinish s p) = blot L s := by
  unfold State.txFinish
  (try simp [h_now, h_vt, h_regs, h_ep, h_ic, h_sw, h_ptp]) <;> repeat' (first | with_reducible rfl | (apply pick_eq) | split | (simp [h_now, h_vt, h_regs, h_ep, h_ic, h_sw, h_ptp]))
@[simp ↓] theorem State.txOffer_blot (L : Piece → Bool) (s : State) (k : Nat) (h_now : L .now = true) (h_vt : L .vt = true) (h_can : L .can = true) (h_ptp : L .ptp = true)  :
    blot L (State.txOffer s k) = blot L s := by
  unfold State.txOffer
  (try simp [h_now, h_vt, h_can, h_ptp]) <;> repeat' (first | with_reducible rfl | (apply pick_eq) | split | (simp [h_now, h_vt, h_can, h_ptp]))
@[simp ↓] theorem State.txStart_blot (L : Piece → Bool) (s : State) (p : Nat) (h_regs : L .regs = true) (h_ep : L .ep = true) (h_ic : L .ic = true) (h_sw : L .sw = true)  :
    blot L (State.txStart s p) = blot L s := by
  unfold State.txStart
  (try simp [h_regs, h_ep, h_ic, h_sw]) <;> repeat' (first | with_reducible rfl | (apply pick_eq) | split | (simp [h_regs, h_ep, h_ic, h_sw]))
@[simp ↓] theorem State.updateTriggers_blot (L : Piece → Bool) (s : State) (h_regs : L .regs = true) (h_kb : L .kb = true)  :
    blot L (State.updateTriggers s) = blot L s := by
  unfold State.updateTriggers
  (try simp [h_regs, h_kb]) <;> repeat' (first | with_reducible rfl | (apply pick_eq) | split | (simp [h_regs, h_kb]))
@[simp ↓] theorem State.viewTakes_blot (L : Piece → Bool) (s : State) (ep : Nat) (tag : Nat) (op : Nat) (run : State → Cmd → State)  (hrun : ∀ x0 x1, blot L (run x0 x1) = blot L x0) :
    blot L (State.viewTakes s ep tag op run) = blot L s := by
  unfold State.viewTakes
  (try simp [hrun]) <;> repeat' (first | with_reducible rfl | (apply pick_eq) | split | (simp [hrun]))
@[simp ↓] theorem State.wdtExpired_blot (L : Piece → Bool) (s : State) (h_dev : L .dev = true) (h_now : L .now = true) (h_vt : L .vt = true) (h_regs : L .regs = true) (h_mem : L .mem = true) (h_fresh : L .fresh = true) (h_shadows : L .shadows = true) (h_ao : L .ao = true) (h_ep : L .ep = true) (h_wg : L .wg = true) (h_ic : L .ic = true) (h_kb : L .kb = true) (h_pn : L .pn = true) (h_can : L .can = true) (h_sw : L .sw = true) (h_ptp : L .ptp = true) (h_nm : L .nm = true) (h_sf : L .sf = true) (h_cp : L .cp = true) (h_ks : L .ks = true) (h_up : L .up = true) (h_ux : L .ux = true)  :
    blot L (State.wdtExpired s) = blot L s := by
  unfold State.wdtExpired
  (try simp [h_dev, h_now, h_vt, h_regs, h_mem, h_fresh, h_shadows, h_ao, h_ep, h_wg, h_ic, h_kb, h_pn, h_can, h_sw, h_ptp, h_nm, h_sf, h_cp, h_ks, h_up, h_ux]) <;> repeat' (first | with_reducible rfl | (apply pick_eq) | split | (simp [h_dev, h_now, h_vt, h_regs, h_mem, h_fresh, h_shadows, h_ao, h_ep, h_wg, h_ic, h_kb, h_pn, h_can, h_sw, h_ptp, h_nm, h_sf, h_cp, h_ks, h_up, h_ux]))
@[simp ↓] theorem State.wireStepOf_blot (L : Piece → Bool) (s : State) (n : Nat) (h_regs : L .regs = true) (h_mem : L .mem = true) (h_ep : L .ep = true) (h_wg : L .wg = true) (h_ic : L .ic = true) (h_kb : L .kb = true)  :
    blot L (State.wireStepOf s n) = blot L s := by
  unfold State.wireStepOf
  (try simp [h_regs, h_mem, h_ep, h_wg, h_ic, h_kb]) <;> repeat' (first | with_reducible rfl | (apply pick_eq) | split | (simp [h_regs, h_mem, h_ep, h_wg, h_ic, h_kb]))
@[simp ↓] theorem State.wireModel_blot (L : Piece → Bool) (s : State) (h_now : L .now = true) (h_vt : L .vt = true) (h_regs : L .regs = true) (h_mem : L .mem = true) (h_ep : L .ep = true) (h_wg : L .wg = true) (h_ic : L .ic = true) (h_kb : L .kb = true) (h_ptp : L .ptp = true)  :
    blot L (State.wireModel s) = blot L s := by
  unfold State.wireModel
  (try simp [h_now, h_vt, h_regs, h_mem, h_ep, h_wg, h_ic, h_kb, h_ptp]) <;> repeat' (first | with_reducible rfl | (apply pick_eq) | split | (simp [h_now, h_vt, h_regs, h_mem, h_ep, h_wg, h_ic, h_kb, h_ptp]))

end Sys2Proof.Machine
end

