-- ==== Sys2Proof/Tests/Slice0.lean ====
section
/-! SUPPORT. Witnesses: for every statement with hypotheses, and for every clause of one, a state and operands that meet them together.
Then the checks of WellFormed, each with a command that it refuses, and numbers that the spec works out. -/

set_option maxRecDepth 200000
set_option linter.constructorNameAsVariable false
set_option linter.unusedVariables false

namespace Sys2Proof.Tests

open Sys2Proof Sys2Proof.Machine

/-- Town Hall on core 0. -/
def hall : Who := ⟨0, 0, 0⟩
/-- An Active device after reset values. -/
def wOn : State := { State.reset with dev := .active }
/-- An Active device with one plan item. -/
def wItem (ty : Nat) (v : List Nat) : State := { wOn with plan := [⟨1, 0, ty, v⟩] }
/-- District 3, of the normal world, with 64 KiB of DRAM that it may read and write. -/
def wRam : List Item := [⟨1, 0, 0x0201, [3, 0, 0, 0, 0]⟩, ⟨1, 1, 0x0401, [0, 0, 3, 0, 3, 0x80000000, 0x10000]⟩]
/-- Endpoint 5 of type `ty`, held by district 3, bound to object `b`. -/
def wEp (s : State) (ty b : Nat) : State :=
  { s with ep := { s.ep with eps := [(5, { Ep.absent with live := true, ty := ty, district := 3, bind := b, credits := 8, slot := some 1 })] } }
/-- A command of endpoint 5 with tag 7, in flight and waiting. -/
def wCmd (op : Nat) (body : List Byte) : Cmd := ⟨5, 7, op, 0, 0, 0, body, .waiting, false, false, 0, 0⟩
/-- The state with that command in flight. -/
def wRun (s : State) (ty b op : Nat) (body : List Byte) : State :=
  let s := wEp s ty b
  { s with ep := { s.ep with inflight := [wCmd op body] } }
/-- The state with the command passed to its target and not yet taken. -/
def wPass (s : State) (ty b op : Nat) (body : List Byte) : State :=
  let s := wEp s ty b
  { s with ep := { s.ep with inflight := [{ wCmd op body with phase := .passed }] } }

/-- Ports G0 (2) and G1 (3) with link, in VLAN 5. -/
def wSw : State :=
  let s := { wOn with plan := [⟨1, 0, 0x0903, [5, 0xC, 0]⟩] }
  ((s.wr (Fd.SW_PORT_STATUS_LINK 2) 1).wr (Fd.SW_PORT_STATUS_LINK 3) 1)
/-- A broadcast frame of VLAN `v` with its FCS. -/
def wFrm (v : Nat) : List Byte :=
  let bs := beBytes 6 0xFFFFFFFFFFFF ++ beBytes 6 0x020000000001 ++ beBytes 2 0x8100 ++ beBytes 2 v ++ beBytes 2 0x0800 ++ List.replicate 20 7
  bs ++ leBytes 4 (crc32 bs)
def wF : SwFrame := ⟨40, 2, 1, 2, true, 0, 0, 5, List.replicate 300 9, 16, 320, [], 0, true, false, none, none, none⟩
def wC : SwCopy := ⟨41, 40, 2, 3, 0, 0, 3, false, true, 1, 7, false, false, 0, 0, none⟩
/-- The frame and its copy are in Plaza, connected where `c` says so. -/
def wPlaza (f : SwFrame) (c : SwCopy) (conns : List (Nat × Nat)) : State :=
  { wSw with sw := { SwState.reset with frames := [f], copies := [c], conns := conns, next := 50 } }
/-- A learned and a static entry. -/
def wFdb : State := ({ wSw with sw := { SwState.reset with fdb := [⟨0x11, 5, 4, false, 7⟩, ⟨0x22, 5, 8, true, 7⟩] } }.setReg Rg.SW_FDB_KEY_LO 0x11).setReg Rg.SW_FDB_KEY_HI 0x50000

/-- PLK (22) is the slave, M0 (8) a master, both with link. -/
def wAs : State := (((wOn.wr (Fd.SQ_AS_PORT_CFG_ROLE 22) 2).wr (Fd.SW_PORT_STATUS_LINK 22) 1).wr (Fd.SQ_AS_PORT_CFG_ROLE 8) 1).wr (Fd.SW_PORT_STATUS_LINK 8) 1
/-- A stream 7 that eliminates, with its frame of messages at the gateway. -/
def wStrm : State := { wOn with plan := [⟨1, 0, 0x0901, [7, 0, 2, 4, 0x11, 5, 0, 0]⟩], sw := { SwState.reset with gwy := [⟨7, 30, [[1, 2, 3, 4]]⟩], streams := [(7, { Strm.reset with takeAny := false })] } }

/-- Sixteen published descriptors' worth of TAIL for endpoint 5 of type TIMER, whose descriptor 0 at 0x80000000 arms a timer, tag 9. -/
def wFetch : State :=
  let s := wEp wOn 5 0
  let s := s.setEp 5 { s.epAt 5 with sqBase := 0x80000000, cqBase := 0x80001000, sqLog2 := 4, cqLog2 := 4, sqTail := 2, timers := 2 }
  s.store 0x80000000 [9, 0, 1]
/-- The operation MSG of district 3 waits at the engine. -/
def wOp (s : State) (msg : Nat) : State := { s with ep := { s.ep with op := some ⟨msg, 3, false, false, 0, none⟩ } }
/-- The staging words hold the bytes of a request, from 0x08. -/
def wStage (s : State) (l : List Nat) : State :=
  forAll (List.range l.length) (fun s k => s.setReg (Rg.SYS_EP_STAGE k) (BitVec.ofNat 32 (l.getD k 0))) s
/-- A creation of TIMER endpoint 7 with rings, one credit and one timer. -/
def wCreate : State :=
  wOp (wStage (({ wOn with plan := [⟨1, 0, 0x0201, [3, 1, 0, 0, 0xFFFF]⟩] }.wr Fd.SYS_POOL_FREE0_FREE_CREDITS 10).wr Fd.SYS_POOL_FREE0_FREE_TIMERS 10)
    [0x00050007, 0x01000404, 0x80000000, 0, 0x80001000, 0, 1]) 1
/-- District 3 runs with its mailbox at 0x80000000 and a QUERY of the pools in its first request. -/
def wMail : State :=
  let s := wOn.setReg Rg.SYS_MBOX_BASE_LO 0x80000000
  let s := { s with ep := { s.ep with vmRun := [3], rung := [3] } }
  (s.store 0x80003000 [1, 0, 0, 0]).store 0x80003100 [5, 0, 4, 0, 0, 0, 0, 0, 0xFF, 0xFF]

/-- Camera 1 of 4 by 2 pixels at 60 Hz, and display 0 of 8 by 160 with it in view 0, 4 by 4, at the same rate. -/
def wMirPlan : List Item :=
  ⟨11, 0, 0x0B01, [1, 60, 4, 2]⟩ :: ⟨11, 1, 0x0B02, [0, 60, 8, 160, 1100]⟩ :: ⟨11, 2, 0x0B03, [0, 0, 1, 0, 0, 0, 4, 4, 100]⟩ ::
  ⟨11, 3, 0x0B04, [0, 0, 64, 5]⟩ :: ⟨11, 4, 0x0B06, [0, 0, 50, 65036, 500]⟩ :: wRam
def wMir : State := ({ wOn with plan := wMirPlan }.setFlag (Fd.SF_CAM_CTRL_RUN 1) true).setFlag (Fd.SF_CAM_STATUS_LINK 1) true
def wCam (x : Cam) : State := wMir.setCam 1 x
/-- The same with both lines of a frame expected at its start. -/
def wLine (x : Cam) : State := ((wCam x).wr (Fd.SF_CAM_TIMING_FIRST_US 1) 0).wr (Fd.SF_CAM_TIMING_LINE_NS 1) 0
def wDsp (x : Dsp) : State := wMir.setDsp 0 x
def wView (x : SView) : State := wMir.setView 0 x
def wViewCmd (s : State) (op : Nat) (b : List Byte) : State := wPass s 6 0x700 op b
def wVp (op : Nat) (b : List Byte) : Cmd := { wCmd op b with phase := .passed }
/-- A map of view 0 whose vertices are all at the source's origin. -/
def wMap : List Byte :=
  leBytes 4 0x50414D53 ++ leBytes 2 1 ++ leBytes 2 4 ++ leBytes 2 4 ++ leBytes 2 4 ++ leBytes 2 2 ++ leBytes 2 2 ++ leBytes 2 2 ++ leBytes 2 0 ++ leBytes 4 0 ++ leBytes 4 (crc32 (List.replicate 32 0)) ++ leBytes 4 0 ++ List.replicate 32 0
/-- A MAP_SWAP of view 0 whose image lies at 0x80000100. -/
def wSwap (m : List Byte) : State :=
  let s := (wRun wMir 6 0x700 2 []).store 0x80000100 m
  s.setView 0 { s.view 0 with swap := some ⟨⟨5, 7⟩, 0x80000100, m.length, false, []⟩ }

/-- A powered Kerbside with channel 2 alone on feed 0, channel 10 leading a gang of 2, and bridge 48; district 3 owns them. -/
def wKb : State :=
  { wOn with plan := [⟨1, 0, 0x0601, [2, 0, 2, 1, 1, 0, 0, 2, 3, 5, 0, 3]⟩, ⟨1, 1, 0x0601, [10, 1, 10, 2, 0, 0, 0, 0, 0, 0, 0, 3]⟩, ⟨1, 3, 0x0601, [11, 1, 10, 2, 0, 0, 0, 0, 0, 0, 0, 3]⟩,
      ⟨1, 2, 0x0601, [48, 1, 48, 1, 0, 0, 1, 0, 0, 0, 0, 3]⟩], kb := { KbState.reset with up := true } }
/-- The output of the gang of channel `n` is on and commanded on. -/
def wOut (n : Nat) (s : State) : State := (s.setCmd n true).eachMember n (fun s m => s.wr (Fd.PD_CH_STATUS_OUT m) 1)
def wPwr (s : State) (n op : Nat) (b : List Byte) : State := wPass s 2 n op b
def wPc (op : Nat) (b : List Byte) : Cmd := { wCmd op b with phase := .passed }

/-- CAN 2 in NORMAL at 500 kbit/s and 2 Mbit/s, buffer 3 an enabled transmit buffer with a frame of identifier 5, buffer 4 an enabled
receive buffer of every base identifier. -/
def wCan : State :=
  let s := { wOn with plan := ⟨1, 0, 0x0C01, [2, 1, 2, 63, 16, 16, 1, 31, 8, 8]⟩ :: wRam }
  let s := ((s.wr (Fd.CAN_MODE_MODE 2) 1).wr (Fd.CAN_MODE_ACTUAL 2) 1).wr (Fd.NM_TRX_CTRL_STATE 2) 0
  let s := (s.setFlag (Fd.CAN_MB_CFG_EN 2 3) true).setFlag (Fd.CAN_MB_CFG_DIR 2 3) true
  let s := (s.wr (Fd.CAN_MB_CFG_RETRY 2 3) 2).setFlag (Fd.CAN_MB_CFG_EN 2 4) true
  s.setBuf 2 3 { CanBuf.reset with words := [(0, 0x140000), (1, 2), (2, 0x77)] }
/-- Buffer 3 is pending, and the channel tries it. -/
def wTry (commit : Option Nat) : State :=
  let s := wCan.wr (Fd.CAN_MB_STAT_STATE 2 3) (if commit.isSome then 2 else 1)
  s.setCan 2 { s.canAt 2 with attempt := some ⟨some 3, 40, commit⟩ }
/-- The schedule of CAN 2: two cycles of 1 ms; window 1 of cycle 0 is exclusive for buffer 3. -/
def wTt : State :=
  let s := { wCan with plan := ⟨1, 5, 0x0C02, [2, 0, 1, 0, 3, 1, 100000, 300000]⟩ :: wCan.plan }
  (s.setReg (Rg.CAN_TT_CFG 2) 0x801003E8).wr (Fd.CAN_TT_STATUS_SYNC 2) 1
def wCanCmd (s : State) (op : Nat) (b : List Byte) : State := wPass s 1 0x040302 op b

/-- Ring 1 with medium CAN 2, on which the unit is node 9, in state `st`; identifiers from 0x640. -/
def wRing (st : Nat) : State :=
  let s := { wOn with plan := [⟨1, 0, 0x0D01, [1, 0, 2, 9]⟩, ⟨1, 1, 0x0D01, [1, 1, 0, 9]⟩] }
  ((s.wr (Fd.NM_MED_STATUS_STATE 2) st).wr (Fd.NM_TRX_CTRL_ID_BASE 2) 0x19).setPresent 2 0x1000
def wMed (st : Nat) (f : Medium → Medium) : State := let s := wRing st; s.setMedium 2 (f (s.medium 2))

/-- An Active device whose pin 4 has FUNCTION `k` and PARAM `p`. -/
def wPin (k p : Nat) : State := { wItem 0x0501 [4, k, p] with plan := ⟨1, 1, 0x0501, [4, k, p]⟩ :: wRam }
def wPinCmd (s : State) (op : Nat) (b : List Byte) : State := wPass s 3 4 op b
def wPp (op : Nat) (b : List Byte) : Cmd := { wCmd op b with phase := .passed }
def wLinPlan : List Item :=
  ⟨1, 0, 0x0502, [1, 0, 19200]⟩ :: ⟨1, 1, 0x0503, [1, 0, 0, 5, 200]⟩ :: ⟨1, 2, 0x0503, [1, 0, 1, 6, 200]⟩ :: wRam
/-- LIN master 1 at 19,200 Bd with table 0 of two slots, whose frames 5 and 6 have 2 bytes; 5 is published. -/
def wLin : State :=
  let s := { wOn with plan := wLinPlan }
  ((s.wr (Fd.LIN_FRAME_CFG_LEN 1 5) 2).wr (Fd.LIN_FRAME_CFG_LEN 1 6) 2).setFlag (Fd.LIN_FRAME_CFG_PUBLISH 1 5) true
def wLinCmd (s : State) (op : Nat) (b : List Byte) : State := wPass s 3 257 op b

/-- Pair 1 in state `st`, permitted to split and to lock. -/
def wPair (st : Nat) : State := (wOn.wr (Fd.CP_PAIR_STATUS_STATE 1) st).wr (Fd.CP_PAIR_STATUS_PERMIT 1) 3
/-- A locked pair 1 whose district 2 has a gated range. -/
def wGate : State := { wPair 1 with plan := [⟨1, 0, 0x0201, [2, 0, 0, 0, 0xFFFF]⟩, ⟨1, 1, 0x0302, [0x10400000, 0x1000, 2]⟩, ⟨2, 0, 0x0401, [1, 0, 2, 0, 7, 0x10400000, 0x1000]⟩] }
/-- A record of a retired instruction. -/
def wSig (n : Nat) : SigRec := ⟨BitVec.ofNat 64 n, 2, 3, 4⟩

/-- Courtyard 1 of district 2, CACHE `cache`, budget 100 µs, code at 0x80000000 that begins with GATE.LAND. -/
def wCy (cache : Nat) : State :=
  { wOn.store 0x80000040 [0x0B, 0x10, 0, 0] with
    plan := [⟨1, 0, 0x0201, [2, 1, 0, 0, 0xFFFF]⟩, ⟨2, 0, 0x0401, [0, 0, 2, 1, 7, 0x80000000, 0x1000]⟩, ⟨2, 1, 0x0402, [1, 2, cache, 1, 100]⟩] }
/-- A hart of district 2 at PC 0x100. -/
def wCtx : HartCtx := ⟨2, .hs, 0x100, 0, 0, 0, [5, 6]⟩
/-- A gate frame, and the state with core 2 inside Courtyard 1. -/
def wFrame : GateFrame := ⟨0x104, .hs, 0, 0, 0, [(1, 5)]⟩
def wIn : State :=
  let s := (wCy 1).wr (Fd.WG_CY_STATUS_STATE 1) 2
  s.setHart 2 { Hart.reset with cy := 1, frame := some wFrame, mode := .u }

/-- An Active device with source 65 as given. -/
def wSrc (x : Src) : State := { wOn with ic := ⟨[(65, x)], []⟩ }

/-- A KEY endpoint bound to slots 1 to 4, its district 3, whose command of opcode `op` with body `b` is passed; the slots hold `k`. -/
def wKey (op : Nat) (b : List Byte) (k : KeySlot) : State :=
  let s := wPass (wOn.wr Fd.KS_STATUS_STATE 1) 4 0x0401 op b
  { s.setFlag Fd.KS_STATUS_DRBG_OK true with ks := { KsState.reset with slots := [(0, k), (1, k), (2, k)] } }
/-- A slot of algorithm `alg` with every usage, owned by every district. -/
def wSlot (alg : Nat) : KeySlot := ⟨1, 32, 1, 0x2001FF + alg * 0x1000, [1, 2, 3, 4], 0xFFFFFFFFFFFFFFFF, [], [7, 7]⟩
def wKeyCmd (op : Nat) (b : List Byte) : Cmd := { wCmd op b with phase := .passed }
/-- The body of a command on slot index 0, AUX 1, LEN 16, SRC 0x80000000, DST 0x80001000. -/
def wBody : List Byte := [0, 1, 16, 0, 0, 0, 0, 0, 0, 0, 0, 0x80, 0, 0, 0, 0, 0, 0x10, 0, 0x80]
/-- The same with the operation started. -/
def wKeyRun (op : Nat) (k : KeySlot) : State :=
  let s := wRun wOn 4 0x0401 op wBody
  { s with ks := { KsState.reset with slots := [(1, k)], ops := [⟨5, 7, op, true, k, k, none, []⟩] } }

/-- The inactive bank B staged with CLASS `c`. -/
def wStaged (c : Nat) : State := { (wOn.wr Fd.UP_STATUS_CLASS c) with up := { UpState.reset with stB := 2 } }
/-- A delta header in DRAM of one section, against a measurement of zeros, and UP_SRC pointing at it. -/
def wDelta : State :=
  ((wOn.setReg Rg.UP_SRC_LO 0x80000000).setReg Rg.UP_SRC_LEN 0x60).store 0x80000000
    ([0x52, 0x57, 0x44, 0x4C, 1, 0, 0x96, 0x40] ++ List.replicate 32 0 ++ [0, 0x20, 0, 0, 1, 0, 0, 0] ++ List.replicate 48 0)

/-- Unit A, primary, with a TWIN item in force, PLK up, and the twin in state `st`. -/
def wTwin (st : Nat) : State := let s := { wOn with plan := ⟨15, 0, 0x0F01, [0, 0]⟩ :: wRam }; (((s.setFlag Fd.UX_STATUS_CONFIG true).setFlag Fd.UX_STATUS_PRIMARY true).setFlag (Fd.SW_PORT_STATUS_LINK 22) true).wr Fd.UX_TWIN_STATE st
def wUx (st : Nat) (f : UxState → UxState) : State := let s := wTwin st; { s with ux := f s.ux }
/-- Window 2 open, onto the doorbells of the twin, POSTED as told. -/
def wWin (st : Nat) (posted : Bool) : State := (((wTwin st).setFlag (Fd.UX_OUT_WIN_LO_EN 2) true).setFlag (Fd.UX_OUT_WIN_LO_POSTED 2) posted).wr (Fd.UX_OUT_WIN_LO_REMOTE 2) 0x42000
def wNp (o : UxOp) (again : Bool) : NpAcc := ⟨⟨1, 0, 0⟩, 2, o, 0x80000040, 500, 700, again⟩
/-- District 3 may use every group of Underpass. -/
def wTake : State := let s := { wKb with plan := ⟨15, 0, 0x0F01, [0, 0]⟩ :: wKb.plan }; ((s.setFlag Fd.UX_STATUS_CONFIG true).wr Fd.UX_TWIN_STATE 1).wr (Fd.UX_TAKEOVER_STATE 10) 2
/-- Permit 1 opens DRAM from 0x80000000, 64 KiB, to the twin's district 9 as district 3. -/
def wPermit : State := ((((((wTwin 1).wr (Fd.UX_IN_WIN_BASE_BASE 1) 0x80000).wr (Fd.UX_IN_WIN_SIZE_SIZE 1) 16).setFlag (Fd.UX_IN_WIN_ATTR_EN 1) true).setFlag (Fd.UX_IN_WIN_ATTR_R 1) true).wr (Fd.UX_IN_WIN_ATTR_SRC 1) 9).wr (Fd.UX_IN_WIN_ATTR_DISTRICT 1) 3

def wEth (up : Bool) : State := (wOn.setFlag (Fd.SW_PORT_CFG_ENABLE 3) true).setFlag (Fd.SW_PORT_STATUS_LINK 3) up

theorem wit_RegisterAccesses_1 : ∃ (s : State) (who : Who) (a : BitVec 34) (w : Word) (r : RegRow) (x : List Nat), placeOf a.toNat = .registers ∧ RegMap.at a.toNat = some (r, x) ∧ s.passesChecks (s.issuer who) 4 a.toNat w (s.plainHeld a.toNat) (s.plainBad a.toNat w.toNat) = true ∧ s.plainRefuse a.toNat = Code.DONE ∧ (s.ownWrite (s.issuer who) 4 a.toNat w State.activateOpen).isNone = true ∧ plainWord a.toNat = true := by
  exact ⟨wOn, hall, 0x2000FFF8, 1, ⟨0x2000FFF8, [(0, 16, 65536)], .district0, [⟨0, 0, .rw, none⟩]⟩, [0], by decide⟩

theorem wit_RegisterAccesses_2 : ∃ (s : State) (who : Who) (a : BitVec 34) (w : Word) (sat b : Nat), placeOf a.toNat = .registers ∧ s.passesChecks (s.issuer who) 4 a.toNat w (s.plainHeld a.toNat) (s.plainBad a.toNat w.toNat) = true ∧ s.plainRefuse a.toNat = Code.DONE ∧ (s.ownWrite (s.issuer who) 4 a.toNat w State.activateOpen).isNone = true ∧ satOf a.toNat = some (sat, b) := by
  exact ⟨wOn.setReg 0x20040100 7, hall, 0x20040100, 9, 0x20040180, 0, by decide⟩

theorem wit_RegisterAccesses_3 : ∃ (s : State) (who : Who) (a : BitVec 34) (r : RegRow) (x : List Nat), placeOf a.toNat = .registers ∧ RegMap.at a.toNat = some (r, x) ∧ readable s (s.issuer who) a.toNat r = true ∧ readsPlainly a.toNat = true := by
  exact ⟨wOn.setReg 0x20090104 0x50003, hall, 0x20090104, ⟨0x20090100, [(0, 8, 4)], .nobody, [⟨31, 16, .rc, none⟩, ⟨15, 0, .ro, none⟩]⟩, [1], by decide⟩

theorem wit_RegisterAccesses_4 : ∃ (s : State) (who : Who) (a : BitVec 34) (r : RegRow) (x : List Nat), placeOf a.toNat = .registers ∧ RegMap.at a.toNat = some (r, x) ∧ readable s (s.issuer who) a.toNat r = true ∧ latchedLo a.toNat = true := by
  exact ⟨wOn, hall, 0x20040048, ⟨0x20040040, [(0, 4, 8)], .nobody, [⟨31, 0, .ro, none⟩]⟩, [1], by decide⟩

theorem wit_RegisterAccesses_5 : ∃ (s : State) (who : Who) (a : BitVec 34) (h : Nat) (r : RegRow) (x : List Nat), placeOf a.toNat = .registers ∧ latchedLo a.toNat = true ∧ RegMap.at (a.toNat + 4) = some (r, x) ∧ readable s (s.issuer who) (a.toNat + 4) r = true ∧ s.shadowOf (s.issuer who).initiator.toNat a.toNat = some h := by
  exact ⟨{ wOn with shadows := [(0, 0x20040048, 77)] }, hall, 0x20040048, 77, ⟨0x20040044, [(0, 4, 8)], .nobody, [⟨31, 0, .ro, none⟩]⟩, [1], by decide⟩

theorem wit_MemoryAccesses_1 : ∃ (s : State) (who : Who) (k : AccessKind) (a : BitVec 64) (target : Nat), s.dev = .active ∧ k.writes = false ∧ 0 < k.size [] ∧ guardTarget (placeOf a.toNat) = some target ∧ placeOf (a.toNat + k.size [] - 1) = placeOf a.toNat ∧ s.passes (s.issuer who) k target a.toNat (k.size []) = true ∧ (placeOf a.toNat = .sram → s.bankOff a.toNat (k.size []) = false) ∧ s.badWords a.toNat (k.size []) false = [] := by
  exact ⟨wOn, ⟨8, 0, 0⟩, .read 4, 0x80000010, 0, by decide⟩

theorem wit_MemoryAccesses_2 : ∃ (s : State) (who : Who) (a : BitVec 64) (data : List Byte) (target : Nat), s.dev = .active ∧ data ≠ [] ∧ s.toGate (s.issuer who) a.toNat = false ∧ s.gateWait (s.issuer who) = false ∧ guardTarget (placeOf a.toNat) = some target ∧ placeOf a.toNat ≠ .flash ∧ placeOf (a.toNat + data.length - 1) = placeOf a.toNat ∧ s.passes (s.issuer who) .write target a.toNat data.length = true ∧ (placeOf a.toNat = .sram → s.bankOff a.toNat data.length = false) ∧ s.badWords a.toNat data.length true = [] := by
  exact ⟨wOn, ⟨8, 0, 0⟩, 0x80000010, [1, 2, 3], 0, by decide⟩

theorem wit_MemoryAccesses_3 : ∃ (s : State) (who : Who) (a : BitVec 64) (data : List Byte) (target : Nat), s.dev = .active ∧ data ≠ [] ∧ s.toGate (s.issuer who) a.toNat = false ∧ s.gateWait (s.issuer who) = false ∧ guardTarget (placeOf a.toNat) = some target ∧ placeOf a.toNat ≠ .flash ∧ placeOf (a.toNat + data.length - 1) = placeOf a.toNat ∧ s.passes (s.issuer who) .amo target a.toNat data.length = true ∧ (placeOf a.toNat = .sram → s.bankOff a.toNat data.length = false) ∧ s.badWords a.toNat data.length false = [] := by
  exact ⟨wOn, ⟨8, 0, 0⟩, 0x80000010, [1, 2, 3, 4], 0, by decide⟩

theorem wit_MemoryAccesses_4 : ∃ (s : State) (who : Who) (k : AccessKind) (a : BitVec 64) (target : Nat), s.dev = .active ∧ k.writes = false ∧ 0 < k.size [] ∧ a.toNat % 8 + k.size [] ≤ 8 ∧ (placeOf a.toNat = .sram ∨ placeOf a.toNat = .dualPort ∨ placeOf a.toNat = .dram) ∧ guardTarget (placeOf a.toNat) = some target ∧ placeOf (a.toNat + k.size [] - 1) = placeOf a.toNat ∧ s.passes (s.issuer who) k target a.toNat (k.size []) = true ∧ (placeOf a.toNat = .sram → s.bankOff a.toNat (k.size []) = false) ∧ s.badWords a.toNat (k.size []) false = [] := by
  exact ⟨wOn, ⟨8, 0, 0⟩, .read 4, 0x80000010, 0, by decide⟩

theorem wit_MemoryAccesses_5 : ∃ (s : State) (who : Who) (k : AccessKind) (a : BitVec 64) (data : List Byte) (err : MemErr) (target : Nat), s.dev = .active ∧ 0 < k.size data ∧ s.toGate (s.issuer who) a.toNat = false ∧ s.gateWait (s.issuer who) = false ∧ guardTarget (placeOf a.toNat) = some target ∧ placeOf a.toNat ≠ .flash ∧ placeOf (a.toNat + k.size data - 1) = placeOf a.toNat ∧ s.passes (s.issuer who) k target a.toNat (k.size data) = true ∧ (placeOf a.toNat = .sram → s.bankOff a.toNat (k.size data) = false) ∧ s.badWords a.toNat (k.size data) (k.code == 1) ≠ [] := by
  exact ⟨{ wOn with plan := wRam, wg := { WgState.reset with poison := [0x10000002] } }, ⟨1, 3, 0⟩, .read 4, 0x80000010, [], .none, 0, by decide⟩

theorem wit_SupplyEvents_1 : ∃ (s : State) (strap : Strap) (svc : Bool), s.dev = .off := by
  exact ⟨State.reset, .unitB, true, by decide⟩

theorem wit_SupplyEvents_2 : ∃ (s : State), s.dev ≠ .off := by
  exact ⟨wOn, by decide⟩

theorem wit_SupplyEvents_3 : ∃ (s : State), s.dev ≠ .off := by
  exact ⟨{ wOn with dev := .standby }, by decide⟩

theorem wit_SupplyEvents_4 : ∃ (s : State) (a b : BitVec 16) (supply : SupplyBack), (s.dev = .active ∨ s.dev = .standby) := by
  exact ⟨wOn, 8000, 7000, .away, by decide⟩

theorem wit_SupplyEvents_5 : ∃ (s : State), s.dev ≠ .off := by
  exact ⟨wOn, by decide⟩

theorem wit_ReducedFunction_1 : ∃ (s : State), s.dev ≠ .off ∧ s.flag Fd.AO_STATE_REDUCED = false := by
  exact ⟨wOn, by decide⟩

theorem wit_ReducedFunction_2 : ∃ (s : State), s.dev ≠ .off ∧ s.flag Fd.AO_STATE_REDUCED = true := by
  exact ⟨wOn.wr Fd.AO_STATE_REDUCED 1, by decide⟩

theorem wit_WakeAndSleep_1 : ∃ (s : State) (a b : BitVec 16), s.dev ≠ .off ∧ 10000 < a.toNat ∧ 10000 < b.toNat ∧ (s.wakeInAt 16).held = false := by
  exact ⟨{ wOn with dev := .parked }, 12000, 11000, by decide⟩

theorem wit_WakeAndSleep_2 : ∃ (s : State) (a : BitVec 16), s.dev ≠ .off ∧ a.toNat < 5000 := by
  exact ⟨wOn, 4000, by decide⟩

theorem wit_WakeAndSleep_3 : ∃ (s : State) (k : Fin 16) (a b : BitVec 16), s.dev ≠ .off ∧ itemN (s.item 0x0501 k.val) 1 = 2 ∧ edgeActive (itemN (s.item 0x0501 k.val) 2 % 4) (s.wakeInAt k.val).level (decide (a.toNat < 600)) = true ∧ edgeActive (itemN (s.item 0x0501 k.val) 2 % 4) (s.wakeInAt k.val).level (decide (b.toNat < 600)) = true ∧ (s.wakeInAt k.val).held = false := by
  exact ⟨{ wItem 0x0501 [3, 2, 1] with dev := .standby }, 3, 100, 200, by decide⟩

theorem wit_WakeAndSleep_4 : ∃ (s : State) (e : Nat), s.dev ≠ .off ∧ (s.timerRearm s.ao.lpSent).timerEnd = some e := by
  exact ⟨wOn.wr Fd.AO_WAKE_TIMER_COUNT 5, 4882812, by decide⟩

theorem wit_WakeAndSleep_5 : ∃ (s : State) (who : Who) (w : Word), s.passesChecks (s.issuer who) 4 Rg.AO_SLEEP w false false = true ∧ s.rd Fd.AO_SLEEP_RESULT ≠ Code.ACCEPTED ∧ (w.toNat % 4 = 1 ∧ s.flag Fd.AO_STATE_LP_OK = true ∨ w.toNat % 4 = 2) ∧ s.mediaAwake = false := by
  exact ⟨wOn.wr Fd.AO_STATE_LP_OK 1, hall, 0x3201, by decide⟩

theorem wit_WakeAndSleep_6 : ∃ (s : State) (d : Nat), s.ao.sleepDue = some d ∧ s.ep.inflight = [] ∧ s.now ≤ d := by
  exact ⟨{ wOn.wr Fd.AO_SLEEP_TARGET 1 with ao := { AoState.reset with sleepDue := some 9 } }, 9, by decide⟩

theorem wit_WakeAndSleep_7 : ∃ (s : State) (d : Nat), s.ao.sleepDue = some d ∧ s.ep.inflight = [] ∧ d < s.now := by
  exact ⟨{ wOn.wr Fd.AO_SLEEP_TARGET 1 with now := 10, ao := { AoState.reset with sleepDue := some 9 } }, 9, by decide⟩

theorem wit_WakeAndSleep_8 : ∃ (s : State) (d : Nat), s.ao.sleepDue = some d ∧ (s.ep.inflight ≠ [] ∨ d < s.now) := by
  exact ⟨{ wOn with ao := { AoState.reset with sleepDue := some 9 }, ep := { EpState.reset with inflight := [wCmd 1 []] } }, 9, by decide⟩

theorem wit_RestartsAndBoot_1 : ∃ (s : State) (who : Who) (w : Word), s.passesChecks (s.issuer who) 4 Rg.AO_WDT w false (w.toNat / 65536 != 0 && w.toNat / 65536 != 0x6C61) = true ∧ s.now < s.ao.wdtKick + s.rd Fd.AO_WDT_PERIOD_MS * ms := by
  exact ⟨wOn, hall, 0x6C610100, by decide⟩

theorem wit_RestartsAndBoot_2 : ∃ (s : State) (who : Who) (w : Word), s.passesChecks (s.issuer who) 4 Rg.AO_WDT w false (w.toNat / 65536 != 0 && w.toNat / 65536 != 0x6C61) = true ∧ s.ao.wdtKick + s.rd Fd.AO_WDT_PERIOD_MS * ms ≤ s.now ∧ s.wdtEnd ≤ s.now := by
  exact ⟨{ wOn with now := 0x100000000 }, hall, 0x6C610100, by decide, by decide, Nat.le_trans (Nat.add_le_add_left (Nat.le_of_lt_succ (Nat.mod_lt _ (by decide))) _) (show wOn.ao.wdtKick + wOn.rd Fd.AO_WDT_PERIOD_MS * ms + ms / 5 ≤ 0x100000000 by decide)⟩

theorem wit_RestartsAndBoot_3 : ∃ (s : State), (s.dev = .active ∨ s.dev = .standby) := by
  exact ⟨wOn, by decide⟩

theorem wit_RestartsAndBoot_4 : ∃ (s : State) (who : Who) (w : Word), s.passesChecks (s.issuer who) 4 Rg.AO_STATE w false false = true ∧ tbit w.toNat 31 = true := by
  exact ⟨wOn, hall, 0x80000000, by decide⟩

theorem wit_RestartsAndBoot_5 : ∃ (s : State) (hw : BitVec 16) (gen : CsGen), s.ao.booting = true ∧ s.ao.underVolt = false ∧ (s.dev = .parked ∨ s.dev = .standby) ∧ (gen ≠ .lost ∨ s.csNeeded = false ∨ s.ks.drbgOk = false) := by
  exact ⟨{ wOn with dev := .standby, ao := { AoState.reset with booting := true } }, 3, .ok, by decide⟩

theorem wit_RestartsAndBoot_6 : ∃ (s : State) (hw : BitVec 16) (src : Fin 5) (gen : CsGen), s.ao.booting = true ∧ s.ao.underVolt = false ∧ (s.dev = .parked ∨ s.dev = .standby) ∧ (gen ≠ .lost ∨ s.csNeeded = false ∨ s.ks.drbgOk = false) := by
  exact ⟨{ wOn with dev := .parked, ao := { AoState.reset with booting := true } }, 3, 2, .ok, by decide⟩

theorem wit_RestartsAndBoot_7 : ∃ (s : State) (hw : BitVec 16) (tamper : BootTamper), s.ao.booting = true ∧ s.ao.underVolt = false ∧ (s.dev = .parked ∨ s.dev = .standby) ∧ s.csNeeded = true ∧ s.ks.drbgOk = true := by
  exact ⟨{ wOn with dev := .parked, ao := { AoState.reset with booting := true }, ks := { KsState.reset with drbgOk := true } }, 3, .none, by decide⟩

theorem wit_LamplighterRegisters_1 : ∃ (s : State) (who : Who) (w : Word), s.passesChecks (s.issuer who) 4 Rg.AO_PWR_REQ w false false = true ∧ w.toNat % 256 < 8 := by
  exact ⟨wOn, hall, 0x103, by decide⟩

theorem wit_LamplighterRegisters_2 : ∃ (s : State) (who : Who) (w : Word), s.passesChecks (s.issuer who) 4 Rg.AO_PWR_REQ w false false = true ∧ 8 ≤ w.toNat % 256 ∧ s.reserved (w.toNat % 256) = true := by
  exact ⟨{ wOn with wg := { WgState.reset with resv := [(3, 11)] } }, hall, 0x10B, by decide⟩

theorem wit_LamplighterRegisters_3 : ∃ (s : State) (who : Who) (w : Word), s.passesChecks (s.issuer who) 4 Rg.AO_PWR_REQ w false false = true ∧ 8 ≤ w.toNat % 256 ∧ s.reserved (w.toNat % 256) = false ∧ getBits w.toNat 9 8 ≠ 0 ∧ s.blockBusy (w.toNat % 256) = true := by
  exact ⟨wRun wOn 1 0 1 [], hall, 0x10C, by decide⟩

theorem wit_LamplighterRegisters_4 : ∃ (s : State) (who : Who) (w : Word), s.passesChecks (s.issuer who) 4 Rg.AO_PWR_REQ w false false = true ∧ 8 ≤ w.toNat % 256 ∧ w.toNat % 256 ∉ [10, 11, 12] ∧ s.reserved (w.toNat % 256) = false ∧ getBits w.toNat 9 8 = 1 ∧ s.blockBusy (w.toNat % 256) = false := by
  exact ⟨wOn, hall, 0x10D, by decide⟩

theorem wit_LamplighterRegisters_5 : ∃ (s : State) (who : Who) (w : Word), s.passesChecks (s.issuer who) 4 Rg.AO_PWR_REQ w false false = true ∧ 8 ≤ w.toNat % 256 ∧ s.reserved (w.toNat % 256) = false ∧ getBits w.toNat 9 8 ≠ 0 ∧ s.blockBusy (w.toNat % 256) = false := by
  exact ⟨wOn, hall, 0x20B, by decide⟩

theorem wit_LamplighterRegisters_6 : ∃ (s : State) (who : Who) (w : Word), s.passesChecks (s.issuer who) 4 Rg.AO_PWR_REQ w false false = true ∧ 8 ≤ w.toNat % 256 ∧ s.reserved (w.toNat % 256) = false ∧ getBits w.toNat 9 8 = 0 := by
  exact ⟨{ wOn with ao := { AoState.reset with clkGated := [13] } }, hall, 13, by decide⟩

theorem wit_LamplighterRegisters_7 : ∃ (s : State) (who : Who) (w : Word), s.passesChecks (s.issuer who) 4 (Rg.AO_LOG_STAGE 15) w false false = true := by
  exact ⟨wOn, hall, 0x1234, by decide⟩

theorem wit_LamplighterRegisters_8 : ∃ (s : State), (s.dev = .active ∨ s.dev = .standby) := by
  exact ⟨wOn, by decide⟩

theorem wit_LamplighterRegisters_9 : ∃ (s : State) (who : Who), s.reaches (s.issuer who) Rg.AO_MRAM_DATA = true ∧ s.gateWait (s.issuer who) = false ∧ (s.issuer who).district = 0 := by
  exact ⟨wOn, hall, by decide⟩

theorem wit_SwitchFrames_1 : ∃ (s : State) (p : Fin 24) (data : List Byte) (ago : BitVec 32) (err : Bool) (set : Fin 64), s.rxFree p.val = true ∧ (err = true ∨ data.length < 18) := by
  exact ⟨wSw, 2, wFrm 5, 9, true, 0, by decide⟩

theorem wit_SwitchFrames_2 : ∃ (s : State) (p : Fin 24) (data : List Byte) (ago : BitVec 32) (set : Fin 64), s.rxFree p.val = true ∧ (p.val = 18 ∨ p.val = 19) ∧ 18 ≤ data.length := by
  exact ⟨(wOn.wr (Fd.SW_PORT_STATUS_LINK 18) 1), 18, wFrm 5, 9, 3, by decide⟩

theorem wit_SwitchFrames_3 : ∃ (s : State) (p : Fin 24) (data : List Byte) (ago : BitVec 32) (set : Fin 64), s.rxFree p.val = true ∧ p.val ≠ 18 ∧ p.val ≠ 19 ∧ 18 ≤ data.length ∧ leNat (data.drop (data.length - 4)) = crc32 (data.take (data.length - 4)) ∧ s.macsecOn p.val = false := by
  exact ⟨wSw, 2, wFrm 5, 9, 0, by decide⟩

theorem wit_SwitchFrames_4 : ∃ (s : State) (p : Fin 24) (data : List Byte) (ago : BitVec 32) (vid : Nat) (set : Fin 64), s.rxFree p.val = true ∧ p.val ≠ 18 ∧ p.val ≠ 19 ∧ 18 ≤ data.length ∧ leNat (data.drop (data.length - 4)) = crc32 (data.take (data.length - 4)) ∧ s.macsecOn p.val = false ∧ curfewT1s p.val (data.take (data.length - 4)) = false ∧ underpassFrame p.val (data.take (data.length - 4)) = false ∧ data.length ≤ s.maxLen p.val ∧ vid = (s.parse p.val (data.take (data.length - 4)) data.length 0 true).vid ∧ vid ≠ 0 ∧ vid ≠ 4095 ∧ tbit (s.members_ vid) p.val = false := by
  exact ⟨wSw, 2, wFrm 6, 9, 6, 0, by decide⟩

theorem wit_SwitchFrames_5 : ∃ (s : State) (p : Fin 24) (data : List Byte) (ago : BitVec 32) (err : Bool) (set : Fin 64), s.rxFree p.val = true ∧ data.length < 128 := by
  exact ⟨wSw, 2, [1, 2, 3], 9, false, 0, by decide⟩

theorem wit_SwitchFrames_6 : ∃ (s : State) (p : Fin 24) (rest : List Byte) (err : Bool) (x : RxFrame), s.rx p.val = some x ∧ x.decided = false := by
  exact ⟨{ wSw with sw := { wSw.sw with rx := [(2, some ⟨[1, 2, 3], 0, false, false, none⟩)] } }, 2, [1, 2, 3, 4], true, ⟨[1, 2, 3], 0, false, false, none⟩, by decide⟩

theorem wit_SwitchFrames_7 : ∃ (s : State) (p : Fin 24) (rest : List Byte) (err : Bool) (x : RxFrame) (f : SwFrame), s.rx p.val = some x ∧ x.decided = true ∧ s.partFrame p.val = some f := by
  exact ⟨(let u := wPlaza { wF with ended := false, got := [1, 2, 3] } { wC with joined := false } []; { u with sw := { u.sw with rx := [(2, some ⟨[1, 2, 3], 0, false, true, none⟩)] } }), 2, [1, 2, 3, 4], true, ⟨[1, 2, 3], 0, false, true, none⟩, { wF with ended := false, got := [1, 2, 3] }, by decide⟩

theorem wit_SwitchFrames_8 : ∃ (s : State) (f : SwFrame) (c : SwCopy), s.sw.copies = [c] ∧ s.sw.frames = [f] ∧ c.frame = f.id ∧ s.sw.conns = [(c.inp, c.n)] ∧ s.sw.inject = [] ∧ f.ended = true ∧ c.crossed + 1 < cells f.len := by
  exact ⟨wPlaza wF wC [(2, 41)], wF, wC, by decide⟩

theorem wit_SwitchFrames_9 : ∃ (s : State) (f : SwFrame) (c : SwCopy), s.sw.copies = [c] ∧ s.sw.frames = [f] ∧ c.frame = f.id ∧ s.sw.conns = [] ∧ s.sw.inject = [] ∧ f.ended = true ∧ 1 < cells f.len ∧ c.joined = true ∧ c.crossed = 0 ∧ c.done = false ∧ s.gateCycle c.out = none ∧ s.item2 0x0805 c.out c.tc = none ∧ s.queueItem c.out c.tc = none ∧ s.sw.flushing = [] ∧ s.fits f c.out neverCloses = true ∧ c.inp < 24 ∧ c.out < 24 ∧ c.tc < 8 := by
  exact ⟨wPlaza wF { wC with crossed := 0 } [], wF, { wC with crossed := 0 }, by decide⟩

theorem wit_SwitchFrames_10 : ∃ (s : State) (p : Fin 24) (c : SwCopy) (f : SwFrame), s.sending p.val = none ∧ s.fifoHead p.val = some c ∧ s.frameOf c = some f ∧ s.linkUp p.val = true ∧ p.val ≠ 21 ∧ p.val ≠ 23 ∧ s.sw.flushing.contains p.val = false ∧ (halfDuplex p.val = false ∨ s.rx p.val = none) ∧ s.curfewHolds p.val = false ∧ c.done = true ∧ s.macsecOn p.val = false := by
  exact ⟨wPlaza wF { wC with crossed := 3, done := true } [], 3, { wC with crossed := 3, done := true }, wF, by decide⟩

theorem wit_SwitchFrames_11 : ∃ (s : State) (p : Fin 24) (c : SwCopy) (f : SwFrame), s.sending p.val = some c ∧ s.frameOf c = some f ∧ isEthernet p.val = true ∧ s.sw.flushing.contains p.val = false ∧ c.done = true ∧ f.bad = false := by
  exact ⟨wPlaza wF { wC with crossed := 3, done := true, started := true, txAt := 60 } [], 3, { wC with crossed := 3, done := true, started := true, txAt := 60 }, wF, by decide⟩

theorem wit_SwitchFrames_12 : ∃ (s : State) (p : Fin 24) (c : SwCopy) (f : SwFrame), s.sending p.val = some c ∧ s.frameOf c = some f ∧ isEthernet p.val = true ∧ s.sw.flushing.contains p.val = false ∧ (f.bad = true ∨ c.done = false) := by
  exact ⟨wPlaza { wF with bad := true } { wC with crossed := 2, done := true, started := true, txAt := 60 } [], 3, { wC with crossed := 2, done := true, started := true, txAt := 60 }, { wF with bad := true }, by decide⟩

theorem wit_SwitchDatabase_1 : ∃ (s : State) (p : Fin 24), s.linkUp p.val = true := by
  exact ⟨wSw, 2, by decide⟩

theorem wit_SwitchDatabase_2 : ∃ (s : State) (p : Fin 24), s.sw.flushing.contains p.val = true := by
  exact ⟨(let s := wPlaza wF wC []; { s with sw := { s.sw with flushing := [3], returns := [3] } }), 3, by decide⟩

theorem wit_SwitchDatabase_3 : ∃ (s : State) (p : Fin 24), s.linkUp p.val = false ∧ s.mayLink p.val = true ∧ s.sw.flushing.contains p.val = false ∧ (p.val < 2 ∨ 16 ≤ p.val ∨ s.rd (Fd.NM_ETH_STATUS_STATE p.val) ≠ 3) := by
  exact ⟨(wOn.wr (Fd.SW_PORT_CFG_ENABLE 2) 1), 2, by decide⟩

theorem wit_SwitchDatabase_4 : ∃ (s : State) (m : Fin 2), s.cxGroup = true ∧ s.linkUp m.val = true := by
  exact ⟨(((wSw.wr (Fd.SW_PORT_STATUS_LINK 1) 1).setFlag (Fd.SW_PORT_CFG_HASH_GROUP 0) true).setFlag (Fd.SW_PORT_CFG_HASH_GROUP 1) true), 1, by decide⟩

theorem wit_SwitchDatabase_5 : ∃ (s : State) (mac : BitVec 48) (vid : BitVec 12) (e : FdbEnt), s.fdbFind mac.toNat vid.toNat = some e ∧ e.static = false := by
  exact ⟨wFdb, 0x11, 5, ⟨0x11, 5, 4, false, 7⟩, by decide⟩

theorem wit_SwitchDatabase_6 : ∃ (s : State) (who : Who) (e : FdbEnt), s.passesChecks (s.issuer who) 4 Rg.SW_FDB_CMD (fdbWord 1 (s.rd Fd.SW_FDB_CMD_PORT)) false (decide (23 < s.rd Fd.SW_FDB_CMD_PORT)) = true ∧ s.rd Fd.SW_FDB_CMD_RESULT ≠ Code.BUSY ∧ s.fdbFind s.fdbKey.1 s.fdbKey.2 = some e := by
  exact ⟨wFdb, hall, ⟨0x11, 5, 4, false, 7⟩, by decide⟩

theorem wit_SwitchDatabase_7 : ∃ (s : State) (who : Who), s.passesChecks (s.issuer who) 4 Rg.SW_FDB_CMD (fdbWord 1 (s.rd Fd.SW_FDB_CMD_PORT)) false (decide (23 < s.rd Fd.SW_FDB_CMD_PORT)) = true ∧ s.rd Fd.SW_FDB_CMD_RESULT ≠ Code.BUSY ∧ s.fdbFind s.fdbKey.1 s.fdbKey.2 = none := by
  exact ⟨wFdb.setReg Rg.SW_FDB_KEY_LO 0x77, hall, by decide⟩

theorem wit_SwitchDatabase_8 : ∃ (s : State) (who : Who) (e : FdbEnt), s.passesChecks (s.issuer who) 4 Rg.SW_FDB_CMD (fdbWord 2 (s.rd Fd.SW_FDB_CMD_PORT)) false (decide (23 < s.rd Fd.SW_FDB_CMD_PORT)) = true ∧ s.rd Fd.SW_FDB_CMD_RESULT ≠ Code.BUSY ∧ s.fdbFind s.fdbKey.1 s.fdbKey.2 = some e := by
  exact ⟨wFdb, hall, ⟨0x11, 5, 4, false, 7⟩, by decide⟩

theorem wit_SwitchDatabase_9 : ∃ (s : State) (who : Who) (p : Fin 32), s.passesChecks (s.issuer who) 4 Rg.SW_FDB_CMD (fdbWord 3 p.val) false (decide (23 < p.val)) = true ∧ s.rd Fd.SW_FDB_CMD_RESULT ≠ Code.BUSY := by
  exact ⟨wFdb, hall, 2, by decide⟩

theorem wit_SwitchDatabase_10 : ∃ (s : State) (who : Who), s.passesChecks (s.issuer who) 4 Rg.SW_FDB_CMD (fdbWord 4 (s.rd Fd.SW_FDB_CMD_PORT)) false (decide (23 < s.rd Fd.SW_FDB_CMD_PORT)) = true ∧ s.rd Fd.SW_FDB_CMD_RESULT ≠ Code.BUSY := by
  exact ⟨wFdb, hall, by decide⟩

theorem wit_SwitchDatabase_11 : ∃ (s : State) (who : Who) (m : Fin 3) (w : Word), s.passesChecks (s.issuer who) 4 (Rg.SW_MS_CTRL m.val) w false false = true := by
  exact ⟨wOn, hall, 1, 2, by decide⟩

theorem wit_SwitchTime_1 : ∃ (s : State) (p : Fin 24), (s.gateCycle p.val).isSome = true := by
  exact ⟨{ wSw with plan := [⟨1, 0, 0x0804, [3, 1000000, 0]⟩, ⟨1, 1, 0x0803, [3, 0, 1, 400000]⟩, ⟨1, 2, 0x0803, [3, 1, 2, 600000]⟩] }, 3, by decide⟩

theorem wit_SwitchTime_2 : ∃ (s : State) (h : BitVec 16) (i : Item), s.item 0x0901 h.toNat = some i ∧ i.eliminates = true ∧ (s.strm h.toNat).takeAny = false := by
  exact ⟨wStrm, 7, ⟨1, 0, 0x0901, [7, 0, 2, 4, 0x11, 5, 0, 0]⟩, by decide⟩

theorem wit_SwitchTime_3 : ∃ (s : State) (p : Fin 24) (gm : BitVec 64), s.role p.val = 2 ∧ asPort p.val = true ∧ s.linkUp p.val = true ∧ s.asState = 0 := by
  exact ⟨wAs, 22, 0x123456789, by decide⟩

theorem wit_SwitchTime_4 : ∃ (s : State) (p : Fin 24) (gm : BitVec 64), s.role p.val = 2 ∧ asPort p.val = true ∧ s.linkUp p.val = true ∧ s.asState ≠ 0 ∧ s.vt + 10000 ≤ (gm.toNat + s.nbrDelay p.val) % 2 ^ 64 := by
  exact ⟨{ (wAs.wr Fd.SQ_AS_STATUS_STATE 1) with vt := 5000 }, 22, 64800, by decide⟩

theorem wit_SwitchTime_5 : ∃ (s : State) (p : Fin 24) (gm : BitVec 64) (g : Nat), s.role p.val = 2 ∧ asPort p.val = true ∧ s.linkUp p.val = true ∧ (s.asState = 1 ∨ s.asState = 2) ∧ g = (gm.toNat + s.nbrDelay p.val) % 2 ^ 64 ∧ g < s.vt + 10000 ∧ s.vt ≤ g + 1000000000 := by
  exact ⟨{ (wAs.wr Fd.SQ_AS_STATUS_STATE 1) with vt := 5000, ptp := { TimeState.reset with good := 7 } }, 22, 4800, 4800, by decide⟩

theorem wit_SwitchTime_6 : ∃ (s : State) (p : Fin 24) (gm : BitVec 64) (g : Nat), s.role p.val = 2 ∧ asPort p.val = true ∧ s.linkUp p.val = true ∧ (s.asState = 3 ∨ s.asState = 4) ∧ g = (gm.toNat + s.nbrDelay p.val) % 2 ^ 64 ∧ g < s.vt + 10000 ∧ s.vt ≤ g + 1000000000 := by
  exact ⟨{ (wAs.wr Fd.SQ_AS_STATUS_STATE 3) with vt := 5000 }, 22, 4800, 4800, by decide⟩

theorem wit_SwitchTime_7 : ∃ (s : State) (p : Fin 24) (gm : BitVec 64), s.role p.val = 2 ∧ asPort p.val = true ∧ s.linkUp p.val = true ∧ s.asState ≠ 0 ∧ (gm.toNat + s.nbrDelay p.val) % 2 ^ 64 + 1000000000 < s.vt := by
  exact ⟨{ (wAs.wr Fd.SQ_AS_STATUS_STATE 2) with vt := 5000000000 }, 22, 4800, by decide⟩

theorem wit_SwitchTime_8 : ∃ (s : State) (p : Nat), s.asState ≠ 0 ∧ s.asState ≠ 3 ∧ (List.range 24).find? (fun q => s.role q == 2) = some p := by
  exact ⟨wAs.wr Fd.SQ_AS_STATUS_STATE 2, 22, by decide⟩

theorem wit_SwitchTime_9 : ∃ (s : State) (p : Fin 24), s.role p.val = 1 ∧ asPort p.val = true ∧ s.linkUp p.val = true := by
  exact ⟨wAs, 8, by decide⟩

theorem wit_SwitchTime_10 : ∃ (s : State) (p : Fin 24) (d : BitVec 32), s.role p.val ≠ 0 ∧ s.flag (Fd.SQ_AS_PORT_CFG_PDELAY_EN p.val) = true ∧ s.linkUp p.val = true := by
  exact ⟨wAs.setFlag (Fd.SQ_AS_PORT_CFG_PDELAY_EN 8) true, 8, 500, by decide⟩

theorem wit_SwitchTime_11 : ∃ (s : State) (h : BitVec 16) (g : GwyFrame), s.gwyFrame h.toNat = some g := by
  exact ⟨wStrm, 7, ⟨7, 30, [[1, 2, 3, 4]]⟩, by decide⟩

theorem wit_SwitchTime_12 : ∃ (s : State) (c : SwCopy) (f : SwFrame), s.fifoHead 21 = some c ∧ s.frameOf c = some f ∧ c.done = true ∧ f.bad = true := by
  exact ⟨wPlaza { wF with bad := true } { wC with out := 21, crossed := 3, done := true } [], { wC with out := 21, crossed := 3, done := true }, { wF with bad := true }, by decide⟩

theorem wit_SwitchTime_13 : ∃ (s : State) (c : SwCopy) (f : SwFrame), s.fifoHead 21 = some c ∧ s.frameOf c = some f ∧ c.done = true ∧ f.bad = false ∧ (beNat (sl f.payload 0 2) ≠ 0x22F0 ∨ beNat (sl f.payload 2 1) ≠ 0x82) := by
  exact ⟨wPlaza wF { wC with out := 21, crossed := 3, done := true } [], { wC with out := 21, crossed := 3, done := true }, wF, by decide⟩

theorem wit_SwitchTime_14 : ∃ (s : State) (c : SwCopy) (f : SwFrame), s.fifoHead 21 = some c ∧ s.frameOf c = some f ∧ c.done = true ∧ f.bad = false ∧ beNat (sl f.payload 0 2) = 0x22F0 ∧ beNat (sl f.payload 2 1) = 0x82 := by
  exact ⟨wPlaza { wF with payload := [0x22, 0xF0, 0x82] } { wC with out := 21, crossed := 3, done := true } [], { wC with out := 21, crossed := 3, done := true }, { wF with payload := [0x22, 0xF0, 0x82] }, by decide⟩

theorem wit_SwitchTime_15 : ∃ (s : State) (who : Who) (h : BitVec 16), s.passesChecks (s.issuer who) 4 Rg.SQ_STREAM_SEL (h.setWidth 32) false false = true := by
  exact ⟨wStrm, hall, 7, by decide⟩

theorem wit_DoorbellWrites_1 : ∃ (s : State) (who : Who) (e : Fin 4096) (w : Word), s.dev = .active ∧ s.epExists e.val = true ∧ s.dbRight (s.issuer who) e.val 0 = true ∧ s.toGate (s.issuer who) (dbAddr e.val 0) = false ∧ s.gateWait (s.issuer who) = false ∧ w.toNat % 65536 ≠ (s.epAt e.val).sqTail ∧ (s.epAt e.val).sqOver (w.toNat % 65536) = false ∧ (e.val ≠ 0 ∨ s.flag Fd.SYS_EP0_RINGS_LO_EN = true) := by
  exact ⟨wFetch, ⟨1, 3, 0⟩, 5, 7, by decide⟩

theorem wit_DoorbellWrites_2 : ∃ (s : State) (who : Who) (e : Fin 4096) (w : Word), s.dev = .active ∧ s.epExists e.val = true ∧ s.dbRight (s.issuer who) e.val 4 = true ∧ s.toGate (s.issuer who) (dbAddr e.val 4) = false ∧ s.gateWait (s.issuer who) = false ∧ (s.epAt e.val).cqOver (w.toNat % 65536) = false := by
  exact ⟨(wFetch.setEp 5 { wFetch.epAt 5 with cqTail := 3 }), ⟨1, 3, 0⟩, 5, 2, by decide⟩

theorem wit_DoorbellWrites_3 : ∃ (s : State) (who : Who) (e : Fin 4096) (w : Word), s.dev = .active ∧ s.epExists e.val = true ∧ s.dbRight (s.issuer who) e.val 8 = true ∧ s.toGate (s.issuer who) (dbAddr e.val 8) = false ∧ s.gateWait (s.issuer who) = false ∧ (s.epAt e.val).abortCode ≠ Code.BUSY := by
  exact ⟨wFetch, ⟨1, 3, 0⟩, 5, 7, by decide⟩

theorem wit_DoorbellWrites_4 : ∃ (s : State) (who : Who) (w : Word), s.dev = .active ∧ s.epExists 0 = true ∧ s.toGate (s.issuer who) (dbAddr 0 0x100) = false ∧ s.gateWait (s.issuer who) = false := by
  exact ⟨{ wOn with ep := { EpState.reset with eps := [(0, { Ep.absent with live := true })] } }, ⟨1, 35, 0⟩, 1, by decide⟩

theorem wit_DoorbellWrites_5 : ∃ (s : State) (e : Nat) (b : Bool) (rest : List (Nat × Bool)) (k : Nat), s.ep.pageQ = (e, b) :: rest ∧ (s.epAt e).live = true ∧ (s.epAt e).slot = none ∧ s.pagedFree = some k ∧ s.ep.restart.contains (s.epAt e).district = false := by
  exact ⟨{ (wEp wOn 5 0) with ep := { EpState.reset with eps := [(9, { Ep.absent with live := true })], pageQ := [(9, false), (4, true)] } }, 9, false, [(4, true)], 1, by decide⟩

theorem wit_DoorbellWrites_6 : ∃ (s : State) (e : Fin 4096), (s.epAt e.val).live = true ∧ (s.epAt e.val).abortCode = Code.BUSY ∧ (s.epAt e.val).slot.isSome = true ∧ (s.epAt e.val).sqHead = (s.epAt e.val).abortTail ∧ s.cmdOf e.val (s.epAt e.val).abortTag = none := by
  exact ⟨wOn.setEp 5 { Ep.absent with live := true, slot := some 2, abortCode := Code.BUSY, abortTag := 3 }, 5, by decide⟩

theorem wit_DoorbellWrites_7 : ∃ (s : State) (e : Fin 4096) (c : Cmd), (s.epAt e.val).live = true ∧ (s.epAt e.val).abortCode = Code.BUSY ∧ (s.epAt e.val).slot.isSome = true ∧ (s.epAt e.val).sqHead = (s.epAt e.val).abortTail ∧ s.cmdOf e.val (s.epAt e.val).abortTag = some c ∧ c.phase = .committed := by
  exact ⟨(let s := wRun wOn 5 0 1 []; { s with ep := { s.ep with inflight := [{ wCmd 1 [] with phase := .committed }] } }.setEp 5 { s.epAt 5 with abortCode := Code.BUSY, abortTag := 7 }), 5, { wCmd 1 [] with phase := .committed }, by decide⟩

theorem wit_DoorbellWrites_8 : ∃ (s : State) (e : Fin 4096) (c : Cmd), (s.epAt e.val).live = true ∧ (s.epAt e.val).abortCode = Code.BUSY ∧ (s.epAt e.val).slot.isSome = true ∧ (s.epAt e.val).sqHead = (s.epAt e.val).abortTail ∧ s.cmdOf e.val (s.epAt e.val).abortTag = some c ∧ c.phase = .waiting ∧ (s.epAt e.val).ty = 5 := by
  exact ⟨(let s := wRun wOn 5 0 1 []; s.setEp 5 { s.epAt 5 with abortCode := Code.BUSY, abortTag := 7 }), 5, wCmd 1 [], by decide⟩

theorem wit_EngineCommands_1 : ∃ (s : State) (e : Fin 4096), s.dev = .active ∧ s.canFetch e.val = true ∧ (s.epAt e.val).dying = false ∧ s.poisonMask ((s.epAt e.val).descAddr (s.epAt e.val).sqHead) = 0 ∧ (s.cmdOf e.val (leNat (s.bytes ((s.epAt e.val).descAddr (s.epAt e.val).sqHead) 2))).isSome = false ∧ (((s.readEcc ((s.epAt e.val).descAddr (s.epAt e.val).sqHead) 64).takeHead e.val).touch e.val).checkDesc
      (cmdOfBytes e.val (match (s.epAt e.val).pub.head? with | some p => p.2 | none => 0) (s.bytes ((s.epAt e.val).descAddr (s.epAt e.val).sqHead) 64)) = Code.DONE := by
  exact ⟨wFetch, 5, by decide⟩

theorem wit_EngineCommands_2 : ∃ (s : State) (e : Fin 4096), s.dev = .active ∧ s.canFetch e.val = true ∧ (s.epAt e.val).dying = false ∧ s.poisonMask ((s.epAt e.val).descAddr (s.epAt e.val).sqHead) = 0 ∧ (s.cmdOf e.val (leNat (s.bytes ((s.epAt e.val).descAddr (s.epAt e.val).sqHead) 2))).isSome = false ∧ (((s.readEcc ((s.epAt e.val).descAddr (s.epAt e.val).sqHead) 64).takeHead e.val).touch e.val).checkDesc
      (cmdOfBytes e.val (match (s.epAt e.val).pub.head? with | some p => p.2 | none => 0) (s.bytes ((s.epAt e.val).descAddr (s.epAt e.val).sqHead) 64)) ≠ Code.DONE := by
  exact ⟨wFetch.store 0x80000002 [0x77], 5, by decide⟩

theorem wit_EngineCommands_3 : ∃ (s : State) (e : Fin 4096) (tag : BitVec 16) (c : Cmd), (s.inflight e.val).head? = some c ∧ c.tag = tag.toNat ∧ c.phase = .ordered := by
  exact ⟨(let s := wRun wOn 5 0 1 []; { s with ep := { s.ep with inflight := [{ wCmd 1 [] with phase := .ordered }] } }), 5, 7, { wCmd 1 [] with phase := .ordered }, by decide⟩

theorem wit_EngineCommands_4 : ∃ (s : State) (e : Fin 4096) (tag : BitVec 16) (c : Cmd), s.dev = .active ∧ s.cmdOf e.val tag.toNat = some c ∧ c.phase = .timed ∧ ((s.epAt e.val).ty ≠ 2 ∨ (s.inflight e.val).head? = some c) ∧ c.exec + c.late < s.vt := by
  exact ⟨(let s := wRun wOn 2 0 1 []; { s with vt := 100, ep := { s.ep with inflight := [{ wCmd 1 [] with phase := .timed, exec := 5, late := 6 }] } }), 5, 7, { wCmd 1 [] with phase := .timed, exec := 5, late := 6 }, by decide⟩

theorem wit_EngineCommands_5 : ∃ (s : State) (e : Fin 4096) (tag : BitVec 16) (c : Cmd), s.dev = .active ∧ s.cmdOf e.val tag.toNat = some c ∧ c.phase = .timed ∧ ((s.epAt e.val).ty ≠ 2 ∨ (s.inflight e.val).head? = some c) ∧ s.vt ≤ c.exec := by
  exact ⟨(let s := wRun wOn 2 0 1 []; { s with vt := 1, ep := { s.ep with inflight := [{ wCmd 1 [] with phase := .timed, exec := 5, late := 6 }] } }), 5, 7, { wCmd 1 [] with phase := .timed, exec := 5, late := 6 }, by decide⟩

theorem wit_EngineCommands_6 : ∃ (s : State) (e : Fin 4096) (tag : BitVec 16) (c : Cmd), s.dev = .active ∧ s.cmdOf e.val tag.toNat = some c ∧ c.phase = .timed ∧ ((s.epAt e.val).ty ≠ 2 ∨ (s.inflight e.val).head? = some c) ∧ c.exec < s.vt ∧ s.vt ≤ c.exec + c.late := by
  exact ⟨(let s := wRun wOn 2 0 1 []; { s with vt := 7, ep := { s.ep with inflight := [{ wCmd 1 [] with phase := .timed, exec := 5, late := 6 }] } }), 5, 7, { wCmd 1 [] with phase := .timed, exec := 5, late := 6 }, by decide⟩

theorem wit_EngineCommands_7 : ∃ (s : State) (e : Fin 4096) (tag : BitVec 16) (c : Cmd), s.passed e.val tag.toNat 0 1 = some c ∧ s.poisoned (c.f 0x10 8) (c.f 0x18 2) = false := by
  exact ⟨wPass (wOn.store 0x80000000 [1, 2, 3]) 0 0 1 [0, 0, 0, 0x80, 0, 0, 0, 0, 14, 0, 2], 5, 7, { wCmd 1 [0, 0, 0, 0x80, 0, 0, 0, 0, 14, 0, 2] with phase := .passed }, by decide⟩

theorem wit_EngineCommands_8 : ∃ (s : State) (e : Fin 4096) (tag : BitVec 16) (c : Cmd), s.passed e.val tag.toNat 0 2 = some c := by
  exact ⟨wPass wOn 0 0 2 [], 5, 7, { wCmd 2 [] with phase := .passed }, by decide⟩

theorem wit_EngineCommands_9 : ∃ (s : State) (e : Fin 4096) (c : Cmd) (k : SwCopy) (f : SwFrame), s.sw.copies.find? (fun k => k.out == 23 && k.ep == e.val) = some k ∧ (s.inflight e.val).find? (fun c => c.op == 2 && c.phase == .waiting) = some c ∧ s.frameOf k = some f ∧ k.done = true ∧ f.ended = true ∧ (s.epAt e.val).ty = 0 ∧ f.bad = false ∧ (s.outBytes f 23).length ≤ c.f 0x18 2 ∧ (recordAt s c + 16 ≤ c.f 0x10 8 ∨ c.f 0x10 8 + (s.outBytes f 23).length ≤ recordAt s c) := by
  exact ⟨(let s := wRun wOn 0 0 2 [0, 0, 0, 0x80, 0, 0, 0, 0, 64]; { s with sw := { s.sw with frames := [⟨3, 2, 1, 2, false, 0, 0, 1, [9, 9], 12, 64, [], 0, true, false, none, none, none⟩], copies := [⟨4, 3, 2, 23, 0, 5, 1, false, true, 1, 0, true, true, 0, 0, none⟩] } }.setEp 5 { s.epAt 5 with cqBase := 0x80001000 }), 5, wCmd 2 [0, 0, 0, 0x80, 0, 0, 0, 0, 64], ⟨4, 3, 2, 23, 0, 5, 1, false, true, 1, 0, true, true, 0, 0, none⟩, ⟨3, 2, 1, 2, false, 0, 0, 1, [9, 9], 12, 64, [], 0, true, false, none, none, none⟩, by decide⟩

theorem wit_EngineCommands_10 : ∃ (s : State) (e : Fin 4096) (tag : BitVec 16) (c : Cmd), s.passed e.val tag.toNat 5 1 = some c ∧ ((s.inflight c.ep).filter (fun k => k.phase == .waiting)).length < (s.epAt c.ep).timers ∧ s.vt ≤ c.f 0x10 8 := by
  exact ⟨(let s := wPass wOn 5 0 1 [100]; s.setEp 5 { s.epAt 5 with timers := 1 }), 5, 7, { wCmd 1 [100] with phase := .passed }, by decide⟩

theorem wit_EngineCommands_11 : ∃ (s : State) (e : Fin 4096) (tag : BitVec 16) (c : Cmd), s.passed e.val tag.toNat 5 1 = some c ∧ ((s.inflight c.ep).filter (fun k => k.phase == .waiting)).length < (s.epAt c.ep).timers ∧ c.f 0x10 8 < s.vt := by
  exact ⟨(let s := wPass { wOn with vt := 200 } 5 0 1 [100]; s.setEp 5 { s.epAt 5 with timers := 1 }), 5, 7, { wCmd 1 [100] with phase := .passed }, by decide⟩

theorem wit_EngineCommands_12 : ∃ (s : State) (e : Fin 4096) (tag : BitVec 16) (c : Cmd), s.dev = .active ∧ s.cmdOf e.val tag.toNat = some c ∧ (s.epAt e.val).ty = 5 ∧ c.phase = .waiting := by
  exact ⟨wRun wOn 5 0 1 [100], 5, 7, wCmd 1 [100], by decide⟩

theorem wit_TownHallOperations_1 : ∃ (s : State) (o : EpOp) (e : Nat), s.ep.op = some o ∧ o.msg = 1 ∧ o.target = none ∧ o.mail = false ∧ s.createCheck o.district = (Code.DONE, e) := by
  exact ⟨wCreate, ⟨1, 3, false, false, 0, none⟩, 7, by decide⟩

theorem wit_TownHallOperations_2 : ∃ (s : State) (o : EpOp), s.ep.op = some o ∧ o.msg = 2 ∧ o.target = none ∧ o.mail = false ∧ s.nameCheck o.district (s.req 0x08 2) true = Code.DONE ∧ (s.epAt (s.req 0x08 2)).sqHead = (s.epAt (s.req 0x08 2)).sqTail ∧ (s.epAt (s.req 0x08 2)).sqTail < 65536 ∧ s.inflight (s.req 0x08 2) = [] := by
  exact ⟨wStage (wOp (wEp wOn 5 0) 2) [5], ⟨2, 3, false, false, 0, none⟩, by decide⟩

theorem wit_TownHallOperations_3 : ∃ (s : State) (o : EpOp) (e : Fin 4096), s.ep.op = some o ∧ o.target = some e.val ∧ o.mail = false ∧ (s.epAt e.val).live = true ∧ (s.epAt e.val).dying = true ∧ s.inflight e.val = [] ∧ s.ep.restart.contains (s.epAt e.val).district = false := by
  exact ⟨(let s := (wOp (wEp wOn 5 0) 2).setEp 5 { (wEp wOn 5 0).epAt 5 with dying := true }; { s with ep := { s.ep with op := some ⟨2, 3, false, false, 0, some 5⟩ } }), ⟨2, 3, false, false, 0, some 5⟩, 5, by decide⟩

theorem wit_TownHallOperations_4 : ∃ (s : State) (o : EpOp), s.ep.op = some o ∧ o.msg = 3 ∧ o.target = none ∧ o.mail = false ∧ s.req 0x0A 1 = 2 ∧ s.resizeCheck o.district (s.req 0x08 2) 2 (s.req 0x0C 4) = Code.DONE := by
  exact ⟨wStage (wOp (wEp wOn 0 0) 3) [0x00020005, 40], ⟨3, 3, false, false, 0, none⟩, by decide⟩

theorem wit_TownHallOperations_5 : ∃ (s : State) (o : EpOp), s.ep.op = some o ∧ o.msg = 3 ∧ o.target = none ∧ o.mail = false ∧ s.req 0x0A 1 = 0 ∧ s.resizeCheck o.district (s.req 0x08 2) 0 (s.req 0x0C 4) = Code.DONE ∧ (s.epAt (s.req 0x08 2)).credits ≤ s.req 0x0C 4 := by
  exact ⟨(wStage (wOp (wEp wOn 5 0) 3) [5, 40]).wr Fd.SYS_POOL_FREE0_FREE_CREDITS 50, ⟨3, 3, false, false, 0, none⟩, by decide⟩

theorem wit_TownHallOperations_6 : ∃ (s : State) (e : Fin 4096) (z : Resize), (s.epAt e.val).resize = some z ∧ s.occupancy e.val z.kind ≤ z.new ∧ s.ep.mbWait.find? (fun w => w.ep == e.val) = none := by
  exact ⟨(wEp wOn 5 0).setEp 5 { (wEp wOn 5 0).epAt 5 with overdrawn := 1, resize := some ⟨0, 9, 8, 0⟩ }, 5, ⟨0, 9, 8, 0⟩, by decide⟩

theorem wit_TownHallOperations_7 : ∃ (s : State) (o : EpOp), s.ep.op = some o ∧ o.msg = 4 ∧ o.target = none ∧ o.mail = false ∧ s.req 0x08 2 = 0xFFFF := by
  exact ⟨wStage (wOp wOn 4) [0xFFFF], ⟨4, 3, false, false, 0, none⟩, by decide⟩

theorem wit_TownHallOperations_8 : ∃ (s : State) (o : EpOp), s.ep.op = some o ∧ o.msg = 5 ∧ o.target = none ∧ o.mail = false ∧ s.req 0x0A 1 = 1 ∧ s.nameCheck o.district (s.req 0x08 2) true = Code.DONE ∧ (s.epAt (s.req 0x08 2)).planPin = false ∧ (s.epAt (s.req 0x08 2)).rtPin = false ∧ (s.epAt (s.req 0x08 2)).slot.isSome = true ∧ 32 < s.unpinnedSlots ∧ s.rtPins o.district < s.rd Fd.SYS_EP_CFG_RT_PIN_MAX := by
  exact ⟨(wStage (wOp (wEp wOn 5 0) 5) [0x10005]).wr Fd.SYS_EP_CFG_RT_PIN_MAX 3, ⟨5, 3, false, false, 0, none⟩, by decide⟩

theorem wit_TownHallOperations_9 : ∃ (s : State) (d : Fin 64), s.mailReady d.val = true ∧ s.mailStands d.val = true ∧ s.poisoned (s.mailAddr d.val) 64 = false ∧ s.mailCheck d.val (s.le (s.mailAddr d.val) 2) (s.byte (s.mailAddr d.val + 2)).toNat (s.bytes (s.mailAddr d.val) 64) ≠ Code.DONE := by
  exact ⟨wMail.store 0x80003102 [9], 3, by decide⟩

theorem wit_TownHallOperations_10 : ∃ (s : State) (d : Fin 64), s.mailReady d.val = true ∧ s.mailStands d.val = true ∧ s.poisoned (s.mailAddr d.val) 64 = false ∧ s.mailCheck d.val (s.le (s.mailAddr d.val) 2) (s.byte (s.mailAddr d.val + 2)).toNat (s.bytes (s.mailAddr d.val) 64) = Code.DONE ∧ (s.byte (s.mailAddr d.val + 2)).toNat ≠ 1 := by
  exact ⟨wMail, 3, by decide⟩

theorem wit_TownHallOperations_11 : ∃ (s : State) (d : Fin 64), s.dev = .active ∧ d.val ≠ 0 ∧ (s.districtItem d.val).isSome = true ∧ s.inCall d.val = false ∧ placeOf (s.mboxPage d.val) = .dram ∧ s.ep.eps.all (fun p => p.2.district != d.val || !p.2.live || (!p.2.dying && p.2.outstanding == 0)) = true ∧ s.ep.inflight.all (fun c => (s.epAt c.ep).district != d.val) = true := by
  exact ⟨{ (wEp wOn 5 0) with plan := [⟨1, 0, 0x0201, [3, 1, 0, 0, 0xFFFF]⟩] }.setReg Rg.SYS_MBOX_BASE_LO 0x80000000, 3, by decide⟩

theorem wit_TownHallOperations_12 : ∃ (s : State) (d : Fin 64), s.dev = .active ∧ d.val ≠ 0 ∧ (s.districtItem d.val).isSome = true ∧ s.inCall d.val = true := by
  exact ⟨{ (wCy 0).wr (Fd.WG_CY_STATUS_STATE 1) 2 with now := 4 }, 2, by decide⟩

theorem wit_TownHallOperations_13 : ∃ (s : State) (who : Who) (high : Bool) (w : Word), s.passesChecks (s.issuer who) 4 (if high then Rg.SYS_EP0_RINGS_HI else Rg.SYS_EP0_RINGS_LO) w false false = true ∧ s.inflight 0 = [] ∧ (s.epAt 0).outstanding = 0 := by
  exact ⟨wOn, hall, false, 0x80002001, by decide⟩

theorem wit_CameraFrames_1 : ∃ (s : State) (c : Fin 4) (p : TrigFrame), CamRuns s c.val ∧ (s.camera c.val).trig = some p ∧ (s.camera c.val).bound = none := by
  exact ⟨(wCam { Cam.reset with trig := some ⟨6, 200000000⟩ }), 1, ⟨6, 200000000⟩, by decide⟩

theorem wit_CameraFrames_2 : ∃ (s : State) (c : Fin 4), CamRuns s c.val ∧ (s.camera c.val).trig = none ∧ (s.camera c.val).bound = none ∧ 0 < s.camFps c.val ∧ s.camFps c.val ≤ 60 := by
  exact ⟨(wCam Cam.reset), 1, by decide⟩

theorem wit_CameraFrames_3 : ∃ (s : State) (c : Fin 4) (f : BitVec 16) (p : TrigFrame) (rest : List TrigFrame), s.camLive c.val = true ∧ (s.camera c.val).open_ = false ∧ (s.camera c.val).due = p :: rest ∧ (s.camera c.val).faulty p.j f.toNat = false := by
  exact ⟨(wCam { Cam.reset with due := [⟨6, 200000000⟩] }), 1, 6, ⟨6, 200000000⟩, [], by decide⟩

theorem wit_CameraFrames_4 : ∃ (s : State) (c : Fin 4) (f : BitVec 16) (p : TrigFrame) (rest : List TrigFrame), s.camLive c.val = true ∧ (s.camera c.val).open_ = false ∧ (s.camera c.val).due = p :: rest ∧ ((s.camera c.val).num = some f.toNat ∨ later f.toNat (idxSub p.j (s.camera c.val).jRun) = true) := by
  exact ⟨(wCam { Cam.reset with due := [⟨6, 200000000⟩], num := some 6 }), 1, 6, ⟨6, 200000000⟩, [], by decide⟩

theorem wit_CameraFrames_5 : ∃ (s : State) (c : Fin 4) (f : BitVec 16), s.camLive c.val = true := by
  exact ⟨wMir, 1, 6, by decide⟩

theorem wit_CameraFrames_6 : ∃ (s : State) (c : Fin 4) (f : BitVec 16), s.camLive c.val = true ∧ (s.camera c.val).open_ = false ∧ (s.camera c.val).due = [] := by
  exact ⟨wMir, 1, 6, by decide⟩

theorem wit_CameraFrames_7 : ∃ (s : State) (c : Fin 4) (px : List Byte) (ns : BitVec 32) (p : TrigFrame), LineInTime s c.val px ns p ∧ s.ring c.val ((s.camera c.val).n % 128) = CamLine.none_ := by
  exact ⟨(wLine { Cam.reset with rx := some ⟨0, 0⟩, open_ := true, n := 130 }), 1, [1, 2, 3, 4, 5, 6, 7, 8], 100, ⟨0, 0⟩, by decide⟩

theorem wit_CameraFrames_8 : ∃ (s : State) (c : Fin 4) (px : List Byte) (ns : BitVec 32) (p : TrigFrame), LineInTime s c.val px ns p ∧ (s.camera c.val).line + 1 = s.camHeight c.val ∧ s.ring c.val ((s.camera c.val).n % 128) = CamLine.none_ ∧ (s.camera c.val).lost = false ∧ (s.camera c.val).err = false ∧ (s.camera c.val).step = true ∧ (s.camera c.val).pocBad = false ∧ s.pocFault c.val = false := by
  exact ⟨(wLine { Cam.reset with rx := some ⟨0, 0⟩, open_ := true, line := 1, step := true }), 1, [1, 2, 3, 4, 5, 6, 7, 8], 100, ⟨0, 0⟩, by decide⟩

theorem wit_CameraFrames_9 : ∃ (s : State) (c : Fin 4) (px : List Byte) (crc : Bool) (ns : BitVec 32) (p : TrigFrame), LineInTime s c.val px ns p ∧ (s.camera c.val).line + 1 < s.camHeight c.val ∧ s.ring c.val ((s.camera c.val).n % 128) = CamLine.none_ := by
  exact ⟨(wLine { Cam.reset with rx := some ⟨0, 0⟩, open_ := true }), 1, [1, 2, 3, 4, 5, 6, 7, 8], false, 100, ⟨0, 0⟩, by decide⟩

theorem wit_CameraFrames_10 : ∃ (s : State) (c : Fin 4) (px : List Byte) (crc : Bool) (ns : BitVec 32), s.camLive c.val = true ∧ s.ring c.val ((s.camera c.val).n % 128) = CamLine.none_ ∧ (s.pass ns.toNat).lineOk c.val px = false := by
  exact ⟨(wLine { Cam.reset with rx := some ⟨0, 0⟩, open_ := true }), 1, [1, 2, 3, 4, 5, 6, 7, 8], false, 90000, by decide⟩

theorem wit_CameraFrames_11 : ∃ (s : State) (c : Fin 4) (px : List Byte) (ns : BitVec 32) (p : TrigFrame), LineInTime s c.val px ns p ∧ s.ring c.val ((s.camera c.val).n % 128) = CamLine.none_ ∧ (s.camera c.val).crcPrev = true ∧ (s.camera c.val).crc = false := by
  exact ⟨(wLine { Cam.reset with rx := some ⟨0, 0⟩, open_ := true, crcPrev := true }), 1, [1, 2, 3, 4, 5, 6, 7, 8], 100, ⟨0, 0⟩, by decide⟩

theorem wit_CameraFrames_12 : ∃ (s : State) (c : Fin 4) (px : List Byte) (crc fe : Bool) (ns : BitVec 32), s.camLive c.val = true := by
  exact ⟨wMir, 1, [1, 2], false, true, 100, by decide⟩

theorem wit_CameraFrames_13 : ∃ (s : State) (c : Fin 4) (p : TrigFrame), CamRuns s c.val ∧ (s.camera c.val).open_ = true ∧ (s.camera c.val).rx = some p := by
  exact ⟨(wLine { Cam.reset with rx := some ⟨0, 0⟩, open_ := true }), 1, ⟨0, 0⟩, by decide⟩

theorem wit_CameraFrames_14 : ∃ (s : State) (c : Fin 4) (p : TrigFrame) (rest : List TrigFrame), CamRuns s c.val ∧ (s.camera c.val).open_ = false ∧ (s.camera c.val).due = p :: rest := by
  exact ⟨(wLine { Cam.reset with due := [⟨0, 0⟩] }), 1, ⟨0, 0⟩, [], by decide⟩

theorem wit_CameraFrames_15 : ∃ (s : State) (c : Fin 4), s.flag (Fd.SF_CAM_STATUS_LINK c.val) = true ∧ s.flag (Fd.SF_CAM_CTRL_RUN c.val) = true := by
  exact ⟨wMir, 1, by decide⟩

theorem wit_CameraFrames_16 : ∃ (s : State) (c : Fin 4), s.mirrorOn = true := by
  exact ⟨wMir, 1, by decide⟩

theorem wit_CameraSupplyAndTunnel_1 : ∃ (s : State) (who : Who) (c : Fin 4) (w : Word), s.passesChecks (s.issuer who) 4 (Rg.SF_CAM_CTRL c.val) w false false = true ∧ tbit w.toNat 0 = true ∧ (s.camItem c.val).isSome = true ∧ s.flag (Fd.SF_CAM_CTRL_RUN c.val) = false ∧ s.flag (Fd.SF_CAM_STATUS_LINK c.val) = true := by
  exact ⟨wMir.setFlag (Fd.SF_CAM_CTRL_RUN 1) false, hall, 1, 1, by decide⟩

theorem wit_CameraSupplyAndTunnel_2 : ∃ (s : State) (who : Who) (c : Fin 4) (w : Word) (i : Fin 8), s.passesChecks (s.issuer who) 4 (Rg.SF_CAM_CTRL c.val) w false false = true ∧ tbit w.toNat 0 = true ∧ (s.camItem c.val).isSome = true ∧ s.flag (Fd.SF_CAM_CTRL_RUN c.val) = false ∧ s.viewsOfCam c.val = [i.val] ∧ s.flag (Fd.SF_CAM_STATUS_LINK c.val) = true ∧ s.camFps c.val ≠ s.dspHz (i.val / 4) := by
  exact ⟨{ wMir with plan := ⟨11, 9, 0x0B02, [0, 50, 8, 160, 1100]⟩ :: wMirPlan }.setFlag (Fd.SF_CAM_CTRL_RUN 1) false, hall, 1, 1, 0, by decide⟩

theorem wit_CameraSupplyAndTunnel_3 : ∃ (s : State) (who : Who) (c : Fin 4) (w : Word), s.passesChecks (s.issuer who) 4 (Rg.SF_CAM_CTRL c.val) w false false = true ∧ tbit w.toNat 0 = false ∧ s.flag (Fd.SF_CAM_CTRL_RUN c.val) = true := by
  exact ⟨wMir.setFlag (Fd.SF_VIEW_STATE_RUN 0) true, hall, 1, 0, by decide⟩

theorem wit_CameraSupplyAndTunnel_4 : ∃ (s : State) (who : Who) (c : Fin 4) (w : Word), s.passesChecks (s.issuer who) 4 (Rg.SF_CAM_I2C c.val) w false false = true ∧ s.rd (Fd.SF_CAM_I2C_RESULT c.val) ≠ Code.BUSY := by
  exact ⟨wMir, hall, 1, 0x8110, by decide⟩

theorem wit_CameraSupplyAndTunnel_5 : ∃ (s : State) (c : Fin 4) (r : Fin 3) (data : Byte), s.rd (Fd.SF_CAM_I2C_RESULT c.val) = Code.BUSY := by
  exact ⟨(wMir.wr (Fd.SF_CAM_I2C_RESULT 1) Code.BUSY).setFlag (Fd.SF_CAM_I2C_RD 1) true, 1, 0, 0x5A, by decide⟩

theorem wit_CameraSupplyAndTunnel_6 : ∃ (s : State) (who : Who) (c : Fin 4) (w : Word), s.passesChecks (s.issuer who) 4 (Rg.SF_POC c.val) w false false = true ∧ tbit w.toNat 31 = true ∧ s.flag (Fd.SF_POC_ON c.val) = false ∧ (s.camera c.val).ext = false := by
  exact ⟨wMir, hall, 1, 0x80000000, by decide⟩

theorem wit_CameraSupplyAndTunnel_7 : ∃ (s : State) (who : Who) (c : Fin 4) (w : Word), s.passesChecks (s.issuer who) 4 (Rg.SF_POC c.val) w false false = true ∧ tbit w.toNat 31 = false ∧ (s.camera c.val).ext = false := by
  exact ⟨(wCam { Cam.reset with shorts := [5] }).setPoc 1 1, hall, 1, 0, by decide⟩

theorem wit_CameraSupplyAndTunnel_8 : ∃ (s : State) (c : Fin 4), s.mirrorOn = true ∧ s.pocOn c.val = true ∧ (s.camera c.val).shorts = [] := by
  exact ⟨wMir.setPoc 1 1, 1, by decide⟩

theorem wit_CameraSupplyAndTunnel_9 : ∃ (s : State) (c : Fin 4) (x y z : Nat), s.mirrorOn = true ∧ s.pocOn c.val = true ∧ (s.camera c.val).shorts = [x, y, z] ∧ s.now ≤ x + 60000000000 := by
  exact ⟨(wCam { Cam.reset with shorts := [0, 5, 9] }).setPoc 1 1, 1, 0, 5, 9, by decide⟩

theorem wit_CameraSupplyAndTunnel_10 : ∃ (s : State) (c : Fin 4), s.pocState c.val = 2 := by
  exact ⟨(wCam { Cam.reset with shorts := [5], offAt := 5 }).setPoc 1 2, 1, by decide⟩

theorem wit_CameraSupplyAndTunnel_11 : ∃ (s : State) (c : Fin 4), s.mirrorOn = true ∧ (s.camera c.val).ext = false := by
  exact ⟨wMir.setPoc 1 1, 1, by decide⟩

theorem wit_CameraSupplyAndTunnel_12 : ∃ (s : State) (c : Fin 4), (s.camera c.val).ext = true ∧ s.flag (Fd.SF_POC_ON c.val) = true := by
  exact ⟨((wCam { Cam.reset with ext := true }).setPoc 1 5).setFlag (Fd.SF_POC_ON 1) true, 1, by decide⟩

theorem wit_CameraSupplyAndTunnel_13 : ∃ (s : State) (c : Fin 4) (ma : BitVec 10), s.mirrorOn = true ∧ s.pocState c.val = 1 ∧ ma.toNat < 30 := by
  exact ⟨wMir.setPoc 1 1, 1, 20, by decide⟩

theorem wit_CameraSupplyAndTunnel_14 : ∃ (s : State) (c : Fin 4) (ma : BitVec 10), s.mirrorOn = true ∧ s.pocOn c.val = true ∧ 30 ≤ ma.toNat := by
  exact ⟨wMir.setPoc 1 4, 1, 30, by decide⟩

theorem wit_DisplayIntegrity_1 : ∃ (s : State) (d : Fin 2) (k : Nat), s.mirrorOn = true ∧ (s.dspItem d.val).isSome = true ∧ (s.dsp d.val).k = some k ∧ (s.dsp d.val).bound = none := by
  exact ⟨(wDsp { Dsp.reset with k := some 4, dec := 2 }), 0, 4, by decide⟩

theorem wit_DisplayIntegrity_2 : ∃ (s : State) (d : Fin 2) (i : Nat) (r : SwapReq), s.mirrorOn = true ∧ (s.dspItem d.val).isSome = true ∧ i ∈ s.viewsOf d.val ∧ (s.view i).swap = some r ∧ r.ready = true := by
  exact ⟨(let s := wView { SView.reset with swap := some ⟨⟨5, 7⟩, 0, 0, true, [1, 2]⟩ }; s.setDsp 0 { Dsp.reset with k := some 4 }), 0, 0, ⟨⟨5, 7⟩, 0, 0, true, [1, 2]⟩, by decide⟩

theorem wit_DisplayIntegrity_3 : ∃ (s : State) (d : Fin 2) (i : Nat) (p : PanReq) (k : Nat), s.mirrorOn = true ∧ (s.dspItem d.val).isSome = true ∧ i ∈ s.viewsOf d.val ∧ (s.view i).pan = some p ∧ (s.view i).target = none ∧ (s.dsp d.val).k = some k ∧ (s.dsp d.val).bound = none ∧ s.gridS d.val (k + 1) ≤ p.time + 100000000 := by
  exact ⟨(let s := wView { SView.reset with pan := some ⟨⟨5, 7⟩, 100, 133333333, false⟩ }; s.setDsp 0 { Dsp.reset with k := some 3 }), 0, 0, ⟨⟨5, 7⟩, 100, 133333333, false⟩, 3, by decide⟩

theorem wit_DisplayIntegrity_4 : ∃ (s : State) (d : Fin 2) (late : BitVec 4) (room : BitVec 8) (f k : Nat), s.mirrorOn = true ∧ (s.dsp d.val).k = some f ∧ (s.dsp d.val).slice = some k ∧ k + 1 < s.dspHeight d.val / 16 ∧ (s.dsp d.val).waits = [] ∧ s.viewsOf d.val = [] := by
  exact ⟨(let s := { wMir with plan := ⟨11, 1, 0x0B02, [0, 30, 8, 32, 3000]⟩ :: wRam }; s.setDsp 0 { Dsp.reset with k := some 4, start := 5000, crc := 77, slice := some 0, rows := [1, 2, 3] }), 0, 0, 9, 4, 0, by decide⟩

theorem wit_DisplayIntegrity_5 : ∃ (s : State) (d : Fin 2) (k : BitVec 32) (crc : BitVec 32) (flags : BitVec 16) (ns : BitVec 32) (own : Nat), s.mirrorOn = true ∧ s.flag (Fd.SF_DSP_STATUS_LINK d.val) = true ∧ (s.dsp d.val).k = some (k.toNat + 1) ∧ (s.dsp d.val).waits = [⟨k.toNat, own, 0⟩] ∧ (s.pass ns.toNat).vt < s.gridS d.val (k.toNat + 2) ∧ flags.toNat ≤ 1 ∧ k.toNat + 1 < 2 ^ 32 := by
  exact ⟨(wDsp { Dsp.reset with k := some 4, waits := [⟨3, 0x1234, 0⟩] }).setFlag (Fd.SF_DSP_STATUS_LINK 0) true, 0, 3, 0x1234, 0, 100, 0x1234, by decide⟩

theorem wit_DisplayIntegrity_6 : ∃ (s : State) (d : Fin 2) (k own : Nat), s.mirrorOn = true ∧ (s.dsp d.val).waits = [⟨k, own, 0⟩] := by
  exact ⟨(wDsp { Dsp.reset with k := some 6, waits := [⟨3, 0x1234, 0⟩] }), 0, 3, 0x1234, by decide⟩

theorem wit_DisplayIntegrity_7 : ∃ (s : State) (who : Who) (d : Fin 2), s.passesChecks (s.issuer who) 4 (Rg.SF_INTEG_STATE d.val) 0x80000000#32 false false = true ∧ (s.dsp d.val).dec = 3 ∧ s.rd (Fd.SF_INTEG_STATE_BAD d.val) = 0 := by
  exact ⟨(wDsp { Dsp.reset with dec := 3 }), hall, 0, by decide⟩

theorem wit_DisplayIntegrity_8 : ∃ (s : State) (who : Who) (w : Word), s.passesChecks (s.issuer who) 4 Rg.SF_HEARTBEAT w false false = true ∧ getBits w.toNat 31 16 = (s.rd Fd.SF_HEARTBEAT_SEQ + 1) % 65536 := by
  exact ⟨{ wMir with sf := { wMir.sf with hbAny := true } }, hall, 0x10002, by decide⟩

theorem wit_DisplayIntegrity_9 : ∃ (s : State) (d e : Fin 2), s.mirrorOn = true ∧ (s.dspItem d.val).isSome = true ∧ s.sf.monBack = true := by
  exact ⟨({ wDsp { Dsp.reset with k := some 4 } with sf := { (wDsp { Dsp.reset with k := some 4 }).sf with monBack := true } }).setFlag Fd.SF_MON_STATUS_ABSENT true, 0, 1, by decide⟩

theorem wit_DisplayIntegrity_10 : ∃ (s : State) (who : Who) (w : Word), s.passesChecks (s.issuer who) 4 Rg.SF_HEARTBEAT w false false = true ∧ s.sf.hbAny = true ∧ s.flag Fd.SF_MON_STATUS_ABSENT = false ∧ getBits w.toNat 31 16 ≠ (s.rd Fd.SF_HEARTBEAT_SEQ + 1) % 65536 := by
  exact ⟨{ wMir with sf := { wMir.sf with hbAny := true } }, hall, 0x20002, by decide⟩

theorem wit_DisplayIntegrity_11 : ∃ (s : State), s.mirrorOn = true := by
  exact ⟨wMir, by decide⟩

theorem wit_DisplayIntegrity_12 : ∃ (s : State) (d : Fin 2), s.mirrorOn = true := by
  exact ⟨wMir, 1, by decide⟩

theorem wit_DisplayIntegrity_13 : ∃ (s : State) (d : Fin 2), s.mirrorOn = true := by
  exact ⟨wMir.setFlag (Fd.SF_DSP_STATUS_LINK 1) true, 1, by decide⟩

theorem wit_ViewCommands_1 : ∃ (s : State) (e : Fin 4096) (tag : BitVec 16) (i : Nat) (c : Cmd), ViewReady s e.val tag.toNat 1 i c ∧ (s.panItem i).isSome = true ∧ (s.view i).pan = none ∧ i < 8 := by
  exact ⟨wViewCmd wMir 1 [0xE8, 3], 5, 7, 0, wVp 1 [0xE8, 3], by decide⟩

theorem wit_ViewCommands_2 : ∃ (s : State) (e : Fin 4096) (tag : BitVec 16) (i : Nat) (c : Cmd), ViewReady s e.val tag.toNat 1 i c ∧ s.panItem i = none := by
  exact ⟨wViewCmd { wMir with plan := wRam } 1 [0xE8, 3], 5, 7, 0, wVp 1 [0xE8, 3], by decide⟩

theorem wit_ViewCommands_3 : ∃ (s : State) (e : Fin 4096) (tag : BitVec 16) (i : Nat) (c : Cmd), ViewReady s e.val tag.toNat 2 i c ∧ s.flag (Fd.SF_CAM_CTRL_RUN (s.viewCam i)) = true ∧ (s.view i).swap = none := by
  exact ⟨wViewCmd wMir 2 (leBytes 8 0x80000100 ++ leBytes 4 64), 5, 7, 0, wVp 2 (leBytes 8 0x80000100 ++ leBytes 4 64), by decide⟩

theorem wit_ViewCommands_4 : ∃ (s : State) (e : Fin 4096) (tag : BitVec 16) (i : Nat) (c : Cmd), ViewReady s e.val tag.toNat 2 i c ∧ s.flag (Fd.SF_CAM_CTRL_RUN (s.viewCam i)) = true ∧ (s.view i).swap ≠ none := by
  exact ⟨wViewCmd (wView { SView.reset with swap := some ⟨⟨5, 9⟩, 0, 0, false, []⟩ }) 2 [], 5, 7, 0, wVp 2 [], by decide⟩

theorem wit_ViewCommands_5 : ∃ (s : State) (d : Fin 2) (v : Fin 4) (r : SwapReq), s.mirrorOn = true ∧ (s.view (4 * d.val + v.val)).swap = some r ∧ r.ready = false ∧ r.addr ≠ 0 ∧ s.shopFetch r.addr r.len = (s, true) ∧ s.mapCheck (4 * d.val + v.val) (s.bytes r.addr r.len) = none := by
  exact ⟨wSwap wMap, 0, 0, ⟨⟨5, 7⟩, 0x80000100, 64, false, []⟩, by decide⟩

theorem wit_ViewCommands_6 : ∃ (s : State) (d : Fin 2) (v : Fin 4) (r : SwapReq) (c : Cmd) (code slice : Nat), s.mirrorOn = true ∧ (s.view (4 * d.val + v.val)).swap = some r ∧ r.ready = false ∧ r.addr ≠ 0 ∧ s.shopFetch r.addr r.len = (s, true) ∧ s.mapCheck (4 * d.val + v.val) (s.bytes r.addr r.len) = some (code, slice) ∧ s.cmdOf r.from_.ep r.from_.tag = some c := by
  exact ⟨wSwap [1, 2, 3, 4], 0, 0, ⟨⟨5, 7⟩, 0x80000100, 4, false, []⟩, wCmd 2 [], Code.MAP_FORMAT, 0xFFFF, by decide⟩

theorem wit_ViewCommands_7 : ∃ (s : State) (e : Fin 4096) (tag : BitVec 16) (i : Nat) (c : Cmd), ViewReady s e.val tag.toNat 3 i c ∧ c.f 0x10 8 = 0 ∧ (s.plane i).req = none := by
  exact ⟨wViewCmd wMir 3 [], 5, 7, 0, wVp 3 [], by decide⟩

theorem wit_ViewCommands_8 : ∃ (s : State) (e : Fin 4096) (tag : BitVec 16) (i : Nat) (c : Cmd), ViewReady s e.val tag.toNat 4 i c ∧ (s.view i).tap = none := by
  exact ⟨wViewCmd wMir 4 [1], 5, 7, 0, wVp 4 [1], by decide⟩

theorem wit_ViewCommands_9 : ∃ (s : State) (who : Who) (j : Fin 8) (w : Word), s.passesChecks (s.issuer who) 4 (Rg.SF_OVL_BASE_LO j.val) w false false = true ∧ (s.plane j.val).req = none := by
  exact ⟨wMir, hall, 3, 0x1240, by decide⟩

theorem wit_ViewCommands_10 : ∃ (s : State) (who : Who) (i : Fin 8) (w : Word), s.passesChecks (s.issuer who) 4 (Rg.SF_TAP_CFG i.val) w false
      (w.toNat % 65536 != s.rd (Fd.SF_TAP_CFG_HANDLE i.val) && (s.item 0x0901 (w.toNat % 65536)).isNone) = true ∧ (s.view i.val).tap = none ∧ (s.flag (Fd.SF_TAP_CFG_ON i.val) = false ∨ w.toNat % 65536 = s.rd (Fd.SF_TAP_CFG_HANDLE i.val)) := by
  exact ⟨{ wMir with plan := ⟨9, 0, 0x0901, [6, 0, 0, 0, 5, 4, 0, 0, 0]⟩ :: wMirPlan }, hall, 3, 0x80020006, by decide⟩

theorem wit_PowerCommands_1 : ∃ (s : State) (e : Fin 4096) (tag : BitVec 16) (n : Nat) (c : Cmd), KerbReady s e.val tag.toNat 1 n c ∧ isBridge n = false ∧ s.waitsPeriod n (c.f 0x10 2) (c.f 0x12 2) = false ∧ s.layRefuses n (s.chan n).layOld true = Code.DONE ∧ s.decideOn n = Code.DONE ∧ s.suspended (s.chFeed n) = false := by
  exact ⟨wPwr wKb 10 1 [0xE8, 3], 5, 7, 10, wPc 1 [0xE8, 3], by decide⟩

theorem wit_PowerCommands_2 : ∃ (s : State) (e : Fin 4096) (tag : BitVec 16) (n : Nat) (c : Cmd), KerbReady s e.val tag.toNat 1 n c ∧ isBridge n = false ∧ s.waitsPeriod n (c.f 0x10 2) (c.f 0x12 2) = false ∧ s.layRefuses n (s.chan n).layOld true ≠ Code.DONE := by
  exact ⟨wPwr ((wKb.wr (Fd.PD_DIAG_STATUS_LAYBY 2) 1).wr (Fd.PD_DIAG_STATUS_CAUSE 2) 4) 2 1 [0xE8, 3], 5, 7, 2, wPc 1 [0xE8, 3], by decide⟩

theorem wit_PowerCommands_3 : ∃ (s : State) (e : Fin 4096) (tag : BitVec 16) (n : Nat) (c : Cmd), KerbReady s e.val tag.toNat 1 n c ∧ s.waitsPeriod n (c.f 0x10 2) (c.f 0x12 2) = true ∧ s.periodWaits n = [] ∧ (s.chan n).pwmNext = none := by
  exact ⟨(let s := wPwr wKb 20 1 [0xF4, 1, 100, 0]; (wOut 20 { s with plan := ⟨1, 4, 0x0601, [20, 0, 20, 1, 0, 0, 0, 0, 0, 0, 0, 3]⟩ :: s.plan }).setChan 20 { wKb.chan 20 with duty := 300, hz := 200 }), 5, 7, 20, wPc 1 [0xF4, 1, 100, 0], by decide⟩

theorem wit_PowerCommands_4 : ∃ (s : State) (e : Fin 4096) (tag : BitVec 16) (n : Nat) (c : Cmd), KerbReady s e.val tag.toNat 1 n c ∧ isBridge n = false ∧ s.waitsPeriod n (c.f 0x10 2) (c.f 0x12 2) = false ∧ s.layRefuses n (s.chan n).layOld true = Code.DONE ∧ s.inLayby n = false ∧ s.decideOn n ≠ Code.DONE := by
  exact ⟨wPwr (wKb.wr (Fd.PD_CH_STATUS_LATCHED 2) 1) 2 1 [0xE8, 3], 5, 7, 2, wPc 1 [0xE8, 3], by decide⟩

theorem wit_PowerCommands_5 : ∃ (s : State) (e : Fin 4096) (tag : BitVec 16) (n : Nat) (c : Cmd), KerbReady s e.val tag.toNat 2 n c ∧ s.layRefuses n (s.chan n).layOld false = Code.DONE := by
  exact ⟨wPwr (wOut 10 (wKb.wr (Fd.PD_CH_STATUS_LATCHED 10) 1)) 10 2 [], 5, 7, 10, wPc 2 [], by decide⟩

theorem wit_PowerCommands_6 : ∃ (s : State) (e : Fin 4096) (tag : BitVec 16) (n : Nat) (c : Cmd), KerbReady s e.val tag.toNat 3 n c ∧ isBridge n = true ∧ (c.f 0x10 1 = 1 ∨ c.f 0x10 1 = 2) ∧ c.f 0x12 2 ≠ 0 ∧ s.out n = false ∧ s.layRefuses n (s.chan n).layOld true = Code.DONE ∧ s.decideOn n = Code.DONE ∧ s.suspended (s.chFeed n) = false := by
  exact ⟨wPwr wKb 48 3 [1, 0, 0x90, 1], 5, 7, 48, wPc 3 [1, 0, 0x90, 1], by decide⟩

theorem wit_PowerCommands_7 : ∃ (s : State) (e : Fin 4096) (tag : BitVec 16) (n : Nat) (c : Cmd), KerbReady s e.val tag.toNat 3 n c ∧ isBridge n = true ∧ ((c.f 0x10 1 = 2 ∧ (s.chan n).mode = 1) ∨ (c.f 0x10 1 = 1 ∧ (s.chan n).mode = 2)) ∧ c.f 0x12 2 ≠ 0 ∧ s.out n = true ∧ s.layRefuses n (s.chan n).layOld true = Code.DONE ∧ s.decideOn n = Code.DONE ∧ s.suspended (s.chFeed n) = false := by
  exact ⟨(let s := wPwr (wOut 48 wKb) 48 3 [2, 0, 0x90, 1]; s.setChan 48 { s.chan 48 with mode := 1, duty := 500 }), 5, 7, 48, wPc 3 [2, 0, 0x90, 1], by decide⟩

theorem wit_PowerCommands_8 : ∃ (s : State) (e : Fin 4096) (tag : BitVec 16) (n : Nat) (c : Cmd), KerbReady s e.val tag.toNat 3 n c ∧ isBridge n = true ∧ c.f 0x10 1 = 0 ∧ s.layRefuses n (s.chan n).layOld false = Code.DONE := by
  exact ⟨wPwr (wOut 48 wKb) 48 3 [0, 0, 0x90, 1], 5, 7, 48, wPc 3 [0, 0, 0x90, 1], by decide⟩

theorem wit_PowerCommands_9 : ∃ (s : State) (e : Fin 4096) (tag : BitVec 16) (n : Nat) (c : Cmd), KerbReady s e.val tag.toNat 4 n c ∧ s.dramRange (s.epAt c.ep).district 0 (c.f 0x10 8) 32 2 = true ∧ (recordAt s c + 16 ≤ c.f 0x10 8 ∨ c.f 0x10 8 + 32 ≤ recordAt s c) := by
  exact ⟨wPwr { wKb with plan := wRam } 2 4 [0, 0, 0, 0x80], 5, 7, 2, wPc 4 [0, 0, 0, 0x80], by decide⟩

theorem wit_PowerCommands_10 : ∃ (s : State) (e : Fin 4096) (tag : BitVec 16) (n : Nat) (c : Cmd), KerbReady s e.val tag.toNat 5 n c ∧ s.waitEvents c.ep < 4 := by
  exact ⟨wPwr wKb 2 5 [], 5, 7, 2, wPc 5 [], by decide⟩

theorem wit_PowerCommands_11 : ∃ (s : State) (e : Fin 4096) (tag : BitVec 16) (n : Nat) (c : Cmd), KerbReady s e.val tag.toNat 5 n c ∧ 4 ≤ s.waitEvents c.ep := by
  exact ⟨(let s := wPwr wKb 2 5 []; { s with ep := { s.ep with inflight := s.ep.inflight ++ [{ wCmd 5 [] with tag := 1 }, { wCmd 5 [] with tag := 2 }, { wCmd 5 [] with tag := 3 }, { wCmd 5 [] with tag := 4 }] } }), 5, 7, 2, wPc 5 [], by decide⟩

theorem wit_PowerSwitching_1 : ∃ (s : State) (who : Who) (n : Fin 52) (w : Word), n.val + s.gangSize n.val ≤ 52 ∧ isBridge n.val = false ∧ ctrlOn w.toNat = true ∧ s.passesChecks (s.issuer who) 4 (Rg.PD_CH_CTRL n.val) w ((s.pwrHolder n.val).isSome || s.chLead n.val != n.val) (s.ctrlBad n.val w.toNat) = true ∧ s.ctrlRefuses n.val w.toNat = Code.DONE ∧ s.waitsPeriod n.val (ctrlDuty w.toNat) (ctrlHz w.toNat) = false ∧ s.inLayby n.val = false ∧ s.suspended (s.chFeed n.val) = false := by
  exact ⟨wKb, hall, 2, 0x001F4001, by decide⟩

theorem wit_PowerSwitching_2 : ∃ (s : State) (who : Who) (n : Fin 52) (w : Word), n.val + s.gangSize n.val ≤ 52 ∧ ctrlOn w.toNat = false ∧ s.passesChecks (s.issuer who) 4 (Rg.PD_CH_CTRL n.val) w ((s.pwrHolder n.val).isSome || s.chLead n.val != n.val) (s.ctrlBad n.val w.toNat) = true ∧ s.ctrlRefuses n.val w.toNat = Code.DONE := by
  exact ⟨wOut 2 wKb, hall, 2, 0, by decide⟩

theorem wit_PowerSwitching_3 : ∃ (s : State) (who : Who) (n : Fin 52) (w : Word), s.inLayby n.val = false ∧ s.hot n.val = false ∧ s.passesChecks (s.issuer who) 4 (Rg.PD_CH_CTRL n.val) w ((s.pwrHolder n.val).isSome || s.chLead n.val != n.val) (s.ctrlBad n.val w.toNat) = true ∧ s.ctrlRefuses n.val w.toNat ≠ Code.DONE := by
  exact ⟨wKb.wr (Fd.PD_CH_STATUS_LATCHED 2) 1, hall, 2, 0x001F4001, by decide⟩

theorem wit_PowerSwitching_4 : ∃ (s : State) (n : Fin 52) (duty hz : Nat), s.kb.up = true ∧ isBridge n.val = false ∧ s.periodWaits n.val = [] ∧ s.out n.val = true ∧ 0 < (s.chan n.val).hz ∧ (s.chan n.val).pwmNext = some (duty, hz) ∧ s.decideOn n.val = Code.DONE ∧ s.suspended (s.chFeed n.val) = false := by
  exact ⟨(let s := wOut 10 wKb; s.setChan 10 { s.chan 10 with duty := 500, hz := 100, pwmAt := 90, pwmNext := some (300, 200) }), 10, 300, 200, by decide⟩

theorem wit_PowerSwitching_5 : ∃ (s : State) (n : Fin 52) (c : Cmd), s.kb.up = true ∧ isBridge n.val = false ∧ s.periodWaits n.val = [c] ∧ s.cmdOf c.ep c.tag = some c ∧ s.out n.val = true ∧ 0 < (s.chan n.val).hz ∧ (s.chan n.val).pwmNext = none ∧ s.inLayby n.val = false ∧ s.hot n.val = false ∧ s.decideOn n.val = Code.DONE ∧ s.suspended (s.chFeed n.val) = false := by
  exact ⟨(let s := wOut 20 (wPwr wKb 20 1 [0xF4, 1, 100, 0]); { s with ep := { s.ep with inflight := [wCmd 1 [0xF4, 1, 100, 0]] } }.setChan 20 { wKb.chan 20 with duty := 300, hz := 200, pwmAt := 90 }), 20, wCmd 1 [0xF4, 1, 100, 0], by decide⟩

theorem wit_PowerSwitching_6 : ∃ (s : State) (n : Fin 52) (mv : BitVec 16) (e : Nat), s.kb.up = true ∧ (s.chan n.val).inrushEnd = some e ∧ s.inrushOk n.val mv.toNat = true := by
  exact ⟨(let s := wOut 2 { wKb with plan := [⟨1, 0, 0x0601, [2, 0, 2, 1, 1, 0, 0, 2, 3, 5, 0, 3]⟩] }; s.setChan 2 { s.chan 2 with inrushEnd := some 70 }), 2, 12000, 70, by decide⟩

theorem wit_PowerSwitching_7 : ∃ (s : State) (n : Fin 52) (mv : BitVec 16) (e : Nat), n.val + s.gangSize n.val ≤ 52 ∧ s.kb.up = true ∧ s.out n.val = true ∧ (s.chan n.val).inrushEnd = some e ∧ s.inrushOk n.val mv.toNat = false := by
  exact ⟨(let s := wOut 2 wKb; { s with kb := { s.kb with feedA := { s.kb.feedA with mv := 14000 } } }.setChan 2 { s.chan 2 with inrushEnd := some 70 }), 2, 900, 70, by decide⟩

theorem wit_PowerSwitching_8 : ∃ (s : State) (k : Fin 4) (e mode duty : Nat), s.kb.up = true ∧ (s.chan (48 + k.val)).brake = some (e, mode, duty) := by
  exact ⟨(wOut 48 wKb).setChan 48 { wKb.chan 48 with brake := some (70, 2, 400), mode := 3 }, 0, 70, 2, 400, by decide⟩

theorem wit_PowerSwitching_9 : ∃ (s : State) (n : Fin 52) (ma : Int) (rise l : Nat), s.chLead n.val = l ∧ s.cutCondition n.val ma rise = true ∧ s.conducts l = true ∧ l + s.gangSize l ≤ 52 ∧ l < 52 ∧ s.kb.up = true ∧ s.out l = true := by
  exact ⟨wOut 10 wKb, 11, 80000, 0, 10, by decide⟩

theorem wit_PowerSwitching_10 : ∃ (s : State) (n : Fin 52) (ma : Int) (rise : Nat), s.chLead n.val = n.val ∧ n.val + s.gangSize n.val ≤ 52 ∧ s.cutCondition n.val ma rise = true ∧ s.conducts n.val = true ∧ s.kb.up = false ∧ (s.chan n.val).held ≠ 0 ∧ s.out n.val = true := by
  exact ⟨(let s := wOut 2 { wKb with kb := KbState.reset }; s.setChan 2 { s.chan 2 with held := 1 }), 2, 80000, 0, by decide⟩

theorem wit_PowerSwitching_11 : ∃ (s : State) (n : Fin 52) (ma : Int) (rise : Nat), s.cutCondition n.val ma rise = false := by
  exact ⟨wOut 10 wKb, 11, 30000, 0, by decide⟩

theorem wit_PowerSwitching_12 : ∃ (s : State) (n : Fin 52), n.val + s.gangSize n.val ≤ 52 ∧ s.kb.up = true ∧ s.cooling n.val = true ∧ s.cooled n.val = true ∧ s.suspended (s.chFeed n.val) = false := by
  exact ⟨wKb.wr (Fd.PD_CH_STATUS_COOLING 2) 1, 2, by decide⟩

theorem wit_PowerSwitching_13 : ∃ (s : State) (n : Fin 52), s.kb.up = true ∧ s.out n.val = true := by
  exact ⟨(wOut 2 wKb).wr (Fd.PD_CH_STATUS_RETRIES 2) 3, 2, by decide⟩

theorem wit_PowerSwitching_14 : ∃ (s : State) (n : Fin 52), n.val + s.gangSize n.val ≤ 52 ∧ s.kb.up = false ∧ (s.chan n.val).held ≠ 0 ∧ s.out n.val = true := by
  exact ⟨(let s := wOut 2 { wKb with kb := KbState.reset }; s.setChan 2 { s.chan 2 with held := 1 }), 2, by decide⟩

theorem wit_PowerModelSteps_1 : ∃ (s : State) (l : List (BitVec 16)) (mvA mvB curA curB : BitVec 16), s.kb.up = true := by
  exact ⟨wKb, [3, 0xFFFE], 14000, 13900, 100, 200, by decide⟩

theorem wit_PowerModelSteps_2 : ∃ (s : State), s.kb.up = true := by
  exact ⟨(let s := wOut 2 { wKb with plan := ⟨1, 3, 0x0602, [2, 0, 0, 150, 1050]⟩ :: wKb.plan }; s.setChan 2 { s.chan 2 with temp := 900 * deciDeg, gangSq := 100, n := 10 }), by decide⟩

theorem wit_PowerModelSteps_3 : ∃ (s : State) (pElec ambient : BitVec 16), s.kb.up = true := by
  exact ⟨wKb, 300, 250, by decide⟩

theorem wit_PowerModelSteps_4 : ∃ (s : State) (e p : Nat), s.kb.up = true ∧ s.kb.shedAt = some e ∧ max s.now e < s.kb.wireAt ∧ s.rd Fd.PD_SHED_TRIGGER = 1 ∧ (s.trigger 0).2.2.2 < (s.trigger 0).2.1 ∧ ((s.shedable 0).map s.shedPrio).min? = some p ∧ (∀ n ∈ s.leads, n + s.gangSize n ≤ 52 ∧ 0 < s.gangSize n) := by
  exact ⟨(let s := wOut 2 (wKb.wr Fd.PD_SHED_TRIGGER 1); { s with kb := { s.kb with shedAt := some 50, wireAt := 100000, pInst := 99 * 10000000000000 } }), 50, 5, by decide⟩

theorem wit_PowerModelSteps_5 : ∃ (s : State) (ambient pElec : BitVec 16), s.dev = .active ∧ s.kb.up = false ∧ s.gated 0xB = false ∧ s.rd Fd.TP_STATUS_STATE ≠ 0 ∧ s.rd Fd.KS_STATUS_STATE ≠ 3 ∧ (∀ n : Fin 52, (s.chan n.val).held = 0) := by
  exact ⟨{ (wKb.wr Fd.TP_STATUS_STATE 1) with kb := KbState.reset }, 250, 3000, by decide⟩

theorem wit_PowerModelSteps_6 : ∃ (s : State) (ambient pElec : BitVec 16), s.dev = .active ∧ s.kb.up = false ∧ s.gated 0xB = false ∧ s.rd Fd.TP_STATUS_STATE ≠ 0 ∧ s.rd Fd.KS_STATUS_STATE = 3 := by
  exact ⟨{ ((wKb.wr Fd.TP_STATUS_STATE 1).wr Fd.KS_STATUS_STATE 3) with kb := KbState.reset }, 250, 3000, by decide⟩

theorem wit_PowerDiagnostics_1 : ∃ (s : State) (n : Fin 52), KerbLead s n.val ∧ s.flag (Fd.PD_DIAG_CFG_OL_ON_EN n.val) = true ∧ (s.chan n.val).olN ≠ 0 ∧ (s.chan n.val).olSum < olThreshold n.val * (s.chan n.val).olN ∧ s.flag (Fd.PD_DIAG_STATUS_OL_ON n.val) = false := by
  exact ⟨(let s := wKb.setFlag (Fd.PD_DIAG_CFG_OL_ON_EN 2) true; s.setChan 2 { s.chan 2 with olSum := 100, olN := 5 }), 2, by decide⟩

theorem wit_PowerDiagnostics_2 : ∃ (s : State) (n : Fin 52), KerbLead s n.val ∧ s.flag (Fd.PD_DIAG_CFG_OL_ON_EN n.val) = true ∧ (s.chan n.val).olN ≠ 0 ∧ 2 * olThreshold n.val * (s.chan n.val).olN ≤ (s.chan n.val).olSum := by
  exact ⟨(let s := (wKb.setFlag (Fd.PD_DIAG_CFG_OL_ON_EN 2) true).setFlag (Fd.PD_DIAG_STATUS_OL_ON 2) true; s.setChan 2 { s.chan 2 with olSum := 9000, olN := 5 }), 2, by decide⟩

theorem wit_PowerDiagnostics_3 : ∃ (s : State) (n : Fin 52) (a b p : BitVec 16), KerbLead s n.val ∧ s.out n.val = false ∧ s.suspended (s.chFeed n.val) = false ∧ s.flag (Fd.PD_DIAG_CFG_STB_EN n.val) = true ∧ 8000 < a.toNat ∧ (s.chan n.val).stbFail = 1 ∧ s.flag (Fd.PD_DIAG_STATUS_STB n.val) = false := by
  exact ⟨(let s := wKb.setFlag (Fd.PD_DIAG_CFG_STB_EN 2) true; s.setChan 2 { s.chan 2 with stbFail := 1 }), 2, 9000, 0, 100, by decide⟩

theorem wit_PowerDiagnostics_4 : ∃ (s : State) (n : Fin 52) (a b p : BitVec 16), KerbLead s n.val ∧ s.out n.val = false ∧ s.suspended (s.chFeed n.val) = false ∧ s.flag (Fd.PD_DIAG_CFG_STB_EN n.val) = false ∧ s.flag (Fd.PD_DIAG_CFG_OL_OFF_EN n.val) = true ∧ a.toNat ≤ 8000 ∧ b.toNat ≤ 8000 ∧ 3500 < p.toNat ∧ (s.chan n.val).olFail = 1 ∧ s.flag (Fd.PD_DIAG_STATUS_OL_OFF n.val) = false := by
  exact ⟨(let s := (wKb.setFlag (Fd.PD_DIAG_CFG_OL_OFF_EN 2) true).setFlag (Fd.PD_DIAG_CFG_STB_EN 2) false; s.setChan 2 { s.chan 2 with olFail := 1 }), 2, 5000, 0, 4000, by decide⟩

theorem wit_PowerDiagnostics_5 : ∃ (s : State) (n : Fin 52) (l : Nat), s.chLead n.val = l ∧ l < 52 ∧ l + s.gangSize l ≤ 52 ∧ s.kb.up = true ∧ isBridge n.val = false ∧ (s.chItem n.val).isSome = true ∧ s.out l = true := by
  exact ⟨wOut 10 wKb, 11, 10, by decide⟩

theorem wit_PowerDiagnostics_6 : ∃ (s : State) (n : Fin 52) (l : Nat), s.chLead n.val = l ∧ l < 52 ∧ l + s.gangSize l ≤ 52 ∧ s.kb.up = true ∧ (s.chItem n.val).isSome = true := by
  exact ⟨wOut 10 wKb, 11, 10, by decide⟩

theorem wit_PowerDiagnostics_7 : ∃ (s : State) (n : Fin 52) (l : Nat), s.chLead n.val = l ∧ l < 52 ∧ s.kb.up = true ∧ (s.chan n.val).hot = true := by
  exact ⟨(let s := wKb.setFlag (Fd.PD_DIAG_STATUS_HOT 10) true; (s.setChan 11 { s.chan 11 with hot := true }).setChan 10 { s.chan 10 with hot := true }), 11, 10, by decide⟩

theorem wit_PowerDiagnostics_8 : ∃ (s : State) (f : Fin 2) (k : FeedFault), s.kb.up = true ∧ s.rd (feedStateFld f.val) ≠ feedFaultState k ∧ ¬ (k = .underVoltage ∧ s.rd (feedStateFld f.val) = 3) ∧ (∀ n ∈ s.leads, n + s.gangSize n ≤ 52 ∧ 0 < s.gangSize n) := by
  exact ⟨wOut 10 wKb, 1, .overVoltage, by decide⟩

theorem wit_PowerDiagnostics_9 : ∃ (s : State) (f : Fin 2), s.rd (feedStateFld f.val) = 3 := by
  exact ⟨wKb.wr Fd.PD_FEED_STATUS_STATE_B 3, 1, by decide⟩

theorem wit_PowerDiagnostics_10 : ∃ (s : State) (f : Fin 2), s.kb.up = true ∧ s.suspended f.val = true := by
  exact ⟨((wKb.wr Fd.PD_FEED_STATUS_STATE_B 2).setCmd 10 true), 1, by decide⟩

theorem wit_PowerDiagnostics_11 : ∃ (s : State) (f : Fin 2) (n : Nat) (rest : List Nat), (s.feed f.val).turns = n :: rest ∧ n + s.gangSize n ≤ 52 ∧ isBridge n = false ∧ s.kb.up = true ∧ s.cmdOn n = true ∧ s.out n = false ∧ s.latched n = false ∧ s.cooling n = false := by
  exact ⟨(let s := wKb.setCmd 10 true; s.setFeed 1 { s.feed 1 with turns := [10, 48], turnAt := 500 }), 1, 10, [48], by decide⟩

theorem wit_LaybyControl_1 : ∃ (s : State) (who : Who) (d : Fin 64), s.passesChecks (s.issuer who) 4 Rg.PD_LAYBY_CTRL (laybyWord 1 d.val) false false = true ∧ s.kb.up = true := by
  exact ⟨wOut 10 wKb, hall, 3, by decide⟩

theorem wit_LaybyControl_2 : ∃ (s : State) (who : Who) (d : Fin 64), s.passesChecks (s.issuer who) 4 Rg.PD_LAYBY_CTRL (laybyWord 2 d.val) false false = true ∧ s.kb.up = true := by
  exact ⟨wOut 10 wKb, hall, 0, by decide⟩

theorem wit_LaybyControl_3 : ∃ (s : State) (who : Who) (d : Fin 64), s.passesChecks (s.issuer who) 4 Rg.PD_LAYBY_CTRL (laybyWord 3 d.val) false false = true := by
  exact ⟨(wKb.setFlag (Fd.PD_DIAG_STATUS_LAYBY 10) true).wr (Fd.PD_DIAG_STATUS_CAUSE 10) 3, hall, 3, by decide⟩

theorem wit_LaybyControl_4 : ∃ (s : State) (who : Who) (d : Fin 64), s.passesChecks (s.issuer who) 4 Rg.PD_LAYBY_CTRL (laybyWord 4 d.val) false false = true := by
  exact ⟨(wKb.setFlag (Fd.PD_DIAG_STATUS_LAYBY 10) true).wr (Fd.PD_DIAG_STATUS_CAUSE 10) 4, hall, 0, by decide⟩

theorem wit_CanBuffers_1 : ∃ (s : State) (k : Fin 8) (w0 w1 : Word) (data : List Byte) (ago : BitVec 32) (b : Nat), s.canMode k.val ≠ 0 ∧ s.busOff k.val = false ∧ s.trxUp k.val = true ∧ (s.canAt k.val).attempt = none ∧ (hdrFdf w0.toNat = true → itemN (s.canItem k.val) 1 ≠ 0) ∧ s.rxBuffer k.val w0.toNat = some b ∧ (s.canAt k.val).lock = none ∧ s.canWaits k.val b 3 = none := by
  exact ⟨wCan, 2, 0x140000, 2, [1, 2], 5, 4, by decide⟩

theorem wit_CanBuffers_2 : ∃ (s : State) (k : Fin 8) (w0 w1 : Word) (data : List Byte) (ago : BitVec 32) (b x : Nat), s.canMode k.val ≠ 0 ∧ s.busOff k.val = false ∧ s.trxUp k.val = true ∧ (s.canAt k.val).attempt = none ∧ (hdrFdf w0.toNat = true → itemN (s.canItem k.val) 1 ≠ 0) ∧ s.rxBuffer k.val w0.toNat = some b ∧ (s.canAt k.val).lock = some (b, x) ∧ s.canWaits k.val b 3 = none := by
  exact ⟨wCan.setCan 2 { wCan.canAt 2 with lock := some (4, 7) }, 2, 0x140000, 2, [1, 2], 5, 4, 7, by decide⟩

theorem wit_CanBuffers_3 : ∃ (s : State) (who : Who) (k : Fin 8), s.reaches (s.issuer who) (Rg.CAN_MB_WIN k.val 0) = true ∧ s.gated 12 = false ∧ ((RegMap.at (Rg.CAN_MB_WIN k.val 0)).map (fun p => s.mayRead (s.issuer who) p.1 (Rg.CAN_MB_WIN k.val 0))) = some true ∧ s.bufHeld k.val (s.mbSelected k.val) = false ∧ s.bufTx k.val (s.mbSelected k.val) = false ∧ s.bufEn k.val (s.mbSelected k.val) = true ∧ (s.canAt k.val).lock = none := by
  exact ⟨wCan.wr (Fd.CAN_MB_SEL_BUF 2) 4, hall, 2, by decide⟩

theorem wit_CanBuffers_4 : ∃ (s : State) (who : Who) (k : Fin 8) (w : Fin 18) (x : Nat), s.reaches (s.issuer who) (Rg.CAN_MB_WIN k.val w.val) = true ∧ s.gated 12 = false ∧ ((RegMap.at (Rg.CAN_MB_WIN k.val w.val)).map (fun p => s.mayRead (s.issuer who) p.1 (Rg.CAN_MB_WIN k.val w.val))) = some true ∧ s.bufHeld k.val (s.mbSelected k.val) = false ∧ s.bufTx k.val (s.mbSelected k.val) = false ∧ s.bufEn k.val (s.mbSelected k.val) = true ∧ w.val = 1 + hdrWords ((s.buf k.val (s.mbSelected k.val)).word 0) ((s.buf k.val (s.mbSelected k.val)).word 1) ∧ w.val ≠ 0 ∧ (s.canAt k.val).lock = some (s.mbSelected k.val, x) ∧ (s.buf k.val (s.mbSelected k.val)).shadow = none ∧ s.mbSelected k.val < 128 := by
  exact ⟨(let s := ((wCan.wr (Fd.CAN_MB_SEL_BUF 2) 4).wr (Fd.CAN_MB_STAT_NEW 2 4) 1).setBuf 2 4 { CanBuf.reset with words := [(1, 2), (2, 0x77)] }; s.setCan 2 { s.canAt 2 with lock := some (4, 7) }), hall, 2, 2, 7, by decide⟩

theorem wit_CanBuffers_5 : ∃ (s : State) (who : Who) (k : Fin 8) (w : Word) (b x : Nat) (words : Tbl Word) (time : Nat), b < 128 ∧ s.passesChecks (s.issuer who) 4 (Rg.CAN_MB_SEL k.val) w false false = true ∧ (s.canAt k.val).lock = some (b, x) ∧ (s.buf k.val b).shadow = some (words, time) := by
  exact ⟨(let s := wCan.setCan 2 { wCan.canAt 2 with lock := some (4, 7) }; s.setBuf 2 4 { s.buf 2 4 with shadow := some ([(0, 9)], 3) }), hall, 2, 5, 4, 7, [(0, 9)], 3, by decide⟩

theorem wit_CanBuffers_6 : ∃ (s : State) (k : Fin 8) (b x : Nat), b < 128 ∧ (s.canAt k.val).lock = some (b, x) := by
  exact ⟨wCan.setCan 2 { wCan.canAt 2 with lock := some (4, 7) }, 2, 4, 7, by decide⟩

theorem wit_CanBuffers_7 : ∃ (s : State) (who : Who) (k : Fin 8) (b : Fin 128), s.passesChecks (s.issuer who) 4 (Rg.CAN_MB_CTRL k.val b.val) 1 (s.bufHeld k.val b.val) false = true ∧ s.bufTx k.val b.val = true ∧ s.bufEn k.val b.val = true ∧ s.bufState k.val b.val = 0 ∧ s.headerCode k.val ((s.buf k.val b.val).word 0) ((s.buf k.val b.val).word 1) = Code.DONE := by
  exact ⟨wCan, hall, 2, 3, by decide⟩

theorem wit_CanBuffers_8 : ∃ (s : State) (who : Who) (k : Fin 8) (b : Fin 128), s.passesChecks (s.issuer who) 4 (Rg.CAN_MB_CTRL k.val b.val) 2 (s.bufHeld k.val b.val) false = true ∧ s.bufState k.val b.val ≠ 0 ∧ (s.attempts k.val b.val && s.tryStarted k.val) = false ∧ s.canWaits k.val b.val 2 = none := by
  exact ⟨wCan.wr (Fd.CAN_MB_STAT_STATE 2 3) 1, hall, 2, 3, by decide⟩

theorem wit_CanBuffers_9 : ∃ (s : State) (who : Who) (k : Fin 8) (b : Fin 128), s.passesChecks (s.issuer who) 4 (Rg.CAN_MB_CTRL k.val b.val) 2 (s.bufHeld k.val b.val) false = true ∧ s.bufState k.val b.val ≠ 0 ∧ s.attempts k.val b.val = true ∧ s.tryStarted k.val = true ∧ s.committedTry k.val = false := by
  exact ⟨{ wTry none with now := 50 }, hall, 2, 3, by decide⟩

theorem wit_CanBuffers_10 : ∃ (s : State) (who : Who) (k : Fin 8) (b : Fin 128), s.passesChecks (s.issuer who) 4 (Rg.CAN_MB_CTRL k.val b.val) 2 (s.bufHeld k.val b.val) false = true ∧ s.bufState k.val b.val ≠ 0 ∧ s.attempts k.val b.val = true ∧ s.tryStarted k.val = true ∧ s.committedTry k.val = true := by
  exact ⟨{ wTry (some 9) with now := 50 }, hall, 2, 3, by decide⟩

theorem wit_CanBuffers_11 : ∃ (s : State) (who : Who) (k : Fin 8) (w : Word), s.passesChecks (s.issuer who) 4 (Rg.CAN_MODE k.val) w false (w.toNat % 4 == 3) = true ∧ (s.canItem k.val).isSome = true := by
  exact ⟨wCan, hall, 2, 2, by decide⟩

theorem wit_CanBuffers_12 : ∃ (s : State) (k : Fin 8), s.rd (Fd.CAN_MODE_MODE k.val) ≠ 0 ∧ s.canMode k.val = 0 ∧ (s.canAt k.val).attempt = none ∧ (s.canAt k.val).rx = false ∧ s.ringItem k.val = none := by
  exact ⟨(wCan.wr (Fd.CAN_MODE_ACTUAL 2) 0), 2, by decide⟩

theorem wit_CanBuffers_13 : ∃ (s : State) (k : Fin 8), s.rd (Fd.CAN_MODE_MODE k.val) = 0 ∧ s.canMode k.val ≠ 0 ∧ (s.canAt k.val).attempt = none ∧ (s.canAt k.val).rx = false ∧ s.ringItem k.val = none := by
  exact ⟨(wCan.wr (Fd.CAN_MODE_MODE 2) 0).wr (Fd.CAN_STATUS_TEC 2) 50, 2, by decide⟩

theorem wit_CanTransmission_1 : ∃ (s : State) (k : Fin 8) (b : Option Nat), s.canSends k.val = true ∧ (s.canAt k.val).attempt = none ∧ (s.canAt k.val).rx = false ∧ best ((s.reach (s.canAt k.val).chooseAt).chosen k.val ((s.reach (s.canAt k.val).chooseAt).candidates k.val
      (max (s.reach (s.canAt k.val).chooseAt).now (s.canAt k.val).freeAt))) = some b := by
  exact ⟨wCan.wr (Fd.CAN_MB_STAT_STATE 2 3) 1, 2, some 3, by decide⟩

theorem wit_CanTransmission_2 : ∃ (s : State) (k : Fin 8) (b x : Nat), b < 128 ∧ (s.canAt k.val).attempt = some ⟨some b, x, none⟩ ∧ (s.buf k.val b).cancelHeld = false := by
  exact ⟨wTry none, 2, 3, 40, by decide⟩

theorem wit_CanTransmission_3 : ∃ (s : State) (k : Fin 8) (b x : Nat), b < 128 ∧ (s.canAt k.val).attempt = some ⟨some b, x, none⟩ ∧ (s.buf k.val b).cancelHeld = false ∧ s.canWaits k.val b 2 = none := by
  exact ⟨wTry none, 2, 3, 40, by decide⟩

theorem wit_CanTransmission_4 : ∃ (s : State) (k : Fin 8) (ns : BitVec 32) (tdc : BitVec 8) (b x v : Nat), b < 128 ∧ (s.canAt k.val).attempt = some ⟨some b, x, some v⟩ ∧ s.canWaits k.val b 2 = none ∧ (s.canAt k.val).win = none ∧ s.rd (Fd.CAN_STATUS_TEC k.val) ≤ 255 := by
  exact ⟨wTry (some 9), 2, 5000, 3, 3, 40, 9, by decide⟩

theorem wit_CanTransmission_5 : ∃ (s : State) (k : Fin 8) (e : Fin 7) (ns : BitVec 32) (tdc : BitVec 8) (b x : Nat) (v : Option Nat), b < 128 ∧ e ≠ 0 ∧ (s.canAt k.val).attempt = some ⟨some b, x, v⟩ ∧ s.rd (Fd.CAN_STATUS_TEC k.val) + 8 ≤ 255 ∧ s.busOff k.val = false ∧ s.canWaits k.val b 2 = none ∧ (s.buf k.val b).lateAbort = false ∧ (s.buf k.val b).cancelHeld = false ∧ s.flag (Fd.CAN_MB_CFG_REPEAT k.val b) = false ∧ (s.rd (Fd.CAN_MB_CFG_RETRY k.val b) = 31 ∨ s.rd (Fd.CAN_MB_STAT_RETRIES k.val b) < s.rd (Fd.CAN_MB_CFG_RETRY k.val b)) := by
  exact ⟨wTry (some 9), 2, 4, 5000, 3, 3, 40, some 9, by decide⟩

theorem wit_CanTransmission_6 : ∃ (s : State) (k : Fin 8) (e : Fin 7) (ns : BitVec 32) (tdc : BitVec 8) (b x v : Nat), b < 128 ∧ e ≠ 0 ∧ e ≠ 3 ∧ (s.canAt k.val).attempt = some ⟨some b, x, some v⟩ ∧ 255 < s.rd (Fd.CAN_STATUS_TEC k.val) + 8 ∧ s.busOff k.val = false ∧ s.bufTx k.val b = true ∧ s.canWaits k.val b 2 = none ∧ (s.buf k.val b).lateAbort = false ∧ (s.buf k.val b).cancelHeld = false ∧ (s.rd (Fd.CAN_MB_CFG_RETRY k.val b) = 31 ∨ s.rd (Fd.CAN_MB_STAT_RETRIES k.val b) < s.rd (Fd.CAN_MB_CFG_RETRY k.val b)) := by
  exact ⟨(wTry (some 9)).wr (Fd.CAN_STATUS_TEC 2) 250, 2, 4, 5000, 3, 3, 40, 9, by decide⟩

theorem wit_CanTransmission_7 : ∃ (s : State) (k : Fin 8) (e : Fin 7) (eight : Bool), s.canMode k.val ≠ 0 ∧ s.busOff k.val = false ∧ s.trxUp k.val = true ∧ (s.canAt k.val).attempt = none ∧ e ≠ 0 ∧ e ≠ 3 ∧ s.rd (Fd.CAN_STATUS_TEC k.val) ≤ 255 := by
  exact ⟨wCan, 2, 4, true, by decide⟩

theorem wit_CanTransmission_8 : ∃ (s : State) (k : Fin 8), s.busOff k.val = true ∧ s.trxUp k.val = true := by
  exact ⟨(wCan.wr (Fd.CAN_STATUS_ESTATE 2) 2).wr (Fd.CAN_STATUS_TEC 2) 256, 2, by decide⟩

theorem wit_CanTransmission_9 : ∃ (s : State) (e : Fin 4096) (tag : BitVec 16) (k b : Nat) (c : Cmd), CanReady s e.val tag.toNat 1 k b c ∧ s.bufState k b = 0 ∧ c.f 0x11 1 ≤ 2 := by
  exact ⟨wCanCmd wCan 1 [1, 1, 5, 0, 7, 0, 0, 0, 1], 5, 7, 2, 4, { wCmd 1 [1, 1, 5, 0, 7, 0, 0, 0, 1] with phase := .passed }, by decide⟩

theorem wit_CanTransmission_10 : ∃ (s : State) (e : Fin 4096) (tag : BitVec 16) (k b : Nat) (c : Cmd), CanReady s e.val tag.toNat 2 k b c ∧ s.bufTx k b = true ∧ s.bufEn k b = true ∧ s.bufState k b = 0 ∧ s.poisoned (c.f 0x18 8) 72 = false ∧ c.timed = false ∧ s.flag (Fd.CAN_MB_CFG_REPEAT k b) = false ∧ s.headerCode k (leNat (s.bytes (c.f 0x18 8) 4)) (leNat (s.bytes (c.f 0x18 8 + 4) 4)) = Code.DONE := by
  exact ⟨(wCanCmd wCan 2 [0, 0, 0, 0, 0, 0, 0, 0, 0, 1, 0, 0x80]).store 0x80000100 [0, 0, 0x14, 0, 2], 5, 7, 2, 3, { wCmd 2 [0, 0, 0, 0, 0, 0, 0, 0, 0, 1, 0, 0x80] with phase := .passed }, by decide⟩

theorem wit_CanTransmission_11 : ∃ (s : State) (e : Fin 4096) (tag : BitVec 16) (k b : Nat) (c : Cmd), CanReady s e.val tag.toNat 3 k b c ∧ s.bufTx k b = false ∧ s.bufEn k b = true ∧ s.canWaits k b 3 = none ∧ s.flag (Fd.CAN_MB_STAT_NEW k b) = false := by
  exact ⟨wCanCmd wCan 3 [1, 0, 0, 0, 0, 0, 0, 0, 0, 1, 0, 0x80], 5, 7, 2, 4, { wCmd 3 [1, 0, 0, 0, 0, 0, 0, 0, 0, 1, 0, 0x80] with phase := .passed }, by decide⟩

theorem wit_CanTransmission_12 : ∃ (s : State) (e : Fin 4096) (tag : BitVec 16) (k b : Nat) (c : Cmd), CanReady s e.val tag.toNat 3 k b c ∧ s.bufTx k b = false ∧ s.bufEn k b = true ∧ s.canWaits k b 3 = none ∧ s.flag (Fd.CAN_MB_STAT_NEW k b) = true ∧ c.phase = .passed ∧ (recordAt s c + 16 ≤ c.f 0x18 8 ∨ c.f 0x18 8 + 80 ≤ recordAt s c) := by
  exact ⟨(wCanCmd wCan 3 [1, 0, 0, 0, 0, 0, 0, 0, 0, 1, 0, 0x80]).wr (Fd.CAN_MB_STAT_NEW 2 4) 1, 5, 7, 2, 4, { wCmd 3 [1, 0, 0, 0, 0, 0, 0, 0, 0, 1, 0, 0x80] with phase := .passed }, by decide⟩

theorem wit_CanTransmission_13 : ∃ (s : State) (e : Fin 4096) (tag : BitVec 16) (c : Cmd), s.passed e.val tag.toNat 1 4 = some c ∧ (recordAt s c + 16 ≤ c.f 0x18 8 ∨ c.f 0x18 8 + 16 ≤ recordAt s c) := by
  exact ⟨wCanCmd wCan 4 [0, 0, 0, 0, 0, 0, 0, 0, 0, 1, 0, 0x80], 5, 7, { wCmd 4 [0, 0, 0, 0, 0, 0, 0, 0, 0, 1, 0, 0x80] with phase := .passed }, by decide⟩

theorem wit_CanSchedule_1 : ∃ (s : State) (who : Who) (k : Fin 8) (w : Word), s.passesChecks (s.issuer who) 4 (Rg.CAN_TT_CFG k.val) w false false = true ∧ tbit w.toNat 31 = true ∧ s.ttOn k.val = false ∧ s.ttMisfit k.val w.toNat = none := by
  exact ⟨(wTt.setReg (Rg.CAN_TT_CFG 2) 0), hall, 2, 0x801003E8, by decide⟩

theorem wit_CanSchedule_2 : ∃ (s : State) (who : Who) (k : Fin 8) (w : Word) (i : Item), s.passesChecks (s.issuer who) 4 (Rg.CAN_TT_CFG k.val) w false false = true ∧ tbit w.toNat 31 = true ∧ s.ttOn k.val = false ∧ s.ttMisfit k.val w.toNat = some i := by
  exact ⟨(wTt.setReg (Rg.CAN_TT_CFG 2) 0), hall, 2, 0x80100064, ⟨1, 5, 0x0C02, [2, 0, 1, 0, 3, 1, 100000, 300000]⟩, by decide⟩

theorem wit_CanSchedule_3 : ∃ (s : State) (k : Fin 8) (cy : Fin 16) (wi : Fin 64) (i : Item), s.ttItem k.val cy.val wi.val = some i ∧ i.n 3 = 0 ∧ s.ttRuns k.val = true ∧ s.canMode k.val ≠ 0 ∧ cy.val < s.ttCycles k.val ∧ s.ttRef k.val = false ∧ (s.canAt k.val).win = none ∧ i.n 4 < 128 ∧ s.flag (Fd.CAN_MB_CFG_REPEAT k.val (i.n 4)) = false := by
  exact ⟨wTt, 2, 0, 1, ⟨1, 5, 0x0C02, [2, 0, 1, 0, 3, 1, 100000, 300000]⟩, by decide⟩

theorem wit_CanSchedule_4 : ∃ (s : State) (k : Fin 8) (cy : Fin 16) (wi : Fin 64) (i : Item), s.ttItem k.val cy.val wi.val = some i ∧ i.n 3 ≠ 0 ∧ s.ttRuns k.val = true ∧ cy.val < s.ttCycles k.val ∧ s.ttRef k.val = false ∧ (s.canAt k.val).win = none := by
  exact ⟨{ wTt with plan := ⟨1, 6, 0x0C02, [2, 1, 2, 1, 0, 0, 0, 300000]⟩ :: wTt.plan }, 2, 1, 2, ⟨1, 6, 0x0C02, [2, 1, 2, 1, 0, 0, 0, 300000]⟩, by decide⟩

theorem wit_CanSchedule_5 : ∃ (s : State) (k : Fin 8) (cy : Fin 16) (wi : Fin 64) (x : TtWin), (s.canAt k.val).win = some x ∧ x.cycle = cy.val ∧ x.window = wi.val ∧ x.pend = true ∧ x.ok = false := by
  exact ⟨(wTt.setCan 2 { wTt.canAt 2 with win := some ⟨0, 1, 3, 900, true, true, false⟩ }), 2, 0, 1, ⟨0, 1, 3, 900, true, true, false⟩, by decide⟩

theorem wit_CanSchedule_6 : ∃ (s : State) (k : Fin 8), s.ttOn k.val = true ∧ s.ttRef k.val = true ∧ s.ttSync k.val = true ∧ (s.canAt k.val).win = none := by
  exact ⟨(wTt.setReg (Rg.CAN_TT_CFG 2) 0xC01003E8), 2, by decide⟩

theorem wit_CurfewRing_1 : ∃ (s : State) (m : Fin 10) (src : BitVec 48) (dlc : Fin 16) (a b f : Byte), s.medState m.val = 1 ∧ s.isCurfew m.val src.toNat = true ∧ a.toNat < 64 ∧ b.toNat = s.medNode m.val ∧ b.toNat < 64 ∧ a.toNat ≠ b.toNat ∧ CurfewFrom m.val src.toNat dlc.val a.toNat ∧ (f = 1 ∨ f = 3) ∧ (s.medium m.val).skip = none := by
  exact ⟨wRing 1, 2, 0x645, 8, 5, 9, 3, by decide⟩

theorem wit_CurfewRing_2 : ∃ (s : State) (m : Fin 10) (src : BitVec 48) (dlc : Fin 16) (data : List Byte), s.medState m.val ≠ 0 ∧ s.medState m.val ≠ 4 ∧ BeforeCommit s m.val ∧ s.isCurfew m.val src.toNat = true ∧ ¬ CurfewOk m.val src.toNat dlc.val data := by
  exact ⟨wRing 1, 2, 0x645, 9, [5, 9, 3, 0, 0, 0, 0, 0], by decide⟩

theorem wit_CurfewRing_3 : ∃ (s : State) (m : Fin 10) (src : BitVec 48) (dlc : Fin 16) (a b : Byte), (s.medState m.val = 1 ∨ s.medState m.val = 2) ∧ s.isCurfew m.val src.toNat = true ∧ a.toNat < 64 ∧ b.toNat < 64 ∧ a.toNat ≠ s.medNode m.val ∧ CurfewFrom m.val src.toNat dlc.val a.toNat ∧ s.medConsent m.val = true ∧ m.val < 10 := by
  exact ⟨(wRing 1).setFlag (Fd.NM_RING_CTRL_CONSENT 1) true, 2, 0x645, 8, 5, 9, by decide⟩

theorem wit_CurfewRing_4 : ∃ (s : State) (m : Fin 10) (e : Nat), (s.medium m.val).ringT = some e ∧ s.medState m.val = 1 ∧ s.token m.val = true := by
  exact ⟨(wMed 1 (fun x => { x with ringT := some 70 })).setToken 2 true, 2, 70, by decide⟩

theorem wit_CurfewRing_5 : ∃ (s : State) (m : Fin 10) (e : Nat), (s.medium m.val).ringT = some e ∧ s.medState m.val = 1 ∧ s.token m.val = false := by
  exact ⟨wMed 1 (fun x => { x with ringT := some 70 }), 2, 70, by decide⟩

theorem wit_CurfewRing_6 : ∃ (s : State) (m : Fin 10) (n e : Nat), n < 64 ∧ (s.medium m.val).skip = some (n, e) ∧ s.medState m.val = 1 := by
  exact ⟨wMed 1 (fun x => { x with skip := some (12, 70) }), 2, 12, 70, by decide⟩

theorem wit_CurfewRing_7 : ∃ (s : State) (m : Fin 10), s.medState m.val = 1 := by
  exact ⟨wRing 1, 2, by decide⟩

theorem wit_CurfewRing_8 : ∃ (s : State) (m : Fin 10) (f : MedFrame) (rest : List MedFrame), (s.medium m.val).out = f :: rest ∧ m.val < 8 ∧ f.st = 2 ∧ s.medState m.val = 1 := by
  exact ⟨wMed 1 (fun x => { x with out := [⟨9, 1, false, 0, 0, 2⟩] }), 2, ⟨9, 1, false, 0, 0, 2⟩, [], by decide⟩

theorem wit_CurfewRing_9 : ∃ (s : State) (m : Fin 10) (f : MedFrame) (rest : List MedFrame), (s.medium m.val).out = f :: rest ∧ (f.st = 1 ∨ 8 ≤ m.val) ∧ (f.flags = 1 ∨ f.flags = 3) ∧ f.next ≠ s.medNode m.val := by
  exact ⟨(wMed 1 (fun x => { x with out := [⟨12, 1, false, 0, 0, 1⟩] })).setToken 2 true, 2, ⟨12, 1, false, 0, 0, 1⟩, [], by decide⟩

theorem wit_CurfewRing_10 : ∃ (s : State) (m : Fin 10), s.medState m.val = 2 := by
  exact ⟨wRing 2, 2, by decide⟩

theorem wit_CurfewRing_11 : ∃ (s : State) (m : Fin 10), s.medState m.val = 2 ∧ s.medConsent m.val = true := by
  exact ⟨(wRing 2).setFlag (Fd.NM_RING_CTRL_CONSENT 1) true, 2, by decide⟩

theorem wit_CurfewRing_12 : ∃ (s : State) (who : Who) (r : Fin 10) (w : Word) (m : Nat), s.passesChecks (s.issuer who) 4 (Rg.NM_RING_CTRL r.val) w false false = true ∧ (s.items 0x0D01).any (fun i => i.n 0 == r.val) = true ∧ s.consent r.val = true ∧ tbit w.toNat 31 = false ∧ m < 10 ∧ m ∈ s.mediaOf r.val ∧ s.medState m = 1 := by
  exact ⟨(wRing 1).setFlag (Fd.NM_RING_CTRL_CONSENT 1) true, hall, 1, 0, 2, by decide⟩

theorem wit_CurfewRing_13 : ∃ (s : State) (who : Who) (r : Fin 10) (w : Word) (m : Nat), s.passesChecks (s.issuer who) 4 (Rg.NM_RING_CTRL r.val) w false false = true ∧ (s.items 0x0D01).any (fun i => i.n 0 == r.val) = true ∧ s.consent r.val = true ∧ tbit w.toNat 31 = false ∧ m < 10 ∧ m ∈ s.mediaOf r.val ∧ s.medState m = 3 ∧ BeforeCommit s m := by
  exact ⟨(wMed 3 (fun x => { x with bellAt := 60 })).setFlag (Fd.NM_RING_CTRL_CONSENT 1) true, hall, 1, 0, 2, by decide⟩

theorem wit_CurfewRing_14 : ∃ (s : State) (who : Who) (r : Fin 10) (w : Word), s.passesChecks (s.issuer who) 4 (Rg.NM_RING_CTRL r.val) w false false = true ∧ (s.items 0x0D01).any (fun i => i.n 0 == r.val) = true ∧ s.consent r.val = false ∧ tbit w.toNat 31 = true := by
  exact ⟨wRing 1, hall, 1, 0x80000000, by decide⟩

theorem wit_CurfewRing_15 : ∃ (s : State) (m : Fin 10), s.medState m.val = 3 := by
  exact ⟨(wMed 3 (fun x => { x with bellAt := 60 })).wr (Fd.NM_TRX_CTRL_STATE 2) 0, 2, by decide⟩

theorem wit_MediaSleep_1 : ∃ (s : State) (k : Fin 8), s.trxUp k.val = true ∧ (s.dev ≠ .active ∨ s.gated 12 = true) := by
  exact ⟨{ (wOn.wr (Fd.NM_TRX_CTRL_STATE 2) 0) with dev := .parked }, 2, by decide⟩

theorem wit_MediaSleep_2 : ∃ (s : State) (who : Who) (k : Fin 8) (w : Word), s.passesChecks (s.issuer who) 4 (Rg.NM_TRX_CTRL k.val) w false (getBits w.toNat 9 8 == 3) = true ∧ s.ringItem k.val = none ∧ s.trxUp k.val = true ∧ s.medState k.val = 0 ∧ tbit w.toNat 10 = true := by
  exact ⟨wOn.wr (Fd.NM_TRX_CTRL_STATE 2) 0, hall, 2, 0x140680, by decide⟩

theorem wit_MediaSleep_3 : ∃ (s : State) (who : Who) (k : Fin 8) (w : Word) (b x : Nat) (v : Option Nat), s.passesChecks (s.issuer who) 4 (Rg.NM_TRX_CTRL k.val) w false (getBits w.toNat 9 8 == 3) = true ∧ s.ringItem k.val = none ∧ s.trxUp k.val = true ∧ s.medState k.val = 0 ∧ tbit w.toNat 10 = true ∧ (s.canAt k.val).attempt = some ⟨some b, x, v⟩ ∧ b < 128 ∧ (s.buf k.val b).lateAbort = false ∧ (s.buf k.val b).cancelHeld = false := by
  exact ⟨(wTry none).wr (Fd.NM_TRX_CTRL_STATE 2) 0, hall, 2, 0x140680, 3, 40, none, by decide⟩

theorem wit_MediaSleep_4 : ∃ (s : State) (who : Who) (k : Fin 8) (w : Word), s.passesChecks (s.issuer who) 4 (Rg.NM_TRX_CTRL k.val) w false (getBits w.toNat 9 8 == 3) = true ∧ s.ringItem k.val = none ∧ s.rd (Fd.NM_TRX_CTRL_STATE k.val) = 1 ∧ s.medState k.val = 0 ∧ tbit w.toNat 10 = false ∧ wakeFields w.toNat = wakeFields (s.reg (Rg.NM_TRX_CTRL k.val)).toNat := by
  exact ⟨wOn.wr (Fd.NM_TRX_CTRL_STATE 2) 1, hall, 2, 0x140280, by decide⟩

theorem wit_MediaSleep_5 : ∃ (s : State) (k : Fin 8) (how : CanWakeBy), s.detects k.val how = true ∧ s.dev = .active ∧ s.medState k.val ≠ 4 ∧ s.ao.sleepDue = none := by
  exact ⟨(wOn.wr (Fd.NM_TRX_CTRL_STATE 2) 1).setTrx 2 { Trx.reset with armed := 1 }, 2, .wup, by decide⟩

theorem wit_MediaSleep_6 : ∃ (s : State) (k : Fin 8) (how : CanWakeBy), s.detects k.val how = true ∧ (s.dev = .parked ∨ s.dev = .standby) ∧ s.ao.underVolt = false := by
  exact ⟨{ ((wOn.wr (Fd.NM_TRX_CTRL_STATE 2) 1).setTrx 2 { Trx.reset with armed := 1 }) with dev := .parked }, 2, .wup, by decide⟩

theorem wit_MediaSleep_7 : ∃ (s : State) (k : Fin 8) (err : Bool), s.rd (Fd.NM_TRX_CTRL_STATE k.val) = 1 ∧ (s.trx k.val).armed = 2 := by
  exact ⟨(wOn.wr (Fd.NM_TRX_CTRL_STATE 2) 1).setTrx 2 { Trx.reset with armed := 2, fec := 31 }, 2, true, by decide⟩

theorem wit_MediaSleep_8 : ∃ (s : State) (k : Fin 2), s.medState (8 + k.val) = 4 ∧ s.dev = .active ∧ s.ao.sleepDue = none := by
  exact ⟨(wRing 1).wr (Fd.NM_MED_STATUS_STATE 8) 4, 0, by decide⟩

theorem wit_MediaSleep_9 : ∃ (s : State) (who : Who) (p : Fin 24), s.passesChecks (s.issuer who) 4 (Rg.NM_ETH_CTRL p.val) (s.ethWord p.val 1) false false = true ∧ s.ethState p.val = 0 := by
  exact ⟨wOn, hall, 4, by decide⟩

theorem wit_MediaSleep_10 : ∃ (s : State) (who : Who) (p : Fin 24), s.passesChecks (s.issuer who) 4 (Rg.NM_ETH_CTRL p.val) (s.ethWord p.val 2) false false = true ∧ s.ethState p.val = 1 := by
  exact ⟨wOn.setEth 4 1, hall, 4, by decide⟩

theorem wit_MediaSleep_11 : ∃ (s : State) (who : Who) (p : Fin 24), s.passesChecks (s.issuer who) 4 (Rg.NM_ETH_CTRL p.val) (s.ethWord p.val 2) false false = true ∧ s.ethState p.val = 2 := by
  exact ⟨(wOn.setEth 4 2).setReg (Rg.NM_ETH_CTRL 4) 0x600000, hall, 4, by decide⟩

theorem wit_MediaSleep_12 : ∃ (s : State) (p : Fin 24), tc10 p.val = true ∧ s.ethState p.val = 1 := by
  exact ⟨(wOn.setEth 4 1).ethResult 4 Code.BUSY, 4, by decide⟩

theorem wit_MediaSleep_13 : ∃ (s : State) (p : Fin 24), tc10 p.val = true ∧ s.ethState p.val = 1 := by
  exact ⟨(wOn.setEth 4 1).ethResult 4 Code.BUSY, 4, by decide⟩

theorem wit_MediaSleep_14 : ∃ (s : State) (p : Fin 24), tc10 p.val = true ∧ s.ethState p.val = 0 ∧ s.flag (Fd.NM_ETH_CTRL_ACCEPT_REMOTE p.val) = true := by
  exact ⟨wOn.setFlag (Fd.NM_ETH_CTRL_ACCEPT_REMOTE 4) true, 4, by decide⟩

theorem wit_MediaSleep_15 : ∃ (s : State) (p : Fin 24), tc10 p.val = true ∧ s.dev = .active ∧ s.ethState p.val = 2 := by
  exact ⟨wOn.setEth 4 2, 4, by decide⟩

theorem wit_MediaSleep_16 : ∃ (s : State) (p : Fin 24), tc10 p.val = true ∧ s.ethState p.val = 3 := by
  exact ⟨wOn.setEth 4 3, 4, by decide⟩

theorem wit_SignalPins_1 : ∃ (s : State) (n : Fin 64) (mv : BitVec 16) (k : Nat), (PinRuns s n.val 1 ∨ PinRuns s n.val 2) ∧ k ≤ 1 ∧ (s.pinAt n.val).cls = k ∧ bandOf mv.toNat k = k ∧ s.rd (Fd.PIN_STATUS_DIAG n.val) = 0 ∧ max 1 (10 * (s.pinParam n.val / 256)) ≤ min ((s.pinAt n.val).run + 1) 100000 := by
  exact ⟨(wPin 1 0x200).setPin 4 { Pin.reset with cls := 1, run := 19 }, 4, 1500, 1, by decide⟩

theorem wit_SignalPins_2 : ∃ (s : State) (n : Fin 64) (mv : BitVec 16) (k : Nat), (PinRuns s n.val 1 ∨ PinRuns s n.val 2) ∧ 2 ≤ k ∧ k ≤ 4 ∧ (s.pinAt n.val).cls = k ∧ bandOf mv.toNat k = k ∧ 999 ≤ (s.pinAt n.val).run := by
  exact ⟨(wPin 1 0x200).setPin 4 { Pin.reset with cls := 3, run := 999 }, 4, 12000, 3, by decide⟩

theorem wit_SignalPins_3 : ∃ (s : State) (n : Fin 64) (l : List (BitVec 12)), PinRuns s n.val 3 ∧ l ≠ [] := by
  exact ⟨wPin 3 0, 4, [3, 6], by decide⟩

theorem wit_SignalPins_4 : ∃ (s : State) (n : Fin 64) (mv : BitVec 16), PinRuns s n.val 3 ∧ 1000 < mv.toNat ∧ (s.pinAt n.val).openRun = 1 := by
  exact ⟨(wPin 3 0).setPin 4 { Pin.reset with openRun := 1 }, 4, 2000, by decide⟩

theorem wit_SignalPins_5 : ∃ (s : State) (n : Fin 64) (k : BitVec 32), PinRuns s n.val 6 := by
  exact ⟨wPin 6 0, 4, 400000, by decide⟩

theorem wit_SignalPins_6 : ∃ (s : State) (n : Fin 64), PinRuns s n.val 6 := by
  exact ⟨wPin 6 0, 4, by decide⟩

theorem wit_SignalPins_7 : ∃ (s : State) (n : Fin 64) (a b : BitVec 16), PinRuns s n.val 6 ∧ (s.pinAt n.val).lost = true := by
  exact ⟨(wPin 6 0).setPin 4 { Pin.reset with lost := true }, 4, 500, 100, by decide⟩

theorem wit_SignalPins_8 : ∃ (s : State) (n : Fin 64), s.isOutput n.val = true ∧ s.pinConducts n.val = true := by
  exact ⟨(wPin 4 0).setFlag (Fd.PIN_STATUS_OUT 4) true, 4, by decide⟩

theorem wit_SignalPins_9 : ∃ (s : State) (n : Fin 64), s.isOutput n.val = true ∧ s.pinConducts n.val = true := by
  exact ⟨(wPin 4 0).setFlag (Fd.PIN_STATUS_OUT 4) true, 4, by decide⟩

theorem wit_SignalPins_10 : ∃ (s : State) (n : Fin 64) (mv : BitVec 16), (PinRuns s n.val 4 ∨ PinRuns s n.val 5) ∧ s.flag (Fd.PIN_STATUS_OUT n.val) = false ∧ mv.toNat < 2000 ∧ (s.pinAt n.val).gndRun = 1 := by
  exact ⟨(wPin 4 0).setPin 4 { Pin.reset with gndRun := 1 }, 4, 500, by decide⟩

theorem wit_SignalPins_11 : ∃ (s : State) (n : Fin 64), s.isOutput n.val = true ∧ s.flag (Fd.PIN_STATUS_OUT n.val) = true ∧ (s.pinRuns n.val = false ∨ 100 * us * s.pinParam n.val * 1000 ≤ s.rd (Fd.PIN_STATUS_VALUE n.val) * sec) := by
  exact ⟨(wPin 4 0).setFlag (Fd.PIN_STATUS_OUT 4) true, 4, by decide⟩

theorem wit_SignalPins_12 : ∃ (s : State) (who : Who) (n : Fin 64) (w : Word), s.passesChecks (s.issuer who) 4 (Rg.PIN_OUT n.val) w (s.pinHolder n.val).isSome
      (decide (1000 < getBits w.toNat 9 0) || (s.pinFunc n.val == 4 && decide (1 < getBits w.toNat 9 0))) = true ∧ s.isOutput n.val = true ∧ s.pinRefuses n.val (getBits w.toNat 9 0) = false ∧ (s.pinAt n.val).layCause ≠ 4 := by
  exact ⟨wPin 5 100, hall, 4, 0x2EE, by decide⟩

theorem wit_PinCommands_1 : ∃ (s : State) (e : Fin 4096) (tag : BitVec 16) (n : Nat) (c : Cmd), PinReady s e.val tag.toNat 1 n c ∧ (s.pinAt n).layby = false ∧ s.pinRefuses n (c.f 0x10 2) = false := by
  exact ⟨wPinCmd (wPin 5 100) 1 [0xF4, 1], 5, 7, 4, wPp 1 [0xF4, 1], by decide⟩

theorem wit_PinCommands_2 : ∃ (s : State) (e : Fin 4096) (tag : BitVec 16) (n : Nat) (c : Cmd), PinReady s e.val tag.toNat 1 n c ∧ (s.pinAt n).layby = true ∧ ((s.pinAt n).layOld = true ∨ (s.pinAt n).layCause = 4) := by
  exact ⟨(wPinCmd (wPin 5 100) 1 [0xF4, 1]).setPin 4 { Pin.reset with layby := true, layOld := true }, 5, 7, 4, wPp 1 [0xF4, 1], by decide⟩

theorem wit_PinCommands_3 : ∃ (s : State) (e : Fin 4096) (tag : BitVec 16) (n : Nat) (c : Cmd), PinReady s e.val tag.toNat 1 n c ∧ (s.pinAt n).layby = false ∧ s.pinRefuses n (c.f 0x10 2) = true := by
  exact ⟨(wPinCmd (wPin 5 100) 1 [0xF4, 1]).setFlag (Fd.PIN_STATUS_LATCHED 4) true, 5, 7, 4, wPp 1 [0xF4, 1], by decide⟩

theorem wit_PinCommands_4 : ∃ (s : State) (e : Fin 4096) (tag : BitVec 16) (n : Nat) (c : Cmd), PinReady s e.val tag.toNat 2 n c ∧ s.dramRange (s.epAt c.ep).district 0 (c.f 0x10 8) 16 2 = true ∧ (recordAt s c + 16 ≤ c.f 0x10 8 ∨ c.f 0x10 8 + 16 ≤ recordAt s c) := by
  exact ⟨wPinCmd (wPin 5 100) 2 [0, 0, 0, 0x80], 5, 7, 4, wPp 2 [0, 0, 0, 0x80], by decide⟩

theorem wit_PinCommands_5 : ∃ (s : State) (e : Fin 4096) (tag : BitVec 16) (n : Nat) (c : Cmd), PinReady s e.val tag.toNat 3 n c ∧ ((s.inflight c.ep).filter (fun k => k.op == 3 && k.phase == .waiting)).length < 4 := by
  exact ⟨wPinCmd (wPin 5 100) 3 [], 5, 7, 4, wPp 3 [], by decide⟩

theorem wit_PinCommands_6 : ∃ (s : State) (e : Fin 4096) (tag : BitVec 16) (l : Nat) (c : Cmd), LinReady s e.val tag.toNat 0x10 l c ∧ c.f 0x10 1 = 1 ∧ c.f 0x11 1 ≤ 3 ∧ (s.linTable l (c.f 0x11 1)).isEmpty = false ∧ s.shortSlot l (c.f 0x11 1) = none ∧ s.linState l = 0 := by
  exact ⟨wLinCmd wLin 0x10 [1, 0], 5, 7, 1, wPp 0x10 [1, 0], by decide⟩

theorem wit_PinCommands_7 : ∃ (s : State) (e : Fin 4096) (tag : BitVec 16) (l : Nat) (c : Cmd) (k : Nat), LinReady s e.val tag.toNat 0x10 l c ∧ c.f 0x10 1 = 1 ∧ (s.linTable l (c.f 0x11 1)).isEmpty = false ∧ s.shortSlot l (c.f 0x11 1) = some k := by
  exact ⟨wLinCmd (wLin.wr (Fd.LIN_FRAME_CFG_LEN 1 6) 0) 0x10 [1, 0], 5, 7, 1, wPp 0x10 [1, 0], 1, by decide⟩

theorem wit_PinCommands_8 : ∃ (s : State) (e : Fin 4096) (tag : BitVec 16) (l : Nat) (c : Cmd), LinReady s e.val tag.toNat 0x10 l c ∧ c.f 0x10 1 = 1 ∧ (s.linTable l (c.f 0x11 1)).isEmpty = false ∧ s.shortSlot l (c.f 0x11 1) = none ∧ s.linState l = 1 ∧ (s.linAt l).pend = [] := by
  exact ⟨wLinCmd (wLin.wr (Fd.LIN_STATUS_STATE 1) 1) 0x10 [1, 0], 5, 7, 1, wPp 0x10 [1, 0], by decide⟩

theorem wit_PinCommands_9 : ∃ (s : State) (e : Fin 4096) (tag : BitVec 16) (l : Nat) (c : Cmd), LinReady s e.val tag.toNat 0x10 l c ∧ c.f 0x10 1 = 2 ∧ s.linState l = 1 := by
  exact ⟨wLinCmd (wLin.wr (Fd.LIN_STATUS_STATE 1) 1) 0x10 [2, 0], 5, 7, 1, wPp 0x10 [2, 0], by decide⟩

theorem wit_PinCommands_10 : ∃ (s : State) (e : Fin 4096) (tag : BitVec 16) (l : Nat) (c : Cmd), LinReady s e.val tag.toNat 0x10 l c ∧ c.f 0x10 1 = 3 ∧ s.linState l = 1 := by
  exact ⟨wLinCmd (wLin.wr (Fd.LIN_STATUS_STATE 1) 1) 0x10 [3, 0], 5, 7, 1, wPp 0x10 [3, 0], by decide⟩

theorem wit_PinCommands_11 : ∃ (s : State) (e : Fin 4096) (tag : BitVec 16) (l : Nat) (c : Cmd), LinReady s e.val tag.toNat 0x10 l c ∧ c.f 0x10 1 = 4 ∧ s.linState l = 2 := by
  exact ⟨wLinCmd (wLin.wr (Fd.LIN_STATUS_STATE 1) 2) 0x10 [4, 0], 5, 7, 1, wPp 0x10 [4, 0], by decide⟩

theorem wit_PinCommands_12 : ∃ (s : State) (e : Fin 4096) (tag : BitVec 16) (l : Nat) (c : Cmd), LinReady s e.val tag.toNat 0x11 l c ∧ s.flag (Fd.LIN_FRAME_CFG_PUBLISH l (c.f 0x10 1)) = true := by
  exact ⟨wLinCmd wLin 0x11 [5, 0, 0, 0, 0, 0, 0, 0, 1, 2, 3], 5, 7, 1, wPp 0x11 [5, 0, 0, 0, 0, 0, 0, 0, 1, 2, 3], by decide⟩

theorem wit_PinCommands_13 : ∃ (s : State) (e : Fin 4096) (tag : BitVec 16) (l : Nat) (c : Cmd), LinReady s e.val tag.toNat 0x11 l c ∧ s.flag (Fd.LIN_FRAME_CFG_PUBLISH l (c.f 0x10 1)) = false := by
  exact ⟨wLinCmd wLin 0x11 [6, 0, 0, 0, 0, 0, 0, 0, 1, 2, 3], 5, 7, 1, wPp 0x11 [6, 0, 0, 0, 0, 0, 0, 0, 1, 2, 3], by decide⟩

theorem wit_PinCommands_14 : ∃ (s : State) (e : Fin 4096) (tag : BitVec 16) (l : Nat) (c : Cmd), LinReady s e.val tag.toNat 0x12 l c := by
  exact ⟨wLinCmd wLin 0x12 [6], 5, 7, 1, wPp 0x12 [6], by decide⟩

theorem wit_LinBus_1 : ∃ (s : State) (l : Fin 4) (i : Item) (k : Nat), s.dev = .active ∧ s.gated 0xE = false ∧ s.linState l.val = 1 ∧ (s.linAt l.val).pend = [] ∧ k = (if (s.linAt l.val).first then 0 else (s.rd (Fd.LIN_STATUS_SLOT l.val) + 1) % (s.linTable l.val (s.rd (Fd.LIN_STATUS_TABLE l.val))).length) ∧ s.linSlot l.val (s.rd (Fd.LIN_STATUS_TABLE l.val)) k = some i ∧ k < 64 := by
  exact ⟨(let s := wLin.wr (Fd.LIN_STATUS_STATE 1) 1; s.setLin 1 { s.linAt 1 with slotAt := 80, first := true }), 1, ⟨1, 1, 0x0503, [1, 0, 0, 5, 200]⟩, 0, by decide⟩

theorem wit_LinBus_2 : ∃ (s : State) (l : Fin 4), s.dev = .active ∧ s.gated 0xE = false ∧ s.linState l.val = 1 ∧ (s.linAt l.val).pend = [(2, 0, .ctrl)] := by
  exact ⟨(let s := wLin.wr (Fd.LIN_STATUS_STATE 1) 1; s.setLin 1 { s.linAt 1 with pend := [(2, 0, .ctrl)] }), 1, by decide⟩

theorem wit_LinBus_3 : ∃ (s : State) (l : Fin 4) (data : BitVec 64) (sum : Byte) (id : Nat), (s.linAt l.val).wait = some id ∧ s.now ≤ (s.linAt l.val).frameEnd ∧ (s.linAt l.val).badSum = false ∧ sum.toNat = s.linCheck l.val id (s.rd (Fd.LIN_FRAME_CFG_LEN l.val id)) data.toNat := by
  exact ⟨wLin.setLin 1 { Lin.reset with wait := some 6, frameEnd := 90 }, 1, 0x112233, 0xA4, 6, by decide⟩

theorem wit_LinBus_4 : ∃ (s : State) (l : Fin 4) (data : BitVec 64) (sum : Byte) (id : Nat), (s.linAt l.val).wait = some id ∧ s.now ≤ (s.linAt l.val).frameEnd ∧ (s.linAt l.val).badSum = false ∧ sum.toNat ≠ s.linCheck l.val id (s.rd (Fd.LIN_FRAME_CFG_LEN l.val id)) data.toNat := by
  exact ⟨wLin.setLin 1 { Lin.reset with wait := some 6, frameEnd := 90 }, 1, 0x112233, 0, 6, by decide⟩

theorem wit_LinBus_5 : ∃ (s : State) (l : Fin 4) (data : BitVec 64) (sum : Byte) (id : Nat), (s.linAt l.val).wait = some id ∧ (s.linAt l.val).frameEnd < s.now := by
  exact ⟨{ wLin.setLin 1 { Lin.reset with wait := some 6, frameEnd := 90 } with now := 95 }, 1, 0x112233, 0xA4, 6, by decide⟩

theorem wit_LinBus_6 : ∃ (s : State) (l : Fin 4) (id : Nat), (s.linAt l.val).wait = some id := by
  exact ⟨wLin.setLin 1 { Lin.reset with wait := some 6, frameEnd := 90, badSum := true }, 1, 6, by decide⟩

theorem wit_LinBus_7 : ∃ (s : State) (l : Fin 4), s.now ≤ (s.linAt l.val).frameEnd ∧ (s.linState l.val = 1 ∨ s.linState l.val = 2) := by
  exact ⟨(wLin.wr (Fd.LIN_STATUS_STATE 1) 1).setLin 1 { Lin.reset with sent := some (5, 3, 4), frameEnd := 90 }, 1, by decide⟩

theorem wit_LinBus_8 : ∃ (s : State) (l : Fin 4), s.dev = .active ∧ s.gated 0xE = false ∧ s.linState l.val = 2 := by
  exact ⟨wLin.wr (Fd.LIN_STATUS_STATE 1) 2, 1, by decide⟩

theorem wit_LinBus_9 : ∃ (s : State) (l : Fin 4) (e : Nat), (s.linAt l.val).wakeAt = some e ∧ s.linState l.val = 2 := by
  exact ⟨(wLin.wr (Fd.LIN_STATUS_STATE 1) 2).setLin 1 { Lin.reset with wakeAt := some 75 }, 1, 75, by decide⟩

theorem wit_PairOperations_1 : ∃ (s : State) (who : Who) (p : Fin 4), s.passesChecks (s.issuer who) 4 (Rg.CP_PAIR_CTRL p.val) 1 false false = true ∧ s.rd (Fd.CP_PAIR_CTRL_RESULT p.val) ≠ Code.BUSY ∧ s.opCode p.val 1 = Code.DONE ∧ s.pairInCall p.val = false := by
  exact ⟨wPair 1, hall, 1, by decide⟩

theorem wit_PairOperations_2 : ∃ (s : State) (who : Who) (p : Fin 4), s.passesChecks (s.issuer who) 4 (Rg.CP_PAIR_CTRL p.val) 2 false false = true ∧ s.rd (Fd.CP_PAIR_CTRL_RESULT p.val) ≠ Code.BUSY ∧ s.opCode p.val 2 = Code.DONE ∧ s.pairInCall p.val = false := by
  exact ⟨wPair 0, hall, 1, by decide⟩

theorem wit_PairOperations_3 : ∃ (s : State) (who : Who) (p : Fin 4), s.passesChecks (s.issuer who) 4 (Rg.CP_PAIR_CTRL p.val) 3 false false = true ∧ s.rd (Fd.CP_PAIR_CTRL_RESULT p.val) ≠ Code.BUSY ∧ s.opCode p.val 3 = Code.DONE := by
  exact ⟨wPair 4, hall, 1, by decide⟩

theorem wit_PairOperations_4 : ∃ (s : State) (who : Who) (p : Fin 4), s.passesChecks (s.issuer who) 4 (Rg.CP_PAIR_CTRL p.val) 4 false false = true ∧ s.rd (Fd.CP_PAIR_CTRL_RESULT p.val) ≠ Code.BUSY ∧ s.pairState p.val = 4 := by
  exact ⟨wPair 4, hall, 1, by decide⟩

theorem wit_PairOperations_5 : ∃ (s : State) (p : Fin 4), s.dev = .active ∧ s.pairState p.val = 2 ∧ (s.pair p.val).compared = (s.pair p.val).closed := by
  exact ⟨wPair 2, 1, by decide⟩

theorem wit_PairOperations_6 : ∃ (s : State) (p : Fin 4), s.dev = .active ∧ s.pairState p.val = 3 := by
  exact ⟨wPair 3, 1, by decide⟩

theorem wit_PairOperations_7 : ∃ (s : State) (p : Fin 4), s.dev = .active ∧ s.pairState p.val = 5 := by
  exact ⟨wPair 5, 1, by decide⟩

theorem wit_PairOperations_8 : ∃ (s : State) (p : Fin 4) (delay : Bool), s.dev = .active ∧ s.pairState p.val = 4 ∧ s.rd (Fd.CP_PAIR_STATUS_BIST p.val) = 1 := by
  exact ⟨(wPair 4).wr (Fd.CP_PAIR_STATUS_BIST 1) 1, 1, true, by decide⟩

theorem wit_PairOperations_9 : ∃ (s : State), s.dev = .active := by
  exact ⟨wOn, by decide⟩

theorem wit_PairOperations_10 : ∃ (s : State) (who : Who), s.passesChecks (s.issuer who) 4 Rg.CP_FAULT_OUT 0x80000000 false false = true := by
  exact ⟨wOn, hall, by decide⟩

theorem wit_PairOperations_11 : ∃ (s : State) (who : Who), s.passesChecks (s.issuer who) 4 Rg.CP_FAULT_OUT 0x40000000 false false = true ∧ s.anyFault = false := by
  exact ⟨wOn.setReg Rg.CP_FAULT_OUT 1, hall, by decide⟩

theorem wit_PairWindows_1 : ∃ (s : State) (who : Who) (a : BitVec 34) (data : List Byte) (amo : Bool), GatedBy s who a data ∧ s.pairState (pairOf s who) = 1 ∧ (0x20000000 ≤ a.toNat ∧ a.toNat < 0x22000000 → data.length = 4 ∧ a.toNat % 4 = 0) ∧ (s.pair (pairOf s who)).gate.length < 16 ∧ amo = false := by
  exact ⟨wGate, ⟨2, 2, 0⟩, 0x10400010, [1, 2], false, by decide⟩

theorem wit_PairWindows_2 : ∃ (s : State) (who : Who) (a : BitVec 34) (data : List Byte), GatedBy s who a data ∧ s.pairState (pairOf s who) = 1 ∧ (0x20000000 ≤ a.toNat ∧ a.toNat < 0x22000000 → data.length = 4 ∧ a.toNat % 4 = 0) ∧ 16 ≤ (s.pair (pairOf s who)).gate.length := by
  exact ⟨{ wGate with cp := { CpState.reset with pair := [(1, ⟨16, 0, List.replicate 16 ⟨1, ⟨2, 2, 0⟩, 0x10400010, [1, 2]⟩, 0, false⟩)] } }, ⟨2, 2, 0⟩, 0x10400010, [1, 2], by decide⟩

theorem wit_PairWindows_3 : ∃ (s : State) (who : Who) (a : BitVec 34) (data : List Byte), GatedBy s who a data ∧ (s.pairState (pairOf s who) = 0 ∨ s.pairState (pairOf s who) = 1) := by
  exact ⟨wGate, ⟨2, 2, 0⟩, 0x10400010, [1, 2], by decide⟩

theorem wit_PairWindows_4 : ∃ (s : State) (who : Who) (a : BitVec 34) (data : List Byte), GatedBy s who a data ∧ s.pairState (pairOf s who) = 0 := by
  exact ⟨{ wGate with regs := wOn.regs }, ⟨2, 2, 0⟩, 0x10400010, [1, 2], by decide⟩

theorem wit_PairWindows_5 : ∃ (s : State) (p : Fin 4) (lead chk : List SigRec), s.dev = .active ∧ s.pairState p.val = 1 ∧ misr lead = misr chk ∧ lead.length ≤ s.windowMax p.val ∧ chk.length ≤ s.windowMax p.val ∧ (s.pair p.val).gate = [] := by
  exact ⟨wPair 1, 1, [wSig 1], [wSig 1], by decide⟩

theorem wit_PairWindows_6 : ∃ (s : State) (p : Fin 4) (lead chk : List SigRec) (e : GateEnt), s.dev = .active ∧ (s.pairState p.val = 1 ∨ s.pairState p.val = 2) ∧ lead.length ≤ s.windowMax p.val ∧ chk.length ≤ s.windowMax p.val ∧ misr lead = misr chk ∧ (s.pair p.val).gate = [e] ∧ e.win = (s.pair p.val).compared + 1 ∧ (s.pair p.val).compared < (s.pair p.val).closed ∧ placeOf e.addr = .dualPort ∧ e.data ≠ [] ∧ e.who.initiator.toNat / 2 = p.val ∧ placeOf (e.addr + e.data.length - 1) = .dualPort ∧ s.passes e.who .write 1 e.addr e.data.length = true ∧ s.badWords e.addr e.data.length true = [] := by
  exact ⟨{ wGate with cp := { CpState.reset with pair := [(1, ⟨1, 0, [⟨1, ⟨2, 2, 0⟩, 0x10400010, [1, 2]⟩], 0, false⟩)] } }, 1, [wSig 1], [wSig 1], ⟨1, ⟨2, 2, 0⟩, 0x10400010, [1, 2]⟩, by decide⟩

theorem wit_PairWindows_7 : ∃ (s : State) (p : Fin 4) (lead chk : List SigRec), s.dev = .active ∧ s.pairState p.val = 1 ∧ misr lead ≠ misr chk ∧ lead.length ≤ s.windowMax p.val ∧ chk.length ≤ s.windowMax p.val := by
  exact ⟨wPair 1, 1, [wSig 1], [wSig 2], by decide⟩

theorem wit_PairWindows_8 : ∃ (s : State) (p : Fin 4) (lead : List SigRec) (b : Bool), s.dev = .active ∧ s.pairState p.val = 1 ∧ lead.length ≤ s.windowMax p.val := by
  exact ⟨wPair 1, 1, [wSig 1], true, by decide⟩

theorem wit_PairWindows_9 : ∃ (s : State) (p : Fin 4), s.dev = .active ∧ (s.pairState p.val = 1 ∨ s.pairState p.val = 2) := by
  exact ⟨wPair 2, 1, by decide⟩

theorem wit_CourtyardCalls_1 : ∃ (s : State) (core : Fin 8) (w : Word) (ctx : HartCtx), RunsOut s core ∧ isGateCall w.toNat = true ∧ ctx.mode = .m := by
  exact ⟨wCy 1, 2, 0x5000B, { wCtx with mode := .m }, by decide⟩

theorem wit_CourtyardCalls_2 : ∃ (s : State) (core : Fin 8) (w : Word) (ctx : HartCtx), RunsOut s core ∧ isGateCall w.toNat = true ∧ ctx.mode ≠ .m ∧ s.gateCode ctx.district.toNat (gateNo w ctx) ≠ Code.DONE := by
  exact ⟨wCy 1, 2, 0x5000B, { wCtx with x := [5, 6, 0, 0, 0, 0, 0, 0, 0, 0x25] }, by decide⟩

theorem wit_CourtyardCalls_3 : ∃ (s : State) (core : Fin 8) (w : Word) (ctx : HartCtx), RunsOut s core ∧ isGateCall w.toNat = true ∧ ctx.mode ≠ .m ∧ s.gateCode ctx.district.toNat (gateNo w ctx) = Code.DONE ∧ EntryReads s core ctx (gateNo w ctx) 0x100B := by
  exact ⟨wCy 1, 2, 0x5000B, { wCtx with x := [5, 6, 0, 0, 0, 0, 0, 0, 0, 0x11] }, by decide⟩

theorem wit_CourtyardCalls_4 : ∃ (s : State) (core : Fin 8) (w : Word) (ctx : HartCtx) (v : Nat), RunsOut s core ∧ isGateCall w.toNat = true ∧ ctx.mode ≠ .m ∧ s.gateCode ctx.district.toNat (gateNo w ctx) = Code.DONE ∧ EntryReads s core ctx (gateNo w ctx) v ∧ v ≠ 0x100B ∧ s.wg.restartWait = [] := by
  exact ⟨(wCy 1).store 0x80000040 [0x13], 2, 0x5000B, { wCtx with x := [5, 6, 0, 0, 0, 0, 0, 0, 0, 0x11] }, 0x1013, by decide⟩

theorem wit_CourtyardCalls_5 : ∃ (s : State) (core : Fin 8) (ctx : HartCtx), RunsOut s core := by
  exact ⟨wCy 1, 2, wCtx, by decide⟩

theorem wit_CourtyardCalls_6 : ∃ (s : State) (core : Fin 8) (w : Word) (ctx : HartCtx), RunsOut s core ∧ isCustom w.toNat = true ∧ isGateCall w.toNat = false ∧ w ≠ 0x100B ∧ w ≠ 0x200B := by
  exact ⟨wCy 1, 2, 0x8000300B, wCtx, by decide⟩

theorem wit_CourtyardCalls_7 : ∃ (s : State) (core : Fin 8) (w : Word) (ctx : HartCtx) (f : GateFrame), RunsIn s core f ∧ isCustom w.toNat = true ∧ w ≠ 0x100B ∧ w ≠ 0x200B := by
  exact ⟨wIn, 2, 0x5000B, wCtx, wFrame, by decide⟩

theorem wit_CourtyardCalls_8 : ∃ (s : State) (core : Fin 8) (pc : BitVec 64) (f : GateFrame) (ctx : HartCtx), RunsIn s core f ∧ ctx.pc = pc := by
  exact ⟨wIn, 2, 0x1000, wFrame, { wCtx with pc := 0x1000 }, by decide⟩

theorem wit_CourtyardCalls_9 : ∃ (s : State) (core : Fin 8) (a0 a1 : BitVec 64), RunsOut s core := by
  exact ⟨wOn, 2, 9, 8, by decide⟩

theorem wit_CourtyardCalls_10 : ∃ (s : State) (core : Fin 8) (a0 a1 : BitVec 64) (f : GateFrame), RunsIn s core f ∧ s.now ≤ s.budgetEnd (s.leader core.val) := by
  exact ⟨wIn, 2, 9, 8, wFrame, by decide⟩

theorem wit_CourtyardCalls_11 : ∃ (s : State) (core : Fin 8) (f : GateFrame), RunsIn s core f := by
  exact ⟨wIn, 2, wFrame, by decide⟩

theorem wit_CourtyardCalls_12 : ∃ (s : State) (core : Fin 8) (why : CyEvent) (f : GateFrame), RunsIn s core f ∧ (∀ a ∈ cyCsrs, why ≠ .csr a) := by
  exact ⟨wIn, 2, .ecall, wFrame, by decide⟩

theorem wit_CourtyardCalls_13 : ∃ (s : State) (core : Fin 8) (a : BitVec 12) (f : GateFrame), RunsIn s core f ∧ a ∈ cyCsrs := by
  exact ⟨wIn, 2, 3, wFrame, by decide⟩

theorem wit_MemoryUpkeep_1 : ∃ (s : State) (a : BitVec 34), s.dev = .active ∧ placeOf (8 * (a.toNat / 8)) = .dram ∧ s.wg.poison.contains (a.toNat / 8) = false := by
  exact ⟨{ wOn with wg := { WgState.reset with single := [0x10000008] } }, 0x80000040, by decide⟩

theorem wit_MemoryUpkeep_2 : ∃ (s : State) (a : BitVec 34), s.dev = .active ∧ placeOf (8 * (a.toNat / 8)) = .sram ∧ s.bankOff (8 * (a.toNat / 8)) 8 = false := by
  exact ⟨wOn, 0x10000047, by decide⟩

theorem wit_MemoryUpkeep_3 : ∃ (s : State) (who : Who) (w : Word), s.passesChecks (s.issuer who) 4 Rg.WG_BANK_PWR w false false = true ∧ (List.range 32).all (fun k => !(tbit (s.reg Rg.WG_BANK_PWR).toNat k && !tbit w.toNat k && s.bankReserved k)) = true := by
  exact ⟨wOn.store 0x10020000 [1, 2], hall, 0xFFFFFFFD, by decide⟩

theorem wit_MemoryUpkeep_4 : ∃ (s : State) (who : Who) (b : BitVec 4), s.passesChecks (s.issuer who) 4 Rg.WG_RESERVE (BitVec.ofNat 32 (64 + b.toNat)) false false = true ∧ 8 ≤ b.toNat ∧ s.holdsBlock (s.cyDistrict (s.issuer who).courtyard.toNat) b.toNat = true ∧ s.gated b.toNat = false := by
  exact ⟨(wCy 1).setHart 2 { Hart.reset with cy := 1, district := 2 }, ⟨2, 2, 1⟩, 0xB, by decide⟩

theorem wit_MemoryUpkeep_5 : ∃ (s : State) (who : Who) (b : BitVec 4), s.passesChecks (s.issuer who) 4 Rg.WG_RESERVE (BitVec.ofNat 32 (128 + b.toNat)) false false = true ∧ 8 ≤ b.toNat ∧ s.holdsBlock (s.cyDistrict (s.issuer who).courtyard.toNat) b.toNat = true := by
  exact ⟨({ wCy 1 with wg := { WgState.reset with resv := [(1, 11), (2, 11)] } }).setHart 2 { Hart.reset with cy := 1, district := 2 }, ⟨2, 2, 1⟩, 0xB, by decide⟩

theorem wit_CrossingCommands_1 : ∃ (s : State) (n : Fin 512), isSource n.val = true ∧ (s.src n.val).state = 0 ∧ 0 < (s.src n.val).count ∧ (s.src n.val).level = true := by
  exact ⟨wSrc ⟨0, 0, true, 1, 0, 5, 2, 100, false⟩, 65, by decide⟩

theorem wit_CrossingCommands_2 : ∃ (s : State) (who : Who) (k : Fin 9) (n : Nat) (r : RegRow) (x : List Nat), RegMap.at (Rg.IC_CLAIM k.val) = some (r, x) ∧ readable s (s.issuer who) (Rg.IC_CLAIM k.val) r = true ∧ s.isTarget (s.issuer who) k.val = true ∧ s.bestOffer k.val = some n := by
  exact ⟨wSrc ⟨1, 2, true, 4, 0, 5, 0, 0, false⟩, ⟨2, 0, 0⟩, 2, 65, ⟨0x20032040, [(0, 9, 4)], .target, [⟨8, 0, .rc, none⟩]⟩, [2], by decide⟩

theorem wit_CrossingCommands_3 : ∃ (s : State) (who : Who) (k : Fin 9) (r : RegRow) (x : List Nat), RegMap.at (Rg.IC_CLAIM k.val) = some (r, x) ∧ readable s (s.issuer who) (Rg.IC_CLAIM k.val) r = true ∧ s.isTarget (s.issuer who) k.val = true ∧ s.bestOffer k.val = none := by
  exact ⟨wOn, ⟨2, 0, 0⟩, 2, ⟨0x20032040, [(0, 9, 4)], .target, [⟨8, 0, .rc, none⟩]⟩, [2], by decide⟩

theorem wit_CrossingCommands_4 : ∃ (s : State) (who : Who) (k : Fin 9) (n : BitVec 9), s.passesChecks (s.issuer who) 4 (Rg.IC_COMPLETE k.val) (BitVec.ofNat 32 (0 + n.toNat)) (!s.isTarget (s.issuer who) k.val) false = true ∧ isSource n.toNat = true ∧ (s.src n.toNat).state = 2 ∧ (s.src n.toNat).target = k.val := by
  exact ⟨wSrc ⟨2, 2, false, 4, 3, 5, 0, 0, false⟩, ⟨2, 0, 0⟩, 2, 65, by decide⟩

theorem wit_CrossingCommands_5 : ∃ (s : State) (who : Who) (k : Fin 9) (n : BitVec 9), s.passesChecks (s.issuer who) 4 (Rg.IC_COMPLETE k.val) (BitVec.ofNat 32 (2 ^ 31 + n.toNat)) (!s.isTarget (s.issuer who) k.val) false = true ∧ isSource n.toNat = true ∧ (s.src n.toNat).state = 2 ∧ (s.src n.toNat).target = k.val := by
  exact ⟨wSrc ⟨2, 2, false, 4, 3, 5, 0, 0, false⟩, ⟨2, 0, 0⟩, 2, 65, by decide⟩

theorem wit_CrossingCommands_6 : ∃ (s : State) (n : Fin 512), s.dev = .active ∧ (s.src n.val).level = true ∧ (s.relevelAll.src n.val).level = false := by
  exact ⟨wSrc ⟨1, 2, true, 4, 0, 5, 0, 0, false⟩, 65, by decide⟩

theorem wit_CrossingCommands_7 : ∃ (s : State) (who : Who) (n : Fin 512) (w : Word), s.passesChecks (s.issuer who) 4 (Rg.IC_SRC_CFG n.val) w false (decide (125 ≤ n.val) && decide (n.val ≤ 255) && getBits w.toNat 24 16 != 0) = true := by
  exact ⟨wSrc ⟨1, 2, true, 4, 0, 5, 0, 0, false⟩, hall, 65, 0x01FF0007, by decide⟩

theorem wit_CrossingCommands_8 : ∃ (s : State) (who : Who) (k : Fin 9) (w : Word), s.passesChecks (s.issuer who) 4 (Rg.IC_TARGET_CTRL k.val) w false false = true := by
  exact ⟨wOn, hall, 3, 0x80000105, by decide⟩

theorem wit_CellarOperations_1 : ∃ (s : State) (e : Fin 4096) (tag : BitVec 16) (c : Cmd), KeyReady s e.val tag.toNat 1 c := by
  exact ⟨wKey 1 wBody (wSlot 1), 5, 7, wKeyCmd 1 wBody, by decide⟩

theorem wit_CellarOperations_2 : ∃ (s : State) (e : Fin 4096) (tag : BitVec 16) (c : Cmd), KeyReady s e.val tag.toNat 2 c := by
  exact ⟨wKey 2 wBody (wSlot 1), 5, 7, wKeyCmd 2 wBody, by decide⟩

theorem wit_CellarOperations_3 : ∃ (s : State) (e : Fin 4096) (tag : BitVec 16) (c : Cmd), KeyReady s e.val tag.toNat 3 c := by
  exact ⟨wKey 3 wBody (wSlot 1), 5, 7, wKeyCmd 3 wBody, by decide⟩

theorem wit_CellarOperations_4 : ∃ (s : State) (e : Fin 4096) (tag : BitVec 16) (c : Cmd), KeyReady s e.val tag.toNat 4 c := by
  exact ⟨wKey 4 wBody (wSlot 2), 5, 7, wKeyCmd 4 wBody, by decide⟩

theorem wit_CellarOperations_5 : ∃ (s : State) (e : Fin 4096) (tag : BitVec 16) (c : Cmd), KeyReady s e.val tag.toNat 5 c := by
  exact ⟨wKey 5 wBody (wSlot 3), 5, 7, wKeyCmd 5 wBody, by decide⟩

theorem wit_CellarOperations_6 : ∃ (s : State) (e : Fin 4096) (tag : BitVec 16) (c : Cmd), KeyReady s e.val tag.toNat 6 c := by
  exact ⟨wKey 6 wBody (wSlot 4), 5, 7, wKeyCmd 6 wBody, by decide⟩

theorem wit_CellarOperations_7 : ∃ (s : State) (e : Fin 4096) (tag : BitVec 16) (c : Cmd), KeyReady s e.val tag.toNat 8 c := by
  exact ⟨wKey 8 wBody (wSlot 1), 5, 7, wKeyCmd 8 wBody, by decide⟩

theorem wit_CellarOperations_8 : ∃ (s : State) (e : Fin 4096) (tag : BitVec 16) (c : Cmd), KeyReady s e.val tag.toNat 10 c := by
  exact ⟨wKey 10 wBody (wSlot 1), 5, 7, wKeyCmd 10 wBody, by decide⟩

theorem wit_CellarOperations_9 : ∃ (s : State) (e : Fin 4096) (tag : BitVec 16) (c : Cmd), KeyReady s e.val tag.toNat 11 c := by
  exact ⟨(wKey 11 wBody (wSlot 1)).wr Fd.KS_STATUS_STATE 2, 5, 7, wKeyCmd 11 wBody, by decide⟩

theorem wit_CellarOperations_10 : ∃ (s : State) (e : Fin 4096) (tag : BitVec 16) (c : Cmd), KeyReady s e.val tag.toNat 7 c := by
  exact ⟨wKey 7 wBody (wSlot 2), 5, 7, wKeyCmd 7 wBody, by decide⟩

theorem wit_CellarOperations_11 : ∃ (s : State) (e : Fin 4096) (tag : BitVec 16) (c : Cmd), KeyReady s e.val tag.toNat 9 c := by
  exact ⟨wKey 9 wBody (wSlot 1), 5, 7, wKeyCmd 9 wBody, by decide⟩

theorem wit_CellarOperations_12 : ∃ (s : State) (e : Fin 4096) (tag : BitVec 16) (c : Cmd), KeyReady s e.val tag.toNat 12 c := by
  exact ⟨(let s := (wKey 12 wBody (wSlot 1)).setFlag Fd.KS_STATUS_PROV_OPEN true; s.setEp 5 { s.epAt 5 with district := 0 }), 5, 7, wKeyCmd 12 wBody, by decide⟩

theorem wit_CellarOperations_13 : ∃ (s : State) (e : Fin 4096) (tag : BitVec 16) (c : Cmd) (k : KeyOp), s.cmdOf e.val tag.toNat = some c ∧ c.op = 1 ∧ s.ks.ops = [k] ∧ k.ep = e.val ∧ k.tag = tag.toNat ∧ k.started = true ∧ k.target = none ∧ s.poisoned c.src c.keyLen = false ∧ (recordAt s c + 16 ≤ c.dst ∨ c.dst + c.keyLen ≤ recordAt s c) := by
  exact ⟨wKeyRun 1 (wSlot 1), 5, 7, wCmd 1 wBody, ⟨5, 7, 1, true, wSlot 1, wSlot 1, none, []⟩, by decide⟩

theorem wit_CellarOperations_14 : ∃ (s : State) (e : Fin 4096) (tag : BitVec 16) (c : Cmd) (k : KeyOp), s.cmdOf e.val tag.toNat = some c ∧ c.op = 4 ∧ s.ks.ops = [k] ∧ k.ep = e.val ∧ k.tag = tag.toNat ∧ k.started = true ∧ k.target = none ∧ s.poisoned c.src c.keyLen = false ∧ s.poisoned c.arg c.aux = false := by
  exact ⟨wKeyRun 4 (wSlot 2), 5, 7, wCmd 4 wBody, ⟨5, 7, 4, true, wSlot 2, wSlot 2, none, []⟩, by decide⟩

theorem wit_CellarOperations_15 : ∃ (s : State) (n : Fin 128) (c : Cmd) (k : KeyOp), s.ks.ops = [k] ∧ k.started = true ∧ k.target = some n.val ∧ s.cmdOf k.ep k.tag = some c := by
  exact ⟨(let s := wKeyRun 9 (wSlot 1); { s with ks := { s.ks with ops := [⟨5, 7, 9, true, wSlot 1, wSlot 1, some 2, [1, 2]⟩] } }), 2, wCmd 9 wBody, ⟨5, 7, 9, true, wSlot 1, wSlot 1, some 2, [1, 2]⟩, by decide⟩

theorem wit_CellarOperations_16 : ∃ (s : State) (n : Fin 128) (c : Cmd) (k : KeyOp), s.ks.ops = [k] ∧ k.started = true ∧ k.target = some n.val ∧ s.cmdOf k.ep k.tag = some c := by
  exact ⟨(let s := wKeyRun 9 (wSlot 1); { s with ks := { s.ks with ops := [⟨5, 7, 9, true, wSlot 1, wSlot 1, some 2, [1, 2]⟩] } }), 2, wCmd 9 wBody, ⟨5, 7, 9, true, wSlot 1, wSlot 1, some 2, [1, 2]⟩, by decide⟩

theorem wit_CellarOperations_17 : ∃ (s : State) (e : Fin 4096) (tag : BitVec 16) (c : Cmd) (k : KeyOp), s.cmdOf e.val tag.toNat = some c ∧ c.op = 10 ∧ s.ks.ops = [k] ∧ k.ep = e.val ∧ k.tag = tag.toNat ∧ k.started = true ∧ k.target = none ∧ s.poisoned c.src 32 = false ∧ (recordAt s c + 16 ≤ c.dst ∨ c.dst + 0x100 ≤ recordAt s c) := by
  exact ⟨wKeyRun 10 (wSlot 1), 5, 7, wCmd 10 wBody, ⟨5, 7, 10, true, wSlot 1, wSlot 1, none, []⟩, by decide⟩

theorem wit_CellarOperations_18 : ∃ (s : State) (e : Fin 4096) (tag : BitVec 16) (c : Cmd) (k : KeyOp), s.cmdOf e.val tag.toNat = some c ∧ c.op = 11 ∧ s.ks.ops = [k] ∧ k.ep = e.val ∧ k.tag = tag.toNat ∧ k.started = true ∧ k.target = none ∧ s.poisoned c.src 32 = false := by
  exact ⟨(wKeyRun 11 (wSlot 1)).wr Fd.KS_STATUS_STATE 2, 5, 7, wCmd 11 wBody, ⟨5, 7, 11, true, wSlot 1, wSlot 1, none, []⟩, by decide⟩

theorem wit_TamperAndKeys_1 : ∃ (s : State) (src : Fin 5), s.dev = .active ∧ abortOnly (s.rd Fd.KS_TAMPER_POLICY_ABORT_ONLY) src.val = false ∧ s.ksState ≠ 3 := by
  exact ⟨wKey 1 wBody (wSlot 1), 3, by decide⟩

theorem wit_TamperAndKeys_2 : ∃ (s : State) (src : Fin 5), s.dev = .active ∧ abortOnly (s.rd Fd.KS_TAMPER_POLICY_ABORT_ONLY) src.val = true := by
  exact ⟨(wKey 1 wBody (wSlot 1)).wr Fd.KS_TAMPER_POLICY_ABORT_ONLY 2, 3, by decide⟩

theorem wit_TamperAndKeys_3 : ∃ (s : State) (src : Fin 5), (s.dev = .parked ∨ s.dev = .standby) ∧ src.val ≤ 2 ∧ abortOnly s.ks.policy src.val = false := by
  exact ⟨{ wOn with dev := .parked }, 1, by decide⟩

theorem wit_TamperAndKeys_4 : ∃ (s : State) (src : Fin 5), (s.dev = .parked ∨ s.dev = .standby) ∧ src.val ≤ 2 ∧ abortOnly s.ks.policy src.val = true ∧ s.ks.latFull = 0 := by
  exact ⟨{ wOn with dev := .parked, ks := { KsState.reset with policy := 1 } }, 2, by decide⟩

theorem wit_TamperAndKeys_5 : ∃ (s : State), s.dev = .active ∧ s.ks.recDue = true ∧ s.flag Fd.KS_TAMPER_REC_PENDING = true := by
  exact ⟨({ wOn with ks := { KsState.reset with recDue := true } }.setReg Rg.KS_TAMPER_REC 0xC0000004), by decide⟩

theorem wit_TamperAndKeys_6 : ∃ (s : State) (n : Fin 128), s.dev = .active ∧ (s.slot n.val).st = 1 := by
  exact ⟨wKey 1 wBody (wSlot 1), 1, by decide⟩

theorem wit_TamperAndKeys_7 : ∃ (s : State) (who : Who) (w : Word), s.passesChecks (s.issuer who) 4 Rg.KS_PROV_LOCK w false (w.toNat != 0x4C4F434B) = true := by
  exact ⟨wOn, hall, 0x4C4F434B, by decide⟩

theorem wit_TamperAndKeys_8 : ∃ (s : State) (ok : Bool), s.dev = .active := by
  exact ⟨wOn, true, by decide⟩

theorem wit_TamperAndKeys_9 : ∃ (s : State) (who : Who) (m : Fin 3) (w : Word), s.passesChecks (s.issuer who) 4 (Rg.SW_MS_SA_LOAD m.val) w false (!tbit w.toNat 15 && getBits w.toNat 14 13 != 0) = true ∧ s.rd (Fd.SW_MS_SA_LOAD_RESULT m.val) ≠ Code.BUSY := by
  exact ⟨wOn, hall, 1, 0x8003, by decide⟩

theorem wit_TamperAndKeys_10 : ∃ (s : State) (m : Fin 3) (l : SaLoad), tget (fun _ => none) s.sw.saLoad m.val = some l ∧ l.code = Code.DONE ∧ tbit l.w 15 = false := by
  exact ⟨{ wOn with sw := { SwState.reset with saLoad := [(1, some ⟨0, 0x800, [1, 2, 3, 4, 5, 6, 7, 8], [9]⟩)] } }, 1, ⟨0, 0x800, [1, 2, 3, 4, 5, 6, 7, 8], [9]⟩, by decide⟩

theorem wit_UpdateOfABank_1 : ∃ (s : State) (who : Who) (clr : Bool), s.passesChecks (s.issuer who) 4 Rg.UP_CMD (upWord 1 clr) false false = true ∧ s.rd Fd.UP_CMD_RESULT ≠ Code.BUSY ∧ s.rd Fd.UP_CMD_RESULT ≠ Code.ACCEPTED ∧ s.anyTrial = false ∧ s.up.actAt = none ∧ s.applyCode (s.bytes s.upSrc s.upLen) ≠ Code.DONE := by
  exact ⟨wOn, hall, true, by decide⟩

theorem wit_UpdateOfABank_2 : ∃ (s : State) (who : Who) (clr : Bool), s.passesChecks (s.issuer who) 4 Rg.UP_CMD (upWord 1 clr) false false = true ∧ s.rd Fd.UP_CMD_RESULT ≠ Code.BUSY ∧ s.rd Fd.UP_CMD_RESULT ≠ Code.ACCEPTED ∧ s.anyTrial = false ∧ s.up.actAt = none ∧ s.applyCode (s.bytes s.upSrc s.upLen) = Code.DONE := by
  exact ⟨wDelta, hall, true, by decide⟩

theorem wit_UpdateOfABank_3 : ∃ (s : State) (x : Apply), s.up.apply = some x ∧ x.code = Code.DONE := by
  exact ⟨{ wOn with up := { UpState.reset with apply := some ⟨Code.DONE, 0, 0, [1, 2, 3]⟩ } }, ⟨Code.DONE, 0, 0, [1, 2, 3]⟩, by decide⟩

theorem wit_UpdateOfABank_4 : ∃ (s : State) (x : Apply) (sec : BitVec 16) (pos : Word), s.up.apply = some x := by
  exact ⟨{ wOn with up := { UpState.reset with apply := some ⟨Code.DONE, 0, 0, [1, 2, 3]⟩ } }, ⟨Code.DONE, 0, 0, [1, 2, 3]⟩, 4, 9, by decide⟩

theorem wit_UpdateOfABank_5 : ∃ (s : State) (x : Apply) (sec : BitVec 16) (pos : Word), s.up.apply = some x ∧ x.code ≠ Code.DONE := by
  exact ⟨{ wOn with up := { UpState.reset with apply := some ⟨Code.BAD_RECORD, 3, 17, []⟩ } }, ⟨Code.BAD_RECORD, 3, 17, []⟩, 4, 9, by decide⟩

theorem wit_UpdateOfABank_6 : ∃ (s : State) (who : Who) (clr : Bool), s.passesChecks (s.issuer who) 4 Rg.UP_CMD (upWord 5 clr) false false = true ∧ s.up.apply.isSome = true := by
  exact ⟨{ wOn with up := { UpState.reset with apply := some ⟨Code.DONE, 0, 0, []⟩ } }, hall, false, by decide⟩

theorem wit_UpdateOfABank_7 : ∃ (s : State) (who : Who) (clr : Bool), s.passesChecks (s.issuer who) 4 Rg.UP_CMD (upWord 5 clr) false false = true ∧ s.up.apply = none ∧ s.up.actAt = none := by
  exact ⟨wOn, hall, false, by decide⟩

theorem wit_UpdateOfABank_8 : ∃ (s : State) (who : Who) (clr : Bool), s.passesChecks (s.issuer who) 4 Rg.UP_CMD (upWord 4 clr) false false = true ∧ s.rd Fd.UP_CMD_RESULT ≠ Code.BUSY ∧ s.rd Fd.UP_CMD_RESULT ≠ Code.ACCEPTED ∧ s.bankState s.runningBank = 3 := by
  exact ⟨{ wOn with up := { UpState.reset with stA := 3 } }, hall, true, by decide⟩

theorem wit_Activation_1 : ∃ (s : State) (who : Who) (clr : Bool) (m : BitVec 4), s.passesChecks (s.issuer who) 4 Rg.UP_CMD (upWord 2 clr) false false = true ∧ s.rd Fd.UP_CMD_RESULT ≠ Code.BUSY ∧ s.rd Fd.UP_CMD_RESULT ≠ Code.ACCEPTED ∧ s.bankState s.idleBank = 2 ∧ s.anyTrial = false ∧ s.rd Fd.UP_STATUS_CLASS = 2 := by
  exact ⟨wStaged 2, hall, true, 0, by decide⟩

theorem wit_Activation_2 : ∃ (s : State) (who : Who) (clr : Bool) (m : BitVec 4), s.passesChecks (s.issuer who) 4 Rg.UP_CMD (upWord 2 clr) false false = true ∧ s.rd Fd.UP_CMD_RESULT ≠ Code.BUSY ∧ s.rd Fd.UP_CMD_RESULT ≠ Code.ACCEPTED ∧ s.bankState s.idleBank = 2 ∧ s.anyTrial = false ∧ s.rd Fd.UP_STATUS_CLASS = 1 := by
  exact ⟨wStaged 1, hall, true, 5, by decide⟩

theorem wit_Activation_3 : ∃ (s : State) (who : Who) (clr : Bool), s.passesChecks (s.issuer who) 4 Rg.UP_CMD (upWord 3 clr) false false = true ∧ s.rd Fd.UP_CMD_RESULT ≠ Code.BUSY ∧ s.rd Fd.UP_CMD_RESULT ≠ Code.ACCEPTED ∧ s.bankState s.idleBank = 2 ∧ s.anyTrial = false ∧ (s.rd Fd.UP_MODE_MODE ≠ 0 ∨ s.rd Fd.TP_STATUS_STATE = 3) ∧ s.rd Fd.SQ_AS_STATUS_STATE = 2 ∧ s.vt + 100 * ms ≤ s.upTime ∧ s.upTime ≤ s.vt + 60 * sec := by
  exact ⟨({ wStaged 1 with up := { UpState.reset with stB := 2 } }.wr Fd.SQ_AS_STATUS_STATE 2).setReg Rg.UP_TIME_LO 1000000000, hall, false, by decide⟩

theorem wit_Activation_4 : ∃ (s : State) (m : BitVec 4) (at_ : Nat), s.up.actAt = some at_ ∧ s.rd Fd.UP_STATUS_CLASS = 2 := by
  exact ⟨{ wStaged 2 with up := { UpState.reset with stB := 2, actAt := some 12345 } }, 3, 12345, by decide⟩

theorem wit_TwinWatch_1 : ∃ (s : State), s.uxOn = true ∧ s.gated 8 = false := by
  exact ⟨wTwin 1, by decide⟩

theorem wit_TwinWatch_2 : ∃ (s : State) (h : Heartbeat), UxRuns s ∧ h.role ≠ s.flag Fd.UX_STATUS_ROLE ∧ h.primary ≠ s.flag Fd.UX_STATUS_PRIMARY ∧ h.strapFault = false ∧ s.rd Fd.SYS_X_STATUS_STRAP < 2 ∧ h.supplyLoss = false ∧ h.sleep = false := by
  exact ⟨wTwin 0, ⟨true, false, false, false, false⟩, by decide⟩

theorem wit_TwinWatch_3 : ∃ (s : State) (h : Heartbeat), UxRuns s ∧ h.role ≠ s.flag Fd.UX_STATUS_ROLE ∧ h.primary ≠ s.flag Fd.UX_STATUS_PRIMARY ∧ h.strapFault = false ∧ s.rd Fd.SYS_X_STATUS_STRAP < 2 ∧ h.supplyLoss = false ∧ h.sleep = true ∧ s.rd Fd.UX_TWIN_STATE ≠ 2 := by
  exact ⟨wUx 1 (fun u => { u with np := [wNp .read false], posted := [⟨4, 2, 0x21000000⟩] }), ⟨true, false, true, false, false⟩, by decide⟩

theorem wit_TwinWatch_4 : ∃ (s : State) (h : Heartbeat), UxRuns s ∧ (h.role = s.flag Fd.UX_STATUS_ROLE ∨ h.primary = s.flag Fd.UX_STATUS_PRIMARY ∨
      h.strapFault = true ∨ 2 ≤ s.rd Fd.SYS_X_STATUS_STRAP) := by
  exact ⟨wTwin 1, ⟨false, false, false, false, false⟩, by decide⟩

theorem wit_TwinWatch_5 : ∃ (s : State), s.uxOn = true ∧ s.ux.alive = true ∧ s.ux.hbSleep = false ∧ s.rd Fd.UX_TWIN_STATE ≠ 0 := by
  exact ⟨wUx 1 (fun u => { u with alive := true, np := [wNp .read false] }), by decide⟩

theorem wit_TwinWatch_6 : ∃ (s : State), s.uxOn = true := by
  exact ⟨wTwin 1, by decide⟩

theorem wit_TwinWatch_7 : ∃ (s : State) (r : PollReply), UxRuns s ∧ s.rd Fd.UX_TWIN_STATE = 1 ∧ r.supplyLoss = false ∧ (∀ c ∈ r.chans, c.layby = false) := by
  exact ⟨wUx 1 (fun u => { u with posted := [⟨4, 2, 0x21000000⟩, ⟨6, 2, 0x21000000⟩] }), ⟨true, 3, false, 0x8001, [⟨5, true, 3, 1, false⟩], some 4⟩, by decide⟩

theorem wit_TwinWatch_8 : ∃ (s : State) (n : Fin 48) (x : Takeover), tget (fun _ => none) s.ux.takes n.val = some x ∧ s.uxOn = true ∧ s.conflict = false ∧ s.rd (Fd.UX_TAKEOVER_STATE n.val) = 2 ∧ s.kb.up = true ∧ x.last.on = false ∧ x.cause ≤ 3 := by
  exact ⟨{ wOut 10 wTake with ux := { wTake.ux with takes := [(10, some ⟨1, ⟨5, false, 0, 0, false⟩⟩)] } }, 10, ⟨1, ⟨5, false, 0, 0, false⟩⟩, by decide⟩

theorem wit_TwinWatch_9 : ∃ (s : State) (n : Fin 48) (x : Takeover), tget (fun _ => none) s.ux.takes n.val = some x ∧ s.uxOn = true ∧ s.conflict = false ∧ s.rd (Fd.UX_TAKEOVER_STATE n.val) = 2 ∧ s.kb.up = true ∧ x.last.on = true ∧ x.cause ≤ 3 ∧ s.latched n.val = false ∧ s.cooling n.val = false ∧ s.shedRefuses n.val = false ∧ s.suspended (s.chFeed n.val) = false ∧ s.out n.val = false := by
  exact ⟨{ wTake with ux := { wTake.ux with takes := [(10, some ⟨2, ⟨5, true, 700, 1, false⟩⟩)] } }, 10, ⟨2, ⟨5, true, 700, 1, false⟩⟩, by decide⟩

theorem wit_TwinWatch_10 : ∃ (s : State) (who : Who) (n : Fin 48), s.passesChecks (s.issuer who) 4 (Rg.UX_TAKEOVER n.val) 0x80000000 false false = true ∧ s.uxOn = true ∧ s.rd Fd.UX_TWIN_STATE = 1 ∧ s.primaryLayby n.val = false ∧ s.rd (Fd.UX_TAKEOVER_STATE n.val) = 3 := by
  exact ⟨(wOut 10 wTake).wr (Fd.UX_TAKEOVER_STATE 10) 3, hall, 10, by decide⟩

theorem wit_TwinAccess_1 : ∃ (s : State) (who : Who) (o : UxOp) (a : BitVec 34) (w : Nat), Aims s (s.issuer who) a.toNat w ∧ (∀ k : Fin 32, o ≠ .sem k ∧ o ≠ .release k) ∧ (isWordWrite o && s.flag (Fd.UX_OUT_WIN_LO_POSTED w)) = false ∧ s.issueCode = Code.DONE ∧ s.ux.np.length < 16 := by
  exact ⟨wWin 1 false, hall, .read, 0x200F9010, 2, by decide⟩

theorem wit_TwinAccess_2 : ∃ (s : State) (who : Who) (o : UxOp) (a : BitVec 34) (w : Nat), Aims s (s.issuer who) a.toNat w ∧ (∀ k : Fin 32, o ≠ .sem k ∧ o ≠ .release k) ∧ (isWordWrite o && s.flag (Fd.UX_OUT_WIN_LO_POSTED w)) = false ∧ s.conflict = false ∧ (s.rd Fd.UX_TWIN_STATE = 0 ∨ s.rd Fd.UX_TWIN_STATE = 2 ∨ s.linkUp 22 = false) := by
  exact ⟨wWin 0 false, ⟨1, 0, 0⟩, .read, 0x200F9010, 2, by decide⟩

theorem wit_TwinAccess_3 : ∃ (s : State) (who : Who) (v : Word) (a : BitVec 34) (w : Nat), Aims s (s.issuer who) a.toNat w ∧ s.flag (Fd.UX_OUT_WIN_LO_POSTED w) = true ∧ s.conflict = false ∧ (s.rd Fd.UX_TWIN_STATE = 1 ∨ s.rd Fd.UX_TWIN_STATE = 3) := by
  exact ⟨wWin 1 true, hall, 0x1234, 0x200F9010, 2, by decide⟩

theorem wit_TwinAccess_4 : ∃ (s : State) (who : Who) (v : Word) (a : BitVec 34) (w : Nat), Aims s (s.issuer who) a.toNat w ∧ s.flag (Fd.UX_OUT_WIN_LO_POSTED w) = true ∧ s.conflict = false ∧ (s.rd Fd.UX_TWIN_STATE = 0 ∨ s.rd Fd.UX_TWIN_STATE = 2) := by
  exact ⟨wWin 2 true, hall, 0x1234, 0x200F9010, 2, by decide⟩

theorem wit_TwinAccess_5 : ∃ (s : State) (who : Who) (o : UxOp) (a : BitVec 34), s.dev = .active ∧ 0x200F8000 ≤ a.toNat ∧ a.toNat < 0x200FC000 ∧ a.toNat % 4 = 0 ∧ s.mayAperture (s.issuer who) (apertureWin a.toNat) = false ∧ s.gated 15 = false ∧ s.gateWait (s.issuer who) = false ∧ s.toGate (s.issuer who) a.toNat = false := by
  exact ⟨wWin 1 false, ⟨1, 3, 0⟩, .read, 0x200F9010, by decide⟩

theorem wit_TwinAccess_6 : ∃ (s : State) (k : Fin 16) (w : Word) (x : NpAcc), InFlight s k.val x ∧ s.now ≤ x.at_ + 4000 ∧ x.again = false := by
  exact ⟨wUx 1 (fun u => { u with np := [wNp .read false, wNp .read false] }), 0, 0x55, wNp .read false, by decide⟩

theorem wit_TwinAccess_7 : ∃ (s : State) (k : Fin 16) (code : BitVec 16) (x : NpAcc), InFlight s k.val x ∧ s.now ≤ x.at_ + 4000 ∧ x.again = false := by
  exact ⟨wUx 1 (fun u => { u with np := [wNp .read false] }), 0, 0x3005, wNp .read false, by decide⟩

theorem wit_TwinAccess_8 : ∃ (s : State) (k : Fin 16) (x : NpAcc), InFlight s k.val x ∧ s.now ≤ x.at_ + 4000 ∧ x.again = false ∧ x.op.atomic = true := by
  exact ⟨wUx 1 (fun u => { u with np := [wNp .lr false] }), 0, wNp .lr false, by decide⟩

theorem wit_TwinAccess_9 : ∃ (s : State) (k : Fin 16) (x : NpAcc), s.ux.np[k.val]? = some x := by
  exact ⟨wUx 1 (fun u => { u with np := [wNp .lr true] }), 0, wNp .lr true, by decide⟩

theorem wit_TwinAccess_10 : ∃ (s : State) (k : Fin 16) (x : NpAcc), s.ux.np[k.val]? = some x ∧ x.again = true ∧ x.tryAt + 1000 < x.at_ + 4000 ∧ s.now < x.at_ + 4000 := by
  exact ⟨wUx 1 (fun u => { u with np := [wNp .lr true] }), 0, wNp .lr true, by decide⟩

theorem wit_TwinAccess_11 : ∃ (s : State) (seq code : BitVec 16) (p : Posted), s.uxOn = true ∧ s.ux.posted.find? (fun p => p.seq == seq.toNat) = some p := by
  exact ⟨wUx 1 (fun u => { u with posted := [⟨4, 2, 0x21000000⟩, ⟨6, 2, 0x21000000⟩] }), 4, 0x3005, ⟨4, 2, 0x21000000⟩, by decide⟩

theorem wit_TwinSemaphores_1 : ∃ (s : State) (who : Who) (k : Fin 32), SemOpen s (s.issuer who) (Rg.UX_SEM k.val) ∧ s.sem k.val = none := by
  exact ⟨wTwin 1, hall, 7, by decide⟩

theorem wit_TwinSemaphores_2 : ∃ (s : State) (who : Who) (k : Fin 32) (x : Sem), SemOpen s (s.issuer who) (Rg.UX_SEM k.val) ∧ s.sem k.val = some x ∧ (x.twin = true ∨ x.district ≠ (s.issuer who).district.toNat) := by
  exact ⟨(wTwin 1).setSem 7 (some ⟨true, 9, none⟩), hall, 7, ⟨true, 9, none⟩, by decide⟩

theorem wit_TwinSemaphores_3 : ∃ (s : State) (who : Who) (k : Fin 32) (r : BitVec 6), SemOpen s (s.issuer who) (Rg.UX_SEM k.val) ∧ s.sem k.val = none := by
  exact ⟨(wTwin 1).setFlag Fd.UX_STATUS_ROLE true, hall, 7, 9, by decide⟩

theorem wit_TwinSemaphores_4 : ∃ (s : State) (who : Who) (k : Fin 32), s.uxOn = true ∧ s.mayRead (s.issuer who) ⟨0, [], .group 9, []⟩ (Rg.UX_TSEM k.val) = true ∧ s.gateWait (s.issuer who) = false ∧ s.issueCode = Code.DONE ∧ s.ux.np.length < 16 := by
  exact ⟨wTwin 1, hall, 7, by decide⟩

theorem wit_TwinSemaphores_5 : ∃ (s : State) (who : Who) (k : Fin 32), s.passesChecks (s.issuer who) 4 (Rg.UX_SEM k.val) 1 false false = true ∧ s.uxOn = true ∧ s.holdsSem k.val (s.issuer who).district.toNat false = true := by
  exact ⟨(wTwin 1).setSem 7 (some ⟨false, 0, none⟩), hall, 7, by decide⟩

theorem wit_TwinSemaphores_6 : ∃ (s : State) (who : Who) (k : Fin 32), s.passesChecks (s.issuer who) 4 (Rg.UX_SEM k.val) 1 false false = true ∧ s.uxOn = true ∧ s.holdsSem k.val (s.issuer who).district.toNat false = false := by
  exact ⟨(wTwin 1).setSem 7 (some ⟨false, 3, none⟩), hall, 7, by decide⟩

theorem wit_TwinSemaphores_7 : ∃ (s : State) (who : Who) (k : Fin 32), s.passesChecks (s.issuer who) 4 (Rg.UX_TSEM k.val) 1 false false = true ∧ s.uxOn = true ∧ s.issueCode = Code.DONE ∧ s.ux.np.length < 16 := by
  exact ⟨wTwin 1, hall, 7, by decide⟩

theorem wit_TwinSemaphores_8 : ∃ (s : State) (k : Fin 32) (x : Sem) (h : LrHold), s.sem k.val = some x ∧ x.lr = some h := by
  exact ⟨(wTwin 1).setSem 7 (some ⟨true, 9, some ⟨10500, 0x80000040⟩⟩), 7, ⟨true, 9, some ⟨10500, 0x80000040⟩⟩, ⟨10500, 0x80000040⟩, by decide⟩

theorem wit_TwinSemaphores_9 : ∃ (s : State) (p : Option (BitVec 16)), s.uxOn = true := by
  exact ⟨wTwin 1, some 4, by decide⟩

theorem wit_TwinSemaphores_10 : ∃ (s : State) (d : BitVec 6) (o : UxOp) (a : BitVec 34) (p : Option (BitVec 16)), UxRuns s ∧ s.conflict = false ∧ (∀ k : Fin 32, o ≠ .sem k ∧ o ≠ .release k) ∧ s.permitOf d.toNat o a.toNat = none := by
  exact ⟨wPermit, 9, .write 5, 0x80000040, some 4, by decide⟩

theorem wit_TwinSemaphores_11 : ∃ (s : State) (d : BitVec 6) (k : Fin 32) (a : BitVec 34), UxRuns s ∧ s.conflict = false ∧ s.sem k.val = none := by
  exact ⟨wTwin 1, 9, 7, 0, by decide⟩

theorem wit_TwinSemaphores_12 : ∃ (s : State) (d : BitVec 6) (a : BitVec 34) (k : Nat), UxRuns s ∧ s.conflict = false ∧ s.permitOf d.toNat .read a.toNat = some k ∧ s.passes ⟨0xF, BitVec.ofNat 6 (s.rd (Fd.UX_IN_WIN_ATTR_DISTRICT k)), 0⟩ (.read 4) 0 a.toNat 4 = true ∧ placeOf a.toNat = .dram ∧ s.poisoned a.toNat 4 = false ∧ a.toNat % 4 = 0 ∧ s.wg.single = [] := by
  exact ⟨wPermit.store 0x80000040 [1, 2, 3, 4], 9, 0x80000040, 1, by decide⟩

theorem wit_LineReports_1 : ∃ (s : State) (k : Fin 8) (a b : BitVec 16), s.dev = .active ∧ s.kb.up = true ∧ 5000 ≤ a.toNat + b.toNat := by
  exact ⟨{ wOn with kb := wKb.kb }, 3, 4000, 1000, by decide⟩

theorem wit_LineReports_2 : ∃ (s : State) (mv : Int), s.dev = .active := by
  exact ⟨wOn, 6000, by decide⟩

theorem wit_LineReports_3 : ∃ (s : State) (mv : Int), s.dev = .active ∧ strapClass mv ≠ .outOfBand := by
  exact ⟨wOn, 500, by decide⟩

theorem wit_LineReports_4 : ∃ (s : State) (ua : BitVec 32) (mv : Int), s.dev = .active ∧ s.flag Fd.CP_FAULT_OUT_PIN = false ∧ s.ao.foShort = none ∧ ua.toNat ≤ 40000 := by
  exact ⟨wOn, 5000, 0, by decide⟩

theorem wit_LineReports_5 : ∃ (s : State) (ua : BitVec 32) (mv : Int), s.dev = .active ∧ s.flag Fd.CP_FAULT_OUT_PIN = false ∧ s.ao.foShort = none ∧ 40000 < ua.toNat := by
  exact ⟨wOn, 50000, 0, by decide⟩

theorem wit_LineReports_6 : ∃ (s : State) (ua : BitVec 32) (mv : Int), s.dev = .active ∧ s.flag Fd.CP_FAULT_OUT_PIN = true ∧ s.ao.foShort = none := by
  exact ⟨wOn.setFlag Fd.CP_FAULT_OUT_PIN true, 0, 500, by decide⟩

theorem wit_LineReports_7 : ∃ (s : State) (e : Nat), s.ao.foShort = some e := by
  exact ⟨{ wOn with ao := { wOn.ao with foShort := some 70 } }, 70, by decide⟩

theorem wit_LineReports_8 : ∃ (s : State) (d : Fin 2) (mv : Int), s.mirrorOn = true ∧ dspLineClass mv ≠ 4 ∧ tget (fun _ => 5) s.ao.dspLine d.val = dspLineClass mv := by
  exact ⟨{ wOn with ao := { wOn.ao with dspLine := [(1, 2)] } }, 1, 100, by decide⟩

theorem wit_LineReports_9 : ∃ (s : State) (d : Fin 2) (mv : Int), s.mirrorOn = true ∧ tget (fun _ => 5) s.ao.dspLine d.val ≠ dspLineClass mv := by
  exact ⟨wOn, 1, 100, by decide⟩

theorem wit_LineReports_10 : ∃ (s : State) (p : Fin 24) (a b : Int) (i : Nat), ethLine p.val = some i ∧ s.mayLink p.val = true ∧ (ethWire a = 0 ∨ ethWire b = 0) := by
  exact ⟨wEth true, 3, 200, 2500, 19, by decide⟩

theorem wit_LineReports_11 : ∃ (s : State) (p : Fin 24) (o : Bool) (i : Nat), ethLine p.val = some i ∧ s.mayLink p.val = true ∧ s.linkUp p.val = false := by
  exact ⟨wEth false, 3, true, 19, by decide⟩

theorem wit_LineReports_12 : ∃ (s : State) (k : Fin 8) (high low : Int) (o : Bool), s.dev = .active ∧ s.gated 0xC = false ∧ s.trxUp k.val = true ∧ ((canWire high = 0 ∧ canWire low = 0) ∨ (canWire high = 0 ∧ o = false) ∨ (canWire low = 0 ∧ o = false)) := by
  exact ⟨wOn.wr (Fd.NM_TRX_CTRL_STATE 5) 0, 5, 2500, 500, false, by decide⟩

theorem wit_IdleStep_1 : ∃ (s : State), s.pending = [] := by
  exact ⟨wOn, by decide⟩

theorem wit_UnalignedAccess_1 : ∃ (s : State) (who : Who) (bytes : Fin 9) (a : BitVec 34) (w : Word), placeOf a.toNat = .registers ∧ s.reaches (s.issuer who) a.toNat = true ∧ s.gated (pageBlock a.toNat) = false ∧ isRejectReg a.toNat = false ∧ (a.toNat < 0x200F8000 ∨ 0x200FC000 ≤ a.toNat) ∧ (bytes.val ≠ 4 ∨ a.toNat % 4 ≠ 0) ∧ s.toGate (s.issuer who) a.toNat = false ∧ s.gateWait (s.issuer who) = false := by
  exact ⟨wOn, ⟨1, 3, 0⟩, 2, 0x200A0012, 7, by decide⟩

theorem wit_UnalignedAccess_2 : ∃ (s : State) (who : Who) (bytes : Nat) (a : BitVec 34), placeOf a.toNat = .registers ∧ s.reaches (s.issuer who) a.toNat = true ∧ s.gated (pageBlock a.toNat) = false ∧ isRejectReg a.toNat = false ∧ (a.toNat < 0x200F8000 ∨ 0x200FC000 ≤ a.toNat) ∧ (bytes ≠ 4 ∨ a.toNat % 4 ≠ 0) ∧ s.gateWait (s.issuer who) = false := by
  exact ⟨wOn, ⟨1, 3, 0⟩, 2, 0x200A0012, by decide⟩

theorem wit_RejectedWrite_1 : ∃ (s : State) (who : Who) (a : BitVec 34) (w : Word), placeOf a.toNat = .registers ∧ s.reaches (s.issuer who) a.toNat = true ∧ a.toNat % 4 = 0 ∧ s.gated (pageBlock a.toNat) = false ∧ RegMap.at a.toNat = none ∧ isRejectReg a.toNat = false ∧ (a.toNat < 0x200F8000 ∨ 0x200FC000 ≤ a.toNat) ∧ s.toGate (s.issuer who) a.toNat = false ∧ s.gateWait (s.issuer who) = false := by
  exact ⟨wOn, ⟨1, 3, 0⟩, 0x200A0FF0, 7, by decide⟩

theorem wit_RejectedWrite_2 : ∃ (s : State) (who : Who) (a : BitVec 34) (w : Word) (r : RegRow) (x : List Nat) (code : Nat), placeOf a.toNat = .registers ∧ s.reaches (s.issuer who) a.toNat = true ∧ a.toNat % 4 = 0 ∧ s.gated (pageBlock a.toNat) = false ∧ RegMap.at a.toNat = some (r, x) ∧ (∀ held bad : Bool, s.checkFields (s.issuer who) r a.toNat w.toNat held bad = code) ∧ code ≠ Code.DONE ∧ isRejectReg a.toNat = false ∧ s.toGate (s.issuer who) a.toNat = false ∧ s.gateWait (s.issuer who) = false := by
  exact ⟨wOn, ⟨1, 3, 0⟩, 0x200A0020, 1, ⟨0x200A0020, [(0, 4, 4)], .district0, [⟨0, 0, .rw, none⟩]⟩, [0], Code.NOT_OWNER, by decide⟩

theorem wit_RejectedWrite_3 : ∃ (s : State) (who : Who) (a : BitVec 34) (w : Word) (r : RegRow) (x : List Nat), placeOf a.toNat = .registers ∧ s.reaches (s.issuer who) a.toNat = true ∧ a.toNat % 4 = 0 ∧ s.gated (pageBlock a.toNat) = false ∧ RegMap.at a.toNat = some (r, x) ∧ (s.ownWrite (s.issuer who) 4 a.toNat w State.activateOpen).isNone = true ∧ s.checkFields (s.issuer who) r a.toNat w.toNat (s.plainHeld a.toNat) (s.plainBad a.toNat w.toNat) ≠ Code.DONE ∧ isRejectReg a.toNat = false ∧ s.toGate (s.issuer who) a.toNat = false ∧ s.gateWait (s.issuer who) = false := by
  exact ⟨wOn, ⟨1, 3, 0⟩, 0x20080004, 1, ⟨0x20080004, [], .district0, [⟨17, 17, .ro, none⟩, ⟨16, 16, .ro, none⟩, ⟨15, 0, .rw, some (0, 60000)⟩]⟩, [], by decide⟩

theorem wit_RejectedWrite_4 : ∃ (s : State) (who : Who) (a : Nat) (w : Word) (held bad : Bool) (refuse : Nat) (effect : State → State) (r : RegRow) (x : List Nat), 0x20000000 ≤ a ∧ a < 0x20100000 ∧ s.reaches (s.issuer who) a = true ∧ a % 4 = 0 ∧ s.gated (pageBlock a) = false ∧ RegMap.at a = some (r, x) ∧ isRejectReg a = false ∧ refuse < 65536 ∧ s.toGate (s.issuer who) a = false ∧ s.gateWait (s.issuer who) = false ∧ ((s.checkFields (s.issuer who) r a w.toNat held bad ≠ Code.DONE ∨ refuse ≠ Code.DONE)) := by
  exact ⟨wOn, hall, 0x200A0010, 1, false, false, Code.BUSY, (fun s => s), ⟨0x200A0010, [(0, 4, 4)], .district0, [⟨31, 16, .rw, some (4000, 65535)⟩, ⟨15, 0, .rw, some (1, 10000)⟩]⟩, [0], by decide⟩

theorem wit_RefusedRead_1 : ∃ (s : State) (who : Who) (a : BitVec 34), placeOf a.toNat = .registers ∧ s.reaches (s.issuer who) a.toNat = true ∧ a.toNat % 4 = 0 ∧ s.gated (pageBlock a.toNat) = false ∧ RegMap.at a.toNat = none ∧ (a.toNat < 0x200F8000 ∨ 0x200FC000 ≤ a.toNat) ∧ s.gateWait (s.issuer who) = false := by
  exact ⟨wOn, ⟨1, 3, 0⟩, 0x200A0FF0, by decide⟩

theorem wit_RefusedRead_2 : ∃ (s : State) (who : Who) (a : BitVec 34) (r : RegRow) (x : List Nat), placeOf a.toNat = .registers ∧ s.reaches (s.issuer who) a.toNat = true ∧ a.toNat % 4 = 0 ∧ s.gated (pageBlock a.toNat) = false ∧ RegMap.at a.toNat = some (r, x) ∧ s.mayRead (s.issuer who) r a.toNat = false ∧ isRejectReg a.toNat = false ∧ readsPlainly a.toNat = true ∧ s.gateWait (s.issuer who) = false := by
  exact ⟨wOn, ⟨1, 3, 0⟩, 0x200A0020, ⟨0x200A0020, [(0, 4, 4)], .district0, [⟨0, 0, .rw, none⟩]⟩, [0], by decide⟩

theorem wit_RefusedRead_3 : ∃ (s : State) (who : Who) (a : BitVec 34), placeOf a.toNat = .registers ∧ s.reaches (s.issuer who) a.toNat = true ∧ a.toNat % 4 = 0 ∧ s.gated (pageBlock a.toNat) = false ∧ isRejectReg a.toNat = true ∧ (s.issuer who).district ≠ 0 ∧ s.gateWait (s.issuer who) = false := by
  exact ⟨wOn, ⟨1, 3, 0⟩, 0x200AFFF0, by decide⟩

theorem wit_DeniedAccess_1 : ∃ (s : State) (who : Who) (k : AccessKind) (a : BitVec 64) (data : List Byte) (target : Nat), s.dev = .active ∧ 0 < k.size data ∧ guardTarget (placeOf a.toNat) = some target ∧ (placeOf a.toNat = .flash → k.writes = false) ∧ placeOf (a.toNat + k.size data - 1) = placeOf a.toNat ∧ (k.writes = true → s.toGate (s.issuer who) a.toNat = false ∧ s.gateWait (s.issuer who) = false) ∧ s.passes (s.issuer who) k target a.toNat (k.size data) = false := by
  exact ⟨wOn, ⟨1, 3, 0⟩, .write, 0x80000010, [1, 2, 3], 0, by decide⟩

theorem wit_DeniedAccess_2 : ∃ (s : State) (who : Who) (k : AccessKind) (target a n : Nat), s.passes who k target a n = true ∧ guardedInitiator who.initiator.toNat = true ∧ (target = 0 → s.inCtx a n = false ∧ s.inMbox a n = false) := by
  exact ⟨{ wOn with plan := wRam }, ⟨1, 3, 0⟩, .write, 0, 0x80000010, 4, by decide⟩

/-! ### Witnesses of the statements about every step -/

theorem wit_StepKeepsCanonical : ∃ s t : State, s.canonical = true ∧ step s = .next t :=
  ⟨{ wOn with pending := [.monitorAbsent] }, _, by decide, rfl⟩
theorem wit_OtpOnlyGrows : ∃ s t : State, s.otp.floor = 3 ∧ step s = .next t :=
  ⟨{ wOn with otp := ⟨⟨2, []⟩, ⟨0, []⟩, true, 3⟩, pending := [.twinLost] }, _, rfl, rfl⟩
theorem wit_FrameOfEveryCommand : ∃ (c : Instr) (s t : State), exec c s = .next t ∧ Piece.otp ∉ touches c :=
  ⟨.watchdogKick hall 7, wOn, _, rfl, by decide⟩

/-! ### WellFormed: a well-formed and an ill-formed command for each check -/

theorem test_wf_kick : (Instr.watchdogKick ⟨5, 3, 9⟩ 7).wf = true := by decide
theorem test_wf_initiator : (Instr.watchdogKick ⟨0x11, 0, 0⟩ 7).wf = false := by decide
theorem test_wf_lamplighter_district : (Instr.watchdogKick ⟨8, 3, 0⟩ 7).wf = false := by decide
theorem test_wf_courtyard : (Instr.watchdogKick ⟨0xF, 3, 1⟩ 7).wf = false := by decide
theorem test_wf_register_size : (Instr.registerWrite ⟨0, 0, 0⟩ 3 0x20000000 0).wf = false := by decide
theorem test_wf_read : (Instr.memoryAccess ⟨0, 0, 0⟩ (.read 64) 0x80000000 ⟨[], .none⟩).wf = true := by decide
theorem test_wf_read_size : (Instr.memoryAccess ⟨0, 0, 0⟩ (.read 65) 0x80000000 ⟨[], .none⟩).wf = false := by decide
theorem test_wf_read_data : (Instr.memoryAccess ⟨0, 0, 0⟩ (.read 1) 0x80000000 ⟨[7], .none⟩).wf = false := by decide
theorem test_wf_write_empty : (Instr.memoryAccess ⟨0, 0, 0⟩ .write 0x80000000 ⟨[], .none⟩).wf = false := by decide
theorem test_wf_amo : (Instr.memoryAccess ⟨0, 0, 0⟩ .amo 0x80000000 ⟨[1, 2], .none⟩).wf = false := by decide
theorem test_wf_aperture : (Instr.apertureAccess ⟨0, 0, 0⟩ 4 (.sem 3) 0x200F8000).wf = false := by decide
theorem test_wf_gated_core : (Instr.gatedStore ⟨9, 0, 0⟩ 0x20000000 [1, 2, 3, 4] false).wf = false := by decide
theorem test_wf_can : (Instr.canFrameReceived 0 0 0 (List.replicate 12 0) 0).wf = true := by decide
theorem test_wf_can_length : (Instr.canFrameReceived 0 0 0 (List.replicate 9 0) 0).wf = false := by decide
theorem test_wf_wake_frame : (Instr.canWake 0 (.wuf 0 0 (List.replicate 9 0))).wf = false := by decide
theorem test_wf_curfew : (Instr.curfewFrameReceived 0 0 ⟨0, List.replicate 65 0⟩).wf = false := by decide
theorem test_wf_samples : (Instr.currentSample [1, 2] 0 0 0 0).wf = false := by decide
theorem test_wf_conversions : (Instr.analogUpdate 0 [1, 2, 3, 4, 5, 6, 7]).wf = false := by decide
theorem test_wf_match : (Instr.roundaboutMatch [3, 3]).wf = false := by decide
theorem test_wf_keys : (Instr.workingKeyCheck [5, 5]).wf = false := by decide
theorem test_wf_context : (Instr.gateCall 0 0 ⟨0, .hs, 0, 0, 0, 0, List.replicate 32 0⟩).wf = false := by decide
theorem test_wf_frame : (Instr.forwardingDecision 0 (List.replicate 9249 0) true false ⟨0, 0⟩).wf = false := by
  show decide ((List.replicate 9249 (0 : Byte)).length ≤ 9248) = false
  rw [List.length_replicate]; rfl
theorem test_wf_rest : (Instr.frameEndReceived 0 (List.replicate 9249 0) false).wf = false := by
  show decide ((List.replicate 9249 (0 : Byte)).length ≤ 9248) = false
  rw [List.length_replicate]; rfl
theorem test_wf_line : (Instr.cameraLineReceived 0 (List.replicate 65537 0) false ⟨false, false⟩ 0).wf = false := by
  show decide ((List.replicate 65537 (0 : Byte)).length ≤ 65536) = false
  rw [List.length_replicate]; rfl
theorem test_wf_window : (Instr.windowClose 0 (List.replicate 65537 ⟨0, 0, 0, 0⟩) [] false false).wf = false := by
  show (decide ((List.replicate 65537 (⟨0, 0, 0, 0⟩ : SigRec)).length ≤ 65536) && decide (([] : List SigRec).length ≤ 65536)) = false
  rw [List.length_replicate]; rfl
theorem test_wf_poll : (Instr.pollAnswer ⟨false, 3, false, 0, [⟨5, true, 0, 0, false⟩, ⟨5, false, 0, 0, false⟩], none⟩).wf = false := by decide

/-! ### Numbers that the spec works out -/

/-- Chapter 08's example: DSP0 is 1,920 by 720 at 60 Hz, so LP is 22.4 µs, 13,440 SFT clocks, and a slice 358.4 µs. -/
theorem test_line_period : ({ wOn with plan := [⟨11, 0, 0x0B02, [0, 60, 1920, 720, 1500]⟩] }).lp 0 = 13440 := by decide
theorem test_slice_time : clkNs (16 * ({ wOn with plan := [⟨11, 0, 0x0B02, [0, 60, 1920, 720, 1500]⟩] }).lp 0) = 358400 := by decide
/-- The check value of the IEEE 802.3 FCS algorithm over the digits 1 to 9. -/
theorem test_crc32 : crc32 [0x31, 0x32, 0x33, 0x34, 0x35, 0x36, 0x37, 0x38, 0x39] = 0xCBF43926 := by decide
/-- R52: 32,768 apart, neither number is later. -/
theorem test_later : later 5 4 = true ∧ later 4 5 = false ∧ later 0 65535 = true ∧ later 32768 0 = false := by decide

end Sys2Proof.Tests
end

section
/-! SUPPORT. The frame between two states as a relation: how a `blot` lemma gives one, how frames compose along a run of operations, and
what a reader of a part outside the list may use of it. -/

namespace Sys2Proof.Machine

/-! ### From `blot` to `Frame` -/

/-- A part that is not blotted out is the same in two states that agree once blotted. -/
theorem same_of_blot {L : Piece → Bool} {s t : State} (h : blot L t = blot L s) {p : Piece} (hp : L p = false) : p.same s t := by
  unfold blot at h
  injection h
  cases p <;> simp_all [Piece.same]

theorem pending_of_blot {L : Piece → Bool} {s t : State} (h : blot L t = blot L s) : t.pending = s.pending := by
  unfold blot at h
  injection h

/-- A function whose `blot` lemma holds for the list has that list as its frame, given the registers that it leaves. -/
theorem frame_of_blot {s t : State} {parts : List Piece} {regs : Nat → Prop}
    (h : blot (fun p => decide (p ∈ parts)) t = blot (fun p => decide (p ∈ parts)) s) (hr : ∀ a, ¬ regs a → t.reg a = s.reg a) :
    Frame s t parts regs :=
  ⟨pending_of_blot h, fun _ hp => same_of_blot h (decide_eq_false hp), hr⟩

/-- A function that does not touch the register file changes no register. -/
theorem frame_of_blot_noRegs {s t : State} {parts : List Piece} (hp : .regs ∉ parts)
    (h : blot (fun p => decide (p ∈ parts)) t = blot (fun p => decide (p ∈ parts)) s) : Frame s t parts (fun _ => False) :=
  frame_of_blot h fun a _ =>
    have hregs : t.regs = s.regs := same_of_blot (p := .regs) h (decide_eq_false hp)
    congrArg (tget regReset · a) hregs

end Sys2Proof.Machine

namespace Sys2Proof.Frame

open Sys2Proof.Machine

/-! ### Frames compose -/

theorem refl (s : State) (parts : List Piece) (regs : Nat → Prop) : Frame s s parts regs :=
  ⟨rfl, fun p _ => by cases p <;> rfl, fun _ _ => rfl⟩

theorem trans {s t u : State} {parts : List Piece} {regs : Nat → Prop} (h : Frame s t parts regs) (k : Frame t u parts regs) :
    Frame s u parts regs := by
  obtain ⟨hq, hp, hr⟩ := h
  obtain ⟨kq, kp, kr⟩ := k
  refine ⟨kq.trans hq, fun p hn => ?_, fun a hn => (kr a hn).trans (hr a hn)⟩
  have h1 := hp p hn
  have k1 := kp p hn
  cases p <;> exact Eq.trans k1 h1

/-- A frame may be widened. -/
theorem mono {s t : State} {parts parts' : List Piece} {regs regs' : Nat → Prop} (h : Frame s t parts regs)
    (hp : parts ⊆ parts') (hr : ∀ a, regs a → regs' a) : Frame s t parts' regs' :=
  ⟨h.1, fun p hn => h.2.1 p fun hi => hn (hp hi), fun a hn => h.2.2 a fun hi => hn (hr a hi)⟩

/-- More parts may be listed. -/
theorem widen {s t : State} {parts parts' : List Piece} {regs : Nat → Prop} (h : Frame s t parts regs) (hp : parts ⊆ parts') :
    Frame s t parts' regs := h.mono hp fun _ hr => hr

/-- Where no register changes, any may be listed. -/
theorem noRegs {s t : State} {parts parts' : List Piece} {regs : Nat → Prop} (h : Frame s t parts (fun _ => False)) (hp : parts ⊆ parts') :
    Frame s t parts' regs := h.mono hp fun _ hr => hr.elim

/-- A loop whose body has a frame has it as a whole. -/
theorem forAll {α : Type} (l : List α) (f : State → α → State) {parts : List Piece} {regs : Nat → Prop}
    (hf : ∀ s x, Frame s (f s x) parts regs) (s : State) : Frame s (forAll l f s) parts regs :=
  forAll_keeps (Frame s · parts regs) l f (fun t x h => h.trans (hf t x)) s (refl s parts regs)

/-! ### What a frame leaves -/

variable {s t : State} {parts : List Piece} {regs : Nat → Prop}

theorem same (h : Frame s t parts regs) (p : Piece) (hp : p ∉ parts) : p.same s t := h.2.1 p hp
theorem reg (h : Frame s t parts regs) {a : Nat} (ha : ¬ regs a) : t.reg a = s.reg a := h.2.2 a ha
theorem rd (h : Frame s t parts regs) {f : Fld} (hf : ¬ regs f.addr) : t.rd f = s.rd f := by
  simp only [State.rd, h.reg hf]
theorem byte (h : Frame s t parts regs) (hp : .mem ∉ parts) (a : Nat) : t.byte a = s.byte a :=
  congrArg (tget memReset · a) (h.same .mem hp)

end Sys2Proof.Frame

namespace Sys2Proof.Machine

/-- The bytes at an address are those of the memory. -/
theorem State.bytes_congr {s t : State} (h : t.mem = s.mem) (a n : Nat) : t.bytes a n = s.bytes a n := by
  induction n generalizing a with
  | zero => rfl
  | succ n ih => simp only [State.bytes, State.byte, h, ih]

theorem State.store_frame (s : State) (a : Nat) (bs : List Byte) : Frame s (s.store a bs) [.mem, .wg] (fun _ => False) :=
  frame_of_blot_noRegs (by simp) (by simp)

theorem State.setResp_frame (s : State) (r : Resp) : Frame s { s with resp := r } [.resp] (fun _ => False) :=
  frame_of_blot_noRegs (by simp) (by simp)

theorem State.setWg_frame (s : State) (w : WgState) : Frame s { s with wg := w } [.wg] (fun _ => False) :=
  frame_of_blot_noRegs (by simp) (by simp)

theorem State.le_congr {s t : State} (h : t.mem = s.mem) (a n : Nat) : t.le a n = s.le a n := congrArg leNat (State.bytes_congr h a n)

theorem mem_insertNat (l : List Nat) (k x : Nat) : x ∈ insertNat l k ↔ x = k ∨ x ∈ l := by
  induction l with
  | nil => simp [insertNat]
  | cons j rest ih =>
    simp only [insertNat]
    split
    · simp
    · split
      · next hk => simp [hk]
      · simp [ih, or_left_comm]

/-! ### Event counters -/

theorem State.count_reg_ne (s : State) (a sat b r : Nat) (ha : r ≠ a) (hs : r ≠ sat) : (s.count a sat b).reg r = s.reg r := by
  unfold State.count
  dsimp only
  split
  · exact reg_setReg_ne _ _ _ _ ha
  · exact (reg_wr_ne _ _ _ _ hs).trans (reg_setReg_ne _ _ _ _ ha)

/-- R50: a counter counts one and stops at its largest value. -/
theorem State.count_counted (s : State) (a sat b : Nat) (h : a ≠ sat) : Counted s (s.count a sat b) a := by
  have hlt : (s.reg a).toNat < 2 ^ 32 := (s.reg a).isLt
  unfold Counted State.count
  dsimp only
  split
  · rw [reg_setReg_same, BitVec.toNat_ofNat]; omega
  · rw [reg_wr_ne _ (bitOf sat b) _ _ h, reg_setReg_same, BitVec.toNat_ofNat]; omega

theorem State.count_frame (s : State) (a sat b : Nat) : Frame s (s.count a sat b) [.regs] (fun r => r = a ∨ r = sat) :=
  frame_of_blot (by simp) fun r hr => s.count_reg_ne a sat b r (fun h => hr (.inl h)) (fun h => hr (.inr h))

end Sys2Proof.Machine
end

section
/-! SUPPORT. An access to a memory behind a guard (R349 to R361): the frames of the errors and the caches, what the memory answers where no
word is uncorrectable and where one is, and how an access that the guards pass comes to its memory. -/

namespace Sys2Proof.Machine

/-! ### Events and errors -/

/-- The registers that a corrected error counts in. -/
abbrev fixRegs (r : Nat) : Prop := r = Rg.WG_EVENT 1 ∨ r = Rg.WG_EVENT_SAT

/-- The registers that count an uncorrectable error and hold its address. -/
abbrev badRegs (r : Nat) : Prop := r = Rg.WG_EVENT 2 ∨ r = Rg.WG_EVENT_SAT ∨ r = Rg.WG_ECC_ADDR_LO ∨ r = Rg.WG_ECC_ADDR_HI

theorem State.wgLevels_frame (s : State) : Frame s s.wgLevels [.ic] (fun _ => False) := frame_of_blot_noRegs (by simp) (by simp)

theorem State.wgEvent_frame (s : State) (c : Nat) :
    Frame s (s.wgEvent c) [.regs, .ic] (fun r => r = Rg.WG_EVENT c ∨ r = Rg.WG_EVENT_SAT) :=
  ((s.count_frame _ _ _).widen (by simp)).trans ((State.wgLevels_frame _).noRegs (by simp))

/-- The four counters of WG_EVENT lie before WG_EVENT_SAT. -/
theorem State.wgEvent_counted (s : State) (c : Nat) (hc : c < 4) : Counted s (s.wgEvent c) (Rg.WG_EVENT c) := by
  have hne : Rg.WG_EVENT c ≠ Rg.WG_EVENT_SAT := by unfold Rg.WG_EVENT Rg.WG_EVENT_SAT; omega
  have hlev : (s.wgEvent c).reg (Rg.WG_EVENT c) = _ := (State.wgLevels_frame _).reg not_false
  unfold Counted
  rw [hlev]
  exact s.count_counted _ _ _ hne

theorem State.eccFix_frame (s : State) (w : Nat) : Frame s (s.eccFix w) [.regs, .wg, .ic] fixRegs := by
  unfold State.eccFix
  split
  · exact ((s.setWg_frame _).noRegs (by simp)).trans ((State.wgEvent_frame _ 1).widen (by simp))
  · exact Frame.refl _ _ _

/-- R349: a single-bit error that stands is counted and gone. -/
theorem State.eccFix_of_single (s : State) (w : Nat) (h : w ∈ s.wg.single) :
    Counted s (s.eccFix w) (Rg.WG_EVENT 1) ∧ w ∉ (s.eccFix w).wg.single := by
  have hfix : s.eccFix w = { s with wg := { s.wg with single := s.wg.single.filter (· != w) } }.wgEvent 1 :=
    if_pos (List.contains_iff_mem.mpr h)
  have hwg : ∀ u : State, (u.wgEvent 1).wg = u.wg := fun u => (u.wgEvent_frame 1).same .wg (by simp)
  rw [hfix, hwg]
  exact ⟨State.wgEvent_counted _ 1 (by omega), by simp⟩

theorem State.eccBad_frame (s : State) (w : Nat) : Frame s (s.eccBad w) [.regs, .ic] badRegs :=
  frame_of_blot (by simp) fun r hr => by
    simp only [badRegs, not_or] at hr
    obtain ⟨hev, hsat, hlo, hhi⟩ := hr
    unfold State.eccBad
    rw [(State.wgEvent_frame _ 2).reg (by simp [hev, hsat]), reg_wr_ne _ _ _ _ hhi, reg_wr_ne _ _ _ _ hhi, reg_setReg_ne _ _ _ _ hlo]

/-- R349: the address of an uncorrectable word is recorded as valid. -/
theorem State.eccBad_valid (s : State) (w : Nat) : (s.eccBad w).flag Fd.WG_ECC_ADDR_HI_VALID = true := by
  unfold State.eccBad State.flag
  rw [(State.wgEvent_frame _ 2).rd (by decide)]
  exact flag_wr_one _ Fd.WG_ECC_ADDR_HI_VALID rfl (by decide)

theorem State.forAll_eccBad_valid (s : State) (l : List Nat) (h : l ≠ []) : (forAll l State.eccBad s).flag Fd.WG_ECC_ADDR_HI_VALID = true := by
  cases l with
  | nil => exact absurd rfl h
  | cons w rest => exact forAll_keeps (·.flag Fd.WG_ECC_ADDR_HI_VALID = true) rest State.eccBad (fun u x _ => u.eccBad_valid x) _ (s.eccBad_valid w)

/-! ### Caches -/

theorem State.cacheAccess_frame (s : State) (who : Who) (a n : Nat) (write : Bool) :
    Frame s (s.cacheAccess who a n write) [.wg] (fun _ => False) := frame_of_blot_noRegs (by simp) (by simp)

/-- The caches' tags are no memory words: the single-bit errors stay. -/
theorem State.cacheAccess_single (s : State) (who : Who) (a n : Nat) (write : Bool) :
    (s.cacheAccess who a n write).wg.single = s.wg.single := by
  refine forAll_keeps (fun u => u.wg.single = s.wg.single) _ _ (fun u line hu => ?_) s rfl
  have hL2 : ∀ v : State, (v.fillL2 who.courtyard.toNat line).wg.single = v.wg.single := fun v => by
    unfold State.fillL2; split <;> rfl
  rw [hL2]
  split <;> exact hu

/-! ### The memory's answer -/

/-- The state in which a memory without an uncorrectable word answers: single-bit errors corrected, the caches filled. -/
def State.answering (s : State) (who : Who) (k : AccessKind) (a n : Nat) (cached : Bool) : State :=
  let s := forAll (wordsOf a n) State.eccFix s
  if cached then s.cacheAccess who a n k.writes else s

theorem State.answering_frame (s : State) (who : Who) (k : AccessKind) (a n : Nat) (cached : Bool) :
    Frame s (s.answering who k a n cached) [.regs, .wg, .ic] fixRegs := by
  have hfix := Frame.forAll (wordsOf a n) State.eccFix State.eccFix_frame s
  unfold State.answering
  split
  · exact hfix.trans ((State.cacheAccess_frame _ _ _ _ _).noRegs (by simp))
  · exact hfix

/-- The words of an access that stays within one. -/
theorem wordsOf_single (a n : Nat) (h0 : 0 < n) (h8 : a % 8 + n ≤ 8) : wordsOf a n = [a / 8] := by
  unfold wordsOf
  rw [show (a + n + 7) / 8 - a / 8 = 1 by omega]
  simp

/-- The first word of an access. -/
theorem mem_wordsOf_first (a n : Nat) (h0 : 0 < n) : a / 8 ∈ wordsOf a n :=
  List.mem_map.mpr ⟨0, List.mem_range.mpr (by omega), rfl⟩

/-- R349: an access within one word that has a single-bit error corrects and counts it. -/
theorem State.answering_of_single (s : State) (who : Who) (k : AccessKind) (a n : Nat) (cached : Bool) (h0 : 0 < n) (h8 : a % 8 + n ≤ 8)
    (hw : a / 8 ∈ s.wg.single) :
    Counted s (s.answering who k a n cached) (Rg.WG_EVENT 1) ∧ a / 8 ∉ (s.answering who k a n cached).wg.single := by
  obtain ⟨hcount, hgone⟩ := s.eccFix_of_single (a / 8) hw
  unfold State.answering
  rw [wordsOf_single a n h0 h8]
  split
  · have hreg := ((s.eccFix (a / 8)).cacheAccess_frame who a n k.writes).reg (a := Rg.WG_EVENT 1) not_false
    exact ⟨by rw [Counted, ← hcount, ← hreg]; rfl, by simpa only [forAll, State.cacheAccess_single] using hgone⟩
  · exact ⟨hcount, hgone⟩

/-- A read or a fetch without an uncorrectable word answers what stands there (R8). -/
theorem State.serve_read (s : State) (who : Who) (k : AccessKind) (a n : Nat) (data : List Byte) (cached : Bool) (hk : k.writes = false)
    (hb : s.badWords a n false = []) :
    s.serve who k a n data cached = { s.answering who k a n cached with resp := .data (s.le a n) } := by
  have hcode : (k.code == 1) = false := (Bool.or_eq_false_iff.mp hk).1
  have hle : (s.answering who k a n cached).le a n = s.le a n := State.le_congr ((s.answering_frame ..).same .mem (by simp)) a n
  rw [← hle]
  simp [State.serve, State.answering, hcode, hb, hk]

/-- A write or an AMO that meets no uncorrectable word puts its bytes, and an AMO answers what stood there. -/
theorem State.serve_write (s : State) (who : Who) (k : AccessKind) (a n : Nat) (data : List Byte) (cached : Bool) (hk : k.writes = true)
    (hb : s.badWords a n (k.code == 1) = []) :
    s.serve who k a n data cached =
      { (s.answering who k a n cached).store a data with resp := if k.code = 3 then .data (s.le a n) else .done } := by
  have hle : (s.answering who k a n cached).le a n = s.le a n := State.le_congr ((s.answering_frame ..).same .mem (by simp)) a n
  rw [← hle]
  simp [State.serve, State.answering, hb, hk]

/-- With an uncorrectable word every such word is counted; a writer and a core get a bus error, another reader poisoned data. -/
theorem State.serve_bad (s : State) (who : Who) (k : AccessKind) (a n : Nat) (data : List Byte) (cached : Bool)
    (hb : s.badWords a n (k.code == 1) ≠ []) :
    s.serve who k a n data cached =
      if k.writes ∨ who.initiator.toNat < 8 then (forAll (s.badWords a n (k.code == 1)) State.eccBad s).busErr who k
      else { forAll (s.badWords a n (k.code == 1)) State.eccBad s with resp := .poisoned } := by
  simp [State.serve, hb]

end Sys2Proof.Machine
end

section
/-! SUPPORT. The access that the guards pass: its conditions as one predicate, that they outlast the errors it meets, and how it comes to its
memory. Then the statement MemoryAccesses. -/

namespace Sys2Proof.Machine

/-! ### The access that the guards pass -/

/-- An access of `n` bytes at `a` in Active, in one memory behind guard `target`, that the guards pass, its bank on; a write is behind no
gate and goes to no flash. -/
structure Served (s : State) (who : Who) (k : AccessKind) (a n target : Nat) : Prop where
  active : s.dev = .active
  nonempty : 0 < n
  ungated : k.writes = true → s.toGate who a = false ∧ s.gateWait who = false ∧ placeOf a ≠ .flash
  guarded : guardTarget (placeOf a) = some target
  oneMemory : placeOf (a + n - 1) = placeOf a
  passed : s.passes who k target a n = true
  bankOn : placeOf a = .sram → s.bankOff a n = false

/-- A memory behind a guard is neither I/O space nor ROM nor a hole. -/
theorem place_of_guarded {a target : Nat} (h : guardTarget (placeOf a) = some target) :
    placeOf a = .sram ∨ placeOf a = .dualPort ∨ placeOf a = .flash ∨ placeOf a = .dram := by
  cases hp : placeOf a <;> simp_all [guardTarget]

theorem ioSpace_of_guarded {a target : Nat} (h : guardTarget (placeOf a) = some target) : ioSpace a = false := by
  by_contra hio
  simp only [Bool.not_eq_false, ioSpace, Bool.and_eq_true, decide_eq_true_eq] at hio
  obtain ⟨hlo, hhi⟩ := hio
  have hnone : guardTarget (placeOf a) = none := by
    unfold placeOf
    split_ifs <;> simp only [guardTarget] <;> omega
  simp [hnone] at h

/-- The access that the guards pass is served by its memory. -/
theorem Served.memAccess {s : State} {who : Who} {k : AccessKind} {a target : Nat} {data : List Byte}
    (h : Served s who k a (k.size data) target) :
    s.memAccess who k a data = s.serve who k a (k.size data) data (placeOf a != .dualPort) := by
  obtain ⟨hdev, hn, hgate, htarget, hone, hpass, hbank⟩ := h
  have hguard : ∀ place, placeOf a = place →
      s.guardedAccess who k place target a (k.size data) data = s.serve who k a (k.size data) data (place != .dualPort) := by
    intro place hp
    have hoff : ¬(place = .sram ∧ s.bankOff a (k.size data) = true) := fun ⟨hs, ho⟩ => by simp [hbank (hp.trans hs)] at ho
    simp only [State.guardedAccess, hpass, Bool.not_true, Bool.false_eq_true, if_false, if_neg hoff]
  have hg : ¬(k.writes = true ∧ s.toGate who a = true) := fun ⟨hk, hg⟩ => by simp [(hgate hk).1] at hg
  have hw : ¬(k.writes = true ∧ s.gateWait who = true) := fun ⟨hk, hw⟩ => by simp [(hgate hk).2.1] at hw
  have hf : placeOf a = .flash → k.writes = false := fun hp => by
    cases hk : k.writes
    · rfl
    · exact absurd hp (hgate hk).2.2
  unfold State.memAccess
  dsimp only
  rw [if_neg (by simp [hdev, hn.ne']), if_neg hg, if_neg hw]
  rcases place_of_guarded htarget with hp | hp | hp | hp <;> rw [hp] at htarget hone <;>
    simp only [hp, hone, htarget, hguard _ hp, hf, ne_eq, not_true, or_false, reduceCtorEq, if_false, Bool.false_eq_true]

/-- Each kind of access to memory reaches the memory; a read carries no data. -/
theorem busAccess_of_guarded (s : State) (now : State → State) (who : Who) (k : AccessKind) (a target : Nat) (data : List Byte)
    (h : guardTarget (placeOf a) = some target) :
    s.busAccess now who k a data = s.memAccess who k a (if k.code = 0 then [] else data) := by
  have hio := ioSpace_of_guarded h
  cases k with
  | read n => rcases place_of_guarded h with hp | hp | hp | hp <;> simp [State.busAccess, State.busRead, hp, AccessKind.code]
  | write => rcases place_of_guarded h with hp | hp | hp | hp <;> simp [State.busAccess, State.busWrite, hp, AccessKind.code]
  | fetch n => simp [State.busAccess, hio, AccessKind.code]
  | amo => simp [State.busAccess, hio, AccessKind.code]

/-- Only a write or an AMO looks at the data. -/
theorem State.serve_noData (s : State) (who : Who) (k : AccessKind) (a n : Nat) (data data' : List Byte) (cached : Bool)
    (hk : k.writes = false) : s.serve who k a n data cached = s.serve who k a n data' cached := by
  simp [State.serve, hk]

theorem Served.busAccess {s : State} {who : Who} {k : AccessKind} {a target : Nat} {data : List Byte} (now : State → State)
    (h : Served s who k a (k.size data) target) :
    s.busAccess now who k a data = s.serve who k a (k.size data) data (placeOf a != .dualPort) := by
  rw [busAccess_of_guarded s now who k a target data h.guarded]
  cases k with
  | read n => exact (Served.memAccess (k := .read n) (data := []) h).trans (s.serve_noData who (.read n) a n [] data _ rfl)
  | write => exact h.memAccess
  | fetch n => exact h.memAccess
  | amo => exact h.memAccess

/-! ### What the errors of an access leave as it was -/

theorem State.passes_congr {s t : State} (hplan : t.plan = s.plan) (hctx : t.ctxBase = s.ctxBase) (hmbox : t.mboxBase = s.mboxBase)
    (who : Who) (k : AccessKind) (target a n : Nat) : t.passes who k target a n = s.passes who k target a n := by
  have hitems : t.items = s.items := by funext ty; simp only [State.items, hplan]
  have hdistrict : t.districtItem = s.districtItem := by funext d; simp only [State.districtItem, State.item, hplan]
  have hworld : t.normalWorld = s.normalWorld := by funext d; simp only [State.normalWorld, hdistrict]
  have hregion : t.regionPasses = s.regionPasses := by funext i d cy need fetch; simp only [State.regionPasses, hdistrict, hworld]
  have hinCtx : t.inCtx = s.inCtx := by funext a n; simp only [State.inCtx, hctx]
  have hinMbox : t.inMbox = s.inMbox := by funext a n; simp only [State.inMbox, hmbox]
  have hpage : t.inMboxPage = s.inMboxPage := by funext j a n; simp only [State.inMboxPage, hmbox]
  unfold State.passes State.guardPasses
  rw [hctx, hinCtx, hinMbox, hpage, hitems, hregion]

/-- The conditions outlast a change of the caches, the error words and the counters of corrected errors. -/
theorem Served.of_frame {s t : State} {who : Who} {k : AccessKind} {a n target : Nat} (h : Served s who k a n target)
    (hf : Frame s t [.regs, .wg, .ic] fixRegs) : Served t who k a n target := by
  have hplan : t.plan = s.plan := hf.same .plan (by simp)
  have hcp : t.cp = s.cp := hf.same .cp (by simp)
  have hctx : t.ctxBase = s.ctxBase := by simp only [State.ctxBase]; rw [hf.rd (by decide), hf.rd (by decide)]
  have hmbox : t.mboxBase = s.mboxBase := by simp only [State.mboxBase]; rw [hf.rd (by decide), hf.rd (by decide)]
  have hoff : t.bankOff a n = s.bankOff a n := by simp only [State.bankOff, hf.reg (a := Rg.WG_BANK_PWR) (by decide)]
  have hgate : t.toGate who a = s.toGate who a := by
    simp only [State.toGate, State.gateGuards, State.pair, State.gatedRange, State.items, hcp, hplan]
  have hwait : t.gateWait who = s.gateWait who := by simp only [State.gateWait, State.gateGuards, State.pair, hcp]
  exact {
    active := (hf.same .dev (by simp)).trans h.active
    nonempty := h.nonempty
    ungated := by rw [hgate, hwait]; exact h.ungated
    guarded := h.guarded
    oneMemory := h.oneMemory
    passed := (State.passes_congr hplan hctx hmbox ..).trans h.passed
    bankOn := by rw [hoff]; exact h.bankOn }

/-- An error in the memory word, or in the L1 line, changes error words, L1 tags and the count of corrected errors. -/
theorem State.memErr_frame (s : State) (who : Who) (k : AccessKind) (a : Nat) (err : MemErr) :
    Frame s (s.memErr who k a err) [.regs, .wg, .ic] fixRegs := by
  have hwg : ∀ w : WgState, Frame s { s with wg := w } [.regs, .wg, .ic] fixRegs := fun w => (s.setWg_frame w).noRegs (by simp)
  cases err with
  | none => exact Frame.refl _ _ _
  | single => unfold State.memErr; dsimp only; split; exacts [hwg _, Frame.refl _ _ _]
  | double => unfold State.memErr; dsimp only; split; exacts [hwg _, Frame.refl _ _ _]
  | parity =>
    unfold State.memErr; dsimp only; split
    · exact (hwg _).trans ((State.wgEvent_frame _ 1).widen (by simp))
    · exact Frame.refl _ _ _

/-- No error makes an uncorrectable word readable. -/
theorem State.memErr_poison (s : State) (who : Who) (k : AccessKind) (a : Nat) (err : MemErr) :
    s.wg.poison ⊆ (s.memErr who k a err).wg.poison := by
  intro w hw
  have hcount : ∀ u : State, (u.wgEvent 1).wg = u.wg := fun u => (u.wgEvent_frame 1).same .wg (by simp)
  cases err with
  | none => exact hw
  | single => unfold State.memErr; dsimp only; split <;> exact hw
  | double =>
    unfold State.memErr; dsimp only; split
    · exact (mem_insertNat _ _ _).mpr (.inr hw)
    · exact hw
  | parity =>
    unfold State.memErr; dsimp only; split
    · rw [hcount]; exact hw
    · exact hw

theorem State.badWords_congr {s t : State} (h : t.wg.poison = s.wg.poison) (a n : Nat) (write : Bool) :
    t.badWords a n write = s.badWords a n write := by
  simp only [State.badWords, h]

/-- More uncorrectable words leave an access that met one meeting one. -/
theorem State.badWords_ne_nil_mono {s t : State} (h : s.wg.poison ⊆ t.wg.poison) (a n : Nat) (write : Bool)
    (hb : s.badWords a n write ≠ []) : t.badWords a n write ≠ [] := by
  obtain ⟨w, hw⟩ := List.exists_mem_of_ne_nil _ hb
  refine List.ne_nil_of_mem (a := w) ?_
  simp only [State.badWords, List.mem_filter, Bool.and_eq_true, List.contains_iff_mem] at hw ⊢
  obtain ⟨hin, hpoison, hpart⟩ := hw
  exact ⟨hin, h hpoison, hpart⟩

/-- A single-bit error in a memory word that reads: it stands in that word when the access comes. -/
theorem State.memErr_single (s : State) (who : Who) (k : AccessKind) (a n : Nat) (h0 : 0 < n)
    (hram : placeOf a = .sram ∨ placeOf a = .dualPort ∨ placeOf a = .dram) (hb : s.badWords a n false = []) :
    let t := s.memErr who k a .single
    t.wg.poison = s.wg.poison ∧ a / 8 ∈ t.wg.single ∧ Frame s t [.wg] (fun _ => False) := by
  have hpoison : a / 8 ∉ s.wg.poison := by
    simpa using List.filter_eq_nil_iff.mp hb (a / 8) (mem_wordsOf_first a n h0)
  have herr : s.memErr who k a .single = { s with wg := { s.wg with single := insertNat s.wg.single (a / 8) } } := by
    unfold State.memErr
    dsimp only
    rw [if_pos]
    rcases hram with hp | hp | hp <;> simp [hp, hpoison]
  dsimp only
  rw [herr]
  exact ⟨rfl, (mem_insertNat _ _ _).mpr (.inl rfl), s.setWg_frame _⟩

/-- A core that takes a bus error notes the cause of the access fault; its leader is the one of before. -/
theorem State.busErr_excCause (s t : State) (who : Who) (k : AccessKind) (hc : who.initiator.toNat < 8)
    (hl : t.leader who.initiator.toNat = s.leader who.initiator.toNat) :
    ((t.busErr who k).hart (s.leader who.initiator.toNat)).excCause = k.cause := by
  have hfault : (t.busErr who k).hart (s.leader who.initiator.toNat) =
      (t.setHart (s.leader who.initiator.toNat) { t.hart (s.leader who.initiator.toNat) with excCause := k.cause }).hart
        (s.leader who.initiator.toNat) := by
    unfold State.busErr State.coreFault
    rw [if_pos hc, hl]
    rfl
  rw [hfault, State.setHart_hart_same]

theorem State.busErr_frame (s : State) (who : Who) (k : AccessKind) : Frame s (s.busErr who k) [.wg, .resp] (fun _ => False) :=
  frame_of_blot_noRegs (by simp) (by simp)

/-- The pairs' states stand in registers that no memory error writes. -/
theorem leader_of_frame {s t : State} {parts : List Piece} {regs : Nat → Prop} (h : Frame s t parts regs)
    (hr : ∀ p < 4, ¬ regs (Fd.CP_PAIR_STATUS_STATE p).addr) (c : Nat) (hc : c < 8) : t.leader c = s.leader c := by
  have hlocked : t.locked (c / 2) = s.locked (c / 2) := by simp only [State.locked, State.pairState, h.rd (hr (c / 2) (by omega))]
  unfold State.leader
  rw [hlocked]

/-! ### The statement -/

/-- The registers that MEMORY_ACCESS may change where an uncorrectable word stands. -/
abbrev errRegs (b : Nat) : Prop :=
  b = Rg.WG_EVENT 1 ∨ b = Rg.WG_EVENT 2 ∨ b = Rg.WG_EVENT_SAT ∨ b = Rg.WG_ECC_ADDR_LO ∨ b = Rg.WG_ECC_ADDR_HI

theorem exec_memoryAccess (s : State) (who : Who) (k : AccessKind) (a : BitVec 64) (item : MemItem) :
    exec (.memoryAccess who k a item) s =
      .next ((s.memErr (s.issuer who) k a.toNat item.err).busAccess State.activateOpen (s.issuer who) k a.toNat item.data) := by
  rfl

/-- A served access as the command: the memory serves it in the state that its error left. -/
theorem Served.exec {s : State} {who : Who} {k : AccessKind} {a : BitVec 64} {data : List Byte} {target : Nat}
    (h : Served s (s.issuer who) k a.toNat (k.size data) target) (err : MemErr) :
    Machine.exec (.memoryAccess who k a ⟨data, err⟩) s =
      .next ((s.memErr (s.issuer who) k a.toNat err).serve (s.issuer who) k a.toNat (k.size data) data (placeOf a.toNat != .dualPort)) := by
  rw [exec_memoryAccess]
  exact congrArg Host.Outcome.next ((h.of_frame (s.memErr_frame ..)).busAccess State.activateOpen)

/-- The frame of an answer to a read. -/
theorem State.answering_resp_frame (s : State) (who : Who) (k : AccessKind) (a n : Nat) (cached : Bool) (r : Resp) :
    Frame s { s.answering who k a n cached with resp := r } [.regs, .wg, .ic, .resp] fixRegs :=
  ((s.answering_frame who k a n cached).widen (by simp)).trans ((State.setResp_frame _ r).noRegs (by simp))

/-- A write or an AMO that is answered: its bytes stand at the address, every other byte stays, and the frame holds. -/
theorem State.answering_store (s : State) (who : Who) (k : AccessKind) (a : Nat) (data : List Byte) (cached : Bool) (r : Resp) :
    let t := { (s.answering who k a data.length cached).store a data with resp := r }
    t.bytes a data.length = data ∧ (∀ b, b < a ∨ a + data.length ≤ b → t.byte b = s.byte b) ∧
      Frame s t [.regs, .wg, .ic, .resp, .mem] fixRegs := by
  intro t
  have hans := s.answering_frame who k a data.length cached
  have hmem : t.mem = ((s.answering who k a data.length cached).store a data).mem := rfl
  refine ⟨?_, fun b hb => ?_, ?_⟩
  · exact (State.bytes_congr hmem _ _).trans (State.bytes_store_same _ _ _)
  · exact (State.byte_store_out (s.answering who k a data.length cached) a data b hb).trans (hans.byte (by simp) b)
  · exact ((hans.widen (by simp)).trans ((State.store_frame _ a data).noRegs (by simp))).trans ((State.setResp_frame _ r).noRegs (by simp))

/-- What an access that meets an uncorrectable word leaves, from the state that its own error left. -/
theorem State.serve_bad_spec (s : State) (who : Who) (k : AccessKind) (a n : Nat) (data : List Byte) (cached : Bool)
    (hb : s.badWords a n (k.code == 1) ≠ []) :
    let t := s.serve who k a n data cached
    t.resp = (if k.writes ∨ who.initiator.toNat < 8 then .busError else .poisoned) ∧
      (who.initiator.toNat < 8 → (t.hart (s.leader who.initiator.toNat)).excCause = k.cause) ∧
      t.flag Fd.WG_ECC_ADDR_HI_VALID = true ∧ Frame s t [.regs, .wg, .ic, .resp] errRegs := by
  have hbad : Frame s (forAll (s.badWords a n (k.code == 1)) State.eccBad s) [.regs, .ic] badRegs := Frame.forAll _ _ State.eccBad_frame s
  have hvalid := s.forAll_eccBad_valid _ hb
  have herr := hbad.mono (parts' := [.regs, .wg, .ic, .resp]) (regs' := errRegs) (by simp) (fun _ h => .inr h)
  dsimp only
  rw [s.serve_bad who k a n data cached hb]
  generalize forAll (s.badWords a n (k.code == 1)) State.eccBad s = u at hbad hvalid herr ⊢
  by_cases hto : k.writes = true ∨ who.initiator.toNat < 8
  · have hbus := u.busErr_frame who k
    rw [if_pos hto, if_pos hto]
    refine ⟨rfl, fun hc => ?_, ?_, herr.trans (hbus.noRegs (by simp))⟩
    · have hpair : ∀ p < 4, ¬ badRegs (Fd.CP_PAIR_STATUS_STATE p).addr := by decide
      exact s.busErr_excCause u who k hc (leader_of_frame hbad hpair _ hc)
    · rw [← hvalid, State.flag, State.flag, hbus.rd not_false]
  · rw [if_neg hto, if_neg hto]
    exact ⟨rfl, fun hc => absurd (.inr hc) hto, hvalid, herr.trans ((u.setResp_frame _).noRegs (by simp))⟩

/-- Settles O2: the guards pass the access, so its memory serves it (`Served.exec`); then by whether a word that it must read is uncorrectable. -/
theorem memoryAccesses : Obligations.MemoryAccesses := by
  unfold Obligations.MemoryAccesses
  refine ⟨?read, ?write, ?amo, ?single, ?bad⟩
  case read =>
    intro s who k a target hdev hk hn htarget hone hpass hbank hb
    have hs : Served s (s.issuer who) k a.toNat (k.size []) target := ⟨hdev, hn, by simp [hk], htarget, hone, hpass, hbank⟩
    have hserve := s.serve_read (s.issuer who) k a.toNat (k.size []) [] (placeOf a.toNat != .dualPort) hk hb
    exact ⟨_, (hs.exec .none).trans (congrArg _ hserve), rfl, State.answering_resp_frame ..⟩
  case write =>
    intro s who a data target hdev hd hgate hwait htarget hflash hone hpass hbank hb
    have hs : Served s (s.issuer who) .write a.toNat (AccessKind.size .write data) target :=
      ⟨hdev, List.length_pos_iff.mpr hd, fun _ => ⟨hgate, hwait, hflash⟩, htarget, hone, hpass, hbank⟩
    have hserve := s.serve_write (s.issuer who) .write a.toNat data.length data (placeOf a.toNat != .dualPort) rfl hb
    exact ⟨_, (hs.exec .none).trans (congrArg _ hserve), rfl, State.answering_store ..⟩
  case amo =>
    intro s who a data target hdev hd hgate hwait htarget hflash hone hpass hbank hb
    have hs : Served s (s.issuer who) .amo a.toNat (AccessKind.size .amo data) target :=
      ⟨hdev, List.length_pos_iff.mpr hd, fun _ => ⟨hgate, hwait, hflash⟩, htarget, hone, hpass, hbank⟩
    have hserve := s.serve_write (s.issuer who) .amo a.toNat data.length data (placeOf a.toNat != .dualPort) rfl hb
    exact ⟨_, (hs.exec .none).trans (congrArg _ hserve), rfl, State.answering_store ..⟩
  case single =>
    intro s who k a target hdev hk hn h8 hram htarget hone hpass hbank hb
    have hs : Served s (s.issuer who) k a.toNat (k.size []) target := ⟨hdev, hn, by simp [hk], htarget, hone, hpass, hbank⟩
    have hexec := hs.exec .single
    obtain ⟨hpoison, hword, hframe⟩ := s.memErr_single (s.issuer who) k a.toNat _ hn hram hb
    generalize s.memErr (s.issuer who) k a.toNat .single = u at hexec hpoison hword hframe
    have hle := State.le_congr (hframe.same .mem (by simp)) a.toNat (k.size [])
    have hbu := (State.badWords_congr hpoison a.toNat (k.size []) false).trans hb
    have hserve := u.serve_read (s.issuer who) k a.toNat (k.size []) [] (placeOf a.toNat != .dualPort) hk hbu
    obtain ⟨hcount, hgone⟩ := u.answering_of_single (s.issuer who) k a.toNat (k.size []) (placeOf a.toNat != .dualPort) hn h8 hword
    rw [Counted, hframe.reg not_false] at hcount
    exact ⟨_, hexec.trans (congrArg _ hserve), congrArg Resp.data hle, hcount, hgone,
      (hframe.noRegs (by simp)).trans (State.answering_resp_frame ..)⟩
  case bad =>
    intro s who k a data err target hdev hn hgate hwait htarget hflash hone hpass hbank hb
    have hs : Served s (s.issuer who) k a.toNat (k.size data) target :=
      ⟨hdev, hn, fun _ => ⟨hgate, hwait, hflash⟩, htarget, hone, hpass, hbank⟩
    have hframe := s.memErr_frame (s.issuer who) k a.toNat err
    have hbu := State.badWords_ne_nil_mono (s.memErr_poison (s.issuer who) k a.toNat err) _ _ _ hb
    obtain ⟨hresp, hcause, hvalid, hserve⟩ := State.serve_bad_spec _ (s.issuer who) k a.toNat (k.size data) data
      (placeOf a.toNat != .dualPort) hbu
    have hpair : ∀ p < 4, ¬ fixRegs (Fd.CP_PAIR_STATUS_STATE p).addr := by decide
    refine ⟨_, hs.exec err, hresp, fun hc => ?_, hvalid, (hframe.mono (by simp) (fun _ h => ?_)).trans hserve⟩
    · rw [← leader_of_frame hframe hpair _ hc]; exact hcause hc
    · rcases h with h | h <;> simp [h]

end Sys2Proof.Machine
end

section
/-! SUPPORT. The canonical form of memory and register file as a predicate, with one rule for each way a state is built. -/

namespace Sys2Proof.Machine

/-- Memory and register file of the state are in canonical form. -/
def Canonical (s : State) : Prop := s.canonical = true

theorem Canonical.intro {s : State} (hm : twf memReset s.mem = true) (hr : twf regReset s.regs = true) :
    Canonical s :=
  s.canonical_iff.mpr ⟨hm, hr⟩
theorem Canonical.mem {s} (h : Canonical s) : twf memReset s.mem = true := (s.canonical_iff.mp h).1
theorem Canonical.regs {s} (h : Canonical s) : twf regReset s.regs = true := (s.canonical_iff.mp h).2

/-- Every part of a state but the two that have a canonical form. -/
abbrev outsideTables (p : Piece) : Bool := decide (p ≠ .mem ∧ p ≠ .regs)

/-- Only the memory and the register file count. -/
theorem Canonical.of_tables {s t : State} (h : Canonical s) (hm : t.mem = s.mem) (hr : t.regs = s.regs) :
    Canonical t :=
  State.canonical_of_same h hm hr

/-- What leaves the memory and the register file alone keeps the form: the frame law of the function shows it. -/
theorem Canonical.quiet {s t : State} (h : Canonical s) (hb : blot outsideTables t = blot outsideTables s) :
    Canonical t :=
  h.of_tables (same_of_blot (p := .mem) hb rfl) (same_of_blot (p := .regs) hb rfl)

/-- An update that names neither the memory nor the register file. -/
theorem Canonical.upd {s : State}
    {pending dev now vt resp fresh shadows plan ao ep wg ic kb pn can sw ptp nm sf cp otp ks up ux} (h : Canonical s) :
    Canonical ⟨pending, dev, now, vt, s.regs, s.mem, resp, fresh, shadows, plan, ao, ep,
      wg, ic, kb, pn, can, sw, ptp, nm, sf, cp, otp, ks, up, ux⟩ :=
  h.of_tables rfl rfl

theorem Canonical.ite {a b : State} {c : Prop} {_ : Decidable c} (ha : Canonical a) (hb : Canonical b) :
    Canonical (if c then a else b) := by
  split <;> assumption

/-- A step on top of `s` that is made only in some cases. -/
theorem Canonical.when {s a : State} {c : Prop} {_ : Decidable c} (h : Canonical s)
    (ha : Canonical s → Canonical a) :
    Canonical (if c then a else s) := .ite (ha h) h
theorem Canonical.unless {s a : State} {c : Prop} {_ : Decidable c} (h : Canonical s)
    (ha : Canonical s → Canonical a) :
    Canonical (if c then s else a) := .ite h (ha h)

theorem Canonical.forAll {s α l} {f : State → α → State} (h : Canonical s)
    (hf : ∀ {u x}, Canonical u → Canonical (f u x)) :
    Canonical (forAll l f s) := forAll_keeps Canonical l f (fun _ _ => hf) s h

theorem Canonical.setReg {s a w} (h : Canonical s) : Canonical (s.setReg a w) := State.canonical_setReg _ _ _ h
theorem Canonical.store {s a bs} (h : Canonical s) : Canonical (s.store a bs) := State.canonical_store _ _ _ h
/-- Registers taken out of the list read as their reset values again. -/
theorem Canonical.filterRegs {s : State} {f} (h : Canonical s) : Canonical { s with regs := s.regs.filter f } :=
  .intro h.mem (twf_filter _ _ _ h.regs)
theorem Canonical.resetRegs {s lo hi} (h : Canonical s) : Canonical (s.resetRegs lo hi) :=
  State.canonical_resetRegs _ _ _ h

/-- The same choice where the state is the first part of a pair. -/
theorem Canonical.ite_fst {α} {a b : State × α} {c : Prop} {_ : Decidable c} (ha : Canonical a.1)
    (hb : Canonical b.1) :
    Canonical (if c then a else b).1 := by split <;> assumption

/-- The state of a pair that is known by its two parts. -/
theorem Canonical.of_fst {α} {p : State × α} {u a} (h : Canonical p.1) (hp : p = (u, a)) : Canonical u := by
  rw [hp] at h; exact h
theorem Canonical.of_snd {α} {p : α × State} {u a} (h : Canonical p.2) (hp : p = (a, u)) : Canonical u := by
  rw [hp] at h; exact h

/-- A fold that carries a count beside the state. -/
theorem Canonical.foldl_fst {α β} {f : State × β → α → State × β} {l : List α} {r : State × β} (h : Canonical r.1)
    (hf : ∀ {r x}, Canonical r.1 → Canonical (f r x).1) : Canonical (l.foldl f r).1 := by
  induction l generalizing r with
  | nil => exact h
  | cons x rest ih => exact ih (hf h)

/-- The state that an option holds, if it holds one, is canonical. -/
def SomeCanonical (o : Option State) : Prop := ∀ t ∈ o, Canonical t

theorem SomeCanonical.none : SomeCanonical none := by simp [SomeCanonical]
theorem SomeCanonical.some {t} (h : Canonical t) : SomeCanonical (some t) := by simpa [SomeCanonical] using h
theorem SomeCanonical.ite {a b : Option State} {c : Prop} {_ : Decidable c} (ha : SomeCanonical a)
    (hb : SomeCanonical b) :
    SomeCanonical (if c then a else b) := by
  split <;> assumption

/-- The state that an outcome leads to, if it leads to one, is canonical. -/
def NextCanonical (o : Host.Outcome State Fault Refusal) : Prop := ∀ t, o = .next t → Canonical t

theorem NextCanonical.next {t} (h : Canonical t) : NextCanonical (.next t) := by
  rintro _ ⟨⟩
  exact h

end Sys2Proof.Machine
end

section
/-! SUPPORT. Every function of the model keeps the canonical form, in the order of the model's files; then every command and
every step, and with them StepKeepsCanonical and ResetCanonical. -/

namespace Sys2Proof.Machine

/-! ### Ops -/

theorem Canonical.wr {s f v} (h : Canonical s) : Canonical (s.wr f v) := .setReg h
theorem Canonical.setFlag {s f b} (h : Canonical s) : Canonical (s.setFlag f b) := .wr h
theorem Canonical.pass {s d} (h : Canonical s) : Canonical (s.pass d) := h.quiet (by simp)
theorem Canonical.reach {s t} (h : Canonical s) : Canonical (s.reach t) := h.quiet (by simp)
theorem Canonical.reachVt {s t} (h : Canonical s) : Canonical (s.reachVt t) := h.quiet (by simp)
theorem Canonical.draw {s} (h : Canonical s) : Canonical s.draw := h.quiet (by simp)

/-! ### Flags -/

theorem Canonical.setSrc {s n x} (h : Canonical s) : Canonical (s.setSrc n x) := h.quiet (by simp)
theorem Canonical.setTgt {s t x} (h : Canonical s) : Canonical (s.setTgt t x) := h.quiet (by simp)
theorem Canonical.level {s n b} (h : Canonical s) : Canonical (s.level n b) := h.quiet (by simp)
theorem Canonical.rechoose {s n} (h : Canonical s) : Canonical (s.rechoose n) := h.quiet (by simp)
theorem Canonical.rechooseAll {s} (h : Canonical s) : Canonical s.rechooseAll := .forAll h .rechoose
theorem Canonical.count {s a sat b} (h : Canonical s) : Canonical (s.count a sat b) :=
  .ite (.setReg h) (.wr (.setReg h))
theorem Canonical.count64 {s a sat b n} (h : Canonical s) : Canonical (s.count64 a sat b n) :=
  .ite (.setReg (.setReg h)) (.wr (.setReg (.setReg h)))
theorem Canonical.reject {s n code who write addr} (h : Canonical s) :
    Canonical (s.reject n code who write addr) :=
  .level (.setReg (.setReg h))
theorem Canonical.setHart {s c x} (h : Canonical s) : Canonical (s.setHart c x) := h.quiet (by simp)
theorem Canonical.coreFault {s who cause} (h : Canonical s) : Canonical (s.coreFault who cause) :=
  h.quiet (by simp)

/-! ### Access -/

theorem Canonical.refuseWrite {s n code who a} (h : Canonical s) : Canonical (s.refuseWrite n code who a) :=
  .upd (.ite h (.reject h))
theorem Canonical.setPair {s p x} (h : Canonical s) : Canonical (s.setPair p x) := h.quiet (by simp)
theorem Canonical.cpLevels {s} (h : Canonical s) : Canonical s.cpLevels := by
  unfold State.cpLevels
  exact .level (.forAll h fun h => .level (.level h))
theorem Canonical.cpEvent {s p c} (h : Canonical s) : Canonical (s.cpEvent p c) := .cpLevels (.count h)
theorem Canonical.setGate {s p g} (h : Canonical s) : Canonical (s.setGate p g) := .wr (.setPair h)
theorem Canonical.storeFault {s who code a} (h : Canonical s) : Canonical (s.storeFault who code a) :=
  .coreFault (.reject h)
theorem Canonical.gatePush {s p who a data} (h : Canonical s) : Canonical (s.gatePush p who a data) :=
  .upd (.setGate (.setPair h))
theorem Canonical.gatedStore {s who a data amo} (h : Canonical s) : Canonical (s.gatedStore who a data amo) :=
  .ite h (.ite (.storeFault h) (.ite (.cpEvent (.storeFault h)) (.ite (.storeFault h) (.ite (.cpEvent h) (.gatePush h)))))
theorem Canonical.regWrite {s who bytes a w held bad refuse} {effect : State → State} (h : Canonical s)
    (heffect : ∀ {u}, Canonical u → Canonical (effect u)) :
    Canonical (s.regWrite who bytes a w held bad refuse effect) :=
  .ite h <|
  .ite (.gatedStore h) <|
  .ite h <|
  .ite (.upd (.coreFault (.ite (.reject h) (.ite h (.reject h))))) <|
  .ite (.upd (.reject h)) (by split; exacts [.refuseWrite h, .ite (.refuseWrite h) (.ite (.refuseWrite h) (.upd (heffect (.setReg h))))])
theorem Canonical.regRead {s who bytes a own v} {effect : State → State} (h : Canonical s)
    (heffect : ∀ {u}, Canonical u → Canonical (effect u)) :
    Canonical (s.regRead who bytes a own v effect) :=
  .ite h <|
  .ite (.upd (.coreFault (.reject h))) <|
  .ite (.upd (.reject h)) (by split; exacts [.upd h, .ite (.upd (heffect h)) (.ite (.upd h) (.upd (.reject h)))])

/-! ### Rings -/

theorem Canonical.setEp {s e x} (h : Canonical s) : Canonical (s.setEp e x) := h.quiet (by simp)
theorem Canonical.setNotice {s e} (h : Canonical s) : Canonical (s.setNotice e) := h.quiet (by simp)
theorem Canonical.clearNotice {s e} (h : Canonical s) : Canonical (s.clearNotice e) := h.quiet (by simp)
theorem Canonical.touch {s e} (h : Canonical s) : Canonical (s.touch e) := h.quiet (by simp)
theorem Canonical.needPage {s e} (h : Canonical s) : Canonical (s.needPage e) := h.quiet (by simp)
theorem Canonical.record {s e tag code op detail time abortSeen late dup notify} (h : Canonical s) :
    Canonical (s.record e tag code op detail time abortSeen late dup notify) :=
  .when (.setEp (.store h)) .setNotice
theorem Canonical.dropCmd {s e tag} (h : Canonical s) : Canonical (s.dropCmd e tag) := h.quiet (by simp)
theorem Canonical.putCmd {s c} (h : Canonical s) : Canonical (s.putCmd c) := h.quiet (by simp)
theorem Canonical.freeToPool {s kind n} (h : Canonical s) : Canonical (s.freeToPool kind n) :=
  .ite (.wr h) (.ite (.wr h) h)
theorem Canonical.complete {s c code detail time} (h : Canonical s) : Canonical (s.complete c code detail time) :=
  .record (.dropCmd h)
theorem Canonical.finish {s c code} (h : Canonical s) : Canonical (s.finish c code) := .complete h
theorem Canonical.atTime {s c} {run : State → Cmd → State} (h : Canonical s)
    (hrun : ∀ {u x}, Canonical u → Canonical (run u x)) :
    Canonical (s.atTime c run) :=
  .ite (hrun h) (.ite (.putCmd h) (.ite (hrun (.putCmd h)) (.finish h)))

/-! ### Kerbside -/

theorem Canonical.setChan {s n c} (h : Canonical s) : Canonical (s.setChan n c) := h.quiet (by simp)
theorem Canonical.setFeed {s f x} (h : Canonical s) : Canonical (s.setFeed f x) := h.quiet (by simp)
theorem Canonical.kbLevels {s} (h : Canonical s) : Canonical s.kbLevels := h.quiet (by simp)
theorem Canonical.chEvent {s n code detail} (h : Canonical s) : Canonical (s.chEvent n code detail) := by
  unfold State.chEvent
  split
  · exact h
  · split
    · exact h
    · exact .complete h
theorem Canonical.faultRec {s n code} (h : Canonical s) : Canonical (s.faultRec n code) := .wr (.wr (.wr (.wr h)))
theorem Canonical.diagEvent {s n code sticky} (h : Canonical s) : Canonical (s.diagEvent n code sticky) :=
  .kbLevels (.chEvent (.faultRec (by split; exacts [.wr h, h])))
theorem Canonical.eachMember {s n} {f : State → Nat → State} (h : Canonical s)
    (hf : ∀ {u x}, Canonical u → Canonical (f u x)) :
    Canonical (s.eachMember n f) :=
  .forAll h hf
theorem Canonical.openInrush {s n} (h : Canonical s) : Canonical (s.openInrush n) := .ite h (.wr (.setChan h))
theorem Canonical.closeInrush {s n} (h : Canonical s) : Canonical (s.closeInrush n) := .wr (.wr (.setChan h))
theorem Canonical.outOn {s n window} (h : Canonical s) : Canonical (s.outOn n window) :=
  .when (.setChan (.eachMember h .wr)) .openInrush
theorem Canonical.outStop {s n slew} (h : Canonical s) : Canonical (s.outStop n slew) :=
  .ite (.closeInrush (.setChan (.eachMember h .wr))) h
theorem Canonical.outOff {s n} (h : Canonical s) : Canonical (s.outOff n) := .outStop h
theorem Canonical.cutOff {s n} (h : Canonical s) : Canonical (s.cutOff n) := .outStop h
theorem Canonical.setCmd {s n b} (h : Canonical s) : Canonical (s.setCmd n b) := .eachMember h .setFlag
theorem Canonical.drive {s n duty hz mode} (h : Canonical s) : Canonical (s.drive n duty hz mode) :=
  .ite (.ite (.closeInrush (.setChan h)) (have h1 : Canonical _ := .setChan h; .ite (.outOn (.closeInrush h1)) (.unless h1 .outOn))) <|
  have h2 : Canonical _ := .setChan h
  .ite (.unless h2 .setChan) (.outOn h2)
theorem Canonical.acceptOn {s n duty hz mode} (h : Canonical s) : Canonical (s.acceptOn n duty hz mode) :=
  have h1 : Canonical _ := .wr (.setCmd h)
  .ite (.setChan h1) (.drive h1)
theorem Canonical.applyOff {s n} (h : Canonical s) : Canonical (s.applyOff n) :=
  .setChan (.eachMember (.wr (.wr (.wr (.outOff (.setCmd h))))) .wr)
theorem Canonical.applyOn {s n duty hz mode} (h : Canonical s) : Canonical (s.applyOn n duty hz mode).2 := by
  unfold State.applyOn
  dsimp only
  split
  · exact .acceptOn h
  · exact h
theorem Canonical.applySwitch {s n on duty hz mode} (h : Canonical s) :
    Canonical (s.applySwitch n on duty hz mode).2 := by
  unfold State.applySwitch
  split
  · exact .applyOff h
  · exact .applyOn h
theorem Canonical.leaveLayby {s n} (h : Canonical s) : Canonical (s.leaveLayby n) := .setChan (.wr (.wr h))
theorem Canonical.trip {s n code k} (h : Canonical s) : Canonical (s.trip n code k) :=
  have h1 : Canonical _ := .setChan (.wr (.count (.ite (.setChan (.cutOff h)) (.outOff h))))
  .kbLevels (.ite (.chEvent h1) (.ite (.chEvent (.wr h1)) (.chEvent (.wr (.wr h1)))))
theorem Canonical.diagFault {s n code sticky} (h : Canonical s) : Canonical (s.diagFault n code sticky) := by
  unfold State.diagFault
  exact .diagEvent (.wr (.wr (.cutOff h)))
theorem Canonical.laybyAction {s n} (h : Canonical s) : Canonical (s.laybyAction n) := by
  unfold State.laybyAction
  split
  · exact .applyOff h
  · exact .ite (.applyOn h) (.faultRec (.applyOn h))
  · exact h
theorem Canonical.refused {s c n code} (h : Canonical s) : Canonical (s.refused c n code) := .finish (.faultRec h)
theorem Canonical.laybyTimed {s n} (h : Canonical s) : Canonical (s.laybyTimed n) := by
  unfold State.laybyTimed
  split
  · exact h
  · exact .forAll h .refused
theorem Canonical.enterLayby {s cause n} (h : Canonical s) : Canonical (s.enterLayby cause n) :=
  .laybyTimed (.laybyAction (.unless (.setChan (.wr (.wr h))) .diagEvent))
theorem Canonical.channelsToLayby {s cause l} (h : Canonical s) : Canonical (s.channelsToLayby cause l) :=
  .ite (.forAll h .enterLayby) h
theorem Canonical.releaseLayby {s l} (h : Canonical s) : Canonical (s.releaseLayby l) :=
  .wr (.forAll h .leaveLayby)
theorem Canonical.allOff {s} (h : Canonical s) : Canonical s.allOff := .forAll h fun h => .outOff (.setCmd h)
theorem Canonical.kerbDown {s mode} (h : Canonical s) : Canonical (s.kerbDown mode) :=
  .ite (.upd h) <|
  .upd (.upd (.setReg (.setReg (.forAll (.ite (.forAll h fun h => .outOff (.setCmd h)) h) fun h => .closeInrush (.setChan h)))))
theorem Canonical.kerbLost {s} (h : Canonical s) : Canonical s.kerbLost := h.quiet (by simp)

/-! ### PowerModels -/

theorem Canonical.showTemp {s n} (h : Canonical s) : Canonical (s.showTemp n) := .wr h
theorem Canonical.wireStepOf {s n} (h : Canonical s) : Canonical (s.wireStepOf n) := by
  unfold State.wireStepOf
  dsimp only
  exact
    have h1 : Canonical _ := .setChan h
    (by split; exacts [h1, (by split; exacts [h1, .when (.showTemp (.setChan h1)) .trip])])
theorem Canonical.wireStart {s since n} (h : Canonical s) : Canonical (s.wireStart since n) := by
  unfold State.wireStart
  split
  · exact h
  · split
    · exact h
    · exact .showTemp (.setChan h)
theorem Canonical.sampleChan {s n raw} (h : Canonical s) : Canonical (s.sampleChan n raw) :=
  .unless (.setChan (.wr (.setChan h))) .count64
theorem Canonical.sampleLead {s n} (h : Canonical s) : Canonical (s.sampleLead n) := .setFlag (.setChan h)
theorem Canonical.shedChan {s n} (h : Canonical s) : Canonical (s.shedChan n) := by
  unfold State.shedChan
  exact .chEvent (.count (.wr (.wr (.setCmd (.outOff h)))))
theorem Canonical.shedFor {s t} (h : Canonical s) : Canonical (s.shedFor t) :=
  .ite h (by split; exacts [h, .wr (.forAll h .shedChan)])

/-! ### Power -/

theorem Canonical.commitSwitch {s c n on duty hz mode} (h : Canonical s) :
    Canonical (s.commitSwitch c n on duty hz mode) :=
  .ite (.refused h) (.kbLevels (.complete (.applySwitch (.ite (.leaveLayby h) h))))
theorem Canonical.awaitPeriod {s n} (h : Canonical s) : Canonical (s.awaitPeriod n) := h.quiet (by simp)
theorem Canonical.runOn {s c} (h : Canonical s) : Canonical (s.runOn c) :=
  .ite (.putCmd (.awaitPeriod h)) (.commitSwitch h)
theorem Canonical.runOff {s c} (h : Canonical s) : Canonical (s.runOff c) := .commitSwitch h
theorem Canonical.runDrive {s c} (h : Canonical s) : Canonical (s.runDrive c) := .commitSwitch h
theorem Canonical.runRead {s c} (h : Canonical s) : Canonical (s.runRead c) :=
  .ite (.finish (.store h)) (.finish h)
theorem Canonical.runWaitEvent {s c} (h : Canonical s) : Canonical (s.runWaitEvent c) :=
  .ite (.finish h) (.putCmd h)
theorem Canonical.runPwr {s c} (h : Canonical s) : Canonical (s.runPwr c) := by
  unfold State.runPwr
  split
  · exact .runOn h
  · exact .runOff h
  · exact .runDrive h
  · exact .runRead h
  · exact .runWaitEvent h
  · exact h
theorem Canonical.kerbTakes {s ep tag op} {run : State → Cmd → State} (h : Canonical s)
    (hrun : ∀ {u x}, Canonical u → Canonical (run u x)) :
    Canonical (s.kerbTakes ep tag op run) := by
  unfold State.kerbTakes
  split
  · exact .ite (.atTime h hrun) h
  · exact h
theorem Canonical.ctrlCommits {s n w} (h : Canonical s) : Canonical (s.ctrlCommits n w) :=
  .ite (.setChan (.awaitPeriod h)) (.kbLevels (.applySwitch h))
theorem Canonical.ctrlFirst {s n w} (h : Canonical s) : Canonical (s.ctrlFirst n w) :=
  .ite h (.ite (.faultRec h) (.ite (.leaveLayby h) h))
theorem Canonical.chCtrlWrite {s who bytes n w} (h : Canonical s) : Canonical (s.chCtrlWrite who bytes n w) := by
  unfold State.chCtrlWrite
  exact .regWrite (.ite (.ctrlFirst h) h) .ctrlCommits
theorem Canonical.periodCommit {s n} (h : Canonical s) : Canonical (s.periodCommit n) := by
  unfold State.periodCommit
  exact
    have h1 : Canonical _ := .forAll (.ite (.reach h) h) fun h => .setChan (.commitSwitch h)
    by dsimp only; split; exacts [h1, .setChan (.applyOn (.setChan h1))]
theorem Canonical.wireModel {s} (h : Canonical s) : Canonical s.wireModel := .upd (.forAll (.reach h) .wireStepOf)
theorem Canonical.sampleFeed {s f mv raw} (h : Canonical s) : Canonical (s.sampleFeed f mv raw) :=
  .wr (.wr (.setFeed h))
theorem Canonical.showHousing {s} (h : Canonical s) : Canonical s.showHousing := .wr (.wr (.wr (.wr h)))
theorem Canonical.updateTriggers {s} (h : Canonical s) : Canonical s.updateTriggers :=
  have h1 : Canonical _ := .wr h
  .setFlag (.ite (.upd (.wr h1)) (.when h1 .upd))
theorem Canonical.restoreHeld {s outs n} (h : Canonical s) : Canonical (s.restoreHeld outs n) :=
  .ite (.setChan h) (.when (.when (.when (.setChan h) fun h => .eachMember (.setCmd h) .wr) fun h => .wr (.wr h)) fun h => .wr (.wr h))
theorem Canonical.kerbUp {s ambient pElec} (h : Canonical s) : Canonical (s.kerbUp ambient pElec) := by
  unfold State.kerbUp
  exact .kbLevels (.showHousing (.forAll (.forAll (.upd (.wr (.resetRegs h))) .wireStart) fun h => .ite (.restoreHeld h) (.setChan h)))

/-! ### CanOps -/

theorem Canonical.setCan {s k x} (h : Canonical s) : Canonical (s.setCan k x) := h.quiet (by simp)
theorem Canonical.setBuf {s k b x} (h : Canonical s) : Canonical (s.setBuf k b x) := h.quiet (by simp)
theorem Canonical.setMedium {s m x} (h : Canonical s) : Canonical (s.setMedium m x) := h.quiet (by simp)
theorem Canonical.setTrx {s k x} (h : Canonical s) : Canonical (s.setTrx k x) := h.quiet (by simp)
theorem Canonical.beatsStart {s} (h : Canonical s) : Canonical s.beatsStart := .forAll h .setTrx
theorem Canonical.beatsStop {s} (h : Canonical s) : Canonical s.beatsStop := .forAll h .setTrx
theorem Canonical.medMark {s m st} (h : Canonical s) : Canonical (s.medMark m st) := h.quiet (by simp)
theorem Canonical.canLevels {s k} (h : Canonical s) : Canonical (s.canLevels k) := h.quiet (by simp)
theorem Canonical.canEvent {s k c} (h : Canonical s) : Canonical (s.canEvent k c) := .count h
theorem Canonical.canEvents {s k c n} (h : Canonical s) : Canonical (s.canEvents k c n) :=
  .ite h (.ite (.setReg h) (.wr (.setReg h)))
theorem Canonical.bufWrite {s k b words time} (h : Canonical s) : Canonical (s.bufWrite k b words time) :=
  have h1 : Canonical _ := .setBuf h
  .ite (.canEvent (.wr h1)) (.wr h1)
theorem Canonical.consume {s k b} (h : Canonical s) : Canonical (s.consume k b) := .wr (.wr h)
theorem Canonical.bufReceive {s k b w0 w1 data time} (h : Canonical s) :
    Canonical (s.bufReceive k b w0 w1 data time) :=
  .ite (.when (.setBuf h) fun h => .canEvent (.wr h)) (.bufWrite h)
theorem Canonical.canRxComplete {s k b} (h : Canonical s) : Canonical (s.canRxComplete k b) := by
  unfold State.canRxComplete
  split
  · exact h
  · exact .ite (.complete (.consume (.store h))) h
theorem Canonical.endLock {s k consumed} (h : Canonical s) : Canonical (s.endLock k consumed) := by
  unfold State.endLock
  dsimp only
  split
  · exact h
  · exact
      have h1 : Canonical _ := .when (.setCan h) .consume
      (by split; exacts [h1, .unless (.wr (.setBuf h1)) fun h => .canEvent (.wr h)])
theorem Canonical.txRequest {s k b} (h : Canonical s) : Canonical (s.txRequest k b) :=
  .wr (.wr (.wr (.wr (.setBuf h))))
theorem Canonical.abortDecided {s e tag code} (h : Canonical s) : Canonical (s.abortDecided e tag code) :=
  h.quiet (by simp)
theorem Canonical.txEnd {s k b code time} (h : Canonical s) : Canonical (s.txEnd k b code time) := by
  unfold State.txEnd
  exact
    have h1 : Canonical _ := .wr (.wr (.setBuf h))
    by dsimp only; split; exacts [h1, .complete (.when h1 .abortDecided)]
theorem Canonical.txAbort {s k b} (h : Canonical s) : Canonical (s.txAbort k b) :=
  .ite h (.ite (.ite (.setBuf h) (.setBuf h)) (.txEnd (.ite (.setCan h) h)))
theorem Canonical.canErrState {s k} (h : Canonical s) : Canonical (s.canErrState k) :=
  .canLevels (.ite h (.ite (.forAll (.medMark (.canEvent (.setCan (.wr (.wr h))))) fun h => .ite (.wr (.wr h)) h) (.wr h)))
theorem Canonical.tecUp {s k} (h : Canonical s) : Canonical (s.tecUp k) := .wr h
theorem Canonical.tecDown {s k} (h : Canonical s) : Canonical (s.tecDown k) := .wr h
theorem Canonical.recUp {s k n} (h : Canonical s) : Canonical (s.recUp k n) := .wr h
theorem Canonical.recDown {s k} (h : Canonical s) : Canonical (s.recDown k) := .ite (.draw (.wr h)) (.wr h)
theorem Canonical.ttClose {s k} (h : Canonical s) : Canonical (s.ttClose k) := by
  unfold State.ttClose
  split
  · exact h
  · exact .when (.setCan h) fun h => .canLevels (.canEvent (.setBuf h))
theorem Canonical.ttOpen {s k i left} (h : Canonical s) : Canonical (s.ttOpen k i left) :=
  .when (.wr (.wr (.ttClose h))) fun h => .setCan (.when (.setBuf h) .txRequest)
theorem Canonical.ttPassed {s k old new} (h : Canonical s) : Canonical (s.ttPassed k old new) :=
  .forAll h fun h => .ite (.canEvents (.ite (.setBuf h) h)) h
theorem Canonical.ttStepWin {s k old new} (h : Canonical s) : Canonical (s.ttStepWin k old new) := by
  unfold State.ttStepWin
  split
  · exact h
  · exact .ite (.setCan h) (.ite (.ttClose h) (.setCan h))
theorem Canonical.ttResume {s k} (h : Canonical s) : Canonical (s.ttResume k) := by
  unfold State.ttResume
  exact
    have h1 : Canonical _ := .wr h
    by dsimp only; split; exacts [.unless h1 .ttOpen, h1]
theorem Canonical.canStep {s k old new} (h : Canonical s) : Canonical (s.canStep k old new) :=
  .ite h (.canLevels (.ttResume (.ttStepWin (.ite (.ttPassed h) h))))
theorem Canonical.setGwy {s k l} (h : Canonical s) : Canonical (s.setGwy k l) := .wr (.setCan h)
theorem Canonical.gwyPush {s k m} (h : Canonical s) : Canonical (s.gwyPush k m) :=
  .ite (.wr (.setCan h)) (.canLevels (.canEvent h))
theorem Canonical.canFreeIn {s k n sent} (h : Canonical s) : Canonical (s.canFreeIn k n sent) := h.quiet (by simp)
theorem Canonical.canReady {s k} (h : Canonical s) : Canonical (s.canReady k) := h.quiet (by simp)

/-! ### PowerFaults -/

theorem Canonical.report {s n f b code sticky} (h : Canonical s) : Canonical (s.report n f b code sticky) :=
  .ite h (.ite (.diagEvent (.setFlag h)) (.setFlag h))
theorem Canonical.testResult {s n fail f code sticky fails passes} (h : Canonical s) :
    Canonical (s.testResult n fail f code sticky fails passes) :=
  .ite (.report h) (.ite (.report h) h)
theorem Canonical.offTest {s n p1a p1b p2} (h : Canonical s) : Canonical (s.offTest n p1a p1b p2) :=
  .when (.ite (.testResult (.setChan h)) h) fun h => .testResult (.setChan h)

/-! ### Pins -/

theorem Canonical.setPin {s n p} (h : Canonical s) : Canonical (s.setPin n p) := h.quiet (by simp)
theorem Canonical.pinLevel {s} (h : Canonical s) : Canonical s.pinLevel := h.quiet (by simp)
theorem Canonical.pinChange {s n code} (h : Canonical s) : Canonical (s.pinChange n code) := by
  unfold State.pinChange
  split
  · exact h
  · exact .forAll h .finish
theorem Canonical.setValue {s n v} (h : Canonical s) : Canonical (s.setValue n v) := .ite h (.pinChange (.wr h))
theorem Canonical.setDiag {s n d} (h : Canonical s) : Canonical (s.setDiag n d) :=
  .ite h (.ite (.pinChange (.wr h)) (.pinLevel (.pinChange (.wr (.wr h)))))
theorem Canonical.switchSample {s n mv} (h : Canonical s) : Canonical (s.switchSample n mv) :=
  have h1 : Canonical _ := .setPin h
  .when (.ite (.setDiag h1) (.when h1 .setDiag)) .setValue
theorem Canonical.analogBand {s n v} (h : Canonical s) : Canonical (s.analogBand n v) :=
  .ite h (have h1 : Canonical _ := .setPin h; .ite (.setDiag h1) (.ite (.setDiag h1) (.when h1 .setDiag)))
theorem Canonical.lineTest {s n opened gnd pass} (h : Canonical s) : Canonical (s.lineTest n opened gnd pass) :=
  have h1 : Canonical _ := .setPin h
  .ite (.setDiag h1) (.ite (.setDiag h1) (.when h1 .setDiag))
theorem Canonical.pinDrive {s n v} (h : Canonical s) : Canonical (s.pinDrive n v) :=
  .setValue (.setPin (.setFlag (.ite h (.wr h))))
theorem Canonical.pinPeriod {s n v} (h : Canonical s) : Canonical (s.pinPeriod n v) := h.quiet (by simp)
theorem Canonical.pinTrip {s n bit code} (h : Canonical s) : Canonical (s.pinTrip n bit code) :=
  .pinLevel (.pinChange (.wr (.setPin (.wr (.wr h)))))
theorem Canonical.pinLaybyOne {s cause n} (h : Canonical s) : Canonical (s.pinLaybyOne cause n) := by
  unfold State.pinLaybyOne
  exact
    have h1 : Canonical _ := .pinDrive (.setPin h)
    by dsimp only; split; exacts [h1, .forAll h1 .finish]
theorem Canonical.pinsToLayby {s cause ds} (h : Canonical s) : Canonical (s.pinsToLayby cause ds) :=
  .forAll h .pinLaybyOne
theorem Canonical.pinsRelease {s ds} (h : Canonical s) : Canonical (s.pinsRelease ds) :=
  .forAll h fun h => .ite h (.setPin h)
theorem Canonical.runPinSet {s c} (h : Canonical s) : Canonical (s.runPinSet c) :=
  .ite (.finish h) (.ite (.finish h) (.finish (.pinDrive (.setPin (.pinPeriod h)))))
theorem Canonical.runPinRead {s c} (h : Canonical s) : Canonical (s.runPinRead c) :=
  .ite (.finish (.store h)) (.finish h)
theorem Canonical.runWaitChange {s c} (h : Canonical s) : Canonical (s.runWaitChange c) :=
  .ite (.finish h) (.putCmd h)
theorem Canonical.pinTakes {s ep tag op} {run : State → Cmd → State} (h : Canonical s)
    (hrun : ∀ {u x}, Canonical u → Canonical (run u x)) :
    Canonical (s.pinTakes ep tag op run) := by
  unfold State.pinTakes
  split
  · exact .ite (.atTime h hrun) h
  · exact h
theorem Canonical.pinOutWrite {s who bytes n w} (h : Canonical s) : Canonical (s.pinOutWrite who bytes n w) := by
  unfold State.pinOutWrite
  exact .regWrite h fun h => .setPin (.pinDrive (.pinPeriod h))

/-! ### LinMasters -/

theorem Canonical.setLin {s l x} (h : Canonical s) : Canonical (s.setLin l x) := h.quiet (by simp)
theorem Canonical.linEnd {s l o code detail} (h : Canonical s) : Canonical (s.linEnd l o code detail) := by
  unfold State.linEnd
  split
  · exact .wr h
  · split
    · exact .complete h
    · exact h
theorem Canonical.linHold {s l op t o} (h : Canonical s) : Canonical (s.linHold l op t o) := by
  unfold State.linHold
  dsimp only
  exact
    have h1 : Canonical _ := .setLin h
    (by split; exacts [.wr h1, (by split; exacts [.putCmd h1, h1])])
theorem Canonical.linRun {s l t at_} (h : Canonical s) : Canonical (s.linRun l t at_) :=
  .setLin (.wr (.wr (.wr h)))
theorem Canonical.linStartOp {s l t o} (h : Canonical s) : Canonical (s.linStartOp l t o) :=
  .ite (.linEnd h) <|
  (by split; exacts [.linEnd h, (by split; exacts [.linEnd (.linRun h), .linHold (.forAll (.setLin h) .linEnd), .linEnd h])])
theorem Canonical.linAtSlot {s l op o} (h : Canonical s) : Canonical (s.linAtSlot l op o) :=
  .ite (.linHold h) (.linEnd h)
theorem Canonical.linWakeOp {s l o} (h : Canonical s) : Canonical (s.linWakeOp l o) :=
  .ite (.linEnd (.setLin h)) (.linEnd h)
theorem Canonical.linSched {s l op t o} (h : Canonical s) : Canonical (s.linSched l op t o) := by
  unfold State.linSched
  split
  · exact .linStartOp h
  · exact .linAtSlot h
  · exact .linAtSlot h
  · exact .linWakeOp h
  · exact h
theorem Canonical.linSchedTakes {s ep tag op} (h : Canonical s) : Canonical (s.linSchedTakes ep tag op) := by
  unfold State.linSchedTakes
  split
  · exact .ite (.linSched h) h
  · exact h
theorem Canonical.setLinData {s l id_ v} (h : Canonical s) : Canonical (s.setLinData l id_ v) :=
  .setReg (.setReg h)
theorem Canonical.runLinPut {s c} (h : Canonical s) : Canonical (s.runLinPut c) :=
  .ite (.finish (.setLinData h)) (.finish h)
theorem Canonical.runLinGet {s c} (h : Canonical s) : Canonical (s.runLinGet c) := h.quiet (by simp)
theorem Canonical.runPin {s c} (h : Canonical s) : Canonical (s.runPin c) := by
  unfold State.runPin
  split
  · exact .runPinSet h
  · exact .runPinRead h
  · exact .runWaitChange h
  · exact .linSched h
  · exact .runLinPut h
  · exact .runLinGet h
  · exact h
theorem Canonical.linCommit {s l p} (h : Canonical s) : Canonical (s.linCommit l p) := by
  unfold State.linCommit
  split
  · exact .linEnd (.linRun h)
  · exact .linEnd (.wr h)
  · exact .linEnd (.wr (.setLin h))
theorem Canonical.linHeader {s l} (h : Canonical s) : Canonical (s.linHeader l) := by
  unfold State.linHeader
  dsimp only
  split
  · exact h
  · exact .setLin (.wr h)
theorem Canonical.linLevel {s} (h : Canonical s) : Canonical s.linLevel := h.quiet (by simp)
theorem Canonical.linCount {s l c} (h : Canonical s) : Canonical (s.linCount l c) := .linLevel (.count h)
theorem Canonical.linTimedOut {s l} (h : Canonical s) : Canonical (s.linTimedOut l) := by
  unfold State.linTimedOut
  split
  · exact h
  · exact .forAll (.linCount (.setLin h)) .finish
theorem Canonical.linGot {s l id_ c} (h : Canonical s) : Canonical (s.linGot l id_ c) :=
  .ite (.complete (.store h)) (.finish h)
theorem Canonical.linResponse {s l data sum} (h : Canonical s) : Canonical (s.linResponse l data sum) := by
  unfold State.linResponse
  split
  · exact h
  · exact .ite (.linTimedOut h) (.ite h (.ite (.setLin h) (.forAll (.setLin (.setLinData h)) .linGot)))
theorem Canonical.linBitError {s l} (h : Canonical s) : Canonical (s.linBitError l) :=
  .ite (.linCount (.setLin h)) h
theorem Canonical.linCtrlWrite {s who bytes l w} (h : Canonical s) : Canonical (s.linCtrlWrite who bytes l w) := by
  unfold State.linCtrlWrite
  exact .regWrite h fun h => .ite h (.linSched h)
theorem Canonical.linFrameCfgWrite {s who bytes l id_ w} (h : Canonical s) :
    Canonical (s.linFrameCfgWrite who bytes l id_ w) :=
  .regWrite h id
theorem Canonical.linDataWrite {s who bytes a l id_ w} (h : Canonical s) :
    Canonical (s.linDataWrite who bytes a l id_ w) :=
  .regWrite h id

/-! ### Crossing -/

theorem Canonical.endClaim {s n} (h : Canonical s) : Canonical (s.endClaim n) := h.quiet (by simp)
theorem Canonical.completeCore {s t} (h : Canonical s) : Canonical (s.completeCore t) := .forAll h .endClaim
theorem Canonical.coalesce {s n} (h : Canonical s) : Canonical (s.coalesce n) := h.quiet (by simp)
theorem Canonical.claimSrc {s n t} (h : Canonical s) : Canonical (s.claimSrc n t) := h.quiet (by simp)
theorem Canonical.claimRead {s who bytes t} (h : Canonical s) : Canonical (s.claimRead who bytes t) := by
  unfold State.claimRead
  exact .regRead h fun h => (by split; exacts [.claimSrc h, h])
theorem Canonical.claimWrite {s who bytes t w} (h : Canonical s) : Canonical (s.claimWrite who bytes t w) :=
  .regWrite h id
theorem Canonical.spurLevel {s} (h : Canonical s) : Canonical s.spurLevel := h.quiet (by simp)
theorem Canonical.completeWrite {s who bytes t w} (h : Canonical s) :
    Canonical (s.completeWrite who bytes t w) := by
  unfold State.completeWrite
  exact .regWrite h fun h => .endClaim (.ite (.spurLevel (.count h)) h)
theorem Canonical.srcCfgWrite {s who bytes n w} (h : Canonical s) : Canonical (s.srcCfgWrite who bytes n w) := by
  unfold State.srcCfgWrite
  exact .regWrite h fun h => .rechoose (.setSrc (.setReg h))
theorem Canonical.targetCtrlWrite {s who bytes t w} (h : Canonical s) :
    Canonical (s.targetCtrlWrite who bytes t w) := by
  unfold State.targetCtrlWrite
  exact .regWrite h fun h => .rechooseAll (.setTgt (.setReg h))
theorem Canonical.latchLevels {s} (h : Canonical s) : Canonical s.latchLevels := h.quiet (by simp)

/-! ### Memory -/

theorem Canonical.wgLevels {s} (h : Canonical s) : Canonical s.wgLevels := h.quiet (by simp)
theorem Canonical.wgEvent {s c} (h : Canonical s) : Canonical (s.wgEvent c) := .wgLevels (.count h)
theorem Canonical.guardRecord {s who kind target a bankOff} (h : Canonical s) :
    Canonical (s.guardRecord who kind target a bankOff) :=
  .wgLevels (.setReg (.setReg (.setReg h)))
theorem Canonical.busErr {s who k} (h : Canonical s) : Canonical (s.busErr who k) := h.quiet (by simp)
theorem Canonical.eccBad {s w} (h : Canonical s) : Canonical (s.eccBad w) := .wgEvent (.wr (.wr (.setReg h)))
theorem Canonical.eccFix {s w} (h : Canonical s) : Canonical (s.eccFix w) := .ite (.wgEvent (.upd h)) h
theorem Canonical.readEcc {s a n} (h : Canonical s) : Canonical (s.readEcc a n) :=
  .forAll h fun h => .ite (.eccBad h) (.eccFix h)
theorem Canonical.fillLine {s core who line write} (h : Canonical s) :
    Canonical (s.fillLine core who line write) :=
  h.quiet (by simp)
theorem Canonical.snoopLine {s line write} (h : Canonical s) : Canonical (s.snoopLine line write) :=
  h.quiet (by simp)
theorem Canonical.fillL2 {s cy line} (h : Canonical s) : Canonical (s.fillL2 cy line) := h.quiet (by simp)
theorem Canonical.cacheAccess {s who a n write} (h : Canonical s) : Canonical (s.cacheAccess who a n write) :=
  .forAll h fun h => .fillL2 (.ite (.fillLine h) (.snoopLine h))
theorem Canonical.serve {s who k a n data cached} (h : Canonical s) : Canonical (s.serve who k a n data cached) :=
  .ite (have h1 : Canonical _ := .forAll h .eccBad
      .ite (.busErr h1) (.upd h1)) <|
  have h2 : Canonical _ := .when (.forAll h .eccFix) .cacheAccess
  .ite (.upd (.store h2)) (.upd h2)
theorem Canonical.guardedAccess {s who k place target a n data} (h : Canonical s) :
    Canonical (s.guardedAccess who k place target a n data) :=
  .ite (.busErr (.wgEvent (.guardRecord h))) (.ite (.busErr (.guardRecord h)) (.serve h))
theorem Canonical.memAccess {s who k a data} (h : Canonical s) : Canonical (s.memAccess who k a data) :=
  .ite h <|
  .ite (.gatedStore h) <|
  .ite h <|
  .ite (.busErr (.reject h)) <|
  by
    split
    · exact .ite (.busErr (.reject h)) (.upd (.cacheAccess h))
    · exact .ite (.busErr (.reject h)) (.guardedAccess h)
    · exact .guardedAccess h
    · exact h
theorem Canonical.memErr {s who k a err} (h : Canonical s) : Canonical (s.memErr who k a err) := by
  unfold State.memErr
  split
  · exact h
  · exact .ite (.upd h) h
  · exact .ite (.upd h) h
  · exact .ite (.wgEvent (.upd h)) h
theorem Canonical.shopFetch {s a n} (h : Canonical s) : Canonical (s.shopFetch a n).1 := by
  unfold State.shopFetch
  split
  · exact h
  · exact .upd (.memAccess (.upd h))
theorem Canonical.scrub {s a err} (h : Canonical s) : Canonical (s.scrub a err) :=
  .ite h (have h1 : Canonical _ := .ite (.upd h) h; .ite (.eccBad h1) (.ite (.wgEvent (.upd h1)) (.eccFix h1)))
theorem Canonical.clearMem {s lo hi} (h : Canonical s) : Canonical (s.clearMem lo hi) :=
  .intro (twf_filter _ _ _ h.mem) h.regs
theorem Canonical.bankWrite {s who bytes w} (h : Canonical s) : Canonical (s.bankWrite who bytes w) :=
  .regWrite h fun h => .forAll h .clearMem
theorem Canonical.unreserve {s c n} (h : Canonical s) : Canonical (s.unreserve c n) := h.quiet (by simp)
theorem Canonical.reserveWrite {s who bytes w} (h : Canonical s) : Canonical (s.reserveWrite who bytes w) := by
  unfold State.reserveWrite
  exact .regWrite h fun h1 => .unless (.upd (.setReg h1)) fun h => .ite (.unreserve h) (.ite h (.upd h))

/-! ### SwitchOps -/

theorem Canonical.swLevel {s p} (h : Canonical s) : Canonical (s.swLevel p) := h.quiet (by simp)
theorem Canonical.swEvent {s p c} (h : Canonical s) : Canonical (s.swEvent p c) := .swLevel (.count h)
theorem Canonical.qEvent {s p tc c} (h : Canonical s) : Canonical (s.qEvent p tc c) := .swLevel (.count h)
theorem Canonical.traffic {s p k len} (h : Canonical s) : Canonical (s.traffic p k len) :=
  .swLevel (.count64 (.count64 h))
theorem Canonical.setFdb {s l} (h : Canonical s) : Canonical (s.setFdb l) := h.quiet (by simp)
theorem Canonical.fdbPut {s e} (h : Canonical s) : Canonical (s.fdbPut e) := h.quiet (by simp)
theorem Canonical.fdbHit {s mac vid} (h : Canonical s) : Canonical (s.fdbHit mac vid) := h.quiet (by simp)
theorem Canonical.fdbStat {s f} (h : Canonical s) : Canonical (s.fdbStat f) := .wr h
theorem Canonical.learn {s mac vid p} (h : Canonical s) : Canonical (s.learn mac vid p) := by
  unfold State.learn
  split
  · exact .unless (.fdbHit h) fun h => .ite (.swEvent h) (.fdbStat (.fdbPut h))
  · exact .ite (.setFdb h) (by split; exacts [.swEvent h, (by split; exacts [h, .fdbStat (.setFdb h)])])
theorem Canonical.setOcc {s p tc n} (h : Canonical s) : Canonical (s.setOcc p tc n) := by
  unfold State.setOcc
  exact
    have h1 : Canonical _ := .wr (.wr h)
    by dsimp only; split; exacts [h1, .unless h1 fun h => .wr (.wr h)]
theorem Canonical.charge {s p tc n} (h : Canonical s) : Canonical (s.charge p tc n) := .setOcc h
theorem Canonical.release {s p tc n} (h : Canonical s) : Canonical (s.release p tc n) := .setOcc h
theorem Canonical.epOcc {s e n} (h : Canonical s) : Canonical (s.epOcc e n) := h.quiet (by simp)
theorem Canonical.putFrame {s f} (h : Canonical s) : Canonical (s.putFrame f) := h.quiet (by simp)
theorem Canonical.putCopy {s c} (h : Canonical s) : Canonical (s.putCopy c) := h.quiet (by simp)
theorem Canonical.sweepFrames {s} (h : Canonical s) : Canonical s.sweepFrames := h.quiet (by simp)
theorem Canonical.releaseCopy {s c} (h : Canonical s) : Canonical (s.releaseCopy c) :=
  .putCopy (.when (.release h) .epOcc)
theorem Canonical.dropCopy {s c} (h : Canonical s) : Canonical (s.dropCopy c) := .upd (.releaseCopy h)

/-! ### MirrorMaps -/

theorem Canonical.setCam {s c x} (h : Canonical s) : Canonical (s.setCam c x) := h.quiet (by simp)
theorem Canonical.setView {s i x} (h : Canonical s) : Canonical (s.setView i x) := h.quiet (by simp)
theorem Canonical.setPlane {s j x} (h : Canonical s) : Canonical (s.setPlane j x) := h.quiet (by simp)
theorem Canonical.setDsp {s d x} (h : Canonical s) : Canonical (s.setDsp d x) := h.quiet (by simp)
theorem Canonical.loadFail {s code slice overlay i} (h : Canonical s) :
    Canonical (s.loadFail code slice overlay i) :=
  .setReg h

/-! ### MirrorCams -/

theorem Canonical.sfLevel {s} (h : Canonical s) : Canonical s.sfLevel := h.quiet (by simp)
theorem Canonical.camLevel {s c} (h : Canonical s) : Canonical (s.camLevel c) := h.quiet (by simp)
theorem Canonical.dspLevel {s d} (h : Canonical s) : Canonical (s.dspLevel d) := h.quiet (by simp)
theorem Canonical.viewEvent {s i c} (h : Canonical s) : Canonical (s.viewEvent i c) := .sfLevel (.count h)
theorem Canonical.dspEvent {s d c} (h : Canonical s) : Canonical (s.dspEvent d c) := .sfLevel (.count h)
theorem Canonical.integEvent {s k} (h : Canonical s) : Canonical (s.integEvent k) := .sfLevel (.count h)
theorem Canonical.camFault {s c bit code} (h : Canonical s) : Canonical (s.camFault c bit code) :=
  .camLevel (.wr (.wr (.wr (.wr (.ite h (.setCam h))))))
theorem Canonical.pocDetected {s c code} (h : Canonical s) : Canonical (s.pocDetected c code) :=
  .camFault (.setCam h)
theorem Canonical.endFrame {s c} (h : Canonical s) : Canonical (s.endFrame c) := .setCam (.wr (.setFlag h))
theorem Canonical.lockLost {s c} (h : Canonical s) : Canonical (s.lockLost c) := .wr (.camFault (.setCam h))
theorem Canonical.camTrigger {s c} (h : Canonical s) : Canonical (s.camTrigger c) :=
  .ite h (.wr (.setCam (.reachVt h)))
theorem Canonical.frameStart {s c f} (h : Canonical s) : Canonical (s.frameStart c f) := by
  unfold State.frameStart
  exact
    have h1 : Canonical _ := .ite (.endFrame (.lockLost h)) h
    by dsimp only; split; exacts [.lockLost h1, .when (.setCam h1) .camFault]
theorem Canonical.overrunBy {s c slot} (h : Canonical s) : Canonical (s.overrunBy c slot) :=
  .ite h (.forAll h fun h1 => (by split; exacts [.setDsp (.forAll h1 fun h => .viewEvent (.setDsp h)), h1]))
theorem Canonical.lineCrc {s c crc} (h : Canonical s) : Canonical (s.lineCrc c crc) :=
  .ite h (.when (.setCam h) .camFault)
theorem Canonical.setLine {s key l} (h : Canonical s) : Canonical (s.setLine key l) := h.quiet (by simp)
theorem Canonical.frameEndPacket {s c} (h : Canonical s) : Canonical (s.frameEndPacket c) :=
  .ite h (.ite (.endFrame h) (.endFrame (.lockLost h)))
theorem Canonical.lineReceived {s c px crc fe} (h : Canonical s) : Canonical (s.lineReceived c px crc fe) :=
  .when (.unless (.lineCrc (.setCam (.setLine (.overrunBy h)))) .lockLost) .frameEndPacket
theorem Canonical.lockTimeout {s c} (h : Canonical s) : Canonical (s.lockTimeout c) :=
  .ite h (by split; exacts [.endFrame (.lockLost (.reachVt h)), .lockLost (.setCam (.reachVt h)), h])
theorem Canonical.camLinkDown {s c} (h : Canonical s) : Canonical (s.camLinkDown c) :=
  .ite h (.when (.setCam (.wr (.wr h))) .camFault)
theorem Canonical.startView {s i} (h : Canonical s) : Canonical (s.startView i) := by
  unfold State.startView
  exact .ite (.loadFail h) (by split; exacts [.loadFail h, .wr (.wr (.wr (.setView h)))])
theorem Canonical.camStart {s c} (h : Canonical s) : Canonical (s.camStart c) :=
  .unless (.forAll (.wr (.setCam h)) .startView) .camFault
theorem Canonical.camStop {s c} (h : Canonical s) : Canonical (s.camStop c) := .forAll (.wr (.setCam h)) .wr
theorem Canonical.camCtrlWrite {s who bytes c w} (h : Canonical s) : Canonical (s.camCtrlWrite who bytes c w) := by
  unfold State.camCtrlWrite
  exact .regWrite h fun h => .ite (.camStart h) (.ite (.camStop h) h)
theorem Canonical.camTimingWrite {s who bytes c w} (h : Canonical s) :
    Canonical (s.camTimingWrite who bytes c w) :=
  .regWrite h id
theorem Canonical.i2cWrite {s who bytes c w} (h : Canonical s) : Canonical (s.i2cWrite who bytes c w) :=
  .regWrite h fun h => .ite (.wr (.setCam h)) (.wr h)
theorem Canonical.i2cDone {s c result data} (h : Canonical s) : Canonical (s.i2cDone c result data) :=
  .ite h (by split; exacts [.when (.wr h) .wr, .wr h, .wr (.reach h)])
theorem Canonical.setPoc {s c st} (h : Canonical s) : Canonical (s.setPoc c st) := .wr h
theorem Canonical.pocWrite {s who bytes c w} (h : Canonical s) : Canonical (s.pocWrite who bytes c w) := by
  unfold State.pocWrite
  exact .regWrite h fun h => .ite (.ite h (.setPoc h)) (.ite (.unless (.wr (.wr (.setCam h))) .setPoc) h)
theorem Canonical.pocShort {s c} (h : Canonical s) : Canonical (s.pocShort c) :=
  .ite (by split; exacts [.ite (.pocDetected h) h, h]) (.pocDetected (.wr (.setPoc (.setCam (.ite (.wr h) h)))))
theorem Canonical.pocRetry {s c} (h : Canonical s) : Canonical (s.pocRetry c) := .ite h (.wr (.setPoc (.reach h)))
theorem Canonical.pocExternal {s c} (h : Canonical s) : Canonical (s.pocExternal c) :=
  .ite h (.pocDetected (.wr (.setPoc (.setCam h))))
theorem Canonical.pocExternalClear {s c} (h : Canonical s) : Canonical (s.pocExternalClear c) :=
  .ite (.setPoc (.setCam h)) h
theorem Canonical.pocOpen {s c ma} (h : Canonical s) : Canonical (s.pocOpen c ma) :=
  .ite h (have h1 : Canonical _ := .wr h; .ite (.setPoc h1) (.unless h1 fun h => .pocDetected (.setPoc h)))
theorem Canonical.camStep {s delta c} (h : Canonical s) : Canonical (s.camStep delta c) := h.quiet (by simp)
theorem Canonical.dspStep {s d} (h : Canonical s) : Canonical (s.dspStep d) := h.quiet (by simp)
theorem Canonical.stampStep {s delta} (h : Canonical s) : Canonical (s.stampStep delta) := .forAll h .setLine
theorem Canonical.mirrorStep {s delta} (h : Canonical s) : Canonical (s.mirrorStep delta) :=
  .stampStep (.forAll (.forAll h .camStep) .dspStep)

/-! ### Can -/

theorem Canonical.mbTouch {s k b w} (h : Canonical s) : Canonical (s.mbTouch k b w) :=
  .ite h (.when (.ite (.setCan h) h) fun h => .canLevels (.ite (.endLock h) (.consume h)))
theorem Canonical.mbWindowRead {s who bytes k w} (h : Canonical s) : Canonical (s.mbWindowRead who bytes k w) := by
  unfold State.mbWindowRead
  exact .regRead h .mbTouch
theorem Canonical.mbWindowWrite {s who bytes k w v} (h : Canonical s) :
    Canonical (s.mbWindowWrite who bytes k w v) := by
  unfold State.mbWindowWrite
  exact .regWrite h fun h => .setBuf (.setReg h)
theorem Canonical.mbSelWrite {s who bytes k w} (h : Canonical s) : Canonical (s.mbSelWrite who bytes k w) :=
  .regWrite h fun h => .canLevels (.endLock h)
theorem Canonical.mbCfgWrite {s who bytes k b w} (h : Canonical s) : Canonical (s.mbCfgWrite who bytes k b w) := by
  unfold State.mbCfgWrite
  exact .regWrite h fun h => .canLevels (.setBuf (.consume h))
theorem Canonical.mbCtrlWrite {s who bytes k b w} (h : Canonical s) :
    Canonical (s.mbCtrlWrite who bytes k b w) := by
  unfold State.mbCtrlWrite
  exact .regWrite h fun h => .ite (.txRequest h) (.ite (.txAbort h) h)
theorem Canonical.canModeWrite {s who bytes k w} (h : Canonical s) : Canonical (s.canModeWrite who bytes k w) :=
  .regWrite h id
theorem Canonical.canEnterOff {s k} (h : Canonical s) : Canonical (s.canEnterOff k) := by
  unfold State.canEnterOff
  exact .canLevels (.wr (.wr (.wr (.wr (.setGwy (.canEvents (.forAll (.ttClose h) fun h => .ite (.txEnd h) h)))))))
theorem Canonical.canModeTakes {s k} (h : Canonical s) : Canonical (s.canModeTakes k) :=
  .ite h (have h1 : Canonical _ := .wr (.ite h (.reach h)); .ite (.canEnterOff h1) (.ite (.canReady (.setCan h1)) (.canReady h1)))
theorem Canonical.txOffer {s k} (h : Canonical s) : Canonical (s.txOffer k) := h.quiet (by simp)
theorem Canonical.bufCommits {s k b} (h : Canonical s) : Canonical (s.bufCommits k b) := by
  unfold State.bufCommits
  exact
    have h1 : Canonical _ := .setBuf (.wr h)
    by dsimp only; split; exacts [h1, .when (.putCmd h1) .abortDecided]
theorem Canonical.txCommit {s k} (h : Canonical s) : Canonical (s.txCommit k) := by
  unfold State.txCommit
  split
  · exact h
  · exact .ite h (have h1 : Canonical _ := .setCan (.reach h); (by split; exacts [.unless h1 .bufCommits, h1]))
theorem Canonical.repeatTried {s k b code} (h : Canonical s) : Canonical (s.repeatTried k b code) := by
  unfold State.repeatTried
  split
  · exact .ite (.complete h) (.putCmd h)
  · exact h
theorem Canonical.arbLost {s k} (h : Canonical s) : Canonical (s.arbLost k) := by
  unfold State.arbLost
  split
  · exact h
  · exact .ite h <|
      have h1 : Canonical _ := .canEvent (.setCan (.reach h))
      .canLevels (by split; exacts [.unless h1 fun h => .ite (.txEnd h) (.repeatTried h), h1])
theorem Canonical.bufSent {s k b commit} (h : Canonical s) : Canonical (s.bufSent k b commit) :=
  have h1 : Canonical _ := .when (.setBuf h) .wr
  .txEnd (by split; exacts [.when h1 .setCan, h1])
theorem Canonical.bufFailed {s k b} (h : Canonical s) : Canonical (s.bufFailed k b) :=
  .ite (.txEnd h) (.ite (.txEnd h) (.ite (.txEnd (.canEvent h)) (.repeatTried (.wr (.wr h)))))
theorem Canonical.gwyFailed {s k} (h : Canonical s) : Canonical (s.gwyFailed k) :=
  .ite (.setCan h) (.canEvent (.setGwy h))
theorem Canonical.curfewFailed {s k} (h : Canonical s) : Canonical (s.curfewFailed k) := h.quiet (by simp)
theorem Canonical.tdcMeasure {s k a half tdc} (h : Canonical s) : Canonical (s.tdcMeasure k a half tdc) :=
  .ite (.wr h) h
theorem Canonical.tryOk {s k a commit} (h : Canonical s) : Canonical (s.tryOk k a commit) :=
  have h1 : Canonical _ := .canEvent (.tecDown (.setCan h))
  .canFreeIn (.canErrState (by split; exacts [.ite (.medMark h1) (.bufSent h1), .setGwy h1]))
theorem Canonical.tryError {s k a e} (h : Canonical s) : Canonical (s.tryError k a e) :=
  have h1 : Canonical _ := .setCan (.when (.canEvent (.wr h)) .tecUp)
  .canFreeIn (.canErrState (by split; exacts [.ite (.curfewFailed h1) (.bufFailed h1), .gwyFailed h1]))
theorem Canonical.tryEnds {s k result ns tdc} (h : Canonical s) : Canonical (s.tryEnds k result ns tdc) := by
  unfold State.tryEnds
  split
  · exact h
  · split
    · exact .tryOk (.tdcMeasure (.reach h))
    · exact h
    · exact .tryError (.tdcMeasure (.reach h))
theorem Canonical.busOffEnds {s k} (h : Canonical s) : Canonical (s.busOffEnds k) :=
  .ite h (.canLevels (.canReady (.setCan (.wr (.wr (.wr (.wr (.reach h))))))))
theorem Canonical.rxError {s k e eight} (h : Canonical s) : Canonical (s.rxError k e eight) :=
  .ite h (.canErrState (.canFreeIn (.when (.canEvent (.wr h)) .recUp)))
theorem Canonical.ttCfgWrite {s who bytes k w} (h : Canonical s) : Canonical (s.ttCfgWrite who bytes k w) := by
  unfold State.ttCfgWrite
  exact
    have h1 : Canonical _ := .regWrite h fun h => .ite (.canReady (.wr (.ttClose h))) (.unless (.wr h) .wr)
    by dsimp only; split; exacts [h1, .when h1 fun h => .wr (.wr h)]
theorem Canonical.ttRefWrite {s who bytes k w} (h : Canonical s) : Canonical (s.ttRefWrite who bytes k w) :=
  .regWrite h id
theorem Canonical.ttStarts {s k c w} (h : Canonical s) : Canonical (s.ttStarts k c w) := by
  unfold State.ttStarts
  split
  · exact h
  · exact .ite h (.ite h (.ttOpen (.pass h)))
theorem Canonical.ttMisses {s k c w} (h : Canonical s) : Canonical (s.ttMisses k c w) := by
  unfold State.ttMisses
  split
  · exact .ite (.ttClose (.reach h)) h
  · exact .ite (.canLevels (.canEvent (.setBuf h))) h
  · exact h
theorem Canonical.refLost {s k} (h : Canonical s) : Canonical (s.refLost k) :=
  .ite (.canLevels (.canEvent (.wr (.ttClose (.reach h))))) h
theorem Canonical.runCanSetup {s c} (h : Canonical s) : Canonical (s.runCanSetup c) :=
  .ite (.finish h) (.canLevels (.finish (.setBuf (.consume (.setReg (.setReg (.wr (.wr (.wr (.wr h))))))))))
theorem Canonical.canTxDue {s c} (h : Canonical s) : Canonical (s.canTxDue c) :=
  .unless (.putCmd h) fun h => .ite (.finish h) (.txRequest h)
theorem Canonical.runCanTx {s c} (h : Canonical s) : Canonical (s.runCanTx c) :=
  .ite (.finish h) <|
  .ite (.finish h) (.ite (.finish (.readEcc h)) (have h1 : Canonical _ := .readEcc h; .ite (.finish h1) (.atTime (.setBuf h1) .canTxDue)))
theorem Canonical.runCanRx {s c} (h : Canonical s) : Canonical (s.runCanRx c) :=
  .ite (.finish h) (.ite (.finish h) (.canLevels (.canRxComplete (.putCmd h))))
theorem Canonical.runCanState {s c} (h : Canonical s) : Canonical (s.runCanState c) := .finish (.store h)
theorem Canonical.canTakes {s ep tag op} {run : State → Cmd → State} (h : Canonical s)
    (hrun : ∀ {u x}, Canonical u → Canonical (run u x)) :
    Canonical (s.canTakes ep tag op run) := by
  unfold State.canTakes
  split
  · exact hrun h
  · exact h

/-! ### SwitchTime -/

theorem Canonical.shaperSync {s i} (h : Canonical s) : Canonical (s.shaperSync i) := h.quiet (by simp)
theorem Canonical.shapersSync {s} (h : Canonical s) : Canonical s.shapersSync := .forAll h .shaperSync
theorem Canonical.setStrm {s hdl x} (h : Canonical s) : Canonical (s.setStrm hdl x) := h.quiet (by simp)
theorem Canonical.streamLevel {s} (h : Canonical s) : Canonical s.streamLevel := h.quiet (by simp)
theorem Canonical.strmCount {s hdl c} (h : Canonical s) : Canonical (s.strmCount hdl c) := h.quiet (by simp)
theorem Canonical.refill {s i} (h : Canonical s) : Canonical (s.refill i) := h.quiet (by simp)
theorem SomeCanonical.meter {s i len} (h : Canonical s) : SomeCanonical (s.meter i len) := by
  unfold State.meter
  exact .ite (.some (.setStrm (.refill h))) .none
theorem Canonical.recover {s hdl seq} (h : Canonical s) : Canonical (s.recover hdl seq).2 := h.quiet (by simp)
theorem Canonical.unrecover {s hdl seq} (h : Canonical s) : Canonical (s.unrecover hdl seq) := h.quiet (by simp)
theorem Canonical.badFrame {s f} (h : Canonical s) : Canonical (s.badFrame f) :=
  have h1 : Canonical _ := .putFrame h
  .sweepFrames <|
  .forAll (by split; exacts [.unrecover h1, h1]) fun h => .ite (.upd (.putCopy (.ite h (.releaseCopy h)))) (.dropCopy (.swEvent h))
theorem Canonical.frerReset {s hdl} (h : Canonical s) : Canonical (s.frerReset hdl) := h.quiet (by simp)

/-! ### Switch -/

theorem Canonical.setTxSa {s p an x} (h : Canonical s) : Canonical (s.setTxSa p an x) := h.quiet (by simp)
theorem Canonical.setRxSa {s p sc an x} (h : Canonical s) : Canonical (s.setRxSa p sc an x) := h.quiet (by simp)
theorem Canonical.pnLevel {s p} (h : Canonical s) : Canonical (s.pnLevel p) := h.quiet (by simp)
theorem Canonical.msValidate {s p bs} (h : Canonical s) : Canonical (s.msValidate p bs).2 := h.quiet (by simp)
theorem Canonical.enterCopy {s f o e} (h : Canonical s) : Canonical (s.enterCopy f o e).1 := by
  unfold State.enterCopy
  exact .ite_fst (.upd (.when (.when (.charge h) .epOcc) .needPage)) (.qEvent h)
theorem Canonical.enterPort {s f o} (h : Canonical s) : Canonical (s.enterPort f o).1 := by
  unfold State.enterPort
  split
  · split
    · exact .level (.count h)
    · exact .foldl_fst h .enterCopy
  · exact .enterCopy h
theorem Canonical.enterMask {s f mask} (h : Canonical s) : Canonical (s.enterMask f mask).1 := by
  unfold State.enterMask
  exact .sweepFrames (.foldl_fst (.upd h) .enterPort)
theorem Canonical.streamFilter {s i f} (h : Canonical s) : Canonical (s.streamFilter i f).1 := by
  unfold State.streamFilter
  dsimp only
  split
  · exact h
  · split
    · exact .strmCount h
    · split
      · exact h
      · split
        · exact .strmCount h
        · next ht => exact SomeCanonical.meter h _ ht
theorem Canonical.streamEliminate {s i f mask} (h : Canonical s) : Canonical (s.streamEliminate i f mask).1 := by
  unfold State.streamEliminate
  refine .ite_fst h (.ite_fst (.strmCount h) (.ite_fst ?_ h))
  split <;> next hu => exact .of_snd (.recover h) hu
theorem Canonical.streamReplicate {s i f} (h : Canonical s) : Canonical (s.streamReplicate i f).1 :=
  h.quiet (by simp)
theorem Canonical.setRx {s p x} (h : Canonical s) : Canonical (s.setRx p x) := h.quiet (by simp)
theorem Canonical.noteMeter {s p m} (h : Canonical s) : Canonical (s.noteMeter p m) := h.quiet (by simp)
theorem Canonical.step10 {s f mask} (h : Canonical s) : Canonical (s.step10 f mask).1 := by
  unfold State.step10
  split
  · exact .enterMask h
  · dsimp only
    split
    · next hu => exact .of_fst (.streamFilter (.strmCount h)) hu
    · next hu =>
      have h := Canonical.of_fst (.streamFilter (.strmCount h)) hu
      split
      · next hv => exact .of_fst (.streamEliminate (.ite h (.noteMeter h))) hv
      · next hv => exact .enterMask (.streamReplicate (.of_fst (.streamEliminate (.ite h (.noteMeter h))) hv))
theorem Canonical.forward {s p bs len stamp ended} (h : Canonical s) :
    Canonical (s.forward p bs len stamp ended).1 := by
  unfold State.forward
  refine .ite_fst h <| .ite_fst (.swEvent h) <| .ite_fst (.swEvent h) <| .ite_fst (.swEvent h) <| .ite_fst (.swEvent h) <|
    .ite_fst (.swEvent h) <| .ite_fst ?_ ?_
  · exact .ite_fst (.when h .learn) (.enterMask (.when h .learn))
  · split
    · exact .swEvent (.when h .learn)
    · exact .step10 (.fdbHit (.when h .learn))
theorem Canonical.frameIn {s p data err stamp} (h : Canonical s) : Canonical (s.frameIn p data err stamp) := by
  unfold State.frameIn
  refine .ite (.swEvent (.traffic h)) <| .ite (.ite ?_ (.forward (.traffic h))) <| .ite (.swEvent (.traffic h)) (.swEvent (.traffic h))
  split
  · next hu => exact .swEvent (.of_snd (.msValidate (.traffic h)) hu)
  · next hu => exact .enterMask (.of_snd (.msValidate (.traffic h)) hu)
  · next hu => exact .forward (.of_snd (.msValidate (.traffic h)) hu)
theorem Canonical.frameBegins {s p data err stamp} (h : Canonical s) :
    Canonical (s.frameBegins p data err stamp) :=
  .when (.setRx h) .forward
theorem Canonical.dmaQueue {s p set data stamp} (h : Canonical s) : Canonical (s.dmaQueue p set data stamp) :=
  h.quiet (by simp)
theorem Canonical.goodEnd {s f} (h : Canonical s) : Canonical (s.goodEnd f) :=
  .forAll (.putFrame h) fun h =>
  have h1 : Canonical _ := .when (.release h) .epOcc
  .ite (have h2 : Canonical _ := .putCopy (.upd h1); .ite (.traffic h2) (.releaseCopy h2)) (.putCopy h1)
theorem Canonical.dropFrame {s f} (h : Canonical s) : Canonical (s.dropFrame f) :=
  .sweepFrames (.forAll (.putFrame h) .dropCopy)
theorem Canonical.meterEnd {s m len} (h : Canonical s) : Canonical (s.meterEnd m len) := h.quiet (by simp)
theorem Canonical.earlyEnd {s p f data err} (h : Canonical s) : Canonical (s.earlyEnd p f data err) := by
  unfold State.earlyEnd
  refine .ite ?_ (.badFrame ?_)
  · split
    · split
      · next hu => exact .goodEnd (.of_snd (.recover h) hu)
      · next hu => exact .dropFrame (.of_snd (.recover h) hu)
    · exact .goodEnd h
  · split
    · exact .ite (.strmCount h) h
    · exact h
theorem Canonical.frameEnd {s p rest err} (h : Canonical s) : Canonical (s.frameEnd p rest err) := by
  unfold State.frameEnd
  dsimp only
  split
  · exact h
  · exact
      have h1 : Canonical _ := .setRx (.shapersSync h)
      .shapersSync (.ite (.frameIn h1) (have h2 : Canonical _ := .meterEnd (.traffic h1); (by split; exacts [h2, .earlyEnd h2])))
theorem Canonical.setDeficit {s p e n} (h : Canonical s) : Canonical (s.setDeficit p e n) := h.quiet (by simp)
/-- The deficit round robin (R108) keeps the form, whatever frame it picks. -/
theorem Canonical.drr {s p l tc fuel f u} (h : Canonical s) (hu : s.drr p l tc fuel = some (f, u)) :
    Canonical u := by
  induction fuel generalizing s with
  | zero => simp [State.drr] at hu
  | succ fuel ih =>
    unfold State.drr at hu
    dsimp only at hu
    split at hu
    · exact ih (.setDeficit (.upd h)) hu
    · split at hu
      · cases hu
        exact .setDeficit (.upd h)
      · exact ih (.setDeficit (.upd h)) hu
theorem Canonical.txDecided {s f n} (h : Canonical s) : Canonical (s.txDecided f n) := by
  unfold State.txDecided
  split
  · exact h
  · exact .ite (.finish h) (.finish (.level (.count h)))
theorem Canonical.injectOne {s p} (h : Canonical s) : Canonical (s.injectOne p) := by
  unfold State.injectOne
  dsimp only
  split
  · exact h
  · split
    · exact h
    · next hu => exact .ite (.txDecided (.traffic (.forward (h.drr hu)))) (.frameIn (h.drr hu))
theorem Canonical.dropOversize {s fuel} (h : Canonical s) : Canonical (s.dropOversize fuel) := by
  induction fuel generalizing s with
  | zero => exact h
  | succ fuel ih =>
    unfold State.dropOversize
    split
    · exact h
    · exact ih (.sweepFrames (.qEvent (.dropCopy h)))
theorem Canonical.matched {s first r} (h : Canonical s) : Canonical (s.matched first r) := by
  unfold State.matched
  split
  · exact h
  · split
    · exact h
    · exact .ite (.sweepFrames (.qEvent (.dropCopy h))) (.when (.upd h) .upd)
theorem Canonical.iterate {s first} (h : Canonical s) : Canonical (s.iterate first) := .forAll h .matched
theorem Canonical.moveCell {s k} (h : Canonical s) : Canonical (s.moveCell k) := by
  unfold State.moveCell
  split
  · exact h
  · split
    · exact h
    · exact .ite (.ite (.ite (.traffic (.upd (.putCopy (.upd h)))) (.releaseCopy (.upd (.putCopy (.upd h))))) (.putCopy (.upd h))) h
theorem Canonical.cellError {s i} (h : Canonical s) : Canonical (s.cellError i) := by
  unfold State.cellError
  split
  · exact h
  · split
    · exact h
    · split
      · exact .badFrame h
      · exact h
theorem Canonical.roundabout {s ecc} (h : Canonical s) : Canonical (s.roundabout ecc) :=
  .shapersSync <|
  .forAll (.forAll (.when (.when (.iterate (.dropOversize (.forAll (.shapersSync (.pass h)) .injectOne))) .iterate) .iterate) .cellError) <|
  .moveCell
theorem Canonical.txStart {s p} (h : Canonical s) : Canonical (s.txStart p) := by
  unfold State.txStart
  split
  · split
    · exact h
    · refine .ite h (.ite ?_ (.shapersSync (.putCopy (.shapersSync h))))
      have hdrop : ∀ {c}, Canonical ((((s.shapersSync.swEvent p 14).dropCopy c).sweepFrames).shapersSync) :=
        .shapersSync (.sweepFrames (.dropCopy (.swEvent (.shapersSync h))))
      dsimp only
      split
      · exact .ite (.shapersSync (.pnLevel (.putCopy (.setTxSa (.shapersSync h))))) hdrop
      · exact hdrop
  · exact h
theorem Canonical.setSent {s p bs bad} (h : Canonical s) : Canonical (s.setSent p bs bad) := h.quiet (by simp)
theorem Canonical.txFinish {s p} (h : Canonical s) : Canonical (s.txFinish p) := by
  unfold State.txFinish
  split
  · exact h
  · refine .ite h ?_
    split
    · exact h
    · extract_lets u bad out len v fcs w x y z q
      have hz : Canonical z := .sweepFrames (.dropCopy (.when (.traffic (.setSent (.reach (.shapersSync h)))) .swEvent))
      refine .shapersSync (.unless hz fun hz => ?_)
      split
      · exact .badFrame hz
      · exact hz
theorem Canonical.ageHeads {s fuel} (h : Canonical s) : Canonical (s.ageHeads fuel) := by
  induction fuel generalizing s with
  | zero => exact h
  | succ fuel ih =>
    unfold State.ageHeads
    split
    · exact h
    · exact ih (.sweepFrames (.qEvent (.dropCopy h)))

/-! ### SwitchPorts -/

theorem Canonical.setLinkUp {s p} (h : Canonical s) : Canonical (s.setLinkUp p) := .upd (.wr (.wr h))
theorem Canonical.rxAbort {s p} (h : Canonical s) : Canonical (s.rxAbort p) := by
  unfold State.rxAbort
  dsimp only
  split
  · exact h
  · exact
      have h1 : Canonical _ := .setRx (.meterEnd (.swLevel (.count h)))
      (by split; exacts [.badFrame h1, h1])
theorem Canonical.linkDown {s p} (h : Canonical s) : Canonical (s.linkDown p) :=
  .ite (.upd h) (.shapersSync (.rxAbort (.upd (.when (.wr (.wr (.shapersSync h))) .wr))))
theorem Canonical.linkRises {s p} (h : Canonical s) : Canonical (s.linkRises p) :=
  .when (.setLinkUp h) fun h => .wr (.wr h)
theorem Canonical.flushEnd {s p} (h : Canonical s) : Canonical (s.flushEnd p) :=
  .ite (.when (.shapersSync (.sweepFrames (.upd (.forAll (.shapersSync h) fun h => .qEvent (.dropCopy h))))) .linkRises) h
theorem Canonical.linkComesUp {s p} (h : Canonical s) : Canonical (s.linkComesUp p) :=
  .ite h (.ite (.upd h) (.linkRises h))
theorem Canonical.innerLinks {s} (h : Canonical s) : Canonical s.innerLinks := .forAll h .linkComesUp
theorem Canonical.rejoin {s p} (h : Canonical s) : Canonical (s.rejoin p) := .ite (.wr (.reach h)) h
theorem Canonical.fdbAge {s mac vid} (h : Canonical s) : Canonical (s.fdbAge mac vid) := h.quiet (by simp)
theorem Canonical.fdbLookup {s} (h : Canonical s) : Canonical s.fdbLookup := by
  unfold State.fdbLookup
  dsimp only
  split
  · exact .wr (.setReg h)
  · exact .wr (.wr (.wr (.setFlag (.wr (.setReg h)))))
theorem Canonical.fdbDelete {s} (h : Canonical s) : Canonical s.fdbDelete := by
  unfold State.fdbDelete
  dsimp only
  split
  · exact .wr h
  · exact .ite (.wr h) (.wr (.setFdb h))
theorem Canonical.fdbFlushPort {s p} (h : Canonical s) : Canonical (s.fdbFlushPort p) := .wr (.setFdb h)
theorem Canonical.fdbFlushAll {s} (h : Canonical s) : Canonical s.fdbFlushAll := .wr (.setFdb h)
theorem Canonical.fdbCmdWrite {s who bytes w} (h : Canonical s) : Canonical (s.fdbCmdWrite who bytes w) := by
  unfold State.fdbCmdWrite
  exact .regWrite h fun h => (by split; exacts [.fdbLookup h, .fdbDelete h, .fdbFlushPort h, .fdbFlushAll h, h])
theorem Canonical.msCtrlWrite {s who bytes m w} (h : Canonical s) : Canonical (s.msCtrlWrite who bytes m w) :=
  .regWrite h .pnLevel

/-! ### VehicleTime -/

theorem Canonical.setAs {s v} (h : Canonical s) : Canonical (s.setAs v) := .wr h
theorem Canonical.setPtp {s x} (h : Canonical s) : Canonical (s.setPtp x) := h.quiet (by simp)
theorem Canonical.setOffset {s o} (h : Canonical s) : Canonical (s.setOffset o) := .wr h
theorem Canonical.setVt {s t} (h : Canonical s) : Canonical (s.setVt t) :=
  .mirrorStep (.forAll (.shapersSync (.upd (.shapersSync h))) .canStep)
theorem Canonical.judgeOffset {s o} (h : Canonical s) : Canonical (s.judgeOffset o) :=
  have h1 : Canonical _ := .setPtp h
  .ite (.setAs h1) (.when h1 .setAs)
theorem Canonical.sync {s gm} (h : Canonical s) : Canonical (s.sync gm) := by
  unfold State.sync
  exact
    have h1 : Canonical _ := .setPtp (.setOffset h)
    .ite (.setPtp (.setAs (.setVt h1))) <|
    .ite (.setAs (.setPtp h1)) (.ite (.setAs (.setPtp (.setVt h1))) (.judgeOffset (.when (.setPtp h1) fun h => .setAs (.setPtp h))))
theorem Canonical.syncTimeout {s} (h : Canonical s) : Canonical s.syncTimeout :=
  .ite h (by split; exacts [h, .setAs (.setPtp (.reach h))])
theorem Canonical.asSend {s p} (h : Canonical s) : Canonical (s.asSend p) :=
  .ite (.traffic (.traffic (.setPtp (.ite h (.reach h))))) h
theorem Canonical.pdelay {s p d} (h : Canonical s) : Canonical (s.pdelay p d) := .ite (.traffic (.setPtp h)) h
theorem Canonical.asCfgWrite {s who bytes p w} (h : Canonical s) : Canonical (s.asCfgWrite who bytes p w) := by
  unfold State.asCfgWrite
  exact .regWrite h fun h => (by split; exacts [.wr (.wr h), .wr (.wr h)])
theorem Canonical.gwySend {s g} (h : Canonical s) : Canonical (s.gwySend g) := by
  unfold State.gwySend
  exact
    have h1 : Canonical _ := .upd h
    by dsimp only; split; exacts [h1, .shapersSync (.forward (.traffic (.shapersSync (.upd h1))))]
theorem Canonical.gwyAdd {s hdl m} (h : Canonical s) : Canonical (s.gwyAdd hdl m) :=
  .when (.upd (by split; exacts [.ite (.gwySend h) h, h])) .gwySend
theorem Canonical.gwyPack {s k w0 w1 data} (h : Canonical s) : Canonical (s.gwyPack k w0 w1 data).2 := by
  unfold State.gwyPack
  split
  · exact h
  · exact .gwyAdd h
theorem Canonical.gwyLevel {s} (h : Canonical s) : Canonical s.gwyLevel := h.quiet (by simp)
theorem Canonical.gwyEvent {s c} (h : Canonical s) : Canonical (s.gwyEvent c) := .gwyLevel (.count h)
theorem Canonical.gwyMessage {s stream m} (h : Canonical s) : Canonical (s.gwyMessage stream m) :=
  .ite (.gwyEvent h) (by dsimp only; split; exacts [.gwyEvent h, .gwyPush h])
theorem Canonical.gwyMessages {s stream bs fuel} (h : Canonical s) : Canonical (s.gwyMessages stream bs fuel) := by
  induction fuel generalizing s bs with
  | zero => exact h
  | succ fuel ih => exact .ite h (.ite h (ih (.gwyMessage h)))
theorem Canonical.gwyReceive {s} (h : Canonical s) : Canonical s.gwyReceive := by
  unfold State.gwyReceive
  split
  · exact h
  · split
    · exact h
    · refine .ite h ?_
      have ht : ∀ {c n}, Canonical (((s.shapersSync.dropCopy c).sweepFrames).traffic 21 2 n) :=
        .traffic (.sweepFrames (.dropCopy (.shapersSync h)))
      exact .ite (.swEvent ht) (.ite (.gwyMessages ht) (.gwyEvent ht))

/-! ### Wake -/

theorem Canonical.wakeLevel {s} (h : Canonical s) : Canonical s.wakeLevel := h.quiet (by simp)
theorem Canonical.boots {s b} (h : Canonical s) : Canonical (s.boots b) := h.quiet (by simp)
theorem Canonical.qualifiedWake {s b} (h : Canonical s) : Canonical (s.qualifiedWake b) := by
  unfold State.qualifiedWake
  exact
    have h1 : Canonical _ := .wakeLevel (.wr h)
    by dsimp only; split; exacts [.when h1 fun h => .wr (.upd h), .unless h1 .boots, .unless h1 .boots, h1]

/-! ### Network -/

theorem Canonical.nmLevels {s} (h : Canonical s) : Canonical s.nmLevels := h.quiet (by simp)
theorem Canonical.medEvent {s m c} (h : Canonical s) : Canonical (s.medEvent m c) := .nmLevels (.count h)
theorem Canonical.setPresent {s m v} (h : Canonical s) : Canonical (s.setPresent m v) := .wr (.wr (.wr h))
theorem Canonical.setReady {s m v} (h : Canonical s) : Canonical (s.setReady m v) := .wr (.wr h)
theorem Canonical.setToken {s m b} (h : Canonical s) : Canonical (s.setToken m b) := .setFlag h
theorem Canonical.setMed {s m v} (h : Canonical s) : Canonical (s.setMed m v) := .wr (.ite (.canReady h) h)
theorem Canonical.medSend {s m next flags start} (h : Canonical s) : Canonical (s.medSend m next flags start) :=
  h.quiet (by simp)
theorem Canonical.sendWake {s m start} (h : Canonical s) : Canonical (s.sendWake m start) := h.quiet (by simp)
theorem Canonical.sendRing {s m} (h : Canonical s) : Canonical (s.sendRing m) := h.quiet (by simp)
theorem Canonical.medStart {s m} (h : Canonical s) : Canonical (s.medStart m) :=
  .sendWake (.setMedium (.setToken (.setMed h)))
theorem Canonical.curfewStart {s m} (h : Canonical s) : Canonical (s.curfewStart m) :=
  .ite (.medStart (.setReady (.setPresent h))) h
theorem Canonical.medStop {s m} (h : Canonical s) : Canonical (s.medStop m) := .setMedium (.setToken h)
theorem Canonical.medOff {s m} (h : Canonical s) : Canonical (s.medOff m) := .setMed (.medStop h)
theorem Canonical.medWait {s m} (h : Canonical s) : Canonical (s.medWait m) := .setMedium (.setMed (.medStop h))
theorem Canonical.tryDropped {s k} (h : Canonical s) : Canonical (s.tryDropped k) := by
  unfold State.tryDropped
  split
  · exact .setCan h
  · dsimp only
    split
    · exact .setCan h
    · refine .ite (.setCan h) (.ite (.txEnd (.setCan h)) (.ite (.txEnd (.setCan h)) ?_))
      split
      · exact .putCmd (.wr (.setCan h))
      · exact .wr (.setCan h)
theorem Canonical.trxSleep {s k} (h : Canonical s) : Canonical (s.trxSleep k) :=
  .ite (.setTrx (.wr (.tryDropped h))) h
theorem Canonical.trxNormal {s k} (h : Canonical s) : Canonical (s.trxNormal k) :=
  .ite (.canReady (.setCan (.setTrx (.wr h)))) h
theorem Canonical.wakePattern {s m} (h : Canonical s) : Canonical (s.wakePattern m) := h.quiet (by simp)
theorem Canonical.mediumWakes {s m} (h : Canonical s) : Canonical (s.mediumWakes m) :=
  .ite h (.ite (.medStart (.trxNormal h)) (.wakePattern (.medStart h)))
theorem Canonical.curfewCommit {s m} (h : Canonical s) : Canonical (s.curfewCommit m) :=
  .ite (.when (.setMed (.medStop (.reach h))) .trxSleep) h
theorem Canonical.duePast {s m} (h : Canonical s) : Canonical (s.duePast m) := .ite (.curfewCommit h) h
theorem Canonical.consentFalls {s r} (h : Canonical s) : Canonical (s.consentFalls r) :=
  .forAll h fun h =>
  have h1 : Canonical _ := .duePast h
  by dsimp only; split; exacts [.medEvent (.sendWake h1), .medEvent (.medStart h1), .mediumWakes (.medEvent h1), h1]
theorem Canonical.localWake {s j} (h : Canonical s) : Canonical (s.localWake j) :=
  .forAll h fun h => .ite (.consentFalls (.wr h)) h
theorem Canonical.curfewFrame {s m source next flags} (h : Canonical s) :
    Canonical (s.curfewFrame m source next flags) := by
  unfold State.curfewFrame
  extract_lets x u src v own
  have hu : Canonical u := by
    unfold u
    split
    · exact .ite (.setMedium h) h
    · exact h
  have hv : Canonical v := .when hu .setMedium
  split
  · exact .ite (.medEvent (.medWait hv)) (.medEvent (.medEvent (.sendWake hv)))
  · exact .ite (.medEvent (.medWait hv)) (.medEvent (.medEvent (.sendWake hv)))
  · exact .setMed hv
  · exact .setMedium hv
  · exact .ite (.ite (.setMedium (.setToken hv)) (.ite (.setMedium (.setToken hv)) hv)) hv
  · exact hv
theorem Canonical.curfewReceived {s m src dlc data} (h : Canonical s) :
    Canonical (s.curfewReceived m src dlc data) :=
  .unless (.duePast h) fun h => .ite (.medEvent h) (.ite (.medEvent h) (.curfewFrame (.setReady (.setPresent h))))
theorem Canonical.ringTimer {s m} (h : Canonical s) : Canonical (s.ringTimer m) := by
  unfold State.ringTimer
  split
  · exact h
  · exact .ite h <|
      have h1 : Canonical _ := .reach h
      .ite (have h2 : Canonical _ := .setMedium h1; .ite (.medSend h2) (.sendRing h2)) (.setMedium (.setToken h1))
theorem Canonical.skipTimeout {s m} (h : Canonical s) : Canonical (s.skipTimeout m) := by
  unfold State.skipTimeout
  split
  · exact h
  · exact .ite h (.medEvent (.sendRing (.setReady (.setPresent (.setMedium (.reach h))))))
theorem Canonical.sendFails {s m} (h : Canonical s) : Canonical (s.sendFails m) := by
  unfold State.sendFails
  dsimp only
  split
  · exact h
  · exact .ite h (have h1 : Canonical _ := .ite h (.reach h); .ite (.medEvent (.setMedium (.setMed (.medStop h1)))) (.setMedium h1))
theorem Canonical.afterSent {s m f} (h : Canonical s) : Canonical (s.afterSent m f) := by
  unfold State.afterSent
  split
  · exact .ite (.setMedium h) h
  · exact .medEvent (.ite (.medWait h) (.medStart h))
  · exact .ite (.medStart h) h
  · exact .ite (.medStart h) h
  · exact .ite (.setMedium h) (.setMedium (.setToken h))
theorem Canonical.frameSent {s m} (h : Canonical s) : Canonical (s.frameSent m) := by
  unfold State.frameSent
  dsimp only
  split
  · exact h
  · exact .ite h (.afterSent (.setMedium (.ite h (.reach h))))
theorem Canonical.limpSend {s m} (h : Canonical s) : Canonical (s.limpSend m) := h.quiet (by simp)
theorem Canonical.ringCtrlWrite {s who bytes r w} (h : Canonical s) :
    Canonical (s.ringCtrlWrite who bytes r w) := by
  unfold State.ringCtrlWrite
  exact .regWrite h fun h => .ite (.consentFalls h) (.ite (.forAll h .setMedium) h)
theorem Canonical.trxFails {s k} (h : Canonical s) : Canonical (s.trxFails k) :=
  .ite (.nmLevels (.wr (.setTrx (.trxSleep (.reach h))))) h
theorem Canonical.trxCtrlWrite {s who bytes k w} (h : Canonical s) : Canonical (s.trxCtrlWrite who bytes k w) := by
  unfold State.trxCtrlWrite
  exact .regWrite h fun h => .nmLevels (.ite h (.ite (.trxSleep h) (.trxNormal h)))
theorem Canonical.swkWrite {s who bytes k a w} (h : Canonical s) : Canonical (s.swkWrite who bytes k a w) :=
  .regWrite h id
theorem Canonical.canWakes {s k how} (h : Canonical s) : Canonical (s.canWakes k how) :=
  .ite (.when (.qualifiedWake h) fun h => .ite (.mediumWakes h) (.trxNormal h)) h
theorem Canonical.swkFrame {s k err} (h : Canonical s) : Canonical (s.swkFrame k err) := h.quiet (by simp)
theorem Canonical.t1sWakes {s k} (h : Canonical s) : Canonical (s.t1sWakes k) :=
  .ite (.when (.qualifiedWake h) .mediumWakes) h
theorem Canonical.ttReference {s k w0 data ago} (h : Canonical s) : Canonical (s.ttReference k w0 data ago) :=
  .ite (.wr (.wr (.setCan h))) h
theorem Canonical.canReceive {s k w0 w1 data ago} (h : Canonical s) : Canonical (s.canReceive k w0 w1 data ago) :=
  .ite h <|
  have h1 : Canonical _ := .when (.canEvent h) .recDown
  have h2 : Canonical _ := (by split; exacts [.canRxComplete (.bufReceive h1), h1])
  .canErrState (.canFreeIn (.ttReference (.ite (.canEvent (.gwyPack h2)) (.gwyPack h2))))
theorem Canonical.canModeChange {s k} (h : Canonical s) : Canonical (s.canModeChange k) :=
  have h1 : Canonical _ := .canModeTakes h
  .ite (.curfewStart h1) (.when h1 .medOff)
theorem Canonical.setEth {s p v} (h : Canonical s) : Canonical (s.setEth p v) := .wr h
theorem Canonical.ethResult {s p c} (h : Canonical s) : Canonical (s.ethResult p c) := .wr h
theorem Canonical.ethStamp {s p} (h : Canonical s) : Canonical (s.ethStamp p) := h.quiet (by simp)
theorem Canonical.ethWakes {s p} (h : Canonical s) : Canonical (s.ethWakes p) := .ite (.ethStamp (.setEth h)) h
theorem Canonical.ethTakes {s q} (h : Canonical s) : Canonical (s.ethTakes q) := .ite (.upd h) (.ethWakes h)
theorem Canonical.ethForward {s p} (h : Canonical s) : Canonical (s.ethForward p) := .forAll h .ethTakes
theorem Canonical.ethCtrlWrite {s who bytes p w} (h : Canonical s) : Canonical (s.ethCtrlWrite who bytes p w) := by
  unfold State.ethCtrlWrite
  exact .regWrite h fun h =>
    by
      split
      · exact .ethStamp (.ethResult (.setEth h))
      · exact .ite (.ethResult (.setEth h)) (.ite (.ethForward (.ethResult (.ethWakes h))) h)
      · exact h
theorem Canonical.ethEnters {s p} (h : Canonical s) : Canonical (s.ethEnters p) :=
  .ite (.linkDown (.setEth (.ite (.ethResult h) h))) h
theorem Canonical.ethRefused {s p} (h : Canonical s) : Canonical (s.ethRefused p) :=
  .ite (.setEth (.when (.reach h) .ethResult)) h
theorem Canonical.ethDetected {s p} (h : Canonical s) : Canonical (s.ethDetected p) :=
  .ite (.ethForward (.ethWakes (.level (.wr h)))) h

/-! ### Layby -/

theorem Canonical.laybyAll {s cause} (h : Canonical s) : Canonical (s.laybyAll cause) :=
  .pinsToLayby (.channelsToLayby h)
theorem Canonical.laybyDistrict {s cause d} (h : Canonical s) : Canonical (s.laybyDistrict cause d) :=
  .pinsToLayby (.channelsToLayby h)
theorem Canonical.laybyPair {s p} (h : Canonical s) : Canonical (s.laybyPair p) :=
  .pinsToLayby (.channelsToLayby h)
theorem Canonical.laybyRestart {s d} (h : Canonical s) : Canonical (s.laybyRestart d) :=
  .pinsToLayby (.channelsToLayby h)
theorem Canonical.laybyOp {s op d} (h : Canonical s) : Canonical (s.laybyOp op d) := by
  unfold State.laybyOp
  split
  · exact .wr (.laybyDistrict h)
  · exact .wr (.laybyAll h)
  · exact .pinsRelease (.releaseLayby h)
  · exact .pinsRelease (.releaseLayby h)
  · exact h
theorem Canonical.laybyCtrlWrite {s who bytes w} (h : Canonical s) : Canonical (s.laybyCtrlWrite who bytes w) :=
  .regWrite h .laybyOp
theorem Canonical.pwrUp {s ambient pElec} (h : Canonical s) : Canonical (s.pwrUp ambient pElec) :=
  .ite (.when (.kerbUp h) .laybyAll) h

/-! ### MirrorDisplay -/

theorem Canonical.endCmd {s id_ code detail} (h : Canonical s) : Canonical (s.endCmd id_ code detail) := by
  unfold State.endCmd
  split
  · exact .complete h
  · exact h
theorem Canonical.endReq {s id_ code} (h : Canonical s) : Canonical (s.endReq id_ code) := by
  unfold State.endReq
  split
  · exact .endCmd h
  · exact h
theorem Canonical.panCommit {s i start} (h : Canonical s) : Canonical (s.panCommit i start) := by
  unfold State.panCommit
  dsimp only
  split
  · exact .ite (.endCmd (.wr (.setView h))) (.endCmd (.wr (.setView h)))
  · exact .wr (.setView h)
theorem Canonical.swapCommit {s i} (h : Canonical s) : Canonical (s.swapCommit i) := by
  unfold State.swapCommit
  dsimp only
  split
  · exact .ite (.endCmd (.wr (.setFlag (.setView h)))) h
  · exact h
theorem Canonical.tapCommit {s i k} (h : Canonical s) : Canonical (s.tapCommit i k) := by
  unfold State.tapCommit
  dsimp only
  split
  · exact .ite (.endReq (.setFlag (.setFlag (.setView h)))) h
  · exact h
theorem Canonical.ovlCommit {s j} (h : Canonical s) : Canonical (s.ovlCommit j) := by
  unfold State.ovlCommit
  dsimp only
  split
  · exact .endReq (.wr (.setReg (.setPlane h)))
  · exact h
theorem Canonical.ovlHeader {s j} (h : Canonical s) : Canonical (s.ovlHeader j) :=
  .ite (.setPlane h) <|
  .ite (.dspEvent (.setPlane (.shopFetch h))) (.ite (.setPlane (.shopFetch h)) (.loadFail (.setPlane (.shopFetch h))))
theorem Canonical.sendSlice {s d} (h : Canonical s) : Canonical (s.sendSlice d) := h.quiet (by simp)
theorem Canonical.finishFrame {s d} (h : Canonical s) : Canonical (s.finishFrame d) := by
  unfold State.finishFrame
  dsimp only
  split
  · exact h
  · exact .ite h (.wr (.wr (.setDsp (.sendSlice h))))
theorem Canonical.faultBoundary {s c} (h : Canonical s) : Canonical (s.faultBoundary c) :=
  .when (.ite (.integEvent (.setCam h)) h) .wr
theorem Canonical.setViewSt {s i v} (h : Canonical s) : Canonical (s.setViewSt i v) := .wr h
theorem Canonical.viewBoundary {s i} (h : Canonical s) : Canonical (s.viewBoundary i) :=
  .ite (.setViewSt h) (.ite (.setViewSt h) h)
theorem Canonical.setAbsent {s absent} (h : Canonical s) : Canonical (s.setAbsent absent) :=
  .forAll (.setFlag (.upd h)) fun h => .dspLevel (.setFlag h)
theorem Canonical.forceBoundary {s d} (h : Canonical s) : Canonical (s.forceBoundary d) :=
  .dspLevel (.setFlag (.wr (.setDsp (.ite (.setAbsent h) h))))
theorem Canonical.frameBegin {s d} (h : Canonical s) : Canonical (s.frameBegin d) :=
  .ite h <|
  .forAll (.forAll (.forAll (.forAll (.forceBoundary (.wr (.wr (.setDsp (.finishFrame (.reachVt h)))))) .faultBoundary) .viewBoundary) <|
      fun h => .tapCommit (.panCommit (.swapCommit h))) fun h =>
  .ovlHeader (.ovlCommit h)
theorem Canonical.ageDecision {s i} (h : Canonical s) : Canonical (s.ageDecision i) :=
  .unless (.unless (.setView h) .integEvent) .setViewSt
theorem Canonical.fillView {s i} (h : Canonical s) : Canonical (s.fillView i) := h.quiet (by simp)
theorem Canonical.slicePart {s i k a b} (h : Canonical s) : Canonical (s.slicePart i k a b) :=
  .when (.when (.when (.when (.setDsp h) .viewEvent) fun h => .viewEvent (.setDsp h)) .integEvent) .fillView
theorem Canonical.sliceView {s i k fin} (h : Canonical s) : Canonical (s.sliceView i k fin) := by
  unfold State.sliceView
  split
  · exact h
  · exact
      have h1 : Canonical _ := .ite (.ageDecision h) h
      .ite (.fillView h1) (.setDsp (.slicePart h1))
theorem Canonical.tapLines {s i room lines} (h : Canonical s) : Canonical (s.tapLines i room lines).1 := by
  induction lines generalizing s room with
  | nil => exact h
  | cons l rest ih =>
    unfold State.tapLines
    split
    · exact h
    · exact .ite_fst (ih (.viewEvent h)) (ih (.shapersSync (.forward (.setView h))))
theorem Canonical.tapViews {s k room views} (h : Canonical s) : Canonical (s.tapViews k room views) := by
  induction views generalizing s room with
  | nil => exact h
  | cons i rest ih =>
    unfold State.tapViews
    split
    · exact .ite (ih (.tapLines h)) (ih h)
    · exact ih h
theorem Canonical.ovlCounts {s d k late} (h : Canonical s) : Canonical (s.ovlCounts d k late) :=
  .forAll h fun h => (have h1 : Canonical _ := .ite h (.shopFetch h); by dsimp only; split; exacts [.dspEvent h1, .dspEvent h1, h1])
theorem Canonical.sliceCompute {s d late room} (h : Canonical s) : Canonical (s.sliceCompute d late room) := by
  unfold State.sliceCompute
  dsimp only
  split
  · exact h
  · exact .ite h (.when (.setDsp (.ovlCounts (.forAll (.setDsp (.sendSlice (.reachVt h))) .sliceView))) .tapViews)
theorem Canonical.escalate {s d} (h : Canonical s) : Canonical (s.escalate d) := h.quiet (by simp)
theorem Canonical.outcome {s d k out} (h : Canonical s) : Canonical (s.outcome d k out) :=
  have h1 : Canonical _ := .wr (.wr h)
  .escalate (.ite (.wr (.wr h1)) (.wr (.wr (.ite (.integEvent h1) (.integEvent h1)))))
theorem Canonical.drainOutcomes {s d l} (h : Canonical s) : Canonical (s.drainOutcomes d l) := by
  induction l generalizing s with
  | nil => exact .setDsp h
  | cons w rest ih => exact .ite (.setDsp h) (ih (.outcome h))
theorem Canonical.settle {s d k out} (h : Canonical s) : Canonical (s.settle d k out) := .drainOutcomes h
theorem Canonical.echo {s d frame crc flags resv} (h : Canonical s) :
    Canonical (s.echo d frame crc flags resv) := by
  unfold State.echo
  dsimp only
  split
  · exact .integEvent h
  · exact .ite (.integEvent h) <|
      .ite (.integEvent h) <|
      have h1 : Canonical _ := .ite (.finishFrame h) h
      (by split; exacts [.integEvent h1, .ite (.integEvent h1) (.settle h1)])
theorem Canonical.echoMissing {s d} (h : Canonical s) : Canonical (s.echoMissing d) := by
  unfold State.echoMissing
  split
  · exact .ite (.settle (.reachVt h)) h
  · exact h
theorem Canonical.integStateWrite {s who bytes d w} (h : Canonical s) :
    Canonical (s.integStateWrite who bytes d w) := by
  unfold State.integStateWrite
  exact .regWrite h fun h => .ite (.setDsp h) h
theorem Canonical.dspLink {s d up} (h : Canonical s) : Canonical (s.dspLink d up) := .ite (.setFlag h) h
theorem Canonical.heartbeatWrite {s who bytes w} (h : Canonical s) : Canonical (s.heartbeatWrite who bytes w) := by
  unfold State.heartbeatWrite
  exact .regWrite h .upd
theorem Canonical.monitorAbsent {s} (h : Canonical s) : Canonical s.monitorAbsent := .ite (.setAbsent (.reach h)) h

/-! ### MirrorViews -/

theorem Canonical.waits {s c} (h : Canonical s) : Canonical (s.waits c) := h.quiet (by simp)
theorem Canonical.superseded {s id_} (h : Canonical s) : Canonical (s.superseded id_) := .endReq h
theorem Canonical.runPan {s c} (h : Canonical s) : Canonical (s.runPan c) :=
  .ite (.finish h) (.waits (.setView (.superseded (.ite h (.viewEvent h)))))
theorem Canonical.runMapSwap {s c} (h : Canonical s) : Canonical (s.runMapSwap c) :=
  .ite (.finish h) (.ite (.finish h) (.waits (.wr (.setView h))))
theorem Canonical.swapFails {s i r code detail} (h : Canonical s) : Canonical (s.swapFails i r code detail) :=
  .endCmd (.wr (.setView h))
theorem Canonical.swapFetched {s i} (h : Canonical s) : Canonical (s.swapFetched i) := by
  unfold State.swapFetched
  dsimp only
  split
  · exact h
  · exact .ite h <|
      .ite (.swapFails (by split; exacts [h, .shopFetch h])) <|
      (by split; exacts [.swapFails (.loadFail (by split; exacts [h, .shopFetch h])), .setView (by split; exacts [h, .shopFetch h])])
theorem Canonical.ovlRequest {s j id_ addr} (h : Canonical s) : Canonical (s.ovlRequest j id_ addr) :=
  .setPlane (by split; exacts [.superseded h, h])
theorem Canonical.runOvlSet {s c} (h : Canonical s) : Canonical (s.runOvlSet c) :=
  .ite (.finish h) <|
  .ite (.ovlRequest (.waits h)) <|
  .ite (.finish (.shopFetch h)) <|
  .ite (.finish (.loadFail (.shopFetch h))) (.ite (.finish (.shopFetch h)) (.ovlRequest (.waits (.shopFetch h))))
theorem Canonical.tapRequest {s i id_ on} (h : Canonical s) : Canonical (s.tapRequest i id_ on) :=
  .setView (by split; exacts [.superseded h, h])
theorem Canonical.runTap {s c} (h : Canonical s) : Canonical (s.runTap c) :=
  .ite (.finish h) (.tapRequest (.waits h))
theorem Canonical.viewTakes {s ep tag op} {run : State → Cmd → State} (h : Canonical s)
    (hrun : ∀ {u x}, Canonical u → Canonical (run u x)) :
    Canonical (s.viewTakes ep tag op run) := by
  unfold State.viewTakes
  split
  · exact hrun h
  · exact h
theorem Canonical.viewCancel {s c} (h : Canonical s) : Canonical (s.viewCancel c) := by
  unfold State.viewCancel
  split
  · exact .setView h
  · exact .wr (.setView h)
  · exact .ite (.setPlane h) h
  · exact .ite (.setView h) h
  · exact h
theorem Canonical.ovlLoWrite {s who bytes j w} (h : Canonical s) : Canonical (s.ovlLoWrite who bytes j w) := by
  unfold State.ovlLoWrite
  exact .regWrite h fun h => .ovlRequest (.setReg h)
theorem Canonical.ovlHiWrite {s who bytes j w} (h : Canonical s) : Canonical (s.ovlHiWrite who bytes j w) := by
  unfold State.ovlHiWrite
  exact .regWrite h fun h => .setPlane (.setReg h)
theorem Canonical.tapCfgWrite {s who bytes i w} (h : Canonical s) : Canonical (s.tapCfgWrite who bytes i w) := by
  unfold State.tapCfgWrite
  exact .regWrite h fun h => .tapRequest (.setFlag h)
theorem Canonical.streamSelWrite {s who bytes w} (h : Canonical s) : Canonical (s.streamSelWrite who bytes w) :=
  .regWrite h .wr
theorem Canonical.mirrorDown {s} (h : Canonical s) : Canonical s.mirrorDown := by
  unfold State.mirrorDown
  exact .forAll (.forAll (.sfLevel <| .forAll (.forAll (.upd <| .forAll (.filterRegs <| .forAll h .finish)
    (fun h => .wr (.wr (.wr h)))) .setPlane) (fun h => .wr (.setDsp h))) .camLevel) .dspLevel
theorem Canonical.mirrorUp {s} (h : Canonical s) : Canonical s.mirrorUp :=
  .forAll (.forAll (.forAll (.forAll (.upd h) fun h => .ite (.setPoc h) h) .setFlag) fun h => .ite (.camStart h) h) .viewBoundary

/-! ### LastWords -/

theorem Canonical.lastWords {s trigger feedA feedB time} (h : Canonical s) :
    Canonical (s.lastWords trigger feedA feedB time) :=
  h.quiet (by simp)

/-! ### Cellar -/

theorem Canonical.setSlot {s n k} (h : Canonical s) : Canonical (s.setSlot n k) := h.quiet (by simp)
theorem Canonical.ksLevels {s} (h : Canonical s) : Canonical s.ksLevels := h.quiet (by simp)
theorem Canonical.ksCount {s c} (h : Canonical s) : Canonical (s.ksCount c) := .count h
theorem Canonical.turnBad {s n} (h : Canonical s) : Canonical (s.turnBad n) :=
  .ksLevels (.ksCount (.wr (.wr (.setSlot h))))
theorem Canonical.loadSlot {s n} (h : Canonical s) : Canonical (s.loadSlot n) :=
  .ite h (by split; exacts [.ite (.setSlot h) (.turnBad h), .ite (.turnBad h) (.setSlot h)])
theorem Canonical.loadSlots {s} (h : Canonical s) : Canonical s.loadSlots := .forAll h .loadSlot
theorem Canonical.wipeSlots {s} (h : Canonical s) : Canonical s.wipeSlots := h.quiet (by simp)
theorem Canonical.program {s a bs} (h : Canonical s) : Canonical (s.program a bs) := .store (.clearMem h)
theorem Canonical.renewChallenge {s} (h : Canonical s) : Canonical s.renewChallenge :=
  .forAll h fun h => .draw (.setReg h)
theorem Canonical.dropKeyOp {s e tag} (h : Canonical s) : Canonical (s.dropKeyOp e tag) := h.quiet (by simp)
theorem Canonical.putKeyOp {s x} (h : Canonical s) : Canonical (s.putKeyOp x) := h.quiet (by simp)
theorem Canonical.startKeyOp {s k c} (h : Canonical s) : Canonical (s.startKeyOp k c) :=
  .ite (.finish (.dropKeyOp h)) <|
  by
    split
    · exact .putKeyOp h
    · exact have h1 : Canonical _ := .readEcc (.readEcc h)
      .ite (.finish (.dropKeyOp h1)) (.putKeyOp (.program (.draw h1)))
theorem Canonical.startKeys {s fuel} (h : Canonical s) : Canonical (s.startKeys fuel) := by
  induction fuel generalizing s with
  | zero => exact h
  | succ fuel ih =>
    unfold State.startKeys
    split
    · exact h
    · split
      · exact ih (.startKeyOp h)
      · exact ih (.dropKeyOp h)
theorem Canonical.startAllKeys {s} (h : Canonical s) : Canonical s.startAllKeys := .startKeys h
theorem Canonical.keyTakes {s ep tag op} (h : Canonical s) : Canonical (s.keyTakes ep tag op) := by
  unfold State.keyTakes
  split
  · exact h
  · exact .ite (.finish h) (.startAllKeys (.upd (.putCmd h)))
theorem Canonical.keyCancel {s c} (h : Canonical s) : Canonical (s.keyCancel c) := .startAllKeys (.dropKeyOp h)
theorem Canonical.keyEnd {s c code detail} (h : Canonical s) : Canonical (s.keyEnd c code detail) :=
  .startAllKeys (.complete (.dropKeyOp h))
theorem Canonical.unlocked {s} (h : Canonical s) : Canonical s.unlocked :=
  .wr (.wr (.loadSlots (.upd (.clearMem h))))
theorem Canonical.unlockOp {s c token} (h : Canonical s) : Canonical (s.unlockOp c token) :=
  .ite (.keyEnd (.renewChallenge (.unlocked h))) (.keyEnd (.renewChallenge (.ksLevels (.ksCount h))))
theorem Canonical.keyResult {s k c} (h : Canonical s) : Canonical (s.keyResult k c) :=
  have h1 : Canonical _ := .readEcc (.readEcc h)
  .ite (.keyEnd h1) <|
  by
    split
    · exact .keyEnd (.store h1)
    · exact .keyEnd (.store h1)
    · exact .keyEnd (.store h1)
    · exact .keyEnd h1
    · exact .keyEnd (.store (.draw h1))
    · exact .keyEnd h1
    · exact .keyEnd (.store h1)
    · exact .keyEnd (.store (.upd h1))
    · exact .unlockOp h1
    · exact h1
theorem Canonical.replaceCommit {s k c n bad} (h : Canonical s) : Canonical (s.replaceCommit k c n bad) :=
  .ite (.keyEnd h) (.keyEnd (.setSlot (.store h)))

/-! ### Tamper -/

theorem Canonical.tamperNote {s mask full phase time} (h : Canonical s) :
    Canonical (s.tamperNote mask full phase time) :=
  .ksLevels (.when (.when (.ksCount (.wr (.unless (.wr h) fun h => .setReg (.setReg (.wr h))))) .wr) fun h => .renewChallenge (.upd h))
theorem Canonical.tamperAborts {s} (h : Canonical s) : Canonical s.tamperAborts :=
  .ksLevels (.forAll (.forAll (.upd h) fun h => .ksCount (.finish h)) fun h => (by split; exacts [.ite (.ksCount (.upd h)) h, h]))
theorem Canonical.tamperWrite {s} (h : Canonical s) : Canonical s.tamperWrite := .ite (.upd (.program h)) h
theorem Canonical.tamperHalt {s src} (h : Canonical s) : Canonical (s.tamperHalt src) := by
  unfold State.tamperHalt
  exact .lastWords (.tamperWrite (.wr (.wipeSlots (.tamperNote h))))
theorem Canonical.tamperEvent {s src} (h : Canonical s) : Canonical (s.tamperEvent src) := by
  unfold State.tamperEvent
  exact
    have h1 : Canonical _ := .tamperAborts h
    .ite (.tamperNote h1) (.when (.tamperNote h1) fun h => .loadSlot (.wr (.wipeSlots h)))
theorem Canonical.sleepTamper {s src} (h : Canonical s) : Canonical (s.sleepTamper src) :=
  .when (.upd h) .qualifiedWake
theorem Canonical.ksSleep {s} (h : Canonical s) : Canonical s.ksSleep := h.quiet (by simp)
theorem Canonical.ksDown {s} (h : Canonical s) : Canonical s.ksDown := h.quiet (by simp)
theorem Canonical.provLockWrite {s who bytes w} (h : Canonical s) : Canonical (s.provLockWrite who bytes w) :=
  .regWrite h fun h => .upd (.wr h)
theorem Canonical.csBurn {s st} (h : Canonical s) : Canonical (s.csBurn st) := h.quiet (by simp)
theorem Canonical.cornerstoneBoot {s gen} (h : Canonical s) : Canonical (s.cornerstoneBoot gen) :=
  .ite (.setFlag h) (.ite (.setFlag h) (.ite (.wr h) (by split; exacts [.wr (.setFlag (.csBurn h)), .wr (.csBurn h)])))
theorem Canonical.ksStart {s gen} (h : Canonical s) : Canonical (s.ksStart gen) :=
  .renewChallenge (.cornerstoneBoot (.wr (.setFlag (.setFlag h))))
theorem Canonical.ksPending {s} (h : Canonical s) : Canonical s.ksPending :=
  .ksLevels (.upd (.when (.when (by split; exacts [.setReg (.setReg (.setReg h)), h]) .tamperNote) .tamperNote))
theorem Canonical.ksLoad {s} (h : Canonical s) : Canonical s.ksLoad :=
  .ite (.upd h) (have h1 : Canonical _ := .ksPending h; .ite (.loadSlot (.wr (.wipeSlots h1))) (.wr (.loadSlots h1)))
theorem Canonical.saLoadStart {s m w} (h : Canonical s) : Canonical (s.saLoadStart m w) := .wr (.upd h)
theorem Canonical.saLoadWrite {s who bytes m w} (h : Canonical s) : Canonical (s.saLoadWrite who bytes m w) :=
  .regWrite h .saLoadStart

/-! ### Doorbells -/

theorem Canonical.epLevels {s} (h : Canonical s) : Canonical s.epLevels := h.quiet (by simp)
theorem Canonical.epCount {s c} (h : Canonical s) : Canonical (s.epCount c) := .epLevels (.count h)
theorem Canonical.seat {s e k} (h : Canonical s) : Canonical (s.seat e k) := .epCount (.upd (.setEp h))
theorem Canonical.unseat {s e} (h : Canonical s) : Canonical (s.unseat e) := h.quiet (by simp)
theorem Canonical.pageWait {s} (h : Canonical s) : Canonical s.pageWait := .forAll (.upd h) .epCount
theorem Canonical.pageIn {s e} (h : Canonical s) : Canonical (s.pageIn e) :=
  .ite (.upd h) (by split; exacts [.seat (.upd h), (by split; exacts [.seat (.upd (.unseat h)), .pageWait h])])
theorem Canonical.servePage {s} (h : Canonical s) : Canonical s.servePage := by
  unfold State.servePage
  split
  · exact .pageIn h
  · exact h
theorem Canonical.resident {s e} (h : Canonical s) : Canonical (s.resident e) :=
  .unless (.needPage h) fun h => .forAll h .servePage
theorem Canonical.dbRefuse {s who e off code write r} (h : Canonical s) :
    Canonical (s.dbRefuse who e off code write r) :=
  .upd (.reject h)
theorem Canonical.dbSqWrite {s who e w} (h : Canonical s) : Canonical (s.dbSqWrite who e w) :=
  .ite h (.ite (.dbRefuse h) (.ite (.dbRefuse h) (.needPage (.setEp h))))
theorem Canonical.dbCqWrite {s who e w} (h : Canonical s) : Canonical (s.dbCqWrite who e w) :=
  .ite h (.ite (.dbRefuse h) (.setEp h))
theorem Canonical.takeHead {s e} (h : Canonical s) : Canonical (s.takeHead e) := h.quiet (by simp)
theorem Canonical.fetchOne {s e} (h : Canonical s) : Canonical (s.fetchOne e) :=
  have h1 : Canonical _ := .touch (.takeHead (.readEcc h))
  .ite (.record h1) (.ite (.record h1) (.ite (.record h1) (.upd h1)))
theorem Canonical.fetchTo {s e tail fuel} (h : Canonical s) : Canonical (s.fetchTo e tail fuel) := by
  induction fuel generalizing s with
  | zero => exact h
  | succ fuel ih => exact .ite (ih (.fetchOne h)) h
theorem Canonical.runTimed {s c} (h : Canonical s) : Canonical (s.runTimed c) := by
  unfold State.runTimed
  split
  · exact .canTxDue h
  · exact .ite (.runPwr h) h
  · exact .runPin h
  · exact h
theorem Canonical.timedExecute {s c} (h : Canonical s) : Canonical (s.timedExecute c) :=
  .ite (.runTimed (.reachVt h)) (.ite (.runTimed (.putCmd h)) (.finish h))
theorem Canonical.targetCancel {s c} (h : Canonical s) : Canonical (s.targetCancel c) :=
  .ite h (by split; exacts [.upd h, .ite (.setLin h) h, .keyCancel h, .viewCancel h, h])
theorem Canonical.abortCmd {s c} (h : Canonical s) : Canonical (s.abortCmd c).1 := by
  unfold State.abortCmd
  dsimp only
  split
  · exact .putCmd h
  · split
    · exact
        have h1 : Canonical _ := .txAbort (.putCmd h)
        (by split; exacts [h1, h1])
    · exact .finish (.targetCancel h)
theorem Canonical.dbAbortWrite {s who e w} (h : Canonical s) : Canonical (s.dbAbortWrite who e w) :=
  .ite (.dbRefuse h) (.fetchTo (.needPage (.setEp h)))
theorem Canonical.abortDecide {s e} (h : Canonical s) : Canonical (s.abortDecide e) := by
  unfold State.abortDecide
  exact
    have h1 : Canonical _ := .fetchTo h
    by dsimp only; split; exacts [.setEp h1, .setEp (.abortCmd h1)]
theorem Canonical.mbRing {s who} (h : Canonical s) : Canonical (s.mbRing who) := .setNotice (.upd (.setReg h))
theorem Canonical.dbEffect {s who e off w} (h : Canonical s) : Canonical (s.dbEffect who e off w) := by
  unfold State.dbEffect
  split
  · exact .dbSqWrite h
  · exact .dbCqWrite h
  · exact .dbAbortWrite h
  · exact .ite (.dbRefuse h) (.ite (.clearNotice h) h)
  · exact .setEp h
  · exact .mbRing h
  · exact .setReg h
  · exact .setReg h
  · exact .dbRefuse h
theorem Canonical.dbWrite {s who bytes e off w} (h : Canonical s) : Canonical (s.dbWrite who bytes e off w) :=
  .ite h <|
  .ite (.gatedStore h) <|
  .ite h (.ite (.dbRefuse (.coreFault h)) (.ite (.dbRefuse h) (.ite (.dbRefuse h) (.ite (.dbRefuse h) (.dbEffect (.upd h))))))
theorem Canonical.dbRead {s who bytes e off} (h : Canonical s) : Canonical (s.dbRead who bytes e off) :=
  .ite h (.ite (.dbRefuse (.coreFault h)) (.ite (.dbRefuse h) (.ite (.upd h) (.ite (.dbRefuse h) (.upd h)))))

/-! ### Endpoints -/

theorem Canonical.stage {s bs} (h : Canonical s) : Canonical (s.stage bs) := .forAll h .setReg
theorem Canonical.setResult {s payload} (h : Canonical s) : Canonical (s.setResult payload) := .forAll h .setReg
theorem Canonical.respond {s d seq msg code no payload} (h : Canonical s) :
    Canonical (s.respond d seq msg code no payload) :=
  .upd (.store (.store h))
theorem Canonical.opEnd {s o code no payload} (h : Canonical s) : Canonical (s.opEnd o code no payload) :=
  .when (.setResult (.wr (.upd h))) .respond
theorem Canonical.setPools {s credits timers cells can} (h : Canonical s) :
    Canonical (s.setPools credits timers cells can) :=
  .wr (.wr (.wr (.wr h)))
theorem Canonical.createEp {s d e} (h : Canonical s) : Canonical (s.createEp d e) := by
  unfold State.createEp
  exact
    have h1 : Canonical _ := .setEp (.setPools h)
    by dsimp only; split; exacts [.setChan h1, .unless h1 .setPin, h1]
theorem Canonical.runCreate {s o} (h : Canonical s) : Canonical (s.runCreate o) := by
  unfold State.runCreate
  exact .ite (.opEnd h) (.opEnd (.createEp h))
theorem Canonical.trimCells {s e share fuel} (h : Canonical s) : Canonical (s.trimCells e share fuel).1 := by
  induction fuel generalizing s with
  | zero => exact h
  | succ fuel ih =>
    unfold State.trimCells
    split
    · exact h
    · split
      · exact h
      · exact ih (.sweepFrames (.dropCopy h))
theorem Canonical.trimCredits {s l} (h : Canonical s) : Canonical (s.trimCredits l).1 := by
  induction l generalizing s with
  | nil => exact h
  | cons c rest ih => exact ih (.abortCmd h)
theorem Canonical.trim {s e kind share} (h : Canonical s) : Canonical (s.trim e kind share).1 := by
  unfold State.trim
  dsimp only
  exact .setEp (by split; exacts [.trimCredits h, (by split; exacts [.trimCells h, h])])
theorem Canonical.runResize {s o} (h : Canonical s) : Canonical (s.runResize o) := by
  unfold State.runResize
  have hr : ∀ {e x}, Canonical ((s.setEp e x).needPage e) := .needPage (.setEp h)
  have ht : ∀ {u : State} {e kind new}, Canonical u → Canonical (if o.trim = true then u.trim e kind new else (u, 0)).1 :=
    fun hu => .ite_fst (.trim hu) hu
  exact .ite (.opEnd h) <| .ite (.opEnd hr) <| .ite (.opEnd (.ite (.wr hr) (.wr hr))) <|
    .ite (.opEnd (.freeToPool (ht hr))) (.setResult (.wr (.upd (.setEp (ht hr)))))
theorem Canonical.answerResize {s e z} (h : Canonical s) : Canonical (s.answerResize e z) := by
  unfold State.answerResize
  exact
    have h1 : Canonical _ := .upd h
    by dsimp only; split; exacts [.respond h1, h1]
theorem Canonical.resizeComplete {s e} (h : Canonical s) : Canonical (s.resizeComplete e) := by
  unfold State.resizeComplete
  dsimp only
  split
  · exact h
  · exact .ite (.answerResize (.epLevels (.freeToPool (.wr (.setEp h))))) h
theorem Canonical.destroyQueues {s e} (h : Canonical s) : Canonical (s.destroyQueues e) := by
  unfold State.destroyQueues
  exact
    have h1 : Canonical _ := .upd (.sweepFrames (.forAll h .dropCopy))
    by dsimp only; split; exacts [.answerResize (.freeToPool (.setEp h1)), h1]
theorem Canonical.destroyCommit {s e} (h : Canonical s) : Canonical (s.destroyCommit e) :=
  .destroyQueues (.forAll (.setEp (.fetchTo h)) .abortCmd)
theorem Canonical.destroyEnd {s e} (h : Canonical s) : Canonical (s.destroyEnd e) :=
  .setEp (.upd (.when (.setPools h) .wr))
theorem Canonical.runDestroy {s o} (h : Canonical s) : Canonical (s.runDestroy o) := by
  unfold State.runDestroy
  exact .ite (.opEnd h) (.unless (.resident h) fun h => .upd (.destroyCommit h))
theorem Canonical.destroyResponse {s e} (h : Canonical s) : Canonical (s.destroyResponse e) :=
  .ite (have h1 : Canonical _ := .destroyEnd h; (by split; exacts [.when h1 .opEnd, h1])) h
theorem Canonical.runQuery {s o} (h : Canonical s) : Canonical (s.runQuery o) :=
  .ite (.opEnd h) (.opEnd (.ite h (.needPage h)))
theorem Canonical.runPinResident {s o} (h : Canonical s) : Canonical (s.runPinResident o) :=
  .ite (.opEnd h) <|
  .ite (.opEnd h) <|
  .ite (.opEnd h) <|
  .ite (.opEnd h) (.ite (.opEnd (.wr (.setEp h))) (.ite (.opEnd h) (.unless (.resident h) fun h => .opEnd (.wr (.setEp h)))))
theorem Canonical.runOp {s msg} (h : Canonical s) : Canonical (s.runOp msg) := by
  unfold State.runOp
  split
  · exact h
  · exact .ite h (by split; exacts [.runCreate h, .runDestroy h, .runResize h, .runQuery h, .runPinResident h, h])
theorem Canonical.epCmdWrite {s who bytes w} (h : Canonical s) : Canonical (s.epCmdWrite who bytes w) := by
  unfold State.epCmdWrite
  exact .regWrite h fun h => .ite h (.upd (.wr h))
theorem Canonical.mailRun {s d seq msg no trim} (h : Canonical s) : Canonical (s.mailRun d seq msg no trim) :=
  .ite (.respond h) (.runOp (.upd (.wr (.setFlag (.wr h)))))
theorem Canonical.mailJudge {s d r} (h : Canonical s) : Canonical (s.mailJudge d r) :=
  have h1 : Canonical _ := .ite h (.upd h)
  .ite (.respond h1) (.mailRun (.stage h1))
theorem Canonical.mailTake {s d} (h : Canonical s) : Canonical (s.mailTake d) :=
  have h1 : Canonical _ := .store (.readEcc h)
  .ite (.respond h1) (.mailJudge h1)
theorem Canonical.mailLook {s d} (h : Canonical s) : Canonical (s.mailLook d) :=
  .ite h (.ite (.mailTake h) (.upd h))
theorem Canonical.mboxInit {s d} (h : Canonical s) : Canonical (s.mboxInit d) := .store (.store h)
theorem Canonical.startDistrict {s d} (h : Canonical s) : Canonical (s.startDistrict d) := .upd (.mboxInit h)
theorem Canonical.tryDistrict {s d} (h : Canonical s) : Canonical (s.tryDistrict d) :=
  .ite h (.ite (.startDistrict h) (.upd h))
theorem Canonical.mboxBaseEffect {s high} (h : Canonical s) : Canonical (s.mboxBaseEffect high) :=
  .ite h (.forAll h .tryDistrict)
theorem Canonical.dropMail {s d} (h : Canonical s) : Canonical (s.dropMail d) := .when (.upd h) .wr
theorem Canonical.restartEp {s e} (h : Canonical s) : Canonical (s.restartEp e) :=
  .unless (.ite h (.resident h)) fun h => .destroyResponse (.destroyCommit h)
theorem Canonical.restartGoesOn {s d} (h : Canonical s) : Canonical (s.restartGoesOn d) :=
  .ite h (.unless (.forAll h .restartEp) fun h => .tryDistrict (.upd h))
theorem Canonical.restartDistrict {s d} (h : Canonical s) : Canonical (s.restartDistrict d) :=
  .restartGoesOn (.upd (.laybyRestart (.dropMail h)))
theorem Canonical.endpointGone {s e} (h : Canonical s) : Canonical (s.endpointGone e) :=
  .restartGoesOn (.destroyResponse h)
theorem Canonical.districtRestart {s d} (h : Canonical s) : Canonical (s.districtRestart d) :=
  .ite h (.ite (.upd h) (.restartDistrict h))
theorem Canonical.ep0Rings {s} (h : Canonical s) : Canonical s.ep0Rings := h.quiet (by simp)
theorem Canonical.ep0Write {s who bytes high w} (h : Canonical s) : Canonical (s.ep0Write who bytes high w) :=
  .regWrite h .ep0Rings
theorem Canonical.netTx {s c} (h : Canonical s) : Canonical (s.netTx c) :=
  have h1 : Canonical _ := .readEcc h
  .ite (.finish h1) (.upd (.putCmd h1))
theorem Canonical.deliver {s c k f} (h : Canonical s) : Canonical (s.deliver c k f) :=
  .sweepFrames (.dropCopy (.ite (.finish (.swEvent h)) (.complete (.store h))))
theorem Canonical.timerArm {s c} (h : Canonical s) : Canonical (s.timerArm c) :=
  .ite (.finish h) (.ite (.complete h) (.putCmd h))
theorem Canonical.timerExpiry {s c} (h : Canonical s) : Canonical (s.timerExpiry c) := .complete (.reachVt h)

/-! ### Courtyard -/

theorem Canonical.exception {s core cause} (h : Canonical s) : Canonical (s.exception core cause) :=
  h.quiet (by simp)
theorem Canonical.flushL1 {s core} (h : Canonical s) : Canonical (s.flushL1 core) := h.quiet (by simp)
theorem Canonical.leaveCall {s core a0 a1} (h : Canonical s) : Canonical (s.leaveCall core a0 a1) :=
  h.quiet (by simp)
theorem Canonical.lateRestarts {s} (h : Canonical s) : Canonical s.lateRestarts :=
  .forAll (.upd h) .restartDistrict
theorem Canonical.cyFailed {s c code} (h : Canonical s) : Canonical (s.cyFailed c code) :=
  .latchLevels (.setFlag (.wgEvent (.upd (.wr (.wr h)))))
theorem Canonical.forcedEnd {s core code} (h : Canonical s) : Canonical (s.forcedEnd core code) :=
  .lateRestarts (.cyFailed (.leaveCall h))
theorem Canonical.readyEnd {s core a0 a1} (h : Canonical s) : Canonical (s.readyEnd core a0 a1) :=
  .lateRestarts (.wr (.leaveCall h))
theorem Canonical.faultedCall {s core} (h : Canonical s) : Canonical (s.faultedCall core) :=
  .ite h (.lateRestarts (.cyFailed (.setHart h)))
theorem Canonical.entryFetch {s core c entry} (h : Canonical s) : Canonical (s.entryFetch core c entry).1 := by
  unfold State.entryFetch
  dsimp only
  exact .upd (.setHart (.memAccess h))
theorem Canonical.enterCall {s core c k} (h : Canonical s) : Canonical (s.enterCall core c k) := by
  unfold State.enterCall
  exact
    have h1 : Canonical _ := .setHart (.wr (.wr (.ite (.flushL1 h) h)))
    by dsimp only; split; exacts [.forcedEnd (.entryFetch h1), .ite (.setHart (.entryFetch h1)) (.readyEnd (.wr (.entryFetch h1)))]
theorem Canonical.gateCall {s core g} (h : Canonical s) : Canonical (s.gateCall core g) :=
  .ite (.exception h) (.ite (.setHart h) (.enterCall h))
theorem Canonical.gateRet {s core a0 a1} (h : Canonical s) : Canonical (s.gateRet core a0 a1) :=
  .ite h (.ite (.exception h) (.ite (.forcedEnd h) (.readyEnd h)))
theorem Canonical.gateLand {s core ctx} (h : Canonical s) : Canonical (s.gateLand core ctx) := h.quiet (by simp)
theorem Canonical.illegalInsn {s core ctx} (h : Canonical s) : Canonical (s.illegalInsn core ctx) :=
  .ite (.forcedEnd h) (.exception (.setHart h))
theorem Canonical.gateCallOn {s core g ctx} (h : Canonical s) : Canonical (s.gateCallOn core g ctx) :=
  .ite (.forcedEnd h) (.gateCall (.setHart h))
theorem Canonical.customInsn {s core w ctx} (h : Canonical s) : Canonical (s.customInsn core w ctx) :=
  .ite h (.ite (.gateCallOn h) (.ite (.gateLand h) (.ite (.gateRet h) (.ite (.illegalInsn h) h))))
theorem Canonical.cyException {s core why} (h : Canonical s) : Canonical (s.cyException core why) :=
  .ite h (by split; exacts [.forcedEnd h, .forcedEnd h, .forcedEnd h, .forcedEnd h, .ite h (.forcedEnd h), .forcedEnd h])

/-! ### Pairs -/

theorem Canonical.setPairState {s p st} (h : Canonical s) : Canonical (s.setPairState p st) :=
  .rechooseAll (.cpLevels (.wr h))
theorem Canonical.startCore {s core pc} (h : Canonical s) : Canonical (s.startCore core pc) := h.quiet (by simp)
theorem Canonical.faultOut {s pair checker} (h : Canonical s) : Canonical (s.faultOut pair checker) := by
  unfold State.faultOut
  exact .cpLevels (.when (.when (.setFlag h) .setFlag) .setFlag)
theorem Canonical.faultOutEffect {s w} (h : Canonical s) : Canonical (s.faultOutEffect w) := by
  unfold State.faultOutEffect
  exact .cpLevels (.ite (.setFlag (.setFlag h)) (.ite (.setReg h) h))
theorem Canonical.faultOutWrite {s who bytes w} (h : Canonical s) : Canonical (s.faultOutWrite who bytes w) := by
  unfold State.faultOutWrite
  exact .regWrite h .faultOutEffect
theorem Canonical.dropLine {s l} (h : Canonical s) : Canonical (s.dropLine l) :=
  .ite h (.ite (.draw h) (.intro (twf_memPut _ _ _ h.mem) h.regs))
theorem Canonical.dropCaches {s p} (h : Canonical s) : Canonical (s.dropCaches p) :=
  .flushL1 (.flushL1 (.forAll h .dropLine))
theorem Canonical.discardGate {s p} (h : Canonical s) : Canonical (s.discardGate p) :=
  .setGate (.forAll h .cpEvent)
theorem Canonical.haltPair {s p} (h : Canonical s) : Canonical (s.haltPair p) :=
  .setHart (.setHart (.faultedCall (.faultedCall h)))
theorem Canonical.pairFault {s p fault} (h : Canonical s) : Canonical (s.pairFault p fault) :=
  .ite h (.faultOut (.laybyPair (.setPairState (.wr (.dropCaches (.haltPair (.discardGate (.ite (.wr h) h))))))))
theorem Canonical.checkerFault {s} (h : Canonical s) : Canonical s.checkerFault :=
  .forAll (.faultOut (.setFlag h)) fun h => .ite (.pairFault h) h
theorem Canonical.delayParity {s p} (h : Canonical s) : Canonical (s.delayParity p) :=
  .ite (.pairFault (.cpEvent h)) h
theorem Canonical.selfTest {s aWrong bWrong} (h : Canonical s) : Canonical (s.selfTest aWrong bWrong) :=
  .when (.when (.when (.upd (.wr h)) .setFlag) .setFlag) .checkerFault
theorem Canonical.startPairOp {s p op} (h : Canonical s) : Canonical (s.startPairOp p op) := by
  unfold State.startPairOp
  exact
    have h1 : Canonical _ := .wr h
    by
      split
      · exact .setPairState (.setPair h1)
      · exact .setPairState (.completeCore h1)
      · exact .setPairState (.setPair (.completeCore (.completeCore h1)))
      · exact .wr h1
      · exact h1
theorem Canonical.pairOp {s p op} (h : Canonical s) : Canonical (s.pairOp p op) :=
  .ite h (.ite (.startPairOp h) (.wr h))
theorem Canonical.pairCtrlWrite {s who bytes p w} (h : Canonical s) :
    Canonical (s.pairCtrlWrite who bytes p w) := by
  unfold State.pairCtrlWrite
  exact .regWrite h .pairOp
theorem Canonical.pairDone {s p c} (h : Canonical s) : Canonical (s.pairDone p c) := .cpEvent (.wr h)
theorem Canonical.splitDone {s p} (h : Canonical s) : Canonical (s.splitDone p) :=
  .ite (.pairDone (.setPairState (.setPair (.startCore h)))) h
theorem Canonical.lockDone {s p} (h : Canonical s) : Canonical (s.lockDone p) :=
  .ite (.pairDone (.setPairState (.upd (.setPair (.flushL1 (.setHart h)))))) h
theorem Canonical.restartDone {s p} (h : Canonical s) : Canonical (s.restartDone p) :=
  .ite (.pairDone (.setPairState (.startCore (.startCore h)))) h
theorem Canonical.bistDone {s p delay} (h : Canonical s) : Canonical (s.bistDone p delay) :=
  .ite (.wr (.when (.wr h) .setFlag)) h
theorem Canonical.cpEntryWrite {s who bytes p high w} (h : Canonical s) :
    Canonical (s.cpEntryWrite who bytes p high w) :=
  .regWrite h id

/-! ### Levels -/

theorem Canonical.upLevels {s} (h : Canonical s) : Canonical s.upLevels := h.quiet (by simp)
theorem Canonical.uxLevels {s} (h : Canonical s) : Canonical s.uxLevels :=
  .forAll (.level (.level (.level h))) .level
theorem Canonical.rejectRelevel {s n} (h : Canonical s) : Canonical (s.rejectRelevel n) := h.quiet (by simp)
theorem Canonical.noticeRelevel {s g} (h : Canonical s) : Canonical (s.noticeRelevel g) := h.quiet (by simp)
theorem Canonical.relevelLow {s n} (h : Canonical s) : Canonical (s.relevelLow n) := by
  unfold State.relevelLow
  split
  · exact .epLevels h
  · exact .wakeLevel h
  · exact .latchLevels (.spurLevel (.forAll h .noticeRelevel))
  · exact h
theorem Canonical.relevelMid {s n} (h : Canonical s) : Canonical (s.relevelMid n) := by
  unfold State.relevelMid
  split
  · exact .cpLevels h
  · exact .wgLevels h
  · exact .ksLevels h
  · exact .upLevels h
  · exact .forAll (.forAll h .pnLevel) .swLevel
  · exact .streamLevel (.forAll h .swLevel)
  · exact h
theorem Canonical.relevelHigh {s n} (h : Canonical s) : Canonical (s.relevelHigh n) := by
  unfold State.relevelHigh
  split
  · exact .forAll (.forAll (.sfLevel h) .camLevel) .dspLevel
  · exact .kbLevels h
  · exact .gwyLevel (.forAll h .canLevels)
  · exact .nmLevels h
  · exact .linLevel (.pinLevel h)
  · exact .uxLevels h
  · exact h
theorem Canonical.relevel {s n} (h : Canonical s) : Canonical (s.relevel n) :=
  have h1 : Canonical _ := .rejectRelevel h
  .ite (.relevelLow h1) (.ite (.relevelMid h1) (.relevelHigh h1))
theorem Canonical.relevelAll {s} (h : Canonical s) : Canonical s.relevelAll := .forAll h .relevel
theorem Canonical.relevelOne {s n} (h : Canonical s) : Canonical (s.relevelOne n) := .level h

/-! ### PlanLoad -/

theorem Canonical.loadBankKey {s b} (h : Canonical s) : Canonical (s.loadBankKey b) := .ite (.loadSlot h) h
theorem Canonical.loadPlanKey {s p} (h : Canonical s) : Canonical (s.loadPlanKey p) := .ite (.loadSlot h) h

/-! ### Activate -/

theorem Canonical.planRejected {s b e} (h : Canonical s) : Canonical (s.planRejected b e) :=
  .wr (.wr (.wr (.wr (.wr h))))
theorem Canonical.showDigest {s reg d} (h : Canonical s) : Canonical (s.showDigest reg d) := .forAll h .setReg
theorem Canonical.showPlan {s version epoch digest} (h : Canonical s) :
    Canonical (s.showPlan version epoch digest) :=
  .showDigest (.wr (.wr h))
theorem Canonical.planPort {s i} (h : Canonical s) : Canonical (s.planPort i) := .when (.wr (.wr (.wr h))) .wr
theorem Canonical.planCut {s i} (h : Canonical s) : Canonical (s.planCut i) := .wr h
theorem Canonical.planSwitch {s} (h : Canonical s) : Canonical s.planSwitch :=
  .innerLinks (.upd (.forAll (.forAll (.forAll h .planPort) .planCut) .wr))
theorem Canonical.planTiming {s i} (h : Canonical s) : Canonical (s.planTiming i) :=
  .unless (.wr (.wr (.wr (.wr (.wr h))))) fun h => .wr (.wr (.wr (.wr (.wr (.wr h)))))
theorem Canonical.planCan {s i} (h : Canonical s) : Canonical (s.planCan i) :=
  .canLevels (.setTrx (.wr (.setCan (.wr (.wr (.planTiming h))))))
theorem Canonical.planRing {s i} (h : Canonical s) : Canonical (s.planRing i) := .curfewStart (.wr (.wr h))
theorem Canonical.planPin {s i} (h : Canonical s) : Canonical (s.planPin i) := .when (.wr (.wr h)) .upd
theorem Canonical.planLin {s i} (h : Canonical s) : Canonical (s.planLin i) := .wr h
theorem Canonical.planPair {s i} (h : Canonical s) : Canonical (s.planPair i) := .setPairState (.wr (.wr (.wr h)))
theorem Canonical.clearRegion {s i} (h : Canonical s) : Canonical (s.clearRegion i) := .ite h (.clearMem h)
theorem Canonical.loadCourtyard {s bank i} (h : Canonical s) : Canonical (s.loadCourtyard bank i) := by
  unfold State.loadCourtyard
  exact
    have h1 : Canonical _ := .forAll (.wr (.wr (.wr (.wr (.wr h))))) .clearRegion
    by dsimp only; split; exacts [.ite (.wr (.store h1)) (.wr h1), .wr h1]
theorem Canonical.loadCourtyards {s bank} (h : Canonical s) : Canonical (s.loadCourtyards bank) :=
  .forAll h .loadCourtyard
theorem Canonical.planRoute {s i} (h : Canonical s) : Canonical (s.planRoute i) := h.quiet (by simp)
theorem Canonical.planTakeover {s i} (h : Canonical s) : Canonical (s.planTakeover i) := .wr (.wr (.wr h))
theorem Canonical.planTwin {s} (h : Canonical s) : Canonical s.planTwin := by
  unfold State.planTwin
  exact
    have h1 : Canonical _ := .wr h
    by dsimp only; split; exacts [h1, .forAll (.setFlag (.wr (.wr h1))) .planTakeover]
theorem Canonical.endpoint0 {s} (h : Canonical s) : Canonical s.endpoint0 := h.quiet (by simp)
theorem Canonical.planPools {s} (h : Canonical s) : Canonical s.planPools := by
  unfold State.planPools
  split
  · exact h
  · exact .endpoint0 (.wr (.setPools h))
theorem Canonical.planDistrict {s i} (h : Canonical s) : Canonical (s.planDistrict i) := .tryDistrict h
theorem Canonical.kerbAbsent {s} (h : Canonical s) : Canonical s.kerbAbsent := .upd (.resetRegs h)
theorem Canonical.activatePlan {s items secs} (h : Canonical s) : Canonical (s.activatePlan items secs) := by
  unfold State.activatePlan
  exact .planPools <|
    .planTwin <|
    .forAll (.forAll (.forAll (.forAll (.forAll (.planSwitch (.forAll (.forAll (.when (.upd h) .kerbAbsent) .planRoute) .planPair)) <|
              .planPin) <|
            .planLin) <|
          .wr) <|
        .planCan) <|
    .planRing
theorem Canonical.startCores {s bank} (h : Canonical s) : Canonical (s.startCores bank) := .forAll h .startCore
theorem Canonical.startTowns {s bank} (h : Canonical s) : Canonical (s.startTowns bank) :=
  .forAll (.loadCourtyards h) .planDistrict

/-! ### Roadworks -/

theorem Canonical.writeRec {s lastGood bootBank trial} (h : Canonical s) :
    Canonical (s.writeRec lastGood bootBank trial) :=
  h.quiet (by simp)
theorem Canonical.setBank {s b st} (h : Canonical s) : Canonical (s.setBank b st) :=
  .ite (.wr (.upd h)) (.wr (.upd h))
theorem Canonical.invalidate {s b} (h : Canonical s) : Canonical (s.invalidate b) := .when (.setBank h) .wr
theorem Canonical.writeTarget {s cursor out} (h : Canonical s) : Canonical (s.writeTarget cursor out) :=
  .store (.clearMem h)
theorem Canonical.applySecs {s n i pos cursor target want d head} (h : Canonical s) :
    Canonical (s.applySecs n i pos cursor target want d head).1 := by
  induction n generalizing s i pos cursor want d head with
  | zero => exact h
  | succ n ih =>
    unfold State.applySecs
    dsimp only
    split
    · exact h
    · split
      · exact h
      · split
        · exact h
        · exact ih (.wr (.writeTarget h))
theorem Canonical.upEnd {s code} (h : Canonical s) : Canonical (s.upEnd code) := .upLevels (.wr (.wr h))
theorem Canonical.applyFailed {s x} (h : Canonical s) : Canonical (s.applyFailed x) :=
  .upEnd (.invalidate (.setReg (.wr (.wr (.upd h)))))
theorem Canonical.startApply {s} (h : Canonical s) : Canonical s.startApply := by
  unfold State.startApply
  exact
    have h1 : Canonical _ := .wr (.wr h)
    .ite (.applyFailed h1) (.upd (.applySecs (.wr (.setBank (.clearMem h1)))))
theorem Canonical.applyCommit {s x} (h : Canonical s) : Canonical (s.applyCommit x) :=
  .upEnd (.upd (.wr (.setBank (.store (.clearMem h)))))
theorem Canonical.updateAbort {s} (h : Canonical s) : Canonical s.updateAbort :=
  .ite (.upEnd (.invalidate (.upd h))) (.ite (.upEnd (.upd h)) (.wr h))
theorem Canonical.setFloor {s n} (h : Canonical s) : Canonical (s.setFloor n) := .wr (.wr (.upd h))
theorem Canonical.burn {s} (h : Canonical s) : Canonical s.burn := .setFloor h
theorem Canonical.dropOld {s} (h : Canonical s) : Canonical s.dropOld := by
  unfold State.dropOld
  exact .ite (.invalidate h) h
theorem Canonical.confirm {s} (h : Canonical s) : Canonical s.confirm :=
  .upEnd (.dropOld (.burn (.setBank (.writeRec h))))
theorem Canonical.upOp {s op} {now : State → State} (h : Canonical s)
    (hnow : ∀ {u}, Canonical u → Canonical (now u)) :
    Canonical (s.upOp op now) := by
  unfold State.upOp
  exact
    have h1 : Canonical _ := .upLevels h
    (by split; exacts [.startApply h1, hnow h1, .wr (.upd h1), .confirm h1, .updateAbort h1, h1])
theorem Canonical.upCmdWrite {s who bytes w} {now : State → State} (h : Canonical s)
    (hnow : ∀ {u}, Canonical u → Canonical (now u)) :
    Canonical (s.upCmdWrite who bytes w now) := by
  unfold State.upCmdWrite
  exact .regWrite h fun h => .upOp h hnow
theorem Canonical.upTimeWrite {s who bytes high w} (h : Canonical s) :
    Canonical (s.upTimeWrite who bytes high w) :=
  .regWrite h id
theorem Canonical.upSrcWrite {s who bytes k w} (h : Canonical s) : Canonical (s.upSrcWrite who bytes k w) :=
  .regWrite h id
theorem Canonical.upModeWrite {s who bytes w} (h : Canonical s) : Canonical (s.upModeWrite who bytes w) :=
  .regWrite h fun h => .ite (.upEnd (.upd h)) h
theorem Canonical.checkBank {s b} (h : Canonical s) : Canonical (s.checkBank b).1 := by
  unfold State.checkBank
  dsimp only
  exact .loadBankKey h
theorem Canonical.tryBanks {s b trial code} (h : Canonical s) : Canonical (s.tryBanks b trial code).1 := by
  unfold State.tryBanks
  dsimp only
  split
  · exact .writeRec (.checkBank h)
  · exact .writeRec (.checkBank (.ite (.setBank (.checkBank h)) (.checkBank h)))
theorem Canonical.chooseBank {s} (h : Canonical s) : Canonical s.chooseBank.1 := by
  unfold State.chooseBank
  dsimp only
  split
  · exact .tryBanks (.setBank h)
  · exact .tryBanks h
theorem Canonical.showBoot {s outcome code} (h : Canonical s) : Canonical (s.showBoot outcome code) :=
  .upLevels (.wr (.wr (.wr h)))
theorem Canonical.runBank {s b} (h : Canonical s) : Canonical (s.runBank b) := .showDigest (.wr h)
theorem Canonical.showBanks {s b running trial} (h : Canonical s) : Canonical (s.showBanks b running trial) :=
  .wr (.setBank (.setBank h))

/-! ### Lamplighter -/

theorem Canonical.mainShop {s} (h : Canonical s) : Canonical s.mainShop :=
  .forAll (.filterRegs h) (fun h => .wr (.setDsp h))
theorem Canonical.sayLast {s sleep supplyLoss} (h : Canonical s) : Canonical (s.sayLast sleep supplyLoss) :=
  h.quiet (by simp)
theorem Canonical.mainOff {s} (h : Canonical s) : Canonical s.mainOff :=
  .upd (.clearMem (.clearMem (.ksDown (.mainShop (.when (.ite (.wr h) h) .beatsStop)))))
theorem Canonical.allLost {s} (h : Canonical s) : Canonical s.allLost := .intro (twf_filter _ _ _ h.mem) rfl
theorem Canonical.powerOn {s strap svc} (h : Canonical s) : Canonical (s.powerOn strap svc) :=
  .ite h (.upd (.setFlag (.wr (.setFlag (.wr (.wr (.upd (.allLost h))))))))
theorem Canonical.brownOut {s} (h : Canonical s) : Canonical s.brownOut := .ite h (.upd (.allLost h))
theorem Canonical.reduce {s} (h : Canonical s) : Canonical s.reduce :=
  .ite h (.linkDown (.linkDown (.linkDown (.linkDown (.wr (.ite (.mirrorDown h) h))))))
theorem Canonical.restore {s} (h : Canonical s) : Canonical s.restore :=
  .ite h (.when (.wr h) fun h => .mirrorUp (.innerLinks h))
theorem Canonical.bootsWith {s b} (h : Canonical s) : Canonical (s.bootsWith b) := h.quiet (by simp)
theorem Canonical.supplyLoss {s feedA feedB supply} (h : Canonical s) :
    Canonical (s.supplyLoss feedA feedB supply) :=
  .ite h <|
  have h1 : Canonical _ := .upd (.wr (.upd (.resetRegs (.kerbLost (.mainOff (.sayLast (.upd (.lastWords (.allOff h)))))))))
  (by split; exacts [.bootsWith (.upd (.wakeLevel (.wr h1))), .upd h1])
theorem Canonical.supplyReturn {s} (h : Canonical s) : Canonical s.supplyReturn :=
  .ite h (.unless (.upd (.wakeLevel (.wr h))) fun h => .ite (.bootsWith h) (.boots h))
theorem Canonical.setWakeIn {s k w} (h : Canonical s) : Canonical (s.setWakeIn k w) := h.quiet (by simp)
theorem Canonical.ignSample {s mv} (h : Canonical s) : Canonical (s.ignSample mv) :=
  have h1 : Canonical _ := .setFlag h
  .ite (.qualifiedWake (.when (.setWakeIn h1) .localWake)) (.setWakeIn h1)
theorem Canonical.pinSample {s k mv} (h : Canonical s) : Canonical (s.pinSample k mv) :=
  .ite (.qualifiedWake (.when (.setWakeIn h) .localWake)) (.setWakeIn h)
theorem Canonical.wakeQualified {s src mv} (h : Canonical s) : Canonical (s.wakeQualified src mv) :=
  .ite h (by split; exacts [.forAll h .ignSample, .ite (.forAll h .pinSample) h])
theorem Canonical.lpArrive {s t ack w} (h : Canonical s) : Canonical (s.lpArrive t ack w) := .upd (.wr h)
theorem Canonical.lpSettle {s} (h : Canonical s) : Canonical s.lpSettle := .forAll (.upd h) .lpArrive
theorem Canonical.timerRearm {s l} (h : Canonical s) : Canonical (s.timerRearm l) := by
  induction l generalizing s with
  | nil => exact h
  | cons p rest ih =>
    unfold State.timerRearm
    split
    · exact .ite h (ih (.lpArrive (.upd h)))
    · exact ih (.lpArrive (.upd h))
theorem Canonical.timerWake {s} (h : Canonical s) : Canonical s.timerWake :=
  .ite h (by dsimp only; split; exacts [h, .qualifiedWake (.wr (.reach (.timerRearm h)))])
theorem Canonical.lpStall {s} (h : Canonical s) : Canonical s.lpStall :=
  .when (.lpSettle h) fun h => .lpSettle (.reach h)
theorem Canonical.lpSend {s w} (h : Canonical s) : Canonical (s.lpSend w) := h.quiet (by simp)
theorem Canonical.wakeTimerWrite {s who bytes w} (h : Canonical s) : Canonical (s.wakeTimerWrite who bytes w) :=
  .regWrite h fun h => .lpSend (.lpStall (.setReg h))
theorem Canonical.sleepStart {s target drain} (h : Canonical s) : Canonical (s.sleepStart target drain) :=
  .ite h (.ite (.wr h) (.ite (.wr h) (.wr (.upd h))))
theorem Canonical.sleepWrite {s who bytes w} (h : Canonical s) : Canonical (s.sleepWrite who bytes w) :=
  .regWrite h .sleepStart
theorem Canonical.parkedKeeps {s} (h : Canonical s) : Canonical s.parkedKeeps :=
  .upd (.wr (.wr (.setReg (.setReg (.setReg (.resetRegs h))))))
theorem Canonical.sleepBusy {s} (h : Canonical s) : Canonical s.sleepBusy := .wr (.upd h)
theorem Canonical.sleepCommit {s} (h : Canonical s) : Canonical s.sleepCommit :=
  .ite h <|
  .ite (.sleepBusy h) <|
  have h1 : Canonical _ := .mainOff (.sayLast (.upd (.ksSleep (.kerbDown h))))
  .ite (.upd (.parkedKeeps h1)) (.upd h1)
theorem Canonical.drainTimeout {s} (h : Canonical s) : Canonical s.drainTimeout := by
  unfold State.drainTimeout
  split
  · exact .ite h (.sleepBusy (.reach h))
  · exact h
theorem Canonical.deviceRestart {s bit trigger} (h : Canonical s) : Canonical (s.deviceRestart bit trigger) :=
  have h1 : Canonical _ := .ite (.kerbDown (.laybyAll h)) h
  .bootsWith (.upd (.mainOff (by split; exacts [.lastWords h1, h1])))
theorem Canonical.wdtWrite {s who bytes w} (h : Canonical s) : Canonical (s.wdtWrite who bytes w) := by
  unfold State.wdtWrite
  exact .regWrite h fun h1 => .ite (.ite (.deviceRestart (.draw h)) (.upd (.draw h1))) (.upd h1)
theorem Canonical.wdtExpired {s} (h : Canonical s) : Canonical s.wdtExpired := .deviceRestart (.reach (.draw h))
theorem Canonical.devResetWrite {s who bytes w} (h : Canonical s) : Canonical (s.devResetWrite who bytes w) :=
  .regWrite h fun h => .ite (.deviceRestart h) h
theorem Canonical.netDown {s} (h : Canonical s) : Canonical s.netDown := .forAll h .linkDown
theorem Canonical.pinsDown {s} (h : Canonical s) : Canonical s.pinsDown := h.quiet (by simp)
theorem Canonical.blockOff {s n} (h : Canonical s) : Canonical (s.blockOff n) :=
  .unless (.upd <|
      by
        split
        · exact .upd (.forAll (.netDown (.forAll h fun h => .ite h (.medOff h))) .flushEnd)
        · exact .upd (.netDown h)
        · exact .linkDown (.ite (.mirrorDown h) h)
        · exact .kerbDown h
        · exact .upd (.linkDown (.forAll (.ite h (.beatsStop h)) fun h => .ite h (.medOff h)))
        · exact .upd h
        · exact .pinsDown h
        · exact .upd h
        · exact h) fun h =>
  .ite (.resetRegs h) (.relevel (.resetRegs h))
theorem Canonical.blockOn {s n} (h : Canonical s) : Canonical (s.blockOn n) := by
  unfold State.blockOn
  split
  · exact .forAll (.planSwitch h) .curfewStart
  · exact .innerLinks h
  · exact .ite (.mirrorUp (.innerLinks h)) h
  · exact .forAll (.forAll (.innerLinks h) .planCan) .curfewStart
  · exact .forAll (.forAll h .wr) .planRing
  · exact .forAll (.forAll h .planPin) .planLin
  · exact .planTwin h
  · exact h
theorem Canonical.kerbRelease {s n} (h : Canonical s) : Canonical (s.kerbRelease n) :=
  .setChan (.ite (.wr (.wr h)) h)
theorem Canonical.kerbResume {s} (h : Canonical s) : Canonical s.kerbResume := by
  unfold State.kerbResume
  split
  · exact h
  · exact .upd (.forAll h fun h => .kerbRelease (.wireStart h))
theorem Canonical.ungate {s n} (h : Canonical s) : Canonical (s.ungate n) :=
  have h1 : Canonical _ := .upd h
  .relevel (.ite (.blockOn h1) (.ite (.beatsStart h1) (.ite (.kerbResume h1) (.when h1 .mirrorUp))))
theorem Canonical.kerbStop {s} (h : Canonical s) : Canonical s.kerbStop := .ite (.upd (.kerbDown h)) h
theorem Canonical.gateClock {s n} (h : Canonical s) : Canonical (s.gateClock n) :=
  .upd (.ite (.mirrorDown h) (.ite (.kerbStop h) (.ite (.beatsStop h) h)))
theorem Canonical.powerOp {s n action} (h : Canonical s) : Canonical (s.powerOp n action) := by
  unfold State.powerOp
  split
  · exact .ungate h
  · exact .gateClock h
  · exact .blockOff h
theorem Canonical.powerReq {s w} (h : Canonical s) : Canonical (s.powerReq w) := .wr (.ite (.powerOp h) h)
theorem Canonical.powerWrite {s who bytes w} (h : Canonical s) : Canonical (s.powerWrite who bytes w) :=
  .regWrite h .powerReq
theorem Canonical.stageEffect {s k w} (h : Canonical s) : Canonical (s.stageEffect k w) :=
  .when (.upd (.setReg h)) .upd
theorem Canonical.logStageWrite {s who bytes k w} (h : Canonical s) : Canonical (s.logStageWrite who bytes k w) :=
  .regWrite h .stageEffect
theorem Canonical.mramRead {s who bytes} (h : Canonical s) : Canonical (s.mramRead who bytes) := by
  unfold State.mramRead
  exact .regRead h .wr

/-! ### Boot -/

theorem Canonical.nmBoot {s} (h : Canonical s) : Canonical s.nmBoot := .forAll (.upd (.resetRegs h)) .wr
theorem Canonical.mainUp {s} (h : Canonical s) : Canonical s.mainUp :=
  .setFloor (.forAll (.nmBoot (.forAll (.upd h) .wr)) .setReg)
theorem Canonical.tryPlan {s b hwrev} (h : Canonical s) : Canonical (s.tryPlan b hwrev).1 := by
  unfold State.tryPlan
  dsimp only
  exact .loadPlanKey h
theorem Canonical.fallback {s b hwrev code} (h : Canonical s) : Canonical (s.fallback b hwrev code).1 := by
  unfold State.fallback
  dsimp only
  split
  · dsimp only
    exact .checkBank h
  · split
    · dsimp only
      exact .tryPlan (.checkBank h)
    · exact .planRejected (.tryPlan (.checkBank h))
theorem Canonical.bootPlan {s c hwrev} (h : Canonical s) : Canonical (s.bootPlan c hwrev).1 := by
  unfold State.bootPlan
  split
  · exact h
  · dsimp only
    split
    · dsimp only
      exact .tryPlan h
    · exact .fallback (.when (.planRejected (.tryPlan h)) (fun h => .writeRec (.setBank h)))
theorem Canonical.noteGood {s b} (h : Canonical s) : Canonical (s.noteGood b) := h.quiet (by simp)
theorem Canonical.showTp {s x} (h : Canonical s) : Canonical (s.showTp x) := by
  unfold State.showTp
  exact
    have h1 : Canonical _ := .wr (.wr h)
    (by split; exacts [.showPlan h1, .showPlan h1])
theorem Canonical.showUp {s x} (h : Canonical s) : Canonical (s.showUp x) :=
  .showBoot (.showBanks (.when (.runBank h) .burn))
theorem Canonical.runPlan {s x} (h : Canonical s) : Canonical (s.runPlan x) :=
  .showUp (.activatePlan (.showTp (by split; exacts [.noteGood h, h])))
theorem Canonical.haltAll {s} (h : Canonical s) : Canonical s.haltAll := .forAll h .setHart
theorem Canonical.startTown {s x} (h : Canonical s) : Canonical (s.startTown x) :=
  .relevelAll (.selfTest (.when (.startTowns (.startCores h)) .mirrorUp))
theorem Canonical.boot {s hwrev tamper gen} (h : Canonical s) : Canonical (s.boot hwrev tamper gen) := by
  unfold State.boot
  exact
    have h1 : Canonical _ := .upd h
    by
      split
      · exact .relevelAll (.haltAll (.tamperHalt (.chooseBank (.ksStart (.mainUp h1)))))
      · exact .relevelAll (.haltAll (.tamperHalt (.runPlan (.bootPlan (.chooseBank (.ksStart (.mainUp h1)))))))
      · exact .startTown (.ksLoad (.runPlan (.bootPlan (.chooseBank (.ksStart (.mainUp h1))))))

/-! ### Underpass -/

theorem Canonical.uxEvent {s c} (h : Canonical s) : Canonical (s.uxEvent c) := .count h
theorem Canonical.uxErr {s code win addr seq} (h : Canonical s) : Canonical (s.uxErr code win addr seq) := by
  unfold State.uxErr
  exact .uxLevels (.setReg (.setReg (.setReg h)))
theorem Canonical.uxBusErr {s who o} (h : Canonical s) : Canonical (s.uxBusErr who o) := h.quiet (by simp)
theorem Canonical.npFail {s x code} (h : Canonical s) : Canonical (s.npFail x code) :=
  .uxBusErr (.uxEvent (.uxErr h))
theorem Canonical.setSem {s k x} (h : Canonical s) : Canonical (s.setSem k x) := h.quiet (by simp)
theorem Canonical.semTake {s k district twin} (h : Canonical s) : Canonical (s.semTake k district twin).1 :=
  h.quiet (by simp)
theorem Canonical.twinGone {s} (h : Canonical s) : Canonical s.twinGone := by
  unfold State.twinGone
  exact .uxLevels (.wr (.forAll (.forAll (.upd h) .npFail) fun h => .uxEvent (.uxErr h)))
theorem Canonical.decideTake {s cause n last} (h : Canonical s) : Canonical (s.decideTake cause n last) :=
  h.quiet (by simp)
theorem Canonical.decideAll {s cause} (h : Canonical s) : Canonical (s.decideAll cause) := .forAll h .decideTake
theorem Canonical.setTwin {s st} (h : Canonical s) : Canonical (s.setTwin st) := by
  unfold State.setTwin
  refine .ite h ?_
  have ht : Canonical ((s.wr Fd.UX_TWIN_STATE st).wr Fd.UX_STATUS_CHG 1).uxLevels := .uxLevels (.wr (.wr h))
  dsimp only
  split
  · exact .decideAll (.twinGone ht)
  · exact .twinGone ht
  · exact .decideAll ht
  · exact ht
theorem Canonical.heartbeatSend {s} (h : Canonical s) : Canonical s.heartbeatSend := h.quiet (by simp)
theorem Canonical.heartbeatTaken {s hdl} (h : Canonical s) : Canonical (s.heartbeatTaken hdl) :=
  .setTwin (.setFlag (.wr (.upd h)))
theorem Canonical.heartbeatReceived {s hdl} (h : Canonical s) : Canonical (s.heartbeatReceived hdl) :=
  .ite h (.ite (.heartbeatTaken h) (.uxEvent (.wr h)))
theorem Canonical.twinLost {s} (h : Canonical s) : Canonical s.twinLost :=
  .ite (.unless (.upd (.uxEvent (.reach h))) .setTwin) h
theorem Canonical.sidebandPoll {s} (h : Canonical s) : Canonical s.sidebandPoll := h.quiet (by simp)
theorem Canonical.pollChans {s l} (h : Canonical s) : Canonical (s.pollChans l) := .forAll h .upd
theorem Canonical.pollLayby {s l} (h : Canonical s) : Canonical (s.pollLayby l) := .forAll h .decideTake
theorem Canonical.pollAnswer {s r} (h : Canonical s) : Canonical (s.pollAnswer r) :=
  .ite h (.pollChans (.pollLayby (.when (.upd (.uxLevels (.wr (.ite h (.wr (.setFlag h)))))) .setTwin)))
theorem Canonical.npIssue {s x} (h : Canonical s) : Canonical (s.npIssue x) := .ite (.npFail h) (.ite h (.upd h))
theorem Canonical.postedWrite {s who o w addr} (h : Canonical s) : Canonical (s.postedWrite who o w addr) :=
  .ite (.uxBusErr (.uxErr h)) (have h1 : Canonical _ := .upd h; .ite (.uxEvent (.uxErr h1)) (.upd h1))
theorem Canonical.apertureFail {s who o code a} (h : Canonical s) : Canonical (s.apertureFail who o code a) :=
  .uxBusErr (.reject h)
theorem Canonical.apertureGated {s who bytes o a} (h : Canonical s) : Canonical (s.apertureGated who bytes o a) :=
  .ite (.uxBusErr (.reject h)) (.upd (.reject h))
theorem Canonical.aperture {s who bytes o a} (h : Canonical s) : Canonical (s.aperture who bytes o a) := by
  unfold State.aperture
  refine .ite h <| .ite (.gatedStore h) <| .ite h <| .ite (.apertureGated h) <| .ite (.apertureFail h) <|
    .ite (.apertureFail h) <| .ite (.apertureFail h) ?_
  extract_lets np
  have hnp : Canonical np := .npIssue h
  split
  · exact .ite (.postedWrite h) hnp
  all_goals assumption
theorem Canonical.dropNp {s k} (h : Canonical s) : Canonical (s.dropNp k) := h.quiet (by simp)
theorem Canonical.npAnswer {s k ans} (h : Canonical s) : Canonical (s.npAnswer k ans) := by
  unfold State.npAnswer
  split
  · exact h
  · exact .ite h (by split; exacts [.upd (.dropNp h), .npFail (.dropNp h), .ite (.upd h) h])
theorem Canonical.npTimeout {s k} (h : Canonical s) : Canonical (s.npTimeout k) := by
  unfold State.npTimeout
  split
  · exact h
  · exact .npFail (.dropNp (.reach h))
theorem Canonical.atomicRetry {s k} (h : Canonical s) : Canonical (s.atomicRetry k) := h.quiet (by simp)
theorem Canonical.postedError {s seq code} (h : Canonical s) : Canonical (s.postedError seq code) :=
  .ite h (.uxEvent (.uxErr (.upd h)))
theorem Canonical.semRequest {s who bytes k rival} (h : Canonical s) :
    Canonical (s.semRequest who bytes k rival) := by
  unfold State.semRequest
  exact .regRead h fun _ =>
    .upd (by split; exacts [h, (by split; exacts [.semTake h, (by split; exacts [.uxEvent (.semTake h), .uxEvent (.semTake h)])])])
theorem Canonical.twinSemRequest {s who bytes k} (h : Canonical s) : Canonical (s.twinSemRequest who bytes k) :=
  .ite (.npIssue h) (.regRead h id)
theorem Canonical.semWrite {s who bytes k w} (h : Canonical s) : Canonical (s.semWrite who bytes k w) := by
  unfold State.semWrite
  exact .regWrite h fun h => .setReg (.ite (.setSem h) h)
theorem Canonical.twinSemWrite {s who bytes k w} (h : Canonical s) : Canonical (s.twinSemWrite who bytes k w) :=
  .ite (.npIssue h) (.regWrite h .setReg)
theorem Canonical.lrExpiry {s k} (h : Canonical s) : Canonical (s.lrExpiry k) := h.quiet (by simp)
theorem Canonical.takeState {s n c} (h : Canonical s) : Canonical (s.takeState n c) :=
  .kbLevels (.ite (.applyOn h) (.applyOff h))
theorem Canonical.takeover {s n} (h : Canonical s) : Canonical (s.takeover n) := by
  unfold State.takeover
  split
  · exact h
  · exact .unless (.upd h) fun h => .uxEvent (.takeState (.wr (.wr h)))
theorem Canonical.takeoverWrite {s who bytes n w} (h : Canonical s) :
    Canonical (s.takeoverWrite who bytes n w) := by
  unfold State.takeoverWrite
  exact .regWrite h fun h => .ite (.kbLevels (.wr (.wr (.applyOff h)))) h
theorem Canonical.inDenied {s code posted} (h : Canonical s) : Canonical (s.inDenied code posted) := by
  unfold State.inDenied
  exact
    have h1 : Canonical _ := .uxEvent h
    (by split; exacts [.upd (.wr (.setReg h1)), .upd h1])
theorem Canonical.inAnswer {s w posted} (h : Canonical s) : Canonical (s.inAnswer w posted) := h.quiet (by simp)
theorem Canonical.inSem {s k district} (h : Canonical s) : Canonical (s.inSem k district) := h.quiet (by simp)
theorem Canonical.inRelease {s k district} (h : Canonical s) : Canonical (s.inRelease k district) :=
  .ite (.inAnswer (.setSem h)) (.inAnswer (.reject h))
theorem Canonical.inWinWrite {s who bytes k part w} (h : Canonical s) :
    Canonical (s.inWinWrite who bytes k part w) :=
  .regWrite h id
theorem Canonical.outWinWrite {s who bytes w high v} (h : Canonical s) :
    Canonical (s.outWinWrite who bytes w high v) :=
  .regWrite h id
theorem Canonical.semGranWrite {s who bytes k w} (h : Canonical s) : Canonical (s.semGranWrite who bytes k w) :=
  .regWrite h id

/-! ### Electrical -/

theorem Canonical.lineFault {s i code} (h : Canonical s) : Canonical (s.lineFault i code) := .ite h (.wr (.wr h))
theorem Canonical.lineClear {s i} (h : Canonical s) : Canonical (s.lineClear i) := .wr h
theorem Canonical.lineClass {s i c} (h : Canonical s) : Canonical (s.lineClass i c) := by
  unfold State.lineClass
  split
  · exact .lineClear h
  · exact .lineFault h
  · exact h
theorem Canonical.ignLevel {s mv} (h : Canonical s) : Canonical (s.ignLevel mv) :=
  .ite (.setFlag h) (.ite (.setFlag h) h)
theorem Canonical.ignDiag {s mv} (h : Canonical s) : Canonical (s.ignDiag mv) :=
  .ite h (.unless (.ignLevel h) fun h => .ite (.lineFault h) (.ite (.lineFault h) (.lineClear h)))
theorem Canonical.faultOutDiag {s ua mv} (h : Canonical s) : Canonical (s.faultOutDiag ua mv) :=
  .ite h (.ite (.ite (.lineFault h) (.ite (.upd (.lineFault h)) (.lineClear h))) (.ite (.lineFault h) (.ite (.lineClear h) h)))
theorem Canonical.dspClassify {s d mv} (h : Canonical s) : Canonical (s.dspClassify d mv) :=
  .ite h (.when (.upd h) .lineClass)
theorem Canonical.ethDiag {s p a b} (h : Canonical s) : Canonical (s.ethDiag p a b) := by
  unfold State.ethDiag
  split
  · exact h
  · exact .ite h (.ite (.ite h (.lineClear h)) (.unless (.ite h (.lineFault h)) .lineFault))
theorem Canonical.cableTest {s p openLine} (h : Canonical s) : Canonical (s.cableTest p openLine) := by
  unfold State.cableTest
  split
  · exact h
  · exact .ite h (.ite (.lineFault h) (.ite (.lineClear h) h))
theorem Canonical.canDiag {s k high low openLoad} (h : Canonical s) : Canonical (s.canDiag k high low openLoad) :=
  .ite h (.when (.when (.unless (.ite h (.lineFault h)) .lineFault) .lineFault) .lineClear)

/-! ### Views -/

theorem Canonical.dropShadow {s init a} (h : Canonical s) : Canonical (s.dropShadow init a) := h.quiet (by simp)
theorem Canonical.latch {s who a} (h : Canonical s) : Canonical (s.latch who a) := h.quiet (by simp)
theorem Canonical.clearRc {s a} (h : Canonical s) : Canonical (s.clearRc a) := by
  unfold State.clearRc
  split
  · exact .setReg h
  · exact h
theorem Canonical.plainRead {s who bytes a} (h : Canonical s) : Canonical (s.plainRead who bytes a) :=
  .ite (.regRead h .latch) (.ite (by split; exacts [.regRead h .dropShadow, .regRead h id]) (.regRead h .clearRc))
theorem Canonical.pageRead {s who bytes a} (h : Canonical s) : Canonical (s.pageRead who bytes a) :=
  .ite (.claimRead h) <|
  .ite (.mramRead h) (.ite (.mbWindowRead h) (.ite (.semRequest h) (.ite (.twinSemRequest h) (.ite (.aperture h) (.plainRead h)))))

/-! ### Writes -/

theorem Canonical.clearCount {s a sat b} (h : Canonical s) : Canonical (s.clearCount a sat b) := .wr (.setReg h)
theorem Canonical.clearCount64 {s a sat b} (h : Canonical s) : Canonical (s.clearCount64 a sat b) :=
  .wr (.setReg (.setReg h))
theorem Canonical.clearStream {s c} (h : Canonical s) : Canonical (s.clearStream c) := h.quiet (by simp)
theorem Canonical.streamSatEffect {s w} (h : Canonical s) : Canonical (s.streamSatEffect w) := .setReg (.setStrm h)
theorem Canonical.clearRecord {s a} (h : Canonical s) : Canonical (s.clearRecord a) :=
  .ite (.setReg h) (.ite (.setReg (.setReg (.setReg h))) (.ite (.setReg (.setReg (.setReg h))) h))
theorem Canonical.noticeEffect {old s g} (h : Canonical s) : Canonical (State.noticeEffect old s g) :=
  h.quiet (by simp)
theorem Canonical.plainEffect {old a w s} (h : Canonical s) : Canonical (State.plainEffect old a w s) :=
  have h1 : Canonical _ := by
      split
      · exact .clearCount h
      · exact .clearCount64 h
      · exact .ite (.setReg h) <|
        .ite (.setReg h) <|
        .ite (.clearStream (.setReg h)) (.ite (.streamSatEffect h) (.ite (.mboxBaseEffect h) (.ite (.upd h) (.ite (.clearRecord h) h))))
  .ite (.noticeEffect h1) (.relevel h1)
theorem Canonical.plainWrite {s who bytes a w} (h : Canonical s) : Canonical (s.plainWrite who bytes a w) :=
  .regWrite h .plainEffect
theorem SomeCanonical.write0 {s who bytes a w} (h : Canonical s) : SomeCanonical (s.write0 who bytes a w) := by
  unfold State.write0
  exact .ite (.some (.epCmdWrite h)) <| .ite (.some (.ep0Write h)) <| .ite (.some (.ep0Write h)) <|
    .ite (.some (.devResetWrite h)) <| .ite (.some (.sleepWrite h)) <| .ite (.some (.wakeTimerWrite h)) <|
    .ite (.some (.wdtWrite h)) <| .ite (.some (.powerWrite h)) <| .ite (.some (.logStageWrite h)) <|
    .ite (.some (.srcCfgWrite h)) <| .ite (.some (.targetCtrlWrite h)) <| .ite (.some (.claimWrite h)) <|
    .ite (.some (.completeWrite h)) .none
theorem SomeCanonical.write4 {s who bytes a w} {now : State → State} (h : Canonical s)
    (hnow : ∀ {u}, Canonical u → Canonical (now u)) : SomeCanonical (s.write4 who bytes a w now) := by
  unfold State.write4
  exact .ite (.some (.pairCtrlWrite h)) <| .ite (.some (.cpEntryWrite h)) <| .ite (.some (.faultOutWrite h)) <|
    .ite (.some (.bankWrite h)) <| .ite (.some (.reserveWrite h)) <| .ite (.some (.provLockWrite h)) <|
    .ite (.some (.upCmdWrite h hnow)) <| .ite (.some (.upSrcWrite h)) <| .ite (.some (.upTimeWrite h)) <|
    .ite (.some (.upTimeWrite h)) <| .ite (.some (.upModeWrite h)) <| .ite (.some (.fdbCmdWrite h)) <|
    .ite (.some (.msCtrlWrite h)) <| .ite (.some (.saLoadWrite h)) <| .ite (.some (.asCfgWrite h)) <|
    .ite (.some (.streamSelWrite h)) .none
theorem SomeCanonical.writeA {s who bytes a w} (h : Canonical s) : SomeCanonical (s.writeA who bytes a w) := by
  unfold State.writeA
  exact .ite (.some (.camTimingWrite h)) <| .ite (.some (.camCtrlWrite h)) <| .ite (.some (.i2cWrite h)) <|
    .ite (.some (.ite (.ovlLoWrite h) (.ovlHiWrite h))) <| .ite (.some (.tapCfgWrite h)) <| .ite (.some (.integStateWrite h)) <|
    .ite (.some (.pocWrite h)) <| .ite (.some (.heartbeatWrite h)) <| .ite (.some (.chCtrlWrite h)) <|
    .ite (.some (.laybyCtrlWrite h)) .none
theorem SomeCanonical.writeC {s who bytes a w} (h : Canonical s) : SomeCanonical (s.writeC who bytes a w) := by
  unfold State.writeC
  exact .ite (.ite (.some (.canModeWrite h)) <| .ite (.some (.ttCfgWrite h)) <| .ite (.some (.ttRefWrite h)) <|
      .ite (.some (.mbSelWrite h)) <| .ite (.some (.mbWindowWrite h)) <| .ite (.some (.mbCfgWrite h)) <|
      .ite (.some (.mbCtrlWrite h)) .none) <|
    .ite (.some (.trxCtrlWrite h)) <| .ite (.some (.swkWrite h)) <| .ite (.some (.swkWrite h)) <|
    .ite (.some (.ringCtrlWrite h)) <| .ite (.some (.ethCtrlWrite h)) .none
theorem SomeCanonical.writeE {s who bytes a w} (h : Canonical s) : SomeCanonical (s.writeE who bytes a w) := by
  unfold State.writeE
  exact .ite (.some (.pinOutWrite h)) <|
    .ite (.ite (.some (.linCtrlWrite h)) <| .ite (.some (.linFrameCfgWrite h)) <| .ite (.some (.linDataWrite h)) .none) .none
theorem SomeCanonical.writeF {s who bytes a w} (h : Canonical s) : SomeCanonical (s.writeF who bytes a w) := by
  unfold State.writeF
  exact .ite (.some (.outWinWrite h)) <| .ite (.some (.inWinWrite h)) <| .ite (.some (.semWrite h)) <|
    .ite (.some (.twinSemWrite h)) <| .ite (.some (.semGranWrite h)) <| .ite (.some (.takeoverWrite h)) <|
    .ite (.some (.aperture h)) .none
theorem SomeCanonical.ownWrite {s who bytes a w} {now : State → State} (h : Canonical s)
    (hnow : ∀ {u}, Canonical u → Canonical (now u)) : SomeCanonical (s.ownWrite who bytes a w now) := by
  unfold State.ownWrite
  refine .ite .none ?_
  split
  · exact .write0 h
  · exact .write0 h
  · exact .write0 h
  · exact .writeA h
  · exact .writeA h
  · exact .writeC h
  · exact .writeC h
  · exact .writeE h
  · exact .writeF h
  · exact .write4 h hnow
theorem Canonical.pageWrite {s} {now : State → State} {who bytes a w} (h : Canonical s)
    (hnow : ∀ {u}, Canonical u → Canonical (now u)) : Canonical (s.pageWrite now who bytes a w) := by
  unfold State.pageWrite
  split
  · next ht => exact SomeCanonical.ownWrite h hnow _ ht
  · exact .plainWrite h

/-! ### Bus -/

theorem Canonical.busWrite {s} {now : State → State} {who a data} (h : Canonical s)
    (hnow : ∀ {u}, Canonical u → Canonical (now u)) :
    Canonical (s.busWrite now who a data) := by
  unfold State.busWrite
  split
  · exact .ite (.pageWrite h hnow) h
  · exact .ite h (.ite (.upd (.coreFault (.reject h))) (.upd (.reject h)))
  · exact .dbWrite h
  · exact .memAccess h
theorem Canonical.busRead {s who bytes a} (h : Canonical s) : Canonical (s.busRead who bytes a) := by
  unfold State.busRead
  split
  · exact .pageRead h
  · exact .ite h (.ite (.upd (.coreFault (.reject h))) (.upd h))
  · exact .dbRead h
  · exact .memAccess h
theorem Canonical.ioFetch {s who n a} (h : Canonical s) : Canonical (s.ioFetch who n a) := by
  unfold State.ioFetch
  exact
    have h1 : Canonical _ := .busRead (.upd h)
    by dsimp only; split; exacts [h, .coreFault h1, h1]
theorem Canonical.ioAmo {s} {now : State → State} {who a data} (h : Canonical s)
    (hnow : ∀ {u}, Canonical u → Canonical (now u)) :
    Canonical (s.ioAmo now who a data) :=
  .ite (.busWrite h hnow) <|
  have h1 : Canonical _ := .busRead (.upd h)
  by dsimp only; split; exacts [h, .upd (.busWrite h1 hnow), .coreFault h1]
theorem Canonical.busAccess {s} {now : State → State} {who k a data} (h : Canonical s)
    (hnow : ∀ {u}, Canonical u → Canonical (now u)) :
    Canonical (s.busAccess now who k a data) := by
  unfold State.busAccess
  split
  · exact .busWrite h hnow
  · exact .busRead h
  · exact .ite (.ioFetch h) (.memAccess h)
  · exact .ite (.memAccess h) (.ite (.gatedStore h) (.ioAmo h hnow))
theorem Canonical.inIssue {s} {now : State → State} {who k a data} (h : Canonical s)
    (hnow : ∀ {u}, Canonical u → Canonical (now u)) :
    Canonical (s.inIssue now who k a data).1 := by
  unfold State.inIssue
  dsimp only
  exact .upd (.busAccess (.upd h) hnow)
theorem Canonical.inResult {r posted} (h : Canonical r.1) : Canonical (inResult r posted) := by
  unfold Machine.inResult
  split
  · exact .inAnswer h
  · exact .inDenied h
theorem Canonical.inAmo {s} {now : State → State} {who op w a} (h : Canonical s)
    (hnow : ∀ {u}, Canonical u → Canonical (now u)) :
    Canonical (s.inAmo now who op w a).1 := by
  unfold State.inAmo
  dsimp only
  split
  · exact .inIssue h hnow
  · split
    · exact .inIssue (.inIssue h hnow) hnow
    · exact .inIssue h hnow
theorem Canonical.inAtomic {s} {now : State → State} {who district o a} (h : Canonical s)
    (hnow : ∀ {u}, Canonical u → Canonical (now u)) : Canonical (s.inAtomic now who district o a) := by
  unfold State.inAtomic
  split
  · exact .inDenied h
  · split
    · refine .ite ?_ (.inAnswer (.draw h))
      dsimp only
      split
      · exact .inAnswer (.setSem (.inIssue h hnow))
      · exact .inDenied (.inIssue h hnow)
    · refine .ite (.upd h) ?_
      split
      · exact .inResult (.inAmo h hnow)
      · dsimp only
        split
        · exact .inAnswer (.setSem (.inIssue h hnow))
        · exact .inDenied (.inIssue h hnow)
      · exact h
theorem Canonical.inbound {s} {now : State → State} {district o a posted} (h : Canonical s)
    (hnow : ∀ {u}, Canonical u → Canonical (now u)) :
    Canonical (s.inbound now district o a posted) :=
  .ite h <|
  .ite (.inDenied h) <|
  by
    split
    · exact .inSem h
    · exact .inRelease h
    · split
      · exact .inDenied h
      · split
        exacts [.inResult (.inIssue h hnow), .inResult (.inIssue h hnow), .ite (.inDenied h) (.inAtomic h hnow)]

/-! ### Gate -/

theorem Canonical.releaseOne {s} {now : State → State} {e} (h : Canonical s)
    (hnow : ∀ {u}, Canonical u → Canonical (now u)) :
    Canonical (s.releaseOne now e) :=
  .upd (.busWrite h hnow)
theorem Canonical.releaseGate {s} {now : State → State} {p} (h : Canonical s)
    (hnow : ∀ {u}, Canonical u → Canonical (now u)) :
    Canonical (s.releaseGate now p) :=
  .setPair (.forAll (.setPair (.setGate h)) fun h => .releaseOne h hnow)
theorem Canonical.windowMatch {s} {now : State → State} {p} (h : Canonical s)
    (hnow : ∀ {u}, Canonical u → Canonical (now u)) :
    Canonical (s.windowMatch now p) :=
  .releaseGate (.setPair h) hnow
theorem Canonical.closeNext {s p records} (h : Canonical s) : Canonical (s.closeNext p records) :=
  h.quiet (by simp)
theorem Canonical.windowClose {s} {now : State → State} {p lead chk aWrong bWrong} (h : Canonical s)
    (hnow : ∀ {u}, Canonical u → Canonical (now u)) :
    Canonical (s.windowClose now p lead chk aWrong bWrong) :=
  .ite h <|
  .unless (.closeNext h) fun h =>
  have h1 : Canonical _ := .setReg (.setReg h)
  .ite (.checkerFault h1) (.ite (.windowMatch h1 hnow) (.pairFault (.cpEvent h1)))

/-! ### Activation -/

theorem Canonical.closeForRestart {s p mismatch} (h : Canonical s) : Canonical (s.closeForRestart p mismatch) :=
  .ite h (.ite (.pairFault (.cpEvent h)) (.releaseGate (.setPair h) id))
theorem Canonical.resetCores {s} (h : Canonical s) : Canonical s.resetCores :=
  .upd (.forAll h fun h => .startCore (.completeCore h))
theorem Canonical.takePlan {s b f} (h : Canonical s) : Canonical (s.takePlan b f) := .upd (.ite h (.wr h))
theorem Canonical.trialRejected {s b old e st} (h : Canonical s) : Canonical (s.trialRejected b old e st).1 := by
  unfold State.trialRejected
  dsimp only
  split <;> dsimp only <;> exact .checkBank (.writeRec (.setBank (.planRejected h)))
theorem Canonical.restartBank {s} (h : Canonical s) : Canonical s.restartBank.1 := by
  unfold State.restartBank
  dsimp only
  split
  · dsimp only
    exact .chooseBank h
  · split
    · dsimp only
      exact .chooseBank h
    · split
      · exact .takePlan (.tryPlan (.chooseBank h))
      · exact .trialRejected (.tryPlan (.chooseBank h))
theorem Canonical.initPair {s p} (h : Canonical s) : Canonical (s.initPair p) :=
  .setPairState (.setPair (.discardGate (.ite (.wr h) h)))
theorem Canonical.restartTowns {s} (h : Canonical s) : Canonical s.restartTowns :=
  .forAll h fun h => .planDistrict (.dropMail h)
theorem Canonical.showRestart {s x} (h : Canonical s) : Canonical (s.showRestart x) :=
  .showUp (by split; exacts [.showTp (.noteGood h), h])
theorem Canonical.mgmtRestart {s mismatch} (h : Canonical s) : Canonical (s.mgmtRestart mismatch) :=
  .relevelAll <|
  .upEnd <|
  .restartTowns <|
  .loadCourtyards (.startCores (.forAll (.showRestart (.restartBank (.resetCores (.forAll (.upd h) .closeForRestart)))) .initPair))
theorem Canonical.activate {mismatch s} (h : Canonical s) : Canonical (State.activate mismatch s) :=
  have h1 : Canonical _ := .writeRec h
  .ite (.deviceRestart h1) (.mgmtRestart (.wr h1))
theorem Canonical.activateOpen {s} (h : Canonical s) : Canonical s.activateOpen := .activate (.draw h)

/-! ### Commands -/

/-- Every command keeps the canonical form. -/
theorem NextCanonical.exec {c s} (h : Canonical s) : NextCanonical (exec c s) := by
  cases c with
  | powerOnStart => exact .next (.powerOn h)
  | brownOutReset => exact .next (.brownOut h)
  | reducedFunctionEnter => exact .next (.reduce h)
  | reducedFunctionExit => exact .next (.restore h)
  | supplyLossSequence => exact .next (.supplyLoss h)
  | supplyReturn => exact .next (.supplyReturn h)
  | wakeQualified => exact .next (.wakeQualified h)
  | wakeTimerExpiry => exact .next (.timerWake h)
  | lpCrystalSettled => exact .next (.ite h (.wr h))
  | boot => exact .next (.ite (.ite (.csBurn h) (.boot h)) h)
  | sleepRequest => exact .next (.sleepWrite h)
  | sleepCommit => exact .next (.sleepCommit h)
  | sleepDrainTimeout => exact .next (.drainTimeout h)
  | watchdogKick => exact .next (.wdtWrite h)
  | watchdogExpiry => exact .next (.ite (.wdtExpired h) h)
  | softwareDeviceReset => exact .next (.devResetWrite h)
  | blockPowerRequest => exact .next (.powerWrite h)
  | logAppend => exact .next (.logStageWrite h)
  | logCommit => exact .next (.ite (.upd h) h)
  | mramDataRead => exact .next (.mramRead h)
  | registerWrite => exact .next (.busWrite h .activateOpen)
  | rcFieldRead => exact .next (.busRead h)
  | counterLoRead => exact .next (.busRead h)
  | dbSqWrite => exact .next (.dbWrite h)
  | dbCqWrite => exact .next (.dbWrite h)
  | dbAbortWrite => exact .next (.dbWrite h)
  | abortDecision => exact .next (.ite (.when (.resident h) .abortDecide) h)
  | descriptorFetch => exact .next (.ite (.fetchOne h) h)
  | orderedRelease => exact .next (by split; exacts [.ite (.putCmd h) h, h])
  | timedExecute => exact .next (by split; exacts [.ite (.timedExecute (.forAll h .timedExecute)) h, h])
  | pageIn => exact .next (by split; exacts [.restartGoesOn (.servePage h), h])
  | mbRing => exact .next (.dbWrite h)
  | mailboxRequest => exact .next (.mailLook h)
  | createEp => exact .next (.runOp h)
  | destroyEp => exact .next (.runOp h)
  | destroyEpResponse => exact .next (.endpointGone h)
  | resize => exact .next (.runOp h)
  | resizeComplete => exact .next (.resizeComplete h)
  | query => exact .next (.runOp h)
  | pinResident => exact .next (.runOp h)
  | districtRestart => exact .next (.districtRestart h)
  | ep0RingsWrite => exact .next (.ep0Write h)
  | netTx => exact .next (by split; exacts [.netTx h, h])
  | rxPost => exact .next (by split; exacts [.putCmd h, h])
  | epeDelivery => exact .next (by split; exacts [(by split; exacts [.ite (.deliver h) h, h]), h])
  | timerArm => exact .next (by split; exacts [.timerArm h, h])
  | timerExpiry => exact .next (by split; exacts [.ite (.timerExpiry h) h, h])
  | forwardingDecision => exact .next (.ite h (.ite (.shapersSync (.frameBegins (.shapersSync h)))
      (.ite (.dmaQueue h) (.shapersSync (.frameIn (.shapersSync h))))))
  | frameEndReceived => exact .next (.frameEnd h)
  | roundaboutMatch => exact .next (.roundabout h)
  | egressTxStart => exact .next (.txStart h)
  | fdbAgeOut => exact .next (.fdbAge h)
  | portLinkDown => exact .next (.linkDown h)
  | linkDownFlushEnd => exact .next (.flushEnd h)
  | portLinkUp => exact .next (.linkComesUp h)
  | hashMemberRejoin => exact .next (.rejoin h)
  | fdbLookup => exact .next (.fdbCmdWrite h)
  | fdbDelete => exact .next (.fdbCmdWrite h)
  | fdbFlushPort => exact .next (.fdbCmdWrite h)
  | fdbFlushAll => exact .next (.fdbCmdWrite h)
  | macsecSaLoad => exact .next (.saLoadWrite h)
  | macsecTxAnChange => exact .next (.msCtrlWrite h)
  | ageSweep => exact .next (.shapersSync (.ageHeads (.shapersSync h)))
  | gateEntryChange => exact .next (by split; exacts [h, .shapersSync (.reachVt (.shapersSync h))])
  | frerRecoveryReset => exact .next (.frerReset h)
  | syncReceived => exact .next (.ite (.sync h) h)
  | syncTimeout => exact .next (.syncTimeout h)
  | asSyncSend => exact .next (.asSend h)
  | pdelayMeasure => exact .next (.pdelay h)
  | gwyHoldExpiry => exact .next (by split; exacts [h, .gwySend (.reach h)])
  | gwyNtscfReceive => exact .next (.gwyReceive h)
  | streamSelect => exact .next (.streamSelWrite h)
  | cameraTrigger => exact .next (.camTrigger h)
  | csi2FrameStart => exact .next (.ite h (.ite (.camFault (.setCam h)) (.frameStart h)))
  | cameraLineReceived => exact .next (.unless (.pass h) fun h => .ite (.camFault (.setCam h)) (.lineReceived h))
  | cameraLockTimeout => exact .next (.lockTimeout h)
  | cameraLinkDown => exact .next (.camLinkDown h)
  | displayFrameStart => exact .next (.frameBegin h)
  | sliceCompute => exact .next (.sliceCompute h)
  | cameraRunWrite => exact .next (.camCtrlWrite h)
  | camI2cStart => exact .next (.i2cWrite h)
  | i2cComplete => exact .next (.i2cDone h)
  | pan => exact .next (.viewTakes h .runPan)
  | mapSwap => exact .next (.viewTakes h .runMapSwap)
  | mapSwapFetched => exact .next (.swapFetched h)
  | ovlSet => exact .next (.viewTakes h .runOvlSet)
  | tap => exact .next (.viewTakes h .runTap)
  | ovlBaseWrite => exact .next (.ovlLoWrite h)
  | tapCfgWrite => exact .next (.tapCfgWrite h)
  | displayEchoReceived => exact .next (.when (.pass h) .echo)
  | echoMissing => exact .next (.echoMissing h)
  | clearLatch => exact .next (.integStateWrite h)
  | pocOnWrite => exact .next (.pocWrite h)
  | pocShort => exact .next (.pocShort h)
  | pocRetry => exact .next (.pocRetry h)
  | pocExternal => exact .next (.pocExternal h)
  | pocExternalClear => exact .next (.pocExternalClear h)
  | pocOpen => exact .next (.pocOpen h)
  | monitorHeartbeat => exact .next (.heartbeatWrite h)
  | monitorAbsent => exact .next (.monitorAbsent h)
  | pwrOn => exact .next (.kerbTakes h .runOn)
  | pwrOff => exact .next (.kerbTakes h .runOff)
  | pwrDrive => exact .next (.kerbTakes h .runDrive)
  | pwrRead => exact .next (.kerbTakes h .runRead)
  | waitEvent => exact .next (.kerbTakes h .runWaitEvent)
  | chCtrlWrite => exact .next (.chCtrlWrite h)
  | pwmPeriodCommit => exact .next (.ite (.periodCommit h) h)
  | inrushWindowEnd => exact .next (by split; exacts [.ite (.unless (.closeInrush (.reach h)) .trip) h, h])
  | bridgeBrakeEnd => exact .next (by split; exacts [.ite h (.openInrush (.setChan (.reach h))), h])
  | shortCut => exact .next (.ite h (.ite (.trip h) (.ite (.cutOff h) h)))
  | wireModelStep => exact .next (.ite (.wireModel h) h)
  | retried => exact .next (.ite (.kbLevels (.chEvent (.outOn (.wr (.wr (.reach h)))))) h)
  | retryCountReset => exact .next (.ite (.wr (.reach h)) h)
  | currentSample => exact .next (.ite (.kbLevels (.upd (.forAll (.forAll (.sampleFeed (.sampleFeed (.reach h))) .sampleChan) .sampleLead))) h)
  | housingModelStep => exact .next (.ite (.kbLevels (.updateTriggers (.showHousing (.upd (.when (.reach h) fun h => .upd (.wr h)))))) h)
  | shedCheck => exact .next (by split; exacts [.ite h (.kbLevels (.upd (.setFlag (.forAll (.when (.reach h) .wireModel) .shedFor)))), h])
  | pwrPowerUp => exact .next (.pwrUp h)
  | holdTrip => exact .next (.ite (.chEvent (.setChan (.outOff (.pass h)))) h)
  | openLoadOnWindow => exact .next (.ite (.unless (.setChan h) fun h => .ite (.report h) (.ite (.report h) h)) h)
  | offStateTest => exact .next (.ite (.offTest (.reach h)) h)
  | reverseCurrent => exact .next (.ite (.diagFault (.wr h)) h)
  | overTemp => exact .next (.ite (.diagFault (.wr (.setChan h))) h)
  | junctionCooled => exact .next (.ite (.setFlag (.setChan h)) h)
  | feedFault => exact .next (.ite (.forAll (.forAll (.setFeed (.wr (.wr h))) fun h => .wr (.ite (.cutOff h) h)) .diagEvent) h)
  | feedReturn => exact .next (.ite (.setFeed (.forAll (.wr h) .wr)) h)
  | feedReturnSwitchOn => exact .next (by split; exacts [h, .when (.setFeed (.reach h)) .drive])
  | laybyEnterDistrict => exact .next (.laybyCtrlWrite h)
  | laybyEnterAll => exact .next (.laybyCtrlWrite h)
  | laybyReleaseDistrict => exact .next (.laybyCtrlWrite h)
  | laybyReleaseAll => exact .next (.laybyCtrlWrite h)
  | canFrameReceived => exact .next (.canReceive h)
  | mbWindowRead => exact .next (.mbWindowRead h)
  | lockTimeout => exact .next (by split; exacts [h, .canLevels (.endLock (.canEvent (.reach h)))])
  | mbSelect => exact .next (.mbSelWrite h)
  | canTxOffer => exact .next (.txOffer h)
  | canTxCommit => exact .next (.txCommit h)
  | canArbLost => exact .next (.arbLost h)
  | canTxEnd => exact .next (.tryEnds h)
  | busOffRecovery => exact .next (.busOffEnds h)
  | canModeWrite => exact .next (.canModeWrite h)
  | canModeChange => exact .next (.canModeChange h)
  | mbTxRequest => exact .next (.mbCtrlWrite h)
  | mbCancel => exact .next (.mbCtrlWrite h)
  | ttEnable => exact .next (.ttCfgWrite h)
  | ttWindowStart => exact .next (.ttStarts h)
  | ttWindowMissed => exact .next (.ttMisses h)
  | refLost => exact .next (.refLost h)
  | canSetup => exact .next (.canTakes h .runCanSetup)
  | canTx => exact .next (.canTakes h .runCanTx)
  | canRx => exact .next (.canTakes h .runCanRx)
  | canState => exact .next (.canTakes h .runCanState)
  | transceiverFailsafe => exact .next (.trxFails h)
  | trxSleepWrite => exact .next (.trxCtrlWrite h)
  | canWake => exact .next (.canWakes h)
  | t1sWake => exact .next (.t1sWakes h)
  | curfewFrameReceived => exact .next (.curfewReceived h)
  | curfewRingTimer => exact .next (.ringTimer h)
  | curfewSkipTimeout => exact .next (.skipTimeout h)
  | curfewRingLost => exact .next (.ite (.medEvent (.medStart (.reach h))) h)
  | curfewSendFail => exact .next (.sendFails h)
  | curfewFrameSent => exact .next (.frameSent h)
  | curfewLimpSend => exact .next (.limpSend h)
  | curfewLimpSleep => exact .next (.ite (.medWait (.reach h)) h)
  | consentWrite => exact .next (.ringCtrlWrite h)
  | curfewCommit => exact .next (.curfewCommit h)
  | ethSleepRequest => exact .next (.ethCtrlWrite h)
  | ethWakeRequest => exact .next (.ethCtrlWrite h)
  | ethLowPowerEntry => exact .next (.ethEnters h)
  | ethSleepTimeout => exact .next (.ethRefused h)
  | ethRemoteSleep => exact .next (.ite (.ethStamp (.setEth h)) h)
  | ethWakeDetect => exact .next (.ethDetected h)
  | ethWakeNoLink => exact .next (.ite (.ethResult (.reach h)) h)
  | switchInputSample => exact .next (.ite (.switchSample h) h)
  | analogUpdate => exact .next (.ite (.analogBand (.setValue h)) h)
  | analogOpenTest => exact .next (.ite (.lineTest h) h)
  | freqEdge => exact .next (.ite (.setValue (.setDiag (.setPin h))) h)
  | freqTimeout => exact .next (.ite (.setValue (.setPin (.reach h))) h)
  | freqLineTest => exact .next (.ite (.ite (.setDiag h) (.ite (.setDiag h) (.ite (.setDiag h) h))) h)
  | pinOvercurrent => exact .next (.ite (.pinTrip h) h)
  | pinOvertemp => exact .next (.ite (.pinTrip h) h)
  | outputLineTest => exact .next (.ite (.ite h (.lineTest (.reach h))) h)
  | outputOpenLoad => exact .next (.ite (.setDiag (.reach h)) h)
  | pinOutWrite => exact .next (.pinOutWrite h)
  | pinSet => exact .next (.pinTakes h .runPinSet)
  | pinRead => exact .next (.pinTakes h .runPinRead)
  | waitChange => exact .next (.pinTakes h .runWaitChange)
  | linStart => exact .next (.linSchedTakes h)
  | linStop => exact .next (.linSchedTakes h)
  | linSleep => exact .next (.linSchedTakes h)
  | linWake => exact .next (.linSchedTakes h)
  | linPut => exact .next (.pinTakes h .runLinPut)
  | linGet => exact .next (.pinTakes h .runLinGet)
  | linSlotStart => exact .next (.ite (.when (.forAll (.setLin (.linTimedOut (.reach h))) .linCommit) .linHeader) h)
  | linResponseReceived => exact .next (.linResponse h)
  | linFrameTimeout => exact .next (.ite (.linBitError h) (.ite (.linTimedOut (.reach h)) h))
  | linWakeSeen => exact .next (.ite (.setLin (.linCount h)) h)
  | linWakeRestart => exact .next (by split; exacts [.ite (.linRun (.reach h)) h, h])
  | gatedStore => exact .next (.gatedStore h)
  | windowClose => exact .next (.windowClose h .activateOpen)
  | delayParity => exact .next (.delayParity h)
  | bollardSelfTest => exact .next (.ite (.selfTest (.reach h)) h)
  | split => exact .next (.pairCtrlWrite h)
  | splitDone => exact .next (.splitDone h)
  | lock => exact .next (.pairCtrlWrite h)
  | lockDone => exact .next (.lockDone h)
  | pairRestart => exact .next (.pairCtrlWrite h)
  | pairRestartDone => exact .next (.restartDone h)
  | bist => exact .next (.pairCtrlWrite h)
  | bistDone => exact .next (.bistDone h)
  | faultOutAssert => exact .next (.faultOutWrite h)
  | faultOutRelease => exact .next (.faultOutWrite h)
  | gateCall => exact .next (.customInsn h)
  | gateRet => exact .next (.gateRet h)
  | courtyardBudgetExpiry => exact .next (.ite (.forcedEnd (.reach h)) h)
  | courtyardException => exact .next (.cyException h)
  | memoryAccess => exact .next (.busAccess (.memErr h) .activateOpen)
  | patrolScrub => exact .next (.scrub h)
  | bankPowerWrite => exact .next (.bankWrite h)
  | reserve => exact .next (.reserveWrite h)
  | reservationRelease => exact .next (.reserveWrite h)
  | coalesceTimeout => exact .next (.coalesce h)
  | sourceLevelFall => exact .next (.ite (.relevelOne h) h)
  | claim => exact .next (.claimRead h)
  | complete => exact .next (.completeWrite h)
  | srcCfgWrite => exact .next (.srcCfgWrite h)
  | targetCtrlWrite => exact .next (.targetCtrlWrite h)
  | enc => exact .next (.keyTakes h)
  | dec => exact .next (.keyTakes h)
  | macGen => exact .next (.keyTakes h)
  | macVerify => exact .next (.keyTakes h)
  | sign => exact .next (.keyTakes h)
  | verify => exact .next (.keyTakes h)
  | derive => exact .next (.keyTakes h)
  | wrap => exact .next (.keyTakes h)
  | unwrap => exact .next (.keyTakes h)
  | attest => exact .next (.keyTakes h)
  | unlock => exact .next (.keyTakes h)
  | provision => exact .next (.keyTakes h)
  | keyOpComplete => exact .next (by split; exacts [.ite (.keyResult h) h, h])
  | slotReplaceCommit => exact .next (by split; exacts [(by split; exacts [.replaceCommit h, h]), h])
  | workingKeyCheck => exact .next (.ite (.forAll h fun h => .ite (.turnBad h) h) h)
  | tamperEvent => exact .next (.ite (.tamperEvent h) h)
  | sleepTamperLatch => exact .next (.ite (.sleepTamper h) h)
  | tamperRecordWrite => exact .next (.ite (.tamperWrite h) h)
  | provLock => exact .next (.provLockWrite h)
  | apply => exact .next (.upCmdWrite h id)
  | applyCommit => exact .next (by split; exacts [.ite (.applyCommit h) h, h])
  | updateAbort => exact .next (.upCmdWrite h id)
  | activateNow => exact .next (.upCmdWrite h .activate)
  | activateAt => exact .next (.upCmdWrite h id)
  | activateAtCommit => exact .next (by split; exacts [.activate (.upd (.reachVt h)), h])
  | confirm => exact .next (.upCmdWrite h id)
  | heartbeatSend => exact .next (.heartbeatSend h)
  | heartbeatReceived => exact .next (.heartbeatReceived h)
  | twinLost => exact .next (.twinLost h)
  | sidebandPoll => exact .next (.sidebandPoll h)
  | pollAnswer => exact .next (.pollAnswer h)
  | apertureAccess => exact .next (.aperture h)
  | nonPostedAnswer => exact .next (.npAnswer h)
  | nonPostedTimeout => exact .next (.npTimeout h)
  | inboundRequest => exact .next (.inbound h .activateOpen)
  | inboundTimeout => exact .next (.ite (.inDenied h) h)
  | postedErrorReceived => exact .next (.postedError h)
  | semRequest => exact .next (.semRequest h)
  | twinSemRequest => exact .next (.twinSemRequest h)
  | semRelease => exact .next (.ite (.twinSemWrite h) (.semWrite h))
  | lrHoldExpiry => exact .next (.lrExpiry h)
  | atomicRetry => exact .next (.atomicRetry h)
  | takeoverCommit => exact .next (.takeover h)
  | handback => exact .next (.takeoverWrite h)
  | h25PinImbalance => exact .next (.ite (.lineClass h) h)
  | ignLineDiag => exact .next (.ignDiag h)
  | pairRoleMonitor => exact .next (.ite (.lineClass h) h)
  | faultOutLineDiag => exact .next (.faultOutDiag h)
  | faultOutShortRetry => exact .next (by split; exacts [.upd (.reach h), h])
  | displayLineClassify => exact .next (.dspClassify h)
  | ethWireDiag => exact .next (.ethDiag h)
  | ethCableTest => exact .next (.cableTest h)
  | canWireDiag => exact .next (.canDiag h)
  | canReceiveError => exact .next (.rxError h)
  | drbgHealthChange => exact .next (.when (.upd h) .setFlag)
  | applyFailure => exact .next (by split; exacts [.ite (.applyFailed h) (.ite (.applyFailed h) h), h])
  | egressTxEnd => exact .next (.txFinish h)
  | macsecSaLoadDone => exact .next (by split; exacts [.unless (.wr (.upd h)) fun h => .ite (.setRxSa h) (.pnLevel (.setTxSa h)), h])
  | cameraLinkUp => exact .next (.ite (.wr h) h)
  | displayLinkDown => exact .next (.dspLink h)
  | displayLinkUp => exact .next (.dspLink h)
  | selectiveWakeFrame => exact .next (.swkFrame h)

theorem Canonical.step {s t} (h : Canonical s) (ht : step s = .next t) : Canonical t := by
  unfold Machine.step at ht
  split at ht
  · cases ht
    exact .pass h
  · exact NextCanonical.exec (.upd h) t ht

/-- Settles O49, by the canonical form of every command (`NextCanonical.exec`); an idle step only lets time pass. -/
theorem stepKeepsCanonical : Obligations.StepKeepsCanonical := by
  unfold Obligations.StepKeepsCanonical
  intro s t h ht
  exact Canonical.step h ht

/-- Settles O48: after reset both tables are empty. -/
theorem resetCanonical : Obligations.ResetCanonical := by
  unfold Obligations.ResetCanonical
  rfl

end Sys2Proof.Machine
end

section
/-! SUPPORT. The parts of the state that each function may change (Laws/Frames.lean), for the functions that recurse, branch over a result or
hand a function on; then the accesses that can reach a register which starts anything. -/

namespace Sys2Proof.Machine

theorem blot_of_fst {L : Piece → Bool} {s t : State} {α : Type} {r : State × α} {x : α} (hr : r = (t, x)) (h : blot L r.1 = blot L s) :
    blot L t = blot L s := by
  rw [hr] at h
  exact h
theorem blot_of_snd {L : Piece → Bool} {s t : State} {α : Type} {r : α × State} {x : α} (hr : r = (x, t)) (h : blot L r.2 = blot L s) :
    blot L t = blot L s := by
  rw [hr] at h
  exact h
/-- A fold that carries a number beside the state. -/
theorem foldl_fst_blot (L : Piece → Bool) {α β : Type} (l : List α) (f : State × β → α → State × β) (hf : ∀ r x, blot L (f r x).1 = blot L r.1)
    (r : State × β) : blot L (l.foldl f r).1 = blot L r.1 := by
  induction l generalizing r with
  | nil => rfl
  | cons x rest ih => exact (ih (f r x)).trans (hf r x)

section
variable (L : Piece → Bool) (s : State)

/-! ### CAN -/
@[simp ↓] theorem State.endLock_blot (k : Nat) (consumed : Bool) (h : L .regs ∧ L .can) :
    blot L (s.endLock k consumed) = blot L s := by
  unfold State.endLock
  split
  · rfl
  · dsimp only
    split <;> simp [h]

@[simp ↓] theorem State.mbTouch_blot (k b w : Nat) (h : L .regs ∧ L .ic ∧ L .can) : blot L (s.mbTouch k b w) = blot L s := by
  simp [State.mbTouch, h]

@[simp ↓] theorem State.mbWindowRead_blot (who : Who) (bytes k w : Nat) (h : L .regs ∧ L .resp ∧ L .wg ∧ L .ic ∧ L .can) :
    blot L (s.mbWindowRead who bytes k w) = blot L s := by
  simp [State.mbWindowRead, h]

@[simp ↓] theorem State.mbSelWrite_blot (who : Who) (bytes k : Nat) (w : Word) (h : L .regs ∧ L .resp ∧ L .wg ∧ L .ic ∧ L .can ∧ L .cp) :
    blot L (s.mbSelWrite who bytes k w) = blot L s := by
  simp [State.mbSelWrite, h]

@[simp ↓] theorem State.ttCfgWrite_blot (who : Who) (bytes k : Nat) (w : Word) (h : L .regs ∧ L .resp ∧ L .wg ∧ L .ic ∧ L .can ∧ L .cp) :
    blot L (s.ttCfgWrite who bytes k w) = blot L s := by
  unfold State.ttCfgWrite
  dsimp only
  split <;> simp [h]

/-! ### Shopfront -/

@[simp ↓] theorem State.frameStart_blot (c f : Nat) (h : L .regs ∧ L .ic ∧ L .sf) : blot L (s.frameStart c f) = blot L s := by
  unfold State.frameStart
  dsimp only
  split <;> simp [h]

@[simp ↓] theorem State.overrunBy_blot (c slot : Nat) (h : L .regs ∧ L .ic ∧ L .sf) :
    blot L (s.overrunBy c slot) = blot L s := by
  unfold State.overrunBy
  dsimp only
  split
  · rfl
  · refine forAll_blot _ _ _ _ fun u d => ?_
    split <;> simp [h]

@[simp ↓] theorem State.lineReceived_blot (c : Nat) (px : List Byte) (crc fe : Bool) (h : L .regs ∧ L .ic ∧ L .sf) :
    blot L (s.lineReceived c px crc fe) = blot L s := by
  simp [State.lineReceived, h]

@[simp ↓] theorem State.lockTimeout_blot (c : Nat) (h : L .now ∧ L .vt ∧ L .regs ∧ L .ic ∧ L .ptp ∧ L .sf) :
    blot L (s.lockTimeout c) = blot L s := by
  unfold State.lockTimeout
  dsimp only
  split
  · rfl
  · split <;> simp [h]

/-! ### The switch -/
@[simp ↓] theorem State.enterPort_blot (f : SwFrame) (o : Nat) (h : L .regs ∧ L .ep ∧ L .ic ∧ L .sw) :
    blot L (s.enterPort f o).1 = blot L s := by
  unfold State.enterPort
  split
  · split
    · simp [h]
    · exact foldl_fst_blot L _ _ (fun r e => by simp [h]) (s, 0)
  · simp [h]

@[simp ↓] theorem State.enterMask_blot (f : SwFrame) (mask : Nat) (h : L .regs ∧ L .ep ∧ L .ic ∧ L .sw) :
    blot L (s.enterMask f mask).1 = blot L s := by
  unfold State.enterMask
  dsimp only
  rw [State.sweepFrames_blot L _ h.2.2.2, foldl_fst_blot L _ _ (fun r o => by simp [h])]
  simp [h]

theorem State.meter_blot (i : Item) (len : Nat) (h : L .sw) : ∀ t ∈ s.meter i len, blot L t = blot L s := by
  simp [State.meter, h]

@[simp ↓] theorem State.streamFilter_blot (i : Item) (f : SwFrame) (h : L .ic ∧ L .sw) :
    blot L (s.streamFilter i f).1 = blot L s := by
  unfold State.streamFilter
  dsimp only
  split
  · rfl
  split
  · simp [h]
  split
  · rfl
  split
  · simp [h]
  · next t ht => exact State.meter_blot L s _ _ h.2 t ht

@[simp ↓] theorem State.streamEliminate_blot (i : Item) (f : SwFrame) (mask : Nat) (h : L .ic ∧ L .sw) :
    blot L (s.streamEliminate i f mask).1 = blot L s := by
  have hrec : ∀ h' seq, blot L (s.recover h' seq).2 = blot L s := by simp [h]
  unfold State.streamEliminate
  dsimp only
  split
  · rfl
  split
  · simp [h]
  split
  · split
    · next t ht => exact blot_of_snd ht (hrec _ _)
    · next t ht => exact blot_of_snd ht (hrec _ _)
  · rfl

@[simp ↓] theorem State.step10_blot (f : SwFrame) (mask : Nat) (h : L .regs ∧ L .ep ∧ L .ic ∧ L .sw) :
    blot L (s.step10 f mask).1 = blot L s := by
  unfold State.step10
  split
  · simp [h]
  · next i _ =>
    have hcount : blot L (s.strmCount (i.n 0) 0) = blot L s := by simp [h]
    dsimp only
    split
    · next t ht => exact (blot_of_fst ht (by simp [h])).trans hcount
    · next t g ht =>
      have hfilter : blot L t = blot L s := (blot_of_fst ht (by simp [h])).trans hcount
      split
      · next u hu => exact (blot_of_fst hu (by simp [h])).trans hfilter
      · next u g' hu =>
        have helim : blot L u = blot L s := (blot_of_fst hu (by simp [h])).trans hfilter
        simp [h, helim]

@[simp ↓] theorem State.forward_blot (p : Nat) (bs : List Byte) (len stamp : Nat) (ended : Bool) (h : L .regs ∧ L .ep ∧ L .ic ∧ L .sw) :
    blot L (s.forward p bs len stamp ended).1 = blot L s := by
  have hlearn : blot L (if s.flag (Fd.SW_PORT_CFG_LEARN p) then
      s.learn (s.parse p bs len stamp ended).sa (s.parse p bs len stamp ended).vid p else s) = blot L s := by simp [h]
  unfold State.forward
  dsimp only
  iterate 6 (split; · simp [h])
  generalize (if s.flag (Fd.SW_PORT_CFG_LEARN p) then
      s.learn (s.parse p bs len stamp ended).sa (s.parse p bs len stamp ended).vid p else s) = u at hlearn ⊢
  split
  · split <;> simp [h, hlearn]
  · split <;> simp [h, hlearn]

@[simp ↓] theorem State.frameIn_blot (p : Nat) (data : List Byte) (err : Bool) (stamp : Nat) (h : L .regs ∧ L .ep ∧ L .ic ∧ L .sw) :
    blot L (s.frameIn p data err stamp) = blot L s := by
  have htraffic : blot L (s.traffic p 0 data.length) = blot L s := by simp [h]
  unfold State.frameIn
  dsimp only
  generalize s.traffic p 0 data.length = u at htraffic ⊢
  have hms : blot L (u.msValidate p (data.take (data.length - 4))).2 = blot L u := by simp [h]
  split
  · simp [h, htraffic]
  split
  · split
    · split
      · next t ht => simp [h, blot_of_snd ht hms, htraffic]
      · next t ht => simp [h, blot_of_snd ht hms, htraffic]
      · next t ht => simp [h, blot_of_snd ht hms, htraffic]
    · simp [h, htraffic]
  · split <;> simp [h, htraffic]

@[simp ↓] theorem State.frameBegins_blot (p : Nat) (data : List Byte) (err : Bool) (stamp : Nat) (h : L .regs ∧ L .ep ∧ L .ic ∧ L .sw) :
    blot L (s.frameBegins p data err stamp) = blot L s := by
  simp [State.frameBegins, h]

@[simp ↓] theorem State.earlyEnd_blot (p : Nat) (f : SwFrame) (data : List Byte) (err : Bool) (h : L .regs ∧ L .ep ∧ L .ic ∧ L .sw) :
    blot L (s.earlyEnd p f data err) = blot L s := by
  have hrec : ∀ k seq, blot L (s.recover k seq).2 = blot L s := by simp [h]
  have hend : ∀ (g : SwFrame) (t : State), blot L t = blot L s → blot L (t.goodEnd g) = blot L s ∧ blot L (t.dropFrame g) = blot L s := by
    intro g t ht
    simp [h, ht]
  unfold State.earlyEnd
  rcases f.meter with _ | ⟨k, n⟩ <;> dsimp only <;> split
  case none.isFalse | some.isFalse => simp [h]
  all_goals
    split
    · split
      · next t ht => exact (hend _ t (blot_of_snd ht (hrec _ _))).1
      · next t ht => exact (hend _ t (blot_of_snd ht (hrec _ _))).2
    · exact (hend _ s rfl).1

@[simp ↓] theorem State.frameEnd_blot (p : Nat) (rest : List Byte) (err : Bool) (h : L .regs ∧ L .ep ∧ L .ic ∧ L .sw) :
    blot L (s.frameEnd p rest err) = blot L s := by
  unfold State.frameEnd
  dsimp only
  split
  · rfl
  · split
    · simp [h]
    · split <;> simp [h]

theorem State.drr_blot (p : Nat) (l : List Nat) (tc fuel : Nat) (h : L .ep ∧ L .sw) :
    ∀ {s : State}, ∀ r ∈ s.drr p l tc fuel, blot L r.2 = blot L s := by
  induction fuel with
  | zero => simp [State.drr]
  | succ fuel ih =>
    intro s r hr
    unfold State.drr at hr
    dsimp only at hr
    split at hr
    · exact (ih r hr).trans (by simp [h])
    split at hr
    · cases hr
      simp [h]
    · exact (ih r hr).trans (by simp [h])

@[simp ↓] theorem State.injectOne_blot (p : Nat) (h : L .regs ∧ L .mem ∧ L .ep ∧ L .wg ∧ L .ic ∧ L .sw) :
    blot L (s.injectOne p) = blot L s := by
  have hfwd : ∀ (u : State) bs n, blot L (u.forward 23 bs n u.vt true).1 = blot L u := by simp [h]
  unfold State.injectOne
  dsimp only
  split
  · rfl
  split
  · rfl
  · next f u hu =>
    have hdrr : blot L u = blot L s := State.drr_blot L p _ _ _ (by simp [h]) _ hu
    split
    · simp [h, hdrr]
    · simp [h, hdrr]

@[simp ↓] theorem State.roundabout_blot (ecc : List (Fin 24)) (h : L .now ∧ L .vt ∧ L .regs ∧ L .mem ∧ L .ep ∧ L .wg ∧ L .ic ∧ L .sw ∧ L .ptp) :
    blot L (s.roundabout ecc) = blot L s := by
  simp [State.roundabout, h]

/-! ### The gateway port -/
@[simp ↓] theorem State.gwySend_blot (g : GwyFrame) (h : L .regs ∧ L .ep ∧ L .ic ∧ L .sw) : blot L (s.gwySend g) = blot L s := by
  unfold State.gwySend
  dsimp only
  split <;> simp [h]

@[simp ↓] theorem State.gwyAdd_blot (k : Nat) (m : List Byte) (h : L .regs ∧ L .ep ∧ L .ic ∧ L .sw) :
    blot L (s.gwyAdd k m) = blot L s := by
  unfold State.gwyAdd
  split <;> simp [h]

@[simp ↓] theorem State.gwyPack_blot (k w0 w1 : Nat) (data : List Byte) (h : L .regs ∧ L .ep ∧ L .ic ∧ L .sw) :
    blot L (s.gwyPack k w0 w1 data).2 = blot L s := by
  unfold State.gwyPack
  split <;> simp [h]

@[simp ↓] theorem State.gwyMessages_blot (stream : Nat) (bs : List Byte) (fuel : Nat) (h : L .regs ∧ L .ic ∧ L .can) :
    blot L (s.gwyMessages stream bs fuel) = blot L s := by
  induction fuel generalizing s bs with
  | zero => rfl
  | succ fuel ih => simp [State.gwyMessages, ih, h]

@[simp ↓] theorem State.gwyReceive_blot (h : L .regs ∧ L .ep ∧ L .ic ∧ L .can ∧ L .sw) : blot L s.gwyReceive = blot L s := by
  unfold State.gwyReceive
  split
  · rfl
  · split <;> simp [h]

/-! ### Wakes and Curfew -/

@[simp ↓] theorem State.qualifiedWake_blot (b : Nat) (h : L .regs ∧ L .ao ∧ L .ic) : blot L (s.qualifiedWake b) = blot L s := by
  unfold State.qualifiedWake
  dsimp only
  split <;> simp [h]

@[simp ↓] theorem State.consentFalls_blot (r : Nat)
    (h : L .now ∧ L .vt ∧ L .regs ∧ L .mem ∧ L .ep ∧ L .wg ∧ L .ic ∧ L .can ∧ L .ptp ∧ L .nm) :
    blot L (s.consentFalls r) = blot L s := by
  refine forAll_blot _ _ _ _ fun u m => ?_
  dsimp only
  split <;> simp [h]

@[simp ↓] theorem State.localWake_blot (j : Nat)
    (h : L .now ∧ L .vt ∧ L .regs ∧ L .mem ∧ L .ep ∧ L .wg ∧ L .ic ∧ L .can ∧ L .ptp ∧ L .nm) :
    blot L (s.localWake j) = blot L s := by
  simp [State.localWake, h]

@[simp ↓] theorem State.curfewFrame_blot (m source next flags : Nat) (h : L .regs ∧ L .ic ∧ L .can ∧ L .nm) :
    blot L (s.curfewFrame m source next flags) = blot L s := by
  unfold State.curfewFrame
  extract_lets x t _ u own
  have ht : blot L t = blot L s := by
    unfold t
    split <;> simp [h]
  have hu : blot L u = blot L s := by simp [u, h, ht]
  clear_value u
  split <;> simp [h, hu]

@[simp ↓] theorem State.curfewReceived_blot (m src dlc : Nat) (data : List Byte)
    (h : L .now ∧ L .vt ∧ L .regs ∧ L .mem ∧ L .ep ∧ L .wg ∧ L .ic ∧ L .can ∧ L .ptp ∧ L .nm) :
    blot L (s.curfewReceived m src dlc data) = blot L s := by
  simp [State.curfewReceived, h]

@[simp ↓] theorem State.sendFails_blot (m : Nat) (h : L .now ∧ L .vt ∧ L .regs ∧ L .ic ∧ L .can ∧ L .ptp ∧ L .nm) :
    blot L (s.sendFails m) = blot L s := by
  unfold State.sendFails
  dsimp only
  split <;> simp [h]

@[simp ↓] theorem State.ringCtrlWrite_blot (who : Who) (bytes r : Nat) (w : Word)
    (h : L .now ∧ L .vt ∧ L .regs ∧ L .mem ∧ L .resp ∧ L .ep ∧ L .wg ∧ L .ic ∧ L .can ∧ L .ptp ∧ L .nm ∧ L .cp) :
    blot L (s.ringCtrlWrite who bytes r w) = blot L s := by
  unfold State.ringCtrlWrite
  apply State.regWrite_blot <;> simp [h]

@[simp ↓] theorem State.canWakes_blot (k : Nat) (how : CanWakeBy) (h : L .regs ∧ L .ao ∧ L .ic ∧ L .can ∧ L .nm) :
    blot L (s.canWakes k how) = blot L s := by
  simp [State.canWakes, h]

@[simp ↓] theorem State.t1sWakes_blot (k : Nat) (h : L .regs ∧ L .ao ∧ L .ic ∧ L .can ∧ L .nm) :
    blot L (s.t1sWakes k) = blot L s := by
  simp [State.t1sWakes, h]

@[simp ↓] theorem State.canReceive_blot (k w0 w1 : Nat) (data : List Byte) (ago : Nat)
    (h : L .regs ∧ L .mem ∧ L .fresh ∧ L .ep ∧ L .wg ∧ L .ic ∧ L .can ∧ L .sw ∧ L .nm) :
    blot L (s.canReceive k w0 w1 data ago) = blot L s := by
  unfold State.canReceive
  split
  · rfl
  · extract_lets t u target v
    have hu : blot L u = blot L s := by simp [u, t, h]
    have hv : blot L v = blot L s := by
      unfold v
      generalize target = o
      split <;> simp [h, hu]
    clear_value v
    simp [h, hv]

/-! ### Shopfront -/

@[simp ↓] theorem State.panCommit_blot (i start : Nat) (h : L .regs ∧ L .mem ∧ L .ep ∧ L .wg ∧ L .ic ∧ L .sf) :
    blot L (s.panCommit i start) = blot L s := by
  unfold State.panCommit
  dsimp only
  split <;> simp [h]

@[simp ↓] theorem State.frameBegin_blot (d : Nat)
    (h : L .now ∧ L .vt ∧ L .regs ∧ L .mem ∧ L .resp ∧ L .ep ∧ L .wg ∧ L .ic ∧ L .ptp ∧ L .sf ∧ L .cp) :
    blot L (s.frameBegin d) = blot L s := by
  simp [State.frameBegin, h]

@[simp ↓] theorem State.tapLines_blot (i room : Nat) (lines : List Nat) (h : L .regs ∧ L .ep ∧ L .ic ∧ L .sw ∧ L .sf) :
    blot L (s.tapLines i room lines).1 = blot L s := by
  induction lines generalizing s room with
  | nil => rfl
  | cons l rest ih =>
    unfold State.tapLines
    split
    · rfl
    · split <;> simp [ih, h]

@[simp ↓] theorem State.tapViews_blot (k room : Nat) (views : List Nat) (h : L .regs ∧ L .ep ∧ L .ic ∧ L .sw ∧ L .sf) :
    blot L (s.tapViews k room views) = blot L s := by
  induction views generalizing s room with
  | nil => rfl
  | cons i rest ih =>
    unfold State.tapViews
    split
    · split <;> simp [ih, h]
    · exact ih _ _

@[simp ↓] theorem State.ovlCounts_blot (d k late : Nat) (h : L .regs ∧ L .mem ∧ L .resp ∧ L .wg ∧ L .ic ∧ L .cp) :
    blot L (s.ovlCounts d k late) = blot L s := by
  refine forAll_blot _ _ _ _ fun u p => ?_
  dsimp only
  split <;> simp [h]

@[simp ↓] theorem State.sliceCompute_blot (d late room : Nat)
    (h : L .now ∧ L .vt ∧ L .regs ∧ L .mem ∧ L .resp ∧ L .ep ∧ L .wg ∧ L .ic ∧ L .sw ∧ L .ptp ∧ L .sf ∧ L .cp) :
    blot L (s.sliceCompute d late room) = blot L s := by
  unfold State.sliceCompute
  dsimp only
  split <;> simp [h]

@[simp ↓] theorem State.drainOutcomes_blot (d : Nat) (l : List EchoWait) (h : L .regs ∧ L .ic ∧ L .sf) :
    blot L (s.drainOutcomes d l) = blot L s := by
  induction l generalizing s with
  | nil => simp [State.drainOutcomes, h]
  | cons w rest ih => simp [State.drainOutcomes, ih, h]

@[simp ↓] theorem State.settle_blot (d k out : Nat) (h : L .regs ∧ L .ic ∧ L .sf) : blot L (s.settle d k out) = blot L s := by
  simp [State.settle, h]

@[simp ↓] theorem State.echo_blot (d frame crc flags resv : Nat) (h : L .regs ∧ L .ic ∧ L .sf) :
    blot L (s.echo d frame crc flags resv) = blot L s := by
  unfold State.echo
  dsimp only
  split
  · simp [h]
  split
  · simp [h]
  split
  · simp [h]
  split <;> simp [h]

@[simp ↓] theorem State.echoMissing_blot (d : Nat) (h : L .now ∧ L .vt ∧ L .regs ∧ L .ic ∧ L .ptp ∧ L .sf) :
    blot L (s.echoMissing d) = blot L s := by
  unfold State.echoMissing
  split <;> simp [h]

/-! ### Cellar -/

@[simp ↓] theorem State.tamperAborts_blot (h : L .regs ∧ L .mem ∧ L .ep ∧ L .wg ∧ L .ic ∧ L .sw ∧ L .ks) :
    blot L s.tamperAborts = blot L s := by
  have hload : ∀ (u : State) (m : Nat), blot L (match tget (fun _ => none) u.sw.saLoad m with
      | some l =>
        if l.code = Code.DONE then
          ({ u with sw := { u.sw with saLoad := tset (fun _ => none) u.sw.saLoad m (some { l with code := Code.TAMPER }) } }).ksCount 1
        else u
      | none => u) = blot L u := by
    intro u m
    split <;> simp [h]
  unfold State.tamperAborts
  extract_lets l _ t u
  have hu : blot L u = blot L s := by simp [u, t, h]
  rw [State.ksLevels_blot L _ h.2.2.2.2.1]
  exact (forAll_blot L _ _ _ hload).trans hu

@[simp ↓] theorem State.tamperEvent_blot (src : Nat) (h : L .regs ∧ L .mem ∧ L .fresh ∧ L .ep ∧ L .wg ∧ L .ic ∧ L .sw ∧ L .ks) :
    blot L (s.tamperEvent src) = blot L s := by
  simp [State.tamperEvent, h]

@[simp ↓] theorem State.sleepTamper_blot (src : Nat) (h : L .regs ∧ L .ao ∧ L .ic ∧ L .ks) : blot L (s.sleepTamper src) = blot L s := by
  simp [State.sleepTamper, h]

/-! ### Endpoints -/

@[simp ↓] theorem State.trimCells_blot (e share fuel : Nat) (h : L .regs ∧ L .ep ∧ L .sw) :
    blot L (s.trimCells e share fuel).1 = blot L s := by
  induction fuel generalizing s with
  | zero => rfl
  | succ fuel ih =>
    unfold State.trimCells
    split
    · rfl
    · split <;> simp [ih, h]

/-- A checked write whose effect is known only where it starts from what the write leaves. -/
theorem State.regWrite_blot_of (who : Who) (bytes a : Nat) (w : Word) (held bad : Bool) (refuse : Nat) (effect : State → State)
    (h : L .regs ∧ L .resp ∧ L .wg ∧ L .ic ∧ L .cp) (heffect : ∀ u, blot L u = blot L s → blot L (effect u) = blot L s) :
    blot L (s.regWrite who bytes a w held bad refuse effect) = blot L s := by
  have heff : ∀ v, blot L (effect (s.setReg a v)) = blot L s := fun v => heffect _ (by simp [h])
  unfold State.regWrite
  dsimp only
  iterate 3 (split; · simp [h])
  split
  · simp [h]
  split
  · simp [h]
  split <;> simp [h, heff]

@[simp ↓] theorem State.regRead_blot_of (who : Who) (bytes a : Nat) (own : Option Bool) (v : Nat) (effect : State → State)
    (h : L .regs ∧ L .resp ∧ L .wg ∧ L .ic) (heffect : blot L (effect s) = blot L s) :
    blot L (s.regRead who bytes a own v effect) = blot L s := by
  unfold State.regRead
  dsimp only
  split
  · rfl
  split
  · simp [h]
  split
  · simp [h]
  split
  · simp [h]
  · split <;> simp [h, heffect]

@[simp ↓] theorem State.trim_blot (e kind share : Nat)
    (h : L .regs ∧ L .mem ∧ L .fresh ∧ L .ep ∧ L .wg ∧ L .ic ∧ L .pn ∧ L .can ∧ L .sw ∧ L .sf ∧ L .ks) :
    blot L (s.trim e kind share).1 = blot L s := by
  simp [State.trim, h]

@[simp ↓] theorem State.runResize_blot (o : EpOp)
    (h : L .regs ∧ L .mem ∧ L .fresh ∧ L .ep ∧ L .wg ∧ L .ic ∧ L .pn ∧ L .can ∧ L .sw ∧ L .sf ∧ L .ks) :
    blot L (s.runResize o) = blot L s := by
  simp [State.runResize, h]

@[simp ↓] theorem State.runOp_blot (msg : Nat)
    (h : L .regs ∧ L .mem ∧ L .fresh ∧ L .ep ∧ L .wg ∧ L .ic ∧ L .kb ∧ L .pn ∧ L .can ∧ L .sw ∧ L .sf ∧ L .ks) :
    blot L (s.runOp msg) = blot L s := by
  unfold State.runOp
  split
  · rfl
  · split
    · rfl
    · split <;> simp [h]

@[simp ↓] theorem State.mailRun_blot (d seq msg no : Nat) (trim : Bool)
    (h : L .regs ∧ L .mem ∧ L .fresh ∧ L .ep ∧ L .wg ∧ L .ic ∧ L .kb ∧ L .pn ∧ L .can ∧ L .sw ∧ L .sf ∧ L .ks) :
    blot L (s.mailRun d seq msg no trim) = blot L s := by
  unfold State.mailRun
  split <;> simp [h]

@[simp ↓] theorem State.mailJudge_blot (d : Nat) (r : List Byte)
    (h : L .regs ∧ L .mem ∧ L .fresh ∧ L .ep ∧ L .wg ∧ L .ic ∧ L .kb ∧ L .pn ∧ L .can ∧ L .sw ∧ L .sf ∧ L .ks) :
    blot L (s.mailJudge d r) = blot L s := by
  simp [State.mailJudge, h]

@[simp ↓] theorem State.mailTake_blot (d : Nat)
    (h : L .regs ∧ L .mem ∧ L .fresh ∧ L .ep ∧ L .wg ∧ L .ic ∧ L .kb ∧ L .pn ∧ L .can ∧ L .sw ∧ L .sf ∧ L .ks) :
    blot L (s.mailTake d) = blot L s := by
  simp [State.mailTake, h]

@[simp ↓] theorem State.mailLook_blot (d : Nat)
    (h : L .regs ∧ L .mem ∧ L .fresh ∧ L .ep ∧ L .wg ∧ L .ic ∧ L .kb ∧ L .pn ∧ L .can ∧ L .sw ∧ L .sf ∧ L .ks) :
    blot L (s.mailLook d) = blot L s := by
  simp [State.mailLook, h]

/-! ### Courtyards -/

@[simp ↓] theorem State.entryFetch_blot (core c entry : Nat) (h : L .regs ∧ L .mem ∧ L .resp ∧ L .wg ∧ L .ic ∧ L .cp) :
    blot L (s.entryFetch core c entry).1 = blot L s := by
  unfold State.entryFetch
  dsimp only
  simp [h]

@[simp ↓] theorem State.enterCall_blot (core c k : Nat)
    (h : L .regs ∧ L .mem ∧ L .resp ∧ L .fresh ∧ L .ep ∧ L .wg ∧ L .ic ∧ L .kb ∧ L .pn ∧ L .can ∧ L .sw ∧ L .sf ∧ L .cp ∧ L .ks) :
    blot L (s.enterCall core c k) = blot L s := by
  unfold State.enterCall
  dsimp only
  split <;> simp [h]

@[simp ↓] theorem State.gateCall_blot (core g : Nat)
    (h : L .regs ∧ L .mem ∧ L .resp ∧ L .fresh ∧ L .ep ∧ L .wg ∧ L .ic ∧ L .kb ∧ L .pn ∧ L .can ∧ L .sw ∧ L .sf ∧ L .cp ∧ L .ks) :
    blot L (s.gateCall core g) = blot L s := by
  simp [State.gateCall, h]

@[simp ↓] theorem State.customInsn_blot (core w : Nat) (ctx : HartCtx)
    (h : L .regs ∧ L .mem ∧ L .resp ∧ L .fresh ∧ L .ep ∧ L .wg ∧ L .ic ∧ L .kb ∧ L .pn ∧ L .can ∧ L .sw ∧ L .sf ∧ L .cp ∧ L .ks) :
    blot L (s.customInsn core w ctx) = blot L s := by
  simp [State.customInsn, State.gateCallOn, h]

/-! ### Roadworks -/

@[simp ↓] theorem State.applySecs_blot (n i pos cursor target : Nat) (want d head : List Byte) (h : L .regs ∧ L .mem ∧ L .wg) :
    blot L (s.applySecs n i pos cursor target want d head).1 = blot L s := by
  induction n generalizing s i pos cursor want d head with
  | zero => rfl
  | succ n ih =>
    unfold State.applySecs
    dsimp only
    split
    · rfl
    · split <;> simp [ih, h]

@[simp ↓] theorem State.startApply_blot (h : L .regs ∧ L .mem ∧ L .wg ∧ L .ic ∧ L .up) : blot L s.startApply = blot L s := by
  simp [State.startApply, h]

@[simp ↓] theorem State.upOp_blot (op : Nat) (now : State → State)
    (h : L .regs ∧ L .mem ∧ L .fresh ∧ L .wg ∧ L .ic ∧ L .otp ∧ L .up) (hnow : ∀ u, blot L (now u) = blot L u) :
    blot L (s.upOp op now) = blot L s := by
  unfold State.upOp
  split <;> simp [h, hnow]

@[simp ↓] theorem State.upCmdWrite_blot (who : Who) (bytes : Nat) (w : Word) (now : State → State)
    (h : L .regs ∧ L .mem ∧ L .resp ∧ L .fresh ∧ L .wg ∧ L .ic ∧ L .cp ∧ L .otp ∧ L .up) (hnow : ∀ u, blot L (now u) = blot L u) :
    blot L (s.upCmdWrite who bytes w now) = blot L s := by
  simp [State.upCmdWrite, h, hnow]

/-! ### Lamplighter and the boot -/

@[simp ↓] theorem State.allLost_blot
    (h : L .dev ∧ L .vt ∧ L .regs ∧ L .mem ∧ L .shadows ∧ L .plan ∧ L .ao ∧ L .ep ∧ L .wg ∧ L .ic ∧ L .kb ∧ L .pn ∧ L .can ∧ L .sw ∧
      L .ptp ∧ L .nm ∧ L .sf ∧ L .cp ∧ L .ks ∧ L .up ∧ L .ux) :
    blot L s.allLost = blot L s := by
  simp [State.allLost, blot, h]

@[simp ↓] theorem State.powerOn_blot (strap : Strap) (svc : Bool)
    (h : L .dev ∧ L .vt ∧ L .regs ∧ L .mem ∧ L .shadows ∧ L .plan ∧ L .ao ∧ L .ep ∧ L .wg ∧ L .ic ∧ L .kb ∧ L .pn ∧ L .can ∧ L .sw ∧
      L .ptp ∧ L .nm ∧ L .sf ∧ L .cp ∧ L .ks ∧ L .up ∧ L .ux) :
    blot L (s.powerOn strap svc) = blot L s := by
  unfold State.powerOn
  split <;> simp [h]

@[simp ↓] theorem State.brownOut_blot
    (h : L .dev ∧ L .vt ∧ L .regs ∧ L .mem ∧ L .shadows ∧ L .plan ∧ L .ao ∧ L .ep ∧ L .wg ∧ L .ic ∧ L .kb ∧ L .pn ∧ L .can ∧ L .sw ∧
      L .ptp ∧ L .nm ∧ L .sf ∧ L .cp ∧ L .ks ∧ L .up ∧ L .ux) :
    blot L s.brownOut = blot L s := by
  simp [State.brownOut, h]

@[simp ↓] theorem State.wakeQualified_blot (src : WakeSource) (mv : List (BitVec 16))
    (h : L .now ∧ L .vt ∧ L .regs ∧ L .mem ∧ L .ao ∧ L .ep ∧ L .wg ∧ L .ic ∧ L .can ∧ L .ptp ∧ L .nm) :
    blot L (s.wakeQualified src mv) = blot L s := by
  have hign : ∀ (u : State) v, blot L (u.ignSample v) = blot L u := by simp [State.ignSample, h]
  have hpin : ∀ (u : State) k v, blot L (u.pinSample k v) = blot L u := by simp [State.pinSample, h]
  unfold State.wakeQualified
  split
  · rfl
  · split <;> simp [hign, hpin]

@[simp ↓] theorem State.timerRearm_blot (l : List (Nat × Nat × Nat)) (h : L .regs ∧ L .ao) : blot L (s.timerRearm l) = blot L s := by
  induction l generalizing s with
  | nil => rfl
  | cons p rest ih =>
    unfold State.timerRearm
    split <;> simp [ih, h]

@[simp ↓] theorem State.timerWake_blot (h : L .now ∧ L .vt ∧ L .regs ∧ L .ao ∧ L .ic ∧ L .ptp) : blot L s.timerWake = blot L s := by
  unfold State.timerWake
  split
  · rfl
  · dsimp only
    split <;> simp [h]

@[simp ↓] theorem State.wdtWrite_blot (who : Who) (bytes : Nat) (w : Word)
    (h : L .dev ∧ L .regs ∧ L .mem ∧ L .resp ∧ L .fresh ∧ L .shadows ∧ L .ao ∧ L .ep ∧ L .wg ∧ L .ic ∧ L .kb ∧ L .pn ∧ L .can ∧ L .sw ∧
      L .ptp ∧ L .nm ∧ L .sf ∧ L .cp ∧ L .ks ∧ L .up ∧ L .ux) :
    blot L (s.wdtWrite who bytes w) = blot L s := by
  unfold State.wdtWrite
  refine State.regWrite_blot_of L s _ _ _ _ _ _ _ _ (by simp [h]) fun u hu => ?_
  simp [h, hu]

@[simp ↓] theorem State.fallback_blot (b hwrev code : Nat) (h : L .regs ∧ L .ic ∧ L .ks) :
    blot L (s.fallback b hwrev code).1 = blot L s := by
  unfold State.fallback
  dsimp only
  split
  · simp [h]
  · split <;> simp [h]

@[simp ↓] theorem State.bootPlan_blot (c : Choice) (hwrev : Nat) (h : L .regs ∧ L .fresh ∧ L .ic ∧ L .ks ∧ L .up) :
    blot L (s.bootPlan c hwrev).1 = blot L s := by
  unfold State.bootPlan
  dsimp only
  split
  · rfl
  · split <;> simp [h]

@[simp ↓] theorem State.boot_blot (hwrev : Nat) (tamper : BootTamper) (gen : CsGen)
    (h : L .dev ∧ L .vt ∧ L .regs ∧ L .mem ∧ L .fresh ∧ L .plan ∧ L .ao ∧ L .ep ∧ L .wg ∧ L .ic ∧ L .kb ∧ L .pn ∧ L .can ∧ L .sw ∧
      L .ptp ∧ L .nm ∧ L .sf ∧ L .cp ∧ L .otp ∧ L .ks ∧ L .up) :
    blot L (s.boot hwrev tamper gen) = blot L s := by
  unfold State.boot
  dsimp only
  split <;> simp [h]

/-! ### Underpass -/

@[simp ↓] theorem State.semRequest_blot (who : Who) (bytes k : Nat) (rival : Option Nat) (h : L .regs ∧ L .resp ∧ L .wg ∧ L .ic ∧ L .ux) :
    blot L (s.semRequest who bytes k rival) = blot L s := by
  unfold State.semRequest
  extract_lets d ok loses t code after word
  have ht : blot L t.1 = blot L s := by
    unfold t
    split
    · rfl
    · split <;> simp [h]
  exact State.regRead_blot_of L s _ _ _ _ _ _ (by simp [h]) (by simp [after, h, ht])

@[simp ↓] theorem State.pageRead_blot (who : Who) (bytes a : Nat)
    (h : L .regs ∧ L .resp ∧ L .shadows ∧ L .wg ∧ L .ic ∧ L .can ∧ L .cp ∧ L .ux) :
    blot L (s.pageRead who bytes a) = blot L s := by
  simp [State.pageRead, h]

@[simp ↓] theorem State.busRead_blot (who : Who) (bytes a : Nat)
    (h : L .regs ∧ L .mem ∧ L .resp ∧ L .shadows ∧ L .wg ∧ L .ic ∧ L .can ∧ L .cp ∧ L .ux) :
    blot L (s.busRead who bytes a) = blot L s := by
  unfold State.busRead
  split <;> simp [h]

/-! ### Accesses that can reach a register which starts anything: only the queue stays for certain -/

/-- The state that an option holds, if it holds one, agrees with `s`. -/
def SomeBlot (L : Piece → Bool) (s : State) (o : Option State) : Prop := ∀ t ∈ o, blot L t = blot L s

theorem SomeBlot.none : SomeBlot L s none := by simp [SomeBlot]
theorem SomeBlot.some {L : Piece → Bool} {s t : State} (h : blot L t = blot L s) : SomeBlot L s (some t) := by simpa [SomeBlot] using h
theorem SomeBlot.ite {L : Piece → Bool} {s : State} {a b : Option State} {c : Prop} [Decidable c] (ha : SomeBlot L s a)
    (hb : SomeBlot L s b) : SomeBlot L s (if c then a else b) := by
  split <;> assumption

@[simp] theorem someBlot_some {t : State} : SomeBlot L s (some t) ↔ blot L t = blot L s := by simp [SomeBlot]

theorem State.write0_blot (who : Who) (bytes a : Nat) (w : Word) (h : ∀ p, L p = true) : SomeBlot L s (s.write0 who bytes a w) := by
  unfold State.write0
  (repeat' apply SomeBlot.ite) <;> simp [h, SomeBlot]

theorem State.write4_blot (who : Who) (bytes a : Nat) (w : Word) (now : State → State) (h : ∀ p, L p = true)
    (hnow : ∀ u, blot L (now u) = blot L u) : SomeBlot L s (s.write4 who bytes a w now) := by
  unfold State.write4
  (repeat' apply SomeBlot.ite) <;> simp [h, hnow, SomeBlot]

theorem State.writeA_blot (who : Who) (bytes a : Nat) (w : Word) (h : ∀ p, L p = true) : SomeBlot L s (s.writeA who bytes a w) := by
  unfold State.writeA
  (repeat' apply SomeBlot.ite) <;> simp [h, SomeBlot]

theorem State.writeC_blot (who : Who) (bytes a : Nat) (w : Word) (h : ∀ p, L p = true) : SomeBlot L s (s.writeC who bytes a w) := by
  unfold State.writeC
  (repeat' apply SomeBlot.ite) <;> simp [h, SomeBlot]

theorem State.writeE_blot (who : Who) (bytes a : Nat) (w : Word) (h : ∀ p, L p = true) : SomeBlot L s (s.writeE who bytes a w) := by
  unfold State.writeE
  (repeat' apply SomeBlot.ite) <;> simp [h, SomeBlot]

theorem State.writeF_blot (who : Who) (bytes a : Nat) (w : Word) (h : ∀ p, L p = true) : SomeBlot L s (s.writeF who bytes a w) := by
  unfold State.writeF
  (repeat' apply SomeBlot.ite) <;> simp [h, SomeBlot]

theorem State.ownWrite_blot (who : Who) (bytes a : Nat) (w : Word) (now : State → State) (h : ∀ p, L p = true)
    (hnow : ∀ u, blot L (now u) = blot L u) : SomeBlot L s (s.ownWrite who bytes a w now) := by
  unfold State.ownWrite
  split
  · exact .none L s
  · split
    · exact State.write0_blot L s _ _ _ _ h
    · exact State.write0_blot L s _ _ _ _ h
    · exact State.write0_blot L s _ _ _ _ h
    · exact State.writeA_blot L s _ _ _ _ h
    · exact State.writeA_blot L s _ _ _ _ h
    · exact State.writeC_blot L s _ _ _ _ h
    · exact State.writeC_blot L s _ _ _ _ h
    · exact State.writeE_blot L s _ _ _ _ h
    · exact State.writeF_blot L s _ _ _ _ h
    · exact State.write4_blot L s _ _ _ _ _ h hnow

@[simp ↓] theorem State.pageWrite_blot (now : State → State) (who : Who) (bytes a : Nat) (w : Word) (h : ∀ p, L p = true)
    (hnow : ∀ u, blot L (now u) = blot L u) : blot L (s.pageWrite now who bytes a w) = blot L s := by
  unfold State.pageWrite
  split
  · next t ht => exact State.ownWrite_blot L s who bytes a w now h hnow t ht
  · simp [h]

@[simp ↓] theorem State.busWrite_blot (now : State → State) (who : Who) (a : Nat) (data : List Byte) (h : ∀ p, L p = true)
    (hnow : ∀ u, blot L (now u) = blot L u) : blot L (s.busWrite now who a data) = blot L s := by
  unfold State.busWrite
  split <;> simp [h, hnow]

@[simp ↓] theorem State.ioFetch_blot (who : Who) (n a : Nat) (h : ∀ p, L p = true) : blot L (s.ioFetch who n a) = blot L s := by
  unfold State.ioFetch
  dsimp only
  split <;> simp [h]

@[simp ↓] theorem State.ioAmo_blot (now : State → State) (who : Who) (a : Nat) (data : List Byte) (h : ∀ p, L p = true)
    (hnow : ∀ u, blot L (now u) = blot L u) : blot L (s.ioAmo now who a data) = blot L s := by
  unfold State.ioAmo
  split
  · simp [h, hnow]
  · dsimp only
    split <;> simp [h, hnow]

@[simp ↓] theorem State.busAccess_blot (now : State → State) (who : Who) (k : AccessKind) (a : Nat) (data : List Byte) (h : ∀ p, L p = true)
    (hnow : ∀ u, blot L (now u) = blot L u) : blot L (s.busAccess now who k a data) = blot L s := by
  cases k <;> simp [State.busAccess, h, hnow]

@[simp ↓] theorem State.inIssue_blot (now : State → State) (who : Who) (k : AccessKind) (a : Nat) (data : List Byte) (h : ∀ p, L p = true)
    (hnow : ∀ u, blot L (now u) = blot L u) : blot L (s.inIssue now who k a data).1 = blot L s := by
  simp [State.inIssue, h, hnow]

@[simp ↓] theorem inResult_blot (r : State × (Nat ⊕ Nat)) (posted : Option Nat) (h : ∀ p, L p = true) :
    blot L (inResult r posted) = blot L r.1 := by
  unfold inResult
  split <;> simp [h]

@[simp ↓] theorem State.inAmo_blot (now : State → State) (who : Who) (op : AmoOp) (w : Word) (a : Nat) (h : ∀ p, L p = true)
    (hnow : ∀ u, blot L (now u) = blot L u) : blot L (s.inAmo now who op w a).1 = blot L s := by
  unfold State.inAmo
  split
  · simp [h, hnow]
  · dsimp only
    split <;> simp [h, hnow]

@[simp ↓] theorem State.inAtomic_blot (now : State → State) (who : Who) (district : Nat) (o : UxOp) (a : Nat) (h : ∀ p, L p = true)
    (hnow : ∀ u, blot L (now u) = blot L u) : blot L (s.inAtomic now who district o a) = blot L s := by
  unfold State.inAtomic
  split
  · simp [h]
  split
  · split
    · dsimp only
      split <;> simp [h, hnow]
    · simp [h]
  · split
    · simp [h]
    · split
      · simp [h, hnow]
      · dsimp only
        split <;> simp [h, hnow]
      · rfl

@[simp ↓] theorem State.inbound_blot (now : State → State) (district : Nat) (o : UxOp) (a : Nat) (posted : Option Nat) (h : ∀ p, L p = true)
    (hnow : ∀ u, blot L (now u) = blot L u) : blot L (s.inbound now district o a posted) = blot L s := by
  unfold State.inbound
  split
  · rfl
  split
  · simp [h]
  split
  · simp [h]
  · simp [h]
  · split
    · simp [h]
    · dsimp only
      split <;> simp [h, hnow]

@[simp ↓] theorem State.releaseGate_blot (now : State → State) (p : Nat) (h : ∀ p, L p = true)
    (hnow : ∀ u, blot L (now u) = blot L u) : blot L (s.releaseGate now p) = blot L s := by
  simp [State.releaseGate, State.releaseOne, h, hnow]

@[simp ↓] theorem State.windowClose_blot (now : State → State) (p : Nat) (lead chk : List SigRec) (aWrong bWrong : Bool) (h : ∀ p, L p = true)
    (hnow : ∀ u, blot L (now u) = blot L u) : blot L (s.windowClose now p lead chk aWrong bWrong) = blot L s := by
  simp [State.windowClose, State.windowMatch, h, hnow]

@[simp ↓] theorem State.closeForRestart_blot (p : Nat) (mismatch : Bool) (h : ∀ p, L p = true) :
    blot L (s.closeForRestart p mismatch) = blot L s := by
  simp [State.closeForRestart, h]

@[simp ↓] theorem State.restartBank_blot (h : ∀ p, L p = true) : blot L s.restartBank.1 = blot L s := by
  unfold State.restartBank
  dsimp only
  split
  · simp [h]
  · split
    · simp [h]
    · split <;> simp [h]

@[simp ↓] theorem State.mgmtRestart_blot (mismatch : Nat) (h : ∀ p, L p = true) : blot L (s.mgmtRestart mismatch) = blot L s := by
  simp [State.mgmtRestart, h]

@[simp ↓] theorem State.activate_blot (mismatch : Nat) (h : ∀ p, L p = true) : blot L (State.activate mismatch s) = blot L s := by
  simp [State.activate, h]

@[simp ↓] theorem State.activateOpen_blot (h : ∀ p, L p = true) : blot L s.activateOpen = blot L s := by
  simp [State.activateOpen, h]

end

end Sys2Proof.Machine
end

section
/-! SUPPORT. Every command changes the parts that `touches` lists for it and no others, and ends in a next state. -/

namespace Sys2Proof.Machine

/-! ### The frame of every command -/

/-- The part is one that `touches` lists for the command. -/
def touched (c : Instr) (p : Piece) : Bool := decide (p ∈ touches c)

theorem touched_all {c : Instr} (h : touches c = allPieces) (p : Piece) : touched c p = true := by
  rw [touched, h]
  cases p <;> rfl

/-- The state that an outcome of the command leads to, if it leads to one, differs from `s` in the listed parts alone. -/
def Touches (c : Instr) (s : State) (o : Host.Outcome State Fault Refusal) : Prop :=
  ∀ t, o = .next t → blot (touched c) t = blot (touched c) s

theorem Touches.next {c s t} (h : blot (touched c) t = blot (touched c) s) : Touches c s (.next t) := by
  rintro _ ⟨⟩
  exact h

/-- A command changes the parts that `touches` lists for it alone. Most arms of `exec` are one function, whose `blot` lemma says it; those
that branch, hand a function on, or can start an activation are named. -/
theorem exec_touches (c : Instr) (s : State) : Touches c s (exec c s) := by
  cases c with
  | orderedRelease | pageIn | netTx | rxPost | timerArm | timerExpiry | gateEntryChange | gwyHoldExpiry | inrushWindowEnd
  | bridgeBrakeEnd | feedReturnSwitchOn | lockTimeout | linWakeRestart | keyOpComplete | applyCommit | applyFailure | macsecSaLoadDone
  | faultOutShortRetry =>
    exact .next (by split <;> simp (disch := exact of_decide_eq_true rfl))
  | epeDelivery | slotReplaceCommit =>
    refine .next ?_
    split
    · split <;> simp (disch := exact of_decide_eq_true rfl)
    · rfl
  | timedExecute ep tag =>
    refine .next ?_
    split
    · have hrun : ∀ (u : State) (k : Cmd), blot (touched (.timedExecute ep tag)) (u.timedExecute k) = blot (touched (.timedExecute ep tag)) u :=
        fun u k => by simp (disch := exact of_decide_eq_true rfl)
      simp [hrun]
    · rfl
  | pan | mapSwap | ovlSet | tap => exact .next (State.viewTakes_blot _ _ _ _ _ _ fun u c => by simp (disch := exact of_decide_eq_true rfl))
  | canSetup | canTx | canRx | canState => exact .next (State.canTakes_blot _ _ _ _ _ _ fun u c => by simp (disch := exact of_decide_eq_true rfl))
  | pwrOn | pwrOff | pwrDrive | pwrRead | waitEvent =>
    exact .next (State.kerbTakes_blot _ _ _ _ _ _ rfl rfl rfl rfl fun u c => by simp (disch := exact of_decide_eq_true rfl))
  | pinSet | pinRead | waitChange | linPut | linGet =>
    exact .next (State.pinTakes_blot _ _ _ _ _ _ rfl rfl rfl rfl fun u c => by simp (disch := exact of_decide_eq_true rfl))
  | currentSample | feedFault | feedReturn | linSlotStart | workingKeyCheck =>
    refine .next ?_
    simp (disch := first | exact of_decide_eq_true rfl | exact fun u x => by simp (disch := exact of_decide_eq_true rfl))
  | shedCheck =>
    refine .next ?_
    split
    · simp (disch := first | exact of_decide_eq_true rfl | exact fun u x => by simp (disch := exact of_decide_eq_true rfl))
    · rfl
  | apply | updateAbort | activateAt | confirm => exact .next (State.upCmdWrite_blot _ _ _ _ _ _ (of_decide_eq_true rfl) fun _ => rfl)
  | registerWrite => exact .next (State.busWrite_blot _ _ _ _ _ _ (touched_all rfl) (State.activateOpen_blot _ · (touched_all rfl)))
  | memoryAccess =>
    exact .next ((State.busAccess_blot _ _ _ _ _ _ _ (touched_all rfl) (State.activateOpen_blot _ · (touched_all rfl))).trans
      (by simp (disch := exact of_decide_eq_true rfl)))
  | windowClose => exact .next (State.windowClose_blot _ _ _ _ _ _ _ _ (touched_all rfl) (State.activateOpen_blot _ · (touched_all rfl)))
  | inboundRequest => exact .next (State.inbound_blot _ _ _ _ _ _ _ (touched_all rfl) (State.activateOpen_blot _ · (touched_all rfl)))
  | activateNow => exact .next (State.upCmdWrite_blot _ _ _ _ _ _ (of_decide_eq_true rfl) (State.activate_blot _ · _ (touched_all rfl)))
  | activateAtCommit =>
    refine .next ?_
    split
    · exact (State.activate_blot _ _ _ (touched_all rfl)).trans (by simp (disch := exact of_decide_eq_true rfl))
    · rfl
  | _ => exact .next (by simp (disch := exact of_decide_eq_true rfl))

/-- Settles O51, by the parts that every command touches (`exec_touches`). -/
theorem frameOfEveryCommand : Obligations.FrameOfEveryCommand := by
  unfold Obligations.FrameOfEveryCommand
  intro c s t ht
  have hblot := exec_touches c s t ht
  exact ⟨pending_of_blot hblot, fun p hp => same_of_blot hblot (decide_eq_false hp)⟩

/-! ### The step -/

/-- Settles O45: on an empty queue a step is the passing of one nanosecond. -/
theorem idleStep : Obligations.IdleStep := by
  unfold Obligations.IdleStep
  intro s hq
  refine ⟨s.pass 1, by simp [step, hq], rfl, frame_of_blot_noRegs (by simp) (by simp)⟩

/-- Settles O46: every arm of `exec` answers a next state. -/
theorem everyCommandCompletes : Obligations.EveryCommandCompletes := by
  unfold Obligations.EveryCommandCompletes
  intro c s
  cases c <;> exact ⟨_, rfl⟩

end Sys2Proof.Machine
end

section
/-! SUPPORT. Three statements that fail, each by a state and a command that the model evaluates. -/

namespace Sys2Proof.Machine

/-! ### A write of the mailbox base starts districts (R159, R169) -/

/-- An Active device whose plan names district 3, which waits for SYS_MBOX_BASE. -/
def waitsForBase : State := { State.reset with dev := .active, plan := [⟨1, 0, 0x0201, [3, 0, 0, 0, 0]⟩] }

/-- SYS_MBOX_BASE_LO has no row of its own, and 0x80000000 passes every check of it. -/
theorem waitsForBase_passes :
    waitsForBase.passesChecks (waitsForBase.issuer ⟨8, 0, 0⟩) 4 0x20001010 0x80000000 (waitsForBase.plainHeld 0x20001010)
      (waitsForBase.plainBad 0x20001010 0x80000000) = true := by decide

/-- The word puts the page of district 3 into DRAM, so the district starts. -/
theorem vmRun_of_baseWrite {t : State} (h : exec (.registerWrite ⟨8, 0, 0⟩ 4 0x20001010 0x80000000) waitsForBase = .next t) :
    t.ep.vmRun = [3] := by
  injection h with h
  rw [← h]
  decide

/-- Refutes O1: `plainWord` does not leave out SYS_MBOX_BASE_LO and _HI, whose accepted write starts the districts that wait for the base
(assumption 84), and a district that starts changes the state of the endpoint engine, which the frame of the statement forbids. -/
theorem not_registerAccesses : ¬ Obligations.RegisterAccesses := by
  unfold Obligations.RegisterAccesses
  rintro ⟨hword, -⟩
  obtain ⟨t, hexec, -, -, hframe⟩ := hword waitsForBase ⟨8, 0, 0⟩ 0x20001010 0x80000000
    ⟨0x20001010, [], .district0, [⟨31, 0, .rw, none⟩]⟩ [] (by decide) (by decide) waitsForBase_passes (by decide) (by decide) (by decide)
  have hstarted : t.ep.vmRun = [3] := vmRun_of_baseWrite hexec
  have hsame : t.ep = waitsForBase.ep := hframe.same .ep (by decide)
  rw [hsame] at hstarted
  revert hstarted
  decide

/-! ### A checked write takes its initiator as it stands -/

/-- Refutes O53: its last clause states the record of the initiator as the device counts it (R12), but of a `regWrite` by the initiator as it
stands. Lamplighter with district 5 counts as district 0, and its REJECT_CTRL write is recorded with district 5. -/
theorem not_rejectedWrite : ¬ Obligations.RejectedWrite := by
  unfold Obligations.RejectedWrite
  rintro ⟨-, -, -, hshared⟩
  obtain ⟨-, ⟨-, -, -, hdistrict, -⟩, -⟩ := hshared { State.reset with dev := .active } ⟨8, 5, 0⟩ 0x2000FFF8 1 false false Code.WRONG_STATE id
    ⟨0x2000FFF8, [(0, 16, 65536)], .district0, [⟨0, 0, .rw, none⟩]⟩ [0] (by decide) (by decide) (by decide) (by decide) (by decide)
    (by decide) (by decide) (by decide) (by decide) (by decide) (.inr (by decide))
  revert hdistrict
  decide

/-! ### The abort of a transmission past its commit point (R270) -/

/-- A CAN endpoint's transmission past its commit point. -/
def pastCommit : Cmd := ⟨5, 7, 2, 0, 0, 0, [], .committed, false, false, 0, 0⟩

/-- An abort of it waits for its decision: buffer 0 of channel 0 is ACTIVE for the command, and the attempt has committed. -/
def abortsPastCommit : State :=
  { (State.reset.wr (Fd.CAN_MB_STAT_STATE 0 0) 2).setCan 0 { State.reset.canAt 0 with attempt := some ⟨some 0, 0, some 0⟩ } with
    dev := .active
    ep := { EpState.reset with
      eps := [(5, { Ep.absent with live := true, ty := 1, district := 3, slot := some 1, abortTag := 7, abortCode := Code.BUSY })]
      inflight := [pastCommit] } }

/-- The decision marks the buffer: its abort came late (R270). -/
theorem lateAbort_of_decision {t : State} (h : exec (.abortDecision 5) abortsPastCommit = .next t) :
    (t.buf 0 0).lateAbort = true := by
  injection h with h
  rw [← h]
  decide

/-- Refutes O11: its clause for a command past its commit point lets the endpoint engine alone change, but a CAN transmission, which CAN itself
decides, also has its buffer note that an abort came late (R270), so that a failed attempt is not made again. -/
theorem not_doorbellWrites : ¬ Obligations.DoorbellWrites := by
  unfold Obligations.DoorbellWrites
  rintro ⟨-, -, -, -, -, -, hcommitted, -⟩
  obtain ⟨t, hexec, -, -, hframe⟩ := hcommitted abortsPastCommit 5 pastCommit (by decide) (by decide) (by decide) (by decide) (by decide) rfl
  have hlate : (t.buf 0 0).lateAbort = true := lateAbort_of_decision hexec
  have hsame : t.can = abortsPastCommit.can := hframe.same .can (by decide)
  have hbuf : t.buf 0 0 = abortsPastCommit.buf 0 0 := by simp only [State.buf, State.canAt, hsame]
  rw [hbuf] at hlate
  revert hlate
  decide

end Sys2Proof.Machine
end

section
/-! SUPPORT. Refused accesses to a register page (R42 to R48): the record that a rejection leaves, the reads, and the writes, which all go
through one checked write. -/

namespace Sys2Proof.Machine

/-! ### A recorded rejection -/

theorem State.setReg_frame (s : State) (a : Nat) (w : Word) : Frame s (s.setReg a w) [.regs] (fun b => b = a) :=
  frame_of_blot (by simp) fun _ hb => reg_setReg_ne s a _ w hb

theorem State.level_frame (s : State) (n : Nat) (b : Bool) : Frame s (s.level n b) [.ic] (fun _ => False) :=
  frame_of_blot_noRegs (by simp) (by simp)

/-- The page of a register holds its block's record. -/
theorem State.reject_frame (s : State) (who : Who) (write : Bool) (a code : Nat) :
    Frame s (s.reject (pageBlock a) code who write a) [.regs, .ic] (RejectReg a) :=
  ((s.setReg_frame _ _).mono (by simp) fun _ h => .inl h).trans <|
    ((State.setReg_frame _ _ _).mono (by simp) fun _ h => .inr h).trans <| (State.level_frame _ _ _).noRegs (by simp)

/-- The record's word is the sum of its fields. -/
theorem rejectWord_toNat (twice : Bool) (who : Who) (write : Bool) (a code : Nat) :
    (rejectWord twice who write a code).toNat = 2 ^ 31 + (if twice then 2 ^ 30 else 0) + who.district.toNat * 2 ^ 24 +
      who.initiator.toNat * 2 ^ 19 + (if write then 2 ^ 18 else 0) + (a / 2 ^ 32 % 4) * 2 ^ 16 + code % 2 ^ 16 := by
  have hd := who.district.isLt
  have hi := who.initiator.isLt
  rw [rejectWord, BitVec.toNat_ofNat, Nat.mod_eq_of_lt]
  cases twice <;> cases write <;> simp <;> omega

/-- The fields of LAST_REJECT (R48) in the record's word. -/
theorem getBits_rejectWord (twice : Bool) (who : Who) (write : Bool) (a code : Nat) :
    let v := (rejectWord twice who write a code).toNat
    getBits v 31 31 = 1 ∧ getBits v 30 30 = twice.toNat ∧ getBits v 29 24 = who.district.toNat ∧ getBits v 23 19 = who.initiator.toNat ∧
      getBits v 18 18 = write.toNat ∧ getBits v 15 0 = code % 65536 := by
  have hd := who.district.isLt
  have hi := who.initiator.isLt
  simp only [rejectWord_toNat, getBits, Nat.shiftRight_eq_div_pow]
  cases twice <;> cases write <;> simp <;> omega

theorem State.reject_reg (s : State) (n code : Nat) (who : Who) (write : Bool) (a : Nat) :
    (s.reject n code who write a).reg (Rg.LAST_REJECT n) = rejectWord (s.flag (Fd.LAST_REJECT_VALID n)) who write a code := by
  unfold State.reject
  rw [(State.level_frame _ _ _).reg (by simp), reg_setReg_ne _ _ _ _ (by simp [Rg.LAST_REJECT, Rg.LAST_REJECT_ADDR]), reg_setReg_same]

theorem State.reject_regAddr (s : State) (n code : Nat) (who : Who) (write : Bool) (a : Nat) :
    (s.reject n code who write a).reg (Rg.LAST_REJECT_ADDR n) = BitVec.ofNat 32 (a % 2 ^ 32) := by
  unfold State.reject
  rw [(State.level_frame _ _ _).reg (by simp), reg_setReg_same]

theorem State.reject_shown (s : State) (who : Who) (write : Bool) {a code : Nat} (ha : a < 2 ^ 32) (hcode : code < 65536) :
    RejectShown s (s.reject (pageBlock a) code who write a) who write a code := by
  obtain ⟨hvalid, htwice, hdistrict, hinit, hwrite, hcodeBits⟩ := getBits_rejectWord (s.flag (Fd.LAST_REJECT_VALID (pageBlock a))) who write a code
  have hfield : ∀ hi lo, (s.reject (pageBlock a) code who write a).rd ⟨Rg.LAST_REJECT (pageBlock a), hi, lo⟩ =
      getBits (rejectWord (s.flag (Fd.LAST_REJECT_VALID (pageBlock a))) who write a code).toNat hi lo := fun hi lo => by
    rw [State.rd, State.reject_reg]
  refine ⟨?valid, ?twice, ?codeField, ?district, ?init, ?writeField, ?addr⟩
  case valid => exact (State.flag_iff ..).mpr ((hfield 31 31).trans hvalid)
  case twice =>
    refine (congrArg (· == 1) ((hfield 30 30).trans htwice)).trans ?_
    cases s.flag (Fd.LAST_REJECT_VALID (pageBlock a)) <;> rfl
  case codeField => exact (hfield 15 0).trans (hcodeBits.trans (Nat.mod_eq_of_lt hcode))
  case district => exact (hfield 29 24).trans hdistrict
  case init => exact (hfield 23 19).trans hinit
  case writeField =>
    refine (congrArg (· == 1) ((hfield 18 18).trans hwrite)).trans ?_
    cases write <;> rfl
  case addr =>
    rw [State.reject_regAddr, BitVec.toNat_ofNat]
    omega

/-! ### Reads of a register page -/

theorem range_of_registers {a : Nat} (h : placeOf a = .registers) : 0x20000000 ≤ a ∧ a < 0x20100000 := by
  unfold placeOf at h
  by_cases hlow : a < 0x20000000
  · repeat' split at h
    all_goals first | omega | cases h
  by_cases hhigh : a < 0x20100000
  · exact ⟨by omega, hhigh⟩
  · repeat' split at h
    all_goals first | omega | cases h

/-- Outside the apertures a read of a register page is a checked read, but for the request of a semaphore of the twin. -/
theorem State.pageRead_eq (s : State) (who : Who) (bytes : Nat) {a : Nat} (hap : a < 0x200F8000 ∨ 0x200FC000 ≤ a) :
    (∃ own v effect, s.pageRead who bytes a = s.regRead who bytes a own v effect) ∨ bytes = 4 ∧ ∃ k : Fin 32, a = Rg.UX_TSEM k.val := by
  unfold State.pageRead
  dsimp only
  split
  · next h =>
    have ha : Rg.IC_CLAIM ((a % 0x10000 - 0x2040) / 4) = a := by simp only [Rg.IC_CLAIM]; omega
    exact .inl ⟨_, _, _, by rw [State.claimRead, ha]⟩
  split
  · next h => exact .inl ⟨_, _, _, by rw [State.mramRead, ← h]⟩
  split
  · next h =>
    have ha : Rg.CAN_MB_WIN (a / 0x1000 % 16) ((a % 0x1000 - 0x100) / 4) = a := by simp only [Rg.CAN_MB_WIN]; omega
    exact .inl ⟨_, _, _, by rw [State.mbWindowRead, ha]⟩
  split
  · next h =>
    have ha : Rg.UX_SEM ((a % 0x10000 - 0x400) / 4) = a := by simp only [Rg.UX_SEM]; omega
    exact .inl ⟨_, _, _, by rw [State.semRequest, ha]⟩
  split
  · next h =>
    have ha : Rg.UX_TSEM (Fin.ofNat 32 ((a % 0x10000 - 0x480) / 4)).val = a := by simp only [Rg.UX_TSEM, Fin.ofNat]; omega
    rw [State.twinSemRequest, ha]
    split
    · next h4 => exact .inr ⟨h4.2.2.1, _, ha.symm⟩
    · exact .inl ⟨_, _, _, rfl⟩
  rw [if_neg (by omega)]
  unfold State.plainRead
  dsimp only
  split
  · exact .inl ⟨_, _, _, rfl⟩
  split
  · split <;> exact .inl ⟨_, _, _, rfl⟩
  · exact .inl ⟨_, _, _, rfl⟩

/-- The semaphores of the twin are registers of the map, outside the rejection records. -/
theorem UX_TSEM_decodes (k : Fin 32) : (RegMap.at (Rg.UX_TSEM k.val)).isSome = true ∧ isRejectReg (Rg.UX_TSEM k.val) = false := by
  revert k
  decide

/-- A read of the register pages by any initiator. -/
theorem exec_rcFieldRead_registers (s : State) (who : Who) (bytes : Nat) {a : BitVec 34} (h : placeOf a.toNat = .registers) :
    exec (.rcFieldRead who bytes a) s = .next (s.pageRead (s.issuer who) bytes a.toNat) := by
  change Host.Outcome.next (s.busRead (s.issuer who) bytes a.toNat) = _
  rw [State.busRead, h]

/-- A rejection register answers 0 to every district but 0, and records nothing (R48). -/
theorem State.regRead_rejectReg (s : State) (who : Who) (a v : Nat) (own : Option Bool) (effect : State → State)
    (hreach : s.reaches who a = true) (hwait : s.gateWait who = false) (hword : a % 4 = 0) (hpower : s.gated (pageBlock a) = false)
    (hrej : isRejectReg a = true) (hd : who.district ≠ 0) : s.regRead who 4 a own v effect = { s with resp := .data 0 } := by
  unfold State.regRead
  cases hm : RegMap.at a with
  | none => simp [hreach, hwait, hword, hpower]
  | some p =>
    simp only [hreach, hwait, hword, hpower, hrej, Bool.not_true, Bool.false_eq_true, or_self, if_false, ne_eq, not_true, Bool.true_and,
      bne_iff_ne.mpr hd, Bool.and_false, if_true]

/-- A reader without the right, whether by the rights of the register or by an object that an endpoint holds. -/
theorem State.plainRead_refused (s : State) (who : Who) {a : Nat} {r : RegRow} {x : List Nat}
    (hreach : s.reaches who a = true) (hwait : s.gateWait who = false) (hword : a % 4 = 0) (hpower : s.gated (pageBlock a) = false)
    (hm : RegMap.at a = some (r, x)) (hrej : isRejectReg a = false) (hright : s.mayRead who r a = false) :
    s.plainRead who 4 a = { s.reject (pageBlock a) Code.NOT_OWNER who false a with resp := .data 0 } := by
  have hread : ∀ v effect, s.regRead who 4 a (if s.heldBufReg a then some false else none) v effect =
      { s.reject (pageBlock a) Code.NOT_OWNER who false a with resp := .data 0 } := by
    intro v effect
    cases s.heldBufReg a
    · exact s.regRead_refused who a v effect hreach hwait hword hpower hm hrej hright
    · unfold State.regRead
      simp [hreach, hwait, hword, hpower, hm, hrej]
  unfold State.plainRead
  dsimp only
  split
  · exact hread ..
  split
  · split <;> exact hread ..
  · exact hread ..

/-- The registers whose read is an operation of its own apart, a read is a plain one. -/
theorem State.pageRead_of_readsPlainly (s : State) (who : Who) (bytes : Nat) {a : Nat} (h : readsPlainly a = true) :
    s.pageRead who bytes a = s.plainRead who bytes a := by
  simp only [readsPlainly, Bool.and_eq_true, Bool.not_eq_true', Bool.and_eq_false_iff, decide_eq_false_iff_not, bne_iff_ne] at h
  obtain ⟨⟨⟨⟨⟨⟨hclaim, hmram⟩, hwin⟩, hsem⟩, hap⟩, -⟩, -⟩ := h
  unfold State.pageRead
  dsimp only
  rw [if_neg (by omega), if_neg hmram, if_neg (by omega), if_neg (by omega), if_neg (by omega), if_neg (by omega)]

theorem State.reject_resp_frame (s : State) (who : Who) (write : Bool) (a code : Nat) (r : Resp) :
    Frame s { s.reject (pageBlock a) code who write a with resp := r } [.regs, .ic, .resp] (RejectReg a) :=
  ((s.reject_frame who write a code).widen (by simp)).trans ((State.setResp_frame _ r).noRegs (by simp))

/-- Settles O54: outside the apertures every read but the request of a twin semaphore is one checked read, and it refuses. -/
theorem refusedRead : Obligations.RefusedRead := by
  unfold Obligations.RefusedRead
  refine ⟨?reserved, ?noRight, ?rejectReg⟩
  case reserved =>
    intro s who a hplace hreach hword hpower hnone hap hwait
    refine ⟨_, exec_rcFieldRead_registers s who 4 hplace, ?_⟩
    rcases s.pageRead_eq (s.issuer who) 4 hap with ⟨own, v, effect, hread⟩ | ⟨-, k, hk⟩
    · rw [hread, s.regRead_reserved _ _ v own effect hreach hwait hword hpower hnone]
      exact ⟨rfl, s.setResp_frame _⟩
    · have hsome := (UX_TSEM_decodes k).1
      rw [← hk, hnone] at hsome
      cases hsome
  case noRight =>
    intro s who a r x hplace hreach hword hpower hm hright hrej hplain hwait
    refine ⟨_, exec_rcFieldRead_registers s who 4 hplace, ?_⟩
    rw [s.pageRead_of_readsPlainly _ 4 hplain, s.plainRead_refused _ hreach hwait hword hpower hm hrej hright]
    have ha := range_of_registers hplace
    exact ⟨rfl, s.reject_shown _ false (by omega) (by decide), s.reject_resp_frame _ false _ _ _⟩
  case rejectReg =>
    intro s who a hplace hreach hword hpower hrej hd hwait
    refine ⟨_, exec_rcFieldRead_registers s who 4 hplace, ?_⟩
    have hap : a.toNat < 0x200F8000 ∨ 0x200FC000 ≤ a.toNat := by
      simp only [isRejectReg, Bool.and_eq_true, decide_eq_true_eq] at hrej
      omega
    rcases s.pageRead_eq (s.issuer who) 4 hap with ⟨own, v, effect, hread⟩ | ⟨-, k, hk⟩
    · rw [hread, s.regRead_rejectReg _ _ v own effect hreach hwait hword hpower hrej hd]
      exact ⟨rfl, s.setResp_frame _⟩
    · rw [hk, (UX_TSEM_decodes k).2] at hrej
      cases hrej

/-! ### Writes of a register page -/

/-- `t` is what a checked write of the register at `a` leaves, unless the write passes its checks, when the function may do more. -/
def Checked (s : State) (who : Who) (bytes a : Nat) (w : Word) (t : State) : Prop :=
  ∃ held bad refuse effect, s.passesChecks who bytes a w held bad = false → t = s.regWrite who bytes a w held bad refuse effect

theorem Checked.of_regWrite {s : State} {who : Who} {bytes a b : Nat} {w : Word} {held bad : Bool} {refuse : Nat} {effect : State → State}
    (h : b = a) : Checked s who bytes a w (s.regWrite who bytes b w held bad refuse effect) := ⟨held, bad, refuse, effect, fun _ => by rw [h]⟩

theorem Checked.of_passes {s : State} {who : Who} {bytes a : Nat} {w : Word} {held bad : Bool} {t : State}
    (h : s.passesChecks who bytes a w held bad = true) : Checked s who bytes a w t :=
  ⟨held, bad, Code.DONE, id, fun hfails => by rw [h] at hfails; cases hfails⟩

section
variable (s : State) (who : Who) (bytes : Nat) (w : Word)

/-! The three functions that look at the checks themselves. -/

theorem State.chCtrlWrite_checked {n a : Nat} (ha : Rg.PD_CH_CTRL n = a) : Checked s who bytes a w (s.chCtrlWrite who bytes n w) := by
  subst ha
  unfold State.chCtrlWrite
  dsimp only
  split
  · next h => exact .of_passes h
  · exact .of_regWrite rfl

theorem State.ttCfgWrite_checked {k a : Nat} (ha : Rg.CAN_TT_CFG k = a) : Checked s who bytes a w (s.ttCfgWrite who bytes k w) := by
  subst ha
  unfold State.ttCfgWrite
  dsimp only
  split
  · exact .of_regWrite rfl
  split
  · next h => exact .of_passes (Bool.and_eq_true_iff.mp h).1
  · exact .of_regWrite rfl

theorem State.twinSemWrite_checked {k : Fin 32} {a : Nat} (ha : Rg.UX_TSEM k.val = a) : Checked s who bytes a w (s.twinSemWrite who bytes k w) := by
  subst ha
  unfold State.twinSemWrite
  split
  · next h => exact .of_passes h.1
  · exact .of_regWrite rfl

end

/-- What the dispatch answers for the register at `a`, if anything, is `Checked`. -/
def OwnChecked (s : State) (who : Who) (bytes a : Nat) (w : Word) (o : Option State) : Prop := ∀ t, o = some t → Checked s who bytes a w t

section
variable {s : State} {who : Who} {bytes a : Nat} {w : Word}

theorem OwnChecked.none : OwnChecked s who bytes a w none := fun _ h => by cases h
theorem OwnChecked.some {t : State} (h : Checked s who bytes a w t) : OwnChecked s who bytes a w (some t) := fun _ ht => by
  injection ht with ht
  exact ht ▸ h
theorem OwnChecked.ite {p : Prop} [Decidable p] {o o' : Option State} (h : p → OwnChecked s who bytes a w o)
    (h' : OwnChecked s who bytes a w o') : OwnChecked s who bytes a w (if p then o else o') := by
  split
  · next hp => exact h hp
  · exact h'

theorem State.write0_checked (ha : a % 4 = 0) : OwnChecked s who bytes a w (s.write0 who bytes a w) := by
  unfold State.write0
  refine .ite (fun h => .some (by unfold State.epCmdWrite; exact .of_regWrite h.symm)) ?_
  refine .ite (fun h => .some (by unfold State.ep0Write; exact .of_regWrite h.symm)) ?_
  refine .ite (fun h => .some (by unfold State.ep0Write; exact .of_regWrite h.symm)) ?_
  refine .ite (fun h => .some (by unfold State.devResetWrite; exact .of_regWrite h.symm)) ?_
  refine .ite (fun h => .some (by unfold State.sleepWrite; exact .of_regWrite h.symm)) ?_
  refine .ite (fun h => .some (by unfold State.wakeTimerWrite; exact .of_regWrite h.symm)) ?_
  refine .ite (fun h => .some (by unfold State.wdtWrite; exact .of_regWrite h.symm)) ?_
  refine .ite (fun h => .some (by unfold State.powerWrite; exact .of_regWrite h.symm)) ?_
  refine .ite (fun h => .some (by unfold State.logStageWrite; exact .of_regWrite (by simp only [Rg.AO_LOG_STAGE]; omega))) ?_
  refine .ite (fun h => .some (by unfold State.srcCfgWrite; exact .of_regWrite (by simp only [Rg.IC_SRC_CFG]; omega))) ?_
  refine .ite (fun h => .some (by unfold State.targetCtrlWrite; exact .of_regWrite (by simp only [Rg.IC_TARGET_CTRL]; omega))) ?_
  refine .ite (fun h => .some (by unfold State.claimWrite; exact .of_regWrite (by simp only [Rg.IC_CLAIM]; omega))) ?_
  refine .ite (fun h => .some (by unfold State.completeWrite; exact .of_regWrite (by simp only [Rg.IC_COMPLETE]; omega))) ?_
  exact .none

theorem cpEntry_addr (ha : a % 4 = 0) (h : 0x20040020 ≤ a ∧ a < 0x20040040) :
    (if a % 8 == 4 then Rg.CP_ENTRY_HI (a / 8 % 4) else Rg.CP_ENTRY_LO (a / 8 % 4)) = a := by
  simp only [Rg.CP_ENTRY_HI, Rg.CP_ENTRY_LO, beq_iff_eq]
  split <;> omega

theorem State.write4_checked {now : State → State} (ha : a % 4 = 0) : OwnChecked s who bytes a w (s.write4 who bytes a w now) := by
  unfold State.write4
  refine .ite (fun h => .some (by unfold State.pairCtrlWrite; exact .of_regWrite (by simp only [Rg.CP_PAIR_CTRL]; omega))) ?_
  refine .ite (fun h => .some (by unfold State.cpEntryWrite; exact .of_regWrite (cpEntry_addr ha h))) ?_
  refine .ite (fun h => .some (by unfold State.faultOutWrite; exact .of_regWrite h.symm)) ?_
  refine .ite (fun h => .some (by unfold State.bankWrite; exact .of_regWrite h.symm)) ?_
  refine .ite (fun h => .some (by unfold State.reserveWrite; exact .of_regWrite h.symm)) ?_
  refine .ite (fun h => .some (by unfold State.provLockWrite; exact .of_regWrite h.symm)) ?_
  refine .ite (fun h => .some (by unfold State.upCmdWrite; exact .of_regWrite h.symm)) ?_
  refine .ite (fun h => .some (by unfold State.upSrcWrite; exact .of_regWrite (by simp only [Rg.UP_SRC_LO, Rg.UP_SRC_LEN] at h ⊢; omega))) ?_
  refine .ite (fun h => .some (by unfold State.upTimeWrite; exact .of_regWrite h.symm)) ?_
  refine .ite (fun h => .some (by unfold State.upTimeWrite; exact .of_regWrite h.symm)) ?_
  refine .ite (fun h => .some (by unfold State.upModeWrite; exact .of_regWrite h.symm)) ?_
  refine .ite (fun h => .some (by unfold State.fdbCmdWrite; exact .of_regWrite h.symm)) ?_
  refine .ite (fun h => .some (by unfold State.msCtrlWrite; exact .of_regWrite (by simp only [Rg.SW_MS_CTRL]; omega))) ?_
  refine .ite (fun h => .some (by unfold State.saLoadWrite; exact .of_regWrite (by simp only [Rg.SW_MS_SA_LOAD]; omega))) ?_
  refine .ite (fun h => .some (by unfold State.asCfgWrite; exact .of_regWrite (by simp only [Rg.SQ_AS_PORT_CFG]; omega))) ?_
  refine .ite (fun h => .some (by unfold State.streamSelWrite; exact .of_regWrite h.symm)) ?_
  exact .none

theorem State.ovlWrite_checked (ha : a % 4 = 0) (h : 0x200A0100 ≤ a ∧ a < 0x200A0140) : Checked s who bytes a w
    (if a % 8 = 0 then s.ovlLoWrite who bytes (a / 8 % 8) w else s.ovlHiWrite who bytes (a / 8 % 8) w) := by
  split
  · unfold State.ovlLoWrite
    exact .of_regWrite (by simp only [Rg.SF_OVL_BASE_LO]; omega)
  · unfold State.ovlHiWrite
    exact .of_regWrite (by simp only [Rg.SF_OVL_BASE_HI]; omega)

theorem State.writeA_checked (ha : a % 4 = 0) : OwnChecked s who bytes a w (s.writeA who bytes a w) := by
  unfold State.writeA
  refine .ite (fun h => .some (by unfold State.camTimingWrite; exact .of_regWrite (by simp only [Rg.SF_CAM_TIMING]; omega))) ?_
  refine .ite (fun h => .some (by unfold State.camCtrlWrite; exact .of_regWrite (by simp only [Rg.SF_CAM_CTRL]; omega))) ?_
  refine .ite (fun h => .some (by unfold State.i2cWrite; exact .of_regWrite (by simp only [Rg.SF_CAM_I2C]; omega))) ?_
  refine .ite (fun h => .some (State.ovlWrite_checked ha h)) ?_
  refine .ite (fun h => .some (by unfold State.tapCfgWrite; exact .of_regWrite (by simp only [Rg.SF_TAP_CFG]; omega))) ?_
  refine .ite (fun h => .some (by unfold State.integStateWrite; exact .of_regWrite (by simp only [Rg.SF_INTEG_STATE]; omega))) ?_
  refine .ite (fun h => .some (by unfold State.pocWrite; exact .of_regWrite (by simp only [Rg.SF_POC]; omega))) ?_
  refine .ite (fun h => .some (by unfold State.heartbeatWrite; exact .of_regWrite h.symm)) ?_
  refine .ite (fun h => .some (s.chCtrlWrite_checked who bytes w (by simp only [Rg.PD_CH_CTRL]; omega))) ?_
  refine .ite (fun h => .some (by unfold State.laybyCtrlWrite; exact .of_regWrite h.symm)) ?_
  exact .none

/-- The registers of the CAN controllers, at the offset `off` in the page of controller `k`. -/
theorem State.canWrite_checked (ha : a % 4 = 0) (h : 0x200C0000 ≤ a ∧ a < 0x200C8000) : OwnChecked s who bytes a w
    (if a % 0x1000 = 0 then some (s.canModeWrite who bytes (a / 0x1000 % 16) w)
    else if a % 0x1000 = 0x020 then some (s.ttCfgWrite who bytes (a / 0x1000 % 16) w)
    else if a % 0x1000 = 0x024 then some (s.ttRefWrite who bytes (a / 0x1000 % 16) w)
    else if a % 0x1000 = 0x0C0 then some (s.mbSelWrite who bytes (a / 0x1000 % 16) w)
    else if 0x100 ≤ a % 0x1000 ∧ a % 0x1000 < 0x148 then some (s.mbWindowWrite who bytes (a / 0x1000 % 16) ((a % 0x1000 - 0x100) / 4) w)
    else if 0x200 ≤ a % 0x1000 ∧ a % 0x1000 < 0x400 then some (s.mbCfgWrite who bytes (a / 0x1000 % 16) ((a % 0x1000 - 0x200) / 4) w)
    else if 0xA00 ≤ a % 0x1000 ∧ a % 0x1000 < 0xC00 then some (s.mbCtrlWrite who bytes (a / 0x1000 % 16) ((a % 0x1000 - 0xA00) / 4) w)
    else Option.none) := by
  refine .ite (fun h => .some (by unfold State.canModeWrite; exact .of_regWrite (by simp only [Rg.CAN_MODE]; omega))) ?_
  refine .ite (fun h => .some (s.ttCfgWrite_checked who bytes w (by simp only [Rg.CAN_TT_CFG]; omega))) ?_
  refine .ite (fun h => .some (by unfold State.ttRefWrite; exact .of_regWrite (by simp only [Rg.CAN_TT_REF]; omega))) ?_
  refine .ite (fun h => .some (by unfold State.mbSelWrite; exact .of_regWrite (by simp only [Rg.CAN_MB_SEL]; omega))) ?_
  refine .ite (fun h => .some (by unfold State.mbWindowWrite; exact .of_regWrite (by simp only [Rg.CAN_MB_WIN]; omega))) ?_
  refine .ite (fun h => .some (by unfold State.mbCfgWrite; exact .of_regWrite (by simp only [Rg.CAN_MB_CFG]; omega))) ?_
  refine .ite (fun h => .some (by unfold State.mbCtrlWrite; exact .of_regWrite (by simp only [Rg.CAN_MB_CTRL]; omega))) ?_
  exact .none

theorem State.writeC_checked (ha : a % 4 = 0) (hpage : 0x20000000 ≤ a ∧ a < 0x20100000) : OwnChecked s who bytes a w (s.writeC who bytes a w) := by
  unfold State.writeC
  refine .ite (fun h => State.canWrite_checked ha (by simp only [pageBlock] at h; omega)) ?_
  refine .ite (fun h => .some (by unfold State.trxCtrlWrite; exact .of_regWrite (by simp only [Rg.NM_TRX_CTRL]; omega))) ?_
  refine .ite (fun h => .some (by unfold State.swkWrite; exact .of_regWrite rfl)) ?_
  refine .ite (fun h => .some (by unfold State.swkWrite; exact .of_regWrite rfl)) ?_
  refine .ite (fun h => .some (by unfold State.ringCtrlWrite; exact .of_regWrite (by simp only [Rg.NM_RING_CTRL]; omega))) ?_
  refine .ite (fun h => .some (by unfold State.ethCtrlWrite; exact .of_regWrite (by simp only [Rg.NM_ETH_CTRL]; omega))) ?_
  exact .none

theorem State.writeE_checked (ha : a % 4 = 0) : OwnChecked s who bytes a w (s.writeE who bytes a w) := by
  unfold State.writeE
  refine .ite (fun h => .some (by unfold State.pinOutWrite; exact .of_regWrite (by simp only [Rg.PIN_OUT]; omega))) ?_
  refine .ite (fun hlin => ?_) .none
  refine .ite (fun h => .some (by unfold State.linCtrlWrite; exact .of_regWrite (by simp only [Rg.LIN_CTRL]; omega))) ?_
  refine .ite (fun h => .some (by unfold State.linFrameCfgWrite; exact .of_regWrite (by simp only [Rg.LIN_FRAME_CFG]; omega))) ?_
  refine .ite (fun h => .some (by unfold State.linDataWrite; exact .of_regWrite rfl)) ?_
  exact .none

theorem outWin_addr (ha : a % 4 = 0) (h : 0x200F0100 ≤ a ∧ a < 0x200F0140) :
    (if a % 8 == 4 then Rg.UX_OUT_WIN_HI (a / 8 % 8) else Rg.UX_OUT_WIN_LO (a / 8 % 8)) = a := by
  simp only [Rg.UX_OUT_WIN_HI, Rg.UX_OUT_WIN_LO, beq_iff_eq]
  split <;> omega

theorem State.writeF_checked (ha : a % 4 = 0) (hap : a < 0x200F8000 ∨ 0x200FC000 ≤ a) : OwnChecked s who bytes a w (s.writeF who bytes a w) := by
  unfold State.writeF
  refine .ite (fun h => .some (by unfold State.outWinWrite; exact .of_regWrite (outWin_addr ha h))) ?_
  refine .ite (fun h => .some (by unfold State.inWinWrite; exact .of_regWrite (by simp only [Rg.UX_IN_WIN_BASE]; omega))) ?_
  refine .ite (fun h => .some (by unfold State.semWrite; exact .of_regWrite (by simp only [Rg.UX_SEM]; omega))) ?_
  refine .ite (fun h => .some (s.twinSemWrite_checked who bytes w (by simp only [Rg.UX_TSEM, Fin.ofNat]; omega))) ?_
  refine .ite (fun h => .some (by unfold State.semGranWrite; exact .of_regWrite (by simp only [Rg.UX_SEM_GRAN]; omega))) ?_
  refine .ite (fun h => .some (by unfold State.takeoverWrite; exact .of_regWrite (by simp only [Rg.UX_TAKEOVER]; omega))) ?_
  exact .ite (fun h => by omega) .none

/-- Outside the apertures every write of a register page is a checked write, wherever it goes. -/
theorem State.pageWrite_checked (now : State → State) (hpage : 0x20000000 ≤ a ∧ a < 0x20100000) (hap : a < 0x200F8000 ∨ 0x200FC000 ≤ a) :
    Checked s who bytes a w (s.pageWrite now who bytes a w) := by
  have hplain : Checked s who bytes a w (s.plainWrite who bytes a w) := .of_regWrite rfl
  have hown : OwnChecked s who bytes a w (s.ownWrite who bytes a w now) := by
    unfold State.ownWrite
    split
    · exact .none
    · next h =>
      have ha : a % 4 = 0 := by
        by_contra hna
        exact h ⟨hna, by simp; omega⟩
      split
      · exact State.write0_checked ha
      · exact State.write0_checked ha
      · exact State.write0_checked ha
      · exact State.writeA_checked ha
      · exact State.writeA_checked ha
      · exact State.writeC_checked ha hpage
      · exact State.writeC_checked ha hpage
      · exact State.writeE_checked ha
      · exact State.writeF_checked ha hap
      · exact State.write4_checked ha
  unfold State.pageWrite
  split
  · next t ht => exact hown t ht
  · exact hplain

end

/-! ### Bad size -/

theorem leader_of_reject {s t : State} {a : Nat} {parts : List Piece} (h : Frame s t parts (RejectReg a)) (c : Nat) (hc : c < 8) :
    t.leader c = s.leader c :=
  leader_of_frame h (fun p hp hreg => by
    simp only [RejectReg, Fd.CP_PAIR_STATUS_STATE, Rg.LAST_REJECT, Rg.LAST_REJECT_ADDR] at hreg
    omega) c hc

/-- The record is shown by registers alone. -/
theorem RejectShown.of_regs {s t u : State} {who : Who} {write : Bool} {a code : Nat} (h : RejectShown s t who write a code)
    (hu : u.regs = t.regs) : RejectShown s u who write a code := by
  simpa only [RejectShown, State.flag, State.rd, State.reg, hu] using h

/-- An access of a bad size is recorded, takes the access fault of a core, and ends in a bus error. -/
theorem State.badSize_spec (s : State) (who : Who) (write : Bool) {a : Nat} (ha : a < 2 ^ 32) (cause : Nat) :
    let t := { (s.reject (pageBlock a) Code.BAD_SIZE who write a).coreFault who cause with resp := .busError }
    RejectShown s t who write a Code.BAD_SIZE ∧ (who.initiator.toNat < 8 → (t.hart (s.leader who.initiator.toNat)).excCause = cause) ∧
      Frame s t [.regs, .ic, .wg, .resp] (RejectReg a) := by
  have hrec := s.reject_frame who write a Code.BAD_SIZE
  have hfault : Frame (s.reject (pageBlock a) Code.BAD_SIZE who write a)
      { (s.reject (pageBlock a) Code.BAD_SIZE who write a).coreFault who cause with resp := .busError } [.wg, .resp] (fun _ => False) :=
    frame_of_blot_noRegs (by simp) (by simp)
  refine ⟨?_, fun hc => ?_, ?_⟩
  · exact RejectShown.of_regs (s.reject_shown who write ha (by decide)) (hfault.same .regs (by decide))
  · change (((s.reject (pageBlock a) Code.BAD_SIZE who write a).coreFault who cause).hart _).excCause = cause
    rw [State.coreFault, if_pos hc, leader_of_reject hrec _ hc]
    dsimp only
    rw [State.setHart_hart_same]
  · exact (hrec.widen (by simp)).trans (hfault.noRegs (by simp))

theorem State.regWrite_badSize (s : State) (who : Who) {bytes a : Nat} (w : Word) (held bad : Bool) (refuse : Nat) (effect : State → State)
    (hreach : s.reaches who a = true) (hgate : s.toGate who a = false) (hwait : s.gateWait who = false) (hpower : s.gated (pageBlock a) = false)
    (hrej : isRejectReg a = false) (hsize : bytes ≠ 4 ∨ a % 4 ≠ 0) :
    s.regWrite who bytes a w held bad refuse effect =
      { (s.reject (pageBlock a) Code.BAD_SIZE who true a).coreFault who 7 with resp := .busError } := by
  unfold State.regWrite
  simp [hreach, hgate, hwait, hpower, hrej, hsize]

theorem State.regRead_badSize (s : State) (who : Who) {bytes a : Nat} (own : Option Bool) (v : Nat) (effect : State → State)
    (hreach : s.reaches who a = true) (hwait : s.gateWait who = false) (hpower : s.gated (pageBlock a) = false)
    (hsize : bytes ≠ 4 ∨ a % 4 ≠ 0) :
    s.regRead who bytes a own v effect =
      { (s.reject (pageBlock a) Code.BAD_SIZE who false a).coreFault who 5 with resp := .busError } := by
  unfold State.regRead
  simp [hreach, hwait, hpower, hsize]

theorem State.passesChecks_badSize (s : State) (who : Who) {bytes a : Nat} (w : Word) (held bad : Bool) (hsize : bytes ≠ 4 ∨ a % 4 ≠ 0) :
    s.passesChecks who bytes a w held bad = false := by
  rw [Bool.eq_false_iff]
  intro h
  obtain ⟨-, -, -, hbytes, hword, -⟩ := (s.passesChecks_iff who bytes a w held bad).mp h
  omega

theorem length_leBytes (n v : Nat) : (leBytes n v).length = n := by
  induction n generalizing v with
  | zero => rfl
  | succ n ih => simp [leBytes, ih]

theorem exec_registerWrite_registers (s : State) (who : Who) (bytes : Nat) {a : BitVec 34} (w : Word) (h : placeOf a.toNat = .registers)
    (hreach : s.reaches (s.issuer who) a.toNat = true) :
    ∃ v, exec (.registerWrite who bytes a w) s = .next (s.pageWrite State.activateOpen (s.issuer who) bytes a.toNat v) := by
  refine ⟨BitVec.ofNat 32 (leNat (leBytes bytes w.toNat)), ?_⟩
  change Host.Outcome.next (s.busWrite State.activateOpen (s.issuer who) a.toNat (leBytes bytes w.toNat)) = _
  rw [State.busWrite, h]
  dsimp only
  rw [if_pos hreach, length_leBytes]

/-- Settles O52: whatever function a write or a read goes to, it is one checked access, whose first check is the size. -/
theorem unalignedAccess : Obligations.UnalignedAccess := by
  unfold Obligations.UnalignedAccess
  refine ⟨?write, ?read⟩
  case write =>
    intro s who bytes a w hplace hreach hpower hrej hap hsize hgate hwait
    have hpage := range_of_registers hplace
    obtain ⟨v, hexec⟩ := exec_registerWrite_registers s who bytes.val w hplace hreach
    obtain ⟨held, bad, refuse, effect, hwrite⟩ :=
      State.pageWrite_checked (s := s) (who := s.issuer who) (bytes := bytes.val) (w := v) State.activateOpen hpage hap
    have hspec := s.badSize_spec (s.issuer who) true (by omega : a.toNat < 2 ^ 32) 7
    refine ⟨_, hexec, ?_⟩
    rw [hwrite (s.passesChecks_badSize _ v held bad hsize), s.regWrite_badSize _ v held bad refuse effect hreach hgate hwait hpower hrej hsize]
    exact ⟨rfl, hspec⟩
  case read =>
    intro s who bytes a hplace hreach hpower hrej hap hsize hwait
    have hpage := range_of_registers hplace
    have hspec := s.badSize_spec (s.issuer who) false (by omega : a.toNat < 2 ^ 32) 5
    refine ⟨_, exec_rcFieldRead_registers s who bytes hplace, ?_⟩
    rcases s.pageRead_eq (s.issuer who) bytes hap with ⟨own, v, effect, hread⟩ | ⟨hbytes, k, hk⟩
    · rw [hread, s.regRead_badSize _ own v effect hreach hwait hpower hsize]
      exact ⟨rfl, hspec⟩
    · simp only [Rg.UX_TSEM] at hk
      omega

end Sys2Proof.Machine
end

section
/-! SUPPORT. Lamplighter (chapter 04): the frames of a field's write and of the AO state, what stays where MAIN is off, and the supply's events. -/

namespace Sys2Proof.Machine

/-! ### Frames of single updates -/

theorem State.wr_frame (s : State) (f : Fld) (v : Nat) : Frame s (s.wr f v) [.regs] (fun a => a = f.addr) := s.setReg_frame _ _
theorem State.setFlag_frame (s : State) (f : Fld) (b : Bool) : Frame s (s.setFlag f b) [.regs] (fun a => a = f.addr) := s.setReg_frame _ _

/-- The state with the AO state replaced, and with the device's state replaced: the two updates that most of Lamplighter's commands end in. -/
def State.setAo (s : State) (x : AoState) : State := { s with ao := x }
def State.setDev (s : State) (d : DevState) : State := { s with dev := d }

theorem State.setAo_frame (s : State) (x : AoState) : Frame s (s.setAo x) [.ao] (fun _ => False) :=
  frame_of_blot_noRegs (by simp) (by simp [State.setAo])
theorem State.setDev_frame (s : State) (d : DevState) : Frame s (s.setDev d) [.dev] (fun _ => False) :=
  frame_of_blot_noRegs (by simp) (by simp [State.setDev])

@[simp] theorem State.setAo_ao (s : State) (x : AoState) : (s.setAo x).ao = x := rfl
@[simp] theorem State.setAo_dev (s : State) (x : AoState) : (s.setAo x).dev = s.dev := rfl
@[simp] theorem State.setAo_reg (s : State) (x : AoState) (a : Nat) : (s.setAo x).reg a = s.reg a := rfl
@[simp] theorem State.setAo_rd (s : State) (x : AoState) (f : Fld) : (s.setAo x).rd f = s.rd f := rfl
@[simp] theorem State.setAo_flag (s : State) (x : AoState) (f : Fld) : (s.setAo x).flag f = s.flag f := rfl
@[simp] theorem State.setDev_dev (s : State) (d : DevState) : (s.setDev d).dev = d := rfl
@[simp] theorem State.setDev_ao (s : State) (d : DevState) : (s.setDev d).ao = s.ao := rfl
@[simp] theorem State.setDev_reg (s : State) (d : DevState) (a : Nat) : (s.setDev d).reg a = s.reg a := rfl
@[simp] theorem State.setDev_rd (s : State) (d : DevState) (f : Fld) : (s.setDev d).rd f = s.rd f := rfl
@[simp] theorem State.setDev_flag (s : State) (d : DevState) (f : Fld) : (s.setDev d).flag f = s.flag f := rfl

/-- The level of source 48 follows AO_WAKE_CAUSE: Crossing alone changes. -/
theorem State.wakeLevel_frame (s : State) : Frame s s.wakeLevel [.ic] (fun _ => False) := s.level_frame _ _

@[simp] theorem State.wakeLevel_dev (s : State) : s.wakeLevel.dev = s.dev := s.wakeLevel_frame.same .dev (by simp)
@[simp] theorem State.wakeLevel_ao (s : State) : s.wakeLevel.ao = s.ao := s.wakeLevel_frame.same .ao (by simp)
@[simp] theorem State.wakeLevel_reg (s : State) (a : Nat) : s.wakeLevel.reg a = s.reg a := s.wakeLevel_frame.reg id
@[simp] theorem State.wakeLevel_rd (s : State) (f : Fld) : s.wakeLevel.rd f = s.rd f := s.wakeLevel_frame.rd id
@[simp] theorem State.wakeLevel_flag (s : State) (f : Fld) : s.wakeLevel.flag f = s.flag f := by simp [State.flag]

theorem flag_of_frame {s t : State} {parts : List Piece} {regs : Nat → Prop} (h : Frame s t parts regs) {f : Fld} (hf : ¬ regs f.addr) :
    t.flag f = s.flag f := by
  simp only [State.flag, h.rd hf]

theorem rd_setFlag_apart (s : State) (f g : Fld) (b : Bool) (ha : g.addr = f.addr) (h : f.lo ≤ f.hi) (h31 : f.hi ≤ 31)
    (hd : g.hi < f.lo ∨ f.hi < g.lo) : (s.setFlag f b).rd g = s.rd g := rd_wr_apart _ _ _ _ ha h h31 hd
theorem flag_wr_ne (s : State) (f g : Fld) (v : Nat) (h : g.addr ≠ f.addr) : (s.wr f v).flag g = s.flag g := by
  simp only [State.flag, rd_wr_ne _ _ _ _ h]
theorem flag_setFlag_ne (s : State) (f g : Fld) (b : Bool) (h : g.addr ≠ f.addr) : (s.setFlag f b).flag g = s.flag g := flag_wr_ne _ _ _ _ h

/-- Every part but one. -/
abbrev allBut (p : Piece) : Piece → Bool := fun q => decide (q ≠ p)

/-- A part is the same in two states that agree once all but it is blotted out. -/
theorem same_of_allBut {s t : State} (p : Piece) (h : blot (allBut p) t = blot (allBut p) s) : p.same s t :=
  same_of_blot h (by simp)

/-! ### Power-on and brown-out (R71, R81) -/

/-- Memory that only flash keeps (Table 04-1). -/
theorem State.allLost_byte (s : State) (a : Nat) :
    s.allLost.byte a = if 0x40000000 ≤ a ∧ a < 0x60000000 then s.byte a else 0 := by
  refine (tget_filter memReset s.mem (fun k => decide (0x40000000 ≤ k) && decide (k < 0x60000000)) a).trans ?_
  simp only [Bool.and_eq_true, decide_eq_true_eq]
  split
  · rfl
  · next h => exact if_neg h

theorem strapCode_lt (x : Strap) : strapCode x < 8 := by cases x <;> decide

/-- The registers that a power-on writes, over their reset values. -/
def State.powerOnRegs (s : State) (strap : Strap) (svc brown : Bool) : State :=
  (((((s.wr Fd.AO_STATE_REDUCED 1).wr Fd.AO_WAKE_CAUSE_POWER_ON 1).setFlag Fd.AO_RESET_CAUSE_BOR brown).wr Fd.SYS_X_STATUS_STRAP
    (strapCode strap)).setFlag Fd.SYS_X_STATUS_SVC svc)

theorem State.powerOn_eq (s : State) (strap : Strap) (svc : Bool) (h : s.dev = .off) :
    s.powerOn strap svc = ((s.allLost.setDev .standby).powerOnRegs strap svc (s.ao.causes.contains 2)).setAo
      { s.allLost.ao with underVolt := true, causes := [1], wdtKick := s.now } := by
  simp only [State.powerOn, h, ne_eq, not_true, if_false]
  rfl

theorem State.powerOnRegs_shown (s : State) (strap : Strap) (svc brown : Bool) :
    (s.powerOnRegs strap svc brown).flag Fd.AO_WAKE_CAUSE_POWER_ON = true ∧ (s.powerOnRegs strap svc brown).flag Fd.AO_STATE_REDUCED = true ∧
      (s.powerOnRegs strap svc brown).flag Fd.AO_RESET_CAUSE_BOR = brown ∧
      (s.powerOnRegs strap svc brown).rd Fd.SYS_X_STATUS_STRAP = strapCode strap ∧
      (s.powerOnRegs strap svc brown).flag Fd.SYS_X_STATUS_SVC = svc := by
  unfold State.powerOnRegs
  refine ⟨?_, ?_, ?_, ?_, flag_setFlag _ _ _ rfl (by decide)⟩
  · simp (disch := decide) only [flag_setFlag_ne, flag_wr_ne, flag_wr_one]
  · simp (disch := decide) only [flag_setFlag_ne, flag_wr_ne, flag_wr_one]
  · simp (disch := decide) only [flag_setFlag_ne, flag_wr_ne, flag_setFlag]
  · rw [rd_setFlag_apart _ _ Fd.SYS_X_STATUS_STRAP _ (by decide) (by decide) (by decide) (by decide), rd_wr_same _ _ _ (by decide) (by decide)]
    exact Nat.mod_eq_of_lt (strapCode_lt strap)

theorem State.powerOnRegs_reg_ne (s : State) (strap : Strap) (svc brown : Bool) (a : Nat) (hwake : a ≠ Rg.AO_WAKE_CAUSE)
    (hreset : a ≠ Rg.AO_RESET_CAUSE) (hstate : a ≠ Rg.AO_STATE) (hx : a ≠ Rg.SYS_X_STATUS) : (s.powerOnRegs strap svc brown).reg a = s.reg a := by
  unfold State.powerOnRegs
  rw [reg_setFlag_ne _ _ _ _ hx, reg_wr_ne _ _ _ _ hx, reg_setFlag_ne _ _ _ _ hreset, reg_wr_ne _ _ _ _ hwake, reg_wr_ne _ _ _ _ hstate]

theorem State.powerOnRegs_frame (s : State) (strap : Strap) (svc brown : Bool) :
    Frame s (s.powerOnRegs strap svc brown) [.regs] (fun _ => True) :=
  frame_of_blot (by simp [State.powerOnRegs]) fun _ h => absurd trivial h

/-- What stands where nothing is powered but what flash and OTP keep. -/
structure AllLost (s t : State) : Prop where
  otp : t.otp = s.otp
  pending : t.pending = s.pending
  units : UnitsReset t
  byte : ∀ a, t.byte a = if 0x40000000 ≤ a ∧ a < 0x60000000 then s.byte a else 0

theorem State.allLost_spec (s : State) : AllLost s s.allLost :=
  ⟨rfl, rfl, ⟨rfl, rfl, rfl, rfl, rfl, rfl, rfl, rfl, rfl, rfl, rfl⟩, s.allLost_byte⟩

/-- The device's state, registers and AO state are no part of it. -/
theorem AllLost.of_frame {s t u : State} (h : AllLost s t) {regs : Nat → Prop} (hf : Frame t u [.dev, .regs, .ao] regs) : AllLost s u := by
  obtain ⟨hep, hic, hkb, hpn, hcan, hsw, hptp, hnm, hsf, hcp, hux⟩ := h.units
  exact
    { otp := (hf.same .otp (by simp)).trans h.otp
      pending := hf.1.trans h.pending
      units := ⟨(hf.same .ep (by simp)).trans hep, (hf.same .ic (by simp)).trans hic, (hf.same .kb (by simp)).trans hkb,
        (hf.same .pn (by simp)).trans hpn, (hf.same .can (by simp)).trans hcan, (hf.same .sw (by simp)).trans hsw,
        (hf.same .ptp (by simp)).trans hptp, (hf.same .nm (by simp)).trans hnm, (hf.same .sf (by simp)).trans hsf,
        (hf.same .cp (by simp)).trans hcp, (hf.same .ux (by simp)).trans hux⟩
      byte := fun a => (hf.byte (by simp) a).trans (h.byte a) }

theorem State.allLost_reg (s : State) (a : Nat) : s.allLost.reg a = regReset a := rfl

theorem State.powerOn_allLost (s : State) (strap : Strap) (svc : Bool) (h : s.dev = .off) : AllLost s (s.powerOn strap svc) := by
  have hframe : Frame s.allLost (s.powerOn strap svc) [.dev, .regs, .ao] (fun _ => True) := by
    rw [s.powerOn_eq strap svc h]
    exact ((State.setDev_frame _ _).noRegs (by simp)).trans <| ((State.powerOnRegs_frame _ strap svc _).widen (by simp)).trans <|
      (State.setAo_frame _ _).noRegs (by simp)
  exact s.allLost_spec.of_frame hframe

theorem State.brownOut_eq (s : State) (h : s.dev ≠ .off) : s.brownOut = s.allLost.setAo { s.allLost.ao with causes := [2] } := by
  rw [State.brownOut, if_neg h]
  rfl

/-! ### The supply's return and the crystal (R71, R77) -/

theorem State.boots_eq (s : State) (b : Nat) : s.boots b = s.setAo { s.ao with booting := true, causes := CausesOr s.ao.causes b } := by
  simp [State.boots, State.setAo, CausesOr]
theorem State.bootsWith_eq (s : State) (b : Nat) : s.bootsWith b = s.setAo { s.ao with booting := true, causes := insertNat s.ao.causes b } := rfl

/-- The bit of AO_WAKE_CAUSE is set, and Crossing told. -/
def State.wakeBit (s : State) (f : Fld) : State := (s.wr f 1).wakeLevel

@[simp] theorem State.wakeBit_dev (s : State) (f : Fld) : (s.wakeBit f).dev = s.dev := by simp [State.wakeBit]
@[simp] theorem State.wakeBit_ao (s : State) (f : Fld) : (s.wakeBit f).ao = s.ao := by simp [State.wakeBit]
theorem State.wakeBit_frame (s : State) (f : Fld) : Frame s (s.wakeBit f) [.regs, .ic] (fun a => a = f.addr) :=
  ((s.wr_frame f 1).widen (by simp)).trans ((State.wakeLevel_frame _).noRegs (by simp))
theorem State.wakeBit_flag (s : State) (f : Fld) (h : f.lo = f.hi) (h31 : f.hi ≤ 31) : (s.wakeBit f).flag f = true :=
  (State.wakeLevel_flag _ _).trans (flag_wr_one _ _ h h31)

theorem State.wakeBit_setAo_frame (s : State) (f : Fld) (x : AoState) :
    Frame s ((s.wakeBit f).setAo x) [.regs, .ao, .ic] (fun a => a = f.addr) :=
  ((s.wakeBit_frame f).widen (by simp)).trans ((State.setAo_frame _ x).noRegs (by simp))

/-- What the supply's return leaves of the AO state: no low supply, and outside Active a boot. -/
def State.returned (s : State) : AoState :=
  if s.dev = .active then { s.ao with underVolt := false }
  else { s.ao with
    underVolt := false, booting := true, causes := if s.ao.lossBoot then insertNat s.ao.causes 5 else CausesOr s.ao.causes 7 }

theorem State.supplyReturn_eq (s : State) (h : s.dev ≠ .off) :
    s.supplyReturn = (s.wakeBit Fd.AO_WAKE_CAUSE_SUPPLY_RETURN).setAo s.returned := by
  have hlow : s.supplyReturn =
      if ((s.wakeBit Fd.AO_WAKE_CAUSE_SUPPLY_RETURN).setAo { s.ao with underVolt := false }).dev = .active then
        (s.wakeBit Fd.AO_WAKE_CAUSE_SUPPLY_RETURN).setAo { s.ao with underVolt := false }
      else if s.ao.lossBoot then ((s.wakeBit Fd.AO_WAKE_CAUSE_SUPPLY_RETURN).setAo { s.ao with underVolt := false }).bootsWith 5
      else ((s.wakeBit Fd.AO_WAKE_CAUSE_SUPPLY_RETURN).setAo { s.ao with underVolt := false }).boots 7 := by
    rw [State.supplyReturn, if_neg h, ← (State.wakeBit_ao s Fd.AO_WAKE_CAUSE_SUPPLY_RETURN)]
    rfl
  rw [hlow, State.setAo_dev, State.wakeBit_dev, State.boots_eq, State.bootsWith_eq, State.returned]
  split
  · rfl
  · split <;> rfl

/-! ### MAIN off (R16, R75, R81, R89) -/

/-- What an AO state keeps where MAIN is off. -/
def AoState.mainOff (a : AoState) : AoState := { a with sleepDue := none, clkGated := [], pwrGated := [], dspLine := [] }

theorem State.mainOff_ao (s : State) : s.mainOff.ao = s.ao.mainOff := by
  unfold State.mainOff
  extract_lets t u v
  have h : v.ao = s.ao := same_of_allBut .ao <| by
    unfold v u t
    simp
  exact congrArg AoState.mainOff h

/-- The uncommitted log of the state is committed. -/
def State.logCommitted (s : State) : State := s.setAo { s.ao.commitLog s.ao.logOpen with logOpen := [] }

/-! ### The supply-loss sequence (R76, R87, R88) -/

/-- The device with every channel off, the last words written, the log committed, the last heartbeat sent, and MAIN and Kerbside off. -/
def State.lossOff (s : State) (feedA feedB : Nat) : State :=
  (((s.allOff.lastWords 1 feedA feedB s.vt).logCommitted.sayLast false true).mainOff.kerbLost.resetRegs 0x200B0000 0x200C0000).setDev .standby

theorem State.lossOff_blot (L : Piece → Bool) (s : State) (feedA feedB : Nat)
    (h : L .dev ∧ L .regs ∧ L .mem ∧ L .fresh ∧ L .shadows ∧ L .ao ∧ L .ep ∧ L .wg ∧ L .ic ∧ L .kb ∧ L .pn ∧ L .can ∧ L .sw ∧ L .ptp ∧ L .nm ∧
      L .sf ∧ L .cp ∧ L .ks ∧ L .up ∧ L .ux) : blot L (s.lossOff feedA feedB) = blot L s := by
  simp [State.lossOff, State.logCommitted, State.setDev, State.setAo, h]

theorem State.lossOff_logOpen (s : State) (feedA feedB : Nat) : (s.lossOff feedA feedB).ao.logOpen = [] := by
  have hsay : ((s.allOff.lastWords 1 feedA feedB s.vt).logCommitted.sayLast false true).ao = (s.allOff.lastWords 1 feedA feedB s.vt).logCommitted.ao :=
    same_of_allBut .ao (by simp)
  change ((s.allOff.lastWords 1 feedA feedB s.vt).logCommitted.sayLast false true).mainOff.ao.logOpen = []
  rw [State.mainOff_ao, hsay]
  rfl

/-- The reduced device after a supply-loss sequence: the AO state remembers the loss, and no boot is due. -/
def State.lossReduced (s : State) : State :=
  (s.wr Fd.AO_STATE_REDUCED 1).setAo { s.ao with lossBoot := true, booting := false, causes := s.ao.causes.filter (· != 7) }

theorem State.lossReduced_logOpen (s : State) : s.lossReduced.ao.logOpen = s.ao.logOpen := rfl
theorem State.lossReduced_booting (s : State) : s.lossReduced.ao.booting = false := rfl

theorem State.lossReduced_frame (s : State) : Frame s s.lossReduced [.regs, .ao, .ic] (fun a => a = Rg.AO_STATE) :=
  ((s.wr_frame Fd.AO_STATE_REDUCED 1).widen (by simp)).trans ((State.setAo_frame _ _).noRegs (by simp))

theorem State.lossOff_dev (s : State) (feedA feedB : Nat) : (s.lossOff feedA feedB).dev = .standby := rfl
theorem State.lossOff_kb (s : State) (feedA feedB : Nat) : (s.lossOff feedA feedB).kb = KbState.reset := rfl
theorem State.lossOff_ep (s : State) (feedA feedB : Nat) : (s.lossOff feedA feedB).ep = EpState.reset := rfl

/-- What the supply, back or away, leaves of a reduced device. -/
def State.afterLoss (u : State) (supply : SupplyBack) : State :=
  match supply with
  | .back => (u.wakeBit Fd.AO_WAKE_CAUSE_SUPPLY_RETURN).setAo { u.ao with underVolt := false, booting := true, causes := insertNat u.ao.causes 5 }
  | .away => u.setAo { u.ao with underVolt := true }

theorem State.afterLoss_frame (u : State) (supply : SupplyBack) : Frame u (u.afterLoss supply) [.regs, .ao, .ic] (fun a => a = Rg.AO_WAKE_CAUSE) := by
  cases supply with
  | back => exact u.wakeBit_setAo_frame _ _
  | away => exact (u.setAo_frame _).noRegs (by simp)

theorem State.supplyLoss_eq (s : State) (feedA feedB : Nat) (supply : SupplyBack) (h : s.dev = .active ∨ s.dev = .standby) :
    s.supplyLoss feedA feedB supply = (s.lossOff feedA feedB).lossReduced.afterLoss supply := by
  have hon : ¬ (s.dev = .off ∨ s.dev = .parked) := by
    rcases h with h | h <;> simp [h]
  unfold State.supplyLoss
  rw [if_neg hon]
  extract_lets time said _ logged off _ reset _ _ reduced
  have hlogged : logged = said.logCommitted := rfl
  have hreset : reset = (off.resetRegs 0x200B0000 0x200C0000).setDev .standby := rfl
  have hreduced : reduced = reset.lossReduced := rfl
  have hoff : reset = s.lossOff feedA feedB := by
    rw [hreset]
    unfold off
    rw [hlogged]
    rfl
  rw [← hoff, ← hreduced]
  clear_value reduced
  cases supply <;> rfl

/-- The reduced device stands until the supply is back or away. -/
structure LossReduced (s u : State) : Prop where
  dev : u.dev = .standby
  kb : u.kb = KbState.reset
  ep : u.ep = EpState.reset
  otp : u.otp = s.otp
  plan : u.plan = s.plan
  pending : u.pending = s.pending
  logOpen : u.ao.logOpen = []
  booting : u.ao.booting = false
  reduced : u.flag Fd.AO_STATE_REDUCED = true

theorem State.lossReduced_spec (s : State) (feedA feedB : Nat) : LossReduced s (s.lossOff feedA feedB).lossReduced :=
  have hframe := (s.lossOff feedA feedB).lossReduced_frame
  have hloss := s.lossOff_blot (fun p => p ≠ .otp ∧ p ≠ .plan) feedA feedB (by simp)
  { dev := (hframe.same .dev (by simp)).trans (s.lossOff_dev _ _)
    kb := (hframe.same .kb (by simp)).trans (s.lossOff_kb _ _)
    ep := (hframe.same .ep (by simp)).trans (s.lossOff_ep _ _)
    otp := (hframe.same .otp (by simp)).trans (same_of_blot (p := .otp) hloss (by simp))
    plan := (hframe.same .plan (by simp)).trans (same_of_blot (p := .plan) hloss (by simp))
    pending := hframe.1.trans (pending_of_blot hloss)
    logOpen := (State.lossReduced_logOpen _).trans (s.lossOff_logOpen _ _)
    booting := State.lossReduced_booting _
    reduced := (State.setAo_flag ..).trans (flag_wr_one _ _ rfl (by decide)) }

/-! ### The statement -/

/-- Settles O3, event by event: each is one update of registers and AO state over a state whose powered parts are lost (`AllLost`,
`LossReduced`) or stay (`wakeBit_setAo_frame`). -/
theorem supplyEvents : Obligations.SupplyEvents := by
  unfold Obligations.SupplyEvents
  refine ⟨?powerOn, ?brownOut, ?supplyReturn, ?supplyLoss, ?crystal⟩
  case powerOn =>
    intro s strap svc h
    obtain ⟨hotp, hpending, hunits, hbyte⟩ := s.powerOn_allLost strap svc h
    refine ⟨s.powerOn strap svc, rfl, ?_⟩
    have hdev : (s.powerOn strap svc).dev = .standby := by
      rw [s.powerOn_eq strap svc h]
      exact (State.setAo_dev ..).trans <| ((s.allLost.setDev .standby).powerOnRegs_frame strap svc _).same .dev (by simp)
    have hreg := (s.allLost.setDev .standby).powerOnRegs_reg_ne strap svc (s.ao.causes.contains 2)
    obtain ⟨hon, hreduced, hbor, hstrap, hsvc⟩ := (s.allLost.setDev .standby).powerOnRegs_shown strap svc (s.ao.causes.contains 2)
    refine ⟨hdev, ?_, ?_, ?_, ?_, ?_, ?_, ?_, hotp, hpending, hunits, fun a hwake hreset hstate hx => ?_, hbyte⟩ <;>
      rw [s.powerOn_eq strap svc h]
    · exact (State.setAo_flag ..).trans hon
    · exact (State.setAo_flag ..).trans hreduced
    · rw [State.setAo_flag, hbor, List.contains_iff_mem]
    · exact (State.setAo_rd ..).trans hstrap
    · exact (State.setAo_flag ..).trans hsvc
    · rfl
    · rfl
    · rw [State.setAo_reg, hreg a hwake hreset hstate hx, State.setDev_reg, State.allLost_reg]
  case brownOut =>
    intro s h
    have hframe : Frame s.allLost s.brownOut [.dev, .regs, .ao] (fun _ => False) := by
      rw [s.brownOut_eq h]
      exact (State.setAo_frame _ _).noRegs (by simp)
    obtain ⟨hotp, hpending, hunits, hbyte⟩ := s.allLost_spec.of_frame hframe
    refine ⟨s.brownOut, rfl, ?_⟩
    rw [s.brownOut_eq h] at hotp hpending hunits hbyte ⊢
    exact ⟨rfl, hotp, hpending, hunits, rfl, s.allLost_reg, hbyte⟩
  case supplyReturn =>
    intro s h
    refine ⟨s.supplyReturn, rfl, ?_⟩
    rw [s.supplyReturn_eq h]
    refine ⟨s.wakeBit_flag _ rfl (by decide), ?_, fun ha => ?_, fun ha => ?_, s.wakeBit_setAo_frame _ _⟩
    · simp only [State.setAo_ao, State.returned]
      split <;> rfl
    · simp [State.returned, ha]
    · simp [State.returned, ha]
  case supplyLoss =>
    intro s a b supply h
    refine ⟨s.supplyLoss a.toNat b.toNat supply, rfl, ?_⟩
    rw [s.supplyLoss_eq _ _ supply h]
    have hu := s.lossReduced_spec a.toNat b.toNat
    generalize (s.lossOff a.toNat b.toNat).lossReduced = u at hu ⊢
    have hframe := u.afterLoss_frame supply
    refine ⟨(hframe.same .dev (by simp)).trans hu.dev, (flag_of_frame hframe (by decide)).trans hu.reduced, (hframe.same .kb (by simp)).trans hu.kb,
      (hframe.same .ep (by simp)).trans hu.ep, ?_, (hframe.same .otp (by simp)).trans hu.otp, (hframe.same .plan (by simp)).trans hu.plan, ?_, ?_, ?_,
      hframe.1.trans hu.pending⟩
    all_goals cases supply <;> simp [State.afterLoss, mem_insertNat, hu.logOpen, hu.booting]
  case crystal =>
    intro s h
    refine ⟨s.wr Fd.AO_STATE_LP_OK 1, ?_, flag_wr_one _ _ rfl (by decide), s.wr_frame _ _⟩
    change Host.Outcome.next (if s.dev = .off then s else s.wr Fd.AO_STATE_LP_OK 1) = _
    rw [if_neg h]

end Sys2Proof.Machine
end

section
/-! SUPPORT. A local wake (R288) works on the CAN controllers and the media of the Curfew rings: it writes no register below their pages. -/

namespace Sys2Proof.Machine

/-! ### Registers below the pages of CAN and NM -/

/-- The registers below the page of the CAN controllers are the same in both states. -/
def LowKept (s t : State) : Prop := ∀ a, a < 0x200C0000 → t.reg a = s.reg a

theorem LowKept.refl (s : State) : LowKept s s := fun _ _ => rfl
theorem LowKept.trans {s t u : State} (h : LowKept s t) (k : LowKept t u) : LowKept s u := fun a ha => (k a ha).trans (h a ha)
theorem LowKept.wr {s t : State} {f : Fld} {v : Nat} (h : LowKept s t) (hf : 0x200C0000 ≤ f.addr) : LowKept s (t.wr f v) :=
  h.trans fun a ha => reg_wr_ne _ _ _ _ (by omega)
/-- Whatever leaves the register file alone. -/
theorem LowKept.quiet {s t u : State} (h : LowKept s t) (hb : blot (fun p => decide (p ≠ .regs)) u = blot (fun p => decide (p ≠ .regs)) t) :
    LowKept s u := by
  have hregs : u.regs = t.regs := same_of_blot (p := .regs) hb (by simp)
  exact h.trans fun a _ => congrArg (tget regReset · a) hregs
theorem LowKept.ite {s t u : State} {p : Prop} {_ : Decidable p} (h : LowKept s t) (h' : LowKept s u) : LowKept s (if p then t else u) := by
  split
  · exact h
  · exact h'
theorem LowKept.forAll {α : Type} (l : List α) {f : State → α → State} {s t : State} (h : LowKept s t) (hf : ∀ u x, LowKept u (f u x)) :
    LowKept s (forAll l f t) :=
  h.trans (forAll_keeps (LowKept t) l f (fun u x hu => hu.trans (hf u x)) t (.refl t))
theorem LowKept.count {s t : State} {a sat b : Nat} (h : LowKept s t) (ha : 0x200C0000 ≤ a) (hs : 0x200C0000 ≤ sat) :
    LowKept s (t.count a sat b) :=
  h.trans fun r hr => t.count_reg_ne a sat b r (by omega) (by omega)

section
variable {s t : State} {k b m : Nat}

/-! ### CAN -/

theorem LowKept.txEnd {code time : Nat} (h : LowKept s t) : LowKept s (t.txEnd k b code time) := by
  unfold State.txEnd
  extract_lets held _ u v
  have hu : LowKept s u := h.quiet (by simp [u])
  have hv : LowKept s v := (hu.wr (by simp only [Fd.CAN_MB_STAT_STATE]; omega)).wr (by simp only [Fd.CAN_MB_STAT_CODE]; omega)
  split
  · exact hv
  · exact hv.quiet (by simp)

theorem LowKept.tryDropped (h : LowKept s t) : LowKept s (t.tryDropped k) := by
  unfold State.tryDropped
  split
  · exact h.quiet (by simp)
  · extract_lets _ u
    have hu : LowKept s u := h.quiet (by simp [u])
    have hv : ∀ b, LowKept s (u.wr (Fd.CAN_MB_STAT_STATE k b) 1) := fun b => hu.wr (by simp only [Fd.CAN_MB_STAT_STATE]; omega)
    split
    · exact hu
    · next b _ =>
      refine .ite hu (.ite hu.txEnd (.ite hu.txEnd ?_))
      dsimp only
      split
      · exact (hv b).quiet (by simp)
      · exact hv b

theorem LowKept.trxSleep (h : LowKept s t) : LowKept s (t.trxSleep k) := by
  unfold State.trxSleep
  refine .ite ?_ h
  have hw := (h.tryDropped (k := k)).wr (f := Fd.NM_TRX_CTRL_STATE k) (v := 1) (by simp only [Fd.NM_TRX_CTRL_STATE]; omega)
  exact hw.quiet (by simp)

theorem LowKept.trxNormal (h : LowKept s t) : LowKept s (t.trxNormal k) := by
  unfold State.trxNormal
  refine .ite ?_ h
  have hw := h.wr (f := Fd.NM_TRX_CTRL_STATE k) (v := 0) (by simp only [Fd.NM_TRX_CTRL_STATE]; omega)
  exact hw.quiet (by simp)

/-! ### Media -/

theorem LowKept.medEvent {c : Nat} (h : LowKept s t) : LowKept s (t.medEvent m c) := by
  unfold State.medEvent
  have hc : LowKept s (t.count (Rg.NM_MED_EVENT m c) (Rg.NM_MED_SAT m) c) :=
    h.count (by simp only [Rg.NM_MED_EVENT]; omega) (by simp only [Rg.NM_MED_SAT]; omega)
  exact hc.quiet (by simp)

theorem LowKept.setMed {v : Nat} (h : LowKept s t) : LowKept s (t.setMed m v) :=
  .wr (.ite (h.quiet (by simp)) h) (by simp only [Fd.NM_MED_STATUS_STATE]; omega)

theorem LowKept.setToken {b : Bool} (h : LowKept s t) : LowKept s (t.setToken m b) := h.wr (by simp only [Fd.NM_MED_STATUS_TOKEN]; omega)

theorem LowKept.medStart (h : LowKept s t) : LowKept s (t.medStart m) :=
  (LowKept.setToken (m := m) (b := false) (h.setMed (m := m) (v := 1))).quiet (by simp [State.medStart])

theorem LowKept.medStop (h : LowKept s t) : LowKept s (t.medStop m) :=
  (h.setToken (m := m) (b := false)).quiet (by simp [State.medStop])

theorem LowKept.curfewCommit (h : LowKept s t) : LowKept s (t.curfewCommit m) := by
  unfold State.curfewCommit
  refine .ite ?_ h
  have hr : LowKept s (t.reach ((t.medium m).bellAt + wbsTime)) := h.quiet (by simp)
  exact .ite hr.medStop.setMed.trxSleep hr.medStop.setMed

theorem LowKept.duePast (h : LowKept s t) : LowKept s (t.duePast m) := .ite h.curfewCommit h

theorem LowKept.mediumWakes (h : LowKept s t) : LowKept s (t.mediumWakes m) :=
  .ite h (.ite h.trxNormal.medStart ((h.medStart (m := m)).quiet (by simp)))

theorem LowKept.consentFalls {r : Nat} (h : LowKept s t) : LowKept s (t.consentFalls r) := by
  refine .forAll _ h fun u m => ?_
  have hdue : LowKept u (u.duePast m) := (LowKept.refl u).duePast
  dsimp only
  split
  · exact (hdue.quiet (by simp)).medEvent
  · exact hdue.medStart.medEvent
  · exact hdue.medEvent.mediumWakes
  · exact hdue

theorem State.localWake_lowKept (s : State) (j : Nat) : LowKept s (s.localWake j) :=
  .forAll _ (.refl s) fun u r => .ite (((LowKept.refl u).wr (by simp only [Fd.NM_RING_CTRL_CONSENT]; omega)).consentFalls) (.refl u)

end

end Sys2Proof.Machine
end

section
/-! SUPPORT. Wakes and sleep (R72 to R78, R93): what a qualified wake does, one LP cycle of an input, the wake timer and the sleep request. -/

namespace Sys2Proof.Machine

/-! ### A qualified wake (R72, R73, R76) -/

/-- Beside its bit, a qualified wake ends a sleep request in Active, and is due to boot a device that sleeps above MAIN_UV. -/
theorem State.qualifiedWake_eq (s : State) (b : Nat) :
    s.qualifiedWake b =
      if s.dev = .active then
        if s.ao.sleepDue.isSome then
          ((s.wakeBit (bitOf Rg.AO_WAKE_CAUSE b)).setAo { s.ao with sleepDue := none }).wr Fd.AO_SLEEP_RESULT Code.WAKE_PENDING
        else s.wakeBit (bitOf Rg.AO_WAKE_CAUSE b)
      else if s.dev = .off ∨ s.ao.underVolt = true then s.wakeBit (bitOf Rg.AO_WAKE_CAUSE b)
      else (s.wakeBit (bitOf Rg.AO_WAKE_CAUSE b)).setAo { s.ao with booting := true, causes := CausesOr s.ao.causes 7 } := by
  have hu : s.qualifiedWake b =
      match (s.wakeBit (bitOf Rg.AO_WAKE_CAUSE b)).dev with
      | .active =>
        if (s.wakeBit (bitOf Rg.AO_WAKE_CAUSE b)).ao.sleepDue.isSome then
          ((s.wakeBit (bitOf Rg.AO_WAKE_CAUSE b)).setAo { (s.wakeBit (bitOf Rg.AO_WAKE_CAUSE b)).ao with sleepDue := none }).wr Fd.AO_SLEEP_RESULT
            Code.WAKE_PENDING
        else s.wakeBit (bitOf Rg.AO_WAKE_CAUSE b)
      | .parked => if (s.wakeBit (bitOf Rg.AO_WAKE_CAUSE b)).ao.underVolt then s.wakeBit (bitOf Rg.AO_WAKE_CAUSE b)
        else (s.wakeBit (bitOf Rg.AO_WAKE_CAUSE b)).boots 7
      | .standby => if (s.wakeBit (bitOf Rg.AO_WAKE_CAUSE b)).ao.underVolt then s.wakeBit (bitOf Rg.AO_WAKE_CAUSE b)
        else (s.wakeBit (bitOf Rg.AO_WAKE_CAUSE b)).boots 7
      | .off => s.wakeBit (bitOf Rg.AO_WAKE_CAUSE b) := by
    unfold State.qualifiedWake
    rfl
  rw [hu, State.wakeBit_dev, State.wakeBit_ao, State.boots_eq, State.wakeBit_ao]
  cases s.dev <;> simp

theorem State.qualifiedWake_flag (s : State) {b : Nat} (hb : b ≤ 31) : (s.qualifiedWake b).flag (bitOf Rg.AO_WAKE_CAUSE b) = true := by
  have hbit : (s.wakeBit (bitOf Rg.AO_WAKE_CAUSE b)).flag (bitOf Rg.AO_WAKE_CAUSE b) = true := s.wakeBit_flag _ rfl hb
  rw [s.qualifiedWake_eq]
  split
  · split
    · exact (flag_wr_ne _ _ _ _ (by simp only [bitOf, Rg.AO_WAKE_CAUSE, Fd.AO_SLEEP_RESULT]; decide)).trans hbit
    · exact hbit
  · split <;> exact hbit

/-- In Active the result of AO_SLEEP may change as well. -/
theorem State.qualifiedWake_frame (s : State) (b : Nat) :
    Frame s (s.qualifiedWake b) [.regs, .ao, .ic] (fun a => a = Rg.AO_WAKE_CAUSE ∨ a = Rg.AO_SLEEP ∧ s.dev = .active) := by
  have hbit : Frame s (s.wakeBit (bitOf Rg.AO_WAKE_CAUSE b)) [.regs, .ao, .ic] (fun a => a = Rg.AO_WAKE_CAUSE ∨ a = Rg.AO_SLEEP ∧ s.dev = .active) :=
    (s.wakeBit_frame _).mono (by simp) fun _ => .inl
  have hao : ∀ x, Frame s ((s.wakeBit (bitOf Rg.AO_WAKE_CAUSE b)).setAo x) [.regs, .ao, .ic] (fun a => a = Rg.AO_WAKE_CAUSE ∨ a = Rg.AO_SLEEP ∧ s.dev = .active) :=
    fun x => hbit.trans ((State.setAo_frame _ x).noRegs (by simp))
  rw [s.qualifiedWake_eq]
  split
  · next hactive =>
    split
    · exact (hao _).trans ((State.wr_frame _ _ _).mono (by simp) fun a ha => .inr ⟨ha, hactive⟩)
    · exact hbit
  · split
    · exact hbit
    · exact hao _

/-! ### One LP cycle of an input (R72, R305) -/

theorem State.setWakeIn_frame (s : State) (k : Nat) (w : WakeIn) : Frame s (s.setWakeIn k w) [.ao] (fun _ => False) := s.setAo_frame _
@[simp] theorem State.setWakeIn_wakeInAt (s : State) (k : Nat) (w : WakeIn) : (s.setWakeIn k w).wakeInAt k = w := tget_tset_same _ _ _ _

/-- The cycle qualifies: input `k` is kept as `w`, an Active device tells its rings, and bit `b` of AO_WAKE_CAUSE is raised. -/
def State.wakeTaken (s : State) (k : Nat) (w : WakeIn) (b : Nat) : State :=
  (if s.dev = .active then (s.setWakeIn k w).localWake k else s.setWakeIn k w).qualifiedWake b

theorem State.wakeTaken_flag (s : State) (k : Nat) (w : WakeIn) {b : Nat} (hb : b ≤ 31) :
    (s.wakeTaken k w b).flag (bitOf Rg.AO_WAKE_CAUSE b) = true := State.qualifiedWake_flag _ hb

theorem State.qualifiedWake_wakeInAt (s : State) (b k : Nat) : (s.qualifiedWake b).wakeInAt k = s.wakeInAt k := by
  have hbit : (s.wakeBit (bitOf Rg.AO_WAKE_CAUSE b)).wakeInAt k = s.wakeInAt k := by
    rw [State.wakeInAt, State.wakeBit_ao, State.wakeInAt]
  rw [s.qualifiedWake_eq]
  split
  · split
    · rfl
    · exact hbit
  · split
    · exact hbit
    · rfl

theorem State.wakeTaken_wakeInAt (s : State) (k : Nat) (w : WakeIn) (b : Nat) : (s.wakeTaken k w b).wakeInAt k = w := by
  rw [State.wakeTaken, State.qualifiedWake_wakeInAt]
  split
  · have hao : ((s.setWakeIn k w).localWake k).ao = (s.setWakeIn k w).ao := same_of_allBut .ao (by simp)
    rw [State.wakeInAt, hao]
    exact s.setWakeIn_wakeInAt k w
  · exact s.setWakeIn_wakeInAt k w

theorem State.wakeTaken_item (s : State) (k : Nat) (w : WakeIn) (b ty n : Nat) : (s.wakeTaken k w b).item ty n = s.item ty n := by
  have hplan : (s.wakeTaken k w b).plan = s.plan := same_of_allBut .plan (by simp [State.wakeTaken, State.setWakeIn])
  simp only [State.item, hplan]

/-- Below the pages of CAN and NM, AO_WAKE_CAUSE and AO_SLEEP alone change. -/
theorem State.wakeTaken_reg (s : State) (k : Nat) (w : WakeIn) (b : Nat) {a : Nat} (ha : a < 0x200C0000) (hwake : a ≠ Rg.AO_WAKE_CAUSE)
    (hsleep : a ≠ Rg.AO_SLEEP) : (s.wakeTaken k w b).reg a = s.reg a := by
  rw [State.wakeTaken, (State.qualifiedWake_frame _ b).reg (by simp [hwake, hsleep])]
  split
  · exact State.localWake_lowKept _ k a ha
  · rfl

theorem flag_of_reg {s t : State} {f : Fld} (h : t.reg f.addr = s.reg f.addr) : t.flag f = s.flag f := by
  simp only [State.flag, State.rd, h]

/-! ### A source that wakes -/

/-- From `s` to `t` a source has woken the device: the bit `b` of AO_WAKE_CAUSE is set, a device that sleeps above MAIN_UV is due to boot,
and asleep nothing else changes but `regs`, AO state and Crossing. -/
structure Woken (s t : State) (b : Nat) (regs : Nat → Prop) : Prop where
  flag : t.flag (bitOf Rg.AO_WAKE_CAUSE b) = true
  boots : s.dev ≠ .off → s.dev ≠ .active → s.ao.underVolt = false → t.ao.booting = true ∧ t.ao.causes = CausesOr s.ao.causes 7
  frame : s.dev ≠ .active → Frame s t [.regs, .ao, .ic] (fun a => a = Rg.AO_WAKE_CAUSE ∨ regs a)

/-- From `s` to `t` an LP cycle has passed that wakes nothing. -/
structure NotWoken (s t : State) (regs : Nat → Prop) : Prop where
  frame : Frame s t [.regs, .ao] regs
  underVolt : t.ao.underVolt = s.ao.underVolt
  booting : t.ao.booting = s.ao.booting
  causes : t.ao.causes = s.ao.causes

theorem State.setWakeIn_notWoken (s : State) (k : Nat) (w : WakeIn) (regs : Nat → Prop) : NotWoken s (s.setWakeIn k w) regs :=
  ⟨(s.setWakeIn_frame k w).noRegs (by simp), rfl, rfl, rfl⟩
theorem State.setFlag_notWoken (s : State) (f : Fld) (b : Bool) : NotWoken s (s.setFlag f b) (fun a => a = f.addr) :=
  ⟨(s.setFlag_frame f b).widen (by simp), rfl, rfl, rfl⟩

section
variable {s t u : State} {b : Nat} {regs : Nat → Prop}

theorem NotWoken.trans (h : NotWoken s t regs) (k : NotWoken t u regs) : NotWoken s u regs :=
  ⟨h.frame.trans k.frame, k.underVolt.trans h.underVolt, k.booting.trans h.booting, k.causes.trans h.causes⟩

/-- Cycles that wake nothing may come before the one that wakes. -/
theorem Woken.of_notWoken (h : NotWoken s t regs) (k : Woken t u b regs) : Woken s u b regs := by
  have hdev : t.dev = s.dev := h.frame.same .dev (by simp)
  refine ⟨k.flag, fun hoff hactive huv => ?_, fun hactive => ?_⟩
  · rw [← h.causes]
    exact k.boots (hdev ▸ hoff) (hdev ▸ hactive) (h.underVolt.trans huv)
  · exact (h.frame.mono (by simp) fun _ => .inr).trans (k.frame (hdev ▸ hactive))

/-- Cycles that wake nothing may come after it. -/
theorem Woken.then_notWoken (h : Woken s t b regs) (k : NotWoken t u regs) (hwake : ¬ regs Rg.AO_WAKE_CAUSE) : Woken s u b regs := by
  refine ⟨(flag_of_frame k.frame hwake).trans h.flag, fun hoff hactive huv => ?_, fun hactive => ?_⟩
  · rw [k.booting, k.causes]
    exact h.boots hoff hactive huv
  · exact (h.frame hactive).trans (k.frame.mono (by simp) fun _ => .inr)

theorem State.wakeTaken_woken (s : State) (k : Nat) (w : WakeIn) {b : Nat} (hb : b ≤ 31) (regs : Nat → Prop) : Woken s (s.wakeTaken k w b) b regs := by
  refine ⟨s.wakeTaken_flag k w hb, fun hoff hactive huv => ?_, fun hactive => ?_⟩
  · rw [State.wakeTaken, if_neg hactive, State.qualifiedWake_eq, if_neg (show (s.setWakeIn k w).dev ≠ .active from hactive),
      if_neg (show ¬ ((s.setWakeIn k w).dev = .off ∨ (s.setWakeIn k w).ao.underVolt = true) by
        rintro (h | h)
        · exact hoff h
        · exact Bool.false_ne_true (huv.symm.trans h))]
    exact ⟨rfl, rfl⟩
  · rw [State.wakeTaken, if_neg hactive]
    refine ((s.setWakeIn_frame k w).noRegs (by simp)).trans ((State.qualifiedWake_frame _ b).mono (by simp) ?_)
    rintro a (ha | ⟨-, ha⟩)
    · exact .inl ha
    · exact absurd ha hactive

end

/-! ### IGN (R72, R457) -/

/-- IGN reads active at `mv`: above 10.0 V, and between 5.0 V and 10.0 V as before. -/
def State.ignActive (s : State) (mv : Nat) : Bool := decide (10000 < mv) || (decide (5000 ≤ mv) && s.flag Fd.SYS_X_STATUS_IGN)
/-- The record of IGN after a cycle at `mv`. -/
def State.ignCycle (s : State) (mv : Nat) : WakeIn := wakeCycle (s.wakeInAt 16) (s.ignActive mv) 1

theorem State.ignSample_eq (s : State) (mv : Nat) :
    s.ignSample mv =
      if wakeQualifies (s.ignCycle mv) then (s.setFlag Fd.SYS_X_STATUS_IGN (s.ignActive mv)).wakeTaken 16 { s.ignCycle mv with held := true } 27
      else (s.setFlag Fd.SYS_X_STATUS_IGN (s.ignActive mv)).setWakeIn 16 (s.ignCycle mv) := rfl

theorem State.ignSample_flag (s : State) (mv : Nat) : (s.ignSample mv).flag Fd.SYS_X_STATUS_IGN = s.ignActive mv := by
  have hflag := flag_setFlag s Fd.SYS_X_STATUS_IGN (s.ignActive mv) rfl (by decide)
  rw [State.ignSample_eq]
  split
  · exact (flag_of_reg (State.wakeTaken_reg _ _ _ _ (by decide) (by decide) (by decide))).trans hflag
  · exact hflag

theorem State.ignSample_notWoken (s : State) (mv : Nat) (h : wakeQualifies (s.ignCycle mv) = false) :
    NotWoken s (s.ignSample mv) (fun a => a = Rg.SYS_X_STATUS) := by
  rw [State.ignSample_eq, h]
  exact (s.setFlag_notWoken _ _).trans (State.setWakeIn_notWoken _ _ _ _)

theorem State.ignSample_woken (s : State) (mv : Nat) (h : wakeQualifies (s.ignCycle mv) = true) :
    Woken s (s.ignSample mv) 27 (fun a => a = Rg.SYS_X_STATUS) := by
  rw [State.ignSample_eq, h]
  exact .of_notWoken (s.setFlag_notWoken _ _) (State.wakeTaken_woken _ _ _ (by decide) _)

theorem State.ignSample_wakeInAt (s : State) (mv : Nat) :
    (s.ignSample mv).wakeInAt 16 = { s.ignCycle mv with held := (s.ignCycle mv).held || wakeQualifies (s.ignCycle mv) } := by
  rw [State.ignSample_eq]
  cases h : wakeQualifies (s.ignCycle mv)
  · rw [if_neg (by simp), State.setWakeIn_wakeInAt, Bool.or_false]
  · rw [if_pos rfl, State.wakeTaken_wakeInAt, Bool.or_true]

/-- An input that was inactive has woken the device once it was active for two cycles: by the first of them, or by the second. -/
theorem State.ignSamples_woken (s : State) {a b : Nat} (ha : 10000 < a) (hb : 10000 < b) (h : (s.wakeInAt 16).held = false) :
    Woken s ((s.ignSample a).ignSample b) 27 (fun r => r = Rg.SYS_X_STATUS) := by
  have hcycle : ∀ (u : State) {v : Nat}, 10000 < v → u.ignCycle v = { u.wakeInAt 16 with run := min ((u.wakeInAt 16).run + 1) 2, idle := 0 } :=
    fun u v hv => by simp [State.ignCycle, State.ignActive, hv, wakeCycle]
  have hfirst := hcycle s ha
  have hsecond := hcycle (s.ignSample a) hb
  rw [State.ignSample_wakeInAt, hfirst] at hsecond
  cases hq : wakeQualifies (s.ignCycle a)
  · refine .of_notWoken (s.ignSample_notWoken a hq) (State.ignSample_woken _ b ?_)
    rw [hfirst] at hq
    simp only [wakeQualifies, h, Bool.not_false, Bool.and_true, beq_eq_false_iff_ne] at hq
    simp [hsecond, wakeQualifies, h]
    omega
  · refine (s.ignSample_woken a hq).then_notWoken (State.ignSample_notWoken _ b ?_) (by decide)
    rw [hfirst] at hq
    rw [hsecond, hq]
    simp [wakeQualifies]

/-! ### A wake pin (R305) -/

/-- The EDGE of a pin, and whether it reads active at `mv`. -/
def State.pinEdge (s : State) (k : Nat) : Nat := itemN (s.item 0x0501 k) 2 % 4
def State.pinActive (s : State) (k mv : Nat) : Bool := edgeActive (s.pinEdge k) (s.wakeInAt k).level (decide (mv < 600))
/-- The record of a pin after a cycle at `mv`, and what is kept of it where the cycle qualifies. -/
def State.pinCycle (s : State) (k mv : Nat) : WakeIn :=
  wakeCycle { s.wakeInAt k with level := some ((s.wakeInAt k).level.getD (decide (mv < 600))) } (s.pinActive k mv) 2
def State.pinTaken (s : State) (k mv : Nat) : WakeIn :=
  { s.pinCycle k mv with held := s.pinEdge k != 3, level := some (decide (mv < 600)), run := if s.pinEdge k = 3 then 0 else 2 }

theorem State.pinSample_eq (s : State) (k mv : Nat) :
    s.pinSample k mv = if wakeQualifies (s.pinCycle k mv) then s.wakeTaken k (s.pinTaken k mv) k else s.setWakeIn k (s.pinCycle k mv) := rfl

theorem State.pinSample_notWoken (s : State) (k mv : Nat) (h : wakeQualifies (s.pinCycle k mv) = false) :
    NotWoken s (s.pinSample k mv) (fun _ => False) := by
  rw [State.pinSample_eq, h]
  exact State.setWakeIn_notWoken _ _ _ _

theorem State.pinSample_woken (s : State) {k : Nat} (mv : Nat) (hk : k ≤ 31) (h : wakeQualifies (s.pinCycle k mv) = true) :
    Woken s (s.pinSample k mv) k (fun _ => False) := by
  rw [State.pinSample_eq, h]
  exact State.wakeTaken_woken _ _ _ hk _

theorem State.pinSample_pinEdge (s : State) (k mv : Nat) : (s.pinSample k mv).pinEdge k = s.pinEdge k := by
  rw [State.pinSample_eq]
  split
  · simp only [State.pinEdge, State.wakeTaken_item]
  · rfl

/-- A level kept on the way of two active cycles leaves the second one active. -/
theorem edgeActive_kept {edge : Nat} {level : Option Bool} {x y : Bool} (hx : edgeActive edge level x = true) (hy : edgeActive edge level y = true) :
    edgeActive edge (some (level.getD x)) y = true := by
  cases level with
  | some l => exact hy
  | none =>
    unfold edgeActive at hx hy ⊢
    split at hx <;> simp_all

/-- Where the pin wakes on a change, the level at which it has woken is no change any more. -/
theorem edgeActive_changed {level : Option Bool} {x y : Bool} (hx : edgeActive 3 level x = true) (hy : edgeActive 3 level y = true) :
    edgeActive 3 (some x) y = false := by
  cases level <;> cases x <;> cases y <;> simp_all [edgeActive]

/-- A record that is held, or that finds its input inactive, does not qualify. -/
theorem wakeQualifies_wakeCycle (w : WakeIn) (active : Bool) (need : Nat) (h : w.held = true ∨ active = false) :
    wakeQualifies (wakeCycle w active need) = false := by
  cases active with
  | false => rfl
  | true => simp_all [wakeQualifies, wakeCycle]

/-- A pin that was inactive has woken the device once it was active for two cycles: by the first of them, or by the second. -/
theorem State.pinSamples_woken (s : State) {k : Nat} (a b : Nat) (hk : k ≤ 31) (ha : s.pinActive k a = true)
    (hb : edgeActive (s.pinEdge k) (s.wakeInAt k).level (decide (b < 600)) = true) (h : (s.wakeInAt k).held = false) :
    Woken s ((s.pinSample k a).pinSample k b) k (fun _ => False) := by
  have hfirst : s.pinCycle k a = { s.wakeInAt k with
      run := min ((s.wakeInAt k).run + 1) 2, idle := 0, level := some ((s.wakeInAt k).level.getD (decide (a < 600))) } := by
    simp [State.pinCycle, ha, wakeCycle]
  cases hq : wakeQualifies (s.pinCycle k a)
  · refine .of_notWoken (s.pinSample_notWoken k a hq) (State.pinSample_woken _ b hk ?_)
    have hkept : (s.pinSample k a).wakeInAt k = s.pinCycle k a := by
      rw [State.pinSample_eq, hq]
      exact State.setWakeIn_wakeInAt _ _ _
    have hactive : (s.pinSample k a).pinActive k b = true := by
      rw [State.pinActive, State.pinSample_pinEdge, hkept, hfirst]
      exact edgeActive_kept ha hb
    rw [State.pinCycle, hactive, hkept, hfirst]
    simp [wakeCycle, wakeQualifies, h]
  · refine (s.pinSample_woken a hk hq).then_notWoken (State.pinSample_notWoken _ k b ?_) id
    have hkept : (s.pinSample k a).wakeInAt k = s.pinTaken k a := by
      rw [State.pinSample_eq, hq]
      exact State.wakeTaken_wakeInAt _ _ _ _
    refine wakeQualifies_wakeCycle _ _ 2 ?_
    rw [State.pinActive, State.pinSample_pinEdge, hkept]
    by_cases h3 : s.pinEdge k = 3
    · rw [State.pinActive, h3] at ha
      rw [h3] at hb ⊢
      exact .inr (edgeActive_changed ha hb)
    · exact .inl (bne_iff_ne.mpr h3)

end Sys2Proof.Machine
end

section
/-! SUPPORT. The wake timer (R78, R93) and the sleep request (R74 to R76) up to its commit point, and the statement on wakes and sleep. -/

namespace Sys2Proof.Machine

/-! ### A write that passes, of a register that the map shows -/

theorem State.regWrite_at {s : State} {who : Who} {bytes a : Nat} {w : Word} {held bad : Bool} {refuse : Nat} (effect : State → State)
    {r : RegRow} {x : List Nat} (hm : RegMap.at a = some (r, x)) (h : s.passesChecks who bytes a w held bad = true) (hr : refuse = Code.DONE) :
    s.regWrite who bytes a w held bad refuse effect =
      { effect (s.setReg a (BitVec.ofNat 32 (writeFields r.fields (s.reg a).toNat w.toNat))) with resp := .done } := by
  obtain ⟨r', x', hm', heq⟩ := s.regWrite_ok who bytes a w held bad refuse effect h hr
  rw [hm] at hm'
  cases hm'
  exact heq

theorem State.setResp_rd (s : State) (r : Resp) (f : Fld) : ({ s with resp := r } : State).rd f = s.rd f := rfl

theorem getBits_toNat_ofNat (x : Nat) {hi lo : Nat} (h : hi < 32) : getBits (BitVec.ofNat 32 x).toNat hi lo = getBits x hi lo := by
  apply Nat.eq_of_testBit_eq
  intro k
  rw [getBits_testBit, getBits_testBit, BitVec.toNat_ofNat, Nat.testBit_mod_two_pow]
  by_cases hk : k < hi + 1 - lo
  · simp [show lo + k < 32 by omega]
  · simp [hk]

/-! ### The wake timer (R78, R93) -/

theorem State.timerWake_eq (s : State) {e : Nat} (hoff : s.dev ≠ .off) (h : (s.timerRearm s.ao.lpSent).timerEnd = some e) :
    s.timerWake = (((s.timerRearm s.ao.lpSent).reach e).wr Fd.AO_WAKE_TIMER_COUNT 0).qualifiedWake 28 := by
  unfold State.timerWake
  rw [if_neg hoff]
  dsimp only
  rw [h]

theorem State.le_reach (s : State) (t : Nat) : t ≤ (s.reach t).now := by
  change t ≤ s.now + (t - s.now)
  omega

theorem State.timerEnd_eq_some {s : State} {e : Nat} (h : s.timerEnd = some e) :
    s.rd Fd.AO_WAKE_TIMER_COUNT ≠ 0 ∧ e = s.ao.timerArm + s.rd Fd.AO_WAKE_TIMER_COUNT * sec / 1024 := by
  unfold State.timerEnd at h
  dsimp only at h
  split at h
  · cases h
  · next hn => exact ⟨hn, (Option.some.inj h).symm⟩

/-! ### The sleep request (R74 to R76) -/

/-- AO_SLEEP as a write that passes leaves it. -/
def State.sleepWritten (s : State) (w : Word) : State :=
  s.setReg Rg.AO_SLEEP (BitVec.ofNat 32 (putBits (putBits (s.reg Rg.AO_SLEEP).toNat 15 8 (getBits w.toNat 15 8)) 1 0 (getBits w.toNat 1 0)))

theorem State.sleepWritten_frame (s : State) (w : Word) : Frame s (s.sleepWritten w) [.regs] (fun a => a = Rg.AO_SLEEP) := s.setReg_frame _ _

theorem State.sleepWritten_fields (s : State) (w : Word) :
    (s.sleepWritten w).rd Fd.AO_SLEEP_TARGET = w.toNat % 4 ∧ (s.sleepWritten w).rd Fd.AO_SLEEP_DRAIN_MS = getBits w.toNat 15 8 := by
  have hmod : ∀ hi lo, getBits w.toNat hi lo % 2 ^ (hi + 1 - lo) = getBits w.toNat hi lo := fun hi lo => Nat.mod_mod _ _
  have hreg : (s.sleepWritten w).reg Rg.AO_SLEEP = _ := reg_setReg_same _ _ _
  have hrd : ∀ hi lo, (s.sleepWritten w).rd ⟨Rg.AO_SLEEP, hi, lo⟩ = getBits ((s.sleepWritten w).reg Rg.AO_SLEEP).toNat hi lo := fun _ _ => rfl
  refine ⟨(hrd 1 0).trans ?_, (hrd 15 8).trans ?_⟩
  · rw [hreg, getBits_toNat_ofNat _ (by decide), getBits_putBits _ _ _ _ (by decide), hmod]
    simp [getBits]
  · rw [hreg, getBits_toNat_ofNat _ (by decide), getBits_putBits_ne _ _ _ _ _ _ (by decide) (by decide), getBits_putBits _ _ _ _ (by decide), hmod]

theorem State.sleepWrite_eq (s : State) (who : Who) (w : Word) (h : s.passesChecks who 4 Rg.AO_SLEEP w false false = true)
    (hfree : s.rd Fd.AO_SLEEP_RESULT ≠ Code.ACCEPTED) :
    s.sleepWrite who 4 w = { (s.sleepWritten w).sleepStart (w.toNat % 4) (getBits w.toNat 15 8) with resp := .done } := by
  have hm : RegMap.at Rg.AO_SLEEP =
      some (⟨0x2002000C, [], .district0, [⟨31, 16, .ro, none⟩, ⟨15, 8, .rw, some (1, 255)⟩, ⟨1, 0, .rw, some (0, 2)⟩]⟩, []) := by decide
  have hfields : ∀ old v, writeFields [⟨31, 16, .ro, none⟩, ⟨15, 8, .rw, some (1, 255)⟩, ⟨1, 0, .rw, some (0, 2)⟩] old v =
      putBits (putBits old 15 8 (getBits v 15 8)) 1 0 (getBits v 1 0) := fun _ _ => rfl
  rw [State.sleepWrite, State.regWrite_at _ hm h (if_neg hfree), hfields, ← State.sleepWritten]

/-- The request stands until `due`. -/
def State.sleepAccepted (s : State) (due : Nat) : State := (s.setAo { s.ao with sleepDue := some due }).wr Fd.AO_SLEEP_RESULT Code.ACCEPTED

theorem State.sleepAccepted_spec (s : State) (due : Nat) :
    (s.sleepAccepted due).rd Fd.AO_SLEEP_RESULT = Code.ACCEPTED ∧ (s.sleepAccepted due).rd Fd.AO_SLEEP_TARGET = s.rd Fd.AO_SLEEP_TARGET ∧
      (s.sleepAccepted due).rd Fd.AO_SLEEP_DRAIN_MS = s.rd Fd.AO_SLEEP_DRAIN_MS ∧
      Frame s (s.sleepAccepted due) [.regs, .ao] (fun a => a = Rg.AO_SLEEP) := by
  unfold State.sleepAccepted
  refine ⟨(rd_wr_same _ _ _ (by decide) (by decide)).trans (by decide), ?_, ?_,
    ((State.setAo_frame _ _).noRegs (by simp)).trans ((State.wr_frame _ _ _).widen (by simp))⟩
  · rw [rd_wr_apart _ _ Fd.AO_SLEEP_TARGET _ (by decide) (by decide) (by decide) (by decide), State.setAo_rd]
  · rw [rd_wr_apart _ _ Fd.AO_SLEEP_DRAIN_MS _ (by decide) (by decide) (by decide) (by decide), State.setAo_rd]

theorem State.sleepStart_accepted (s : State) {target : Nat} (drain : Nat) (htarget : target = 1 ∧ s.flag Fd.AO_STATE_LP_OK = true ∨ target = 2)
    (hmedia : s.mediaAwake = false) : s.sleepStart target drain = s.sleepAccepted (s.now + drain * ms) := by
  unfold State.sleepStart
  rw [if_neg (by omega), if_neg, if_neg (by simp [hmedia])]
  · rfl
  · rcases htarget with ⟨-, hlp⟩ | h2
    · simp [hlp]
    · simp [h2]

theorem State.sleepWritten_mediaAwake (s : State) (w : Word) : (s.sleepWritten w).mediaAwake = s.mediaAwake := by
  have hmed : ∀ m, (s.sleepWritten w).medState m = s.medState m := fun m =>
    rd_setReg_ne _ _ _ _ (by simp only [Fd.NM_MED_STATUS_STATE, Rg.AO_SLEEP]; omega)
  simp only [State.mediaAwake, hmed]

/-- A request that ends: RESULT holds the code, and the device goes on as it was. -/
theorem State.sleepBusy_spec (s : State) :
    s.sleepBusy.rd Fd.AO_SLEEP_RESULT = Code.BUSY ∧ s.sleepBusy.ao.sleepDue = none ∧ Frame s s.sleepBusy [.regs, .ao] (fun a => a = Rg.AO_SLEEP) := by
  have heq : s.sleepBusy = (s.setAo { s.ao with sleepDue := none }).wr Fd.AO_SLEEP_RESULT Code.BUSY := rfl
  rw [heq]
  exact ⟨(rd_wr_same _ _ _ (by decide) (by decide)).trans (by decide), rfl,
    ((State.setAo_frame _ _).noRegs (by simp)).trans ((State.wr_frame _ _ _).widen (by simp))⟩

/-! ### The commit point (R74, R75, R88) -/

/-- The device at the commit point: Kerbside down for sleep, the log committed, the last heartbeat sent, and MAIN off. -/
def State.sleepOff (s : State) : State := (((s.kerbDown 1).ksSleep.logCommitted).sayLast true false).mainOff

theorem State.sleepOff_blot (L : Piece → Bool) (s : State)
    (h : L .regs ∧ L .mem ∧ L .shadows ∧ L .ao ∧ L .ep ∧ L .wg ∧ L .ic ∧ L .kb ∧ L .pn ∧ L .can ∧ L .sw ∧ L .ptp ∧ L .nm ∧
      L .sf ∧ L .cp ∧ L .ks ∧ L .up ∧ L .ux) : blot L s.sleepOff = blot L s := by
  simp [State.sleepOff, State.logCommitted, State.setAo, h]

theorem State.sleepOff_ao (s : State) : s.sleepOff.ao = (s.kerbDown 1).ksSleep.logCommitted.ao.mainOff := by
  have hsay : ((s.kerbDown 1).ksSleep.logCommitted.sayLast true false).ao = (s.kerbDown 1).ksSleep.logCommitted.ao := same_of_allBut .ao (by simp)
  rw [State.sleepOff, State.mainOff_ao, hsay]

theorem State.sleepOff_spec (s : State) :
    s.sleepOff.ep = EpState.reset ∧ s.sleepOff.otp = s.otp ∧ s.sleepOff.plan = s.plan ∧ s.sleepOff.pending = s.pending ∧
      s.sleepOff.ao.sleepDue = none ∧ s.sleepOff.ao.logOpen = [] := by
  have hoff := s.sleepOff_blot (fun p => p ≠ .otp ∧ p ≠ .plan) (by simp)
  refine ⟨rfl, same_of_blot (p := .otp) hoff (by simp), same_of_blot (p := .plan) hoff (by simp), pending_of_blot hoff, ?_, ?_⟩ <;>
    rw [s.sleepOff_ao] <;> rfl

/-- Parked keeps less of the AO page, and no staged log words. -/
theorem State.parkedKeeps_sleepDue (s : State) : s.parkedKeeps.ao.sleepDue = s.ao.sleepDue := rfl

theorem State.parkedKeeps_logOpen (s : State) : s.parkedKeeps.ao.logOpen = s.ao.logOpen := rfl

theorem State.parkedKeeps_frame (s : State) : Frame s s.parkedKeeps [.dev, .regs, .ao] (fun _ => True) :=
  frame_of_blot (by simp) fun _ h => absurd trivial h

theorem State.sleepCommit_eq (s : State) {d : Nat} (hdue : s.ao.sleepDue = some d) (hidle : s.ep.inflight = []) (hd : s.now ≤ d) :
    s.sleepCommit = if s.rd Fd.AO_SLEEP_TARGET = 1 then s.sleepOff.parkedKeeps.setDev .parked else s.sleepOff.setDev .standby := by
  unfold State.sleepCommit
  rw [if_neg (by simp [hdue, hidle]), if_neg (by simp [hdue]; omega)]
  simp only [beq_iff_eq]
  rfl

theorem State.sleepCommit_late (s : State) {d : Nat} (hdue : s.ao.sleepDue = some d) (hidle : s.ep.inflight = []) (hd : d < s.now) :
    s.sleepCommit = s.sleepBusy := by
  unfold State.sleepCommit
  rw [if_neg (by simp [hdue, hidle]), if_pos (by simpa [hdue] using hd)]

theorem State.drainTimeout_eq (s : State) {d : Nat} (hdue : s.ao.sleepDue = some d) (h : s.ep.inflight ≠ [] ∨ d < s.now) :
    s.drainTimeout = (s.reach d).sleepBusy := by
  unfold State.drainTimeout
  rw [hdue]
  dsimp only
  refine if_neg ?_
  rintro ⟨hidle, hd⟩
  rcases h with h | h
  · exact h (List.isEmpty_iff.mp hidle)
  · omega

theorem State.reach_frame (s : State) (t : Nat) : Frame s (s.reach t) [.now, .vt, .ptp] (fun _ => False) :=
  frame_of_blot_noRegs (by simp) (by simp)

/-! ### The statement -/

/-- Settles O5: a wake by the two LP cycles that qualify it (`ignSamples_woken`, `pinSamples_woken`), the timer and the sleep request each by
the one equation of its function. -/
theorem wakeAndSleep : Obligations.WakeAndSleep := by
  unfold Obligations.WakeAndSleep
  refine ⟨?ign, ?ignLow, ?pin, ?timer, ?request, ?commit, ?late, ?drain⟩
  case ign =>
    intro s a b hoff ha hb hheld
    have hexec : s.wakeQualified .ign [a, b] = (s.ignSample a.toNat).ignSample b.toNat := if_neg hoff
    have hwoken := s.ignSamples_woken ha hb hheld
    refine ⟨_, congrArg Host.Outcome.next hexec, hwoken.flag, ?_, hwoken.boots hoff, hwoken.frame⟩
    rw [State.ignSample_flag]
    simp [State.ignActive, hb]
  case ignLow =>
    intro s a hoff ha
    have hexec : s.wakeQualified .ign [a] = s.ignSample a.toNat := if_neg hoff
    have hactive : s.ignActive a.toNat = false := by
      simp only [State.ignActive, Bool.or_eq_false_iff, Bool.and_eq_false_iff, decide_eq_false_iff_not]
      omega
    have hcycle : wakeQualifies (s.ignCycle a.toNat) = false := wakeQualifies_wakeCycle _ _ _ (.inr hactive)
    refine ⟨_, congrArg Host.Outcome.next hexec, (s.ignSample_flag _).trans hactive, ?_, (s.ignSample_notWoken _ hcycle).frame⟩
    rw [State.ignSample_wakeInAt, hcycle, State.ignCycle, hactive]
    simp [wakeCycle]
  case pin =>
    intro s k a b hoff hpin ha hb hheld
    have hexec : s.wakeQualified (.pin k) [a, b] = (s.pinSample k.val a.toNat).pinSample k.val b.toNat := (if_neg hoff).trans (if_pos hpin)
    have hwoken := s.pinSamples_woken a.toNat b.toNat (by omega) ha hb hheld
    refine ⟨_, congrArg Host.Outcome.next hexec, hwoken.flag, hwoken.boots hoff, fun hactive => ?_⟩
    exact (hwoken.frame hactive).mono (by simp) fun r hr => hr.resolve_right id
  case timer =>
    intro s e hoff he
    refine ⟨_, congrArg Host.Outcome.next (s.timerWake_eq hoff he), State.qualifiedWake_flag _ (by decide), ?_, ?_, fun hsent => ?_⟩
    · rw [(State.qualifiedWake_frame _ 28).rd (by simp [Fd.AO_WAKE_TIMER_COUNT, Rg.AO_WAKE_CAUSE, Rg.AO_SLEEP])]
      exact rd_wr_same _ _ _ (by decide) (by decide)
    · have hnow := (State.qualifiedWake_frame (((s.timerRearm s.ao.lpSent).reach e).wr Fd.AO_WAKE_TIMER_COUNT 0) 28).same .now (by simp)
      exact (State.le_reach _ e).trans_eq hnow.symm
    · rw [hsent] at he
      exact State.timerEnd_eq_some he
  case request =>
    intro s who w h hfree htarget hmedia
    obtain ⟨hread, hdrain⟩ := s.sleepWritten_fields w
    have hstart : (s.sleepWritten w).sleepStart (w.toNat % 4) (getBits w.toNat 15 8) =
        (s.sleepWritten w).sleepAccepted (s.now + getBits w.toNat 15 8 * ms) := by
      refine State.sleepStart_accepted _ _ ?_ ((s.sleepWritten_mediaAwake w).trans hmedia)
      rwa [flag_of_frame (s.sleepWritten_frame w) (by decide)]
    have hexec := s.sleepWrite_eq (s.issuer who) w h hfree
    rw [hstart] at hexec
    obtain ⟨hresult, htargetKept, hdrainKept, hframe⟩ := (s.sleepWritten w).sleepAccepted_spec (s.now + getBits w.toNat 15 8 * ms)
    refine ⟨_, congrArg Host.Outcome.next hexec, (State.setResp_rd ..).trans hresult, ((State.setResp_rd ..).trans htargetKept).trans hread,
      ((State.setResp_rd ..).trans hdrainKept).trans hdrain, rfl, rfl, ?_⟩
    exact ((s.sleepWritten_frame w).widen (by simp)).trans <| (hframe.widen (by simp)).trans <| (State.setResp_frame _ _).noRegs (by simp)
  case commit =>
    intro s d hdue hidle hd
    refine ⟨_, congrArg Host.Outcome.next (s.sleepCommit_eq hdue hidle hd), ?_⟩
    have hoff := s.sleepOff_spec
    generalize s.sleepOff = u at hoff ⊢
    obtain ⟨hep, hotp, hplan, hpending, hdue, hopen⟩ := hoff
    split
    · have hkept := u.parkedKeeps_frame
      exact ⟨rfl, (hkept.same .ep (by simp)).trans hep, u.parkedKeeps_sleepDue.trans hdue, u.parkedKeeps_logOpen.trans hopen,
        (hkept.same .otp (by simp)).trans hotp, (hkept.same .plan (by simp)).trans hplan, hkept.1.trans hpending⟩
    · exact ⟨rfl, hep, hdue, hopen, hotp, hplan, hpending⟩
  case late =>
    intro s d hdue hidle hd
    exact ⟨_, congrArg Host.Outcome.next (s.sleepCommit_late hdue hidle hd), s.sleepBusy_spec⟩
  case drain =>
    intro s d hdue h
    obtain ⟨hresult, hnone, hframe⟩ := (s.reach d).sleepBusy_spec
    refine ⟨_, congrArg Host.Outcome.next (s.drainTimeout_eq hdue h), hresult, hnone, ?_, ?_⟩
    · exact (s.le_reach d).trans_eq (hframe.same .now (by simp)).symm
    · exact ((s.reach_frame d).noRegs (by simp)).trans (hframe.widen (by simp))

end Sys2Proof.Machine
end

section
/-! SUPPORT. The restarts of the device (R81, R82): the watchdog's kick and its expiry, and AO_STATE.DEV_RESET. -/

namespace Sys2Proof.Machine

/-! ### A device restart (R81) -/

/-- A device restart with cause `bit`: MAIN and its endpoint contexts are reset, a boot is due, and the OTP stays. -/
structure Restarted (s t : State) (bit : Nat) : Prop where
  dev : t.dev = .standby
  booting : t.ao.booting = true
  cause : bit ∈ t.ao.causes
  ep : t.ep = EpState.reset
  otp : t.otp = s.otp
  pending : t.pending = s.pending
  now : t.now = s.now

theorem State.deviceRestart_restarted (s : State) (bit : Nat) (trigger : Option Nat) : Restarted s (s.deviceRestart bit trigger) bit where
  dev := rfl
  booting := rfl
  cause := (mem_insertNat _ _ _).mpr (.inl rfl)
  ep := rfl
  otp := same_of_allBut .otp (by simp)
  pending := pending_of_blot (L := allBut .otp) (by simp)
  now := same_of_allBut .now (by simp)

/-! ### The watchdog (R82) -/

/-- AO_WDT as an accepted write of `w` leaves it. -/
def State.wdtWritten (s : State) (w : Word) : State :=
  s.setReg Rg.AO_WDT (BitVec.ofNat 32 (putBits (s.reg Rg.AO_WDT).toNat 15 0 (getBits w.toNat 15 0)))

theorem State.wdtWritten_period (s : State) (w : Word) : (s.wdtWritten w).rd Fd.AO_WDT_PERIOD_MS = w.toNat % 65536 := by
  have hreg : (s.wdtWritten w).reg Rg.AO_WDT = _ := reg_setReg_same _ _ _
  have hrd : (s.wdtWritten w).rd Fd.AO_WDT_PERIOD_MS = getBits ((s.wdtWritten w).reg Rg.AO_WDT).toNat 15 0 := rfl
  rw [hrd, hreg, getBits_toNat_ofNat _ (by decide), getBits_putBits _ _ _ _ (by decide)]
  simp [getBits]

/-- The count of the watchdog starts again from now. -/
def State.wdtRestart (s : State) : State := s.setAo { s.ao with wdtKick := s.now }

/-- What a kick does to the state `t` that its write leaves: it restarts the count, unless the watchdog has expired by now. -/
def State.wdtKicked (s t : State) : State :=
  if s.ao.wdtKick + s.rd Fd.AO_WDT_PERIOD_MS * ms ≤ s.now then
    if s.wdtEnd ≤ s.now then s.draw.deviceRestart 3 (some 2) else t.draw.wdtRestart
  else t.wdtRestart

theorem State.wdtWrite_eq (s : State) (who : Who) (w : Word)
    (h : s.passesChecks who 4 Rg.AO_WDT w false (w.toNat / 65536 != 0 && w.toNat / 65536 != 0x6C61) = true) :
    s.wdtWrite who 4 w =
      { s.wdtKicked (s.wdtWritten w) with resp := .done } := by
  have hm : RegMap.at Rg.AO_WDT = some (⟨0x20020014, [], .district0, [⟨31, 16, .wo, none⟩, ⟨15, 0, .rw, some (10, 10000)⟩]⟩, []) := by decide
  have hfields : ∀ old v, writeFields [⟨31, 16, .wo, none⟩, ⟨15, 0, .rw, some (10, 10000)⟩] old v = putBits old 15 0 (getBits v 15 0) :=
    fun _ _ => rfl
  have heq : s.wdtWrite who 4 w = s.regWrite who 4 Rg.AO_WDT w false (w.toNat / 65536 != 0 && w.toNat / 65536 != 0x6C61) Code.DONE s.wdtKicked := rfl
  rw [heq, State.regWrite_at _ hm h rfl, hfields, ← State.wdtWritten]

theorem State.wdtRestart_kick (s : State) : s.wdtRestart.ao.wdtKick = s.now := rfl

theorem State.wdtWritten_frame (s : State) (w : Word) : Frame s (s.wdtWritten w) [.regs] (fun a => a = Rg.AO_WDT) := s.setReg_frame _ _

theorem State.wdtExpired_restarted (s : State) : Restarted (s.draw.reach s.wdtEnd) s.wdtExpired 3 := State.deviceRestart_restarted ..

/-- Whatever else a restart starts from: the OTP is that of before the draw and the wait. -/
theorem State.wdtExpired_spec (s : State) : s.wdtExpired.otp = s.otp ∧ s.wdtExpired.pending = s.pending ∧
    s.ao.wdtKick + s.rd Fd.AO_WDT_PERIOD_MS * ms ≤ s.wdtExpired.now := by
  have h := s.wdtExpired_restarted
  have hframe := s.draw.reach_frame s.wdtEnd
  refine ⟨h.otp.trans (hframe.same .otp (by simp)), h.pending.trans hframe.1, ?_⟩
  calc s.ao.wdtKick + s.rd Fd.AO_WDT_PERIOD_MS * ms ≤ s.wdtEnd := Nat.le_add_right _ _
    _ ≤ (s.draw.reach s.wdtEnd).now := State.le_reach _ _
    _ = s.wdtExpired.now := h.now.symm

/-! ### AO_STATE.DEV_RESET -/

theorem State.devResetWrite_eq (s : State) (who : Who) (w : Word) (h : s.passesChecks who 4 Rg.AO_STATE w false false = true)
    (hreset : tbit w.toNat 31 = true) :
    ∃ v, s.devResetWrite who 4 w = { (s.setReg Rg.AO_STATE v).deviceRestart 4 (some 3) with resp := .done } := by
  obtain ⟨r, x, -, heq⟩ := s.regWrite_ok who 4 Rg.AO_STATE w false false Code.DONE
    (fun s => if tbit w.toNat 31 then s.deviceRestart 4 (some 3) else s) h rfl
  rw [if_pos hreset] at heq
  exact ⟨_, heq⟩

end Sys2Proof.Machine
end

section
/-! SUPPORT. The boot (R83): what MAIN's power-up settles, that the later steps leave it as it is, and the statement on restarts and the boot. -/

namespace Sys2Proof.Machine

/-! ### What the steps of a boot after MAIN's power-up leave as it is -/

/-- The device state, the boots that are due, the watchdog's count and the provisioning lock are the same in both states. -/
structure BootKept (s t : State) : Prop where
  dev : t.dev = s.dev
  booting : t.ao.booting = s.ao.booting
  causes : t.ao.causes = s.ao.causes
  wdtKick : t.ao.wdtKick = s.ao.wdtKick
  provLocked : t.otp.provLocked = s.otp.provLocked

/-- Every part that `BootKept` does not speak of. -/
abbrev bootFree : Piece → Bool := fun p => decide (p ≠ .dev ∧ p ≠ .ao ∧ p ≠ .otp)

theorem BootKept.refl (s : State) : BootKept s s := ⟨rfl, rfl, rfl, rfl, rfl⟩
theorem BootKept.trans {s t u : State} (h : BootKept s t) (k : BootKept t u) : BootKept s u :=
  ⟨k.dev.trans h.dev, k.booting.trans h.booting, k.causes.trans h.causes, k.wdtKick.trans h.wdtKick, k.provLocked.trans h.provLocked⟩
/-- Whatever leaves the device state, the AO state and the OTP alone. -/
theorem BootKept.quiet {s t u : State} (h : BootKept s t) (hb : blot bootFree u = blot bootFree t) : BootKept s u := by
  have hdev : u.dev = t.dev := same_of_blot (p := .dev) hb (by simp)
  have hao : u.ao = t.ao := same_of_blot (p := .ao) hb (by simp)
  have hotp : u.otp = t.otp := same_of_blot (p := .otp) hb (by simp)
  exact h.trans ⟨hdev, congrArg _ hao, congrArg _ hao, congrArg _ hao, congrArg _ hotp⟩
theorem BootKept.ite {s t u : State} {p : Prop} {_ : Decidable p} (h : BootKept s t) (h' : BootKept s u) : BootKept s (if p then t else u) := by
  split
  · exact h
  · exact h'

section
variable {s t : State}

/-- OTP that keeps the provisioning lock. -/
theorem BootKept.setOtp {o : OtpState} (h : BootKept s t) (ho : o.provLocked = t.otp.provLocked) : BootKept s { t with otp := o } :=
  h.trans ⟨rfl, rfl, rfl, rfl, ho⟩

theorem BootKept.setFloor {n : Nat} (h : BootKept s t) : BootKept s (t.setFloor n) := by
  unfold State.setFloor
  have hotp : BootKept s { t with otp := { t.otp with floor := n } } := h.setOtp rfl
  exact hotp.quiet (by simp)

/-! ### Cornerstone (R392) -/

/-- The area that a generation burns is the first unburned one. -/
theorem State.csBurn_otp (s : State) (st : Nat) : (s.csBurn st).otp =
    if s.otp.cs0.st = 0 then { s.otp with cs0 := ⟨st, s.random32⟩ } else { s.otp with cs1 := ⟨st, s.random32⟩ } := rfl

theorem State.csBurn_provLocked (s : State) (st : Nat) : (s.csBurn st).otp.provLocked = s.otp.provLocked := by
  rw [s.csBurn_otp]
  split <;> rfl

theorem BootKept.csBurn {st : Nat} (h : BootKept s t) : BootKept s (t.csBurn st) :=
  h.trans ⟨rfl, rfl, rfl, rfl, t.csBurn_provLocked st⟩

theorem BootKept.cornerstoneBoot {gen : CsGen} (h : BootKept s t) : BootKept s (t.cornerstoneBoot gen) := by
  unfold State.cornerstoneBoot
  refine .ite (h.quiet (by simp)) (.ite (h.quiet (by simp)) (.ite (h.quiet (by simp)) ?_))
  split
  · exact (h.csBurn (st := 2)).quiet (by simp)
  · exact (h.csBurn (st := 1)).quiet (by simp)

theorem BootKept.ksStart {gen : CsGen} (h : BootKept s t) : BootKept s (t.ksStart gen) := by
  unfold State.ksStart
  extract_lets u
  have hu : BootKept s (u.wr Fd.AO_STATE_FIRST_START 0) := h.quiet (by simp [u])
  exact (hu.cornerstoneBoot (gen := gen)).quiet (by simp)

/-! ### The plan (R39, R428) -/

theorem BootKept.activatePlan {items : List Item} {secs : List Nat} (h : BootKept s t) : BootKept s (t.activatePlan items secs) := by
  unfold State.activatePlan
  extract_lets _ _ u v v1 v2 v3 v4 v5
  have hu : BootKept s u := h.trans ⟨rfl, rfl, rfl, rfl, rfl⟩
  have hv : BootKept s v := .ite (hu.quiet (by simp)) hu
  exact hv.quiet (by simp [v5, v4, v3, v2, v1])

theorem BootKept.showUp {x : Boot} (h : BootKept s t) : BootKept s (t.showUp x) := by
  unfold State.showUp
  extract_lets b u v
  have hu : BootKept s u := h.quiet (by simp [u])
  have hv : BootKept s v := .ite hu.setFloor hu
  exact hv.quiet (by simp)

theorem BootKept.runPlan {x : Boot} (h : BootKept s t) : BootKept s (t.runPlan x) := by
  unfold State.runPlan
  extract_lets u
  have hu : BootKept s u := h.quiet (by unfold u; split <;> simp)
  have hshown : BootKept s (u.showTp x) := hu.quiet (by simp)
  exact hshown.activatePlan.showUp

/-! ### A tamper event of the start-up (R408) -/

theorem BootKept.lastWords {trigger feedA feedB time : Nat} (h : BootKept s t) : BootKept s (t.lastWords trigger feedA feedB time) := by
  refine h.trans ?_
  unfold State.lastWords
  generalize t.wordsRecord trigger feedA feedB time = record
  split
  · exact ⟨rfl, rfl, rfl, rfl, rfl⟩
  · exact ⟨rfl, rfl, rfl, rfl, rfl⟩
  · exact ⟨rfl, rfl, rfl, rfl, rfl⟩

theorem BootKept.tamperHalt {src : Nat} (h : BootKept s t) : BootKept s (t.tamperHalt src) :=
  BootKept.lastWords (t := ((t.tamperNote (2 ^ src) true 2 t.vt).wipeSlots.wr Fd.KS_STATUS_STATE 3).tamperWrite) (h.quiet (by simp))

theorem BootKept.halted (h : BootKept s t) : BootKept s t.haltAll.relevelAll := h.quiet (by simp)

end

/-! ### MAIN's power-up (R83) -/

/-- MAIN powered, with no boot due and no cause left waiting. -/
def State.mainOn (s : State) : State :=
  { s with
    dev := .active, vt := 0, ptp := TimeState.reset
    ao := { s.ao with booting := false, causes := [], lossBoot := false, wdtKick := s.now } }

theorem State.mainUp_kept (s : State) : BootKept s.mainOn s.mainUp := by
  unfold State.mainUp
  extract_lets bits _ u v w
  have hu : u = s.mainOn := rfl
  clear_value u
  have hw : BootKept s.mainOn w := BootKept.quiet (t := u) (hu ▸ .refl _) (by simp [v, w])
  exact hw.setFloor

/-- The hardware revision that the boot reads. -/
def State.setHwrev (s : State) (hwrev : Nat) : State := { s with up := { s.up with hwrev := hwrev } }

/-- The boot up to the choice of the bank. -/
def State.bootStart (s : State) (hwrev : Nat) (gen : CsGen) : State × Choice := ((s.setHwrev hwrev).mainUp.ksStart gen).chooseBank

theorem State.bootStart_kept (s : State) (hwrev : Nat) (gen : CsGen) : BootKept s.mainOn (s.bootStart hwrev gen).1 := by
  have hrev : BootKept s.mainOn (s.setHwrev hwrev).mainOn := ⟨rfl, rfl, rfl, rfl, rfl⟩
  have hstart := (hrev.trans (State.mainUp_kept _)).ksStart (gen := gen)
  exact hstart.quiet (by simp [State.bootStart])

theorem State.boot_none_eq (s : State) (hwrev : Nat) (gen : CsGen) :
    s.boot hwrev .none gen =
      ((((s.bootStart hwrev gen).1.bootPlan (s.bootStart hwrev gen).2 hwrev).1.runPlan
        ((s.bootStart hwrev gen).1.bootPlan (s.bootStart hwrev gen).2 hwrev).2).ksLoad.startTown
        ((s.bootStart hwrev gen).1.bootPlan (s.bootStart hwrev gen).2 hwrev).2) := rfl

/-- A boot that nothing disturbs brings MAIN up. -/
theorem State.boot_none_kept (s : State) (hwrev : Nat) (gen : CsGen) :
    BootKept s.mainOn (s.boot hwrev .none gen) := by
  have hstart := s.bootStart_kept hwrev gen
  rw [State.boot_none_eq]
  generalize s.bootStart hwrev gen = r at hstart ⊢
  have hplan : BootKept s.mainOn (r.1.bootPlan r.2 hwrev).1 := hstart.quiet (by simp)
  exact (hplan.runPlan (x := (r.1.bootPlan r.2 hwrev).2)).quiet (by simp)

theorem State.boot_beforePlan_eq (s : State) (hwrev : Nat) (src : Fin 5) (gen : CsGen) :
    s.boot hwrev (.beforePlan src) gen = ((s.bootStart hwrev gen).1.tamperHalt src.val).haltAll.relevelAll := rfl

/-! ### Cores that never start (R408) -/

theorem forAll_halted (l : List Nat) (s : State) {c : Nat} (h : c ∈ l ∨ (s.hart c).halted = true) :
    ((forAll l (fun s c => s.setHart c { s.hart c with halted := true }) s).hart c).halted = true := by
  induction l generalizing s with
  | nil => exact h.resolve_left (by simp)
  | cons k rest ih =>
    refine ih _ ?_
    rw [List.mem_cons] at h
    by_cases hk : c = k
    · subst hk
      exact .inr (by rw [State.setHart_hart_same])
    · rw [State.setHart_hart_ne _ _ _ _ hk]
      exact h.imp_left (·.resolve_left hk)

theorem State.haltAll_halted (s : State) {c : Nat} (hc : c < 8) : (s.haltAll.hart c).halted = true :=
  forAll_halted _ s (.inl (List.mem_range.mpr hc))

theorem State.relevelAll_hart (s : State) (c : Nat) : s.relevelAll.hart c = s.hart c := by
  have hwg : s.relevelAll.wg = s.wg := same_of_allBut .wg (by simp)
  exact congrArg (fun g : WgState => tget (fun _ => Hart.reset) g.harts c) hwg

/-! ### The command -/

theorem execBoot_boot {s : State} (hw : BitVec 16) {rom : RomPhase} (hdue : s.ao.booting = true) (hvolt : s.ao.underVolt = false)
    (hdev : s.dev = .parked ∨ s.dev = .standby) (hgen : rom.gen ≠ .lost ∨ s.csNeeded = false ∨ s.ks.drbgOk = false) :
    execBoot hw rom s = .next (s.boot hw.toNat rom.tamper rom.gen) := by
  unfold execBoot
  rw [if_pos, if_neg]
  · rcases hgen with h | h | h <;> simp [h]
  · rcases hdev with h | h <;> simp [hdue, hvolt, h]

theorem execBoot_lost {s : State} (hw : BitVec 16) (tamper : BootTamper) (hdue : s.ao.booting = true) (hvolt : s.ao.underVolt = false)
    (hdev : s.dev = .parked ∨ s.dev = .standby) (hneeded : s.csNeeded = true) (hdrbg : s.ks.drbgOk = true) :
    execBoot hw ⟨tamper, .lost⟩ s = .next (s.csBurn 1) := by
  unfold execBoot
  rw [if_pos, if_pos ⟨rfl, hneeded, hdrbg⟩]
  rcases hdev with h | h <;> simp [hdue, hvolt, h]

/-- A loss of supply while a Cornerstone is generated leaves the area partly burned. -/
theorem State.csBurn_partly (s : State) :
    (if s.otp.cs0.st = 0 then (s.csBurn 1).otp.cs0.st = 1 ∧ (s.csBurn 1).otp.cs1 = s.otp.cs1
      else (s.csBurn 1).otp.cs1.st = 1 ∧ (s.csBurn 1).otp.cs0 = s.otp.cs0) ∧ (s.csBurn 1).otp.floor = s.otp.floor := by
  rw [s.csBurn_otp]
  split <;> exact ⟨⟨rfl, rfl⟩, rfl⟩

/-! ### The statement -/

/-- Settles O6: the watchdog and DEV_RESET by `State.deviceRestart_restarted`, the boot by what MAIN's power-up settles (`State.mainOn`) and
the later steps keep (`BootKept`). -/
theorem restartsAndBoot : Obligations.RestartsAndBoot := by
  unfold Obligations.RestartsAndBoot
  refine ⟨?kick, ?late, ?expiry, ?reset, ?boot, ?tamper, ?lost⟩
  case kick =>
    intro s who w h htime
    have hkicked : s.wdtKicked (s.wdtWritten w) = (s.wdtWritten w).wdtRestart := if_neg (by omega)
    have hexec := s.wdtWrite_eq (s.issuer who) w h
    rw [hkicked] at hexec
    have hwritten := s.wdtWritten_frame w
    have hperiod := s.wdtWritten_period w
    generalize s.wdtWritten w = u at hexec hwritten hperiod
    refine ⟨_, congrArg Host.Outcome.next hexec, u.wdtRestart_kick.trans (hwritten.same .now (by simp)), (State.setResp_rd ..).trans ((State.setAo_rd ..).trans hperiod), rfl, ?_⟩
    exact (hwritten.widen (by simp)).trans <| ((State.setAo_frame _ _).noRegs (by simp)).trans <|
      (State.setResp_frame _ _).noRegs (by simp)
  case late =>
    intro s who w h hlate hend
    have hkicked : s.wdtKicked (s.wdtWritten w) = s.draw.deviceRestart 3 (some 2) := (if_pos hlate).trans (if_pos hend)
    have hexec := s.wdtWrite_eq (s.issuer who) w h
    rw [hkicked] at hexec
    have hrestarted := s.draw.deviceRestart_restarted 3 (some 2)
    generalize s.draw.deviceRestart 3 (some 2) = u at hexec hrestarted
    exact ⟨_, congrArg Host.Outcome.next hexec, hrestarted.dev, hrestarted.booting, hrestarted.cause, hrestarted.ep, hrestarted.otp⟩
  case expiry =>
    intro s hdev
    have hrestarted := s.wdtExpired_restarted
    exact ⟨_, congrArg Host.Outcome.next (if_pos hdev), hrestarted.dev, hrestarted.booting, hrestarted.cause, hrestarted.ep, s.wdtExpired_spec⟩
  case reset =>
    intro s who w h hreset
    obtain ⟨v, hexec⟩ := s.devResetWrite_eq (s.issuer who) w h hreset
    have hrestarted := (s.setReg Rg.AO_STATE v).deviceRestart_restarted 4 (some 3)
    have hotp := hrestarted.otp.trans ((s.setReg_frame Rg.AO_STATE v).same .otp (by simp))
    generalize (s.setReg Rg.AO_STATE v).deviceRestart 4 (some 3) = u at hexec hrestarted hotp
    exact ⟨_, congrArg Host.Outcome.next hexec, hrestarted.dev, hrestarted.booting, hrestarted.cause, hrestarted.ep, hotp, rfl⟩
  case boot =>
    intro s hw gen hdue hvolt hdev hgen
    have hexec := execBoot_boot hw (rom := ⟨.none, gen⟩) hdue hvolt hdev hgen
    have hkept := s.boot_none_kept hw.toNat gen
    dsimp only at hexec
    generalize s.boot hw.toNat .none gen = u at hexec hkept
    exact ⟨_, hexec, hkept.dev, hkept.booting, hkept.causes, hkept.wdtKick, hkept.provLocked⟩
  case tamper =>
    intro s hw src gen hdue hvolt hdev hgen
    refine ⟨_, (execBoot_boot hw hdue hvolt hdev hgen).trans (congrArg Host.Outcome.next (s.boot_beforePlan_eq hw.toNat src gen)), ?_⟩
    have hkept := (s.bootStart_kept hw.toNat gen).tamperHalt (src := src.val)
    generalize (s.bootStart hw.toNat gen).1.tamperHalt src.val = u at hkept ⊢
    refine ⟨hkept.halted.dev, hkept.halted.booting, fun c => ?_⟩
    rw [State.relevelAll_hart]
    exact u.haltAll_halted c.isLt
  case lost =>
    intro s hw tamper hdue hvolt hdev hneeded hdrbg
    obtain ⟨harea, hfloor⟩ := s.csBurn_partly
    exact ⟨_, execBoot_lost hw tamper hdue hvolt hdev hneeded hdrbg, harea, s.csBurn_provLocked 1, hfloor, frame_of_blot_noRegs (by simp) (by simp)⟩

end Sys2Proof.Machine
end

section
/-! SUPPORT. The registers of Lamplighter (chapter 04): a read of MRAM whose block is gated. -/

namespace Sys2Proof.Machine

/-- An Active device in which the clock of Lamplighter, block 2, is gated. -/
def gatedLamplighter : State := { State.reset with dev := .active, ao := { AoState.reset with clkGated := [2] } }

/-- The read is refused (R86), and the pointer stays. -/
theorem mramPtr_of_gatedRead {t : State} (h : exec (.mramDataRead ⟨8, 0, 0⟩) gatedLamplighter = .next t) :
    t.rd Fd.AO_MRAM_PTR_OFFSET = 0 := by
  injection h with h
  rw [← h]
  decide

/-- Refutes O7: its last clause does not assume that Lamplighter's block has clock and power. A BLOCK_POWER_REQUEST never gates an essential
block, but a state in which block 2 is gated meets the clause's conditions, and there the read is refused like any access to a gated block
(R86), so that AO_MRAM_PTR does not advance. -/
theorem not_lamplighterRegisters : ¬ Obligations.LamplighterRegisters := by
  unfold Obligations.LamplighterRegisters
  rintro ⟨-, -, -, -, -, -, -, -, hread⟩
  obtain ⟨t, hexec, -, hptr, -⟩ := hread gatedLamplighter ⟨8, 0, 0⟩ (by decide) (by decide) (by decide)
  have hstart : gatedLamplighter.rd Fd.AO_MRAM_PTR_OFFSET = 0 := by decide
  rw [mramPtr_of_gatedRead hexec, hstart] at hptr
  cases hptr

end Sys2Proof.Machine
end

section
/-! SUPPORT. The switch's operations as frames (chapters 05 and 06): its events and counters, the shapers, and the work in Plaza as one
relation between two states. -/

namespace Sys2Proof.Machine

/-! ### Events and counters (R50, R51, R117) -/

theorem State.swLevel_frame (s : State) (p : Nat) : Frame s (s.swLevel p) [.ic] (fun _ => False) := s.level_frame _ _

/-- The registers that event `c` of port `p` counts in. -/
abbrev swEventRegs (p c a : Nat) : Prop := a = Rg.SW_EVENT p c ∨ a = Rg.SW_EVENT_SAT p

theorem State.swEvent_frame (s : State) (p c : Nat) : Frame s (s.swEvent p c) [.regs, .ic] (swEventRegs p c) :=
  ((s.count_frame _ _ _).widen (by simp)).trans ((State.swLevel_frame _ p).noRegs (by simp))

/-- The sixteen events of a port lie before SW_EVENT_SAT. -/
theorem State.swEvent_counted (s : State) {p c : Nat} (hp : p < 24) (hc : c < 16) : Counted s (s.swEvent p c) (Rg.SW_EVENT p c) := by
  have hne : Rg.SW_EVENT p c ≠ Rg.SW_EVENT_SAT p := by unfold Rg.SW_EVENT Rg.SW_EVENT_SAT; omega
  have hlev : (s.swEvent p c).reg (Rg.SW_EVENT p c) = _ := (State.swLevel_frame _ p).reg not_false
  unfold Counted
  rw [hlev]
  exact s.count_counted _ _ _ hne

theorem Counted.of_reg {s t u v : State} {a : Nat} (h : Counted t u a) (hs : t.reg a = s.reg a) (hv : v.reg a = u.reg a) : Counted s v a := by
  rwa [Counted, hv, ← hs]

theorem State.count64_frame (s : State) (a sat b n : Nat) :
    Frame s (s.count64 a sat b n) [.regs] (fun r => r = a ∨ r = a + 4 ∨ r = sat) := by
  refine frame_of_blot (by simp) fun r hr => ?_
  simp only [not_or] at hr
  obtain ⟨hlo, hhi, hsat⟩ := hr
  unfold State.count64
  dsimp only
  split
  · rw [reg_setReg_ne _ _ _ _ hhi, reg_setReg_ne _ _ _ _ hlo]
  · rw [reg_wr_ne _ (bitOf sat b) _ _ hsat, reg_setReg_ne _ _ _ _ hhi, reg_setReg_ne _ _ _ _ hlo]

/-- The registers in which port `p` counts what it receives (`k` 0) or sends (`k` 2). -/
abbrev trafficRegs (p k a : Nat) : Prop := a = Rg.SQ_PORT_SAT p ∨ Rg.SQ_TRAFFIC_LO p k ≤ a ∧ a < Rg.SQ_TRAFFIC_LO p k + 16

theorem State.traffic_frame (s : State) (p k len : Nat) : Frame s (s.traffic p k len) [.regs, .ic] (trafficRegs p k) := by
  have hcount : ∀ (u : State) (j n : Nat), j = k ∨ j = k + 1 →
      Frame u (u.count64 (Rg.SQ_TRAFFIC_LO p j) (Rg.SQ_PORT_SAT p) j n) [.regs, .ic] (trafficRegs p k) := fun u j n hj =>
    (u.count64_frame _ _ _ _).mono (by simp) fun r hr => by unfold trafficRegs Rg.SQ_TRAFFIC_LO at *; omega
  exact ((hcount _ k 1 (.inl rfl)).trans (hcount _ (k + 1) len (.inr rfl))).trans ((State.swLevel_frame _ p).noRegs (by simp))

theorem State.qEvent_frame (s : State) (p tc c : Nat) :
    Frame s (s.qEvent p tc c) [.regs, .ic] (fun a => a = Rg.SQ_Q_EVENT p tc c ∨ a = Rg.SQ_Q_SAT p) :=
  ((s.count_frame _ _ _).widen (by simp)).trans ((State.swLevel_frame _ p).noRegs (by simp))

/-! ### Shapers (R131) -/

def State.setShapers (s : State) (x : Tbl Shaper) : State := { s with sw := { s.sw with shapers := x } }

/-- Credit is all that the shapers bring up to the present moment. -/
theorem State.shapersSync_eq (s : State) : ∃ x, s.shapersSync = s.setShapers x :=
  forAll_keeps (fun t => ∃ x, t = s.setShapers x) _ State.shaperSync (fun t i ⟨x, hx⟩ => by rw [hx]; exact ⟨_, rfl⟩) s ⟨s.sw.shapers, rfl⟩

theorem State.shapersSync_frame (s : State) : Frame s s.shapersSync [.sw] (fun _ => False) := frame_of_blot_noRegs (by simp) (by simp)

end Sys2Proof.Machine
end

section
/-! SUPPORT. The work in Plaza (R110, R119 to R123, R127) as one relation between two states: frames, copies, connections, streams and
shapers may change, with the registers and endpoints that account for them, and nothing else of the switch or the device does. -/

namespace Sys2Proof.Machine

/-! ### The relation -/

/-- The counters and occupancies of the switch, which lie above its ports' registers, without the count of bad frames sent. -/
abbrev plazaRegs (a : Nat) : Prop := 0x20080400 ≤ a ∧ ∀ p < 24, a ≠ Rg.SW_EVENT p 11

structure InPlaza (s t : State) : Prop where
  frame : Frame s t [.regs, .ep, .ic, .sw] plazaRegs
  sw : t.sw = { s.sw with frames := t.sw.frames, copies := t.sw.copies, conns := t.sw.conns, streams := t.sw.streams, shapers := t.sw.shapers }

theorem InPlaza.refl (s : State) : InPlaza s s := ⟨Frame.refl _ _ _, rfl⟩

theorem InPlaza.trans {s t u : State} (h : InPlaza s t) (k : InPlaza t u) : InPlaza s u :=
  ⟨h.frame.trans k.frame, k.sw.trans (by rw [h.sw])⟩

theorem InPlaza.ite {s t u : State} {c : Prop} [Decidable c] (h : InPlaza s t) (k : InPlaza s u) : InPlaza s (if c then t else u) := by
  split <;> assumption

theorem InPlaza.forAll {s : State} {α : Type} {l : List α} {f : State → α → State} (hf : ∀ u x, InPlaza u (f u x)) : InPlaza s (forAll l f s) :=
  forAll_keeps (InPlaza s) l f (fun t x h => h.trans (hf t x)) s (.refl s)

/-- Counters and endpoints alone. -/
theorem InPlaza.of_frame {s t : State} {parts : List Piece} {regs : Nat → Prop} (h : Frame s t parts regs) (hp : parts ⊆ [.regs, .ep, .ic])
    (hr : ∀ a, regs a → plazaRegs a) : InPlaza s t := by
  have hsw : t.sw = s.sw := h.same .sw fun hm => by simpa using hp hm
  exact ⟨h.mono (fun _ hm => by have := hp hm; simp at this ⊢; tauto) hr, by rw [hsw]⟩

theorem InPlaza.upd {s : State} {frames copies conns streams shapers} :
    InPlaza s { s with sw := { s.sw with frames := frames, copies := copies, conns := conns, streams := streams, shapers := shapers } } :=
  ⟨frame_of_blot (by simp) fun _ _ => rfl, rfl⟩

/-! ### Accounting -/

theorem plazaRegs_of_queues {a : Nat} (h : 0x20090000 ≤ a) : plazaRegs a := ⟨by omega, fun p hp => by unfold Rg.SW_EVENT; omega⟩

theorem InPlaza.wr {s : State} {f : Fld} {v : Nat} (hf : 0x20090000 ≤ f.addr) : InPlaza s (s.wr f v) :=
  .of_frame (s.wr_frame f v) (by simp) fun _ ha => plazaRegs_of_queues (ha ▸ hf)

theorem State.setOcc_inPlaza (s : State) (p tc n : Nat) : InPlaza s (s.setOcc p tc n) := by
  have hwr : ∀ (u : State) (f : Fld) (v : Nat), 0x20090000 ≤ f.addr → InPlaza u (u.wr f v) := fun _ _ _ => .wr
  have hocc := (hwr s (Fd.SQ_Q_OCC_OCC p tc) n (by simp only [Fd.SQ_Q_OCC_OCC]; omega)).trans
    (hwr _ (Fd.SQ_Q_OCC_HWM p tc) (max n ((s.wr (Fd.SQ_Q_OCC_OCC p tc) n).rd (Fd.SQ_Q_OCC_HWM p tc))) (by simp only [Fd.SQ_Q_OCC_HWM]; omega))
  unfold State.setOcc
  dsimp only
  split
  · exact hocc
  · refine .ite hocc ((hocc.trans (hwr _ _ _ ?_)).trans (hwr _ _ _ ?_))
    · simp only [Fd.SQ_POOL_STATUS_USED]; omega
    · simp only [Fd.SQ_POOL_STATUS_HWM]; omega

theorem State.epOcc_inPlaza (s : State) (e n : Nat) : InPlaza s (s.epOcc e n) :=
  .of_frame (frame_of_blot_noRegs (parts := [.ep]) (by simp) (by simp)) (by simp) fun _ h => h.elim

theorem State.traffic_inPlaza (s : State) (p k len : Nat) : InPlaza s (s.traffic p k len) :=
  .of_frame (s.traffic_frame p k len) (by simp) fun a ha => plazaRegs_of_queues (by
    unfold trafficRegs Rg.SQ_PORT_SAT Rg.SQ_TRAFFIC_LO at ha; omega)

theorem State.qEvent_inPlaza (s : State) (p tc c : Nat) : InPlaza s (s.qEvent p tc c) :=
  .of_frame (s.qEvent_frame p tc c) (by simp) fun a ha => plazaRegs_of_queues (by
    unfold Rg.SQ_Q_EVENT Rg.SQ_Q_SAT at ha; omega)

/-- Event 15: a copy of a bad frame is discarded. -/
theorem State.swEvent_inPlaza (s : State) (p : Nat) : InPlaza s (s.swEvent p 15) :=
  .of_frame (s.swEvent_frame p 15) (by simp) fun a ha => by
    unfold swEventRegs Rg.SW_EVENT Rg.SW_EVENT_SAT at ha
    exact ⟨by omega, fun q hq => by unfold Rg.SW_EVENT; omega⟩

/-! ### Frames and copies -/

theorem State.putFrame_inPlaza (s : State) (f : SwFrame) : InPlaza s (s.putFrame f) := .upd
theorem State.putCopy_inPlaza (s : State) (c : SwCopy) : InPlaza s (s.putCopy c) := .upd
theorem State.sweepFrames_inPlaza (s : State) : InPlaza s s.sweepFrames := .upd
theorem State.setStrm_inPlaza (s : State) (h : Nat) (x : Strm) : InPlaza s (s.setStrm h x) := .upd
theorem State.shapersSync_inPlaza (s : State) : InPlaza s s.shapersSync := by
  obtain ⟨x, hx⟩ := s.shapersSync_eq
  rw [hx]
  exact .upd

theorem State.releaseCopy_inPlaza (s : State) (c : SwCopy) : InPlaza s (s.releaseCopy c) :=
  ((s.setOcc_inPlaza _ _ _).trans (.ite (State.epOcc_inPlaza _ _ _) (.refl _))).trans (State.putCopy_inPlaza _ _)

theorem State.dropCopy_inPlaza (s : State) (c : SwCopy) : InPlaza s (s.dropCopy c) := (s.releaseCopy_inPlaza c).trans .upd

theorem State.unrecover_inPlaza (s : State) (h seq : Nat) : InPlaza s (s.unrecover h seq) := .ite (s.setStrm_inPlaza _ _) (.refl s)

theorem State.strmCount_inPlaza (s : State) (h c : Nat) : InPlaza s (s.strmCount h c) :=
  .ite (s.setStrm_inPlaza _ _) ((s.setStrm_inPlaza _ _).trans (.of_frame (State.level_frame _ _ _) (by simp) fun _ hf => hf.elim))

theorem State.refund_inPlaza (s : State) (h len : Nat) : InPlaza s (s.refund h len) := by
  unfold State.refund
  split
  · exact .refl s
  · exact (s.setStrm_inPlaza _ _).trans (State.setStrm_inPlaza _ _ _)

theorem State.meterEnd_inPlaza (s : State) (m : Option (Nat × Nat)) (len : Nat) : InPlaza s (s.meterEnd m len) := by
  unfold State.meterEnd
  split
  · exact s.refund_inPlaza _ _
  · exact .refl s

theorem State.recover_inPlaza (s : State) (h seq : Nat) : InPlaza s (s.recover h seq).2 := by
  have haccept : ∀ (x : Strm) (b : Bool), InPlaza s ((if b then s.setStrm h x else (s.setStrm h x).strmCount h 5).strmCount h 3) := fun x b =>
    (InPlaza.ite (s.setStrm_inPlaza h x) ((s.setStrm_inPlaza h x).trans (State.strmCount_inPlaza _ _ _))).trans (State.strmCount_inPlaza _ _ _)
  unfold State.recover
  dsimp only
  split
  · exact haccept _ true
  · split
    · exact haccept _ _
    · split
      · exact haccept _ false
      · exact s.strmCount_inPlaza _ _

/-- What a bad frame becomes of one of its copies (R110, R112): one under way ends with what has crossed, another is discarded. -/
def State.badCopy (s : State) (c : SwCopy) : State :=
  if c.started || (!isEthernet c.out && decide (0 < c.crossed)) then
    let s := if c.done || c.out == 23 then s else s.releaseCopy c
    let s := s.putCopy { c with charge := if c.done || c.out == 23 then c.charge else 0, done := true, joined := true }
    { s with sw := { s.sw with conns := s.sw.conns.filter (fun k => k.2 != c.n) } }
  else (s.swEvent c.out 15).dropCopy c

/-- The frame that has proved bad, before its copies are looked at. -/
def State.badNoted (s : State) (f : SwFrame) : State :=
  let s := s.putFrame { f with bad := true, ended := true, elim := none }
  match f.elim with
  | some (h, seq, true) => s.unrecover h seq
  | _ => s

theorem State.badFrame_eq (s : State) (f : SwFrame) :
    s.badFrame f = (forAll ((s.badNoted f).sw.copies.filter (fun c => c.frame == f.id)) State.badCopy (s.badNoted f)).sweepFrames := by
  unfold State.badFrame State.badNoted
  rfl

theorem State.badCopy_inPlaza (s : State) (c : SwCopy) : InPlaza s (s.badCopy c) := by
  have hrelease : InPlaza s (if c.done || c.out == 23 then s else s.releaseCopy c) := .ite (.refl s) (s.releaseCopy_inPlaza c)
  exact .ite ((hrelease.trans (State.putCopy_inPlaza _ _)).trans .upd) ((s.swEvent_inPlaza _).trans (State.dropCopy_inPlaza _ _))

theorem State.badNoted_inPlaza (s : State) (f : SwFrame) : InPlaza s (s.badNoted f) := by
  unfold State.badNoted
  dsimp only
  split
  · exact (s.putFrame_inPlaza _).trans (State.unrecover_inPlaza _ _ _)
  · exact s.putFrame_inPlaza _

theorem State.badFrame_inPlaza (s : State) (f : SwFrame) : InPlaza s (s.badFrame f) := by
  rw [s.badFrame_eq]
  exact ((s.badNoted_inPlaza f).trans (.forAll State.badCopy_inPlaza)).trans (State.sweepFrames_inPlaza _)

section
variable {s t : State} (h : InPlaza s t)
include h
theorem InPlaza.flushing : t.sw.flushing = s.sw.flushing := by rw [h.sw]
theorem InPlaza.returns : t.sw.returns = s.sw.returns := by rw [h.sw]
theorem InPlaza.sent : t.sw.sent = s.sw.sent := by rw [h.sw]
theorem InPlaza.rx (p : Nat) : t.rx p = s.rx p := by rw [State.rx, h.sw, State.rx]
end

end Sys2Proof.Machine
end

section
/-! SUPPORT. Links (R103, R104, R126, R127): what a link that goes down, the end of its flush and a link that comes up leave. -/

namespace Sys2Proof.Machine

/-! ### SW_PORT_STATUS -/

/-- LINK and RATE of a port as written together. -/
def State.setPortStatus (s : State) (p link rate : Nat) : State := (s.wr (Fd.SW_PORT_STATUS_LINK p) link).wr (Fd.SW_PORT_STATUS_RATE p) rate

theorem State.setPortStatus_spec (s : State) (p link rate : Nat) :
    (s.setPortStatus p link rate).rd (Fd.SW_PORT_STATUS_LINK p) = link % 2 ∧
      (s.setPortStatus p link rate).rd (Fd.SW_PORT_STATUS_RATE p) = rate % 8 ∧
      Frame s (s.setPortStatus p link rate) [.regs] (fun a => a = Rg.SW_PORT_STATUS p) := by
  have hlink : (0 : Nat) ≤ 0 := le_rfl
  have hrate : (1 : Nat) ≤ 3 := by decide
  have hbits : (0 : Nat) < 1 ∨ 3 < 0 := by decide
  refine ⟨?_, rd_wr_same _ (Fd.SW_PORT_STATUS_RATE p) rate hrate (by decide : (3 : Nat) ≤ 31),
    (s.wr_frame (Fd.SW_PORT_STATUS_LINK p) link).trans (State.wr_frame _ (Fd.SW_PORT_STATUS_RATE p) rate)⟩
  unfold State.setPortStatus
  rw [rd_wr_apart _ (Fd.SW_PORT_STATUS_RATE p) (Fd.SW_PORT_STATUS_LINK p) rate rfl hrate (by decide : (3 : Nat) ≤ 31) hbits]
  exact rd_wr_same s (Fd.SW_PORT_STATUS_LINK p) link hlink (by decide : (0 : Nat) ≤ 31)

/-! ### A link goes down -/

/-- The port reads its link down, is no candidate and flushes; the frame that it receives is not aborted yet. -/
def State.linkCut (s : State) (p : Nat) : State :=
  let s := s.shapersSync.setPortStatus p 0 0
  let s := if p < 2 then s.wr (candFld p) 0 else s
  { s with sw := { s.sw with flushing := insertNat s.sw.flushing p } }

theorem State.linkDown_eq (s : State) {p : Nat} (h : s.linkUp p = true) : s.linkDown p = ((s.linkCut p).rxAbort p).shapersSync :=
  if_neg (by simp [h])

theorem candFld_addr (p : Nat) : (candFld p).addr = Rg.SW_HASH_CFG := by unfold candFld; split <;> rfl
theorem candFld_bit (p : Nat) : (candFld p).lo = (candFld p).hi ∧ (candFld p).hi ≤ 31 := by unfold candFld; split <;> decide

theorem State.linkCut_spec (s : State) (p : Nat) :
    (s.linkCut p).linkUp p = false ∧ (s.linkCut p).rd (Fd.SW_PORT_STATUS_RATE p) = 0 ∧ (p < 2 → (s.linkCut p).flag (candFld p) = false) ∧
      p ∈ (s.linkCut p).sw.flushing := by
  obtain ⟨hlink, hrate, -⟩ := s.shapersSync.setPortStatus_spec p 0 0
  let t := s.shapersSync.setPortStatus p 0 0
  let u := if p < 2 then t.wr (candFld p) 0 else t
  have hcand : ∀ f : Fld, f.addr = Rg.SW_PORT_STATUS p → u.rd f = t.rd f := fun f hf => by
    simp only [u]
    split
    · exact rd_wr_ne _ _ _ _ (by rw [candFld_addr, hf]; unfold Rg.SW_PORT_STATUS Rg.SW_HASH_CFG; omega)
    · rfl
  refine ⟨?_, (hcand (Fd.SW_PORT_STATUS_RATE p) rfl).trans hrate, fun hp => ?_, (mem_insertNat _ _ _).mpr (.inl rfl)⟩
  · have hrd : u.rd (Fd.SW_PORT_STATUS_LINK p) = 0 := (hcand (Fd.SW_PORT_STATUS_LINK p) rfl).trans hlink
    change (u.rd (Fd.SW_PORT_STATUS_LINK p) == 1) = false
    rw [hrd]
    rfl
  · have hu : u = t.wr (candFld p) 0 := if_pos hp
    change u.flag (candFld p) = false
    rw [hu]
    exact flag_wr_zero _ _ (candFld_bit p).1.le (candFld_bit p).2

/-- R127: the frame that a port receives is aborted within Plaza and at the port's counters. -/
theorem State.rxAbort_spec (s : State) (p : Nat) :
    Frame s (s.rxAbort p) [.regs, .ep, .ic, .sw] plazaRegs ∧ (s.rxAbort p).sw.flushing = s.sw.flushing := by
  unfold State.rxAbort
  split
  · exact ⟨.refl _ _ _, rfl⟩
  · next x _ =>
    have hcount : InPlaza s ((s.count (Rg.SQ_RX_ABORT p) (Rg.SQ_PORT_SAT p) 4).swLevel p) :=
      .of_frame (((s.count_frame _ _ _).widen (by simp)).trans ((State.swLevel_frame _ p).noRegs (parts' := [.regs, .ic]) (by simp))) (by simp)
        fun a ha => plazaRegs_of_queues (by unfold Rg.SQ_RX_ABORT Rg.SQ_PORT_SAT at ha; omega)
    have hmeter := hcount.trans (State.meterEnd_inPlaza _ x.meter x.got.length)
    dsimp only
    generalize ((s.count (Rg.SQ_RX_ABORT p) (Rg.SQ_PORT_SAT p) 4).swLevel p).meterEnd x.meter x.got.length = t at hmeter ⊢
    have hrx : Frame t (t.setRx p none) [.regs, .ep, .ic, .sw] plazaRegs := frame_of_blot (by simp) fun _ _ => rfl
    have hflush : (t.setRx p none).sw.flushing = s.sw.flushing := hmeter.flushing
    split
    · next f _ =>
      have hbad := (t.setRx p none).badFrame_inPlaza f
      exact ⟨(hmeter.frame.trans hrx).trans hbad.frame, hbad.flushing.trans hflush⟩
    · exact ⟨hmeter.frame.trans hrx, hflush⟩

/-! ### The flush -/

/-- A copy that leaves Plaza takes no other with it. -/
theorem State.releaseCopy_copies (s : State) (c : SwCopy) :
    (s.releaseCopy c).sw.copies = s.sw.copies.map (fun x => if x.n == c.n then { c with charge := 0 } else x) := by
  have hsw : (if c.out = 23 then (s.release c.out c.tc c.charge).epOcc c.ep (((s.release c.out c.tc c.charge).epAt c.ep).occ - c.charge)
      else s.release c.out c.tc c.charge).sw = s.sw := same_of_allBut .sw (by simp)
  rw [← hsw]
  rfl

theorem State.dropCopy_copies (s : State) (c : SwCopy) : (s.dropCopy c).sw.copies = s.sw.copies.filter (fun x => x.n != c.n) := by
  have hdrop : (s.dropCopy c).sw.copies = (s.releaseCopy c).sw.copies.filter (fun x => x.n != c.n) := rfl
  rw [hdrop, s.releaseCopy_copies]
  induction s.sw.copies with
  | nil => rfl
  | cons x rest ih => by_cases hx : x.n = c.n <;> simpa [hx] using ih

theorem forAll_dropped {f : State → SwCopy → State} (hf : ∀ u c, (f u c).sw.copies = u.sw.copies.filter (fun x => x.n != c.n))
    (l : List SwCopy) (s : State) : (forAll l f s).sw.copies = s.sw.copies.filter (fun x => l.all (fun c => x.n != c.n)) := by
  induction l generalizing s with
  | nil => simp [forAll]
  | cons c rest ih => rw [forAll, ih, hf, List.filter_filter]; simp [Bool.and_comm]

/-- The copies for a port, freed and counted as FLUSHED. -/
def State.flushCopies (s : State) (p : Nat) : State :=
  forAll (s.sw.copies.filter (fun c => c.out == p)) (fun s c => (s.dropCopy c).qEvent c.out c.tc 2) s

theorem State.flushCopies_inPlaza (s : State) (p : Nat) : InPlaza s (s.flushCopies p) :=
  .forAll fun u c => (u.dropCopy_inPlaza c).trans (State.qEvent_inPlaza _ _ _ _)

theorem State.flushCopies_gone (s : State) (p : Nat) : ∀ c ∈ (s.flushCopies p).sw.copies, c.out ≠ p := by
  have hstep : ∀ (u : State) (c : SwCopy), ((u.dropCopy c).qEvent c.out c.tc 2).sw.copies = u.sw.copies.filter (fun x => x.n != c.n) := fun u c =>
    (congrArg SwState.copies (((u.dropCopy c).qEvent_frame c.out c.tc 2).same .sw (by simp))).trans (u.dropCopy_copies c)
  intro c hc hout
  rw [State.flushCopies, forAll_dropped hstep, List.mem_filter, List.all_eq_true] at hc
  obtain ⟨hmem, hall⟩ := hc
  simpa using hall c (List.mem_filter.mpr ⟨hmem, by simp [hout]⟩)

/-- The port after its flush, before a link that returned is reported. -/
def State.flushed (s : State) (p : Nat) : State :=
  let s := s.shapersSync.flushCopies p
  let s := { s with sw := { s.sw with flushing := s.sw.flushing.filter (fun k => k != p), returns := s.sw.returns.filter (fun k => k != p) } }
  s.sweepFrames.shapersSync

theorem State.flushEnd_eq (s : State) {p : Nat} (h : s.sw.flushing.contains p = true) :
    s.flushEnd p = if s.sw.returns.contains p && (s.flushed p).mayLink p then (s.flushed p).linkRises p else s.flushed p := by
  have hback : (s.shapersSync.flushCopies p).sw.returns = s.sw.returns :=
    (s.shapersSync_inPlaza.trans (State.flushCopies_inPlaza _ p)).returns
  have heq : s.flushEnd p = if (s.shapersSync.flushCopies p).sw.returns.contains p && (s.flushed p).mayLink p then (s.flushed p).linkRises p
    else s.flushed p := if_pos h
  rw [heq, hback]

theorem State.flushed_spec (s : State) (p : Nat) : (∀ c ∈ (s.flushed p).sw.copies, c.out ≠ p) ∧ (s.flushed p).sw.flushing.contains p = false := by
  obtain ⟨x, hx⟩ := State.shapersSync_eq (State.sweepFrames { s.shapersSync.flushCopies p with sw := { (s.shapersSync.flushCopies p).sw with
    flushing := (s.shapersSync.flushCopies p).sw.flushing.filter (fun k => k != p)
    returns := (s.shapersSync.flushCopies p).sw.returns.filter (fun k => k != p) } })
  have heq : s.flushed p = _ := hx
  rw [heq]
  exact ⟨State.flushCopies_gone _ p, by simp [State.setShapers, State.sweepFrames, State.setFrames]⟩

/-! ### A link comes up -/

theorem portRateCode_lt (p : Nat) : portRateCode p < 8 := by unfold portRateCode; split <;> decide

theorem State.setLinkUp_spec (s : State) (p : Nat) :
    (s.setLinkUp p).linkUp p = true ∧ (s.setLinkUp p).rd (Fd.SW_PORT_STATUS_RATE p) = portRateCode p ∧ (s.setLinkUp p).linkAt p = s.now ∧
      Frame s (s.setLinkUp p) [.regs, .sw] (fun a => a = Rg.SW_PORT_STATUS p) := by
  obtain ⟨hlink, hrate, hframe⟩ := s.setPortStatus_spec p 1 (portRateCode p)
  have hreg : ∀ a, (s.setLinkUp p).reg a = (s.setPortStatus p 1 (portRateCode p)).reg a := fun _ => rfl
  refine ⟨?_, ?_, tget_tset_same _ _ _ _, frame_of_blot (by simp) fun r hr => (hreg r).trans (hframe.reg hr)⟩
  · rw [State.linkUp, State.flag_iff, State.rd, hreg]
    exact hlink
  · rw [State.rd, hreg]
    exact hrate.trans (Nat.mod_eq_of_lt (portRateCode_lt p))

/-- A port that was not waking: reporting its link up is all. -/
theorem State.linkRises_eq (s : State) (p : Nat) (h : p < 2 ∨ 16 ≤ p ∨ s.rd (Fd.NM_ETH_STATUS_STATE p) ≠ 3) : s.linkRises p = s.setLinkUp p := by
  obtain ⟨-, -, -, hframe⟩ := s.setLinkUp_spec p
  have hstate : (s.setLinkUp p).rd (Fd.NM_ETH_STATUS_STATE p) = s.rd (Fd.NM_ETH_STATUS_STATE p) :=
    hframe.rd (by simp only [Fd.NM_ETH_STATUS_STATE, Rg.SW_PORT_STATUS]; omega)
  refine if_neg ?_
  simp only [Bool.and_eq_true, decide_eq_true_eq, beq_iff_eq, hstate]
  omega

/-- Waking is seen in the registers of the port's PHY alone. -/
theorem State.linkRises_spec (s : State) (p : Nat) :
    (s.linkRises p).linkUp p = true ∧ (s.linkRises p).sw.copies = s.sw.copies ∧ (s.linkRises p).sw.flushing = s.sw.flushing := by
  have hup := (s.setLinkUp_spec p).1
  unfold State.linkRises
  dsimp only
  split
  · refine ⟨?_, rfl, rfl⟩
    have hne : (Fd.SW_PORT_STATUS_LINK p).addr ≠ Rg.NM_ETH_STATUS p := by simp only [Fd.SW_PORT_STATUS_LINK, Rg.NM_ETH_STATUS]; omega
    rw [State.linkUp, flag_wr_ne _ (Fd.NM_ETH_STATUS_RESULT p) _ _ hne, flag_wr_ne _ (Fd.NM_ETH_STATUS_STATE p) _ _ hne]
    exact hup
  · exact ⟨hup, rfl, rfl⟩

theorem State.linkComesUp_eq (s : State) (p : Nat) (hdown : s.linkUp p = false) (hmay : s.mayLink p = true)
    (hflush : s.sw.flushing.contains p = false) : s.linkComesUp p = s.linkRises p := by
  unfold State.linkComesUp
  rw [if_neg (by simp [hdown, hmay]), if_neg (by rw [hflush]; decide)]

end Sys2Proof.Machine
end

section
/-! SUPPORT. The commands of SW_FDB_CMD (R103, R116) and the change of TX_AN (R115), and the statement on links and the forwarding
database. -/

namespace Sys2Proof.Machine

/-! ### SW_FDB_CMD -/

/-- What an OP of SW_FDB_CMD does. -/
def State.fdbOp (s : State) (op port : Nat) : State :=
  match op with
  | 1 => s.fdbLookup
  | 2 => s.fdbDelete
  | 3 => s.fdbFlushPort port
  | 4 => s.fdbFlushAll
  | _ => s

theorem fdbWord_toNat {op port : Nat} (hop : op ≤ 4) (hport : port < 32) : (fdbWord op port).toNat = port * 256 + op := by
  rw [fdbWord, BitVec.toNat_ofNat]
  omega

/-- A command that passes its checks and finds none under way has its effect, after the written fields are taken. -/
theorem State.fdbCmdWrite_eq (s : State) (who : Who) {op port : Nat} (hop : op ≤ 4) (hport : port < 32)
    (h : s.passesChecks who 4 Rg.SW_FDB_CMD (fdbWord op port) false (decide (23 < port)) = true) (hfree : s.rd Fd.SW_FDB_CMD_RESULT ≠ Code.BUSY) :
    ∃ v, s.fdbCmdWrite who 4 (fdbWord op port) = { (s.setReg Rg.SW_FDB_CMD v).fdbOp op port with resp := .done } := by
  have hword := fdbWord_toNat hop hport
  have hopOf : (fdbWord op port).toNat % 8 = op := by omega
  have hportOf : (fdbWord op port).toNat / 256 % 32 = port := by omega
  have hbad : (decide (4 < op) || decide (23 < port)) = decide (23 < port) := by simp [hop]
  have hwrite : s.fdbCmdWrite who 4 (fdbWord op port) = s.regWrite who 4 Rg.SW_FDB_CMD (fdbWord op port) false (decide (23 < port))
      (if s.rd Fd.SW_FDB_CMD_RESULT = Code.BUSY then Code.BUSY else Code.DONE) (fun u => u.fdbOp op port) := by
    unfold State.fdbCmdWrite
    dsimp only
    rw [hopOf, hportOf, hbad]
    rfl
  obtain ⟨r, x, -, heq⟩ := s.regWrite_ok who 4 Rg.SW_FDB_CMD (fdbWord op port) false (decide (23 < port)) _ (fun u => u.fdbOp op port) h (if_neg hfree)
  exact ⟨_, hwrite.trans heq⟩

theorem fdbPort_lt (s : State) : s.rd Fd.SW_FDB_CMD_PORT < 32 := Nat.mod_lt _ (by decide)

/-- SW_FDB_CMD holds no part of the key. -/
theorem State.setCmd_fdbKey (s : State) (v : Word) : (s.setReg Rg.SW_FDB_CMD v).fdbKey = s.fdbKey := by
  have hkey : ∀ f : Fld, f.addr ≠ Rg.SW_FDB_CMD → (s.setReg Rg.SW_FDB_CMD v).rd f = s.rd f := fun f => rd_setReg_ne _ _ _ _
  simp only [State.fdbKey, hkey Fd.SW_FDB_KEY_HI_MAC_HI (by decide), hkey Fd.SW_FDB_KEY_LO_MAC_LO (by decide), hkey Fd.SW_FDB_KEY_HI_VID (by decide)]

theorem State.wrResult_spec (s : State) {code : Nat} (hcode : code < 65536) (r : Resp) :
    let t : State := { s.wr Fd.SW_FDB_CMD_RESULT code with resp := r }
    t.rd Fd.SW_FDB_CMD_RESULT = code ∧ Frame s t [.regs, .resp] (fun a => a = Rg.SW_FDB_CMD) := by
  have hframe := s.wr_frame Fd.SW_FDB_CMD_RESULT code
  have hresult := rd_wr_same s Fd.SW_FDB_CMD_RESULT code (by decide) (by decide)
  exact ⟨((State.setResp_rd _ r _).trans hresult).trans (Nat.mod_eq_of_lt hcode),
    (hframe.widen (by simp)).trans ((State.setResp_frame _ r).noRegs (by simp))⟩

abbrev lookupRegs (a : Nat) : Prop := a = Rg.SW_FDB_CMD ∨ a = Rg.SW_FDB_RESULT

/-- SW_FDB_RESULT as a LOOKUP shows a found entry. -/
def State.showEntry (s : State) (e : FdbEnt) (age : Nat) : State :=
  ((((s.setReg Rg.SW_FDB_RESULT 0).wr Fd.SW_FDB_RESULT_VALID 1).setFlag Fd.SW_FDB_RESULT_STATIC e.static).wr Fd.SW_FDB_RESULT_AGE age).wr
    Fd.SW_FDB_RESULT_PORTS e.ports

theorem State.showEntry_spec (s : State) (e : FdbEnt) (age : Nat) :
    (s.showEntry e age).flag Fd.SW_FDB_RESULT_VALID = true ∧ (s.showEntry e age).flag Fd.SW_FDB_RESULT_STATIC = e.static ∧
      (s.showEntry e age).rd Fd.SW_FDB_RESULT_PORTS = e.ports % 2 ^ 24 ∧ Frame s (s.showEntry e age) [.regs] (fun a => a = Rg.SW_FDB_RESULT) := by
  have hvalid := rd_wr_same (s.setReg Rg.SW_FDB_RESULT 0) Fd.SW_FDB_RESULT_VALID 1 (by decide) (by decide)
  have hstatic := flag_setFlag ((s.setReg Rg.SW_FDB_RESULT 0).wr Fd.SW_FDB_RESULT_VALID 1) Fd.SW_FDB_RESULT_STATIC e.static rfl (by decide)
  rw [State.flag] at hstatic
  unfold State.showEntry
  refine ⟨?_, ?_, rd_wr_same _ _ _ (by decide) (by decide), ?_⟩
  · rw [State.flag_iff, rd_wr_apart _ Fd.SW_FDB_RESULT_PORTS Fd.SW_FDB_RESULT_VALID _ rfl (by decide) (by decide) (by decide),
      rd_wr_apart _ Fd.SW_FDB_RESULT_AGE Fd.SW_FDB_RESULT_VALID _ rfl (by decide) (by decide) (by decide),
      rd_setFlag_apart _ Fd.SW_FDB_RESULT_STATIC Fd.SW_FDB_RESULT_VALID _ rfl (by decide) (by decide) (by decide), hvalid]
    rfl
  · rw [State.flag, rd_wr_apart _ Fd.SW_FDB_RESULT_PORTS Fd.SW_FDB_RESULT_STATIC _ rfl (by decide) (by decide) (by decide),
      rd_wr_apart _ Fd.SW_FDB_RESULT_AGE Fd.SW_FDB_RESULT_STATIC _ rfl (by decide) (by decide) (by decide)]
    exact hstatic
  · exact ((((s.setReg_frame _ _).trans (State.wr_frame _ Fd.SW_FDB_RESULT_VALID _)).trans
      (State.setFlag_frame _ Fd.SW_FDB_RESULT_STATIC _)).trans (State.wr_frame _ Fd.SW_FDB_RESULT_AGE _)).trans
      (State.wr_frame _ Fd.SW_FDB_RESULT_PORTS _)

theorem State.fdbLookup_found (s : State) {e : FdbEnt} (h : s.fdbFind s.fdbKey.1 s.fdbKey.2 = some e) :
    ∃ age, s.fdbLookup = (s.showEntry e age).wr Fd.SW_FDB_CMD_RESULT Code.DONE := by
  unfold State.fdbLookup
  dsimp only
  rw [h]
  exact ⟨_, rfl⟩

theorem State.fdbLookup_none (s : State) (h : s.fdbFind s.fdbKey.1 s.fdbKey.2 = none) :
    s.fdbLookup = (s.setReg Rg.SW_FDB_RESULT 0).wr Fd.SW_FDB_CMD_RESULT Code.FDB_NOT_FOUND := by
  unfold State.fdbLookup
  dsimp only
  rw [h]

theorem State.fdbDelete_found (s : State) {e : FdbEnt} (h : s.fdbFind s.fdbKey.1 s.fdbKey.2 = some e) :
    s.fdbDelete = if e.static then s.wr Fd.SW_FDB_CMD_RESULT Code.PLAN_LOCKED
      else (s.setFdb (s.sw.fdb.filter (fun x => !x.is s.fdbKey.1 s.fdbKey.2))).wr Fd.SW_FDB_CMD_RESULT Code.DONE := by
  unfold State.fdbDelete
  dsimp only
  rw [h]

theorem State.setFdb_frame (s : State) (l : List FdbEnt) : Frame s (s.setFdb l) [.sw] (fun _ => False) :=
  frame_of_blot_noRegs (by simp) (by simp)

/-- The database replaced by `l`, with a RESULT. -/
theorem State.setFdb_wrResult_spec (s : State) (v : Word) (l : List FdbEnt) {code : Nat} (hcode : code < 65536) (r : Resp) :
    let t : State := { ((s.setReg Rg.SW_FDB_CMD v).setFdb l).wr Fd.SW_FDB_CMD_RESULT code with resp := r }
    t.sw.fdb = l ∧ t.rd Fd.SW_FDB_CMD_RESULT = code ∧ Frame s t [.regs, .ic, .sw, .resp] (fun a => a = Rg.SW_FDB_CMD) := by
  obtain ⟨hresult, hframe⟩ := ((s.setReg Rg.SW_FDB_CMD v).setFdb l).wrResult_spec hcode r
  have hcmd : Frame s (s.setReg Rg.SW_FDB_CMD v) [.regs, .ic, .sw, .resp] (fun a => a = Rg.SW_FDB_CMD) := (s.setReg_frame _ v).widen (by simp)
  exact ⟨rfl, hresult, (hcmd.trans ((State.setFdb_frame _ l).noRegs (by simp))).trans (hframe.widen (by simp))⟩

/-! ### Ageing (R102) -/

theorem State.fdbAge_eq (s : State) {mac vid : Nat} {e : FdbEnt} (h : s.fdbFind mac vid = some e) (hstatic : e.static = false) :
    s.fdbAge mac vid = (s.reach (e.hit + s.rd Fd.SW_CTRL_AGE_S * sec)).setFdb
      ((s.reach (e.hit + s.rd Fd.SW_CTRL_AGE_S * sec)).sw.fdb.filter (fun x => !x.is mac vid)) := by
  unfold State.fdbAge
  rw [h]
  dsimp only
  rw [hstatic, if_neg Bool.false_ne_true]

theorem fdbFind_filter (s : State) (mac vid : Nat) : (s.setFdb (s.sw.fdb.filter (fun x => !x.is mac vid))).fdbFind mac vid = none := by
  have hfind : (s.setFdb (s.sw.fdb.filter (fun x => !x.is mac vid))).fdbFind mac vid =
      (s.sw.fdb.filter (fun x => !x.is mac vid)).find? (fun e => e.is mac vid) := rfl
  rw [hfind, List.find?_eq_none]
  intro x hx
  simpa using (List.mem_filter.mp hx).2

/-! ### TX_AN (R115) -/

theorem State.msCtrlWrite_eq (s : State) (who : Who) (m : Fin 3) (w : Word)
    (h : s.passesChecks who 4 (Rg.SW_MS_CTRL m.val) w false false = true) :
    s.msCtrlWrite who 4 m.val w = { (s.setReg (Rg.SW_MS_CTRL m.val)
      (BitVec.ofNat 32 (putBits (s.reg (Rg.SW_MS_CTRL m.val)).toNat 2 1 (getBits w.toNat 2 1)))).pnLevel (msPort m.val) with resp := .done } := by
  have hm : ∀ m : Fin 3, RegMap.at (Rg.SW_MS_CTRL m.val) =
      some (⟨0x20081000, [(0, 3, 256)], .district0, [⟨2, 1, .rw, none⟩, ⟨0, 0, .ro, none⟩]⟩, [m.val]) := by decide
  unfold State.msCtrlWrite
  rw [State.regWrite_at (fun s => s.pnLevel (msPort m.val)) (hm m) h rfl]
  rfl

theorem State.pnLevel_frame (s : State) (p : Nat) : Frame s (s.pnLevel p) [.ic] (fun _ => False) := s.level_frame _ _

/-! ### The statement -/

/-- Settles O9: links by the equations of going down, of the flush end and of coming up, each command of the database by the one equation
of SW_FDB_CMD. -/
theorem switchDatabase : Obligations.SwitchDatabase := by
  unfold Obligations.SwitchDatabase
  refine ⟨?down, ?flush, ?up, ?rejoin, ?age, ?found, ?missing, ?delete, ?flushPort, ?flushAll, ?txAn⟩
  case down =>
    intro s p hup
    obtain ⟨hlink, hrate, hcand, hflush⟩ := s.linkCut_spec p.val
    obtain ⟨habort, hkept⟩ := (s.linkCut p.val).rxAbort_spec p.val
    have hsync := State.shapersSync_inPlaza ((s.linkCut p.val).rxAbort p.val)
    have hframe := habort.trans hsync.frame
    have hport : ¬ plazaRegs (Rg.SW_PORT_STATUS p.val) := fun h => by have := h.1; have := p.isLt; unfold Rg.SW_PORT_STATUS at *; omega
    have hhash : ¬ plazaRegs (candFld p.val).addr := fun h => by have := h.1; rw [candFld_addr] at this; unfold Rg.SW_HASH_CFG at this; omega
    rw [← s.linkDown_eq hup] at hsync hframe
    refine ⟨s.linkDown p.val, rfl, (flag_of_frame hframe hport).trans hlink, (hframe.rd hport).trans hrate, ?_,
      fun hp => (flag_of_frame hframe hhash).trans (hcand hp), same_of_allBut .mem (by simp), same_of_allBut .otp (by simp),
      pending_of_blot (L := allBut .otp) (by simp)⟩
    rw [hsync.flushing, hkept, List.contains_iff_mem]
    exact hflush
  case flush =>
    intro s p hflush
    obtain ⟨hgone, hdone⟩ := s.flushed_spec p.val
    obtain ⟨hlink, hcopies, hflushing⟩ := (s.flushed p.val).linkRises_spec p.val
    refine ⟨s.flushEnd p.val, rfl, ?_, ?_, fun hback hmay => ?_, same_of_allBut .mem (by simp), same_of_allBut .otp (by simp),
      pending_of_blot (L := allBut .otp) (by simp)⟩
    · rw [s.flushEnd_eq hflush]
      split
      · rwa [hcopies]
      · exact hgone
    · rw [s.flushEnd_eq hflush]
      split
      · rwa [hflushing]
      · exact hdone
    · rw [s.flushEnd_eq hflush, hback, Bool.true_and] at hmay ⊢
      split at hmay
      · next hup => rwa [if_pos hup]
      · next hup => exact absurd hmay hup
  case up =>
    intro s p hdown hmay hflush hwaking
    obtain ⟨hlink, hrate, hat, hframe⟩ := s.setLinkUp_spec p.val
    have heq := (s.linkComesUp_eq p.val hdown hmay hflush).trans (s.linkRises_eq p.val hwaking)
    exact ⟨_, congrArg Host.Outcome.next heq, hlink, hrate, hat, hframe⟩
  case rejoin =>
    intro s m hgroup hlink
    have hnow := s.le_reach (s.linkAt m.val + s.rd Fd.SW_HASH_CFG_FAILBACK_MS * ms)
    have hreach := s.reach_frame (s.linkAt m.val + s.rd Fd.SW_HASH_CFG_FAILBACK_MS * ms)
    have heq : s.rejoin m.val = (s.reach (s.linkAt m.val + s.rd Fd.SW_HASH_CFG_FAILBACK_MS * ms)).wr (candFld m.val) 1 := by
      unfold State.rejoin
      rw [hgroup, hlink, Bool.true_and, if_pos rfl]
    generalize s.reach (s.linkAt m.val + s.rd Fd.SW_HASH_CFG_FAILBACK_MS * ms) = u at hnow hreach heq
    have hcand := u.wr_frame (candFld m.val) 1
    rw [candFld_addr] at hcand
    exact ⟨_, congrArg Host.Outcome.next heq, flag_wr_one _ _ (candFld_bit m.val).1 (candFld_bit m.val).2, hnow,
      (hreach.noRegs (by simp)).trans (hcand.widen (by simp))⟩
  case age =>
    intro s mac vid e hfind hstatic
    have hnow := s.le_reach (e.hit + s.rd Fd.SW_CTRL_AGE_S * sec)
    have hreach := s.reach_frame (e.hit + s.rd Fd.SW_CTRL_AGE_S * sec)
    have heq := s.fdbAge_eq hfind hstatic
    generalize s.reach (e.hit + s.rd Fd.SW_CTRL_AGE_S * sec) = u at hnow hreach heq
    have hfdb : u.sw.fdb = s.sw.fdb := congrArg SwState.fdb (hreach.same .sw (by simp))
    exact ⟨_, congrArg Host.Outcome.next heq, fdbFind_filter u _ _, hnow, congrArg (List.filter _) hfdb,
      (hreach.noRegs (by simp)).trans ((u.setFdb_frame _).noRegs (by simp))⟩
  case found =>
    intro s who e h hfree hfind
    obtain ⟨v, heq⟩ := s.fdbCmdWrite_eq (s.issuer who) (by decide) (fdbPort_lt s) h hfree
    obtain ⟨age, hlookup⟩ := (s.setReg Rg.SW_FDB_CMD v).fdbLookup_found (e := e) (by rw [s.setCmd_fdbKey]; exact hfind)
    obtain ⟨hvalid, hstatic, hports, hshow⟩ := (s.setReg Rg.SW_FDB_CMD v).showEntry_spec e age
    obtain ⟨hresult, hframe⟩ := ((s.setReg Rg.SW_FDB_CMD v).showEntry e age).wrResult_spec (code := Code.DONE) (by decide) .done
    have hcmd : Frame s (s.setReg Rg.SW_FDB_CMD v) [.regs, .ic, .resp] lookupRegs := (s.setReg_frame _ v).mono (by simp) fun _ => .inl
    have hdone : (s.setReg Rg.SW_FDB_CMD v).fdbOp 1 (s.rd Fd.SW_FDB_CMD_PORT) = _ := hlookup
    rw [hdone] at heq
    exact ⟨_, congrArg Host.Outcome.next heq, (flag_of_frame hframe (by decide)).trans hvalid, (flag_of_frame hframe (by decide)).trans hstatic,
      fun hlt => ((hframe.rd (by decide)).trans hports).trans (Nat.mod_eq_of_lt hlt), hresult, rfl,
      (hcmd.trans (hshow.mono (by simp) fun _ => .inr)).trans (hframe.mono (by simp) fun _ => .inl)⟩
  case missing =>
    intro s who h hfree hfind
    obtain ⟨v, heq⟩ := s.fdbCmdWrite_eq (s.issuer who) (by decide) (fdbPort_lt s) h hfree
    have hlookup : (s.setReg Rg.SW_FDB_CMD v).fdbOp 1 (s.rd Fd.SW_FDB_CMD_PORT) = _ :=
      (s.setReg Rg.SW_FDB_CMD v).fdbLookup_none (by rw [s.setCmd_fdbKey]; exact hfind)
    rw [hlookup] at heq
    obtain ⟨hresult, hframe⟩ :=
      ((s.setReg Rg.SW_FDB_CMD v).setReg Rg.SW_FDB_RESULT 0).wrResult_spec (code := Code.FDB_NOT_FOUND) (by decide) .done
    have hclear : ((s.setReg Rg.SW_FDB_CMD v).setReg Rg.SW_FDB_RESULT 0).flag Fd.SW_FDB_RESULT_VALID = false := by
      have hreg := reg_setReg_same (s.setReg Rg.SW_FDB_CMD v) Rg.SW_FDB_RESULT 0
      rw [State.flag, State.rd, show Fd.SW_FDB_RESULT_VALID.addr = Rg.SW_FDB_RESULT from rfl, hreg]
      decide
    exact ⟨_, congrArg Host.Outcome.next heq, (flag_of_frame hframe (by decide)).trans hclear, hresult, rfl⟩
  case delete =>
    intro s who e h hfree hfind
    obtain ⟨v, heq⟩ := s.fdbCmdWrite_eq (s.issuer who) (by decide) (fdbPort_lt s) h hfree
    have hdelete : (s.setReg Rg.SW_FDB_CMD v).fdbOp 2 (s.rd Fd.SW_FDB_CMD_PORT) = _ :=
      (s.setReg Rg.SW_FDB_CMD v).fdbDelete_found (e := e) (by rw [s.setCmd_fdbKey]; exact hfind)
    rw [hdelete, s.setCmd_fdbKey] at heq
    cases hstatic : e.static
    · rw [hstatic, if_neg Bool.false_ne_true] at heq
      obtain ⟨hfdb, hresult, hframe⟩ := s.setFdb_wrResult_spec v (s.sw.fdb.filter (fun x => !x.is s.fdbKey.1 s.fdbKey.2))
        (code := Code.DONE) (by decide) .done
      exact ⟨_, congrArg Host.Outcome.next heq, fun _ => ⟨hfdb, hresult⟩, fun ht => absurd ht (by decide), rfl, hframe⟩
    · rw [hstatic, if_pos rfl] at heq
      obtain ⟨hresult, hframe⟩ := (s.setReg Rg.SW_FDB_CMD v).wrResult_spec (code := Code.PLAN_LOCKED) (by decide) .done
      have hcmd : Frame s (s.setReg Rg.SW_FDB_CMD v) [.regs, .ic, .sw, .resp] (fun a => a = Rg.SW_FDB_CMD) := (s.setReg_frame _ v).widen (by simp)
      exact ⟨_, congrArg Host.Outcome.next heq, fun ht => absurd ht (by decide), fun _ => ⟨rfl, hresult⟩, rfl, hcmd.trans (hframe.widen (by simp))⟩
  case flushPort =>
    intro s who p h hfree
    obtain ⟨v, heq⟩ := s.fdbCmdWrite_eq (s.issuer who) (by decide) p.isLt h hfree
    obtain ⟨hfdb, hresult, hframe⟩ := s.setFdb_wrResult_spec v (s.sw.fdb.filter (fun x => x.static || !tbit x.ports p.val))
      (code := Code.DONE) (by decide) .done
    exact ⟨_, congrArg Host.Outcome.next heq, hfdb, hresult, rfl, hframe⟩
  case flushAll =>
    intro s who h hfree
    obtain ⟨v, heq⟩ := s.fdbCmdWrite_eq (s.issuer who) (by decide) (fdbPort_lt s) h hfree
    obtain ⟨hfdb, hresult, hframe⟩ := s.setFdb_wrResult_spec v (s.sw.fdb.filter (fun x => x.static)) (code := Code.DONE) (by decide) .done
    exact ⟨_, congrArg Host.Outcome.next heq, hfdb, hresult, rfl, hframe⟩
  case txAn =>
    intro s who m w h
    have hlevel := State.pnLevel_frame (s.setReg (Rg.SW_MS_CTRL m.val)
      (BitVec.ofNat 32 (putBits (s.reg (Rg.SW_MS_CTRL m.val)).toNat 2 1 (getBits w.toNat 2 1)))) (msPort m.val)
    refine ⟨_, congrArg Host.Outcome.next (s.msCtrlWrite_eq (s.issuer who) m w h), ?_, hlevel.same .sw (by simp), rfl, ?_⟩
    · have hrd := hlevel.rd (f := Fd.SW_MS_CTRL_TX_AN m.val) not_false
      refine ((State.setResp_rd _ _ _).trans hrd).trans ?_
      have hreg := reg_setReg_same s (Rg.SW_MS_CTRL m.val) (BitVec.ofNat 32 (putBits (s.reg (Rg.SW_MS_CTRL m.val)).toNat 2 1 (getBits w.toNat 2 1)))
      have hbits : (1 : Nat) ≤ 2 := by decide
      change getBits ((s.setReg (Rg.SW_MS_CTRL m.val) _).reg (Rg.SW_MS_CTRL m.val)).toNat 2 1 = _
      rw [hreg, getBits_toNat_ofNat _ (by decide), getBits_putBits _ _ _ _ hbits]
      exact Nat.mod_mod _ _
    · exact ((s.setReg_frame _ _).widen (by simp)).trans ((hlevel.noRegs (by simp)).trans ((State.setResp_frame _ _).noRegs (by simp)))

end Sys2Proof.Machine
end

section
/-! SUPPORT. Cellar (chapter 18): its events, the tamper record, the slots that turn bad or are wiped, and the end of its commands under a
tamper. -/

namespace Sys2Proof.Machine

/-! ### Registers and levels (R412, R414) -/

theorem State.ksCount_frame (s : State) (c : Nat) : Frame s (s.ksCount c) [.regs] (fun a => a = Rg.KS_EVENT c ∨ a = Rg.KS_EVENT_SAT) :=
  s.count_frame _ _ _

theorem State.ksLevels_frame (s : State) : Frame s s.ksLevels [.ic] (fun _ => False) :=
  ((s.level_frame _ _).trans (State.level_frame _ _ _)).trans (State.level_frame _ _ _)

/-- The eight words of the challenge come after the record and its policy. -/
theorem State.renewChallenge_frame (s : State) : Frame s s.renewChallenge [.regs, .fresh] (fun a => 0x20060020 ≤ a) :=
  Frame.forAll _ _ (fun u k => ((u.setReg_frame (Rg.KS_CHALLENGE k) (BitVec.ofNat 32 u.freeNat)).mono (by simp) fun a ha => by
    unfold Rg.KS_CHALLENGE at ha; omega).trans (frame_of_blot_noRegs (parts := [.fresh]) (by simp) (by simp) |>.noRegs (by simp))) s

/-- Cellar's state replaced. -/
def State.setKs (s : State) (k : KsState) : State := { s with ks := k }

theorem State.setKs_frame (s : State) (k : KsState) : Frame s (s.setKs k) [.ks] (fun _ => False) :=
  frame_of_blot_noRegs (by simp) (by simp [State.setKs])

/-! ### Slots (R399, R407) -/

/-- A slot turns bad: the others stay, and it is told of in KS_STATUS and counted. -/
theorem State.turnBad_spec (s : State) (n : Nat) :
    (s.turnBad n).slot n = { KeySlot.empty with st := 2 } ∧ (∀ m, m ≠ n → (s.turnBad n).slot m = s.slot m) ∧ (s.turnBad n).ks.ops = s.ks.ops ∧
      (s.turnBad n).flag Fd.KS_STATUS_SLOT_ALERT = true ∧ (s.turnBad n).ksState = s.ksState ∧
      Frame s (s.turnBad n) [.regs, .ks, .ic] (fun a => a = Rg.KS_STATUS ∨ a = Rg.KS_EVENT 2 ∨ a = Rg.KS_EVENT_SAT) := by
  let t := s.setSlot n { KeySlot.empty with st := 2 }
  let k := (t.ks.slots.filter (fun p => p.2.st == 2)).length
  let u := (t.wr Fd.KS_STATUS_BAD k).wr Fd.KS_STATUS_SLOT_ALERT 1
  have hshow : Frame t u [.regs] (fun a => a = Rg.KS_STATUS) := (t.wr_frame Fd.KS_STATUS_BAD k).trans (State.wr_frame _ Fd.KS_STATUS_SLOT_ALERT 1)
  have hcount : Frame u (s.turnBad n) [.regs, .ic] (fun a => a = Rg.KS_EVENT 2 ∨ a = Rg.KS_EVENT_SAT) :=
    ((u.ksCount_frame 2).widen (by simp)).trans ((State.ksLevels_frame _).noRegs (by simp))
  have hks : (s.turnBad n).ks = t.ks := (hcount.same .ks (by simp)).trans (hshow.same .ks (by simp))
  have hslot : ∀ m, (s.turnBad n).slot m = t.slot m := fun m => by simp only [State.slot, hks]
  have hput : Frame s t [.ks] (fun _ => False) := frame_of_blot_noRegs (by simp) (by simp [t])
  refine ⟨?_, fun m hm => ?_, (congrArg KsState.ops hks).trans rfl, ?_, ?_, ?_⟩
  · rw [hslot]; exact s.setSlot_slot_same n _
  · rw [hslot]; exact s.setSlot_slot_ne n _ m hm
  · exact (flag_of_frame hcount (by decide)).trans (flag_wr_one _ Fd.KS_STATUS_SLOT_ALERT rfl (by decide))
  · have hstate := hcount.rd (f := Fd.KS_STATUS_STATE) (by decide)
    rw [State.ksState, hstate, rd_wr_apart _ Fd.KS_STATUS_SLOT_ALERT Fd.KS_STATUS_STATE _ rfl (by decide) (by decide) (by decide),
      rd_wr_apart _ Fd.KS_STATUS_BAD Fd.KS_STATUS_STATE _ rfl (by decide) (by decide) (by decide)]
    exact s.setSlot_rd n _ _
  · exact ((hput.noRegs (by simp)).trans (hshow.mono (by simp) fun _ => .inl)).trans (hcount.mono (by simp) fun _ => .inr)

/-- A slot that Cellar loads: the others and STATE stay. -/
theorem State.loadSlot_spec (s : State) (n : Nat) :
    (∀ m, m ≠ n → (s.loadSlot n).slot m = s.slot m) ∧ (s.loadSlot n).ks.ops = s.ks.ops ∧ (s.loadSlot n).ksState = s.ksState ∧
      Frame s (s.loadSlot n) [.regs, .ks, .ic] (fun a => a = Rg.KS_STATUS ∨ a = Rg.KS_EVENT 2 ∨ a = Rg.KS_EVENT_SAT) := by
  have hput : ∀ k, (∀ m, m ≠ n → (s.setSlot n k).slot m = s.slot m) ∧ (s.setSlot n k).ks.ops = s.ks.ops ∧ (s.setSlot n k).ksState = s.ksState ∧
      Frame s (s.setSlot n k) [.regs, .ks, .ic] (fun a => a = Rg.KS_STATUS ∨ a = Rg.KS_EVENT 2 ∨ a = Rg.KS_EVENT_SAT) := fun k =>
    ⟨s.setSlot_slot_ne n k, rfl, s.setSlot_rd n k _, (frame_of_blot_noRegs (parts := [.ks]) (by simp) (by simp)).noRegs (by simp)⟩
  obtain ⟨-, hothers, hops, -, hstate, hframe⟩ := s.turnBad_spec n
  unfold State.loadSlot
  split
  · exact ⟨fun _ _ => rfl, rfl, rfl, .refl _ _ _⟩
  · split
    · dsimp only
      split
      · exact hput _
      · exact ⟨hothers, hops, hstate, hframe⟩
    · split
      · exact ⟨hothers, hops, hstate, hframe⟩
      · exact hput _

theorem tget_mem {α : Type} (d : Nat → α) (t : Tbl α) (k : Nat) : tget d t k = d k ∨ (k, tget d t k) ∈ t := by
  induction t with
  | nil => exact .inl rfl
  | cons p rest ih =>
    obtain ⟨j, v⟩ := p
    by_cases hj : j = k
    · simp [tget, hj]
    · simp only [tget, if_neg hj]
      exact ih.imp_right (List.mem_cons_of_mem _)

/-- No wiped slot keeps a key. -/
theorem State.wipeSlots_slot (s : State) (n : Nat) : (s.wipeSlots.slot n).st ≠ 1 := by
  rcases tget_mem (fun _ => KeySlot.empty) s.wipeSlots.ks.slots n with h | h
  · rw [State.slot, h]
    decide
  · have hbad : (s.wipeSlots.slot n).st = 2 := beq_iff_eq.mp (List.mem_filter.mp h).2
    rw [hbad]
    decide

theorem State.wipeSlots_frame (s : State) : Frame s s.wipeSlots [.ks] (fun _ => False) := frame_of_blot_noRegs (by simp) (by simp)

/-! ### The tamper record (R407, R410) -/

/-- SOURCES, and where no record is pending PHASE and TIME, of a tamper event. -/
def State.tamperShown (s : State) (mask phase time : Nat) : State :=
  let pend := s.flag Fd.KS_TAMPER_REC_PENDING
  let s := s.wr Fd.KS_TAMPER_REC_SOURCES (if pend then s.rd Fd.KS_TAMPER_REC_SOURCES ||| mask else mask)
  if pend then s
  else ((s.wr Fd.KS_TAMPER_REC_PHASE phase).setReg Rg.KS_TAMPER_TIME_LO (BitVec.ofNat 32 (time % 2 ^ 32))).setReg
    Rg.KS_TAMPER_TIME_HI (BitVec.ofNat 32 (time / 2 ^ 32))

/-- The record's own flags: it is new, and under FULL pending. -/
def State.tamperMarked (s : State) (full : Bool) : State :=
  let s := (s.wr Fd.KS_TAMPER_REC_NEW 1).ksCount 0
  if full then s.wr Fd.KS_TAMPER_REC_PENDING 1 else s

/-- A pending record is due in flash, under a new challenge. -/
def State.tamperDue (s : State) (due : Bool) : State := if due then (s.setKs { s.ks with recDue := true }).renewChallenge else s

theorem State.tamperNote_eq (s : State) (mask : Nat) (full : Bool) (phase time : Nat) :
    s.tamperNote mask full phase time =
      (((s.tamperShown mask phase time).tamperMarked full).tamperDue (s.flag Fd.KS_TAMPER_REC_PENDING || full)).ksLevels := rfl

abbrev tamperRegs (a : Nat) : Prop := 0x20060004 ≤ a

theorem State.tamperShown_frame (s : State) (mask phase time : Nat) : Frame s (s.tamperShown mask phase time) [.regs] tamperRegs := by
  have hwr : ∀ (u : State) (f : Fld) (v : Nat), 0x20060004 ≤ f.addr → Frame u (u.wr f v) [.regs] tamperRegs := fun u f v hf =>
    (u.wr_frame f v).mono (by simp) fun a ha => ha ▸ hf
  have hset : ∀ (u : State) (a : Nat) (w : Word), 0x20060004 ≤ a → Frame u (u.setReg a w) [.regs] tamperRegs := fun u a w ha =>
    (u.setReg_frame a w).mono (by simp) fun b hb => hb ▸ ha
  unfold State.tamperShown
  dsimp only
  split
  · exact hwr _ Fd.KS_TAMPER_REC_SOURCES _ (by decide)
  · exact (((hwr _ Fd.KS_TAMPER_REC_SOURCES _ (by decide)).trans (hwr _ Fd.KS_TAMPER_REC_PHASE _ (by decide))).trans
      (hset _ Rg.KS_TAMPER_TIME_LO _ (by decide))).trans (hset _ Rg.KS_TAMPER_TIME_HI _ (by decide))

theorem State.tamperMarked_spec (s : State) (full : Bool) :
    (s.tamperMarked full).flag Fd.KS_TAMPER_REC_NEW = true ∧ (full = true → (s.tamperMarked full).flag Fd.KS_TAMPER_REC_PENDING = true) ∧
      Frame s (s.tamperMarked full) [.regs] tamperRegs := by
  let t := (s.wr Fd.KS_TAMPER_REC_NEW 1).ksCount 0
  have hnew : t.rd Fd.KS_TAMPER_REC_NEW = 1 := by
    rw [(State.ksCount_frame _ 0).rd (by decide), rd_wr_same _ _ _ (by decide) (by decide)]
    rfl
  have hframe : Frame s t [.regs] tamperRegs := ((s.wr_frame Fd.KS_TAMPER_REC_NEW 1).mono (by simp) fun a ha => by
    rw [ha]; decide).trans ((State.ksCount_frame _ 0).mono (by simp) fun a ha => by rcases ha with rfl | rfl <;> decide)
  have heq : s.tamperMarked full = if full then t.wr Fd.KS_TAMPER_REC_PENDING 1 else t := rfl
  rw [heq]
  split
  · have hpend := t.wr_frame Fd.KS_TAMPER_REC_PENDING 1
    refine ⟨?_, fun _ => flag_wr_one _ _ rfl (by decide), hframe.trans (hpend.mono (by simp) fun a ha => by rw [ha]; decide)⟩
    rw [State.flag_iff, rd_wr_apart _ Fd.KS_TAMPER_REC_PENDING Fd.KS_TAMPER_REC_NEW _ rfl (by decide) (by decide) (by decide), hnew]
  · next hfull => exact ⟨(t.flag_iff _).mpr hnew, fun h => absurd h hfull, hframe⟩

theorem State.tamperDue_spec (s : State) (due : Bool) :
    Frame s (s.tamperDue due) [.regs, .fresh, .ks] (fun a => 0x20060020 ≤ a) ∧ (s.tamperDue due).ks.slots = s.ks.slots ∧
      (s.tamperDue due).ks.ops = s.ks.ops := by
  unfold State.tamperDue
  split
  · have hrenew := (s.setKs { s.ks with recDue := true }).renewChallenge_frame
    have hks : (s.setKs { s.ks with recDue := true }).renewChallenge.ks = { s.ks with recDue := true } := hrenew.same .ks (by simp)
    exact ⟨((s.setKs_frame _).noRegs (by simp)).trans (hrenew.widen (by simp)), (congrArg KsState.slots hks).trans rfl,
      (congrArg KsState.ops hks).trans rfl⟩
  · exact ⟨.refl _ _ _, rfl, rfl⟩

/-- What a tamper event leaves in the record, and what it leaves alone. -/
structure Noted (s t : State) (full : Bool) : Prop where
  new : t.flag Fd.KS_TAMPER_REC_NEW = true
  pending : full = true → t.flag Fd.KS_TAMPER_REC_PENDING = true
  slots : t.ks.slots = s.ks.slots
  ops : t.ks.ops = s.ks.ops
  frame : Frame s t [.regs, .fresh, .ks, .ic] tamperRegs

theorem Noted.ksState {s t : State} {full : Bool} (h : Noted s t full) : t.ksState = s.ksState := h.frame.rd (by decide)

theorem State.tamperNote_noted (s : State) (mask : Nat) (full : Bool) (phase time : Nat) : Noted s (s.tamperNote mask full phase time) full := by
  have hshown := s.tamperShown_frame mask phase time
  obtain ⟨hnew, hpending, hmarked⟩ := (s.tamperShown mask phase time).tamperMarked_spec full
  obtain ⟨hdue, hslots, hops⟩ := ((s.tamperShown mask phase time).tamperMarked full).tamperDue_spec (s.flag Fd.KS_TAMPER_REC_PENDING || full)
  have hlevels := State.ksLevels_frame (((s.tamperShown mask phase time).tamperMarked full).tamperDue (s.flag Fd.KS_TAMPER_REC_PENDING || full))
  have hlate := (hdue.widen (parts' := [.regs, .fresh, .ks, .ic]) (by simp)).trans (hlevels.noRegs (by simp))
  have hks := (hshown.trans hmarked).same .ks (by simp)
  have hlevelsKs := hlevels.same .ks (by simp)
  rw [s.tamperNote_eq]
  exact ⟨(flag_of_frame hlate (by decide)).trans hnew, fun h => (flag_of_frame hlate (by decide)).trans (hpending h),
    (congrArg KsState.slots hlevelsKs).trans (hslots.trans (congrArg KsState.slots hks)),
    (congrArg KsState.ops hlevelsKs).trans (hops.trans (congrArg KsState.ops hks)),
    ((hshown.trans hmarked).widen (by simp)).trans (hlate.mono (by simp) fun a ha => by unfold tamperRegs; omega)⟩

/-! ### The commands that a tamper ends (R407) -/

/-- A KEY command that has not reached its commit point. -/
def State.keyPending (s : State) (c : Cmd) : Bool := (s.epAt c.ep).ty == 4 && (c.phase == .passed || c.phase == .waiting)

theorem State.setNotice_inflight (s : State) (e : Nat) : (s.setNotice e).ep.inflight = s.ep.inflight := by
  have hevent : ∀ (u : State) g was, (u.noticeEvent g was).ep = u.ep := fun u g was => same_of_allBut .ep (by simp)
  unfold State.setNotice
  dsimp only
  split
  · rfl
  · split
    · exact (congrArg EpState.inflight (hevent _ _ _)).trans rfl
    · rfl

/-- A command that finishes is in flight no more, and no other is concerned. -/
theorem State.finish_inflight (s : State) (c : Cmd) (code : Nat) :
    (s.finish c code).ep.inflight = s.ep.inflight.filter (fun x => !(x.ep == c.ep && x.tag == c.tag)) := by
  unfold State.finish State.complete State.record
  dsimp only
  split
  · exact State.setNotice_inflight _ _
  · rfl

theorem State.finish_frame (s : State) (c : Cmd) (code : Nat) : Frame s (s.finish c code) [.mem, .ep, .wg, .ic] (fun _ => False) :=
  frame_of_blot_noRegs (by simp) (by simp)

abbrev abortRegs (a : Nat) : Prop := a = Rg.KS_EVENT 1 ∨ a = Rg.KS_EVENT_SAT

/-- The commands of a list, ended with TAMPER and counted. -/
def State.tamperEnds (s : State) (l : List Cmd) : State := forAll l (fun s c => (s.finish c Code.TAMPER).ksCount 1) s

theorem State.tamperEnds_frame (s : State) (l : List Cmd) : Frame s (s.tamperEnds l) [.regs, .mem, .ep, .wg, .ic] abortRegs :=
  Frame.forAll _ _ (fun u c => ((u.finish_frame c Code.TAMPER).noRegs (by simp)).trans ((State.ksCount_frame _ 1).widen (by simp))) s

theorem State.tamperEnds_inflight (s : State) (l : List Cmd) :
    (s.tamperEnds l).ep.inflight = s.ep.inflight.filter (fun x => l.all (fun c => !(x.ep == c.ep && x.tag == c.tag))) := by
  induction l generalizing s with
  | nil => simp [State.tamperEnds, forAll]
  | cons c rest ih =>
    have hstep : ((s.finish c Code.TAMPER).ksCount 1).ep.inflight = (s.finish c Code.TAMPER).ep.inflight :=
      congrArg EpState.inflight ((State.ksCount_frame _ 1).same .ep (by simp))
    have hrest : (s.tamperEnds (c :: rest)).ep.inflight = (((s.finish c Code.TAMPER).ksCount 1).tamperEnds rest).ep.inflight := rfl
    rw [hrest, ih, hstep, s.finish_inflight, List.filter_filter]
    simp [Bool.and_comm]

/-- An SA load under way that would have succeeded ends with TAMPER. -/
def State.saLoadAborted (s : State) (m : Nat) : State :=
  match tget (fun _ => none) s.sw.saLoad m with
  | some l =>
    if l.code = Code.DONE then
      ({ s with sw := { s.sw with saLoad := tset (fun _ => none) s.sw.saLoad m (some { l with code := Code.TAMPER }) } }).ksCount 1
    else s
  | none => s

theorem State.saLoadAborted_frame (s : State) (m : Nat) : Frame s (s.saLoadAborted m) [.regs, .sw] abortRegs := by
  unfold State.saLoadAborted
  split
  · split
    · exact ((frame_of_blot_noRegs (parts := [.sw]) (by simp) (by simp)).noRegs (by simp)).trans ((State.ksCount_frame _ 1).widen (by simp))
    · exact .refl _ _ _
  · exact .refl _ _ _

theorem State.tamperAborts_eq (s : State) :
    s.tamperAborts = (forAll [0, 1, 2] State.saLoadAborted
      ((s.setKs { s.ks with ops := [] }).tamperEnds (s.ep.inflight.filter s.keyPending))).ksLevels := rfl

/-- Every Cellar operation before its commit point has ended; slots, record and STATE stand as they stood. -/
theorem State.tamperAborts_spec (s : State) :
    s.tamperAborts.ks = { s.ks with ops := [] } ∧ s.tamperAborts.ep.inflight.any s.keyPending = false ∧
      Frame s s.tamperAborts [.regs, .mem, .ep, .wg, .ic, .ks, .sw] abortRegs := by
  let l := s.ep.inflight.filter s.keyPending
  let t := s.setKs { s.ks with ops := [] }
  have hends := t.tamperEnds_frame l
  have hloads : Frame (t.tamperEnds l) s.tamperAborts [.regs, .sw, .ic] abortRegs := by
    rw [s.tamperAborts_eq]
    exact ((Frame.forAll _ _ State.saLoadAborted_frame _).widen (by simp)).trans ((State.ksLevels_frame _).noRegs (by simp))
  refine ⟨(hloads.same .ks (by simp)).trans (hends.same .ks (by simp)), ?_,
    ((s.setKs_frame _).noRegs (by simp)).trans ((hends.widen (by simp)).trans (hloads.widen (by simp)))⟩
  have hep : s.tamperAborts.ep = (t.tamperEnds l).ep := hloads.same .ep (by simp)
  rw [hep, t.tamperEnds_inflight, List.any_eq_false]
  intro c hc hkey
  obtain ⟨hmem, hall⟩ := List.mem_filter.mp hc
  have hnot := List.all_eq_true.mp hall c (List.mem_filter.mpr ⟨hmem, hkey⟩)
  simp at hnot

end Sys2Proof.Machine
end

section
/-! SUPPORT. A tamper in Active and in sleep (R406 to R409), and its record in flash (R410). -/

namespace Sys2Proof.Machine

/-! ### In Active (R407) -/

/-- A tamper in Active ends the commands first. -/
theorem State.tamperEvent_eq (s : State) (src : Nat) :
    s.tamperEvent src =
      if s.ksState = 3 then s.tamperAborts.tamperNote (2 ^ src) true 2 s.tamperAborts.vt
      else if abortOnly (s.rd Fd.KS_TAMPER_POLICY_ABORT_ONLY) src then s.tamperAborts.tamperNote (2 ^ src) false 0 s.tamperAborts.vt
      else (((s.tamperAborts.tamperNote (2 ^ src) true 0 s.tamperAborts.vt).wipeSlots).wr Fd.KS_STATUS_STATE 2).loadSlot 0 := by
  obtain ⟨-, -, hframe⟩ := s.tamperAborts_spec
  have hstate : s.tamperAborts.ksState = s.ksState := hframe.rd (by decide)
  unfold State.tamperEvent
  dsimp only
  rw [hstate]
  cases abortOnly (s.rd Fd.KS_TAMPER_POLICY_ABORT_ONLY) src <;> rfl

/-- FULL: the slots are wiped, Cellar is LOCKED, and slot 0 is loaded for the unlock. -/
theorem State.wipeAndLock_spec (s : State) :
    ((s.wipeSlots.wr Fd.KS_STATUS_STATE 2).loadSlot 0).ksState = 2 ∧
      (∀ n, n ≠ 0 → (((s.wipeSlots.wr Fd.KS_STATUS_STATE 2).loadSlot 0).slot n).st ≠ 1) ∧
      ((s.wipeSlots.wr Fd.KS_STATUS_STATE 2).loadSlot 0).ks.ops = s.ks.ops ∧
      Frame s ((s.wipeSlots.wr Fd.KS_STATUS_STATE 2).loadSlot 0) [.regs, .ks, .ic]
        (fun a => a = Rg.KS_STATUS ∨ a = Rg.KS_EVENT 2 ∨ a = Rg.KS_EVENT_SAT) := by
  obtain ⟨hslots, hops, hstate, hframe⟩ := (s.wipeSlots.wr Fd.KS_STATUS_STATE 2).loadSlot_spec 0
  refine ⟨hstate.trans (rd_wr_same _ Fd.KS_STATUS_STATE 2 (by decide) (by decide)), fun n hn => ?_, hops, ?_⟩
  · rw [hslots n hn]
    exact s.wipeSlots_slot n
  · exact ((s.wipeSlots_frame.noRegs (by simp)).trans ((State.wr_frame _ _ _).mono (by simp) fun _ => .inl)).trans hframe

/-- Whatever the policy, the record is new and no operation before its commit point is left. -/
theorem State.tamperEvent_ends (s : State) (mask : Nat) (full : Bool) (phase time : Nat) {t : State} {parts : List Piece} {regs : Nat → Prop}
    (h : Frame (s.tamperAborts.tamperNote mask full phase time) t parts regs) (hops : t.ks.ops = (s.tamperAborts.tamperNote mask full phase time).ks.ops)
    (hparts : ∀ p ∈ parts, p ≠ .ep ∧ p ≠ .otp) :
    t.ks.ops = [] ∧ t.otp = s.otp ∧ t.ep.inflight.any s.keyPending = false := by
  obtain ⟨hks, hany, haborts⟩ := s.tamperAborts_spec
  have hnote := s.tamperAborts.tamperNote_noted mask full phase time
  have hep : t.ep = s.tamperAborts.ep := (h.same .ep fun hp => (hparts _ hp).1 rfl).trans (hnote.frame.same .ep (by simp))
  have hotp : t.otp = s.otp := (h.same .otp fun hp => (hparts _ hp).2 rfl).trans ((hnote.frame.same .otp (by simp)).trans (haborts.same .otp (by simp)))
  exact ⟨hops.trans (hnote.ops.trans (congrArg KsState.ops hks)), hotp, by rw [hep]; exact hany⟩

/-! ### In sleep (R406, R409) -/

theorem tbit_eq_testBit (n k : Nat) : tbit n k = n.testBit k := by
  rw [tbit, Nat.testBit_eq_decide_div_mod_eq, Nat.shiftRight_eq_div_pow]
  rfl

theorem tbit_or_two_pow (n k : Nat) : tbit (n ||| 2 ^ k) k = true := by
  simp [tbit_eq_testBit]

/-- What Lamplighter keeps of a FULL source. -/
def State.fullLatched (s : State) (src : Nat) : KsState :=
  { s.ks with
    latFull := s.ks.latFull ||| 2 ^ src
    latTime := if s.ks.latFull = 0 then s.sleepTime else s.ks.latTime }

theorem State.sleepTamper_full (s : State) (src : Nat) (h : abortOnly s.ks.policy src = false) :
    s.sleepTamper src = (s.setKs (s.fullLatched src)).qualifiedWake 30 := by
  unfold State.sleepTamper
  simp [h, State.setKs, State.fullLatched]

theorem State.qualifiedWake_ks (s : State) (b : Nat) : (s.qualifiedWake b).ks = s.ks := (s.qualifiedWake_frame b).same .ks (by simp)

theorem State.sleepTamper_abortOnly (s : State) (src : Nat) (h : abortOnly s.ks.policy src = true) (hnone : s.ks.latFull = 0) :
    s.sleepTamper src = s.setKs { s.ks with latAbort := s.ks.latAbort ||| 2 ^ src, latTime := s.sleepTime } := by
  unfold State.sleepTamper
  simp [h, hnone, State.setKs]

/-- A qualified wake leads a device that sleeps above MAIN_UV to a boot. -/
theorem State.qualifiedWake_booting (s : State) (b : Nat) (hsleep : s.dev = .parked ∨ s.dev = .standby) (hv : s.ao.underVolt = false) :
    (s.qualifiedWake b).ao.booting = true := by
  rw [s.qualifiedWake_eq]
  rcases hsleep with h | h <;> simp [h, hv, State.setAo]

/-! ### The record in flash (R410) -/

theorem length_aesBlock (key b : List Byte) : (aesBlock key b).length = 16 := by simp [aesBlock]

theorem length_cmacChain (key k1 k2 : List Byte) (n : Nat) (x m : List Byte) : (cmacChain key k1 k2 n x m).length = 16 := by
  induction n generalizing x m with
  | zero => exact length_aesBlock _ _
  | succ n ih => exact ih _ _

theorem length_cmac (key m : List Byte) : (cmac key m).length = 16 := length_cmacChain _ _ _ _ _ _

theorem State.length_tamperRecord (s : State) : s.tamperRecord.length = 16 := by
  simp [State.tamperRecord, length_leBytes]

/-- A byte outside what is cleared reads as before. -/
theorem State.byte_clearMem_out (s : State) (lo hi a : Nat) (h : a < lo ∨ hi ≤ a) : (s.clearMem lo hi).byte a = s.byte a := by
  refine (tget_filter memReset s.mem (fun k => decide (k < lo) || decide (hi ≤ k)) a).trans ?_
  rw [if_pos (by simpa using h)]
  rfl

/-- A sector holds what is programmed, and no byte outside it changes. -/
theorem State.program_byte (s : State) (a : Nat) (bs : List Byte) (hlen : bs.length ≤ 0x1000) (b : Nat) (hb : b < a ∨ a + 0x1000 ≤ b) :
    (s.program a bs).byte b = s.byte b :=
  (State.byte_store_out _ a bs b (by omega)).trans (s.byte_clearMem_out a (a + 0x1000) b hb)

theorem State.bytes_append (s : State) (a : Nat) (xs ys : List Byte) (h : s.bytes a (xs ++ ys).length = xs ++ ys) : s.bytes a xs.length = xs := by
  induction xs generalizing a with
  | nil => rfl
  | cons x xs ih =>
    simp only [List.cons_append, List.length_cons, State.bytes, List.cons.injEq] at h ⊢
    exact ⟨h.1, ih _ h.2⟩

theorem State.program_frame (s : State) (a : Nat) (bs : List Byte) : Frame s (s.program a bs) [.mem, .wg] (fun _ => False) :=
  frame_of_blot_noRegs (by simp) (by simp)

/-- The record that stands in its block, before its CMAC. -/
theorem State.program_tamperRecord (s : State) (key : List Byte) :
    (s.program tamperAddr (s.tamperRecord ++ cmac key s.tamperRecord)).bytes tamperAddr 16 = s.tamperRecord := by
  have h := State.bytes_append _ tamperAddr s.tamperRecord (cmac key s.tamperRecord)
    ((s.clearMem tamperAddr (tamperAddr + 0x1000)).bytes_store_same tamperAddr (s.tamperRecord ++ cmac key s.tamperRecord))
  rwa [s.length_tamperRecord] at h

theorem State.tamperWrite_eq (s : State) (hdue : s.ks.recDue = true) (hpend : s.flag Fd.KS_TAMPER_REC_PENDING = true) :
    s.tamperWrite = (s.program tamperAddr (s.tamperRecord ++ cmac s.tagKey s.tamperRecord)).setKs { s.ks with recDue := false } := by
  unfold State.tamperWrite
  rw [hdue, hpend]
  rfl

theorem State.setKs_byte (s : State) (k : KsState) (b : Nat) : (s.setKs k).byte b = s.byte b := rfl
theorem State.setKs_bytes (s : State) (k : KsState) (a n : Nat) : (s.setKs k).bytes a n = s.bytes a n :=
  State.bytes_congr (s := s) (t := s.setKs k) rfl a n

/-- The record due is in its block and due no longer; no byte outside the block changes. -/
theorem State.tamperWrite_spec (s : State) (hdue : s.ks.recDue = true) (hpend : s.flag Fd.KS_TAMPER_REC_PENDING = true) :
    s.tamperWrite.bytes tamperAddr 16 = s.tamperRecord ∧ s.tamperWrite.ks = { s.ks with recDue := false } ∧
      (∀ b, b < tamperAddr ∨ tamperAddr + 0x1000 ≤ b → s.tamperWrite.byte b = s.byte b) ∧
      Frame s s.tamperWrite [.ks, .mem, .wg] (fun _ => False) := by
  have hbytes := s.program_tamperRecord s.tagKey
  have hlen : (s.tamperRecord ++ cmac s.tagKey s.tamperRecord).length ≤ 0x1000 := by
    rw [List.length_append, s.length_tamperRecord, length_cmac]
    decide
  have hout := s.program_byte tamperAddr _ hlen
  have hframe := s.program_frame tamperAddr (s.tamperRecord ++ cmac s.tagKey s.tamperRecord)
  rw [s.tamperWrite_eq hdue hpend]
  generalize s.program tamperAddr (s.tamperRecord ++ cmac s.tagKey s.tamperRecord) = u at hbytes hout hframe ⊢
  refine ⟨(u.setKs_bytes _ _ _).trans hbytes, rfl, fun b hb => (u.setKs_byte _ b).trans (hout b hb), ?_⟩
  exact (hframe.widen (by simp)).trans ((u.setKs_frame _).widen (by simp))

/-! ### The OTP provisioning lock (R414) -/

theorem State.setOtp_frame (s : State) (o : OtpState) : Frame s { s with otp := o } [.otp] (fun _ => False) :=
  frame_of_blot_noRegs (by simp) (by simp)

/-! ### SA loads (R114) -/

/-- The outcome of an SA load does not depend on SW_MS_SA_LOAD. -/
theorem State.saLoadCode_of_frame {s t : State} {m : Nat} (h : Frame s t [.regs] (fun a => a = Rg.SW_MS_SA_LOAD m)) (hm : m < 3) (w : Nat) :
    t.saLoadCode m w = s.saLoadCode m w := by
  have hks : t.ks = s.ks := h.same .ks (by simp)
  have hstate : t.ksState = s.ksState := h.rd (by show (0x20060000 : Nat) ≠ 0x20081010 + 0x100 * m; omega)
  have han : t.rd (Fd.SW_MS_CTRL_TX_AN m) = s.rd (Fd.SW_MS_CTRL_TX_AN m) := h.rd (by
    simp only [Fd.SW_MS_CTRL_TX_AN, Rg.SW_MS_SA_LOAD]; omega)
  have hstage : ∀ k, k = 4 ∨ k = 5 → t.reg (Rg.SW_MS_STAGE m k) = s.reg (Rg.SW_MS_STAGE m k) := fun k hk =>
    h.reg (by simp only [Rg.SW_MS_STAGE, Rg.SW_MS_SA_LOAD]; omega)
  have hslot : t.slot (getBits w 6 0) = s.slot (getBits w 6 0) := by simp only [State.slot, hks]
  unfold State.saLoadCode
  rw [hstate, han, hstage 4 (.inl rfl), hstage 5 (.inr rfl), hslot]

/-- A load that starts shows BUSY and keeps its outcome; no SA changes. -/
theorem State.saLoadStart_spec (s : State) (m w : Nat) :
    (s.saLoadStart m w).rd (Fd.SW_MS_SA_LOAD_RESULT m) = Code.BUSY ∧
      (tget (fun _ => none) (s.saLoadStart m w).sw.saLoad m).map (fun l => l.code) = some (s.saLoadCode m w) ∧
      (s.saLoadStart m w).sw.txSa = s.sw.txSa ∧ (s.saLoadStart m w).sw.rxSa = s.sw.rxSa ∧
      Frame s (s.saLoadStart m w) [.regs, .sw] (fun a => a = Rg.SW_MS_SA_LOAD m) := by
  refine ⟨?_, ?_, rfl, rfl, ?_⟩
  · exact rd_wr_same _ (Fd.SW_MS_SA_LOAD_RESULT m) Code.BUSY (by show (16 : Nat) ≤ 31; decide) (by show (31 : Nat) ≤ 31; decide)
  · let l : SaLoad := ⟨s.saLoadCode m w, w, (List.range 8).map (fun k => (s.reg (Rg.SW_MS_STAGE m k)).toNat), (s.slot (getBits w 6 0)).key⟩
    have hkept : tget (fun _ => none) (s.saLoadStart m w).sw.saLoad m = some l := tget_tset_same (fun _ => none) s.sw.saLoad m (some l)
    rw [hkept]
    rfl
  · exact ((frame_of_blot_noRegs (parts := [.sw]) (by simp) (by simp)).noRegs (by simp)).trans
      ((State.wr_frame _ (Fd.SW_MS_SA_LOAD_RESULT m) Code.BUSY).widen (by simp))

/-- A sound load of a transmit SA is done. -/
def State.txSaLoaded (s : State) (m : Nat) (l : SaLoad) : State :=
  ((({ s with sw := { s.sw with saLoad := tset (fun _ => none) s.sw.saLoad m none } }).wr (Fd.SW_MS_SA_LOAD_RESULT m) Code.DONE).setTxSa
    (msPort m) (getBits l.w 12 11) (some l.sa)).pnLevel (msPort m)

theorem exec_macsecSaLoadDone_tx (s : State) (m : Fin 3) {l : SaLoad} (hl : tget (fun _ => none) s.sw.saLoad m.val = some l)
    (hdone : l.code = Code.DONE) (htx : tbit l.w 15 = false) : exec (.macsecSaLoadDone m) s = .next (s.txSaLoaded m.val l) := by
  change execMacsecSaLoadDone m s = _
  simp [execMacsecSaLoadDone, hl, hdone, htx, State.txSaLoaded]

theorem State.txSaLoaded_spec (s : State) (m : Nat) (l : SaLoad) :
    (s.txSaLoaded m l).rd (Fd.SW_MS_SA_LOAD_RESULT m) = Code.DONE ∧
      (s.txSaLoaded m l).txSaAt (msPort m) (getBits l.w 12 11) = some l.sa ∧
      tget (fun _ => none) (s.txSaLoaded m l).sw.saLoad m = none ∧ (s.txSaLoaded m l).sw.rxSa = s.sw.rxSa ∧
      Frame s (s.txSaLoaded m l) [.regs, .sw, .ic] (fun a => a = Rg.SW_MS_SA_LOAD m) := by
  let t := { s with sw := { s.sw with saLoad := tset (fun _ => none) s.sw.saLoad m none } }
  let u := (t.wr (Fd.SW_MS_SA_LOAD_RESULT m) Code.DONE).setTxSa (msPort m) (getBits l.w 12 11) (some l.sa)
  have hlevel := u.pnLevel_frame (msPort m)
  have hsw : (s.txSaLoaded m l).sw = u.sw := hlevel.same .sw (by simp)
  have htake : Frame s t [.regs, .sw, .ic] (fun a => a = Rg.SW_MS_SA_LOAD m) :=
    (frame_of_blot_noRegs (parts := [.sw]) (by simp) (by simp [t])).noRegs (by simp)
  have hshow := t.wr_frame (Fd.SW_MS_SA_LOAD_RESULT m) Code.DONE
  have hput : Frame (t.wr (Fd.SW_MS_SA_LOAD_RESULT m) Code.DONE) u [.sw] (fun _ => False) := frame_of_blot_noRegs (by simp) (by simp [u])
  refine ⟨?_, ?_, ?_, (congrArg SwState.rxSa hsw).trans rfl, ?_⟩
  · exact (hlevel.rd not_false).trans ((hput.rd not_false).trans
      (rd_wr_same t (Fd.SW_MS_SA_LOAD_RESULT m) Code.DONE (by show (16 : Nat) ≤ 31; decide) (by show (31 : Nat) ≤ 31; decide)))
  · rw [State.txSaAt, hsw]
    exact tget_tset_same (fun _ => none) s.sw.txSa _ (some l.sa)
  · rw [hsw]
    exact tget_tset_same (fun _ => none) s.sw.saLoad m none
  · exact htake.trans ((hshow.widen (by simp)).trans ((hput.noRegs (by simp)).trans (hlevel.noRegs (by simp))))

end Sys2Proof.Machine
end

section
/-! SUPPORT. The tamper and key obligation (R114, R393 to R414). -/

namespace Sys2Proof.Machine

/-- Settles O37: what a tamper ends, notes and wipes, each a lemma; the key check by the slot that turns bad, the writes and the SA loads by
the equation of each. -/
theorem tamperAndKeys : Obligations.TamperAndKeys := by
  unfold Obligations.TamperAndKeys
  refine ⟨?full, ?abortOnly, ?sleepFull, ?sleepAbortOnly, ?recordWrite, ?keyCheck, ?provLock, ?drbg, ?saLoad, ?saLoadDone⟩
  case full =>
    intro s src hactive hfull hstate
    have hnote := s.tamperAborts.tamperNote_noted (2 ^ src.val) true 0 s.tamperAborts.vt
    obtain ⟨hlocked, hslots, hops, hframe⟩ := (s.tamperAborts.tamperNote (2 ^ src.val) true 0 s.tamperAborts.vt).wipeAndLock_spec
    obtain ⟨hnone, hotp, hany⟩ := s.tamperEvent_ends (2 ^ src.val) true 0 s.tamperAborts.vt hframe hops (by simp)
    have heq : exec (.tamperEvent src) s = .next (s.tamperEvent src) := congrArg Host.Outcome.next (if_pos hactive)
    rw [s.tamperEvent_eq, if_neg hstate, hfull, if_neg Bool.false_ne_true] at heq
    have hpending := (flag_of_frame (f := Fd.KS_TAMPER_REC_PENDING) hframe (by decide)).trans (hnote.pending rfl)
    exact ⟨_, heq, hlocked, fun n hn => hslots n.val hn, hpending, hnone, hany, hotp⟩
  case abortOnly =>
    intro s src hactive habort
    obtain ⟨hks, -, haborts⟩ := s.tamperAborts_spec
    have heq : exec (.tamperEvent src) s = .next (s.tamperEvent src) := congrArg Host.Outcome.next (if_pos hactive)
    rw [s.tamperEvent_eq, habort] at heq
    by_cases hhalted : s.ksState = 3
    · rw [if_pos hhalted] at heq
      have hnote := s.tamperAborts.tamperNote_noted (2 ^ src.val) true 2 s.tamperAborts.vt
      obtain ⟨hnone, hotp, hany⟩ := s.tamperEvent_ends (2 ^ src.val) true 2 s.tamperAborts.vt (.refl _ [] (fun _ => False)) rfl (by simp)
      exact ⟨_, heq, hnone, hotp, fun h => absurd hhalted h, hnote.new, hany⟩
    · rw [if_neg hhalted, if_pos rfl] at heq
      have hnote := s.tamperAborts.tamperNote_noted (2 ^ src.val) false 0 s.tamperAborts.vt
      obtain ⟨hnone, hotp, hany⟩ := s.tamperEvent_ends (2 ^ src.val) false 0 s.tamperAborts.vt (.refl _ [] (fun _ => False)) rfl (by simp)
      exact ⟨_, heq, hnone, hotp,
        fun _ => ⟨hnote.ksState.trans (haborts.rd (by decide)), hnote.slots.trans ((congrArg KsState.slots hks).trans rfl)⟩, hnote.new, hany⟩
  case sleepFull =>
    intro s src hsleep hsrc hfull
    have heq : exec (.sleepTamperLatch src) s = .next (s.sleepTamper src.val) := congrArg Host.Outcome.next (if_pos ⟨hsleep, hsrc⟩)
    rw [s.sleepTamper_full src.val hfull] at heq
    refine ⟨_, heq, ?_, State.qualifiedWake_flag _ (by decide), fun hv => State.qualifiedWake_booting _ 30 hsleep hv, ?_, ?_⟩
    · rw [State.qualifiedWake_ks]
      exact tbit_or_two_pow _ _
    · rw [State.qualifiedWake_ks]
      rfl
    · have hwake := (s.setKs (s.fullLatched src.val)).qualifiedWake_frame 30
      refine ((s.setKs_frame _).noRegs (by simp)).trans (hwake.mono (by simp) fun a ha => ha.resolve_right fun h => ?_)
      have hactive : s.dev = .active := h.2
      rw [hactive] at hsleep
      simp at hsleep
  case sleepAbortOnly =>
    intro s src hsleep hsrc habort hnone
    have heq : exec (.sleepTamperLatch src) s = .next (s.sleepTamper src.val) := congrArg Host.Outcome.next (if_pos ⟨hsleep, hsrc⟩)
    rw [s.sleepTamper_abortOnly src.val habort hnone] at heq
    exact ⟨_, heq, tbit_or_two_pow _ _, rfl, rfl, s.setKs_frame _⟩
  case recordWrite =>
    intro s hactive hdue hpend
    have heq : exec .tamperRecordWrite s = .next s.tamperWrite := congrArg Host.Outcome.next (if_pos hactive)
    obtain ⟨hbytes, hks, hout, hframe⟩ := s.tamperWrite_spec hdue hpend
    exact ⟨_, heq, hbytes, by rw [hks], by rw [hks], hout, hframe⟩
  case keyCheck =>
    intro s n hactive hslot
    have hone : forAll [n] (fun s (n : Fin 128) => if (s.slot n).st = 1 then s.turnBad n else s) s = s.turnBad n.val := if_pos hslot
    have heq : exec (.workingKeyCheck [n]) s = .next (s.turnBad n.val) := congrArg Host.Outcome.next ((if_pos hactive).trans hone)
    obtain ⟨hbad, hothers, -, hshown, -, hframe⟩ := s.turnBad_spec n.val
    exact ⟨_, heq, hbad, fun m hm => hothers m.val fun h => hm (Fin.ext h), hshown, hframe⟩
  case provLock =>
    intro s who w h
    obtain ⟨r, x, -, heq⟩ := s.regWrite_ok (s.issuer who) 4 Rg.KS_PROV_LOCK w false _ Code.DONE
      (fun s => { s.wr Fd.KS_STATUS_PROV_OPEN 0 with otp := { s.otp with provLocked := true } }) h rfl
    generalize BitVec.ofNat 32 (writeFields r.fields (s.reg Rg.KS_PROV_LOCK).toNat w.toNat) = v at heq
    refine ⟨_, congrArg Host.Outcome.next heq, rfl, flag_wr_zero (s.setReg Rg.KS_PROV_LOCK v) Fd.KS_STATUS_PROV_OPEN (by decide) (by decide), rfl, ?_⟩
    exact (((s.setReg_frame Rg.KS_PROV_LOCK v).mono (by simp) fun _ => .inl).trans
      ((State.wr_frame _ Fd.KS_STATUS_PROV_OPEN 0).mono (by simp) fun _ => .inr)).trans (((State.setOtp_frame _ _).noRegs (by simp)).trans
        ((State.setResp_frame _ _).noRegs (by simp)))
  case drbg =>
    intro s ok hactive
    have heq : exec (.drbgHealthChange ok) s = .next ((s.setKs { s.ks with drbgOk := ok }).setFlag Fd.KS_STATUS_DRBG_OK ok) :=
      congrArg Host.Outcome.next (if_pos hactive)
    exact ⟨_, heq, rfl, flag_setFlag _ Fd.KS_STATUS_DRBG_OK ok rfl (by decide), rfl,
      ((s.setKs_frame _).noRegs (by simp)).trans ((State.setFlag_frame _ Fd.KS_STATUS_DRBG_OK ok).widen (by simp))⟩
  case saLoad =>
    intro s who m w h hfree
    obtain ⟨r, x, -, heq⟩ := s.regWrite_ok (s.issuer who) 4 (Rg.SW_MS_SA_LOAD m.val) w false _ _ (fun s => s.saLoadStart m.val w.toNat) h (if_neg hfree)
    generalize BitVec.ofNat 32 (writeFields r.fields (s.reg (Rg.SW_MS_SA_LOAD m.val)).toNat w.toNat) = v at heq
    obtain ⟨hbusy, hcode, htx, hrx, hframe⟩ := (s.setReg (Rg.SW_MS_SA_LOAD m.val) v).saLoadStart_spec m.val w.toNat
    have hset := s.setReg_frame (Rg.SW_MS_SA_LOAD m.val) v
    refine ⟨_, congrArg Host.Outcome.next heq, (State.setResp_rd _ _ _).trans hbusy, ?_, rfl, htx, hrx, ?_⟩
    · exact hcode.trans (congrArg some (State.saLoadCode_of_frame hset m.isLt _))
    · exact (hset.widen (by simp)).trans ((hframe.widen (by simp)).trans ((State.setResp_frame _ _).noRegs (by simp)))
  case saLoadDone =>
    intro s m l hl hdone htx
    obtain ⟨hcode, hsa, hnone, hrx, hframe⟩ := s.txSaLoaded_spec m.val l
    exact ⟨_, exec_macsecSaLoadDone_tx s m hl hdone htx, hcode, hsa, hnone, hrx, hframe⟩

end Sys2Proof.Machine
end

section
/-! SUPPORT. Frames that the switch receives (R99): what is tallied and leaves nothing, what the injector keeps, what a port keeps for the
frame's end. -/

namespace Sys2Proof.Machine

/-! ### What the shapers and Plaza leave -/

/-- Of the switch's state the shapers alone are brought up to the present moment. -/
theorem State.shapersSync_sw (s : State) : s.shapersSync.sw = { s.sw with shapers := s.shapersSync.sw.shapers } := by
  obtain ⟨x, hx⟩ := s.shapersSync_eq
  rw [hx]
  rfl

section
variable (s : State)
@[simp] theorem State.shapersSync_copies : s.shapersSync.sw.copies = s.sw.copies := by rw [s.shapersSync_sw]
@[simp] theorem State.shapersSync_frames : s.shapersSync.sw.frames = s.sw.frames := by rw [s.shapersSync_sw]
@[simp] theorem State.shapersSync_conns : s.shapersSync.sw.conns = s.sw.conns := by rw [s.shapersSync_sw]
@[simp] theorem State.shapersSync_fdb : s.shapersSync.sw.fdb = s.sw.fdb := by rw [s.shapersSync_sw]
@[simp] theorem State.shapersSync_inject : s.shapersSync.sw.inject = s.sw.inject := by rw [s.shapersSync_sw]
@[simp] theorem State.shapersSync_grant : s.shapersSync.sw.grant = s.sw.grant := by rw [s.shapersSync_sw]
@[simp] theorem State.shapersSync_accept : s.shapersSync.sw.accept = s.sw.accept := by rw [s.shapersSync_sw]
@[simp] theorem State.shapersSync_rx (p : Nat) : s.shapersSync.rx p = s.rx p := by rw [State.rx, s.shapersSync_sw]; rfl
@[simp] theorem State.shapersSync_reg (a : Nat) : s.shapersSync.reg a = s.reg a := s.shapersSync_frame.reg not_false
@[simp] theorem State.shapersSync_regs : s.shapersSync.regs = s.regs := s.shapersSync_frame.same .regs (by simp)
@[simp] theorem State.shapersSync_plan : s.shapersSync.plan = s.plan := s.shapersSync_frame.same .plan (by simp)
@[simp] theorem State.shapersSync_now : s.shapersSync.now = s.now := s.shapersSync_frame.same .now (by simp)
end

section
variable {s t : State} (h : InPlaza s t)
include h
theorem InPlaza.plan : t.plan = s.plan := h.frame.same .plan (by simp)
theorem InPlaza.mem : t.mem = s.mem := h.frame.same .mem (by simp)
theorem InPlaza.otp : t.otp = s.otp := h.frame.same .otp (by simp)
theorem InPlaza.pending : t.pending = s.pending := h.frame.1
theorem InPlaza.now : t.now = s.now := h.frame.same .now (by simp)
theorem InPlaza.vt : t.vt = s.vt := h.frame.same .vt (by simp)

/-- The configuration of a port lies outside Plaza. -/
theorem InPlaza.maxLen {p : Nat} (hp : p < 24) : t.maxLen p = s.maxLen p :=
  h.frame.rd (f := Fd.SW_PORT_CFG_MAXLEN p) (by simp only [Fd.SW_PORT_CFG_MAXLEN]; omega)

theorem InPlaza.macsecOn {p : Nat} (hp : p < 24) : t.macsecOn p = s.macsecOn p := by
  have hcfg : t.flag (Fd.SW_PORT_CFG_MACSEC p) = s.flag (Fd.SW_PORT_CFG_MACSEC p) :=
    flag_of_frame (f := Fd.SW_PORT_CFG_MACSEC p) h.frame (by simp only [Fd.SW_PORT_CFG_MACSEC]; omega)
  rw [State.macsecOn, hcfg, State.macsecOn]

end

/-! ### What a plan and the registers give -/

section
variable {s t : State} (hplan : t.plan = s.plan)
include hplan
theorem State.item_of_plan (ty k : Nat) : t.item ty k = s.item ty k := by simp only [State.item, hplan]
theorem State.item2_of_plan (ty j k : Nat) : t.item2 ty j k = s.item2 ty j k := by simp only [State.item2, hplan]
theorem State.members_of_plan (vid : Nat) : t.members_ vid = s.members_ vid := by simp only [State.members_, State.item_of_plan hplan]
theorem State.untagged_of_plan (vid p : Nat) : t.untagged vid p = s.untagged vid p := by simp only [State.untagged, State.item_of_plan hplan]

/-- The VLAN of received bytes depends on the plan, and not on their time. -/
theorem State.parse_vid_of_plan (p : Nat) (bs : List Byte) (len stamp stamp' : Nat) (ended : Bool) :
    (t.parse p bs len stamp ended).vid = (s.parse p bs len stamp' ended).vid := by
  simp only [State.parse, State.pvid, State.items, hplan]

theorem State.rawBytes_of_plan (f : SwFrame) (p : Nat) : t.rawBytes f p = s.rawBytes f p := by
  simp only [State.rawBytes, State.untagged_of_plan hplan]
theorem State.outBytes_of_plan (f : SwFrame) (p : Nat) : t.outBytes f p = s.outBytes f p := by
  simp only [State.outBytes, State.rawBytes_of_plan hplan]
theorem State.wireBytes_of_plan (c : SwCopy) (f : SwFrame) : t.wireBytes c f = s.wireBytes c f := by
  simp only [State.wireBytes, State.outBytes_of_plan hplan]
end

/-! ### Tallied, and nothing left (R99, R117) -/

/-- A frame of `len` octets received at a port, counted there and as event `c`. -/
def State.tallied (s : State) (p len c : Nat) : State := ((s.shapersSync.traffic p 0 len).swEvent p c).shapersSync

theorem State.tallied_spec (s : State) {p c : Nat} (len : Nat) (hp : p < 24) (hc : c < 16) :
    Counted s (s.tallied p len c) (Rg.SW_EVENT p c) ∧ (s.tallied p len c).sw.copies = s.sw.copies ∧ (s.tallied p len c).sw.frames = s.sw.frames ∧
      (s.tallied p len c).sw.fdb = s.sw.fdb ∧
      Frame s (s.tallied p len c) [.sw, .regs, .ic] (fun a => swEventRegs p c a ∨ trafficRegs p 0 a) := by
  have htraffic := s.shapersSync.traffic_frame p 0 len
  have hevent := (s.shapersSync.traffic p 0 len).swEvent_frame p c
  have hsw : ((s.shapersSync.traffic p 0 len).swEvent p c).sw = s.shapersSync.sw := (hevent.same .sw (by simp)).trans (htraffic.same .sw (by simp))
  have hne : ¬ trafficRegs p 0 (Rg.SW_EVENT p c) := by
    unfold trafficRegs Rg.SW_EVENT Rg.SQ_PORT_SAT Rg.SQ_TRAFFIC_LO
    omega
  refine ⟨Counted.of_reg ((s.shapersSync.traffic p 0 len).swEvent_counted hp hc) ?_ (State.shapersSync_reg _ _), ?_, ?_, ?_, ?_⟩
  · exact (htraffic.reg hne).trans (s.shapersSync_reg _)
  · rw [State.tallied, State.shapersSync_copies, hsw, State.shapersSync_copies]
  · rw [State.tallied, State.shapersSync_frames, hsw, State.shapersSync_frames]
  · rw [State.tallied, State.shapersSync_fdb, hsw, State.shapersSync_fdb]
  · exact (s.shapersSync_frame.noRegs (by simp)).trans ((htraffic.mono (by simp) fun _ => .inr).trans
      ((hevent.mono (by simp) fun _ => .inl).trans ((State.shapersSync_frame _).noRegs (by simp))))

/-- A receive error, or a frame too short to be one, is event 3. -/
theorem State.frameIn_bad (s : State) (p : Nat) (data : List Byte) (err : Bool) (stamp : Nat) (h : err = true ∨ data.length < 18) :
    s.frameIn p data err stamp = (s.traffic p 0 data.length).swEvent p 3 := if_pos h

/-- A good frame without MACsec goes to the decision without its FCS. -/
theorem State.frameIn_good (s : State) {p : Nat} (hp : p < 24) (data : List Byte) (stamp : Nat) (hlen : 18 ≤ data.length)
    (hfcs : leNat (data.drop (data.length - 4)) = crc32 (data.take (data.length - 4))) (hsec : s.macsecOn p = false) :
    s.frameIn p data false stamp =
      ((s.traffic p 0 data.length).forward p (data.take (data.length - 4)) data.length stamp true).1 := by
  have hplain : (s.traffic p 0 data.length).macsecOn p = false := ((s.traffic_inPlaza p 0 data.length).macsecOn hp).trans hsec
  unfold State.frameIn
  dsimp only
  rw [if_neg (by simp; omega), if_pos hfcs, hplain, if_neg Bool.false_ne_true]

/-- A frame of a VLAN of which the port is no member is event 0. -/
theorem State.forward_notMember (s : State) (p : Nat) (bs : List Byte) (len stamp vid : Nat) (hvid : (s.parse p bs len stamp true).vid = vid)
    (hcurfew : curfewT1s p bs = false) (hunderpass : underpassFrame p bs = false) (hlen : len ≤ s.maxLen p) (hzero : vid ≠ 0) (hmax : vid ≠ 4095)
    (hmember : tbit (s.members_ vid) p = false) : s.forward p bs len stamp true = (s.swEvent p 0, 0) := by
  unfold State.forward
  dsimp only
  rw [hvid, hcurfew, hunderpass, if_neg (by decide), if_neg (by omega), if_neg hzero, if_neg hmax, hmember, if_pos (by decide)]

/-! ### Kept for later -/

/-- The first bytes of a frame that cannot cut through yet are kept. -/
theorem State.frameBegins_short (s : State) (p : Nat) (data : List Byte) (err : Bool) (stamp : Nat) (h : data.length < 128) :
    s.frameBegins p data err stamp = s.setRx p (some ⟨data, stamp, err, false, none⟩) := by
  have hcut : decide (128 ≤ data.length) = false := decide_eq_false (by omega)
  simp [State.frameBegins, hcut]

theorem State.setRx_rx (s : State) (p : Nat) (x : Option RxFrame) : (s.setRx p x).rx p = x := tget_tset_same _ _ _ _
theorem State.setRx_frame (s : State) (p : Nat) (x : Option RxFrame) : Frame s (s.setRx p x) [.sw] (fun _ => False) :=
  frame_of_blot_noRegs (by simp) (by simp)

/-! ### The command -/

theorem exec_forwardingDecision_frameIn (s : State) (p : Fin 24) (data : List Byte) (err : Bool) (arr : Arrival) (hfree : s.rxFree p.val = true)
    (h : p.val ≠ 18 ∧ p.val ≠ 19 ∨ err = true ∨ data.length < 18) :
    exec (.forwardingDecision p data true err arr) s = .next (s.shapersSync.frameIn p.val data err (s.vt - arr.ago.toNat)).shapersSync := by
  have hqueue : ¬ ((p.val = 18 ∨ p.val = 19) ∧ (!err) = true ∧ 18 ≤ data.length) := by
    rintro ⟨hp, herr, hlen⟩
    rcases h with ⟨h18, h19⟩ | h | h
    · omega
    · simp [h] at herr
    · omega
  refine congrArg Host.Outcome.next ?_
  rw [hfree, if_neg (by decide), if_neg (by decide), if_neg hqueue]

theorem exec_forwardingDecision_injector (s : State) (p : Fin 24) (data : List Byte) (arr : Arrival) (hfree : s.rxFree p.val = true)
    (hp : p.val = 18 ∨ p.val = 19) (hlen : 18 ≤ data.length) :
    exec (.forwardingDecision p data true false arr) s = .next (s.dmaQueue p.val arr.set.val data (s.vt - arr.ago.toNat)) := by
  refine congrArg Host.Outcome.next ?_
  rw [hfree, if_neg (by decide), if_neg (by decide), if_pos ⟨hp, rfl, hlen⟩]

theorem exec_forwardingDecision_begins (s : State) (p : Fin 24) (data : List Byte) (err : Bool) (arr : Arrival) (hfree : s.rxFree p.val = true) :
    exec (.forwardingDecision p data false err arr) s = .next (s.shapersSync.frameBegins p.val data err (s.vt - arr.ago.toNat)).shapersSync := by
  refine congrArg Host.Outcome.next ?_
  rw [hfree, if_neg (by decide), if_pos (by decide)]

end Sys2Proof.Machine
end

section
/-! SUPPORT. The end of a frame decided early (R110, R120, R133, R135): what becomes of it and of its copies. -/

namespace Sys2Proof.Machine

/-! ### Copies in Plaza -/

/-- One copy is put in the place of its number. -/
theorem mem_putCopy {s : State} {c y : SwCopy} (h : y ∈ (s.putCopy c).sw.copies) :
    y = c ∧ (∃ x ∈ s.sw.copies, x.n = c.n) ∨ y ∈ s.sw.copies ∧ y.n ≠ c.n := by
  obtain ⟨x, hx, rfl⟩ := List.mem_map.mp h
  by_cases hn : x.n = c.n
  · exact .inl ⟨by simp [hn], x, hx, hn⟩
  · exact .inr ⟨by simpa [hn] using hx, by simp [hn]⟩

theorem mem_releaseCopy {s : State} {c y : SwCopy} (h : y ∈ (s.releaseCopy c).sw.copies) :
    y = { c with charge := 0 } ∧ (∃ x ∈ s.sw.copies, x.n = c.n) ∨ y ∈ s.sw.copies ∧ y.n ≠ c.n := by
  rw [s.releaseCopy_copies] at h
  exact mem_putCopy (s := s) (c := { c with charge := 0 }) h

theorem mem_dropCopy {s : State} {c y : SwCopy} (h : y ∈ (s.dropCopy c).sw.copies) : y ∈ s.sw.copies ∧ y.n ≠ c.n := by
  rw [s.dropCopy_copies] at h
  simpa using h

/-- Of copy `c` a step leaves nothing, or a copy that has joined; the frames and the other copies stay. -/
structure Settles (s t : State) (c : SwCopy) : Prop where
  frames : t.sw.frames = s.sw.frames
  copies : ∀ y ∈ t.sw.copies, y.joined = true ∧ (∃ x ∈ s.sw.copies, x.n = y.n) ∨ y ∈ s.sw.copies ∧ y.n ≠ c.n

/-- Accounting alone before a step. -/
theorem Settles.after {s t u : State} {c : SwCopy} (hst : t.sw = s.sw) (h : Settles t u c) : Settles s u c := by
  refine ⟨h.frames.trans (congrArg SwState.frames hst), fun y hy => ?_⟩
  rw [← hst]
  exact h.copies y hy

/-- Connections and accounting after a step. -/
theorem Settles.before {s t u : State} {c : SwCopy} (h : Settles s t c) (hf : u.sw.frames = t.sw.frames) (hc : u.sw.copies = t.sw.copies) :
    Settles s u c :=
  ⟨hf.trans h.frames, fun y hy => h.copies y (hc ▸ hy)⟩

theorem Settles.putCopy (s : State) {c d : SwCopy} (hn : d.n = c.n) (hjoined : d.joined = true) : Settles s (s.putCopy d) c := by
  refine ⟨rfl, fun y hy => (mem_putCopy hy).imp ?_ fun h => ⟨h.1, hn ▸ h.2⟩⟩
  rintro ⟨rfl, hx⟩
  exact ⟨hjoined, hx⟩

theorem releaseCopy_frames (s : State) (c : SwCopy) : (s.releaseCopy c).sw.frames = s.sw.frames := by
  have hsw : (if c.out = 23 then (s.release c.out c.tc c.charge).epOcc c.ep (((s.release c.out c.tc c.charge).epAt c.ep).occ - c.charge)
      else s.release c.out c.tc c.charge).sw = s.sw := same_of_allBut .sw (by simp)
  rw [← hsw]
  rfl

theorem dropCopy_frames (s : State) (c : SwCopy) : (s.dropCopy c).sw.frames = s.sw.frames := releaseCopy_frames s c

/-- A copy put after its release, or released after it was put. -/
theorem Settles.releaseCopy {s t : State} {c d : SwCopy} (h : Settles s t c) (hjoined : d.joined = true) :
    Settles s (t.releaseCopy d) c := by
  refine ⟨(releaseCopy_frames t d).trans h.frames, fun y hy => ?_⟩
  rcases mem_releaseCopy hy with ⟨rfl, x, hx, hxn⟩ | ⟨hy, -⟩
  · refine .inl ⟨hjoined, ?_⟩
    rcases h.copies x hx with ⟨-, z, hz, hzn⟩ | ⟨hmem, -⟩
    · exact ⟨z, hz, hzn.trans hxn⟩
    · exact ⟨x, hmem, hxn⟩
  · exact h.copies y hy

theorem Settles.put_released (s : State) {c d : SwCopy} (hn : d.n = c.n) (hjoined : d.joined = true) :
    Settles s ((s.releaseCopy c).putCopy d) c := by
  refine ⟨releaseCopy_frames s c, fun y hy => ?_⟩
  rcases mem_putCopy hy with ⟨rfl, x, hx, hxn⟩ | ⟨hy, hyn⟩
  · refine .inl ⟨hjoined, ?_⟩
    rcases mem_releaseCopy hx with ⟨-, hz⟩ | ⟨hmem, -⟩
    · exact hn ▸ hz
    · exact ⟨x, hmem, hxn⟩
  · rcases mem_releaseCopy hy with ⟨rfl, -⟩ | hy
    · exact absurd hn.symm hyn
    · exact .inr hy

theorem Settles.dropCopy (s : State) (c : SwCopy) : Settles s (s.dropCopy c) c :=
  ⟨dropCopy_frames s c, fun _ hy => .inr (mem_dropCopy hy)⟩

/-- Over a list of copies: what is left of each has joined, and no number comes that was not there. -/
theorem settles_forAll {f : State → SwCopy → State} (hf : ∀ u c, Settles u (f u c) c) (l : List SwCopy) (s : State) :
    (forAll l f s).sw.frames = s.sw.frames ∧ (∀ y ∈ (forAll l f s).sw.copies,
      (y.joined = true ∨ y ∈ s.sw.copies ∧ ∀ c ∈ l, y.n ≠ c.n) ∧ ∃ x ∈ s.sw.copies, x.n = y.n) := by
  induction l generalizing s with
  | nil => exact ⟨rfl, fun y hy => ⟨.inr ⟨hy, by simp⟩, y, hy, rfl⟩⟩
  | cons c rest ih =>
    obtain ⟨hframes, hcopies⟩ := ih (f s c)
    have hstep := hf s c
    refine ⟨hframes.trans hstep.frames, fun y hy => ?_⟩
    obtain ⟨hy, x, hx, hxy⟩ := hcopies y hy
    constructor
    · rcases hy with hjoined | ⟨hy, hrest⟩
      · exact .inl hjoined
      · rcases hstep.copies y hy with ⟨hjoined, -⟩ | ⟨hmem, hne⟩
        · exact .inl hjoined
        · exact .inr ⟨hmem, List.forall_mem_cons.mpr ⟨hne, hrest⟩⟩
    · rcases hstep.copies x hx with ⟨-, z, hz, hzx⟩ | ⟨hmem, -⟩
      · exact ⟨z, hz, hzx.trans hxy⟩
      · exact ⟨x, hmem, hxy⟩

/-! ### A frame that has ended, with every copy of it joined -/

/-- Frame `id` is ended, and every copy of it left has joined. -/
def Ended (s : State) (id : Nat) : Prop :=
  (∀ g ∈ s.sw.frames, g.id = id → g.ended = true) ∧ ∀ c ∈ s.sw.copies, c.frame = id → c.joined = true

theorem Ended.sweepFrames {s : State} {id : Nat} (h : Ended s id) : Ended s.sweepFrames id :=
  ⟨fun g hg => h.1 g (List.mem_filter.mp hg).1, h.2⟩

theorem Ended.shapersSync {s : State} {id : Nat} (h : Ended s id) : Ended s.shapersSync id := by
  unfold Ended
  rw [s.shapersSync_frames, s.shapersSync_copies]
  exact h

/-- The frame is put as ended. -/
theorem putFrame_ended (s : State) {f : SwFrame} (h : f.ended = true) : ∀ g ∈ (s.putFrame f).sw.frames, g.id = f.id → g.ended = true := by
  intro g hg hid
  obtain ⟨x, -, rfl⟩ := List.mem_map.mp hg
  by_cases hx : x.id = f.id
  · simpa [hx] using h
  · simp [hx] at hid

/-- Once each copy of the frame has been settled. -/
theorem Ended.of_settles {f : State → SwCopy → State} (hf : ∀ u c, Settles u (f u c) c) (s : State) (id : Nat)
    (h : ∀ g ∈ s.sw.frames, g.id = id → g.ended = true) : Ended (forAll (s.sw.copies.filter (fun c => c.frame == id)) f s) id := by
  obtain ⟨hframes, hcopies⟩ := settles_forAll hf (s.sw.copies.filter (fun c => c.frame == id)) s
  refine ⟨by rwa [hframes], fun c hc hid => (hcopies c hc).1.elim (fun hj => hj) fun ⟨hmem, hne⟩ => ?_⟩
  exact absurd rfl (hne c (List.mem_filter.mpr ⟨hmem, by simp [hid]⟩))

/-! ### A good end, a frame discarded, a bad frame (R110, R112, R120) -/

/-- What a good end makes of one copy of frame `f`. -/
def State.goodCopy (f : SwFrame) (s : State) (c : SwCopy) : State :=
  let n := cells f.len
  let less := c.charge - n
  let s := s.release c.out c.tc less
  let s := if c.out = 23 then s.epOcc c.ep ((s.epAt c.ep).occ - less) else s
  let c := { c with charge := min c.charge n, joined := true }
  if c.crossed = n then
    let s := { s with sw := { s.sw with conns := s.sw.conns.filter (fun k => k.2 != c.n) } }
    let s := s.putCopy { c with done := true }
    if c.out = 23 then s.traffic 23 2 f.len else s.releaseCopy { c with done := true }
  else s.putCopy c

theorem State.goodEnd_eq (s : State) (f : SwFrame) :
    s.goodEnd f = forAll ((s.putFrame f).sw.copies.filter (fun c => c.frame == f.id)) (State.goodCopy f) (s.putFrame f) := rfl

theorem State.goodCopy_settles (f : SwFrame) (s : State) (c : SwCopy) : Settles s (s.goodCopy f c) c := by
  unfold State.goodCopy
  dsimp only
  have hsw : (if c.out = 23 then (s.release c.out c.tc (c.charge - cells f.len)).epOcc c.ep
      (((s.release c.out c.tc (c.charge - cells f.len)).epAt c.ep).occ - (c.charge - cells f.len))
      else s.release c.out c.tc (c.charge - cells f.len)).sw = s.sw := same_of_allBut .sw (by simp)
  generalize (if c.out = 23 then (s.release c.out c.tc (c.charge - cells f.len)).epOcc c.ep
      (((s.release c.out c.tc (c.charge - cells f.len)).epAt c.ep).occ - (c.charge - cells f.len))
      else s.release c.out c.tc (c.charge - cells f.len)) = t at hsw ⊢
  have hput : ∀ d : SwCopy, d.n = c.n → d.joined = true →
      Settles s (State.putCopy { t with sw := { t.sw with conns := t.sw.conns.filter (fun k => k.2 != c.n) } } d) c := fun d hn hj => by
    refine Settles.before (t := t.putCopy d) ((Settles.putCopy t hn hj).after hsw) rfl rfl
  let d : SwCopy := { c with charge := min c.charge (cells f.len), joined := true, done := true }
  split
  · split
    · have htraffic : ∀ u : State, (u.traffic 23 2 f.len).sw = u.sw := fun u => (u.traffic_frame 23 2 f.len).same .sw (by simp)
      exact (hput d rfl rfl).before (congrArg SwState.frames (htraffic _)) (congrArg SwState.copies (htraffic _))
    · exact (hput d rfl rfl).releaseCopy rfl
  · exact (Settles.putCopy t (c := c) (d := { c with charge := min c.charge (cells f.len), joined := true }) rfl rfl).after hsw

theorem State.goodCopy_inPlaza (f : SwFrame) (s : State) (c : SwCopy) : InPlaza s (s.goodCopy f c) := by
  have hcharge : InPlaza s (if c.out = 23 then (s.release c.out c.tc (c.charge - cells f.len)).epOcc c.ep
      (((s.release c.out c.tc (c.charge - cells f.len)).epAt c.ep).occ - (c.charge - cells f.len))
      else s.release c.out c.tc (c.charge - cells f.len)) := (s.setOcc_inPlaza _ _ _).trans (.ite (State.epOcc_inPlaza _ _ _) (.refl _))
  exact .ite (((hcharge.trans .upd).trans (State.putCopy_inPlaza _ _)).trans (.ite (State.traffic_inPlaza _ _ _ _) (State.releaseCopy_inPlaza _ _)))
    (hcharge.trans (State.putCopy_inPlaza _ _))

theorem State.badCopy_settles (s : State) (c : SwCopy) : Settles s (s.badCopy c) c := by
  unfold State.badCopy
  dsimp only
  split
  · refine Settles.before (t := (if c.done || c.out == 23 then s else s.releaseCopy c).putCopy
      { c with charge := if c.done || c.out == 23 then c.charge else 0, done := true, joined := true }) ?_ rfl rfl
    split
    · exact .putCopy s rfl rfl
    · exact .put_released s rfl rfl
  · exact (Settles.dropCopy _ c).after ((s.swEvent_frame c.out 15).same .sw (by simp))

theorem State.badNoted_sw (s : State) (f : SwFrame) :
    (s.badNoted f).sw.frames = (s.putFrame { f with bad := true, ended := true, elim := none }).sw.frames ∧ (s.badNoted f).sw.copies = s.sw.copies := by
  unfold State.badNoted
  dsimp only
  split
  · unfold State.unrecover
    dsimp only
    split <;> exact ⟨rfl, rfl⟩
  · exact ⟨rfl, rfl⟩

theorem State.goodEnd_ended (s : State) {f : SwFrame} (h : f.ended = true) : Ended (s.goodEnd f) f.id := by
  rw [s.goodEnd_eq]
  exact .of_settles (State.goodCopy_settles f) (s.putFrame f) f.id (putFrame_ended s h)

theorem State.dropFrame_ended (s : State) (f : SwFrame) : Ended (s.dropFrame f) f.id :=
  (Ended.of_settles Settles.dropCopy (s.putFrame { f with ended := true }) f.id (putFrame_ended s (f := { f with ended := true }) rfl)).sweepFrames

theorem State.badFrame_ended (s : State) (f : SwFrame) : Ended (s.badFrame f) f.id := by
  rw [s.badFrame_eq]
  refine (Ended.of_settles State.badCopy_settles (s.badNoted f) f.id fun g hg => ?_).sweepFrames
  rw [(s.badNoted_sw f).1] at hg
  exact putFrame_ended s (f := { f with bad := true, ended := true, elim := none }) rfl g hg

/-- A bad frame brings no number of a copy back. -/
theorem State.badFrame_numbers (s : State) (f : SwFrame) : ∀ y ∈ (s.badFrame f).sw.copies, ∃ x ∈ s.sw.copies, x.n = y.n := by
  rw [s.badFrame_eq]
  intro y hy
  have h := (settles_forAll State.badCopy_settles ((s.badNoted f).sw.copies.filter (fun c => c.frame == f.id)) (s.badNoted f)).2 y hy
  rw [(s.badNoted_sw f).2] at h
  exact h.2

theorem State.goodEnd_inPlaza (s : State) (f : SwFrame) : InPlaza s (s.goodEnd f) := by
  rw [s.goodEnd_eq]
  exact (s.putFrame_inPlaza f).trans (.forAll (State.goodCopy_inPlaza f))

theorem State.dropFrame_inPlaza (s : State) (f : SwFrame) : InPlaza s (s.dropFrame f) :=
  ((s.putFrame_inPlaza _).trans (.forAll State.dropCopy_inPlaza)).trans (State.sweepFrames_inPlaza _)

/-! ### The end itself (R99, R110, R133, R135) -/

/-- However the frame ends, it does so in Plaza. -/
theorem State.earlyEnd_spec (s : State) (p : Nat) (f : SwFrame) (data : List Byte) (err : Bool) :
    InPlaza s (s.earlyEnd p f data err) ∧ Ended (s.earlyEnd p f data err) f.id := by
  unfold State.earlyEnd
  dsimp only
  generalize hf : ({ f with len := data.length, ended := true, got := [], payload := (data.take (data.length - 4)).drop f.hdr } : SwFrame) = g
  have hid : g.id = f.id := hf ▸ rfl
  have hended : g.ended = true := hf ▸ rfl
  rw [← hid]
  have hgood : ∀ u, InPlaza s u → InPlaza s (u.goodEnd g) ∧ Ended (u.goodEnd g) g.id := fun u hu =>
    ⟨hu.trans (u.goodEnd_inPlaza g), u.goodEnd_ended hended⟩
  refine iteInduction (motive := fun u => InPlaza s u ∧ Ended u g.id) (fun _ => ?_) fun _ => ?_
  · split
    · next h seq _ =>
      have hrecover := s.recover_inPlaza h seq
      split
      · next u hu => exact hgood u (by rwa [hu] at hrecover)
      · next u hu =>
        rw [hu] at hrecover
        exact ⟨hrecover.trans (u.dropFrame_inPlaza g), u.dropFrame_ended g⟩
    · exact hgood s (.refl s)
  · refine ⟨InPlaza.trans ?_ (State.badFrame_inPlaza _ g), State.badFrame_ended _ g⟩
    split
    · exact .ite (s.strmCount_inPlaza _ _) (.refl s)
    · exact .refl s

theorem State.setStrm_frames (s : State) (h : Nat) (x : Strm) : (s.setStrm h x).sw.frames = s.sw.frames := rfl

theorem State.refund_frames (s : State) (h len : Nat) : (s.refund h len).sw.frames = s.sw.frames := by
  unfold State.refund
  split
  · rfl
  · exact (State.setStrm_frames _ _ _).trans (State.setStrm_frames _ _ _)

theorem State.meterEnd_frames (s : State) (m : Option (Nat × Nat)) (len : Nat) : (s.meterEnd m len).sw.frames = s.sw.frames := by
  unfold State.meterEnd
  split
  · exact s.refund_frames _ _
  · rfl

/-- R99: a frame decided at its end takes the decision of a whole one. -/
theorem State.frameEnd_undecided (s : State) (p : Nat) (rest : List Byte) (err : Bool) {x : RxFrame} (hx : s.rx p = some x)
    (hdec : x.decided = false) :
    s.frameEnd p rest err = ((s.shapersSync.setRx p none).frameIn p (x.got ++ rest) (err || x.err) x.stamp).shapersSync := by
  simp [State.frameEnd, hx, hdec]

/-- A frame decided early that is still in Plaza ends there. -/
theorem State.frameEnd_decided (s : State) (p : Nat) (rest : List Byte) (err : Bool) {x : RxFrame} {f : SwFrame} (hx : s.rx p = some x)
    (hdec : x.decided = true) (hf : s.partFrame p = some f) :
    s.frameEnd p rest err = ((((s.shapersSync.setRx p none).traffic p 0 (x.got ++ rest).length).meterEnd x.meter (x.got ++ rest).length).earlyEnd p f
      (x.got ++ rest) err).shapersSync := by
  have htraffic := ((s.shapersSync.setRx p none).traffic_frame p 0 (x.got ++ rest).length).same .sw (by simp)
  have hpart : (((s.shapersSync.setRx p none).traffic p 0 (x.got ++ rest).length).meterEnd x.meter (x.got ++ rest).length).partFrame p = some f := by
    rw [State.partFrame, State.meterEnd_frames, congrArg SwState.frames htraffic, ← hf]
    exact congrArg (List.find? _) s.shapersSync_frames
  unfold State.frameEnd
  rw [hx]
  dsimp only
  rw [hdec, if_neg (by decide), hpart]

end Sys2Proof.Machine
end

section
/-! SUPPORT. One cell time of Roundabout (R97, R107, R124, R130) with nothing at the injectors, and the ports that send (R98, R110). -/

namespace Sys2Proof.Machine

/-! ### Before the match: the injectors and the heads too long for their gates -/

theorem State.injectOne_empty (s : State) (p : Nat) (h : s.sw.inject = []) : s.injectOne p = s := by
  simp [State.injectOne, h]

theorem State.injectAll_empty (s : State) (h : s.sw.inject = []) : forAll [18, 19, 23] State.injectOne s = s := by
  simp [forAll, State.injectOne_empty _ _ h]

/-- Where every head fits, none is discarded. -/
theorem State.dropOversize_fits (s : State) (fuel : Nat)
    (h : ∀ c ∈ s.heads, ∀ f, s.frameOf c = some f → s.fits f c.out (s.longestOpen c.out c.tc) = true) : s.dropOversize fuel = s := by
  cases fuel with
  | zero => rfl
  | succ fuel =>
    unfold State.dropOversize
    split
    · rfl
    · next c hc =>
      have hmem := List.mem_of_find?_eq_some hc
      have hlong := List.find?_some hc
      cases hf : s.frameOf c with
      | none => simp [hf] at hlong
      | some f => simp [hf, h c hmem f hf] at hlong

/-! ### The match (R107) -/

/-- Without a head there is nothing to match. -/
theorem State.iterate_noHeads (s : State) (first : Bool) (h : s.heads = []) : s.iterate first = s := by
  simp [State.iterate, h, requestsOf, pickReq, forAll]

/-- The one request of a list is chosen, whatever the pointers. -/
theorem pickReq_singleton (r : Req) (key : Req → Nat) (ptr : Nat → Nat) : pickReq [r] key ptr = some r := by
  simp [pickReq]

theorem pickReq_nil (key : Req → Nat) (ptr : Nat → Nat) : pickReq [] key ptr = none := rfl

/-- Where one place alone has the request, it alone picks it. -/
theorem filterMap_pickReq (r : Req) (place key : Req → Nat) (ptr : Nat → Nat → Nat) (h : place r < 24) :
    (List.range 24).filterMap (fun o => pickReq ([r].filter (fun q => place q == o)) key (ptr o)) = [r] := by
  have hone : ∀ o, pickReq ([r].filter (fun q => place q == o)) key (ptr o) = if o = place r then some r else none := fun o => by
    by_cases ho : o = place r
    · simp [ho, pickReq_singleton]
    · have hne : (place r == o) = false := by simpa using Ne.symm ho
      simp [ho, hne, pickReq_nil]
  simp only [hone]
  generalize place r = k at h
  interval_cases k <;> rfl

/-- A lone head that is eligible is matched. -/
theorem State.iterate_oneHead (s : State) (first : Bool) {c : SwCopy} (hheads : s.heads = [c]) (hconns : s.sw.conns = [])
    (helig : s.eligible c = true) (hinp : c.inp < 24) (hout : c.out < 24) : s.iterate first = s.matched first (c.inp, c.out, c.tc) := by
  have hreqs : requestsOf (s.heads.filter (fun c => !s.inputBusy c.inp && !s.outputBusy c.out && s.eligible c)) = [(c.inp, c.out, c.tc)] := by
    simp [hheads, State.inputBusy, State.outputBusy, hconns, helig, requestsOf]
  unfold State.iterate
  rw [hreqs]
  dsimp only
  rw [filterMap_pickReq (c.inp, c.out, c.tc) (fun r => r.2.1) (fun r => r.1) (fun o => s.grantPtr o) hout,
    filterMap_pickReq (c.inp, c.out, c.tc) (fun r => r.1) (fun r => r.2.1) (fun i => s.acceptPtr i) hinp]
  rfl

/-- A connection of copy `c` starts, and the pointers of the first iteration move. -/
def State.connectFirst (s : State) (c : SwCopy) : State :=
  { s with sw := { s.sw with
    conns := s.sw.conns ++ [(c.inp, c.n)]
    grant := tset (fun _ => 0) s.sw.grant (c.out * 8 + c.tc) ((c.inp + 1) % 24)
    accept := tset (fun _ => 0) s.sw.accept (c.inp * 8 + c.tc) ((c.out + 1) % 24) } }

theorem State.matched_first (s : State) {c : SwCopy} {f : SwFrame} (hheads : s.heads = [c]) (hf : s.frameOf c = some f)
    (hage : s.aged f c.out c.tc = false) : s.matched true (c.inp, c.out, c.tc) = s.connectFirst c := by
  simp [State.matched, hheads, hf, hage, State.connectFirst]

/-! ### Gates that never close (R129, R130) -/

theorem State.gateNow_noCycle (s : State) (p : Nat) (h : s.gateCycle p = none) : s.gateNow p = (0, 0xFF, 0) := by simp [State.gateNow, h]
theorem State.openFor_noCycle (s : State) (p tc : Nat) (h : s.gateCycle p = none) : s.openFor p tc = neverCloses := by simp [State.openFor, h]
theorem State.longestOpen_noCycle (s : State) (p tc : Nat) (h : s.gateCycle p = none) : s.longestOpen p tc = neverCloses := by
  simp [State.longestOpen, h]

/-- All eight gates are open. -/
theorem tbit_allOpen {tc : Nat} (h : tc < 8) : tbit 0xFF tc = true := by interval_cases tc <;> rfl

/-- Without gates, shaper and flush a copy whose frame fits is eligible. -/
theorem State.eligible_free (s : State) {c : SwCopy} {f : SwFrame} (hf : s.frameOf c = some f) (hcycle : s.gateCycle c.out = none)
    (hshaper : s.item2 0x0805 c.out c.tc = none) (hflush : s.sw.flushing = []) (hfits : s.fits f c.out neverCloses = true) (htc : c.tc < 8) :
    s.eligible c = true := by
  simp [State.eligible, hf, hflush, s.gateNow_noCycle _ hcycle, s.openFor_noCycle _ _ hcycle, tbit_allOpen htc, hfits, State.creditOk, hshaper]

theorem State.aged_noQueue (s : State) (f : SwFrame) (p tc : Nat) (h : s.queueItem p tc = none) : s.aged f p tc = false := by
  simp [State.aged, h]

/-- The time on the wire depends on the plan and the registers alone. -/
theorem State.fits_congr {s t : State} (hplan : t.plan = s.plan) (hregs : t.regs = s.regs) (f : SwFrame) (p k : Nat) : t.fits f p k = s.fits f p k := by
  have hreg : ∀ a, t.reg a = s.reg a := fun a => by simp only [State.reg, hregs]
  have hsec : t.macsecOn p = s.macsecOn p := by simp only [State.macsecOn, State.flag, State.rd, hreg]
  have hmax : t.maxLen f.inp = s.maxLen f.inp := by simp only [State.maxLen, State.rd, hreg]
  have hlen : t.outLen f p = s.outLen f p := by
    unfold State.outLen
    rw [hsec, hmax, State.outBytes_of_plan hplan, State.untagged_of_plan hplan]
  rw [State.fits, hlen, State.fits]

/-! ### Cells (R97) -/

/-- A connected copy whose next cell is not the last moves one cell. -/
theorem State.moveCell_one (s : State) {c : SwCopy} {f : SwFrame} (hcopies : s.sw.copies = [c]) (hf : s.frameOf c = some f)
    (hended : f.ended = true) (hleft : c.crossed + 1 < cells f.len) (k : Nat) :
    s.moveCell (k, c.n) = { s with sw := { s.sw with
      next := s.sw.next + 1
      copies := [{ c with crossed := c.crossed + 1, turn := if c.crossed = 0 then s.sw.next else c.turn }] } } := by
  have hready : f.ready = cells f.len := by simp [SwFrame.ready, hended]
  have hlt : c.crossed < cells f.len := by omega
  have hne : ¬ c.crossed + 1 = cells f.len := by omega
  simp [State.moveCell, hcopies, hf, hready, hlt, hne, State.putCopy, State.setCopies]

/-! ### The cell time (R107) -/

/-- 51 ns have passed, and the shapers know it. -/
def State.cellTime (s : State) : State := (s.pass 51).shapersSync

theorem State.cellTime_frame (s : State) : Frame s s.cellTime [.sw, .now, .vt, .ptp] (fun _ => False) :=
  frame_of_blot_noRegs (by simp) (by simp [State.cellTime])

theorem State.setSw_frame (s : State) (x : SwState) : Frame s { s with sw := x } [.sw] (fun _ => False) := frame_of_blot_noRegs (by simp) (by simp)

/-- The heads of a switch that holds one copy. -/
theorem State.heads_one (s : State) {c : SwCopy} (h : s.sw.copies = [c]) : s.heads = if s.queued c then [c] else [] := by
  by_cases hq : s.queued c <;> simp [State.heads, h, hq, headsIn]

theorem State.queued_connected (s : State) (c : SwCopy) (h : s.connected c = true) : s.queued c = false := by simp [State.queued, h]

/-- A cell time in which the first iteration leaves no head to match. -/
theorem State.roundabout_eq (s : State) {v : State} (hinject : s.sw.inject = [])
    (hfits : ∀ c ∈ s.cellTime.heads, ∀ f, s.cellTime.frameOf c = some f → s.cellTime.fits f c.out (s.cellTime.longestOpen c.out c.tc) = true)
    (hmatch : s.cellTime.iterate true = v) (hv : v.heads = []) : s.roundabout [] = (forAll v.sw.conns State.moveCell v).shapersSync := by
  have hnone : s.cellTime.sw.inject = [] := (State.shapersSync_inject _).trans hinject
  unfold State.roundabout
  dsimp only
  rw [← State.cellTime, s.cellTime.injectAll_empty hnone, s.cellTime.dropOversize_fits _ hfits, hmatch]
  simp [forAll, v.iterate_noHeads false hv]

/-- What the cell time finds: the plan and registers, and all of the switch but the shapers, as they were. -/
theorem State.cellTime_sw (s : State) : s.cellTime.sw = { s.sw with shapers := s.cellTime.sw.shapers } := State.shapersSync_sw _
theorem State.cellTime_now (s : State) : s.cellTime.now = s.now + 51 := State.shapersSync_now _
theorem State.cellTime_plan (s : State) : s.cellTime.plan = s.plan := State.shapersSync_plan _
theorem State.cellTime_regs (s : State) : s.cellTime.regs = s.regs := State.shapersSync_regs _
theorem State.cellTime_frameOf (s : State) {f : SwFrame} {c : SwCopy} (hframes : s.sw.frames = [f]) (hcf : c.frame = f.id) :
    s.cellTime.frameOf c = some f := by
  rw [State.frameOf, s.cellTime_sw]
  simp [hframes, hcf]

/-- The state in which copy `c` has moved to its next cell. -/
def State.movedTo (s : State) (c : SwCopy) : State :=
  { s with sw := { s.sw with
    next := s.sw.next + 1
    copies := [{ c with crossed := c.crossed + 1, turn := if c.crossed = 0 then s.sw.next else c.turn }] } }

section
variable (s : State) {f : SwFrame} {c : SwCopy} (hcopies : s.sw.copies = [c]) (hframes : s.sw.frames = [f]) (hcf : c.frame = f.id)
  (hinject : s.sw.inject = []) (hended : f.ended = true)
include hcopies hframes hcf hinject hended

/-- A lone copy that is connected: its cell moves. -/
theorem State.roundabout_moves (hconns : s.sw.conns = [(c.inp, c.n)]) (hleft : c.crossed + 1 < cells f.len) :
    s.roundabout [] = (s.cellTime.movedTo c).shapersSync := by
  have hcopies' : s.cellTime.sw.copies = [c] := by rw [s.cellTime_sw]; exact hcopies
  have hconns' : s.cellTime.sw.conns = [(c.inp, c.n)] := by rw [s.cellTime_sw]; exact hconns
  have hheads : s.cellTime.heads = [] := by
    rw [s.cellTime.heads_one hcopies', s.cellTime.queued_connected c (by simp [State.connected, hconns'])]
    rfl
  have heq := s.roundabout_eq hinject (by simp [hheads]) (s.cellTime.iterate_noHeads true hheads) hheads
  rwa [hconns', forAll, forAll, s.cellTime.moveCell_one hcopies' (s.cellTime_frameOf hframes hcf) hended hleft c.inp] at heq

/-- A lone copy that is eligible: it is connected and starts. -/
theorem State.roundabout_connects (hconns : s.sw.conns = []) (hlong : 1 < cells f.len) (hjoined : c.joined = true) (hcrossed : c.crossed = 0)
    (hdone : c.done = false) (hcycle : s.gateCycle c.out = none) (hshaper : s.item2 0x0805 c.out c.tc = none) (hqueue : s.queueItem c.out c.tc = none)
    (hflush : s.sw.flushing = []) (hfits : s.fits f c.out neverCloses = true) (hinp : c.inp < 24) (hout : c.out < 24) (htc : c.tc < 8) :
    s.roundabout [] = ((s.cellTime.connectFirst c).movedTo c).shapersSync := by
  let u := s.cellTime
  have hplan : u.plan = s.plan := s.cellTime_plan
  have hcopies' : u.sw.copies = [c] := by simp only [u]; rw [s.cellTime_sw]; exact hcopies
  have hconns' : u.sw.conns = [] := by simp only [u]; rw [s.cellTime_sw]; exact hconns
  have hflush' : u.sw.flushing = [] := by simp only [u]; rw [s.cellTime_sw]; exact hflush
  have hframe : u.frameOf c = some f := s.cellTime_frameOf hframes hcf
  have hheads : u.heads = [c] := by
    rw [u.heads_one hcopies', State.queued, State.connected, hconns', hjoined, hcrossed, hdone]
    rfl
  have hcycle' : u.gateCycle c.out = none := (State.item_of_plan hplan _ _).trans hcycle
  have hfits' : u.fits f c.out neverCloses = true := (State.fits_congr hplan s.cellTime_regs _ _ _).trans hfits
  have hallFit : ∀ d ∈ u.heads, ∀ g, u.frameOf d = some g → u.fits g d.out (u.longestOpen d.out d.tc) = true := by
    intro d hd g hg
    rw [hheads, List.mem_singleton] at hd
    rw [hd, hframe, Option.some.injEq] at hg
    rw [hd, ← hg, u.longestOpen_noCycle _ _ hcycle', hfits']
  have helig := u.eligible_free hframe hcycle' ((State.item2_of_plan hplan _ _ _).trans hshaper) hflush' hfits' htc
  have hage := u.aged_noQueue f c.out c.tc ((State.item2_of_plan hplan _ _ _).trans hqueue)
  have hmatch := (u.iterate_oneHead true hheads hconns' helig hinp hout).trans (u.matched_first hheads hframe hage)
  have hkept : (u.connectFirst c).sw.copies = [c] := hcopies'
  have hconn : (u.connectFirst c).sw.conns = [(c.inp, c.n)] := by simp [State.connectFirst, hconns']
  have hnext : (u.connectFirst c).heads = [] := by
    rw [State.heads_one _ hkept, State.queued_connected _ c (by simp [State.connected, hconn])]
    rfl
  have heq := s.roundabout_eq hinject hallFit hmatch hnext
  rwa [hconn, forAll, forAll, (u.connectFirst c).moveCell_one hkept hframe hended (by omega) c.inp] at heq

end

theorem State.movedTo_frame (s : State) (c : SwCopy) : Frame s (s.movedTo c) [.sw] (fun _ => False) := s.setSw_frame _
theorem State.connectFirst_frame (s : State) (c : SwCopy) : Frame s (s.connectFirst c) [.sw] (fun _ => False) := s.setSw_frame _

end Sys2Proof.Machine
end

section
/-! SUPPORT. The egress ports (R98, R110, R111) and the age sweep (R125). -/

namespace Sys2Proof.Machine

/-! ### A port starts a frame (R98) -/

/-- The copy next in a port's FIFO is one of the port's copies. -/
theorem State.fifoHead_mem (s : State) {p : Nat} {c : SwCopy} (h : s.fifoHead p = some c) : c ∈ s.sw.copies ∧ c.out = p := by
  unfold State.fifoHead at h
  dsimp only at h
  split at h
  · simp at h
  · obtain ⟨hmem, hq⟩ := List.mem_filter.mp (List.mem_of_find?_eq_some h)
    simp only [Bool.and_eq_true, beq_iff_eq] at hq
    exact ⟨hmem, hq.1.1⟩

/-- The first that passes a test, where none did before one copy was put in its place. -/
theorem find?_putCopy {q : SwCopy → Bool} {c d : SwCopy} (hn : d.n = c.n) (hq : q d = true) (l : List SwCopy) (hnone : l.find? q = none) (hmem : c ∈ l) :
    (l.map (fun x => if x.n == d.n then d else x)).find? q = some d := by
  induction l with
  | nil => simp at hmem
  | cons x rest ih =>
    obtain ⟨hx, hrest⟩ := List.forall_mem_cons.mp (List.find?_eq_none.mp hnone)
    by_cases hxn : x.n = d.n
    · simp [hxn, hq]
    · have hc : c ∈ rest := (List.mem_cons.mp hmem).resolve_left fun h => hxn (by rw [← h, hn])
      simpa [hxn, hx] using ih (List.find?_eq_none.mpr hrest) hc

/-- Nothing holds the port back: the head of its FIFO starts. -/
theorem State.txStart_eq (s : State) {p : Nat} {c : SwCopy} {f : SwFrame} (hidle : s.sending p = none) (hhead : s.fifoHead p = some c)
    (hf : s.frameOf c = some f) (hup : s.linkUp p = true) (h21 : p ≠ 21) (h23 : p ≠ 23) (hflush : s.sw.flushing.contains p = false)
    (hhalf : halfDuplex p = false ∨ s.rx p = none) (hcurfew : s.curfewHolds p = false) (hdone : c.done = true) (hsec : s.macsecOn p = false) :
    s.txStart p = (s.shapersSync.putCopy { c with started := true, txAt := s.now }).shapersSync := by
  have hduplex : (halfDuplex p && (s.rx p).isSome) = false := by rcases hhalf with h | h <;> simp [h]
  have hplain : s.shapersSync.macsecOn p = false := by
    simpa only [State.macsecOn, State.flag, State.rd, State.shapersSync_reg] using hsec
  unfold State.txStart
  rw [hidle, hhead]
  dsimp only
  rw [hf]
  dsimp only
  rw [hup, hflush, hduplex, hcurfew, hdone, if_neg (by simp [h21, h23]), hplain, if_neg Bool.false_ne_true, s.shapersSync_now]

/-- The port then sends that copy. -/
theorem State.sending_started (s : State) {p : Nat} {c : SwCopy} (hidle : s.sending p = none) (hhead : s.fifoHead p = some c) (at_ : Nat) :
    (s.shapersSync.putCopy { c with started := true, txAt := at_ }).shapersSync.sending p = some { c with started := true, txAt := at_ } := by
  obtain ⟨hmem, hout⟩ := s.fifoHead_mem hhead
  rw [State.sending, State.shapersSync_copies]
  change (s.shapersSync.sw.copies.map _).find? _ = _
  rw [s.shapersSync_copies]
  exact find?_putCopy (c := c) (d := { c with started := true, txAt := at_ }) rfl (by simp [hout]) s.sw.copies hidle hmem

/-! ### A port finishes its frame (R98, R110) -/

/-- The time of the frame's last bit has been reached, and its bytes and FCS have been sent. -/
def State.onWire (s : State) (p : Nat) (out : List Byte) (fcs : Nat) (bad : Bool) (at_ : Nat) : State :=
  (s.shapersSync.reach at_).setSent p (out ++ leBytes 4 fcs) bad

theorem State.onWire_spec (s : State) (p : Nat) (out : List Byte) (fcs : Nat) (bad : Bool) (at_ : Nat) :
    tget (fun _ => (⟨[], false⟩ : SentFrame)) (s.onWire p out fcs bad at_).sw.sent p = ⟨out ++ leBytes 4 fcs, bad⟩ ∧
      at_ ≤ (s.onWire p out fcs bad at_).now ∧ Frame s (s.onWire p out fcs bad at_) [.sw, .now, .vt, .ptp] (fun _ => False) := by
  have hreach := s.shapersSync.reach_frame at_
  refine ⟨tget_tset_same (fun _ => (⟨[], false⟩ : SentFrame)) (s.shapersSync.reach at_).sw.sent p _, s.shapersSync.le_reach at_, ?_⟩
  exact (s.shapersSync_frame.widen (by simp)).trans ((hreach.widen (by simp)).trans ((State.setSw_frame _ _).widen (by simp)))

/-- A copy leaves Plaza, and with the last one its frame. -/
def State.leaves (s : State) (c : SwCopy) : State := (s.dropCopy c).sweepFrames

theorem State.leaves_inPlaza (s : State) (c : SwCopy) : InPlaza s (s.leaves c) := (s.dropCopy_inPlaza c).trans (State.sweepFrames_inPlaza _)

theorem State.leaves_copies (s : State) (c : SwCopy) : ∀ x ∈ (s.leaves c).sw.copies, x.n ≠ c.n := fun _ hx => (mem_dropCopy hx).2

/-- When a frame of `len` bytes that started at `start` ends on a port's wire. -/
abbrev wireEnd (p start len : Nat) : Nat := start + len * 8 * 1000000 / portRate p

/-- The port has sent the whole frame and its FCS; it is not counted yet. -/
def State.sentWhole (s : State) (p : Nat) (c : SwCopy) (f : SwFrame) : State :=
  s.onWire p (s.wireBytes c f) (crc32 (s.wireBytes c f)) false (wireEnd p c.txAt ((s.wireBytes c f).length + 4))

/-- A good frame goes out whole with its FCS. -/
theorem State.txFinish_good (s : State) {p : Nat} {c : SwCopy} {f : SwFrame} (hsend : s.sending p = some c) (hf : s.frameOf c = some f)
    (heth : isEthernet p = true) (hflush : s.sw.flushing.contains p = false) (hdone : c.done = true) (hgood : f.bad = false) :
    s.txFinish p = (((s.sentWhole p c f).traffic p 2 ((s.wireBytes c f).length + 4)).leaves c).shapersSync := by
  unfold State.txFinish
  rw [hsend]
  dsimp only
  rw [hflush, if_neg Bool.false_ne_true, hf]
  dsimp only
  rw [hgood, hdone, heth, State.wireBytes_of_plan s.shapersSync_plan]
  rfl

theorem State.cutBytes_shapersSync (s : State) (c : SwCopy) (f : SwFrame) : s.shapersSync.cutBytes c f = s.cutBytes c f := by
  have hmax : s.shapersSync.maxLen f.inp = s.maxLen f.inp := by simp only [State.maxLen, State.rd, State.shapersSync_reg]
  unfold State.cutBytes
  dsimp only
  rw [hmax, State.rawBytes_of_plan s.shapersSync_plan]

/-- A frame that its port has run out of has proved bad. -/
def State.runEmpty (s : State) (c : SwCopy) : State :=
  match s.frameOf c with
  | some f => s.badFrame f
  | none => s

theorem State.runEmpty_inPlaza (s : State) (c : SwCopy) : InPlaza s (s.runEmpty c) := by
  unfold State.runEmpty
  split
  · exact s.badFrame_inPlaza _
  · exact .refl s

theorem State.runEmpty_numbers (s : State) (c : SwCopy) : ∀ y ∈ (s.runEmpty c).sw.copies, ∃ x ∈ s.sw.copies, x.n = y.n := by
  unfold State.runEmpty
  split
  · exact s.badFrame_numbers _
  · exact fun y hy => ⟨y, hy, rfl⟩

/-- The port has sent the frame cut and stomped, and counts it; the copy has not left yet. -/
def State.stomped (s : State) (p : Nat) (c : SwCopy) (f : SwFrame) : State :=
  ((s.onWire p (s.cutBytes c f) (crc32 (s.cutBytes c f) ^^^ 0xFFFFFFFF) true (wireEnd p c.txAt ((s.cutBytes c f).length + 4))).traffic p 2
    ((s.cutBytes c f).length + 4)).swEvent p 11

/-- A bad frame, or one whose FIFO has run empty, goes out cut and stomped. -/
theorem State.txFinish_bad (s : State) {p : Nat} {c : SwCopy} {f : SwFrame} (hsend : s.sending p = some c) (hf : s.frameOf c = some f)
    (heth : isEthernet p = true) (hflush : s.sw.flushing.contains p = false) (hbad : f.bad = true ∨ c.done = false) :
    s.txFinish p = (if f.bad || c.done then (s.stomped p c f).leaves c else ((s.stomped p c f).leaves c).runEmpty c).shapersSync := by
  have hcut : (f.bad || !c.done) = true := by rcases hbad with h | h <;> simp [h]
  unfold State.txFinish
  rw [hsend]
  dsimp only
  rw [hflush, if_neg Bool.false_ne_true, hf]
  dsimp only
  rw [hcut, heth, s.cutBytes_shapersSync]
  simp only [if_true]
  rfl

theorem State.stomped_spec (s : State) {p : Nat} (hp : p < 24) (c : SwCopy) (f : SwFrame) :
    tget (fun _ => (⟨[], false⟩ : SentFrame)) (s.stomped p c f).sw.sent p =
        ⟨s.cutBytes c f ++ leBytes 4 (crc32 (s.cutBytes c f) ^^^ 0xFFFFFFFF), true⟩ ∧
      Counted s (s.stomped p c f) (Rg.SW_EVENT p 11) ∧
      Frame s (s.stomped p c f) [.sw, .now, .vt, .ptp, .regs, .ic] (fun _ => True) := by
  let out := s.cutBytes c f
  let t := s.onWire p out (crc32 out ^^^ 0xFFFFFFFF) true (wireEnd p c.txAt (out.length + 4))
  obtain ⟨hsent, -, hwire⟩ := s.onWire_spec p out (crc32 out ^^^ 0xFFFFFFFF) true (wireEnd p c.txAt (out.length + 4))
  have htraffic := t.traffic_frame p 2 (out.length + 4)
  have hevent := (t.traffic p 2 (out.length + 4)).swEvent_frame p 11
  have hsw : (s.stomped p c f).sw = t.sw := (hevent.same .sw (by simp)).trans (htraffic.same .sw (by simp))
  have hne : ¬ trafficRegs p 2 (Rg.SW_EVENT p 11) := by
    unfold trafficRegs Rg.SW_EVENT Rg.SQ_PORT_SAT Rg.SQ_TRAFFIC_LO
    omega
  refine ⟨by rw [hsw]; exact hsent, ?_, ?_⟩
  · exact Counted.of_reg ((t.traffic p 2 (out.length + 4)).swEvent_counted hp (by decide)) ((htraffic.reg hne).trans (hwire.reg not_false)) rfl
  · exact (hwire.mono (by simp) fun _ _ => trivial).trans ((htraffic.mono (by simp) fun _ _ => trivial).trans
      (hevent.mono (by simp) fun _ _ => trivial))

/-- The copy leaves, and where its FIFO ran empty the rest of the frame is bad: in Plaza, and the copy does not come back. -/
theorem State.stomped_leaves (s : State) (c : SwCopy) (b : Bool) :
    InPlaza s (if b then s.leaves c else (s.leaves c).runEmpty c) ∧
      ∀ x ∈ (if b then s.leaves c else (s.leaves c).runEmpty c).sw.copies, x.n ≠ c.n := by
  refine ⟨.ite (s.leaves_inPlaza c) ((s.leaves_inPlaza c).trans (State.runEmpty_inPlaza _ c)), ?_⟩
  split
  · exact s.leaves_copies c
  · intro x hx
    obtain ⟨y, hy, hyx⟩ := State.runEmpty_numbers _ c x hx
    exact hyx ▸ s.leaves_copies c y hy

/-! ### The age sweep (R125) -/

theorem headsIn_subset (l : List SwCopy) : headsIn l ⊆ l := by
  unfold headsIn
  refine List.foldlRecOn (motive := fun hs => hs ⊆ l) l _ (List.nil_subset l) fun hs hsub c hc => ?_
  split
  · exact hsub
  · exact List.append_subset.mpr ⟨hsub, by simpa using hc⟩

theorem State.mem_heads {s : State} {c : SwCopy} (h : c ∈ s.heads) : c ∈ s.sw.copies := (List.mem_filter.mp (headsIn_subset _ h)).1

/-- No head of a virtual output queue is too old. -/
def State.Young (s : State) : Prop := ∀ c ∈ s.heads, ∀ f ∈ (s.frameOf c).toList, s.aged f c.out c.tc = false

/-- A head discarded for its age. -/
def State.ageOut (s : State) (c : SwCopy) : State := ((s.dropCopy c).qEvent c.out c.tc 1).sweepFrames

theorem State.ageOut_inPlaza (s : State) (c : SwCopy) : InPlaza s (s.ageOut c) :=
  ((s.dropCopy_inPlaza c).trans (State.qEvent_inPlaza _ _ _ _)).trans (State.sweepFrames_inPlaza _)

/-- Each copy discarded leaves fewer. -/
theorem State.ageOut_shorter (s : State) {c : SwCopy} (h : c ∈ s.sw.copies) : (s.ageOut c).sw.copies.length < s.sw.copies.length := by
  have hcopies : (s.ageOut c).sw.copies = s.sw.copies.filter (fun x => x.n != c.n) :=
    (congrArg SwState.copies (((s.dropCopy c).qEvent_frame c.out c.tc 1).same .sw (by simp))).trans (s.dropCopy_copies c)
  rw [hcopies]
  exact List.length_filter_lt_length_iff_exists.mpr ⟨c, h, by simp⟩

/-- As many rounds as there are copies, and one, leave no head that is too old. -/
theorem State.ageHeads_spec (s : State) (fuel : Nat) (h : s.sw.copies.length < fuel) : (s.ageHeads fuel).Young ∧ InPlaza s (s.ageHeads fuel) := by
  induction fuel generalizing s with
  | zero => omega
  | succ fuel ih =>
    unfold State.ageHeads
    split
    · next hnone =>
      refine ⟨fun c hc f hf => ?_, .refl s⟩
      have hyoung := List.find?_eq_none.mp hnone c hc
      rw [Option.mem_toList.mp hf] at hyoung
      simpa using hyoung
    · next c hc =>
      have hshorter := s.ageOut_shorter (State.mem_heads (List.mem_of_find?_eq_some hc))
      obtain ⟨hyoung, hplaza⟩ := ih (s.ageOut c) (by omega)
      exact ⟨hyoung, (s.ageOut_inPlaza c).trans hplaza⟩

/-- Youth does not depend on the shapers. -/
theorem State.Young.shapersSync {s : State} (h : s.Young) : s.shapersSync.Young := by
  obtain ⟨x, hx⟩ := s.shapersSync_eq
  rw [hx]
  exact h

end Sys2Proof.Machine
end

section
/-! SUPPORT. The frames obligation (R97 to R99, R107, R110, R124, R129). -/

namespace Sys2Proof.Machine

/-- Settles O8: received frames by what is tallied, kept and decided; the end of one decided early by what settles its copies; one cell time
of Roundabout, the egress ports and the age sweep by the equation of each. -/
theorem switchFrames : Obligations.SwitchFrames := by
  unfold Obligations.SwitchFrames
  refine ⟨?bad, ?injector, ?good, ?notMember, ?begins, ?endUndecided, ?endDecided, ?moves, ?connects, ?starts, ?sent, ?stomped, ?sweep⟩
  case bad =>
    intro s p data ago err set hfree h
    have heq := exec_forwardingDecision_frameIn s p data err ⟨ago, set⟩ hfree (.inr h)
    rw [State.frameIn_bad _ _ _ _ _ h] at heq
    obtain ⟨hcount, hcopies, hframes, hfdb, hframe⟩ := s.tallied_spec (p := p.val) (c := 3) data.length p.isLt (by decide)
    exact ⟨s.tallied p.val data.length 3, heq, hcount, hcopies, hframes, hfdb, hframe.mono (by simp) fun a ha => or_assoc.mp ha⟩
  case injector =>
    intro s p data ago set hfree hp hlen
    exact ⟨_, exec_forwardingDecision_injector s p data ⟨ago, set⟩ hfree hp hlen, rfl, rfl, rfl, s.setSw_frame _⟩
  case good =>
    intro s p data ago set hfree h18 h19 hlen hfcs hsec
    rw [exec_forwardingDecision_frameIn s p data false ⟨ago, set⟩ hfree (.inl ⟨h18, h19⟩),
      State.frameIn_good _ p.isLt data _ hlen hfcs ((s.shapersSync_inPlaza.macsecOn p.isLt).trans hsec)]
  case notMember =>
    intro s p data ago vid set hfree h18 h19 hlen hfcs hsec hcurfew hunderpass hmax hvid hzero hall hmember
    have hplaza := s.shapersSync_inPlaza.trans (State.traffic_inPlaza _ p.val 0 data.length)
    have heq := exec_forwardingDecision_frameIn s p data false ⟨ago, set⟩ hfree (.inl ⟨h18, h19⟩)
    rw [State.frameIn_good _ p.isLt data _ hlen hfcs ((s.shapersSync_inPlaza.macsecOn p.isLt).trans hsec),
      State.forward_notMember _ p.val _ _ _ vid ((State.parse_vid_of_plan hplaza.plan _ _ _ _ _ _).trans hvid.symm) hcurfew hunderpass
        (by rw [hplaza.maxLen p.isLt]; exact hmax) hzero hall (by rw [State.members_of_plan hplaza.plan]; exact hmember)] at heq
    obtain ⟨hcount, hcopies, hframes, hfdb, -⟩ := s.tallied_spec (p := p.val) (c := 0) data.length p.isLt (by decide)
    exact ⟨s.tallied p.val data.length 0, heq, hcount, hcopies, hframes, hfdb⟩
  case begins =>
    intro s p data ago err set hfree hlen
    have heq := exec_forwardingDecision_begins s p data err ⟨ago, set⟩ hfree
    rw [State.frameBegins_short _ _ _ _ _ hlen] at heq
    refine ⟨_, heq, ?_, ?_, ?_, ?_⟩
    · rw [State.shapersSync_rx, State.setRx_rx]
    · rw [State.shapersSync_frames]
      exact s.shapersSync_frames
    · rw [State.shapersSync_copies]
      exact s.shapersSync_copies
    · exact (s.shapersSync_frame.trans (State.setRx_frame _ _ _)).trans (State.shapersSync_frame _)
  case endUndecided =>
    intro s p rest err x hx hdec
    exact congrArg Host.Outcome.next (s.frameEnd_undecided p.val rest err hx hdec)
  case endDecided =>
    intro s p rest err x f hx hdec hf
    obtain ⟨hplaza, hended⟩ := (((s.shapersSync.setRx p.val none).traffic p.val 0 (x.got ++ rest).length).meterEnd x.meter
      (x.got ++ rest).length).earlyEnd_spec p.val f (x.got ++ rest) err
    have hafter := (((State.traffic_inPlaza _ p.val 0 (x.got ++ rest).length).trans
      (State.meterEnd_inPlaza _ x.meter (x.got ++ rest).length)).trans hplaza).trans (State.shapersSync_inPlaza _)
    have hbefore := s.shapersSync_frame.trans (s.shapersSync.setRx_frame p.val none)
    exact ⟨_, congrArg Host.Outcome.next (s.frameEnd_decided p.val rest err hx hdec hf), (hafter.rx p.val).trans (State.setRx_rx _ _ _),
      hended.shapersSync.1, hended.shapersSync.2, hafter.mem.trans (hbefore.same .mem (by simp)), hafter.otp.trans (hbefore.same .otp (by simp)),
      hafter.plan.trans (hbefore.same .plan (by simp)), hafter.pending.trans hbefore.1⟩
  case moves =>
    intro s f c hcopies hframes hcf hconns hinject hended hleft
    have heq := s.roundabout_moves hcopies hframes hcf hinject hended hconns hleft
    refine ⟨_, congrArg Host.Outcome.next heq, (State.shapersSync_now _).trans s.cellTime_now, ?_, ?_, ?_, ?_⟩
    · rw [State.shapersSync_copies, State.movedTo, s.cellTime_sw]
    · rw [State.shapersSync_conns, State.movedTo, s.cellTime_sw]
    · rw [State.shapersSync_frames, State.movedTo, s.cellTime_sw]
    · exact s.cellTime_frame.trans (((State.movedTo_frame _ _).trans (State.shapersSync_frame _)).widen (by simp))
  case connects =>
    intro s f c hcopies hframes hcf hconns hinject hended hlong hjoined hcrossed hdone hcycle hshaper hqueue hflush hfits hinp hout htc
    have heq := s.roundabout_connects hcopies hframes hcf hinject hended hconns hlong hjoined hcrossed hdone hcycle hshaper hqueue hflush hfits
      hinp hout htc
    refine ⟨_, congrArg Host.Outcome.next heq, (State.shapersSync_now _).trans s.cellTime_now, ?_, ?_, ?_, ?_, ?_⟩
    · rw [State.shapersSync_conns, State.movedTo, State.connectFirst, s.cellTime_sw]
      simp [hconns]
    · rw [State.shapersSync_copies, State.movedTo, State.connectFirst, s.cellTime_sw]
      simp [hcrossed]
    · rw [State.grantPtr, State.shapersSync_grant]
      exact tget_tset_same (fun _ => 0) _ _ _
    · rw [State.acceptPtr, State.shapersSync_accept]
      exact tget_tset_same (fun _ => 0) _ _ _
    · exact s.cellTime_frame.trans ((((State.connectFirst_frame _ _).trans (State.movedTo_frame _ _)).trans (State.shapersSync_frame _)).widen
        (by simp))
  case starts =>
    intro s p c f hidle hhead hf hup h21 h23 hflush hhalf hcurfew hdone hsec
    have heq := s.txStart_eq hidle hhead hf hup h21 h23 hflush hhalf hcurfew hdone hsec
    refine ⟨_, congrArg Host.Outcome.next heq, s.sending_started hidle hhead s.now, ?_, ?_⟩
    · rw [State.shapersSync_frames]
      exact s.shapersSync_frames
    · exact (s.shapersSync_frame.trans (State.setSw_frame _ _)).trans (State.shapersSync_frame _)
  case sent =>
    intro s p c f hsend hf heth hflush hdone hgood
    obtain ⟨hsent, hwhen, hframe⟩ := s.onWire_spec p.val (s.wireBytes c f) (crc32 (s.wireBytes c f)) false
      (wireEnd p.val c.txAt ((s.wireBytes c f).length + 4))
    have hplaza := (((s.sentWhole p.val c f).traffic_inPlaza p.val 2 ((s.wireBytes c f).length + 4)).trans (State.leaves_inPlaza _ c)).trans
      (State.shapersSync_inPlaza _)
    refine ⟨_, congrArg Host.Outcome.next (s.txFinish_good hsend hf heth hflush hdone hgood), ?_, ?_, ?_, hplaza.mem.trans (hframe.same .mem (by simp)),
      hplaza.otp.trans (hframe.same .otp (by simp)), hplaza.plan.trans (hframe.same .plan (by simp))⟩
    · rw [hplaza.sent]
      exact hsent
    · rw [State.shapersSync_copies]
      exact State.leaves_copies _ c
    · rw [hplaza.now]
      exact hwhen
  case stomped =>
    intro s p c f hsend hf heth hflush hbad
    obtain ⟨hsent, hcount, hframe⟩ := s.stomped_spec p.isLt c f
    obtain ⟨hleaves, hgone⟩ := (s.stomped p.val c f).stomped_leaves c (f.bad || c.done)
    have hplaza := hleaves.trans (State.shapersSync_inPlaza _)
    refine ⟨_, congrArg Host.Outcome.next (s.txFinish_bad hsend hf heth hflush hbad), ?_, ?_, ?_, hplaza.mem.trans (hframe.same .mem (by simp)),
      hplaza.otp.trans (hframe.same .otp (by simp)), hplaza.plan.trans (hframe.same .plan (by simp))⟩
    · rw [hplaza.sent]
      exact hsent
    · rw [State.shapersSync_copies]
      exact hgone
    · exact Counted.of_reg hcount rfl (hplaza.frame.reg fun h => h.2 p.val p.isLt rfl)
  case sweep =>
    intro s
    obtain ⟨hyoung, hplaza⟩ := s.shapersSync.ageHeads_spec (s.sw.copies.length + 1) (by rw [s.shapersSync_copies]; omega)
    have hall := (s.shapersSync_inPlaza.trans hplaza).trans (State.shapersSync_inPlaza _)
    exact ⟨_, rfl, hyoung.shapersSync, hall.vt, hall.mem, hall.otp, hall.plan, hall.pending⟩

end Sys2Proof.Machine
end

section
/-! SUPPORT. A frame at the gateway port whose egress class no queue has (R120, R141): the release of its charge goes to a register that counts
events. -/

namespace Sys2Proof.Machine

/-- A class so far past the eight of port GWY (21) that its occupancy register is the gateway's UNSUPPORTED counter. -/
def farClass : Nat := (Rg.CAN_GWY_EVENT 1 - (Fd.SQ_Q_OCC_OCC 21 0).addr) / 4

/-- A good frame, without a payload and so of another kind than NTSCF. -/
def otherFrame : SwFrame := ⟨1, 2, 0, 0, false, 0, 0, 1, [], 12, 64, [], 0, true, false, none, none, none⟩

/-- Its copy has crossed to GWY, in that class and charged with one cell. -/
def farCopy : SwCopy := ⟨2, 1, 2, 21, farClass, 0, 1, false, true, 1, 0, true, false, 0, 0, none⟩

/-- The copy waits at GWY, and one frame has been counted as UNSUPPORTED before. -/
def gwyHoldsFarCopy : State :=
  { State.reset.setReg (Rg.CAN_GWY_EVENT 1) 1 with sw := { SwState.reset with frames := [otherFrame], copies := [farCopy] } }

/-- Releasing the copy's cell takes the counter back to 0, and the frame then counts as the first. -/
theorem gwyEvent_of_farCopy {t : State} (h : exec .gwyNtscfReceive gwyHoldsFarCopy = .next t) : t.reg (Rg.CAN_GWY_EVENT 1) = 1 := by
  injection h with h
  rw [← h]
  decide

/-- Refutes O10: its clause for a frame of another kind does not bound the class of the copy. The occupancy registers of the eight classes lie far
below CAN_GWY_EVENT, but a state whose copy carries class 57053 meets the clause's conditions, though no frame enters Plaza with it, and there the
charge that the frame releases (R120) is written over the counter that the same command then advances. -/
theorem not_switchTime : ¬ Obligations.SwitchTime := by
  unfold Obligations.SwitchTime
  rintro ⟨-, -, -, -, -, -, -, -, -, -, -, -, hunsupported, -⟩
  obtain ⟨t, hexec, hcounted, -⟩ := hunsupported gwyHoldsFarCopy farCopy otherFrame (by decide) (by decide) rfl rfl (by decide)
  have hbefore : gwyHoldsFarCopy.reg (Rg.CAN_GWY_EVENT 1) = 1 := by decide
  have hafter : t.reg (Rg.CAN_GWY_EVENT 1) = 1 := gwyEvent_of_farCopy hexec
  rw [Counted, hafter, hbefore] at hcounted
  revert hcounted
  decide

end Sys2Proof.Machine
end

section
/-! SUPPORT. A display's frame start with a view whose CAM names no camera (R181, R204): the camera registers are addressed by that number. -/

namespace Sys2Proof.Machine

/-- A camera number so far past the four that its fault register is NM_TRX_CTRL of channel 0, whose bit 7, FEC_WAKE, reads 1 after reset. -/
def farCamera : Nat := (Rg.NM_TRX_CTRL 0 - Rg.SF_CAM_FAULT 0) / 4

/-- The register in which the faults of that camera count: a reserved word of the page of NM. -/
def farFaults : Nat := Rg.SF_INTEG_EVENT (20 + farCamera)

/-- Display 0 in its first frame, with one view, of that camera, and no overlay. -/
def displayOfFarCamera : State :=
  { State.reset with
    dev := .active
    plan := [⟨11, 0, 0x0B02, [0, 60, 8, 160, 1100]⟩, ⟨11, 1, 0x0B03, [0, 0, farCamera, 0, 0, 0, 4, 4, 100]⟩]
    sf := { SfState.reset with dsp := [(0, { Dsp.reset with k := some 0 })] } }

/-- The frame start takes the transceiver's bit for the fault of the view's camera and counts it. -/
theorem displayOfFarCamera_counts {t : State} (h : exec (.displayFrameStart 0) displayOfFarCamera = .next t) : t.reg farFaults = 1 := by
  injection h with h
  rw [← h]
  decide

/-- Refutes O16: its clause for a frame start confines the registers that change to Shopfront's page, but does not bound the CAM of the VIEW
items. No plan that passes the checks names a fifth camera, but a state whose plan does meets the clause's conditions, and there the
fault of the view's camera (R204) is read from, and counted in, registers of another block's page. -/
theorem not_displayIntegrity : ¬ Obligations.DisplayIntegrity := by
  unfold Obligations.DisplayIntegrity
  rintro ⟨hstart, -⟩
  obtain ⟨t, hexec, -, -, -, -, -, -, -, -, -, -, -, hframe⟩ := hstart displayOfFarCamera 0 0 (by decide) (by decide) (by decide) (by decide)
  have hbefore : displayOfFarCamera.reg farFaults = 0 := by decide
  have hafter : t.reg farFaults = 1 := displayOfFarCamera_counts hexec
  have hout : ¬ (0x200A0000 ≤ farFaults ∧ farFaults < 0x200B0000) := by decide
  rw [(hframe (by decide)).reg hout, hbefore] at hafter
  exact absurd hafter (by decide)

end Sys2Proof.Machine
end

section
/-! SUPPORT. A map that fails its checks, of a MAP_SWAP that carries LATE (R65, R192). -/

namespace Sys2Proof.Machine

/-- A MAP_SWAP that waits, and has been found late. -/
def lateMapSwap : Cmd := ⟨0, 0, 2, 0, 0, 0, [], .waiting, false, true, 0, 0⟩

/-- It swaps the map of view 0 for one of no bytes, which fails as MAP_FORMAT. -/
def swapsLate : State :=
  { State.reset with
    dev := .active
    ep := { EpState.reset with inflight := [lateMapSwap] }
    sf := { SfState.reset with view := [(0, { SView.reset with swap := some ⟨⟨0, 0⟩, 64, 0, false, []⟩ })] } }

/-- FLAGS of the record: PHASE and LATE. -/
theorem swapsLate_flags {t : State} (h : exec (.mapSwapFetched 0 0) swapsLate = .next t) : (t.bytes (recordAt swapsLate lateMapSwap) 16)[5]? = some 5 := by
  injection h with h
  rw [← h]
  decide

/-- Refutes O17: its clause for a map that fails gives the record without LATE, but does not say that the command carries none. A VIEW command
is never TIMED (R60), so none that passes is late, but a state whose MAP_SWAP is meets the clause's conditions, and its record keeps LATE
(Table 03-5). -/
theorem not_viewCommands : ¬ Obligations.ViewCommands := by
  unfold Obligations.ViewCommands
  rintro ⟨-, -, -, -, -, hfails, -⟩
  obtain ⟨t, hexec, -, -, -, -, ⟨-, -, hrecord⟩, -⟩ := hfails swapsLate 0 0 ⟨⟨0, 0⟩, 64, 0, false, []⟩ lateMapSwap Code.MAP_FORMAT 0xFFFF
    (by decide) (by decide) rfl (by decide) rfl (by decide) (by decide)
  have hflags := swapsLate_flags hexec
  rw [hrecord] at hflags
  revert hflags
  decide

end Sys2Proof.Machine
end

section
/-! SUPPORT. Fields of a register that share no bit, and Shopfront's cameras (chapter 08) as rules: what a camera's fault, its loss of lock and
the end of its frame leave, and that they concern no other camera, view, plane or display. -/

namespace Sys2Proof.Machine

/-! ### Fields beside each other -/

/-- The field's bits are in order and within the word. -/
def Fld.sound (f : Fld) : Bool := decide (f.lo ≤ f.hi) && decide (f.hi ≤ 31)

/-- The field `g` of the same register shares no bit with `f`. -/
def Fld.beside (f g : Fld) : Bool := f.sound && (decide (g.hi < f.lo) || decide (f.hi < g.lo))

theorem Fld.beside_of_lt {f g : Fld} (hf : f.sound = true) (h : g.hi < f.lo) : f.beside g = true := by simp [Fld.beside, hf, h]

theorem Fld.sound_iff (f : Fld) : f.sound = true ↔ f.lo ≤ f.hi ∧ f.hi ≤ 31 := by simp [Fld.sound]

theorem rd_wr_self (s : State) (f : Fld) (v : Nat) (h : f.sound = true) : (s.wr f v).rd f = v % 2 ^ (f.hi + 1 - f.lo) :=
  have hf := f.sound_iff.mp h
  rd_wr_same s f v hf.1 hf.2

theorem rd_wr_beside (s : State) (f g : Fld) (v : Nat) (ha : g.addr = f.addr) (h : f.beside g = true) : (s.wr f v).rd g = s.rd g := by
  simp only [Fld.beside, Bool.and_eq_true, Bool.or_eq_true, decide_eq_true_eq, Fld.sound_iff] at h
  exact rd_wr_apart s f g v ha h.1.1 h.1.2 h.2

theorem flag_wr_beside (s : State) (f g : Fld) (v : Nat) (ha : g.addr = f.addr) (h : f.beside g = true) : (s.wr f v).flag g = s.flag g := by
  rw [State.flag, rd_wr_beside s f g v ha h, State.flag]

/-- Registers that are the same give the same fields. -/
theorem rd_congr {s t : State} {f : Fld} (h : t.reg f.addr = s.reg f.addr) : t.rd f = s.rd f := by rw [State.rd, h, State.rd]
theorem flag_congr {s t : State} {f : Fld} (h : t.reg f.addr = s.reg f.addr) : t.flag f = s.flag f := by rw [State.flag, rd_congr h, State.flag]

/-! ### Shopfront's state -/

theorem State.camera_congr {s t : State} (h : t.sf = s.sf) (c : Nat) : t.camera c = s.camera c := by rw [State.camera, h, State.camera]

theorem State.setCam_frame (s : State) (c : Nat) (x : Cam) : Frame s (s.setCam c x) [.sf] (fun _ => False) :=
  frame_of_blot_noRegs (by simp) (by simp)

theorem State.setLine_frame (s : State) (key : Nat) (l : CamLine) : Frame s (s.setLine key l) [.sf] (fun _ => False) :=
  frame_of_blot_noRegs (by simp) (by simp)

theorem State.camLevel_frame (s : State) (c : Nat) : Frame s (s.camLevel c) [.ic] (fun _ => False) := s.level_frame _ _

theorem State.pass_frame (s : State) (d : Nat) : Frame s (s.pass d) [.now, .vt, .ptp] (fun _ => False) :=
  frame_of_blot_noRegs (by simp) (by simp)

theorem State.reachVt_frame (s : State) (t : Nat) : Frame s (s.reachVt t) [.now, .vt, .ptp] (fun _ => False) :=
  frame_of_blot_noRegs (by simp) (by simp)

theorem State.le_reachVt (s : State) (t : Nat) : t ≤ (s.reachVt t).vt := by
  unfold State.reachVt
  dsimp only
  split
  · exact Nat.le_refl t
  · next h => exact Nat.le_of_not_lt h

theorem camStatus_ne_camFault (c : Nat) : Rg.SF_CAM_STATUS c ≠ Rg.SF_CAM_FAULT c := by
  unfold Rg.SF_CAM_STATUS Rg.SF_CAM_FAULT
  omega

/-! ### An operation on one camera -/

/-- What a camera's faults and the ends of its frames keep: the ring and the counts of lines, and all that belongs to another camera, a view, a
plane or a display. -/
structure CamOp (s t : State) (c : Nat) : Prop where
  only : OnlyCam s t c
  lines : t.sf.lines = s.sf.lines
  n : (t.camera c).n = (s.camera c).n
  line : (t.camera c).line = (s.camera c).line

theorem CamOp.of_sf {s t : State} (h : t.sf = s.sf) (c : Nat) : CamOp s t c :=
  ⟨⟨fun k _ => State.camera_congr h k, by rw [h], by rw [h], by rw [h]⟩, by rw [h], by rw [State.camera_congr h], by rw [State.camera_congr h]⟩

theorem CamOp.of_frame {s t : State} {parts : List Piece} {regs : Nat → Prop} (h : Frame s t parts regs) (hp : .sf ∉ parts) (c : Nat) : CamOp s t c :=
  .of_sf (h.same .sf hp) c

theorem CamOp.trans {s t u : State} {c : Nat} (h : CamOp s t c) (k : CamOp t u c) : CamOp s u c := by
  obtain ⟨⟨hcam, hview, hplane, hdsp⟩, hlines, hn, hline⟩ := h
  obtain ⟨⟨kcam, kview, kplane, kdsp⟩, klines, kn, kline⟩ := k
  exact ⟨⟨fun j hj => (kcam j hj).trans (hcam j hj), kview.trans hview, kplane.trans hplane, kdsp.trans hdsp⟩, klines.trans hlines, kn.trans hn,
    kline.trans hline⟩

theorem onlyCam_trans {s t u : State} {c : Nat} (h : OnlyCam s t c) (k : OnlyCam t u c) : OnlyCam s u c := by
  obtain ⟨hcam, hview, hplane, hdsp⟩ := h
  obtain ⟨kcam, kview, kplane, kdsp⟩ := k
  exact ⟨fun j hj => (kcam j hj).trans (hcam j hj), kview.trans hview, kplane.trans hplane, kdsp.trans hdsp⟩

theorem State.setCam_onlyCam (s : State) (c : Nat) (x : Cam) : OnlyCam s (s.setCam c x) c :=
  ⟨fun k hk => s.setCam_camera_ne c x k hk, rfl, rfl, rfl⟩

theorem State.setCam_camOp (s : State) (c : Nat) (x : Cam) (hn : x.n = (s.camera c).n) (hline : x.line = (s.camera c).line) :
    CamOp s (s.setCam c x) c :=
  ⟨s.setCam_onlyCam c x, rfl, by rw [s.setCam_camera_same, hn], by rw [s.setCam_camera_same, hline]⟩

/-! ### Faults (R202, R204) -/

/-- The camera after a fault that finds FAULT as `again`: a new fault is yet to be counted. -/
def Cam.faulted (x : Cam) (again : Bool) : Cam := { x with counted := x.counted && again }

theorem camFaulted_of_reg {t u : State} {c b code : Nat} (hr : u.reg (Rg.SF_CAM_FAULT c) = t.reg (Rg.SF_CAM_FAULT c)) (h : CamFaulted t c b code) :
    CamFaulted u c b code := by
  obtain ⟨hbit, hfault, hcode, hgood⟩ := h
  exact ⟨(flag_congr hr).trans hbit, (flag_congr hr).trans hfault, (rd_congr hr).trans hcode, (rd_congr hr).trans hgood⟩

/-- SF_CAM_FAULT as a fault of the cause of bit `bit` leaves it. -/
def State.faultShown (s : State) (c bit code : Nat) : State :=
  (((s.wr (bitOf (Rg.SF_CAM_FAULT c) bit) 1).wr (Fd.SF_CAM_FAULT_CODE c) code).wr (Fd.SF_CAM_FAULT_FAULT c) 1).wr (Fd.SF_CAM_FAULT_GOOD c) 0

theorem State.faultShown_frame (s : State) (c bit code : Nat) : Frame s (s.faultShown c bit code) [.regs] (fun a => a = Rg.SF_CAM_FAULT c) :=
  (((s.wr_frame (bitOf (Rg.SF_CAM_FAULT c) bit) 1).trans (State.wr_frame _ (Fd.SF_CAM_FAULT_CODE c) code)).trans
    (State.wr_frame _ (Fd.SF_CAM_FAULT_FAULT c) 1)).trans (State.wr_frame _ (Fd.SF_CAM_FAULT_GOOD c) 0)

theorem State.faultShown_faulted (s : State) {c bit code : Nat} (hbit : bit ≤ 5) (hcode : code < 65536) :
    CamFaulted (s.faultShown c bit code) c bit code := by
  unfold State.faultShown
  refine ⟨?bit, ?fault, ?code, rd_wr_self _ (Fd.SF_CAM_FAULT_GOOD c) 0 rfl⟩
  case bit =>
    rw [flag_wr_beside _ (Fd.SF_CAM_FAULT_GOOD c) (bitOf (Rg.SF_CAM_FAULT c) bit) _ rfl (Fld.beside_of_lt rfl (show bit < 8 by omega)),
      flag_wr_beside _ (Fd.SF_CAM_FAULT_FAULT c) (bitOf (Rg.SF_CAM_FAULT c) bit) _ rfl (Fld.beside_of_lt rfl (show bit < 7 by omega)),
      flag_wr_beside _ (Fd.SF_CAM_FAULT_CODE c) (bitOf (Rg.SF_CAM_FAULT c) bit) _ rfl (Fld.beside_of_lt rfl (show bit < 16 by omega))]
    exact flag_wr_one s (bitOf (Rg.SF_CAM_FAULT c) bit) rfl (show bit ≤ 31 by omega)
  case fault =>
    rw [flag_wr_beside _ (Fd.SF_CAM_FAULT_GOOD c) (Fd.SF_CAM_FAULT_FAULT c) _ rfl rfl]
    exact flag_wr_one _ (Fd.SF_CAM_FAULT_FAULT c) rfl (by show 7 ≤ 31; decide)
  case code =>
    rw [rd_wr_beside _ (Fd.SF_CAM_FAULT_GOOD c) (Fd.SF_CAM_FAULT_CODE c) _ rfl rfl,
      rd_wr_beside _ (Fd.SF_CAM_FAULT_FAULT c) (Fd.SF_CAM_FAULT_CODE c) _ rfl rfl, rd_wr_self _ (Fd.SF_CAM_FAULT_CODE c) _ rfl]
    exact Nat.mod_eq_of_lt hcode

/-- The state in which a fault is shown: a fault that is not there yet is to be counted. -/
def State.faultNoted (s : State) (c : Nat) : State :=
  if s.flag (Fd.SF_CAM_FAULT_FAULT c) then s else s.setCam c { s.camera c with counted := false }

theorem State.camFault_eq (s : State) (c bit code : Nat) : s.camFault c bit code = ((s.faultNoted c).faultShown c bit code).camLevel c := rfl

theorem State.faultNoted_frame (s : State) (c : Nat) : Frame s (s.faultNoted c) [.sf] (fun _ => False) := by
  unfold State.faultNoted
  split
  · exact .refl _ _ _
  · exact s.setCam_frame _ _

theorem State.faultNoted_camera (s : State) (c : Nat) : (s.faultNoted c).camera c = (s.camera c).faulted (s.flag (Fd.SF_CAM_FAULT_FAULT c)) := by
  unfold State.faultNoted Cam.faulted
  split
  · next h => rw [h, Bool.and_true]
  · next h => rw [s.setCam_camera_same, Bool.eq_false_iff.mpr h, Bool.and_false]

theorem State.faultNoted_camOp (s : State) (c : Nat) : CamOp s (s.faultNoted c) c := by
  unfold State.faultNoted
  split
  · exact .of_sf rfl c
  · exact s.setCam_camOp c _ rfl rfl

/-- What a fault shows after the camera has been noted is no part of Shopfront's typed state. -/
theorem State.camFault_sf (s : State) (c bit code : Nat) : (s.camFault c bit code).sf = (s.faultNoted c).sf := by
  rw [s.camFault_eq]
  exact ((State.camLevel_frame _ c).same .sf (by simp)).trans ((State.faultShown_frame _ c bit code).same .sf (by simp))

theorem State.camFault_camera (s : State) (c bit code : Nat) :
    (s.camFault c bit code).camera c = (s.camera c).faulted (s.flag (Fd.SF_CAM_FAULT_FAULT c)) :=
  (State.camera_congr (s.camFault_sf c bit code) c).trans (s.faultNoted_camera c)

theorem State.camFault_camOp (s : State) (c bit code : Nat) : CamOp s (s.camFault c bit code) c :=
  (s.faultNoted_camOp c).trans (.of_sf (s.camFault_sf c bit code) c)

theorem State.camFault_frame (s : State) (c bit code : Nat) :
    Frame s (s.camFault c bit code) [.sf, .regs, .ic] (fun a => a = Rg.SF_CAM_FAULT c) := by
  rw [s.camFault_eq]
  exact ((s.faultNoted_frame c).noRegs (by simp)).trans
    (((State.faultShown_frame _ c bit code).widen (by simp)).trans ((State.camLevel_frame _ c).noRegs (by simp)))

theorem State.camFault_faulted (s : State) {c bit code : Nat} (hbit : bit ≤ 5) (hcode : code < 65536) :
    CamFaulted (s.camFault c bit code) c bit code := by
  rw [s.camFault_eq]
  exact camFaulted_of_reg ((State.camLevel_frame _ c).reg not_false) (State.faultShown_faulted _ hbit hcode)

/-! ### Loss of lock and the end of a frame (R175, R204) -/

theorem State.lockLost_spec (s : State) (c : Nat) :
    CamFaulted (s.lockLost c) c 1 Code.CAM_LOCK ∧ (s.lockLost c).flag (Fd.SF_CAM_STATUS_LOCK c) = false ∧
      (s.lockLost c).camera c = { (s.camera c).faulted (s.flag (Fd.SF_CAM_FAULT_FAULT c)) with lost := true } ∧ CamOp s (s.lockLost c) c ∧
      Frame s (s.lockLost c) [.sf, .regs, .ic] (CamReg c) := by
  let u := s.setCam c { s.camera c with lost := true }
  let v := u.camFault c 1 Code.CAM_LOCK
  have hlock := v.wr_frame (Fd.SF_CAM_STATUS_LOCK c) 0
  have hcam : v.camera c = { (s.camera c).faulted (s.flag (Fd.SF_CAM_FAULT_FAULT c)) with lost := true } := by
    refine (u.camFault_camera c 1 _).trans ?_
    rw [s.setCam_camera_same]
    rfl
  refine ⟨?faulted, ?lock, (State.camera_congr rfl c).trans hcam, ?camOp, ?frame⟩
  case faulted => exact camFaulted_of_reg (hlock.reg (camStatus_ne_camFault c).symm) (u.camFault_faulted (by decide) (by decide))
  case lock => exact flag_wr_zero v (Fd.SF_CAM_STATUS_LOCK c) (Nat.le_refl 2) (by show 2 ≤ 31; decide)
  case camOp => exact ((s.setCam_camOp c { s.camera c with lost := true } rfl rfl).trans (u.camFault_camOp c 1 _)).trans (.of_frame hlock (by simp) c)
  case frame =>
    exact ((s.setCam_frame c _).noRegs (by simp)).trans
      (((u.camFault_frame c 1 _).mono (by simp) fun _ => .inr).trans (hlock.mono (by simp) fun _ => .inl))

end Sys2Proof.Machine
end

section
/-! SUPPORT. The ends of a camera's frames (R204), its triggers (R173) and frame starts (R199), and the headers that cannot be corrected
(R202). -/

namespace Sys2Proof.Machine

theorem rd_wr_good (s : State) (c v : Nat) : (s.wr (Fd.SF_CAM_FAULT_GOOD c) v).rd (Fd.SF_CAM_FAULT_GOOD c) = v % 256 := rd_wr_self s _ v rfl
theorem rd_wr_frame (s : State) (c v : Nat) : (s.wr (Fd.SF_CAM_STATUS_FRAME c) v).rd (Fd.SF_CAM_STATUS_FRAME c) = v % 65536 := rd_wr_self s _ v rfl

/-- The frame in receipt is good as it ends (R204). -/
def State.goodFrame (s : State) (c : Nat) : Bool :=
  !(s.camera c).lost && !(s.camera c).err && (s.camera c).step && !(s.camera c).pocBad && !s.pocFault c

@[simp] theorem State.wr_camera (s : State) (f : Fld) (v c : Nat) : (s.wr f v).camera c = s.camera c := rfl

@[simp] theorem State.setFlag_camera (s : State) (f : Fld) (b : Bool) (c : Nat) : (s.setFlag f b).camera c = s.camera c := rfl
theorem State.wr_camOp (s : State) (f : Fld) (v c : Nat) : CamOp s (s.wr f v) c := .of_sf (s.wr_sf f v) c
theorem State.setFlag_camOp (s : State) (f : Fld) (b : Bool) (c : Nat) : CamOp s (s.setFlag f b) c := .of_sf (s.setFlag_sf f b) c

theorem State.endFrame_camera (s : State) (c : Nat) :
    (s.endFrame c).camera c = { s.camera c with open_ := false, crcPrev := (s.camera c).crc } := State.setCam_camera_same _ _ _

theorem State.endFrame_camOp (s : State) (c : Nat) : CamOp s (s.endFrame c) c := by
  unfold State.endFrame
  exact ((s.setFlag_camOp (Fd.SF_CAM_STATUS_LOCK c) _ c).trans (State.wr_camOp _ (Fd.SF_CAM_FAULT_GOOD c) _ c)).trans
    (State.setCam_camOp _ c _ (by simp) (by simp))

theorem State.endFrame_frame (s : State) (c : Nat) : Frame s (s.endFrame c) [.sf, .regs] (CamReg c) := by
  unfold State.endFrame
  exact (((s.setFlag_frame (Fd.SF_CAM_STATUS_LOCK c) _).mono (by simp) fun _ => .inl).trans
    ((State.wr_frame _ (Fd.SF_CAM_FAULT_GOOD c) _).mono (by simp) fun _ => .inr)).trans ((State.setCam_frame _ c _).noRegs (by simp))

theorem State.endFrame_lock (s : State) (c : Nat) : (s.endFrame c).flag (Fd.SF_CAM_STATUS_LOCK c) = !(s.camera c).lost := by
  unfold State.endFrame
  dsimp only
  rw [State.setCam_flag, flag_wr_ne _ _ _ _ (camStatus_ne_camFault c)]
  exact flag_setFlag s (Fd.SF_CAM_STATUS_LOCK c) _ rfl (by show 2 ≤ 31; decide)

theorem State.endFrame_good (s : State) (c : Nat) :
    (s.endFrame c).rd (Fd.SF_CAM_FAULT_GOOD c) = if s.goodFrame c then min 255 (s.rd (Fd.SF_CAM_FAULT_GOOD c) + 1) else 0 := by
  have hpoc : ∀ b, (s.setFlag (Fd.SF_CAM_STATUS_LOCK c) b).rd (Fd.SF_CAM_FAULT_GOOD c) = s.rd (Fd.SF_CAM_FAULT_GOOD c) := fun b =>
    rd_wr_ne _ _ _ _ (camStatus_ne_camFault c).symm
  unfold State.endFrame State.goodFrame
  dsimp only
  rw [State.setCam_rd, rd_wr_good, hpoc]
  split <;> omega

theorem State.endFrame_rd_beside (s : State) {c : Nat} {f : Fld} (hf : f.addr = Rg.SF_CAM_FAULT c)
    (hb : (Fd.SF_CAM_FAULT_GOOD c).beside f = true) : (s.endFrame c).rd f = s.rd f := by
  unfold State.endFrame
  dsimp only
  rw [State.setCam_rd, rd_wr_beside _ _ _ _ hf hb]
  exact rd_wr_ne _ _ _ _ (by rw [hf]; exact (camStatus_ne_camFault c).symm)

theorem State.endFrame_flag_beside (s : State) {c : Nat} {f : Fld} (hf : f.addr = Rg.SF_CAM_FAULT c)
    (hb : (Fd.SF_CAM_FAULT_GOOD c).beside f = true) : (s.endFrame c).flag f = s.flag f := by
  rw [State.flag, s.endFrame_rd_beside hf hb, State.flag]

/-- A frame that ends as its lock is lost is not good. -/
theorem State.lockLost_endFrame_spec (s : State) (c : Nat) :
    CamFaulted ((s.lockLost c).endFrame c) c 1 Code.CAM_LOCK ∧ ((s.lockLost c).endFrame c).flag (Fd.SF_CAM_STATUS_LOCK c) = false ∧
      (((s.lockLost c).endFrame c).camera c).open_ = false ∧ CamOp s ((s.lockLost c).endFrame c) c ∧
      Frame s ((s.lockLost c).endFrame c) [.sf, .regs, .ic] (CamReg c) := by
  obtain ⟨⟨hbit, hfault, hcode, -⟩, -, hcam, hop, hframe⟩ := s.lockLost_spec c
  have hlost : ((s.lockLost c).camera c).lost = true := by rw [hcam]
  refine ⟨⟨?_, ?_, ?_, ?_⟩, ?_, ?_, hop.trans (State.endFrame_camOp _ c), hframe.trans ((State.endFrame_frame _ c).widen (by simp))⟩
  · exact (State.endFrame_flag_beside _ (f := bitOf (Rg.SF_CAM_FAULT c) 1) rfl rfl).trans hbit
  · exact (State.endFrame_flag_beside _ (f := Fd.SF_CAM_FAULT_FAULT c) rfl rfl).trans hfault
  · exact (State.endFrame_rd_beside _ (f := Fd.SF_CAM_FAULT_CODE c) rfl rfl).trans hcode
  · rw [State.endFrame_good, State.goodFrame, hlost]
    rfl
  · rw [State.endFrame_lock, hlost]
    rfl
  · rw [State.endFrame_camera]

/-! ### Triggers (R173) -/

/-- The first grid point at or after `t`. -/
theorem gridFrom_first {rate : Nat} (t : Nat) (h : 0 < rate) :
    t ≤ gridFrom rate 0 t * 1000000000 / rate ∧ (0 < gridFrom rate 0 t → (gridFrom rate 0 t - 1) * 1000000000 / rate < t) := by
  unfold gridFrom
  simp only [Nat.sub_zero, Nat.add_zero]
  have hlow := Nat.div_mul_le_self (t * rate) 1000000000
  have hhigh := Nat.lt_div_mul_add (a := t * rate) (b := 1000000000) (by decide)
  generalize t * rate / 1000000000 = n at hlow hhigh ⊢
  split
  · next hn =>
    refine ⟨hn, fun hpos => (Nat.div_lt_iff_lt_mul h).mpr ?_⟩
    omega
  · next hn =>
    refine ⟨(Nat.le_div_iff_mul_le h).mpr (by omega), fun _ => ?_⟩
    rw [Nat.add_sub_cancel]
    exact Nat.lt_of_not_le hn

/-- The frame that the next trigger of a camera is for. -/
def State.nextFrame (s : State) (c : Nat) : TrigFrame := ⟨s.nextJ c, s.gridC c (s.nextJ c)⟩

/-- The camera is triggered for the frame `p`. -/
def State.triggered (s : State) (c : Nat) (p : TrigFrame) : State :=
  (s.setCam c { s.camera c with
    trig := some p, trigAt := s.now, bound := none, jRun := if (s.camera c).trig.isSome then (s.camera c).jRun else p.j,
    due := (s.camera c).due ++ [p] }).wr (Fd.SF_CAM_STATUS_FRAME c) (p.j % 65536)

theorem State.triggered_spec (s : State) (c : Nat) (p : TrigFrame) :
    ((s.triggered c p).camera c).trig = some p ∧
      ((s.triggered c p).camera c).jRun = (if (s.camera c).trig.isSome then (s.camera c).jRun else p.j) ∧
      ((s.triggered c p).camera c).due = (s.camera c).due ++ [p] ∧ (s.triggered c p).rd (Fd.SF_CAM_STATUS_FRAME c) = p.j % 65536 ∧
      OnlyCam s (s.triggered c p) c ∧ Frame s (s.triggered c p) [.sf, .regs] (fun a => a = Rg.SF_CAM_STATUS c) := by
  have hcam : (s.triggered c p).camera c = _ := (State.wr_camera _ _ _ c).trans (s.setCam_camera_same c _)
  refine ⟨by rw [hcam], by rw [hcam], by rw [hcam], ?shown, onlyCam_trans (s.setCam_onlyCam c _) (State.wr_camOp _ _ _ c).only, ?frame⟩
  case shown =>
    unfold State.triggered
    rw [rd_wr_frame, Nat.mod_mod]
  case frame => exact ((s.setCam_frame c _).noRegs (by simp)).trans ((State.wr_frame _ (Fd.SF_CAM_STATUS_FRAME c) _).widen (by simp))

theorem State.camTrigger_eq (s : State) (c : Nat) (h : CamRuns s c) :
    s.camTrigger c = (s.reachVt (s.nextFrame c).at_).triggered c (s.nextFrame c) := by
  unfold State.camTrigger
  rw [h.1, h.2]
  exact if_neg Bool.false_ne_true

/-! ### Frame starts (R199) -/

theorem State.frameStart_opens (s : State) {c : Nat} (f : Nat) {p : TrigFrame} {rest : List TrigFrame} (hopen : (s.camera c).open_ = false)
    (hdue : (s.camera c).due = p :: rest) :
    ∃ x : Cam, s.frameStart c f =
        (if (s.camera c).faulty p.j f then (s.setCam c x).camFault c 4 Code.FRAME_NUMBER else s.setCam c x) ∧
      x.rx = some p ∧ x.open_ = true ∧ x.due = rest ∧ x.line = 0 ∧ x.num = some f ∧ x.lost = false ∧ x.src = (s.camera c).source p.j f := by
  unfold State.frameStart
  rw [hopen, if_neg Bool.false_ne_true]
  dsimp only
  rw [hdue]
  exact ⟨_, rfl, rfl, rfl, rfl, rfl, rfl, rfl, rfl⟩

theorem exec_csi2FrameStart (s : State) (c : Fin 4) (f : BitVec 16) (hlive : s.camLive c.val = true) :
    exec (.csi2FrameStart c f false) s = .next (s.frameStart c.val f.toNat) := by
  show Host.Outcome.next _ = _
  rw [hlive]
  rfl

/-! ### Headers that cannot be corrected (R202) -/

/-- A packet header with an uncorrectable error arrives. -/
def State.headerLost (s : State) (c : Nat) : State := (s.setCam c { s.camera c with err := true }).camFault c 2 Code.CSI2_ECC

theorem State.headerLost_spec (s : State) (c : Nat) :
    CamFaulted (s.headerLost c) c 2 Code.CSI2_ECC ∧
      (s.headerLost c).camera c = { (s.camera c).faulted (s.flag (Fd.SF_CAM_FAULT_FAULT c)) with err := true } ∧ CamOp s (s.headerLost c) c ∧
      Frame s (s.headerLost c) [.sf, .regs, .ic] (fun a => a = Rg.SF_CAM_FAULT c) := by
  let u := s.setCam c { s.camera c with err := true }
  refine ⟨u.camFault_faulted (by decide) (by decide), ?_, ?_, ?_⟩
  · refine (u.camFault_camera c 2 _).trans ?_
    rw [s.setCam_camera_same]
    rfl
  · exact (s.setCam_camOp c { s.camera c with err := true } rfl rfl).trans (u.camFault_camOp c 2 _)
  · exact ((s.setCam_frame c _).noRegs (by simp)).trans (u.camFault_frame c 2 _)

theorem exec_csi2FrameStart_ecc (s : State) (c : Fin 4) (f : BitVec 16) (hlive : s.camLive c.val = true) :
    exec (.csi2FrameStart c f true) s = .next (s.headerLost c.val) := by
  show Host.Outcome.next _ = _
  rw [hlive]
  rfl

theorem exec_cameraLineReceived_ecc (s : State) (c : Fin 4) (px : List Byte) (crc fe : Bool) (ns : BitVec 32) (hlive : s.camLive c.val = true) :
    exec (.cameraLineReceived c px crc ⟨true, fe⟩ ns) s = .next ((s.pass ns.toNat).headerLost c.val) := by
  show Host.Outcome.next (if !s.camLive c.val then _ else _) = _
  rw [hlive]
  rfl

end Sys2Proof.Machine
end

section
/-! SUPPORT. Lines of a camera (R175, R178, R203) into a free ring slot, and the frames that never end or never start (R202). -/

namespace Sys2Proof.Machine

/-! ### A line in its slot (R178) -/

/-- The line is put in slot N mod 128 and counted. -/
def State.lineStored (s : State) (c : Nat) (px : List Byte) (crc : Bool) : State :=
  (s.setLine (c * 128 + (s.camera c).n % 128) ⟨(s.camera c).rx.map (·.j), (s.camera c).line, s.vt, crc, px⟩).setCam c
    { s.camera c with n := (s.camera c).n + 1, line := (s.camera c).line + 1 }

theorem State.lineStored_camera (s : State) (c : Nat) (px : List Byte) (crc : Bool) :
    (s.lineStored c px crc).camera c = { s.camera c with n := (s.camera c).n + 1, line := (s.camera c).line + 1 } := State.setCam_camera_same _ _ _

theorem State.lineStored_onlyCam (s : State) (c : Nat) (px : List Byte) (crc : Bool) : OnlyCam s (s.lineStored c px crc) c :=
  ⟨fun k hk => State.setCam_camera_ne _ c _ k hk, rfl, rfl, rfl⟩

theorem State.lineStored_frame (s : State) (c : Nat) (px : List Byte) (crc : Bool) : Frame s (s.lineStored c px crc) [.sf] (fun _ => False) :=
  (s.setLine_frame _ _).trans (State.setCam_frame _ _ _)

theorem State.lineStored_kept (s : State) (c : Fin 4) (px : List Byte) (crc : Bool) : LineKept s (s.lineStored c.val px crc) c px crc := by
  have hring : ∀ k, (s.lineStored c.val px crc).ring c.val k = tget (fun _ => CamLine.none_) (tset (fun _ => CamLine.none_) s.sf.lines
      (c.val * 128 + (s.camera c.val).n % 128) ⟨(s.camera c.val).rx.map (·.j), (s.camera c.val).line, s.vt, crc, px⟩) (c.val * 128 + k) := fun _ => rfl
  refine ⟨?_, ?_, ?_, fun k hk => ?_⟩
  · rw [hring, tget_tset_same]
    rfl
  · rw [s.lineStored_camera]
  · rw [s.lineStored_camera]
  · rw [hring, tget_tset_ne _ _ _ _ _ (by omega)]
    rfl

/-- What keeps the ring, the counts and the time keeps the line in its slot. -/
theorem lineKept_of_camOp {s t u : State} {c : Fin 4} {px : List Byte} {crc : Bool} (hop : CamOp t u c.val) (hvt : u.vt = t.vt)
    (h : LineKept s t c px crc) : LineKept s u c px crc := by
  obtain ⟨hslot, hn, hline, hothers⟩ := h
  have hring : ∀ k, u.ring c.val k = t.ring c.val k := fun k => by rw [State.ring, hop.lines, State.ring]
  exact ⟨by rw [hring, hslot, hvt], hop.n.trans hn, hop.line.trans hline, fun k hk => (hring _).trans (hothers k hk)⟩

/-! ### Payload CRC errors (R203) -/

theorem State.lineCrc_spec (s : State) (c : Nat) (crc : Bool) :
    CamOp s (s.lineCrc c crc) c ∧ ((s.lineCrc c crc).camera c).open_ = (s.camera c).open_ ∧
      Frame s (s.lineCrc c crc) [.sf, .regs, .ic] (fun a => a = Rg.SF_CAM_FAULT c) := by
  let u := s.setCam c { s.camera c with crc := true, err := true }
  have hop : CamOp s u c := s.setCam_camOp c _ rfl rfl
  have hframe : Frame s u [.sf, .regs, .ic] (fun a => a = Rg.SF_CAM_FAULT c) := (s.setCam_frame c _).noRegs (by simp)
  have hopen : (u.camera c).open_ = (s.camera c).open_ := by rw [s.setCam_camera_same]
  unfold State.lineCrc
  dsimp only
  split
  · exact ⟨.of_sf rfl c, rfl, .refl _ _ _⟩
  · split
    · exact ⟨hop.trans (u.camFault_camOp c 3 _), by rw [u.camFault_camera]; exact hopen, hframe.trans (u.camFault_frame c 3 _)⟩
    · exact ⟨hop, hopen, hframe⟩

/-- The second frame in a row with a payload CRC error. -/
theorem State.lineCrc_second (s : State) (c : Nat) (hprev : (s.camera c).crcPrev = true) (hfirst : (s.camera c).crc = false) :
    CamFaulted (s.lineCrc c true) c 3 Code.CSI2_BAD_LINES ∧ ((s.lineCrc c true).camera c).crc = true := by
  let u := s.setCam c { s.camera c with crc := true, err := true }
  have heq : s.lineCrc c true = u.camFault c 3 Code.CSI2_BAD_LINES := by
    unfold State.lineCrc
    refine (if_neg Bool.false_ne_true).trans (if_pos ?_)
    rw [hprev, hfirst]
    rfl
  rw [heq, u.camFault_camera, s.setCam_camera_same]
  exact ⟨u.camFault_faulted (by decide) (by decide), rfl⟩

/-! ### A line received (R175) -/

theorem State.overrunBy_free (s : State) {c slot : Nat} (h : s.ring c slot = CamLine.none_) : s.overrunBy c slot = s := if_pos h

/-- The line in its slot, with its CRC error if it has one. -/
def State.lineTaken (s : State) (c : Nat) (px : List Byte) (crc : Bool) : State := (s.lineStored c px crc).lineCrc c crc

/-- The line has been taken; where it is not as R175 expects it, lock is lost. -/
def State.lineJudged (s : State) (c : Nat) (px : List Byte) (crc : Bool) : State :=
  if s.lineOk c px then s.lineTaken c px crc else (s.lineTaken c px crc).lockLost c

theorem State.lineReceived_eq (s : State) (c : Nat) (px : List Byte) (crc fe : Bool) (hfree : s.ring c ((s.camera c).n % 128) = CamLine.none_) :
    s.lineReceived c px crc fe = if fe then (s.lineJudged c px crc).frameEndPacket c else s.lineJudged c px crc := by
  unfold State.lineReceived
  dsimp only
  rw [s.overrunBy_free hfree]
  rfl

theorem State.lineTaken_spec (s : State) (c : Fin 4) (px : List Byte) (crc : Bool) :
    LineKept s (s.lineTaken c.val px crc) c px crc ∧ OnlyCam s (s.lineTaken c.val px crc) c.val ∧
      ((s.lineTaken c.val px crc).camera c.val).open_ = (s.camera c.val).open_ ∧
      Frame s (s.lineTaken c.val px crc) [.sf, .regs, .ic] (fun a => a = Rg.SF_CAM_FAULT c.val) := by
  obtain ⟨hop, hopen, hframe⟩ := (s.lineStored c.val px crc).lineCrc_spec c.val crc
  refine ⟨lineKept_of_camOp hop (hframe.same .vt (by simp)) (s.lineStored_kept c px crc), onlyCam_trans (s.lineStored_onlyCam c.val px crc) hop.only,
    hopen.trans ?_, ((s.lineStored_frame c.val px crc).noRegs (by simp)).trans hframe⟩
  rw [s.lineStored_camera]

theorem lineOk_of_lineInTime {s : State} {c : Nat} {px : List Byte} {ns : BitVec 32} {p : TrigFrame} (h : LineInTime s c px ns p) :
    (s.pass ns.toNat).lineOk c px = true := by
  obtain ⟨-, hopen, hrx, hline, hlen, hlow, hhigh⟩ := h
  unfold State.lineOk
  dsimp only
  rw [show (s.pass ns.toNat).camera c = s.camera c from rfl, hrx]
  simp only [Bool.and_eq_true, decide_eq_true_eq, beq_iff_eq]
  exact ⟨⟨⟨⟨hopen, hline⟩, hlen⟩, hlow⟩, hhigh⟩

theorem exec_cameraLineReceived (s : State) (c : Fin 4) (px : List Byte) (crc fe : Bool) (ns : BitVec 32) (hlive : s.camLive c.val = true) :
    exec (.cameraLineReceived c px crc ⟨false, fe⟩ ns) s = .next ((s.pass ns.toNat).lineReceived c.val px crc fe) := by
  show Host.Outcome.next (if !s.camLive c.val then _ else _) = _
  rw [hlive]
  rfl

theorem State.frameEndPacket_last (s : State) (c : Nat) (hopen : (s.camera c).open_ = true) (hlast : (s.camera c).line = s.camHeight c) :
    s.frameEndPacket c = s.endFrame c := by
  unfold State.frameEndPacket
  dsimp only
  rw [hopen, if_neg (by decide), if_pos hlast]

theorem State.frameEndPacket_early (s : State) (c : Nat) (hopen : (s.camera c).open_ = true) (hearly : (s.camera c).line ≠ s.camHeight c) :
    s.frameEndPacket c = (s.lockLost c).endFrame c := by
  unfold State.frameEndPacket
  dsimp only
  rw [hopen, if_neg (by decide), if_neg hearly]

/-! ### Frames that never end, and that never start (R202) -/

theorem State.lockTimeout_receiving (s : State) (c : Nat) {p : TrigFrame} (h : CamRuns s c) (hopen : (s.camera c).open_ = true)
    (hrx : (s.camera c).rx = some p) :
    s.lockTimeout c = ((s.reachVt (p.at_ + (s.lineNs c (s.camHeight c - 1) + 10000))).lockLost c).endFrame c := by
  unfold State.lockTimeout
  dsimp only
  rw [h.1, h.2, hopen, hrx]
  exact if_neg Bool.false_ne_true

theorem State.lockTimeout_waiting (s : State) (c : Nat) {p : TrigFrame} {rest : List TrigFrame} (h : CamRuns s c)
    (hopen : (s.camera c).open_ = false) (hdue : (s.camera c).due = p :: rest) :
    s.lockTimeout c = ((s.reachVt (p.at_ + (s.lineNs c (s.camHeight c - 1) + 10000))).setCam c
      { s.camera c with due := rest, crc := false, crcPrev := false }).lockLost c := by
  unfold State.lockTimeout
  dsimp only
  rw [h.1, h.2, hopen, hdue]
  exact if_neg Bool.false_ne_true

end Sys2Proof.Machine
end

section
/-! SUPPORT. The camera obligation: triggers, frame starts, lines, losses of lock and of the link (R173, R175, R178, R199, R202 to R204). -/

namespace Sys2Proof.Machine

/-! ### Lines as the command receives them -/

/-- A line in time, with no frame end packet behind it. -/
theorem exec_line_inTime {s : State} {c : Fin 4} {px : List Byte} {ns : BitVec 32} {p : TrigFrame} (crc : Bool) (h : LineInTime s c.val px ns p)
    (hfree : s.ring c.val ((s.camera c.val).n % 128) = CamLine.none_) :
    exec (.cameraLineReceived c px crc ⟨false, false⟩ ns) s = .next ((s.pass ns.toNat).lineTaken c.val px crc) := by
  rw [exec_cameraLineReceived s c px crc false ns h.1, (s.pass ns.toNat).lineReceived_eq c.val px crc false hfree, if_neg Bool.false_ne_true, State.lineJudged,
    if_pos (lineOk_of_lineInTime h)]

/-- A line in time, with a frame end packet behind it. -/
theorem exec_line_inTime_end {s : State} {c : Fin 4} {px : List Byte} {ns : BitVec 32} {p : TrigFrame} (crc : Bool) (h : LineInTime s c.val px ns p)
    (hfree : s.ring c.val ((s.camera c.val).n % 128) = CamLine.none_) :
    exec (.cameraLineReceived c px crc ⟨false, true⟩ ns) s = .next (((s.pass ns.toNat).lineTaken c.val px crc).frameEndPacket c.val) := by
  rw [exec_cameraLineReceived s c px crc true ns h.1, (s.pass ns.toNat).lineReceived_eq c.val px crc true hfree, if_pos rfl, State.lineJudged,
    if_pos (lineOk_of_lineInTime h)]

/-- A line of the wrong length, or not at its time, with no frame end packet behind it. -/
theorem exec_line_amiss {s : State} {c : Fin 4} {px : List Byte} (crc : Bool) {ns : BitVec 32} (hlive : s.camLive c.val = true)
    (hfree : s.ring c.val ((s.camera c.val).n % 128) = CamLine.none_) (hbad : (s.pass ns.toNat).lineOk c.val px = false) :
    exec (.cameraLineReceived c px crc ⟨false, false⟩ ns) s = .next (((s.pass ns.toNat).lineTaken c.val px crc).lockLost c.val) := by
  rw [exec_cameraLineReceived s c px crc false ns hlive, (s.pass ns.toNat).lineReceived_eq c.val px crc false hfree, if_neg Bool.false_ne_true, State.lineJudged, hbad,
    if_neg Bool.false_ne_true]

/-! ### The link (R202) -/

/-- SF_CAM_STATUS and the camera as a link that goes down leaves them. -/
def State.linkShownDown (s : State) (c : Nat) : State :=
  ((s.wr (Fd.SF_CAM_STATUS_LINK c) 0).wr (Fd.SF_CAM_STATUS_LOCK c) 0).setCam c { s.camera c with open_ := false, lost := true }

theorem State.linkShownDown_spec (s : State) (c : Nat) :
    (s.linkShownDown c).flag (Fd.SF_CAM_STATUS_LINK c) = false ∧ (s.linkShownDown c).flag (Fd.SF_CAM_STATUS_LOCK c) = false ∧
      (s.linkShownDown c).camera c = { s.camera c with open_ := false, lost := true } ∧ OnlyCam s (s.linkShownDown c) c ∧
      Frame s (s.linkShownDown c) [.sf, .regs] (fun a => a = Rg.SF_CAM_STATUS c) := by
  refine ⟨?link, ?lock, State.setCam_camera_same _ _ _, ?only, ?frame⟩
  case link =>
    unfold State.linkShownDown
    rw [State.setCam_flag, flag_wr_beside _ (Fd.SF_CAM_STATUS_LOCK c) (Fd.SF_CAM_STATUS_LINK c) 0 rfl rfl]
    exact flag_wr_zero s (Fd.SF_CAM_STATUS_LINK c) (Nat.le_refl 1) (by show 1 ≤ 31; decide)
  case lock =>
    unfold State.linkShownDown
    rw [State.setCam_flag]
    exact flag_wr_zero _ (Fd.SF_CAM_STATUS_LOCK c) (Nat.le_refl 2) (by show 2 ≤ 31; decide)
  case only =>
    exact onlyCam_trans ((s.wr_camOp _ _ c).trans (State.wr_camOp _ (Fd.SF_CAM_STATUS_LOCK c) 0 c)).only (State.setCam_onlyCam _ c _)
  case frame =>
    exact (((s.wr_frame (Fd.SF_CAM_STATUS_LINK c) 0).trans (State.wr_frame _ (Fd.SF_CAM_STATUS_LOCK c) 0)).widen (by simp)).trans
      ((State.setCam_frame _ c _).noRegs (by simp))

theorem exec_cameraLinkDown (s : State) (c : Fin 4) (hlink : s.flag (Fd.SF_CAM_STATUS_LINK c.val) = true)
    (hrun : s.flag (Fd.SF_CAM_CTRL_RUN c.val) = true) :
    exec (.cameraLinkDown c) s = .next ((s.linkShownDown c.val).camFault c.val 0 Code.CAM_LINK) := by
  obtain ⟨-, -, -, -, hframe⟩ := s.linkShownDown_spec c.val
  have hruns : (s.linkShownDown c.val).flag (Fd.SF_CAM_CTRL_RUN c.val) = true :=
    (flag_of_frame hframe (show 0x200A0020 + 0x4 * c.val ≠ 0x200A0030 + 0x4 * c.val by omega)).trans hrun
  show Host.Outcome.next (s.camLinkDown c.val) = _
  unfold State.camLinkDown
  rw [hlink]
  exact congrArg _ ((if_neg Bool.false_ne_true).trans (if_pos hruns))

/-- Settles O14: each trigger, packet and timeout by the equation of its command and the rules of what a fault, a loss of lock and a frame's end
leave; that nothing else changes, by the frames of these. -/
theorem cameraFrames : Obligations.CameraFrames := by
  unfold Obligations.CameraFrames
  refine ⟨?next, ?first, ?start, ?number, ?startEcc, ?noFrame, ?line, ?lastLine, ?early, ?amiss, ?badLines, ?lineEcc, ?noEnd, ?noStart, ?linkDown, ?linkUp⟩
  case next =>
    intro s c p hruns htrig hbound
    have hframe : s.nextFrame c.val = ⟨p.j + 1, s.gridC c.val (p.j + 1)⟩ := by simp [State.nextFrame, State.nextJ, hbound, htrig]
    have hreach := s.reachVt_frame (s.gridC c.val (p.j + 1))
    have hcam := State.camera_congr (hreach.same .sf (by simp)) c.val
    have heq : exec (.cameraTrigger c) s = .next _ := congrArg Host.Outcome.next (s.camTrigger_eq c.val hruns)
    rw [hframe] at heq
    obtain ⟨hnew, hrun, hdue, hshown, honly, htriggered⟩ :=
      (s.reachVt (s.gridC c.val (p.j + 1))).triggered_spec c.val ⟨p.j + 1, s.gridC c.val (p.j + 1)⟩
    rw [hcam] at hrun hdue
    rw [htrig] at hrun
    exact ⟨_, heq, hnew, (s.le_reachVt _).trans_eq (htriggered.same .vt (by simp)).symm, hdue, hrun, hshown,
      onlyCam_trans (CamOp.of_frame hreach (by simp) c.val).only honly, (hreach.noRegs (by simp)).trans (htriggered.widen (by simp))⟩
  case first =>
    intro s c hruns htrig hbound hpos _
    have hnext : s.nextJ c.val = gridFrom (s.camFps c.val) 0 s.vt := by simp [State.nextJ, hbound, htrig]
    have hreach := s.reachVt_frame (s.nextFrame c.val).at_
    have hcam := State.camera_congr (hreach.same .sf (by simp)) c.val
    have heq : exec (.cameraTrigger c) s = .next _ := congrArg Host.Outcome.next (s.camTrigger_eq c.val hruns)
    obtain ⟨hnew, hrun, -, -, honly, htriggered⟩ := (s.reachVt (s.nextFrame c.val).at_).triggered_spec c.val (s.nextFrame c.val)
    rw [hcam, htrig] at hrun
    have hj : (((s.reachVt (s.nextFrame c.val).at_).triggered c.val (s.nextFrame c.val)).camera c.val).jRun = gridFrom (s.camFps c.val) 0 s.vt :=
      hrun.trans hnext
    obtain ⟨hreached, hfirst⟩ := gridFrom_first s.vt hpos
    refine ⟨_, heq, ?_, ?_, ?_, onlyCam_trans (CamOp.of_frame hreach (by simp) c.val).only honly,
      (hreach.noRegs (by simp)).trans (htriggered.widen (by simp))⟩
    · rw [hnew, hj, State.nextFrame, hnext]
    · rw [hj]
      exact hreached
    · rw [hj]
      exact hfirst
  case start =>
    intro s c f p rest hlive hopen hdue hsound
    obtain ⟨x, heq, hrx, hxopen, hxdue, hline, hnum, hlost, hsrc⟩ := s.frameStart_opens f.toNat hopen hdue
    rw [hsound, if_neg Bool.false_ne_true] at heq
    rw [exec_csi2FrameStart s c f hlive, heq]
    refine ⟨_, rfl, ?_, ?_, ?_, ?_, ?_, ?_, ?_, s.setCam_onlyCam c.val x, s.setCam_frame c.val x⟩ <;> rwa [s.setCam_camera_same]
  case number =>
    intro s c f p rest hlive hopen hdue hfaulty
    obtain ⟨x, heq, -, hxopen, -⟩ := s.frameStart_opens f.toNat hopen hdue
    have hbad : (s.camera c.val).faulty p.j f.toNat = true := by
      unfold Cam.faulty
      rw [Bool.or_eq_true, beq_iff_eq]
      exact hfaulty
    rw [hbad, if_pos rfl] at heq
    rw [exec_csi2FrameStart s c f hlive, heq]
    refine ⟨_, rfl, State.camFault_faulted _ (by decide) (by decide), ?_,
      onlyCam_trans (s.setCam_onlyCam c.val x) (State.camFault_camOp _ c.val 4 _).only,
      ((s.setCam_frame c.val x).noRegs (by simp)).trans (State.camFault_frame _ c.val 4 _)⟩
    rw [State.camFault_camera, s.setCam_camera_same]
    exact hxopen
  case startEcc =>
    intro s c f hlive
    obtain ⟨hfaulted, hcam, hop, hframe⟩ := s.headerLost_spec c.val
    exact ⟨_, exec_csi2FrameStart_ecc s c f hlive, hfaulted, by rw [hcam]; rfl, hop.only, hframe⟩
  case noFrame =>
    intro s c f hlive hopen hdue
    have heq : s.frameStart c.val f.toNat = s.lockLost c.val := by
      unfold State.frameStart
      rw [hopen, if_neg Bool.false_ne_true]
      dsimp only
      rw [hdue]
    obtain ⟨hfaulted, hlock, -, hop, hframe⟩ := s.lockLost_spec c.val
    exact ⟨_, (exec_csi2FrameStart s c f hlive).trans (congrArg _ heq), hfaulted, hlock, hop.only, hframe⟩
  case line =>
    intro s c px ns p hline hfree
    let u := s.pass ns.toNat
    have hcam : (u.lineStored c.val px false).camera c.val = { s.camera c.val with n := (s.camera c.val).n + 1, line := (s.camera c.val).line + 1 } :=
      u.lineStored_camera c.val px false
    have hlost : ((u.lineStored c.val px false).camera c.val).lost = (s.camera c.val).lost := by rw [hcam]
    have hopen : ((u.lineStored c.val px false).camera c.val).open_ = (s.camera c.val).open_ := by rw [hcam]
    exact ⟨_, exec_line_inTime false hline hfree, u.lineStored_kept c px false, hlost, hopen.trans hline.2.1, u.lineStored_onlyCam c.val px false,
      ((s.pass_frame _).widen (by simp)).trans ((u.lineStored_frame c.val px false).widen (by simp))⟩
  case lastLine =>
    intro s c px ns p hline hlast hfree hlost herr hstep hpoc hfault
    let u := s.pass ns.toNat
    let v := u.lineStored c.val px false
    have hcam : v.camera c.val = { s.camera c.val with n := (s.camera c.val).n + 1, line := (s.camera c.val).line + 1 } :=
      u.lineStored_camera c.val px false
    have hstored := u.lineStored_frame c.val px false
    have hpass := s.pass_frame ns.toNat
    have heq : v.frameEndPacket c.val = v.endFrame c.val := v.frameEndPacket_last c.val (by rw [hcam]; exact hline.2.1) (by rw [hcam]; exact hlast)
    have hgood : v.goodFrame c.val = true := by
      have hpoc' : v.pocFault c.val = false := hfault
      rw [State.goodFrame, hcam, hpoc']
      simp [hlost, herr, hstep, hpoc]
    have hend := v.endFrame_frame c.val
    refine ⟨_, (exec_line_inTime_end false hline hfree).trans (congrArg _ heq), ?_, ?_, ?_, ?_, ?_, ?_⟩
    · exact lineKept_of_camOp (v.endFrame_camOp c.val) (hend.same .vt (by simp)) (u.lineStored_kept c px false)
    · rw [v.endFrame_camera]
    · rw [v.endFrame_lock, hcam, hlost]
      rfl
    · rw [v.endFrame_good, hgood, if_pos rfl]
      rfl
    · exact onlyCam_trans (u.lineStored_onlyCam c.val px false) (v.endFrame_camOp c.val).only
    · exact (hpass.noRegs (by simp)).trans ((hstored.noRegs (by simp)).trans (hend.widen (by simp)))
  case early =>
    intro s c px crc ns p hline hearly hfree
    let u := s.pass ns.toNat
    let v := u.lineTaken c.val px crc
    obtain ⟨hkept, honly, hopen, htaken⟩ := u.lineTaken_spec c px crc
    obtain ⟨-, -, hcount, -⟩ := id hkept
    have hheight : v.camHeight c.val = s.camHeight c.val := by
      have hplan : v.plan = s.plan := htaken.same .plan (by simp)
      simp only [State.camHeight, State.camItem, State.item, hplan]
    have heq : v.frameEndPacket c.val = (v.lockLost c.val).endFrame c.val := v.frameEndPacket_early c.val (hopen.trans hline.2.1) (by
      rw [hheight, hcount]
      exact Nat.ne_of_lt hearly)
    obtain ⟨hfaulted, hlock, hclosed, hop, hframe⟩ := v.lockLost_endFrame_spec c.val
    exact ⟨_, (exec_line_inTime_end crc hline hfree).trans (congrArg _ heq), lineKept_of_camOp hop (hframe.same .vt (by simp)) hkept, hfaulted, hlock,
      hclosed, onlyCam_trans honly hop.only,
      ((s.pass_frame _).noRegs (by simp)).trans ((htaken.mono (by simp) fun _ => .inr).trans (hframe.widen (by simp)))⟩
  case amiss =>
    intro s c px crc ns hlive hfree hbad
    let v := (s.pass ns.toNat).lineTaken c.val px crc
    obtain ⟨hkept, honly, -, htaken⟩ := (s.pass ns.toNat).lineTaken_spec c px crc
    obtain ⟨hfaulted, hlock, hcam, hop, hframe⟩ := v.lockLost_spec c.val
    exact ⟨_, exec_line_amiss crc hlive hfree hbad, lineKept_of_camOp hop (hframe.same .vt (by simp)) hkept, hfaulted, hlock, by rw [hcam],
      onlyCam_trans honly hop.only,
      ((s.pass_frame _).noRegs (by simp)).trans ((htaken.mono (by simp) fun _ => .inr).trans (hframe.widen (by simp)))⟩
  case badLines =>
    intro s c px ns p hline hfree hprev hfirst
    let v := (s.pass ns.toNat).lineStored c.val px true
    have hcam : v.camera c.val = { s.camera c.val with n := (s.camera c.val).n + 1, line := (s.camera c.val).line + 1 } :=
      (s.pass ns.toNat).lineStored_camera c.val px true
    obtain ⟨hkept, honly, -, htaken⟩ := (s.pass ns.toNat).lineTaken_spec c px true
    obtain ⟨hfaulted, hcrc⟩ := v.lineCrc_second c.val (by rw [hcam]; exact hprev) (by rw [hcam]; exact hfirst)
    exact ⟨_, exec_line_inTime true hline hfree, hkept, hfaulted, hcrc, honly,
      ((s.pass_frame _).noRegs (by simp)).trans (htaken.widen (by simp))⟩
  case lineEcc =>
    intro s c px crc fe ns hlive
    obtain ⟨hfaulted, hcam, hop, hframe⟩ := (s.pass ns.toNat).headerLost_spec c.val
    exact ⟨_, exec_cameraLineReceived_ecc s c px crc fe ns hlive, hfaulted, by rw [hcam], hop.n, hop.only,
      ((s.pass_frame _).noRegs (by simp)).trans (hframe.widen (by simp))⟩
  case noEnd =>
    intro s c p hruns hopen hrx
    have hreach := s.reachVt_frame (p.at_ + (s.lineNs c.val (s.camHeight c.val - 1) + 10000))
    have hvt := s.le_reachVt (p.at_ + (s.lineNs c.val (s.camHeight c.val - 1) + 10000))
    have heq : exec (.cameraLockTimeout c) s = .next _ := congrArg Host.Outcome.next (s.lockTimeout_receiving c.val hruns hopen hrx)
    obtain ⟨hfaulted, hlock, hclosed, hop, hframe⟩ :=
      (s.reachVt (p.at_ + (s.lineNs c.val (s.camHeight c.val - 1) + 10000))).lockLost_endFrame_spec c.val
    refine ⟨_, heq, hfaulted, hlock, hclosed, ?_, onlyCam_trans (CamOp.of_frame hreach (by simp) c.val).only hop.only,
      (hreach.noRegs (by simp)).trans (hframe.widen (by simp))⟩
    rw [Nat.add_assoc, hframe.same .vt (by simp)]
    exact hvt
  case noStart =>
    intro s c p rest hruns hopen hdue
    let u := s.reachVt (p.at_ + (s.lineNs c.val (s.camHeight c.val - 1) + 10000))
    let x : Cam := { s.camera c.val with due := rest, crc := false, crcPrev := false }
    have hreach := s.reachVt_frame (p.at_ + (s.lineNs c.val (s.camHeight c.val - 1) + 10000))
    have hvt := s.le_reachVt (p.at_ + (s.lineNs c.val (s.camHeight c.val - 1) + 10000))
    have heq : exec (.cameraLockTimeout c) s = .next _ := congrArg Host.Outcome.next (s.lockTimeout_waiting c.val hruns hopen hdue)
    have hput := u.setCam_frame c.val x
    obtain ⟨hfaulted, hlock, hcam, hop, hframe⟩ := (u.setCam c.val x).lockLost_spec c.val
    refine ⟨_, heq, hfaulted, hlock, ?_, ?_,
      onlyCam_trans (CamOp.of_frame hreach (by simp) c.val).only (onlyCam_trans (u.setCam_onlyCam c.val x) hop.only),
      (hreach.noRegs (by simp)).trans ((hput.noRegs (by simp)).trans (hframe.widen (by simp)))⟩
    · rw [hcam, u.setCam_camera_same]
      rfl
    · rw [Nat.add_assoc, hframe.same .vt (by simp), hput.same .vt (by simp)]
      exact hvt
  case linkDown =>
    intro s c hlink hrun
    obtain ⟨hshown, hlock, hcam, honly, hput⟩ := s.linkShownDown_spec c.val
    have hfault := (s.linkShownDown c.val).camFault_frame c.val 0 Code.CAM_LINK
    refine ⟨_, exec_cameraLinkDown s c hlink hrun, State.camFault_faulted _ (by decide) (by decide), ?_, ?_, ?_,
      onlyCam_trans honly (State.camFault_camOp _ c.val 0 _).only, (hput.mono (by simp) fun _ => .inl).trans (hfault.mono (by simp) fun _ => .inr)⟩
    · exact (flag_of_frame hfault (camStatus_ne_camFault c.val)).trans hshown
    · exact (flag_of_frame hfault (camStatus_ne_camFault c.val)).trans hlock
    · rw [State.camFault_camera, hcam]
      rfl
  case linkUp =>
    intro s c hon
    exact ⟨s.wr (Fd.SF_CAM_STATUS_LINK c.val) 1, congrArg Host.Outcome.next (if_pos hon), flag_wr_one s (Fd.SF_CAM_STATUS_LINK c.val) rfl
      (by show 1 ≤ 31; decide), rd_wr_beside s (Fd.SF_CAM_STATUS_LINK c.val) (Fd.SF_CAM_STATUS_FRAME c.val) 1 rfl rfl, s.wr_frame _ _⟩

end Sys2Proof.Machine
end

section
/-! SUPPORT. What a write that passes its checks leaves in SF_CAM_CTRL, SF_CAM_I2C and SF_POC; a camera's start and stop (R174, R184, R196) and the
I2C tunnel (R171). -/

namespace Sys2Proof.Machine

/-! ### A written register (R41) -/

theorem tbit_eq_getBits (w n : Nat) : tbit w n = (getBits w n n == 1) := by simp [tbit, getBits]

theorem getBits_putBits_self (w v : Nat) {hi lo : Nat} (h : lo ≤ hi) : getBits (putBits w hi lo (getBits v hi lo)) hi lo = getBits v hi lo := by
  rw [getBits_putBits _ _ _ _ h]
  exact Nat.mod_mod _ _

/-- The register `a`, of the fields `fs`, takes the word of a write that passes. -/
def State.written (s : State) (a : Nat) (fs : List FieldRow) (w : Word) : State :=
  s.setReg a (BitVec.ofNat 32 (writeFields fs (s.reg a).toNat w.toNat))

/-- The access is answered. -/
def State.answered (s : State) : State := { s with resp := .done }

theorem State.answered_frame (s : State) : Frame s s.answered [.resp] (fun _ => False) := s.setResp_frame .done
theorem State.answered_rd (s : State) (f : Fld) : s.answered.rd f = s.rd f := rfl
theorem State.answered_flag (s : State) (f : Fld) : s.answered.flag f = s.flag f := rfl
theorem State.answered_camera (s : State) (c : Nat) : s.answered.camera c = s.camera c := rfl

theorem State.regWrite_written {s : State} {who : Who} {bytes a base : Nat} {w : Word} {held bad : Bool} {refuse : Nat} (effect : State → State)
    {dims : List (Nat × Nat × Nat)} {writer : Writer} {fs : List FieldRow} {x : List Nat} (hm : RegMap.at a = some (⟨base, dims, writer, fs⟩, x))
    (h : s.passesChecks who bytes a w held bad = true) (hr : refuse = Code.DONE) :
    s.regWrite who bytes a w held bad refuse effect = (effect (s.written a fs w)).answered := by
  rw [State.regWrite_at effect hm h hr, ← State.written, ← State.answered]

theorem State.written_frame (s : State) (a : Nat) (fs : List FieldRow) (w : Word) : Frame s (s.written a fs w) [.regs] (fun b => b = a) :=
  s.setReg_frame a _

@[simp] theorem State.written_camera (s : State) (a : Nat) (fs : List FieldRow) (w : Word) (c : Nat) : (s.written a fs w).camera c = s.camera c := rfl

theorem State.written_rd (s : State) (f : Fld) (fs : List FieldRow) (w : Word) (h : f.sound = true) :
    (s.written f.addr fs w).rd f = getBits (writeFields fs (s.reg f.addr).toNat w.toNat) f.hi f.lo := by
  unfold State.written State.rd
  rw [reg_setReg_same, getBits_toNat_ofNat _ (Nat.lt_succ_of_le (f.sound_iff.mp h).2)]

/-- A field that takes its bits from the word written. -/
theorem State.written_rd_taken (s : State) {f : Fld} {fs : List FieldRow} (w : Word) (h : f.sound = true)
    (htaken : ∀ old v, getBits (writeFields fs old v) f.hi f.lo = getBits v f.hi f.lo) :
    (s.written f.addr fs w).rd f = getBits w.toNat f.hi f.lo := (s.written_rd f fs w h).trans (htaken _ _)

theorem State.written_flag_taken (s : State) {f : Fld} {fs : List FieldRow} (w : Word) (h : f.sound = true) (hbit : f.hi = f.lo)
    (htaken : ∀ old v, getBits (writeFields fs old v) f.hi f.lo = getBits v f.hi f.lo) :
    (s.written f.addr fs w).flag f = tbit w.toNat f.lo := by
  rw [State.flag, s.written_rd_taken w h htaken, hbit, tbit_eq_getBits]

/-! ### The three registers -/

def camCtrlFields : List FieldRow := [⟨0, 0, .rw, none⟩]
def camI2cFields : List FieldRow := [⟨31, 16, .ro, none⟩, ⟨15, 15, .rw, none⟩, ⟨14, 8, .rw, none⟩, ⟨7, 0, .rw, none⟩]
def pocFields : List FieldRow := [⟨31, 31, .rw, none⟩, ⟨30, 28, .ro, none⟩, ⟨27, 26, .ro, none⟩, ⟨9, 0, .ro, none⟩]

theorem camCtrl_row (c : Fin 4) :
    RegMap.at (Rg.SF_CAM_CTRL c.val) = some (⟨0x200A0020, [(0, 4, 4)], .district0, camCtrlFields⟩, [c.val]) := by
  revert c
  decide

theorem camI2c_row (c : Fin 4) :
    RegMap.at (Rg.SF_CAM_I2C c.val) = some (⟨0x200A0040, [(0, 4, 4)], .district0, camI2cFields⟩, [c.val]) := by
  revert c
  decide

theorem poc_row (c : Fin 4) : RegMap.at (Rg.SF_POC c.val) = some (⟨0x200A0350, [(0, 4, 4)], .district0, pocFields⟩, [c.val]) := by
  revert c
  decide

theorem camI2cFields_eq (old v : Nat) :
    writeFields camI2cFields old v = putBits (putBits (putBits old 15 15 (getBits v 15 15)) 14 8 (getBits v 14 8)) 7 0 (getBits v 7 0) := rfl

theorem camCtrl_written_run (s : State) (c : Nat) (w : Word) :
    (s.written (Rg.SF_CAM_CTRL c) camCtrlFields w).flag (Fd.SF_CAM_CTRL_RUN c) = tbit w.toNat 0 :=
  s.written_flag_taken (f := Fd.SF_CAM_CTRL_RUN c) w rfl rfl fun _ _ => getBits_putBits_self _ _ (Nat.le_refl 0)

/-- SF_CAM_STATUS is another register, where a camera's are spaced 4 bytes and there are four of them. -/
theorem camCtrl_written_link (s : State) (c : Fin 4) (w : Word) :
    (s.written (Rg.SF_CAM_CTRL c.val) camCtrlFields w).flag (Fd.SF_CAM_STATUS_LINK c.val) = s.flag (Fd.SF_CAM_STATUS_LINK c.val) :=
  flag_of_frame (s.written_frame _ _ w) (show 0x200A0030 + 0x4 * c.val ≠ 0x200A0020 + 0x4 * c.val by omega)

theorem poc_written_on (s : State) (c : Nat) (w : Word) : (s.written (Rg.SF_POC c) pocFields w).flag (Fd.SF_POC_ON c) = tbit w.toNat 31 :=
  s.written_flag_taken (f := Fd.SF_POC_ON c) w rfl rfl fun _ _ => getBits_putBits_self _ _ (Nat.le_refl 31)

theorem camI2c_written_dev (s : State) (c : Nat) (w : Word) :
    (s.written (Rg.SF_CAM_I2C c) camI2cFields w).rd (Fd.SF_CAM_I2C_DEV c) = getBits w.toNat 14 8 := by
  refine s.written_rd_taken (f := Fd.SF_CAM_I2C_DEV c) w rfl fun old v => ?_
  show getBits _ 14 8 = _
  rw [camI2cFields_eq, getBits_putBits_ne _ _ _ _ _ _ (by decide) (by decide)]
  exact getBits_putBits_self _ _ (by decide)

theorem camI2c_written_read (s : State) (c : Nat) (w : Word) :
    (s.written (Rg.SF_CAM_I2C c) camI2cFields w).rd (Fd.SF_CAM_I2C_RD c) = getBits w.toNat 15 15 := by
  refine s.written_rd_taken (f := Fd.SF_CAM_I2C_RD c) w rfl fun old v => ?_
  show getBits _ 15 15 = _
  rw [camI2cFields_eq, getBits_putBits_ne _ _ _ _ _ _ (by decide) (by decide), getBits_putBits_ne _ _ _ _ _ _ (by decide) (by decide)]
  exact getBits_putBits_self _ _ (by decide)

/-! ### What the plan decides -/

theorem State.camFps_congr {s t : State} (h : t.plan = s.plan) (c : Nat) : t.camFps c = s.camFps c := by
  simp only [State.camFps, State.camItem, State.item, h]
theorem State.dspHz_congr {s t : State} (h : t.plan = s.plan) (d : Nat) : t.dspHz d = s.dspHz d := by
  simp only [State.dspHz, State.dspItem, State.item, h]
theorem State.viewCam_congr {s t : State} (h : t.plan = s.plan) (i : Nat) : t.viewCam i = s.viewCam i := by
  simp only [State.viewCam, State.viewItem, State.item2, h]
theorem State.viewsOfCam_congr {s t : State} (h : t.plan = s.plan) (c : Nat) : t.viewsOfCam c = s.viewsOfCam c := by
  simp only [State.viewsOfCam, State.viewCam, State.viewItem, State.item2, h]

theorem State.viewCam_of_mem {s : State} {c i : Nat} (h : i ∈ s.viewsOfCam c) : s.viewCam i = c := by
  unfold State.viewsOfCam at h
  simp only [List.mem_filter, Bool.and_eq_true, beq_iff_eq] at h
  exact h.2.2

/-! ### The views of a camera that starts (R174, R184) -/

/-- A loop whose body has a frame for each element of the list has it as a whole. -/
theorem forAll_frame {α : Type} {f : State → α → State} {parts : List Piece} {regs : Nat → Prop} (l : List α)
    (hf : ∀ x ∈ l, ∀ s, Frame s (f s x) parts regs) (s : State) : Frame s (forAll l f s) parts regs := by
  induction l generalizing s with
  | nil => exact .refl s parts regs
  | cons x rest ih =>
    exact (hf x List.mem_cons_self s).trans (ih (fun y hy => hf y (List.mem_cons_of_mem x hy)) (f s x))

theorem State.loadFail_frame (s : State) (code slice : Nat) (overlay : Bool) (i : Nat) :
    Frame s (s.loadFail code slice overlay i) [.regs] (fun a => a = Rg.SF_LOAD_FAIL) := s.setReg_frame _ _

theorem State.setView_frame (s : State) (i : Nat) (x : SView) : Frame s (s.setView i x) [.sf] (fun _ => False) :=
  frame_of_blot_noRegs (by simp) (by simp)

/-- The view `i` runs its plan map `m`. -/
def State.viewStarted (s : State) (i : Nat) (m : List Byte) : State :=
  (((s.setView i { s.view i with map := m, target := none, stale := 0, src := none, age := none }).wr (Fd.SF_VIEW_STATE_ANGLE i) 0).wr
    (Fd.SF_VIEW_STATE_PLAN_MAP i) 1).wr (Fd.SF_VIEW_STATE_RUN i) 1

theorem State.viewStarted_frame (s : State) (i : Nat) (m : List Byte) :
    Frame s (s.viewStarted i m) [.sf, .regs] (fun a => a = Rg.SF_VIEW_STATE i) :=
  ((s.setView_frame i _).noRegs (by simp)).trans (((State.wr_frame _ (Fd.SF_VIEW_STATE_ANGLE i) 0).trans
    ((State.wr_frame _ (Fd.SF_VIEW_STATE_PLAN_MAP i) 1).trans (State.wr_frame _ (Fd.SF_VIEW_STATE_RUN i) 1))).widen (by simp))

theorem State.startView_rate {s : State} {i : Nat} (h : s.camFps (s.viewCam i) ≠ s.dspHz (i / 4)) :
    s.startView i = s.loadFail Code.RATE_MISMATCH 0xFF false i := if_pos h

/-- A view starts, or a failure is recorded. -/
theorem State.startView_cases (s : State) (i : Nat) :
    (∃ code slice, s.startView i = s.loadFail code slice false i) ∨ s.startView i = s.viewStarted i (s.planMap i) := by
  unfold State.startView
  dsimp only
  split
  · exact .inl ⟨_, _, rfl⟩
  · split
    · exact .inl ⟨_, _, rfl⟩
    · exact .inr rfl

theorem State.startView_frame (s : State) (i : Nat) :
    Frame s (s.startView i) [.sf, .regs] (fun a => a = Rg.SF_LOAD_FAIL ∨ a = Rg.SF_VIEW_STATE i) := by
  rcases s.startView_cases i with ⟨code, slice, h⟩ | h <;> rw [h]
  · exact (s.loadFail_frame code slice false i).mono (by simp) fun _ => .inl
  · exact (s.viewStarted_frame i _).mono (by simp) fun _ => .inr

theorem State.startView_camera (s : State) (i c : Nat) : (s.startView i).camera c = s.camera c := by
  rcases s.startView_cases i with ⟨code, slice, h⟩ | h <;> rw [h]
  · exact State.camera_congr ((s.loadFail_frame code slice false i).same .sf (by simp)) c
  · rw [State.viewStarted, State.wr_camera, State.wr_camera, State.wr_camera, State.setView_camera]

theorem State.loadFail_rate (s : State) (i : Fin 8) :
    (s.loadFail Code.RATE_MISMATCH 0xFF false i.val).rd Fd.SF_LOAD_FAIL_CODE = Code.RATE_MISMATCH ∧
      (s.loadFail Code.RATE_MISMATCH 0xFF false i.val).rd Fd.SF_LOAD_FAIL_DSP = i.val / 4 ∧
      (s.loadFail Code.RATE_MISMATCH 0xFF false i.val).rd Fd.SF_LOAD_FAIL_INDEX = i.val % 4 := by
  have hreg : (s.loadFail Code.RATE_MISMATCH 0xFF false i.val).reg Rg.SF_LOAD_FAIL = _ := reg_setReg_same s _ _
  have hrd : ∀ hi lo, (s.loadFail Code.RATE_MISMATCH 0xFF false i.val).rd ⟨Rg.SF_LOAD_FAIL, hi, lo⟩ = getBits _ hi lo :=
    fun hi lo => congrArg (fun r : Word => getBits r.toNat hi lo) hreg
  refine ⟨(hrd 31 16).trans ?_, (hrd 2 2).trans ?_, (hrd 1 0).trans ?_⟩ <;> (clear hreg hrd; revert i; decide)

/-! ### RUN of a camera (R196) -/

/-- The camera counts lines and triggers anew. -/
def Cam.restarted (x : Cam) : Cam :=
  { Cam.reset with i2cAt := x.i2cAt, shorts := x.shorts, ext := x.ext, offAt := x.offAt, on0At := x.on0At, counted := x.counted }

def State.camRestarted (s : State) (c : Nat) : State := (s.setCam c (s.camera c).restarted).wr (Fd.SF_CAM_STATUS_RUN c) 1

/-- The registers that the start of camera `c` may change. -/
abbrev State.StartReg (s : State) (c a : Nat) : Prop :=
  a = Rg.SF_CAM_STATUS c ∨ a = Rg.SF_LOAD_FAIL ∨ ∃ i ∈ s.viewsOfCam c, a = Rg.SF_VIEW_STATE i

theorem State.camRestarted_frame (s : State) (c : Nat) : Frame s (s.camRestarted c) [.sf, .regs] (fun a => a = Rg.SF_CAM_STATUS c) :=
  ((s.setCam_frame c _).noRegs (by simp)).trans ((State.wr_frame _ (Fd.SF_CAM_STATUS_RUN c) 1).widen (by simp))

theorem State.camRestarted_camera (s : State) (c : Nat) : (s.camRestarted c).camera c = (s.camera c).restarted :=
  (State.wr_camera _ _ _ c).trans (s.setCam_camera_same c _)

theorem State.viewsStart_frame (s u : State) (c : Nat) :
    Frame u (forAll (s.viewsOfCam c) State.startView u) [.sf, .regs]
      (fun a => a = Rg.SF_LOAD_FAIL ∨ ∃ i ∈ s.viewsOfCam c, a = Rg.SF_VIEW_STATE i) :=
  forAll_frame _ (fun i hi v => (v.startView_frame i).mono (by simp) fun _ h => h.imp_right fun ha => ⟨i, hi, ha⟩) u

theorem State.viewsStart_camera (u : State) (l : List Nat) (c : Nat) : (forAll l State.startView u).camera c = u.camera c :=
  forAll_keeps (fun v => v.camera c = u.camera c) l State.startView (fun v i h => (v.startView_camera i c).trans h) u rfl

theorem State.viewsStart_flag (s u : State) (c : Fin 4) {f : Fld} (hf : f.addr = Rg.SF_CAM_STATUS c.val) :
    (forAll (s.viewsOfCam c.val) State.startView u).flag f = u.flag f := by
  refine flag_of_frame (s.viewsStart_frame u c.val) ?_
  rw [hf]
  rintro (h | ⟨i, -, h⟩) <;> simp only [Rg.SF_CAM_STATUS, Rg.SF_LOAD_FAIL, Rg.SF_VIEW_STATE] at h <;> omega

theorem State.camStart_eq {s : State} {c : Fin 4} (hlink : s.flag (Fd.SF_CAM_STATUS_LINK c.val) = true) :
    s.camStart c.val = forAll (s.viewsOfCam c.val) State.startView (s.camRestarted c.val) := by
  have hviews : (s.setCam c.val (s.camera c.val).restarted).viewsOfCam c.val = s.viewsOfCam c.val := State.viewsOfCam_congr rfl _
  have hup : (forAll (s.viewsOfCam c.val) State.startView (s.camRestarted c.val)).flag (Fd.SF_CAM_STATUS_LINK c.val) = true := by
    rw [s.viewsStart_flag _ c rfl, State.camRestarted, flag_wr_beside _ (Fd.SF_CAM_STATUS_RUN c.val) (Fd.SF_CAM_STATUS_LINK c.val) 1 rfl rfl,
      State.setCam_flag, hlink]
  unfold State.camStart
  dsimp only
  rw [← Cam.restarted, hviews, ← State.camRestarted, if_pos hup]

theorem State.camStart_spec {s : State} {c : Fin 4} (hlink : s.flag (Fd.SF_CAM_STATUS_LINK c.val) = true) :
    (s.camStart c.val).flag (Fd.SF_CAM_STATUS_RUN c.val) = true ∧ ((s.camStart c.val).camera c.val) = (s.camera c.val).restarted ∧
      (∀ k, k ≠ c.val → (s.camStart c.val).camera k = s.camera k) ∧ Frame s (s.camStart c.val) [.sf, .regs] (s.StartReg c.val) := by
  rw [State.camStart_eq hlink]
  refine ⟨?_, ?_, fun k hk => ?_, ?_⟩
  · rw [s.viewsStart_flag _ c rfl]
    exact flag_wr_one _ (Fd.SF_CAM_STATUS_RUN c.val) rfl (by show 0 ≤ 31; decide)
  · rw [State.viewsStart_camera, State.camRestarted_camera]
  · rw [State.viewsStart_camera]
    exact s.setCam_camera_ne c.val _ k hk
  · exact ((s.camRestarted_frame c.val).mono (by simp) fun _ => .inl).trans ((s.viewsStart_frame _ c.val).mono (by simp) fun _ => .inr)

/-- The one view of a camera at another rate than its display's does not start: that is recorded. -/
theorem State.camStart_rate {s : State} {c : Fin 4} {i : Nat} (hlink : s.flag (Fd.SF_CAM_STATUS_LINK c.val) = true)
    (hviews : s.viewsOfCam c.val = [i]) (hrate : s.camFps c.val ≠ s.dspHz (i / 4)) :
    s.camStart c.val = (s.camRestarted c.val).loadFail Code.RATE_MISMATCH 0xFF false i := by
  have hplan : (s.camRestarted c.val).plan = s.plan := (s.camRestarted_frame c.val).same .plan (by simp)
  have hcam : s.viewCam i = c.val := State.viewCam_of_mem (by rw [hviews]; exact List.mem_singleton_self i)
  rw [State.camStart_eq hlink, hviews]
  refine State.startView_rate ?_
  rw [State.viewCam_congr hplan, State.camFps_congr hplan, State.dspHz_congr hplan, hcam]
  exact hrate

/-- The camera triggers no more. -/
def State.camStopped (s : State) (c : Nat) : State :=
  (s.setCam c { s.camera c with trig := none, bound := none, due := [], open_ := false }).wr (Fd.SF_CAM_STATUS_RUN c) 0

def State.viewStopped (s : State) (i : Nat) : State := s.wr (Fd.SF_VIEW_STATE_RUN i) 0

theorem State.viewsStop_flag (l : List Nat) (s : State) {i : Nat} (h : i ∈ l ∨ s.flag (Fd.SF_VIEW_STATE_RUN i) = false) :
    (forAll l State.viewStopped s).flag (Fd.SF_VIEW_STATE_RUN i) = false := by
  induction l generalizing s with
  | nil => exact h.resolve_left List.not_mem_nil
  | cons x rest ih =>
    refine ih (s.viewStopped x) ?_
    by_cases hx : i = x
    · exact .inr (hx ▸ flag_wr_zero s (Fd.SF_VIEW_STATE_RUN i) (Nat.le_refl 0) (by show 0 ≤ 31; decide))
    · have hne : (Fd.SF_VIEW_STATE_RUN i).addr ≠ (Fd.SF_VIEW_STATE_RUN x).addr := by
        show 0x200A0080 + 0x4 * i ≠ 0x200A0080 + 0x4 * x
        omega
      refine h.imp (fun hm => (List.mem_cons.mp hm).resolve_left hx) fun hflag => ?_
      rw [State.viewStopped, flag_wr_ne s _ _ 0 hne, hflag]

theorem State.camStop_eq (s : State) (c : Nat) : s.camStop c = forAll (s.viewsOfCam c) State.viewStopped (s.camStopped c) := by
  have hviews : ∀ x, (s.setCam c x).viewsOfCam c = s.viewsOfCam c := fun _ => State.viewsOfCam_congr rfl _
  unfold State.camStop
  dsimp only
  rw [hviews]
  rfl

theorem State.viewsStop_frame (s u : State) (c : Nat) :
    Frame u (forAll (s.viewsOfCam c) State.viewStopped u) [.regs] (fun a => ∃ i ∈ s.viewsOfCam c, a = Rg.SF_VIEW_STATE i) :=
  forAll_frame _ (fun i hi v => (v.wr_frame (Fd.SF_VIEW_STATE_RUN i) 0).mono (by simp) fun _ ha => ⟨i, hi, ha⟩) u

theorem State.camStop_spec (s : State) (c : Fin 4) :
    (s.camStop c.val).flag (Fd.SF_CAM_STATUS_RUN c.val) = false ∧
      (∀ i ∈ s.viewsOfCam c.val, (s.camStop c.val).flag (Fd.SF_VIEW_STATE_RUN i) = false) ∧ ((s.camStop c.val).camera c.val).due = [] ∧
      Frame s (s.camStop c.val) [.sf, .regs]
        (fun a => a = Rg.SF_CAM_STATUS c.val ∨ ∃ i ∈ s.viewsOfCam c.val, a = Rg.SF_VIEW_STATE i) := by
  have hviews := s.viewsStop_frame (s.camStopped c.val) c.val
  rw [s.camStop_eq]
  refine ⟨?_, fun i hi => State.viewsStop_flag _ _ (.inl hi), ?_, ?_⟩
  · refine (flag_of_frame hviews ?_).trans (flag_wr_zero _ (Fd.SF_CAM_STATUS_RUN c.val) (Nat.le_refl 0) (by show 0 ≤ 31; decide))
    rintro ⟨i, -, h⟩
    change 0x200A0030 + 0x4 * c.val = 0x200A0080 + 0x4 * i at h
    omega
  · rw [State.camera_congr (hviews.same .sf (by simp)), State.camStopped, State.wr_camera, State.setCam_camera_same]
  · exact (((s.setCam_frame c.val _).noRegs (by simp)).trans ((State.wr_frame _ (Fd.SF_CAM_STATUS_RUN c.val) 0).mono (by simp) fun _ => .inl)).trans
      (hviews.mono (by simp) fun _ => .inr)

end Sys2Proof.Machine
end

section
/-! SUPPORT. The I2C tunnel (R171) and power over coax (R205) as rules: a transaction's start, the supply's fields, a fault of it that is detected,
its shorts to ground, and what the writes of a camera's registers come to. -/

namespace Sys2Proof.Machine

/-! ### The I2C tunnel (R171) -/

theorem rd_wr_result (s : State) (c : Nat) {v : Nat} (hv : v < 65536) :
    (s.wr (Fd.SF_CAM_I2C_RESULT c) v).rd (Fd.SF_CAM_I2C_RESULT c) = v := (rd_wr_self s _ v rfl).trans (Nat.mod_eq_of_lt hv)

/-- What a write of SF_CAM_I2C does beyond its fields. -/
def State.i2cStarted (s : State) (c : Nat) : State :=
  if s.flag (Fd.SF_CAM_STATUS_LINK c) then (s.setCam c { s.camera c with i2cAt := s.now }).wr (Fd.SF_CAM_I2C_RESULT c) Code.BUSY
  else s.wr (Fd.SF_CAM_I2C_RESULT c) Code.WRONG_STATE

theorem State.i2cStarted_frame (s : State) (c : Nat) : Frame s (s.i2cStarted c) [.sf, .regs] (fun a => a = Rg.SF_CAM_I2C c) := by
  unfold State.i2cStarted
  split
  · exact ((s.setCam_frame c _).noRegs (by simp)).trans ((State.wr_frame _ (Fd.SF_CAM_I2C_RESULT c) _).widen (by simp))
  · exact (s.wr_frame (Fd.SF_CAM_I2C_RESULT c) _).widen (by simp)

theorem State.i2cStarted_result (s : State) (c : Nat) :
    (s.i2cStarted c).rd (Fd.SF_CAM_I2C_RESULT c) = if s.flag (Fd.SF_CAM_STATUS_LINK c) then Code.BUSY else Code.WRONG_STATE := by
  unfold State.i2cStarted
  split <;> exact rd_wr_result _ c (by decide)

theorem State.i2cStarted_rd_beside (s : State) (c : Nat) {f : Fld} (ha : f.addr = Rg.SF_CAM_I2C c)
    (hb : (Fd.SF_CAM_I2C_RESULT c).beside f = true) : (s.i2cStarted c).rd f = s.rd f := by
  unfold State.i2cStarted
  split <;> rw [rd_wr_beside _ (Fd.SF_CAM_I2C_RESULT c) f _ ha hb]
  rw [State.setCam_rd]

theorem State.i2cStarted_camera {s : State} {c : Nat} (h : s.flag (Fd.SF_CAM_STATUS_LINK c) = true) :
    ((s.i2cStarted c).camera c).i2cAt = s.now := by
  rw [State.i2cStarted, if_pos h, State.wr_camera, State.setCam_camera_same]

/-! ### The supply's fields (R205) -/

theorem State.setPoc_pocState (s : State) (c : Nat) {st : Nat} (h : st < 8) : (s.setPoc c st).pocState c = st :=
  (rd_wr_self s (Fd.SF_POC_STATE c) st rfl).trans (Nat.mod_eq_of_lt h)

theorem State.setPoc_frame (s : State) (c st : Nat) : Frame s (s.setPoc c st) [.regs] (fun a => a = Rg.SF_POC c) := s.wr_frame (Fd.SF_POC_STATE c) st

theorem State.setPoc_camera (s : State) (c st k : Nat) : (s.setPoc c st).camera k = s.camera k := by rw [State.setPoc, State.wr_camera]

/-- A field of SF_POC beside STATE. -/
theorem State.setPoc_rd_beside (s : State) (c st : Nat) {f : Fld} (ha : f.addr = Rg.SF_POC c) (hb : (Fd.SF_POC_STATE c).beside f = true) :
    (s.setPoc c st).rd f = s.rd f := rd_wr_beside s _ f st ha hb

/-- A write of another field of SF_POC leaves STATE. -/
theorem wr_pocState (s : State) {c : Nat} {f : Fld} (v : Nat) (ha : Rg.SF_POC c = f.addr) (hb : f.beside (Fd.SF_POC_STATE c) = true) :
    (s.wr f v).pocState c = s.pocState c := rd_wr_beside s f (Fd.SF_POC_STATE c) v ha hb

/-- The supply is off, with STATE `st`. -/
def State.pocOff (s : State) (c st : Nat) : State := (s.setPoc c st).wr (Fd.SF_POC_CURRENT c) 0

theorem State.pocOff_spec (s : State) (c : Nat) {st : Nat} (h : st < 8) :
    (s.pocOff c st).pocState c = st ∧ (s.pocOff c st).rd (Fd.SF_POC_CURRENT c) = 0 ∧
      (s.pocOff c st).rd (Fd.SF_POC_RETRIES c) = s.rd (Fd.SF_POC_RETRIES c) ∧ (s.pocOff c st).camera c = s.camera c ∧
      Frame s (s.pocOff c st) [.regs] (fun a => a = Rg.SF_POC c) := by
  refine ⟨?state, rd_wr_self _ (Fd.SF_POC_CURRENT c) 0 rfl, ?retries, ?camera, (s.setPoc_frame c st).trans (State.wr_frame _ (Fd.SF_POC_CURRENT c) 0)⟩
  case state => rw [State.pocOff, wr_pocState _ 0 rfl rfl, s.setPoc_pocState c h]
  case retries => rw [State.pocOff, rd_wr_beside _ (Fd.SF_POC_CURRENT c) (Fd.SF_POC_RETRIES c) 0 rfl rfl, s.setPoc_rd_beside c st rfl rfl]
  case camera => rw [State.pocOff, State.wr_camera, s.setPoc_camera]

/-! ### A fault of the supply is detected (R204, R205) -/

/-- The registers of a camera's supply and of its faults. -/
abbrev PocReg (c a : Nat) : Prop := a = Rg.SF_POC c ∨ a = Rg.SF_CAM_FAULT c

theorem State.pocDetected_frame (s : State) (c code : Nat) :
    Frame s (s.pocDetected c code) [.sf, .regs, .ic] (fun a => a = Rg.SF_CAM_FAULT c) :=
  ((s.setCam_frame c _).noRegs (by simp)).trans (State.camFault_frame _ c 5 code)

theorem State.pocDetected_faulted (s : State) (c : Nat) {code : Nat} (h : code < 65536) : CamFaulted (s.pocDetected c code) c 5 code :=
  State.camFault_faulted _ (by decide) h

theorem State.pocDetected_camera (s : State) (c code : Nat) :
    (s.pocDetected c code).camera c = { (s.camera c).faulted (s.flag (Fd.SF_CAM_FAULT_FAULT c)) with pocBad := true } := by
  refine (State.camFault_camera _ c 5 code).trans ?_
  rw [s.setCam_camera_same]
  rfl

theorem State.pocDetected_rd (s : State) (c : Fin 4) (code : Nat) {f : Fld} (hf : f.addr = Rg.SF_POC c.val) :
    (s.pocDetected c.val code).rd f = s.rd f := by
  refine (s.pocDetected_frame c.val code).rd ?_
  rw [hf]
  show 0x200A0350 + 0x4 * c.val ≠ 0x200A0340 + 0x4 * c.val
  omega

/-! ### Shorts to ground (R205) -/

/-- RETRIES counts anew from the first short of a count. -/
def State.retriesFrom (s : State) (c : Nat) (old : List Nat) : State := if old.isEmpty then s.wr (Fd.SF_POC_RETRIES c) 0 else s

theorem State.retriesFrom_frame (s : State) (c : Nat) (old : List Nat) : Frame s (s.retriesFrom c old) [.regs] (fun a => a = Rg.SF_POC c) := by
  unfold State.retriesFrom
  split
  · exact s.wr_frame (Fd.SF_POC_RETRIES c) 0
  · exact .refl s _ _

theorem State.retriesFrom_retries (s : State) (c : Nat) (old : List Nat) :
    (s.retriesFrom c old).rd (Fd.SF_POC_RETRIES c) = if old.isEmpty then 0 else s.rd (Fd.SF_POC_RETRIES c) := by
  unfold State.retriesFrom
  split
  · exact rd_wr_self s (Fd.SF_POC_RETRIES c) 0 rfl
  · rfl

/-- The short is recorded behind `old`, the shorts within 60 s of the first. -/
def State.shortNoted (s : State) (c : Nat) (old : List Nat) : State :=
  (s.retriesFrom c old).setCam c { s.camera c with shorts := old ++ [s.now], offAt := (s.retriesFrom c old).now }

/-- A supply that is on is short to ground. -/
def State.pocShorted (s : State) (c : Nat) (old : List Nat) : State :=
  ((s.shortNoted c old).pocOff c (if 4 ≤ (old ++ [s.now]).length then 3 else 2)).pocDetected c Code.POC_SHORT

theorem State.pocShort_first {s : State} {c : Nat} (hon : s.mirrorOn = true) (hsupply : s.pocOn c = true) (h : (s.camera c).shorts = []) :
    s.pocShort c = s.pocShorted c [] := by
  unfold State.pocShort
  rw [hon, hsupply, if_neg (by decide)]
  simp only [h]
  rw [State.pocShorted, State.pocOff, State.shortNoted, State.retriesFrom]

theorem State.pocShort_again {s : State} {c x : Nat} {rest : List Nat} (hon : s.mirrorOn = true) (hsupply : s.pocOn c = true)
    (h : (s.camera c).shorts = x :: rest) (hnow : s.now ≤ x + 60000000000) : s.pocShort c = s.pocShorted c (x :: rest) := by
  have hwithin : s.now - x ≤ 60 * sec := by
    show s.now - x ≤ 60000000000
    omega
  unfold State.pocShort
  rw [hon, hsupply, if_neg (by decide)]
  simp only [h, if_pos hwithin]
  rw [State.pocShorted, State.pocOff, State.shortNoted, State.retriesFrom]

theorem State.shortNoted_camera (s : State) (c : Nat) (old : List Nat) :
    ((s.shortNoted c old).camera c).shorts = old ++ [s.now] ∧ ((s.shortNoted c old).camera c).offAt = s.now := by
  unfold State.shortNoted
  rw [State.setCam_camera_same]
  exact ⟨rfl, (s.retriesFrom_frame c old).same .now (by simp)⟩

theorem State.pocShorted_spec (s : State) (c : Fin 4) (old : List Nat) :
    (s.pocShorted c.val old).pocState c.val = (if 3 ≤ old.length then 3 else 2) ∧
      (s.pocShorted c.val old).rd (Fd.SF_POC_RETRIES c.val) = (if old.isEmpty then 0 else s.rd (Fd.SF_POC_RETRIES c.val)) ∧
      (s.pocShorted c.val old).rd (Fd.SF_POC_CURRENT c.val) = 0 ∧ ((s.pocShorted c.val old).camera c.val).offAt = s.now ∧
      ((s.pocShorted c.val old).camera c.val).shorts = old ++ [s.now] ∧ CamFaulted (s.pocShorted c.val old) c.val 5 Code.POC_SHORT ∧
      Frame s (s.pocShorted c.val old) [.sf, .regs, .ic] (PocReg c.val) := by
  obtain ⟨hshorts, hat⟩ := s.shortNoted_camera c.val old
  obtain ⟨hstate, hcurrent, hretries, hcam, hoff⟩ :=
    (s.shortNoted c.val old).pocOff_spec c.val (st := if 4 ≤ (old ++ [s.now]).length then 3 else 2) (by split <;> decide)
  have hcamera := State.pocDetected_camera ((s.shortNoted c.val old).pocOff c.val (if 4 ≤ (old ++ [s.now]).length then 3 else 2)) c.val
    Code.POC_SHORT
  rw [hcam] at hcamera
  unfold State.pocShorted
  refine ⟨?state, ?retries, ?current, ?offAt, ?shorts, State.pocDetected_faulted _ c.val (by decide), ?frame⟩
  case state =>
    refine (State.pocDetected_rd _ c _ rfl).trans (hstate.trans ?_)
    simp
  case retries =>
    rw [State.pocDetected_rd _ c _ rfl, hretries, State.shortNoted, State.setCam_rd, s.retriesFrom_retries]
  case current => rw [State.pocDetected_rd _ c _ rfl, hcurrent]
  case offAt =>
    rw [hcamera]
    exact hat
  case shorts =>
    rw [hcamera]
    exact hshorts
  case frame =>
    exact ((s.retriesFrom_frame c.val old).mono (by simp) fun _ => .inl).trans (((State.setCam_frame _ c.val _).noRegs (by simp)).trans
      ((hoff.mono (by simp) fun _ => .inl).trans ((State.pocDetected_frame _ c.val _).mono (by simp) fun _ => .inr)))

/-! ### What the writes of the three registers come to -/

theorem exec_cameraRunWrite_start {s : State} {who : Who} {c : Fin 4} {w : Word}
    (h : s.passesChecks (s.issuer who) 4 (Rg.SF_CAM_CTRL c.val) w false false = true) (hrun : tbit w.toNat 0 = true)
    (hitem : (s.camItem c.val).isSome = true) (hwas : s.flag (Fd.SF_CAM_CTRL_RUN c.val) = false) :
    exec (.cameraRunWrite who c w) s =
      .next ((s.written (Rg.SF_CAM_CTRL c.val) camCtrlFields w).camStart c.val).answered := by
  have hallowed : ¬(true && (s.camItem c.val).isNone) = true := by simpa [Option.isSome_iff_ne_none] using hitem
  refine congrArg Host.Outcome.next ?_
  rw [State.camCtrlWrite, hrun, hwas, State.regWrite_written _ (camCtrl_row c) h (if_neg hallowed), if_pos (c := (true && !false) = true) rfl]

theorem exec_cameraRunWrite_stop {s : State} {who : Who} {c : Fin 4} {w : Word}
    (h : s.passesChecks (s.issuer who) 4 (Rg.SF_CAM_CTRL c.val) w false false = true) (hrun : tbit w.toNat 0 = false)
    (hwas : s.flag (Fd.SF_CAM_CTRL_RUN c.val) = true) :
    exec (.cameraRunWrite who c w) s =
      .next ((s.written (Rg.SF_CAM_CTRL c.val) camCtrlFields w).camStop c.val).answered := by
  have hallowed : ¬(false && (s.camItem c.val).isNone) = true := Bool.false_ne_true
  refine congrArg Host.Outcome.next ?_
  rw [State.camCtrlWrite, hrun, hwas, State.regWrite_written _ (camCtrl_row c) h (if_neg hallowed),
    if_neg (c := (false && !true) = true) Bool.false_ne_true, if_pos (c := (!false && true) = true) rfl]

theorem exec_camI2cStart {s : State} {who : Who} {c : Fin 4} {w : Word}
    (h : s.passesChecks (s.issuer who) 4 (Rg.SF_CAM_I2C c.val) w false false = true) (hfree : s.rd (Fd.SF_CAM_I2C_RESULT c.val) ≠ Code.BUSY) :
    exec (.camI2cStart who c w) s = .next ((s.written (Rg.SF_CAM_I2C c.val) camI2cFields w).i2cStarted c.val).answered := by
  refine congrArg Host.Outcome.next ?_
  rw [State.i2cWrite, State.regWrite_written _ (camI2c_row c) h (if_neg hfree), ← State.i2cStarted]

end Sys2Proof.Machine
end

section
/-! SUPPORT. The obligation on the cameras' control, their supply and the I2C tunnel (R171, R174, R196, R202, R205). -/

namespace Sys2Proof.Machine

/-! ### The supply switched on and off (R205) -/

/-- ON goes to 0: the count of shorts ends. -/
def State.pocCleared (s : State) (c : Nat) : State :=
  ((s.setCam c { s.camera c with shorts := [], on0At := if s.pocOn c then some s.now else (s.camera c).on0At }).wr (Fd.SF_POC_RETRIES c) 0).wr
    (Fd.SF_POC_CURRENT c) 0

theorem State.pocCleared_frame (s : State) (c : Nat) : Frame s (s.pocCleared c) [.sf, .regs] (fun a => a = Rg.SF_POC c) :=
  ((s.setCam_frame c _).noRegs (by simp)).trans
    (((State.wr_frame _ (Fd.SF_POC_RETRIES c) 0).trans (State.wr_frame _ (Fd.SF_POC_CURRENT c) 0)).widen (by simp))

theorem State.pocCleared_spec (s : State) (c : Nat) :
    (s.pocCleared c).rd (Fd.SF_POC_RETRIES c) = 0 ∧ (s.pocCleared c).rd (Fd.SF_POC_CURRENT c) = 0 ∧ ((s.pocCleared c).camera c).shorts = [] ∧
      (s.pocCleared c).flag (Fd.SF_POC_ON c) = s.flag (Fd.SF_POC_ON c) := by
  unfold State.pocCleared
  refine ⟨?_, rd_wr_self _ (Fd.SF_POC_CURRENT c) 0 rfl, ?_, ?_⟩
  · rw [rd_wr_beside _ (Fd.SF_POC_CURRENT c) (Fd.SF_POC_RETRIES c) 0 rfl rfl]
    exact rd_wr_self _ (Fd.SF_POC_RETRIES c) 0 rfl
  · rw [State.wr_camera, State.wr_camera, State.setCam_camera_same]
  · rw [flag_wr_beside _ (Fd.SF_POC_CURRENT c) (Fd.SF_POC_ON c) 0 rfl rfl, flag_wr_beside _ (Fd.SF_POC_RETRIES c) (Fd.SF_POC_ON c) 0 rfl rfl,
      State.setCam_flag]

theorem State.setPoc_on (s : State) (c st : Nat) : (s.setPoc c st).flag (Fd.SF_POC_ON c) = s.flag (Fd.SF_POC_ON c) :=
  flag_wr_beside s (Fd.SF_POC_STATE c) (Fd.SF_POC_ON c) st rfl rfl

theorem exec_pocOnWrite_on {s : State} {who : Who} {c : Fin 4} {w : Word}
    (h : s.passesChecks (s.issuer who) 4 (Rg.SF_POC c.val) w false false = true) (hon : tbit w.toNat 31 = true)
    (hwas : s.flag (Fd.SF_POC_ON c.val) = false) (hext : (s.camera c.val).ext = false) :
    exec (.pocOnWrite who c w) s = .next ((s.written (Rg.SF_POC c.val) pocFields w).setPoc c.val 1).answered := by
  refine congrArg Host.Outcome.next ?_
  rw [State.pocWrite, State.regWrite_written _ (poc_row c) h rfl, hon, hwas, if_pos (c := (true && !false) = true) rfl]
  rw [State.written_camera, hext, if_neg Bool.false_ne_true]

theorem exec_pocOnWrite_off {s : State} {who : Who} {c : Fin 4} {w : Word}
    (h : s.passesChecks (s.issuer who) 4 (Rg.SF_POC c.val) w false false = true) (hoff : tbit w.toNat 31 = false)
    (hext : (s.camera c.val).ext = false) :
    exec (.pocOnWrite who c w) s =
      .next (((s.written (Rg.SF_POC c.val) pocFields w).pocCleared c.val).setPoc c.val 0).answered := by
  refine congrArg Host.Outcome.next ?_
  rw [State.pocWrite, State.regWrite_written _ (poc_row c) h rfl, hoff, Bool.false_and, if_neg Bool.false_ne_true, Bool.not_false, if_pos rfl]
  dsimp only
  rw [State.written_camera, if_neg (Bool.eq_false_iff.mp hext), State.pocCleared, State.written_camera]

/-! ### Shorts to battery and open wires (R205) -/

/-- The output is short to battery, or no longer. -/
def State.pocExt (s : State) (c : Nat) (b : Bool) : State := s.setCam c { s.camera c with ext := b }

theorem State.pocExternal_eq {s : State} {c : Nat} (hon : s.mirrorOn = true) (hext : (s.camera c).ext = false) :
    s.pocExternal c = ((s.pocExt c true).pocOff c 5).pocDetected c Code.POC_EXTERNAL := by
  unfold State.pocExternal
  rw [hon, hext, if_neg (by decide)]
  rw [State.pocOff, State.pocExt]

theorem State.pocExternalClear_eq {s : State} {c : Nat} (hext : (s.camera c).ext = true) (hon : s.flag (Fd.SF_POC_ON c) = true) :
    s.pocExternalClear c = (s.pocExt c false).setPoc c (if 4 ≤ (s.camera c).shorts.length then 3 else 1) := by
  unfold State.pocExternalClear
  dsimp only
  rw [hext, hon, if_pos (c := (true && true) = true) rfl, State.pocExt]

theorem State.pocOpen_wire {s : State} {c ma : Nat} (hon : s.mirrorOn = true) (hstate : s.pocState c = 1) (hma : ma < 30) :
    s.pocOpen c ma = ((s.wr (Fd.SF_POC_CURRENT c) ma).setPoc c 4).pocDetected c Code.POC_OPEN := by
  have hsupply : s.pocOn c = true := by rw [State.pocOn, hstate]; rfl
  have hclosed : (s.wr (Fd.SF_POC_CURRENT c) ma).pocState c = 1 := (wr_pocState s ma rfl rfl).trans hstate
  unfold State.pocOpen
  rw [hon, hsupply, if_neg (by decide)]
  dsimp only
  rw [if_neg (Nat.not_le_of_lt hma), hclosed, if_neg (by decide)]

theorem State.pocOpen_closed {s : State} {c ma : Nat} (hon : s.mirrorOn = true) (hsupply : s.pocOn c = true) (hma : 30 ≤ ma) :
    s.pocOpen c ma = (s.wr (Fd.SF_POC_CURRENT c) ma).setPoc c 1 := by
  unfold State.pocOpen
  rw [hon, hsupply, if_neg (by decide)]
  exact if_pos hma

theorem State.setPoc_current (s : State) (c : Nat) {st ma : Nat} (hma : ma < 1024) :
    ((s.wr (Fd.SF_POC_CURRENT c) ma).setPoc c st).rd (Fd.SF_POC_CURRENT c) = ma := by
  rw [State.setPoc_rd_beside _ c st rfl rfl, rd_wr_self _ (Fd.SF_POC_CURRENT c) ma rfl]
  exact Nat.mod_eq_of_lt hma

theorem State.setPoc_current_frame (s : State) (c st ma : Nat) :
    Frame s ((s.wr (Fd.SF_POC_CURRENT c) ma).setPoc c st) [.regs] (fun a => a = Rg.SF_POC c) :=
  (s.wr_frame (Fd.SF_POC_CURRENT c) ma).trans (State.setPoc_frame _ c st)

theorem State.pocExt_frame (s : State) (c : Nat) (b : Bool) : Frame s (s.pocExt c b) [.sf] (fun _ => False) := s.setCam_frame c _

theorem State.pocExt_ext (s : State) (c : Nat) (b : Bool) : ((s.pocExt c b).camera c).ext = b := by
  rw [State.pocExt, State.setCam_camera_same]

/-! ### The supply tried again (R205) -/

def State.pocRetried (s : State) (c : Nat) : State := (s.setPoc c 1).wr (Fd.SF_POC_RETRIES c) (min 3 (s.camera c).shorts.length)

theorem State.pocRetry_eq {s : State} {c : Nat} (h : s.pocState c = 2) :
    s.pocRetry c = (s.reach ((s.camera c).offAt + sec)).pocRetried c := by
  unfold State.pocRetry
  rw [if_neg (not_not_intro h)]
  rfl

theorem State.pocRetried_spec (s : State) (c : Nat) :
    (s.pocRetried c).pocState c = 1 ∧ (s.pocRetried c).rd (Fd.SF_POC_RETRIES c) = min 3 (s.camera c).shorts.length ∧
      Frame s (s.pocRetried c) [.regs] (fun a => a = Rg.SF_POC c) := by
  unfold State.pocRetried
  refine ⟨?_, (rd_wr_self _ (Fd.SF_POC_RETRIES c) _ rfl).trans (Nat.mod_eq_of_lt ?_),
    (s.setPoc_frame c 1).trans (State.wr_frame _ (Fd.SF_POC_RETRIES c) _)⟩
  · rw [wr_pocState _ _ rfl rfl, s.setPoc_pocState c (by decide)]
  · exact Nat.lt_succ_of_le (Nat.min_le_left 3 _)

/-! ### The tunnel's ends (R171) -/

/-- A transaction is acknowledged: a read has its data. -/
def State.i2cAcked (s : State) (c data : Nat) : State :=
  if (s.wr (Fd.SF_CAM_I2C_RESULT c) Code.DONE).flag (Fd.SF_CAM_I2C_RD c) then
    (s.wr (Fd.SF_CAM_I2C_RESULT c) Code.DONE).wr (Fd.SF_CAM_I2C_DATA c) data
  else s.wr (Fd.SF_CAM_I2C_RESULT c) Code.DONE

theorem State.i2cAcked_spec (s : State) (c : Nat) {data : Nat} (hdata : data < 256) :
    (s.i2cAcked c data).rd (Fd.SF_CAM_I2C_RESULT c) = Code.DONE ∧
      (s.i2cAcked c data).rd (Fd.SF_CAM_I2C_DATA c) = (if s.flag (Fd.SF_CAM_I2C_RD c) = true then data else s.rd (Fd.SF_CAM_I2C_DATA c)) ∧
      Frame s (s.i2cAcked c data) [.regs] (fun a => a = Rg.SF_CAM_I2C c) := by
  have hresult := rd_wr_result s c (v := Code.DONE) (by decide)
  have hframe := s.wr_frame (Fd.SF_CAM_I2C_RESULT c) Code.DONE
  unfold State.i2cAcked
  rw [flag_wr_beside s (Fd.SF_CAM_I2C_RESULT c) (Fd.SF_CAM_I2C_RD c) _ rfl rfl]
  split
  · refine ⟨?_, (rd_wr_self _ (Fd.SF_CAM_I2C_DATA c) data rfl).trans (Nat.mod_eq_of_lt hdata),
      hframe.trans (State.wr_frame _ (Fd.SF_CAM_I2C_DATA c) data)⟩
    rw [rd_wr_beside _ (Fd.SF_CAM_I2C_DATA c) (Fd.SF_CAM_I2C_RESULT c) data rfl rfl, hresult]
  · exact ⟨hresult, rd_wr_beside s (Fd.SF_CAM_I2C_RESULT c) (Fd.SF_CAM_I2C_DATA c) _ rfl rfl, hframe⟩

/-- A transaction under way ends: acknowledged, not acknowledged, without an answer in time. -/
theorem State.i2cDone_eq {s : State} {c : Nat} (hbusy : s.rd (Fd.SF_CAM_I2C_RESULT c) = Code.BUSY) (data : Nat) :
    s.i2cDone c 0 data = s.i2cAcked c data ∧ s.i2cDone c 1 data = s.wr (Fd.SF_CAM_I2C_RESULT c) Code.I2C_NACK ∧
      s.i2cDone c 2 data = (s.reach ((s.camera c).i2cAt + ms)).wr (Fd.SF_CAM_I2C_RESULT c) Code.TIMEOUT :=
  ⟨if_neg (not_not_intro hbusy), if_neg (not_not_intro hbusy), if_neg (not_not_intro hbusy)⟩

/-- Settles O15: each register write by the word it leaves and what its block does beyond it, each event of the supply by its equation; that
nothing else changes, by the frames of these. -/
theorem cameraSupplyAndTunnel : Obligations.CameraSupplyAndTunnel := by
  unfold Obligations.CameraSupplyAndTunnel
  refine ⟨?run, ?rate, ?stop, ?i2c, ?i2cEnd, ?on, ?off, ?short, ?latch, ?retry, ?ext, ?extClear, ?open_, ?closed⟩
  case run =>
    intro s who c w h hrun hitem hwas hlink
    let u := s.written (Rg.SF_CAM_CTRL c.val) camCtrlFields w
    have hu := s.written_frame (Rg.SF_CAM_CTRL c.val) camCtrlFields w
    have hulink : u.flag (Fd.SF_CAM_STATUS_LINK c.val) = true := (camCtrl_written_link s c w).trans hlink
    obtain ⟨hstatus, hcam, hothers, hstart⟩ := State.camStart_spec hulink
    have hctrl : (u.camStart c.val).flag (Fd.SF_CAM_CTRL_RUN c.val) = true := by
      refine (flag_of_frame hstart ?_).trans ((camCtrl_written_run s c.val w).trans hrun)
      rintro (hreg | hreg | ⟨i, -, hreg⟩) <;>
        simp only [Fd.SF_CAM_CTRL_RUN, Rg.SF_CAM_STATUS, Rg.SF_LOAD_FAIL, Rg.SF_VIEW_STATE] at hreg <;> omega
    have hviews : u.viewsOfCam c.val = s.viewsOfCam c.val := State.viewsOfCam_congr (hu.same .plan (by simp)) _
    have hcam' : (u.camStart c.val).answered.camera c.val = (s.camera c.val).restarted := by
      rw [State.answered_camera, hcam, s.written_camera]
    exact ⟨_, exec_cameraRunWrite_start h hrun hitem hwas, (State.answered_flag _ _).trans hctrl, (State.answered_flag _ _).trans hstatus,
      congrArg Cam.n hcam', congrArg Cam.trig hcam', congrArg Cam.due hcam', congrArg Cam.open_ hcam', (congrArg Cam.shorts hcam').trans rfl, rfl,
      fun k hk => (State.answered_camera _ _).trans (hothers k.val fun he => hk (Fin.ext he)),
      (hu.mono (by simp) fun _ => .inl).trans ((hstart.mono (by simp) fun _ ha => .inr (hviews ▸ ha)).trans
        ((State.answered_frame _).noRegs (by simp)))⟩
  case rate =>
    intro s who c w i h hrun hitem hwas hviewsOf hlink hrate
    let u := s.written (Rg.SF_CAM_CTRL c.val) camCtrlFields w
    have hu := s.written_frame (Rg.SF_CAM_CTRL c.val) camCtrlFields w
    have hulink : u.flag (Fd.SF_CAM_STATUS_LINK c.val) = true := (camCtrl_written_link s c w).trans hlink
    have hplan : u.plan = s.plan := hu.same .plan (by simp)
    have hmismatch : u.camFps c.val ≠ u.dspHz (i.val / 4) := by rwa [State.camFps_congr hplan, State.dspHz_congr hplan]
    have heq := exec_cameraRunWrite_start h hrun hitem hwas
    rw [State.camStart_rate hulink ((State.viewsOfCam_congr hplan _).trans hviewsOf) hmismatch] at heq
    obtain ⟨hcode, hdsp, hindex⟩ := (u.camRestarted c.val).loadFail_rate i
    have hframe : Frame s ((u.camRestarted c.val).loadFail Code.RATE_MISMATCH 0xFF false i.val) [.sf, .regs, .resp]
        (fun a => a = Rg.SF_CAM_CTRL c.val ∨ a = Rg.SF_CAM_STATUS c.val ∨ a = Rg.SF_LOAD_FAIL) :=
      (hu.mono (by simp) fun _ => .inl).trans (((u.camRestarted_frame c.val).mono (by simp) fun _ ha => .inr (.inl ha)).trans
        ((State.loadFail_frame _ _ _ _ _).mono (by simp) fun _ ha => .inr (.inr ha)))
    refine ⟨_, heq, flag_of_frame hframe ?_, hcode, hdsp, hindex, hframe.trans ((State.answered_frame _).noRegs (by simp))⟩
    rintro (hreg | hreg | hreg) <;>
      simp only [Fd.SF_VIEW_STATE_RUN, Rg.SF_CAM_CTRL, Rg.SF_CAM_STATUS, Rg.SF_LOAD_FAIL] at hreg <;> omega
  case stop =>
    intro s who c w h hrun hwas
    let u := s.written (Rg.SF_CAM_CTRL c.val) camCtrlFields w
    have hu := s.written_frame (Rg.SF_CAM_CTRL c.val) camCtrlFields w
    have hviews : u.viewsOfCam c.val = s.viewsOfCam c.val := State.viewsOfCam_congr (hu.same .plan (by simp)) _
    obtain ⟨hstatus, hstopped, hdue, hstop⟩ := u.camStop_spec c
    rw [hviews] at hstopped hstop
    have hctrl : (u.camStop c.val).flag (Fd.SF_CAM_CTRL_RUN c.val) = false := by
      refine (flag_of_frame hstop ?_).trans ((camCtrl_written_run s c.val w).trans hrun)
      rintro (hreg | ⟨i, -, hreg⟩) <;> simp only [Fd.SF_CAM_CTRL_RUN, Rg.SF_CAM_STATUS, Rg.SF_VIEW_STATE] at hreg <;> omega
    exact ⟨_, exec_cameraRunWrite_stop h hrun hwas, hctrl, hstatus, hstopped, hdue, rfl,
      ((hu.mono (by simp) fun _ => .inl).trans (hstop.mono (by simp) fun _ => .inr)).trans ((State.answered_frame _).noRegs (by simp))⟩
  case i2c =>
    intro s who c w h hfree
    let u := s.written (Rg.SF_CAM_I2C c.val) camI2cFields w
    have hu := s.written_frame (Rg.SF_CAM_I2C c.val) camI2cFields w
    have hlink : u.flag (Fd.SF_CAM_STATUS_LINK c.val) = s.flag (Fd.SF_CAM_STATUS_LINK c.val) :=
      flag_of_frame hu (show 0x200A0030 + 0x4 * c.val ≠ 0x200A0040 + 0x4 * c.val by omega)
    refine ⟨_, exec_camI2cStart h hfree, ?_, ?_, ?_, fun hup => ?_, rfl, ?_⟩
    · exact (u.i2cStarted_result c.val).trans (by rw [hlink])
    · exact (u.i2cStarted_rd_beside c.val (f := Fd.SF_CAM_I2C_DEV c.val) rfl rfl).trans (camI2c_written_dev s c.val w)
    · exact (u.i2cStarted_rd_beside c.val (f := Fd.SF_CAM_I2C_RD c.val) rfl rfl).trans (camI2c_written_read s c.val w)
    · exact (State.i2cStarted_camera (hlink.trans hup)).trans (hu.same .now (by simp))
    · exact (hu.widen (by simp)).trans (((u.i2cStarted_frame c.val).widen (by simp)).trans ((State.answered_frame _).noRegs (by simp)))
  case i2cEnd =>
    intro s c r data hbusy
    obtain ⟨hdone, hnack, htimeout⟩ := State.i2cDone_eq hbusy data.toNat
    match r with
    | 0 =>
      obtain ⟨hresult, hdata, hframe⟩ := s.i2cAcked_spec c.val data.isLt
      exact ⟨_, congrArg Host.Outcome.next hdone, hresult, hdata.trans (by simp), fun h => absurd h (by decide), hframe.widen (by simp)⟩
    | 1 =>
      exact ⟨_, congrArg Host.Outcome.next hnack, rd_wr_result s c.val (by decide),
        rd_wr_beside s (Fd.SF_CAM_I2C_RESULT c.val) (Fd.SF_CAM_I2C_DATA c.val) _ rfl rfl, fun h => absurd h (by decide),
        (s.wr_frame (Fd.SF_CAM_I2C_RESULT c.val) _).widen (by simp)⟩
    | 2 =>
      have hreach := s.reach_frame ((s.camera c.val).i2cAt + ms)
      refine ⟨_, congrArg Host.Outcome.next htimeout, rd_wr_result _ c.val (by decide), ?_, fun _ => ?_,
        (hreach.noRegs (by simp)).trans ((State.wr_frame _ (Fd.SF_CAM_I2C_RESULT c.val) _).widen (by simp))⟩
      · exact (rd_wr_beside _ (Fd.SF_CAM_I2C_RESULT c.val) (Fd.SF_CAM_I2C_DATA c.val) _ rfl rfl).trans (hreach.rd not_false)
      · exact (s.le_reach _).trans_eq ((State.wr_frame _ (Fd.SF_CAM_I2C_RESULT c.val) _).same .now (by simp)).symm
  case on =>
    intro s who c w h hon hwas hext
    let u := s.written (Rg.SF_POC c.val) pocFields w
    have hu := s.written_frame (Rg.SF_POC c.val) pocFields w
    have hflag : (u.setPoc c.val 1).flag (Fd.SF_POC_ON c.val) = true := by rw [u.setPoc_on, poc_written_on, hon]
    exact ⟨_, exec_pocOnWrite_on h hon hwas hext, (State.answered_flag _ _).trans hflag,
      (State.answered_rd _ _).trans <| u.setPoc_pocState c.val (by decide), rfl,
      (hu.widen (by simp)).trans (((u.setPoc_frame c.val 1).widen (by simp)).trans ((State.answered_frame _).noRegs (by simp)))⟩
  case off =>
    intro s who c w h hoff hext
    let u := s.written (Rg.SF_POC c.val) pocFields w
    have hu := s.written_frame (Rg.SF_POC c.val) pocFields w
    obtain ⟨hretries, hcurrent, hshorts, hkept⟩ := u.pocCleared_spec c.val
    have hflag : ((u.pocCleared c.val).setPoc c.val 0).flag (Fd.SF_POC_ON c.val) = false := by rw [State.setPoc_on, hkept, poc_written_on, hoff]
    rw [← State.setPoc_rd_beside _ c.val 0 rfl rfl] at hretries hcurrent
    have hnone : (((u.pocCleared c.val).setPoc c.val 0).camera c.val).shorts = [] := by rw [State.setPoc_camera, hshorts]
    exact ⟨_, exec_pocOnWrite_off h hoff hext, (State.answered_flag _ _).trans hflag,
      (State.answered_rd _ _).trans <| State.setPoc_pocState _ c.val (by decide), (State.answered_rd _ _).trans hretries,
      (State.answered_rd _ _).trans hcurrent, (congrArg Cam.shorts (State.answered_camera _ _)).trans hnone, rfl,
      (hu.widen (by simp)).trans (((u.pocCleared_frame c.val).widen (by simp)).trans
        (((State.setPoc_frame _ c.val 0).widen (by simp)).trans ((State.answered_frame _).noRegs (by simp))))⟩
  case short =>
    intro s c hon hsupply hnone
    obtain ⟨hstate, hretries, hcurrent, hat, hshorts, hfault, hframe⟩ := s.pocShorted_spec c []
    exact ⟨_, congrArg Host.Outcome.next (State.pocShort_first hon hsupply hnone), hstate, hretries, hcurrent, hat, hshorts, hfault, hframe⟩
  case latch =>
    intro s c x y z hon hsupply hearlier hnow
    obtain ⟨hstate, -, -, -, hshorts, hfault, hframe⟩ := s.pocShorted_spec c [x, y, z]
    exact ⟨_, congrArg Host.Outcome.next (State.pocShort_again hon hsupply hearlier hnow), hstate, hshorts, hfault, hframe⟩
  case retry =>
    intro s c hstate
    have hreach := s.reach_frame ((s.camera c.val).offAt + sec)
    obtain ⟨hon, hretries, hframe⟩ := (s.reach ((s.camera c.val).offAt + sec)).pocRetried_spec c.val
    rw [State.camera_congr (hreach.same .sf (by simp))] at hretries
    exact ⟨_, congrArg Host.Outcome.next (State.pocRetry_eq hstate), hon, (s.le_reach _).trans_eq (hframe.same .now (by simp)).symm, hretries,
      (hreach.noRegs (by simp)).trans (hframe.widen (by simp))⟩
  case ext =>
    intro s c hon hext
    obtain ⟨hstate, hcurrent, -, hcam, hoff⟩ := (s.pocExt c.val true).pocOff_spec c.val (st := 5) (by decide)
    refine ⟨_, congrArg Host.Outcome.next (State.pocExternal_eq hon hext), (State.pocDetected_rd _ c _ rfl).trans hstate, ?_,
      (State.pocDetected_rd _ c _ rfl).trans hcurrent, State.pocDetected_faulted _ c.val (by decide), ?_⟩
    · rw [State.pocDetected_camera, hcam]
      exact s.pocExt_ext c.val true
    · exact ((s.pocExt_frame c.val true).noRegs (by simp)).trans
        ((hoff.mono (by simp) fun _ => .inl).trans ((State.pocDetected_frame _ c.val _).mono (by simp) fun _ => .inr))
  case extClear =>
    intro s c hext hon
    refine ⟨_, congrArg Host.Outcome.next (State.pocExternalClear_eq hext hon), State.setPoc_pocState _ c.val (by split <;> decide), ?_,
      ((s.pocExt_frame c.val false).noRegs (by simp)).trans ((State.setPoc_frame _ c.val _).widen (by simp))⟩
    rw [State.setPoc_camera]
    exact s.pocExt_ext c.val false
  case open_ =>
    intro s c ma hon hstate hma
    exact ⟨_, congrArg Host.Outcome.next (State.pocOpen_wire hon hstate hma),
      (State.pocDetected_rd _ c _ rfl).trans (State.setPoc_pocState _ c.val (by decide)),
      (State.pocDetected_rd _ c _ rfl).trans (s.setPoc_current c.val ma.isLt), State.pocDetected_faulted _ c.val (by decide),
      ((s.setPoc_current_frame c.val 4 ma.toNat).mono (by simp) fun _ => .inl).trans
        ((State.pocDetected_frame _ c.val _).mono (by simp) fun _ => .inr)⟩
  case closed =>
    intro s c ma hon hsupply hma
    exact ⟨_, congrArg Host.Outcome.next (State.pocOpen_closed hon hsupply hma), State.setPoc_pocState _ c.val (by decide),
      s.setPoc_current c.val ma.isLt, s.setPoc_current_frame c.val 1 ma.toNat⟩

end Sys2Proof.Machine
end

section
/-! SUPPORT. A CHANNEL item whose GANG_SIZE is 0 (L11, R226): its lead is commanded like any other, but the gang has no output to switch. -/

namespace Sys2Proof.Machine

/-- An Active device with Kerbside up, whose plan gives channel 2 a gang of no channels. -/
def emptyGang : State :=
  { State.reset with
    dev := .active
    plan := [⟨5, 0, 0x0601, [2, 0, 2, 0, 0, 0, 0, 0, 0, 0, 0, 0]⟩]
    kb := { KbState.reset with up := true } }

/-! ### ON by an endpoint (R220, R222) -/

/-- A PWR ON with DUTY 1,000 and PWM_HZ 0, passed to Kerbside. -/
def fullOn : Cmd := ⟨0, 0, 1, 0, 0, 0, [0xE8, 3, 0, 0], .passed, false, false, 0, 0⟩

/-- The PWR endpoint 0, bound to channel 2, has sent it. -/
def commandsEmptyGang : State :=
  { emptyGang with
    ep := { EpState.reset with eps := [(0, { Ep.absent with live := true, ty := 2, bind := 2 })], inflight := [fullOn] } }

/-- The ON is accepted, and no output conducts. -/
theorem pwrOn_emptyGang_out {t : State} (h : exec (.pwrOn 0 0) commandsEmptyGang = .next t) : t.out 2 = false := by
  injection h with h
  rw [← h]
  decide

/-- Refutes O18: its clause for an accepted ON bounds GANG_SIZE from above alone. No plan that passes L11 has a gang of size 0, but a state whose
plan does meets the clause's conditions, and there no member conducts, its lead included. -/
theorem not_powerCommands : ¬ Obligations.PowerCommands := by
  unfold Obligations.PowerCommands
  rintro ⟨hon, -⟩
  obtain ⟨t, hexec, hout, -⟩ := hon commandsEmptyGang 0 0 2 fullOn (by decide) rfl (by decide) (by decide) (by decide) (by decide)
  rw [pwrOn_emptyGang_out hexec] at hout
  cases hout

/-! ### ON by PD_CH_CTRL (R223) -/

/-- PD_CH_CTRL with EN, DUTY 1,000 and PWM_HZ 0. -/
def fullOnWord : Word := 0x001F4001

/-- District 0's write passes every check of PD_CH_CTRL[2]. -/
theorem fullOnWord_passes :
    emptyGang.passesChecks (emptyGang.issuer ⟨0, 0, 0⟩) 4 (Rg.PD_CH_CTRL 2) fullOnWord
      ((emptyGang.pwrHolder 2).isSome || emptyGang.chLead 2 != 2) (emptyGang.ctrlBad 2 fullOnWord.toNat) = true := by decide

/-- The write is accepted, and no output conducts. -/
theorem chCtrlWrite_emptyGang_out {t : State} (h : exec (.chCtrlWrite ⟨0, 0, 0⟩ 2 fullOnWord) emptyGang = .next t) : t.out 2 = false := by
  injection h with h
  rw [← h]
  decide

/-- Refutes O19: its clause for an accepted write of PD_CH_CTRL with EN bounds GANG_SIZE from above alone, as that of PWR ON does, and a gang
of no channels, which L11 keeps out of every plan but not out of the clause's conditions, has no output that could conduct. -/
theorem not_powerSwitching : ¬ Obligations.PowerSwitching := by
  unfold Obligations.PowerSwitching
  rintro ⟨hon, -⟩
  obtain ⟨t, hexec, hout, -⟩ := hon emptyGang ⟨0, 0, 0⟩ 2 fullOnWord (by decide) rfl (by decide) fullOnWord_passes (by decide) (by decide)
    (by decide) (by decide)
  have hoff : t.out 2 = false := chCtrlWrite_emptyGang_out hexec
  exact absurd (hoff.symm.trans hout) (by decide)

end Sys2Proof.Machine
end

section
/-! SUPPORT. Kerbside's operations as rules (chapters 10 and 11): what an output's stop and start, an event of a channel and a diagnostic fault
leave, and the fields that they spare. -/

namespace Sys2Proof.Machine

/-! ### Fields that an update spares -/

/-- No write of `f` reaches `g`: another register, or other bits of the same. -/
def Fld.clearOf (f g : Fld) : Prop := g.addr = f.addr → f.beside g = true

theorem rd_wr_clear (s : State) {f g : Fld} (v : Nat) (h : f.clearOf g) : (s.wr f v).rd g = s.rd g := by
  by_cases ha : g.addr = f.addr
  · exact rd_wr_beside s f g v ha (h ha)
  · exact rd_wr_ne s f g v ha

theorem flag_wr_clear (s : State) {f g : Fld} (v : Nat) (h : f.clearOf g) : (s.wr f v).flag g = s.flag g := by
  rw [State.flag, rd_wr_clear s v h, State.flag]

/-- Every field with the property `P` reads the same in both states. -/
def Spares (P : Fld → Prop) (s t : State) : Prop := ∀ g, P g → t.rd g = s.rd g

namespace Spares

variable {P : Fld → Prop} {s t u : State}

theorem refl (P : Fld → Prop) (s : State) : Spares P s s := fun _ _ => rfl
theorem trans (h : Spares P s t) (k : Spares P t u) : Spares P s u := fun g hg => (k g hg).trans (h g hg)
theorem mono {Q : Fld → Prop} (h : Spares P s t) (hq : ∀ g, Q g → P g) : Spares Q s t := fun g hg => h g (hq g hg)
theorem flag (h : Spares P s t) {g : Fld} (hg : P g) : t.flag g = s.flag g := by rw [State.flag, h g hg, State.flag]
theorem of_frame {parts : List Piece} {regs : Nat → Prop} (h : Frame s t parts regs) (hp : ∀ g, P g → ¬ regs g.addr) : Spares P s t :=
  fun _ hg => h.rd (hp _ hg)
theorem of_noRegs {parts : List Piece} (h : Frame s t parts (fun _ => False)) : Spares P s t := of_frame h fun _ _ => id
theorem wr {f : Fld} {v : Nat} (h : Spares P s t) (hf : ∀ g, P g → f.clearOf g) : Spares P s (t.wr f v) :=
  h.trans fun g hg => rd_wr_clear t v (hf g hg)
theorem setPin {n : Nat} {p : Pin} (h : Spares P s t) : Spares P s (t.setPin n p) := h
theorem setChan {n : Nat} {c : Chan} (h : Spares P s t) : Spares P s (t.setChan n c) := h
theorem ite {p : Prop} {_ : Decidable p} (h : Spares P s t) (k : Spares P s u) : Spares P s (if p then t else u) := by
  split
  · exact h
  · exact k
theorem forAll {α : Type} {l : List α} {f : State → α → State} (h : Spares P s t) (hf : ∀ u x, Spares P u (f u x)) :
    Spares P s (forAll l f t) := forAll_keeps (Spares P s) l f (fun u x hu => hu.trans (hf u x)) t h

end Spares

/-- The field holds none of the bits `bs`. -/
def Fld.Off (bs : List Nat) (g : Fld) : Prop := ∀ b ∈ bs, g.hi < b ∨ b < g.lo

theorem Fld.Off.clear {bs : List Nat} {g : Fld} {a b : Nat} (h : g.Off bs) (hb : b ∈ bs) (h31 : b ≤ 31) : (bitOf a b).clearOf g := by
  intro _
  simp only [Fld.beside, Fld.sound, bitOf, Nat.le_refl, h31, decide_true, Bool.true_and, Bool.or_eq_true]
  exact (h b hb).imp (decide_eq_true ·) (decide_eq_true ·)

theorem Spares.more {bs bs' : List Nat} {s t : State} (h : Spares (Fld.Off bs') s t) (hb : bs' ⊆ bs) : Spares (Fld.Off bs) s t :=
  h.mono fun _ hg b hm => hg b (hb hm)

/-- One of the bits is written, in whatever register. -/
theorem Spares.bit {bs : List Nat} {s t : State} {a b v : Nat} (h : Spares (Fld.Off bs) s t) (hb : b ∈ bs) (h31 : b ≤ 31) :
    Spares (Fld.Off bs) s (t.wr (bitOf a b) v) := h.wr fun _ hg => hg.clear hb h31

/-- A field that is cleared in one place reads as cleared there, and keeps the 0 that it has elsewhere. -/
theorem flag_wr_zero_keeps (s : State) {f g : Fld} (hf : f.sound = true) (hsame : g.addr = f.addr → g = f) (h : s.flag g = false) :
    (s.wr f 0).flag g = false := by
  by_cases ha : g.addr = f.addr
  · obtain ⟨hlo, h31⟩ := f.sound_iff.mp hf
    rw [hsame ha]
    exact flag_wr_zero s f hlo h31
  · exact (flag_wr_ne s f g 0 ha).trans h

theorem flag_wr_one_keeps (s : State) {f g : Fld} (hf : f.sound = true) (hbit : f.lo = f.hi) (hsame : g.addr = f.addr → g = f)
    (h : s.flag g = true) : (s.wr f 1).flag g = true := by
  by_cases ha : g.addr = f.addr
  · rw [hsame ha]
    exact flag_wr_one s f hbit (f.sound_iff.mp hf).2
  · exact (flag_wr_ne s f g 1 ha).trans h

/-! ### Loops that reach every element -/

/-- What the step at `x` establishes, and every step of the loop keeps, holds at the end for each element of the list. -/
theorem forAll_each {α : Type} {f : State → α → State} {I : State → Prop} {P : α → State → Prop} (l : List α)
    (hI : ∀ s y, I s → I (f s y)) (hset : ∀ s x, x ∈ l → I s → P x (f s x)) (hkeep : ∀ s x y, x ∈ l → I s → P x s → P x (f s y))
    (s : State) (hs : I s) : ∀ x ∈ l, P x (forAll l f s) := by
  induction l generalizing s with
  | nil => exact fun x hx => absurd hx List.not_mem_nil
  | cons y rest ih =>
    have hnext : I (f s y) := hI s y hs
    intro x hx
    rcases List.mem_cons.mp hx with rfl | hrest
    · refine (forAll_keeps (fun u => I u ∧ P x u) rest f (fun u z hu => ⟨hI u z hu.1, ?_⟩) (f s x) ⟨hnext, hset s x hx hs⟩).2
      exact hkeep u x z hx hu.1 hu.2
    · exact ih (fun u z hz => hset u z (List.mem_cons_of_mem y hz)) (fun u z w hz => hkeep u z w (List.mem_cons_of_mem y hz)) _ hnext x hrest

/-! ### Channels -/

theorem State.setChan_frame (s : State) (n : Nat) (c : Chan) : Frame s (s.setChan n c) [.kb] (fun _ => False) :=
  frame_of_blot_noRegs (by simp) (by simp)
theorem State.setFeed_frame (s : State) (f : Nat) (x : Feed) : Frame s (s.setFeed f x) [.kb] (fun _ => False) :=
  frame_of_blot_noRegs (by simp) (by simp)

theorem State.chan_congr {s t : State} (h : t.kb = s.kb) (n : Nat) : t.chan n = s.chan n := by rw [State.chan, h, State.chan]
theorem State.wr_chan (s : State) (f : Fld) (v n : Nat) : (s.wr f v).chan n = s.chan n := rfl
theorem State.feed_congr {s t : State} (h : t.kb = s.kb) (f : Nat) : t.feed f = s.feed f := by rw [State.feed, h, State.feed]
theorem State.chItem_congr {s t : State} (h : t.plan = s.plan) (n : Nat) : t.chItem n = s.chItem n := by
  simp only [State.chItem, State.item, h]
theorem State.chLead_congr {s t : State} (h : t.plan = s.plan) (n : Nat) : t.chLead n = s.chLead n := by
  simp only [State.chLead, State.chItem_congr h]
theorem State.members_congr {s t : State} (h : t.plan = s.plan) (n : Nat) : t.members n = s.members n := by
  simp only [State.members, State.gangSize, State.chItem_congr h]
theorem State.leads_congr {s t : State} (h : t.plan = s.plan) : t.leads = s.leads := by
  simp only [State.leads, State.chLead_congr h, State.chItem_congr h]
theorem State.onFeed_congr {s t : State} (h : t.plan = s.plan) (f : Nat) : t.onFeed f = s.onFeed f := by
  simp only [State.onFeed, State.chFeed, State.chItem_congr h]

theorem State.mem_members (s : State) (n m : Nat) : m ∈ s.members n ↔ n ≤ m ∧ m < n + s.gangSize n := by
  simp only [State.members, List.mem_map, List.mem_range]
  constructor
  · rintro ⟨k, hk, rfl⟩
    omega
  · exact fun h => ⟨m - n, by omega, by omega⟩

theorem State.setChan_hot (s : State) {n : Nat} {c : Chan} (h : c.hot = (s.chan n).hot) (k : Nat) :
    ((s.setChan n c).chan k).hot = (s.chan k).hot := by
  by_cases hk : k = n
  · rw [hk, s.setChan_chan_same, h]
  · rw [s.setChan_chan_ne n c k hk]

/-! ### Outputs of a gang (R219, R225, R226) -/

/-- The outputs of the gang led by `n` all take the value `v`. -/
def State.outsTo (s : State) (n v : Nat) : State := s.eachMember n (fun s m => s.wr (Fd.PD_CH_STATUS_OUT m) v)

/-- `a` is the status register of a member of the gang led by `n`, or of `n` itself. -/
abbrev GangStatus (s : State) (n a : Nat) : Prop := (∃ m ∈ s.members n, a = Rg.PD_CH_STATUS m) ∨ a = Rg.PD_CH_STATUS n

theorem State.outsTo_frame (s : State) (n v : Nat) : Frame s (s.outsTo n v) [.regs] (fun a => ∃ m ∈ s.members n, a = Rg.PD_CH_STATUS m) :=
  forAll_frame _ (fun m hm u => (u.wr_frame (Fd.PD_CH_STATUS_OUT m) v).mono (by simp) fun _ ha => ⟨m, hm, ha⟩) s

theorem State.outsTo_kb (s : State) (n v : Nat) : (s.outsTo n v).kb = s.kb := (s.outsTo_frame n v).same .kb (by simp)

theorem State.outsTo_spares (s : State) (n v : Nat) : Spares (Fld.Off [0]) s (s.outsTo n v) :=
  .forAll (.refl _ s) fun u _ => (Spares.refl _ u).bit (by decide) (by decide)

/-- The OUT bits of two channels stand in two registers. -/
theorem out_fld_inj {m k : Nat} (h : (Fd.PD_CH_STATUS_OUT m).addr = (Fd.PD_CH_STATUS_OUT k).addr) : Fd.PD_CH_STATUS_OUT m = Fd.PD_CH_STATUS_OUT k := by
  have hm : m = k := by
    have haddr : 0x200B0200 + 0x4 * m = 0x200B0200 + 0x4 * k := h
    omega
  rw [hm]

theorem State.outsTo_one (s : State) (n : Nat) : ∀ m ∈ s.members n, (s.outsTo n 1).out m = true :=
  forAll_each (I := fun _ => True) (P := fun m u => u.out m = true) _ (fun _ _ _ => trivial)
    (fun u m _ _ => flag_wr_one u (Fd.PD_CH_STATUS_OUT m) rfl (Nat.zero_le _))
    (fun u _ k _ _ hm => flag_wr_one_keeps u (f := Fd.PD_CH_STATUS_OUT k) rfl rfl out_fld_inj hm) s trivial

theorem State.wr_out_zero_keeps (s : State) {m : Nat} (k : Nat) (h : s.out m = false) : (s.wr (Fd.PD_CH_STATUS_OUT k) 0).out m = false :=
  flag_wr_zero_keeps s (f := Fd.PD_CH_STATUS_OUT k) rfl out_fld_inj h

theorem State.outsTo_zero (s : State) (n : Nat) : ∀ m ∈ s.members n, (s.outsTo n 0).out m = false :=
  forAll_each (I := fun _ => True) (P := fun m u => u.out m = false) _ (fun _ _ _ => trivial)
    (fun u m _ _ => flag_wr_zero u (Fd.PD_CH_STATUS_OUT m) (Nat.le_refl _) (Nat.zero_le _))
    (fun u _ k _ _ hm => u.wr_out_zero_keeps k hm) s trivial

theorem State.outsTo_zero_keeps {s : State} {m : Nat} (n : Nat) (h : s.out m = false) : (s.outsTo n 0).out m = false :=
  forAll_keeps (fun u => u.out m = false) (s.members n) _ (fun u k hu => u.wr_out_zero_keeps k hu) s h

/-! ### The inrush window (R225) -/

theorem State.closeInrush_frame (s : State) (n : Nat) : Frame s (s.closeInrush n) [.kb, .regs] (fun a => a = Rg.PD_CH_STATUS n) :=
  ((s.setChan_frame n _).noRegs (by simp)).trans (((State.wr_frame _ (Fd.PD_CH_STATUS_INRUSH n) 0).trans
    (State.wr_frame _ (Fd.PD_CH_STATUS_LIMIT n) 0)).widen (by simp))

theorem State.closeInrush_spares (s : State) (n : Nat) : Spares (Fld.Off [2, 3]) s (s.closeInrush n) :=
  (((Spares.refl _ s).setChan).bit (by decide) (by decide)).bit (by decide) (by decide)

theorem State.closeInrush_hot (s : State) (n k : Nat) : ((s.closeInrush n).chan k).hot = (s.chan k).hot := by
  unfold State.closeInrush
  dsimp only
  rw [State.wr_chan, State.wr_chan]
  exact s.setChan_hot (by rfl) k

theorem State.openInrush_frame (s : State) (n : Nat) : Frame s (s.openInrush n) [.kb, .regs] (fun a => a = Rg.PD_CH_STATUS n) := by
  unfold State.openInrush
  split
  · exact .refl s _ _
  · exact ((s.setChan_frame n _).noRegs (by simp)).trans ((State.wr_frame _ (Fd.PD_CH_STATUS_INRUSH n) 1).widen (by simp))

theorem State.openInrush_spares (s : State) (n : Nat) : Spares (Fld.Off [2]) s (s.openInrush n) :=
  .ite (.refl _ s) (((Spares.refl _ s).setChan).bit (by decide) (by decide))

theorem State.openInrush_drive (s : State) (n : Nat) :
    ((s.openInrush n).chan n).duty = (s.chan n).duty ∧ ((s.openInrush n).chan n).hz = (s.chan n).hz := by
  unfold State.openInrush
  split
  · exact ⟨rfl, rfl⟩
  · rw [State.wr_chan, s.setChan_chan_same]
    exact ⟨rfl, rfl⟩

/-! ### An output stops (R219) -/

theorem State.outStop_off {s : State} {n : Nat} (h : s.out n = false) (slew : Nat) : s.outStop n slew = s := by
  unfold State.outStop
  rw [h]
  rfl

/-- An output that is on stops: every OUT of the gang falls, and of the lead's state only what belongs to the output changes. -/
theorem State.outStop_on {s : State} {n : Nat} (h : s.out n = true) (slew : Nat) :
    ∃ c : Chan, c.hot = (s.chan n).hot ∧ s.outStop n slew = ((s.outsTo n 0).setChan n c).closeInrush n := by
  unfold State.outStop
  rw [if_pos h]
  exact ⟨_, by rfl, rfl⟩

theorem State.outStop_frame (s : State) (n slew : Nat) : Frame s (s.outStop n slew) [.kb, .regs] (GangStatus s n) := by
  cases h : s.out n with
  | false => rw [State.outStop_off h]; exact .refl s _ _
  | true =>
    obtain ⟨c, -, heq⟩ := State.outStop_on h slew
    rw [heq]
    exact ((s.outsTo_frame n 0).mono (by simp) fun _ => .inl).trans (((State.setChan_frame _ n c).noRegs (by simp)).trans
      ((State.closeInrush_frame _ n).mono (by simp) fun _ => .inr))

/-- Beside OUT, INRUSH and LIMIT no field changes. -/
theorem State.outStop_spares (s : State) (n slew : Nat) : Spares (Fld.Off [0, 2, 3]) s (s.outStop n slew) := by
  cases h : s.out n with
  | false => rw [State.outStop_off h]; exact .refl _ s
  | true =>
    obtain ⟨c, -, heq⟩ := State.outStop_on h slew
    rw [heq]
    exact ((s.outsTo_spares n 0).more (by simp)).setChan.trans
      ((State.closeInrush_spares _ n).more (by simp))

theorem State.outStop_hot (s : State) (n slew k : Nat) : ((s.outStop n slew).chan k).hot = (s.chan k).hot := by
  cases h : s.out n with
  | false => rw [State.outStop_off h]
  | true =>
    obtain ⟨c, hc, heq⟩ := State.outStop_on h slew
    have hkb : (s.outsTo n 0).kb = s.kb := s.outsTo_kb n 0
    rw [heq, State.closeInrush_hot, State.setChan_hot _ (hc.trans (congrArg Chan.hot (State.chan_congr hkb n).symm)), State.chan_congr hkb]

theorem out_of_closeInrush (s : State) (n m : Nat) : (s.closeInrush n).out m = s.out m := 
  (s.closeInrush_spares n).flag (by simp [Fld.Off, Fd.PD_CH_STATUS_OUT])

theorem State.outStop_members {s : State} {n : Nat} (h : s.out n = true) (slew : Nat) : ∀ m ∈ s.members n, (s.outStop n slew).out m = false := by
  obtain ⟨c, -, heq⟩ := State.outStop_on h slew
  intro m hm
  rw [heq, out_of_closeInrush]
  exact s.outsTo_zero n m hm

/-- An output that does not conduct does not start by another's stop. -/
theorem State.outStop_keeps_off {s : State} {m : Nat} (h : s.out m = false) (n slew : Nat) : (s.outStop n slew).out m = false := by
  cases hn : s.out n with
  | false => rw [State.outStop_off hn]; exact h
  | true =>
    obtain ⟨c, -, heq⟩ := State.outStop_on hn slew
    rw [heq, out_of_closeInrush]
    exact State.outsTo_zero_keeps n h

/-! ### An output starts (R220, R225) -/

/-- The gang's outputs all rise, the lead keeps its DUTY and PWM_HZ, and the inrush window opens where one is wanted. -/
theorem State.outOn_eq (s : State) (n : Nat) (window : Bool) :
    ∃ c : Chan, (c.duty = (s.chan n).duty ∧ c.hz = (s.chan n).hz) ∧
      s.outOn n window = if window then ((s.outsTo n 1).setChan n c).openInrush n else (s.outsTo n 1).setChan n c := by
  have hchan : (s.outsTo n 1).chan n = s.chan n := State.chan_congr (s.outsTo_kb n 1) n
  rw [← hchan]
  refine ⟨_, ?_, by rfl⟩
  exact ⟨rfl, rfl⟩

theorem State.outOn_frame (s : State) (n : Nat) (window : Bool) : Frame s (s.outOn n window) [.kb, .regs] (GangStatus s n) := by
  obtain ⟨c, -, heq⟩ := s.outOn_eq n window
  have hstart : Frame s ((s.outsTo n 1).setChan n c) [.kb, .regs] (GangStatus s n) :=
    ((s.outsTo_frame n 1).mono (by simp) fun _ => .inl).trans ((State.setChan_frame _ n c).noRegs (by simp))
  rw [heq]
  split
  · exact hstart.trans ((State.openInrush_frame _ n).mono (by simp) fun _ => .inr)
  · exact hstart

theorem State.outOn_spares (s : State) (n : Nat) (window : Bool) : Spares (Fld.Off [0, 2]) s (s.outOn n window) := by
  obtain ⟨c, -, heq⟩ := s.outOn_eq n window
  have hstart : Spares (Fld.Off [0, 2]) s (s.outsTo n 1) := (s.outsTo_spares n 1).more (by simp)
  rw [heq]
  exact .ite (hstart.setChan.trans ((State.openInrush_spares _ n).more (by simp))) hstart.setChan

theorem State.outOn_members (s : State) (n : Nat) (window : Bool) : ∀ m ∈ s.members n, (s.outOn n window).out m = true := by
  obtain ⟨c, -, heq⟩ := s.outOn_eq n window
  intro m hm
  have hone : ((s.outsTo n 1).setChan n c).out m = true := s.outsTo_one n m hm
  rw [heq]
  split
  · exact ((State.openInrush_spares _ n).flag (g := Fd.PD_CH_STATUS_OUT m) (by simp [Fld.Off, Fd.PD_CH_STATUS_OUT])).trans hone
  · exact hone

theorem State.outOn_drive (s : State) (n : Nat) (window : Bool) :
    ((s.outOn n window).chan n).duty = (s.chan n).duty ∧ ((s.outOn n window).chan n).hz = (s.chan n).hz := by
  obtain ⟨c, hc, heq⟩ := s.outOn_eq n window
  have hchan : ((s.outsTo n 1).setChan n c).chan n = c := State.setChan_chan_same _ n c
  rw [heq, ← hc.1, ← hc.2]
  split
  · obtain ⟨hduty, hhz⟩ := State.openInrush_drive ((s.outsTo n 1).setChan n c) n
    exact ⟨hduty.trans (congrArg Chan.duty hchan), hhz.trans (congrArg Chan.hz hchan)⟩
  · exact ⟨congrArg Chan.duty hchan, congrArg Chan.hz hchan⟩

/-- A high-side output that is off starts with the DUTY and PWM_HZ given (R220). -/
theorem State.drive_start {s : State} {n : Nat} (hbridge : isBridge n = false) (hout : s.out n = false) (duty hz mode : Nat) :
    ∃ c : Chan, (c.duty = duty ∧ c.hz = hz) ∧ s.drive n duty hz mode = (s.setChan n c).outOn n true := by
  unfold State.drive
  simp only [hbridge, hout, Bool.false_eq_true, if_false]
  exact ⟨{ s.chan n with duty := duty, hz := hz, mode := 0 }, ⟨rfl, rfl⟩, rfl⟩

/-! ### Events of a channel (R251, R258) -/

/-- `a` is a register of the fault record of channel `n`. -/
abbrev RecReg (n a : Nat) : Prop := a = Rg.PD_FAULT_REC n ∨ a = Rg.PD_FAULT_TIME_LO n ∨ a = Rg.PD_FAULT_TIME_HI n

theorem State.faultRec_frame (s : State) (n code : Nat) : Frame s (s.faultRec n code) [.regs] (RecReg n) :=
  ((s.wr_frame (Fd.PD_FAULT_REC_CODE n) code).mono (by simp) fun _ => .inl).trans
    (((State.wr_frame _ (Fd.PD_FAULT_REC_COUNT n) _).mono (by simp) fun _ => .inl).trans
      (((State.wr_frame _ (Fd.PD_FAULT_TIME_LO_TIME n) _).mono (by simp) fun _ h => .inr (.inl h)).trans
        ((State.wr_frame _ (Fd.PD_FAULT_TIME_HI_TIME n) _).mono (by simp) fun _ h => .inr (.inr h))))

/-- The record holds the code, and one event more. -/
theorem State.faultRec_spec (s : State) (n : Nat) {code : Nat} (hcode : code < 65536) :
    (s.faultRec n code).rd (Fd.PD_FAULT_REC_CODE n) = code ∧
      (s.faultRec n code).rd (Fd.PD_FAULT_REC_COUNT n) = min 0xFFFF (s.rd (Fd.PD_FAULT_REC_COUNT n) + 1) := by
  have hlo : Rg.PD_FAULT_REC n ≠ Rg.PD_FAULT_TIME_LO n := by unfold Rg.PD_FAULT_REC Rg.PD_FAULT_TIME_LO; omega
  have hhi : Rg.PD_FAULT_REC n ≠ Rg.PD_FAULT_TIME_HI n := by unfold Rg.PD_FAULT_REC Rg.PD_FAULT_TIME_HI; omega
  have hcount : (s.wr (Fd.PD_FAULT_REC_CODE n) code).rd (Fd.PD_FAULT_REC_COUNT n) = s.rd (Fd.PD_FAULT_REC_COUNT n) :=
    rd_wr_beside s _ _ code rfl rfl
  unfold State.faultRec
  dsimp only
  rw [hcount]
  constructor
  · rw [rd_wr_ne _ (Fd.PD_FAULT_TIME_HI_TIME n) _ _ hhi, rd_wr_ne _ (Fd.PD_FAULT_TIME_LO_TIME n) _ _ hlo,
      rd_wr_beside _ (Fd.PD_FAULT_REC_COUNT n) (Fd.PD_FAULT_REC_CODE n) _ rfl rfl, rd_wr_self s (Fd.PD_FAULT_REC_CODE n) code rfl]
    exact Nat.mod_eq_of_lt hcode
  · rw [rd_wr_ne _ (Fd.PD_FAULT_TIME_HI_TIME n) _ _ hhi, rd_wr_ne _ (Fd.PD_FAULT_TIME_LO_TIME n) _ _ hlo,
      rd_wr_self _ (Fd.PD_FAULT_REC_COUNT n) _ rfl]
    exact Nat.mod_eq_of_lt (show min 65535 _ < 65536 by omega)

theorem State.chEvent_frame (s : State) (n code detail : Nat) : Frame s (s.chEvent n code detail) [.mem, .ep, .wg, .ic] (fun _ => False) :=
  frame_of_blot_noRegs (by simp) (by simp)
theorem State.kbLevels_frame (s : State) : Frame s s.kbLevels [.ic] (fun _ => False) := frame_of_blot_noRegs (by simp) (by simp)

/-- The WAIT_EVENT and the levels that follow a record touch no register. -/
theorem State.recorded_frame (s : State) (n code detail : Nat) :
    Frame s (s.chEvent n code detail).kbLevels [.mem, .ep, .wg, .ic] (fun _ => False) :=
  (s.chEvent_frame n code detail).trans ((State.kbLevels_frame _).widen (by simp))

/-- The sticky bit of an event, where it has one. -/
def State.withSticky (s : State) (n : Nat) (sticky : Option Nat) : State :=
  match sticky with
  | some b => s.wr (bitOf (Rg.PD_DIAG_STATUS n) b) 1
  | none => s

theorem State.diagEvent_eq (s : State) (n code : Nat) (sticky : Option Nat) :
    ∃ detail, s.diagEvent n code sticky = (((s.withSticky n sticky).faultRec n code).chEvent n code detail).kbLevels := by
  unfold State.diagEvent State.withSticky
  exact ⟨_, rfl⟩

theorem State.withSticky_frame (s : State) (n : Nat) (sticky : Option Nat) :
    Frame s (s.withSticky n sticky) [.regs] (fun a => sticky.isSome = true ∧ a = Rg.PD_DIAG_STATUS n) := by
  cases sticky with
  | none => exact .refl s _ _
  | some b => exact (s.wr_frame (bitOf (Rg.PD_DIAG_STATUS n) b) 1).mono (by simp) fun _ ha => ⟨rfl, ha⟩

theorem State.diagEvent_frame (s : State) (n code : Nat) (sticky : Option Nat) :
    Frame s (s.diagEvent n code sticky) [.regs, .mem, .ep, .wg, .ic]
      (fun a => (sticky.isSome = true ∧ a = Rg.PD_DIAG_STATUS n) ∨ RecReg n a) := by
  obtain ⟨detail, heq⟩ := s.diagEvent_eq n code sticky
  rw [heq]
  exact ((s.withSticky_frame n sticky).mono (by simp) fun _ => .inl).trans
    (((State.faultRec_frame _ n code).mono (by simp) fun _ => .inr).trans ((State.recorded_frame _ n code detail).noRegs (by simp)))

theorem State.diagEvent_chan (s : State) (n code : Nat) (sticky : Option Nat) (k : Nat) : (s.diagEvent n code sticky).chan k = s.chan k :=
  State.chan_congr ((s.diagEvent_frame n code sticky).same .kb (by simp)) k

/-- DIAG_STATUS stands apart from every fault record. -/
theorem diagStatus_notRec (n k : Nat) : ¬ RecReg k (Rg.PD_DIAG_STATUS n) := by
  unfold RecReg Rg.PD_DIAG_STATUS Rg.PD_FAULT_REC Rg.PD_FAULT_TIME_LO Rg.PD_FAULT_TIME_HI
  omega

/-- A register of DIAG_STATUS holds what the sticky bit left. -/
theorem State.diagEvent_diagStatus (s : State) (n k code : Nat) (sticky : Option Nat) :
    (s.diagEvent n code sticky).reg (Rg.PD_DIAG_STATUS k) = (s.withSticky n sticky).reg (Rg.PD_DIAG_STATUS k) := by
  obtain ⟨detail, heq⟩ := s.diagEvent_eq n code sticky
  rw [heq, (State.recorded_frame _ n code detail).reg id, (State.faultRec_frame _ n code).reg (diagStatus_notRec k n)]

theorem State.diagEvent_rec (s : State) (n : Nat) {code : Nat} (hcode : code < 65536) (sticky : Option Nat) :
    (s.diagEvent n code sticky).rd (Fd.PD_FAULT_REC_CODE n) = code ∧
      (s.diagEvent n code sticky).rd (Fd.PD_FAULT_REC_COUNT n) = min 0xFFFF (s.rd (Fd.PD_FAULT_REC_COUNT n) + 1) := by
  obtain ⟨detail, heq⟩ := s.diagEvent_eq n code sticky
  obtain ⟨hrec, hcount⟩ := (s.withSticky n sticky).faultRec_spec n hcode
  have hold : (s.withSticky n sticky).rd (Fd.PD_FAULT_REC_COUNT n) = s.rd (Fd.PD_FAULT_REC_COUNT n) := by
    refine (s.withSticky_frame n sticky).rd fun h => ?_
    have haddr : 0x200B0C04 + 0x10 * n = 0x200B0C00 + 0x10 * n := h.2
    omega
  rw [heq, (State.recorded_frame _ n code detail).rd id, (State.recorded_frame _ n code detail).rd id, hcount, hold]
  exact ⟨hrec, rfl⟩

/-- The onset of an event whose report shows: with its sticky bit and its record, it is reported. -/
theorem State.diagEvent_reported {s t : State} {n code b : Nat} {f : Fld} (hcode : code < 65536) (hb : b ≤ 31)
    (haddr : f.addr = Rg.PD_DIAG_STATUS n) (hbeside : (bitOf (Rg.PD_DIAG_STATUS n) b).beside f = true) (hflag : t.flag f = true)
    (hcount : t.rd (Fd.PD_FAULT_REC_COUNT n) = s.rd (Fd.PD_FAULT_REC_COUNT n)) : Reported s (t.diagEvent n code (some b)) n f code b := by
  obtain ⟨hrec, hnext⟩ := t.diagEvent_rec n hcode (some b)
  have hreg : (t.diagEvent n code (some b)).reg (Rg.PD_DIAG_STATUS n) = (t.withSticky n (some b)).reg (Rg.PD_DIAG_STATUS n) :=
    t.diagEvent_diagStatus n n code (some b)
  refine ⟨?_, ?_, hrec, by rw [hnext, hcount]⟩
  · have hkept : (t.diagEvent n code (some b)).flag f = (t.withSticky n (some b)).flag f := flag_congr (by rw [haddr, hreg])
    exact hkept.trans ((flag_wr_beside t _ f 1 haddr hbeside).trans hflag)
  · exact (flag_congr hreg).trans (flag_wr_one t (bitOf (Rg.PD_DIAG_STATUS n) b) rfl hb)

/-! ### Diagnostic faults (R226, R246) -/

/-- What a diagnostic fault on the gang led by `n` leaves. -/
structure DiagFaulted (s t : State) (n : Nat) : Prop where
  off : s.out n = true → ∀ m ∈ s.members n, t.out m = false
  latched : t.latched n = true
  cooling : t.cooling n = false
  cmdOn : t.cmdOn n = s.cmdOn n
  hot : ∀ k, (t.chan k).hot = (s.chan k).hot
  frame : Frame s t [.kb, .regs, .ep, .mem, .wg, .ic] (OfChan s n)

/-- A channel of the device has its status below every DIAG_STATUS and every fault record. -/
theorem gangStatus_lt {s : State} {n a : Nat} (hn : n < 52) (hgang : n + s.gangSize n ≤ 52) (h : GangStatus s n a) : a < 0x200B02D0 := by
  rcases h with ⟨m, hm, rfl⟩ | rfl
  · have hlt := ((s.mem_members n m).mp hm).2
    unfold Rg.PD_CH_STATUS
    omega
  · unfold Rg.PD_CH_STATUS
    omega

/-- `a` is the diagnostic status of channel `n`, or a register of its fault record. -/
abbrev DiagReg (n a : Nat) : Prop := a = Rg.PD_DIAG_STATUS n ∨ RecReg n a

theorem diagReg_ge {n a : Nat} (h : DiagReg n a) : 0x200B0C00 ≤ a := by
  unfold DiagReg RecReg Rg.PD_DIAG_STATUS Rg.PD_FAULT_REC Rg.PD_FAULT_TIME_LO Rg.PD_FAULT_TIME_HI at h
  omega

theorem ofChan_of_gangStatus {s : State} {n a : Nat} (h : GangStatus s n a) : OfChan s n a := by
  rcases h with ⟨m, hm, ha⟩ | ha
  · exact .inl ⟨m, hm, .inl ha⟩
  · exact .inr (.inl ha)

theorem ofChan_of_diagReg {s : State} {n a : Nat} (h : DiagReg n a) : OfChan s n a := by
  rcases h with ha | ha | ha | ha
  · exact .inr (.inr (.inl ha))
  · exact .inr (.inr (.inr (.inl ha)))
  · exact .inr (.inr (.inr (.inr (.inl ha))))
  · exact .inr (.inr (.inr (.inr (.inr (.inl ha)))))

theorem State.diagEvent_diagFrame (s : State) (n code : Nat) (sticky : Option Nat) :
    Frame s (s.diagEvent n code sticky) [.regs, .mem, .ep, .wg, .ic] (DiagReg n) :=
  (s.diagEvent_frame n code sticky).mono (by simp) fun _ h => h.imp_left And.right

/-- An event changes no PD_CH_STATUS of the device. -/
theorem State.diagEvent_chStatus (s : State) (n code : Nat) (sticky : Option Nat) {f : Fld} (hf : f.addr < 0x200B02D0) :
    (s.diagEvent n code sticky).flag f = s.flag f :=
  flag_of_frame (s.diagEvent_diagFrame n code sticky) fun h => absurd (diagReg_ge h) (by omega)

theorem chStatus_lt {n : Nat} (h : n < 52) : Rg.PD_CH_STATUS n < 0x200B02D0 := by unfold Rg.PD_CH_STATUS; omega

/-- The gang is off and its lead latched, before the event is recorded. -/
def State.faultOff (s : State) (n : Nat) : State := ((s.cutOff n).wr (Fd.PD_CH_STATUS_LATCHED n) 1).wr (Fd.PD_CH_STATUS_COOLING n) 0

theorem State.faultOff_frame (s : State) (n : Nat) : Frame s (s.faultOff n) [.kb, .regs] (GangStatus s n) :=
  (s.outStop_frame n 0).trans (((State.wr_frame _ (Fd.PD_CH_STATUS_LATCHED n) 1).mono (by simp) fun _ => .inr).trans
    ((State.wr_frame _ (Fd.PD_CH_STATUS_COOLING n) 0).mono (by simp) fun _ => .inr))

/-- LATCHED and COOLING are written beside every other field. -/
theorem State.faultOff_spares (s : State) (n : Nat) : Spares (Fld.Off [4, 5]) (s.cutOff n) (s.faultOff n) :=
  ((Spares.refl _ _).bit (by decide) (by decide)).bit (by decide) (by decide)

theorem State.faultOff_latched (s : State) (n : Nat) : (s.faultOff n).latched n = true := by
  unfold State.faultOff State.latched
  rw [flag_wr_beside _ (Fd.PD_CH_STATUS_COOLING n) (Fd.PD_CH_STATUS_LATCHED n) 0 rfl rfl]
  exact flag_wr_one _ (Fd.PD_CH_STATUS_LATCHED n) rfl (show 5 ≤ 31 by decide)

theorem State.faultOff_cooling (s : State) (n : Nat) : (s.faultOff n).cooling n = false := by
  unfold State.faultOff State.cooling
  exact flag_wr_zero _ (Fd.PD_CH_STATUS_COOLING n) (Nat.le_refl _) (show 4 ≤ 31 by decide)

theorem State.diagFault_faulted (s : State) {n : Nat} (hn : n < 52) (hgang : n + s.gangSize n ≤ 52) (code b : Nat) :
    DiagFaulted s (s.diagFault n code b) n := by
  have hevent : s.diagFault n code b = (s.faultOff n).diagEvent n code (some b) := rfl
  have hstatus : ∀ f : Fld, f.addr = Rg.PD_CH_STATUS n → (s.diagFault n code b).flag f = (s.faultOff n).flag f := fun f hf => by
    rw [hevent, State.diagEvent_chStatus _ n code (some b) (hf ▸ chStatus_lt hn)]
  refine ⟨fun hout m hm => ?_, ?_, ?_, ?_, fun k => ?_, ?_⟩
  · have hm52 : m < 52 := Nat.lt_of_lt_of_le ((s.mem_members n m).mp hm).2 hgang
    have hkept : (s.faultOff n).out m = (s.cutOff n).out m := (s.faultOff_spares n).flag (by simp [Fld.Off, Fd.PD_CH_STATUS_OUT])
    rw [hevent]
    exact (State.diagEvent_chStatus _ n code (some b) (f := Fd.PD_CH_STATUS_OUT m) (chStatus_lt hm52)).trans
      (hkept.trans (State.outStop_members hout 0 m hm))
  · exact (hstatus (Fd.PD_CH_STATUS_LATCHED n) rfl).trans (s.faultOff_latched n)
  · exact (hstatus (Fd.PD_CH_STATUS_COOLING n) rfl).trans (s.faultOff_cooling n)
  · refine (hstatus (Fd.PD_CH_STATUS_CMD n) rfl).trans (((s.faultOff_spares n).flag ?_).trans ((s.outStop_spares n 0).flag ?_)) <;>
      simp [Fld.Off, Fd.PD_CH_STATUS_CMD]
  · rw [hevent, State.diagEvent_chan, State.faultOff, State.wr_chan, State.wr_chan]
    exact s.outStop_hot n 0 k
  · exact ((s.faultOff_frame n).mono (by simp) fun _ => ofChan_of_gangStatus).trans
      (((s.faultOff n).diagEvent_diagFrame n code (some b)).mono (by simp) fun _ => ofChan_of_diagReg)

/-- The fault is reported in the bit `k` of DIAG_STATUS where that shows it. -/
theorem State.diagFault_reported {s t : State} {n code b k : Nat} (hn : n < 52) (hgang : n + t.gangSize n ≤ 52) (hcode : code < 65536)
    (hb : b ≤ 31) (hk : k < b) (hflag : t.flag (bitOf (Rg.PD_DIAG_STATUS n) k) = true)
    (hcount : t.rd (Fd.PD_FAULT_REC_COUNT n) = s.rd (Fd.PD_FAULT_REC_COUNT n)) :
    Reported s (t.diagFault n code b) n (bitOf (Rg.PD_DIAG_STATUS n) k) code b := by
  have hspare : ∀ a, 0x200B0C00 ≤ a → ¬ GangStatus t n a := fun a ha h => by
    have hlt := gangStatus_lt hn hgang h
    omega
  refine State.diagEvent_reported (t := t.faultOff n) hcode hb rfl (Fld.beside_of_lt (by simp [Fld.sound, bitOf, hb]) hk) ?_ ?_
  · exact (flag_of_frame (t.faultOff_frame n) (hspare _ (Nat.le_add_right _ _))).trans hflag
  · exact ((t.faultOff_frame n).rd (f := Fd.PD_FAULT_REC_COUNT n) (hspare _ (show 0x200B0C00 ≤ 0x200B0C04 + 0x10 * n by omega))).trans hcount

end Sys2Proof.Machine
end

section
/-! SUPPORT. Reports of the channel diagnostics (R241, R251): their onset, and their end. -/

namespace Sys2Proof.Machine

theorem State.report_onset {s : State} {f : Fld} (h : s.flag f = false) (n code b : Nat) :
    s.report n f true code b = (s.setFlag f true).diagEvent n code (some b) := by
  unfold State.report
  rw [h]
  rfl

/-- A report clears, or was clear. -/
theorem State.report_clear (s : State) (n code b : Nat) {f : Fld} (hf : f.sound = true) :
    (s.report n f false code b).flag f = false ∧ (s.report n f false code b).kb = s.kb ∧
      Frame s (s.report n f false code b) [.regs] (fun a => a = f.addr) := by
  obtain ⟨hlo, h31⟩ := f.sound_iff.mp hf
  unfold State.report
  split
  · next h => exact ⟨h, rfl, .refl s _ _⟩
  · exact ⟨flag_wr_zero s f hlo h31, rfl, s.setFlag_frame f false⟩

/-- The onset of the report in the bit `k` of DIAG_STATUS. -/
theorem State.report_spec {s t : State} {n code b k : Nat} (hcode : code < 65536) (hb : b ≤ 31) (hk : k < b)
    (hflag : t.flag (bitOf (Rg.PD_DIAG_STATUS n) k) = false)
    (hcount : t.rd (Fd.PD_FAULT_REC_COUNT n) = s.rd (Fd.PD_FAULT_REC_COUNT n)) :
    Reported s (t.report n (bitOf (Rg.PD_DIAG_STATUS n) k) true code b) n (bitOf (Rg.PD_DIAG_STATUS n) k) code b ∧
      (t.report n (bitOf (Rg.PD_DIAG_STATUS n) k) true code b).kb = t.kb ∧
      (∀ m, m < 52 → (t.report n (bitOf (Rg.PD_DIAG_STATUS n) k) true code b).out m = t.out m) ∧
      Frame t (t.report n (bitOf (Rg.PD_DIAG_STATUS n) k) true code b) [.regs, .mem, .ep, .wg, .ic] (DiagReg n) := by
  have hset : Frame t (t.setFlag (bitOf (Rg.PD_DIAG_STATUS n) k) true) [.regs, .mem, .ep, .wg, .ic] (DiagReg n) :=
    (t.setFlag_frame (bitOf (Rg.PD_DIAG_STATUS n) k) true).mono (by simp) fun _ => .inl
  have hframe := hset.trans (State.diagEvent_diagFrame _ n code (some b))
  rw [State.report_onset hflag]
  refine ⟨?_, hframe.same .kb (by simp), fun m hm => flag_of_frame hframe fun h => ?_, hframe⟩
  · refine State.diagEvent_reported hcode hb rfl (Fld.beside_of_lt (by simp [Fld.sound, bitOf, hb]) hk) ?_ ?_
    · exact flag_setFlag t (bitOf (Rg.PD_DIAG_STATUS n) k) true rfl (Nat.le_trans (Nat.le_of_lt hk) hb)
    · refine (rd_wr_ne t (bitOf (Rg.PD_DIAG_STATUS n) k) (Fd.PD_FAULT_REC_COUNT n) _ ?_).trans hcount
      show 0x200B0C04 + 0x10 * n ≠ 0x200B0C00 + 0x10 * n
      omega
  · exact absurd (diagReg_ge h) (Nat.not_le.mpr (Nat.lt_trans (chStatus_lt hm) (by decide)))

end Sys2Proof.Machine
end

section
/-! SUPPORT. The channel diagnostics (R242 to R246): open load, the off-state test, reverse current and over-temperature. -/

namespace Sys2Proof.Machine

theorem chStatus_ne_diagStatus (m n : Nat) (hm : m < 52) : Rg.PD_CH_STATUS m ≠ Rg.PD_DIAG_STATUS n := by
  unfold Rg.PD_CH_STATUS Rg.PD_DIAG_STATUS
  omega

/-! ### Open load in the on state (R242, R243) -/

/-- The window's sums start again. -/
def State.windowReset (s : State) (n : Nat) : State := s.setChan n { s.chan n with olSum := 0, olN := 0 }

theorem State.windowReset_frame (s : State) (n : Nat) : Frame s (s.windowReset n) [.kb] (fun _ => False) := s.setChan_frame n _

theorem openLoadOn_window {s : State} {n : Fin 52} (hlead : KerbLead s n.val) (hen : s.flag (Fd.PD_DIAG_CFG_OL_ON_EN n.val) = true)
    (hn : (s.chan n.val).olN ≠ 0) :
    exec (.openLoadOnWindow n) s = .next
      (if (s.chan n.val).olSum < ((olThreshold n.val * (s.chan n.val).olN : Nat) : Int) then
        (s.windowReset n.val).report n.val (Fd.PD_DIAG_STATUS_OL_ON n.val) true Code.OPEN_LOAD_ON 16
      else if ((2 * olThreshold n.val * (s.chan n.val).olN : Nat) : Int) ≤ (s.chan n.val).olSum then
        (s.windowReset n.val).report n.val (Fd.PD_DIAG_STATUS_OL_ON n.val) false Code.OPEN_LOAD_ON 16
      else s.windowReset n.val) := by
  obtain ⟨hup, hl, hitem, -⟩ := hlead
  show execOpenLoadOnWindow n s = _
  unfold execOpenLoadOnWindow
  rw [if_pos (by simp [hup, hl, hitem, hen])]
  simp only [if_neg hn]
  rfl

theorem openLoadOn_reported {s : State} {n : Fin 52} (hlead : KerbLead s n.val) (hen : s.flag (Fd.PD_DIAG_CFG_OL_ON_EN n.val) = true)
    (hn : (s.chan n.val).olN ≠ 0) (hlow : (s.chan n.val).olSum < olThreshold n.val * (s.chan n.val).olN)
    (hclear : s.flag (Fd.PD_DIAG_STATUS_OL_ON n.val) = false) :
    ∃ t, exec (.openLoadOnWindow n) s = .next t ∧ Reported s t n.val (Fd.PD_DIAG_STATUS_OL_ON n.val) Code.OPEN_LOAD_ON 16 ∧
      (t.chan n.val).olN = 0 ∧ (t.chan n.val).olSum = 0 ∧ t.out n.val = s.out n.val ∧
      Frame s t [.kb, .regs, .ep, .mem, .wg, .ic] (OfChan s n.val) := by
  obtain ⟨hrep, hkb, hout, hframe⟩ := State.report_spec (s := s) (t := s.windowReset n.val) (n := n.val) (code := Code.OPEN_LOAD_ON)
    (b := 16) (k := 0) (by decide) (by decide) (by decide) hclear rfl
  have hchan := (State.chan_congr hkb n.val).trans (s.setChan_chan_same n.val _)
  refine ⟨_, (openLoadOn_window hlead hen hn).trans (congrArg _ (if_pos (by rw [Nat.cast_mul]; exact hlow))), hrep, ?_, ?_, hout n.val n.isLt, ?_⟩
  · exact congrArg Chan.olN hchan
  · exact congrArg Chan.olSum hchan
  · exact ((s.windowReset_frame n.val).noRegs (by simp)).trans (hframe.mono (by simp) fun _ => ofChan_of_diagReg)

theorem openLoadOn_cleared {s : State} {n : Fin 52} (hlead : KerbLead s n.val) (hen : s.flag (Fd.PD_DIAG_CFG_OL_ON_EN n.val) = true)
    (hn : (s.chan n.val).olN ≠ 0) (hhigh : 2 * olThreshold n.val * (s.chan n.val).olN ≤ (s.chan n.val).olSum) :
    ∃ t, exec (.openLoadOnWindow n) s = .next t ∧ t.flag (Fd.PD_DIAG_STATUS_OL_ON n.val) = false ∧ (t.chan n.val).olN = 0 ∧
      t.out n.val = s.out n.val ∧ Frame s t [.kb, .regs] (fun a => a = Rg.PD_DIAG_STATUS n.val) := by
  obtain ⟨hflag, hkb, hrep⟩ := (s.windowReset n.val).report_clear n.val Code.OPEN_LOAD_ON 16 (f := Fd.PD_DIAG_STATUS_OL_ON n.val) rfl
  have hframe : Frame s _ [.kb, .regs] (fun a => a = Rg.PD_DIAG_STATUS n.val) :=
    ((s.windowReset_frame n.val).noRegs (by simp)).trans (hrep.widen (by simp))
  have hhigh' : ((2 * olThreshold n.val * (s.chan n.val).olN : Nat) : Int) ≤ (s.chan n.val).olSum := by push_cast; exact hhigh
  have hnot : ¬ (s.chan n.val).olSum < ((olThreshold n.val * (s.chan n.val).olN : Nat) : Int) := by
    rw [Nat.mul_assoc] at hhigh'
    omega
  refine ⟨_, (openLoadOn_window hlead hen hn).trans (congrArg _ ((if_neg hnot).trans (if_pos hhigh'))), hflag, ?_, ?_, hframe⟩
  · exact congrArg Chan.olN ((State.chan_congr hkb n.val).trans (s.setChan_chan_same n.val _))
  · exact flag_of_frame hframe (chStatus_ne_diagStatus n.val n.val n.isLt)

/-! ### The off-state test (R244) -/

/-- What the test does once its wait of 11 ms is over, with the output still off. -/
theorem offStateTest_runs {s : State} {n : Fin 52} (a b p : BitVec 16) (hlead : KerbLead s n.val) (hout : s.out n.val = false)
    (hfeed : s.suspended (s.chFeed n.val) = false)
    (hen : s.flag (Fd.PD_DIAG_CFG_STB_EN n.val) = true ∨ s.flag (Fd.PD_DIAG_CFG_OL_OFF_EN n.val) = true) :
    exec (.offStateTest n a b p) s = .next ((s.reach ((s.chan n.val).since + 11 * ms)).offTest n.val a.toNat b.toNat p.toNat) := by
  obtain ⟨hup, hl, hitem, -⟩ := hlead
  show execOffStateTest n a b p s = _
  unfold execOffStateTest
  rw [if_pos (by simp [hup, hl, hitem, hout, hfeed, hen])]

theorem State.reach_flag (s : State) (t : Nat) (f : Fld) : (s.reach t).flag f = s.flag f := rfl
theorem State.reach_chan (s : State) (t n : Nat) : (s.reach t).chan n = s.chan n := rfl

/-- The second failure in a row reports a short to battery; phase 2 is then skipped. -/
theorem State.offTest_stb {s : State} {n p1a : Nat} (hen : s.flag (Fd.PD_DIAG_CFG_STB_EN n) = true) (ha : 8000 < p1a)
    (hfail : (s.chan n).stbFail = 1) (p1b p2 : Nat) :
    s.offTest n p1a p1b p2 = (s.setChan n { s.chan n with stbFail := 2, stbPass := 0 }).report n (Fd.PD_DIAG_STATUS_STB n) true
      Code.SHORT_TO_BAT 18 := by
  unfold State.offTest State.testResult
  simp [hen, ha, hfail]

/-- The second failure in a row of the open-load test alone reports it. -/
theorem State.offTest_openLoad {s : State} {n p1a p1b p2 : Nat} (hoff : s.flag (Fd.PD_DIAG_CFG_STB_EN n) = false)
    (hen : s.flag (Fd.PD_DIAG_CFG_OL_OFF_EN n) = true) (ha : p1a ≤ 8000) (hb : p1b ≤ 8000) (hp : 3500 < p2) (hfail : (s.chan n).olFail = 1) :
    s.offTest n p1a p1b p2 = (s.setChan n { s.chan n with olFail := 2, olPass := 0 }).report n (Fd.PD_DIAG_STATUS_OL_OFF n) true
      Code.OPEN_LOAD_OFF 17 := by
  unfold State.offTest State.testResult
  simp [hen, hoff, Nat.not_lt.mpr ha, Nat.not_lt.mpr hb, hp, hfail]

/-- A test that ends in the onset of a report, of the bit `k` of DIAG_STATUS, on an output that stays off. -/
theorem offStateTest_reported {s t : State} {n code b k : Nat} {c : Chan} (hn : n < 52) (hcode : code < 65536) (hb : b ≤ 31) (hk : k < b)
    (hout : s.out n = false) (hclear : s.flag (bitOf (Rg.PD_DIAG_STATUS n) k) = false) (due : Nat)
    (ht : t = ((s.reach due).setChan n c).report n (bitOf (Rg.PD_DIAG_STATUS n) k) true code b) :
    Reported s t n (bitOf (Rg.PD_DIAG_STATUS n) k) code b ∧ due ≤ t.now ∧ t.out n = false ∧
      Frame s t [.kb, .regs, .ep, .mem, .wg, .ic, .now, .vt, .ptp] (OfChan s n) := by
  subst ht
  obtain ⟨hrep, -, hkept, hframe⟩ := State.report_spec (s := s) (t := (s.reach due).setChan n c) (n := n) hcode hb hk hclear rfl
  have hnow := hframe.same .now (by simp)
  refine ⟨hrep, (s.le_reach due).trans_eq hnow.symm, (hkept n hn).trans hout, ?_⟩
  exact ((s.pass_frame _).noRegs (by simp)).trans (((State.setChan_frame _ n c).noRegs (by simp)).trans
    (hframe.mono (by simp) fun _ => ofChan_of_diagReg))

theorem offStateTest_shortToBat {s : State} {n : Fin 52} {a b p : BitVec 16} (hlead : KerbLead s n.val) (hout : s.out n.val = false)
    (hfeed : s.suspended (s.chFeed n.val) = false) (hen : s.flag (Fd.PD_DIAG_CFG_STB_EN n.val) = true) (ha : 8000 < a.toNat)
    (hfail : (s.chan n.val).stbFail = 1) (hclear : s.flag (Fd.PD_DIAG_STATUS_STB n.val) = false) :
    ∃ t, exec (.offStateTest n a b p) s = .next t ∧ Reported s t n.val (Fd.PD_DIAG_STATUS_STB n.val) Code.SHORT_TO_BAT 18 ∧
      (s.chan n.val).since + 11 * ms ≤ t.now ∧ t.out n.val = false ∧
      Frame s t [.kb, .regs, .ep, .mem, .wg, .ic, .now, .vt, .ptp] (OfChan s n.val) :=
  ⟨_, offStateTest_runs a b p hlead hout hfeed (.inl hen), offStateTest_reported (k := 2) n.isLt (by decide) (by decide) (by decide) hout hclear _
    (State.offTest_stb ((s.reach_flag _ _).trans hen) ha ((congrArg Chan.stbFail (s.reach_chan _ _)).trans hfail) b.toNat p.toNat)⟩

theorem offStateTest_openLoad {s : State} {n : Fin 52} {a b p : BitVec 16} (hlead : KerbLead s n.val) (hout : s.out n.val = false)
    (hfeed : s.suspended (s.chFeed n.val) = false) (hoff : s.flag (Fd.PD_DIAG_CFG_STB_EN n.val) = false)
    (hen : s.flag (Fd.PD_DIAG_CFG_OL_OFF_EN n.val) = true) (ha : a.toNat ≤ 8000) (hb : b.toNat ≤ 8000) (hp : 3500 < p.toNat)
    (hfail : (s.chan n.val).olFail = 1) (hclear : s.flag (Fd.PD_DIAG_STATUS_OL_OFF n.val) = false) :
    ∃ t, exec (.offStateTest n a b p) s = .next t ∧ Reported s t n.val (Fd.PD_DIAG_STATUS_OL_OFF n.val) Code.OPEN_LOAD_OFF 17 ∧
      (s.chan n.val).since + 11 * ms ≤ t.now ∧ t.out n.val = false ∧
      Frame s t [.kb, .regs, .ep, .mem, .wg, .ic, .now, .vt, .ptp] (OfChan s n.val) :=
  ⟨_, offStateTest_runs a b p hlead hout hfeed (.inr hen), offStateTest_reported (k := 1) n.isLt (by decide) (by decide) (by decide) hout hclear _
    (State.offTest_openLoad ((s.reach_flag _ _).trans hoff) ((s.reach_flag _ _).trans hen) ha hb hp
      ((congrArg Chan.olFail (s.reach_chan _ _)).trans hfail))⟩

/-! ### Reverse current and over-temperature (R242, R246) -/

/-- A diagnostic fault on the lead `l` from a state `u` that shows it in the bit `k` of DIAG_STATUS, and beside that differs in Kerbside's typed state
alone. -/
theorem State.diagFault_spec {s u : State} {l code b k : Nat} (hl : l < 52) (hgang : l + s.gangSize l ≤ 52) (hcode : code < 65536) (hb : b ≤ 31)
    (hk : k < b) (hu : Frame s u [.kb, .regs] (fun a => a = Rg.PD_DIAG_STATUS l)) (hflag : u.flag (bitOf (Rg.PD_DIAG_STATUS l) k) = true) :
    ((s.out l = true → ∀ m ∈ s.members l, (u.diagFault l code b).out m = false) ∧ (u.diagFault l code b).latched l = true ∧
      (u.diagFault l code b).cooling l = false ∧ Reported s (u.diagFault l code b) l (bitOf (Rg.PD_DIAG_STATUS l) k) code b ∧
      (u.diagFault l code b).cmdOn l = s.cmdOn l ∧ Frame s (u.diagFault l code b) [.kb, .regs, .ep, .mem, .wg, .ic] (OfChan s l)) ∧
      ∀ j, ((u.diagFault l code b).chan j).hot = (u.chan j).hot := by
  have hplan : u.plan = s.plan := hu.same .plan (by simp)
  have hmem : u.members l = s.members l := State.members_congr hplan l
  have hgang' : l + u.gangSize l ≤ 52 := by rw [State.gangSize, State.chItem_congr hplan]; exact hgang
  have hstatus : Rg.PD_CH_STATUS l ≠ Rg.PD_DIAG_STATUS l := chStatus_ne_diagStatus l l hl
  have hrec : Rg.PD_FAULT_REC l ≠ Rg.PD_DIAG_STATUS l := by unfold Rg.PD_FAULT_REC Rg.PD_DIAG_STATUS; omega
  obtain ⟨hoff, hlatched, hcooling, hcmd, hhot, hframe⟩ := u.diagFault_faulted hl hgang' code b
  refine ⟨⟨fun hout => ?_, hlatched, hcooling, ?_, ?_, ?_⟩, hhot⟩
  · rw [← hmem]
    exact hoff ((flag_of_frame hu hstatus).trans hout)
  · exact State.diagFault_reported hl hgang' hcode hb hk hflag (hu.rd (f := Fd.PD_FAULT_REC_COUNT l) hrec)
  · exact hcmd.trans (flag_of_frame hu hstatus)
  · refine (hu.mono (by simp) fun a ha => .inr (.inr (.inl ha))).trans (hframe.mono (fun _ => id) fun a ha => ?_)
    rwa [OfChan, hmem] at ha

theorem reverseCurrent_latches {s : State} {n : Fin 52} {l : Nat} (hlead : s.chLead n.val = l) (hl : l < 52) (hgang : l + s.gangSize l ≤ 52)
    (hup : s.kb.up = true) (hbridge : isBridge n.val = false) (hitem : (s.chItem n.val).isSome = true) (hout : s.out l = true) :
    ∃ t, exec (.reverseCurrent n) s = .next t ∧ (∀ m ∈ s.members l, t.out m = false) ∧ t.latched l = true ∧ t.cooling l = false ∧
      Reported s t l (Fd.PD_DIAG_STATUS_REV l) Code.REVERSE_CURRENT 19 ∧ t.cmdOn l = s.cmdOn l ∧
      Frame s t [.kb, .regs, .ep, .mem, .wg, .ic] (OfChan s l) := by
  have hexec : exec (.reverseCurrent n) s = .next ((s.wr (Fd.PD_DIAG_STATUS_REV l) 1).diagFault l Code.REVERSE_CURRENT 19) := by
    subst hlead
    show execReverseCurrent n s = _
    unfold execReverseCurrent State.faultLead
    dsimp only
    rw [if_pos (by simp [hup, hbridge, hitem, hout])]
  obtain ⟨⟨hoff, hlatched, hcooling, hrep, hcmd, hframe⟩, -⟩ := State.diagFault_spec (u := s.wr (Fd.PD_DIAG_STATUS_REV l) 1)
    (code := Code.REVERSE_CURRENT) (b := 19) (k := 3) hl hgang (by decide) (by decide) (by decide)
    ((s.wr_frame (Fd.PD_DIAG_STATUS_REV l) 1).widen (by simp)) (flag_wr_one s (Fd.PD_DIAG_STATUS_REV l) rfl (show 3 ≤ 31 by decide))
  exact ⟨_, hexec, hoff hout, hlatched, hcooling, hrep, hcmd, hframe⟩

theorem overTemp_latches {s : State} {n : Fin 52} {l : Nat} (hlead : s.chLead n.val = l) (hl : l < 52) (hgang : l + s.gangSize l ≤ 52)
    (hup : s.kb.up = true) (hitem : (s.chItem n.val).isSome = true) :
    ∃ t, exec (.overTemp n) s = .next t ∧ (t.chan n.val).hot = true ∧ (s.out l = true → ∀ m ∈ s.members l, t.out m = false) ∧
      t.latched l = true ∧ t.cooling l = false ∧ Reported s t l (Fd.PD_DIAG_STATUS_HOT l) Code.OVER_TEMP 20 ∧ t.cmdOn l = s.cmdOn l ∧
      Frame s t [.kb, .regs, .ep, .mem, .wg, .ic] (OfChan s l) := by
  let u := (s.setChan n.val { s.chan n.val with hot := true }).wr (Fd.PD_DIAG_STATUS_HOT l) 1
  have hexec : exec (.overTemp n) s = .next (u.diagFault l Code.OVER_TEMP 20) := by
    subst hlead
    show execOverTemp n s = _
    unfold execOverTemp State.faultLead
    dsimp only
    rw [if_pos (by simp [hup, hitem])]
  have hu : Frame s u [.kb, .regs] (fun a => a = Rg.PD_DIAG_STATUS l) :=
    ((s.setChan_frame n.val _).noRegs (by simp)).trans ((State.wr_frame _ (Fd.PD_DIAG_STATUS_HOT l) 1).widen (by simp))
  obtain ⟨⟨hoff, hlatched, hcooling, hrep, hcmd, hframe⟩, hhot⟩ := State.diagFault_spec (code := Code.OVER_TEMP) (b := 20) (k := 4) hl hgang
    (by decide) (by decide) (by decide) hu (flag_wr_one _ (Fd.PD_DIAG_STATUS_HOT l) rfl (show 4 ≤ 31 by decide))
  have hsensor : (u.chan n.val).hot = true := congrArg Chan.hot (s.setChan_chan_same n.val { s.chan n.val with hot := true })
  exact ⟨_, hexec, (hhot n.val).trans hsensor, hoff, hlatched, hcooling, hrep, hcmd, hframe⟩

/-- HOT of the lead stays for as long as another member of the gang is hot (R246). -/
theorem junctionCooled_spec {s : State} {n : Fin 52} {l : Nat} (hlead : s.chLead n.val = l) (hl : l < 52) (hup : s.kb.up = true)
    (hhot : (s.chan n.val).hot = true) :
    ∃ t, exec (.junctionCooled n) s = .next t ∧ (t.chan n.val).hot = false ∧
      t.hot l = (s.members l).any (fun m => m != n.val && (s.chan m).hot) ∧ t.latched l = s.latched l ∧
      Frame s t [.kb, .regs] (fun a => a = Rg.PD_DIAG_STATUS l) := by
  let u := s.setChan n.val { s.chan n.val with hot := false }
  have hexec : exec (.junctionCooled n) s = .next (u.setFlag (Fd.PD_DIAG_STATUS_HOT l) ((u.members l).any (fun m => (u.chan m).hot))) := by
    subst hlead
    show execJunctionCooled n s = _
    unfold execJunctionCooled State.faultLead
    dsimp only
    rw [if_pos (by simp [hup, hhot])]
  have hsensor : ∀ m, (u.chan m).hot = (m != n.val && (s.chan m).hot) := fun m => by
    by_cases hm : m = n.val
    · rw [hm, s.setChan_chan_same]
      simp
    · rw [s.setChan_chan_ne n.val _ m hm]
      simp [hm]
  have hframe : Frame s (u.setFlag (Fd.PD_DIAG_STATUS_HOT l) ((u.members l).any (fun m => (u.chan m).hot))) [.kb, .regs]
      (fun a => a = Rg.PD_DIAG_STATUS l) :=
    ((s.setChan_frame n.val _).noRegs (by simp)).trans ((State.setFlag_frame _ (Fd.PD_DIAG_STATUS_HOT l) _).widen (by simp))
  refine ⟨_, hexec, ?_, ?_, flag_of_frame hframe ?_, hframe⟩
  · exact congrArg Chan.hot (s.setChan_chan_same n.val { s.chan n.val with hot := false })
  · refine (flag_setFlag u (Fd.PD_DIAG_STATUS_HOT l) _ rfl (show 4 ≤ 31 by decide)).trans ?_
    simp only [hsensor]
    rfl
  · exact chStatus_ne_diagStatus l l hl

end Sys2Proof.Machine
end

section
/-! SUPPORT. Feed faults and returns (R247, R248), and the statement on the power diagnostics. -/

namespace Sys2Proof.Machine

/-! ### A feed fault (R247) -/

theorem State.setFeed_feed_same (s : State) (f : Nat) (x : Feed) : (s.setFeed f x).feed f = x := by
  unfold State.setFeed State.feed
  split <;> rfl

theorem State.mem_onFeed {s : State} {f n : Nat} (h : n ∈ s.onFeed f) : n < 52 ∧ (s.chItem n).isSome = true := by
  simp only [State.onFeed, List.mem_filter, List.mem_range, Bool.and_eq_true] at h
  exact ⟨h.1, h.2.1⟩

/-- The field STATE of a feed stands in PD_FEED_STATUS. -/
theorem feedStateFld_addr (f : Nat) : (feedStateFld f).addr = Rg.PD_FEED_STATUS := by
  unfold feedStateFld
  split <;> rfl

theorem feedStateFld_sound (f : Nat) : (feedStateFld f).sound = true := by
  unfold feedStateFld
  split <;> rfl

theorem feedStateFld_put (s : State) (f : Nat) {v : Nat} (hv : v < 8) : (s.wr (feedStateFld f) v).rd (feedStateFld f) = v := by
  rw [rd_wr_self s _ v (feedStateFld_sound f)]
  unfold feedStateFld
  split <;> exact Nat.mod_eq_of_lt hv

theorem feedStateFld_hi (f : Nat) : (feedStateFld f).hi < 16 := by
  unfold feedStateFld
  split <;> decide

theorem feedFaultState_range (k : FeedFault) : 1 ≤ feedFaultState k ∧ feedFaultState k ≤ 3 := by cases k <;> decide

theorem feedCode_lt (k : FeedFault) : feedCode (feedFaultState k) < 65536 := by cases k <;> decide

/-- The feed is in its fault state, and no channel waits for its turn any more. -/
def State.feedFaulted (s : State) (f : Nat) (k : FeedFault) : State :=
  ((s.wr (feedStateFld f) (feedFaultState k)).wr (bitOf Rg.PD_FEED_STATUS (16 + 3 * f + feedFaultState k - 1)) 1).setFeed f
    { s.feed f with turns := [] }

theorem State.feedFaulted_state (s : State) {f : Nat} (hf : f < 2) (k : FeedFault) :
    (s.feedFaulted f k).rd (feedStateFld f) = feedFaultState k := by
  obtain ⟨hlow, hhigh⟩ := feedFaultState_range k
  have hhi : (feedStateFld f).hi < 16 := feedStateFld_hi f
  rw [State.feedFaulted, State.setFeed_rd, rd_wr_beside _ _ (feedStateFld f) 1 (feedStateFld_addr f) (Fld.beside_of_lt ?_ ?_),
    feedStateFld_put s f (by omega)]
  · simp only [Fld.sound_iff, bitOf]
    omega
  · simp only [bitOf]
    omega

theorem State.feedFaulted_frame (s : State) (f : Nat) (k : FeedFault) : Frame s (s.feedFaulted f k) [.kb, .regs] (fun a => a = Rg.PD_FEED_STATUS) :=
  ((s.wr_frame (feedStateFld f) _).mono (by simp) fun _ ha => ha.trans (feedStateFld_addr f)).trans
    (((State.wr_frame _ (bitOf Rg.PD_FEED_STATUS _) 1).widen (by simp)).trans ((State.setFeed_frame _ f _).noRegs (by simp)))

/-- A channel of the feed is suspended: where it leads its gang, the gang's outputs stop. -/
def State.feedCut (s : State) (n : Nat) : State := (if s.chLead n == n then s.cutOff n else s).wr (Fd.PD_DIAG_STATUS_SUSPENDED n) 1

/-- The channels' registers lie above the feeds'. -/
theorem State.feedCut_frame (s : State) (n : Nat) : Frame s (s.feedCut n) [.kb, .regs] (fun a => 0x200B0200 ≤ a) := by
  have hcut : Frame s (if s.chLead n == n then s.cutOff n else s) [.kb, .regs] (fun a => 0x200B0200 ≤ a) := by
    split
    · refine (s.outStop_frame n 0).mono (fun _ => id) fun a ha => ?_
      rcases ha with ⟨m, -, rfl⟩ | rfl <;> exact Nat.le_add_right _ _
    · exact .refl s _ _
  refine hcut.trans ((State.wr_frame _ (Fd.PD_DIAG_STATUS_SUSPENDED n) 1).mono (by simp) fun a ha => ?_)
  have haddr : a = 0x200B0C00 + 0x10 * n := ha
  omega

theorem State.feedCut_spares (s : State) (n : Nat) : Spares (Fld.Off [0, 2, 3, 5]) s (s.feedCut n) :=
  (Spares.ite ((s.outStop_spares n 0).more (by simp)) (.refl _ s)).bit (by decide) (by decide)

/-- The SUSPENDED bits of two channels stand in two registers. -/
theorem suspended_fld_inj {m k : Nat} (h : (Fd.PD_DIAG_STATUS_SUSPENDED m).addr = (Fd.PD_DIAG_STATUS_SUSPENDED k).addr) :
    Fd.PD_DIAG_STATUS_SUSPENDED m = Fd.PD_DIAG_STATUS_SUSPENDED k := by
  have hm : m = k := by
    have haddr : 0x200B0C00 + 0x10 * m = 0x200B0C00 + 0x10 * k := h
    omega
  rw [hm]

theorem State.feedCut_suspended (s : State) (n : Nat) : (s.feedCut n).flag (Fd.PD_DIAG_STATUS_SUSPENDED n) = true :=
  flag_wr_one _ (Fd.PD_DIAG_STATUS_SUSPENDED n) rfl (show 5 ≤ 31 by decide)

theorem State.feedCut_keeps_suspended {s : State} {m : Nat} (n : Nat) (h : s.flag (Fd.PD_DIAG_STATUS_SUSPENDED m) = true) :
    (s.feedCut n).flag (Fd.PD_DIAG_STATUS_SUSPENDED m) = true := by
  refine flag_wr_one_keeps _ rfl rfl suspended_fld_inj ?_
  refine (Spares.ite (P := Fld.Off [0, 2, 3]) (s.outStop_spares n 0) (.refl _ s)).flag ?_ |>.trans h
  simp [Fld.Off, Fd.PD_DIAG_STATUS_SUSPENDED]

/-- SUSPENDED is no output bit. -/
theorem State.feedCut_out (s : State) (n m : Nat) : (s.feedCut n).out m = (if s.chLead n == n then s.cutOff n else s).out m :=
  ((Spares.refl (Fld.Off [5]) _).bit (a := Rg.PD_DIAG_STATUS n) (v := 1) (by decide) (by decide)).flag (g := Fd.PD_CH_STATUS_OUT m)
    (by simp [Fld.Off, Fd.PD_CH_STATUS_OUT])

theorem State.feedCut_lead_off {s : State} {n : Nat} (hlead : s.chLead n = n) (hgang : 0 < s.gangSize n) : (s.feedCut n).out n = false := by
  rw [State.feedCut_out, hlead, if_pos (beq_self_eq_true n)]
  cases hout : s.out n with
  | false => exact State.outStop_keeps_off hout n 0
  | true => exact State.outStop_members hout 0 n ((s.mem_members n n).mpr ⟨Nat.le_refl n, by omega⟩)

theorem State.feedCut_keeps_off {s : State} {m : Nat} (n : Nat) (h : s.out m = false) : (s.feedCut n).out m = false := by
  rw [State.feedCut_out]
  split
  · exact State.outStop_keeps_off h n 0
  · exact h

/-- Every channel in the list is suspended, and those that lead a gang are off. -/
theorem feedCuts_spec (s : State) (l : List Nat) (hgang : ∀ n ∈ l, s.chLead n = n → 0 < s.gangSize n) :
    (∀ n ∈ l, (forAll l State.feedCut s).flag (Fd.PD_DIAG_STATUS_SUSPENDED n) = true) ∧
      (∀ n ∈ l, s.chLead n = n → (forAll l State.feedCut s).out n = false) ∧
      (∀ n, (forAll l State.feedCut s).cmdOn n = s.cmdOn n) ∧ Frame s (forAll l State.feedCut s) [.kb, .regs] (fun a => 0x200B0200 ≤ a) := by
  refine ⟨?_, ?_, fun n => ?_, forAll_frame l (fun n _ u => u.feedCut_frame n) s⟩
  · exact forAll_each (I := fun _ => True) (P := fun n u => u.flag (Fd.PD_DIAG_STATUS_SUSPENDED n) = true) l (fun _ _ _ => trivial)
      (fun u n _ _ => u.feedCut_suspended n) (fun _ _ k _ _ hn => State.feedCut_keeps_suspended k hn) s trivial
  · refine forAll_each (I := fun u => u.plan = s.plan) (P := fun n u => s.chLead n = n → u.out n = false) l
      (fun u n hu => ((u.feedCut_frame n).same .plan (by simp)).trans hu) (fun u n hn hu hlead => ?_)
      (fun _ _ k _ _ hn hlead => State.feedCut_keeps_off k (hn hlead)) s rfl
    refine State.feedCut_lead_off ((State.chLead_congr hu n).trans hlead) ?_
    rw [State.gangSize, State.chItem_congr hu]
    exact hgang n hn hlead
  · have hspare : Spares (Fld.Off [0, 2, 3, 5]) s (forAll l State.feedCut s) := .forAll (.refl _ s) fun u n => u.feedCut_spares n
    exact hspare.flag (by simp [Fld.Off, Fd.PD_CH_STATUS_CMD])

/-- The event that a feed fault records on a channel. -/
def State.feedEvent (code : Nat) (s : State) (n : Nat) : State := s.diagEvent n code (some 21)

theorem State.feedEvent_suspended (s : State) (code n m : Nat) :
    (s.feedEvent code n).flag (Fd.PD_DIAG_STATUS_SUSPENDED m) = s.flag (Fd.PD_DIAG_STATUS_SUSPENDED m) := by
  refine (flag_congr (s.diagEvent_diagStatus n m code (some 21))).trans ?_
  exact ((Spares.refl (Fld.Off [21]) s).bit (a := Rg.PD_DIAG_STATUS n) (v := 1) (by decide) (by decide)).flag
    (g := Fd.PD_DIAG_STATUS_SUSPENDED m) (by simp [Fld.Off, Fd.PD_DIAG_STATUS_SUSPENDED])

theorem faultRec_notDiagReg {n m : Nat} (h : m ≠ n) : ¬ DiagReg n (Rg.PD_FAULT_REC m) := by
  unfold DiagReg RecReg Rg.PD_DIAG_STATUS Rg.PD_FAULT_REC Rg.PD_FAULT_TIME_LO Rg.PD_FAULT_TIME_HI
  omega

theorem feedEvents_spec (s : State) (l : List Nat) {code : Nat} (hcode : code < 65536) :
    (∀ n ∈ l, (forAll l (State.feedEvent code) s).rd (Fd.PD_FAULT_REC_CODE n) = code) ∧
      (∀ n, (forAll l (State.feedEvent code) s).flag (Fd.PD_DIAG_STATUS_SUSPENDED n) = s.flag (Fd.PD_DIAG_STATUS_SUSPENDED n)) ∧
      Frame s (forAll l (State.feedEvent code) s) [.regs, .mem, .ep, .wg, .ic] (fun a => 0x200B0C00 ≤ a) := by
  refine ⟨?_, fun n => ?_, forAll_frame l (fun n _ u => (u.diagEvent_diagFrame n code (some 21)).mono (fun _ => id) fun _ => diagReg_ge) s⟩
  · refine forAll_each (I := fun _ => True) (P := fun n u => u.rd (Fd.PD_FAULT_REC_CODE n) = code) l (fun _ _ _ => trivial)
      (fun u n _ _ => (u.diagEvent_rec n hcode (some 21)).1) (fun u n k _ _ hn => ?_) s trivial
    by_cases hk : n = k
    · exact hk ▸ (u.diagEvent_rec n hcode (some 21)).1
    · exact ((u.diagEvent_diagFrame k code (some 21)).rd (f := Fd.PD_FAULT_REC_CODE n) (faultRec_notDiagReg hk)).trans hn
  · exact forAll_keeps (fun u => u.flag (Fd.PD_DIAG_STATUS_SUSPENDED n) = s.flag (Fd.PD_DIAG_STATUS_SUSPENDED n)) l _
      (fun u k hu => (u.feedEvent_suspended code k n).trans hu) s rfl

theorem feedFault_eq {s : State} {f : Fin 2} {k : FeedFault} (hup : s.kb.up = true) (hnew : s.rd (feedStateFld f.val) ≠ feedFaultState k)
    (hrev : ¬ (k = .underVoltage ∧ s.rd (feedStateFld f.val) = 3)) :
    exec (.feedFault f k) s = .next (forAll (s.onFeed f.val) (State.feedEvent (feedCode (feedFaultState k)))
      (forAll (s.onFeed f.val) State.feedCut (s.feedFaulted f.val k))) := by
  have hcuts : (forAll (s.onFeed f.val) State.feedCut (s.feedFaulted f.val k)).onFeed f.val = s.onFeed f.val :=
    State.onFeed_congr (((s.feedFaulted_frame f.val k).same .plan (by simp)).symm ▸
      (forAll_frame (s.onFeed f.val) (fun n _ u => u.feedCut_frame n) (s.feedFaulted f.val k)).same .plan (by simp)) f.val
  show execFeedFault f k s = _
  unfold execFeedFault
  rw [if_pos ?_]
  · show Host.Outcome.next (forAll ((forAll (s.onFeed f.val) State.feedCut (s.feedFaulted f.val k)).onFeed f.val) _ _) = _
    rw [hcuts]
    rfl
  · simp only [hup, Bool.true_and, Bool.and_eq_true, bne_iff_ne, Bool.not_eq_true', Bool.and_eq_false_iff, beq_eq_false_iff_ne]
    exact ⟨hnew, not_and_or.mp hrev⟩

theorem feedFault_spec {s : State} {f : Fin 2} {k : FeedFault} (hup : s.kb.up = true) (hnew : s.rd (feedStateFld f.val) ≠ feedFaultState k)
    (hrev : ¬ (k = .underVoltage ∧ s.rd (feedStateFld f.val) = 3)) (hgang : ∀ n ∈ s.leads, n + s.gangSize n ≤ 52 ∧ 0 < s.gangSize n) :
    ∃ t, exec (.feedFault f k) s = .next t ∧ t.rd (feedStateFld f.val) = feedFaultState k ∧ t.suspended f.val = true ∧
      (∀ n ∈ s.onFeed f.val, t.flag (Fd.PD_DIAG_STATUS_SUSPENDED n) = true ∧ t.cmdOn n = s.cmdOn n ∧
        (s.chLead n = n → t.out n = false) ∧ t.rd (Fd.PD_FAULT_REC_CODE n) = feedCode (feedFaultState k)) ∧ t.otp = s.otp ∧ t.pending = s.pending := by
  have hlead : ∀ n ∈ s.onFeed f.val, s.chLead n = n → 0 < s.gangSize n := fun n hn hl =>
    (hgang n (by simp [State.leads, State.mem_onFeed hn, hl])).2
  have hfault := s.feedFaulted_frame f.val k
  obtain ⟨hsusp, hoff, hcmd, hcuts⟩ := feedCuts_spec (s.feedFaulted f.val k) (s.onFeed f.val) hlead
  obtain ⟨hrec, hkept, hevents⟩ := feedEvents_spec (forAll (s.onFeed f.val) State.feedCut (s.feedFaulted f.val k)) (s.onFeed f.val) (feedCode_lt k)
  have hstate : (forAll (s.onFeed f.val) (State.feedEvent (feedCode (feedFaultState k)))
      (forAll (s.onFeed f.val) State.feedCut (s.feedFaulted f.val k))).rd (feedStateFld f.val) = feedFaultState k := by
    rw [hevents.rd (by rw [feedStateFld_addr]; decide), hcuts.rd (by rw [feedStateFld_addr]; decide)]
    exact s.feedFaulted_state f.isLt k
  have hstatus : ∀ n ∈ s.onFeed f.val, ¬ 0x200B0C00 ≤ Rg.PD_CH_STATUS n := fun n hn =>
    Nat.not_le.mpr (Nat.lt_trans (chStatus_lt (State.mem_onFeed hn).1) (by decide))
  refine ⟨_, feedFault_eq hup hnew hrev, hstate, ?_, fun n hn => ⟨(hkept n).trans (hsusp n hn), ?_, fun hl => ?_, hrec n hn⟩, ?_, ?_⟩
  · rw [State.suspended, hstate]
    exact bne_iff_ne.mpr (Nat.ne_of_gt (feedFaultState_range k).1)
  · refine (flag_of_frame hevents (hstatus n hn)).trans ((hcmd n).trans (flag_of_frame hfault ?_))
    show 0x200B0200 + 0x4 * n ≠ 0x200B0030
    omega
  · exact (flag_of_frame hevents (hstatus n hn)).trans (hoff n hn hl)
  · exact (hevents.same .otp (by simp)).trans ((hcuts.same .otp (by simp)).trans (hfault.same .otp (by simp)))
  · exact hevents.1.trans (hcuts.1.trans hfault.1)

/-- On a reversed feed an under-voltage is no fault of its own (R247). -/
theorem feedFault_reversed {s : State} {f : Fin 2} (h : s.rd (feedStateFld f.val) = 3) : exec (.feedFault f .underVoltage) s = .next s := by
  show execFeedFault f .underVoltage s = _
  unfold execFeedFault
  rw [if_neg (by simp [h])]

/-! ### A return (R248) -/

/-- The channel is suspended no more. -/
def State.unsuspend (s : State) (n : Nat) : State := s.wr (Fd.PD_DIAG_STATUS_SUSPENDED n) 0

theorem unsuspended_spec (s : State) (l : List Nat) :
    (∀ n ∈ l, (forAll l State.unsuspend s).flag (Fd.PD_DIAG_STATUS_SUSPENDED n) = false) ∧
      Frame s (forAll l State.unsuspend s) [.regs] (fun a => ∃ n ∈ l, a = Rg.PD_DIAG_STATUS n) := by
  refine ⟨?_, forAll_frame l (fun n hn u => (u.wr_frame (Fd.PD_DIAG_STATUS_SUSPENDED n) 0).mono (fun _ => id) fun _ ha => ⟨n, hn, ha⟩) s⟩
  exact forAll_each (I := fun _ => True) (P := fun n u => u.flag (Fd.PD_DIAG_STATUS_SUSPENDED n) = false) l (fun _ _ _ => trivial)
    (fun u n _ _ => flag_wr_zero u (Fd.PD_DIAG_STATUS_SUSPENDED n) (Nat.le_refl 5) (show 5 ≤ 31 by decide))
    (fun u _ k _ _ hn => flag_wr_zero_keeps u (f := Fd.PD_DIAG_STATUS_SUSPENDED k) rfl suspended_fld_inj hn) s trivial

/-- The feed is in order again, and its channels are suspended no more. -/
def State.feedBack (s : State) (f : Nat) : State := forAll (s.onFeed f) State.unsuspend (s.wr (feedStateFld f) 0)

theorem State.feedBack_frame (s : State) (f : Nat) :
    Frame s (s.feedBack f) [.regs] (fun a => a = Rg.PD_FEED_STATUS ∨ ∃ n ∈ s.onFeed f, a = Rg.PD_DIAG_STATUS n) :=
  ((s.wr_frame (feedStateFld f) 0).mono (fun _ => id) fun _ ha => .inl (ha.trans (feedStateFld_addr f))).trans
    ((unsuspended_spec _ (s.onFeed f)).2.mono (fun _ => id) fun _ => .inr)

/-- A return changes no PD_CH_STATUS. -/
theorem State.feedBack_chStatus (s : State) (f : Nat) {n : Nat} (hn : n < 52) {g : Fld} (hg : g.addr = Rg.PD_CH_STATUS n) :
    (s.feedBack f).flag g = s.flag g := by
  refine flag_of_frame (s.feedBack_frame f) ?_
  rw [hg]
  rintro (h | ⟨m, -, h⟩)
  · have haddr : 0x200B0200 + 0x4 * n = 0x200B0030 := h
    omega
  · exact chStatus_ne_diagStatus n m hn h

/-- The channels that wait for their turn: the leads on the feed that are commanded on, and neither latched nor cooling. -/
def State.waitsTurn (s : State) (f n : Nat) : Bool := s.chFeed n == f && s.cmdOn n && !s.latched n && !s.cooling n

theorem State.feedBack_turns (s : State) (f : Nat) : (s.feedBack f).leads.filter ((s.feedBack f).waitsTurn f) = s.leads.filter (s.waitsTurn f) := by
  have hplan : (s.feedBack f).plan = s.plan := (s.feedBack_frame f).same .plan (by simp)
  rw [State.leads_congr hplan]
  refine List.filter_congr fun n hn => ?_
  have hlt : n < 52 := List.mem_range.mp (List.mem_filter.mp hn).1
  have hfeed : (s.feedBack f).chFeed n = s.chFeed n := by rw [State.chFeed, State.chItem_congr hplan, State.chFeed]
  simp only [State.waitsTurn, hfeed, State.cmdOn, State.latched, State.cooling,
    s.feedBack_chStatus f hlt (g := Fd.PD_CH_STATUS_CMD n) rfl, s.feedBack_chStatus f hlt (g := Fd.PD_CH_STATUS_LATCHED n) rfl,
    s.feedBack_chStatus f hlt (g := Fd.PD_CH_STATUS_COOLING n) rfl]

theorem feedReturn_spec {s : State} {f : Fin 2} (hup : s.kb.up = true) (hsusp : s.suspended f.val = true) :
    ∃ t, exec (.feedReturn f) s = .next t ∧ t.suspended f.val = false ∧ (t.feed f.val).turnAt = s.now ∧
      (t.feed f.val).turns = s.leads.filter (fun n => s.chFeed n == f.val && s.cmdOn n && !s.latched n && !s.cooling n) ∧
      (∀ n ∈ s.onFeed f.val, t.flag (Fd.PD_DIAG_STATUS_SUSPENDED n) = false ∧ t.out n = s.out n) ∧
      Frame s t [.kb, .regs] (fun a => a = Rg.PD_FEED_STATUS ∨ ∃ n ∈ s.onFeed f.val, a = Rg.PD_DIAG_STATUS n) := by
  let u := s.feedBack f.val
  let x : Feed := { u.feed f.val with turns := u.leads.filter (u.waitsTurn f.val), turnAt := u.now }
  have hexec : exec (.feedReturn f) s = .next (u.setFeed f.val x) := by
    show execFeedReturn f s = _
    unfold execFeedReturn
    rw [if_pos (by simp [hup, hsusp])]
    rfl
  have hframe : Frame s u [.regs] _ := s.feedBack_frame f.val
  obtain ⟨hclear, hloop⟩ := unsuspended_spec (s.wr (feedStateFld f.val) 0) (s.onFeed f.val)
  have hstate : u.rd (feedStateFld f.val) = 0 := by
    refine (hloop.rd ?_).trans (feedStateFld_put s f.val (by decide))
    rintro ⟨n, -, h⟩
    have haddr : 0x200B0030 = 0x200B0C00 + 0x10 * n := (feedStateFld_addr f.val).symm.trans h
    omega
  refine ⟨_, hexec, ?_, ?_, ?_, fun n hn => ⟨hclear n hn, ?_⟩, ?_⟩
  · show (u.rd (feedStateFld f.val) != 0) = false
    rw [hstate]
    rfl
  · rw [State.setFeed_feed_same]
    exact hframe.same .now (by simp)
  · rw [State.setFeed_feed_same]
    exact s.feedBack_turns f.val
  · exact s.feedBack_chStatus f.val (State.mem_onFeed hn).1 rfl
  · exact (hframe.widen (by simp)).trans ((u.setFeed_frame f.val x).noRegs (by simp))

/-! ### A turn of the queue (R248) -/

theorem State.outOn_feed (s : State) (n : Nat) (window : Bool) (f : Nat) : (s.outOn n window).feed f = s.feed f := by
  obtain ⟨c, -, heq⟩ := s.outOn_eq n window
  have hfeed : ((s.outsTo n 1).setChan n c).feed f = s.feed f := State.feed_congr (s.outsTo_kb n 1) f
  rw [heq]
  split
  · unfold State.openInrush
    split
    · exact hfeed
    · exact hfeed
  · exact hfeed

theorem State.setFeed_kb_up (s : State) (f : Nat) (x : Feed) : (s.setFeed f x).kb.up = s.kb.up := by
  unfold State.setFeed
  split <;> rfl

theorem State.setFeed_chan (s : State) (f : Nat) (x : Feed) (n : Nat) : (s.setFeed f x).chan n = s.chan n := by
  unfold State.setFeed
  split <;> rfl

/-- The turn is reached, and the queue moves on. -/
def State.turnTaken (s : State) (f : Nat) (rest : List Nat) : State :=
  (s.reach (s.feed f).turnAt).setFeed f { s.feed f with turns := rest, turnAt := (s.reach (s.feed f).turnAt).now + 100 * us }

theorem State.turnTaken_frame (s : State) (f : Nat) (rest : List Nat) :
    Frame s (s.turnTaken f rest) [.kb, .now, .vt, .ptp] (fun _ => False) :=
  ((s.pass_frame _).noRegs (by simp)).trans ((State.setFeed_frame _ f _).noRegs (by simp))

theorem State.turnTaken_now (s : State) (f : Nat) (rest : List Nat) : (s.turnTaken f rest).now = (s.reach (s.feed f).turnAt).now :=
  State.setFeed_now _ f _

theorem State.turnTaken_chan (s : State) (f : Nat) (rest : List Nat) (n : Nat) : (s.turnTaken f rest).chan n = s.chan n :=
  State.setFeed_chan _ f _ n

theorem State.turnTaken_flag (s : State) (f : Nat) (rest : List Nat) (g : Fld) : (s.turnTaken f rest).flag g = s.flag g :=
  flag_of_frame (s.turnTaken_frame f rest) id

/-- A channel at the head of the queue that may start is driven as last commanded. -/
theorem feedReturnSwitchOn_eq {s : State} {f : Fin 2} {n : Nat} {rest : List Nat} (hturns : (s.feed f.val).turns = n :: rest)
    (hup : s.kb.up = true) (hcmd : s.cmdOn n = true) (hout : s.out n = false) (hlatched : s.latched n = false) (hcooling : s.cooling n = false) :
    exec (.feedReturnSwitchOn f) s =
      .next ((s.turnTaken f.val rest).drive n (s.chan n).duty (s.chan n).hz (s.chan n).mode) := by
  have hgo : ((s.turnTaken f.val rest).kb.up && (s.turnTaken f.val rest).cmdOn n && !(s.turnTaken f.val rest).out n &&
      !(s.turnTaken f.val rest).latched n && !(s.turnTaken f.val rest).cooling n) = true := by
    have hukb : (s.turnTaken f.val rest).kb.up = true := (State.setFeed_kb_up _ _ _).trans hup
    simp only [State.cmdOn, State.out, State.latched, State.cooling] at hcmd hout hlatched hcooling
    simp only [State.cmdOn, State.out, State.latched, State.cooling, State.turnTaken_flag, hukb, hcmd, hout, hlatched, hcooling]
    rfl
  rw [← s.turnTaken_chan f.val rest n]
  show execFeedReturnSwitchOn f s = _
  unfold execFeedReturnSwitchOn
  rw [hturns]
  exact congrArg _ (if_pos hgo)

theorem feedReturnSwitchOn_spec {s : State} {f : Fin 2} {n : Nat} {rest : List Nat} (hturns : (s.feed f.val).turns = n :: rest)
    (hbridge : isBridge n = false) (hup : s.kb.up = true) (hcmd : s.cmdOn n = true) (hout : s.out n = false)
    (hlatched : s.latched n = false) (hcooling : s.cooling n = false) :
    ∃ t, exec (.feedReturnSwitchOn f) s = .next t ∧ (s.feed f.val).turnAt ≤ t.now ∧ (t.feed f.val).turns = rest ∧
      (t.feed f.val).turnAt = t.now + 100 * us ∧ (∀ m ∈ s.members n, t.out m = true) ∧ (t.chan n).duty = (s.chan n).duty ∧
      (t.chan n).hz = (s.chan n).hz ∧ Frame s t [.kb, .regs, .now, .vt, .ptp] (OfChan s n) := by
  have htaken := s.turnTaken_frame f.val rest
  obtain ⟨c, ⟨hcduty, hchz⟩, hdrive⟩ :=
    State.drive_start hbridge ((s.turnTaken_flag f.val rest _).trans hout) (s.chan n).duty (s.chan n).hz (s.chan n).mode
  have hset := (s.turnTaken f.val rest).setChan_frame n c
  have hmem : ((s.turnTaken f.val rest).setChan n c).members n = s.members n :=
    State.members_congr ((hset.same .plan (by simp)).trans (htaken.same .plan (by simp))) n
  have hstart := ((s.turnTaken f.val rest).setChan n c).outOn_frame n true
  have hnow : (((s.turnTaken f.val rest).setChan n c).outOn n true).now = (s.reach (s.feed f.val).turnAt).now :=
    (hstart.same .now (by simp)).trans (s.turnTaken_now f.val rest)
  have hfeed : (((s.turnTaken f.val rest).setChan n c).outOn n true).feed f.val =
      { s.feed f.val with turns := rest, turnAt := (s.reach (s.feed f.val).turnAt).now + 100 * us } :=
    (State.outOn_feed _ n true f.val).trans (State.setFeed_feed_same _ f.val _)
  obtain ⟨hduty, hhz⟩ := ((s.turnTaken f.val rest).setChan n c).outOn_drive n true
  rw [State.setChan_chan_same] at hduty hhz
  refine ⟨_, (feedReturnSwitchOn_eq hturns hup hcmd hout hlatched hcooling).trans (congrArg _ hdrive), ?_, ?_, ?_, fun m hm => ?_, hduty.trans hcduty,
    hhz.trans hchz, ?_⟩
  · exact (s.le_reach _).trans_eq hnow.symm
  · rw [hfeed]
  · rw [hfeed, hnow]
  · exact State.outOn_members _ n true m (hmem ▸ hm)
  · refine (htaken.noRegs (by simp)).trans ((hset.noRegs (by simp)).trans (hstart.mono (by simp) fun a ha => ofChan_of_gangStatus ?_))
    rwa [GangStatus, hmem] at ha

/-! ### The statement -/

/-- Settles O21: each clause is the lemma on its command. -/
theorem powerDiagnostics : Obligations.PowerDiagnostics := by
  unfold Obligations.PowerDiagnostics
  exact ⟨fun s n => openLoadOn_reported, fun s n => openLoadOn_cleared, fun s n a b p => offStateTest_shortToBat,
    fun s n a b p => offStateTest_openLoad, fun s n l => reverseCurrent_latches, fun s n l => overTemp_latches,
    fun s n l => junctionCooled_spec, fun s f k => feedFault_spec, fun s f => feedFault_reversed, fun s f => feedReturn_spec,
    fun s f n rest hturns _ => feedReturnSwitchOn_spec hturns⟩

end Sys2Proof.Machine
end

section
/-! SUPPORT. The Lay-by of a channel (R252 to R256): nothing that a channel's or an output's entry does beyond marking it reaches the LAYBY and CAUSE
of a channel. -/

namespace Sys2Proof.Machine

/-! ### LAYBY and CAUSE -/

/-- A field of DIAG_STATUS from bit 28 on: LAYBY or CAUSE. -/
abbrev LaybyFld (g : Fld) : Prop := ∃ k, k < 52 ∧ g.addr = Rg.PD_DIAG_STATUS k ∧ 28 ≤ g.lo

theorem laybyFld_layby {k : Nat} (hk : k < 52) : LaybyFld (Fd.PD_DIAG_STATUS_LAYBY k) := ⟨k, hk, rfl, show 28 ≤ 31 by decide⟩
theorem laybyFld_cause {k : Nat} (hk : k < 52) : LaybyFld (Fd.PD_DIAG_STATUS_CAUSE k) := ⟨k, hk, rfl, Nat.le_refl 28⟩

/-- Updates of low bits alone spare LAYBY and CAUSE, in whatever register. -/
theorem Spares.layby {bs : List Nat} {s t : State} (h : Spares (Fld.Off bs) s t) (hb : ∀ b ∈ bs, b < 28) : Spares LaybyFld s t :=
  h.mono fun _ ⟨_, _, _, hlo⟩ b hm => .inr (Nat.lt_of_lt_of_le (hb b hm) hlo)

/-- A register that is no DIAG_STATUS of a channel. -/
theorem Spares.layby_wr_ne {s t : State} {f : Fld} {v : Nat} (h : Spares LaybyFld s t) (hf : ∀ k, k < 52 → Rg.PD_DIAG_STATUS k ≠ f.addr) :
    Spares LaybyFld s (t.wr f v) :=
  h.wr fun _ ⟨k, hk, hg, _⟩ ha => absurd (hg.symm.trans ha) (hf k hk)

/-! ### What an entry does beyond its mark -/

theorem State.faultRec_layby (s : State) (n code : Nat) : Spares LaybyFld s (s.faultRec n code) :=
  .of_frame (s.faultRec_frame n code) fun _ ⟨k, _, hg, _⟩ => hg ▸ diagStatus_notRec k n

theorem State.laybyTimed_layby (s : State) (n : Nat) : Spares LaybyFld s (s.laybyTimed n) := by
  unfold State.laybyTimed
  split
  · exact .refl _ s
  · exact .forAll (.refl _ s) fun u c => (u.faultRec_layby n _).trans (.of_noRegs (State.finish_frame _ c _))

theorem State.setCmd_spares (s : State) (n : Nat) (b : Bool) : Spares (Fld.Off [1]) s (s.setCmd n b) :=
  .forAll (.refl _ s) fun u _ => (Spares.refl _ u).bit (by decide) (by decide)

theorem State.applyOff_spares (s : State) (n : Nat) : Spares (Fld.Off [0, 1, 2, 3, 4, 5, 6]) s (s.applyOff n) := by
  have hoff : Spares (Fld.Off [0, 1, 2, 3, 4, 5, 6]) s ((s.setCmd n false).outOff n) :=
    ((s.setCmd_spares n false).more (by simp)).trans ((State.outStop_spares _ n _).more (by simp))
  unfold State.applyOff
  dsimp only
  exact (Spares.forAll (((hoff.bit (by decide) (by decide)).bit (by decide) (by decide)).bit (by decide) (by decide))
    fun u _ => (Spares.refl _ u).bit (by decide) (by decide)).setChan

theorem State.drive_spares (s : State) (n duty hz mode : Nat) : Spares (Fld.Off [0, 2, 3]) s (s.drive n duty hz mode) := by
  have hclose : ∀ u : State, Spares (Fld.Off [0, 2, 3]) u (u.closeInrush n) := fun u => (u.closeInrush_spares n).more (by simp)
  have hon : ∀ (u : State) (w : Bool), Spares (Fld.Off [0, 2, 3]) u (u.outOn n w) := fun u w => (u.outOn_spares n w).more (by simp)
  have hset : ∀ (u : State) (c : Chan), Spares (Fld.Off [0, 2, 3]) u (u.setChan n c) := fun u _ => (Spares.refl _ u).setChan
  unfold State.drive
  dsimp only
  split
  · split
    · exact (hset s _).trans (hclose _)
    · split
      · exact ((hset s _).trans (hclose _)).trans (hon _ false)
      · exact .ite (hset s _) ((hset s _).trans (hon _ true))
  · split
    · exact .ite (hset s _) ((hset s _).trans (hset _ _))
    · exact (hset s _).trans (hon _ true)

theorem State.applyOn_spares (s : State) (n duty hz mode : Nat) : Spares (Fld.Off [0, 1, 2, 3, 6]) s (s.applyOn n duty hz mode).2 := by
  have hcmd : Spares (Fld.Off [0, 1, 2, 3, 6]) s ((s.setCmd n true).wr (Fd.PD_CH_STATUS_SHED n) 0) :=
    ((s.setCmd_spares n true).more (by simp)).bit (by decide) (by decide)
  unfold State.applyOn State.acceptOn
  dsimp only
  split
  · exact .ite hcmd.setChan (hcmd.trans ((State.drive_spares _ n duty hz mode).more (by simp)))
  · exact .refl _ s

theorem State.laybyAction_layby (s : State) (n : Nat) : Spares LaybyFld s (s.laybyAction n) := by
  have hon : Spares LaybyFld s (s.applyOn n 1000 0 0).2 := (s.applyOn_spares n 1000 0 0).layby (by decide)
  unfold State.laybyAction
  split
  · exact (s.applyOff_spares n).layby (by decide)
  · exact .ite hon (hon.trans (State.faultRec_layby _ n _))
  · exact .refl _ s

/-! ### An entry (R253) -/

/-- LAYBY and CAUSE of a channel. -/
def State.laybyOf (s : State) (n : Nat) : Bool × Nat := (s.inLayby n, s.rd (Fd.PD_DIAG_STATUS_CAUSE n))

/-- LAYBY and CAUSE after an entry with cause `c`: a cause 4 stays. -/
def entered (c : Nat) (b : Bool × Nat) : Bool × Nat := (true, if b.1 = true ∧ b.2 = 4 then 4 else c)

theorem entered_entered (c : Nat) (b : Bool × Nat) : entered c (entered c b) = entered c b := by
  unfold entered
  by_cases h : b.1 = true ∧ b.2 = 4
  · simp [h]
  · simp only [if_neg h, true_and, Prod.mk.injEq]
    exact ite_eq_right_iff.mpr Eq.symm

theorem laybyOf_of_spares {s t : State} (h : Spares LaybyFld s t) {n : Nat} (hn : n < 52) : t.laybyOf n = s.laybyOf n :=
  Prod.ext (h.flag (laybyFld_layby hn)) (h _ (laybyFld_cause hn))

theorem laybyOf_of_reg {s t : State} {n : Nat} (h : t.reg (Rg.PD_DIAG_STATUS n) = s.reg (Rg.PD_DIAG_STATUS n)) : t.laybyOf n = s.laybyOf n :=
  Prod.ext (flag_congr (f := Fd.PD_DIAG_STATUS_LAYBY n) h) (rd_congr (f := Fd.PD_DIAG_STATUS_CAUSE n) h)

/-- LAYBY is set, CAUSE tells the entry, and the present endpoint is older than the Lay-by. -/
def State.laybyMarked (s : State) (c n : Nat) : State :=
  let s := (s.wr (Fd.PD_DIAG_STATUS_CAUSE n) (entered c (s.laybyOf n)).2).wr (Fd.PD_DIAG_STATUS_LAYBY n) 1
  s.setChan n { s.chan n with layOld := true, pwmNext := none }

theorem State.laybyMarked_frame (s : State) (c n : Nat) : Frame s (s.laybyMarked c n) [.kb, .regs] (fun a => a = Rg.PD_DIAG_STATUS n) :=
  ((s.wr_frame (Fd.PD_DIAG_STATUS_CAUSE n) _).widen (by simp)).trans
    (((State.wr_frame _ (Fd.PD_DIAG_STATUS_LAYBY n) 1).widen (by simp)).trans ((State.setChan_frame _ n _).noRegs (by simp)))

theorem State.laybyMarked_same (s : State) {c : Nat} (hc : c < 8) (n : Nat) : (s.laybyMarked c n).laybyOf n = entered c (s.laybyOf n) := by
  have hcause : (entered c (s.laybyOf n)).2 < 8 := by
    unfold entered
    dsimp only
    split
    · decide
    · exact hc
  unfold State.laybyMarked
  generalize hv : (entered c (s.laybyOf n)).2 = v at hcause
  dsimp only
  rw [State.laybyOf, State.inLayby, State.setChan_flag, State.setChan_rd, flag_wr_one _ (Fd.PD_DIAG_STATUS_LAYBY n) rfl (Nat.le_refl 31),
    rd_wr_beside _ (Fd.PD_DIAG_STATUS_LAYBY n) (Fd.PD_DIAG_STATUS_CAUSE n) 1 rfl rfl, rd_wr_self s (Fd.PD_DIAG_STATUS_CAUSE n) v rfl, ← hv]
  exact Prod.ext rfl (Nat.mod_eq_of_lt (hv.symm ▸ hcause))

/-- An entry: its mark, its event where it is the first, the action of Table 11-4, and the end of the TIMED commands. -/
theorem State.enterLayby_eq (s : State) (c n : Nat) :
    s.enterLayby c n = ((if s.inLayby n then s.laybyMarked c n
      else (s.laybyMarked c n).diagEvent n Code.LAYBY_ENTERED none).laybyAction n).laybyTimed n := by
  unfold State.enterLayby State.laybyMarked entered State.laybyOf
  rfl

theorem State.enterLayby_marked (s : State) (c n : Nat) : Spares LaybyFld (s.laybyMarked c n) (s.enterLayby c n) := by
  have hevent : Spares LaybyFld (s.laybyMarked c n) ((s.laybyMarked c n).diagEvent n Code.LAYBY_ENTERED none) := by
    refine .of_frame (State.diagEvent_frame _ n Code.LAYBY_ENTERED none) ?_
    rintro g ⟨k, -, hg, -⟩ (⟨hnone, -⟩ | hrec)
    · cases hnone
    · exact diagStatus_notRec k n (hg ▸ hrec)
  rw [State.enterLayby_eq]
  exact (Spares.ite (.refl _ _) hevent).trans ((State.laybyAction_layby _ n).trans (State.laybyTimed_layby _ n))

theorem State.enterLayby_laybyOf (s : State) {c : Nat} (hc : c < 8) (n : Nat) {k : Nat} (hk : k < 52) :
    (s.enterLayby c n).laybyOf k = if k = n then entered c (s.laybyOf k) else s.laybyOf k := by
  rw [laybyOf_of_spares (s.enterLayby_marked c n) hk]
  split
  · next h => rw [h, s.laybyMarked_same hc n]
  · next h =>
    refine laybyOf_of_reg ((s.laybyMarked_frame c n).reg fun ha => h ?_)
    have haddr : 0x200B0C00 + 0x10 * k = 0x200B0C00 + 0x10 * n := ha
    omega

/-- The channels of the list enter Lay-by, and no others. -/
theorem enterAll_laybyOf (s : State) (l : List Nat) {c : Nat} (hc : c < 8) {k : Nat} (hk : k < 52) :
    (forAll l (fun u n => u.enterLayby c n) s).laybyOf k = if k ∈ l then entered c (s.laybyOf k) else s.laybyOf k := by
  induction l generalizing s with
  | nil => rfl
  | cons n rest ih =>
    refine (ih (s.enterLayby c n)).trans ?_
    rw [s.enterLayby_laybyOf hc n hk]
    by_cases hn : k = n <;> by_cases hrest : k ∈ rest <;> simp [hn, hrest, entered_entered]

end Sys2Proof.Machine
end

section
/-! SUPPORT. PD_LAYBY_CTRL (R254, R256): entries and releases of a district's channels, or of all, and the statement on Lay-by. -/

namespace Sys2Proof.Machine

/-! ### Signal outputs (R310) -/

/-- PIN_STATUS lies on another page than the channels' registers. -/
theorem diagStatus_ne_pinStatus (n k : Nat) (hk : k < 52) : Rg.PD_DIAG_STATUS k ≠ Rg.PIN_STATUS n := by
  unfold Rg.PD_DIAG_STATUS Rg.PIN_STATUS
  omega

theorem State.pinChange_frame (s : State) (n code : Nat) : Frame s (s.pinChange n code) [.mem, .ep, .wg, .ic] (fun _ => False) :=
  frame_of_blot_noRegs (by simp) (by simp)

theorem State.pinDrive_layby (s : State) (n v : Nat) : Spares LaybyFld s (s.pinDrive n v) := by
  have hlatch : ∀ p : Prop, ∀ _ : Decidable p, Spares LaybyFld s (if p then s else s.wr (Fd.PIN_STATUS_LATCHED n) 0) := fun _ _ =>
    .ite (.refl _ s) ((Spares.refl _ s).layby_wr_ne (diagStatus_ne_pinStatus n))
  have hvalue : ∀ u : State, Spares LaybyFld u (u.setValue n v) := fun u =>
    .ite (.refl _ u) (((Spares.refl _ u).layby_wr_ne (f := Fd.PIN_STATUS_VALUE n) (diagStatus_ne_pinStatus n)).trans
      (.of_noRegs (State.pinChange_frame _ n Code.DONE)))
  unfold State.pinDrive
  dsimp only
  exact (((hlatch _ _).layby_wr_ne (f := Fd.PIN_STATUS_OUT n) (diagStatus_ne_pinStatus n)).setPin).trans (hvalue _)

theorem State.pinLaybyOne_layby (s : State) (c n : Nat) : Spares LaybyFld s (s.pinLaybyOne c n) := by
  unfold State.pinLaybyOne
  dsimp only
  generalize { s.pinAt n with layby := true, layOld := true, layCause := if (s.pinAt n).layby ∧ (s.pinAt n).layCause = 4 then 4 else c } = x
  have hdrive : Spares LaybyFld s ((s.setPin n x).pinDrive n 0) :=
    ((Spares.refl _ s).setPin (n := n) (p := x)).trans (State.pinDrive_layby _ n 0)
  split
  · exact hdrive
  · exact hdrive.forAll fun u k => .of_noRegs (u.finish_frame k _)

theorem State.pinsToLayby_layby (s : State) (c : Nat) (ds : Nat → Bool) : Spares LaybyFld s (s.pinsToLayby c ds) :=
  .forAll (.refl _ s) fun u n => u.pinLaybyOne_layby c n

/-! ### The write of PD_LAYBY_CTRL (R254) -/

def laybyCtrlFields : List FieldRow := [⟨31, 16, .ro, none⟩, ⟨13, 8, .rw, none⟩, ⟨2, 0, .wo, some (1, 4)⟩]

theorem laybyCtrl_row : RegMap.at Rg.PD_LAYBY_CTRL = some (⟨0x200B0040, [], .district0, laybyCtrlFields⟩, []) := by decide

theorem laybyWord_fields (op : Fin 5) (d : Fin 64) :
    getBits (laybyWord op.val d.val).toNat 2 0 = op.val ∧ getBits (laybyWord op.val d.val).toNat 13 8 = d.val := by
  revert op d
  decide

/-- The register has taken the word. -/
def State.laybyWritten (s : State) (w : Word) : State := s.written Rg.PD_LAYBY_CTRL laybyCtrlFields w

theorem State.laybyWritten_frame (s : State) (w : Word) : Frame s (s.laybyWritten w) [.regs] (fun a => a = Rg.PD_LAYBY_CTRL) :=
  s.written_frame _ _ w

theorem State.laybyCtrlWrite_eq {s : State} {who : Who} {op : Nat} {d : Fin 64} (hlt : op < 5)
    (h : s.passesChecks who 4 Rg.PD_LAYBY_CTRL (laybyWord op d.val) false false = true) :
    s.laybyCtrlWrite who 4 (laybyWord op d.val) = ((s.laybyWritten (laybyWord op d.val)).laybyOp op d.val).answered := by
  obtain ⟨hop, hd⟩ := laybyWord_fields ⟨op, hlt⟩ d
  unfold State.laybyCtrlWrite
  rw [State.regWrite_written _ laybyCtrl_row h rfl, hop, hd]
  rfl

theorem diagStatus_ne_laybyCtrl (k : Nat) : Rg.PD_DIAG_STATUS k ≠ Rg.PD_LAYBY_CTRL := by
  unfold Rg.PD_DIAG_STATUS Rg.PD_LAYBY_CTRL
  omega

theorem State.laybyWritten_laybyOf (s : State) (w : Word) (k : Nat) : (s.laybyWritten w).laybyOf k = s.laybyOf k :=
  laybyOf_of_reg ((s.laybyWritten_frame w).reg (diagStatus_ne_laybyCtrl k))

theorem rd_wr_laybyResult (s : State) {v : Nat} (hv : v < 65536) : (s.wr Fd.PD_LAYBY_CTRL_RESULT v).rd Fd.PD_LAYBY_CTRL_RESULT = v :=
  (rd_wr_self s _ v rfl).trans (Nat.mod_eq_of_lt hv)

/-! ### Entries (R253, R254) -/

/-- Channels and outputs enter Lay-by with cause 5, and RESULT tells. -/
def State.laybyEntered (s : State) (l : List Nat) (ds : Nat → Bool) : State :=
  ((s.channelsToLayby 5 l).pinsToLayby 5 ds).wr Fd.PD_LAYBY_CTRL_RESULT Code.DONE

theorem State.laybyEntered_laybyOf {s : State} (hup : s.kb.up = true) (l : List Nat) (ds : Nat → Bool) {k : Nat} (hk : k < 52) (hm : k ∈ l) :
    (s.laybyEntered l ds).laybyOf k = entered 5 (s.laybyOf k) := by
  have hresult : (s.laybyEntered l ds).laybyOf k = ((s.channelsToLayby 5 l).pinsToLayby 5 ds).laybyOf k :=
    laybyOf_of_reg (reg_wr_ne _ _ _ _ (diagStatus_ne_laybyCtrl k))
  rw [hresult, laybyOf_of_spares (State.pinsToLayby_layby _ 5 ds) hk, State.channelsToLayby, if_pos hup,
    enterAll_laybyOf s l (by decide) hk, if_pos hm]

theorem State.laybyEntered_frame (s : State) (l : List Nat) (ds : Nat → Bool) :
    Frame s (s.laybyEntered l ds) [.kb, .pn, .regs, .ep, .mem, .wg, .ic] (fun _ => True) :=
  frame_of_blot (by simp [State.laybyEntered]) fun _ h => absurd trivial h

/-- What the statement says of an entry follows from its marks, RESULT and its frame. -/
theorem answered_entered {s u : State} {l : List Nat} (hof : ∀ n ∈ l, u.laybyOf n = entered 5 (s.laybyOf n))
    (hresult : u.rd Fd.PD_LAYBY_CTRL_RESULT = Code.DONE) (hframe : Frame s u [.kb, .pn, .regs, .ep, .mem, .wg, .ic] (fun _ => True)) :
    InLayby s u.answered l 5 ∧ u.answered.rd Fd.PD_LAYBY_CTRL_RESULT = Code.DONE ∧ u.answered.resp = .done ∧ u.answered.otp = s.otp ∧
      u.answered.plan = s.plan ∧ u.answered.pending = s.pending :=
  ⟨fun n hn => ⟨congrArg Prod.fst (hof n hn), congrArg Prod.snd (hof n hn)⟩, hresult, rfl, hframe.same .otp (by simp),
    hframe.same .plan (by simp), hframe.1⟩

theorem laybyEnter_spec {s : State} {l : List Nat} (ds : Nat → Bool) (w : Word) (hup : s.kb.up = true) (hl : ∀ n ∈ l, n < 52) :
    InLayby s ((s.laybyWritten w).laybyEntered l ds).answered l 5 ∧
      ((s.laybyWritten w).laybyEntered l ds).answered.rd Fd.PD_LAYBY_CTRL_RESULT = Code.DONE ∧
      ((s.laybyWritten w).laybyEntered l ds).answered.resp = .done ∧ ((s.laybyWritten w).laybyEntered l ds).answered.otp = s.otp ∧
      ((s.laybyWritten w).laybyEntered l ds).answered.plan = s.plan ∧ ((s.laybyWritten w).laybyEntered l ds).answered.pending = s.pending := by
  refine answered_entered (fun n hn => ?_) (rd_wr_laybyResult _ (by decide))
    (((s.laybyWritten_frame w).mono (by simp) fun _ _ => trivial).trans (State.laybyEntered_frame _ l ds))
  rw [State.laybyEntered_laybyOf (s := s.laybyWritten w) hup l ds (hl n hn) hn, s.laybyWritten_laybyOf w n]

theorem State.leads_lt {s : State} {n : Nat} (h : n ∈ s.leads) : n < 52 := List.mem_range.mp (List.mem_filter.mp h).1

theorem State.channelsOf_lt {s : State} {d n : Nat} (h : n ∈ s.channelsOf d) : n < 52 := State.leads_lt (List.mem_filter.mp h).1

/-! ### Releases (R254, R256) -/

theorem State.leaveLayby_frame (s : State) (n : Nat) : Frame s (s.leaveLayby n) [.kb, .regs] (fun a => a = Rg.PD_DIAG_STATUS n) :=
  ((s.wr_frame (Fd.PD_DIAG_STATUS_LAYBY n) 0).widen (by simp)).trans
    (((State.wr_frame _ (Fd.PD_DIAG_STATUS_CAUSE n) 0).widen (by simp)).trans ((State.setChan_frame _ n _).noRegs (by simp)))

/-- CAUSE stands beside LAYBY. -/
theorem State.leaveLayby_flag (s : State) (n m : Nat) : (s.leaveLayby n).inLayby m = (s.wr (Fd.PD_DIAG_STATUS_LAYBY n) 0).inLayby m := by
  rw [State.leaveLayby, State.inLayby, State.setChan_flag]
  exact flag_wr_clear _ (f := Fd.PD_DIAG_STATUS_CAUSE n) (g := Fd.PD_DIAG_STATUS_LAYBY m) 0 fun _ => rfl

theorem State.leaveLayby_left (s : State) (n : Nat) : (s.leaveLayby n).inLayby n = false :=
  (s.leaveLayby_flag n n).trans (flag_wr_zero s (Fd.PD_DIAG_STATUS_LAYBY n) (Nat.le_refl 31) (Nat.le_refl 31))

theorem diagStatus_inj {m n : Nat} (h : Rg.PD_DIAG_STATUS m = Rg.PD_DIAG_STATUS n) : m = n := by
  unfold Rg.PD_DIAG_STATUS at h
  omega

theorem State.leaveLayby_keeps_out {s : State} {m : Nat} (n : Nat) (h : s.inLayby m = false) : (s.leaveLayby n).inLayby m = false :=
  (s.leaveLayby_flag n m).trans (flag_wr_zero_keeps s (f := Fd.PD_DIAG_STATUS_LAYBY n) rfl (fun ha => by rw [diagStatus_inj ha]) h)

/-- The channels that a release of the list lets go. -/
def State.released (s : State) (l : List Nat) : List Nat := l.filter (fun n => s.inLayby n && s.rd (Fd.PD_DIAG_STATUS_CAUSE n) != 4)

/-- The channel is in Lay-by with cause 4, which a release skips. -/
def State.heldBack (s : State) (n : Nat) : Bool := s.inLayby n && s.rd (Fd.PD_DIAG_STATUS_CAUSE n) == 4

theorem State.releaseLayby_eq (s : State) (l : List Nat) :
    s.releaseLayby l = (forAll (s.released l) State.leaveLayby s).wr Fd.PD_LAYBY_CTRL_RESULT
      (if l.any s.heldBack then Code.WRONG_STATE else Code.DONE) := by
  have hheld : (l.filter s.heldBack).isEmpty = !l.any s.heldBack := by
    cases h : l.any s.heldBack <;> simp_all [List.isEmpty_iff, List.filter_eq_nil_iff]
  show (forAll (s.released l) State.leaveLayby s).wr _ (if (l.filter s.heldBack).isEmpty then Code.DONE else Code.WRONG_STATE) = _
  rw [hheld]
  cases l.any s.heldBack <;> rfl

theorem State.releaseLayby_spec (s : State) (l : List Nat) :
    (∀ n ∈ l, s.rd (Fd.PD_DIAG_STATUS_CAUSE n) ≠ 4 → (s.releaseLayby l).inLayby n = false) ∧
      (∀ n, s.inLayby n = true → s.rd (Fd.PD_DIAG_STATUS_CAUSE n) = 4 → (s.releaseLayby l).inLayby n = true) ∧
      (s.releaseLayby l).rd Fd.PD_LAYBY_CTRL_RESULT = (if l.any s.heldBack then Code.WRONG_STATE else Code.DONE) ∧
      Frame s (s.releaseLayby l) [.kb, .regs] (fun a => a = Rg.PD_LAYBY_CTRL ∨ ∃ n ∈ l, a = Rg.PD_DIAG_STATUS n) := by
  have hloop : Frame s (forAll (s.released l) State.leaveLayby s) [.kb, .regs] (fun a => ∃ n ∈ s.released l, a = Rg.PD_DIAG_STATUS n) :=
    forAll_frame _ (fun n hn u => (u.leaveLayby_frame n).mono (fun _ => id) fun _ ha => ⟨n, hn, ha⟩) s
  have hresult : ∀ n, (s.releaseLayby l).inLayby n = (forAll (s.released l) State.leaveLayby s).inLayby n := fun n => by
    rw [State.releaseLayby_eq]
    exact flag_wr_ne _ _ (Fd.PD_DIAG_STATUS_LAYBY n) _ (diagStatus_ne_laybyCtrl n)
  refine ⟨fun n hn hcause => ?_, fun n hlay hcause => ?_, ?_, ?_⟩
  · rw [hresult]
    cases hlay : s.inLayby n with
    | false => exact forAll_keeps (fun u => u.inLayby n = false) _ _ (fun _ k hu => State.leaveLayby_keeps_out k hu) s hlay
    | true =>
      have hmem : n ∈ s.released l := List.mem_filter.mpr ⟨hn, by simp [hlay, hcause]⟩
      exact forAll_each (I := fun _ => True) (P := fun m u => u.inLayby m = false) _ (fun _ _ _ => trivial)
        (fun u m _ _ => u.leaveLayby_left m) (fun _ _ k _ _ hm => State.leaveLayby_keeps_out k hm) s trivial n hmem
  · rw [hresult]
    refine (flag_of_frame hloop (f := Fd.PD_DIAG_STATUS_LAYBY n) ?_).trans hlay
    rintro ⟨m, hm, ha⟩
    have hleft := (List.mem_filter.mp hm).2
    rw [← diagStatus_inj ha, hlay, hcause] at hleft
    cases hleft
  · rw [State.releaseLayby_eq]
    exact rd_wr_laybyResult _ (by split <;> decide)
  · rw [State.releaseLayby_eq]
    exact (hloop.mono (fun _ => id) fun _ ⟨n, hn, ha⟩ => .inr ⟨n, (List.mem_filter.mp hn).1, ha⟩).trans
      ((State.wr_frame _ Fd.PD_LAYBY_CTRL_RESULT _).mono (by simp) fun _ => .inl)

theorem State.pinsRelease_frame (s : State) (ds : Nat → Bool) : Frame s (s.pinsRelease ds) [.pn] (fun _ => False) :=
  frame_of_blot_noRegs (by simp) (by simp)

/-- The whole command, from the state before the write. -/
theorem laybyRelease_spec (s : State) (l : List Nat) (ds : Nat → Bool) (w : Word) :
    (∀ n ∈ l, s.rd (Fd.PD_DIAG_STATUS_CAUSE n) ≠ 4 → (((s.laybyWritten w).releaseLayby l).pinsRelease ds).answered.inLayby n = false) ∧
      (∀ n : Fin 52, (((s.laybyWritten w).releaseLayby l).pinsRelease ds).answered.out n.val = s.out n.val ∧
        (s.inLayby n.val = true → s.rd (Fd.PD_DIAG_STATUS_CAUSE n.val) = 4 →
          (((s.laybyWritten w).releaseLayby l).pinsRelease ds).answered.inLayby n.val = true)) ∧
      (((s.laybyWritten w).releaseLayby l).pinsRelease ds).answered.rd Fd.PD_LAYBY_CTRL_RESULT =
        (if l.any (fun n => s.inLayby n && s.rd (Fd.PD_DIAG_STATUS_CAUSE n) == 4) then Code.WRONG_STATE else Code.DONE) ∧
      (((s.laybyWritten w).releaseLayby l).pinsRelease ds).answered.resp = .done ∧
      Frame s (((s.laybyWritten w).releaseLayby l).pinsRelease ds).answered [.kb, .pn, .regs, .resp]
        (fun a => a = Rg.PD_LAYBY_CTRL ∨ ∃ n ∈ l, a = Rg.PD_DIAG_STATUS n) := by
  obtain ⟨hleft, hstay, hresult, hrelease⟩ := (s.laybyWritten w).releaseLayby_spec l
  have hlay : ∀ n, (s.laybyWritten w).inLayby n = s.inLayby n := fun n => congrArg Prod.fst (s.laybyWritten_laybyOf w n)
  have hcause : ∀ n, (s.laybyWritten w).rd (Fd.PD_DIAG_STATUS_CAUSE n) = s.rd (Fd.PD_DIAG_STATUS_CAUSE n) := fun n =>
    congrArg Prod.snd (s.laybyWritten_laybyOf w n)
  have hheld : (s.laybyWritten w).heldBack = fun n => s.inLayby n && s.rd (Fd.PD_DIAG_STATUS_CAUSE n) == 4 := by
    funext n
    rw [State.heldBack, hlay, hcause]
  have hpins := ((s.laybyWritten w).releaseLayby l).pinsRelease_frame ds
  have hframe : Frame s (((s.laybyWritten w).releaseLayby l).pinsRelease ds).answered [.kb, .pn, .regs, .resp]
      (fun a => a = Rg.PD_LAYBY_CTRL ∨ ∃ n ∈ l, a = Rg.PD_DIAG_STATUS n) :=
    ((s.laybyWritten_frame w).mono (by simp) fun _ => .inl).trans ((hrelease.widen (by simp)).trans
      ((hpins.noRegs (by simp)).trans ((State.answered_frame _).noRegs (by simp))))
  refine ⟨fun n hn h4 => ?_, fun n => ⟨flag_of_frame hframe ?_, fun hin h4 => ?_⟩, ?_, rfl, hframe⟩
  · exact (flag_of_frame hpins (f := Fd.PD_DIAG_STATUS_LAYBY n) id).trans (hleft n hn (by rwa [hcause]))
  · rintro (h | ⟨m, -, h⟩)
    · have haddr : 0x200B0200 + 0x4 * n.val = 0x200B0040 := h
      omega
    · exact chStatus_ne_diagStatus n.val m n.isLt h
  · exact (flag_of_frame hpins (f := Fd.PD_DIAG_STATUS_LAYBY n.val) id).trans (hstay n.val (by rwa [hlay]) (by rwa [hcause]))
  · rw [← hheld]
    exact (hpins.rd (f := Fd.PD_LAYBY_CTRL_RESULT) id).trans hresult

/-! ### The statement -/

theorem State.laybyWritten_leads (s : State) (w : Word) : (s.laybyWritten w).leads = s.leads :=
  State.leads_congr ((s.laybyWritten_frame w).same .plan (by simp))
theorem State.laybyWritten_channelsOf (s : State) (w : Word) (d : Nat) : (s.laybyWritten w).channelsOf d = s.channelsOf d := by
  have hplan : (s.laybyWritten w).plan = s.plan := (s.laybyWritten_frame w).same .plan (by simp)
  simp only [State.channelsOf, State.chOwner, State.chItem_congr hplan, s.laybyWritten_leads w]

/-- What OP 1 to 4 run (R254). -/
theorem State.laybyOp_enterDistrict (s : State) (d : Nat) : s.laybyOp 1 d = s.laybyEntered (s.channelsOf d) (fun k => k == d) := rfl
theorem State.laybyOp_enterAll (s : State) (d : Nat) : s.laybyOp 2 d = s.laybyEntered s.leads (fun _ => true) := rfl
theorem State.laybyOp_releaseDistrict (s : State) (d : Nat) :
    s.laybyOp 3 d = (s.releaseLayby (s.channelsOf d)).pinsRelease (fun k => k == d) := rfl
theorem State.laybyOp_releaseAll (s : State) (d : Nat) : s.laybyOp 4 d = (s.releaseLayby s.leads).pinsRelease (fun _ => true) := rfl

/-- Settles O22: the write passes, so the operation runs on the state with the register written. -/
theorem laybyControl : Obligations.LaybyControl := by
  unfold Obligations.LaybyControl
  refine ⟨fun s who d h hup => ⟨_, rfl, ?_⟩, fun s who d h hup => ⟨_, rfl, ?_⟩, fun s who d h => ⟨_, rfl, ?_⟩, fun s who d h => ⟨_, rfl, ?_⟩⟩
  · rw [State.laybyCtrlWrite_eq (by decide) h, State.laybyOp_enterDistrict, State.laybyWritten_channelsOf]
    exact laybyEnter_spec _ _ hup fun _ => State.channelsOf_lt
  · rw [State.laybyCtrlWrite_eq (by decide) h, State.laybyOp_enterAll, State.laybyWritten_leads]
    exact laybyEnter_spec _ _ hup fun _ => State.leads_lt
  · rw [State.laybyCtrlWrite_eq (by decide) h, State.laybyOp_releaseDistrict, State.laybyWritten_channelsOf]
    exact laybyRelease_spec s _ _ _
  · rw [State.laybyCtrlWrite_eq (by decide) h, State.laybyOp_releaseAll, State.laybyWritten_leads]
    exact laybyRelease_spec s _ _ _

end Sys2Proof.Machine
end

section
/-! SUPPORT. A read of a CAN buffer through the window (R266) while the gate of the reader's pair holds a write (R329). -/

namespace Sys2Proof.Machine

/-- An Active device with buffer 0 of CAN 0 an enabled receive buffer, which CAN_MB_SEL selects. -/
def receiveBufferSelected : State := ({ State.reset with dev := .active } : State).setFlag (Fd.CAN_MB_CFG_EN 0 0) true

/-- Pair 0 is locked, and its gate holds a write of core 0 to DRAM. -/
def gateHoldsWrite : State :=
  (receiveBufferSelected.setPair 0 { PairSt.reset with closed := 1, gate := [⟨1, ⟨0, 0, 0⟩, 0x80000000, [0]⟩] }).wr (Fd.CP_PAIR_STATUS_STATE 0) 1

/-- The read waits behind the write (R329), so the buffer is not locked. -/
theorem lock_of_waitingRead {t : State} (h : exec (.mbWindowRead ⟨0, 0, 0⟩ 0 0) gateHoldsWrite = .next t) : (t.canAt 0).lock = none := by
  injection h with h
  rw [← h]
  decide

/-- Refutes O23: its two clauses on window reads do not assume that no write of the reader's pair waits in the gate. A later I/O access of the
pair has no effect before the held writes have left (R329), so a read of word 0 that meets every condition of the clause locks nothing. -/
theorem not_canBuffers : ¬ Obligations.CanBuffers := by
  unfold Obligations.CanBuffers
  rintro ⟨-, -, hread, -⟩
  obtain ⟨t, hexec, -, hlock, -⟩ := hread gateHoldsWrite ⟨0, 0, 0⟩ 0 (by decide) (by decide) (by decide) (by decide) (by decide) (by decide)
    (by decide)
  have hfree : (t.canAt 0).lock = none := lock_of_waitingRead hexec
  rw [show (t.canAt (0 : Fin 8).val).lock = none from hfree] at hlock
  cases hlock

end Sys2Proof.Machine
end

section
/-! SUPPORT. CAN channels as rules (chapter 12): what an update of a channel or of a buffer puts and leaves, an event of a channel, its levels. -/

namespace Sys2Proof.Machine

/-! ### A channel and its buffers -/

theorem State.canAt_congr {s t : State} (h : t.can = s.can) (k : Nat) : t.canAt k = s.canAt k := by rw [State.canAt, h, State.canAt]
theorem State.buf_congr {s t : State} (h : t.can = s.can) (k b : Nat) : t.buf k b = s.buf k b := by rw [State.buf, State.canAt_congr h, State.buf]
theorem State.canWaits_congr {s t : State} (h : t.ep = s.ep) (k b op : Nat) : t.canWaits k b op = s.canWaits k b op := by
  simp only [State.canWaits, State.epAt, h]

theorem State.setCan_frame (s : State) (k : Nat) (x : Can) : Frame s (s.setCan k x) [.can] (fun _ => False) :=
  frame_of_blot_noRegs (by simp) (by simp)
theorem State.setBuf_frame (s : State) (k b : Nat) (x : CanBuf) : Frame s (s.setBuf k b x) [.can] (fun _ => False) := s.setCan_frame k _

/-- An update of the channel that keeps its buffers. -/
@[simp] theorem State.setCan_buf (s : State) (k b : Nat) (x : Can) (h : x.bufs = (s.canAt k).bufs) : (s.setCan k x).buf k b = s.buf k b := by
  rw [State.buf, State.setCan_canAt_same, h, State.buf]
@[simp] theorem State.setBuf_buf_same (s : State) (k b : Nat) (x : CanBuf) : (s.setBuf k b x).buf k b = x := by
  rw [State.buf, State.setBuf, State.setCan_canAt_same]
  exact tget_tset_same _ _ _ _
@[simp] theorem State.setBuf_canAt (s : State) (k b : Nat) (x : CanBuf) :
    (s.setBuf k b x).canAt k = { s.canAt k with bufs := tset (fun _ => CanBuf.reset) (s.canAt k).bufs b x } := s.setCan_canAt_same k _
@[simp] theorem State.setBuf_reg (s : State) (k b : Nat) (x : CanBuf) (a : Nat) : (s.setBuf k b x).reg a = s.reg a := rfl
@[simp] theorem State.setBuf_rd (s : State) (k b : Nat) (x : CanBuf) (f : Fld) : (s.setBuf k b x).rd f = s.rd f := rfl

@[simp] theorem State.wr_canAt (s : State) (f : Fld) (v k : Nat) : (s.wr f v).canAt k = s.canAt k := rfl
@[simp] theorem State.wr_buf (s : State) (f : Fld) (v k b : Nat) : (s.wr f v).buf k b = s.buf k b := rfl

/-! ### Events and levels (Table 12-5, Table 17-1) -/

theorem State.canEvent_frame (s : State) (k c : Nat) : Frame s (s.canEvent k c) [.regs] (CanCount k c) := s.count_frame _ _ _

/-- The sixteen events of a channel lie before CAN_EVENT_SAT. -/
theorem State.canEvent_counted (s : State) (k : Nat) {c : Nat} (hc : c < 16) : Counted s (s.canEvent k c) (Rg.CAN_EVENT k c) :=
  s.count_counted _ _ _ (by unfold Rg.CAN_EVENT Rg.CAN_EVENT_SAT; omega)

theorem State.canLevels_frame (s : State) (k : Nat) : Frame s (s.canLevels k) [.ic] (fun _ => False) :=
  frame_of_blot_noRegs (by simp) (by simp)

section
variable (s : State) (k c : Nat)

@[simp] theorem State.canEvent_can : (s.canEvent k c).can = s.can := (s.canEvent_frame k c).same .can (by simp)
@[simp] theorem State.canEvent_canAt (j : Nat) : (s.canEvent k c).canAt j = s.canAt j := State.canAt_congr (s.canEvent_can k c) j
@[simp] theorem State.canEvent_buf (j b : Nat) : (s.canEvent k c).buf j b = s.buf j b := State.buf_congr (s.canEvent_can k c) j b
@[simp] theorem State.canLevels_can : (s.canLevels k).can = s.can := (s.canLevels_frame k).same .can (by simp)
@[simp] theorem State.canLevels_ep : (s.canLevels k).ep = s.ep := (s.canLevels_frame k).same .ep (by simp)
@[simp] theorem State.canLevels_mem : (s.canLevels k).mem = s.mem := (s.canLevels_frame k).same .mem (by simp)
@[simp] theorem State.canLevels_now : (s.canLevels k).now = s.now := (s.canLevels_frame k).same .now (by simp)
@[simp] theorem State.canLevels_canAt (j : Nat) : (s.canLevels k).canAt j = s.canAt j := State.canAt_congr (s.canLevels_can k) j
@[simp] theorem State.canLevels_buf (j b : Nat) : (s.canLevels k).buf j b = s.buf j b := State.buf_congr (s.canLevels_can k) j b
@[simp] theorem State.canLevels_reg (a : Nat) : (s.canLevels k).reg a = s.reg a := (s.canLevels_frame k).reg not_false
@[simp] theorem State.canLevels_rd (f : Fld) : (s.canLevels k).rd f = s.rd f := (s.canLevels_frame k).rd not_false
@[simp] theorem State.canLevels_flag (f : Fld) : (s.canLevels k).flag f = s.flag f := by rw [State.flag, s.canLevels_rd k f, State.flag]

end

/-- A field of a register that counts no event. -/
theorem State.canEvent_rd (s : State) {k c : Nat} {f : Fld} (h : ¬ CanCount k c f.addr) : (s.canEvent k c).rd f = s.rd f :=
  (s.canEvent_frame k c).rd h

end Sys2Proof.Machine
end

section
/-! SUPPORT. The time-triggered schedule of a CAN channel (R271 to R275): its enable, the start and the end of a window, a lost reference; the
statement on the schedule. -/

namespace Sys2Proof.Machine

/-! ### CAN_TT_CFG (R271) -/

def ttCfgFields : List FieldRow := [⟨31, 31, .rw, none⟩, ⟨30, 30, .rw, none⟩, ⟨23, 20, .rw, none⟩, ⟨19, 0, .rw, some (100, 1000000)⟩]

theorem ttCfg_row (k : Fin 8) :
    RegMap.at (Rg.CAN_TT_CFG k.val) = some (⟨0x200C0020, [(0, 8, 4096)], .district0, ttCfgFields⟩, [k.val]) := by
  revert k
  decide

theorem ttCfgFields_eq (old v : Nat) : writeFields ttCfgFields old v =
    putBits (putBits (putBits (putBits old 31 31 (getBits v 31 31)) 30 30 (getBits v 30 30)) 23 20 (getBits v 23 20)) 19 0 (getBits v 19 0) := rfl

/-- The register with the word written. -/
def State.ttWritten (s : State) (k : Nat) (w : Word) : State := s.written (Rg.CAN_TT_CFG k) ttCfgFields w

theorem State.ttWritten_frame (s : State) (k : Nat) (w : Word) : Frame s (s.ttWritten k w) [.regs] (fun a => a = Rg.CAN_TT_CFG k) :=
  s.written_frame _ _ w

theorem State.ttWritten_on (s : State) (k : Nat) (w : Word) : (s.ttWritten k w).ttOn k = tbit w.toNat 31 := by
  refine s.written_flag_taken (f := Fd.CAN_TT_CFG_EN k) w rfl rfl fun old v => ?_
  show getBits _ 31 31 = _
  rw [ttCfgFields_eq, getBits_putBits_ne _ _ _ _ _ _ (by decide) (by decide), getBits_putBits_ne _ _ _ _ _ _ (by decide) (by decide),
    getBits_putBits_ne _ _ _ _ _ _ (by decide) (by decide)]
  exact getBits_putBits_self _ _ (by decide)

theorem State.ttWritten_ref (s : State) (k : Nat) (w : Word) : (s.ttWritten k w).ttRef k = tbit w.toNat 30 := by
  refine s.written_flag_taken (f := Fd.CAN_TT_CFG_REF k) w rfl rfl fun old v => ?_
  show getBits _ 30 30 = _
  rw [ttCfgFields_eq, getBits_putBits_ne _ _ _ _ _ _ (by decide) (by decide), getBits_putBits_ne _ _ _ _ _ _ (by decide) (by decide)]
  exact getBits_putBits_self _ _ (by decide)

theorem State.ttWritten_cycleUs (s : State) (k : Nat) (w : Word) :
    (s.ttWritten k w).rd (Fd.CAN_TT_CFG_CYCLE_US k) = w.toNat % 2 ^ 20 :=
  s.written_rd_taken (f := Fd.CAN_TT_CFG_CYCLE_US k) w rfl fun _ _ => getBits_putBits_self _ _ (by decide)

theorem State.answered_reg (s : State) (a : Nat) : s.answered.reg a = s.reg a := rfl

/-- The configuration and the status of a schedule are two registers. -/
theorem ttStatus_ne_ttCfg (k : Nat) : Rg.CAN_TT_STATUS k ≠ Rg.CAN_TT_CFG k := by unfold Rg.CAN_TT_STATUS Rg.CAN_TT_CFG; omega

/-- The schedule starts: FIT_VALID clears, and without REF it is in step at once. -/
def State.ttBegun (s : State) (k : Nat) : State :=
  (s.wr (Fd.CAN_TT_STATUS_FIT_VALID k) 0).wr (Fd.CAN_TT_STATUS_SYNC k) (if s.ttRef k then 0 else 1)

theorem State.ttBegun_frame (s : State) (k : Nat) : Frame s (s.ttBegun k) [.regs] (fun a => a = Rg.CAN_TT_STATUS k) :=
  (s.wr_frame (Fd.CAN_TT_STATUS_FIT_VALID k) 0).trans (State.wr_frame _ (Fd.CAN_TT_STATUS_SYNC k) _)

theorem State.ttBegun_fitValid (s : State) (k : Nat) : (s.ttBegun k).flag (Fd.CAN_TT_STATUS_FIT_VALID k) = false :=
  (flag_wr_beside _ (Fd.CAN_TT_STATUS_SYNC k) (Fd.CAN_TT_STATUS_FIT_VALID k) _ rfl rfl).trans
    (flag_wr_zero s (Fd.CAN_TT_STATUS_FIT_VALID k) (Nat.le_refl 21) (by decide : 21 ≤ 31))

theorem State.ttBegun_sync (s : State) (k : Nat) : (s.ttBegun k).ttSync k = !s.ttRef k := by
  unfold State.ttSync State.ttBegun
  cases s.ttRef k
  · exact flag_wr_one _ (Fd.CAN_TT_STATUS_SYNC k) rfl (by decide : 15 ≤ 31)
  · exact flag_wr_zero _ (Fd.CAN_TT_STATUS_SYNC k) (Nat.le_refl 15) (by decide : 15 ≤ 31)

theorem State.ttRef_wr_fitValid (s : State) (k v : Nat) : (s.wr (Fd.CAN_TT_STATUS_FIT_VALID k) v).ttRef k = s.ttRef k :=
  flag_wr_ne s (Fd.CAN_TT_STATUS_FIT_VALID k) (Fd.CAN_TT_CFG_REF k) v (ttStatus_ne_ttCfg k).symm

section
variable {s : State} {who : Who} {k : Fin 8} {w : Word}

/-- The write of an enable whose items all fit. -/
theorem State.ttCfgWrite_fits (h : s.passesChecks who 4 (Rg.CAN_TT_CFG k.val) w false false = true) (hen : tbit w.toNat 31 = true)
    (hoff : s.ttOn k.val = false) (hfit : s.ttMisfit k.val w.toNat = none) :
    s.ttCfgWrite who 4 k.val w = ((s.ttWritten k.val w).ttBegun k.val).answered := by
  unfold State.ttCfgWrite
  simp only [hen, hfit, hoff, State.ttChanges, Bool.not_true, Bool.false_and, Bool.false_eq_true, if_true, if_false, Option.isSome_none, or_self]
  rw [State.regWrite_written _ (ttCfg_row k) h rfl, State.ttRef_wr_fitValid]
  rfl

/-- The write of an enable with an item that does not fit is refused, and FIT shows the item. -/
theorem State.ttCfgWrite_misfit {i : Item} (h : s.passesChecks who 4 (Rg.CAN_TT_CFG k.val) w false false = true)
    (hen : tbit w.toNat 31 = true) (hoff : s.ttOn k.val = false) (hmiss : s.ttMisfit k.val w.toNat = some i) :
    s.ttCfgWrite who 4 k.val w = ((s.refuseWrite (pageBlock (Rg.CAN_TT_CFG k.val)) Code.WRONG_STATE who (Rg.CAN_TT_CFG k.val)).wr
      (Fd.CAN_TT_STATUS_FIT k.val) (i.n 1 * 64 + i.n 2)).wr (Fd.CAN_TT_STATUS_FIT_VALID k.val) 1 := by
  unfold State.ttCfgWrite
  simp only [hen, hmiss, hoff, h, State.ttChanges, Bool.not_false, Bool.and_self, Bool.false_and, Bool.false_eq_true, if_true, Option.isSome_some,
    or_true]
  rw [State.regWrite_refused _ _ _ _ _ _ _ _ _ h (by decide)]

/-- A refused write leaves every register but the rejection record. -/
theorem State.refuseWrite_reg (s : State) (who : Who) {a b code : Nat} (hb : b ≠ Rg.LAST_REJECT (pageBlock a))
    (hb' : b ≠ Rg.LAST_REJECT_ADDR (pageBlock a)) : (s.refuseWrite (pageBlock a) code who a).reg b = s.reg b := by
  unfold State.refuseWrite
  show (if isRejectReg a then s else s.reject (pageBlock a) code who true a).reg b = s.reg b
  split
  · rfl
  · exact (s.reject_frame who true a code).reg (fun hr => hr.elim hb hb')

end

theorem ttEnable_fits {s : State} {who : Who} {k : Fin 8} {w : Word}
    (h : s.passesChecks (s.issuer who) 4 (Rg.CAN_TT_CFG k.val) w false false = true) (hen : tbit w.toNat 31 = true)
    (hoff : s.ttOn k.val = false) (hfit : s.ttMisfit k.val w.toNat = none) :
    ∃ t, exec (.ttEnable who k w) s = .next t ∧ t.ttOn k.val = true ∧ t.flag (Fd.CAN_TT_STATUS_FIT_VALID k.val) = false ∧
      t.ttSync k.val = !tbit w.toNat 30 ∧ t.rd (Fd.CAN_TT_CFG_CYCLE_US k.val) = w.toNat % 2 ^ 20 ∧ t.resp = .done ∧
      Frame s t [.regs, .ic, .resp] (fun a => a = Rg.CAN_TT_CFG k.val ∨ a = Rg.CAN_TT_STATUS k.val) := by
  have hbegun := (s.ttWritten k.val w).ttBegun_frame k.val
  have hcfg : ((s.ttWritten k.val w).ttBegun k.val).answered.reg (Rg.CAN_TT_CFG k.val) = (s.ttWritten k.val w).reg (Rg.CAN_TT_CFG k.val) := by
    rw [State.answered_reg, hbegun.reg (ttStatus_ne_ttCfg k.val).symm]
  refine ⟨((s.ttWritten k.val w).ttBegun k.val).answered, congrArg Host.Outcome.next (State.ttCfgWrite_fits h hen hoff hfit), ?_, ?_, ?_, ?_, rfl, ?_⟩
  · exact (flag_congr (f := Fd.CAN_TT_CFG_EN k.val) hcfg).trans ((s.ttWritten_on k.val w).trans hen)
  · exact (State.answered_flag _ _).trans (State.ttBegun_fitValid _ k.val)
  · rw [State.ttSync, State.answered_flag, ← State.ttSync, State.ttBegun_sync, State.ttWritten_ref]
  · exact (rd_congr (f := Fd.CAN_TT_CFG_CYCLE_US k.val) hcfg).trans (s.ttWritten_cycleUs k.val w)
  · exact ((s.ttWritten_frame k.val w).mono (by simp) fun _ => .inl).trans
      ((hbegun.mono (by simp) fun _ => .inr).trans ((State.answered_frame _).noRegs (by simp)))

theorem ttEnable_misfit {s : State} {who : Who} {k : Fin 8} {w : Word} {i : Item}
    (h : s.passesChecks (s.issuer who) 4 (Rg.CAN_TT_CFG k.val) w false false = true) (hen : tbit w.toNat 31 = true)
    (hoff : s.ttOn k.val = false) (hmiss : s.ttMisfit k.val w.toNat = some i) :
    ∃ t, exec (.ttEnable who k w) s = .next t ∧ t.ttOn k.val = false ∧ t.flag (Fd.CAN_TT_STATUS_FIT_VALID k.val) = true ∧
      t.rd (Fd.CAN_TT_STATUS_FIT k.val) = (i.n 1 * 64 + i.n 2) % 1024 ∧ t.reg (Rg.CAN_TT_CFG k.val) = s.reg (Rg.CAN_TT_CFG k.val) := by
  refine ⟨_, congrArg Host.Outcome.next (State.ttCfgWrite_misfit h hen hoff hmiss), ?_⟩
  generalize hu : s.refuseWrite (pageBlock (Rg.CAN_TT_CFG k.val)) Code.WRONG_STATE (s.issuer who) (Rg.CAN_TT_CFG k.val) = u
  have hcfg : ((u.wr (Fd.CAN_TT_STATUS_FIT k.val) (i.n 1 * 64 + i.n 2)).wr (Fd.CAN_TT_STATUS_FIT_VALID k.val) 1).reg (Rg.CAN_TT_CFG k.val) =
      s.reg (Rg.CAN_TT_CFG k.val) := by
    have hne := (ttStatus_ne_ttCfg k.val).symm
    rw [reg_wr_ne _ (Fd.CAN_TT_STATUS_FIT_VALID k.val) _ _ hne, reg_wr_ne _ (Fd.CAN_TT_STATUS_FIT k.val) _ _ hne, ← hu]
    refine s.refuseWrite_reg _ ?_ ?_ <;> simp only [Rg.CAN_TT_CFG, Rg.LAST_REJECT, Rg.LAST_REJECT_ADDR, pageBlock] <;> omega
  exact ⟨(flag_congr (f := Fd.CAN_TT_CFG_EN k.val) hcfg).trans hoff, flag_wr_one _ (Fd.CAN_TT_STATUS_FIT_VALID k.val) rfl (by decide : 21 ≤ 31),
    (rd_wr_beside _ (Fd.CAN_TT_STATUS_FIT_VALID k.val) (Fd.CAN_TT_STATUS_FIT k.val) 1 rfl rfl).trans (rd_wr_self u (Fd.CAN_TT_STATUS_FIT k.val) _ rfl), hcfg⟩

/-! ### The start of a window (R272) -/

theorem State.ttClose_none {s : State} {k : Nat} (h : (s.canAt k).win = none) : s.ttClose k = s := by
  unfold State.ttClose
  rw [h]

theorem State.ttItem_spec {s : State} {k c w : Nat} {i : Item} (h : s.ttItem k c w = some i) : i.n 1 = c ∧ i.n 2 = w := by
  simpa using List.find?_some h

/-- CYCLE and WINDOW show the item. -/
def State.ttShown (s : State) (k : Nat) (i : Item) : State :=
  (s.wr (Fd.CAN_TT_STATUS_CYCLE k) (i.n 1)).wr (Fd.CAN_TT_STATUS_WINDOW k) (i.n 2)

theorem State.ttShown_frame (s : State) (k : Nat) (i : Item) : Frame s (s.ttShown k i) [.regs] (fun a => a = Rg.CAN_TT_STATUS k) :=
  (s.wr_frame (Fd.CAN_TT_STATUS_CYCLE k) _).trans (State.wr_frame _ (Fd.CAN_TT_STATUS_WINDOW k) _)

theorem State.ttShown_fields (s : State) (k : Nat) {i : Item} (hc : i.n 1 < 16) (hw : i.n 2 < 64) :
    (s.ttShown k i).rd (Fd.CAN_TT_STATUS_CYCLE k) = i.n 1 ∧ (s.ttShown k i).rd (Fd.CAN_TT_STATUS_WINDOW k) = i.n 2 :=
  ⟨(rd_wr_beside _ (Fd.CAN_TT_STATUS_WINDOW k) (Fd.CAN_TT_STATUS_CYCLE k) _ rfl rfl).trans
      ((rd_wr_self s (Fd.CAN_TT_STATUS_CYCLE k) _ rfl).trans (Nat.mod_eq_of_lt hc)),
    (rd_wr_self _ (Fd.CAN_TT_STATUS_WINDOW k) _ rfl).trans (Nat.mod_eq_of_lt hw)⟩

/-- Under vehicle time a window in step starts at its place, with no window running. -/
theorem State.ttStarts_eq {s : State} {k c w : Nat} {i : Item} (hitem : s.ttItem k c w = some i) (hruns : s.ttRuns k = true)
    (hcycle : c < s.ttCycles k) (href : s.ttRef k = false) :
    s.ttStarts k c w = (s.pass (ttDistance (s.ttCycleNs k) (s.ttCycles k) (s.ttPlace k s.now).1 (s.ttPlace k s.now).2 i)).ttOpen k i (i.n 7) := by
  unfold State.ttStarts
  simp only [hitem, hruns, href, Nat.not_le.mpr hcycle, decide_false, Bool.not_true, Bool.or_self, Bool.false_and, Bool.false_eq_true, if_false]

/-- The leave to catch up ends, and a window opens whose end lies `left` ns ahead. -/
def State.leaveEnded (s : State) (k b : Nat) : State := s.setBuf k b { s.buf k b with catchUp := false }
def State.ttExclusive (s : State) (k : Nat) (i : Item) (left : Nat) : State :=
  s.setCan k { s.canAt k with win := some ⟨i.n 1, i.n 2, i.n 4, s.now + left, tbit (i.n 5) 0, s.bufState k (i.n 4) != 0, false⟩ }

theorem State.leaveEnded_rd (s : State) (k b : Nat) (f : Fld) : (s.leaveEnded k b).rd f = s.rd f := rfl
theorem State.leaveEnded_flag (s : State) (k b : Nat) (f : Fld) : (s.leaveEnded k b).flag f = s.flag f := rfl
theorem State.leaveEnded_bufState (s : State) (k b j c : Nat) : (s.leaveEnded k b).bufState j c = s.bufState j c := rfl

theorem State.ttExclusive_rd (s : State) (k : Nat) (i : Item) (left : Nat) (f : Fld) : (s.ttExclusive k i left).rd f = s.rd f := rfl
theorem State.ttExclusive_now (s : State) (k : Nat) (i : Item) (left : Nat) : (s.ttExclusive k i left).now = s.now := rfl

theorem State.ttExclusive_win (s : State) (k : Nat) (i : Item) (left : Nat) : ((s.ttExclusive k i left).canAt k).win =
    some ⟨i.n 1, i.n 2, i.n 4, s.now + left, tbit (i.n 5) 0, s.bufState k (i.n 4) != 0, false⟩ := by
  rw [State.ttExclusive, State.setCan_canAt_same]

theorem State.ttOpen_eq (s : State) (k : Nat) (i : Item) (left : Nat) : s.ttOpen k i left =
    let u := (s.ttClose k).ttShown k i
    let v := u.leaveEnded k (i.n 4)
    if i.n 3 = 0 then (if v.ttRepeats k (i.n 4) then v.txRequest k (i.n 4) else v).ttExclusive k i left else u := rfl

theorem State.ttOpen_shared {s : State} {k : Nat} {i : Item} (hwin : (s.canAt k).win = none) (hkind : i.n 3 ≠ 0) (left : Nat) :
    s.ttOpen k i left = s.ttShown k i := by
  rw [State.ttOpen_eq, State.ttClose_none hwin]
  exact if_neg hkind

theorem State.ttOpen_exclusive {s : State} {k : Nat} {i : Item} (hwin : (s.canAt k).win = none) (hkind : i.n 3 = 0)
    (hrepeat : s.flag (Fd.CAN_MB_CFG_REPEAT k (i.n 4)) = false) (left : Nat) :
    s.ttOpen k i left = ((s.ttShown k i).leaveEnded k (i.n 4)).ttExclusive k i left := by
  have hflag : ((s.ttShown k i).leaveEnded k (i.n 4)).flag (Fd.CAN_MB_CFG_REPEAT k (i.n 4)) = false := by
    rw [State.leaveEnded_flag, flag_of_frame (s.ttShown_frame k i) (by simp only [Fd.CAN_MB_CFG_REPEAT, Rg.CAN_TT_STATUS]; omega), hrepeat]
  have hagain : ((s.ttShown k i).leaveEnded k (i.n 4)).ttRepeats k (i.n 4) = false := by
    rw [State.ttRepeats, hflag]
    rfl
  rw [State.ttOpen_eq, State.ttClose_none hwin]
  dsimp only
  rw [if_pos hkind, hagain]
  rfl

theorem ttWindowStart_exclusive {s : State} {k : Fin 8} {cy : Fin 16} {wi : Fin 64} {i : Item} (hitem : s.ttItem k.val cy.val wi.val = some i)
    (hkind : i.n 3 = 0) (hruns : s.ttRuns k.val = true) (hcycle : cy.val < s.ttCycles k.val) (href : s.ttRef k.val = false)
    (hwin : (s.canAt k.val).win = none) (hrepeat : s.flag (Fd.CAN_MB_CFG_REPEAT k.val (i.n 4)) = false) :
    ∃ t, exec (.ttWindowStart k cy wi) s = .next t ∧
      t.now = s.now + ttDistance (s.ttCycleNs k.val) (s.ttCycles k.val) (s.ttPlace k.val s.now).1 (s.ttPlace k.val s.now).2 i ∧
      (t.canAt k.val).win = some ⟨cy.val, wi.val, i.n 4, t.now + i.n 7, tbit (i.n 5) 0, s.bufState k.val (i.n 4) != 0, false⟩ ∧
      t.rd (Fd.CAN_TT_STATUS_CYCLE k.val) = cy.val ∧ t.rd (Fd.CAN_TT_STATUS_WINDOW k.val) = wi.val ∧
      Frame s t [.can, .regs, .now, .vt, .ptp] (fun a => a = Rg.CAN_TT_STATUS k.val) := by
  obtain ⟨hcy, hwi⟩ := State.ttItem_spec hitem
  refine ⟨_, congrArg Host.Outcome.next (State.ttStarts_eq hitem hruns hcycle href), ?_⟩
  generalize ttDistance (s.ttCycleNs k.val) (s.ttCycles k.val) (s.ttPlace k.val s.now).1 (s.ttPlace k.val s.now).2 i = d
  rw [State.ttOpen_exclusive (s := s.pass d) hwin hkind hrepeat]
  have hstate : ((s.pass d).ttShown k.val i).bufState k.val (i.n 4) = s.bufState k.val (i.n 4) :=
    ((s.pass d).ttShown_frame k.val i).rd (by simp only [Fd.CAN_MB_STAT_STATE, Rg.CAN_TT_STATUS]; omega)
  obtain ⟨hshowC, hshowW⟩ := (s.pass d).ttShown_fields k.val (i := i) (hcy ▸ cy.isLt) (hwi ▸ wi.isLt)
  refine ⟨rfl, ?_, ?_, ?_, ?_⟩
  · rw [State.ttExclusive_win, State.ttExclusive_now, State.leaveEnded_bufState, hstate, hcy, hwi]
  · rw [State.ttExclusive_rd, State.leaveEnded_rd, hshowC, hcy]
  · rw [State.ttExclusive_rd, State.leaveEnded_rd, hshowW, hwi]
  · exact ((s.pass_frame d).noRegs (by simp)).trans ((((s.pass d).ttShown_frame k.val i).widen (by simp)).trans
      (((State.setBuf_frame _ _ _ _).noRegs (by simp)).trans ((State.setCan_frame _ _ _).noRegs (by simp))))

theorem ttWindowStart_shared {s : State} {k : Fin 8} {cy : Fin 16} {wi : Fin 64} {i : Item} (hitem : s.ttItem k.val cy.val wi.val = some i)
    (hkind : i.n 3 ≠ 0) (hruns : s.ttRuns k.val = true) (hcycle : cy.val < s.ttCycles k.val) (href : s.ttRef k.val = false)
    (hwin : (s.canAt k.val).win = none) :
    ∃ t, exec (.ttWindowStart k cy wi) s = .next t ∧
      t.now = s.now + ttDistance (s.ttCycleNs k.val) (s.ttCycles k.val) (s.ttPlace k.val s.now).1 (s.ttPlace k.val s.now).2 i ∧
      (t.canAt k.val).win = none ∧ t.rd (Fd.CAN_TT_STATUS_CYCLE k.val) = cy.val ∧ t.rd (Fd.CAN_TT_STATUS_WINDOW k.val) = wi.val ∧
      Frame s t [.regs, .now, .vt, .ptp] (fun a => a = Rg.CAN_TT_STATUS k.val) := by
  obtain ⟨hcy, hwi⟩ := State.ttItem_spec hitem
  refine ⟨_, congrArg Host.Outcome.next (State.ttStarts_eq hitem hruns hcycle href), ?_⟩
  generalize ttDistance (s.ttCycleNs k.val) (s.ttCycles k.val) (s.ttPlace k.val s.now).1 (s.ttPlace k.val s.now).2 i = d
  rw [State.ttOpen_shared (s := s.pass d) hwin hkind]
  obtain ⟨hshowC, hshowW⟩ := (s.pass d).ttShown_fields k.val (i := i) (hcy ▸ cy.isLt) (hwi ▸ wi.isLt)
  exact ⟨rfl, hwin, hshowC.trans hcy, hshowW.trans hwi,
    ((s.pass_frame d).noRegs (by simp)).trans (((s.pass d).ttShown_frame k.val i).widen (by simp))⟩

/-! ### A missed window (R273) -/

/-- The window that ends is missed: its buffer may catch up where CATCH_UP says so. -/
def State.ttMissed (s : State) (k : Nat) (x : TtWin) : State :=
  let u := s.setCan k { s.canAt k with win := none }
  ((u.setBuf k x.buf { u.buf k x.buf with catchUp := x.catchUp }).canEvent k 10).canLevels k

theorem State.ttMisses_eq {s : State} {k : Nat} {x : TtWin} (hwin : (s.canAt k).win = some x) (hpend : x.pend = true) (hfail : x.ok = false) :
    s.ttMisses k x.cycle x.window = (s.reach x.fin).ttMissed k x := by
  have hwin' : ((s.reach x.fin).canAt k).win = some x := hwin
  unfold State.ttMisses State.ttClose
  simp only [hwin, hwin', hpend, hfail, Bool.not_false, and_self, if_true, Bool.and_self]
  rfl

theorem State.ttMissed_spec (s : State) (k : Nat) (x : TtWin) :
    ((s.ttMissed k x).canAt k).win = none ∧ Counted s (s.ttMissed k x) (Rg.CAN_EVENT k 10) ∧ ((s.ttMissed k x).buf k x.buf).catchUp = x.catchUp ∧
      Frame s (s.ttMissed k x) [.can, .regs, .ic] (CanCount k 10) := by
  refine ⟨?_, ?_, ?_, ?_⟩
  · simp [State.ttMissed]
  · rw [Counted, State.ttMissed, State.canLevels_reg]
    exact State.canEvent_counted _ k (by decide)
  · simp [State.ttMissed]
  · exact ((State.setCan_frame s k _).noRegs (by simp)).trans (((State.setBuf_frame _ k _ _).noRegs (by simp)).trans
      (((State.canEvent_frame _ k 10).widen (by simp)).trans ((State.canLevels_frame _ k).noRegs (by simp))))

/-! ### A lost reference (R275) -/

/-- The schedule is out of step. -/
def State.ttOut (s : State) (k : Nat) : State := ((s.wr (Fd.CAN_TT_STATUS_SYNC k) 0).canEvent k 11).canLevels k

theorem State.refLost_eq {s : State} {k : Nat} (hon : s.ttOn k = true) (href : s.ttRef k = true) (hsync : s.ttSync k = true)
    (hwin : (s.canAt k).win = none) : s.refLost k = (s.reach ((s.canAt k).cycleAt + 11 * s.ttCycleNs k / 10)).ttOut k := by
  unfold State.refLost
  simp only [hon, href, hsync, Bool.and_self, if_true]
  rw [State.ttClose_none (s := s.reach _) hwin]
  rfl

theorem State.ttOut_spec (s : State) (k : Nat) :
    (s.ttOut k).ttSync k = false ∧ Counted s (s.ttOut k) (Rg.CAN_EVENT k 11) ∧
      Frame s (s.ttOut k) [.regs, .ic] (fun a => a = Rg.CAN_TT_STATUS k ∨ CanCount k 11 a) := by
  refine ⟨?_, ?_, ?_⟩
  · rw [State.ttSync, State.ttOut, State.canLevels_flag, flag_of_frame (State.canEvent_frame _ k 11)
      (by simp only [CanCount, Fd.CAN_TT_STATUS_SYNC, Rg.CAN_EVENT, Rg.CAN_EVENT_SAT]; omega)]
    exact flag_wr_zero s (Fd.CAN_TT_STATUS_SYNC k) (Nat.le_refl 15) (by decide : 15 ≤ 31)
  · rw [Counted, State.ttOut, State.canLevels_reg, State.canEvent_counted _ k (by decide),
      reg_wr_ne s (Fd.CAN_TT_STATUS_SYNC k) 0 _ (by simp only [Fd.CAN_TT_STATUS_SYNC, Rg.CAN_EVENT]; omega)]
  · exact ((s.wr_frame (Fd.CAN_TT_STATUS_SYNC k) 0).mono (by simp) fun _ => .inl).trans
      (((State.canEvent_frame _ k 11).mono (by simp) fun _ => .inr).trans ((State.canLevels_frame _ k).noRegs (by simp)))

/-! ### The statement -/

/-- Settles O25: each command comes to the clock's advance and the one update that its rule names. -/
theorem canSchedule : Obligations.CanSchedule := by
  unfold Obligations.CanSchedule
  refine ⟨fun s who k w => ttEnable_fits, fun s who k w i => ttEnable_misfit, fun s k cy wi i hitem hkind hruns _ hcycle href hwin _ hrepeat =>
    ttWindowStart_exclusive hitem hkind hruns hcycle href hwin hrepeat, fun s k cy wi i => ttWindowStart_shared, ?_, ?_⟩
  · intro s k cy wi x hwin hcy hwi hpend hfail
    obtain ⟨hnone, hcount, hcatch, hframe⟩ := (s.reach x.fin).ttMissed_spec k.val x
    have heq : exec (.ttWindowMissed k cy wi) s = .next ((s.reach x.fin).ttMissed k.val x) := by
      rw [← State.ttMisses_eq hwin hpend hfail, hcy, hwi]
      rfl
    have hnow : ((s.reach x.fin).ttMissed k.val x).now = (s.reach x.fin).now := hframe.same .now (by simp)
    exact ⟨_, heq, hnow.symm ▸ s.le_reach x.fin, hnone, hcount, hcatch, ((s.reach_frame _).noRegs (by simp)).trans (hframe.widen (by simp))⟩
  · intro s k hon href hsync hwin
    obtain ⟨hout, hcount, hframe⟩ := (s.reach ((s.canAt k.val).cycleAt + 11 * s.ttCycleNs k.val / 10)).ttOut_spec k.val
    exact ⟨_, congrArg Host.Outcome.next (State.refLost_eq hon href hsync hwin), hout, hcount,
      (s.le_reach _).trans_eq (hframe.same .now (by simp)).symm,
      ((s.reach_frame _).noRegs (by simp)).trans (hframe.widen (by simp))⟩

end Sys2Proof.Machine
end

section
/-! SUPPORT. The record of a command that completes (R57, R61 to R63): what it leaves in the completion ring, in the endpoint and in memory; a
command in flight that is replaced. -/

namespace Sys2Proof.Machine

/-! ### The notice (R63) -/

theorem State.noticeEvent_ep (s : State) (g : Nat) (was : Bool) : (s.noticeEvent g was).ep = s.ep := same_of_allBut .ep (by simp)

/-- NOTICE is all that a notice changes of an endpoint. -/
theorem State.setNotice_cqTail (s : State) (e j : Nat) : ((s.setNotice e).epAt j).cqTail = (s.epAt j).cqTail := by
  have hset : ((s.setEp e { s.epAt e with notice := true }).epAt j).cqTail = (s.epAt j).cqTail := by
    by_cases h : j = e
    · rw [h, State.setEp_epAt_same]
    · rw [State.setEp_epAt_ne _ _ _ _ h]
  have hevent : ∀ (u : State) g was, (u.noticeEvent g was).epAt j = u.epAt j := fun u g was => by
    rw [State.epAt, u.noticeEvent_ep, State.epAt]
  unfold State.setNotice
  dsimp only
  split
  · rfl
  · split
    · rw [hevent, hset]
    · exact hset

theorem State.setNotice_frame (s : State) (e : Nat) : Frame s (s.setNotice e) [.ep, .ic] (fun _ => False) :=
  frame_of_blot_noRegs (by simp) (by simp)

/-! ### The record (R61 to R63) -/

theorem length_recBytes (tag code op flags detail time : Nat) : (recBytes tag code op flags detail time).length = 16 := by
  simp [recBytes, length_leBytes]

/-- The sixteen bytes that a completion leaves. -/
def Cmd.record (s : State) (c : Cmd) (code detail time : Nat) : List Byte :=
  recBytes c.tag code c.op (recFlags (recPhase (s.epAt c.ep).cqTail (s.epAt c.ep).cqSize) c.abortSeen c.lateSeen false) detail time

/-- The record stored, and TAIL one on. -/
def State.recordPut (s : State) (c : Cmd) (code detail time : Nat) : State :=
  let x := s.epAt c.ep
  ((s.dropCmd c.ep c.tag).store (recordAt s c) (c.record s code detail time)).setEp c.ep { x with
    cqTail := idxNext x.cqTail
    gone := x.gone + (if x.dying && code == Code.CANCELLED then 1 else 0)
    ended := x.ended + (if x.dying && code != Code.CANCELLED then 1 else 0) }

theorem State.complete_eq (s : State) (c : Cmd) (code detail time : Nat) : s.complete c code detail time =
    if c.notify then (s.recordPut c code detail time).setNotice c.ep else s.recordPut c code detail time := rfl

theorem State.recordPut_cqTail (s : State) (c : Cmd) (code detail time : Nat) :
    ((s.recordPut c code detail time).epAt c.ep).cqTail = idxNext (s.epAt c.ep).cqTail := by
  unfold State.recordPut
  rw [State.setEp_epAt_same]

/-- A command that completes is in flight no more. -/
theorem State.complete_inflight (s : State) (c : Cmd) (code detail time : Nat) :
    (s.complete c code detail time).ep.inflight = s.ep.inflight.filter (fun x => !(x.ep == c.ep && x.tag == c.tag)) := by
  rw [State.complete_eq]
  split
  · exact State.setNotice_inflight _ _
  · rfl

theorem State.complete_cmdOf (s : State) (c : Cmd) (code detail time : Nat) : (s.complete c code detail time).cmdOf c.ep c.tag = none := by
  rw [State.cmdOf, s.complete_inflight, List.find?_eq_none]
  intro x hx
  have hother := (List.mem_filter.mp hx).2
  exact (Bool.not_eq_true' _).mp hother ▸ Bool.false_ne_true

theorem State.complete_mem (s : State) (c : Cmd) (code detail time : Nat) :
    (s.complete c code detail time).mem = (s.store (recordAt s c) (c.record s code detail time)).mem := by
  rw [State.complete_eq]
  split
  · exact (State.setNotice_frame _ _).same .mem (by simp)
  · rfl

theorem State.complete_frame (s : State) (c : Cmd) (code detail time : Nat) :
    Frame s (s.complete c code detail time) [.mem, .ep, .wg, .ic] (fun _ => False) := frame_of_blot_noRegs (by simp) (by simp)

/-- What a completion records, and that no other byte changes. -/
theorem State.complete_recorded (s : State) (c : Cmd) (code detail time : Nat) :
    Recorded s (s.complete c code detail time) c code detail time c.lateSeen ∧ OnlyRecord s (s.complete c code detail time) c := by
  have hlen : (c.record s code detail time).length = 16 := length_recBytes _ _ _ _ _ _
  have hmem := s.complete_mem c code detail time
  refine ⟨⟨s.complete_cmdOf c code detail time, ?_, ?_⟩, fun b hb => ?_⟩
  · rw [State.complete_eq]
    split
    · rw [State.setNotice_cqTail, State.recordPut_cqTail]
    · exact s.recordPut_cqTail c code detail time
  · rw [State.bytes_congr hmem, ← hlen]
    exact State.bytes_store_same _ _ _
  · rw [State.byte, hmem, ← State.byte]
    exact State.byte_store_out _ _ _ _ (hlen.symm ▸ hb)

/-! ### A command in flight that is replaced -/

theorem State.putCmd_frame (s : State) (c : Cmd) : Frame s (s.putCmd c) [.ep] (fun _ => False) := frame_of_blot_noRegs (by simp) (by simp)

theorem State.passed_spec {s : State} {e tag ty op : Nat} {c : Cmd} (h : s.passed e tag ty op = some c) :
    s.cmdOf e tag = some c ∧ c.phase = .passed ∧ (s.epAt e).ty = ty ∧ c.op = op ∧ c.ep = e ∧ c.tag = tag := by
  unfold State.passed at h
  split at h
  · next d hd =>
    split at h
    · next hc =>
      obtain ⟨hphase, hty, hop⟩ := hc
      cases h
      have hid := List.find?_some hd
      simp only [Bool.and_eq_true, beq_iff_eq] at hid
      exact ⟨hd, hphase, hty, hop, hid.1, hid.2⟩
    · cases h
  · cases h

/-- The table of the commands in flight with `d` for the one of its endpoint and TAG. -/
theorem find?_replaced (l : List Cmd) {c d : Cmd} {q : Cmd → Bool} (hq : q d = true)
    (hnone : ∀ x ∈ l, (x.ep == d.ep && x.tag == d.tag) = false → q x = false)
    (hfind : l.find? (fun x => x.ep == d.ep && x.tag == d.tag) = some c) :
    (l.map (fun x => if x.ep == d.ep && x.tag == d.tag then d else x)).find? q = some d := by
  induction l with
  | nil => cases hfind
  | cons x rest ih =>
    rw [List.map_cons]
    by_cases hx : (x.ep == d.ep && x.tag == d.tag) = true
    · rw [if_pos hx, List.find?_cons_of_pos hq]
    · rw [List.find?_cons_of_neg (p := fun x : Cmd => x.ep == d.ep && x.tag == d.tag) hx] at hfind
      rw [if_neg hx, List.find?_cons_of_neg (by simp [hnone x List.mem_cons_self (by simpa using hx)])]
      exact ih (fun y hy => hnone y (List.mem_cons_of_mem x hy)) hfind

theorem State.putCmd_cmdOf {s : State} {c d : Cmd} (h : s.cmdOf d.ep d.tag = some c) : (s.putCmd d).cmdOf d.ep d.tag = some d :=
  find?_replaced _ (by simp) (fun _ _ hx => hx) h

end Sys2Proof.Machine
end

section
/-! SUPPORT. CAN attempts (R267 to R269): the offer, the commit point, lost arbitration; the error state and the idle bus after a frame; a receive
error; the return from bus-off. -/

namespace Sys2Proof.Machine

/-! ### Registers of a channel that are apart -/

theorem canStatus_not_canCount (k c : Nat) : ¬ CanCount k c (Rg.CAN_STATUS k) := by
  simp only [CanCount, Rg.CAN_STATUS, Rg.CAN_EVENT, Rg.CAN_EVENT_SAT]
  omega

theorem canMbStat_not_canCount (k b : Nat) {c : Nat} (hc : c < 16) : ¬ CanCount k c (Rg.CAN_MB_STAT k b) := by
  simp only [CanCount, Rg.CAN_MB_STAT, Rg.CAN_EVENT, Rg.CAN_EVENT_SAT]
  omega

theorem canMbStat_ne_canStatus (k b : Nat) : Rg.CAN_MB_STAT k b ≠ Rg.CAN_STATUS k := by unfold Rg.CAN_MB_STAT Rg.CAN_STATUS; omega

theorem canEvent_ne_canStatus (k c : Nat) : Rg.CAN_EVENT k c ≠ Rg.CAN_STATUS k := by unfold Rg.CAN_EVENT Rg.CAN_STATUS; omega

theorem canEvent_ne_canMbStat (k b : Nat) {c : Nat} (hc : c < 16) : Rg.CAN_EVENT k c ≠ Rg.CAN_MB_STAT k b := by
  unfold Rg.CAN_EVENT Rg.CAN_MB_STAT
  omega

/-- The six errors count in the channel's own counters. -/
theorem errEvent_lt (e : Nat) : errEvent e < 7 := by
  unfold errEvent
  split <;> decide

/-! ### The offer (R267) -/

theorem State.txOffer_eq {s : State} {k : Nat} {b : Option Nat} (hsends : s.canSends k = true) (hidle : (s.canAt k).attempt = none)
    (hrx : (s.canAt k).rx = false)
    (hbest : best ((s.reach (s.canAt k).chooseAt).chosen k ((s.reach (s.canAt k).chooseAt).candidates k
      (max (s.reach (s.canAt k).chooseAt).now (s.canAt k).freeAt))) = some b) :
    s.txOffer k = (s.reach (s.canAt k).chooseAt).setCan k
      { s.canAt k with attempt := some ⟨b, max (s.reach (s.canAt k).chooseAt).now (s.canAt k).freeAt, none⟩ } := by
  unfold State.txOffer
  simp only [hsends, hidle, hrx, Option.isSome_none, Bool.not_true, Bool.or_self, Bool.false_eq_true, if_false]
  rw [hbest]

theorem canTxOffer_offers {s : State} {k : Fin 8} {b : Option Nat} (hsends : s.canSends k.val = true) (hidle : (s.canAt k.val).attempt = none)
    (hrx : (s.canAt k.val).rx = false)
    (hbest : best ((s.reach (s.canAt k.val).chooseAt).chosen k.val ((s.reach (s.canAt k.val).chooseAt).candidates k.val
      (max (s.reach (s.canAt k.val).chooseAt).now (s.canAt k.val).freeAt))) = some b) :
    ∃ t, exec (.canTxOffer k) s = .next t ∧ (s.canAt k.val).chooseAt ≤ t.now ∧
      (t.canAt k.val).attempt = some ⟨b, max t.now (s.canAt k.val).freeAt, none⟩ ∧ Frame s t [.can, .now, .vt, .ptp] (fun _ => False) := by
  refine ⟨_, congrArg Host.Outcome.next (State.txOffer_eq hsends hidle hrx hbest), ?_⟩
  generalize hu : s.reach (s.canAt k.val).chooseAt = u
  have hframe := u.setCan_frame k.val { s.canAt k.val with attempt := some ⟨b, max u.now (s.canAt k.val).freeAt, none⟩ }
  have hnow : (u.setCan k.val _).now = u.now := hframe.same .now (by simp)
  refine ⟨hnow.symm ▸ hu ▸ s.le_reach _, ?_, ((hu ▸ s.reach_frame _).widen (by simp)).trans (hframe.widen (by simp))⟩
  rw [hnow, State.setCan_canAt_same]

/-! ### The commit point (R270) -/

/-- The buffer is COMMITTED; an abort that was held is late. -/
def State.committedBuf (s : State) (k b : Nat) : State :=
  let x := s.buf k b
  (s.wr (Fd.CAN_MB_STAT_STATE k b) 2).setBuf k b { x with cancelHeld := false, lateAbort := x.lateAbort || x.cancelHeld }

theorem State.committedBuf_frame (s : State) (k b : Nat) : Frame s (s.committedBuf k b) [.can, .regs] (fun a => a = Rg.CAN_MB_STAT k b) :=
  ((s.wr_frame (Fd.CAN_MB_STAT_STATE k b) 2).widen (by simp)).trans ((State.setBuf_frame _ k b _).noRegs (by simp))

theorem State.committedBuf_bufState (s : State) (k b : Nat) : (s.committedBuf k b).bufState k b = 2 := by
  rw [State.bufState, State.committedBuf, State.setBuf_rd]
  exact rd_wr_self s (Fd.CAN_MB_STAT_STATE k b) 2 rfl

theorem State.committedBuf_attempt (s : State) (k b : Nat) : ((s.committedBuf k b).canAt k).attempt = (s.canAt k).attempt := by
  rw [State.committedBuf, State.setBuf_canAt, State.wr_canAt]

/-- The command that waits on the buffer is all that the commit point changes beside. -/
theorem State.bufCommits_frame (s : State) (k b : Nat) : Frame (s.committedBuf k b) (s.bufCommits k b) [.ep] (fun _ => False) := by
  have hbuf : s.bufCommits k b =
      match (s.committedBuf k b).canWaits k b 2 with
      | none => s.committedBuf k b
      | some c =>
        let u := (s.committedBuf k b).putCmd { c with phase := .committed, abortSeen := c.abortSeen || (s.buf k b).cancelHeld }
        if (s.buf k b).cancelHeld then u.abortDecided c.ep c.tag Code.ALREADY_DONE else u := rfl
  rw [hbuf]
  split
  · exact .refl _ _ _
  · dsimp only
    split <;> exact frame_of_blot_noRegs (by simp) (by simp)

/-- The attempt has passed its commit point. -/
def State.tryCommitted (s : State) (k : Nat) (a : CanTry) : State :=
  s.setCan k { s.canAt k with attempt := some { a with commit := some s.vt } }

theorem State.txCommit_eq {s : State} {k b x : Nat} (hb : b < 128) (htry : (s.canAt k).attempt = some ⟨some b, x, none⟩) :
    s.txCommit k = ((s.reach (x + (arbBits ((s.buf k b).word 0) * s.nomBit k + s.nomSample k) / 2)).tryCommitted k
      ⟨some b, x, none⟩).bufCommits k b := by
  have hne : b ≠ 128 := by omega
  unfold State.txCommit State.tryHeader
  simp only [htry, Option.isSome_none, Bool.false_eq_true, if_false, hne]
  rfl

theorem canTxCommit_commits {s : State} {k : Fin 8} {b x : Nat} (hb : b < 128) (htry : (s.canAt k.val).attempt = some ⟨some b, x, none⟩) :
    ∃ t, exec (.canTxCommit k) s = .next t ∧ t.bufState k.val b = 2 ∧ (t.canAt k.val).attempt = some ⟨some b, x, some t.vt⟩ ∧
      x + (arbBits ((s.buf k.val b).word 0) * s.nomBit k.val + s.nomSample k.val) / 2 ≤ t.now ∧
      Frame s t [.can, .regs, .ep, .now, .vt, .ptp] (fun a => a = Rg.CAN_MB_STAT k.val b) := by
  refine ⟨_, congrArg Host.Outcome.next (State.txCommit_eq hb htry), ?_⟩
  generalize x + (arbBits ((s.buf k.val b).word 0) * s.nomBit k.val + s.nomSample k.val) / 2 = at_
  generalize hv : (s.reach at_).tryCommitted k.val ⟨some b, x, none⟩ = v
  have hvframe : Frame (s.reach at_) v [.can] (fun _ => False) := hv ▸ State.setCan_frame _ _ _
  have hep := v.bufCommits_frame k.val b
  have hvt : (v.bufCommits k.val b).vt = (s.reach at_).vt :=
    (hep.same .vt (by simp)).trans (((v.committedBuf_frame k.val b).same .vt (by simp)).trans (hvframe.same .vt (by simp)))
  have hnow : (v.bufCommits k.val b).now = (s.reach at_).now :=
    (hep.same .now (by simp)).trans (((v.committedBuf_frame k.val b).same .now (by simp)).trans (hvframe.same .now (by simp)))
  refine ⟨?_, ?_, hnow.symm ▸ s.le_reach at_, ?_⟩
  · rw [State.bufState, hep.rd not_false]
    exact v.committedBuf_bufState k.val b
  · rw [State.canAt_congr (hep.same .can (by simp)), State.committedBuf_attempt, hvt, ← hv, State.tryCommitted, State.setCan_canAt_same]
  · exact ((s.reach_frame at_).noRegs (by simp)).trans ((hvframe.noRegs (by simp)).trans
      (((v.committedBuf_frame k.val b).widen (by simp)).trans (hep.noRegs (by simp))))

/-! ### Lost arbitration (R268) -/

theorem State.repeatTried_none {s : State} {k b : Nat} (h : s.canWaits k b 2 = none) (code : Nat) : s.repeatTried k b code = s := by
  unfold State.repeatTried
  rw [h]

/-- The attempt has lost; another node's frame is on the bus. -/
def State.tryLost (s : State) (k : Nat) : State := (s.setCan k { s.canAt k with attempt := none, rx := true }).canEvent k 14

theorem State.tryLost_frame (s : State) (k : Nat) : Frame s (s.tryLost k) [.can, .regs] (CanCount k 14) :=
  ((State.setCan_frame s k _).noRegs (by simp)).trans ((State.canEvent_frame _ k 14).widen (by simp))

theorem State.arbLost_eq {s : State} {k b x : Nat} (hb : b < 128) (htry : (s.canAt k).attempt = some ⟨some b, x, none⟩)
    (hheld : (s.buf k b).cancelHeld = false) (hwait : s.canWaits k b 2 = none) :
    s.arbLost k = ((s.reach x).tryLost k).canLevels k := by
  have hbuf : ((s.reach x).tryLost k).buf k b = s.buf k b := (State.canEvent_buf _ k 14 k b).trans (State.setCan_buf _ k b _ rfl)
  have hep : ((s.reach x).tryLost k).ep = s.ep := ((s.reach x).tryLost_frame k).same .ep (by simp)
  have hnone : ((s.reach x).tryLost k).canWaits k b 2 = none := (State.canWaits_congr hep k b 2).trans hwait
  have heq : s.arbLost k =
      (if 128 ≤ b then (s.reach x).tryLost k
       else if (((s.reach x).tryLost k).buf k b).cancelHeld then ((s.reach x).tryLost k).txEnd k b Code.CANCELLED ((s.reach x).tryLost k).vt
       else ((s.reach x).tryLost k).repeatTried k b Config.repeatLost.toNat).canLevels k := by
    unfold State.arbLost
    simp only [htry, Option.isSome_none, Bool.false_eq_true, if_false]
    rfl
  rw [heq, if_neg (Nat.not_le.mpr hb), hbuf, hheld, State.repeatTried_none hnone]
  rfl

theorem canArbLost_ends {s : State} {k : Fin 8} {b x : Nat} (hb : b < 128) (htry : (s.canAt k.val).attempt = some ⟨some b, x, none⟩)
    (hheld : (s.buf k.val b).cancelHeld = false) (hwait : s.canWaits k.val b 2 = none) :
    ∃ t, exec (.canArbLost k) s = .next t ∧ (t.canAt k.val).attempt = none ∧ (t.canAt k.val).rx = true ∧ x ≤ t.now ∧
      t.bufState k.val b = s.bufState k.val b ∧ Counted s t (Rg.CAN_EVENT k.val 14) ∧
      Frame s t [.can, .regs, .ic, .now, .vt, .ptp] (CanCount k.val 14) := by
  refine ⟨_, congrArg Host.Outcome.next (State.arbLost_eq hb htry hheld hwait), ?_⟩
  have hframe : Frame s (((s.reach x).tryLost k.val).canLevels k.val) [.can, .regs, .ic, .now, .vt, .ptp] (CanCount k.val 14) :=
    ((s.reach_frame x).noRegs (by simp)).trans ((((s.reach x).tryLost_frame k.val).widen (by simp)).trans
      ((State.canLevels_frame _ _).noRegs (by simp)))
  refine ⟨?_, ?_, ?_, hframe.rd (canMbStat_not_canCount k.val b (by decide)), ?_, hframe⟩
  · rw [State.canLevels_canAt, State.tryLost, State.canEvent_canAt, State.setCan_canAt_same]
  · rw [State.canLevels_canAt, State.tryLost, State.canEvent_canAt, State.setCan_canAt_same]
  · rw [State.canLevels_now]
    exact (s.le_reach x).trans_eq (((s.reach x).tryLost_frame k.val).same .now (by simp)).symm
  · rw [Counted, State.canLevels_reg]
    exact State.canEvent_counted _ k.val (by decide)

end Sys2Proof.Machine
end

section
/-! SUPPORT. A CAN channel's error state (R269): the counters and ESTATE, the idle bus after a frame; a receive error; the return from bus-off. -/

namespace Sys2Proof.Machine

/-! ### The bus is idle after a frame -/

theorem State.canFreeIn_frame (s : State) (k n : Nat) (sent : Bool) : Frame s (s.canFreeIn k n sent) [.can] (fun _ => False) :=
  s.setCan_frame k _

theorem State.canFreeIn_kept (s : State) (k n : Nat) (sent : Bool) : ((s.canFreeIn k n sent).canAt k).attempt = (s.canAt k).attempt ∧
    ((s.canFreeIn k n sent).canAt k).busOffAt = (s.canAt k).busOffAt := by
  rw [State.canFreeIn, State.setCan_canAt_same]
  exact ⟨rfl, rfl⟩

theorem State.canFreeIn_buf (s : State) (k n : Nat) (sent : Bool) (b : Nat) : (s.canFreeIn k n sent).buf k b = s.buf k b :=
  State.setCan_buf s k b _ rfl

/-! ### ESTATE below bus-off (R269) -/

/-- ESTATE follows the counters of a channel that is not in bus-off. -/
def State.errShown (s : State) (k : Nat) : State :=
  if s.busOff k then s
  else s.wr (Fd.CAN_STATUS_ESTATE k) (if 127 < s.rd (Fd.CAN_STATUS_TEC k) ∨ 127 < s.rd (Fd.CAN_STATUS_REC k) then 1 else 0)

theorem State.canErrState_below {s : State} {k : Nat} (h : s.rd (Fd.CAN_STATUS_TEC k) ≤ 255) : s.canErrState k = (s.errShown k).canLevels k := by
  unfold State.canErrState State.errShown
  dsimp only
  rw [if_neg (Nat.not_lt.mpr h)]

theorem State.errShown_frame (s : State) (k : Nat) : Frame s (s.errShown k) [.regs] (fun a => a = Rg.CAN_STATUS k) := by
  unfold State.errShown
  split
  · exact .refl _ _ _
  · exact s.wr_frame (Fd.CAN_STATUS_ESTATE k) _

theorem State.canErrState_frame {s : State} {k : Nat} (h : s.rd (Fd.CAN_STATUS_TEC k) ≤ 255) :
    Frame s (s.canErrState k) [.regs, .ic] (fun a => a = Rg.CAN_STATUS k) := by
  rw [State.canErrState_below h]
  exact ((s.errShown_frame k).widen (by simp)).trans ((State.canLevels_frame _ k).noRegs (by simp))

/-- Below bus-off the error state changes no field but ESTATE. -/
theorem State.canErrState_rd {s : State} {k : Nat} (h : s.rd (Fd.CAN_STATUS_TEC k) ≤ 255) {f : Fld} (hf : (Fd.CAN_STATUS_ESTATE k).clearOf f) :
    (s.canErrState k).rd f = s.rd f := by
  rw [State.canErrState_below h, State.canLevels_rd, State.errShown]
  split
  · rfl
  · exact rd_wr_clear s _ hf

/-! ### The error noted (R269) -/

/-- LAST_ERR shows the error, and its event counts. -/
def State.errNoted (s : State) (k e : Nat) : State := (s.wr (Fd.CAN_STATUS_LAST_ERR k) e).canEvent k (errEvent e)

theorem State.errNoted_frame (s : State) (k e : Nat) :
    Frame s (s.errNoted k e) [.regs] (fun a => a = Rg.CAN_STATUS k ∨ CanCount k (errEvent e) a) :=
  ((s.wr_frame (Fd.CAN_STATUS_LAST_ERR k) e).mono (by simp) fun _ => .inl).trans ((State.canEvent_frame _ k _).mono (by simp) fun _ => .inr)

theorem State.errNoted_lastErr (s : State) (k : Nat) {e : Nat} (he : e < 16) : (s.errNoted k e).rd (Fd.CAN_STATUS_LAST_ERR k) = e :=
  (State.canEvent_rd (f := Fd.CAN_STATUS_LAST_ERR k) _ (canStatus_not_canCount k _)).trans
    ((rd_wr_self s (Fd.CAN_STATUS_LAST_ERR k) e rfl).trans (Nat.mod_eq_of_lt he))

/-- The other fields of CAN_STATUS, and every register that counts no error. -/
theorem State.errNoted_rd (s : State) (k e : Nat) {f : Fld} (hf : (Fd.CAN_STATUS_LAST_ERR k).clearOf f) (hc : ¬ CanCount k (errEvent e) f.addr) :
    (s.errNoted k e).rd f = s.rd f :=
  (State.canEvent_rd (f := f) _ hc).trans (rd_wr_clear s e hf)

theorem State.errNoted_counted (s : State) (k e : Nat) : Counted s (s.errNoted k e) (Rg.CAN_EVENT k (errEvent e)) := by
  have he := errEvent_lt e
  rw [Counted, State.errNoted, State.canEvent_counted _ k (by omega),
    reg_wr_ne s (Fd.CAN_STATUS_LAST_ERR k) _ _ (canEvent_ne_canStatus k _)]

/-! ### A receive error (R263, R269) -/

/-- REC counts in NORMAL. -/
def State.recNoted (s : State) (k n : Nat) : State := if s.canMode k = 1 then s.recUp k n else s

theorem State.recNoted_frame (s : State) (k n : Nat) : Frame s (s.recNoted k n) [.regs] (fun a => a = Rg.CAN_STATUS k) := by
  unfold State.recNoted
  split
  · exact s.wr_frame (Fd.CAN_STATUS_REC k) _
  · exact .refl _ _ _

theorem State.recNoted_rec (s : State) (k n : Nat) : (s.recNoted k n).rd (Fd.CAN_STATUS_REC k) =
    if s.canMode k = 1 then min 255 (s.rd (Fd.CAN_STATUS_REC k) + n) else s.rd (Fd.CAN_STATUS_REC k) := by
  unfold State.recNoted
  split
  · exact (rd_wr_self s (Fd.CAN_STATUS_REC k) _ rfl).trans (Nat.mod_eq_of_lt (Nat.lt_succ_of_le (Nat.min_le_left _ _)))
  · rfl

theorem State.recNoted_rd (s : State) (k n : Nat) {f : Fld} (hf : (Fd.CAN_STATUS_REC k).clearOf f) : (s.recNoted k n).rd f = s.rd f := by
  unfold State.recNoted
  split
  · exact rd_wr_clear s _ hf
  · rfl

theorem State.rxError_eq {s : State} {k e : Nat} (eight : Bool) (hmode : s.canMode k ≠ 0) (hon : s.busOff k = false) (htrx : s.trxUp k = true)
    (hidle : (s.canAt k).attempt = none) (h0 : e ≠ 0) (h3 : e ≠ 3) :
    s.rxError k e eight = (((s.errNoted k e).recNoted k (if eight then 8 else 1)).canFreeIn k 17 false).canErrState k := by
  unfold State.rxError
  rw [if_neg (by simp [hmode, hon, htrx, hidle, h0, h3])]
  rfl

theorem canReceiveError_counts {s : State} {k : Fin 8} {e : Fin 7} (eight : Bool) (hmode : s.canMode k.val ≠ 0) (hon : s.busOff k.val = false)
    (htrx : s.trxUp k.val = true) (hidle : (s.canAt k.val).attempt = none) (h0 : e ≠ 0) (h3 : e ≠ 3) (htec : s.rd (Fd.CAN_STATUS_TEC k.val) ≤ 255) :
    ∃ t, exec (.canReceiveError k e eight) s = .next t ∧ t.rd (Fd.CAN_STATUS_LAST_ERR k.val) = e.val ∧
      Counted s t (Rg.CAN_EVENT k.val (errEvent e.val)) ∧
      t.rd (Fd.CAN_STATUS_REC k.val) = (if s.canMode k.val = 1 then min 255 (s.rd (Fd.CAN_STATUS_REC k.val) + (if eight then 8 else 1))
        else s.rd (Fd.CAN_STATUS_REC k.val)) ∧
      Frame s t [.can, .regs, .ic] (fun a => a = Rg.CAN_STATUS k.val ∨ CanCount k.val (errEvent e.val) a) := by
  have h0' : e.val ≠ 0 := fun h => h0 (Fin.ext h)
  have h3' : e.val ≠ 3 := fun h => h3 (Fin.ext h)
  have hevent := errEvent_lt e.val
  refine ⟨_, congrArg Host.Outcome.next (State.rxError_eq eight hmode hon htrx hidle h0' h3'), ?_⟩
  generalize hn : (if eight then 8 else 1) = n
  generalize hu : (s.errNoted k.val e.val).recNoted k.val n = u
  have hfree := u.canFreeIn_frame k.val 17 false
  have hrd : ∀ f : Fld, (Fd.CAN_STATUS_REC k.val).clearOf f → (u.canFreeIn k.val 17 false).rd f = (s.errNoted k.val e.val).rd f := fun f hf =>
    (hfree.rd (f := f) not_false).trans (hu ▸ State.recNoted_rd _ _ _ hf)
  have htec' : (u.canFreeIn k.val 17 false).rd (Fd.CAN_STATUS_TEC k.val) ≤ 255 := by
    rw [hrd _ fun _ => rfl, s.errNoted_rd k.val e.val (fun _ => rfl) (canStatus_not_canCount k.val _)]
    exact htec
  have hmode' : (s.errNoted k.val e.val).canMode k.val = s.canMode k.val :=
    (s.errNoted_frame k.val e.val).rd (f := Fd.CAN_MODE_ACTUAL k.val)
      (by simp only [CanCount, Fd.CAN_MODE_ACTUAL, Rg.CAN_STATUS, Rg.CAN_EVENT, Rg.CAN_EVENT_SAT]; omega)
  have hne : Rg.CAN_EVENT k.val (errEvent e.val) ≠ Rg.CAN_STATUS k.val := canEvent_ne_canStatus k.val _
  refine ⟨?_, ?_, ?_, ?_⟩
  · rw [State.canErrState_rd htec' fun _ => rfl, hrd _ fun _ => rfl]
    exact s.errNoted_lastErr k.val (by omega)
  · rw [Counted, (State.canErrState_frame htec').reg hne, hfree.reg not_false, ← hu, ((s.errNoted k.val e.val).recNoted_frame k.val n).reg hne]
    exact s.errNoted_counted k.val e.val
  · rw [State.canErrState_rd htec' fun _ => rfl, hfree.rd (f := Fd.CAN_STATUS_REC k.val) not_false, ← hu, State.recNoted_rec, hmode',
      s.errNoted_rd k.val e.val (fun _ => rfl) (canStatus_not_canCount k.val _)]
  · have hrec : Frame (s.errNoted k.val e.val) u [.regs] (fun a => a = Rg.CAN_STATUS k.val) := hu ▸ State.recNoted_frame _ _ _
    exact ((s.errNoted_frame k.val e.val).widen (by simp)).trans ((hrec.mono (by simp) fun _ => .inl).trans
      ((hfree.noRegs (by simp)).trans ((State.canErrState_frame htec').mono (by simp) fun _ => .inl)))

/-! ### The return from bus-off (R269) -/

/-- The counters and the error state are 0 again. -/
def State.errCleared (s : State) (k : Nat) : State :=
  (((s.wr (Fd.CAN_STATUS_TEC k) 0).wr (Fd.CAN_STATUS_REC k) 0).wr (Fd.CAN_STATUS_ESTATE k) 0).wr (Fd.CAN_STATUS_RECOV k) 0

theorem State.errCleared_frame (s : State) (k : Nat) : Frame s (s.errCleared k) [.regs] (fun a => a = Rg.CAN_STATUS k) :=
  (((s.wr_frame (Fd.CAN_STATUS_TEC k) 0).trans (State.wr_frame _ (Fd.CAN_STATUS_REC k) 0)).trans
    (State.wr_frame _ (Fd.CAN_STATUS_ESTATE k) 0)).trans (State.wr_frame _ (Fd.CAN_STATUS_RECOV k) 0)

theorem State.errCleared_fields (s : State) (k : Nat) : (s.errCleared k).rd (Fd.CAN_STATUS_ESTATE k) = 0 ∧
    (s.errCleared k).rd (Fd.CAN_STATUS_TEC k) = 0 ∧ (s.errCleared k).rd (Fd.CAN_STATUS_REC k) = 0 := by
  have hrecov : ∀ (u : State) (f : Fld), (Fd.CAN_STATUS_RECOV k).clearOf f → (u.wr (Fd.CAN_STATUS_RECOV k) 0).rd f = u.rd f := fun u f => rd_wr_clear u 0
  have hestate : ∀ (u : State) (f : Fld), (Fd.CAN_STATUS_ESTATE k).clearOf f → (u.wr (Fd.CAN_STATUS_ESTATE k) 0).rd f = u.rd f := fun u f => rd_wr_clear u 0
  unfold State.errCleared
  refine ⟨?_, ?_, ?_⟩
  · rw [hrecov _ _ fun _ => rfl]
    exact rd_wr_self _ (Fd.CAN_STATUS_ESTATE k) 0 rfl
  · rw [hrecov _ _ fun _ => rfl, hestate _ _ fun _ => rfl, rd_wr_beside _ (Fd.CAN_STATUS_REC k) (Fd.CAN_STATUS_TEC k) 0 rfl rfl]
    exact rd_wr_self _ (Fd.CAN_STATUS_TEC k) 0 rfl
  · rw [hrecov _ _ fun _ => rfl, hestate _ _ fun _ => rfl]
    exact rd_wr_self _ (Fd.CAN_STATUS_REC k) 0 rfl

/-- The bus is idle for the channel from now on, and it may choose a frame. -/
def State.busJoined (s : State) (k : Nat) : State := (s.setCan k { s.canAt k with freeAt := s.now }).canReady k

theorem State.busJoined_frame (s : State) (k : Nat) : Frame s (s.busJoined k) [.can] (fun _ => False) :=
  (State.setCan_frame s k _).trans (State.setCan_frame _ k _)

theorem State.busJoined_freeAt (s : State) (k : Nat) : ((s.busJoined k).canAt k).freeAt = s.now := by
  rw [State.busJoined, State.canReady, State.setCan_canAt_same, State.setCan_canAt_same]

theorem State.busOffEnds_eq {s : State} {k : Nat} (hoff : s.busOff k = true) (htrx : s.trxUp k = true) :
    s.busOffEnds k = (((s.reach ((s.canAt k).busOffAt + s.nomBits k 1408)).errCleared k).busJoined k).canLevels k := by
  unfold State.busOffEnds
  simp only [hoff, htrx, Bool.not_true, Bool.or_self, Bool.false_eq_true, if_false]
  rfl

theorem busOffRecovery_returns {s : State} {k : Fin 8} (hoff : s.busOff k.val = true) (htrx : s.trxUp k.val = true) :
    ∃ t, exec (.busOffRecovery k) s = .next t ∧ t.rd (Fd.CAN_STATUS_ESTATE k.val) = 0 ∧ t.rd (Fd.CAN_STATUS_TEC k.val) = 0 ∧
      t.rd (Fd.CAN_STATUS_REC k.val) = 0 ∧ (s.canAt k.val).busOffAt + s.nomBits k.val 1408 ≤ t.now ∧ (t.canAt k.val).freeAt = t.now ∧
      Frame s t [.can, .regs, .ic, .now, .vt, .ptp] (fun a => a = Rg.CAN_STATUS k.val) := by
  refine ⟨_, congrArg Host.Outcome.next (State.busOffEnds_eq hoff htrx), ?_⟩
  generalize (s.canAt k.val).busOffAt + s.nomBits k.val 1408 = at_
  have hclear := (s.reach at_).errCleared_frame k.val
  have hjoin := ((s.reach at_).errCleared k.val).busJoined_frame k.val
  obtain ⟨hestate, htec, hrec⟩ := (s.reach at_).errCleared_fields k.val
  have hrd : ∀ f : Fld, ((((s.reach at_).errCleared k.val).busJoined k.val).canLevels k.val).rd f = ((s.reach at_).errCleared k.val).rd f :=
    fun f => (State.canLevels_rd _ _ f).trans (hjoin.rd (f := f) not_false)
  have hnow : (((s.reach at_).errCleared k.val).busJoined k.val).now = ((s.reach at_).errCleared k.val).now := hjoin.same .now (by simp)
  refine ⟨(hrd _).trans hestate, (hrd _).trans htec, (hrd _).trans hrec, ?_, ?_, ?_⟩
  · rw [State.canLevels_now, hnow, show ((s.reach at_).errCleared k.val).now = (s.reach at_).now from hclear.same .now (by simp)]
    exact s.le_reach at_
  · rw [State.canLevels_canAt, State.canLevels_now, State.busJoined_freeAt, hnow]
  · exact ((s.reach_frame at_).noRegs (by simp)).trans ((hclear.widen (by simp)).trans
      ((hjoin.noRegs (by simp)).trans ((State.canLevels_frame _ _).noRegs (by simp))))

end Sys2Proof.Machine
end

section
/-! SUPPORT. The end of a CAN attempt (R268 to R270): a success, an error with a retransmission left, and the entry to bus-off. -/

namespace Sys2Proof.Machine

/-! ### The moment of the end -/

theorem State.tdcMeasure_frame (s : State) (k : Nat) (a : CanTry) (half tdc : Nat) :
    Frame s (s.tdcMeasure k a half tdc) [.regs] (fun a => a = Rg.CAN_TDC k) := by
  obtain ⟨measured, h⟩ : ∃ m : Bool, s.tdcMeasure k a half tdc = if m then s.wr (Fd.CAN_TDC_MEASURED k) (min 127 tdc) else s := ⟨_, rfl⟩
  rw [h]
  split
  · exact s.wr_frame (Fd.CAN_TDC_MEASURED k) _
  · exact .refl _ _ _

/-- The clock at the end of the attempt, its transmitter delay measured. -/
def State.tryMeasured (s : State) (k : Nat) (a : CanTry) (ns tdc : Nat) : State := (s.reach (a.start + ns)).tdcMeasure k a (2 * ns) tdc

theorem State.tryMeasured_frame (s : State) (k : Nat) (a : CanTry) (ns tdc : Nat) :
    Frame s (s.tryMeasured k a ns tdc) [.regs, .now, .vt, .ptp] (fun a => a = Rg.CAN_TDC k) :=
  ((s.reach_frame _).noRegs (by simp)).trans ((State.tdcMeasure_frame _ k a _ tdc).widen (by simp))

theorem State.le_tryMeasured (s : State) (k : Nat) (a : CanTry) (ns tdc : Nat) : a.start + ns ≤ (s.tryMeasured k a ns tdc).now :=
  (s.le_reach _).trans_eq ((State.tdcMeasure_frame _ k a _ tdc).same .now (by simp)).symm

theorem State.tryEnds_ok {s : State} {k v : Nat} {a : CanTry} (htry : (s.canAt k).attempt = some a) (hcommit : a.commit = some v) (ns tdc : Nat) :
    s.tryEnds k 0 ns tdc = (s.tryMeasured k a ns tdc).tryOk k a v := by
  unfold State.tryEnds
  simp only [htry, hcommit]
  rfl

theorem State.tryEnds_error {s : State} {k e : Nat} {a : CanTry} (htry : (s.canAt k).attempt = some a) (he : e ≠ 0) (ns tdc : Nat) :
    s.tryEnds k e ns tdc = (s.tryMeasured k a ns tdc).tryError k a e := by
  obtain ⟨e', rfl⟩ := Nat.exists_eq_succ_of_ne_zero he
  unfold State.tryEnds
  simp only [htry]
  rfl

/-! ### A request ends (R268) -/

/-- The buffer is IDLE, CODE its outcome; no abort is held. -/
def State.bufIdle (s : State) (k b code : Nat) : State :=
  ((s.setBuf k b { s.buf k b with cancelHeld := false, lateAbort := false, catchUp := false }).wr (Fd.CAN_MB_STAT_STATE k b) 0).wr
    (Fd.CAN_MB_STAT_CODE k b) code

theorem State.bufIdle_frame (s : State) (k b code : Nat) : Frame s (s.bufIdle k b code) [.can, .regs] (fun a => a = Rg.CAN_MB_STAT k b) :=
  ((State.setBuf_frame s k b _).noRegs (by simp)).trans (((State.wr_frame _ (Fd.CAN_MB_STAT_STATE k b) 0).widen (by simp)).trans
    ((State.wr_frame _ (Fd.CAN_MB_STAT_CODE k b) code).widen (by simp)))

theorem State.bufIdle_spec (s : State) (k b : Nat) {code : Nat} (hcode : code < 2 ^ 16) : (s.bufIdle k b code).bufState k b = 0 ∧
    (s.bufIdle k b code).rd (Fd.CAN_MB_STAT_CODE k b) = code ∧ ((s.bufIdle k b code).buf k b).time = (s.buf k b).time ∧
    ((s.bufIdle k b code).canAt k).attempt = (s.canAt k).attempt := by
  unfold State.bufIdle
  refine ⟨?_, ?_, ?_, ?_⟩
  · rw [State.bufState, rd_wr_beside _ (Fd.CAN_MB_STAT_CODE k b) (Fd.CAN_MB_STAT_STATE k b) code rfl rfl]
    exact rd_wr_self _ (Fd.CAN_MB_STAT_STATE k b) 0 rfl
  · exact (rd_wr_self _ (Fd.CAN_MB_STAT_CODE k b) code rfl).trans (Nat.mod_eq_of_lt hcode)
  · rw [State.wr_buf, State.wr_buf, State.setBuf_buf_same]
  · rw [State.wr_canAt, State.wr_canAt, State.setBuf_canAt]

/-- A request that no command made. -/
theorem State.txEnd_none {s : State} {k b : Nat} (h : s.canWaits k b 2 = none) (code time : Nat) : s.txEnd k b code time = s.bufIdle k b code := by
  have hnone : (s.bufIdle k b code).canWaits k b 2 = none := (State.canWaits_congr ((s.bufIdle_frame k b code).same .ep (by simp)) k b 2).trans h
  unfold State.txEnd
  dsimp only
  split
  · rfl
  · next c hc => exact absurd (hnone.symm.trans hc) (by simp)

/-! ### A success (R268) -/

/-- The buffer's time stamp; TOO_LATE where an abort came late. -/
def State.sentBuf (s : State) (k b : Nat) : State :=
  let u := s.setBuf k b { s.buf k b with time := s.vt }
  if (s.buf k b).lateAbort then u.wr (Fd.CAN_MB_STAT_TOO_LATE k b) 1 else u

theorem State.sentBuf_frame (s : State) (k b : Nat) : Frame s (s.sentBuf k b) [.can, .regs] (fun a => a = Rg.CAN_MB_STAT k b) := by
  unfold State.sentBuf
  dsimp only
  split
  · exact ((State.setBuf_frame s k b _).noRegs (by simp)).trans ((State.wr_frame _ (Fd.CAN_MB_STAT_TOO_LATE k b) 1).widen (by simp))
  · exact (State.setBuf_frame s k b _).noRegs (by simp)

theorem State.sentBuf_spec (s : State) (k b : Nat) : ((s.sentBuf k b).buf k b).time = s.vt ∧
    ((s.sentBuf k b).canAt k).attempt = (s.canAt k).attempt ∧ ((s.sentBuf k b).canAt k).win = (s.canAt k).win := by
  unfold State.sentBuf
  dsimp only
  split <;> simp

theorem State.bufSent_eq {s : State} {k b : Nat} (hwin : (s.canAt k).win = none) (hwait : s.canWaits k b 2 = none) (v : Nat) :
    s.bufSent k b v = (s.sentBuf k b).bufIdle k b Code.DONE := by
  have hep : (s.sentBuf k b).ep = s.ep := (s.sentBuf_frame k b).same .ep (by simp)
  have hnone := (State.canWaits_congr hep k b 2).trans hwait
  have heq : s.bufSent k b v = (match ((s.sentBuf k b).canAt k).win with
      | some w => if w.buf = b ∧ (s.sentBuf k b).now ≤ w.fin then
          (s.sentBuf k b).setCan k { (s.sentBuf k b).canAt k with win := some { w with ok := true } } else s.sentBuf k b
      | none => s.sentBuf k b).txEnd k b Code.DONE v := rfl
  rw [heq, (s.sentBuf_spec k b).2.2, hwin]
  exact State.txEnd_none hnone _ _

/-- The attempt is over; TEC and the event counter of a frame sent follow. -/
def State.trySent (s : State) (k : Nat) : State := ((s.setCan k { s.canAt k with attempt := none }).tecDown k).canEvent k 0

theorem State.trySent_frame (s : State) (k : Nat) : Frame s (s.trySent k) [.can, .regs] (fun a => a = Rg.CAN_STATUS k ∨ CanCount k 0 a) :=
  ((State.setCan_frame s k _).noRegs (by simp)).trans (((State.wr_frame _ (Fd.CAN_STATUS_TEC k) _).mono (by simp) fun _ => .inl).trans
    ((State.canEvent_frame _ k 0).mono (by simp) fun _ => .inr))

theorem State.trySent_spec (s : State) (k : Nat) : ((s.trySent k).canAt k).attempt = none ∧ ((s.trySent k).canAt k).win = (s.canAt k).win ∧
    Counted s (s.trySent k) (Rg.CAN_EVENT k 0) := by
  refine ⟨?_, ?_, ?_⟩
  · rw [State.trySent, State.canEvent_canAt, State.tecDown, State.wr_canAt, State.setCan_canAt_same]
  · rw [State.trySent, State.canEvent_canAt, State.tecDown, State.wr_canAt, State.setCan_canAt_same]
  · rw [Counted, State.trySent, State.canEvent_counted _ k (by decide), State.tecDown,
      reg_wr_ne _ (Fd.CAN_STATUS_TEC k) _ _ (canEvent_ne_canStatus k 0), State.setCan_reg]

theorem State.trySent_tec {s : State} {k : Nat} (h : s.rd (Fd.CAN_STATUS_TEC k) ≤ 255) :
    (s.trySent k).rd (Fd.CAN_STATUS_TEC k) = s.rd (Fd.CAN_STATUS_TEC k) - 1 := by
  rw [State.trySent, State.canEvent_rd (f := Fd.CAN_STATUS_TEC k) _ (canStatus_not_canCount k 0), State.tecDown,
    rd_wr_self _ (Fd.CAN_STATUS_TEC k) _ rfl, State.setCan_rd]
  exact Nat.mod_eq_of_lt (by simp only [Fd.CAN_STATUS_TEC] at h ⊢; omega)

theorem State.tryOk_eq (s : State) (k : Nat) {b : Nat} (hb : b < 128) (x v : Nat) (c : Option Nat) :
    s.tryOk k ⟨some b, x, c⟩ v = (((s.trySent k).bufSent k b v).canErrState k).canFreeIn k 3 true := by
  have heq : s.tryOk k ⟨some b, x, c⟩ v =
      ((if b = 128 then (s.trySent k).medMark k 1 else (s.trySent k).bufSent k b v).canErrState k).canFreeIn k 3 true := rfl
  rw [heq, if_neg (by omega)]

theorem State.tryOk_spec {s : State} {k b : Nat} (hb : b < 128) (x v : Nat) (c : Option Nat) (hwait : s.canWaits k b 2 = none)
    (hwin : (s.canAt k).win = none) (htec : s.rd (Fd.CAN_STATUS_TEC k) ≤ 255) {t : State} (ht : t = s.tryOk k ⟨some b, x, c⟩ v) :
    t.bufState k b = 0 ∧ t.rd (Fd.CAN_MB_STAT_CODE k b) = Code.DONE ∧ (t.buf k b).time = t.vt ∧ (t.canAt k).attempt = none ∧
      Counted s t (Rg.CAN_EVENT k 0) ∧ t.rd (Fd.CAN_STATUS_TEC k) = s.rd (Fd.CAN_STATUS_TEC k) - 1 ∧
      Frame s t [.can, .regs, .ic] (fun a => a = Rg.CAN_MB_STAT k b ∨ a = Rg.CAN_STATUS k ∨ CanCount k 0 a) := by
  have hsent := s.trySent_frame k
  obtain ⟨hover, hwin', hcount⟩ := s.trySent_spec k
  have hnone : (s.trySent k).canWaits k b 2 = none := (State.canWaits_congr (hsent.same .ep (by simp)) k b 2).trans hwait
  have heq := s.tryOk_eq k hb x v c
  rw [State.bufSent_eq (hwin'.trans hwin) hnone] at heq
  obtain ⟨htime, hatt, -⟩ := (s.trySent k).sentBuf_spec k b
  obtain ⟨hidle, hcode, htime', hatt'⟩ := ((s.trySent k).sentBuf k b).bufIdle_spec k b (code := Code.DONE) (by decide)
  have hbuf : Frame (s.trySent k) (((s.trySent k).sentBuf k b).bufIdle k b Code.DONE) [.can, .regs] (fun a => a = Rg.CAN_MB_STAT k b) :=
    (State.sentBuf_frame _ k b).trans (State.bufIdle_frame _ k b _)
  generalize ((s.trySent k).sentBuf k b).bufIdle k b Code.DONE = u at heq hidle hcode htime' hatt' hbuf
  have htecU : u.rd (Fd.CAN_STATUS_TEC k) = s.rd (Fd.CAN_STATUS_TEC k) - 1 :=
    (hbuf.rd (f := Fd.CAN_STATUS_TEC k) (canMbStat_ne_canStatus k b).symm).trans (State.trySent_tec htec)
  have hbelow : u.rd (Fd.CAN_STATUS_TEC k) ≤ 255 := by rw [htecU]; exact (Nat.sub_le _ _).trans htec
  have herr := State.canErrState_frame hbelow
  have hfree := (u.canErrState k).canFreeIn_frame k 3 true
  rw [← heq, ← ht] at hfree
  have hfreed := ((u.canErrState k).canFreeIn_kept k 3 true).1
  have hbufs := (u.canErrState k).canFreeIn_buf k 3 true b
  rw [← heq, ← ht] at hfreed hbufs
  have hrd : ∀ f : Fld, (Fd.CAN_STATUS_ESTATE k).clearOf f → t.rd f = u.rd f := fun f hf =>
    (hfree.rd (f := f) not_false).trans (State.canErrState_rd hbelow hf)
  have hvt : t.vt = (s.trySent k).vt :=
    (hfree.same .vt (by simp)).trans ((herr.same .vt (by simp)).trans (hbuf.same .vt (by simp)))
  have hne : Rg.CAN_EVENT k 0 ≠ Rg.CAN_STATUS k := canEvent_ne_canStatus k 0
  refine ⟨?_, ?_, ?_, ?_, ?_, ?_, ?_⟩
  · exact (hrd (Fd.CAN_MB_STAT_STATE k b) fun h => absurd h (canMbStat_ne_canStatus k b)).trans hidle
  · exact (hrd (Fd.CAN_MB_STAT_CODE k b) fun h => absurd h (canMbStat_ne_canStatus k b)).trans hcode
  · rw [hbufs, State.buf_congr (herr.same .can (by simp)), htime', htime, hvt]
  · rw [hfreed, State.canAt_congr (herr.same .can (by simp)), hatt', hatt, hover]
  · rw [Counted, hfree.reg not_false, herr.reg hne, hbuf.reg (canEvent_ne_canMbStat k b (by decide))]
    exact hcount
  · exact (hrd (Fd.CAN_STATUS_TEC k) fun _ => rfl).trans htecU
  · exact (hsent.mono (by simp) fun _ => .inr).trans ((hbuf.mono (by simp) fun _ => .inl).trans
      ((herr.mono (by simp) fun _ h => .inr (.inl h)).trans (hfree.noRegs (by simp))))

theorem canTxEnd_succeeds {s : State} {k : Fin 8} (ns : BitVec 32) (tdc : BitVec 8) {b x v : Nat} (hb : b < 128)
    (htry : (s.canAt k.val).attempt = some ⟨some b, x, some v⟩) (hwait : s.canWaits k.val b 2 = none) (hwin : (s.canAt k.val).win = none)
    (htec : s.rd (Fd.CAN_STATUS_TEC k.val) ≤ 255) :
    ∃ t, exec (.canTxEnd k 0 ns tdc) s = .next t ∧ t.bufState k.val b = 0 ∧ t.rd (Fd.CAN_MB_STAT_CODE k.val b) = Code.DONE ∧
      (t.buf k.val b).time = t.vt ∧ (t.canAt k.val).attempt = none ∧ x + ns.toNat ≤ t.now ∧ Counted s t (Rg.CAN_EVENT k.val 0) ∧
      t.rd (Fd.CAN_STATUS_TEC k.val) = s.rd (Fd.CAN_STATUS_TEC k.val) - 1 ∧
      Frame s t [.can, .regs, .ic, .now, .vt, .ptp]
        (fun a => a = Rg.CAN_MB_STAT k.val b ∨ a = Rg.CAN_STATUS k.val ∨ a = Rg.CAN_TDC k.val ∨ CanCount k.val 0 a) := by
  refine ⟨_, congrArg Host.Outcome.next (State.tryEnds_ok htry rfl ns.toNat tdc.toNat), ?_⟩
  have hmeas := s.tryMeasured_frame k.val ⟨some b, x, some v⟩ ns.toNat tdc.toNat
  have hnow := s.le_tryMeasured k.val ⟨some b, x, some v⟩ ns.toNat tdc.toNat
  generalize s.tryMeasured k.val ⟨some b, x, some v⟩ ns.toNat tdc.toNat = u at hmeas hnow
  have hcan : u.can = s.can := hmeas.same .can (by simp)
  have htecU : u.rd (Fd.CAN_STATUS_TEC k.val) = s.rd (Fd.CAN_STATUS_TEC k.val) :=
    hmeas.rd (by simp only [Fd.CAN_STATUS_TEC, Rg.CAN_TDC]; omega)
  obtain ⟨hidle, hcode, htime, hover, hcount, htecT, hframe⟩ := State.tryOk_spec (s := u) hb x v (some v)
    ((State.canWaits_congr (hmeas.same .ep (by simp)) k.val b 2).trans hwait) (by rw [State.canAt_congr hcan, hwin]) (htecU.symm ▸ htec) rfl
  refine ⟨hidle, hcode, htime, hover, hnow.trans_eq (hframe.same .now (by simp)).symm, ?_, htecT.trans (congrArg (· - 1) htecU), ?_⟩
  · rw [Counted, hcount, hmeas.reg (by simp only [Rg.CAN_EVENT, Rg.CAN_TDC]; omega)]
  · refine (hmeas.mono (by simp) fun _ h => .inr (.inr (.inl h))).trans (hframe.mono (by simp) fun _ h => ?_)
    exact h.imp_right fun h => h.imp_right .inr

end Sys2Proof.Machine
end

section
/-! SUPPORT. A CAN attempt that ends in an error (R268 to R270): a retransmission used, and the entry to bus-off. -/

namespace Sys2Proof.Machine

/-! ### The error of an attempt -/

def State.tecNoted (s : State) (k : Nat) (a : CanTry) (e : Nat) : State := if s.tecCounts k a e then s.tecUp k else s

theorem State.tecNoted_frame (s : State) (k : Nat) (a : CanTry) (e : Nat) :
    Frame s (s.tecNoted k a e) [.regs] (fun a => a = Rg.CAN_STATUS k) := by
  unfold State.tecNoted
  split
  · exact s.wr_frame (Fd.CAN_STATUS_TEC k) _
  · exact .refl _ _ _

theorem State.tecNoted_rd (s : State) (k : Nat) (a : CanTry) (e : Nat) {f : Fld} (hf : (Fd.CAN_STATUS_TEC k).clearOf f) :
    (s.tecNoted k a e).rd f = s.rd f := by
  unfold State.tecNoted
  split
  · exact rd_wr_clear s _ hf
  · rfl

theorem State.tecNoted_tec (s : State) (k : Nat) (a : CanTry) (e : Nat) : (s.tecNoted k a e).rd (Fd.CAN_STATUS_TEC k) =
    if s.tecCounts k a e then min 256 (s.rd (Fd.CAN_STATUS_TEC k) + 8) else s.rd (Fd.CAN_STATUS_TEC k) := by
  unfold State.tecNoted
  split
  · exact (rd_wr_self s (Fd.CAN_STATUS_TEC k) _ rfl).trans
      (Nat.mod_eq_of_lt (Nat.lt_of_le_of_lt (Nat.min_le_left _ _) (by decide : 256 < 2 ^ 9)))
  · rfl

/-- LAST_ERR, the event and TEC note the error, and the attempt is over. -/
def State.tryFailed (s : State) (k : Nat) (a : CanTry) (e : Nat) : State :=
  let u := (s.errNoted k e).tecNoted k a e
  u.setCan k { u.canAt k with attempt := none }

theorem State.tryFailed_frame (s : State) (k : Nat) (a : CanTry) (e : Nat) :
    Frame s (s.tryFailed k a e) [.can, .regs] (fun a => a = Rg.CAN_STATUS k ∨ CanCount k (errEvent e) a) :=
  ((s.errNoted_frame k e).widen (by simp)).trans (((State.tecNoted_frame _ k a e).mono (by simp) fun _ => .inl).trans
    ((State.setCan_frame _ k _).noRegs (by simp)))

theorem State.tryFailed_rd (s : State) (k : Nat) (a : CanTry) (e : Nat) (f : Fld) :
    (s.tryFailed k a e).rd f = ((s.errNoted k e).tecNoted k a e).rd f := rfl
theorem State.tryFailed_reg (s : State) (k : Nat) (a : CanTry) (e b : Nat) :
    (s.tryFailed k a e).reg b = ((s.errNoted k e).tecNoted k a e).reg b := rfl

theorem State.tryFailed_attempt (s : State) (k : Nat) (a : CanTry) (e : Nat) : ((s.tryFailed k a e).canAt k).attempt = none := by
  rw [State.tryFailed, State.setCan_canAt_same]

theorem State.tryFailed_buf (s : State) (k : Nat) (a : CanTry) (e b : Nat) : (s.tryFailed k a e).buf k b = s.buf k b := by
  rw [State.tryFailed, State.setCan_buf, State.buf_congr ((State.tecNoted_frame _ k a e).same .can (by simp)),
    State.buf_congr ((s.errNoted_frame k e).same .can (by simp))]
  rfl

theorem State.tryFailed_lastErr (s : State) (k : Nat) (a : CanTry) {e : Nat} (he : e < 16) :
    (s.tryFailed k a e).rd (Fd.CAN_STATUS_LAST_ERR k) = e := by
  rw [State.tryFailed_rd, State.tecNoted_rd _ k a e fun _ => rfl, s.errNoted_lastErr k he]

theorem State.tryFailed_counted (s : State) (k : Nat) (a : CanTry) (e : Nat) :
    Counted s (s.tryFailed k a e) (Rg.CAN_EVENT k (errEvent e)) := by
  rw [Counted, State.tryFailed_reg, (State.tecNoted_frame _ k a e).reg (canEvent_ne_canStatus k _)]
  exact s.errNoted_counted k e

theorem State.tryFailed_tec (s : State) (k : Nat) (a : CanTry) (e : Nat) : (s.tryFailed k a e).rd (Fd.CAN_STATUS_TEC k) =
    if s.tecCounts k a e then min 256 (s.rd (Fd.CAN_STATUS_TEC k) + 8) else s.rd (Fd.CAN_STATUS_TEC k) := by
  have hstate : (s.errNoted k e).rd (Fd.CAN_STATUS_ESTATE k) = s.rd (Fd.CAN_STATUS_ESTATE k) :=
    s.errNoted_rd k e (fun _ => rfl) (canStatus_not_canCount k _)
  have hcounts : (s.errNoted k e).tecCounts k a e = s.tecCounts k a e := by rw [State.tecCounts, hstate, State.tecCounts]
  have htec : (s.errNoted k e).rd (Fd.CAN_STATUS_TEC k) = s.rd (Fd.CAN_STATUS_TEC k) :=
    s.errNoted_rd k e (fun _ => rfl) (canStatus_not_canCount k _)
  rw [State.tryFailed_rd, State.tecNoted_tec, hcounts, htec]

theorem State.tryFailed_busOff (s : State) (k : Nat) (a : CanTry) (e : Nat) : (s.tryFailed k a e).busOff k = s.busOff k := by
  rw [State.busOff, State.tryFailed_rd, State.tecNoted_rd _ k a e fun _ => rfl, s.errNoted_rd k e (fun _ => rfl) (canStatus_not_canCount k _),
    State.busOff]

/-- A field of the buffer's registers. -/
theorem State.tryFailed_bufRd (s : State) (k : Nat) (a : CanTry) (e : Nat) {f : Fld} (hf : 0x200C0200 + 0x1000 * k ≤ f.addr) :
    (s.tryFailed k a e).rd f = s.rd f := by
  have he := errEvent_lt e
  exact (s.tryFailed_frame k a e).rd (by simp only [CanCount, Rg.CAN_STATUS, Rg.CAN_EVENT, Rg.CAN_EVENT_SAT]; omega)

/-! ### A retransmission (R268) -/

/-- The buffer is PENDING again with one retransmission more used. -/
def State.bufRetried (s : State) (k b : Nat) : State :=
  (s.wr (Fd.CAN_MB_STAT_RETRIES k b) (min 15 (s.rd (Fd.CAN_MB_STAT_RETRIES k b) + 1))).wr (Fd.CAN_MB_STAT_STATE k b) 1

theorem State.bufRetried_frame (s : State) (k b : Nat) : Frame s (s.bufRetried k b) [.regs] (fun a => a = Rg.CAN_MB_STAT k b) :=
  (s.wr_frame (Fd.CAN_MB_STAT_RETRIES k b) _).trans (State.wr_frame _ (Fd.CAN_MB_STAT_STATE k b) 1)

theorem State.bufRetried_spec (s : State) (k b : Nat) : (s.bufRetried k b).bufState k b = 1 ∧
    (s.bufRetried k b).rd (Fd.CAN_MB_STAT_RETRIES k b) = min 15 (s.rd (Fd.CAN_MB_STAT_RETRIES k b) + 1) :=
  ⟨rd_wr_self _ (Fd.CAN_MB_STAT_STATE k b) 1 rfl,
    (rd_wr_beside _ (Fd.CAN_MB_STAT_STATE k b) (Fd.CAN_MB_STAT_RETRIES k b) 1 rfl rfl).trans
      ((rd_wr_self s (Fd.CAN_MB_STAT_RETRIES k b) _ rfl).trans (Nat.mod_eq_of_lt (Nat.lt_of_le_of_lt (Nat.min_le_left _ _) (by decide : 15 < 2 ^ 4))))⟩

theorem State.bufFailed_eq {s : State} {k b : Nat} (hlate : (s.buf k b).lateAbort = false) (hheld : (s.buf k b).cancelHeld = false)
    (hretry : s.rd (Fd.CAN_MB_CFG_RETRY k b) = 31 ∨ s.rd (Fd.CAN_MB_STAT_RETRIES k b) < s.rd (Fd.CAN_MB_CFG_RETRY k b))
    (hwait : s.canWaits k b 2 = none) : s.bufFailed k b = s.bufRetried k b := by
  have hnone : (s.bufRetried k b).canWaits k b 2 = none := (State.canWaits_congr ((s.bufRetried_frame k b).same .ep (by simp)) k b 2).trans hwait
  have hmore : ¬ (s.rd (Fd.CAN_MB_CFG_RETRY k b) ≠ 31 ∧ s.rd (Fd.CAN_MB_CFG_RETRY k b) ≤ s.rd (Fd.CAN_MB_STAT_RETRIES k b)) := by omega
  unfold State.bufFailed
  dsimp only
  rw [hlate, hheld, if_neg hmore]
  exact State.repeatTried_none hnone _

/-- What an error with a retransmission left has done before the error state follows. -/
def State.tryAgain (s : State) (k b : Nat) (a : CanTry) (e : Nat) : State := (s.tryFailed k a e).bufRetried k b

section
variable {s : State} {k b e x : Nat} {v : Option Nat}

theorem State.tryError_eq (hb : b < 128) (hlate : (s.buf k b).lateAbort = false) (hheld : (s.buf k b).cancelHeld = false)
    (hretry : s.rd (Fd.CAN_MB_CFG_RETRY k b) = 31 ∨ s.rd (Fd.CAN_MB_STAT_RETRIES k b) < s.rd (Fd.CAN_MB_CFG_RETRY k b))
    (hwait : s.canWaits k b 2 = none) :
    s.tryError k ⟨some b, x, v⟩ e = ((s.tryAgain k b ⟨some b, x, v⟩ e).canErrState k).canFreeIn k 17 true := by
  generalize ha : (⟨some b, x, v⟩ : CanTry) = a
  have heq : s.tryError k ⟨some b, x, v⟩ e =
      ((if b = 128 then (s.tryFailed k ⟨some b, x, v⟩ e).curfewFailed k else (s.tryFailed k ⟨some b, x, v⟩ e).bufFailed k b).canErrState k).canFreeIn
        k 17 true := rfl
  have hcfg : (s.tryFailed k a e).rd (Fd.CAN_MB_CFG_RETRY k b) = s.rd (Fd.CAN_MB_CFG_RETRY k b) :=
    s.tryFailed_bufRd k a e (by simp only [Fd.CAN_MB_CFG_RETRY]; omega)
  have hused : (s.tryFailed k a e).rd (Fd.CAN_MB_STAT_RETRIES k b) = s.rd (Fd.CAN_MB_STAT_RETRIES k b) :=
    s.tryFailed_bufRd k a e (by simp only [Fd.CAN_MB_STAT_RETRIES]; omega)
  have hbuf := s.tryFailed_buf k a e b
  rw [ha, if_neg (by omega)] at heq
  rw [heq, State.bufFailed_eq (by rw [hbuf, hlate]) (by rw [hbuf, hheld]) (by rw [hcfg, hused]; exact hretry)
    ((State.canWaits_congr ((s.tryFailed_frame k a e).same .ep (by simp)) k b 2).trans hwait)]
  rfl

end

theorem State.tryAgain_frame (s : State) (k b : Nat) (a : CanTry) (e : Nat) : Frame s (s.tryAgain k b a e) [.can, .regs]
    (fun a => a = Rg.CAN_MB_STAT k b ∨ a = Rg.CAN_STATUS k ∨ CanCount k (errEvent e) a) :=
  ((s.tryFailed_frame k a e).mono (by simp) fun _ => .inr).trans ((State.bufRetried_frame _ k b).mono (by simp) fun _ => .inl)

theorem State.tryAgain_statusRd (s : State) (k b : Nat) (a : CanTry) (e : Nat) {f : Fld} (hf : f.addr = Rg.CAN_STATUS k) :
    (s.tryAgain k b a e).rd f = (s.tryFailed k a e).rd f :=
  (State.bufRetried_frame _ k b).rd (by rw [hf]; exact (canMbStat_ne_canStatus k b).symm)

theorem State.tryAgain_spec (s : State) (k b : Nat) (a : CanTry) {e : Nat} (he : e < 16) : (s.tryAgain k b a e).bufState k b = 1 ∧
    (s.tryAgain k b a e).rd (Fd.CAN_MB_STAT_RETRIES k b) = min 15 (s.rd (Fd.CAN_MB_STAT_RETRIES k b) + 1) ∧
    (s.tryAgain k b a e).rd (Fd.CAN_STATUS_LAST_ERR k) = e ∧ ((s.tryAgain k b a e).canAt k).attempt = none ∧
    Counted s (s.tryAgain k b a e) (Rg.CAN_EVENT k (errEvent e)) := by
  have hevent := errEvent_lt e
  have hagain := (s.tryFailed k a e).bufRetried_frame k b
  refine ⟨((s.tryFailed k a e).bufRetried_spec k b).1, ((s.tryFailed k a e).bufRetried_spec k b).2.trans ?_, ?_, ?_, ?_⟩
  · rw [s.tryFailed_bufRd k a e (f := Fd.CAN_MB_STAT_RETRIES k b) (by simp only [Fd.CAN_MB_STAT_RETRIES]; omega)]
  · exact (s.tryAgain_statusRd k b a e (f := Fd.CAN_STATUS_LAST_ERR k) rfl).trans (s.tryFailed_lastErr k a he)
  · rw [State.tryAgain, State.canAt_congr (hagain.same .can (by simp)), State.tryFailed_attempt]
  · rw [Counted, State.tryAgain, hagain.reg (canEvent_ne_canMbStat k b (by omega))]
    exact s.tryFailed_counted k a e

/-- Below bus-off the error state and the idle bus follow. -/
theorem State.tryError_below {s : State} {k b e x : Nat} {v : Option Nat} (hb : b < 128) (he : e < 16) (hlate : (s.buf k b).lateAbort = false)
    (hheld : (s.buf k b).cancelHeld = false)
    (hretry : s.rd (Fd.CAN_MB_CFG_RETRY k b) = 31 ∨ s.rd (Fd.CAN_MB_STAT_RETRIES k b) < s.rd (Fd.CAN_MB_CFG_RETRY k b))
    (hwait : s.canWaits k b 2 = none) (htec : s.rd (Fd.CAN_STATUS_TEC k) + 8 ≤ 255) {t : State} (ht : t = s.tryError k ⟨some b, x, v⟩ e) :
    t.bufState k b = 1 ∧ t.rd (Fd.CAN_MB_STAT_RETRIES k b) = min 15 (s.rd (Fd.CAN_MB_STAT_RETRIES k b) + 1) ∧
      t.rd (Fd.CAN_STATUS_LAST_ERR k) = e ∧
      t.rd (Fd.CAN_STATUS_TEC k) = s.rd (Fd.CAN_STATUS_TEC k) + (if s.tecCounts k ⟨some b, x, v⟩ e then 8 else 0) ∧
      (t.canAt k).attempt = none ∧ Counted s t (Rg.CAN_EVENT k (errEvent e)) ∧
      Frame s t [.can, .regs, .ic] (fun a => a = Rg.CAN_MB_STAT k b ∨ a = Rg.CAN_STATUS k ∨ CanCount k (errEvent e) a) := by
  have heq := State.tryError_eq (x := x) (v := v) (e := e) hb hlate hheld hretry hwait
  generalize (⟨some b, x, v⟩ : CanTry) = a at heq ht ⊢
  obtain ⟨hstate, hused, hlast, hover, hcount⟩ := s.tryAgain_spec k b a he
  have hagain := s.tryAgain_frame k b a e
  have htecU : (s.tryAgain k b a e).rd (Fd.CAN_STATUS_TEC k) = s.rd (Fd.CAN_STATUS_TEC k) + (if s.tecCounts k a e then 8 else 0) := by
    rw [s.tryAgain_statusRd k b a e (f := Fd.CAN_STATUS_TEC k) rfl, State.tryFailed_tec]
    split <;> omega
  generalize s.tryAgain k b a e = u at *
  have hbelow : u.rd (Fd.CAN_STATUS_TEC k) ≤ 255 := by rw [htecU]; split <;> omega
  have herr := State.canErrState_frame hbelow
  have hfree := (u.canErrState k).canFreeIn_frame k 17 true
  have hkept := ((u.canErrState k).canFreeIn_kept k 17 true).1
  rw [← heq, ← ht] at hfree hkept
  have hrd : ∀ f : Fld, (Fd.CAN_STATUS_ESTATE k).clearOf f → t.rd f = u.rd f := fun f hf =>
    (hfree.rd (f := f) not_false).trans (State.canErrState_rd hbelow hf)
  refine ⟨?_, ?_, ?_, ?_, ?_, ?_, ?_⟩
  · exact (hrd (Fd.CAN_MB_STAT_STATE k b) fun h => absurd h (canMbStat_ne_canStatus k b)).trans hstate
  · exact (hrd (Fd.CAN_MB_STAT_RETRIES k b) fun h => absurd h (canMbStat_ne_canStatus k b)).trans hused
  · exact (hrd (Fd.CAN_STATUS_LAST_ERR k) fun _ => rfl).trans hlast
  · exact (hrd (Fd.CAN_STATUS_TEC k) fun _ => rfl).trans htecU
  · rw [hkept, State.canAt_congr (herr.same .can (by simp)), hover]
  · rw [Counted, hfree.reg not_false, herr.reg (canEvent_ne_canStatus k _)]
    exact hcount
  · exact (hagain.widen (by simp)).trans ((herr.mono (by simp) fun _ h => .inr (.inl h)).trans (hfree.noRegs (by simp)))

/-! ### Bus-off (R269) -/

/-- The channel enters bus-off: no attempt and no frame is in progress. -/
def State.busOffEntered (s : State) (k : Nat) : State :=
  let u := (s.wr (Fd.CAN_STATUS_ESTATE k) 2).wr (Fd.CAN_STATUS_RECOV k) 0
  (u.setCan k { u.canAt k with attempt := none, rx := false, busOffAt := u.now }).canEvent k 7

/-- What is still requested of a buffer stays PENDING, with BUSOFF_SEEN. -/
def State.busOffSeen (s : State) (k b : Nat) : State :=
  if s.bufTx k b && s.bufState k b != 0 then (s.wr (Fd.CAN_MB_STAT_STATE k b) 1).wr (Fd.CAN_MB_STAT_BUSOFF_SEEN k b) 1 else s

theorem State.canErrState_over {s : State} {k : Nat} (hon : s.busOff k = false) (htec : 255 < s.rd (Fd.CAN_STATUS_TEC k)) :
    s.canErrState k = (forAll (List.range 128) (fun u b => u.busOffSeen k b) ((s.busOffEntered k).medMark k 2)).canLevels k := by
  have heq : s.canErrState k = (if s.busOff k then s else if 255 < s.rd (Fd.CAN_STATUS_TEC k) then
      forAll (List.range 128) (fun u b => u.busOffSeen k b) ((s.busOffEntered k).medMark k 2)
    else s.wr (Fd.CAN_STATUS_ESTATE k) (if 127 < s.rd (Fd.CAN_STATUS_TEC k) ∨ 127 < s.rd (Fd.CAN_STATUS_REC k) then 1 else 0)).canLevels k := rfl
  rw [heq, hon, if_pos htec]
  rfl

theorem State.busOffEntered_frame (s : State) (k : Nat) :
    Frame s (s.busOffEntered k) [.can, .regs] (fun a => a = Rg.CAN_STATUS k ∨ CanCount k 7 a) :=
  ((s.wr_frame (Fd.CAN_STATUS_ESTATE k) 2).mono (by simp) fun _ => .inl).trans
    (((State.wr_frame _ (Fd.CAN_STATUS_RECOV k) 0).mono (by simp) fun _ => .inl).trans
      (((State.setCan_frame _ k _).noRegs (by simp)).trans ((State.canEvent_frame _ k 7).mono (by simp) fun _ => .inr)))

theorem State.busOffEntered_spec (s : State) (k : Nat) : (s.busOffEntered k).busOff k = true ∧ ((s.busOffEntered k).canAt k).attempt = none ∧
    ((s.busOffEntered k).canAt k).busOffAt = s.now ∧ Counted s (s.busOffEntered k) (Rg.CAN_EVENT k 7) := by
  have hne := canEvent_ne_canStatus k 7
  refine ⟨?_, ?_, ?_, ?_⟩
  · rw [State.busOff, State.busOffEntered, State.canEvent_rd (f := Fd.CAN_STATUS_ESTATE k) _ (canStatus_not_canCount k 7), State.setCan_rd,
      rd_wr_beside _ (Fd.CAN_STATUS_RECOV k) (Fd.CAN_STATUS_ESTATE k) 0 rfl rfl, rd_wr_self s (Fd.CAN_STATUS_ESTATE k) 2 rfl]
    rfl
  · rw [State.busOffEntered, State.canEvent_canAt, State.setCan_canAt_same]
  · rw [State.busOffEntered, State.canEvent_canAt, State.setCan_canAt_same]
    simp only [State.wr_now]
  · rw [Counted, State.busOffEntered, State.canEvent_counted _ k (by decide), State.setCan_reg, reg_wr_ne _ (Fd.CAN_STATUS_RECOV k) _ _ hne,
      reg_wr_ne _ (Fd.CAN_STATUS_ESTATE k) _ _ hne]

theorem State.medMark_frame (s : State) (m st : Nat) : Frame s (s.medMark m st) [.nm] (fun _ => False) :=
  frame_of_blot_noRegs (by simp) (by simp)

theorem State.busOffSeen_frame (s : State) (k b : Nat) : Frame s (s.busOffSeen k b) [.regs] (fun a => a = Rg.CAN_MB_STAT k b) := by
  unfold State.busOffSeen
  split
  · exact (s.wr_frame (Fd.CAN_MB_STAT_STATE k b) 1).trans (State.wr_frame _ (Fd.CAN_MB_STAT_BUSOFF_SEEN k b) 1)
  · exact .refl _ _ _

theorem State.busOffSeen_loop_frame (s : State) (k : Nat) :
    Frame s (forAll (List.range 128) (fun u b => u.busOffSeen k b) s) [.regs] (fun a => ∃ b, a = Rg.CAN_MB_STAT k b) :=
  Frame.forAll _ _ (fun u b => (u.busOffSeen_frame k b).mono (by simp) fun _ h => ⟨b, h⟩) s

/-- A transmit buffer that is PENDING. -/
def State.bufPends (s : State) (k b : Nat) : Prop := s.bufTx k b = true ∧ s.bufState k b = 1

theorem State.busOffSeen_pends {s : State} {k b : Nat} (hb : b < 128) (h : s.bufPends k b) (c : Nat) : (s.busOffSeen k c).bufPends k b := by
  obtain ⟨htx, hstate⟩ := h
  refine ⟨?_, ?_⟩
  · rw [State.bufTx, flag_of_frame (f := Fd.CAN_MB_CFG_DIR k b) (s.busOffSeen_frame k c) (by simp only [Fd.CAN_MB_CFG_DIR, Rg.CAN_MB_STAT]; omega)]
    exact htx
  · unfold State.busOffSeen
    split
    · rw [State.bufState, rd_wr_clear (f := Fd.CAN_MB_STAT_BUSOFF_SEEN k c) (g := Fd.CAN_MB_STAT_STATE k b) _ 1 fun _ => rfl]
      by_cases hc : c = b
      · rw [hc]
        exact rd_wr_self s (Fd.CAN_MB_STAT_STATE k b) 1 rfl
      · rw [rd_wr_ne s (Fd.CAN_MB_STAT_STATE k c) (Fd.CAN_MB_STAT_STATE k b) 1 (by simp only [Fd.CAN_MB_STAT_STATE]; omega)]
        exact hstate
    · exact hstate

theorem State.busOffSeen_retries (s : State) (k b c : Nat) :
    (s.busOffSeen k c).rd (Fd.CAN_MB_STAT_RETRIES k b) = s.rd (Fd.CAN_MB_STAT_RETRIES k b) := by
  unfold State.busOffSeen
  split
  · rw [rd_wr_clear (f := Fd.CAN_MB_STAT_BUSOFF_SEEN k c) (g := Fd.CAN_MB_STAT_RETRIES k b) _ 1 fun _ => rfl,
      rd_wr_clear (f := Fd.CAN_MB_STAT_STATE k c) (g := Fd.CAN_MB_STAT_RETRIES k b) _ 1 fun _ => rfl]
  · rfl

theorem State.busOffSeen_flag {s : State} {k b : Nat} (h : s.bufPends k b) : (s.busOffSeen k b).flag (Fd.CAN_MB_STAT_BUSOFF_SEEN k b) = true := by
  obtain ⟨htx, hstate⟩ := h
  rw [State.busOffSeen, htx, hstate]
  exact flag_wr_one _ (Fd.CAN_MB_STAT_BUSOFF_SEEN k b) rfl (by decide : 10 ≤ 31)

/-- A buffer that has seen bus-off goes on to have seen it. -/
theorem State.busOffSeen_keeps {s : State} {k b : Nat} (h : s.flag (Fd.CAN_MB_STAT_BUSOFF_SEEN k b) = true) (c : Nat) :
    (s.busOffSeen k c).flag (Fd.CAN_MB_STAT_BUSOFF_SEEN k b) = true := by
  unfold State.busOffSeen
  split
  · refine flag_wr_one_keeps _ (f := Fd.CAN_MB_STAT_BUSOFF_SEEN k c) rfl rfl (fun ha => ?_) ?_
    · simp only [Fd.CAN_MB_STAT_BUSOFF_SEEN, Fld.mk.injEq, and_self, and_true] at ha ⊢
      exact ha
    · rw [flag_wr_clear (f := Fd.CAN_MB_STAT_STATE k c) (g := Fd.CAN_MB_STAT_BUSOFF_SEEN k b) _ 1 fun _ => rfl]
      exact h
  · exact h

theorem State.busOffSeen_loop {s : State} {k b : Nat} (hb : b < 128) (h : s.bufPends k b) {t : State}
    (ht : t = forAll (List.range 128) (fun u c => u.busOffSeen k c) s) :
    t.bufState k b = 1 ∧ t.flag (Fd.CAN_MB_STAT_BUSOFF_SEEN k b) = true ∧
      t.rd (Fd.CAN_MB_STAT_RETRIES k b) = s.rd (Fd.CAN_MB_STAT_RETRIES k b) := by
  subst ht
  refine ⟨?_, ?_, ?_⟩
  · exact (forAll_keeps (fun u => u.bufPends k b) _ _ (fun u c hu => State.busOffSeen_pends hb hu c) s h).2
  · refine forAll_each (I := fun u => u.bufPends k b) (P := fun c u => c = b → u.flag (Fd.CAN_MB_STAT_BUSOFF_SEEN k b) = true) (List.range 128)
      (fun u c hu => State.busOffSeen_pends hb hu c) ?_ ?_ s h b (List.mem_range.mpr hb) rfl
    · rintro u c - hu rfl
      exact State.busOffSeen_flag hu
    · exact fun u x c _ _ hu hx => State.busOffSeen_keeps (hu hx) c
  · exact forAll_keeps (fun u => u.rd (Fd.CAN_MB_STAT_RETRIES k b) = s.rd (Fd.CAN_MB_STAT_RETRIES k b)) _ _
      (fun u c hu => (u.busOffSeen_retries k b c).trans hu) s rfl

/-- A channel whose TEC passes 255 enters bus-off, and a PENDING buffer shows it. -/
theorem State.canErrState_busOff {s : State} {k b : Nat} (hon : s.busOff k = false) (htec : 255 < s.rd (Fd.CAN_STATUS_TEC k)) (hb : b < 128)
    (hpends : s.bufPends k b) {t : State} (ht : t = s.canErrState k) : t.busOff k = true ∧ t.bufState k b = 1 ∧
    t.flag (Fd.CAN_MB_STAT_BUSOFF_SEEN k b) = true ∧ t.rd (Fd.CAN_MB_STAT_RETRIES k b) = s.rd (Fd.CAN_MB_STAT_RETRIES k b) ∧
    (t.canAt k).attempt = none ∧ (t.canAt k).busOffAt = t.now ∧ Counted s t (Rg.CAN_EVENT k 7) := by
  rw [State.canErrState_over hon htec] at ht
  have henter := s.busOffEntered_frame k
  obtain ⟨hoff, hover, hat, hcount⟩ := s.busOffEntered_spec k
  have hmark := (s.busOffEntered k).medMark_frame k 2
  have hbufRd : ∀ f : Fld, 0x200C0200 + 0x1000 * k ≤ f.addr → ((s.busOffEntered k).medMark k 2).rd f = s.rd f := fun f hf =>
    (hmark.rd (f := f) not_false).trans (henter.rd (by simp only [CanCount, Rg.CAN_STATUS, Rg.CAN_EVENT, Rg.CAN_EVENT_SAT]; omega))
  generalize (s.busOffEntered k).medMark k 2 = v at ht hmark hbufRd
  have hpendsV : v.bufPends k b := by
    obtain ⟨htx, hstate⟩ := hpends
    refine ⟨?_, ?_⟩
    · rw [State.bufTx, State.flag, hbufRd (Fd.CAN_MB_CFG_DIR k b) (by simp only [Fd.CAN_MB_CFG_DIR]; omega)]
      exact htx
    · rw [State.bufState, hbufRd (Fd.CAN_MB_STAT_STATE k b) (by simp only [Fd.CAN_MB_STAT_STATE]; omega)]
      exact hstate
  have hloop := v.busOffSeen_loop_frame k
  obtain ⟨hstate, hseen, hused⟩ := State.busOffSeen_loop hb hpendsV rfl
  generalize forAll (List.range 128) (fun u c => u.busOffSeen k c) v = w at ht hloop hstate hseen hused
  have hcan : t.can = (s.busOffEntered k).can := by
    rw [ht, State.canLevels_can, show w.can = v.can from hloop.same .can (by simp), show v.can = _ from hmark.same .can (by simp)]
  have hnow : t.now = s.now := by
    rw [ht, State.canLevels_now, show w.now = v.now from hloop.same .now (by simp), show v.now = _ from hmark.same .now (by simp)]
    exact henter.same .now (by simp)
  refine ⟨?_, ?_, ?_, ?_, ?_, ?_, ?_⟩
  · rw [ht, State.busOff, State.canLevels_rd, hloop.rd (f := Fd.CAN_STATUS_ESTATE k) (fun ⟨c, hc⟩ => canMbStat_ne_canStatus k c hc.symm),
      hmark.rd (f := Fd.CAN_STATUS_ESTATE k) not_false]
    exact hoff
  · rw [ht, State.bufState, State.canLevels_rd]
    exact hstate
  · rw [ht, State.canLevels_flag]
    exact hseen
  · rw [ht, State.canLevels_rd, hused]
    exact hbufRd (Fd.CAN_MB_STAT_RETRIES k b) (by simp only [Fd.CAN_MB_STAT_RETRIES]; omega)
  · rw [State.canAt_congr hcan, hover]
  · rw [State.canAt_congr hcan, hat, hnow]
  · rw [Counted, ht, State.canLevels_reg, hloop.reg (fun ⟨c, hc⟩ => canEvent_ne_canMbStat k c (by decide) hc), hmark.reg not_false]
    exact hcount

end Sys2Proof.Machine
end

section
/-! SUPPORT. The command that ends a CAN attempt in an error (R268 to R270). -/

namespace Sys2Proof.Machine

/-- The conditions under which an attempt's error uses a retransmission. -/
structure State.Retries (s : State) (k b : Nat) : Prop where
  late : (s.buf k b).lateAbort = false
  held : (s.buf k b).cancelHeld = false
  left : s.rd (Fd.CAN_MB_CFG_RETRY k b) = 31 ∨ s.rd (Fd.CAN_MB_STAT_RETRIES k b) < s.rd (Fd.CAN_MB_CFG_RETRY k b)
  wait : s.canWaits k b 2 = none

/-- Another register than CAN_TDC, which the measurement of the delay leaves. -/
theorem canTdc_ne {k a : Nat} (h : a = Rg.CAN_STATUS k ∨ 0x200C0040 + 0x1000 * k ≤ a) : a ≠ Rg.CAN_TDC k := by
  unfold Rg.CAN_STATUS Rg.CAN_TDC at *
  omega

theorem State.Retries.of_frame {s u : State} {k b : Nat} {parts : List Piece} (h : s.Retries k b) (hu : Frame s u parts (fun a => a = Rg.CAN_TDC k))
    (hcan : .can ∉ parts) (hep : .ep ∉ parts) : u.Retries k b := by
  obtain ⟨hlate, hheld, hleft, hwait⟩ := h
  have hbuf := State.buf_congr (hu.same .can hcan) k b
  refine ⟨hbuf ▸ hlate, hbuf ▸ hheld, ?_, (State.canWaits_congr (hu.same .ep hep) k b 2).trans hwait⟩
  rw [hu.rd (f := Fd.CAN_MB_CFG_RETRY k b) (canTdc_ne (.inr (by simp only [Fd.CAN_MB_CFG_RETRY]; omega))),
    hu.rd (f := Fd.CAN_MB_STAT_RETRIES k b) (canTdc_ne (.inr (by simp only [Fd.CAN_MB_STAT_RETRIES]; omega)))]
  exact hleft

section
variable {s : State} {k : Fin 8} {e : Fin 7} {b x : Nat} {v : Option Nat}

theorem canTxEnd_retries (ns : BitVec 32) (tdc : BitVec 8) (hb : b < 128) (he : e ≠ 0) (htry : (s.canAt k.val).attempt = some ⟨some b, x, v⟩)
    (htec : s.rd (Fd.CAN_STATUS_TEC k.val) + 8 ≤ 255) (hretry : s.Retries k.val b) :
    ∃ t, exec (.canTxEnd k e ns tdc) s = .next t ∧ t.bufState k.val b = 1 ∧
      t.rd (Fd.CAN_MB_STAT_RETRIES k.val b) = min 15 (s.rd (Fd.CAN_MB_STAT_RETRIES k.val b) + 1) ∧ t.rd (Fd.CAN_STATUS_LAST_ERR k.val) = e.val ∧
      t.rd (Fd.CAN_STATUS_TEC k.val) = s.rd (Fd.CAN_STATUS_TEC k.val) + (if s.tecCounts k.val ⟨some b, x, v⟩ e.val then 8 else 0) ∧
      (t.canAt k.val).attempt = none ∧ Counted s t (Rg.CAN_EVENT k.val (errEvent e.val)) ∧ x + ns.toNat ≤ t.now ∧
      Frame s t [.can, .regs, .ic, .now, .vt, .ptp]
        (fun a => a = Rg.CAN_MB_STAT k.val b ∨ a = Rg.CAN_STATUS k.val ∨ a = Rg.CAN_TDC k.val ∨ CanCount k.val (errEvent e.val) a) := by
  refine ⟨_, congrArg Host.Outcome.next (State.tryEnds_error htry (fun h => he (Fin.ext h)) ns.toNat tdc.toNat), ?_⟩
  have hmeas := s.tryMeasured_frame k.val ⟨some b, x, v⟩ ns.toNat tdc.toNat
  have hnow := s.le_tryMeasured k.val ⟨some b, x, v⟩ ns.toNat tdc.toNat
  generalize s.tryMeasured k.val ⟨some b, x, v⟩ ns.toNat tdc.toNat = u at hmeas hnow
  have hstatus : ∀ f : Fld, f.addr = Rg.CAN_STATUS k.val → u.rd f = s.rd f := fun f hf => hmeas.rd (canTdc_ne (.inl hf))
  have hcounts : u.tecCounts k.val ⟨some b, x, v⟩ e.val = s.tecCounts k.val ⟨some b, x, v⟩ e.val := by
    rw [State.tecCounts, hstatus (Fd.CAN_STATUS_ESTATE k.val) rfl, State.tecCounts]
  have hused : u.rd (Fd.CAN_MB_STAT_RETRIES k.val b) = s.rd (Fd.CAN_MB_STAT_RETRIES k.val b) :=
    hmeas.rd (canTdc_ne (.inr (by simp only [Fd.CAN_MB_STAT_RETRIES]; omega)))
  obtain ⟨hlate, hheld, hleft, hwait⟩ := hretry.of_frame hmeas (by simp) (by simp)
  obtain ⟨hstate, husedT, hlast, htecT, hover, hcount, hframe⟩ := State.tryError_below (s := u) (x := x) (v := v) hb
    (Nat.lt_trans e.isLt (by decide : 7 < 16)) hlate hheld hleft hwait (by rw [hstatus (Fd.CAN_STATUS_TEC k.val) rfl]; exact htec) rfl
  refine ⟨hstate, husedT.trans (by rw [hused]), hlast, htecT.trans (by rw [hstatus (Fd.CAN_STATUS_TEC k.val) rfl, hcounts]), hover, ?_,
    hnow.trans_eq (hframe.same .now (by simp)).symm, ?_⟩
  · rw [Counted, hcount, hmeas.reg (canTdc_ne (.inr (by unfold Rg.CAN_EVENT; omega)))]
  · refine (hmeas.mono (by simp) fun _ h => .inr (.inr (.inl h))).trans (hframe.mono (by simp) fun _ h => ?_)
    exact h.imp_right fun h => h.imp_right .inr

/-- A dominant error beyond 255 of TEC: the retransmission is used, and bus-off follows. -/
theorem canTxEnd_busOff {v : Nat} (ns : BitVec 32) (tdc : BitVec 8) (hb : b < 128) (he : e ≠ 0) (h3 : e ≠ 3)
    (htry : (s.canAt k.val).attempt = some ⟨some b, x, some v⟩) (htec : 255 < s.rd (Fd.CAN_STATUS_TEC k.val) + 8) (hon : s.busOff k.val = false)
    (htx : s.bufTx k.val b = true) (hretry : s.Retries k.val b) :
    ∃ t, exec (.canTxEnd k e ns tdc) s = .next t ∧ t.busOff k.val = true ∧ t.bufState k.val b = 1 ∧
      t.flag (Fd.CAN_MB_STAT_BUSOFF_SEEN k.val b) = true ∧
      t.rd (Fd.CAN_MB_STAT_RETRIES k.val b) = min 15 (s.rd (Fd.CAN_MB_STAT_RETRIES k.val b) + 1) ∧
      (t.canAt k.val).attempt = none ∧ (t.canAt k.val).busOffAt = t.now ∧ Counted s t (Rg.CAN_EVENT k.val 7) := by
  refine ⟨_, congrArg Host.Outcome.next (State.tryEnds_error htry (fun h => he (Fin.ext h)) ns.toNat tdc.toNat), ?_⟩
  have hmeas := s.tryMeasured_frame k.val ⟨some b, x, some v⟩ ns.toNat tdc.toNat
  generalize s.tryMeasured k.val ⟨some b, x, some v⟩ ns.toNat tdc.toNat = u at hmeas
  have hstatus : ∀ f : Fld, f.addr = Rg.CAN_STATUS k.val → u.rd f = s.rd f := fun f hf => hmeas.rd (canTdc_ne (.inl hf))
  obtain ⟨hlate, hheld, hleft, hwait⟩ := hretry.of_frame hmeas (by simp) (by simp)
  have hcounts : ∀ w : State, w.tecCounts k.val ⟨some b, x, some v⟩ e.val = true := fun w => by
    have h3' : e.val ≠ 3 := fun h => h3 (Fin.ext h)
    simp [State.tecCounts, h3']
  rw [State.tryError_eq (s := u) hb hlate hheld hleft hwait]
  generalize (⟨some b, x, some v⟩ : CanTry) = a at hcounts
  have hevent := errEvent_lt e.val
  have hagain := u.tryAgain_frame k.val b a e.val
  obtain ⟨hstate, hused, -, -, -⟩ := u.tryAgain_spec k.val b a (Nat.lt_trans e.isLt (by decide : 7 < 16))
  have htecW : 255 < (u.tryAgain k.val b a e.val).rd (Fd.CAN_STATUS_TEC k.val) := by
    rw [u.tryAgain_statusRd k.val b a e.val (f := Fd.CAN_STATUS_TEC k.val) rfl, State.tryFailed_tec, hcounts, if_pos rfl,
      hstatus (Fd.CAN_STATUS_TEC k.val) rfl]
    omega
  have honW : (u.tryAgain k.val b a e.val).busOff k.val = false := by
    rw [State.busOff, u.tryAgain_statusRd k.val b a e.val (f := Fd.CAN_STATUS_ESTATE k.val) rfl, ← State.busOff, State.tryFailed_busOff,
      State.busOff, hstatus (Fd.CAN_STATUS_ESTATE k.val) rfl, ← State.busOff, hon]
  generalize u.tryAgain k.val b a e.val = w at *
  have htxW : w.bufTx k.val b = true := by
    have hcfg : w.flag (Fd.CAN_MB_CFG_DIR k.val b) = u.flag (Fd.CAN_MB_CFG_DIR k.val b) := flag_of_frame (f := Fd.CAN_MB_CFG_DIR k.val b) hagain
      (by simp only [CanCount, Fd.CAN_MB_CFG_DIR, Rg.CAN_MB_STAT, Rg.CAN_STATUS, Rg.CAN_EVENT, Rg.CAN_EVENT_SAT]; omega)
    rw [State.bufTx, hcfg, flag_of_frame (f := Fd.CAN_MB_CFG_DIR k.val b) hmeas (canTdc_ne (.inr (by simp only [Fd.CAN_MB_CFG_DIR]; omega)))]
    exact htx
  obtain ⟨hoff, hstateT, hseen, husedT, hoverT, hat, hcount⟩ := State.canErrState_busOff honW htecW hb ⟨htxW, hstate⟩ rfl
  have hfree := (w.canErrState k.val).canFreeIn_frame k.val 17 true
  obtain ⟨hatt, hbusOffAt⟩ := (w.canErrState k.val).canFreeIn_kept k.val 17 true
  have hnow : ((w.canErrState k.val).canFreeIn k.val 17 true).now = (w.canErrState k.val).now := hfree.same .now (by simp)
  refine ⟨?_, ?_, ?_, ?_, hatt.trans hoverT, ?_, ?_⟩
  · rw [State.busOff, hfree.rd (f := Fd.CAN_STATUS_ESTATE k.val) not_false]
    exact hoff
  · rw [State.bufState, hfree.rd (f := Fd.CAN_MB_STAT_STATE k.val b) not_false]
    exact hstateT
  · rw [flag_of_frame (f := Fd.CAN_MB_STAT_BUSOFF_SEEN k.val b) hfree not_false]
    exact hseen
  · rw [hfree.rd (f := Fd.CAN_MB_STAT_RETRIES k.val b) not_false, husedT, hused,
      hmeas.rd (f := Fd.CAN_MB_STAT_RETRIES k.val b) (canTdc_ne (.inr (by simp only [Fd.CAN_MB_STAT_RETRIES]; omega)))]
  · rw [hbusOffAt, hat, hnow]
  · rw [Counted, hfree.reg not_false, hcount,
      hagain.reg (by simp only [CanCount, Rg.CAN_MB_STAT, Rg.CAN_STATUS, Rg.CAN_EVENT, Rg.CAN_EVENT_SAT]; omega),
      hmeas.reg (canTdc_ne (.inr (by unfold Rg.CAN_EVENT; omega)))]

end

end Sys2Proof.Machine
end

section
/-! SUPPORT. The commands of a CAN endpoint (R277 to R279): what a command's completion records across updates of other parts, the words of an
image, the commands SETUP and STATE. -/

namespace Sys2Proof.Machine

/-! ### A record across other updates -/

section
variable {s t u v : State} {c : Cmd} {code detail time : Nat} {late : Bool}

theorem State.epAt_congr (h : u.ep.eps = s.ep.eps) (e : Nat) : u.epAt e = s.epAt e := by rw [State.epAt, h, State.epAt]

theorem recordAt_congr (h : u.ep.eps = s.ep.eps) (c : Cmd) : recordAt u c = recordAt s c := by rw [recordAt, State.epAt_congr h, recordAt]

/-- What is recorded from `u` to `v` is recorded from a state with the endpoints of `u` to one with the endpoints and the memory of `v`. -/
theorem Recorded.congr (h : Recorded u v c code detail time late) (hu : u.ep.eps = s.ep.eps) (hep : t.ep = v.ep) (hmem : t.mem = v.mem) :
    Recorded s t c code detail time late := by
  obtain ⟨hgone, htail, hbytes⟩ := h
  refine ⟨?_, ?_, ?_⟩
  · rw [State.cmdOf, hep]
    exact hgone
  · rw [State.epAt_congr (congrArg _ hep), htail, State.epAt_congr hu]
  · rw [State.bytes_congr hmem, ← recordAt_congr hu, hbytes, State.epAt_congr hu]

end

/-- A command that finishes once the state `u` is reached, and the levels that follow. -/
theorem State.finish_recorded {s u t : State} {c : Cmd} {code : Nat} (heps : u.ep.eps = s.ep.eps) (hep : t.ep = (u.finish c code).ep)
    (hmem : t.mem = (u.finish c code).mem) : Recorded s t c code 0 u.vt c.lateSeen :=
  Recorded.congr (u.complete_recorded c code 0 u.vt).1 heps hep hmem

/-- Outside the record the memory is that of the state in which the command completes. -/
theorem State.complete_byte {s u t : State} {c : Cmd} {code detail time : Nat} (heps : u.ep.eps = s.ep.eps)
    (hmem : t.mem = (u.complete c code detail time).mem) {x : Nat} (hx : x < recordAt s c ∨ recordAt s c + 16 ≤ x) : t.byte x = u.byte x := by
  rw [State.byte, hmem, ← State.byte]
  exact (u.complete_recorded c code detail time).2 x (recordAt_congr heps c ▸ hx)

theorem State.complete_bytes {s u t : State} {c : Cmd} {code detail time : Nat} (heps : u.ep.eps = s.ep.eps)
    (hmem : t.mem = (u.complete c code detail time).mem) {a n : Nat} (ha : recordAt s c + 16 ≤ a ∨ a + n ≤ recordAt s c) :
    t.bytes a n = u.bytes a n := by
  rw [State.bytes_congr hmem, State.bytes_congr (u.complete_mem c code detail time), recordAt_congr heps]
  refine State.bytes_store_out _ _ _ _ _ (ha.symm.imp_right fun h => ?_)
  rw [Cmd.record, length_recBytes]
  exact h

/-! ### Bytes and words -/

theorem State.bytes_add (s : State) (a m n : Nat) : s.bytes a (m + n) = s.bytes a m ++ s.bytes (a + m) n := by
  induction m generalizing a with
  | zero => simp [State.bytes]
  | succ m ih =>
    rw [show m + 1 + n = m + n + 1 by omega, State.bytes, ih, State.bytes, List.cons_append, show a + 1 + m = a + (m + 1) by omega]

theorem leNat_lt (bs : List Byte) : leNat bs < 256 ^ bs.length := by
  induction bs with
  | nil => decide
  | cons b bs ih =>
    have hb : b.toNat < 256 := b.isLt
    simp only [leNat, List.length_cons, pow_succ]
    omega

/-- A field of a descriptor is within its bytes. -/
theorem Cmd.f_lt (c : Cmd) (off n : Nat) : c.f off n < 256 ^ n :=
  (leNat_lt _).trans_le (Nat.pow_le_pow_right (by decide) (List.length_take_le _ _))

theorem tget_foldl_setWord (f : Nat → Nat) (l : List Nat) (t : Tbl Word) (j : Nat) :
    tget (fun _ => (0 : Word)) (l.foldl (fun t w => setWord t w (f w)) t) j =
      if j ∈ l then BitVec.ofNat 32 (f j) else tget (fun _ => (0 : Word)) t j := by
  induction l generalizing t with
  | nil => simp
  | cons w l ih =>
    rw [List.foldl_cons, ih, setWord, tget_tset]
    by_cases hl : j ∈ l
    · simp [hl]
    · by_cases hw : j = w
      · subst hw
        simp
      · simp [hl, hw]

theorem length_image (x : CanBuf) : x.image.length = 72 := by
  simp [CanBuf.image, List.range, List.range.loop, length_leBytes]

/-- A word of an image of 72 bytes. -/
theorem imageWords_word (x : CanBuf) (bs : List Byte) {j : Nat} (hj : j < 18) :
    { x with words := imageWords bs }.word j = leNat ((bs.drop (4 * j)).take 4) := by
  have hlt : leNat ((bs.drop (4 * j)).take 4) < 2 ^ 32 :=
    (leNat_lt _).trans_le (Nat.pow_le_pow_right (by decide) (List.length_take_le 4 _))
  rw [CanBuf.word, imageWords, tget_foldl_setWord, if_pos (List.mem_range.mpr hj), BitVec.toNat_ofNat, Nat.mod_eq_of_lt hlt]

/-- The first two words of an image in memory. -/
theorem imageWords_header (s : State) (x : CanBuf) (a : Nat) :
    { x with words := imageWords (s.bytes a 72) }.word 0 = leNat (s.bytes a 4) ∧
    { x with words := imageWords (s.bytes a 72) }.word 1 = leNat (s.bytes (a + 4) 4) := by
  have h4 : ∀ b, (s.bytes b 4).length = 4 := fun b => State.bytes_length s b 4
  have hbytes : s.bytes a 72 = s.bytes a 4 ++ (s.bytes (a + 4) 4 ++ s.bytes (a + 4 + 4) 64) := by rw [← State.bytes_add, ← State.bytes_add]
  refine ⟨?_, ?_⟩
  · rw [imageWords_word x _ (by decide), hbytes, Nat.mul_zero, List.drop_zero, List.take_left' (h4 a)]
  · rw [imageWords_word x _ (by decide), hbytes, Nat.mul_one, List.drop_left' (h4 a), List.take_left' (h4 _)]

/-! ### A command at its target -/

theorem State.canTakes_passed {s : State} {e tag op : Nat} {c : Cmd} (h : s.passed e tag 1 op = some c) (run : State → Cmd → State) :
    s.canTakes e tag op run = run s c := by
  unfold State.canTakes
  rw [h]

/-! ### STATE (R279) -/

/-- The sixteen bytes of STATE: error state and mode, the counters, and the vehicle time. -/
def State.canStateBytes (s : State) (k : Nat) : List Byte :=
  let w := s.canStatusWord k
  leBytes 1 (w % 4) ++ leBytes 1 (s.canMode k) ++ leBytes 2 (getBits w 23 15) ++ leBytes 1 (getBits w 31 24)
    ++ leBytes 1 (getBits w 6 3) ++ leBytes 2 (getBits w 14 7) ++ leBytes 8 s.vt

theorem State.length_canStateBytes (s : State) (k : Nat) : (s.canStateBytes k).length = 16 := by simp [State.canStateBytes, length_leBytes]

/-- The ends of the sixteen bytes, where they stand in memory. -/
theorem State.canStateBytes_at {s t : State} {k a : Nat} (h : t.bytes a 16 = s.canStateBytes k) :
    t.bytes a 2 = leBytes 1 (s.canStatusWord k % 4) ++ leBytes 1 (s.canMode k) ∧ t.bytes (a + 8) 8 = leBytes 8 s.vt := by
  have hend : t.bytes a 8 ++ t.bytes (a + 8) 8 = s.canStateBytes k := by rw [← State.bytes_add, h]
  have hlow : t.bytes a 2 ++ t.bytes (a + 2) 14 = s.canStateBytes k := by rw [← State.bytes_add, h]
  refine ⟨?_, ?_⟩
  · simp only [State.canStateBytes, List.append_assoc] at hlow
    rw [← List.append_assoc (leBytes 1 _)] at hlow
    exact (List.append_inj hlow (by simp [State.bytes_length, length_leBytes])).1
  · exact (List.append_inj hend (by simp [State.bytes_length, length_leBytes])).2

theorem State.runCanState_eq (s : State) (c : Cmd) :
    s.runCanState c = (s.store (c.f 0x18 8) (s.canStateBytes (s.boundCan c.ep))).finish c Code.DONE := rfl

theorem canState_answers {s : State} {e : Fin 4096} {tag : BitVec 16} {c : Cmd} (hpass : s.passed e.val tag.toNat 1 4 = some c)
    (hapart : recordAt s c + 16 ≤ c.f 0x18 8 ∨ c.f 0x18 8 + 16 ≤ recordAt s c) :
    ∃ t, exec (.canState e tag) s = .next t ∧
      (t.bytes (c.f 0x18 8) 2) = leBytes 1 (s.canStatusWord (s.boundCan c.ep) % 4) ++ leBytes 1 (s.canMode (s.boundCan c.ep)) ∧
      t.bytes (c.f 0x18 8 + 8) 8 = leBytes 8 s.vt ∧ Recorded s t c Code.DONE 0 s.vt c.lateSeen ∧
      (∀ x, (x < recordAt s c ∨ recordAt s c + 16 ≤ x) → (x < c.f 0x18 8 ∨ c.f 0x18 8 + 16 ≤ x) → t.byte x = s.byte x) ∧
      Frame s t [.ep, .mem, .wg, .ic] (fun _ => False) := by
  refine ⟨_, congrArg Host.Outcome.next ((State.canTakes_passed hpass _).trans (s.runCanState_eq c)), ?_⟩
  have hlen := s.length_canStateBytes (s.boundCan c.ep)
  have hstore := s.store_frame (c.f 0x18 8) (s.canStateBytes (s.boundCan c.ep))
  have hep : (s.store (c.f 0x18 8) (s.canStateBytes (s.boundCan c.ep))).ep = s.ep := hstore.same .ep (by simp)
  have hvt : (s.store (c.f 0x18 8) (s.canStateBytes (s.boundCan c.ep))).vt = s.vt := hstore.same .vt (by simp)
  have hstored := s.bytes_store_same (c.f 0x18 8) (s.canStateBytes (s.boundCan c.ep))
  have hbyte := s.byte_store_out (c.f 0x18 8) (s.canStateBytes (s.boundCan c.ep))
  rw [hlen] at hstored hbyte
  generalize s.store (c.f 0x18 8) (s.canStateBytes (s.boundCan c.ep)) = u at *
  have heps : u.ep.eps = s.ep.eps := congrArg _ hep
  have hbytes : (u.finish c Code.DONE).bytes (c.f 0x18 8) 16 = s.canStateBytes (s.boundCan c.ep) :=
    (State.complete_bytes heps rfl hapart).trans hstored
  obtain ⟨hlow, htime⟩ := State.canStateBytes_at hbytes
  exact ⟨hlow, htime, hvt ▸ State.finish_recorded heps rfl rfl, fun x hx hx' => (State.complete_byte heps rfl hx).trans (hbyte x hx'),
    (hstore.widen (by simp)).trans ((u.finish_frame c _).widen (by simp))⟩

end Sys2Proof.Machine
end

section
/-! SUPPORT. SETUP and TX of a CAN endpoint (R277 to R279). -/

namespace Sys2Proof.Machine

/-! ### SETUP: the configuration of a buffer -/

/-- The four fields of CAN_MB_CFG that SETUP writes. -/
def State.bufConfigured (s : State) (k b : Nat) (c : Cmd) : State :=
  (((s.wr (Fd.CAN_MB_CFG_EN k b) (if c.f 0x11 1 = 2 then 0 else 1)).wr (Fd.CAN_MB_CFG_DIR k b) (if c.f 0x11 1 = 1 then 1 else 0)).wr
    (Fd.CAN_MB_CFG_REPEAT k b) (c.f 0x13 1)).wr (Fd.CAN_MB_CFG_RETRY k b) (c.f 0x12 1)

theorem State.bufConfigured_frame (s : State) (k b : Nat) (c : Cmd) : Frame s (s.bufConfigured k b c) [.regs] (fun a => a = Rg.CAN_MB_CFG k b) :=
  (((s.wr_frame (Fd.CAN_MB_CFG_EN k b) _).trans (State.wr_frame _ (Fd.CAN_MB_CFG_DIR k b) _)).trans
    (State.wr_frame _ (Fd.CAN_MB_CFG_REPEAT k b) _)).trans (State.wr_frame _ (Fd.CAN_MB_CFG_RETRY k b) _)

/-- A field written with the truth value of a condition. -/
theorem flag_wr_ite (s : State) (f : Fld) (hbit : f.lo = f.hi) (h31 : f.hi ≤ 31) (p : Prop) [Decidable p] :
    (s.wr f (if p then 1 else 0)).flag f = decide p := by
  by_cases hp : p
  · rw [if_pos hp, flag_wr_one s f hbit h31, decide_eq_true hp]
  · rw [if_neg hp, flag_wr_zero s f hbit.le h31, decide_eq_false hp]

theorem State.bufConfigured_spec (s : State) (k b : Nat) (c : Cmd) :
    (s.bufConfigured k b c).bufEn k b = decide (c.f 0x11 1 ≠ 2) ∧ (s.bufConfigured k b c).bufTx k b = decide (c.f 0x11 1 = 1) ∧
      (s.bufConfigured k b c).rd (Fd.CAN_MB_CFG_RETRY k b) = c.f 0x12 1 % 32 := by
  have hrest : ∀ (u : State) (f : Fld), (Fd.CAN_MB_CFG_REPEAT k b).clearOf f → (Fd.CAN_MB_CFG_RETRY k b).clearOf f →
      ((u.wr (Fd.CAN_MB_CFG_REPEAT k b) (c.f 0x13 1)).wr (Fd.CAN_MB_CFG_RETRY k b) (c.f 0x12 1)).flag f = u.flag f := fun u f h h' => by
    rw [flag_wr_clear _ _ h', flag_wr_clear _ _ h]
  have hen : (if c.f 0x11 1 = 2 then 0 else 1) = if c.f 0x11 1 ≠ 2 then 1 else 0 := (ite_not _ _ _).symm
  refine ⟨?_, ?_, rd_wr_self _ (Fd.CAN_MB_CFG_RETRY k b) _ rfl⟩
  · rw [State.bufEn, State.bufConfigured, hrest _ _ (fun _ => rfl) fun _ => rfl,
      flag_wr_beside _ (Fd.CAN_MB_CFG_DIR k b) (Fd.CAN_MB_CFG_EN k b) _ rfl rfl, hen]
    exact flag_wr_ite s (Fd.CAN_MB_CFG_EN k b) rfl (Nat.le_refl 31) _
  · rw [State.bufTx, State.bufConfigured, hrest _ _ (fun _ => rfl) fun _ => rfl]
    exact flag_wr_ite _ (Fd.CAN_MB_CFG_DIR k b) rfl (by decide : 30 ≤ 31) _

/-- The filter and its mask. -/
def State.bufFiltered (s : State) (k b : Nat) (c : Cmd) : State :=
  (s.setReg (Rg.CAN_MB_FILT k b) (BitVec.ofNat 32 (c.f 0x14 4))).setReg (Rg.CAN_MB_MASK k b) (BitVec.ofNat 32 (c.f 0x18 4))

theorem State.bufFiltered_frame (s : State) (k b : Nat) (c : Cmd) :
    Frame s (s.bufFiltered k b c) [.regs] (fun a => a = Rg.CAN_MB_FILT k b ∨ a = Rg.CAN_MB_MASK k b) :=
  ((s.setReg_frame (Rg.CAN_MB_FILT k b) _).mono (by simp) fun _ => .inl).trans
    ((State.setReg_frame _ (Rg.CAN_MB_MASK k b) _).mono (by simp) fun _ => .inr)

theorem State.bufFiltered_spec (s : State) (k b : Nat) (c : Cmd) :
    ((s.bufFiltered k b c).reg (Rg.CAN_MB_FILT k b)).toNat = c.f 0x14 4 ∧ ((s.bufFiltered k b c).reg (Rg.CAN_MB_MASK k b)).toNat = c.f 0x18 4 := by
  unfold State.bufFiltered
  refine ⟨?_, ?_⟩
  · rw [reg_setReg_ne _ _ _ _ (by unfold Rg.CAN_MB_FILT Rg.CAN_MB_MASK; omega), reg_setReg_same, BitVec.toNat_ofNat,
      Nat.mod_eq_of_lt (show c.f 0x14 4 < 2 ^ 32 from c.f_lt _ 4)]
  · rw [reg_setReg_same, BitVec.toNat_ofNat, Nat.mod_eq_of_lt (show c.f 0x18 4 < 2 ^ 32 from c.f_lt _ 4)]

/-! ### A frame consumed -/

theorem State.consume_frame (s : State) (k b : Nat) : Frame s (s.consume k b) [.regs] (fun a => a = Rg.CAN_MB_STAT k b) :=
  (s.wr_frame (Fd.CAN_MB_STAT_NEW k b) 0).trans (State.wr_frame _ (Fd.CAN_MB_STAT_OVR k b) 0)

theorem State.consume_spec (s : State) (k b : Nat) :
    (s.consume k b).flag (Fd.CAN_MB_STAT_NEW k b) = false ∧ (s.consume k b).flag (Fd.CAN_MB_STAT_OVR k b) = false :=
  ⟨(flag_wr_beside _ (Fd.CAN_MB_STAT_OVR k b) (Fd.CAN_MB_STAT_NEW k b) 0 rfl rfl).trans
      (flag_wr_zero s (Fd.CAN_MB_STAT_NEW k b) (Nat.le_refl 5) (by decide : 5 ≤ 31)),
    flag_wr_zero _ (Fd.CAN_MB_STAT_OVR k b) (Nat.le_refl 7) (by decide : 7 ≤ 31)⟩

/-! ### SETUP (R279) -/

/-- SETUP leaves the buffer without a frame, without a shadow, and without leave to catch up. -/
def State.bufSetUp (s : State) (k b : Nat) (c : Cmd) : State :=
  let u := (s.bufConfigured k b c).bufFiltered k b c
  (u.consume k b).setBuf k b { u.buf k b with shadow := none, catchUp := false }

theorem State.runCanSetup_idle {s : State} {c : Cmd} (h : s.bufState (s.boundCan c.ep) (s.canBuffer c) = 0) :
    s.runCanSetup c = ((s.bufSetUp (s.boundCan c.ep) (s.canBuffer c) c).finish c Code.DONE).canLevels (s.boundCan c.ep) := by
  unfold State.runCanSetup
  dsimp only
  rw [if_neg (not_not.mpr h)]
  rfl

/-- The registers of a buffer that SETUP writes. -/
abbrev SetupReg (k b a : Nat) : Prop := a = Rg.CAN_MB_CFG k b ∨ a = Rg.CAN_MB_FILT k b ∨ a = Rg.CAN_MB_MASK k b ∨ a = Rg.CAN_MB_STAT k b

/-- The registers of a buffer lie apart from each other. -/
theorem bufRegs_apart (k b : Nat) : Rg.CAN_MB_CFG k b ≠ Rg.CAN_MB_STAT k b ∧ Rg.CAN_MB_FILT k b ≠ Rg.CAN_MB_STAT k b ∧
    Rg.CAN_MB_MASK k b ≠ Rg.CAN_MB_STAT k b ∧ Rg.CAN_MB_CFG k b ≠ Rg.CAN_MB_FILT k b ∧ Rg.CAN_MB_CFG k b ≠ Rg.CAN_MB_MASK k b := by
  unfold Rg.CAN_MB_CFG Rg.CAN_MB_STAT Rg.CAN_MB_FILT Rg.CAN_MB_MASK
  omega

theorem State.bufSetUp_frame (s : State) (k b : Nat) (c : Cmd) : Frame s (s.bufSetUp k b c) [.can, .regs] (SetupReg k b) :=
  ((s.bufConfigured_frame k b c).mono (by simp) fun _ => .inl).trans
    (((State.bufFiltered_frame _ k b c).mono (by simp) fun _ h => .inr (h.imp_right .inl)).trans
      (((State.consume_frame _ k b).mono (by simp) fun _ h => .inr (.inr (.inr h))).trans ((State.setBuf_frame _ k b _).noRegs (by simp))))

theorem State.bufSetUp_spec (s : State) (k b : Nat) (c : Cmd) {t : State} (ht : t = s.bufSetUp k b c) :
    t.bufEn k b = decide (c.f 0x11 1 ≠ 2) ∧ t.bufTx k b = decide (c.f 0x11 1 = 1) ∧ t.rd (Fd.CAN_MB_CFG_RETRY k b) = c.f 0x12 1 % 32 ∧
      (t.reg (Rg.CAN_MB_FILT k b)).toNat = c.f 0x14 4 ∧ (t.reg (Rg.CAN_MB_MASK k b)).toNat = c.f 0x18 4 ∧
      t.flag (Fd.CAN_MB_STAT_NEW k b) = false ∧ (t.buf k b).shadow = none := by
  obtain ⟨hcs, hfs, hms, hcf, hcm⟩ := bufRegs_apart k b
  obtain ⟨hen, htx, hretry⟩ := s.bufConfigured_spec k b c
  have hfilter := (s.bufConfigured k b c).bufFiltered_frame k b c
  obtain ⟨hfilt, hmask⟩ := (s.bufConfigured k b c).bufFiltered_spec k b c
  have htake := ((s.bufConfigured k b c).bufFiltered k b c).consume_frame k b
  have hnew := (((s.bufConfigured k b c).bufFiltered k b c).consume_spec k b).1
  have hreg : ∀ a, t.reg a = (((s.bufConfigured k b c).bufFiltered k b c).consume k b).reg a := fun a => by rw [ht, State.bufSetUp, State.setBuf_reg]
  have hcfg : t.reg (Rg.CAN_MB_CFG k b) = (s.bufConfigured k b c).reg (Rg.CAN_MB_CFG k b) := by
    rw [hreg, htake.reg hcs, hfilter.reg (by simp [hcf, hcm])]
  refine ⟨?_, ?_, ?_, ?_, ?_, ?_, ?_⟩
  · exact (flag_congr (f := Fd.CAN_MB_CFG_EN k b) hcfg).trans hen
  · exact (flag_congr (f := Fd.CAN_MB_CFG_DIR k b) hcfg).trans htx
  · exact (rd_congr (f := Fd.CAN_MB_CFG_RETRY k b) hcfg).trans hretry
  · rw [hreg, htake.reg hfs, hfilt]
  · rw [hreg, htake.reg hms, hmask]
  · exact (flag_congr (f := Fd.CAN_MB_STAT_NEW k b) (hreg _)).trans hnew
  · rw [ht, State.bufSetUp, State.setBuf_buf_same]

theorem canSetup_configures {s : State} {e : Fin 4096} {tag : BitVec 16} {k b : Nat} {c : Cmd} (hready : CanReady s e.val tag.toNat 1 k b c)
    (hidle : s.bufState k b = 0) :
    ∃ t, exec (.canSetup e tag) s = .next t ∧ t.bufEn k b = decide (c.f 0x11 1 ≠ 2) ∧ t.bufTx k b = decide (c.f 0x11 1 = 1) ∧
      t.rd (Fd.CAN_MB_CFG_RETRY k b) = c.f 0x12 1 % 32 ∧ (t.reg (Rg.CAN_MB_FILT k b)).toNat = c.f 0x14 4 ∧
      (t.reg (Rg.CAN_MB_MASK k b)).toNat = c.f 0x18 4 ∧ t.flag (Fd.CAN_MB_STAT_NEW k b) = false ∧ (t.buf k b).shadow = none ∧
      Recorded s t c Code.DONE 0 s.vt c.lateSeen ∧ OnlyRecord s t c ∧ Frame s t [.can, .regs, .ep, .mem, .wg, .ic] (SetupReg k b) := by
  obtain ⟨hpass, rfl, rfl, -⟩ := hready
  refine ⟨_, congrArg Host.Outcome.next ((State.canTakes_passed hpass _).trans (State.runCanSetup_idle hidle)), ?_⟩
  generalize s.boundCan c.ep = k at *
  generalize s.canBuffer c = b at *
  have hframe := s.bufSetUp_frame k b c
  obtain ⟨hen, htx, hretry, hfilt, hmask, hnew, hshadow⟩ := s.bufSetUp_spec k b c rfl
  generalize s.bufSetUp k b c = u at *
  have hfin := u.finish_frame c Code.DONE
  have hreg : ∀ a, ((u.finish c Code.DONE).canLevels k).reg a = u.reg a := fun a => (State.canLevels_reg _ k a).trans (hfin.reg not_false)
  have heps : u.ep.eps = s.ep.eps := congrArg _ (hframe.same .ep (by simp) : u.ep = s.ep)
  have hvt : u.vt = s.vt := hframe.same .vt (by simp)
  refine ⟨?_, ?_, ?_, ?_, ?_, ?_, ?_, ?_, fun x hx => ?_, ?_⟩
  · exact (flag_congr (f := Fd.CAN_MB_CFG_EN k b) (hreg _)).trans hen
  · exact (flag_congr (f := Fd.CAN_MB_CFG_DIR k b) (hreg _)).trans htx
  · exact (rd_congr (f := Fd.CAN_MB_CFG_RETRY k b) (hreg _)).trans hretry
  · rw [hreg, hfilt]
  · rw [hreg, hmask]
  · exact (flag_congr (f := Fd.CAN_MB_STAT_NEW k b) (hreg _)).trans hnew
  · rw [State.canLevels_buf, State.buf_congr (hfin.same .can (by simp)), hshadow]
  · exact hvt ▸ State.finish_recorded heps (State.canLevels_ep _ k) (State.canLevels_mem _ k)
  · exact (State.complete_byte heps (State.canLevels_mem _ k) hx).trans (hframe.byte (by simp) x)
  · exact (hframe.widen (by simp)).trans ((hfin.noRegs (by simp)).trans ((State.canLevels_frame _ k).noRegs (by simp)))

/-! ### TX (R277 to R279) -/

theorem State.txRequest_frame (s : State) (k b : Nat) : Frame s (s.txRequest k b) [.can, .regs] (fun a => a = Rg.CAN_MB_STAT k b) :=
  ((State.setBuf_frame s k b _).noRegs (by simp)).trans ((((((State.wr_frame _ (Fd.CAN_MB_STAT_RETRIES k b) 0).trans
    (State.wr_frame _ (Fd.CAN_MB_STAT_TOO_LATE k b) 0)).trans (State.wr_frame _ (Fd.CAN_MB_STAT_BUSOFF_SEEN k b) 0)).trans
      (State.wr_frame _ (Fd.CAN_MB_STAT_STATE k b) 1))).widen (by simp))

theorem State.txRequest_spec (s : State) (k b : Nat) :
    (s.txRequest k b).bufState k b = 1 ∧ ((s.txRequest k b).buf k b).words = (s.buf k b).words := by
  refine ⟨rd_wr_self _ (Fd.CAN_MB_STAT_STATE k b) 1 rfl, ?_⟩
  rw [State.txRequest, State.wr_buf, State.wr_buf, State.wr_buf, State.wr_buf, State.setBuf_buf_same]

/-- The registers that an ECC error of a read counts in and is recorded in. -/
theorem State.readEcc_frame (s : State) (a n : Nat) : Frame s (s.readEcc a n) [.regs, .wg, .ic] (fun r => fixRegs r ∨ badRegs r) := by
  refine Frame.forAll _ _ (fun u w => ?_) s
  split
  · exact (u.eccBad_frame w).mono (by simp) fun _ => .inr
  · exact (u.eccFix_frame w).mono (by simp) fun _ => .inl

/-- They are none of a CAN channel's. -/
theorem canReg_not_ecc {a : Nat} (h : 0x200C0000 ≤ a) : ¬ (fixRegs a ∨ badRegs a) := by
  simp only [fixRegs, badRegs, Rg.WG_EVENT, Rg.WG_EVENT_SAT, Rg.WG_ECC_ADDR_LO, Rg.WG_ECC_ADDR_HI]
  omega

theorem State.headerCode_congr {s t : State} (h : t.plan = s.plan) (k w0 w1 : Nat) : t.headerCode k w0 w1 = s.headerCode k w0 w1 := by
  rw [State.headerCode, State.canItem, State.item, h, State.headerCode, State.canItem, State.item]

/-- The image is in the buffer. -/
def State.imageTaken (s : State) (k b a : Nat) : State :=
  let u := s.readEcc a 72
  u.setBuf k b { u.buf k b with words := imageWords (u.bytes a 72) }

theorem State.imageTaken_frame (s : State) (k b a : Nat) : Frame s (s.imageTaken k b a) [.can, .regs, .wg, .ic] (fun r => fixRegs r ∨ badRegs r) :=
  ((s.readEcc_frame a 72).widen (by simp)).trans ((State.setBuf_frame _ k b _).noRegs (by simp))

theorem State.imageTaken_words (s : State) (k b a : Nat) : ((s.imageTaken k b a).buf k b).words = imageWords (s.bytes a 72) := by
  have hmem : (s.readEcc a 72).mem = s.mem := (s.readEcc_frame a 72).same .mem (by simp)
  rw [State.imageTaken, State.setBuf_buf_same, State.bytes_congr hmem]

section
variable {s : State} {c : Cmd}

theorem State.runCanTx_takes (htx : s.bufTx (s.boundCan c.ep) (s.canBuffer c) = true) (hen : s.bufEn (s.boundCan c.ep) (s.canBuffer c) = true)
    (hidle : s.bufState (s.boundCan c.ep) (s.canBuffer c) = 0) (hgood : s.poisoned (c.f 0x18 8) 72 = false) (huntimed : c.timed = false)
    (hheader : s.headerCode (s.boundCan c.ep) (leNat (s.bytes (c.f 0x18 8) 4)) (leNat (s.bytes (c.f 0x18 8 + 4) 4)) = Code.DONE) :
    s.runCanTx c = (s.imageTaken (s.boundCan c.ep) (s.canBuffer c) (c.f 0x18 8)).canTxDue c := by
  have hecc := s.readEcc_frame (c.f 0x18 8) 72
  have hmem : (s.readEcc (c.f 0x18 8) 72).mem = s.mem := hecc.same .mem (by simp)
  obtain ⟨hw0, hw1⟩ := imageWords_header (s.readEcc (c.f 0x18 8) 72)
    ((s.readEcc (c.f 0x18 8) 72).buf (s.boundCan c.ep) (s.canBuffer c)) (c.f 0x18 8)
  have hdone : (s.readEcc (c.f 0x18 8) 72).headerCode (s.boundCan c.ep) (leNat ((s.readEcc (c.f 0x18 8) 72).bytes (c.f 0x18 8) 4))
      (leNat ((s.readEcc (c.f 0x18 8) 72).bytes (c.f 0x18 8 + 4) 4)) = Code.DONE := by
    rw [State.headerCode_congr (hecc.same .plan (by simp)), State.bytes_congr hmem, State.bytes_congr hmem, hheader]
  unfold State.runCanTx
  dsimp only
  rw [htx, hen, if_neg (by simp), if_neg (not_not.mpr hidle), hgood, if_neg (by simp), hw0, hw1, hdone, if_neg (by simp), State.atTime, huntimed]
  rfl

theorem State.canTxDue_requests (hrepeat : s.flag (Fd.CAN_MB_CFG_REPEAT (s.boundCan c.ep) (s.canBuffer c)) = false)
    (hidle : s.bufState (s.boundCan c.ep) (s.canBuffer c) = 0) :
    s.canTxDue c = (s.putCmd { c with phase := .waiting, note := s.canBuffer c }).txRequest (s.boundCan c.ep) (s.canBuffer c) := by
  have heq : s.canTxDue c =
      let u := s.putCmd { c with phase := .waiting, note := s.canBuffer c }
      if s.flag (Fd.CAN_MB_CFG_REPEAT (s.boundCan c.ep) (s.canBuffer c)) then u
      else if s.bufState (s.boundCan c.ep) (s.canBuffer c) ≠ 0 then
        u.finish { c with phase := .waiting, note := s.canBuffer c } Code.BUSY
      else u.txRequest (s.boundCan c.ep) (s.canBuffer c) := rfl
  rw [heq, hrepeat]
  exact if_neg (not_not.mpr hidle)

end

end Sys2Proof.Machine
end

section
/-! SUPPORT. TX and RX of a CAN endpoint (R277 to R279), and the statement on attempts and the endpoint's commands. -/

namespace Sys2Proof.Machine

/-! ### A command that waits on a buffer -/

/-- The command, waiting on buffer `b`. -/
abbrev Cmd.waitsOn (c : Cmd) (b : Nat) : Cmd := { c with phase := .waiting, note := b }

theorem State.putCmd_eps (s : State) (d : Cmd) : (s.putCmd d).ep.eps = s.ep.eps := rfl
theorem State.cmdOf_congr {s t : State} (h : t.ep = s.ep) (e tag : Nat) : t.cmdOf e tag = s.cmdOf e tag := by rw [State.cmdOf, h, State.cmdOf]
theorem State.boundCan_congr {s t : State} (h : t.ep = s.ep) (e : Nat) : t.boundCan e = s.boundCan e := by
  rw [State.boundCan, State.epAt_congr (congrArg _ h), State.boundCan]
theorem State.canBuffer_congr {s t : State} (h : t.ep = s.ep) (c : Cmd) : t.canBuffer c = s.canBuffer c := by
  rw [State.canBuffer, State.epAt_congr (congrArg _ h), State.canBuffer]

/-- A passed command that is replaced by its waiting self. -/
theorem State.putCmd_waitsOn {s u : State} {e tag ty op : Nat} {c : Cmd} (h : s.passed e tag ty op = some c) (hu : u.ep = s.ep) (b : Nat) :
    (u.putCmd (c.waitsOn b)).cmdOf e tag = some (c.waitsOn b) := by
  obtain ⟨hcmd, -, -, -, rfl, rfl⟩ := State.passed_spec h
  exact State.putCmd_cmdOf (d := c.waitsOn b) ((State.cmdOf_congr hu _ _).trans hcmd)

/-- With no other RX on the buffer, a passed RX that begins to wait is the one that waits on it. -/
theorem State.putCmd_canWaits {s : State} {e tag : Nat} {c : Cmd} {b : Nat} (h : s.passed e tag 1 3 = some c)
    (hnone : s.canWaits (s.boundCan c.ep) b 3 = none) : (s.putCmd (c.waitsOn b)).canWaits (s.boundCan c.ep) b 3 = some (c.waitsOn b) := by
  obtain ⟨hcmd, -, hty, hop, rfl, rfl⟩ := State.passed_spec h
  have hothers := List.find?_eq_none.mp hnone
  refine find?_replaced s.ep.inflight (c := c) (d := c.waitsOn b) ?_ (fun x hx _ => Bool.eq_false_iff.mpr (hothers x hx)) hcmd
  show (c.op == 3 && b == b && (Phase.waiting == .waiting || Phase.waiting == .committed) && (s.epAt c.ep).ty == 1 &&
    (s.epAt c.ep).bind % 8 == s.boundCan c.ep) = true
  rw [hty, hop, State.boundCan]
  simp

/-! ### TX (R279) -/

theorem canTx_requests {s : State} {e : Fin 4096} {tag : BitVec 16} {k b : Nat} {c : Cmd} (hready : CanReady s e.val tag.toNat 2 k b c)
    (htx : s.bufTx k b = true) (hen : s.bufEn k b = true) (hidle : s.bufState k b = 0) (hgood : s.poisoned (c.f 0x18 8) 72 = false)
    (huntimed : c.timed = false) (hrepeat : s.flag (Fd.CAN_MB_CFG_REPEAT k b) = false)
    (hheader : s.headerCode k (leNat (s.bytes (c.f 0x18 8) 4)) (leNat (s.bytes (c.f 0x18 8 + 4) 4)) = Code.DONE) :
    ∃ t, exec (.canTx e tag) s = .next t ∧ t.bufState k b = 1 ∧ (t.buf k b).words = imageWords (s.bytes (c.f 0x18 8) 72) ∧
      t.cmdOf e.val tag.toNat = some { c with phase := .waiting, note := b } ∧ t.ep.eps = s.ep.eps ∧ t.mem = s.mem := by
  obtain ⟨hpass, rfl, rfl, -⟩ := hready
  refine ⟨_, congrArg Host.Outcome.next ((State.canTakes_passed hpass _).trans (State.runCanTx_takes htx hen hidle hgood huntimed hheader)), ?_⟩
  have htaken := s.imageTaken_frame (s.boundCan c.ep) (s.canBuffer c) (c.f 0x18 8)
  have hwords := s.imageTaken_words (s.boundCan c.ep) (s.canBuffer c) (c.f 0x18 8)
  generalize s.imageTaken (s.boundCan c.ep) (s.canBuffer c) (c.f 0x18 8) = u at *
  have hep : u.ep = s.ep := htaken.same .ep (by simp)
  have hk := State.boundCan_congr hep c.ep
  have hb := State.canBuffer_congr hep c
  have hrepeatU : u.flag (Fd.CAN_MB_CFG_REPEAT (u.boundCan c.ep) (u.canBuffer c)) = false := by
    rw [hk, hb, flag_of_frame (f := Fd.CAN_MB_CFG_REPEAT (s.boundCan c.ep) (s.canBuffer c)) htaken
      (canReg_not_ecc (by simp only [Fd.CAN_MB_CFG_REPEAT]; omega)), hrepeat]
  have hidleU : u.bufState (u.boundCan c.ep) (u.canBuffer c) = 0 := by
    rw [hk, hb, State.bufState, htaken.rd (f := Fd.CAN_MB_STAT_STATE (s.boundCan c.ep) (s.canBuffer c))
      (canReg_not_ecc (by simp only [Fd.CAN_MB_STAT_STATE]; omega))]
    exact hidle
  rw [State.canTxDue_requests hrepeatU hidleU, hk, hb]
  have hput := u.putCmd_frame (c.waitsOn (s.canBuffer c))
  have hwaits := State.putCmd_waitsOn hpass hep (s.canBuffer c)
  have hepsV := u.putCmd_eps (c.waitsOn (s.canBuffer c))
  generalize u.putCmd (c.waitsOn (s.canBuffer c)) = v at *
  have hreq := v.txRequest_frame (s.boundCan c.ep) (s.canBuffer c)
  obtain ⟨hstate, hsame⟩ := v.txRequest_spec (s.boundCan c.ep) (s.canBuffer c)
  have hepT : (v.txRequest (s.boundCan c.ep) (s.canBuffer c)).ep = v.ep := hreq.same .ep (by simp)
  have hmemT : (v.txRequest (s.boundCan c.ep) (s.canBuffer c)).mem = v.mem := hreq.same .mem (by simp)
  have hmemV : v.mem = u.mem := hput.same .mem (by simp)
  refine ⟨hstate, ?_, (State.cmdOf_congr hepT _ _).trans hwaits, ?_, ?_⟩
  · rw [hsame, State.buf_congr (hput.same .can (by simp)), hwords]
  · rw [hepT, hepsV, hep]
  · rw [hmemT, hmemV]
    exact htaken.same .mem (by simp)

/-! ### RX (R278, R279) -/

theorem State.runCanRx_waits {s : State} {c : Cmd} (htx : s.bufTx (s.boundCan c.ep) (s.canBuffer c) = false)
    (hen : s.bufEn (s.boundCan c.ep) (s.canBuffer c) = true) (hnone : s.canWaits (s.boundCan c.ep) (s.canBuffer c) 3 = none) :
    s.runCanRx c = ((s.putCmd (c.waitsOn (s.canBuffer c))).canRxComplete (s.boundCan c.ep) (s.canBuffer c)).canLevels (s.boundCan c.ep) := by
  unfold State.runCanRx
  dsimp only
  rw [htx, hen, hnone]
  rfl

theorem State.canRxComplete_noNew {s : State} {k b : Nat} (h : s.flag (Fd.CAN_MB_STAT_NEW k b) = false) : s.canRxComplete k b = s := by
  unfold State.canRxComplete
  split
  · rfl
  · rw [h]
    rfl

/-- The frame of a buffer is in memory at `a`, its time stamp behind it, and the buffer's frame is consumed. -/
def State.frameTaken (s : State) (k b a : Nat) : State :=
  (s.store a ((s.buf k b).image ++ leBytes 8 (s.buf k b).time)).consume k b

theorem State.frameTaken_frame (s : State) (k b a : Nat) : Frame s (s.frameTaken k b a) [.mem, .wg, .regs] (fun a => a = Rg.CAN_MB_STAT k b) :=
  ((s.store_frame _ _).noRegs (by simp)).trans ((State.consume_frame _ k b).widen (by simp))

theorem State.frameTaken_spec (s : State) (k b a : Nat) :
    (s.frameTaken k b a).bytes a 80 = (s.buf k b).image ++ leBytes 8 (s.buf k b).time ∧
      (∀ x, x < a ∨ a + 80 ≤ x → (s.frameTaken k b a).byte x = s.byte x) ∧
      (s.frameTaken k b a).flag (Fd.CAN_MB_STAT_NEW k b) = false ∧ (s.frameTaken k b a).flag (Fd.CAN_MB_STAT_OVR k b) = false := by
  have hlen : ((s.buf k b).image ++ leBytes 8 (s.buf k b).time).length = 80 := by rw [List.length_append, length_image, length_leBytes]
  have hstored := s.bytes_store_same a ((s.buf k b).image ++ leBytes 8 (s.buf k b).time)
  have hout := s.byte_store_out a ((s.buf k b).image ++ leBytes 8 (s.buf k b).time)
  rw [hlen] at hstored hout
  unfold State.frameTaken
  generalize s.store a ((s.buf k b).image ++ leBytes 8 (s.buf k b).time) = u at *
  have htake := u.consume_frame k b
  refine ⟨?_, fun x hx => (htake.byte (by simp) x).trans (hout x hx), (u.consume_spec k b).1, (u.consume_spec k b).2⟩
  rw [State.bytes_congr (htake.same .mem (by simp)), hstored]

theorem State.canRxComplete_takes {s : State} {k b : Nat} {d : Cmd} (hwait : s.canWaits k b 3 = some d)
    (hnew : s.flag (Fd.CAN_MB_STAT_NEW k b) = true) :
    s.canRxComplete k b = (s.frameTaken k b (d.f 0x18 8)).complete d Code.DONE (s.rd (Fd.CAN_MB_STAT_OVR k b)) s.vt := by
  unfold State.canRxComplete
  rw [hwait]
  dsimp only
  rw [if_pos hnew, State.store_vt, State.frameTaken]

theorem canRx_waits {s : State} {e : Fin 4096} {tag : BitVec 16} {k b : Nat} {c : Cmd} (hready : CanReady s e.val tag.toNat 3 k b c)
    (htx : s.bufTx k b = false) (hen : s.bufEn k b = true) (hnone : s.canWaits k b 3 = none) (hnew : s.flag (Fd.CAN_MB_STAT_NEW k b) = false) :
    ∃ t, exec (.canRx e tag) s = .next t ∧ t.cmdOf e.val tag.toNat = some { c with phase := .waiting, note := b } ∧ t.ep.eps = s.ep.eps ∧
      Frame s t [.ep, .ic] (fun _ => False) := by
  obtain ⟨hpass, rfl, rfl, -⟩ := hready
  refine ⟨_, congrArg Host.Outcome.next ((State.canTakes_passed hpass _).trans (State.runCanRx_waits htx hen hnone)), ?_⟩
  have hput := s.putCmd_frame (c.waitsOn (s.canBuffer c))
  have hwaits := State.putCmd_waitsOn hpass rfl (s.canBuffer c)
  have heps := s.putCmd_eps (c.waitsOn (s.canBuffer c))
  have hnewV : (s.putCmd (c.waitsOn (s.canBuffer c))).flag (Fd.CAN_MB_STAT_NEW (s.boundCan c.ep) (s.canBuffer c)) = false :=
    (flag_of_frame (f := Fd.CAN_MB_STAT_NEW (s.boundCan c.ep) (s.canBuffer c)) hput not_false).trans hnew
  rw [State.canRxComplete_noNew hnewV]
  generalize s.putCmd (c.waitsOn (s.canBuffer c)) = v at *
  have hep : (v.canLevels (s.boundCan c.ep)).ep = v.ep := State.canLevels_ep _ _
  exact ⟨(State.cmdOf_congr hep _ _).trans hwaits, by rw [hep, heps], (hput.widen (by simp)).trans ((State.canLevels_frame _ _).widen (by simp))⟩

theorem canRx_takes {s : State} {e : Fin 4096} {tag : BitVec 16} {k b : Nat} {c : Cmd} (hready : CanReady s e.val tag.toNat 3 k b c)
    (htx : s.bufTx k b = false) (hen : s.bufEn k b = true) (hnone : s.canWaits k b 3 = none) (hnew : s.flag (Fd.CAN_MB_STAT_NEW k b) = true)
    (hapart : recordAt s c + 16 ≤ c.f 0x18 8 ∨ c.f 0x18 8 + 80 ≤ recordAt s c) :
    ∃ t, exec (.canRx e tag) s = .next t ∧ t.bytes (c.f 0x18 8) 80 = (s.buf k b).image ++ leBytes 8 (s.buf k b).time ∧
      Recorded s t c Code.DONE (s.rd (Fd.CAN_MB_STAT_OVR k b)) s.vt c.lateSeen ∧ t.flag (Fd.CAN_MB_STAT_NEW k b) = false ∧
      t.flag (Fd.CAN_MB_STAT_OVR k b) = false ∧
      (∀ x, (x < recordAt s c ∨ recordAt s c + 16 ≤ x) → (x < c.f 0x18 8 ∨ c.f 0x18 8 + 80 ≤ x) → t.byte x = s.byte x) ∧
      Frame s t [.ep, .mem, .wg, .regs, .ic] (fun a => a = Rg.CAN_MB_STAT k b) := by
  obtain ⟨hpass, rfl, rfl, -⟩ := hready
  refine ⟨_, congrArg Host.Outcome.next ((State.canTakes_passed hpass _).trans (State.runCanRx_waits htx hen hnone)), ?_⟩
  have hwait := State.putCmd_canWaits hpass hnone
  have hput := s.putCmd_frame (c.waitsOn (s.canBuffer c))
  have heps := s.putCmd_eps (c.waitsOn (s.canBuffer c))
  generalize s.boundCan c.ep = k at *
  generalize s.canBuffer c = b at *
  generalize s.putCmd (c.waitsOn b) = v at *
  have hnewV : v.flag (Fd.CAN_MB_STAT_NEW k b) = true := (flag_of_frame (f := Fd.CAN_MB_STAT_NEW k b) hput not_false).trans hnew
  have hovr : v.rd (Fd.CAN_MB_STAT_OVR k b) = s.rd (Fd.CAN_MB_STAT_OVR k b) := hput.rd not_false
  have hvt : v.vt = s.vt := hput.same .vt (by simp)
  have hbuf : v.buf k b = s.buf k b := State.buf_congr (hput.same .can (by simp)) k b
  have htaken := v.frameTaken_frame k b (c.f 0x18 8)
  obtain ⟨hbytes, hout, hnewW, hovrW⟩ := v.frameTaken_spec k b (c.f 0x18 8)
  rw [State.canRxComplete_takes hwait hnewV, hovr, hvt]
  rw [hbuf] at hbytes
  show _ ∧ Recorded s _ (c.waitsOn b) _ _ _ _ ∧ _
  have hf : (c.waitsOn b).f 0x18 8 = c.f 0x18 8 := rfl
  rw [hf]
  generalize v.frameTaken k b (c.f 0x18 8) = w at *
  have hepsW : w.ep.eps = s.ep.eps := (congrArg _ (htaken.same .ep (by simp) : w.ep = v.ep)).trans heps
  have hdone := w.complete_frame (c.waitsOn b) Code.DONE (s.rd (Fd.CAN_MB_STAT_OVR k b)) s.vt
  have hrec := (w.complete_recorded (c.waitsOn b) Code.DONE (s.rd (Fd.CAN_MB_STAT_OVR k b)) s.vt).1
  refine ⟨?_, Recorded.congr hrec hepsW (State.canLevels_ep _ k) (State.canLevels_mem _ k), ?_, ?_, fun x hx hx' => ?_, ?_⟩
  · exact (State.complete_bytes hepsW (State.canLevels_mem _ k) hapart).trans hbytes
  · rw [State.canLevels_flag, flag_of_frame (f := Fd.CAN_MB_STAT_NEW k b) hdone not_false, hnewW]
  · rw [State.canLevels_flag, flag_of_frame (f := Fd.CAN_MB_STAT_OVR k b) hdone not_false, hovrW]
  · exact (State.complete_byte hepsW (State.canLevels_mem _ k) hx).trans ((hout x hx').trans (hput.byte (by simp) x))
  · exact (hput.noRegs (by simp)).trans ((htaken.widen (by simp)).trans ((hdone.noRegs (by simp)).trans ((State.canLevels_frame _ k).noRegs (by simp))))

/-! ### The statement -/

/-- Settles O24: the attempt's clauses by what its end does before the error state follows (`tryOk_spec`, `tryError_below`,
`canErrState_busOff`), the commands' clauses by their one update and the record that follows it (`complete_recorded`). -/
theorem canTransmission : Obligations.CanTransmission := by
  unfold Obligations.CanTransmission
  refine ⟨fun s k b => canTxOffer_offers, fun s k b x hb htry _ => canTxCommit_commits hb htry, fun s k b x => canArbLost_ends,
    fun s k ns tdc b x v => canTxEnd_succeeds ns tdc, ?_, ?_, fun s k e eight => canReceiveError_counts eight, fun s k => busOffRecovery_returns,
    fun s e tag k b c hready hidle _ => canSetup_configures hready hidle, fun s e tag k b c => canTx_requests, fun s e tag k b c => canRx_waits,
    fun s e tag k b c hready htx hen hnone hnew _ => canRx_takes hready htx hen hnone hnew, fun s e tag c => canState_answers⟩
  · intro s k e ns tdc b x v hb he htry htec _ hwait hlate hheld _ hleft
    exact canTxEnd_retries ns tdc hb he htry htec ⟨hlate, hheld, hleft, hwait⟩
  · intro s k e ns tdc b x v hb he h3 htry htec hon htx hwait hlate hheld hleft
    exact canTxEnd_busOff ns tdc hb he h3 htry htec hon htx ⟨hlate, hheld, hleft, hwait⟩

end Sys2Proof.Machine
end
